-- ==== Sys2Proof/Word.lean ====
section
/-!
DEFINITION. The word types and the index types of the block (R6, R7, R15, R151).
Indexes are bounded by their type, so that no command names an instance the spec does not give the module.
-/
namespace Sys2Proof

/-- A byte of a message, a record or the flash. -/
abbrev Byte := BitVec 8
/-- A 32-bit word of a record, a header or a frame (R6, R7). -/
abbrev W32 := BitVec 32

/-- Leg LEG_nnn, 0 to 127 (R151). -/
abbrev LegNo := Fin 128
/-- LEG_GROUP instance, 0 to 42: 0 to 15 converter groups, 16 to 42 AFE units (R157). -/
abbrev GroupNo := Fin 43
/-- Converter group, 0 to 15 (R157). -/
abbrev ConvNo := Fin 16
/-- LAW instance, 0 to 42 (R238). -/
abbrev LawNo := Fin 43
/-- Outlet number minus 1, 0 to 63 (R15). -/
abbrev OutletNo := Fin 64
/-- Session context, 0 to 127: outlet o owns 2o and 2o + 1 of the zero-based o (R352). -/
abbrev CtxNo := Fin 128
/-- Object-port connection index (R447). -/
abbrev ConnNo := Fin 256
/-- Nib 8k + j for nib k.j (R102, R149). -/
abbrev NibNo := Fin 256
/-- Troupe (R102). -/
abbrev TroupeNo := Fin 32
/-- Key slot (R657). -/
abbrev SlotNo := Fin 64
/-- SD channel (R206). -/
abbrev SdChan := Fin 256
/-- Modulator clock SDCK_n (R206). -/
abbrev SdckNo := Fin 16
/-- Metrology clock MDCK_n (R373). -/
abbrev MdckNo := Fin 8
/-- Safety input, function (R462, R474). -/
abbrev SiNo := Fin 32
abbrev FuncNo := Fin 32
/-- Safety output (R483). -/
abbrev SoNo := Fin 8
/-- Pump driver (R502). -/
abbrev PumpNo := Fin 8
/-- Load switch, timer output (R525, R542). -/
abbrev LsNo := Fin 24
/-- Supply group VS_A, VS_B, VS_C (R539). -/
abbrev VsNo := Fin 3
/-- BUCK_4 and BUCK_5 as 0 and 1 (R547). -/
abbrev BuckNo := Fin 2
/-- CAN channel (R620). -/
abbrev CanNo := Fin 8
/-- Ethernet port (R640). -/
abbrev EthNo := Fin 4

end Sys2Proof
end

