-- ==== Sys2Proof/Values.lean ====
section
/-!
DEFINITION. The types of the operands of the commands: what the module sees at its balls and ports, frames and messages in their fields, the
requests of the object port, and the inputs that the journal carries.
-/
namespace Sys2Proof

/-- The two line-reference sets (R24). -/
inductive SetId where | a | b
  deriving DecidableEq, Repr, Inhabited

/-- Roles of the object port, in the order of Table 11.11 (R448). -/
inductive Role where | pub | reader | vendor | service | operator | metrology | safety
  deriving DecidableEq, Repr, Inhabited

/-- The events of the events tables, in the order of the chapters (R65 to R699). -/
inductive Ev where
  -- chapter 02
  | locked | refFail | refValid | refSwitch | holdover | glide | nominal | relock | lateSchedule | wallTimeStep
  | ptpState
  -- chapter 03
  | imageAccepted | imageRefused | serviceStart | commitAccepted | revisionApplied | revisionCancelled | revisionDiscarded
  | bankRevert
  -- chapter 04
  | p0Mismatch | p0NoMajority | nibSuspect | nibFenced | arrayLimit | arrayDegraded | deadlineMiss | taskRefused
  | inkwellDb | dramUe
  -- chapter 05
  | legFault | legReadmitted | groupDerated | groupStopped | legsOffAsserted | legsOffReleased | driveContention
  -- chapter 06
  | lawStarted | lawCoasted | lawStopped | feTrip | feedbackLost | feedbackFrozen | sdckLost | lawCleared
  -- chapter 07
  | inkClamp | pencilLate | clampLate | guaranteeCut | curtailment | curtSilent | groupAttached | groupReleased
  | matrixFault
  -- chapter 08
  | thermalWarn | thermalThrottle | thermalShutdown | fastFull | thermalDisagree | sensorFault | dispTempStale
  | flowFallback | dcuSilent | thermalPoison
  -- chapter 09
  | plugIn | plugWait | sessionAuthorised | sessionRefused | deliveryStart | sessionPaused | sessionResumed
  | sessionEnd | sessionClosed | dispUnknown | dispConflict | tunnelAuth | certExpiring
  -- chapter 10
  | sessionReceipt | intervalClosed | meterInputFault | sealSet | sealBroken | clockSetBack | powerFailRecord
  | compDefault | noCounter | openingReading
  -- chapter 11
  | tokenAccepted | tokenRefused | keypadLocked | keypadUnlocked | changeIssued | tokenKeyChanged | tamper
  -- chapter 12
  | safetyDemand | safetyClear | channelFault | degradedStart | degradedExpired | soFault | safetyNetFault
  | safetyDiverge | orphanEnter | orphanExit | safetyChange | safetySectionActive
  -- chapter 13
  | pumpFault | pumpDiag | pumpLatched | pumpSoloLoop | lsFault | lsLatched | lsOpenLoad | lsThermalWarn | lsSupplyUv
  -- chapter 14
  | regHiccup | regFault | regThermal | regPg | syncLost | railFault | holdupShort | tempWarn | tempAlarm
  -- chapter 15
  | paired | pairingFault | takeover | coldTakeover | yield | partnerLost | linkState | ringWire | outOfStep
  | digestMismatch | divergenceResult | resyncDone | healthDegraded | partnerReplaced | recommissioned
  -- chapter 16
  | canErrorPassive | canBusOff | canTxMissed | canRxOverflow | canRefLost | ethLink | ethAddrDup | telemetryDrop
  -- chapter 17
  | keyDenied | keyCorrupt | keyChanged | lifecycle | updateHeader | updatePieceBad | updateReady | updateFailed
  | updateAbandoned | activationArmed | activationDisarmed | activationStart | activationDone | activationReverted
  | rollbackAdvanced | settingsReset | legalRelease
  deriving DecidableEq, Repr, Inhabited

/-- The steps of Table 3.8, and the SERVICE_WIN limit (R91, R92). -/
inductive Step where | s1 | s2 | s3a | s3b | s3c | s4 | s5 | s6 | s7 | s8 | s9 | serviceWin
  deriving DecidableEq, Repr, Inhabited

/-- What the boot world finds at start, in an image or a bank (R67, R69, R75 to R78, R660, R677): whether the PUF was reconstructed,
the key slots whose tag fails, whether the manifest and its parts verify, whether the image signature verifies, whether each SECC
leaf leads to a V2G root (R365). From the microcode library: the worst-case cycle count W of each law's kernel chain in LAW order;
the 64-byte blocks of state, inputs and result of each of these chains, and last of the Juggler's kernel (R112); the cycles of the
Juggler's passes of a half-turn, of a folio's update beside its sub-steps, of one sub-step of a node, of the cooling law; and the
cycles per second of the background work of P4 (R75, R78). -/
structure ImageObs where
  pufOk : Bool
  corrupt : List (Fin 64)
  manifestOk : Bool
  sigOk : Bool
  chainsOk : Bool
  kernelCycles : List Nat
  kernelBlocks : List (Nat × Nat × Nat)
  jugglerCycles : Nat
  folioCycles : Nat
  stepCycles : Nat
  coolingCycles : Nat
  p4Cycles : Nat
  deriving DecidableEq, Repr, Inhabited

/-- What a line-reference set shows at an instant: transitions on all three lines, positive-sequence magnitude in
0.01 per unit, measured frequency in 1/512 Hz, and its phase less the Carousel's in arcs (R24, R62). -/
structure LineMeas where
  transitions : Bool := false
  mag : Nat := 0
  freq : Nat := 0
  phase : Int := 0
  deriving DecidableEq, Repr, Inhabited

/-- The observation on which a set is declared failed (R25): clocks without a transition, the modulator clock lost,
a magnitude with the arcs it has lasted, a frequency with the arcs it has lasted. -/
inductive RefObs where
  | noTransition (clocks : Nat)
  | clockLost
  | magnitude (mag arcs : Nat)
  | frequency (freq arcs : Nat)
  deriving DecidableEq, Repr, Inhabited

/-- Greatest (for lock) or least (for loss) phase error in arcs and frequency error in mHz over a number of complete
half-turns (R30, R728). -/
structure LockObs where
  phaseErr : Nat
  freqErr : Nat
  halfTurns : Nat
  deriving DecidableEq, Repr, Inhabited

/-- What the partner shows at pairing (R580, R93, R589, R603). -/
structure PartnerInfo where
  pairPos : Bool
  orderN : Bool
  paired : Bool
  serial : Nat
  idHash : Nat
  imageSeq : Nat
  recordsHash : Nat
  revision : Nat
  inService : Bool
  turn : Nat
  attestOk : Bool
  /-- PARTNER_SERIAL of its attestation statement (Table 17.5): whom its own pair binding names -/
  boundSerial : Nat
  deriving DecidableEq, Repr, Inhabited

/-- A PTP master as its Announce shows it (R647, R648). -/
structure PtpMaster where
  identity : Nat
  domain : Nat
  priority1 : Nat
  clockClass : Nat
  accuracy : Nat
  variance : Nat
  priority2 : Nat
  stepsRemoved : Nat
  intervalTicks : Nat
  utcOffset : Int
  utcValid : Bool
  deriving DecidableEq, Repr, Inhabited

/-- OBIS code A-B:C.D.E*F (R13, R450). -/
structure Obis where
  a : Nat
  b : Nat
  c : Nat
  d : Nat
  e : Nat
  f : Nat
  deriving DecidableEq, Repr, Inhabited

/-- A framed record (R70): TYPE, payload and the CRC word that came with it. -/
structure Rec where
  typ : Nat
  payload : List W32
  crc : W32
  deriving DecidableEq, Repr, Inhabited

/-- Why a message closes its connection (R449). -/
inductive Malformed where | badLength | badCbor | tooMany
  deriving DecidableEq, Repr, Inhabited

/-- What a task release is for (R107, R145, R211, R261, R303, R304, R323). A fast block is told by its place among the P2 tasks of
the tier period, a base block by its first folio. A calibration check is told by its unit: reference set A or B, the groups of
SDCK_0 to SDCK_15, those of MDCK_0 to MDCK_7; its inputs, fixed at the release, show whether it finds the unit good. -/
inductive TaskKind where
  | law (l : LawNo)
  | juggler (n : Nat)
  | fastFolios (first : Nat)
  | cooling
  | baseFolios (first : Nat)
  | analytics (kernel : Nat) (deadline : Option Nat)
  | calibration (unit : Fin 26) (good : Bool)
  deriving DecidableEq, Repr, Inhabited

/-- What a nib meets when it reads the descriptor, state and inputs of the task it takes (R111, R138, R139, R143): all as written; the
sixteen words of the descriptor as they read; a single-bit error of the Inkwell or of an LPDDR5X block; a double-bit error of either. -/
inductive ReadObs where
  | ok
  | descriptor (words : List W32)
  | corrected (addr : Nat)
  | doubleBit (addr : Nat)
  | dramCorrected (channel : Fin 2) (block : Nat)
  | dramUncorrectable (channel : Fin 2) (block : Nat)
  deriving DecidableEq, Repr, Inhabited

/-- A nib at a checkpoint, and what it meets as it reads the waiting task (R117). -/
structure ParkObs where
  nib : NibNo
  obs : ReadObs
  deriving DecidableEq, Repr, Inhabited

/-- A scrub read: clean, a single-bit error, a double-bit error (R138, R141, R143). -/
inductive ScrubObs where | clean | single | double
  deriving DecidableEq, Repr, Inhabited

/-- The two nets of a leg (R154). -/
inductive Net where | hi | lo
  deriving DecidableEq, Repr, Inhabited

/-- What the readback of a leg's nets shows at a sample: the levels, and the differential amplitudes in mV (R179, R181). -/
structure NetSample where
  hi : Bool
  lo : Bool
  mvHi : Nat
  mvLo : Nat
  deriving DecidableEq, Repr, Inhabited

/-- What the module samples at a stroke boundary: the filter values of set B less those of set A since the last one (R27), and the nets that read
otherwise than they are driven (R179). -/
structure StrokeObs where
  ab : List Int
  nets : List (LegNo × NetSample)
  deriving DecidableEq, Repr, Inhabited

/-- What a load switch channel senses: its current in mA and its output in mV (R529). -/
structure LsSense where
  mA : Nat
  outMv : Nat
  deriving DecidableEq, Repr, Inhabited

/-- What a regulator senses: its current-sense voltage in mV and FB in percent of the reference (R561). -/
structure RegSense where
  csMv : Nat
  fbPct : Nat
  deriving DecidableEq, Repr, Inhabited

/-- The module's own part of a divergence test (R601): the nibs that failed, and whether its digest was formed alike. -/
structure OwnTest where
  failed : List NibNo
  digestOk : Bool
  deriving DecidableEq, Repr, Inhabited

/-- This module or its partner. -/
inductive Side where | own | partner
  deriving DecidableEq, Repr, Inhabited

/-- Loss of a modulator clock (R228): ns without a rising edge, or a frequency in kHz over 100 us. -/
inductive ClockObs where
  | noEdge (ns : Nat)
  | frequency (khz : Nat)
  deriving DecidableEq, Repr, Inhabited

/-- The partner's ink for a half-turn (R602): P_INK and I_INK of the outlets, I_SET and V_LIM of the groups, I_D_LIM and I_Q_SET
of the AFE units. -/
structure InkVals where
  outlets : List (Nat × Nat)
  groups : List (Nat × Nat)
  afes : List (Int × Int)
  deriving DecidableEq, Repr, Inhabited

/-- The two curtailment sources (R272). -/
inductive CurtSource where | object | can
  deriving DecidableEq, Repr, Inhabited

/-- Where a datagram comes from: the source address and the Ethernet port (R340, R341). -/
structure Sender where
  src : Nat
  port : EthNo
  deriving DecidableEq, Repr, Inhabited

/-- The payload of a UDP datagram: its words, the bytes beyond the last whole word, and whether its TAG is the one that the key unit computes
(R340, R342). -/
structure Datagram where
  words : List W32
  extra : Fin 4
  tagOk : Bool
  deriving DecidableEq, Repr, Inhabited

/-- A handbill tunnel frame as received (R340). -/
structure Tunnel extends Sender, Datagram where
  deriving DecidableEq, Repr, Inhabited

/-- The fields of a DIO payload to the module (Table 9.3). Temperatures are in 1/16 degC; none is 0x8000, absent. -/
structure Dio where
  pilot : Nat
  prox : Fin 4
  linkUp : Bool
  key : Nat
  keySeq : Nat
  temps : List (Option Int)
  deriving DecidableEq, Repr, Inhabited

/-- The fields of a HELLO payload from a dispenser (R349). -/
structure HelloPay where
  hwRev : Nat
  fwRev : Nat
  link : Nat
  channels : Nat
  deriving DecidableEq, Repr, Inhabited

/-- Identification asked for by a vehicle (R331, R337). -/
inductive IdKind where | eim | pnc
  deriving DecidableEq, Repr, Inhabited

/-- A complete vehicle message, decoded (R334, R358). Voltages are in 0.1 V, currents in 0.1 A, power in W; `presentV` is the present
voltage the vehicle reports, where the message carries one (R248). -/
inductive V2g where
  | undecodable
  | tooLarge (len : Nat)
  | appProtocol (offered : List (Fin 4)) (tls : Bool)
  | sessionSetup
  | serviceSelection (supported : Bool)
  | certificateRequest
  | authorization (id : IdKind) (contractOk : Bool) (emaid : List Byte)
  | parameterDiscovery (evMaxV evMaxI : Nat) (evMaxP : Option Nat) (dynamic : Bool)
  | cableCheck
  | preCharge (targetV targetI : Nat) (presentV : Option Nat)
  | powerDelivery (start : Bool)
  | currentDemand (targetV targetI maxV maxI : Nat) (maxP presentV : Option Nat)
  | weldingDetection
  | sessionStop
  | tcpClosed
  deriving DecidableEq, Repr, Inhabited

/-- A certificate entry whose expiry the daily check finds (R365): entry and TAI expiry. -/
structure CertExpiry where
  entry : Nat
  expiry : Nat
  deriving DecidableEq, Repr, Inhabited

/-- A Scribe period mark (R375, R376, R408): what it marks, and the MDCK frequencies in Hz carried with a second mark. -/
structure Mark where
  second : Bool
  wallBoundary : Bool
  freqs : List Nat
  deriving DecidableEq, Repr, Inhabited

/-- A metrology input fault (R379), or its end. Frequencies in Hz for mdckOff. -/
inductive MeterObs where
  | noTransition (clocks : Nat)
  | mdckLost (obs : ClockObs)
  | saturated (ms : Nat)
  | freqOff (hz : Nat)
  | recovered
  deriving DecidableEq, Repr, Inhabited

/-- The survivor's opening reading (R418), as the replacement receives it. -/
structure OpeningRec where
  hubId : Nat
  survivor : Nat
  replacement : Nat
  scribeTime : Nat
  registers : List (List Nat)
  nextReceipt : Nat
  nextSeq : Nat
  sealedHash : Nat
  tokenGen : Nat
  tokenHigh : Nat
  changeCounter : Nat
  residue : Nat
  waived : Nat
  tamperCounts : List Nat
  verified : Bool
  deriving DecidableEq, Repr, Inhabited

/-- The value of the safety-change object (R496). -/
inductive SafetyChange where
  | newSection (crc : W32) (hash : Nat)
  | password (newPw : List Byte)
  deriving DecidableEq, Repr, Inhabited

/-- A pulse check of one 16 ms period of a channel (R472). -/
inductive PulseObs where | missing | foreign
  deriving DecidableEq, Repr, Inhabited

/-- Faults of the load switches (R529, R530, R532, R534, R535). -/
inductive LsCause where | short | overload | slew | freewheel | thermal
  deriving DecidableEq, Repr, Inhabited

/-- Thresholds of the open-load check (R528, R531). -/
inductive OlThreshold where | std | fine
  deriving DecidableEq, Repr, Inhabited

/-- State of a pump driver (Table 13.5). -/
inductive PumpState where | off | diag | run | vmHold | retryWait | latched
  deriving DecidableEq, Repr, Inhabited

/-- Result of an off-state diagnosis (Table 13.4): pass, or the failing test and phase. -/
inductive DiagResult where
  | pass
  | shortSupply
  | shortGround
  | openPhase (test : Fin 2) (phase : Fin 3)
  deriving DecidableEq, Repr, Inhabited

/-- What the off-state tests measure (Table 13.4), in mV: the motor bus, each phase node under the sink of test 1, each under the
source into phase A, and B and C under the source into phase B. -/
structure DiagObs where
  vm : Nat
  sink : Nat × Nat × Nat
  fromA : Nat × Nat × Nat
  fromB : Nat × Nat
  deriving DecidableEq, Repr, Inhabited

/-- A current at a sense input of a pump driver (R513 to R515): the switch by its bit in the leg mask, the current in 10 uA, the
time in ns since the switch turned on, and the instant in ns from the first observation of the step. -/
structure SenseObs where
  sw : Fin 6
  ua10 : Nat
  onNs : Nat
  atNs : Nat
  deriving DecidableEq, Repr, Inhabited

/-- Pair states (Table 15.1). -/
inductive PairState where | none | pairing | holder | standby | solo | resync | detached
  deriving DecidableEq, Repr, Inhabited

/-- What a heartbeat carries (R591), and the outlets for which the partner's safety net signals a pause at its arrival (R467). -/
structure Beat where
  state : PairState
  degraded : Bool
  lastJseq : Nat
  pause : BitVec 64
  deriving DecidableEq, Repr, Inhabited

/-- A CAN frame (R621, R624): kind of identifier, identifier, data. -/
inductive IdK where | base | extended | xl
  deriving DecidableEq, Repr, Inhabited
structure CanFrame where
  idk : IdK
  ident : Nat
  remote : Bool
  data : List Byte
  deriving DecidableEq, Repr, Inhabited

/-- The fields of one key import (R662 to R664). `keyOk`: the key field unwraps or decodes; `sigOk`: the authority
signature verifies. -/
structure KeyImport where
  attr : W32
  kcv : W32
  keyOk : Bool
  sigPresent : Bool
  sigOk : Bool
  deriving DecidableEq, Repr, Inhabited

/-- The cause that coasts or stops a law by a decision of the holder (R230, Table 6.5): overruns, lost feedback of a channel, eight
overruns. -/
inductive LawDecision where
  | overrun
  | overruns8
  deriving DecidableEq, Repr, Inhabited

/-- A change of the Carousel (Table 2.1): the states entered, with what each of them starts from. Frequencies are in 2^-32 Hz. -/
inductive CarChange where
  | locked
  | switchSet (to_ : SetId)
  | holdover (freq : Nat)
  | glide
  | nominal
  | relock (set : SetId)
  | relockOn (set : SetId)
  deriving DecidableEq, Repr, Inhabited

/-- A state-changing operation of the object port (R451), as the journal carries it: one for each object that can be written or
executed, with the operands of its row. -/
inductive OpReq where
  | wall (sec nsec : Nat)
  | curtailment (limitKw validS : Nat)
  | matrixClear (g : ConvNo)
  | legClear (leg : LegNo)
  | lawClear (l : LawNo)
  | keyImport (slot : SlotNo) (k : KeyImport)
  | keyDestroy (slot : SlotNo)
  | loadSwitchClear (ls : LsNo)
  | pumpClear (pump : PumpNo)
  | regulatorClear (buck : BuckNo)
  | yield_
  | recommission (p : PartnerInfo)
  | commit (code : W32) (boundary base : Nat) (recs : List Rec)
  | acknowledge (fn : FuncNo)
  | safetyChange (pw : List Byte) (ch : SafetyChange)
  | seal
  | sealBreak
  | updatePiece (piece : Nat) (data : List W32) (sigOk : Bool)
  | updateAbort (kind2 : Bool)
  | arm (deadlineMin drain : Nat)
  | disarm
  | rollbackCommit
  | legalRelease (partHash legalVer : Nat)
  deriving DecidableEq, Repr, Inhabited

/-- An input that the journal carries (Table 15.2): what both modules apply at its EFFECT stamp. `here` of an operation says that
its connection is one of this module's own. -/
inductive JInput where
  -- 0x01, 0x02: tunnel frames and CAN frames
  | vlink (f : Tunnel)
  | dio (f : Tunnel)
  | hello (f : Tunnel)
  | canFrame (chan : CanNo) (f : CanFrame)
  | gridCommand (chan : CanNo) (payload : BitVec 64)
  | contactorStatus (g : ConvNo) (payload : W32)
  | dcuStatus (inst : Nat) (payload : BitVec 64)
  -- 0x03: operations
  | op (here : Bool) (conn : ConnNo) (role : Role) (addr : Nat) (r : OpReq)
  -- 0x04: AI samples
  | aiSample (readings : List Nat)
  -- 0x05: random values
  | random (ctx : CtxNo) (v : BitVec 64)
  -- 0x06: decisions of the holder
  | ink (x : InkVals)
  | legFault (leg : LegNo) (readback : Bool)
  | lawChange (l : LawNo) (d : LawDecision)
  | feedbackLost (chan : SdChan)
  | clockLost (clk : SdckNo)
  | release (k : TaskKind)
  | carousel (c : CarChange)
  | curtSilent (src : CurtSource)
  | matrixTimeout (g : ConvNo)
  | dispTempStale (outlet : OutletNo) (chan : Fin 4)
  | dcuSilent (inst : Nat)
  | seccTimeout (ctx : CtxNo)
  | authWait (ctx : CtxNo)
  | pauseMax (ctx : CtxNo)
  | entryTimeout (outlet : OutletNo)
  | outcomeTextExpiry (outlet : OutletNo)
  | changeDisplayTimeout (outlet : OutletNo)
  | dioPause (outlet : OutletNo)
  | dioEnd (outlet : OutletNo)
  | noCounter (ctx : CtxNo)
  | canRefLost (chan : CanNo)
  | revisionCancelled
  | activationBoundary (stamp : Nat)
  | activationDeadline
  -- 0x07: period marks
  | mark (m : Mark)
  -- 0x08: wall time
  | wallStep (delta : Int)
  | wallSlew (delta : Int)
  | ptpState (sync : Bool)
  -- 0x09, 0x0B: LEGS_OFF and the tamper inputs
  | legsOff (side : Side) (on : Bool)
  | tamperInput (input : Fin 4) (level : Bool)
  deriving DecidableEq, Repr, Inhabited

/-- A journal entry header (Table 15.3) as the standby receives it. -/
structure JEntry where
  source : Nat
  inline_ : Bool
  length : Nat
  jseq : Nat
  effect : Nat
  arrival : Nat
  digest : Nat
  deriving DecidableEq, Repr, Inhabited

/-- A journal entry waiting for its EFFECT stamp (Table 15.3), with the input it carries where that is at hand (R586). -/
structure JPending where
  entry : JEntry
  input : Option JInput
  deriving DecidableEq, Repr, Inhabited

/-- A payload that the standby has fetched, with the JSEQ of its entry (R586). -/
structure JPayload where
  jseq : Nat
  input : JInput
  deriving DecidableEq, Repr, Inhabited

/-- What a stroke record says of a law released in the stroke (R588): for each modulator clock it reads, and for each leg sample,
the edge that the holder's snapshot took, as the number of edges this module has had since (log 145). -/
structure LawRecord where
  law : LawNo
  clocks : List (SdckNo × Nat)
  legs : List (LegNo × Nat)
  deriving DecidableEq, Repr, Inhabited

/-- A stroke record (R588): the laws released in the stroke, for each leg whether its command word took effect in the cycle after
the current one, and the results that the holder committed in the stroke, law and SEQ. -/
structure StrokeRec where
  stroke : Nat
  laws : List LawRecord
  words : List (LegNo × Bool)
  committed : List (LawNo × Nat)
  deriving DecidableEq, Repr, Inhabited

/-- The end of a transmission attempt (R628). -/
inductive TxEnd where | success | lostArbitration | error
  deriving DecidableEq, Repr, Inhabited

/-- What an Ethernet frame carries (R641, R642, R644, R647). -/
inductive EthKind where
  | tunnel (payload : Nat)
  | objectPort
  | ptp
  | neighbour
  | echo
  | other
  deriving DecidableEq, Repr, Inhabited

/-- Line errors of a received CAN frame (R622): the receive error count rises by 1 or by 8. -/
inductive RxErr where | first | dominantAfterFlag
  deriving DecidableEq, Repr, Inhabited

/-- Which monitored temperatures a DIE_TEMP_MONITOR step reads (Table 14.5): sensor index 0 to 15 and degC. -/
abbrev TempReadings := List (Fin 16 × Int)

end Sys2Proof
end

