-- ==== Sys2Proof/Machine/Parts.lean ====
section
/-!
DEFINITION. The parts of the state of the block, chapter by chapter: every register, buffer, counter, mode and pin the spec gives it, as plain
data. Each field's comment names the rule that gives it and ends with a letter: [R] the default is the reset value the spec gives or implies;
[D] the spec gives none and the default is DESIGN CHOICE (log 3); [M] the field is the model's own bookkeeping (log 4).
-/
namespace Sys2Proof.Machine

/-! ### The clock, the Carousel and wall time (02_line_angle_time.md) -/

/-- The clock of the model and the tick counter. -/
structure Time where
  /-- Instant of the last command, in ticks of 2.5 ns (R50, R52) [M] -/
  clock : Nat := 0
  /-- Instant at which the logic die last left reset; the 64-bit tick counter is clock minus it (R52) [R] -/
  tick0 : Nat := 0
  deriving DecidableEq, Repr, Inhabited

/-- The states of Table 2.1 (R34). -/
inductive CarState where | acquire | locked | holdover | glide | nominal | relock
  deriving DecidableEq, Repr, Inhabited

/-- Cause carried by REF_FAIL (Table 2.5). -/
inductive RefCause where | noTransitions | clockLost | magnitude | frequency
  deriving DecidableEq, Repr, Inhabited

/-- The last failure record of a set (Table 2.4, D = 3; R53). -/
structure RefFailure where
  cause : RefCause
  tick : Nat
  stamp : Nat
  deriving DecidableEq, Repr, Inhabited

/-- One line-reference set (R24 to R27, Table 2.4). -/
structure RefSet where
  /-- 1 bit: the set is valid (R24, R26) [D] -/
  valid : Bool := false
  /-- 1 bit: the set has been valid since start (R26) [R] -/
  everValid : Bool := false
  /-- Phase at which the set last became valid, in phase units (R34, REVERT) [D] -/
  validAt : Nat := 0
  /-- Positive-sequence magnitude in 0.01 per unit (R24) [D] -/
  mag : Nat := 0
  /-- Measured frequency in 1/512 Hz (R24) [D] -/
  freq : Nat := 0
  /-- Phase of the set less the Carousel's, in arcs (R37) [D] -/
  phase : Int := 0
  /-- Failure count of the set (Table 2.4) [D] -/
  failCount : Nat := 0
  /-- Last failure record (Table 2.4) [D] -/
  lastFail : Option RefFailure := none
  /-- Sum of the measured frequencies in the turn in progress (R36) [M] -/
  turnSum : Nat := 0
  /-- Mean measured frequency of the last complete turns with the phase at which each ended, newest first (R36) [M] -/
  turnMeans : List (Nat × Nat) := []
  deriving DecidableEq, Repr, Inhabited

/-- The Carousel. Phase units are 1 / (2^32 * 400000000) of a turn, frequencies are in 2^-32 Hz. -/
structure Carousel where
  /-- State of Table 2.1; ACQUIRE from step 3b (R91) [R] -/
  st : CarState := .acquire
  /-- 1 bit: the Carousel has been started at step 3b (R91) [R] -/
  started : Bool := false
  /-- 1 bit: the first lock has come, strokes run (R32, R33) [R] -/
  running : Bool := false
  /-- Device tick of the first lock (Table 2.4, D = 0) [D] -/
  firstLock : Nat := 0
  /-- The set followed (Table 2.4) [D] -/
  followed : SetId := .a
  /-- Phase since the first lock: 48-bit TURN and the 32-bit fraction of R40, with its remainder (R9, R40) [R] -/
  phase : Nat := 0
  /-- Carousel frequency in 2^-32 Hz (Table 2.4, D = 2) [D] -/
  freq : Nat := 0
  /-- Tracking frequency f_t in 2^-32 Hz (R37) [D] -/
  ft : Nat := 0
  /-- Phase at which HOLDOVER was entered, for HOLD_H (R34) [D] -/
  holdFrom : Nat := 0
  /-- Phase at which RELOCK was entered, for the relock duration of LOCKED (Table 2.5) [D] -/
  relockFrom : Nat := 0
  /-- 32 bits: next stroke count minus 1, TURN * N + s of the stroke in progress (R42) [R] -/
  stroke : Nat := 0
  /-- Half-turns begun since the first lock (R44) [R] -/
  half : Nat := 0
  /-- Instant of the last stroke boundary, in taps of 78.125 ps of the tick counter (R41) [D] -/
  tap : Nat := 0
  /-- Tick of the last stroke boundary (R44) [D] -/
  strokeTick : Nat := 0
  /-- Start of the GLIDE in progress: ticks since, phase and frequency there (R34) [M] -/
  glideFrom : Nat × Nat × Nat := (0, 0, 0)
  /-- TURN adopted from the holder before the first lock, with the tick of the adoption (R589) [R] -/
  adopted : Option (Nat × Nat) := none
  /-- Line stamp and tick of the last half-turn boundary (Table 2.4, D = 1) [D] -/
  lastHalf : Nat × Nat := (0, 0)
  /-- Reference set A (R24) [R] -/
  setA : RefSet := {}
  /-- Reference set B (R24) [R] -/
  setB : RefSet := {}
  /-- Held A-B offset, signed arcs (R27) [D] -/
  offset : Int := 0
  /-- Sum and number of the filter samples of the A-B offset in the turn in progress (R27) [M] -/
  offSum : Int × Nat := (0, 0)
  /-- 1 bit: a set was not valid at some time in the turn in progress (R27) [M] -/
  offBroken : Bool := false
  /-- Ticks and phases at which the Carousel's frequency changed or a stroke began, over the most recent 4 turns, newest first: they give
  the tick of every arc boundary (R54) [R] -/
  history : List (Nat × Nat) := []
  /-- 1 bit: the return to the preferred set waits for the next half-turn boundary (R34) [R] -/
  revertDue : Bool := false
  /-- Late-schedule count (Table 2.4, D = 7) [D] -/
  lateCount : Nat := 0
  /-- Relock count (Table 2.4, D = 7) [D] -/
  relockCount : Nat := 0
  /-- Holdover count (Table 2.4, D = 7) [D] -/
  holdCount : Nat := 0
  deriving DecidableEq, Repr, Inhabited

/-- Where wall time came from (Table 2.4, D = 5). -/
inductive WallSource where | none | ptp | manual
  deriving DecidableEq, Repr, Inhabited

/-- Wall time (R55 to R59). -/
structure Wall where
  /-- TAI in half nanoseconds: 48-bit seconds and nanoseconds (Table 2.4) [D] -/
  half : Nat := 0
  /-- 1 bit: wall time has been set since start (R59) [R] -/
  valid : Bool := false
  /-- Source of wall time (Table 2.4) [R] -/
  source : WallSource := .none
  /-- Offset still to be slewed, in half nanoseconds (R57) [R] -/
  slew : Int := 0
  /-- Ticks of the slew in progress that have not yet moved wall time (R57) [M] -/
  slewPart : Nat := 0
  /-- Wall-time step count (Table 2.4, D = 7) [D] -/
  steps : Nat := 0
  deriving DecidableEq, Repr, Inhabited

/-! ### Configuration and start-up (03_configuration_and_start.md) -/

/-- What the module as a whole is doing (R91, R92, R94, R96). -/
inductive Mode where | off | starting | refused | held | service
  deriving DecidableEq, Repr, Inhabited

/-- The two banks (R66). -/
inductive BankId where | a | b
  deriving DecidableEq, Repr, Inhabited

/-- Refusal record (R96). -/
structure RefusalRec where
  code : Nat
  index : Nat
  imageSeq : Nat
  recordsHash : Nat
  deriving DecidableEq, Repr, Inhabited

/-- The fields of an image header that outlive the check (Table 3.2, Table 3.10). -/
structure ImageHdr where
  sealReq : Bool := false
  prepay : Bool := false
  paired : Bool := false
  imageSeq : Nat := 0
  imageLen : Nat := 0
  recordCount : Nat := 0
  hubId : Nat := 0
  created : Nat := 0
  keySlot : Nat := 0
  minManifest : Nat := 0
  recordsHash : Nat := 0
  deriving DecidableEq, Repr, Inhabited

/-- A revision: its operational records, their hash, and for a pending one its boundary and acknowledgement (R81, R85); `late` where its
boundary had passed when it was scheduled (R45). -/
structure PendingRev where
  recs : List Rec
  hash : W32
  boundary : Nat
  acked : Bool
  late : Bool := false
  deriving DecidableEq, Repr, Inhabited

/-- A revision as kept in MRAM (R89, R90). -/
structure StoredRev where
  number : Nat
  recs : List Rec
  hash : W32
  recordsHash : Nat
  deriving DecidableEq, Repr, Inhabited

/-- Start-up and configuration. -/
structure Startup where
  /-- OFF, STARTING, REFUSED, HELD or in service (R91, R94, R96) [R] -/
  mode : Mode := .off
  /-- Steps of Table 3.8 completed since AUX_IN rose, with the tick of each (Table 3.10, D = 7) [R] -/
  done : List (Step × Nat) := []
  /-- Instant at which AUX_IN rose above 18 V (R91) [M] -/
  auxRise : Nat := 0
  /-- Active bank marker, in MRAM (R67) [D] -/
  bank : BankId := .a
  /-- Refusal record (R96) [R] -/
  refusal : Option RefusalRec := none
  /-- Copies of ETH_PORT and OBJECT_RIGHTS of the last accepted image, in MRAM (R98) [R] -/
  kept : Option (List Rec) := none
  /-- Header of the active image (Table 3.2) [D] -/
  hdr : ImageHdr := {}
  /-- Structural and operational records of the active image (R70 to R72) [D] -/
  image : List Rec := []
  /-- Operational records in force (R80, R87) [D] -/
  oper : List Rec := []
  /-- 32-bit active revision number (R89) [R] -/
  revision : Nat := 0
  /-- Hash of the active revision (Table 3.10, D = 2) [D] -/
  revHash : W32 := 0
  /-- Line stamp at which the active revision was applied (Table 3.10, D = 2) [D] -/
  revStamp : Nat := 0
  /-- Revision stored in MRAM (R89, R90) [R] -/
  stored : Option StoredRev := none
  /-- The pending revision as written to MRAM ahead of its boundary (R89) [R] -/
  ahead : Option StoredRev := none
  /-- The one pending revision (R81, R84) [R] -/
  pendingRev : Option PendingRev := none
  /-- RECORDS_HASH of the previous start, in MRAM (Table 11.6, type 14) [R] -/
  prevHash : Option Nat := none
  /-- Loads of the classes P0 to P4 in cycles per second, and the worst latency margin in ticks (Table 3.10, D = 6) [D] -/
  loads : List Nat × Int := ([], 0)
  deriving DecidableEq, Repr, Inhabited

/-- One flash bank: pages of 1 024 words that are not erased, rising by page number (R66); page 8 192 begins the image. -/
abbrev Flash := List (Nat × List W32)

/-- The two configuration flashes (R66). -/
structure Flashes where
  /-- CFG_FLASH_0, bank A, 128 MiB (R66) [D] -/
  a : Flash := []
  /-- CFG_FLASH_1, bank B, 128 MiB (R66) [D] -/
  b : Flash := []
  deriving DecidableEq, Repr, Inhabited

/-! ### Nibs, troupes and the Inkwell (04_nib_array.md) -/

/-- A range of blocks of 64 bytes: SPACE 0 Inkwell, 1 LPDDR5X, first block, length (Table 4.3). -/
structure BlockRange where
  lpddr : Bool := false
  first : Nat := 0
  len : Nat := 0
  deriving DecidableEq, Repr, Inhabited

/-- An input reference (Table 4.4): KIND 1 snapshot, 2 Inkwell block, 3 LPDDR5X block; ADDR, LEN, SNAP. -/
structure InRef where
  kind : Nat
  addr : Nat
  len : Nat
  snap : Nat
  deriving DecidableEq, Repr, Inhabited

/-- A task, as its descriptor tells it (Table 4.3): what it is for (KERNEL), CLASS, HOME, COPY, DL_KIND and DEADLINE, its result
domain and SEQ, the blocks of its state and result, its inputs and COEF; the tick from which it can be taken (R113), the nib that
parked it (R117), whether a block it read was poisoned (R143), and, once completed, the exclusive or of its result block with the
exact one, word by word (log 7). -/
structure Task where
  kind : TaskKind
  cls : Nat
  home : Nat
  copy : Nat
  lineDl : Bool
  deadline : Option Nat
  dom : Nat
  seq : Nat
  enq : Nat
  state : BlockRange := {}
  result : BlockRange := {}
  inputs : List InRef := []
  coef : Nat := 0
  parkedBy : Option Nat := none
  poisoned : Bool := false
  err : List W32 := []
  deriving DecidableEq, Repr, Inhabited

/-- What a nib is doing (Table 4.10). -/
inductive NibAct where
  | free
  | running (task : Task) (since : Nat)
  | testing (since : Nat)
  deriving DecidableEq, Repr, Inhabited

/-- The 16 KiB of local memory of a nib (Table 4.1): the 64-byte blocks that the task uses, cleared at its start (R105), and then what its
kernel has left in them, a free value by its running index (log 123). A word outside the blocks has no reader. -/
structure LocalMem where
  blocks : Nat := 0
  content : Option Nat := none
  deriving DecidableEq, Repr, Inhabited

/-- One nib (Table 4.1, R131, R146, Table 4.10). -/
structure Nib where
  /-- The four accumulators, 48 bits (Table 4.1, R105) [D] -/
  acc : Vector (BitVec 48) 4 := Vector.replicate 4 0
  /-- Local memory, 16 KiB (Table 4.1, R105) [D] -/
  mem : LocalMem := {}
  /-- Kernel cache: up to 8 kernels by code, the pinned ones first (Table 4.1, R106) [D] -/
  cache : List Nat := []
  /-- How many of them are pinned (R106) [D] -/
  pinned : Nat := 0
  /-- The nib's park slot in the Inkwell: the local state of the task it parked (R117, Table 4.6) [D] -/
  slot : Option LocalMem := none
  /-- What the nib is doing (Table 4.10) [R] -/
  act : NibAct := .free
  /-- 1 bit: fenced until restart (R132) [R] -/
  fenced : Bool := false
  /-- Suspect marks since start (R131) [R] -/
  suspect : Nat := 0
  /-- Start of a test between whose slices the nib runs a task (R146) [R] -/
  test : Option Nat := none
  /-- 1 bit: a test ahead of the rotation is due (R147) [R] -/
  testDue : Bool := false
  /-- 1 bit: the park slot of the nib is occupied (R117) [R] -/
  parked : Bool := false
  /-- Tick and result of the last test (R146) [R] -/
  lastTest : Option (Nat × Bool) := none
  deriving DecidableEq, Repr, Inhabited

/-- One copy's result of a P0 task: the copy, its nib, and the exclusive or of its result block with the exact one, status word first
(R126, log 7); none for a copy that will give none (R127). -/
structure CopyResult where
  copy : Nat
  nib : Nat
  err : Option (List W32)
  deriving DecidableEq, Repr, Inhabited

/-- A P0 task in flight (R124 to R130), with the ticks at which its copies were taken (R127). -/
structure P0Job where
  law : Nat
  seq : Nat
  home : Nat
  released : Nat
  deadline : Nat
  starts : List (Nat × Nat) := []
  results : List CopyResult := []
  third : Bool := false
  agreed : Option (List W32) := none
  deriving DecidableEq, Repr, Inhabited

/-- Load counters of a troupe over a turn (R148): busy ticks per class P0 to P4, steals, parks, third copies, misses. -/
structure TroupeLoad where
  busy : List Nat := [0, 0, 0, 0, 0]
  taken : Nat := 0
  given : Nat := 0
  parks : Nat := 0
  thirds : Nat := 0
  misses : Nat := 0
  deriving DecidableEq, Repr, Inhabited

/-- A task taken in the tick in progress: the nib as it was before, and what R115 needs to take it back (R115). -/
structure Claim where
  task : Task
  nib : Nat
  before : Nib
  deriving DecidableEq, Repr, Inhabited

/-- A descriptor in the trace capture: its sixteen words, task, nib and tick (Table 4.10, D = 6). -/
structure TraceEntry where
  words : List W32
  task : Task
  nib : Nat
  tick : Nat
  deriving DecidableEq, Repr, Inhabited

/-- The nib array and its memories. -/
structure Array_ where
  /-- The 256 nibs (R102) [R] -/
  nibs : Vector Nib 256 := Vector.replicate 256 {}
  /-- Tasks waiting in the queues of all troupes and classes (R113) [R] -/
  queue : List Task := []
  /-- P0 tasks in flight (R124) [R] -/
  jobs : List P0Job := []
  /-- Tasks of P1 to P4 released and not yet closed (R108, R120) [R] -/
  opens : List Task := []
  /-- Completed results of P1 to P4 waiting in the retire buffer (R120) [R] -/
  retire : List Task := []
  /-- P0 tasks whose result has committed while a copy still runs (R128) [R] -/
  settled : List P0Job := []
  /-- The tick of the claims below, and the tasks taken in it (R115) [R] -/
  claims : Nat × List Claim := (0, [])
  /-- Next SEQ of each result domain, 32 bits; the first is 0 (R120, log 124) [R] -/
  seqs : List (Nat × Nat) := []
  /-- P1 tasks released in this half-turn, for their homes (Table 4.5) [R] -/
  jugglerCount : Nat := 0
  /-- 1 bit: a P1 task of this half-turn was closed as missed, so that its pencil is not complete (R108, R268) [R] -/
  jugglerLost : Bool := false
  /-- Resolved primary homes in LAW order (R135) [D] -/
  homes : List Nat := []
  /-- Worst-case cycle count W of each law's kernel chain, in LAW order (R76, R127) [D] -/
  kernelW : List Nat := []
  /-- Blocks of 64 bytes of state, inputs and result of each law's kernel chain in LAW order, then of the Juggler's (R112) [D] -/
  sizes : List (Nat × Nat × Nat) := []
  /-- Third copies and misses of each law since start (Table 4.10, D = 3) [R] -/
  lawCounts : Vector (Nat × Nat) 43 := Vector.replicate 43 (0, 0)
  /-- Load counters of the turn in progress (R148) [R] -/
  load : Vector TroupeLoad 32 := Vector.replicate 32 {}
  /-- Load counters of the last complete turn (Table 4.10, D = 2) [R] -/
  lastLoad : Vector TroupeLoad 32 := Vector.replicate 32 {}
  /-- Next nib of the built-in test rotation (R146) [R] -/
  bistNext : Nat := 0
  /-- Instant of the last test start (R146) [M] -/
  bistAt : Option Nat := none
  /-- Last 256 descriptors taken, newest first (Table 4.10, D = 6) [D] -/
  trace : List TraceEntry := []
  /-- Corrections per Inkwell bank (R138) [D] -/
  corrections : Vector Nat 64 := Vector.replicate 64 0
  /-- Addresses of the poisoned Inkwell words (R139) [R] -/
  poisoned : List Nat := []
  /-- Lines of 32 bytes of each bank read in this scrub pass (R141) [D] -/
  scrubLine : Vector Nat 64 := Vector.replicate 64 0
  /-- The tick of the last commits, and the byte ranges of the Inkwell written in it (R141) [D] -/
  written : Nat × List (Nat × Nat) := (0, [])
  /-- Words that the scrubber rereads in its next slot (R141) [D] -/
  reread : List Nat := []
  /-- Tick of the last Inkwell scrub pass (Table 4.10, D = 4) [D] -/
  scrubPass : Nat := 0
  /-- LPDDR5X corrections (Table 4.10, D = 5) [D] -/
  dramCorrections : Nat := 0
  /-- Poisoned LPDDR5X blocks, channel and block (R143) [R] -/
  dramPoisoned : List (Nat × Nat) := []
  /-- Blocks of both channels read in this scrub pass, channel 0 first (R144) [D] -/
  dramNext : Nat := 0
  /-- Tick of the last LPDDR5X scrub pass (Table 4.10, D = 5) [D] -/
  dramPass : Nat := 0
  deriving DecidableEq, Repr, Inhabited

/-! ### Switching legs (05_power_legs.md) -/

/-- States of a leg (Table 5.6). -/
inductive LegState where | unused | idle | off | switching | faulted | inhibited
  deriving DecidableEq, Repr, Inhabited

/-- Cause of a leg fault (Table 5.11). -/
inductive LegCause where | flt | readback
  deriving DecidableEq, Repr, Inhabited

/-- A leg command word (Table 5.3). -/
structure LegWord where
  /-- 24 bits: HI on-time in 2^-24 stroke (Table 5.3) [R] -/
  on : Nat := 0
  /-- 1 bit: both switches off for the cycle (Table 5.3) [R] -/
  holdOff : Bool := true
  /-- 24 bits: time from E3 to E5 in 2^-24 stroke (Table 5.3) [R] -/
  loCut : Nat := 0xFFFFFF
  deriving DecidableEq, Repr, Inhabited

/-- The edges of Table 5.2. -/
inductive EdgeNo where | e1 | e2 | e3 | e4 | e5
  deriving DecidableEq, Repr, Inhabited

/-- A leg cycle: its start and stroke period in taps of 78.125 ps of the tick counter, exact, and the edges already emitted in it with
their instants in whole taps (R160). -/
structure LegCycle where
  start : Rat
  period : Rat
  emitted : List (EdgeNo × Nat) := []
  deriving DecidableEq, Repr, Inhabited

/-- One leg. -/
structure Leg where
  /-- State (Table 5.6) [R] -/
  st : LegState := .unused
  /-- Level of the HI net driven (R160, Table 3.9) [R] -/
  hi : Bool := false
  /-- Level of the LO net driven (R160, Table 3.9) [R] -/
  lo : Bool := false
  /-- The command word that the leg holds (R166, R169, R170) [R] -/
  word : LegWord := {}
  /-- Last command word applied (Table 5.10, D = 2) [R] -/
  lastWord : LegWord := {}
  /-- Tick at which it was applied (Table 5.10, D = 2) [D] -/
  wordTick : Nat := 0
  /-- Words that wait for a cycle to begin: each with the instant in taps from which a cycle takes it (R168) [R] -/
  next : List (Rat × LegWord) := []
  /-- The cycle in progress (R160) [R] -/
  cycle : Option LegCycle := none
  /-- Cycles whose start is fixed and not yet reached (R158) [M] -/
  upcoming : List LegCycle := []
  /-- Pulse clamps (Table 5.10, D = 1) [R] -/
  clamps : Nat := 0
  /-- Deferred writes (Table 5.10, D = 1) [R] -/
  deferred : Nat := 0
  /-- Disagreeing strokes (Table 5.10, D = 1) [R] -/
  disagree : Nat := 0
  /-- Faults (Table 5.10, D = 1) [R] -/
  faults : Nat := 0
  /-- Cycles with a cut (Table 5.10, D = 1) [R] -/
  cuts : Nat := 0
  /-- 1 bit: diode emulation cut the last cycle (Table 5.10, D = 0) [R] -/
  deActive : Bool := false
  /-- At a standby, the word of the latest commit, which waits for the stroke record that names its cycle (R588) [R] -/
  held : Option LegWord := none
  /-- 1 bit: the holder's hardware has driven the leg off for a fault whose journal entry has not yet taken effect (R175, R177,
  R180) [R] -/
  killed : Bool := false
  /-- Cause of the last fault (Table 5.10, D = 0) [R] -/
  cause : Option LegCause := none
  /-- Readmissions used since start (R185) [R] -/
  retries : Nat := 0
  /-- 1 bit: leg-clear executed since the last fault (R185) [R] -/
  cleared : Bool := false
  /-- 1 bit: level of LEG_nnn_FLT is low; an open input is pulled up (R151) [D] -/
  fltLow : Bool := false
  /-- Instant from which FLT has read high without a break (R185) [D] -/
  fltHighSince : Nat := 0
  /-- Consecutive disagreeing strokes (R180) [R] -/
  disagreeRun : Nat := 0
  /-- 1 bit: a mismatch in the stroke in progress (R179) [R] -/
  mismatch : Bool := false
  /-- Leg sample since the group last coasted: raw filter value, window length, HI on-time of its cycle in taps (R171, R208) [R] -/
  sample : Option (Int × Nat × Rat) := none
  deriving DecidableEq, Repr, Inhabited

/-- A leg group (R157, R183, R184). -/
structure LegGroup where
  /-- 1 bit: the group is coasting (R170) [R] -/
  coasting : Bool := true
  /-- 1 bit: a coast is decided and waits for the next stroke boundary (R170) [R] -/
  coastDue : Bool := false
  /-- The healthy legs in rank order, fixed at the last start (R158, R159) [R] -/
  healthy : List Nat := []
  /-- Capacity reported, legs of n (R183, R231) [R] -/
  capLegs : Nat := 0
  /-- 1 bit: reported as stopped (R184) [R] -/
  stopped : Bool := false
  deriving DecidableEq, Repr, Inhabited

/-- A contended net (R181): the leg and net, and the stroke of the yield. -/
structure Contention where
  leg : Nat
  net : Net
  yieldStroke : Option Nat
  deriving DecidableEq, Repr, Inhabited

/-- Legs, groups and the LEGS_OFF line. -/
structure Legs where
  /-- The 128 legs (R151) [R] -/
  legs : Vector Leg 128 := Vector.replicate 128 {}
  /-- The 43 groups (R157) [R] -/
  groups : Vector LegGroup 43 := Vector.replicate 43 {}
  /-- Contended nets not yet resolved (R181) [R] -/
  contended : List Contention := []
  /-- Nets whose contention was resolved while a sample may still exceed 850 mV (R181) [R] -/
  resolved : List (Nat × Net) := []
  /-- 1 bit: LEGS_OFF in force for the legs and laws (R187, R467) [R] -/
  legsOff : Bool := false
  /-- 1 bit each: LEGS_OFF of this module, of its partner, as the journal has carried them (R467) [R] -/
  offSides : Bool × Bool := (false, false)
  /-- 1 bit: LEGS_OFF released, the legs wait for the stroke boundary (R188) [R] -/
  releaseDue : Bool := false
  /-- Assertion count of LEGS_OFF (Table 5.10, D = 5) [R] -/
  offCount : Nat := 0
  /-- Tick of the last assertion (Table 5.10, D = 5) [D] -/
  offTick : Nat := 0
  /-- Tick of the last release (Table 5.10, D = 5) [D] -/
  releaseTick : Nat := 0
  deriving DecidableEq, Repr, Inhabited

/-! ### Control laws (06_control_laws.md) -/

/-- States of a law (Table 6.5). -/
inductive LawState where | idle | ready | running | coasted | stopped
  deriving DecidableEq, Repr, Inhabited

/-- Causes that coast or stop a law (Table 6.5, R233). -/
inductive LawCause where
  | overrun
  | feedback (chan : Nat)
  | legFault
  | legsOff
  | carousel
  | trip (until_ : Nat)
  | overruns8
  | frozen
  | tripMax
  | groupStopped
  deriving DecidableEq, Repr, Inhabited

/-- A stroke of a law before its sample instant (R209): its count, the start of the rank-0 cycle in taps, the stroke's period in taps,
and P for it. -/
structure LawDue where
  stroke : Nat
  start : Rat
  period : Rat
  p : Nat
  deriving DecidableEq, Repr, Inhabited

/-- One law. -/
structure Law where
  /-- State (Table 6.5) [R] -/
  st : LawState := .idle
  /-- Causes holding (R233) [R] -/
  causes : List LawCause := []
  /-- 16 bits: sample fraction P in 2^-16 stroke (R209) [D] -/
  p : Nat := 0
  /-- Integrators as mantissa and exponent (R199) [R] -/
  x : List (Int × Int) := []
  /-- References reached at the end of the previous half-turn: I, V_LIM or I_Q (R214, R215) [R] -/
  prev : Rat × Rat := (0, 0)
  /-- References inked for the half-turn in progress (R213) [R] -/
  new : Rat × Rat := (0, 0)
  /-- Repetitive tables, entries of 24 bits (R217, R220) [R] -/
  rep : List (List Int) := []
  /-- Half-turn of the last start from coast, or of service start (R219) [R] -/
  startHalf : Nat := 0
  /-- Half-turns whose ink stepped beyond STEP, the latest four (R219) [R] -/
  steps : List Nat := []
  /-- References reached before, and inked for, the half-turn before the one in progress, for strokes of it still to be computed
  (R214) [R] -/
  older : (Rat × Rat) × (Rat × Rat) := ((0, 0), (0, 0))
  /-- Strokes whose sample instant is still to come (R209) [R] -/
  due : List LawDue := []
  /-- Overruns (Table 6.10, D = 1) [R] -/
  overruns : Nat := 0
  /-- Strokes of the overruns within the last 1 000 strokes, newest first (R224) [R] -/
  overrunAt : List Nat := []
  /-- Consecutive overrun strokes (R223) [R] -/
  overrunRun : Nat := 0
  /-- Trips since the last clear (R226) [R] -/
  trips : Nat := 0
  /-- Following-error counter (R225) [R] -/
  feCount : Nat := 0
  /-- REP saturations (R218) [R] -/
  repSats : Nat := 0
  /-- Strokes with a LIMIT clamp (Table 6.10, D = 1) [R] -/
  limits : Nat := 0
  /-- Frozen-feedback run of each INPUT element: raw value and strokes (R229) [R] -/
  frozen : List (Int × Nat) := []
  /-- Rank-0 ON of the last RUNNING strokes with committed results, newest first, 2^-24 stroke (R229) [R] -/
  dutyHist : List Nat := []
  /-- Status word: SAT of the stages INPUT to DUTY in order of position, REP SAT, LIMIT (R202, R218) [R] -/
  status : List Bool × Bool × Bool := ([], false, false)
  /-- Last committed outputs of each stage: mantissas and exponent (Table 6.10, D = 2) [R] -/
  vecs : List (List Int × Int) := []
  /-- Rank-0 ON and HOLD_OFF of the latest committed words, newest first, with their tasks' deadlines (R210) [R] -/
  lastWords : List (Nat × Bool × Nat) := []
  /-- SEQs of the latest committed results, newest first (R588) [R] -/
  committed : List Nat := []
  /-- Stroke whose result committed last (R733) [R] -/
  lastStroke : Option Nat := none
  deriving DecidableEq, Repr, Inhabited

/-- What the snapshot hardware latched for a law's task, with the version of the law's state that it reads (R119, R121, R122, R208): raw
filter values, healthy legs, angle, frequency, Carousel LOCKED, stroke, references, stroke period, leg samples; integrators and tables. -/
structure LawSnap where
  law : Nat
  seq : Nat
  raw : List (Int × Nat)
  healthy : List Nat
  theta : Nat
  freq : Nat
  locked : Bool
  stroke : Nat
  ref0 : Rat
  ref1 : Rat
  period : Rat
  samples : List (Option (Int × Nat × Rat))
  x : List (Int × Int)
  rep : List (List Int)
  deriving DecidableEq, Repr, Inhabited

/-- A modulator clock (R228). -/
structure SdClock where
  /-- 1 bit: the clock is declared lost (R228) [R] -/
  lost : Bool := false
  deriving DecidableEq, Repr, Inhabited

/-- The laws and the window filters. -/
structure Laws where
  /-- The 43 laws (R238) [R] -/
  laws : Vector Law 43 := Vector.replicate 43 {}
  /-- Window-filter snapshots of the tasks in flight (R122) [R] -/
  snaps : List LawSnap := []
  /-- Bits of each SD channel, newest first: the span of the longest filter at each of the last 256 clocks (R207, R588) [D] -/
  bits : Vector (List Bool) 256 := Vector.replicate 256 []
  /-- 1 bit each: the channel's feedback is lost (R227) [R] -/
  lost : Vector Bool 256 := Vector.replicate 256 false
  /-- Phase of the last loss of each channel (R233) [D] -/
  lostAt : Vector Nat 256 := Vector.replicate 256 0
  /-- The 16 modulator clocks (R228) [R] -/
  clocks : Vector SdClock 16 := Vector.replicate 16 {}
  deriving DecidableEq, Repr, Inhabited

/-! ### The Juggler (07_juggler_allocation.md) -/

/-- Matrix states of a group (Table 7.8). -/
inductive MatrixState where | free | closing | attached | draining | opening | mfault
  deriving DecidableEq, Repr, Inhabited

/-- A contactor status as last received: STATE, OUTLET, SEQ, and its instant (Table 7.9). -/
structure CtrStatus where
  state : Nat
  outlet : Nat
  seq : Nat
  time : Nat
  deriving DecidableEq, Repr, Inhabited

/-- The matrix state of a converter group. -/
structure Matrix where
  /-- State (Table 7.8) [D] -/
  st : MatrixState := .free
  /-- Outlet of the group's decision, 1 to 64, 0 none (Table 7.8) [D] -/
  outlet : Nat := 0
  /-- 8-bit SEQ of the last command (Table 7.9) [D] -/
  seq : Nat := 0
  /-- Instant of the last command (R278) [M] -/
  cmdAt : Nat := 0
  /-- Half-turn of the last inked decision (R277) [D] -/
  decidedHalf : Option Nat := none
  /-- Line stamp of the last decision (Table 7.14) [D] -/
  decidedStamp : Nat := 0
  /-- Latches since DRAINING was entered (Table 7.8) [R] -/
  drainLatches : Nat := 0
  /-- Latest valid status (R279) [R] -/
  status : Option CtrStatus := none
  /-- CHECK failures (R279) [R] -/
  checkFails : Nat := 0
  /-- Command waiting for the group's slot: OP, OUTLET, SEQ (R278) [R] -/
  cmd : Option (Nat × Nat × Nat) := none
  deriving DecidableEq, Repr, Inhabited

/-- What the Juggler takes of an outlet (Table 7.2): W, 0.1 A, 0.1 V. -/
structure OutletIn where
  deliver : Bool := false
  safety : Bool := false
  pReq : Nat := 0
  iReq : Nat := 0
  vMax : Nat := 0
  vo : Nat := 0
  ctx : Nat := 0
  deriving DecidableEq, Repr, Inhabited

/-- What the Juggler takes of a converter group (Table 7.2): matrix state and outlet, the legs of the capacity that it reports
(R231), its healthy legs (R276), its legs. -/
structure GroupIn where
  st : MatrixState := .free
  outlet : Nat := 0
  h : Nat := 0
  healthy : Nat := 0
  n : Nat := 0
  lawOk : Bool := false
  decidedHalf : Option Nat := none
  deriving DecidableEq, Repr, Inhabited

/-- The latched snapshot (R250, Table 7.2): throttle factors by binding, bus voltages by BUS node, AFE units with READY or
RUNNING and RUNNING. -/
structure JugIn where
  half : Nat := 0
  outlets : List OutletIn := []
  f : List (Nat × Nat) := []
  vBus : List (Nat × Nat) := []
  groups : List GroupIn := []
  afes : List (Nat × Bool × Bool) := []
  curt : Option Nat := none
  importKw : Nat := 0
  aux : Nat := 0
  deriving DecidableEq, Repr, Inhabited

/-- A matrix decision (Table 7.6). -/
inductive MatrixDecision where | none | attach (outlet : Nat) | release
  deriving DecidableEq, Repr, Inhabited

/-- A shortfall increment (Table 7.3). -/
structure Shortfall where
  ctx : Nat
  outlet : Nat
  cls : Nat
  cause : Nat
  clamp : Bool
  watts : Nat
  durUs : Nat
  deriving DecidableEq, Repr, Inhabited

/-- An allocation, pencil or ink (Table 7.6): per outlet P in W and I in 0.1 A, per group I_SET in 0.1 A and V_LIM in 0.1 V,
per AFE unit I_D_LIM and I_Q_SET in 0.1 A, matrix decisions, shortfalls. -/
structure Alloc where
  g : List Nat := []
  outlets : List (Nat × Nat) := []
  groups : List (Nat × Nat) := []
  afes : List (Int × Int) := []
  matrix : List MatrixDecision := []
  shorts : List Shortfall := []
  loads : List (Nat × Nat) := []
  clamp : Bool := false
  deriving DecidableEq, Repr, Inhabited

/-- State of a curtailment source (R272). -/
inductive CurtState where | lifted | active | silent
  deriving DecidableEq, Repr, Inhabited

/-- A curtailment source (R272 to R274). -/
structure CurtSrc where
  /-- State (R272) [R] -/
  st : CurtState := .lifted
  /-- Last value in kW (R272) [R] -/
  value : Option Nat := none
  /-- Instant at which it falls silent (R273) [R] -/
  expiry : Option Nat := none
  /-- 16-bit SEQ of the last grid command (Table 7.7) [D] -/
  seq : Nat := 0
  deriving DecidableEq, Repr, Inhabited

/-- The Juggler. -/
structure Juggler where
  /-- Latched inputs of the half-turn (R250) [R] -/
  latch : Option JugIn := none
  /-- The pencil that the P1 tasks in flight compute from the versions fixed at their release (R119, R261) [R] -/
  work : Option Alloc := none
  /-- The latest pencil retired for the next half-turn (R261) [R] -/
  pencil : Option Alloc := none
  /-- Ink in force (R265) [R] -/
  ink : Alloc := {}
  /-- Ink written for the next half-turn (R265) [R] -/
  nextInk : Option Alloc := none
  /-- 1 bit: the ink point of the half-turn has passed (R262) [M] -/
  pointDone : Bool := false
  /-- Matrix state of the 16 converter groups (R278) [R] -/
  matrix : Vector Matrix 16 := Vector.replicate 16 {}
  /-- Object curtailment source; state, value and remaining validity in MRAM (R273, R274) [R] -/
  curtObj : CurtSrc := {}
  /-- CAN curtailment source (R273, R274) [R] -/
  curtCan : CurtSrc := {}
  /-- Effective curtailment in kW, none for no limit (R272) [R] -/
  effective : Option Nat := none
  /-- The allocation log in the LPDDR5X memory, newest first: line stamp, pencil or ink, allocation (Table 4.7) [D] -/
  log : List (Nat × Bool × Alloc) := []
  /-- Half-turns allocated (Table 7.14) [R] -/
  halfTurns : Nat := 0
  /-- Clamp inks (Table 7.14) [R] -/
  clampInks : Nat := 0
  /-- PENCIL_LATE count (Table 7.14) [R] -/
  pencilLate : Nat := 0
  /-- CLAMP_LATE count (Table 7.14) [R] -/
  clampLate : Nat := 0
  /-- Line stamp of the last ink (Table 7.14) [D] -/
  inkStamp : Nat := 0
  /-- 1 bit per outlet: GUARANTEE_CUT raised in the session (Table 7.15) [R] -/
  cutRaised : Vector Bool 64 := Vector.replicate 64 false
  deriving DecidableEq, Repr, Inhabited

/-! ### Thermal model and cooling (08_thermal_model.md) -/

/-- A node of the thermal model (Table 8.1, R287): TEMP with TEMP_FRAC as one value at the folio's exponent, the record's
fields, T_lim as last formed (R311), the flags of R312 and the latch of R313, and whether it is uncertain through poison. -/
structure TNode where
  temp : Int
  invC : Nat := 0
  gRef : Nat := 0
  links : List (Nat × Nat) := []
  src : Option Nat := none
  refSel : Nat := 63
  scale : Nat := 0
  lim : Option Nat := none
  conductor : Bool := false
  pinFast : Bool := false
  ksub : Nat := 0
  init : Int := 0
  tLim : Rat := 0
  warn : Bool := false
  thr : Bool := false
  shut : Bool := false
  poisoned : Bool := false
  deriving DecidableEq, Repr, Inhabited

/-- A folio entry (R289, R290): its nodes and exponent; the values base readers see (R303); fast-tier slot; the tick from which
the demotion condition has been met (R307); the fast period (R304); consecutive missed updates (R309); the ticks of the last
committed update and of the last release; the signal sums used last (R298). -/
structure Folio where
  inst : Nat
  exp : Int := -64
  nodes : List TNode := []
  baseExp : Int := -64
  baseTemps : List Int := []
  slot : Option Nat := none
  coolSince : Option Nat := none
  period : Nat := 0
  missed : Nat := 0
  lastTick : Nat := 0
  lastRelease : Nat := 0
  seen : List (Nat × Rat × Rat) := []
  seenStrokes : Nat := 0
  deriving DecidableEq, Repr, Inhabited

/-- An expanded stencil instance (R296): its number, first node, node count; its published factor with 16 fraction bits (R314);
its thermal pause (R315). -/
structure TInst where
  inst : Nat
  base : Nat
  count : Nat
  f : Nat := 65536
  pause : Bool := false
  deriving DecidableEq, Repr, Inhabited

/-- The sums of a current signal over the strokes since start: the signal word, its square, its magnitude (R298); and the
contribution of the last stroke. -/
structure SigSum where
  sig : Nat
  sq : Rat := 0
  mag : Rat := 0
  lastSq : Rat := 0
  lastMag : Rat := 0
  deriving DecidableEq, Repr, Inhabited

/-- A sensor (R317 to R321): reading, validity, the instant from which readings of an invalid sensor have been in range, the
instants from which its residual has been outside and inside its bound, the alarm, FLOW_FALLBACK raised. -/
structure Sensor where
  reading : Nat := 0
  sampled : Bool := false
  valid : Bool := false
  goodSince : Option Nat := none
  outSince : Option Nat := none
  inSince : Option Nat := none
  alarm : Bool := false
  fallback : Bool := false
  deriving DecidableEq, Repr, Inhabited

/-- A connector temperature that a dispenser reports (R320): in 1/16 degC, with its instant. -/
structure DispTemp where
  temp : Option Int := none
  at_ : Nat := 0
  valid : Bool := false
  outSince : Option Nat := none
  inSince : Option Nat := none
  alarm : Bool := false
  deriving DecidableEq, Repr, Inhabited

/-- A dispenser cooling unit (R325, R326): its instance, the last status, silence, the SEQ of the next command, the demand. -/
structure Dcu where
  inst : Nat
  flow : Nat := 0
  supply : Int := 0
  seqSeen : Nat := 0
  unitState : Nat := 0
  lastAt : Nat := 0
  silent : Bool := false
  fallback : Bool := false
  seq : Nat := 0
  x : Rat := 0
  d : Rat := 0
  h : Rat := 0
  deriving DecidableEq, Repr, Inhabited

/-- A cooling loop (R323): integrator, demand, headroom. -/
structure CoolLoop where
  x : Rat := 0
  d : Rat := 0
  h : Rat := 0
  deriving DecidableEq, Repr, Inhabited

/-- A folio's result as a thermal task computed it from the versions fixed at its release (R119, R301). -/
structure FolioResult where
  folio : Nat
  exp : Int
  temps : List Int
  /-- The same results with every node at the start value of an uncertain one (R310). -/
  safe : List Int
  strokes : Nat
  deriving DecidableEq, Repr, Inhabited

/-- A thermal task in flight: its domain and SEQ, release tick, results, and the sensor temperatures per node taken (R311,
R318). -/
structure ThermFlight where
  dom : Nat
  seq : Nat
  tick : Nat
  results : List FolioResult := []
  sums : List (Nat × Rat × Rat) := []
  sens : List (Nat × Rat) := []
  cool : List (Nat × CoolLoop) := []
  deriving DecidableEq, Repr, Inhabited

/-- The thermal model. -/
structure Thermal where
  /-- The folios, from node 0 (R287, R289) [R] -/
  folios : List Folio := []
  /-- The expanded instances (R296) [R] -/
  insts : List TInst := []
  /-- Signal sums (R298) [R] -/
  sigs : List SigSum := []
  /-- Strokes summed (R298) [R] -/
  strokes : Nat := 0
  /-- The 32 sensors (R317) [D] -/
  sensors : Vector Sensor 32 := Vector.replicate 32 {}
  /-- Reported connector temperatures, channel 4 * (outlet - 1) + n (R320) [R] -/
  disp : Vector DispTemp 256 := Vector.replicate 256 {}
  /-- Dispenser cooling units, in instance order (R325) [D] -/
  dcus : List Dcu := []
  /-- Cooling loops (R323) [D] -/
  loops : Vector CoolLoop 8 := Vector.replicate 8 {}
  /-- The fast folios due in the tier period in progress, in folio order (R136, R304) [R] -/
  fastWave : List Nat := []
  /-- Tier decisions that take effect at the next base release: folio, fast (R305) [R] -/
  tierNext : List (Nat × Bool) := []
  /-- Thermal tasks in flight (R119) [R] -/
  flights : List ThermFlight := []
  /-- FAST_FULL count (Table 8.12) [R] -/
  fastFull : Nat := 0
  /-- Instant of the last FAST_FULL (R308) [M] -/
  fastFullAt : Option Nat := none
  /-- Candidates that wait (Table 8.12) [R] -/
  waiting : Nat := 0
  /-- Missed updates of the base and fast tier (Table 8.12) [R] -/
  missed : Nat × Nat := (0, 0)
  /-- Conductor mean published to the Scribe per outlet, with validity (R327) [R] -/
  published : Vector (Option (Rat × Bool)) 64 := Vector.replicate 64 none
  deriving DecidableEq, Repr, Inhabited

/-! ### The object port, tokens and tamper records (11_tokens_tamper_readout.md) -/

/-- States of a staging copy (Table 3.7). -/
inductive StageState where | empty | staged | checked
  deriving DecidableEq, Repr, Inhabited

/-- An event as recorded (R53, R455). -/
structure EvRec where
  seq : Nat
  ev : Ev
  tick : Nat
  stamp : Nat
  val : List Int
  deriving DecidableEq, Repr, Inhabited

/-- A subscription (R456): names wanted, none wanted meaning all. -/
structure Subscription where
  names : List Ev
  deriving DecidableEq, Repr, Inhabited

/-- The last response sent on a connection: RES and VAL (Tables 11.8 and 11.10). -/
structure Answer where
  res : Nat
  val : List Int := []
  deriving DecidableEq, Repr, Inhabited

/-- The place of a request that is not answered yet, in the order of the requests (R449): it waits for its effect, its answer waits
for those before it, or it is a PORT RESET, which follows those before it (R459). -/
inductive PortSlot where
  | pending
  | ready (a : Answer)
  | reset
  deriving DecidableEq, Repr, Inhabited

/-- An EVENT message sent on a connection, with the GAP it carries (R457). -/
structure EvSent where
  ev : Option EvRec
  gap : Option (Nat × Nat)
  deriving DecidableEq, Repr, Inhabited

/-- An object-port connection (R447 to R449): among the rest its last answer, and the places of the requests not answered yet. -/
structure Conn where
  role : Role
  port : EthNo
  addr : Nat
  stage : StageState := .empty
  stageRecs : List Rec := []
  base : Nat := 0
  code : W32 := 0
  sub : Option Subscription := none
  cursor : Nat := 0
  queue : List EvRec := []
  gap : Option (Nat × Nat) := none
  gapFirst : Option (Nat × Nat) := none
  sent : Option EvSent := none
  receiptSel : Option Nat := none
  changeSel : Option Nat := none
  nodeSel : Option Nat := none
  answer : Option Answer := none
  slots : List PortSlot := []
  deriving DecidableEq, Repr, Inhabited

/-- The object port. -/
structure Port where
  /-- The 256 connections (R447) [R] -/
  conns : Vector (Option Conn) 256 := Vector.replicate 256 none
  /-- Events kept, newest first, at most 65 536 (R455); while the logic die is down, those in the power die's cells (R578) [R] -/
  events : List EvRec := []
  /-- Events raised since this start, 32 bits (R455) [R] -/
  raised : Nat := 0
  /-- 32-bit start count, in MRAM (R455) [D] -/
  startCount : Nat := 0
  deriving DecidableEq, Repr, Inhabited

/-- Outcome text of line 2 (Table 11.1). -/
inductive TokenText where
  | none
  | enter20
  | accepted (amount : Nat)
  | keyChanged (g : Nat)
  | invalid
  | alreadyUsed
  | creditLimit
  | oldKey
  | redeem
  | locked (secondsLeft : Nat)
  | testAll
  | testShow (held g : Nat)
  | sealBroken
  | notOffered
  deriving DecidableEq, Repr, Inhabited

/-- Token state of one outlet (R423 to R441). -/
structure TokenOutlet where
  /-- Entry buffer, up to 20 digits, first digit first (R423) [D] -/
  buffer : List (Fin 10) := []
  /-- Instant of the last press (R423) [M] -/
  lastPress : Nat := 0
  /-- Outcome text of line 2 (R424) [D] -/
  text : TokenText := .none
  /-- Instant at which the text was put up (R424) [M] -/
  textAt : Nat := 0
  /-- Scribe times of the failures in the window, newest first (R433) [D] -/
  failures : List Nat := []
  /-- Scribe time at which the lockout ends (R433) [D] -/
  lockEnd : Option Nat := none
  /-- Held credit in minor units (R435) [D] -/
  held : Nat := 0
  /-- Scribe time at which the hold time ends (R435, R437) [D] -/
  holdEnd : Option Nat := none
  /-- The hold time ended at a second mark: the holder's tick of the mark, once its journal entry has come; plug-ins stamped up to
  that tick still take the credit (R436) [D] -/
  holdDue : Option (Option Nat) := none
  /-- The 20 digits of the change token on the display, with the instant of its issue (R441) [D] -/
  change : Option (Nat × Nat) := none
  deriving DecidableEq, Repr, Inhabited

/-- An entry of the token log (Table 11.14). -/
structure TokenLogEntry where
  outlet : Nat
  cls : Nat
  tokenId : Nat
  amount : Nat
  outcome : TokenText
  scribe : Nat
  wall : Option Nat
  deriving DecidableEq, Repr, Inhabited

/-- The token unit (R426 to R442). -/
structure Tokens where
  /-- The outlets' token state (R423) [D] -/
  outlets : Vector TokenOutlet 64 := Vector.replicate 64 {}
  /-- 16-bit key generation g, 0 at commissioning (R429) [R] -/
  gen : Nat := 0
  /-- 24-bit highest TOKEN_ID accepted (R430) [D] -/
  high : Nat := 0
  /-- The used IDs from high - 4 096 to high: 4 097-bit bitmap as a list without repeats (R430) [D] -/
  used : List Nat := []
  /-- Change counter, 1 at commissioning (R441) [R] -/
  changeCounter : Nat := 1
  /-- Residue register in minor units (R440) [D] -/
  residue : Nat := 0
  /-- Waived register in minor units (R439) [D] -/
  waived : Nat := 0
  /-- Change tokens issued: TOKEN_ID and v (Table 11.14, change-token lookup) [D] -/
  issued : List (Nat × Nat) := []
  /-- Token log, newest first, 4 096 entries (Table 11.14) [D] -/
  log : List TokenLogEntry := []
  deriving DecidableEq, Repr, Inhabited

/-- A tamper record (Table 11.7). -/
structure TamperRec where
  /-- 32-bit COUNT (Table 11.7) [R] -/
  count : Nat := 0
  /-- 40-bit FIRST_SCRIBE (Table 11.7) [R] -/
  firstScribe : Nat := 0
  /-- 48-bit FIRST_WALL with FIRST_VALID (Table 11.7) [R] -/
  firstWall : Option Nat := none
  /-- 40-bit LAST_SCRIBE (Table 11.7) [R] -/
  lastScribe : Nat := 0
  /-- 48-bit LAST_WALL with LAST_VALID (Table 11.7) [R] -/
  lastWall : Option Nat := none
  deriving DecidableEq, Repr, Inhabited

/-- Tamper records and inputs (R444, R445). -/
structure Tamper where
  /-- Record of type E at index E - 1 (R444) [R] -/
  recs : Vector TamperRec 16 := Vector.replicate 16 {}
  /-- Debounced levels of TMP_IN_0 to TMP_IN_3; an unused input is tied to ground (R445) [D] -/
  inputs : Vector Bool 4 := Vector.replicate 4 false
  deriving DecidableEq, Repr, Inhabited

/-! ### The Barker (09_vehicle_sessions.md) -/

/-- States of a session context (Table 9.4). -/
inductive CtxState where | free | setup | auth | checks | delivering | paused | ending | closing
  deriving DecidableEq, Repr, Inhabited

/-- Phases of a session that form Juggler requests (Table 9.5). -/
inductive Phase where | none | discovery | cable | precharge | delivering
  deriving DecidableEq, Repr, Inhabited

/-- A session context (R352 to R361). Voltages in 0.1 V, currents in 0.1 A, powers in W. -/
structure Ctx where
  /-- State (Table 9.4) [R] -/
  st : CtxState := .free
  /-- Protocol: 1 DIN SPEC 70121, 2 ISO 15118-2, 3 ISO 15118-20, 0 not yet chosen (R367) [R] -/
  protocol : Nat := 0
  /-- Identification asked for (R337) [R] -/
  ident : Option IdKind := none
  /-- EMAID of a Plug & Charge contract (Table 10.10) [R] -/
  emaid : List Byte := []
  /-- 1 bit: transport security is in use (Table 9.1) [R] -/
  tls : Bool := false
  /-- 1 bit: the delivering flag (R353) [R] -/
  deliver : Bool := false
  /-- Phase (Table 9.5) [R] -/
  phase : Phase := .none
  /-- EV maximum voltage, current and power as given (Table 9.5) [R] -/
  evMax : Nat × Nat × Option Nat := (0, 0, none)
  /-- EV target voltage and current of the latest request (Table 9.5) [R] -/
  target : Nat × Nat := (0, 0)
  /-- Present voltage the vehicle has reported, in 0.1 V (R248) [R] -/
  presentV : Option Nat := none
  /-- 1 bit: ISO 15118-20 Dynamic control (Table 9.1) [R] -/
  dynamic : Bool := false
  /-- Requests for the Juggler: I_REQ, P_REQ, V_MAX (R358) [R] -/
  req : Nat × Nat × Nat := (0, 0, 0)
  /-- Instant from which the outlet voltage has stayed within CC_TOL (R359) [R] -/
  ccSince : Option Nat := none
  /-- 1 bit: the cable check has passed (R359) [R] -/
  ccOk : Bool := false
  /-- 1 bit: precharge is complete (R359) [R] -/
  precharged : Bool := false
  /-- Pause causes: safety, thermal, DIO silent, link (R356) [R] -/
  causes : List Nat := []
  /-- Instant of the entry to PAUSED (R352) [R] -/
  pausedAt : Nat := 0
  /-- Instant of the entry to AUTH (R337) [R] -/
  authAt : Nat := 0
  /-- Instant of the entry to SETUP (R362) [M] -/
  plugAt : Nat := 0
  /-- Line stamp of the entry to ENDING (R362) [M] -/
  endStamp : Nat := 0
  /-- The random value drawn last for the context (R338) [R] -/
  random : Option (BitVec 64) := none
  /-- Instant of the entry to CLOSING (R416) [R] -/
  closedAt : Nat := 0
  /-- End cause (Table 10.10) [R] -/
  endCause : Nat := 0
  /-- 1 bit: session stopped or TCP closed (Table 9.4) [R] -/
  stopped : Bool := false
  /-- 1 bit: welding detection in progress (Table 9.4) [R] -/
  welding : Bool := false
  /-- 1 bit: state F is sent in ENDING (R732) [R] -/
  stateF : Bool := false
  /-- SESSION_POLICY in force at the app-protocol handshake; empty before it (R367) [R] -/
  pol : List W32 := []
  /-- Last response of the context: accepted, and the values of Table 9.6 (R360) [R] -/
  reply : List Int := []
  deriving DecidableEq, Repr, Inhabited

/-- A DIO payload as sent to a dispenser (Table 9.3): CP_CMD, LAMPS, TEXT_SEQ, line 1, line 2. -/
structure DioOut where
  cp : Nat
  lamps : Nat
  textSeq : Nat
  line1 : List (Fin 10)
  line2 : TokenText
  change : Option (Nat × Nat)
  deriving DecidableEq, Repr, Inhabited

/-- What the Barker keeps of an outlet and its dispenser (R341 to R350). -/
structure Disp where
  /-- Latest accepted DIO with its instant (R346) [R] -/
  dio : Option (Dio × Nat) := none
  /-- 1 bit: DIO has been silent for DIO_PAUSE (R356) [R] -/
  silent : Bool := false
  /-- 1 bit: LINK_UP has fallen to 0 (R356) [R] -/
  linkDown : Bool := false
  /-- KEY_SEQ last seen (R347) [R] -/
  keySeq : Option Nat := none
  /-- 1 bit: a plug-in waits for a FREE context (R355) [R] -/
  waiting : Bool := false
  /-- Source address, and the instant of its last frame (R350) [R] -/
  addr : Option (Nat × Nat) := none
  /-- HW_REV, FW_REV, LINK and channels of the last HELLO (R349) [R] -/
  hello : Option HelloPay := none
  /-- 1 bit: admitted (R350) [R] -/
  admitted : Bool := false
  /-- Highest SEQ accepted (R343) [R] -/
  high : Option Nat := none
  /-- SEQs accepted within 32 of the highest (R343) [R] -/
  seen : List Nat := []
  /-- Instants of TAG failures within 10 s, newest first (R342) [R] -/
  authFails : List Nat := []
  /-- DIO sent last, with its instant (R346) [R] -/
  sent : Option (DioOut × Nat) := none
  /-- 16-bit TEXT_SEQ (Table 9.3) [R] -/
  textSeq : Nat := 0
  /-- HELLO answers sent (R349) [R] -/
  helloSent : Nat := 0
  /-- Length of the last vehicle-link frame passed to the stack, and frames passed (R344) [R] -/
  vlink : Nat × Nat := (0, 0)
  /-- The SDP response sent: 1 bit with TLS, and the SECC address in it (R332, R333) [R] -/
  sdp : Option (Bool × List Nat) := none
  deriving DecidableEq, Repr, Inhabited

/-- Frames discarded, per cause of R341 to R343 and R350 (Table 9.11). -/
structure Discards where
  crc : Nat := 0
  header : Nat := 0
  length : Nat := 0
  dir : Nat := 0
  identity : Nat := 0
  conflict : Nat := 0
  tag : Nat := 0
  replay : Nat := 0
  deriving DecidableEq, Repr, Inhabited

/-- The Barker. -/
structure Barker where
  /-- The 128 session contexts (R352) [R] -/
  ctxs : Vector Ctx 128 := Vector.replicate 128 {}
  /-- The 64 outlets' dispensers (R346) [R] -/
  disps : Vector Disp 64 := Vector.replicate 64 {}
  /-- Discard counters (Table 9.11) [R] -/
  discards : Discards := {}
  /-- Last 16 unknown DISP_IDs with address and tick (Table 9.11) [R] -/
  unknown : List (Nat × Nat × Nat) := []
  /-- 32-bit transmit SEQ of the module (R339, R340) [R] -/
  txSeq : Nat := 0
  /-- The words of the tunnel frame sent last; the standby computes it and discards it (R339, R340) [R] -/
  lastFrame : List W32 := []
  /-- TIME sent last: seconds, valid, nanoseconds, line stamp (R351) [R] -/
  timeSent : Option (Nat × Bool × Nat × Nat) := none
  /-- Day of the last certificate check (R365) [M] -/
  certDay : Option Nat := none
  deriving DecidableEq, Repr, Inhabited

/-! ### The Scribe (10_legal_metering.md) -/

/-- Accumulators of an outlet in 2^-32 mWh (R378, Table 10.3). -/
structure Regs where
  /-- Compensated delivered energy, total (Table 10.3) [R] -/
  comp : Nat := 0
  /-- Compensated delivered energy per tariff 1 to 8 (Table 10.3) [R] -/
  tariff : List Nat := [0, 0, 0, 0, 0, 0, 0, 0]
  /-- Reverse energy (Table 10.3) [R] -/
  rev : Nat := 0
  /-- Uncompensated delivered energy (Table 10.3) [R] -/
  unc : Nat := 0
  /-- Cable loss subtracted (Table 10.3) [R] -/
  loss : Nat := 0
  /-- Service register (Table 10.3) [R] -/
  service : Nat := 0
  /-- Maximum demand of the current month in W, with its capture time (R388, R403) [R] -/
  max : Nat × Nat := (0, 0)
  /-- Maximum demand of the previous month (R388) [R] -/
  prevMax : Nat × Nat := (0, 0)
  /-- Compensated energy of the latest session in mWh (Table 10.3) [R] -/
  session : Nat := 0
  deriving DecidableEq, Repr, Inhabited

/-- Sums of an outlet over the metering period in progress (R377): samples, of v * i, i * i and |i|. -/
structure PeriodSum where
  n : Nat := 0
  vi : Rat := 0
  ii : Rat := 0
  absI : Rat := 0
  deriving DecidableEq, Repr, Inhabited

/-- A metrology clock (R373, R376, R379): clocks since the last sample, lost, measured frequency in Hz. -/
structure Mdck where
  phase : Nat := 0
  lost : Bool := false
  freq : Nat := 0
  deriving DecidableEq, Repr, Inhabited

/-- Flags of intervals and sessions (Tables 10.8 and 10.10). -/
inductive MFlag where
  | repeated | powerFail | short | step | invalidTime | sealBroken | inputFault | compDefault | undated | nonLegal
  | solo | noCounter | prepaid | discounted
  deriving DecidableEq, Repr, Inhabited

/-- The demand interval in progress (R402): start times, scheduled end in TAI seconds, flags, compensated and reverse energy at
the start in mWh per outlet, sample time in seconds. -/
structure Interval where
  startScribe : Nat := 0
  startWall : Option Nat := none
  endWall : Option Nat := none
  flags : List MFlag := []
  energy : List Nat := []
  reverse : List Nat := []
  seconds : Rat := 0
  deriving DecidableEq, Repr, Inhabited

/-- An interval record (Table 10.8). -/
structure IntervalRec where
  seq : Nat
  flags : List MFlag
  startScribe : Nat
  startWall : Nat
  durationMs : Nat
  energy : List Nat
  deriving DecidableEq, Repr, Inhabited

/-- A session as the Scribe keeps it (R399 to R401, R415): energies in mWh, shortfall in W us per cause and tariff, amounts in
10^-2 minor units, credit in minor units. -/
structure Session where
  ctx : Nat
  protocol : Nat
  idType : Nat
  emaid : List Byte
  startWall : Option Nat
  startScribe : Nat
  regStart : Nat
  uncStart : Nat
  revStart : Nat
  tariff : Nat
  fee : Nat
  segs : List (Nat × Nat)
  segStart : Nat
  q2 : Rat := 0
  flags : List MFlag := []
  shorts : List (Nat × Nat × Nat) := []
  idleFrom : Option Nat := none
  idleGrace : Nat := 0
  idleMin : Nat := 0
  idleAmount : Nat := 0
  idleFee : Nat := 0
  idleNext : Nat := 0
  ended : Option (Nat × Option Nat × Nat) := none
  deriving DecidableEq, Repr, Inhabited

/-- A session receipt (Table 10.10): its number, context, body words 0 to the end of the segments, flags, counter block and
signature, and the change token to be issued with it: TOKEN_ID, v and amount. -/
structure Receipt where
  no : Nat
  ctx : Nat
  outlet : Nat
  total : Nat
  flags : List MFlag
  body : List W32
  counter : Option (Nat × Nat) := none
  signature : Option Nat := none
  /-- The counter-signature that this module, as the standby, has sent for it (R416). -/
  sent : Option Nat := none
  closedAt : Nat
  change : Option (Nat × Nat × Nat) := none
  deriving DecidableEq, Repr, Inhabited

/-- What the metrology log records (R386). -/
inductive MetLogKind where | sealSet | sealBroken | scribePart | openingReading
  deriving DecidableEq, Repr, Inhabited

/-- A metrology log entry (R386), with the legal version where it records a change of the Scribe part. -/
structure MetLogEntry where
  kind : MetLogKind
  scribe : Nat
  wall : Option Nat
  role : Option Role
  hash : Nat
  legal : Nat := 0
  deriving DecidableEq, Repr, Inhabited

/-- A power-fail or power-return record (R411, R412). -/
structure PowerFail where
  return_ : Bool
  scribe : Nat
  wall : Option Nat
  stamp : Nat
  tick : Nat
  sessions : List Nat
  deriving DecidableEq, Repr, Inhabited

/-- The metrology seal (R384, R385). -/
inductive SealState where | unsealed | sealed | broken
  deriving DecidableEq, Repr, Inhabited

/-- What the Scribe commits to MRAM at every second mark (R409, R442). -/
structure ScribeCore where
  /-- 40-bit Scribe time (R60) [R] -/
  time : Nat := 0
  /-- Registers and accumulators of the 64 outlets (R387) [R] -/
  regs : Vector Regs 64 := Vector.replicate 64 {}
  /-- Open sessions (R399) [R] -/
  sessions : List Session := []
  /-- The demand interval in progress (R402) [R] -/
  interval : Interval := {}
  /-- Last interval SEQ written (Table 10.8) [R] -/
  seq : Nat := 0
  /-- Last RECEIPT_NO of the hub (Table 10.10) [R] -/
  receiptNo : Nat := 0
  /-- Latest local month whose start has been taken, as 12 * year + month - 1 (R388) [R] -/
  month : Option Nat := none
  /-- Highest wall time reached before a backward step, while it is not passed again (R406) [R] -/
  highest : Option Nat := none
  /-- Credit held by the sessions, context and minor units (R435, R436) [R] -/
  credits : List (Nat × Nat) := []
  deriving DecidableEq, Repr, Inhabited

/-- The Scribe. -/
structure Scribe where
  /-- 1 bit: the Scribe is open (R91 step 8, R671) [R] -/
  open_ : Bool := false
  /-- Registers and the rest that is committed (R409) [R] -/
  core : ScribeCore := {}
  /-- The committed copies, newest first, two at most, with the token and tamper state (R409, R442) [R] -/
  copies : List (ScribeCore × Tokens × Tamper) := []
  /-- Metering sums of the period in progress (R377) [R] -/
  sums : Vector PeriodSum 64 := Vector.replicate 64 {}
  /-- The metrology clocks MDCK_0 to MDCK_7 (R373) [D] -/
  mdck : Vector Mdck 8 := Vector.replicate 8 {}
  /-- Bits of each MD channel, newest first (R374) [D] -/
  bits : Vector (List Bool) 128 := Vector.replicate 128 []
  /-- 1 bit per outlet: the metrology input is faulty (R379) [R] -/
  faulty : Vector Bool 64 := Vector.replicate 64 false
  /-- 1 bit per outlet: a conductor temperature was invalid in the last period (R389) [R] -/
  compDef : Vector Bool 64 := Vector.replicate 64 false
  /-- Tariff in force (R394) [D] -/
  tariff : Nat := 1
  /-- Interval profile, newest first, 7 281 records (R402) [R] -/
  profile : List IntervalRec := []
  /-- Receipt store, newest first, 1 024 receipts (Table 10.9) [R] -/
  receipts : List Receipt := []
  /-- Receipts built and not yet signed (R415, R417) [R] -/
  building : List Receipt := []
  /-- Metrology log, newest first, 1 024 entries (R386) [R] -/
  metLog : List MetLogEntry := []
  /-- Power-fail log, newest first, 64 records (Table 10.12) [R] -/
  powerLog : List PowerFail := []
  /-- Seal state (R384, R385) [R] -/
  seal_ : SealState := .unsealed
  /-- Sealed metrology hash (R384) [R] -/
  sealHash : Option Nat := none
  /-- Last opening reading sent or taken (Table 10.12) [R] -/
  opening : Option OpeningRec := none
  /-- Scribe and wall time of a PFAIL whose power return has not come (R411, R412) [R] -/
  pfail : Option (Nat × Option Nat) := none
  deriving DecidableEq, Repr, Inhabited

/-! ### The safety net (12_safety_net.md) -/

/-- A safety input (R469 to R472, R489). -/
structure SafeIn where
  /-- Level as last sampled; high means no demand (R468) [D] -/
  level : Bool := false
  /-- Instant since which the level has stood (R478) [M] -/
  levelAt : Nat := 0
  /-- Consecutive counted samples at that level, 200 at most (R471) [R] -/
  run : Nat := 0
  /-- 1 bit: the channel is in demand (R471) [R] -/
  demand : Bool := false
  /-- Instant at which it entered or left demand (R476) [M] -/
  since : Nat := 0
  /-- Cause of a fault: 0 missing pulse, 1 foreign pulse, 2 discrepancy (R472, R476) [R] -/
  fault : Option Nat := none
  /-- 1 bit: repaired, not yet acknowledged (R489) [R] -/
  repaired : Bool := false
  /-- The last completed high level, rise and fall, not yet judged as a press (R477) [R] -/
  press : Option (Nat × Nat) := none
  /-- Level of the last sample, counted or not (R472) [D] -/
  raw : Bool := false
  /-- Samples of the own pulse window in this period, 40 when it has passed (R469) [R] -/
  ownSamples : Nat := 0
  /-- Consecutive low samples of the own window (R472) [R] -/
  ownLow : Nat := 0
  /-- 1 bit: the own pulse has been seen in this period (R472) [R] -/
  ownPulse : Bool := false
  /-- Consecutive low samples inside the window of another source, after a high one (R472) [R] -/
  otherLow : Nat := 0
  /-- 1 bit: a foreign pulse has been seen in this period (R472) [R] -/
  otherPulse : Bool := false
  /-- 1 bit: the channel was in demand in this period, so its checks pause (R472) [R] -/
  paused : Bool := false
  /-- Consecutive periods with a missing pulse (R472) [R] -/
  missRun : Nat := 0
  /-- Consecutive periods with a foreign pulse (R472) [R] -/
  foreignRun : Nat := 0
  /-- Consecutive periods that passed both checks without demand (R489) [R] -/
  passRun : Nat := 0
  /-- Missing pulses (Table 12.7) [R] -/
  missing : Nat := 0
  /-- Foreign pulses (Table 12.7) [R] -/
  foreign_ : Nat := 0
  deriving DecidableEq, Repr, Inhabited

/-- A safety function (R475 to R489). -/
structure SafeFn where
  /-- 1 bit: in demand (R475) [R] -/
  demand : Bool := false
  /-- Cause: 0 channel, 1 faulty channel, 2 weld check, 3 Ringmaster (Table 12.7) [R] -/
  cause : Nat := 0
  /-- Instant at which the demand began (Table 12.8) [M] -/
  since : Nat := 0
  /-- 1 bit: the latch of a weld check (R478) [R] -/
  weld : Bool := false
  /-- 1 bit: forced demand by a fault that degraded mode does not permit (R475, R488) [R] -/
  forced : Bool := false
  /-- 1 bit: demand requested by the Ringmaster (R465) [R] -/
  asked : Bool := false
  /-- 1 bit: degraded mode (R487) [R] -/
  degraded : Bool := false
  /-- Whole minutes of degraded time, in the power die's cells (R487) [R] -/
  minutes : Nat := 0
  /-- Instant from which the minute in progress counts (R487) [M] -/
  minuteAt : Nat := 0
  deriving DecidableEq, Repr, Inhabited

/-- A safety output (R483 to R485). -/
structure SafeOut where
  /-- 1 bit: requested by the Ringmaster (R483) [R] -/
  req : Bool := false
  /-- 1 bit: on (R483, Table 3.9) [R] -/
  on : Bool := false
  /-- Instant at which it was last switched (R478, R485) [M] -/
  at_ : Nat := 0
  /-- 1 bit: faulty until restart (R485) [R] -/
  faulty : Bool := false
  /-- Result of the last dark test (Table 12.7) [R] -/
  dark : Option Bool := none
  deriving DecidableEq, Repr, Inhabited

/-- A change-log entry (Table 12.5). -/
structure ChangeEntry where
  no : Nat
  kind : Nat
  role : Nat
  subject : Nat
  scribe : Nat
  wall : Option Nat
  crc : W32
  hash : Nat
  deriving DecidableEq, Repr, Inhabited

/-- The safety net. -/
structure Safety where
  /-- The SAFETY_SECTION payload that the power die evaluates (R493, R497) [R] -/
  sect : List W32 := []
  /-- CRC sealed by the power die (R497) [D] -/
  sealedCrc : W32 := 0
  /-- The 32 inputs (R468) [R] -/
  ins : Vector SafeIn 32 := Vector.replicate 32 {}
  /-- The 32 functions (R474) [R] -/
  fns : Vector SafeFn 32 := Vector.replicate 32 {}
  /-- The 8 outputs (R483) [R] -/
  outs : Vector SafeOut 8 := Vector.replicate 8 {}
  /-- 16 ms period of the power die's clock that the last cycle fell in (R469, R472) [R] -/
  period : Nat := 0
  /-- Evaluation cycles since the power die started (R462) [R] -/
  cycles : Nat := 0
  /-- 1 bit: the evaluation channels disagreed in the last cycle (R463) [R] -/
  disagreed : Bool := false
  /-- 1 bit: SAFETY_NET_FAULT (R463) [R] -/
  netFault : Bool := false
  /-- 1 bit: this module's LEGS_OFF line is asserted (R480) [R] -/
  legsOwn : Bool := false
  /-- 1 bit: the partner's LEGS_OFF is asserted (R467) [R] -/
  legsPartner : Bool := false
  /-- Outlets for which the partner's safety net signals a pause (R467) [R] -/
  pausePartner : BitVec 64 := 0
  /-- Divergences since start (R465) [R] -/
  divergences : Nat := 0
  /-- Instant at which the power die last started (R469) [M] -/
  dieAt : Nat := 0
  /-- Instant of the last heartbeat of the Ringmaster since the logic die left reset (R490) [M] -/
  beatAt : Option Nat := none
  /-- Instant at which orphan mode was entered (R490) [R] -/
  orphan : Option Nat := none
  /-- 1 bit: the outputs are held for an activation, as in orphan mode (R690) [R] -/
  orphanAct : Bool := false
  /-- 1 bit: ORPHAN_S has expired, outputs off until service (R492) [R] -/
  orphanOut : Bool := false
  /-- Instant at which the logic die is released from its 10 ms reset (R490) [R] -/
  resetUntil : Option Nat := none
  /-- Hash of the safety password; none has been set (R495) [R] -/
  password : Option Nat := none
  /-- Instants of the wrong passwords of the last 10 min, newest first (R496) [R] -/
  wrong : List Nat := []
  /-- Instant at which the refusal after five wrong passwords ends (R496) [R] -/
  refusedUntil : Option Nat := none
  /-- Change log, newest first, 1 024 entries (R498) [R] -/
  log : List ChangeEntry := []
  /-- Last ENTRY_NO (R498) [R] -/
  entryNo : Nat := 0
  deriving DecidableEq, Repr, Inhabited

/-! ### Pump drives and load switches (13_pump_drives_and_load_switches.md) -/

/-- A pump driver (R504 to R523). -/
structure Pump where
  /-- State (Table 13.5) [R] -/
  st : PumpState := .off
  /-- Speed command, 0 to 1 (R508) [R] -/
  cmd : Rat := 0
  /-- Applied duty at `dutyAt` (R508) [R] -/
  duty : Rat := 0
  /-- Instant at which the duty stood so (R508) [M] -/
  dutyAt : Nat := 0
  /-- Target the duty moves towards (R508, R523) [R] -/
  target : Rat := 0
  /-- Hall code A B C (R504); open inputs are pulled up [D] -/
  hall : Fin 8 := 7
  /-- Instant from which the code has stood (R506, R507) [M] -/
  hallAt : Nat := 0
  /-- The code before it: the phases whose part has changed wait DEAD after the step (R505) [R] -/
  lastHall : Fin 8 := 7
  /-- Instant at which a PWM period began; periods follow each other from there (R505, log 142) [M] -/
  pwmAt : Nat := 0
  /-- 1 bit: the driver heads for ORPHAN_DUTY until the next speed command (R523) [R] -/
  orphanHold : Bool := false
  /-- Instants of the Hall edges within the last second, newest first (R524, speed) [R] -/
  edges : List Nat := []
  /-- 3 bits A, B, C: the high side of the phase is held off after BST_UV (R511) [R] -/
  hsOff : List Bool := [false, false, false]
  /-- Instants of BST_UV events within 1 s, newest first (R511) [R] -/
  bstAt : List Nat := []
  /-- Instant of the last fault with cause BST_UV (Table 13.12) [M] -/
  bstFault : Option Nat := none
  /-- Retries used (R520) [R] -/
  retries : Nat := 0
  /-- Instant of the last entry to RUN, or of the last fault in it (R520) [M] -/
  runAt : Nat := 0
  /-- Instant of the entry to RETRY_WAIT (R519) [M] -/
  waitAt : Nat := 0
  /-- Instant at which a diagnosis failed, while in DIAG (R518) [R] -/
  diagFailed : Option Nat := none
  /-- Last result of the diagnosis with its tick (Table 13.13) [R] -/
  diagLast : Option (DiagResult × Nat) := none
  /-- Last result of each test of Table 13.4, 1 bit passed, with its tick (Table 13.13) [R] -/
  diagTests : List (Option (Bool × Nat)) := [none, none, none, none]
  /-- Instant at which the sequence of tests began (R517) [M] -/
  diagAt : Nat := 0
  /-- Faults with cause SHORT, STALL, HALL, BST_UV (Table 13.13) [R] -/
  faults : List Nat := [0, 0, 0, 0]
  /-- BST_UV events (Table 13.13) [R] -/
  bstEvents : Nat := 0
  /-- Refresh pulses (Table 13.13) [R] -/
  refreshes : Nat := 0
  /-- Instant of the last refresh pulse of each phase (R509) [M] -/
  refreshAt : List Nat := [0, 0, 0]
  /-- Failed diagnoses (Table 13.13) [R] -/
  diagFails : Nat := 0
  deriving DecidableEq, Repr, Inhabited

/-- States of a load switch (Table 13.8). -/
inductive LsState where | off | turnOn | on | retryWait | uvHold | latched
  deriving DecidableEq, Repr, Inhabited

/-- A load-switch channel (R525 to R540). -/
structure LoadSw where
  /-- State (Table 13.8) [R] -/
  st : LsState := .off
  /-- Level of LS_nn_IN, pulled down (R525) [D] -/
  input : Bool := false
  /-- Retries used (R536) [R] -/
  retries : Nat := 0
  /-- Instant at which RETRY_MS ends, while a wait is pending (R536, R539) [R] -/
  waitEnd : Option Nat := none
  /-- 1 bit: thermal latch (R535) [R] -/
  hot : Bool := false
  /-- 1 bit: thermal warning (R535) [R] -/
  warn : Bool := false
  /-- 1 bit: open-load flag of the 50 mA threshold (R531) [R] -/
  olStd : Bool := false
  /-- 1 bit: open-load flag of OL_FINE (R531) [R] -/
  olFine : Bool := false
  /-- Missing-freewheel events since restart or clear (R534) [R] -/
  freewheels : Nat := 0
  /-- Instant from which the on-time has been continuous without a fault (R538) [M] -/
  cleanAt : Nat := 0
  /-- Instant of the last turn-off (R534) [M] -/
  offAt : Nat := 0
  /-- Instant at which the turn-on sequence last began (R532) [M] -/
  turnAt : Nat := 0
  deriving DecidableEq, Repr, Inhabited

/-- A supply group (R539). -/
structure SupplyGroup where
  /-- 1 bit: in undervoltage (R539) [R] -/
  uv : Bool := false
  /-- Entries to UV_HOLD (Table 13.13) [R] -/
  count : Nat := 0
  deriving DecidableEq, Repr, Inhabited

/-- Pumps, load switches, timers. -/
structure Drives where
  /-- The 8 pump drivers (R502) [R] -/
  pumps : Vector Pump 8 := Vector.replicate 8 {}
  /-- PUMP, LOAD_SWITCH and REGULATOR records as the power die holds them (R523, R559) [R] -/
  recs : List Rec := []
  /-- The partner's pump states, and whether a diagnosis has failed (R522) [R] -/
  partnerPumps : List (PumpState × Bool) := []
  /-- Loops run at full demand because the partner's pumps are lost (R522) [R] -/
  soloLoops : List Nat := []
  /-- The 24 load switches (R525) [R] -/
  ls : Vector LoadSw 24 := Vector.replicate 24 {}
  /-- The supply groups VS_A, VS_B, VS_C (R539) [R] -/
  groups : Vector SupplyGroup 3 := Vector.replicate 3 {}
  /-- 24 timer outputs: 1 bit, the pulse is in its low phase, and the instant of the last toggle (R542) [R] -/
  timers : Vector (Bool × Nat) 24 := Vector.replicate 24 (false, 0)
  deriving DecidableEq, Repr, Inhabited

/-! ### Regulators and supplies (14_regulators_and_supplies.md) -/

/-- States of BUCK_4 and BUCK_5 (Table 14.2). -/
inductive RegState where | off | delay | softStart | run | rampDown | hiccup | retryWait | latched
  deriving DecidableEq, Repr, Inhabited

/-- A regulator BUCK_4 or BUCK_5 (R551 to R565). References in mV at FB. -/
structure Reg where
  /-- State (Table 14.2) [R] -/
  st : RegState := .off
  /-- Instant of the entry to the state (Table 14.2) [M] -/
  stAt : Nat := 0
  /-- Reference at `refAt` (R556) [R] -/
  ref : Rat := 0
  /-- Instant at which the reference stood so (R556) [M] -/
  refAt : Nat := 0
  /-- Target reference (R555) [R] -/
  target : Nat := 0
  /-- Instant at which a turn-off was commanded, while DLY_OFF runs (R556) [R] -/
  offAt : Option Nat := none
  /-- 1 bit: locked to REG_SYNC, or gliding to it (R552) [R] -/
  sync : Bool := false
  /-- Frequency of REG_SYNC in kHz as last measured (R552) [D] -/
  syncKhz : Nat := 0
  /-- Switching frequency in kHz at `freqAt` (R551, R552) [D] -/
  freq : Rat := 0
  /-- Instant at which the frequency stood so (R552) [M] -/
  freqAt : Nat := 0
  /-- Retries used (R564) [R] -/
  retries : Nat := 0
  /-- 1 bit: thermal warning (R563) [R] -/
  warn : Bool := false
  /-- 1 bit: thermal latch (R563) [R] -/
  hot : Bool := false
  /-- Instants of the overvoltages within 1 s, newest first (R562) [R] -/
  ovAt : List Nat := []
  /-- 1 bit: overvoltage in progress, the high side held off (R562) [R] -/
  ov : Bool := false
  /-- 1 bit: power-good (R558) [R] -/
  pg : Bool := true
  /-- Instant from which RUN has been without a fault (R564) [M] -/
  cleanAt : Nat := 0
  deriving DecidableEq, Repr, Inhabited

/-- What the power die is doing with the rails (R567 to R571). -/
inductive RailState where | off | up | faultWait | latched
  deriving DecidableEq, Repr, Inhabited

/-- Regulators, rails, supply monitoring and die temperatures. -/
structure Supply where
  /-- BUCK_4 and BUCK_5 (R547) [R] -/
  regs : Vector Reg 2 := Vector.replicate 2 {}
  /-- State of the rails BUCK_0 to BUCK_3 (R567) [R] -/
  rails : RailState := .off
  /-- Instants of the rail faults within 60 s, newest first (R568) [R] -/
  railFaults : List Nat := []
  /-- Rail faults recorded (Table 14.8) [R] -/
  railCount : Nat := 0
  /-- AUX_IN in 0.1 V as last reported (Table 14.8) [D] -/
  auxIn : Nat := 0
  /-- Instant of the PFAIL assertion that committed the module to a restart (R570, R571) [R] -/
  pfail : Option Nat := none
  /-- Last hold-up time in whole ms, in the power die's cells (R573) [R] -/
  holdup : Option Nat := none
  /-- 1 bit: that time has not been reported yet (R573) [R] -/
  holdupDue : Bool := false
  /-- Temperatures of the 16 sensors (Table 14.5) [D] -/
  temps : Vector Int 16 := Vector.replicate 16 25
  /-- 1 bit per sensor: warning (R574) [R] -/
  warns : Vector Bool 16 := Vector.replicate 16 false
  /-- 1 bit per sensor: alarm (R574) [R] -/
  alarms : Vector Bool 16 := Vector.replicate 16 false
  /-- 1 bit: the power die has shut down at its central alarm (Table 14.5) [R] -/
  hotShut : Bool := false
  deriving DecidableEq, Repr, Inhabited

/-! ### Pair operation (15_pair_operation.md) -/

/-- A copy of an input held by the standby (R586): source, digest, phase of its arrival, the input itself. -/
structure InputCopy where
  source : Nat
  digest : Nat
  phase : Nat
  input : JInput
  deriving DecidableEq, Repr, Inhabited

/-- A Trapeze link (Table 15.10). -/
structure TzLink where
  /-- 1 bit: the link is up (R619) [R] -/
  up : Bool := false
  /-- Times the link was lost (Table 15.10) [R] -/
  errors : Nat := 0
  /-- Measured delay in ns (Table 15.10) [D] -/
  delay : Nat := 0
  /-- Heartbeats sent on the link (R591) [R] -/
  sent : Nat := 0
  /-- What the last of them carried (R591) [R] -/
  lastBeat : Option Beat := none
  deriving DecidableEq, Repr, Inhabited

/-- A divergence test in progress (R601): when it began, whether an ink point has passed since (R602), mismatches counted. -/
structure Diverge where
  started : Nat
  inked : Bool
  more : Nat
  deriving DecidableEq, Repr, Inhabited

/-- A planned yield (R598): cause, and the half-turn at whose boundary it takes place. -/
structure YieldPlan where
  cause : Nat
  half : Nat
  deriving DecidableEq, Repr, Inhabited

/-- The last completion of a continuous self-test: its tick and result (R608). -/
structure SelfTest where
  tick : Nat
  pass : Bool
  deriving DecidableEq, Repr, Inhabited

/-- The pair. -/
structure Pair where
  /-- Pair state (Table 15.1) [R] -/
  st : PairState := .none
  /-- 1 bit: the leg drivers and RING_OUT may be driven (R592, R595) [R] -/
  driving : Bool := false
  /-- 1 bit: RING_OUT emits the ring (R591, Table 3.9) [R] -/
  ringOut : Bool := false
  /-- Instant of the takeover decision, while the stroke boundary of R595 is awaited [R] -/
  decided : Option Nat := none
  /-- 1 bit: the takeover is cold and waits for the first stroke boundary (R604) [R] -/
  cold : Bool := false
  /-- 1 bit: the ring is lost (R593) [R] -/
  ringLost : Bool := false
  /-- 1 bit: the heartbeat is lost (R593) [R] -/
  beatLost : Bool := false
  /-- 1 bit: a yield message has arrived (R594) [R] -/
  yieldSeen : Bool := false
  /-- Planned yield (R598) [R] -/
  plan : Option YieldPlan := none
  /-- The partner's last heartbeat with its instant (R591) [R] -/
  beat : Option (Beat × Nat) := none
  /-- The partner as it showed itself at pairing (R580) [R] -/
  partner : Option PartnerInfo := none
  /-- TZ_0 and TZ_1 (R591) [R] -/
  links : Vector TzLink 2 := Vector.replicate 2 {}
  /-- 32-bit last JSEQ formed or received (Table 15.3) [R] -/
  jseq : Nat := 0
  /-- JSEQ of the last entry that has taken effect; none before the first (R586) [R] -/
  applied : Option Nat := none
  /-- Journal entries waiting for their EFFECT (R585) [R] -/
  journal : List JPending := []
  /-- Copies of inputs the standby keeps for 4 turns (R586) [R] -/
  copies : List InputCopy := []
  /-- Entries, fetches, entries late at EFFECT, copies discarded (Table 15.10) [R] -/
  jcounts : Nat × Nat × Nat × Nat := (0, 0, 0, 0)
  /-- Instants of the fetches of CAN frames within 1 s, newest first (R607) [R] -/
  canFetches : List Nat := []
  /-- Last stroke record applied (R588) [R] -/
  strokeRec : Nat := 0
  /-- Alignment error to the holder in ns (R589) [D] -/
  align : Int := 0
  /-- Phase since which the error has been above 50 ns (R590) [M] -/
  misFrom : Option Nat := none
  /-- Takeovers (Table 15.10) [R] -/
  takeovers : Nat := 0
  /-- Line stamp of the last takeover (Table 15.10) [D] -/
  takeoverStamp : Nat := 0
  /-- Causes of DEGRADED since start (R607) [R] -/
  degraded : List Nat := []
  /-- Divergence test in progress (R601) [R] -/
  diverge : Option Diverge := none
  /-- Digests of the last 64 half-turns: boundary, own digest, the partner's (Table 15.10) [R] -/
  digests : List (Nat × Nat × Option Nat) := []
  /-- Results committed in the half-turn: domain, SEQ, deviation from the exact result (R600) [R] -/
  commits : List (Nat × Nat × List W32) := []
  /-- Instants of the resyncs within one hour, newest first (R607) [R] -/
  resyncs : List Nat := []
  /-- Instant of the entry to RESYNC (Table 15.11) [M] -/
  resyncAt : Nat := 0
  /-- 1 bit: the partner is in RESYNC from this holder (Table 15.1) [R] -/
  partnerResync : Bool := false
  /-- Serials of partners for which PARTNER_REPLACED was raised (R611) [R] -/
  replaced : List Nat := []
  /-- Stroke of the contention yield in progress (R599) [R] -/
  contYield : Option Nat := none
  /-- Net of the agreeing-drive test announced last, with the instant at which its window opened (R606) [R] -/
  agree : Option (Nat × Net × Nat) := none
  /-- Consecutive CAN transmit slots the standby did not hear (R607) [R] -/
  unheard : Nat := 0
  /-- Self-tests: 0 nibs, 1 Inkwell scrub, 2 LPDDR5X scrub, 3 calibration, 4 readback, 5 agreeing drive, 6 ring burst,
  7 heartbeats, 8 digest, 9 safety cross-check, 10 commit read-back, 11 CAN reception (Table 15.6) [R] -/
  tests : List (Nat × SelfTest) := []
  /-- Health report as last updated: instant, tests, DEGRADED causes, fenced nibs, pair state (R608) [R] -/
  health : List Int := []
  deriving DecidableEq, Repr, Inhabited

/-! ### Buses and ports (16_buses_and_ports.md) -/

/-- PTP (R647, R648). -/
structure Ptp where
  /-- Masters heard: port, Announce, instant of the last one (R648) [R] -/
  heard : List (Nat × PtpMaster × Nat) := []
  /-- Selected master: port and Announce (R648) [R] -/
  selected : Option (Nat × PtpMaster) := none
  /-- 1 bit: wall time is synchronised (R648) [R] -/
  sync : Bool := false
  /-- Consecutive Sync messages with an offset below 10 us (R648) [R] -/
  good : Nat := 0
  /-- Instant of the last Sync from the selected master (R648) [R] -/
  lastSync : Nat := 0
  /-- Offset and mean path delay of the last Sync in ns (Table 16.13) [D] -/
  offset : Int := 0
  /-- Mean path delay in ns (Table 16.13) [D] -/
  delay : Nat := 0
  deriving DecidableEq, Repr, Inhabited

/-- Error states of a CAN channel (R622). -/
inductive CanErr where | active | passive | busOff
  deriving DecidableEq, Repr, Inhabited

/-- Receive and transmit counters of a CAN channel (Table 16.13). -/
structure CanCounts where
  rx : Nat := 0
  tx : Nat := 0
  missed : Nat := 0
  errors : Nat := 0
  busOffs : Nat := 0
  fifoLoss : Nat := 0
  rejects : Nat := 0
  remote : Nat := 0
  deriving DecidableEq, Repr, Inhabited

/-- A CAN channel (R620 to R639). -/
structure Can where
  /-- Error state (R622) [R] -/
  err : CanErr := .active
  /-- Transmit error count (R622) [R] -/
  tec : Nat := 0
  /-- Receive error count (R622) [R] -/
  rec_ : Nat := 0
  /-- Follower: the arc and index of the cycle last started by a reference message (R631) [R] -/
  cycleRef : Option (Nat × Nat) := none
  /-- 1 bit: a reference message is awaited in vain (R631) [R] -/
  refLost : Bool := false
  /-- Attempt in progress: source 1 contactor, 2 cooling unit, 3 reference message, and index (R628) [R] -/
  attempt : Option (Nat × Nat) := none
  /-- The frame of that attempt: identifier and payload (Tables 7.9, 8.10, 16.3) [R] -/
  frame : Option (Nat × List Byte) := none
  /-- The window last taken, by cycle and entry (R626, R628) [M] -/
  win : Option (Nat × Nat) := none
  /-- 1 bit: the one attempt of that window has been made (R628) [R] -/
  tried : Bool := false
  /-- Frames missed and kept for the arbitration windows of their cycle: source, index, cycle (R628) [R] -/
  missed : List (Nat × Nat × Nat) := []
  /-- FIFO 0 and 1: frames with ticks, oldest first (R636) [R] -/
  fifo0 : List (CanFrame × Nat) := []
  /-- FIFO 1 (R636) [R] -/
  fifo1 : List (CanFrame × Nat) := []
  /-- Buffers that keep the latest frame: buffer, frame, tick (R636) [R] -/
  buffers : List (Nat × CanFrame × Nat) := []
  /-- Counters (Table 16.13) [R] -/
  counts : CanCounts := {}
  /-- Frames lost and the instant of the last CAN_RX_OVERFLOW, per FIFO (Table 16.14) [R] -/
  over0 : Nat × Option Nat := (0, none)
  /-- The same for FIFO 1 (Table 16.14) [R] -/
  over1 : Nat × Option Nat := (0, none)
  deriving DecidableEq, Repr, Inhabited

/-- An Ethernet port (R640 to R646). -/
structure Eth where
  /-- 1 bit: link up (R656) [R] -/
  link : Bool := false
  /-- 1 bit: the address failed duplicate address detection and is not used (R641) [R] -/
  dup : Bool := false
  /-- Frames received (Table 16.13) [R] -/
  rx : Nat := 0
  /-- Frames of another VLAN dropped (R642) [R] -/
  vlanDrops : Nat := 0
  /-- Tunnel duplicates discarded (R644) [R] -/
  dups : Nat := 0
  /-- Tick stamped on the last frame (R643) [D] -/
  lastStamp : Nat := 0
  /-- Neighbour discovery and echo answers sent (R641) [R] -/
  answers : Nat := 0
  deriving DecidableEq, Repr, Inhabited

/-- A telemetry stream (R650 to R652). -/
structure Telem where
  /-- 32-bit SEQ (Table 16.8) [R] -/
  seq : Nat := 0
  /-- Frames sent (Table 16.13) [R] -/
  sent : Nat := 0
  /-- Frames dropped (Table 16.13) [R] -/
  dropped : Nat := 0
  /-- Instant of the last TELEMETRY_DROP (R652) [M] -/
  dropAt : Option Nat := none
  /-- Waveform capture buffer of the stream: line stamp and filter values of each stroke captured and not yet sent, oldest first
  (Table 4.7) [D] -/
  waves : List (Nat × List Int) := []
  /-- Words of the last frame sent: header, payload, CRC (R650) [D] -/
  frame : List W32 := []
  deriving DecidableEq, Repr, Inhabited

/-- CAN channels, Ethernet ports, telemetry. -/
structure Buses where
  /-- CAN_0 to CAN_7 (R620) [R] -/
  can : Vector Can 8 := Vector.replicate 8 {}
  /-- ETH_0 to ETH_3 (R640) [R] -/
  eth : Vector Eth 4 := Vector.replicate 4 {}
  /-- Tunnel frames accepted within 100 ms: payload digest, instant and port, newest first (R644) [R] -/
  tunnelSeen : List (Nat × Nat × EthNo) := []
  /-- Line stamp at which service started: the CAN schedules run from the first cycle that begins then or later (R633) [R] -/
  schedFrom : Option Nat := none
  /-- The 16 telemetry streams (R650) [R] -/
  streams : Vector Telem 16 := Vector.replicate 16 {}
  deriving DecidableEq, Repr, Inhabited

/-! ### Identity, keys and update (17_keys_and_update.md) -/

/-- Life-cycle states (Table 17.4). -/
inductive Life where | manufacture | provisioned | commissioned | service | retired
  deriving DecidableEq, Repr, Inhabited

/-- What the module is (R1, R609, R669, R670, R713). -/
structure Ident where
  /-- 64-bit serial, one-time programmable (R669) [D] -/
  serial : Nat := 0
  /-- The factory-assigned MAC addresses of ETH_0 to ETH_3, 48 bits each (R640, log 155) [D] -/
  macs : Vector Nat 4 := Vector.replicate 4 0
  /-- 1 bit: the ordering code is FP-6400-N, a fuse (R1) [D] -/
  orderN : Bool := false
  /-- 1 bit: level of PAIR_POS (R579) [D] -/
  pairPos : Bool := false
  /-- Life-cycle state, in fuses and MRAM (R669) [D] -/
  life : Life := .provisioned
  /-- Hub binding, written at commissioning (R670) [R] -/
  hubId : Nat := 0
  /-- Partner serial of the pair binding (R670, R612) [R] -/
  partnerSerial : Nat := 0
  /-- Partner's identity key hash of the pair binding, none before the first pairing (R670) [R] -/
  partnerHash : Option Nat := none
  deriving DecidableEq, Repr, Inhabited

/-- A key slot (R657, R658): its attribute word, check value, refusals counted and the instant of the last KEY_DENIED. -/
structure KeySlot where
  /-- 32-bit attribute word (Table 17.1) [R] -/
  attr : W32 := 0
  /-- 32-bit key check value (R667) [D] -/
  kcv : W32 := 0
  /-- Refusals counted against the slot (R658) [R] -/
  denials : Nat := 0
  /-- Instant of the last KEY_DENIED (R658) [M] -/
  deniedAt : Option Nat := none
  deriving DecidableEq, Repr, Inhabited

/-- An entry of the key log (R666): slot, import or destroy, attribute word, caller, times. -/
structure KeyLogEntry where
  slot : Nat
  destroy : Bool
  attr : W32
  subject : Nat
  scribe : Nat
  wall : Option Nat
  deriving DecidableEq, Repr, Inhabited

/-- The attribute words of the slots Yarmor writes before delivery (Table 17.2). -/
def yarmorAttr (i : Nat) : W32 :=
  if i = 0 then 0x6810B8E0#32
  else if i = 1 then 0x7810B8E0#32
  else if i = 2 then 0x9433FA40#32
  else if i = 3 then 0xA433FA40#32
  else if i = 5 then 0x3082BC60#32
  else if i = 6 then 0x3810BCE0#32
  else 0#32

/-- The key unit. -/
structure Keys where
  /-- The 64 key slots; as delivered, slots 0 to 3, 5 and 6 are written (R657, R659) [R] -/
  slots : Vector KeySlot 64 := ⟨⟨(List.range 64).map fun i => { attr := yarmorAttr i }⟩, by simp⟩
  /-- Key log, newest first, 256 entries (R666) [R] -/
  log : List KeyLogEntry := []
  deriving DecidableEq, Repr, Inhabited

/-- States of a staging (Table 17.9). -/
inductive StagingState where | empty | header | receiving | checking | ready | failed
  deriving DecidableEq, Repr, Inhabited

/-- The staging of one kind of package (R680 to R685): header pieces held, header words, received piece indices. -/
structure Staging where
  /-- State (Table 17.9) [R] -/
  st : StagingState := .empty
  /-- Header pieces held in RAM (R681) [R] -/
  hdrPieces : List (Nat × List W32) := []
  /-- Header words of the staging in progress (Table 17.7) [R] -/
  header : List W32 := []
  /-- Received bitmap: indices less the base (R683) [R] -/
  got : List Nat := []
  /-- Pieces that failed their hash within this staging (R682) [R] -/
  bad : Nat := 0
  deriving DecidableEq, Repr, Inhabited

/-- The armed state (R687 to R689): deadline, DRAIN, the two results, the named activation boundary as a line stamp. -/
structure Armed where
  deadline : Nat
  drain : Bool
  own : Option Bool := none
  partner : Option Bool := none
  boundary : Option Nat := none
  deriving DecidableEq, Repr, Inhabited

/-- The outcome of an activation in the activation log (Table 17.13): package identities, 0 done or 1 reverted, the tick. -/
structure ActivationRec where
  pkg1 : Nat
  pkg2 : Nat
  result : Nat
  tick : Nat
  deriving DecidableEq, Repr, Inhabited

/-- Firmware update. -/
structure Update where
  /-- Staging of KIND 1 (R680) [R] -/
  fw : Staging := {}
  /-- Staging of KIND 2 (R680) [R] -/
  img : Staging := {}
  /-- The inactive bank holds a valid set (R681, R99) [D] -/
  inactiveValid : Bool := false
  /-- Armed state (R687) [R] -/
  armed : Option Armed := none
  /-- The bank that ran before the TRIAL marker was written (R690) [R] -/
  trial : Option BankId := none
  /-- The trial runs a new firmware set, a new image (R691) [R] -/
  trialKinds : Bool × Bool := (false, false)
  /-- The partner's report of its trial (R691, R692) [R] -/
  trialPartner : Option Bool := none
  /-- A revert is to be raised after the restart: module and step (R692) [M] -/
  revertDue : Option (Nat × Nat) := none
  /-- 8-bit anti-rollback fuse counter (R693) [D] -/
  fuse : Nat := 0
  /-- Ticks of service on the active manifest, and the instant of this service's start (R693) [R] -/
  served : Nat × Option Nat := (0, none)
  /-- Legal release: part 6 hash and LEGAL_VER (R695) [R] -/
  release : Option (Nat × Nat) := none
  /-- The last 16 activations, newest first (Table 17.13) [R] -/
  log : List ActivationRec := []
  deriving DecidableEq, Repr, Inhabited

end Sys2Proof.Machine
end

