-- ==== Sys2Proof/Syntax.lean ====
section
/-!
DEFINITION. The commands of the block: one constructor of Instr for each row of spec/opcode_table.json, with the
operands the rules give the step. The first operand `t` of each command is the instant at which it takes place, in
ticks of 2.5 ns (R50, R52), on the model's own clock (log 1). Other operands are what the module sees at its balls and
ports at that instant: levels, measured values and how long they have lasted, and the fields of the frames received.
-/
namespace Sys2Proof

open Sys2Proof.Machine

/-- What a state transfer brings of the holder's state (R603, R61, R274, R372, R413): the result domains of the Inkwell and the
LPDDR5X (legs, groups, laws, allocation, thermal model, next SEQs), the Barker, the Scribe's working state and MRAM region with
tokens and tamper records, the pair's counters, and the two curtailment sources: state (0 LIFTED, 1 ACTIVE, 2 SILENT), value in kW,
remaining validity in ticks. Instants are given on the clock of the module that takes them. -/
structure Transfer where
  legs : Vector Leg 128
  groups : Vector LegGroup 43
  offSides : Bool × Bool
  laws : Vector Law 43
  seqs : List (Nat × Nat)
  juggler : Juggler
  thermal : Thermal
  barker : Barker
  work : Scribe
  tokens : Tokens
  tamper : Tamper
  takeovers : Nat × Nat
  curtObj : Nat × Option Nat × Option Nat
  curtCan : Nat × Option Nat × Option Nat
  deriving DecidableEq, Repr, Inhabited

/-- The commands: one constructor per row of the opcode table, in the table's order. -/
inductive Instr where
  -- 03 start
  | powerUp (t volts10 : Nat)
  | startStepTimeout (t : Nat) (step : Step)
  | pairing (t : Nat) (p : PartnerInfo)
  | pairWinExpiry (t : Nat)
  -- 02 Carousel
  | refFail (t : Nat) (set : SetId) (obs : RefObs)
  | refValid (t : Nat) (set : SetId) (m : LineMeas) (arcs : Nat)
  | locked (t : Nat) (obs : LockObs)
  | relock (t : Nat) (obs : LockObs)
  | startWinExpiry (t : Nat)
  | glide (t : Nat)
  | nominal (t : Nat)
  | revert (t : Nat)
  | strokeBoundary (t : Nat) (ma mb : LineMeas) (x : StrokeObs)
  | halfTurnBoundary (t : Nat) (half : Nat)
  | ptpAnnounce (t : Nat) (port : EthNo) (m : PtpMaster)
  | ptpSync (t : Nat) (port : EthNo) (identity : Nat) (offsetNs : Int) (pathDelayNs : Nat)
  | ptpTimeout (t : Nat)
  | wallTimeSet (t : Nat) (conn : ConnNo) (sec nsec : Nat)
  | scribeTimeCount (t : Nat)
  -- 11, 03 object port
  | get (t : Nat) (conn : ConnNo) (obj : Obis) (attr : Nat) (sel : Option (Nat × Nat))
  | set (t : Nat) (conn : ConnNo) (obj : Obis) (attr : Nat) (val : List Int)
  | setStage (t : Nat) (conn : ConnNo) (base : Nat) (recs : List Rec)
  | check (t : Nat) (conn : ConnNo)
  | commit (t : Nat) (conn : ConnNo) (code : W32) (boundary : Nat)
  | revisionAck (t : Nat) (hash : Nat)
  | revisionCancelled (t : Nat)
  | subscribe (t : Nat) (conn : ConnNo) (names : List Ev) (seq : Option Nat)
  | event (t : Nat) (conn : ConnNo)
  | attest (t : Nat) (conn : ConnNo) (nonce : List Byte)
  | updatePiece (t : Nat) (conn : ConnNo) (piece : Nat) (data : List W32) (sigOk : Bool)
  | portReset (t : Nat) (conn : ConnNo)
  | connectionOpen (t : Nat) (port : EthNo) (addr : Nat) (ou : Option Role) (ca : Option Nat) (timeValid : Bool)
  | connectionLost (t : Nat) (conn : ConnNo)
  | malformedMessage (t : Nat) (conn : ConnNo) (why : Malformed)
  | bankRevert (t : Nat) (conn : ConnNo) (obs : ImageObs)
  -- 04 nibs
  | taskRelease (t : Nat) (k : TaskKind)
  | taskTake (t : Nat) (nib : NibNo) (obs : ReadObs)
  | park (t : Nat) (x : ParkObs)
  | taskComplete (t : Nat) (nib : NibNo) (err : List W32)
  | thirdCopyTimeout (t : Nat) (l : LawNo)
  | deadlineMiss (t : Nat) (dom seq : Nat)
  | inkwellScrub (t : Nat) (addr : Nat) (obs : ScrubObs)
  | dramScrub (t : Nat) (channel : Fin 2) (block : Nat) (obs : ScrubObs)
  | nibBistStart (t : Nat)
  | nibBistDone (t : Nat) (nib : NibNo) (pass : Bool)
  -- 05, 06 legs and laws
  | legFault (t : Nat) (leg : LegNo) (lowTicks : Nat)
  | readbackFault (t : Nat) (leg : LegNo)
  | driveContention (t : Nat) (leg : LegNo) (net : Net) (mV : Nat)
  | contentionResolved (t : Nat) (leg : LegNo) (net : Net) (cleanStroke : Bool)
  | legsOffAsserted (t : Nat) (side : Side)
  | legsOffReleased (t : Nat) (side : Side)
  | legClear (t : Nat) (conn : ConnNo) (leg : LegNo)
  | feedbackLost (t : Nat) (chan : SdChan) (clocks : Nat)
  | sdckLost (t : Nat) (clk : SdckNo) (obs : ClockObs)
  | sdckValid (t : Nat) (clk : SdckNo) (turns : Nat)
  | lawClear (t : Nat) (conn : ConnNo) (l : LawNo)
  -- 07 Juggler
  | inkPoint (t : Nat) (other : Option InkVals)
  | curtailmentWrite (t : Nat) (conn : ConnNo) (limitKw validS : Nat)
  | gridCommand (t : Nat) (chan : CanNo) (payload : BitVec 64)
  | curtSilent (t : Nat) (src : CurtSource)
  | contactorStatus (t : Nat) (g : ConvNo) (payload : W32)
  | matrixTimeout (t : Nat) (g : ConvNo)
  | matrixClear (t : Nat) (conn : ConnNo) (g : ConvNo)
  -- 08 thermal
  | aiSample (t : Nat) (readings : List Nat)
  | sensorValid (t : Nat) (sensor : Fin 32)
  | dispTempStale (t : Nat) (outlet : OutletNo) (chan : Fin 4)
  | thermalDisagree (t : Nat) (sensor : Fin 288)
  | dcuStatus (t : Nat) (inst : Nat) (payload : BitVec 64)
  | dcuSilent (t : Nat) (inst : Nat)
  | nodeViewSet (t : Nat) (conn : ConnNo) (node : Nat)
  -- 09 Barker
  | vlink (t : Nat) (src : Nat) (port : EthNo) (d : Datagram)
  | sdpRequest (t : Nat) (outlet : OutletNo) (tls : Bool)
  | v2gMessage (t : Nat) (ctx : CtxNo) (msg : V2g)
  | seccTimeout (t : Nat) (ctx : CtxNo)
  | authWait (t : Nat) (ctx : CtxNo)
  | cableCheck (t : Nat) (ctx : CtxNo)
  | deliveringFlagClear (t : Nat) (ctx : CtxNo)
  | dio (t : Nat) (x : Sender) (d : Datagram)
  | entryTimeout (t : Nat) (outlet : OutletNo)
  | dioSend (t : Nat) (outlet : OutletNo)
  | dioPause (t : Nat) (outlet : OutletNo)
  | dioEnd (t : Nat) (outlet : OutletNo)
  | pauseMax (t : Nat) (ctx : CtxNo)
  | hello (t : Nat) (x : Sender) (d : Datagram)
  | timeSend (t : Nat)
  | certExpiring (t : Nat) (certs : List CertExpiry)
  -- 10 Scribe
  | periodMark (t : Nat) (m : Mark)
  | meterInputFault (t : Nat) (outlet : OutletNo) (obs : MeterObs)
  | seal (t : Nat) (conn : ConnNo)
  | sealBreak (t : Nat) (conn : ConnNo)
  | receiptSelect (t : Nat) (conn : ConnNo) (no : Nat)
  | counterSignature (t : Nat) (ctx : CtxNo) (serial : Nat) (sig : Nat)
  | noCounter (t : Nat) (ctx : CtxNo)
  | sessionReceipt (t : Nat) (ctx : CtxNo)
  | changeDisplayTimeout (t : Nat) (outlet : OutletNo)
  | changeTokenLookup (t : Nat) (conn : ConnNo) (tokenId : Nat)
  | openingReading (t : Nat) (r : OpeningRec)
  | tamperInput (t : Nat) (input : Fin 4) (debouncedMs : Nat) (level : Bool)
  -- 12 safety net
  | safetyCycle (t : Nat) (levels : BitVec 32) (disagree : Bool) (soHigh : BitVec 8)
  | safetyDemand (t : Nat) (input : SiNo)
  | safetyClear (t : Nat) (input : SiNo)
  | pulseFault (t : Nat) (input : SiNo) (obs : PulseObs)
  | discrepancyTimeout (t : Nat) (fn : FuncNo)
  | resetPress (t : Nat) (input : SiNo) (rise : Nat)
  | weldDemand (t : Nat) (fn : FuncNo)
  | degradedExpired (t : Nat) (fn : FuncNo)
  | channelRepaired (t : Nat) (input : SiNo)
  | safetyAcknowledge (t : Nat) (conn : ConnNo) (fn : FuncNo)
  | safetyCrossCheck (t : Nat) (divergent : List FuncNo)
  | darkTest (t : Nat) (so : SoNo) (readbackLow : Bool)
  | soOvercurrent (t : Nat) (so : SoNo) (mA : Nat)
  | heartbeat (t : Nat)
  | orphanEnter (t : Nat)
  | orphanTimeout (t : Nat)
  | safetyChange (t : Nat) (conn : ConnNo) (pw : List Byte) (ch : SafetyChange)
  | safetyChangeUnlock (t : Nat)
  -- 13 pumps and load switches
  | hallChange (t : Nat) (pump : PumpNo) (code : Fin 8) (stableNs : Nat) (bstMv : List Nat)
  | hallFault (t : Nat) (pump : PumpNo)
  | stall (t : Nat) (pump : PumpNo)
  | bootstrapRefresh (t : Nat) (pump : PumpNo) (phase : Fin 3) (sinceLowNs : Nat)
  | bstUv (t : Nat) (pump : PumpNo) (phase : Fin 3) (mv : Nat)
  | pumpShort (t : Nat) (pump : PumpNo) (obs : List SenseObs)
  | vmHold (t : Nat) (pump : PumpNo) (dv lastedUs : Nat)
  | vmRecovered (t : Nat) (pump : PumpNo) (dv lastedMs : Nat)
  | pumpDiag (t : Nat) (pump : PumpNo) (obs : DiagObs)
  | pumpDiagRepeat (t : Nat) (pump : PumpNo)
  | pumpRetry (t : Nat) (pump : PumpNo)
  | pumpRetryReset (t : Nat) (pump : PumpNo)
  | pumpClear (t : Nat) (conn : ConnNo) (pump : PumpNo)
  | partnerPumpState (t : Nat) (states : List (PumpState × Bool))
  | lsInChange (t : Nat) (ls : LsNo) (level : Bool)
  | lsTurnOnComplete (t : Nat) (ls : LsNo) (outPct : Nat)
  | lsShort (t : Nat) (ls : LsNo) (x : LsSense) (supplyMv us : Nat)
  | lsOverload (t : Nat) (ls : LsNo) (mA ms : Nat)
  | lsSlewFault (t : Nat) (ls : LsNo) (outMv supplyMv : Nat)
  | lsOpenLoad (t : Nat) (ls : LsNo) (th : OlThreshold) (below : Bool) (uA ms : Nat)
  | lsFreewheel (t : Nat) (ls : LsNo) (outMv : Int) (us : Nat)
  | lsThermal (t : Nat) (ls : LsNo) (degC : Int)
  | lsRetry (t : Nat) (ls : LsNo)
  | lsRetryReset (t : Nat) (ls : LsNo)
  | lsSupplyUv (t : Nat) (vs : VsNo) (mv us : Nat)
  | lsSupplyRecovered (t : Nat) (vs : VsNo) (mv us : Nat)
  | loadSwitchClear (t : Nat) (conn : ConnNo) (ls : LsNo)
  -- 14 regulators and supplies
  | regTurnOn (t : Nat) (buck : BuckNo)
  | regTurnOff (t : Nat) (buck : BuckNo)
  | regRampDone (t : Nat) (buck : BuckNo)
  | regSyncLock (t : Nat) (buck : BuckNo) (khz : Nat)
  | syncLost (t : Nat) (buck : BuckNo) (waitNs khz : Nat)
  | regHiccup (t : Nat) (buck : BuckNo) (x : RegSense) (periods : Nat)
  | regHiccupEnd (t : Nat) (buck : BuckNo)
  | regFault (t : Nat) (buck : BuckNo) (fbPct us : Nat)
  | regThermal (t : Nat) (buck : BuckNo) (degC : Int)
  | regRetryWaitEnd (t : Nat) (buck : BuckNo)
  | regPg (t : Nat) (buck : BuckNo) (fbPermille ms : Nat)
  | regRetryReset (t : Nat) (buck : BuckNo)
  | regulatorClear (t : Nat) (conn : ConnNo) (buck : BuckNo)
  | railFault (t : Nat) (rail : Fin 4) (mV us : Nat) (hiccup : Bool)
  | railRestart (t : Nat)
  | auxInLow (t : Nat) (volts10 : Nat)
  | pfail (t : Nat) (ballUs auxLowUs : Nat)
  | pfailPowerDown (t : Nat) (auxVolts10 : Nat)
  | dieTempMonitor (t : Nat) (r : TempReadings)
  -- 15 pair
  | journalEntryReceived (t : Nat) (x : JPending)
  | payloadFetch (t : Nat) (x : JPayload)
  | journalEffect (t : Nat) (jseq : Nat)
  | unmatchedCopyDiscard (t : Nat) (source digest : Nat)
  | strokeRecord (t : Nat) (r : StrokeRec)
  | carouselAlignment (t : Nat) (delayNs : Nat) (errNs : Int)
  | misalignment (t : Nat) (errNs : Int)
  | pairHeartbeat (t : Nat) (link : Fin 2) (b : Option Beat)
  | ringWatchdogLapse (t : Nat) (ticks : Nat)
  | ringLost (t : Nat) (ticks : Nat)
  | heartbeatLost (t : Nat)
  | newHolderDrive (t : Nat)
  | yield_ (t : Nat)
  | yieldMessage (t : Nat)
  | yieldExecute (t : Nat) (conn : ConnNo)
  | partnerDigest (t : Nat) (boundary digest : Nat)
  | divergenceResult (t : Nat) (own : OwnTest) (partnerPass : Bool)
  | resyncDone (t outstanding mib : Nat) (x : Transfer)
  | agreeingDriveTest (t : Nat) (leg : LegNo) (net : Net) (mV : Nat) (edgeNear : Bool)
  | ringBurst (t : Nat) (transitions : Nat)
  | healthReport (t : Nat)
  | linkState (t : Nat) (link : Fin 2) (up : Bool)
  | recommission (t : Nat) (conn : ConnNo) (p : PartnerInfo)
  -- 16 buses and ports
  | canFrameReceived (t : Nat) (chan : CanNo) (f : CanFrame)
  | canWindow (t : Nat) (chan : CanNo) (entry : Nat) (idle heard : Bool)
  | canTxDone (t : Nat) (chan : CanNo) (e : TxEnd)
  | canBusOffRecovery (t : Nat) (chan : CanNo) (occurrences : Nat)
  | canRefLost (t : Nat) (chan : CanNo)
  | ethFrameReceived (t : Nat) (port : EthNo) (vid : Nat) (k : EthKind)
  | ethLink (t : Nat) (port : EthNo) (up : Bool)
  | ethAddrDup (t : Nat) (port : EthNo)
  | telemetrySend (t : Nat) (stream : Fin 16) (queueFull : Bool)
  -- 17 keys and update
  | keyImport (t : Nat) (conn : ConnNo) (slot : SlotNo) (k : KeyImport)
  | keyDestroy (t : Nat) (conn : ConnNo) (slot : SlotNo)
  | commission (t : Nat) (conn : ConnNo) (hubId partner : Nat)
  | retire (t : Nat) (conn : ConnNo) (serial : Nat)
  | updateCheckDone (t : Nat) (kind2 : Bool) (obs : ImageObs)
  | updateAbort (t : Nat) (conn : ConnNo) (kind2 : Bool)
  | arm (t : Nat) (conn : ConnNo) (deadlineMin : Nat) (drain : Nat)
  | disarm (t : Nat) (conn : ConnNo)
  | armPrepareDone (t : Nat) (partner : Option Bool) (obs : ImageObs)
  | activationDeadline (t : Nat)
  | activationDone (t : Nat) (partnerPass : Bool)
  | activationReverted (t : Nat) (partnerReverted : Bool)
  | rollbackAdvanced (t : Nat)
  | rollbackCommit (t : Nat) (conn : ConnNo)
  | legalRelease (t : Nat) (conn : ConnNo) (partHash legalVer : Nat)
  -- rows added at the table's end
  | startStepComplete (t : Nat) (step : Step) (obs : ImageObs)
  | logicDieRestart (t : Nat)
  | legEdge (t : Nat) (leg : LegNo) (hi lo : Bool) (mv : Nat × Nat)
  | legSample (t : Nat) (leg : LegNo)
  | modulatorClock (t : Nat) (metering : Bool) (clk : SdckNo) (bits : BitVec 16)
  | outcomeTextExpiry (t : Nat) (outlet : OutletNo)
  | dutyRampedToZero (t : Nat) (pump : PumpNo)
  | timerOutputPulse (t : Nat) (tmr : LsNo)
  | canReceiveError (t : Nat) (chan : CanNo) (e : RxErr)
  deriving DecidableEq, Repr

end Sys2Proof
end

