-- ==== Sys2Proof/Config.lean ====
section
/-!
DEFINITION. Constants the spec fixes, and the values it leaves open: a constant without a body stands for a value that
the spec does not state, or for a cryptographic function, of which nothing may be computed or proved.
-/
namespace Sys2Proof.Config

/-- Ticks of the 400 MHz main clock in a second (R52). -/
def ticksPerSec : Nat := 400000000
/-- Ticks in a millisecond. -/
def ticksPerMs : Nat := 400000
/-- Ticks in a microsecond. -/
def ticksPerUs : Nat := 400
/-- Phase units in a turn: the 32-bit fraction of R40, each part counted 400 000 000 times (log 2). -/
def turnUnits : Nat := 2 ^ 32 * 400000000
/-- Phase units in an arc: 1/65 536 of a turn (Table 0.4). -/
def arcUnits : Nat := 2 ^ 16 * 400000000
/-- Phase units in a half-turn. -/
def halfUnits : Nat := 2 ^ 31 * 400000000
/-- One 1/512 Hz, the unit of the CAROUSEL record, in 2^-32 Hz (R62). -/
def freqUnit : Nat := 2 ^ 23

/-- The Park transform of three mantissas at an angle (a 32-bit fraction of a turn): the d and q mantissas at the same
exponent. The spec gives neither the scale of the transform nor the rounding of its sines (log 9). -/
opaque park (theta : Nat) (u v w : Int) : Int × Int
/-- The inverse Park transform at an angle: the u, v and w mantissas at the same exponent (log 9). -/
opaque invPark (theta : Nat) (d q : Int) : Int × Int × Int
/-- Whether the Carousel frequency in rad/s, at a frequency in 2^-32 Hz, is rounded up to the next BF24 mantissa: Table 6.1 does not
say how it is rounded (log 9). -/
opaque omegaUp (freq : Nat) : Bool

/-- The temperature in degC of a thermistor or PT1000 from its reading: KIND, B constant, R25 and the reading in 1/65 536 of the
input range. The spec gives neither the divider nor the PT1000 circuit (log 12). -/
opaque sensorTemp (kind b r25 reading : Nat) : Rat
/-- The thermal nodes whose record or power-table entry lies in an LPDDR5X block (channel, block), each with the version, 0 or
1, that the block holds. The spec gives the regions' sizes but not their addresses (log 13). -/
opaque dramNodes (channel block : Nat) : List (Nat × Nat)

/-- HOME of a task whose home the spec does not give, by result domain and SEQ: cooling and P4 tasks (log 43). -/
opaque taskHome (dom seq : Nat) : Fin 32
/-- KERNEL, the number in the microcode library of the kernel of a code: 0 BUCK_GROUP chain, 1 AFE_UNIT chain, 2 Juggler, 3 fast tier,
4 base tier, 5 cooling law, 6 calibration check (Table 4.3, log 125). -/
opaque kernelNo (code : Nat) : BitVec 16
/-- Where the module places a result domain, or an input of it, within the region that holds it: a number that is reduced into the region
(Table 4.3, Table 4.4, log 125). -/
opaque placeOf (dom place : Nat) : Nat
/-- Blocks of state (0), inputs (1) and result (2) of a streaming kernel by its code (R112, log 125). -/
opaque streamBlocks (code part : Nat) : Fin 65535
/-- SNAP of an input reference, by result domain, SEQ and place (Table 4.4, log 125). -/
opaque refSnap (dom seq place : Nat) : BitVec 16
/-- COEF, the index of the coefficient block of a kernel, by result domain (Table 4.3, log 125). -/
opaque coefOf (dom : Nat) : BitVec 16
/-- What a kernel has left in an accumulator of its nib, by the index of free values (R105, log 123). -/
opaque accValue (free place : Nat) : BitVec 48
/-- What a kernel has left in a 64-bit word of the local memory of its nib, by the index of free values (R105, log 123). -/
opaque localWord (free word : Nat) : BitVec 64
/-- How many allocations the 256 MiB of the allocation log hold (Table 4.7, log 126). -/
opaque allocLogDepth : Nat

/-- A quantity that an object shows and no command carries to the model: a measured voltage, current, rate or speed; by the running
index of free values and the place in the object (log 46). -/
opaque measured (free place : Nat) : Int
/-- The public part of the key in a slot, by the module's serial and the slot's check value (Table 17.13, log 46). -/
opaque slotPublic (slot serial kcv : Nat) : Nat
/-- A Yarmor device certificate as words, for slot 0, 1 or 6 of the module of a serial (Table 17.13, log 46). -/
opaque deviceCert (slot serial : Nat) : List Int

/-- The LPDDR5X fit is that of 16 GiB rather than that of 8 (R713); an order option with no field in the image (log 45). -/
opaque dramLarge : Bool

/-- The fitted LPDDR5X capacity in GiB (R144, R713, Table 4.10). -/
def dramGiB : Nat := if dramLarge then 16 else 8

/-- The first 8 bytes of SHA-256 of a client's certificate subject, by its role and address (R666). The subject itself is not an
operand of the connection (log 15). -/
opaque subjectHash (role addr : Nat) : Nat

/-- The receive error count of a CAN channel above 127 after a frame is received without error: ISO 11898-1 names the range 119
to 127 and leaves the value open (log 34). -/
opaque canRecAfter (n : Nat) : Fin 9

/-- A random value of the module's generator, by the index of free values (R338). -/
opaque randomValue (free : Nat) : BitVec 64
/-- TAG of a tunnel frame (R342): the first 64 bits of AES-256-CMAC under the key derived from a slot for a DISP_ID. -/
opaque tunnelTag (slot dispId : Nat) (words : List W32) : BitVec 64
/-- A character of a text that the spec does not spell out: the reasons of R425, and what a test token shows (R430, log 139). -/
opaque freeText (code a b : Nat) (place : Fin 24) : Byte

/-- A signature of words under the key of a slot (R417, R674). -/
opaque signature (slot : Nat) (words : List W32) : Nat
/-- The 24-bit token MAC of R427 under the token key of a generation: hub identity, CLASS, TOKEN_ID, bits [39:24]. -/
opaque tokenMac (gen hub cls id bits : Nat) : BitVec 24

/-- The first 64 bits of SHA-256 over the payload of the journal entry of an input, and its length in bytes (Table 15.3). -/
opaque payloadDigest (input : JInput) : Nat
opaque payloadLength (input : JInput) : Nat
/-- SHA-256 over serialised values (R600). -/
opaque sha256 (values : List Int) : Nat
/-- The hash of a safety password under the module's salt (R495). -/
opaque passwordHash (password : List Byte) : Nat
/-- The key check value of the metering key that a module generates at commissioning, by its serial (R667, R670). -/
opaque meteringKcv (serial : Nat) : W32
/-- The public metering key generated by the module of a serial, x then y (R670, Table 17.5). -/
opaque meteringPublic (serial : Nat) : Nat
/-- SHA-384 over the public part of the identity key in slot 0 or 1 of the module of a serial (R659, R673). -/
opaque identityHash (slot serial : Nat) : Nat

end Sys2Proof.Config
end

