-- ==== Sys2Proof/Machine/Bits.lean ====
section
/-!
DEFINITION. Helpers over bits, vectors and integers that the meanings share: reading a field of a record (R6), signed
readings, rounding, and updates of vectors. They stand here so that a later repair can mend them.
-/
namespace Sys2Proof.Machine

/-- The field [hi:lo] of word `i` of a record's payload; a missing word reads as zero (R6). -/
def fld (ws : List (BitVec 32)) (i hi lo : Nat) : Nat := ((ws.getD i 0).toNat >>> lo) % 2 ^ (hi + 1 - lo)

/-- The single bit `b` of word `i`. -/
def bit (ws : List (BitVec 32)) (i b : Nat) : Bool := fld ws i b b = 1

/-- A natural number of `n` bits read as two's complement. -/
def signed (n x : Nat) : Int := if 2 ^ (n - 1) ≤ x then (x : Int) - (2 ^ n : Nat) else x

/-- The field read as two's complement. -/
def sfld (ws : List (BitVec 32)) (i hi lo : Nat) : Int := signed (hi + 1 - lo) (fld ws i hi lo)

/-- Words `i` to `i + n - 1`, most significant first, as one number (R7). -/
def wide (ws : List (BitVec 32)) (i n : Nat) : Nat := ((ws.drop i).take n).foldl (fun a w => a * 2 ^ 32 + w.toNat) 0

/-- `x` divided by `d`, rounded to the nearest integer, halves up. -/
def roundHalfUp (x : Int) (d : Nat) : Int := (2 * x + d) / (2 * (d : Int))

/-- `x` divided by `d`, rounded to the nearest integer, halves away from zero. -/
def roundAway (x : Int) (d : Nat) : Int :=
  if 0 ≤ x then (2 * x + d) / (2 * (d : Int)) else -((2 * (-x) + d) / (2 * (d : Int)))

/-- `x` divided by `d`, rounded up, for a natural `x`. -/
def ceilDiv (x d : Nat) : Nat := (x + d - 1) / d

/-- `x` wrapped to -32 768 to 32 767 (arcs of a turn, R27). -/
def wrapArc (x : Int) : Int := (x + 32768) % 65536 - 32768

/-- `x` limited to [lo, hi]. -/
def clampInt (lo hi x : Int) : Int := max lo (min hi x)

/-- `x` moved towards `target` by at most `by_`. -/
def towards (x target by_ : Nat) : Nat := if x ≤ target then min target (x + by_) else max target (x - by_)

/-- Every element of a vector changed by a function of its index and value. -/
def vmapIdx {α : Type} {n : Nat} (f : Nat → α → α) (v : Vector α n) : Vector α n :=
  ⟨⟨v.toList.mapIdx f⟩, by simp⟩

/-- Every element of a vector changed. -/
def vmap {α : Type} {n : Nat} (f : α → α) (v : Vector α n) : Vector α n :=
  ⟨⟨v.toList.map f⟩, by simp⟩

/-- One element of a vector changed. -/
def vmod {α : Type} {n : Nat} (v : Vector α n) (i : Fin n) (f : α → α) : Vector α n := v.set i (f v[i])

/-- The value at the index of a vector given as a number; `d` outside it. -/
def vget {α : Type} {n : Nat} (v : Vector α n) (i : Nat) (d : α) : α := v.toList.getD i d

/-- The element at `i` of a vector replaced; nothing changes where `i` lies outside it. -/
def vput {α : Type} {n : Nat} (v : Vector α n) (i : Nat) (x : α) : Vector α n := v.setIfInBounds i x

/-- The first index of a vector whose element meets `p`. -/
def vfind {α : Type} {n : Nat} (v : Vector α n) (p : α → Bool) : Option Nat := v.toList.findIdx? p

/-- The association list with `k` bound to `v`. -/
def aput {α : Type} [BEq α] {β : Type} (l : List (α × β)) (k : α) (v : β) : List (α × β) :=
  (k, v) :: l.filter (fun p => !(p.1 == k))

/-- CRC-32C, reflected polynomial 0x82F63B78, one byte (R70). -/
def crc32cByte (c : BitVec 32) (b : BitVec 8) : BitVec 32 :=
  (List.range 8).foldl (fun c _ => if c.getLsbD 0 then (c >>> 1) ^^^ 0x82F63B78#32 else c >>> 1)
    (c ^^^ b.setWidth 32)

/-- The four bytes of a word, most significant first (R7). -/
def wordBytes (w : BitVec 32) : List (BitVec 8) :=
  [(w >>> 24).setWidth 8, (w >>> 16).setWidth 8, (w >>> 8).setWidth 8, w.setWidth 8]

/-- CRC-32C of words stored most significant byte first (R7, R70). -/
def crc32c (ws : List (BitVec 32)) : BitVec 32 :=
  ~~~ ((ws.flatMap wordBytes).foldl crc32cByte 0xFFFFFFFF#32)

/-- CRC-16/CCITT-FALSE, polynomial 0x1021, one byte (Table 4.3). -/
def crc16Byte (c : BitVec 16) (b : BitVec 8) : BitVec 16 :=
  (List.range 8).foldl (fun c _ => if c.getLsbD 15 then (c <<< 1) ^^^ 0x1021#16 else c <<< 1)
    (c ^^^ (b.setWidth 16 <<< 8))

/-- CRC-16/CCITT-FALSE of words stored most significant byte first (R7). -/
def crc16 (ws : List (BitVec 32)) : BitVec 16 := (ws.flatMap wordBytes).foldl crc16Byte 0xFFFF#16

end Sys2Proof.Machine
end

