-- ==== Sys2Proof/Machine/Hash.lean ====
section
/-!
DEFINITION. SHA-256 and SHA-384, which the spec names for RECORDS_HASH (Table 3.2), the section hash (R727), the attestation (R673) and the
vehicle-link addresses (R333). The functions are those of FIPS 180-4 (log 137): words of 32 or 64 bits as natural numbers, the constants
formed from the roots of the first primes.
-/
namespace Sys2Proof.Machine

/-- The first `k` binary digits decide the largest `r` with `r ^ p` at most `n`, below 2 ^ k. -/
def rootDown (p n : Nat) : Nat → Nat → Nat
  | 0, r => r
  | k + 1, r => rootDown p n k (if (r + 2 ^ k) ^ p ≤ n then r + 2 ^ k else r)

/-- The first `w` bits of the fraction of the p-th root of a number below 2 ^ 12. -/
def rootFrac (p w n : Nat) : Nat := rootDown p (n * 2 ^ (p * w)) (w + 6) 0 % 2 ^ w

/-- The primes below 410: the first eighty. -/
def shaPrimes : List Nat :=
  (List.range 410).filter fun n => 1 < n && (List.range 20).all fun d => d < 2 || n ≤ d || n % d ≠ 0

/-- One of the two functions: word length in bits, rounds, the shift amounts of the four mixing functions (three rotations each for
rounds; two rotations and a shift for the schedule), the hash value it starts from, bits of the result. -/
structure Sha where
  w : Nat
  big0 : Nat × Nat × Nat
  big1 : Nat × Nat × Nat
  small0 : Nat × Nat × Nat
  small1 : Nat × Nat × Nat
  consts : List Nat
  start : List Nat
  out : Nat
  deriving DecidableEq, Repr

/-- SHA-256. -/
def Sha.s256 : Sha :=
  { w := 32, big0 := (2, 13, 22), big1 := (6, 11, 25), small0 := (7, 18, 3), small1 := (17, 19, 10)
    consts := (shaPrimes.take 64).map (rootFrac 3 32), start := (shaPrimes.take 8).map (rootFrac 2 32), out := 8 }

/-- SHA-384: SHA-512 from another start, cut to six words. -/
def Sha.s384 : Sha :=
  { w := 64, big0 := (28, 34, 39), big1 := (14, 18, 41), small0 := (1, 8, 7), small1 := (19, 61, 6)
    consts := shaPrimes.map (rootFrac 3 64), start := ((shaPrimes.drop 8).take 8).map (rootFrac 2 64), out := 6 }

/-- A word rotated right. -/
def Sha.rotr (f : Sha) (x n : Nat) : Nat := (x >>> n) ||| ((x <<< (f.w - n)) % 2 ^ f.w)

/-- Three rotations combined, as the rounds use them. -/
def Sha.mixBig (f : Sha) (r : Nat × Nat × Nat) (x : Nat) : Nat := (f.rotr x r.1 ^^^ f.rotr x r.2.1) ^^^ f.rotr x r.2.2

/-- Two rotations and a shift combined, as the schedule uses them. -/
def Sha.mixSmall (f : Sha) (r : Nat × Nat × Nat) (x : Nat) : Nat := (f.rotr x r.1 ^^^ f.rotr x r.2.1) ^^^ (x >>> r.2.2)

/-- The message schedule, newest word first, extended by `n` words. -/
def Sha.extend (f : Sha) : Nat → List Nat → List Nat
  | 0, ws => ws
  | n + 1, ws =>
    let x := f.mixSmall f.small1 (ws.getD 1 0) + ws.getD 6 0 + f.mixSmall f.small0 (ws.getD 14 0) + ws.getD 15 0
    f.extend n (x % 2 ^ f.w :: ws)

/-- One round on the eight working words with the sum of its constant and schedule word. -/
def Sha.round (f : Sha) (v : List Nat) (kw : Nat) : List Nat :=
  match v with
  | [a, b, c, d, e, g, h, i] =>
    let choose := (e &&& g) ^^^ ((2 ^ f.w - 1 - e) &&& h)
    let most := ((a &&& b) ^^^ (a &&& c)) ^^^ (b &&& c)
    let t := i + f.mixBig f.big1 e + choose + kw
    [(t + f.mixBig f.big0 a + most) % 2 ^ f.w, a, b, c, (d + t) % 2 ^ f.w, e, g, h]
  | _ => v

/-- One block of sixteen words taken into the hash value. -/
def Sha.block (f : Sha) (h : List Nat) (m : List Nat) : List Nat :=
  let ws := (f.extend (f.consts.length - 16) m.reverse).reverse
  let v := ((f.consts.zip ws).map fun x => x.1 + x.2).foldl f.round h
  (h.zip v).map fun x => (x.1 + x.2) % 2 ^ f.w

/-- The blocks of a padded message, taken in turn. -/
def Sha.blocks (f : Sha) : Nat → List Nat → List Nat → List Nat
  | 0, _, h => h
  | n + 1, ws, h => f.blocks n (ws.drop 16) (f.block h (ws.take 16))

/-- Bytes, most significant first, as words of `k` bytes. -/
def packWords (k : Nat) : Nat → List Nat → List Nat
  | 0, _ => []
  | n + 1, bs => (bs.take k).foldl (fun a b => a * 256 + b) 0 :: packWords k n (bs.drop k)

/-- The hash of a message of bytes as one number, most significant byte first: padded with a one bit, zeros, and its length in bits in the
last two words of a block. -/
def Sha.hash (f : Sha) (msg : List Nat) : Nat :=
  let k := f.w / 8
  let n := ceilDiv (msg.length + 1 + 2 * k) (16 * k)
  let zeros := n * 16 * k - msg.length - 1 - 2 * k
  let body := packWords k (16 * n - 2) (msg ++ [128] ++ List.replicate zeros 0)
  let bits := 8 * msg.length
  let h := f.blocks n (body ++ [bits >>> f.w, bits % 2 ^ f.w]) f.start
  (h.take f.out).foldl (fun a x => a * 2 ^ f.w + x) 0

/-- SHA-384 over words stored most significant byte first (R7). -/
def sha384 (ws : List (BitVec 32)) : Nat := Sha.s384.hash ((ws.flatMap wordBytes).map BitVec.toNat)

/-- SHA-384 over bytes. -/
def sha384Bytes (bs : List Nat) : Nat := Sha.s384.hash bs

/-- SHA-256 over bytes. -/
def sha256Bytes (bs : List Nat) : Nat := Sha.s256.hash bs

end Sys2Proof.Machine
end

