-- ==== Sys2Proof/Machine/State.lean ====
section
/-!
DEFINITION. The state of the block, with the queue of waiting commands, its faults and refusals, and the state right after reset. The defaults
of the fields, here and in Parts.lean, together are State.reset; the letters [R], [D] and [M] are explained there.
-/
namespace Sys2Proof.Machine

/-- The block. -/
structure State where
  /-- Clock and tick counter (R52) [R] -/
  time : Time := {}
  /-- Next index of the free values (log 5) [M] -/
  free : Nat := 0
  /-- The Carousel (R34) [R] -/
  carousel : Carousel := {}
  /-- Wall time (R55) [R] -/
  wall : Wall := {}
  /-- Start-up and configuration (R91) [R] -/
  startup : Startup := {}
  /-- Configuration flashes (R66) [D] -/
  flash : Flashes := {}
  /-- The nib array (R102) [R] -/
  array : Array_ := {}
  /-- Legs and groups (R151, R157) [R] -/
  legs : Legs := {}
  /-- Control laws (R196) [R] -/
  laws : Laws := {}
  /-- The Juggler (R250) [R] -/
  juggler : Juggler := {}
  /-- Thermal model and cooling (R287) [R] -/
  thermal : Thermal := {}
  /-- The Barker (R352) [R] -/
  barker : Barker := {}
  /-- The Scribe (R370) [R] -/
  scribe : Scribe := {}
  /-- Identity and life cycle (R669) [R] -/
  ident : Ident := {}
  /-- Key slots (R657) [R] -/
  keys : Keys := {}
  /-- Firmware update (R685) [R] -/
  update : Update := {}
  /-- PTP (R647) [R] -/
  ptp : Ptp := {}
  /-- Pair operation (R582) [R] -/
  pair : Pair := {}
  /-- The object port and its events (R447, R455) [R] -/
  port : Port := {}
  /-- Tokens (R430) [R] -/
  tokens : Tokens := {}
  /-- Tamper records (R444) [R] -/
  tamper : Tamper := {}
  /-- The safety net (R462) [R] -/
  safety : Safety := {}
  /-- Pump drives, load switches and timer outputs (R502, R525, R542) [R] -/
  drives : Drives := {}
  /-- Regulators and supplies (R547, R566) [R] -/
  supply : Supply := {}
  /-- CAN channels, Ethernet ports and telemetry (R620, R640, R650) [R] -/
  buses : Buses := {}
  /-- Commands waiting, first in first out [M] -/
  pending : List Instr := []
  deriving DecidableEq, Repr, Inhabited

/-- Faults of a step. The block has none: a command whose condition does not hold leaves the state as it is, and no command
of the table stops the module. The one constructor is never raised. -/
inductive Fault where
  /-- Raised by nobody (safe). -/
  | none_
  deriving DecidableEq, Repr, Inhabited

/-- Refusals of a step. -/
inductive Refusal where
  /-- A command that has no meaning yet, by its mnemonic (safe: the run stops). -/
  | notModelled (mnemonic : String)
  deriving DecidableEq, Repr, Inhabited

/-- The machine right after reset: no supply, every field at its default. -/
def State.reset : State := {}

end Sys2Proof.Machine
end

