-- ==== Sys2Proof/Machine/Ops.lean ====
section
/-!
DEFINITION. The operations every family shares: the passing of time, the records in force, events, and the answers of the
object port.
-/
namespace Sys2Proof.Machine

open Sys2Proof.Config

/-- The outcome of a meaning. -/
abbrev Out := Host.Outcome State Fault Refusal

/-! ### Records in force -/

/-- The payloads of the records of a type in force: structural ones from the image, operational ones from the revision
in force (R72, R80). -/
def State.recs (s : State) (typ : Nat) : List (List W32) :=
  (s.startup.image ++ s.startup.oper).filterMap fun r => if r.typ = typ then some r.payload else none

/-- The payload of the one record of a type; empty where there is none. -/
def State.rec1 (s : State) (typ : Nat) : List W32 := (s.recs typ).headD []

/-- The payload of the record of a type whose instance field (word 0, [hi:lo]) is `i`. -/
def State.recAt (s : State) (typ hi lo i : Nat) : Option (List W32) :=
  (s.recs typ).find? fun p => fld p 0 hi lo = i

/-! ### Time -/

/-- F_NOM of the CAROUSEL record in 1/512 Hz (Table 2.3). -/
def State.fNom (s : State) : Nat := fld (s.rec1 0x0101) 0 15 0

/-- The way from frequency `f0` towards `f1` at 0.5 Hz/s over `dt` ticks: the frequency reached, and the phase gained (R34). -/
def glideTo (f0 f1 dt : Nat) : Nat × Nat :=
  let gap := if f0 ≤ f1 then f1 - f0 else f0 - f1
  -- the area between the ramp and f0, in phase units
  let area := if 2 ^ 31 * dt ≤ gap * ticksPerSec then 2 ^ 31 * dt * dt / (2 * ticksPerSec)
    else gap * dt - gap * gap * ticksPerSec / 2 ^ 32
  (towards f0 f1 (2 ^ 31 * dt / ticksPerSec), if f0 ≤ f1 then f0 * dt + area else f0 * dt - area)

/-- The Carousel over `dt` ticks: its phase advances at its frequency; in GLIDE the frequency moves towards F_NOM at 0.5 Hz/s from
the value it had at the start of the glide (R34, R40). -/
def Carousel.run (c : Carousel) (fNom dt : Nat) : Carousel :=
  if !c.running then c else
  match c.st with
  | .glide =>
    let el := c.glideFrom.1 + dt
    let g := glideTo c.glideFrom.2.2 (fNom * freqUnit) el
    { c with phase := c.glideFrom.2.1 + g.2, freq := g.1, ft := g.1, glideFrom := (el, c.glideFrom.2) }
  | _ => { c with phase := c.phase + c.freq * dt }

/-- Wall time over `dt` ticks, slewing an offset at 200 ppm: half a nanosecond in 1 000 ticks (R57). -/
def Wall.run (w : Wall) (dt : Nat) : Wall :=
  if w.slew = 0 then { w with half := w.half + 5 * dt, slewPart := 0 } else
  let part := w.slewPart + dt
  let lim : Int := (part / 1000 : Nat)
  let d := clampInt (-lim) lim w.slew
  { w with half := ((w.half + 5 * dt : Nat) + d).toNat, slew := w.slew - d, slewPart := part % 1000 }

/-- Time passes up to instant `t`; an instant already past leaves the clock where it is (R52: the counter never goes
back). -/
def State.advance (s : State) (t : Nat) : State :=
  let now := max s.time.clock t
  let dt := now - s.time.clock
  { s with
    time := { s.time with clock := now }
    carousel := s.carousel.run s.fNom dt
    wall := s.wall.run dt }

/-- The tick counter (R52). -/
def State.tick (s : State) : Nat := s.time.clock - s.time.tick0

/-- The line stamp of the arc in progress: TURN above ARC (R9); zero before the first lock (R33). -/
def State.stamp (s : State) : Nat := s.carousel.phase / arcUnits

/-- A tick within the span that the Carousel keeps, as the line stamp of the arc in progress at it: between two kept points the
frequency does not change (R54). The stamp in progress for a tick outside the span. -/
def State.stampOf (s : State) (tick : Nat) : Nat :=
  let at_ (p q : Nat × Nat) : Nat := if q.1 ≤ p.1 then p.2 else p.2 + (q.2 - p.2) * (tick - p.1) / (q.1 - p.1)
  let rec find (q : Nat × Nat) : List (Nat × Nat) → Option Nat
    | [] => none
    | p :: rest => if p.1 ≤ tick then some (at_ p q) else find p rest
  ((find (s.tick, s.carousel.phase) s.carousel.history).getD s.carousel.phase) / arcUnits

/-- A timeout of `dur` ticks started at instant `start` has expired: its expiry tick is over, so that an arrival in that tick has been
taken (R47, R48). -/
def State.expired (s : State) (start dur : Nat) : Bool := start + dur < s.time.clock

/-- A timeout of `dur` phase units started at a phase has expired: the arc in which it expires is over (R47, R48). -/
def State.lineExpired (s : State) (start dur : Nat) : Bool := (start + dur) / arcUnits < s.stamp

/-- Wall time in TAI seconds, where it is valid (R59). -/
def State.wallSec (s : State) : Option Nat :=
  if s.wall.valid then some (s.wall.half / 2000000000) else none

/-- Wall time in TAI seconds whether or not it is valid. -/
def State.wallRaw (s : State) : Nat := s.wall.half / 2000000000

/-- The next free value index is taken (log 5). -/
def State.nextFree (s : State) : State := { s with free := s.free + 1 }

/-! ### Events -/

/-- The subsystem code C whose status object governs an event (Table 0.6, R451); for the Scribe, whose objects have
value group A = 1 (R421), 1 000 is added. -/
def evClass : Ev → Nat
  | .locked | .refFail | .refValid | .refSwitch | .holdover | .glide | .nominal | .relock | .lateSchedule
  | .wallTimeStep | .ptpState => 128
  | .imageAccepted | .imageRefused | .serviceStart | .commitAccepted | .revisionApplied | .revisionCancelled
  | .revisionDiscarded | .bankRevert => 129
  | .p0Mismatch | .p0NoMajority | .nibSuspect | .nibFenced | .arrayLimit | .arrayDegraded | .deadlineMiss
  | .taskRefused | .inkwellDb | .dramUe => 130
  | .legFault | .legReadmitted | .groupDerated | .groupStopped | .legsOffAsserted | .legsOffReleased
  | .driveContention => 131
  | .lawStarted | .lawCoasted | .lawStopped | .feTrip | .feedbackLost | .feedbackFrozen | .sdckLost | .lawCleared => 132
  | .inkClamp | .pencilLate | .clampLate | .guaranteeCut | .curtailment | .curtSilent | .groupAttached
  | .groupReleased | .matrixFault => 133
  | .thermalWarn | .thermalThrottle | .thermalShutdown | .fastFull | .thermalDisagree | .sensorFault
  | .dispTempStale | .flowFallback | .dcuSilent | .thermalPoison => 134
  | .plugIn | .plugWait | .sessionAuthorised | .sessionRefused | .deliveryStart | .sessionPaused | .sessionResumed
  | .sessionEnd | .sessionClosed | .dispUnknown | .dispConflict | .tunnelAuth | .certExpiring => 135
  | .sessionReceipt | .intervalClosed | .meterInputFault | .sealSet | .sealBroken | .clockSetBack | .powerFailRecord
  | .compDefault | .noCounter | .openingReading => 1131
  | .tokenAccepted | .tokenRefused | .keypadLocked | .keypadUnlocked | .changeIssued | .tokenKeyChanged => 136
  | .tamper => 137
  | .safetyDemand | .safetyClear | .channelFault | .degradedStart | .degradedExpired | .soFault | .safetyNetFault
  | .safetyDiverge | .orphanEnter | .orphanExit | .safetyChange | .safetySectionActive => 138
  | .pumpFault | .pumpDiag | .pumpLatched | .pumpSoloLoop => 139
  | .lsFault | .lsLatched | .lsOpenLoad | .lsThermalWarn | .lsSupplyUv => 140
  | .regHiccup | .regFault | .regThermal | .regPg | .syncLost | .railFault | .holdupShort | .tempWarn | .tempAlarm => 141
  | .paired | .pairingFault | .takeover | .coldTakeover | .yield | .partnerLost | .linkState | .ringWire | .outOfStep
  | .digestMismatch | .divergenceResult | .resyncDone | .healthDegraded | .partnerReplaced | .recommissioned => 142
  | .canErrorPassive | .canBusOff | .canTxMissed | .canRxOverflow | .canRefLost => 143
  | .ethLink | .ethAddrDup | .telemetryDrop => 144
  | .keyDenied | .keyCorrupt | .keyChanged | .lifecycle => 145
  | .updateHeader | .updatePieceBad | .updateReady | .updateFailed | .updateAbandoned | .activationArmed
  | .activationDisarmed | .activationStart | .activationDone | .activationReverted | .rollbackAdvanced
  | .settingsReset | .legalRelease => 146

/-- An event reaches one connection: queued where subscribed, dropped and named in the gap where the queue of 4 096 is full
(R456, R457). -/
def Conn.deliver (c : Conn) (r : EvRec) : Conn :=
  match c.sub with
  | none => c
  | some sub =>
    if sub.names.isEmpty || sub.names.contains r.ev then
      if c.queue.length < 4096 then { c with queue := c.queue ++ [r] }
      else { c with gap := some ((c.gap.getD (r.seq, r.seq)).1, r.seq) }
    else c

/-- SEQ of the n-th event since this start: the start count above n (R455). -/
def Port.seqOf (p : Port) (n : Nat) : Nat := p.startCount * 2 ^ 32 + n

/-- An event enters the kept events and the queues of the subscribed connections (R455, R456). -/
def Port.record (p : Port) (e : Ev) (tick stamp : Nat) (val : List Int) : Port :=
  let r : EvRec := { seq := p.seqOf (p.raised + 1), ev := e, tick, stamp, val }
  { p with
    raised := p.raised + 1
    events := (r :: p.events).take 65536
    conns := vmap (Option.map (Conn.deliver · r)) p.conns }

/-- The module raises an event, with its tick and line stamp (R53, R455). -/
def State.raise (s : State) (e : Ev) (val : List Int) : State :=
  { s with port := s.port.record e s.tick s.stamp val }

/-! ### The input journal (R583 to R586) -/

/-- JOURNAL_LEAD in arcs (Table 15.8). -/
def State.journalLead (s : State) : Nat := fld (s.rec1 0x0E01) 0 31 24

/-- SOURCE of an input (Table 15.2). -/
def inputSource : JInput → Nat
  | .vlink .. | .dio .. | .hello .. => 1
  | .canFrame .. | .gridCommand .. | .contactorStatus .. | .dcuStatus .. => 2
  | .op .. | .activationBoundary .. => 3
  | .aiSample .. => 4
  | .random .. => 5
  | .mark .. => 7
  | .wallStep .. | .wallSlew .. | .ptpState .. => 8
  | .legsOff .. => 9
  | .tamperInput .. => 0xB
  | .ink .. | .legFault .. | .lawChange .. | .feedbackLost .. | .clockLost .. | .release .. | .carousel .. | .curtSilent ..
  | .matrixTimeout .. | .dispTempStale .. | .dcuSilent .. | .seccTimeout .. | .authWait .. | .pauseMax .. | .entryTimeout ..
  | .outcomeTextExpiry .. | .changeDisplayTimeout .. | .dioPause .. | .dioEnd .. | .noCounter .. | .canRefLost ..
  | .revisionCancelled | .activationDeadline => 6

/-- An inline entry carries its payload; tunnel and CAN frames are referenced (Table 15.2). -/
def inputInline (i : JInput) : Bool := 2 < inputSource i

/-- The tunnel frame of a referenced input of SOURCE 0x01. -/
def inputFrame : JInput → Option Tunnel
  | .vlink f | .dio f | .hello f => some f
  | _ => none

/-- LENGTH of the payload of an input, and its DIGEST, the first 64 bits of SHA-256 over it (Table 15.3): for a tunnel frame over
its UDP payload. The spec gives the other payloads no layout. -/
def inputSum (i : JInput) : Nat × Nat :=
  match inputFrame i with
  | some f =>
    (4 * f.words.length + f.extra.val,
      if f.extra.val = 0 then sha256Bytes ((f.words.flatMap wordBytes).map BitVec.toNat) / 2 ^ 192 else payloadDigest i)
  | none => (payloadLength i, payloadDigest i)

/-- An input enters the journal of the holder with the next JSEQ, EFFECT being the arc of its arrival plus JOURNAL_LEAD (R583 to R585). -/
def State.journal (s : State) (i : JInput) : State :=
  let q := (s.pair.jseq + 1) % 2 ^ 32
  let e : JEntry :=
    { source := inputSource i, inline_ := inputInline i, length := (inputSum i).1, jseq := q
      effect := s.stampOf s.tick + s.journalLead, arrival := s.tick, digest := (inputSum i).2 }
  let c := s.pair.jcounts
  { s with pair := { s.pair with
    jseq := q, journal := s.pair.journal ++ [{ entry := e, input := some i }], jcounts := (c.1 + 1, c.2) } }

/-- The pair states in which inputs take effect at the EFFECT stamp of a journal entry: the module forms them in HOLDER and SOLO, and
follows the holder's in STANDBY and RESYNC (R585, R587). -/
def journals : PairState → Bool
  | .holder | .solo | .standby | .resync => true
  | .none | .pairing | .detached => false

/-- The module decides for the pair, or stands alone: not a follower of a holder (R587). -/
def State.decides (s : State) : Bool := s.pair.st ≠ .standby && s.pair.st ≠ .resync

/-- An input reaches the module (R50, R583, R586, R587). A HOLDER or SOLO module enters it in the journal, to take effect at its EFFECT
stamp (JOURNAL_EFFECT); a STANDBY, or a module in RESYNC, keeps a copy of a referenced input until the holder's entry comes, and takes no
decision of its own; a module without a journal takes the input at once. -/
def State.submit (s : State) (i : JInput) (take : State → State) : State :=
  match s.pair.st with
  | .holder | .solo => s.journal i
  | .standby | .resync =>
    if inputInline i then s
    else { s with pair := { s.pair with copies := s.pair.copies ++
      [{ source := inputSource i, digest := (inputSum i).2, phase := s.carousel.phase, input := i }] } }
  | .none | .pairing | .detached => take s

/-! ### Health of the pair (R605 to R607) -/

/-- The partner is in STANDBY and not DEGRADED, as its last heartbeat told (R607). -/
def State.standbyFit (s : State) : Bool :=
  match s.pair.beat with
  | some b => b.1.state = .standby && !b.1.degraded && !s.pair.beatLost
  | none => false

/-- A yield is planned for the next half-turn boundary (R598, R607). -/
def State.planYield (s : State) (cause : Nat) : State :=
  { s with pair := { s.pair with plan := some { cause, half := s.carousel.half + 1 } } }

/-- A failed self-test makes the module DEGRADED until restart, and a DEGRADED holder yields to a fit standby (R607). Causes:
0 ARRAY_DEGRADED, 1 SAFETY_DIVERGE, 2 TEMP_ALARM, 3 divergence test, 4 agreeing drive, 5 ring burst, 6 commit read-back,
7 CAN fetches, 8 resyncs, 9 CAN transmit slots. -/
def State.degrade (s : State) (cause : Nat) : State :=
  if s.pair.degraded.contains cause then s else
  let s := ({ s with pair := { s.pair with degraded := s.pair.degraded ++ [cause] } }).raise .healthDegraded [cause]
  if s.pair.st = .holder && s.standbyFit then s.planYield cause else s

/-- A continuous self-test completes (R605, R608). -/
def State.selfTest (s : State) (n : Nat) (pass : Bool) : State :=
  { s with pair := { s.pair with tests := aput s.pair.tests n { tick := s.tick, pass } } }

/-! ### Answers of the object port -/

/-- One connection changed. -/
def State.modConn (s : State) (c : ConnNo) (f : Conn → Conn) : State :=
  { s with port := { s.port with conns := vmod s.port.conns c (Option.map f) } }

/-- A response of a connection: sent, or kept in its place behind requests that are not answered yet (R449). -/
def Conn.put (k : Conn) (a : Answer) : Conn :=
  match k.slots with
  | [] => { k with answer := some a }
  | l => { k with slots := l ++ [.ready a] }

/-- The response of a request: RES and VAL (R450). -/
def State.answer (s : State) (c : ConnNo) (res : Nat) (val : List Int := []) : State := s.modConn c fun k => k.put { res, val }

/-- A Bool as 0 or 1, in the values of objects and events. -/
def ofBool (b : Bool) : Int := if b then 1 else 0

/-- A set as 0 for A and 1 for B. -/
def setNum : SetId → Int
  | .a => 0
  | .b => 1

end Sys2Proof.Machine
end

