-- ==== Sys2Proof/Machine/Port.lean ====
section
/-!
DEFINITION. The object port (chapter 11): rights of the roles, connections, subscriptions, events sent, PORT RESET; and the
guard that every operation passes (R95, R97, R451, R452).
-/
namespace Sys2Proof.Machine

open Sys2Proof.Config

/-! ### Rights (R452 to R454) -/

/-- The bit of a role in a role mask (R453). -/
def roleBit : Role → Nat
  | .pub => 1
  | .reader => 2
  | .vendor => 4
  | .service => 8
  | .operator => 16
  | .metrology => 32
  | .safety => 64

/-- Default rights of an object as role masks of read, write and execute (Table 11.11, and the rights other chapters state). Table
2.4 makes Scribe time read only for every role; of its readers the model takes the row of every other readable object, without
PUBLIC (log 152). -/
def defaultRights (o : Obis) : Nat × Nat × Nat :=
  let r (x : Nat) : Nat × Nat × Nat := (x, 0, 0)
  let x (m : Nat) : Nat × Nat × Nat := (0, 0, m)
  if o.a = 1 then
    if o.c = 131 && o.e = 0 && o.b = 0 then
      match o.d with
      | 0 => r 127
      | 1 | 2 => x 32
      | 3 => (58, 58, 0)
      | 5 => r 58
      | _ => r 126
    else r 58
  else
    match o.c, o.d with
    | 136, 0 => r 62
    | 136, 1 => r 48
    | 136, 2 => r 62
    | 136, 3 => (48, 48, 0)
    | 137, _ => r 62
    | 144, 2 | 144, 3 | 144, 4 | 144, 5 | 144, 1 => r 126
    | 147, _ => r 127
    | _, 0 => r 127
    | 128, 5 => (126, 24, 0)
    | 130, 6 => r 12
    | 131, 4 => x 8
    | 132, 2 | 132, 3 => r 12
    | 132, 4 => x 8
    | 133, 3 => x 8
    | 133, 4 => (126, 16, 0)
    | 133, 5 => r 24
    | 134, 1 => (24, 24, 0)
    | 138, 4 => x 72
    | 138, 5 => x 64
    | 139, 3 | 140, 1 | 141, 3 | 142, 5 | 142, 6 => x 8
    | 145, 2 | 145, 3 | 145, 6 | 145, 7 => x 8
    | 146, 2 | 146, 5 => x 24
    | 146, 3 => x 24
    | 146, 4 => x 32
    | _, _ => r 126

/-- The image is proven and serves the ports: step 4 is complete, and the module is not REFUSED or HELD (R98). -/
def State.proven (s : State) : Bool :=
  s.startup.done.any (·.1 = .s4) && s.startup.mode ≠ .refused && s.startup.mode ≠ .held

/-- The records of a type that the ports run on: the active ones, or the kept copies until the image is proven and in REFUSED
and HELD (R98, R448); none where no image has ever been accepted. -/
def State.portRecs (s : State) (typ : Nat) : Option (List (List W32)) :=
  if s.proven then some (s.recs typ)
  else s.startup.kept.map fun rs => rs.filterMap fun r => if r.typ = typ then some r.payload else none

/-- The OBJECT_RIGHTS record in force. -/
def State.rightsRec (s : State) : Option (List W32) := (s.portRecs 0x0A02).bind List.head?

/-- The ETH_PORT record of a port; none where the ports run without records (R98, Table 16.11). -/
def State.ethRec (s : State) (p : Nat) : Option (List W32) :=
  (s.portRecs 0x1001).bind fun rs => rs.find? fun r => fld r 0 31 30 = p

/-- OBJ_EN of a port; every port serves where no record exists (R98, R646). -/
def State.objEn (s : State) (p : Nat) : Bool :=
  match s.portRecs 0x1001 with
  | none => true
  | some rs => rs.any fun r => fld r 0 31 30 = p && bit r 0 28

/-- Offsets of the CA tags in an OBJECT_RIGHTS record, and the word after the last CA entry (Table 11.12). -/
def caTags (w : List W32) : Nat → Nat → List Nat × Nat
  | 0, i => ([], i)
  | k + 1, i =>
    let r := caTags w k (i + 1 + (fld w i 15 0 + 3) / 4)
    (i :: r.1, r.2)

/-- ROLE_MASK of port CA `i` of a record; zero where it does not exist. -/
def caMask (w : List W32) (i : Nat) : Nat :=
  match (caTags w (fld w 0 31 24) 1).1[i]? with
  | some k => fld w k 30 24
  | none => 0

/-- An override's pattern byte matches. -/
def patByte (p v : Nat) : Bool := p = 0xFF || p = v

/-- An object's rights after the overrides of a record (R454). -/
def overrides (w : List W32) (o : Obis) (m : Nat × Nat × Nat) : Nat × Nat × Nat :=
  let i0 := (caTags w (fld w 0 31 24) 1).2
  (List.range (fld w 0 23 16)).foldl (fun m k =>
    let i := i0 + 3 * k
    if patByte (fld w i 31 24) o.a && patByte (fld w i 23 16) o.b && patByte (fld w i 15 8) o.c && patByte (fld w i 7 0) o.d
        && patByte (fld w (i + 1) 31 24) o.e && patByte (fld w (i + 1) 23 16) o.f then
      (m.1 &&& fld w (i + 2) 31 25, m.2.1 &&& fld w (i + 2) 24 18, m.2.2 &&& fld w (i + 2) 17 11)
    else m) m

/-- The three rights on an object. -/
inductive Right where | read | write | execute
  deriving DecidableEq, Repr

/-- A role's right on an object (R3, R452, R454). -/
def State.hasRight (s : State) (role : Role) (k : Right) (o : Obis) : Bool :=
  let d := defaultRights o
  let m := match s.rightsRec with | some w => overrides w o d | none => d
  let mask := match k with | .read => m.1 | .write => m.2.1 | .execute => m.2.2
  let barred := s.ident.orderN && role = .metrology && k ≠ .read
  !barred && mask / roleBit role % 2 = 1

/-- Objects absent on an FP-6400-N (R3, R698). -/
def State.absent (s : State) (o : Obis) : Bool :=
  s.ident.orderN && o.a = 0 && (o.c = 136 || (o.c = 146 && o.d = 4))

/-! ### Guards -/

/-- The object port runs: boot stage 2 has handed over at step 3c, and a TLS key exists (R95, R672). -/
def State.portUp (s : State) : Bool :=
  s.startup.mode ≠ .off && s.startup.done.any (·.1 = .s3c) && s.ident.life ≠ .retired

/-- A connection is closed: its staging copy is emptied and its subscription ends (R83). -/
def State.closeConn (s : State) (c : ConnNo) : State :=
  { s with port := { s.port with conns := s.port.conns.set c none } }

/-- An operation on a connection in the modes that serve it; RES 4 in the others (R95, R97, Table 11.10). A seventeenth request unanswered
closes the connection (R449). -/
def State.op (s : State) (c : ConnNo) (serves : Mode → Bool) (f : Conn → State → State) : State :=
  match s.port.conns[c] with
  | none => s
  | some k => if 16 ≤ k.slots.length then s.closeConn c else if serves s.startup.mode then f k s else s.answer c 4

/-- Served in service only. -/
def inService : Mode → Bool
  | .service => true
  | _ => false

/-- Served in every mode in which the port runs. -/
def always : Mode → Bool := fun _ => true

/-- The selecting objects: a write to one changes only the connection's own selection (R452). -/
def selecting (o : Obis) : Bool := (o.c = 131 && o.d = 3 && o.a = 1) || (o.c = 136 && o.d = 3) || (o.c = 134 && o.d = 1)

/-- An operation in service on an object of this module alone: RES 2 where it is absent, RES 1 without the right (R452). Selecting objects
change only the connection's own selection; each module is commissioned, retired and reverted on its own (R670). -/
def State.guarded (s : State) (c : ConnNo) (o : Obis) (k : Right) (f : Conn → State → State) : State :=
  s.op c inService fun conn s =>
    if s.absent o then s.answer c 2
    else if s.hasRight conn.role k o then f conn s
    else s.answer c 1

/-- The client that an operation is answered to, with its role: a connection of this module, or none of its own where the partner received
the operation; and its address (R451). -/
structure Caller where
  conn : Option ConnNo
  role : Role
  addr : Nat
  deriving DecidableEq, Repr, Inhabited

/-- What a PORT RESET does to its connection: staging, subscription and cursor (R458). -/
def Conn.reset (k : Conn) (next : Nat) : Conn :=
  { k with stage := .empty, stageRecs := [], code := 0, sub := none, queue := [], gap := none, gapFirst := none, cursor := next }

/-- What a PORT RESET answers: the SEQ of the next event, RECORDS_HASH and the revision number (R458). -/
def State.resetAnswer (s : State) : Answer :=
  { res := 0, val := [s.port.seqOf (s.port.raised + 1), s.startup.hdr.recordsHash, s.startup.revision] }

/-- The answers that no longer wait are sent in the order of their requests (R449). -/
def Conn.drain (next : Nat) (a : Answer) : List PortSlot → Conn → Conn
  | .ready x :: rest, k => Conn.drain next a rest { k with answer := some x }
  | .reset :: rest, k => Conn.drain next a rest { (k.reset next) with answer := some a }
  | l, k => { k with slots := l }

/-- The answer of an operation to its client; the module that received it answers (R451). The request is the oldest one of its
connection that waits for its effect. -/
def State.reply (s : State) (c : Caller) (res : Nat) (val : List Int := []) : State :=
  match c.conn with
  | some n => s.modConn n fun k => match k.slots with
    | .pending :: rest => Conn.drain (s.port.seqOf (s.port.raised + 1)) s.resetAnswer rest { k with answer := some { res, val } }
    | _ => k
  | none => s

/-- The caller of an operation as the journal carries it: the index of its connection where it is this module's own (R451, R583). -/
def callerOf (here : Bool) (conn : ConnNo) (role : Role) (addr : Nat) : Caller :=
  { conn := if here then some conn else none, role, addr }

/-- A state-changing operation that the port accepts from a connection (R451, R583): entered in the journal, or, without one, done at
once. It is answered when it takes effect. -/
def State.request (s : State) (c : ConnNo) (k : Conn) (r : OpReq) (f : Caller → State → State) : State :=
  (s.modConn c fun k => { k with slots := k.slots ++ [.pending] }).submit (.op true c k.role k.addr r)
    (f (callerOf true c k.role k.addr))

/-- EXECUTE or SET of an object in service that changes the module (R451, R452): RES 2 where the object is absent, RES 1 without the
right; otherwise the operation takes effect at its EFFECT stamp. -/
def State.change (s : State) (c : ConnNo) (o : Obis) (k : Right) (r : OpReq) (f : Caller → State → State) : State :=
  s.op c inService fun conn s =>
    if s.absent o then s.answer c 2
    else if s.hasRight conn.role k o then s.request c conn r f
    else s.answer c 1

/-- An OBIS code of value groups A = 0, B = 0, F = 255. -/
def dev (c d e : Nat) : Obis := { a := 0, b := 0, c, d, e, f := 255 }

/-! ### Connections (R447 to R449) -/

/-- The role a client gets, or none where the handshake fails (R98, R448). -/
def State.clientRole (s : State) (ou : Option Role) (ca : Option Nat) (timeValid : Bool) : Option Role :=
  if s.wall.valid && !timeValid then none else
  match s.rightsRec, ca with
  | some w, some i =>
    match ou with
    | some r => if caMask w i / roleBit r % 2 = 1 then some r else none
    | none => none
  | none, some _ => some .pub
  | _, none => none

/-- CONNECTION_OPEN (R98, R447, R448, R646): the lowest free index; the handshake uses slot 6, which a module in MANUFACTURE
lacks. -/
def execConnectionOpen (t : Nat) (port : EthNo) (addr : Nat) (ou : Option Role) (ca : Option Nat) (timeValid : Bool)
    (s : State) : Out :=
  let s := s.advance t
  .next (match s.clientRole ou ca timeValid, vfind s.port.conns (·.isNone) with
    | some role, some i =>
      if s.portUp && s.objEn port.val && s.ident.life ≠ .manufacture then
        { s with port := { s.port with
          conns := vput s.port.conns i (some { role, port, addr, cursor := s.port.seqOf (s.port.raised + 1) }) } }
      else s
    | _, _ => s)

/-- CONNECTION_LOST (R83, R84): the pending revision stays. -/
def execConnectionLost (t : Nat) (c : ConnNo) (s : State) : Out := .next ((s.advance t).closeConn c)

/-- MALFORMED_MESSAGE (R449): the connection is closed. -/
def execMalformedMessage (t : Nat) (c : ConnNo) (_why : Malformed) (s : State) : Out := .next ((s.advance t).closeConn c)

/-! ### Events (R455 to R457) -/

/-- The status object of the subsystem that raises an event (R451). -/
def evObj (e : Ev) : Obis := { a := evClass e / 1000, b := 0, c := evClass e % 1000, d := 0, e := 0, f := 255 }

/-- SUBSCRIBE (R456): with SEQ, delivery starts at that event if it is kept, and otherwise at the oldest kept, preceded by an
EVENT that carries only GAP. -/
def execSubscribe (t : Nat) (c : ConnNo) (names : List Ev) (seq : Option Nat) (s : State) : Out :=
  let s := s.advance t
  .next (s.op c inService fun _ s =>
    let next := s.port.seqOf (s.port.raised + 1)
    let kept := s.port.events.reverse
    let oldest := match kept with | e :: _ => e.seq | [] => next
    let start := match seq with
      | none => next
      | some q => if oldest ≤ q && q ≤ next then q else oldest
    let gap := match seq with
      | some q => if q < oldest then some (q, oldest - 1) else none
      | none => none
    let old := kept.filter fun e => start ≤ e.seq && (names.isEmpty || names.contains e.ev)
    (s.modConn c fun k => { k with sub := some { names }, queue := old, gap := none, gapFirst := gap, cursor := start }).answer
      c 0 [start])

/-- The first event of a queue that the role may read, with the rest behind it. -/
def State.nextEvent (s : State) (role : Role) : List EvRec → Option (EvRec × List EvRec)
  | [] => none
  | e :: rest => if s.hasRight role .read (evObj e.ev) then some (e, rest) else s.nextEvent role rest

/-- EVENT (R455, R457): the next queued event is sent, with the GAP of events dropped before it. -/
def execEvent (t : Nat) (c : ConnNo) (s : State) : Out :=
  let s := s.advance t
  .next (match s.port.conns[c] with
    | none => s
    | some k =>
      match k.gapFirst with
      | some g => s.modConn c fun k => { k with gapFirst := none, sent := some { ev := none, gap := some g } }
      | none =>
        match s.nextEvent k.role k.queue with
        | some (e, rest) => s.modConn c fun k =>
            { k with queue := rest, gap := none, cursor := e.seq + 1, sent := some { ev := some e, gap := k.gap } }
        | none => s.modConn c fun k => { k with queue := [] })

/-- PORT_RESET (R458): for the connection alone; it follows the requests of the connection that are not answered yet (R459). -/
def execPortReset (t : Nat) (c : ConnNo) (s : State) : Out :=
  let s := s.advance t
  .next (s.op c always fun _ s =>
    s.modConn c fun k => match k.slots with
      | [] => { (k.reset (s.port.seqOf (s.port.raised + 1))) with answer := some s.resetAnswer }
      | l => { k with slots := l ++ [.reset] })

end Sys2Proof.Machine
end

