-- ==== Sys2Proof/Machine/Keys.lean ====
section
/-!
DEFINITION. The key unit (R657 to R668): when an operation on a slot is performed, and the import and destruction of customer
keys. Key material itself never leaves the unit, so State holds attribute words and check values.
-/
namespace Sys2Proof.Machine

open Sys2Proof.Config

/-- Operations of the key unit (Table 17.1, USAGE). -/
inductive KeyOp where | sign | verify | mac | crypt | derive | wrap
  deriving DecidableEq, Repr

/-- Masters (Table 17.1). -/
inductive KeyMaster where | boot | ring | scribe | barker | update
  deriving DecidableEq, Repr

/-- The USAGE bit of an operation. -/
def KeyOp.bit : KeyOp → Nat
  | .sign => 27
  | .verify => 26
  | .mac => 25
  | .crypt => 24
  | .derive => 23
  | .wrap => 22

/-- The bit of a master. -/
def KeyMaster.bit : KeyMaster → Nat
  | .boot => 21
  | .ring => 20
  | .scribe => 19
  | .barker => 18
  | .update => 17

/-- TYPE of an attribute word. -/
def attrType (a : W32) : Nat := a.toNat / 2 ^ 28
/-- PURPOSE of an attribute word. -/
def attrPurpose (a : W32) : Nat := a.toNat / 128 % 16

/-- A TYPE supports an operation (R658). -/
def typeSupports (typ : Nat) : KeyOp → Bool
  | .sign => 2 ≤ typ && typ ≤ 7
  | .verify => 2 ≤ typ && typ ≤ 10
  | .mac | .crypt | .wrap => typ = 1
  | .derive => typ = 1 || typ = 3

/-- A PURPOSE fits a TYPE (Table 17.1, Table 17.2, R69). -/
def purposeFits (typ purpose : Nat) : Bool :=
  match purpose with
  | 0 => true
  | 1 => typ = 6 || typ = 7
  | 2 => typ = 3
  | 3 => typ = 8
  | 4 => typ = 9 || typ = 10
  | 5 | 6 => typ = 1
  | 7 => typ = 2 || typ = 4 || typ = 5
  | 8 | 9 => typ = 3
  | _ => false

/-- The LIFE bit of the present life-cycle state; none in RETIRED (Table 17.1). -/
def lifeBit : Life → Option Nat
  | .manufacture => some 14
  | .provisioned => some 13
  | .commissioned => some 12
  | .service => some 11
  | .retired => none

/-- A slot by its number. -/
def State.slot (s : State) (i : Nat) : KeySlot := vget s.keys.slots i {}

/-- The firmware world has begun: boot stage 2 has handed over at step 3c (R658). -/
def State.fwWorld (s : State) : Bool := s.startup.done.any (·.1 = .s3c)

/-- An operation is permitted (R658). -/
def State.keyAllowed (s : State) (i : Nat) (op : KeyOp) (m : KeyMaster) : Bool :=
  let a := (s.slot i).attr
  typeSupports (attrType a) op && a.getLsbD op.bit && a.getLsbD m.bit
    && a.getLsbD (if s.fwWorld then 15 else 16)
    && (match lifeBit s.ident.life with | some b => a.getLsbD b | none => false)

/-- One slot changed. -/
def State.modSlot (s : State) (i : Nat) (f : KeySlot → KeySlot) : State :=
  { s with keys := { s.keys with slots := vmapIdx (fun k x => if k = i then f x else x) s.keys.slots } }

/-- A refused operation is counted, and KEY_DENIED raised at most once per second per slot (R658). -/
def State.denyKey (s : State) (i : Nat) (op : KeyOp) (m : KeyMaster) : State :=
  let x := s.slot i
  let due : Bool := match x.deniedAt with | some t => decide (t + ticksPerSec ≤ s.time.clock) | none => true
  let s := s.modSlot i fun x => { x with denials := x.denials + 1, deniedAt := if due then some s.time.clock else x.deniedAt }
  if due then s.raise .keyDenied [i, m.bit, op.bit] else s

/-- An operation is asked of the key unit: performed, or refused (R658). -/
def State.useKey (s : State) (i : Nat) (op : KeyOp) (m : KeyMaster) : Bool × State :=
  if s.keyAllowed i op m then (true, s) else (false, s.denyKey i op m)

/-! ### Names in the active image -/

/-- TUNNEL_KEY of CERT_CHAIN (R364). -/
def State.tunnelKey (s : State) : Nat := fld (s.rec1 0x0802) 0 15 8

/-- Word offsets of the certificate entries of CERT_CHAIN (R364). -/
def certOffsets (w : List W32) : Nat → Nat → List Nat
  | 0, _ => []
  | k + 1, i => i :: certOffsets w k (i + 1 + (fld w i 15 0 + 3) / 4)

/-- The certificate tags of CERT_CHAIN: offsets. -/
def State.certs (s : State) : List Nat := certOffsets (s.rec1 0x0802) (fld (s.rec1 0x0802) 0 31 16) 1

/-- A slot is named by the active image (R665): its KEY_SLOT, a KEY_BINDING record, CERT_CHAIN. -/
def State.slotNamed (s : State) (i : Nat) : Bool :=
  (s.startup.image ≠ [] && s.startup.hdr.keySlot = i) || (s.recs 0x1101).any (fun r => fld r 0 31 26 = i) ||
    (s.recs 0x0802 ≠ [] && (s.tunnelKey = i || s.certs.any fun k =>
      fld (s.rec1 0x0802) k 31 28 = 0 && fld (s.rec1 0x0802) k 23 16 = i))

/-- The slot bound with a purpose (R667). -/
def State.boundSlot (s : State) (purpose : Nat) : Option Nat :=
  ((s.recs 0x1101).find? fun r => fld r 0 25 22 = purpose).map fun r => fld r 0 31 26

/-! ### Commands -/

/-- The key log and KEY_CHANGED after an import or destroy (R666). -/
def State.logKey (s : State) (k : Caller) (slot : Nat) (destroy : Bool) (attr : W32) : State :=
  let e : KeyLogEntry :=
    { slot, destroy, attr, subject := subjectHash (roleBit k.role) k.addr, scribe := s.scribe.core.time, wall := s.wallSec }
  ({ s with keys := { s.keys with log := (e :: s.keys.log).take 256 } }).raise .keyChanged [slot, ofBool destroy]

/-- The attribute word of an import is refused with RES 3 (R662): an unsupported USAGE, M_BOOT or FIXED, a PURPOSE that does
not fit, a TYPE that is refused or empty. Its reserved bits are ignored (R8). -/
def badAttr (a : W32) : Bool :=
  let typ := attrType a
  let use := [KeyOp.sign, .verify, .mac, .crypt, .derive, .wrap]
  typ = 0 || 10 < typ || use.any (fun o => a.getLsbD o.bit && !typeSupports typ o) || a.getLsbD 21 || a.getLsbD 6
    || !purposeFits typ (attrPurpose a)

/-- A key is imported (R662 to R666): `keyOk` says that the key field unwraps or decodes, `sigOk` that the authority signature
verifies. The attribute word is kept with its reserved bits as zero (R8). -/
def State.opKeyImport (s : State) (c : Caller) (slot : SlotNo) (k : KeyImport) : State :=
  let attr := k.attr &&& 0xFFFFFFE0#32
  if slot.val < 16 then s.reply c 2
  else if s.ident.life = .manufacture || s.ident.life = .retired || s.slotNamed slot.val then s.reply c 4
  else if badAttr attr then s.reply c 3
  else
    let u := if attrType attr ≤ 7 then s.useKey 5 .derive .update else (true, s)
    if !u.1 then u.2.reply c 4
    else
      let s := u.2
      if !k.keyOk then s.reply c 3
      else if attrPurpose attr = 3 && s.ident.life ≠ .provisioned && !(k.sigPresent && k.sigOk) then s.reply c 1
      else ((s.modSlot slot.val fun _ => { attr, kcv := k.kcv }).logKey c slot.val false attr).reply c 0

/-- KEY_IMPORT (R662 to R666). -/
def execKeyImport (t : Nat) (c : ConnNo) (slot : SlotNo) (k : KeyImport) (s : State) : Out :=
  .next ((s.advance t).change c (dev 145 2 slot.val) .execute (.keyImport slot k) fun c s => s.opKeyImport c slot k)

/-- A customer slot is emptied (R665, R666). -/
def State.opKeyDestroy (s : State) (c : Caller) (slot : SlotNo) : State :=
  if slot.val < 16 then s.reply c 2
  else if s.slotNamed slot.val then s.reply c 4
  else
    let a := (s.slot slot.val).attr
    ((s.modSlot slot.val fun _ => {}).logKey c slot.val true a).reply c 0

/-- KEY_DESTROY (R665, R666). -/
def execKeyDestroy (t : Nat) (c : ConnNo) (slot : SlotNo) (s : State) : Out :=
  .next ((s.advance t).change c (dev 145 3 slot.val) .execute (.keyDestroy slot) fun c s => s.opKeyDestroy c slot)

end Sys2Proof.Machine
end

