-- ==== Sys2Proof/Machine/Calendar.lean ====
section
/-!
DEFINITION. Local time, daylight saving, day profiles and demand-interval boundaries (R388, R393, R394, R398, R402). Times are
seconds; TAI counts from 1970-01-01 00:00:00 TAI, the epoch of IEEE 1588 (log 16).
-/
namespace Sys2Proof.Machine

/-! ### Civil dates -/

/-- Days since 1970-01-01 of a date of the Gregorian calendar. -/
def daysOf (y m d : Int) : Int :=
  let y := if m ≤ 2 then y - 1 else y
  let era := y / 400
  let yoe := y - era * 400
  let doy := (153 * (if 2 < m then m - 3 else m + 9) + 2) / 5 + d - 1
  era * 146097 + (yoe * 365 + yoe / 4 - yoe / 100 + doy) - 719468

/-- The date of a day: year, month, day. -/
def dateOf (z : Int) : Int × Int × Int :=
  let z := z + 719468
  let era := z / 146097
  let doe := z - era * 146097
  let yoe := (doe - doe / 1460 + doe / 36524 - doe / 146096) / 365
  let doy := doe - (365 * yoe + yoe / 4 - yoe / 100)
  let mp := (5 * doy + 2) / 153
  let m := if mp < 10 then mp + 3 else mp - 9
  (yoe + era * 400 + (if m ≤ 2 then 1 else 0), m, doy - (153 * mp + 2) / 5 + 1)

/-- Weekday of a day, 0 Monday; 1970-01-01 was a Thursday. -/
def weekday (day : Int) : Int := (day + 3) % 7

/-! ### The CALENDAR record (Table 10.7) -/

def State.calendar (s : State) : List W32 := s.rec1 0x0905
/-- The length of a demand interval in seconds. -/
def State.demandLen (s : State) : Nat := 60 * fld s.calendar 0 5 0
def State.defaultTariff (s : State) : Nat := fld s.calendar 1 3 0
/-- DST is enabled: words 2 and 3 are not all zero. -/
def State.dstEn (s : State) : Bool := s.calendar.getD 2 0 ≠ 0 && s.calendar.getD 3 0 ≠ 0
/-- DST_OFFSET in seconds. -/
def State.dstOff (s : State) : Int := 900 * fld s.calendar 0 15 8

/-- The UTC offset (R393): PTP's where PTP is synchronised and marks it valid, else TAI_UTC. -/
def State.utcOffset (s : State) : Int :=
  match s.ptp.sync, s.ptp.selected with
  | true, some (_, m) => if m.utcValid then m.utcOffset else fld s.calendar 0 31 24
  | _, _ => fld s.calendar 0 31 24

/-- Local standard time of a TAI second. -/
def State.stdLocal (s : State) (tai : Int) : Int := tai - s.utcOffset + 900 * sfld s.calendar 0 23 16

/-- The local standard second of the DST change of word `i` in a year. -/
def State.dstAt (s : State) (i : Nat) (y : Int) : Int :=
  let w := s.calendar
  let m : Int := fld w i 31 28
  let n : Int := fld w i 27 25
  let dow : Int := fld w i 24 22
  let first := daysOf y m 1
  let day :=
    if 5 ≤ n then
      let last := (if m = 12 then daysOf (y + 1) 1 1 else daysOf y (m + 1) 1) - 1
      last - (weekday last - dow) % 7
    else first + (dow - weekday first) % 7 + 7 * (n - 1)
  day * 86400 + 60 * fld w i 21 11

/-- DST runs at a local standard second. -/
def State.dstOn (s : State) (std : Int) : Bool :=
  if !s.dstEn then false else
  let y := (dateOf (std / 86400)).1
  let a := s.dstAt 2 y
  let b := s.dstAt 3 y
  if a < b then a ≤ std && std < b else a ≤ std || std < b

/-- Local time of a TAI second (R393). -/
def State.local_ (s : State) (tai : Int) : Int :=
  let std := s.stdLocal tai
  if s.dstOn std then std + s.dstOff else std

/-- The local instant that selects the tariff: in the second pass of repeated time, its last second, so that no switch time
takes effect there (R394). -/
def State.profileTime (s : State) (tai : Int) : Int :=
  let std := s.stdLocal tai
  if s.dstEn && !s.dstOn std then
    let b := s.dstAt 3 (dateOf (std / 86400)).1
    if b ≤ std && std < b + s.dstOff then b + s.dstOff - 1 else std
  else s.local_ tai

/-- The day profile of a local day: the first SPECIAL entry matching its date, else that of its weekday (R394). -/
def State.profileOf (s : State) (day : Int) : Nat :=
  let w := s.calendar
  let d := dateOf day
  let hit := ((List.range (fld w 4 31 25)).map (· + 5)).find? fun i =>
    (fld w i 31 20 = 0 || (fld w i 31 20 : Int) = d.1) && (fld w i 19 16 : Int) = d.2.1 && (fld w i 15 11 : Int) = d.2.2
  match hit with
  | some i => fld w i 10 7
  | none => let k := (weekday day).toNat; fld w 1 (31 - 4 * k) (28 - 4 * k)

/-- The tariff at a TAI second (R394). -/
def State.tariffAt (s : State) (tai : Int) : Nat :=
  let l := s.profileTime tai
  let minute := (l % 86400 / 60).toNat
  match s.recAt 0x0904 31 28 (s.profileOf (l / 86400)) with
  | none => s.defaultTariff
  | some r =>
    (List.range (fld r 0 27 24)).foldl (fun t i =>
      if fld r (1 + i) 31 21 ≤ minute then fld r (1 + i) 20 17 else t) s.defaultTariff

/-- The tariff in force now: DEFAULT_TARIFF while wall time is invalid (R395). -/
def State.tariffNow (s : State) : Nat :=
  match s.wallSec with
  | some x => s.tariffAt x
  | none => s.defaultTariff

/-- The next aligned interval boundary after a TAI second (R402). -/
def State.nextAligned (s : State) (tai : Nat) : Nat :=
  let n : Int := s.demandLen
  if n = 0 then tai + 1 else (tai + (n - s.stdLocal tai % n)).toNat

/-- A TAI second is an aligned boundary. -/
def State.aligned (s : State) (tai : Nat) : Bool := s.stdLocal tai % (s.demandLen : Int) = 0

/-- The local standard month of a TAI second, as 12 * year + month - 1 (R388). -/
def State.monthOf (s : State) (tai : Nat) : Nat :=
  let d := dateOf (s.stdLocal tai / 86400)
  (12 * d.1 + d.2.1 - 1).toNat

/-- The TARIFF record of a tariff (Table 10.5). -/
def State.tariffRec (s : State) (n : Nat) : List W32 := (s.recAt 0x0903 31 28 n).getD []

end Sys2Proof.Machine
end

