-- ==== Sys2Proof/Machine/Flash.lean ====
section
/-!
DEFINITION. The configuration flashes (R66): pages of 4 096 bytes as 1 024 words, kept in one canonical form: page numbers
strictly rising, every page whole, and no page listed that equals an erased one. Page numbers of the regions of Table 3.1:
0 the package header of the firmware set, 8 its payload, 8 192 the configuration image, 24 576 and 28 672 the hash-list pieces of
KIND 1 and KIND 2 (R680). An erased page reads as all ones (log 21).
-/
namespace Sys2Proof.Machine

/-- What a page reads as that nothing has been written to (log 21). -/
def erasedPage : List W32 := List.replicate 1024 0xFFFFFFFF#32

/-- A page's data as 1 024 words: short data is filled up with erased words. -/
def wholePage (d : List W32) : List W32 := (d ++ List.replicate (1024 - d.length) 0xFFFFFFFF#32).take 1024

/-- The page `p` of a flash. -/
def Flash.page (f : Flash) (p : Nat) : List W32 :=
  match f.find? fun x => x.1 = p with
  | some x => x.2
  | none => erasedPage

/-- The page entry put at its place among pages rising by number. -/
def Flash.insert (f : Flash) (p : Nat) (d : List W32) : Flash :=
  match f with
  | [] => [(p, d)]
  | x :: rest => if x.1 < p then x :: Flash.insert rest p d else if x.1 = p then (p, d) :: rest else (p, d) :: x :: rest

/-- A page is written: its old content is erased first. Writing an erased page removes the entry. -/
def Flash.write (f : Flash) (p : Nat) (d : List W32) : Flash :=
  if wholePage d = erasedPage then f.filter fun x => x.1 ≠ p else f.insert p (wholePage d)

/-- The canonical form of a flash. -/
def Flash.wf (f : Flash) : Bool :=
  decide ((f.map (·.1)).Pairwise (· < ·)) && f.all fun x => decide (x.2.length = 1024) && decide (x.2 ≠ erasedPage)

/-- `n` words from the start of page `p`. -/
def Flash.words (f : Flash) (p n : Nat) : List W32 :=
  ((List.range (Sys2Proof.Machine.ceilDiv n 1024)).flatMap fun i => f.page (p + i)).take n

/-- The flash of a bank (R66). -/
def Flashes.bank (f : Flashes) : BankId → Flash
  | .a => f.a
  | .b => f.b

/-- The other bank. -/
def otherBank : BankId → BankId
  | .a => .b
  | .b => .a

/-- A page of a bank is written. -/
def State.writePage (s : State) (k : BankId) (p : Nat) (d : List W32) : State :=
  { s with flash := match k with
    | .a => { s.flash with a := s.flash.a.write p d }
    | .b => { s.flash with b := s.flash.b.write p d } }

/-- The package header of the firmware set of a bank (R676). -/
def State.manifest (s : State) (k : BankId) : List W32 := (s.flash.bank k).words 0 8192

/-- Bank in use (R67): the one named by the marker, the trial bank in trial (R691). -/
def State.activeManifest (s : State) : List W32 := s.manifest s.startup.bank

/-- Fields of a package header (Table 17.7). -/
def hdrVersion (w : List W32) : Nat := (w.getD 3 0).toNat
def hdrRollback (w : List W32) : Nat := fld w 4 31 24
def hdrLegal (w : List W32) : Nat := (w.getD 5 0).toNat
def hdrPieces (w : List W32) : Nat := fld w 6 31 16
def hdrHl (w : List W32) : Nat := fld w 6 15 8
def hdrPkg (w : List W32) : Nat := wide w 7 2
def hdrHub (w : List W32) : Nat := wide w 9 2
/-- The hash of part `n`, 1 to 7 (Table 17.8). -/
def hdrPartHash (w : List W32) (n : Nat) : Nat := wide w (13 + 16 * (n - 1) + 4) 12
/-- SETTINGS_FMT of part `n` (Table 17.8). -/
def hdrSettings (w : List W32) (n : Nat) : Nat := fld w (13 + 16 * (n - 1)) 23 16

/-- The legal version of the Scribe part in force (Table 17.5, Table 10.10). -/
def State.legalVer (s : State) : Nat := hdrLegal s.activeManifest

end Sys2Proof.Machine
end

