-- ==== Sys2Proof/Machine/LawMath.lean ====
section
/-!
DEFINITION. The arithmetic of the control laws (R10, R11, R199 to R205, R729, R730): BF24 vectors, sums in 48-bit
accumulators with terms aligned by a flooring shift, renormalisation, and the stage chains of Table 6.1. A chain is a
function of its operands alone (R104, R119).
-/
namespace Sys2Proof.Machine

open Sys2Proof.Config

/-- A term of a sum: t and its exponent s, of value t * 2^(s - 44) (R200). -/
abbrev Term := Int × Int

/-- A mantissa and an exponent, of value m * 2^(e - 22) (R10). -/
abbrev Bf := Int × Int

/-- A BF24 vector: mantissas and their shared exponent (R10). -/
structure BfVec where
  ms : List Int
  e : Int
  deriving DecidableEq, Repr, Inhabited

/-- 2^k times a rational, k of either sign. -/
def scaleRat (x : Rat) (k : Int) : Rat := if 0 ≤ k then x * ((2 ^ k.toNat : Nat) : Rat) else x / ((2 ^ (-k).toNat : Nat) : Rat)

/-- The value of a term. -/
def termVal (t : Term) : Rat := scaleRat t.1 (t.2 - 44)

/-- The value of a mantissa with its exponent. -/
def bfVal (x : Bf) : Rat := scaleRat x.1 (x.2 - 22)

/-- The product of two mantissas (R200). -/
def prod (x y : Bf) : Term := (x.1 * y.1, x.2 + y.2)

/-- A single mantissa (R200). -/
def single (x : Bf) : Term := (x.1 * 2 ^ 22, x.2)

/-- The negative of a term. -/
def negTerm (t : Term) : Term := (-t.1, t.2)

/-- The largest exponent of a list of terms. -/
def maxExp : List Term → Int
  | [] => -64
  | [t] => t.2
  | t :: rest => max t.2 (maxExp rest)

/-- A term aligned to exponent S by a flooring shift (R200). -/
def align (big : Int) (t : Term) : Int := t.1 / 2 ^ (big - t.2).toNat

/-- A sum of terms: each aligned on its own to the largest exponent, then added exactly (R200). -/
def sumTerms (ts : List Term) : Term :=
  let big := maxExp ts
  ((ts.map (align big)).foldl (· + ·) 0, big)

/-- Element i of a vector. -/
def elem (v : BfVec) (i : Nat) : Bf := (v.ms.getD i 0, v.e)

/-- Mantissas rounded at exponent e by a rounding of quotients; x counts units of 2^(p - 44). -/
def mantissas (round : Int → Nat → Int) (xs : List Int) (p e : Int) : List Int :=
  xs.map fun x => let sh := p - 22 - e
    if 0 ≤ sh then x * 2 ^ sh.toNat else round x (2 ^ (-sh).toNat)

/-- The vector of R11 from exact sums under a rounding, and whether it saturated (R201, R202). -/
def normaliseBy (round : Int → Nat → Int) (acc : List Term) : BfVec × Bool :=
  let p := acc.foldl (fun b t => min b t.2) (maxExp acc)
  let xs := acc.map fun t => t.1 * 2 ^ (t.2 - p).toNat
  let big := xs.foldl (fun b x => max b x.natAbs) 0
  if big = 0 then ({ ms := xs, e := -64 }, false) else
  let e0 : Int := max (-64) ((Nat.log2 big : Int) + p - 44)
  let m0 := mantissas round xs p e0
  let e := if m0.any fun m => 2 ^ 23 ≤ m.natAbs then e0 + 1 else e0
  if 63 < e then
    ({ ms := xs.map fun x => if 0 < x then 2 ^ 23 - 1 else if x < 0 then -(2 ^ 23 - 1) else 0, e := 63 }, true)
  else ({ ms := mantissas round xs p e, e }, false)

/-- The normaliser: mantissas rounded to nearest, ties away from zero (R201). -/
def normalise (acc : List Term) : BfVec × Bool := normaliseBy roundAway acc

/-- One sum normalised on its own, and whether it saturated. -/
def norm1 (t : Term) : Bf × Bool := let v := normalise [t]; (elem v.1 0, v.2)

/-- The exponent of the leading bit of a rational that is not zero. -/
def leadingBit (x : Rat) : Int :=
  let n := x.num.natAbs
  let d := x.den
  let e0 : Int := (Nat.log2 n : Int) - Nat.log2 d
  let ge : Bool := if 0 ≤ e0 then d * 2 ^ e0.toNat ≤ n else d ≤ n * 2 ^ (-e0).toNat
  if ge then e0 else e0 - 1

/-- A rational to `bits` significant bits, rounded to nearest, ties away from zero. -/
def sigBits (bits : Nat) (x : Rat) : Bf :=
  if x.num = 0 then (0, -64) else
  let e := leadingBit x
  let k := (bits : Int) - 1 - e
  let m := if 0 ≤ k then roundAway (x.num * 2 ^ k.toNat) x.den else roundAway x.num (x.den * 2 ^ (-k).toNat)
  (m, 22 - k)

/-- A rational to 24 significant bits (R203). -/
def sig24 (x : Rat) : Bf := sigBits 24 x

/-- A rational as a BF24 value: the mantissa of a normalised element has 23 bits beside its sign (R10, R11). -/
def bf24 (x : Rat) : Bf := let r := sigBits 23 x; if r.1.natAbs = 2 ^ 23 then (r.1 / 2, r.2 + 1) else r

/-- The Carousel frequency, in 2^-32 Hz, in rad/s as a BF24 value: 2 pi times it, rounded down or up (Table 6.1, log 9). -/
def omega (freq : Nat) : Bf :=
  let x : Rat := (freq : Rat) / 4294967296 * (6283185307179586476925286766559 / 1000000000000000000000000000000)
  if x.num = 0 then (0, -64) else
  let e := leadingBit x
  let m := (scaleRat x (22 - e)).floor + (if omegaUp freq then 1 else 0)
  if m = 2 ^ 23 then (2 ^ 22, e + 1) else (m, e)

/-- A C24 word (Table 6.2). -/
def c24 (w : BitVec 32) : Bf := (signed 24 (w.toNat / 256), signed 7 (w.toNat % 128))

/-- min(max(x, lo), hi) on terms, with whether it moved x or the bounds cross (R729). -/
def clampTerm (lo hi x : Term) : Term × Bool :=
  let y := if termVal x < termVal lo then lo else x
  let z := if termVal hi < termVal y then hi else y
  (z, termVal z ≠ termVal x || termVal hi < termVal lo)

/-- The bounds of a clamp cross (R729). -/
def crossed (lo hi : Term) : Bool := termVal hi < termVal lo

/-- The largest value of 24 significant bits not above the root of a non-negative rational (R730). -/
def sqrtDown24 (x : Rat) : Bf :=
  if x.num ≤ 0 then (0, -64) else
  let n := x.num.natAbs
  let d := x.den
  -- exponent e of the root: 2^(2e) ≤ x < 2^(2e + 2)
  let l : Int := (Nat.log2 n : Int) - Nat.log2 d
  let lo := if scaleRat 1 l ≤ x then l else l - 1
  let e := lo / 2 - 1
  let y := scaleRat x (2 * (22 - e))
  ((Nat.sqrt (y.num.natAbs / y.den) : Nat), e)

/-! ### Parameters of a law (Tables 6.7 to 6.9) -/

/-- One PI channel. -/
structure PiChan where
  kp : Bf
  ki : Bf
  outMin : Bf
  outMax : Bf
  deriving DecidableEq, Repr, Inhabited

/-- The parameters of a chain, as the LAW_STAGE records give them. -/
structure LawPar where
  afe : Bool
  gains : List (Bf × Bf)
  kV : Bf
  vBusRef : Bf
  phi : Int
  pi : List PiChan
  kB : Bf
  repEn : Bool
  tabExp : Int
  q : Bf
  kr : Bf
  step : Bf
  h : Nat
  lead : Nat
  kFF : Bf
  lFF : Bf
  dMax : Bf
  vFloor : Bf
  trimMax : Bf
  zsi : Bool
  adv : Nat
  vinFs : Nat
  deriving DecidableEq, Repr, Inhabited

/-- The references of a stroke (Table 6.4, R214): I_ref or I_D_lim, V_lim or I_Q_ref. -/
structure Refs where
  r0 : Rat
  r1 : Rat
  deriving DecidableEq, Repr, Inhabited

/-- What a chain reads: the raw filter values with their lengths, the positions of the healthy legs among the leg elements,
the angle at the sample instant, the Carousel frequency, the table outputs. -/
structure LawIn where
  raw : List (Int × Nat)
  healthy : List Nat
  theta : Nat
  freq : Nat
  table : List Int
  refs : Refs
  deriving DecidableEq, Repr, Inhabited

/-- What a chain gives: the stage vectors, the new integrators, the law error vector, the duties, the SAT flag of each stage from
INPUT to DUTY (R202), whether LIMIT clamped (R203, R729, R730), and whether that stops learning (R219). -/
structure LawOut where
  vecs : List BfVec
  x : List Bf
  err : List Bf
  duties : List Bf
  sat : List Bool
  limited : Bool
  unlearn : Bool
  vIn : Bf
  vOut : Bf
  deriving DecidableEq, Repr, Inhabited

/-- A raw filter value as a fraction of full scale: the output divided by M^3 (R207). -/
def rawTerm (r : Int × Nat) : Term := (r.1 * 2 ^ 44 / (r.2 ^ 3 : Nat), 0)

/-- INPUT and SCALE (Table 6.1). -/
def inputScale (p : LawPar) (i : LawIn) : BfVec × BfVec × List Bool :=
  let (v0, s0) := normalise (i.raw.map rawTerm)
  let (v1, s1) := normalise ((List.range i.raw.length).map fun k =>
    let g := p.gains.getD k ((0, 0), (0, 0))
    sumTerms [prod (elem v0 k) g.1, single g.2])
  (v0, v1, [s0, s1])

/-- The integrator step x' of a channel, clamped to [OUT_MIN, OUT_MAX], and whether it saturated (R199, R202, R729). -/
def piStep (c : PiChan) (x e : Bf) : Bf × Bool :=
  norm1 (clampTerm (single c.outMin) (single c.outMax) (sumTerms [single x, prod c.ki e])).1

/-- e has the sign of the move from a clamped value towards its unclamped one (R199). -/
def clampedAlong (e : Bf) (before after : Term) : Bool :=
  (0 < e.1 && termVal after < termVal before) || (e.1 < 0 && termVal before < termVal after)

/-- A run of the stages PI to LIMIT: their vectors and SAT flags, whether LIMIT clamped, and whether that stops learning: a trim
that is cut within its bounds does not (R219, R729, log 134). -/
structure StageRun where
  vecs : List BfVec
  sats : List Bool
  limited : Bool
  unlearn : Bool
  deriving DecidableEq, Repr, Inhabited

/-- The stages PI to LIMIT of a BUCK_GROUP for given integrators, with v* before and after its clamp. -/
def buckRun (p : LawPar) (i : LawIn) (err v1 : BfVec) (x : Bf) : StageRun × Term × Term :=
  let pi := p.pi.headD default
  let nB := err.ms.length - 1
  let (v3, s3) := normalise (sumTerms [prod pi.kp (elem err 0), single x] ::
    (List.range nB).map fun j => prod p.kB (elem err (j + 1)))
  let (v4, s4) := if p.repEn then
      normalise (sumTerms [single (elem v3 0), single (i.table.getD 0 0, p.tabExp)] ::
        (List.range nB).map fun j => single (elem v3 (j + 1)))
    else (v3, false)
  let (v5, s5) := normalise (sumTerms [single (elem v4 0), prod p.kFF (elem v1 1)] ::
    (List.range nB).map fun j => single (elem v4 (j + 1)))
  let vStar := single (elem v5 0)
  let (lim, hit) := clampTerm (single p.vFloor) (prod p.dMax (elem v1 2)) vStar
  let tLo := negTerm (single p.trimMax)
  let tHi := single p.trimMax
  let trims := (List.range nB).map fun j => clampTerm tLo tHi (single (elem v5 (j + 1)))
  let (v6, s6) := normalise (lim :: trims.map (·.1))
  let stop := hit || (0 < nB && crossed tLo tHi)
  ({ vecs := [v3, v4, v5, v6], sats := [s3, s4, s5, s6], limited := stop || trims.any (·.2), unlearn := stop }, vStar, lim)

/-- The chain of a BUCK_GROUP law (Table 6.1, R199 to R203). -/
def buckChain (p : LawPar) (i : LawIn) (xs : List Bf) : LawOut :=
  let (v0, v1, s1) := inputScale p i
  let iOut := elem v1 0
  let vOut := elem v1 1
  let vIn := elem v1 2
  let h := i.healthy.length
  let e1 := sumTerms [single (bf24 i.refs.r0), negTerm (single iOut)]
  let e2 := sumTerms [prod p.kV (bf24 i.refs.r1), negTerm (prod p.kV vOut)]
  let e := if termVal e2 < termVal e1 then e2 else e1
  let bal := i.healthy.map fun j =>
    let own := single (elem v1 (3 + j))
    let big := max iOut.2 own.2
    (align big (single iOut) / (h : Int) - align big own, big)
  let (v2, s2) := normalise (e :: bal)
  let c := p.pi.headD default
  let x := xs.headD (0, -64)
  let (x', s') := piStep c x (elem v2 0)
  let (r1, b1, a1) := buckRun p i v2 v1 x'
  let back := clampedAlong (elem v2 0) b1 a1
  let r := if back then (buckRun p i v2 v1 x).1 else r1
  let l := r.vecs.getD 3 default
  let low := bfVal vIn < ((p.vinFs : Rat) / 1000)
  let dTerms := (List.range h).map fun j =>
    if low then (0, -64)
    else sig24 (termVal (sumTerms [single (elem l 0), single (elem l (j + 1))]) / bfVal vIn)
  let (v7, s7) := normalise (dTerms.map single)
  { vecs := [v0, v1, v2] ++ r.vecs ++ [v7], x := [if back then x else x'], err := (List.range (h + 1)).map (elem v2)
    duties := (List.range h).map (elem v7), sat := s1 ++ [s2] ++ (r.sats.modify 0 (· || s')) ++ [s7]
    limited := r.limited || low, unlearn := r.unlearn || low, vIn, vOut }

/-- The stages PI to LIMIT of an AFE_UNIT for given integrators, with the errors e_d and e_q and the channels clamped in the
direction of their error's sign (R199). -/
def afeRun (p : LawPar) (i : LawIn) (park : BfVec) (eBus vBus : Bf) (xs : List Bf) : StageRun × List Bf × List Bool :=
  let c (k : Nat) := p.pi.getD k default
  let x (k : Nat) := xs.getD k (0, -64)
  let b0 := sumTerms [prod (c 0).kp eBus, single (x 0)]
  let r0 := single (bf24 i.refs.r0)
  let top : Term := if termVal r0 < termVal (single (c 0).outMax) then r0 else single (c 0).outMax
  let (idRef, _) := clampTerm (single (c 0).outMin) top b0
  let busClamp := clampedAlong eBus b0 idRef
  let (idS, f0) := norm1 idRef
  let (ed, f1) := norm1 (sumTerms [single idS, negTerm (single (elem park 0))])
  let (eq, f2) := norm1 (sumTerms [single (bf24 i.refs.r1), negTerm (single (elem park 1))])
  let (v3, s3) := normalise [sumTerms [prod (c 1).kp ed, single (x 1)], sumTerms [prod (c 2).kp eq, single (x 2)]]
  let (v4, s4) := if p.repEn then
      normalise [sumTerms [single (elem v3 0), single (i.table.getD 0 0, p.tabExp)],
        sumTerms [single (elem v3 1), single (i.table.getD 1 0, p.tabExp)]]
    else (v3, false)
  let w := omega i.freq
  let (wl, f5) := norm1 (prod w p.lFF)
  let (v5, s5) := normalise
    [sumTerms [single (elem v4 0), prod p.kFF (elem park 2), negTerm (prod wl (elem park 1))],
     sumTerms [single (elem v4 1), prod p.kFF (elem park 3), prod wl (elem park 0)]]
  let ud := elem v5 0
  let uq := elem v5 1
  let lim := bfVal p.dMax * bfVal vBus
  let lim2 := if p.zsi then lim * lim / 3 else lim * lim / 4
  let mag2 := bfVal ud * bfVal ud + bfVal uq * bfVal uq
  let hit := lim2 < mag2
  let k := sqrtDown24 (lim2 / mag2)
  let (v6, s6) := if hit then normaliseBy (fun x d => x.tdiv d) [prod ud k, prod uq k] else (v5, false)
  let along (e u : Bf) : Bool := hit && ((0 < e.1 && 0 < u.1) || (e.1 < 0 && u.1 < 0))
  ({ vecs := [v3, v4, v5, v6], sats := [s3 || f0 || f1 || f2, s4, s5 || f5, s6], limited := hit, unlearn := hit },
    [ed, eq], [busClamp, along ed ud, along eq uq])

/-- The chain of an AFE_UNIT law (Table 6.1, R199 to R203, R730). -/
def afeChain (p : LawPar) (i : LawIn) (xs : List Bf) : LawOut :=
  let (v0, v1, s1) := inputScale p i
  let vBus := elem v1 6
  let th := (i.theta + (p.phi * 65536) % (2 ^ 32)).toNat % 2 ^ 32
  let g (k : Nat) := v1.ms.getD k 0
  let ci := park th (g 0) (g 1) (g 2)
  let cv := park th (g 3) (g 4) (g 5)
  let eb := sumTerms [single p.vBusRef, negTerm (single vBus)]
  let (v2, s2) := normalise [single (ci.1, v1.e), single (ci.2, v1.e), single (cv.1, v1.e), single (cv.2, v1.e), eb]
  let eBus := elem v2 4
  let c (k : Nat) := p.pi.getD k default
  let x (k : Nat) := xs.getD k (0, -64)
  let y0 := piStep (c 0) (x 0) eBus
  -- the current errors follow the bus channel of this pass, so the d and q steps are formed from the first pass
  let (_, e1, _) := afeRun p i v2 eBus vBus [y0.1, x 1, x 2]
  let y1 := piStep (c 1) (x 1) (e1.getD 0 (0, -64))
  let y2 := piStep (c 2) (x 2) (e1.getD 1 (0, -64))
  let xs' := [y0.1, y1.1, y2.1]
  let r1 := afeRun p i v2 eBus vBus xs'
  let held (k : Nat) : Bool := r1.2.2.getD k false
  let xn := (List.range 3).map fun k => if held k then x k else xs'.getD k (0, -64)
  let (r, es, _) := if held 0 || held 1 || held 2 then afeRun p i v2 eBus vBus xn else r1
  let v6 := r.vecs.getD 3 default
  let low := bfVal vBus < ((p.vinFs : Rat) / 1000)
  let ph := invPark ((th + p.adv * 65536) % 2 ^ 32) (v6.ms.getD 0 0) (v6.ms.getD 1 0)
  let us := [ph.1, ph.2.1, ph.2.2]
  -- the quotient by 2 is formed from the aligned term, where it is exact (R200)
  let mid : Int := if p.zsi then ((max ph.1 (max ph.2.1 ph.2.2)) + (min ph.1 (min ph.2.1 ph.2.2))) * 2 ^ 22 / 2 else 0
  let dTerms := us.map fun u =>
    if low then (0, -64) else sumTerms [single (2 ^ 21, 0), single (sig24 (termVal (u * 2 ^ 22 - mid, v6.e) / bfVal vBus))]
  let (v7, s7) := normalise dTerms
  { vecs := [v0, v1, v2] ++ r.vecs ++ [v7], x := xn, err := eBus :: es, duties := (List.range 3).map (elem v7)
    sat := s1 ++ [s2] ++ (r.sats.modify 0 (· || y0.2 || y1.2 || y2.2)) ++ [s7]
    limited := r.limited || low, unlearn := r.unlearn || low, vIn := vBus, vOut := (0, -64) }

/-- ON of a command word from a duty: the nearest unit of 2^-24 stroke, ties away from zero, within the field (SPLIT). -/
def onOf (d : Bf) : Nat :=
  let r := scaleRat d.1 (d.2 - 22 + 24)
  (clampInt 0 (2 ^ 24 - 1) (roundAway r.num r.den)).toNat

/-- The new entry of a repetitive table: q * entry + kr * e, rounded and saturated at TAB_EXP; and whether it saturated
(R217, R218). -/
def repEntry (p : LawPar) (old : Int) (e : Bf) : Int × Bool :=
  let t := sumTerms [prod p.q (old, p.tabExp), prod p.kr e]
  let sh := t.2 - 22 - p.tabExp
  let m := if 0 ≤ sh then t.1 * 2 ^ sh.toNat else roundAway t.1 (2 ^ (-sh).toNat)
  (clampInt (-(2 ^ 23 - 1)) (2 ^ 23 - 1) m, 2 ^ 23 - 1 < m.natAbs)

/-! ### The sinc3 filter (R207) -/

/-- The weight of position k in the square of a boxcar of length m. -/
def tri (m k : Nat) : Nat := if k < m then k + 1 else if k < 2 * m - 1 then 2 * m - 1 - k else 0

/-- The weight of position k in the sinc3 filter of length m, which spans 3 m - 2 clocks. -/
def sincWeight (m k : Nat) : Nat :=
  (List.range m).foldl (fun a i => if i ≤ k then a + tri m (k - i) else a) 0

/-- The filter output over a bitstream, newest bit first: ones count +1, zeros -1; divided by m^3 it is the value, a fraction below
1, so that a window of ones alone gives the largest output below full scale (R207, log 135). -/
def sinc3 (m : Nat) (hist : List Bool) : Int :=
  min ((m ^ 3 : Nat) - 1) (((List.range (3 * m - 2)).zip hist).foldl (fun a p =>
    if p.2 then a + sincWeight m p.1 else a - sincWeight m p.1) 0)

end Sys2Proof.Machine
end

