-- ==== Sys2Proof/Machine/Carousel.lean ====
section
/-!
DEFINITION. The Carousel (chapter 2): validity of the reference sets, lock and loss of lock, the states of Table 2.1, and the
boundaries of strokes and half-turns. Phases are in phase units (Config.turnUnits); how the loop filter closes a phase
error within the limits of R29 and R37 is a DESIGN CHOICE (log 6).
The holder, and a module without a partner, changes state at once and enters the change in the journal; a standby takes no transition of
its own and applies the holder's at their EFFECT stamps (R587, R589).
-/
namespace Sys2Proof.Machine

open Sys2Proof.Config

/-! ### The CAROUSEL record (Table 2.3) -/

/-- The CAROUSEL record in force. -/
def State.carRec (s : State) : List W32 := s.rec1 0x0101
/-- N, strokes per turn. -/
def State.nStrokes (s : State) : Nat := fld s.carRec 0 31 20
/-- The sets wired. -/
def State.wired (s : State) : SetId → Bool
  | .a => bit s.carRec 0 18
  | .b => bit s.carRec 0 19
/-- The preferred set. -/
def State.pref (s : State) : SetId := if bit s.carRec 0 17 then .b else .a
/-- F_LO and F_HI in 1/512 Hz. -/
def State.fLo (s : State) : Nat := fld s.carRec 1 31 16
def State.fHi (s : State) : Nat := fld s.carRec 1 15 0
/-- HOLD_H in turns. -/
def State.holdH (s : State) : Nat := fld s.carRec 2 31 22
/-- V_MIN and V_MAX in 0.01 per unit. -/
def State.vMin (s : State) : Nat := fld s.carRec 2 21 14
def State.vMax (s : State) : Nat := fld s.carRec 2 13 6
/-- START_WIN in ticks. -/
def State.startWin (s : State) : Nat := fld s.carRec 3 15 12 * (ticksPerSec / 4)
/-- REVERT in turns. -/
def State.revertTurns (s : State) : Nat := fld s.carRec 3 7 0

/-! ### Sets -/

/-- The other set. -/
def otherSet : SetId → SetId
  | .a => .b
  | .b => .a

/-- One set of the Carousel. -/
def Carousel.set (c : Carousel) : SetId → RefSet
  | .a => c.setA
  | .b => c.setB

/-- One set changed. -/
def Carousel.modSet (c : Carousel) (i : SetId) (f : RefSet → RefSet) : Carousel :=
  match i with
  | .a => { c with setA := f c.setA }
  | .b => { c with setB := f c.setB }

/-- The Carousel part changed. -/
def State.modCar (s : State) (f : Carousel → Carousel) : State := { s with carousel := f s.carousel }

/-- A change of the Carousel is a decision of the holder, and enters the journal (Table 15.2, R587). -/
def State.decideCar (s : State) (c : CarChange) : State :=
  if s.pair.st = .holder || s.pair.st = .solo then s.journal (.carousel c) else s

/-- The frequency changes at a tick: the point is kept for the tick of every arc boundary (R54). -/
def Carousel.mark (c : Carousel) (tick : Nat) : Carousel :=
  { c with history := (tick, c.phase) :: c.history.takeWhile fun h => c.phase ≤ h.2 + 4 * turnUnits }

/-- Phase error to a set in arcs: set A shifted by zero, set B by the held offset (R27). -/
def Carousel.phaseErr (c : Carousel) : SetId → Int
  | .a => wrapArc c.setA.phase
  | .b => wrapArc (c.setB.phase - c.offset)

/-- Frequency error to a set in 1/512 Hz. -/
def Carousel.freqErr (c : Carousel) (i : SetId) : Int := (c.set i).freq - (c.ft / freqUnit : Nat)

/-- A set meets R24. -/
def State.meetsR24 (s : State) (m : LineMeas) : Bool :=
  m.transitions && s.vMin ≤ m.mag && m.mag ≤ s.vMax && s.fLo ≤ m.freq && m.freq ≤ s.fHi

/-- The observation reaches a limit of R25. -/
def State.meetsR25 (s : State) : RefObs → Bool
  | .noTransition n => 64 ≤ n
  | .clockLost => true
  | .magnitude m arcs => 2048 ≤ arcs && (m < s.vMin || s.vMax < m)
  | .frequency f arcs => 32768 ≤ arcs && (f < s.fLo || s.fHi < f)

/-- The cause that REF_FAIL carries. -/
def refCause : RefObs → RefCause
  | .noTransition _ => .noTransitions
  | .clockLost => .clockLost
  | .magnitude _ _ => .magnitude
  | .frequency _ _ => .frequency

/-- Causes as event values: a lost modulator clock shows as no transitions (Table 2.5). -/
def RefCause.num : RefCause → Int
  | .noTransitions | .clockLost => 0
  | .magnitude => 1
  | .frequency => 2

/-- A valid set to follow: the preferred one if it is valid, else the other (R35). -/
def State.validSet (s : State) : Option SetId :=
  if (s.carousel.set s.pref).valid then some s.pref
  else if (s.carousel.set (otherSet s.pref)).valid then some (otherSet s.pref)
  else none

/-! ### Transitions of Table 2.1 -/

/-- The mean measured frequency of the last complete turn that ended at least 2 048 arcs before now, in 1/512 Hz (R36);
the present tracking frequency where no such turn is known. -/
def Carousel.holdFreq (c : Carousel) (i : SetId) : Nat :=
  match (c.set i).turnMeans.find? fun m => m.2 + 2048 * arcUnits ≤ c.phase with
  | some m => m.1 * freqUnit
  | none => c.ft

/-- The Carousel enters HOLDOVER at a frequency (R34, R36). HOLDOVER carries it in 2^-32 Hz (log 114). -/
def State.toHoldover (s : State) (f : Nat) : State :=
  (s.modCar fun c =>
    { c.mark s.tick with
      st := .holdover, freq := f, ft := f, holdFrom := c.phase, holdCount := c.holdCount + 1, revertDue := false }).raise
    .holdover [f]

/-- HOLDOVER is entered on a failure (R34, R36). -/
def State.enterHoldover (s : State) : State :=
  let f := s.carousel.holdFreq s.carousel.followed
  (s.toHoldover f).decideCar (.holdover f)

/-- The Carousel enters RELOCK, following set `i` (R34, R37, R728). -/
def State.toRelock (s : State) (i : SetId) : State :=
  (s.modCar fun c =>
    { c.mark s.tick with
      st := .relock, followed := i, relockFrom := c.phase, relockCount := c.relockCount + 1, revertDue := false }).raise
    .relock [s.carousel.phaseErr i, s.carousel.freqErr i]

/-- RELOCK is entered (R34, R35, R728). -/
def State.enterRelock (s : State) (i : SetId) : State := (s.toRelock i).decideCar (.relock i)

/-- The followed set of RELOCK changes, without a new RELOCK (R35, R728). -/
def State.relockOn (s : State) (i : SetId) : State := (s.modCar fun c => { c with followed := i }).decideCar (.relockOn i)

/-- The Carousel changes its followed set in LOCKED (R34, REF_SWITCH). -/
def State.toSet (s : State) (i : SetId) : State :=
  (s.modCar fun c => { c with followed := i, revertDue := false }).raise
    .refSwitch [setNum s.carousel.followed, setNum i, s.carousel.offset]

/-- The followed set changes in LOCKED (R34). -/
def State.switchSet (s : State) (i : SetId) : State := (s.toSet i).decideCar (.switchSet i)

/-- The followed set has failed: Table 2.1. A follower waits for the holder's decision (R587). -/
def State.followedFailed (s : State) : State :=
  if !s.decides then s else
  let o := otherSet s.carousel.followed
  match s.carousel.st with
  | .locked => if (s.carousel.set o).valid then s.switchSet o else s.enterHoldover
  | .relock => if (s.carousel.set o).valid then s.relockOn o else s.enterHoldover
  | .acquire => if (s.carousel.set o).valid then s.modCar fun c => { c with followed := o } else s
  | _ => s

/-- A set is declared failed (R25): a wired set that has been valid and is. -/
def State.failSet (s : State) (i : SetId) (cause : RefCause) : State :=
  if s.carousel.started && s.wired i && (s.carousel.set i).valid then
    let s := (s.modCar (·.modSet i fun r =>
      { r with valid := false, failCount := r.failCount + 1
               lastFail := some { cause, tick := s.tick, stamp := s.stamp } })).raise .refFail [setNum i, cause.num]
    if s.carousel.followed = i then s.followedFailed else s
  else s

/-- REF_FAIL (R25). -/
def execRefFail (t : Nat) (i : SetId) (obs : RefObs) (s : State) : Out :=
  let s := s.advance t
  .next (if s.meetsR25 obs then s.failSet i (refCause obs) else s)

/-- RELOCK follows the other set because that one became valid in this same arc (R35). -/
def State.relockedNow (s : State) : Bool :=
  s.carousel.followed ≠ s.pref && s.carousel.relockFrom / arcUnits = s.stamp
    && (s.carousel.set (otherSet s.pref)).validAt / arcUnits = s.stamp

/-- The first state after a set has become valid (R26, R34, R35): the preferred set is followed where both became valid in one arc. -/
def State.afterValid (s : State) : State :=
  if !s.decides then s else
  match s.carousel.st, s.validSet with
  | .acquire, some i => s.modCar fun c => { c with followed := i }
  | .holdover, some i | .glide, some i | .nominal, some i => s.enterRelock i
  | .relock, some i => if i = s.pref && s.relockedNow then s.relockOn i else s
  | _, _ => s

/-- REF_VALID (R26): a set never valid since start after one complete turn that meets R24, a failed one after four. -/
def execRefValid (t : Nat) (i : SetId) (m : LineMeas) (arcs : Nat) (s : State) : Out :=
  let s := s.advance t
  let r := s.carousel.set i
  .next (if s.carousel.started && s.wired i && !r.valid && s.meetsR24 m
      && (if r.everValid then 4 * 65536 else 65536) ≤ arcs then
    let s' := s.modCar (·.modSet i fun r =>
      { r with valid := true, everValid := true, validAt := s.carousel.phase
               mag := m.mag, freq := m.freq, phase := m.phase })
    (if r.everValid then s'.raise .refValid [setNum i] else s').afterValid
  else s)

/-- TURN at the first lock: 0, or the holder's count adopted before it with the turns that have passed since at frequency `f` (R32, R589;
log 115). -/
def Carousel.firstTurn (c : Carousel) (f tick : Nat) : Nat :=
  match c.adopted with
  | none => 0
  | some (turn, at_) => turn + f * (tick - at_) / turnUnits

/-- The Carousel locks for the first time: the line stamp counts from here (R32). -/
def State.firstLock (s : State) (st : CarState) (f : Nat) : State :=
  s.modCar fun c =>
    let turn := c.firstTurn f s.tick
    { c with
      st, running := true, firstLock := s.tick, phase := turn * turnUnits, freq := f, ft := f, stroke := turn * s.nStrokes
      half := 2 * turn, lastHalf := (turn * 65536, s.tick), history := [(s.tick, turn * turnUnits)]
      strokeTick := s.tick, tap := 32 * s.tick }

/-- The Carousel enters LOCKED, from ACQUIRE as its first lock or from RELOCK (R30, R32). -/
def State.toLocked (s : State) : State :=
  let c := s.carousel
  match c.st with
  | .acquire => (s.firstLock .locked ((c.set c.followed).freq * freqUnit)).raise .locked [setNum c.followed, 0]
  | .relock =>
    (s.modCar fun c => { c with st := .locked }).raise .locked [setNum c.followed, ((c.phase - c.relockFrom) / turnUnits : Nat)]
  | _ => s

/-- LOCKED (R30): from ACQUIRE and from RELOCK. The first lock of a module is its own; a later one of a follower is the holder's
(R587). -/
def execLocked (t : Nat) (obs : LockObs) (s : State) : Out :=
  let s := s.advance t
  let c := s.carousel
  .next (if c.started && (c.set c.followed).valid && obs.phaseErr ≤ 64 && obs.freqErr ≤ 50 && 2 ≤ obs.halfTurns
      && (c.st = .acquire || (c.st = .relock && s.decides)) then
    s.toLocked.decideCar .locked
  else s)

/-- RELOCK (R728, Table 2.1): loss of lock in LOCKED, or a valid set in HOLDOVER, GLIDE or NOMINAL. -/
def execRelock (t : Nat) (obs : LockObs) (s : State) : Out :=
  let s := s.advance t
  let c := s.carousel
  .next (if !s.decides then s else match c.st with
    | .locked =>
      if (c.set c.followed).valid && 1 ≤ obs.halfTurns && (64 < obs.phaseErr || 50 < obs.freqErr) then
        s.enterRelock c.followed
      else s
    | .holdover | .glide | .nominal =>
      match s.validSet with
      | some i => s.enterRelock i
      | none => s
    | _ => s)

/-- START_WIN_EXPIRY (R32): no lock within START_WIN of the logic die leaving reset; a lock in the expiry tick is in time (R47). -/
def execStartWinExpiry (t : Nat) (s : State) : Out :=
  let s := s.advance t
  .next (if s.carousel.started && !s.carousel.running && s.expired s.time.tick0 s.startWin then
    ((s.firstLock .nominal (s.fNom * freqUnit)).raise .nominal [1]).decideCar .nominal |>.afterValid
  else s)

/-- The Carousel enters GLIDE (R34). GLIDE carries its frequency in 2^-32 Hz (log 114). -/
def State.toGlide (s : State) : State :=
  (s.modCar fun c => { c with st := .glide, glideFrom := (0, c.phase, c.freq) }).raise .glide [s.carousel.freq]

/-- The Carousel enters NOMINAL after a glide (R34). -/
def State.toNominal (s : State) : State :=
  (s.modCar fun c =>
    { c.mark s.tick with st := .nominal, freq := s.fNom * freqUnit, ft := s.fNom * freqUnit }).raise .nominal [0]

/-- GLIDE (R34): HOLD_H turns of holdover have elapsed. -/
def execGlide (t : Nat) (s : State) : Out :=
  let s := s.advance t
  let c := s.carousel
  .next (if s.decides && c.st = .holdover && c.holdFrom + s.holdH * turnUnits ≤ c.phase then s.toGlide.decideCar .glide else s)

/-- NOMINAL (R34): the glide has reached F_NOM. -/
def execNominal (t : Nat) (s : State) : Out :=
  let s := s.advance t
  .next (if s.decides && s.carousel.st = .glide && s.carousel.freq = s.fNom * freqUnit then
    s.toNominal.decideCar .nominal
  else s)

/-- REVERT (R34): the preferred set has been valid for REVERT turns; the return takes effect at the next half-turn
boundary. -/
def execRevert (t : Nat) (s : State) : Out :=
  let s := s.advance t
  let c := s.carousel
  let r := c.set s.pref
  .next (if s.decides && c.st = .locked && c.followed ≠ s.pref && r.valid
      && r.validAt + s.revertTurns * turnUnits ≤ c.phase then
    s.modCar fun c => { c with revertDue := true }
  else s)

/-- A change of the Carousel that the holder has decided takes effect at a follower (R587, R589). -/
def State.applyCar (s : State) : CarChange → State
  | .locked => s.toLocked
  | .switchSet i => s.toSet i
  | .holdover f => s.toHoldover f
  | .glide => s.toGlide
  | .nominal => s.toNominal
  | .relock i => s.toRelock i
  | .relockOn i => s.modCar fun c => { c with followed := i }

/-! ### Boundaries -/

/-- The phase at which stroke `k` since the first lock begins, in phase units (R40, R42). -/
def strokePhase (n k : Nat) : Nat := k / n * turnUnits + ceilDiv (k % n * 2 ^ 32) n * ticksPerSec

/-- The stroke in progress at a phase (R40): the last one that has begun. -/
def strokeAt (n phase : Nat) : Nat :=
  phase / turnUnits * n + phase % turnUnits / ticksPerSec * n / 2 ^ 32

/-- What a wired set shows at a stroke boundary is taken in (R24, R36). -/
def RefSet.measure (r : RefSet) (m : LineMeas) : RefSet :=
  { r with mag := m.mag, freq := m.freq, phase := m.phase, turnSum := r.turnSum + m.freq }

/-- A turn of `n` strokes ends at `phase`: its mean frequency, rounded down to 1/512 Hz (log 116), is kept with the last three (R36). -/
def RefSet.endTurn (r : RefSet) (n phase : Nat) : RefSet :=
  { r with turnSum := 0, turnMeans := ((r.turnSum / n, phase) :: r.turnMeans).take 3 }

/-- The loop over one stroke of `dt` ticks (R29, R37): the tracking frequency moves towards the followed set's at up to 2 Hz/s, and
the phase correction, at most 1/64, takes the error away in the direction of the smaller magnitude: at the full 1 024 arcs a turn until
what is left fits into one stroke of the `n` of a turn. -/
def Carousel.track (c : Carousel) (n dt : Nat) : Carousel :=
  if c.st = .locked || c.st = .relock then
    let ft := towards c.ft ((c.set c.followed).freq * freqUnit) (2 * 2 ^ 32 * dt / ticksPerSec)
    let e := clampInt (-1024) 1024 (c.phaseErr c.followed * n)
    { c with ft, freq := (ft + ft * e / 65536).toNat }
  else c

/-- The filter samples of the phase of set B less that of set A over a stroke, while both sets are valid; a stroke without both leaves
no mean for its turn (R27). -/
def Carousel.sampleOffset (c : Carousel) (ab : List Int) : Carousel :=
  if c.setA.valid && c.setB.valid then
    { c with offSum := (c.offSum.1 + (ab.map wrapArc).sum, c.offSum.2 + ab.length) }
  else { c with offBroken := true }

/-- The end of a turn of `n` strokes: the A-B offset, the mean over every filter sample of the turn rounded to the nearest arc, is held
where both sets were valid throughout (R27, R36). -/
def Carousel.endTurn (c : Carousel) (n : Nat) : Carousel :=
  { c with
    offset := if c.offBroken || c.offSum.2 = 0 then c.offset else roundHalfUp c.offSum.1 c.offSum.2
    offSum := (0, 0)
    offBroken := false
    setA := c.setA.endTurn n c.phase
    setB := c.setB.endTurn n c.phase }

/-- The instant of a phase already reached, in taps of 78.125 ps: counted back from the tick at the Carousel's frequency, so that no
rounding accumulates from stroke to stroke (R40, R41). -/
def Carousel.tapOf (c : Carousel) (tick phase : Nat) : Nat := 32 * tick - (c.phase - phase) * 32 / c.freq

/-- The next stroke has begun: the phase has reached its start, at this tick or before (R40, R42, R44). -/
def Carousel.strokeDue (c : Carousel) (n : Nat) : Bool := c.stroke < strokeAt n c.phase

/-- A stroke boundary is reached at a tick (R40 to R42, R44, R54). -/
def Carousel.beginStroke (c : Carousel) (n tick : Nat) : Carousel :=
  let k := strokeAt n c.phase
  { c.mark tick with stroke := k, tap := c.tapOf tick (strokePhase n k), strokeTick := tick }

/-- The Carousel's part of a stroke boundary. -/
def Carousel.onStroke (c : Carousel) (n tick : Nat) (wa wb : Bool) (ma mb : LineMeas) (ab : List Int) : Carousel :=
  let dt := tick - c.strokeTick
  let turn := c.stroke / n
  let c := c.beginStroke n tick
  let c := if wa then c.modSet .a (·.measure ma) else c
  let c := if wb then c.modSet .b (·.measure mb) else c
  let c := c.sampleOffset ab
  let c := if turn < c.stroke / n then c.endTurn n else c
  c.track n dt

/-- A half-turn after the last one has begun: the phase has reached it (R44). -/
def Carousel.halfDue (c : Carousel) (half : Nat) : Bool := c.half < half && half * halfUnits ≤ c.phase

/-- The Carousel's part of a half-turn boundary (R44): the count, and the line stamp and tick of the boundary. -/
def Carousel.beginHalf (c : Carousel) (half tick : Nat) : Carousel := { c with half, lastHalf := (half * 32768, tick) }

/-- The return to the preferred set takes effect at the half-turn boundary, after a revision (R34, R87). -/
def State.revertHalf (s : State) : State :=
  if s.carousel.revertDue && s.carousel.st = .locked && (s.carousel.set s.pref).valid then s.switchSet s.pref
  else s.modCar fun c => { c with revertDue := false }

/-- An event scheduled at a stamp already passed is applied and counted (R45). -/
def State.lateSchedule (s : State) (subsystem requested : Nat) : State :=
  (s.modCar fun c => { c with lateCount := c.lateCount + 1 }).raise .lateSchedule [subsystem, requested]

/-- The objects of Table 2.4 that the Carousel holds. -/
def CarState.num : CarState → Int
  | .acquire => 0
  | .locked => 1
  | .holdover => 2
  | .glide => 3
  | .nominal => 4
  | .relock => 5

end Sys2Proof.Machine
end

