-- ==== Sys2Proof/Machine/Inkwell.lean ====
section
/-!
DEFINITION. The memories of the nib array (chapter 4): the regions of Tables 4.6 and 4.7 with their access checker, task descriptors
(Tables 4.3 and 4.4), poisoned words and the scrubbers.
-/
namespace Sys2Proof.Machine

open Sys2Proof.Config

/-- The array changed. -/
def State.modArr (s : State) (f : Array_ → Array_) : State := { s with array := f s.array }

/-! ### Regions (R137, R142) -/

/-- A region of the Inkwell: its bytes, and the classes whose tasks may write and read it (Table 4.6). -/
structure Region where
  first : Nat
  bytes : Nat
  writers : List Nat
  readers : List Nat
  deriving DecidableEq, Repr, Inhabited

/-- The nine regions of Table 4.6. Task queues and park slots are written and read by the nibs themselves, the input journal by the
link and input units, snapshots are written by the snapshot hardware: no task of a class reaches these as its own. -/
def regions : List Region :=
  [{ first := 0x0000000, bytes := 0x100000, writers := [0], readers := [0, 4] },
   { first := 0x0100000, bytes := 0x900000, writers := [2, 3], readers := [1, 2, 3, 4] },
   { first := 0x0A00000, bytes := 0x100000, writers := [1], readers := [1] },
   { first := 0x0B00000, bytes := 0x100000, writers := [1], readers := [0, 1, 2, 4] },
   { first := 0x0C00000, bytes := 0x100000, writers := [], readers := [] },
   { first := 0x0D00000, bytes := 0x400000, writers := [], readers := [] },
   { first := 0x1100000, bytes := 0x200000, writers := [], readers := [] },
   { first := 0x1300000, bytes := 0x200000, writers := [], readers := [0, 2, 4] },
   { first := 0x1500000, bytes := 0x300000, writers := [0, 2, 3, 4], readers := [2, 3, 4] }]

/-- Bytes of the Inkwell. -/
def inkwellBytes : Nat := 0x1800000

/-- The access checker: bytes `lo` to `hi` - 1 of the Inkwell lie in regions that tasks of a class may write, or read (R137). -/
def accessOk (cls : Nat) (write : Bool) (lo hi : Nat) : Bool :=
  decide (hi ≤ (regions.filter fun r => (if write then r.writers else r.readers).contains cls).foldl
    (fun at_ r => if r.first ≤ at_ && at_ < r.first + r.bytes then r.first + r.bytes else at_) lo)

/-- The regions of the LPDDR5X memory in order, in MiB (Table 4.7): base-tier nodes, node power sources, stencil and instance
tables, waveform capture buffers, allocation log; telemetry buffers fill the rest. -/
def dramRegions : List Nat := [320, 40, 64, 512, 256]

/-- Blocks of 64 bytes in a channel: seven eighths of the fitted capacity over two channels (R142, R143). -/
def dramBlocks : Nat := if dramLarge then 7 * 2 ^ 24 else 7 * 2 ^ 23

/-- MiB that telemetry buffers may take (R142). -/
def telemetryMiB : Nat := dramGiB * 896 - dramRegions.sum

/-! ### Task descriptors (R109 to R112) -/

/-- The code of a task's kernel. -/
def State.kernelCode (s : State) : TaskKind → Nat
  | .law l => if bit ((s.recAt 0x0501 31 26 l.val).getD []) 0 25 then 1 else 0
  | .juggler _ => 2
  | .fastFolios _ => 3
  | .baseFolios _ => 4
  | .cooling => 5
  | .calibration _ _ => 6
  | .analytics k _ => 7 + k

/-- KERNEL: the number given with an analytics task, the library's number of the others. -/
def kernelNumber (code : Nat) : BitVec 16 := if 7 ≤ code then BitVec.ofNat 16 (code - 7) else kernelNo code

/-- The result domain of a task (R120): the law, the Juggler, the cooling law, a block of folios, a check, a kernel. -/
def taskDom : TaskKind → Nat
  | .law l => l
  | .juggler _ => 64
  | .cooling => 65
  | .calibration u _ => 0x80 + u
  | .analytics k _ => 0x100 + k
  | .fastFolios f => 0x1000000 + f
  | .baseFolios f => 0x2000000 + f

/-- The class of a task (Table 4.2, Table 4.8). -/
def taskClass : TaskKind → Nat
  | .law _ => 0
  | .juggler _ => 1
  | .fastFolios _ | .cooling => 2
  | .baseFolios _ => 3
  | .analytics _ _ | .calibration _ _ => 4

/-- Blocks of state, inputs and result of a task: those of the library for P0 and P1, those of a streaming kernel for the others
(R112). -/
def State.taskBlocks (s : State) (k : TaskKind) : Nat × Nat × Nat :=
  let laws := s.recs 0x0501
  let stream (c : Nat) : Nat × Nat × Nat :=
    ((streamBlocks c 0).val + 1, (streamBlocks c 1).val + 1, (streamBlocks c 2).val + 1)
  match k with
  | .law l => s.array.sizes.getD ((laws.findIdx? fun r => fld r 0 31 26 = l.val).getD 0) (1, 2, 1)
  | .juggler _ => s.array.sizes.getD laws.length (1, 2, 1)
  | _ => stream (s.kernelCode k)

/-- The first block of a range of `len` blocks that belongs to a domain, in a region of the Inkwell. -/
def placeIn (region dom place len : Nat) : Nat :=
  let r := regions.getD region default
  r.first / 64 + placeOf dom place % (r.bytes / 64 - len + 1)

/-- The regions that hold a task's state and result, and its inputs with their KIND (Table 4.6, log 125). -/
def taskRegions : TaskKind → Nat × Nat × List (Nat × Nat)
  | .law _ => (0, 0, [(1, 7), (2, 3)])
  | .juggler _ => (2, 2, [(2, 1), (2, 3)])
  | .fastFolios _ => (1, 1, [(2, 8)])
  | .baseFolios _ => (1, 1, [(2, 8)])
  | .cooling => (8, 8, [(2, 1)])
  | .analytics _ _ => (8, 8, [(2, 0)])
  | .calibration _ _ => (8, 8, [(1, 7)])

/-- The references of a task's descriptor (Tables 4.3 and 4.4). The base tier's nodes lie in the LPDDR5X memory. -/
def State.withRefs (s : State) (k : Task) : Task :=
  let n := s.taskBlocks k.kind
  let r := taskRegions k.kind
  let base := match k.kind with | .baseFolios _ => true | _ => false
  let own (region place len : Nat) : BlockRange :=
    if base then { lpddr := true, first := placeOf k.dom place % (320 * 2 ^ 14), len } else { first := placeIn region k.dom place len, len }
  let lens := if r.2.2.length = 1 then [n.2.1] else [n.2.1 - 1, 1]
  { k with
    state := own r.1 0 n.1
    result := own r.2.1 (if r.1 = r.2.1 then 0 else 1) n.2.2
    inputs := r.2.2.mapIdx fun i x =>
      { kind := x.1, addr := placeIn x.2 k.dom (2 + i) (lens.getD i 1), len := lens.getD i 1, snap := (refSnap k.dom k.seq i).toNat }
    coef := (coefOf k.dom).toNat }

/-- CHECK over the words of a descriptor: CRC-16/CCITT-FALSE over words 0 to 14 and word 15 [31:16] (Table 4.3). -/
def descriptorCheck (ws : List W32) : BitVec 16 :=
  (((ws.take 15).flatMap wordBytes) ++ (wordBytes (ws.getD 15 0)).take 2).foldl crc16Byte 0xFFFF#16

/-- The sixteen words of a task's descriptor (Tables 4.3 and 4.4). -/
def State.descriptor (s : State) (k : Task) : List W32 :=
  let w (x : Nat) : W32 := BitVec.ofNat 32 x
  let num := (kernelNumber (s.kernelCode k.kind)).toNat
  let side (b : Bool) : Nat := if b then 2 ^ 31 else 0
  let refs := (List.range 4).flatMap fun i =>
    match k.inputs[i]? with
    | some x => [w (x.kind * 2 ^ 28 + x.addr % 2 ^ 28), w (x.len * 2 ^ 16 + x.snap % 2 ^ 16)]
    | none => [0, 0]
  let dl := k.deadline.getD (2 ^ 64 - 1)
  let body := [w (num * 2 ^ 16 + k.cls * 2 ^ 13 + k.home % 32 * 2 ^ 8 + k.copy * 2 ^ 6 + (if k.lineDl then 0 else 2 ^ 5)),
      w (k.seq % 2 ^ 32), w (side k.state.lpddr + k.state.first % 2 ^ 31), w (k.state.len * 2 ^ 16 + k.result.len),
      w (side k.result.lpddr + k.result.first % 2 ^ 31)] ++ refs ++ [w (dl / 2 ^ 32), w dl, w (k.coef * 2 ^ 16)]
  body.take 15 ++ [body.getD 15 0 ||| w (descriptorCheck body).toNat]

/-- What a nib finds wrong with a descriptor as it reads it (R111): 0 CHECK, 1 a reference outside the regions permitted to its
class. A result of P0 to P2 in the LPDDR5X memory is such a reference (Table 4.3). -/
def descriptorFault (ws : List W32) : Option Int :=
  let cls := fld ws 0 15 13
  let range (write lpddr : Bool) (first len : Nat) : Bool :=
    if lpddr then !(write && cls ≤ 2) else accessOk cls write (64 * first) (64 * (first + len))
  if ws.length ≠ 16 || descriptorCheck ws ≠ BitVec.ofNat 16 (fld ws 15 15 0) then some 0
  else if range false (bit ws 2 31) (fld ws 2 30 0) (fld ws 3 31 16) && range true (bit ws 4 31) (fld ws 4 30 0) (fld ws 3 15 0) &&
      (List.range 4).all fun i =>
        let kind := fld ws (5 + 2 * i) 31 28
        kind = 0 || kind = 3 || range false false (fld ws (5 + 2 * i) 27 0) (fld ws (6 + 2 * i) 31 16) then none
  else some 1

/-- A byte address of the Inkwell lies in a range. -/
def BlockRange.holds (r : BlockRange) (addr : Nat) : Bool :=
  !r.lpddr && 64 * r.first ≤ addr && addr < 64 * (r.first + r.len)

/-- A task reads the Inkwell word at an address: in its state or an input. -/
def Task.reads (k : Task) (addr : Nat) : Bool :=
  k.state.holds addr ||
    k.inputs.any fun x => (x.kind = 1 || x.kind = 2) && 64 * x.addr ≤ addr && addr < 64 * (x.addr + x.len)

/-- Blocks of local memory that a task uses: all it reads and writes for P0 and P1, the whole of it for a streaming kernel (R112). -/
def Task.localBlocks (k : Task) : Nat :=
  if k.cls ≤ 1 then min 256 (k.state.len + (k.inputs.map (·.len)).sum + k.result.len) else 256

/-! ### Errors and scrubbing (R138 to R144) -/

/-- An Inkwell word is marked poisoned (R139 to R141); its address is that of the 64-bit word. -/
def State.poisonWord (s : State) (addr : Nat) (byScrubber : Bool) : State :=
  let a := addr / 8 * 8
  (s.modArr fun x => { x with poisoned := a :: x.poisoned.erase a }).raise .inkwellDb [a, ofBool byScrubber]

/-- A corrected word is written back and the correction counted against its bank: banks are consecutive ranges of 384 KiB (R138, log
8). -/
def State.correct (s : State) (addr : Nat) : State :=
  s.modArr fun a => { a with corrections := vmapIdx (fun i x => if i = addr / 393216 then x + 1 else x) a.corrections }

/-- A commit writes a result in the Inkwell: poisoned words in it are clean again (R140), and a scrub access of the same tick loses
(R141). -/
def State.writeResult (s : State) (r : BlockRange) : State :=
  if r.lpddr then s else
  s.modArr fun a => { a with
    poisoned := a.poisoned.filter fun x => !r.holds x
    written := (s.tick, (if a.written.1 = s.tick then a.written.2 else []) ++ [(64 * r.first, 64 * (r.first + r.len))]) }

/-- An LPDDR5X block is marked poisoned (R143). -/
def State.poisonBlock (s : State) (channel : Fin 2) (block : Nat) : State :=
  (s.modArr fun a =>
    { a with dramPoisoned := (channel.val, block) :: a.dramPoisoned.erase (channel.val, block) }).raise
    .dramUe [block, channel.val]

/-- A corrected LPDDR5X block is counted (R143). -/
def State.correctBlock (s : State) : State := s.modArr fun a => { a with dramCorrections := a.dramCorrections + 1 }

/-- The line of a bank has been read by the scrubber; the pass ends with the last line of the last bank (R141). Lines follow in
ascending order in each bank (log 127). -/
def State.scrubbed (s : State) (addr : Nat) : State :=
  let bank := addr / 393216
  let line := addr % 393216 / 32
  if vget s.array.scrubLine bank 0 ≠ line then s else
  let lines := vput s.array.scrubLine bank (line + 1)
  if lines.toList.all fun n => n = 12288 then
    (s.modArr fun a => { a with scrubLine := Vector.replicate 64 0, scrubPass := s.tick }).selfTest 1 true
  else s.modArr fun a => { a with scrubLine := lines }

/-- INKWELL_SCRUB (R138, R140, R141): a word of the Inkwell is read and corrected; a poisoned one reads as a double-bit error. Where
a task writes the word in the same tick, the write wins and the word is reread in the next slot. -/
def execInkwellScrub (t addr : Nat) (obs : ScrubObs) (s : State) : Out :=
  let s := s.advance t
  let a := s.array
  .next (if inkwellBytes ≤ addr then s
    else if a.written.1 = s.tick && a.written.2.any fun r => r.1 ≤ addr && addr < r.2 then
      s.modArr fun a => { a with reread := a.reread ++ [addr] }
    else
      let s := s.modArr fun a => { a with reread := a.reread.erase addr }
      let s := match obs, s.array.poisoned.contains (addr / 8 * 8) with
        | .double, _ | _, true => s.poisonWord addr true
        | .single, false => s.correct addr
        | .clean, false => s
      s.scrubbed addr)

end Sys2Proof.Machine
end

