-- ==== Sys2Proof/Machine/Nibs.lean ====
section
/-!
DEFINITION. The nib array (chapter 4): release, taking and stealing, parking, the comparison of P0 copies, retirement in SEQ
order, suspect marks and fencing, and built-in tests. What a committed result does stands in Tasks.lean.
-/
namespace Sys2Proof.Machine

open Sys2Proof.Config

/-- One nib changed. -/
def State.modNib (s : State) (n : NibNo) (f : Nib → Nib) : State :=
  s.modArr fun a => { a with nibs := vmod a.nibs n f }

/-- Load counters of one troupe changed. -/
def Array_.count (a : Array_) (k : Nat) (f : TroupeLoad → TroupeLoad) : Array_ :=
  { a with load := vmapIdx (fun i x => if i = k % 32 then f x else x) a.load }

/-! ### The TASK_PLAN record (Table 4.5) -/

def State.taskPlan (s : State) : List W32 := s.rec1 0x0301
/-- BIST_SLICE in ticks (R146). -/
def State.bistSlice (s : State) : Nat := fld s.taskPlan 0 7 4 * 100
/-- P4_CAP in percent (R116). -/
def State.p4Cap (s : State) : Nat := fld s.taskPlan 0 23 16
/-- FOLIOS_PER_TASK (R136). -/
def State.foliosPerTask (s : State) : Nat := fld s.taskPlan 0 15 8
/-- JUGGLER_HOME. -/
def State.jugglerHome (s : State) : Nat := fld s.taskPlan 1 31 27
/-- The home byte of the i-th LAW record: AUTO and PRIMARY_HOME (R134). -/
def State.homeByte (s : State) (i : Nat) : Bool × Nat :=
  let sh := 24 - 8 * (i % 4)
  (bit s.taskPlan (2 + i / 4) (sh + 7), fld s.taskPlan (2 + i / 4) (sh + 4) sh)

/-- AUTO laws in record order go to the troupe of the smallest accumulated cycle count, the lowest winning ties; a law of W cycles
adds W to its troupe and the one 16 further (R135). Laws with a fixed home count where they stand in record order: the spec does not
say whether or when they count (log 128). -/
def assignHomes : List (Bool × Nat × Nat) → List Nat → List Nat
  | [], _ => []
  | (auto, k0, w) :: rest, acc =>
    let best := (List.range 32).foldl (fun b i => if acc.getD i 0 < acc.getD b 0 then i else b) 0
    let k := if auto then best else k0
    let add (l : List Nat) (i : Nat) := l.set (i % 32) (l.getD (i % 32) 0 + w)
    k :: assignHomes rest (add (add acc k) (k + 16))

/-! ### Tasks -/

/-- KERNEL of a task, as events carry it (Table 4.11). -/
def State.kernelVal (s : State) (k : TaskKind) : Int := (kernelNumber (s.kernelCode k)).toNat

/-- Time against which a task's deadline runs: line stamp or tick (R48, DL_KIND). -/
def State.dlNow (s : State) (lineDl : Bool) : Nat := if lineDl then s.stamp else s.tick

/-- A task comes before another in a queue: a parked one at the head, then by deadline, then by SEQ (R113, R117); of two equal in
both, which the spec does not order, the one enqueued first (log 129). -/
def Task.before (x y : Task) : Bool :=
  if x.parkedBy.isSome ≠ y.parkedBy.isSome then x.parkedBy.isSome
  else
    match x.deadline, y.deadline with
    | some a, some b => a < b || (a = b && x.seq ≤ y.seq)
    | some _, none => true
    | none, some _ => false
    | none, none => x.seq ≤ y.seq

/-- The tasks that wait at the start of a tick: those in the queues, and those taken in it (R115). -/
def Array_.waiting (a : Array_) (tick : Nat) : List Task :=
  (if a.claims.1 = tick then a.claims.2.map (·.task) else []) ++ a.queue

/-- The head of the queue of a class in a troupe, among the tasks that can be taken at a tick (R113). -/
def Array_.head (a : Array_) (troupe cls tick : Nat) : Option Task :=
  ((a.waiting tick).filter fun k => k.home % 32 = troupe % 32 && k.cls = cls && k.enq < tick).foldl
    (fun b k => match b with
      | none => some k
      | some x => if x.before k then some x else some k) none

/-- Nibs not fenced (R133). -/
def Array_.unfenced (a : Array_) : Nat := a.nibs.toList.countP fun n => !n.fenced

/-- Nibs running P4 tasks (R116). -/
def Array_.p4Running (a : Array_) : Nat :=
  a.nibs.toList.countP fun n => match n.act with | .running k _ => k.cls = 4 | _ => false

/-- P4 tasks may start: fewer than P4_CAP percent of the unfenced nibs run one (R116). -/
def State.p4Allowed (s : State) : Bool := s.array.p4Running * 100 < s.p4Cap * s.array.unfenced

/-- The highest-class head among the given classes in one troupe. -/
def State.bestIn (s : State) (troupe : Nat) (classes : List Nat) : Option Task :=
  classes.findSome? fun c => if c = 4 && !s.p4Allowed then none else s.array.head troupe c s.tick

/-- What a free nib of troupe k takes (R114): its own queues, else the highest class found in troupes k + 1 to k + 4,
from the nearest troupe holding it. A queue whose P4 tasks may not be started counts as empty (log 130). -/
def State.choose (s : State) (k : Nat) : Option Task :=
  match s.bestIn k [0, 1, 2, 3, 4] with
  | some x => some x
  | none => [0, 1, 2, 3, 4].findSome? fun c => [1, 2, 3, 4].findSome? fun d => s.bestIn (k + d) [c]

/-- The task a nib takes at this tick: its own parked task first unless a P0 copy waits for it (R117), then R114; between
the slices of a test, which lasts BIST_SLICE, only P0 to P2 of its own troupe (R146). -/
def State.pick (s : State) (n : NibNo) : Option Task :=
  let k := n.val / 8
  let own := s.array.queue.find? fun x => x.parkedBy = some n.val && x.enq < s.tick
  match (s.array.nibs[n]).act with
  | .running _ _ => none
  | .testing since => if (s.tick - since) % s.bistSlice = 0 then s.bestIn k [0, 1, 2] else none
  | .free =>
    match own, s.choose k with
    | some x, some y => if y.cls = 0 then some y else some x
    | some x, none => some x
    | none, y => y

/-! ### Release -/

/-- The next SEQ of a domain; the first is 0, which the spec does not state (R120, log 124). -/
def Array_.nextSeq (a : Array_) (dom : Nat) : Nat :=
  match a.seqs.find? fun p => p.1 = dom with
  | some p => p.2
  | none => 0

/-- A P0 task is released as primary and shadow, 16 troupes apart (R124). -/
def State.releaseP0 (s : State) (l : LawNo) (home deadline : Nat) : State :=
  s.modArr fun a =>
    let seq := a.nextSeq l.val
    let mk (copy home : Nat) : Task :=
      s.withRefs { kind := .law l, cls := 0, home := home % 32, copy, lineDl := true, deadline := some deadline
                   dom := l.val, seq, enq := s.tick }
    { a with
      seqs := aput a.seqs l.val ((seq + 1) % 2 ^ 32)
      queue := a.queue ++ [mk 1 home, mk 2 (home + 16)]
      jobs := a.jobs ++ [{ law := l.val, seq, home, released := s.tick, deadline }] }

/-- A task of P1 to P4 is released once. -/
def State.release1 (s : State) (kind : TaskKind) (home : Nat) (lineDl : Bool) (deadline : Option Nat) : State :=
  s.modArr fun a =>
    let dom := taskDom kind
    let seq := a.nextSeq dom
    let k := s.withRefs
      { kind, cls := taskClass kind, home := home % 32, copy := 0, lineDl, deadline, dom, seq, enq := s.tick }
    { a with seqs := aput a.seqs dom ((seq + 1) % 2 ^ 32), queue := a.queue ++ [k], opens := a.opens ++ [k] }

/-! ### P0 jobs -/

/-- One job changed. -/
def Array_.modJob (a : Array_) (law seq : Nat) (f : P0Job → P0Job) : Array_ :=
  { a with jobs := a.jobs.map fun j => if j.law = law ∧ j.seq = seq then f j else j }

/-- The third copy of a job is released, once, homed eight troupes from the primary (R125, R127, R130). R148 does not say in which
troupe it counts: it counts in that of the primary's home (log 131). -/
def State.releaseThird (s : State) (j : P0Job) : State :=
  if j.third then s
  else s.modArr fun a =>
    let a := a.modJob j.law j.seq fun j => { j with third := true }
    let k := s.withRefs
      { kind := .law (Fin.ofNat 43 j.law), cls := 0, home := (j.home + 8) % 32, copy := 3, lineDl := true
        deadline := some j.deadline, dom := j.law, seq := j.seq, enq := s.tick }
    ({ a with
      queue := a.queue ++ [k]
      lawCounts := vmapIdx (fun i x => if i = j.law then (x.1 + 1, x.2) else x) a.lawCounts }).count j.home
      fun t => { t with thirds := t.thirds + 1 }

/-- The job of a law's task. -/
def Array_.job (a : Array_) (law seq : Nat) : Option P0Job := a.jobs.find? fun j => j.law = law ∧ j.seq = seq

/-- The fenced nibs. -/
def Array_.fencedList (a : Array_) : List Int :=
  (a.nibs.toList.mapIdx fun i n => ((i : Int), n.fenced)).filterMap fun p => if p.2 then some p.1 else none

/-- A copy of a job will give no result (R127, second case): a third copy runs. -/
def State.copyLost (s : State) (k : Task) (nib : Nat) : State :=
  match s.array.job k.dom k.seq with
  | none => s
  | some j =>
    (s.modArr (·.modJob k.dom k.seq fun j =>
      { j with results := j.results ++ [{ copy := k.copy, nib, err := none }] })).releaseThird j

/-- A kernel has run on a nib up to now: what it has left in the accumulators and in local memory is a free value (log 123). -/
def Nib.used (x : Nib) (free : Nat) : Nib :=
  { x with acc := ⟨#[accValue free 0, accValue free 1, accValue free 2, accValue free 3], rfl⟩
           mem := { x.mem with content := some free } }

/-- The word of local memory at an index as the model knows it: zero where the task's start has cleared it, else a free value (R105). -/
def LocalMem.word (m : LocalMem) (i : Nat) : BitVec 64 :=
  match m.content with
  | none => 0
  | some f => localWord f i

/-- A nib stops running its task: its ticks count for its troupe and class (R148). -/
def State.stopRun (s : State) (n : NibNo) (act : NibAct) : State :=
  match (s.array.nibs[n]).act with
  | .running k since =>
    (s.modArr fun a =>
      ({ a with nibs := vmod a.nibs n fun x => { x.used s.free with act } }).count (n.val / 8) fun l =>
        { l with busy := l.busy.set k.cls (l.busy.getD k.cls 0 + (s.tick - since)) }).nextFree
  | _ => s.modNib n fun x => { x with act }

/-- A nib is fenced: no task from now on (R132), with the events of R132 and R133; a P0 copy on it is lost (R127). -/
def State.fence (s : State) (n : NibNo) (cause : Int) : State :=
  let act := (s.array.nibs[n]).act
  let s := ((s.stopRun n .free).modNib n fun x => { x with fenced := true, test := none, testDue := false }).raise .nibFenced [n.val, cause]
  let count := 256 - s.array.unfenced
  let s := if count = 8 then s.raise .arrayLimit s.array.fencedList
           else if 9 ≤ count then (s.raise .arrayDegraded [count]).degrade 0 else s
  match act with
  | .running k _ => if k.cls = 0 then s.copyLost k n.val else s
  | _ => s

/-- A nib is marked suspect; a second mark since start fences it (R131). -/
def State.suspectNib (s : State) (n : NibNo) : State :=
  if (s.array.nibs[n]).fenced then s else
  let m := (s.array.nibs[n]).suspect + 1
  let s := (s.modNib n fun x => { x with suspect := m, testDue := true }).raise .nibSuspect [n.val, m]
  if 2 ≤ m then s.fence n 1 else s

/-- The result held by two copies among those with a result (R126, R128). -/
def majority (rs : List CopyResult) : Option (List W32) :=
  rs.findSome? fun r => match r.err with
    | none => none
    | some e => if 2 ≤ rs.countP fun q => q.err = some e then some e else none

/-- The compare unit after a copy has completed (R126 to R130). -/
def State.compare (s : State) (j : P0Job) : State :=
  let done := j.results.filter fun r => r.err.isSome
  match majority j.results with
  | some e =>
    let s := s.modArr (·.modJob j.law j.seq fun j => { j with agreed := some e })
    (done.filter fun r => r.err ≠ some e).foldl (fun s r => s.suspectNib (Fin.ofNat 256 r.nib)) s
  | none =>
    if done.length = 2 then
      (s.releaseThird j).raise .p0Mismatch (j.law :: done.map fun r => (r.nib : Int))
    else if 3 ≤ done.length then
      done.foldl (fun s r => s.suspectNib (Fin.ofNat 256 r.nib))
        (s.raise .p0NoMajority (j.law :: done.map fun r => (r.nib : Int)))
    else s

/-! ### Retirement -/

/-- P0 results of a law that may commit now, in SEQ order: agreed, with every lower SEQ closed (R120). -/
def Array_.p0Ready (a : Array_) (law : Nat) : Option P0Job :=
  match a.jobs.filter fun j => j.law = law with
  | j :: _ => if j.agreed.isSome then some j else none
  | [] => none

/-- Completed tasks of P1 to P4 that may commit now (R120). -/
def Array_.ready (a : Array_) : Option Task :=
  a.retire.find? fun k => !(a.opens.any fun o => o.dom = k.dom && o.seq < k.seq)

/-- A task of P1 to P4 is closed; the park slot that held its local state is free (R117). -/
def Array_.closeTask (a : Array_) (k : Task) : Array_ :=
  let parked := (a.queue.filter fun o => o.dom = k.dom && o.seq = k.seq).filterMap (·.parkedBy)
  { a with
    nibs := vmapIdx (fun i x => if parked.contains i then { x with parked := false, slot := none } else x) a.nibs
    opens := a.opens.filter fun o => !(o.dom = k.dom && o.seq = k.seq)
    retire := a.retire.filter fun o => !(o.dom = k.dom && o.seq = k.seq)
    queue := a.queue.filter fun o => !(o.dom = k.dom && o.seq = k.seq) }

/-- A nib runs a copy of a law's task. -/
def Array_.copyRuns (a : Array_) (law seq : Nat) : Bool :=
  a.nibs.toList.any fun n => match n.act with | .running k _ => k.cls = 0 && k.dom = law && k.seq = seq | _ => false

/-- A job is closed, and its copies leave the queues. -/
def Array_.closeJob (a : Array_) (law seq : Nat) : Array_ :=
  { a with
    jobs := a.jobs.filter fun j => !(j.law = law && j.seq = seq)
    queue := a.queue.filter fun k => !(k.dom = law && k.seq = seq) }

/-- A miss is counted: in the troupe of the home and, for P0, in the law (R108, R148). -/
def Array_.countMiss (a : Array_) (home : Nat) (law : Option Nat) : Array_ :=
  ({ a with
    lawCounts := match law with
      | some l => vmapIdx (fun i x => if i = l then (x.1, x.2 + 1) else x) a.lawCounts
      | none => a.lawCounts }).count home fun t => { t with misses := t.misses + 1 }

/-! ### Taking, parking, completing -/

/-- A kernel is in the cache of a nib that runs it (R106): one that is not there is fetched, in place of the oldest that is not
pinned where the cache is full (log 123). The fetch takes no time in the model. -/
def Nib.fetch (x : Nib) (code : Nat) : Nib :=
  if x.cache.contains code then x
  else if x.cache.length < 8 then { x with cache := x.cache ++ [code] }
  else if x.pinned < 8 then { x with cache := x.cache.take x.pinned ++ x.cache.drop (x.pinned + 1) ++ [code] }
  else x

/-- A nib takes a task (R105, R106, R114, R117): accumulators and the local memory that the task uses are cleared, or a parked task
resumes with its local state, and its slot is free. -/
def Nib.start (x : Nib) (k : Task) (code tick : Nat) (resume : Option LocalMem) : Nib :=
  { x.fetch code with
    act := .running { k with parkedBy := none } tick
    test := match x.act with | .testing a => some a | _ => x.test
    acc := Vector.replicate 4 0
    mem := resume.getD { blocks := k.localBlocks } }

/-- A nib takes a task off the queue (R114, R115, R127, R148, trace capture). -/
def State.takeTask (s : State) (n : NibNo) (k : Task) : State :=
  let troupe := n.val / 8
  s.modArr fun a =>
    let before := a.nibs[n]
    let slot := k.parkedBy.bind fun m => (vget a.nibs m {}).slot
    let nibs := vmapIdx (fun i x => if k.parkedBy = some i then { x with parked := false, slot := none } else x) a.nibs
    let a := { a with
      queue := a.queue.erase k
      nibs := vmod nibs n fun x => x.start k (s.kernelCode k.kind) s.tick slot
      jobs := a.jobs.map fun j =>
        if k.cls = 0 && j.law = k.dom && j.seq = k.seq then { j with starts := aput j.starts k.copy s.tick } else j
      claims := (s.tick, (if a.claims.1 = s.tick then a.claims.2 else []) ++ [{ task := k, nib := n.val, before }])
      trace := ({ words := s.descriptor k, task := k, nib := n.val, tick := s.tick } :: a.trace).take 256 }
    if k.home % 32 = troupe then a
    else (a.count troupe fun t => { t with taken := t.taken + 1 }).count k.home fun t => { t with given := t.given + 1 }

/-- The claim of this tick that holds a task. -/
def State.claimOf (s : State) (k : Task) : Option Claim :=
  if s.array.claims.1 = s.tick then s.array.claims.2.find? fun c => c.task = k else none

/-- The order in which claims on a task are served (R115): nibs of the home troupe, then of stealing troupes, the nearest first;
within a troupe the lowest number. -/
def claimRank (k : Task) (nib : Nat) : Nat := (k.home + 32 - nib / 8) % 32 * 8 + nib % 8

/-- A claim is lost to another of the same tick (R115): the nib is as it was before it, and repeats R114 in the next tick. -/
def State.loseClaim (s : State) (c : Claim) : State :=
  let troupe := c.nib / 8
  let k := c.task
  s.modArr fun a =>
    let a := { a with
      nibs := vmapIdx (fun i x =>
        if i = c.nib then c.before
        else if k.parkedBy = some i then { x with parked := true, slot := some (vget a.nibs c.nib {}).mem } else x) a.nibs
      queue := a.queue.filter fun x => x.parkedBy ≠ some c.nib || x.enq < s.tick
      claims := (a.claims.1, a.claims.2.erase c)
      trace := match a.trace.findIdx? fun e => e.nib = c.nib && e.tick = s.tick with
        | some i => a.trace.eraseIdx i
        | none => a.trace }
    let a := match c.before.act with
      | .running x since => a.count troupe fun l =>
          { l with parks := l.parks - 1, busy := l.busy.set x.cls (l.busy.getD x.cls 0 - (s.tick - since)) }
      | _ => a
    if k.home % 32 = troupe then a
    else (a.count troupe fun t => { t with taken := t.taken - 1 }).count k.home fun t => { t with given := t.given - 1 }

/-- A nib claims a task that waited at the start of the tick (R115): it takes it, unless a nib that goes before it has; a nib that
comes after it loses it again. A nib that has already met an error in reading the task keeps it (log 132). -/
def State.mayClaim (s : State) (n : NibNo) (k : Task) : Bool :=
  match s.claimOf k with
  | none => true
  | some c =>
    let held := match (vget s.array.nibs c.nib {}).act with
      | .running x since => x = { k with parkedBy := none } && since = s.tick
      | _ => false
    held && decide (claimRank k n.val < claimRank k c.nib)

/-- The claim that a task taken displaces, if another nib has claimed it in the tick (R115). -/
def State.displace (s : State) (k : Task) : State :=
  match s.claimOf k with
  | none => s
  | some c => s.loseClaim c

/-- THIRD_COPY_TIMEOUT (R127, R129): one copy has completed and the other has not completed within W ticks of its start; a copy that
no nib has taken counts from the start of the completed one (log 121). A copy that completes in the last of these ticks is compared
first. -/
def execThirdCopyTimeout (t : Nat) (l : LawNo) (s : State) : Out :=
  let s := s.advance t
  .next (match s.array.jobs.find? fun j => j.law = l.val && !j.third && j.results.length = 1 && j.agreed.isNone with
    | some j =>
      let i := ((s.recs 0x0501).findIdx? fun r => fld r 0 31 26 = l.val).getD 0
      let first := (j.results.headD default).copy
      let start (c : Nat) : Option Nat := (j.starts.find? fun p => p.1 = c).map (·.2)
      let since := ((start (3 - first)).orElse fun _ => start first).getD j.released
      if since + s.array.kernelW.getD i 0 < s.tick then s.releaseThird j else s
    | none => s)

/-- The nib of the next test slot: a suspect nib whose test is due, the lowest number first where several wait (log 133); else the
next of the rotation, fenced nibs skipped (R146, R147). -/
def Array_.nextTest (a : Array_) : Option Nat :=
  let ok (i : Nat) : Bool := !(vget a.nibs i {}).fenced
  ((List.range 256).find? fun i => ok i && (vget a.nibs i {}).testDue).orElse fun _ =>
    ((List.range 256).map fun i => (a.bistNext + i) % 256).find? ok

/-- NIB_BIST_START (R146, R147): 39 ms after the last start, the nib whose turn it is, once it is free; the rotation resumes at its
place after a suspect nib. -/
def execNibBistStart (t : Nat) (s : State) : Out :=
  let s := s.advance t
  let a := s.array
  let due := match a.bistAt with | none => true | some b => b + 39 * ticksPerMs ≤ s.time.clock
  let testing := a.nibs.toList.any fun n => n.test.isSome || match n.act with | .testing _ => true | _ => false
  .next (match if due && !testing then a.nextTest else none with
    | some i =>
      let n := vget a.nibs i {}
      if n.act ≠ .free then s else
      s.modArr fun a => { a with
        bistAt := some s.time.clock
        bistNext := if n.testDue then a.bistNext else (i + 1) % 256
        nibs := vmapIdx (fun k n => if k = i then { n with act := .testing s.tick, testDue := false } else n) a.nibs }
    | none => s)

/-- NIB_BIST_DONE (R131, R146): the pass is recorded with its tick; a nib that fails is fenced. -/
def execNibBistDone (t : Nat) (n : NibNo) (pass : Bool) (s : State) : Out :=
  let s := s.advance t
  .next (match (s.array.nibs[n]).act with
    | .testing _ =>
      let s := (s.modNib n fun x => { x with act := .free, lastTest := some (s.tick, pass) }).selfTest 0 pass
      if pass then s else s.fence n 0
    | _ => s)

/-- The load counters of a turn are closed at its end (R148): a task that runs on counts up to now in this turn. -/
def Array_.endTurn (a : Array_) (tick : Nat) : Array_ :=
  let load := vmapIdx (fun k l => (List.range 8).foldl (fun l j =>
    match (vget a.nibs (8 * k + j) {}).act with
    | .running x since => { l with busy := l.busy.set x.cls (l.busy.getD x.cls 0 + (tick - since)) }
    | _ => l) l) a.load
  { a with
    lastLoad := load
    load := Vector.replicate 32 {}
    nibs := vmap (fun n => match n.act with
      | .running x _ => { n with act := .running x tick }
      | _ => n) a.nibs }

end Sys2Proof.Machine
end

