-- ==== Sys2Proof/Machine/Legs.lean ====
section
/-!
DEFINITION. Switching legs (chapter 5): the edges of a leg cycle (Table 5.2), the application of command words (R168), readback,
coasting and starting a group, and what a stroke boundary does to the legs. Instants are in taps of 78.125 ps of the tick counter.
-/
namespace Sys2Proof.Machine

open Sys2Proof.Config

/-- This module is the ring holder: it drives the shared nets (R156, Table 15.1). -/
def State.holds (s : State) : Bool := s.pair.st = .holder || s.pair.st = .solo

/-! ### Records (Tables 5.8 and 5.9) -/

/-- The LEG record of a leg. -/
def State.legRec (s : State) (n : Nat) : List W32 := (s.recAt 0x0401 31 24 n).getD []
/-- ROLE: 0 unused, 1 AFE phase leg, 2 buck leg. -/
def State.legRole (s : State) (n : Nat) : Nat := fld (s.legRec n) 0 23 22
def State.legGroup (s : State) (n : Nat) : Nat := fld (s.legRec n) 0 21 16
def State.legDe (s : State) (n : Nat) : Bool := bit (s.legRec n) 0 15
def State.legIndex (s : State) (n : Nat) : Nat := fld (s.legRec n) 0 14 12
def State.legRetries (s : State) (n : Nat) : Nat := fld (s.legRec n) 0 11 9
def State.legDead (s : State) (n : Nat) : Nat := fld (s.legRec n) 1 31 17
def State.legChan (s : State) (n : Nat) : Nat := fld (s.legRec n) 1 15 8
def State.legL (s : State) (n : Nat) : Nat := fld (s.legRec n) 2 31 16
def State.legMargin (s : State) (n : Nat) : Nat := fld (s.legRec n) 2 15 0
def State.legIFs (s : State) (n : Nat) : Nat := fld (s.legRec n) 3 31 16
/-- The LEG_GROUP record of a group. -/
def State.groupRec (s : State) (g : Nat) : List W32 := (s.recAt 0x0402 31 26 g).getD []
def State.minLegs (s : State) (g : Nat) : Nat := fld (s.groupRec g) 0 24 21
def State.groupBase (s : State) (g : Nat) : Nat := fld (s.groupRec g) 0 15 0
def State.vinFs (s : State) (g : Nat) : Nat := fld (s.groupRec g) 2 31 16
def State.voutFs (s : State) (g : Nat) : Nat := fld (s.groupRec g) 2 15 0

/-- The legs of a group in INDEX order (R157). -/
def State.members (s : State) (g : Nat) : List Nat :=
  let ls := (s.recs 0x0401).filterMap fun r =>
    if fld r 0 23 22 ≠ 0 && fld r 0 21 16 = g then some (fld r 0 14 12, fld r 0 31 24) else none
  (List.range 8).filterMap fun i => (ls.find? fun p => p.1 = i).map (·.2)

/-! ### Time in taps -/

/-- The tick counter in taps. -/
def State.nowTap (s : State) : Nat := s.tick * 32

/-- The stroke period in taps at the present Carousel frequency. -/
def State.periodTaps (s : State) : Rat := (2 ^ 32 * ticksPerSec * 32 : Nat) / ((s.carousel.freq * s.nStrokes : Nat) : Rat)

/-- The instant in taps before which the cycles of the stroke in progress begin: the next stroke boundary. -/
def State.strokeEnd (s : State) : Rat := (s.carousel.tap : Rat) + s.periodTaps

/-- One leg changed. -/
def State.modLeg (s : State) (n : Nat) (f : Leg → Leg) : State :=
  { s with legs := { s.legs with legs := vmapIdx (fun i x => if i = n then f x else x) s.legs.legs } }

/-- One group changed. -/
def State.modGroup (s : State) (g : Nat) (f : LegGroup → LegGroup) : State :=
  { s with legs := { s.legs with groups := vmapIdx (fun i x => if i = g then f x else x) s.legs.groups } }

/-- A leg by its number. -/
def State.leg (s : State) (n : Nat) : Leg := vget s.legs.legs n {}

/-- A group by its number. -/
def State.group (s : State) (g : Nat) : LegGroup := vget s.legs.groups g {}

/-! ### Edges of a cycle (R160 to R163, R167) -/

/-- A fraction of a stroke in units of 2^-24, as a time in taps. -/
def strokePart (period : Rat) (x : Nat) : Rat := x * period / 16777216

/-- ON * T in taps after the limits of R162: 0, or from 100 ns to T - 2 t_d - 100 ns. -/
def limitOn (td : Nat) (period : Rat) (on : Nat) : Rat :=
  let x := strokePart period on
  if x < 640 then 0 else min (max x 1280) (period - 2 * td - 1280)

/-- The word's on-time is adjusted by R162. -/
def adjusted (td : Nat) (period : Rat) (w : LegWord) : Bool :=
  !w.holdOff && limitOn td period w.on ≠ strokePart period w.on

/-- An instant rounded to the nearest tap, a half tap rounding up (R160). -/
def nearTap (x : Rat) : Nat := (x + 1 / 2).floor.toNat

/-- The edges E2 to E5 of a cycle that begins at `start`, the next beginning at `nextStart` (Table 5.2). Pulse lengths are those of
the edges as emitted. -/
def cycleEdges (td : Nat) (period start nextStart : Rat) (w : LegWord) : List (EdgeNo × Nat) :=
  if w.holdOff then [] else
  let x := limitOn td period w.on
  let e2 := nearTap (start + td)
  let e3 := nearTap (start + td + x)
  let e4 := nearTap (if x = 0 then start + td else start + 2 * td + x)
  let e5 := nearTap (start + td + x + strokePart period w.loCut)
  let last := nearTap nextStart
  let cut := w.loCut ≠ 0xFFFFFF && e5 < last
  let loEnd := if cut then e5 else last
  let loOn := w.loCut ≠ 0 && e4 + 1280 ≤ loEnd
  (if x = 0 then [] else [(.e2, e2), (.e3, e3)]) ++
    (if loOn then [(.e4, e4)] else []) ++ (if loOn && cut then [(.e5, e5)] else [])

/-- The instant at which the cycle after `c` begins. -/
def Leg.nextStart (l : Leg) (c : LegCycle) : Rat :=
  match l.upcoming.find? fun k => c.start < k.start with
  | some k => k.start
  | none => c.start + c.period

/-- The edges E2 to E5 of a cycle under a word. -/
def Leg.edges (l : Leg) (td : Nat) (c : LegCycle) (w : LegWord) : List (EdgeNo × Nat) :=
  cycleEdges td c.period c.start (l.nextStart c) w

/-- A word takes hold of the leg: its adjustment under R162 is counted once. -/
def Leg.hold (l : Leg) (td : Nat) (period : Rat) (tick : Nat) (w : LegWord) : Leg :=
  { l with word := w, lastWord := w, wordTick := tick
           clamps := if adjusted td period w then l.clamps + 1 else l.clamps }

/-- A word waits for the first cycle that begins at `from_` or later, in place of those that would have waited longer. -/
def Leg.await (l : Leg) (from_ : Rat) (w : LegWord) : Leg :=
  { l with next := l.next.filter (fun x => x.1 < from_) ++ [(from_, w)] }

/-- The leg's next cycle begins where its start has been reached and the cycle in progress has emitted its edges: the word that waited
for it takes hold (R168). -/
def Leg.roll (l : Leg) (td now tick : Nat) : Option Leg :=
  match l.upcoming with
  | c :: rest =>
    let first := nearTap c.start
    let done := match l.cycle with
      | none => true
      | some k => (l.edges td k l.word).all fun e => k.emitted.contains e || first ≤ e.2
    if first ≤ now + 31 && done then
      let due := l.next.filter fun x => x.1 ≤ c.start
      let l := { l with next := l.next.filter fun x => c.start < x.1 }
      let l := match due.getLast? with
        | some x => l.hold td c.period tick x.2
        | none => l
      some { l with cycle := some c, upcoming := rest, hi := false
                    deActive := match l.cycle with
                      | some k => k.emitted.any fun e => e.1 = .e5
                      | none => false }
    else none
  | [] => none

/-- Cycles that begin with LO off begin without an edge. -/
def Leg.settle (td now tick : Nat) : Nat → Leg → Leg
  | 0, l => l
  | n + 1, l =>
    if l.lo then l else match l.roll td now tick with
      | some l' => Leg.settle td now tick n l'
      | none => l

/-- The leg with the cycle that is in progress at an instant. -/
def Leg.at_ (l : Leg) (td now tick : Nat) : Leg := Leg.settle td now tick l.upcoming.length l

/-- An edge is emitted (Table 5.2). -/
def Leg.emit (l : Leg) (c : LegCycle) (e : EdgeNo × Nat) : Leg :=
  let l := { l with cycle := some { c with emitted := c.emitted ++ [e] } }
  match e.1 with
  | .e1 => { l with lo := false }
  | .e2 => { l with hi := true }
  | .e3 => { l with hi := false }
  | .e4 => { l with lo := true }
  | .e5 => { l with lo := false, cuts := l.cuts + 1 }

/-- The edge generator reaches the next edge of the leg: E1 of a new cycle where LO is on, else the first edge of the cycle in progress
not yet emitted whose instant lies in this tick or before (R160). -/
def Leg.step (l : Leg) (td now tick : Nat) : Leg :=
  let l := l.at_ td now tick
  match if l.lo then l.roll td now tick else none with
  | some l' =>
    match l'.cycle with
    | some c => l'.emit c (.e1, nearTap c.start)
    | none => l'
  | none =>
    match l.cycle with
    | none => l
    | some c =>
      match (l.edges td c l.word).find? fun e => !c.emitted.contains e with
      | some e => if e.2 ≤ now + 31 then l.emit c e else l
      | none => l

/-- The current cycle of a leg for a command word: the one that begins in the stroke in progress, before `strokeEnd` (R168, Table 5.4; log
120). -/
def Leg.current (l : Leg) (strokeEnd : Rat) : Option LegCycle :=
  ((l.cycle.toList ++ l.upcoming).filter fun c => c.start < strokeEnd).getLast?

/-- A command word reaches the edge generator at `now` (R167, R168): it governs the rest of the current cycle only if no edge before
w + 25 ns changes and none already emitted is lost; otherwise it waits for the next cycle. -/
def Leg.write (l : Leg) (td now tick : Nat) (strokeEnd : Rat) (w : LegWord) : Leg :=
  let l := l.at_ td now tick
  match l.current strokeEnd with
  | none => l.await 0 w
  | some c =>
    let begun := l.cycle = some c
    let new := (if !begun && l.lo then [(.e1, nearTap c.start)] else []) ++ l.edges td c w
    let ok := (new.all fun e => now + 320 ≤ e.2 || c.emitted.contains e) &&
      c.emitted.all fun e => e.1 = .e1 || new.contains e
    if !ok then { l.await (c.start + 1) w with deferred := l.deferred + 1 }
    else if begun then { l with next := [] }.hold td c.period tick w
    else l.await c.start w

/-- A word takes effect at a standby in the cycle that the stroke record names: the current one, or the one after it (R588). -/
def Leg.place (l : Leg) (td now tick : Nat) (strokeEnd : Rat) (deferred : Bool) : Leg :=
  match l.held with
  | none => l
  | some w =>
    let l := { l.at_ td now tick with held := none }
    match l.current strokeEnd with
    | none => l.await 0 w
    | some c =>
      if deferred then { l.await (c.start + 1) w with deferred := l.deferred + 1 }
      else if l.cycle = some c then { l with next := [] }.hold td c.period tick w
      else l.await c.start w

/-! ### Readback (R179 to R182) -/

/-- The nets of a leg in this state are driven: off, switching, or off for a fault (Table 5.6). -/
def LegState.driven : LegState → Bool
  | .off | .switching | .faulted => true
  | .unused | .idle | .inhibited => false

/-- The module compares its nets: while it drives them, and as the standby with its own edge generators' levels; not from an assertion of
LEGS_OFF to the first stroke boundary after its release, nor while a net is contended (R179, R181, R182, R187). -/
def State.compares (s : State) : Bool :=
  (s.pair.driving || s.pair.st = .standby) && !s.safety.legsOwn && !s.legs.legsOff && !s.legs.releaseDue && s.legs.contended.isEmpty

/-- A net's sample disagrees: another level than the one driven; above 850 mV only after a contention of the net has been resolved, on
the module that keeps driving (R179, R181). -/
def State.netBad (s : State) (n : Nat) (net : Net) (level driven : Bool) (mv : Nat) : Bool :=
  if 850 < mv then s.pair.driving && s.legs.resolved.contains (n, net) else level ≠ driven

/-- A sample of a leg's nets is compared: a mismatch marks the stroke (R179). At the standby the sample is the readback recorded a stroke
earlier (R588). -/
def State.compareNets (s : State) (n : Nat) (x : NetSample) : State :=
  let l := s.leg n
  if s.compares && l.st.driven && (s.netBad n .hi x.hi l.hi x.mvHi || s.netBad n .lo x.lo l.lo x.mvLo) then
    s.modLeg n fun l => { l with mismatch := true }
  else s

/-- LEG_EDGE (R160, R179, R182): the next edge of the leg is emitted, and its nets are sampled 10 ns later. -/
def execLegEdge (t : Nat) (leg : LegNo) (hi lo : Bool) (mv : Nat × Nat) (s : State) : Out :=
  let s := s.advance t
  let l := s.legs.legs[leg]
  .next (if l.st = .switching && !l.killed then
    (s.modLeg leg.val fun l => l.step (s.legDead leg.val) s.nowTap s.tick).compareNets leg.val { hi, lo, mvHi := mv.1, mvLo := mv.2 }
  else s)

/-! ### Coasting, starting -/

/-- A leg is driven off: both nets off, the reset word held, no cycle (R170). -/
def Leg.coast (l : Leg) : Leg :=
  { l with hi := false, lo := false, word := {}, next := [], held := none, cycle := none, upcoming := [], sample := none
           st := if l.st = .switching then .off else l.st }

/-- A group coasts now: each of its legs is driven off (R170). -/
def State.coastGroup (s : State) (g : Nat) : State :=
  let ms := s.members g
  let s := { s with legs := { s.legs with
    legs := vmapIdx (fun i x => if ms.contains i then x.coast else x) s.legs.legs } }
  s.modGroup g fun x => { x with coasting := true, coastDue := false }

/-- A coast is decided: it takes effect at the next stroke boundary (R170). -/
def State.decideCoast (s : State) (g : Nat) : State :=
  s.modGroup g fun x => { x with coastDue := !x.coasting }

/-- The instant at which the arc in progress ends, at the present frequency. -/
def State.arcEnd (s : State) : Nat :=
  s.time.clock + max 1 (ceilDiv (arcUnits - s.carousel.phase % arcUnits) s.carousel.freq)

/-- FLT of a leg has read high for at least 1 s by the end of the arc in progress (R185, R190, R47). -/
def State.fltClear (s : State) (n : Nat) : Bool :=
  !(s.leg n).fltLow && (s.leg n).fltHighSince + ticksPerSec < s.arcEnd

/-- A FAULTED leg meets both conditions of R185. -/
def State.readmissible (s : State) (n : Nat) : Bool :=
  let l := s.leg n
  l.st = .faulted && s.fltClear n && (l.retries < s.legRetries n || l.cleared)

/-- A leg is eligible (R184). -/
def State.eligible (s : State) (n : Nat) : Bool := (s.leg n).st ≠ .faulted || s.readmissible n

/-- H, the healthy legs of a group: those not FAULTED (R158, R184). -/
def State.healthyLegs (s : State) (g : Nat) : List Nat := (s.members g).filter fun n => (s.leg n).st ≠ .faulted

/-- The number of eligible legs of a group, and whether it meets R184: MIN_LEGS for a converter group, all three for an AFE
unit. -/
def State.eligibleCount (s : State) (g : Nat) : Nat := (s.members g).countP s.eligible
def State.enoughLegs (s : State) (g : Nat) : Bool :=
  if g < 16 then s.minLegs g ≤ s.eligibleCount g else s.eligibleCount g = 3

/-- The offset of the leg of rank `r` among the `h` healthy legs of a group, as a fraction of a stroke: BASE + r/H, BASE alone for an AFE
unit (R158). -/
def legOffset (afe : Bool) (base r h : Nat) : Rat := (base : Rat) / 65536 + if afe then 0 else (r : Rat) / h

/-- The legs of a switching group get the cycle that belongs to the stroke beginning at `b` taps (R158). A cycle scheduled before that has
not begun by then falls in this stroke, and its fractions take this stroke's period (R160). -/
def State.scheduleGroup (s : State) (g b : Nat) (period : Rat) : State :=
  let gr := s.group g
  let h := gr.healthy.length
  { s with legs := { s.legs with
    legs := vmapIdx (fun i x =>
      match gr.healthy.findIdx? (· = i) with
      | some r =>
        if x.st = .switching then
          { x with upcoming := (x.upcoming.map fun c => if (b : Rat) ≤ c.start then { c with period } else c) ++
            [{ start := b + legOffset (16 ≤ g) (s.groupBase g) r h * period, period }] }
        else x
      | none => x) s.legs.legs } }

/-- A group starts from coast (R159, R183, R185): eligible FAULTED legs return to OFF, the healthy set is fixed and its legs
switch; where the stroke in progress began at this very tick it is the first. -/
def State.startGroup (s : State) (g : Nat) : State :=
  let ms := s.members g
  let back := ms.filter s.readmissible
  let s := back.foldl (fun s n =>
    let auto := (s.leg n).retries < s.legRetries n
    (s.modLeg n fun l =>
      { l with st := .off, killed := false, retries := if auto then l.retries + 1 else l.retries, disagreeRun := 0 }).raise
      .legReadmitted [n, ofBool auto]) s
  let healthy := ms.filter fun n => (s.leg n).st = .off
  let s := healthy.foldl (fun s n => s.modLeg n fun l => { l with st := .switching, sample := none }) s
  let s := s.modGroup g fun x => { x with coasting := false, coastDue := false, healthy }
  let s := if healthy.length < ms.length then s.raise .groupDerated [g, healthy.length, ms.length] else s
  if s.carousel.strokeTick = s.tick then s.scheduleGroup g s.carousel.tap s.periodTaps else s

/-- A leg's stroke ends: a stroke with a mismatch is a disagreeing stroke, one without resets the count (R179, R180). -/
def Leg.endStroke (l : Leg) (counting : Bool) : Leg :=
  if counting then
    if l.mismatch then { l with mismatch := false, disagree := l.disagree + 1, disagreeRun := l.disagreeRun + 1 }
    else { l with disagreeRun := 0 }
  else { l with mismatch := false }

/-- Three consecutive disagreeing strokes, the one in progress counted as soon as it shows a mismatch (R180). -/
def Leg.thirdDisagreement (l : Leg) : Bool := 3 ≤ l.disagreeRun + (if l.mismatch then 1 else 0)

/-- The legs at a stroke boundary: readback counts close, coasts decided take effect, INHIBITED legs return to OFF after a
release, and the switching groups get their cycles (R158, R170, R179, R188). -/
def State.legsStroke (s : State) : State :=
  let counting := s.compares
  let s := { s with legs := { s.legs with legs := vmap (Leg.endStroke · counting) s.legs.legs } }
  let s := (List.range 43).foldl (fun s g => if (s.group g).coastDue then s.coastGroup g else s) s
  let s := if s.legs.releaseDue then
      { s with legs := { s.legs with
        releaseDue := false
        legs := vmap (fun l => if l.st = .inhibited then { l with st := .off } else l) s.legs.legs } }
    else s
  let b := s.carousel.tap
  let period := s.periodTaps
  (List.range 43).foldl (fun s g => if (s.group g).coasting then s else s.scheduleGroup g b period) s

/-- LEG_SAMPLE (R171, R208): during a HI pulse of a buck leg with diode emulation, the leg's current filter is latched with
the HI on-time of the cycle. `m` is the window length of the leg's channel. -/
def State.latchSample (s : State) (n m : Nat) : State :=
  let td := s.legDead n
  s.modLeg n fun l =>
    match l.cycle with
    | some c =>
      if l.st = .switching && l.hi then
        { l with sample := some (sinc3 m (vget s.laws.bits (s.legChan n) []), m, limitOn td c.period l.word.on) }
      else l
    | none => l

/-- The cut of diode emulation in 2^-24 stroke (R171, R172): times in taps, currents in A, voltages in V, exact. -/
def deCut (vOutFs l margin td : Nat) (period tOn : Rat) (iFs : Nat) (vIn vOut : Rat) (sample : Option (Int × Nat × Rat)) : Nat :=
  match sample with
  | none => 0
  | some (raw, m, tPrev) =>
    if vOut < (vOutFs : Rat) / 10 * 2 / 100 then 0 else
    let tap : Rat := 78125 / 1000000000000000
    let lH : Rat := (l : Rat) / 100000000
    let iMid : Rat := (raw : Rat) / ((m ^ 3 : Nat) : Rat) * iFs / 10
    let iPk := iMid + (vIn - vOut) / lH * ((tOn - tPrev / 2) * tap)
    if iPk ≤ 0 then 0 else
    let tZ := lH * iPk / vOut / tap
    let tCut := tZ - margin
    if (period - td - tOn) ≤ tCut then 0xFFFFFF
    else if tCut - td < 1280 then 0
    else
      let q := tCut / period * 16777216
      (clampInt 0 0xFFFFFE (roundAway q.num q.den)).toNat

end Sys2Proof.Machine
end

