-- ==== Sys2Proof/Machine/Laws.lean ====
section
/-!
DEFINITION. Control laws (chapter 6): release with the latched snapshot, the commit of a result, the repetitive controller,
supervision, the states of Table 6.5, and what half-turn and stroke boundaries do to the laws.
-/
namespace Sys2Proof.Machine

open Sys2Proof.Config

/-! ### Records (Tables 6.7 to 6.9) -/

def State.lawRec (s : State) (l : Nat) : List W32 := (s.recAt 0x0501 31 26 l).getD []
def State.hasLaw (s : State) (l : Nat) : Bool := (s.recAt 0x0501 31 26 l).isSome
/-- TYPE: AFE_UNIT. -/
def State.lawAfe (s : State) (l : Nat) : Bool := bit (s.lawRec l) 0 25
def State.lawGroup (s : State) (l : Nat) : Nat := fld (s.lawRec l) 0 24 19
def State.lawFixed (s : State) (l : Nat) : Bool := bit (s.lawRec l) 0 18
def State.lawTripMax (s : State) (l : Nat) : Nat := fld (s.lawRec l) 0 17 15
def State.lawFrozenF (s : State) (l : Nat) : Nat := fld (s.lawRec l) 0 7 0
def State.lawFrac (s : State) (l : Nat) : Nat := fld (s.lawRec l) 1 31 16
def State.lawMon (s : State) (l : Nat) : Nat := fld (s.lawRec l) 1 15 12
def State.lawFeLimit (s : State) (l : Nat) : Bf := c24 ((s.lawRec l).getD 2 0)
def State.lawFeTimer (s : State) (l : Nat) : Nat := fld (s.lawRec l) 3 31 16
/-- The LAW_STAGE record of a position. -/
def State.stage (s : State) (l pos : Nat) : List W32 :=
  ((s.recs 0x0502).find? fun r => fld r 0 31 26 = l && fld r 0 25 22 = pos).getD []
/-- The law of a leg group. -/
def State.lawOf (s : State) (g : Nat) : Option Nat :=
  ((s.recs 0x0501).find? fun r => fld r 0 24 19 = g).map fun r => fld r 0 31 26

/-- A C24 parameter of a stage. -/
def c24At (w : List W32) (i : Nat) : Bf := c24 (w.getD i 0)

/-- The INPUT elements: channel, leg sample or filter, window length. -/
def State.inputs (s : State) (l : Nat) : List (Nat × Bool × Nat) :=
  let w := s.stage l 0
  (List.range (fld w 0 16 12)).map fun i => (fld w (1 + i) 31 24, bit w (1 + i) 23, fld w (1 + i) 22 15)

/-- The parameters of a law's chain (Table 6.9). -/
def State.lawPar (s : State) (l : Nat) : LawPar :=
  let w1 := s.stage l 1
  let w2 := s.stage l 2
  let w3 := s.stage l 3
  let w4 := s.stage l 4
  let w5 := s.stage l 5
  let w6 := s.stage l 6
  let w7 := s.stage l 7
  let afe := s.lawAfe l
  let chan (c : Nat) : PiChan := ⟨c24At w3 (1 + 4 * c), c24At w3 (2 + 4 * c), c24At w3 (3 + 4 * c), c24At w3 (4 + 4 * c)⟩
  { afe
    gains := (List.range (fld w1 0 16 12)).map fun i => (c24At w1 (1 + 2 * i), c24At w1 (2 + 2 * i))
    kV := c24At w2 1
    vBusRef := c24At w2 2
    phi := sfld w2 1 31 16
    pi := if afe then [chan 0, chan 1, chan 2] else [chan 0]
    kB := c24At w3 5
    repEn := bit w4 0 17
    tabExp := sfld w4 1 22 16
    q := c24At w4 2
    kr := c24At w4 3
    step := c24At w4 4
    h := match fld w4 1 31 30 with | 0 => 1 | 1 => 2 | 2 => 6 | _ => 12
    lead := fld w4 1 29 24
    kFF := c24At w5 1
    lFF := c24At w5 2
    dMax := c24At w6 1
    vFloor := c24At w6 2
    trimMax := c24At w6 3
    zsi := bit w7 1 31
    adv := fld w7 1 15 0
    vinFs := s.vinFs (s.lawGroup l) }

/-! ### State -/

/-- One law changed. -/
def State.modLaw (s : State) (l : Nat) (f : Law → Law) : State :=
  { s with laws := { s.laws with laws := vmapIdx (fun i x => if i = l then f x else x) s.laws.laws } }

/-- A law by its number. -/
def State.law (s : State) (l : Nat) : Law := vget s.laws.laws l {}

/-- Causes as event values. -/
def LawCause.num : LawCause → Int
  | .overrun => 0
  | .feedback _ => 1
  | .legFault => 2
  | .legsOff => 3
  | .carousel => 4
  | .trip _ => 5
  | .overruns8 => 6
  | .frozen => 7
  | .tripMax => 8
  | .groupStopped => 9

/-- A cause holds a law in COASTED: RUNNING laws coast with their group, READY laws only for lost feedback (Table 6.5). -/
def State.coastLaw (s : State) (l : Nat) (c : LawCause) : State :=
  let w := s.law l
  let add (x : Law) : Law := { x with causes := if x.causes.contains c then x.causes else x.causes ++ [c] }
  let enter := w.st = .running || (w.st = .ready && match c with | .feedback _ => true | _ => false)
  if enter then
    ((s.modLaw l fun x => { add x with st := .coasted }).decideCoast (s.lawGroup l)).raise .lawCoasted [l, c.num]
  else if w.st = .coasted || w.st = .stopped then s.modLaw l add
  else s

/-- A law stops, with its group coasting (Table 6.5). -/
def State.stopLaw (s : State) (l : Nat) (c : LawCause) : State :=
  let was := (s.law l).st
  let s := (s.modLaw l fun x =>
    { x with st := .stopped, causes := if x.causes.contains c then x.causes else x.causes ++ [c] }).decideCoast (s.lawGroup l)
  if was = .stopped then s else s.raise .lawStopped [l, c.num]

/-! ### Release (R208, R211, R214) -/

/-- The window length of an SD channel: that of the INPUT elements that name it (R207); 32 where none does (log 10). -/
def State.window (s : State) (chan : Nat) : Nat :=
  ((s.recs 0x0501).findSome? fun r =>
    ((s.inputs (fld r 0 31 26)).find? fun e => e.1 = chan).map (·.2.2)).getD 32

/-- The filter of a channel as it stood `age` edges of its modulator clock ago (R207, R588). -/
def State.filterAt (s : State) (chan m age : Nat) : Int × Nat := (sinc3 m ((vget s.laws.bits chan []).drop age), m)

/-- The filter of a channel read now (R207). -/
def State.filter (s : State) (chan m : Nat) : Int × Nat := s.filterAt chan m 0

/-- The age of the edge that the holder's snapshot took of a channel, and of a leg sample; the newest edge without a record (R588). -/
def recordAge (r : Option LawRecord) (chan : Nat) : Nat :=
  ((r.bind fun x => x.clocks.find? fun y => y.1.val = chan / 16).map (·.2)).getD 0
def recordLeg (r : Option LawRecord) (n : Nat) : Option Nat := (r.bind fun x => x.legs.find? fun y => y.1.val = n).map (·.2)

/-- A leg sample as the snapshot takes it: as latched, or at the edge that the record names (R208, R588). -/
def State.legSampleAt (s : State) (n : Nat) (r : Option LawRecord) : Option (Int × Nat × Rat) :=
  (s.leg n).sample.map fun x => match recordLeg r n with
    | some age => ((s.filterAt (s.legChan n) x.2.1 age).1, x.2.1, x.2.2)
    | none => x

/-- The references of stroke j of the half-turn (R214). -/
def Law.refs (w : Law) (j half2 : Nat) : Rat × Rat :=
  let f : Rat := ((j + 1 : Nat) : Rat) / (half2 : Rat)
  (w.prev.1 + (w.new.1 - w.prev.1) * f, w.prev.2 + (w.new.2 - w.prev.2) * f)

/-- The INDEX positions of the healthy legs of a group. -/
def State.healthyIdx (s : State) (g : Nat) : List Nat := (s.group g).healthy.map s.legIndex

/-! ### The sample instants (R209) -/

/-- The sample instant of a stroke, in taps: s_k = c_k + P * T (R209). -/
def LawDue.instant (d : LawDue) : Rat := d.start + (d.p : Rat) / 65536 * d.period

/-- The Carousel phase at an instant in taps, at the present frequency. -/
def State.phaseAt (s : State) (x : Rat) : Nat := ((s.carousel.phase : Rat) + (x - s.nowTap) * s.carousel.freq / 32).floor.toNat

/-- A stroke begins: the sample instant of each law that runs its task follows from the start of its rank-0 cycle in the stroke
(R158, R209, R232). -/
def State.scheduleLaw (s : State) (l : Nat) : State :=
  if s.hasLaw l && (s.law l).st ≠ .idle then
    let start := s.carousel.tap + legOffset true (s.groupBase (s.lawGroup l)) 0 1 * s.periodTaps
    s.modLaw l fun x => { x with due := x.due ++ [{ stroke := s.carousel.stroke, start, period := s.periodTaps, p := x.p }] }
  else s

/-- The references of a stroke: those of the half-turn it lies in, which may be the one before (R214). -/
def State.strokeRefs (s : State) (w : Law) (stroke : Nat) : Rat × Rat :=
  let n2 := s.nStrokes / 2
  let w := if stroke / n2 < s.carousel.half then { w with prev := w.older.1, new := w.older.2 } else w
  w.refs (stroke % n2) n2

/-- The snapshot of a law at its sample instant, with the versions of its state that the task reads (R119, R121, R122, R208); at a
standby at the edges that the stroke record names (R588). -/
def State.snapLaw (s : State) (l seq : Nat) (d : LawDue) (rec_ : Option LawRecord) : LawSnap :=
  let g := s.lawGroup l
  let w := s.law l
  let ms := s.members g
  let raw := (s.inputs l).mapIdx fun i e =>
    match e.2.1, (ms[i - 3]?).bind fun n => s.legSampleAt n rec_ with
    | true, some (v, m, _) => (v, m)
    | _, _ => s.filterAt e.1 e.2.2 (recordAge rec_ e.1)
  let r := s.strokeRefs w d.stroke
  { law := l, seq, raw
    healthy := if (s.group g).coasting then (ms.filter s.eligible).map s.legIndex else s.healthyIdx g
    theta := s.phaseAt d.instant % turnUnits / ticksPerSec, freq := s.carousel.freq, locked := s.carousel.st = .locked
    stroke := d.stroke, ref0 := r.1, ref1 := r.2, period := d.period
    samples := ms.map (fun n => s.legSampleAt n rec_), x := w.x, rep := w.rep }

/-- The deadline of a law's task as a line stamp: that of the sample instant and a stroke, less 1 us in whole arcs (R211). -/
def State.lawDeadline (s : State) (d : LawDue) : Nat :=
  (s.phaseAt d.instant + turnUnits / s.nStrokes) / arcUnits - s.carousel.freq * ticksPerUs / arcUnits

/-- A value read from a filter, in 2^-23 of full scale (Table 16.9). -/
def State.waveWord (s : State) (c : Nat) : Int :=
  let x := s.filter c (s.window c)
  x.1 * 2 ^ 23 / (x.2 ^ 3 : Nat)

/-- The waveform streams whose first channel a law reads capture their channels at the law's sample instant, every PERIOD strokes
(Table 4.7, Table 16.9, log 36). -/
def State.captureWaves (s : State) (l stroke : Nat) : State :=
  { s with buses := { s.buses with
    streams := vmapIdx (fun i x =>
      match s.recAt 0x1002 31 28 i with
      | none => x
      | some w =>
        let first := fld w 6 31 0
        if fld w 0 27 26 = 1 && stroke % max 1 (fld w 5 31 16) = 0 && (s.inputs l).any fun e => e.1 = first then
          { x with waves := x.waves ++ [(s.stamp, (List.range (fld w 5 15 0)).map fun k => s.waveWord (first + k))] }
        else x) s.buses.streams } }

/-- The P0 task of a stroke of a law is released at its sample instant, with the snapshot that it reads (R124, R208, R211, R232); a
standby releases it on the stroke record, with a deadline 2 us later (R588). -/
def State.releaseStroke (s : State) (l : LawNo) (d : LawDue) (rec_ : Option LawRecord) : State :=
  let idx := ((s.recs 0x0501).findIdx? fun r => fld r 0 31 26 = l.val).getD 0
  let snap := s.snapLaw l.val (s.array.nextSeq l.val) d rec_
  let s := { s with laws := { s.laws with snaps := s.laws.snaps ++ [snap] } }
  let s := (s.modLaw l.val fun x => { x with due := x.due.erase d }).captureWaves l.val d.stroke
  let late := if rec_.isSome then s.carousel.freq * (2 * ticksPerUs) / arcUnits else 0
  s.releaseP0 l (s.array.homes.getD idx 0) (s.lawDeadline d + late)

/-- The next stroke of a law whose sample instant is still to come is released, once that instant has been reached (R209, R211). -/
def State.releaseLaw (s : State) (l : LawNo) : State :=
  match (s.law l.val).due with
  | d :: _ =>
    if (s.law l.val).st ≠ .idle && s.carousel.running && d.instant < s.nowTap + 32 then s.releaseStroke l d none else s
  | [] => s

/-- A standby's copy of a law's task is released on the stroke record (R588). -/
def State.releaseRecorded (s : State) (stroke : Nat) (r : LawRecord) : State :=
  let s := match (s.law r.law.val).due.find? fun d => d.stroke = stroke with
    | some d => s.releaseStroke r.law d (some r)
    | none => s
  s.modLaw r.law.val fun x => { x with due := x.due.filter fun d => stroke < d.stroke }

/-! ### Commit (R212, R217, R225, R229) -/

/-- A task's stroke belongs to the RUNNING state of its law: the law has started at its stroke or before (R232, R235). -/
def State.ranStroke (s : State) (w : Law) (stroke : Nat) : Bool := w.st = .running && w.startHalf * (s.nStrokes / 2) ≤ stroke

/-- Learning is frozen in the stroke of a task (R219): the Carousel not LOCKED, a stepped ink, a recent start, a clamp, a law not
RUNNING. -/
def State.learnFrozen (s : State) (w : Law) (snap : LawSnap) (unlearn : Bool) : Bool :=
  let h := snap.stroke / (s.nStrokes / 2)
  !snap.locked || unlearn || !s.ranStroke w snap.stroke || h < w.startHalf + 20 || w.steps.any fun k => k ≤ h && h ≤ k + 2

/-- The table outputs at index k. -/
def Law.tableAt (w : Law) (k : Nat) : List Int := w.rep.map fun t => t.getD k 0

/-- The tables after learning from the errors at index k (R217); and the saturations. -/
def learnRep (p : LawPar) (rep : List (List Int)) (errs : List Bf) (k len : Nat) : List (List Int) × Nat :=
  let j := (k + len - p.lead) % len
  let out := rep.mapIdx fun c t =>
    let r := repEntry p (t.getD j 0) (errs.getD c (0, -64))
    (t.set j r.1, r.2)
  (out.map (·.1), out.countP fun x => x.2)

/-- The monitored element of the error vector (R225): none while its leg is not healthy. -/
def State.monitored (s : State) (l : Nat) (snap : LawSnap) (err : List Bf) : Option Bf :=
  let m := s.lawMon l
  if s.lawAfe l || m = 0 then err[m]?
  else (snap.healthy.findIdx? (· = m - 1)).bind fun r => err[r + 1]?

/-- The following-error counter after a stroke (R225). -/
def feNext (count : Nat) (limit : Bf) : Option Bf → Nat
  | none => 0
  | some e =>
    let a := |bfVal e|
    let big := bfVal limit
    if big < a then count + 1 else if a < big * 8 / 10 then 0 else count

/-- The frozen-feedback runs after a stroke (R229). -/
def frozenNext (runs : List (Int × Nat)) (raw : List (Int × Nat)) : List (Int × Nat) :=
  raw.mapIdx fun i r => match runs[i]? with
    | some (v, n) => if v = r.1 then (v, n + 1) else (r.1, 1)
    | none => (r.1, 1)

/-- The element frozen over F strokes while the rank-0 duty moved by more than 0.01 (R229). -/
def frozenElem (runs : List (Int × Nat)) (duties : List Nat) (f : Nat) : Option Nat :=
  let ds := duties.take f
  let moved := 1677722 < 10 * (ds.foldl max 0 - ds.foldl min (ds.headD 0))
  if moved && f ≤ ds.length then runs.findIdx? fun r => f ≤ r.2 else none

/-- The command words of a result: one per healthy leg (SPLIT, DE). -/
def State.words (s : State) (l : Nat) (snap : LawSnap) (out : LawOut) : List (Nat × LegWord) :=
  let g := s.lawGroup l
  let legs := snap.healthy.filterMap fun i => (s.members g)[i]?
  legs.mapIdx fun r n =>
    let on := onOf (out.duties.getD r (0, -64))
    let td := s.legDead n
    let cut := if s.legDe n && bit (s.stage l 9) 0 17 then
        deCut (s.voutFs g) (s.legL n) (s.legMargin n) td snap.period (limitOn td snap.period on) (s.legIFs n)
          (bfVal out.vIn) (bfVal out.vOut) ((snap.samples[snap.healthy.getD r 0]?).getD none)
      else 0xFFFFFF
    (n, { on, holdOff := false, loCut := cut })

/-- The result block of a law's task as the compare unit sees it (R126): flags, command words by leg, integrators, and the entries
of the repetitive tables that it writes. -/
structure LawBlock where
  flags : List Bool
  words : List (Nat × LegWord)
  x : List Bf
  entries : List Int
  deriving DecidableEq, Repr, Inhabited

/-- A field of a result that differs in the bits of a word. -/
def flip (bits x : Nat) (e : W32) : Nat := (x % 2 ^ bits) ^^^ (e.toNat % 2 ^ bits)

/-- The block that copies hold which agree on something else than the exact result: each word differs by its word of `err`, in the
order status word, two words a leg (Table 5.3), mantissa and exponent of each integrator, table entries (log 7). -/
def LawBlock.differ (b : LawBlock) (err : List W32) : LawBlock :=
  if err.isEmpty then b else
  let e (i : Nat) : W32 := err.getD i 0
  let atX := 1 + 2 * b.words.length
  let atT := atX + 2 * b.x.length
  { flags := b.flags.mapIdx fun i f => f != (e 0).getLsbD i
    words := b.words.mapIdx fun r w => (w.1,
      { on := flip 24 w.2.on ((e (1 + 2 * r)) >>> 8), holdOff := w.2.holdOff != (e (1 + 2 * r)).getLsbD 0
        loCut := flip 24 w.2.loCut ((e (2 + 2 * r)) >>> 8) })
    x := b.x.mapIdx fun i y => (signed 24 (flip 24 (y.1 % 2 ^ 24).toNat (e (atX + 2 * i))),
      signed 7 (flip 7 (y.2 % 128).toNat (e (atX + 2 * i + 1))))
    entries := b.entries.mapIdx fun i y => signed 24 (flip 24 (y % 2 ^ 24).toNat (e (atT + i))) }

/-- The chain of a law over a snapshot (Table 6.1). -/
def State.runChain (s : State) (snap : LawSnap) : LawOut :=
  let p := s.lawPar snap.law
  let k := snap.stroke % (s.nStrokes / p.h)
  let i : LawIn :=
    { raw := snap.raw, healthy := snap.healthy, theta := snap.theta, freq := snap.freq
      table := snap.rep.map fun t => t.getD k 0, refs := ⟨snap.ref0, snap.ref1⟩ }
  if p.afe then afeChain p i snap.x else buckChain p i snap.x

/-- The supervision of a RUNNING stroke with a committed result: frozen feedback and the following error (R225, R226, R229, Table 6.6). -/
def State.supervise (s : State) (l : Nat) : State :=
  let w := s.law l
  let s := match frozenElem w.frozen w.dutyHist (s.lawFrozenF l) with
    | some e => (s.raise .feedbackFrozen [l, e, (w.frozen.getD e (0, 0)).1]).stopLaw l .frozen
    | none => s
  if s.lawFeTimer l ≤ w.feCount then
    let trips := w.trips + 1
    let s := (s.modLaw l fun x => { x with trips, feCount := 0 }).raise .feTrip
      [l, s.lawMon l, (s.lawFeLimit l).1, (s.lawFeLimit l).2, trips]
    if s.lawTripMax l ≤ trips then s.stopLaw l .tripMax else s.coastLaw l (.trip (s.carousel.phase + 50 * halfUnits))
  else s

/-- The words of a result go to the edge generators of the legs that switch; a word for a leg that is off is discarded (R167, R168,
R190). At a standby they wait for the stroke record (R588). -/
def State.writeWords (s : State) (words : List (Nat × LegWord)) : State :=
  words.foldl (fun s x =>
    if (s.leg x.1).st = .switching && !(s.leg x.1).killed then
      s.modLeg x.1 fun y =>
        let w := if s.legDe x.1 then x.2 else { x.2 with loCut := 0xFFFFFF }
        if s.pair.st = .standby then { y with held := some w }
        else y.write (s.legDead x.1) s.nowTap s.tick s.strokeEnd w
    else s) s

/-- The words of a stroke record take effect at a standby (R588). -/
def State.placeWords (s : State) (words : List (LegNo × Bool)) : State :=
  words.foldl (fun s x =>
    s.modLeg x.1.val fun y => y.place (s.legDead x.1.val) s.nowTap s.tick s.strokeEnd x.2) s

/-- A result of a law commits (R212): its state, counters and tables are written, its words go to the edge generators while RUNNING
and not coasting, and the supervision of R225 to R229 runs. A task of a stroke before the start holds the integrators at zero, and
its words are not the group's (R232, R235). `err` is what the agreed copies differ by from the exact result (R126). -/
def State.commitLaw (s : State) (l seq deadline : Nat) (err : List W32) : State :=
  match s.laws.snaps.find? fun x => x.law = l && x.seq = seq with
  | none => s
  | some snap =>
    let w := s.law l
    let p := s.lawPar l
    let len := s.nStrokes / p.h
    let k := snap.stroke % len
    let out := s.runChain snap
    let learn := p.repEn && !s.learnFrozen w snap out.unlearn
    let errs := if p.afe then out.err.drop 1 else out.err
    let (rep, sats) := if learn then learnRep p snap.rep errs k len else (w.rep, 0)
    let j := (k + len - p.lead) % len
    let exact : LawBlock :=
      { flags := out.sat ++ [decide (0 < sats), out.limited], words := s.words l snap out, x := out.x
        entries := if learn then rep.map fun t => t.getD j 0 else [] }
    let b := exact.differ err
    let rep := if learn then rep.mapIdx fun c t => t.set j (b.entries.getD c 0) else rep
    let running := s.ranStroke w snap.stroke
    let on0 := (b.words.headD (0, {})).2
    let limited := b.flags.getD 9 false
    let s := { s with laws := { s.laws with snaps := s.laws.snaps.filter fun x => !(x.law = l && x.seq = seq) } }
    let s := s.modLaw l fun x =>
      { x with
        x := if x.st = .ready || (x.st = .running && !running) then [] else b.x
        rep, repSats := x.repSats + sats, overrunRun := 0
        limits := if limited then x.limits + 1 else x.limits
        status := (b.flags.take 8, b.flags.getD 8 false, limited)
        vecs := out.vecs.map fun v => (v.ms, v.e)
        lastWords := ((on0.on, on0.holdOff, deadline) :: x.lastWords).take 3
        lastStroke := some s.carousel.stroke
        committed := (seq :: x.committed).take 8
        feCount := if running then feNext x.feCount (s.lawFeLimit l) (s.monitored l snap out.err) else x.feCount
        frozen := if running then frozenNext x.frozen snap.raw else x.frozen
        dutyHist := if running then (on0.on :: x.dutyHist).take 255 else x.dutyHist }
    if !running then s else
    let g := s.group (s.lawGroup l)
    let s := if g.coasting || g.coastDue then s else s.writeWords b.words
    s.supervise l

/-- A stroke of a law was an overrun (R222 to R224, Table 6.6): it is counted, and the decision that follows takes effect at its
EFFECT stamp on both modules (R230). -/
def State.overrunLaw (s : State) (l seq : Nat) : State :=
  let stroke := ((s.laws.snaps.find? fun x => x.law = l && x.seq = seq).map (·.stroke)).getD s.carousel.stroke
  let w := s.law l
  let at_ := stroke :: w.overrunAt.filter fun k => stroke < k + 1000
  let run := w.overrunRun + 1
  let s := { s with laws := { s.laws with snaps := s.laws.snaps.filter fun x => !(x.law = l && x.seq = seq) } }
  let s := s.modLaw l fun x => { x with overruns := x.overruns + 1, overrunAt := at_, overrunRun := run }
  let n : LawNo := Fin.ofNat 43 l
  if 8 ≤ at_.length && w.st ≠ .idle && w.st ≠ .stopped then s.submit (.lawChange n .overruns8) (·.stopLaw l .overruns8)
  else if 2 ≤ run then s.submit (.lawChange n .overrun) (·.coastLaw l .overrun)
  else s

/-! ### Lost feedback (R227, R228) -/

/-- A law reads a channel: an INPUT element names it, or a leg of its group with diode emulation does. -/
def State.reads (s : State) (l chan : Nat) : Bool :=
  ((s.inputs l).any fun e => e.1 = chan) ||
    (s.members (s.lawGroup l)).any fun n => s.legDe n && s.legChan n = chan

/-- A channel is lost from now on (R227). -/
def State.markLost (s : State) (chan : Nat) : State :=
  { s with laws := { s.laws with
    lost := vput s.laws.lost chan true, lostAt := vput s.laws.lostAt chan s.carousel.phase } }

/-- The loss of a channel takes effect: every law that reads it coasts (R227, R230). -/
def State.loseChannel (s : State) (chan : Nat) : State :=
  let s := s.markLost chan
  (List.range 43).foldl (fun s l =>
    if s.hasLaw l && (s.law l).st ≠ .idle && s.reads l chan then
      (s.coastLaw l (.feedback chan)).raise .feedbackLost [l, chan]
    else s) s

/-- The loss of a modulator clock takes effect on the laws that read one of its channels (R228, R230). -/
def State.loseClock (s : State) (clk : Nat) : State :=
  (List.range 16).foldl (fun s i => s.loseChannel (16 * clk + i)) s

/-- FEEDBACK_LOST (R227): no transition for 64 clocks of the modulator clock. -/
def execFeedbackLost (t : Nat) (chan : SdChan) (clocks : Nat) (s : State) : Out :=
  let s := s.advance t
  .next (if 64 ≤ clocks && !s.laws.lost[chan] then
    (s.markLost chan.val).submit (.feedbackLost chan) (·.loseChannel chan.val)
  else s)

/-- The observation shows a modulator clock lost (R228): no edge for 1 us, or a frequency outside 4.9 to 25.5 MHz. -/
def clockGone : ClockObs → Bool
  | .noEdge ns => 1000 ≤ ns
  | .frequency khz => khz < 4900 || 25500 < khz

/-- SDCK_LOST (R228): its channels are lost and the reference sets clocked by it fail from this tick (R708: set A by SDCK_14, set B
by SDCK_15); what follows for the laws waits for its EFFECT stamp (R230). -/
def execSdckLost (t : Nat) (clk : SdckNo) (obs : ClockObs) (s : State) : Out :=
  let s := s.advance t
  .next (if clockGone obs && !(s.laws.clocks[clk]).lost then
    let s := { s with laws := { s.laws with clocks := s.laws.clocks.set clk { lost := true } } }
    let s := s.raise .sdckLost [clk.val, 1, 16]
    let s := (List.range 16).foldl (fun s i => s.markLost (16 * clk.val + i)) s
    let s := s.submit (.clockLost clk) (·.loseClock clk.val)
    if clk.val = 14 then s.failSet .a .clockLost else if clk.val = 15 then s.failSet .b .clockLost else s
  else s)

/-- SDCK_VALID (R228): a lost clock that has stayed in band for 4 turns is valid again. -/
def execSdckValid (t : Nat) (clk : SdckNo) (turns : Nat) (s : State) : Out :=
  let s := s.advance t
  .next (if 4 ≤ turns && (s.laws.clocks[clk]).lost then
    ({ s with laws := { s.laws with clocks := s.laws.clocks.set clk { lost := false } } }).raise .sdckLost [clk.val, 0, 16]
  else s)

/-- A rising edge of an SDCK clocks one bit into each of its channels; a transition on a lost channel whose clock is good
begins its recovery (R206, R207, R233). -/
def State.sdEdge (s : State) (clk : SdckNo) (bits : BitVec 16) : State :=
  let good := !(s.laws.clocks[clk]).lost
  let b (i : Nat) : Bool := bits.getLsbD (i - 16 * clk.val)
  let mine (i : Nat) : Bool := i / 16 = clk.val
  let back (i : Nat) : Bool :=
    mine i && good && vget s.laws.lost i false && (match vget s.laws.bits i [] with | x :: _ => x != b i | [] => false)
  { s with laws := { s.laws with
    bits := vmapIdx (fun i l => if mine i then (b i :: l).take 1019 else l) s.laws.bits
    lost := vmapIdx (fun i x => if back i then false else x) s.laws.lost
    lostAt := vmapIdx (fun i x => if back i then s.carousel.phase else x) s.laws.lostAt } }

/-- LEG_SAMPLE (R171, R208). -/
def execLegSample (t : Nat) (leg : LegNo) (s : State) : Out :=
  let s := s.advance t
  .next (if s.legDe leg.val then s.latchSample leg.val (s.window (s.legChan leg.val)) else s)

/-! ### Boundaries -/

/-- A cause still holds at a half-turn boundary (R233). -/
def State.causeHolds (s : State) (w : Law) (g : Nat) : LawCause → Bool
  | .overrun => match w.overrunAt with
    | k :: _ => s.carousel.half ≤ k * 2 / s.nStrokes + 1
    | [] => false
  | .feedback c => vget s.laws.lost c false || s.carousel.phase < vget s.laws.lostAt c 0 + 4 * turnUnits
  | .legFault | .legsOff => false
  | .carousel => s.carousel.st ≠ .locked
  | .trip until_ => s.carousel.phase < until_
  | .overruns8 => 8 ≤ w.overrunAt.countP fun k => s.carousel.stroke < k + 1000
  | .frozen | .tripMax => false
  | .groupStopped => !s.enoughLegs g

/-- The ink that a law takes at a boundary: (I_SET, V_LIM), or (I_D_LIM, I_Q_SET) (R213). The ink itself is passed in. -/
abbrev InkOf := Nat → Rat × Rat

/-- The MID_ON update of the sample fraction from the word of the law's latest task whose deadline lies before the boundary (R210). -/
def State.midOn (s : State) (l : Nat) (w : Law) : Nat :=
  if s.lawFixed l || w.st ≠ .running then w.p else
  match w.lastWords.find? fun x => x.2.2 < s.carousel.half * 32768 with
  | some (on, false, _) =>
    if on = 0 then w.p else
    let td := s.legDead ((s.group (s.lawGroup l)).healthy.headD 0)
    let tp := s.periodTaps
    let x := ((td : Rat) + strokePart tp on / 2) / tp * 65536
    let pStar := (roundAway x.num x.den).toNat
    if w.p ≤ pStar then pStar else max pStar (w.p - (6400 / tp * 65536).floor.toNat)
  | _ => w.p

/-- A READY law may start (R234): ink, matrix path, LOCKED, enough legs. -/
def State.mayStart (s : State) (l : Nat) (ink : Rat × Rat) (path : Bool) : Bool :=
  let g := s.lawGroup l
  ink.1 ≠ 0 && (if s.lawAfe l then s.carousel.st = .locked else path) && !s.legs.legsOff && !s.legs.releaseDue &&
    (let n := (s.members g).countP fun k => (s.leg k).st = .off || s.readmissible k
     if s.lawAfe l then n = 3 else s.minLegs g ≤ n)

/-- One law at a half-turn boundary (R210, R213 to R215, R219, R231 to R235). -/
def State.lawHalf (s : State) (ink : InkOf) (path : Nat → Bool) (l : Nat) : State :=
  let w := s.law l
  let g := s.lawGroup l
  if !s.hasLaw l || w.st = .idle then s else
  let new := ink l
  let p := s.midOn l w
  let old := w.new
  let step := bfVal (s.lawPar l).step < |new.1 - old.1|
  let s := s.modLaw l fun x =>
    { x with
      p, prev := old, new, older := (x.prev, x.new)
      due := x.due.map fun d => if s.carousel.half * (s.nStrokes / 2) ≤ d.stroke then { d with p } else d
      steps := if step then (s.carousel.half :: x.steps).take 4 else x.steps }
  match w.st with
  | .running =>
    if old.1 = 0 then (s.modLaw l fun x => { x with st := .ready, x := [] }).decideCoast g else s
  | .ready =>
    if s.mayStart l new (path g) then
      let s := s.startGroup g
      (s.modLaw l fun x =>
        { x with st := .running, x := [], causes := [], startHalf := s.carousel.half
                 prev := (0, if s.lawAfe l then 0 else new.2), frozen := [], dutyHist := [], feCount := 0
                 overrunRun := 0 }).raise
        .lawStarted [l, (s.group g).healthy.length]
    else s
  | .coasted =>
    let held := w.causes.filter (s.causeHolds w g)
    s.modLaw l fun x => { x with causes := held, st := if held.isEmpty then .ready else .coasted, x := [] }
  | _ => s

/-- The capacity of a group as reported from this latch: its legs of n (R183, R184, R231). -/
def State.groupCap (s : State) (g : Nat) : Nat :=
  match s.lawOf g with
  | none => 0
  | some l =>
    match (s.law l).st with
    | .running => if s.enoughLegs g then (s.healthyLegs g).length else 0
    | .ready => if s.enoughLegs g then s.eligibleCount g else 0
    | _ => 0

/-- A group's capacity report and the GROUP_STOPPED event (R183, R184, R231). -/
def State.reportGroup (s : State) (g : Nat) : State :=
  if (s.members g).isEmpty then s else
  let cap := s.groupCap g
  let stop := !s.enoughLegs g && (s.lawOf g).isSome
  let was := (s.group g).stopped
  let s := s.modGroup g fun x => { x with capLegs := cap, stopped := stop }
  if stop && !was then s.raise .groupStopped [g, (s.healthyLegs g).length, s.minLegs g] else s

/-- The groups report their capacity at the latch point (R183, R184, R231). -/
def State.reportGroups (s : State) : State := (List.range 43).foldl State.reportGroup s

/-- All laws at a half-turn boundary. -/
def State.lawsHalf (s : State) (ink : InkOf) (path : Nat → Bool) : State := (List.range 43).foldl (State.lawHalf · ink path) s

/-- The laws at a stroke boundary: their sample instants in the stroke are fixed (R209); a RUNNING AFE law coasts once the Carousel
has left LOCKED (R236). -/
def State.lawsStroke (s : State) : State :=
  let s := (List.range 43).foldl State.scheduleLaw s
  if s.carousel.st = .locked then s
  else (List.range 43).foldl (fun s l =>
    if s.lawAfe l && (s.law l).st = .running then s.coastLaw l .carousel else s) s

/-- The laws and legs when service begins (R178, R209, R220, Table 5.6, Table 6.5). -/
def State.lawsService (s : State) : State :=
  let s := (List.range 43).foldl (fun s l =>
    if s.hasLaw l then
      let p := s.lawPar l
      let len := s.nStrokes / p.h
      let n := if p.repEn then (if p.afe then 2 else 1) else 0
      s.modLaw l fun x =>
        { x with st := .ready, p := s.lawFrac l, rep := List.replicate n (List.replicate len 0)
                 startHalf := s.carousel.half }
    else s) s
  (s.recs 0x0401).foldl (fun s r =>
    let n := fld r 0 31 24
    if fld r 0 23 22 = 0 then s
    else if (s.leg n).fltLow then
      (s.modLeg n fun x => { x with st := .faulted, cause := some .flt, faults := x.faults + 1, cleared := false }).raise
        .legFault [n, 0, s.legGroup n]
    else s.modLeg n fun x => { x with st := .off }) s

/-- The channels that are lost when service begins coast the laws that read them (R227, Table 6.5). -/
def State.lostAtService (s : State) : State :=
  (List.finRange 256).foldl (fun s c =>
    if s.laws.lost[c] && (List.range 43).any fun l => s.hasLaw l && s.reads l c.val then
      s.submit (.feedbackLost c) (·.loseChannel c.val)
    else s) s

end Sys2Proof.Machine
end

