-- ==== Sys2Proof/Machine/Alloc.lean ====
section
/-!
DEFINITION. The Juggler's computation (chapter 7): effective limits, the passes of R255 and R256, shortfalls, clamp ink, the
matrix decisions of R276, and the content of ink. Exact integers throughout (R249): power in W, current in 0.1 A, voltage
in 0.1 V, limits of GRID, TRANSFORMER and BUS nodes and coefficients with 16 fraction bits.
-/
namespace Sys2Proof.Machine

/-- A constraint node (Table 7.11). -/
structure CNode where
  node : Nat
  kind : Nat
  inst : Nat
  parent : Nat
  loss : Nat
  pMax : Nat
  iMax : Nat
  therm : Nat
  can : Nat
  ctrId : Nat
  reach : Nat
  vRated : Nat
  deriving DecidableEq, Repr, Inhabited

/-- A CNODE record read (R282). -/
def cnodeOf (r : List W32) : CNode :=
  { node := fld r 0 31 20, kind := fld r 0 19 16, inst := fld r 0 15 8, parent := fld r 1 31 20, loss := fld r 1 15 0
    pMax := fld r 2 31 16, iMax := fld r 2 15 0, therm := fld r 3 31 9, can := fld r 4 31 29, ctrId := fld r 4 28 0
    reach := wide r 5 2, vRated := fld r 4 31 16 }

/-- The allocation policy and site limits of the revision in force (Tables 7.12 and 7.13). -/
structure Policy where
  nodes : List CNode
  pol : List W32
  site : List W32
  deriving DecidableEq, Repr, Inhabited

def State.policy (s : State) : Policy :=
  { nodes := (s.recs 0x0601).map cnodeOf, pol := s.rec1 0x0602, site := s.rec1 0x0603 }

def Policy.inkArc (p : Policy) : Nat := fld p.pol 0 31 16
def Policy.tolReq (p : Policy) : Nat := fld p.pol 0 15 8
def Policy.tolTherm (p : Policy) : Nat := fld p.pol 0 7 0
def Policy.tolV (p : Policy) : Nat := fld p.pol 1 31 24
def Policy.tolGrid (p : Policy) : Nat := fld p.pol 1 23 16
def Policy.gridRamp (p : Policy) : Nat := fld p.pol 1 15 0
def Policy.growMargin (p : Policy) : Nat := fld p.pol 2 31 16
def Policy.vCalcMin (p : Policy) : Nat := fld p.pol 2 15 0
def Policy.iOpen (p : Policy) : Nat := fld p.pol 3 31 16
def Policy.afeHead (p : Policy) : Nat := fld p.pol 3 15 8
/-- MATRIX_TO in ticks. -/
def Policy.matrixTo (p : Policy) : Nat := fld p.pol 3 7 1 * 10 * Config.ticksPerMs
def Policy.busIdleOff (p : Policy) : Bool := bit p.pol 3 0
/-- CLASS of outlet o (1 to 64): 0 A, 1 B, 2 C. -/
def Policy.cls (p : Policy) (o : Nat) : Nat := fld p.pol (2 + 2 * o) 31 30
def Policy.weight (p : Policy) (o : Nat) : Nat := fld p.pol (2 + 2 * o) 23 16
def Policy.gKw (p : Policy) (o : Nat) : Nat := fld p.pol (2 + 2 * o) 15 0
def Policy.rampUp (p : Policy) (o : Nat) : Nat := fld p.pol (3 + 2 * o) 31 16
def Policy.importKw (p : Policy) : Nat := fld p.site 0 31 16
def Policy.auxReserve (p : Policy) : Nat := fld p.site 0 15 0
def Policy.curtFallback (p : Policy) : Nat := fld p.site 1 31 16
/-- CURT_TIMEOUT in ticks. -/
def Policy.curtTimeout (p : Policy) : Nat := fld p.site 1 15 0 * 100 * Config.ticksPerMs
def Policy.curtCan (p : Policy) : Nat := fld p.site 2 31 29
def Policy.curtId (p : Policy) : Nat := fld p.site 2 28 0
def Policy.curtCanEn (p : Policy) : Bool := bit p.site 3 31
def Policy.qFrac (p : Policy) : Int := sfld p.site 3 15 0
def Policy.idFloor (p : Policy) : Nat := fld p.site 4 31 24

/-- The nodes of a kind. -/
def Policy.kind (p : Policy) (k : Nat) : List CNode := p.nodes.filter fun n => n.kind = k
/-- The node of a kind with an instance. -/
def Policy.nodeFor (p : Policy) (k i : Nat) : Option CNode := p.nodes.find? fun n => n.kind = k && n.inst = i
/-- The GRID, TRANSFORMER and BUS nodes, deepest first and by ascending number within a depth (R263). -/
def Policy.limited (p : Policy) : List CNode := p.kind 2 ++ p.kind 1 ++ p.kind 0

/-! ### Limits (R245 to R247) -/

/-- The throttle factor latched for a node, 16 fraction bits: 1 where the node has no binding (R245). -/
def JugIn.factor (i : JugIn) (n : CNode) : Nat :=
  if n.therm = 0x7FFFFF then 65536 else ((i.f.find? fun x => x.1 = n.therm).map (·.2)).getD 65536

/-- An outlet's input; outlets are numbered from 1. -/
def JugIn.outlet (i : JugIn) (o : Nat) : OutletIn := if o = 0 then {} else i.outlets.getD (o - 1) {}
/-- A group's input. -/
def JugIn.group (i : JugIn) (g : Nat) : GroupIn := i.groups.getD g {}

/-- An unlimited value, beyond any sum of the hub. -/
def noLimit : Nat := 2 ^ 64

/-- P_MAX as a limit in 2^-16 W. -/
def CNode.p16 (n : CNode) (f : Nat) : Nat := if n.pMax = 0xFFFF then noLimit else n.pMax * 1000 * f
/-- P_MAX of a GROUP, OUTLET or CABLE node, which no factor scales, in 2^-16 W (R245). -/
def CNode.p16Plain (n : CNode) : Nat := if n.pMax = 0xFFFF then noLimit else n.pMax * 1000 * 65536
/-- I_MAX * f * V as a limit in 2^-16 W, V in 0.1 V. -/
def CNode.i16 (n : CNode) (f v : Nat) : Nat := if n.iMax = 0xFFFF then noLimit else n.iMax * f * v / 10

/-- The available power of an AFE node in 2^-16 W (R246). -/
def JugIn.afePower (i : JugIn) (n : CNode) : Nat :=
  match i.afes.find? fun x => x.1 = n.inst with
  | some (_, true, _) => n.p16 (i.factor n)
  | _ => 0

/-- The effective limit of a GRID, TRANSFORMER or BUS node in 2^-16 W (R245). -/
def Policy.limit16 (p : Policy) (i : JugIn) (n : CNode) : Nat :=
  let f := i.factor n
  if n.kind = 0 then
    let kw := min (if n.pMax = 0xFFFF then noLimit else n.pMax) (min i.importKw (i.curt.getD noLimit))
    kw * 1000 * f - i.aux * 1000 * 65536
  else if n.kind = 1 then n.p16 f
  else
    let v := ((i.vBus.find? fun x => x.1 = n.node).map (·.2)).getD 0
    let afe := (p.nodes.filter fun a => a.kind = 3 && a.parent = n.node).foldl (fun a x => a + i.afePower x) 0
    min (if n.pMax = 0xFFFF then noLimit else n.pMax * 1000 * 65536) (min (n.i16 f v) afe)

/-- The effective limit of a GROUP, OUTLET or CABLE node at a voltage, in W (R245). -/
def JugIn.limitAt (i : JugIn) (n : CNode) (v : Nat) : Nat := min n.p16Plain (n.i16 (i.factor n) v) / 65536

/-- The capacity of a converter group in W (R247). -/
def Policy.cap (p : Policy) (i : JugIn) (g : Nat) : Nat :=
  let x := i.group g
  match p.nodeFor 4 g with
  | none => 0
  | some n =>
    let busRuns := (p.nodes.filter fun a => a.kind = 3 && a.parent = n.parent).any fun a =>
      i.afes.any fun y => y.1 = a.inst && y.2.2
    if x.st = .attached && x.lawOk && busRuns && x.n ≠ 0 then i.limitAt n (i.outlet x.outlet).vo * x.h / x.n else 0

/-- The groups ATTACHED to an outlet, with their capacities. -/
def Policy.capsOf (p : Policy) (i : JugIn) (o : Nat) : List (Nat × Nat) :=
  (List.range 16).filterMap fun g =>
    let x := i.group g
    if x.st = .attached && x.outlet = o then some (g, p.cap i g) else none

/-- The sum of an outlet's group capacities. -/
def Policy.capSum (p : Policy) (i : JugIn) (o : Nat) : Nat := (p.capsOf i o).foldl (fun a x => a + x.2) 0

/-- 1 + LOSS/65 536. -/
def CNode.gain (n : CNode) : Rat := 1 + (n.loss : Rat) / 65536

/-- The coefficient of a node for an outlet, 16 fraction bits, rounded up (R244, R249, R254). -/
def Policy.coef (p : Policy) (i : JugIn) (n : CNode) (o : Nat) : Nat :=
  let caps := p.capsOf i o
  let sum : Nat := caps.foldl (fun a x => a + x.2) 0
  if sum = 0 then 0 else
  let x : Rat := caps.foldl (fun (a : Rat) (gc : Nat × Nat) => (
    match p.nodeFor 4 gc.1 with
    | none => a
    | some gn =>
      match p.nodes.find? fun b => b.node = gn.parent with
      | none => a
      | some bus =>
        let tr := (p.nodes.find? fun b => b.node = bus.parent).getD default
        let share : Rat := (gc.2 : Rat) / (sum : Rat) * gn.gain
        let here : Rat :=
          if n.kind = 2 then (if n.node = bus.node then share else 0)
          else if n.kind = 1 then (if n.node = tr.node then share * bus.gain else 0)
          else share * bus.gain * tr.gain
        a + here : Rat)) (0 : Rat)
  (x * 65536).ceil.toNat

/-! ### Requests and bounds (R253) -/

/-- What R253 forms for an outlet: request, ceiling, ramp bound, guarantee, in W. -/
structure Bounds where
  req : Nat := 0
  ceil : Nat := 0
  ramp : Nat := 0
  g : Nat := 0
  deriving DecidableEq, Repr, Inhabited

/-- The least of the OUTLET and CABLE limits of an outlet in W. -/
def Policy.outletLimit (p : Policy) (i : JugIn) (o : Nat) : Nat :=
  let v := (i.outlet o).vo
  match p.nodeFor 5 o with
  | none => noLimit
  | some n => ((p.nodes.filter fun c => c.kind = 6 && c.parent = n.node).map fun c => i.limitAt c v).foldl min (i.limitAt n v)

/-- R253 for an outlet whose ink current is `iInk` in 0.1 A. -/
def Policy.bounds (p : Policy) (i : JugIn) (o iInk : Nat) : Bounds :=
  let x := i.outlet o
  if !x.deliver then {} else
  let req := min x.pReq (x.iReq * x.vo / 100)
  let ramp := (iInk + p.rampUp o * 10) * x.vo / 100
  let g := if p.cls o = 2 then 0 else min (p.gKw o * 1000) (min req ramp)
  { req, ramp, g, ceil := if x.safety then 0 else min req (min (p.outletLimit i o) (p.capSum i o)) }

/-! ### The passes (R255, R256) -/

/-- The state of the passes: granted watts per outlet, room per limited node in 2^-16 W. -/
structure Fill where
  got : List Nat
  room : List Nat
  deriving DecidableEq, Repr, Inhabited

/-- One round of progressive filling over the active outlets (index, weight in 1/1 000); coef node by outlet (R256). -/
def fillRound (coef : List (List Nat)) (caps : List Nat) (st : Fill) (active : List (Nat × Nat)) :
    Fill × List (Nat × Nat) :=
  let own (o : Nat × Nat) : Nat := (caps.getD o.1 0 - st.got.getD o.1 0) * 65536 * 1000 / o.2
  let nodeTerm (k : Nat) : Option Nat :=
    let c := coef.getD k []
    let sum := active.foldl (fun a o => a + c.getD o.1 0 * o.2) 0
    if sum = 0 then none else some (st.room.getD k 0 * 65536 * 1000 / sum)
  let terms := (List.range coef.length).map nodeTerm
  let lam := terms.foldl (fun b t => match t with | some x => min b x | none => b)
    (active.foldl (fun b o => min b (own o)) noLimit)
  let d (o : Nat × Nat) : Nat := lam * o.2 / (65536 * 1000)
  let got := active.foldl (fun g o => g.set o.1 (g.getD o.1 0 + d o)) st.got
  let room := (List.range coef.length).map fun k =>
    st.room.getD k 0 - active.foldl (fun a o => a + (coef.getD k []).getD o.1 0 * d o) 0
  let keep (o : Nat × Nat) : Bool :=
    own o ≠ lam && !((List.range coef.length).any fun k =>
      (coef.getD k []).getD o.1 0 ≠ 0 && terms.getD k none = some lam)
  ({ got, room }, active.filter keep)

/-- The fill procedure: at most 64 rounds (R256). -/
def fillRounds (coef : List (List Nat)) (caps : List Nat) : Nat → Fill → List (Nat × Nat) → Fill
  | 0, st, _ => st
  | k + 1, st, active =>
    if active.isEmpty then st else
    let (st, active) := fillRound coef caps st active
    fillRounds coef caps k st active

/-- fill(set, wt, cap): `wt` gives each outlet's weight in 1/1 000, zero outside the set (R256). -/
def fill (coef : List (List Nat)) (caps : List Nat) (wt : List Nat) (st : Fill) : Fill :=
  fillRounds coef caps 65 st (((List.range 64).map fun o => (o, wt.getD o 0)).filter fun o =>
    0 < o.2 && st.got.getD o.1 0 < caps.getD o.1 0)

/-- The 64 outlets, numbered from 1. -/
def outletNos : List Nat := (List.range 64).map (· + 1)

/-- Coefficients of the limited nodes, by node and outlet. -/
def Policy.coefs (p : Policy) (i : JugIn) : List (List Nat) := p.limited.map fun n => outletNos.map (p.coef i n)

/-- What the passes give: granted watts, shortfalls after the guarantee passes, room left then. -/
structure Passes where
  got : List Nat
  short : List Nat
  room : List Nat
  deriving DecidableEq, Repr, Inhabited

/-- The passes of R255 from the latched inputs and the ink in force (P in W and I in 0.1 A per outlet). -/
def Policy.passes (p : Policy) (i : JugIn) (bs : List Bounds) (prev : List (Nat × Nat)) : Passes :=
  let coef := p.coefs i
  let b (o : Nat) : Bounds := bs.getD o {}
  let st : Fill := { got := List.replicate 64 0, room := p.limited.map (p.limit16 i) }
  let gCaps := (List.range 64).map fun o => min (b o).g (b o).ceil
  let cw (c : Nat) := (List.range 64).map fun o => if p.cls (o + 1) = c then (b o).g else 0
  let st := fill coef gCaps (cw 0) st
  let st := fill coef gCaps (cw 1) st
  let short := (List.range 64).map fun o => if p.cls (o + 1) = 2 then 0 else (b o).g - st.got.getD o 0
  let room := st.room
  let st := fill coef ((List.range 64).map fun o => (b o).ceil)
    ((List.range 64).map fun o => if (b o).ceil = 0 then 0 else p.weight (o + 1) * 1000) st
  let got := (List.range 64).map fun o => min (st.got.getD o 0) (max (b o).ramp (b o).g)
  let rise (o : Nat) : Nat := got.getD o 0 - max (prev.getD o (0, 0)).1 (b o).g
  let grid := (coef.getLastD [])
  let up := (List.range 64).foldl (fun a o => a + grid.getD o 0 * rise o) 0
  let ramp := p.gridRamp * 1000 * 65536
  let got := if 0 < ramp && ramp < up then
      (List.range 64).map fun o => got.getD o 0 - rise o + rise o * ramp / up
    else got
  { got, short, room }

/-! ### Shortfalls (R259, R260) -/

/-- CAUSE of a cut guarantee: safety pause, throttle below 1 on a binding node, another equipment limit, the GRID node
(R260). -/
def Policy.cause (p : Policy) (i : JugIn) (o : Nat) (b : Bounds) (room : List Nat) : Nat :=
  let x := i.outlet o
  if x.safety then 0 else
  let v := x.vo
  let own := p.nodes.filter fun n =>
    (n.kind = 5 && n.inst = o && i.limitAt n v < b.g) ||
    (n.kind = 6 && (p.nodeFor 5 o).any (fun q => q.node = n.parent) && i.limitAt n v < b.g) ||
    (n.kind = 4 && p.capSum i o < b.g && (i.group n.inst).st = .attached && (i.group n.inst).outlet = o)
  let above := (p.limited.mapIdx fun k n => (n, p.coef i n o, room.getD k 0)).filterMap fun q =>
    if q.2.1 ≠ 0 && q.2.2 < q.2.1 * 2 then some q.1 else none
  let bound := own ++ above
  if bound.any fun n => i.factor n < 65536 then 2
  else if (bound.any fun n => n.kind ≠ 0) || p.capSum i o < b.g then 1 else 3

/-- Duration of a half-turn in us at a Carousel frequency in 2^-32 Hz, rounded to the nearest (Table 7.3). -/
def halfTurnUs (freq : Nat) : Nat := (2 ^ 32 * 1000000 + freq) / (2 * freq)

/-- The shortfall increments of an allocation (R259). -/
def Policy.shorts (p : Policy) (i : JugIn) (bs : List Bounds) (short room : List Nat) (clamp : Bool) (freq : Nat) :
    List Shortfall :=
  outletNos.filterMap fun o =>
    let w := short.getD (o - 1) 0
    if w = 0 || p.cls o = 2 then none
    else some { ctx := (i.outlet o).ctx, outlet := o, cls := p.cls o, cause := p.cause i o (bs.getD (o - 1) {}) room
                clamp, watts := w, durUs := halfTurnUs freq }

/-! ### Ink content (R271) -/

/-- I_SET of the groups, V_LIM, from the outlet currents (Table 7.6). V_LIM is bounded by `cap` (R264). -/
def Policy.groupInk (p : Policy) (i : JugIn) (cur : List Nat) (cap : Option (List (Nat × Nat))) : List (Nat × Nat) :=
  (List.range 16).map fun g =>
    let x := i.group g
    if x.st = .attached || x.st = .draining then
      let o := x.outlet
      let sum := p.capSum i o
      let iSet := if x.st = .attached && sum ≠ 0 then cur.getD (o - 1) 0 * p.cap i g / sum else 0
      let v := min (i.outlet o).vMax (((p.nodeFor 5 o).map (·.vRated)).getD 0)
      (iSet, match cap with | some l => min v (l.getD g (0, 0)).2 | none => v)
    else (0, 0)

/-- A bus is held: one of its groups is not FREE, or BUS_IDLE_OFF = 0 (R271). -/
def Policy.held (p : Policy) (i : JugIn) (bus : CNode) : Bool :=
  !p.busIdleOff || (p.nodes.any fun n => n.kind = 4 && n.parent = bus.node && (i.group n.inst).st ≠ .free)

/-- The load of each limited node for outlet powers, in 2^-16 W (R244). -/
def Policy.loads (p : Policy) (i : JugIn) (got : List Nat) : List (Nat × Nat) :=
  p.limited.map fun n => (n.node, outletNos.foldl (fun a o => a + p.coef i n o * got.getD (o - 1) 0) 0)

/-- I_D_LIM and I_Q_SET of the AFE units, LEG_GROUP 16 to 42, in 0.1 A (Table 7.6). -/
def Policy.afeInk (p : Policy) (i : JugIn) (loads : List (Nat × Nat)) : List (Int × Int) :=
  (List.range 27).map fun k =>
    match p.nodeFor 3 (16 + k) with
    | none => (0, 0)
    | some n =>
      match p.nodes.find? fun b => b.node = n.parent with
      | none => (0, 0)
      | some bus =>
        if !p.held i bus then (0, 0) else
        let avail := (p.nodes.filter fun a => a.kind = 3 && a.parent = bus.node).foldl (fun a x => a + i.afePower x) 0
        let load : Nat := ((loads.find? fun x => x.1 = bus.node).map (·.2)).getD 0
        let floor_ : Rat := (p.idFloor : Rat) / 256
        let frac : Rat := if avail = 0 then floor_ else
          max floor_ (min 1 ((load : Rat) * bus.gain * (1 + (p.afeHead : Rat) / 256) / (avail : Rat)))
        let iMax : Rat := (n.iMax : Rat) * 10
        ((iMax * ((i.factor n : Rat) / 65536) * frac).floor, (iMax * (p.qFrac : Rat) / 32768).floor)

/-! ### Matrix decisions (R276, R277) -/

/-- The rated capacity of a group at an outlet's voltage in W (R276). -/
def Policy.rated (p : Policy) (i : JugIn) (g v : Nat) : Nat :=
  let x := i.group g
  match p.nodeFor 4 g with
  | none => 0
  | some n => if x.n = 0 then 0 else i.limitAt n v * x.healthy / x.n

/-- A group may move: 50 half-turns since its last inked decision (R277). -/
def GroupIn.mayMove (x : GroupIn) (half : Nat) : Bool :=
  match x.decidedHalf with | none => true | some k => k + 50 ≤ half

/-- A group can reach an outlet (REACH). -/
def Policy.reaches (p : Policy) (g o : Nat) : Bool :=
  match p.nodeFor 4 g with
  | none => false
  | some n => (n.reach >>> (o - 1)) % 2 = 1

/-- One outlet's decision, given those made before it (R276). -/
def Policy.decide (p : Policy) (i : JugIn) (bs : List Bounds) (made : List MatrixDecision) (o : Nat) :
    List MatrixDecision :=
  let x := i.outlet o
  let none_ (g : Nat) : Bool := made.getD g .none = .none
  let att := (List.range 16).filter fun g => (i.group g).st = .attached && (i.group g).outlet = o
  let closing := (List.range 16).filter fun g => (i.group g).st = .closing && (i.group g).outlet = o
  let freeG := (List.range 16).find? fun g =>
    (i.group g).st = .free && none_ g && p.reaches g o && (i.group g).mayMove i.half
  let b := bs.getD (o - 1) {}
  let margin := p.growMargin * 1000
  let sum (l : List Nat) := l.foldl (fun a g => a + p.rated i g x.vo) 0
  let want := min b.req (p.outletLimit i o)
  if !x.deliver then
    att.foldl (fun m g => if none_ g && (i.group g).mayMove i.half then m.set g .release else m) made
  else
    let grow := (att ++ closing).isEmpty || sum (att ++ closing) + margin < want
    if grow then
      match freeG with
      | some g => made.set g (.attach o)
      | none =>
        if p.cls o = 2 then made else
        let can (q g : Nat) : Bool :=
          (i.group g).st = .attached && (i.group g).outlet = q && none_ g && p.reaches g o && (i.group g).mayMove i.half
        let held (q : Nat) : Nat := (List.range 16).countP fun g => (i.group g).st = .attached && (i.group g).outlet = q
        let count (q : Nat) : Nat := held q + (List.range 16).countP fun g => (i.group g).st = .closing && (i.group g).outlet = q
        let victims (c : Nat) : List Nat := outletNos.filter fun q =>
          q ≠ o && p.cls q = c && 1 < held q && (List.range 16).any (can q)
        let best (l : List Nat) : Option Nat := l.foldl (fun a q =>
          match a with | none => some q | some z => if count z ≤ count q then some q else some z) none
        let victim := match best (victims 2) with
          | some q => some q
          | none => if p.cls o = 0 then best (victims 1) else none
        match victim with
        | none => made
        | some q =>
          match ((List.range 16).filter (can q)).getLast? with
          | some g => made.set g .release
          | none => made
    else
      match att.getLast? with
      | some last =>
        if b.req + margin < sum att - p.rated i last x.vo && none_ last && (i.group last).mayMove i.half then
          made.set last .release
        else made
      | none => made

/-- All decisions of a pencil: outlets by class and number (R276). -/
def Policy.matrix (p : Policy) (i : JugIn) (bs : List Bounds) : List MatrixDecision :=
  (([0, 1, 2] : List Nat).flatMap fun c => outletNos.filter fun o => p.cls o = c).foldl (p.decide i bs)
    (List.replicate 16 .none)

/-! ### Pencil and clamp ink -/

/-- The bounds of all outlets under an ink. -/
def Policy.allBounds (p : Policy) (i : JugIn) (prev : List (Nat × Nat)) : List Bounds :=
  outletNos.map fun o => p.bounds i o (prev.getD (o - 1) (0, 0)).2

/-- W and 0.1 V to 0.1 A, rounded down (R249). -/
def amps (w v : Nat) : Nat := w * 100 / v

/-- The pencil (R253 to R260, R271, R276). -/
def Policy.pencil (p : Policy) (i : JugIn) (prev : Alloc) (freq : Nat) : Alloc :=
  let bs := p.allBounds i prev.outlets
  let r := p.passes i bs prev.outlets
  let cur := outletNos.map fun o => amps (r.got.getD (o - 1) 0) (i.outlet o).vo
  let loads := p.loads i r.got
  { outlets := r.got.zip cur, g := bs.map (·.g), groups := p.groupInk i cur none, afes := p.afeInk i loads, matrix := p.matrix i bs
    shorts := p.shorts i bs r.short r.room false freq, loads, clamp := false }

/-- One layer of a clamp at a node: every outlet's amount takes the same factor (R263). -/
def clampLayer (coef : List Nat) (limit : Nat) (layer : List Nat) (w : List Nat) : List Nat :=
  let load := (List.range 64).foldl (fun a o => a + coef.getD o 0 * w.getD o 0) 0
  if load ≤ limit then w else
  let part := (List.range 64).foldl (fun a o => a + coef.getD o 0 * layer.getD o 0) 0
  let excess := load - limit
  (List.range 64).map fun o =>
    if coef.getD o 0 = 0 then w.getD o 0
    else
      let l := layer.getD o 0
      w.getD o 0 - l + (if excess < part then l * (part - excess) / part else 0)

/-- One node of a clamp: the power above the guarantees, then class B guarantees, then class A (R263). -/
def Policy.clampNode (p : Policy) (g : List Nat) (limit : Nat) (coef : List Nat) (w : List Nat) : List Nat :=
  let above (w : List Nat) := (List.range 64).map fun o => w.getD o 0 - g.getD o 0
  let cls (c : Nat) (w : List Nat) := (List.range 64).map fun o =>
    if p.cls (o + 1) = c then min (w.getD o 0) (g.getD o 0) else 0
  let w1 := clampLayer coef limit (above w) w
  let w2 := clampLayer coef limit (cls 1 w1) w1
  clampLayer coef limit (cls 0 w2) w2

/-- Clamp ink from the current inputs and the present ink (R263, R264). -/
def Policy.clampInk (p : Policy) (i : JugIn) (prev : Alloc) (freq : Nat) : Alloc :=
  let bs := p.allBounds i prev.outlets
  let g := outletNos.map fun o =>
    let b := bs.getD (o - 1) {}
    if p.cls o = 2 then 0 else min (p.gKw o * 1000) b.req
  let w0 := (List.range 64).map fun o => min (prev.outlets.getD o (0, 0)).1 (bs.getD o {}).ceil
  let coefs := p.coefs i
  let w := (p.limited.zip coefs).foldl (fun w nc => p.clampNode g (p.limit16 i nc.1) nc.2 w) w0
  let cur := outletNos.map fun o =>
    min (prev.outlets.getD (o - 1) (0, 0)).2 (amps (w.getD (o - 1) 0) (i.outlet o).vo)
  let loads := p.loads i w
  let room := (p.limited.zip coefs).map fun nc =>
    p.limit16 i nc.1 - (List.range 64).foldl (fun a o => a + nc.2.getD o 0 * w.getD o 0) 0
  let short := (List.range 64).map fun o => g.getD o 0 - w.getD o 0
  let bs' := (List.range 64).map fun o => { bs.getD o {} with g := g.getD o 0 }
  { outlets := w.zip cur, g, groups := p.groupInk i cur (some prev.groups), afes := p.afeInk i loads
    matrix := List.replicate 16 .none, shorts := p.shorts i bs' short room true freq, loads, clamp := true }

/-! ### The ink-point comparison (R251, R262) -/

/-- `now` is lower than `then_` by more than TOL/256 of `then_`. -/
def lower (tol then_ now : Nat) : Bool := tol * then_ < (then_ - now) * 256

/-- The inputs tightened beyond their tolerance, as pairs of input code and index: 0 request, 1 V_MAX, 2 session or pause, 3
V_o, 4 v_bus, 5 factor, 6 group, 7 AFE unit, 8 curtailment, 9 IMPORT_KW, 10 AUX_RESERVE (R251, Table 7.2). -/
def Policy.tightened (p : Policy) (a b : JugIn) : List (Nat × Nat) :=
  (outletNos.flatMap fun o =>
    let x := a.outlet o
    let y := b.outlet o
    (if lower p.tolReq x.pReq y.pReq || lower p.tolReq x.iReq y.iReq then [(0, o)] else []) ++
    (if y.vMax < x.vMax then [(1, o)] else []) ++
    (if (x.deliver && !y.deliver) || (!x.safety && y.safety) then [(2, o)] else []) ++
    (if p.tolV * x.vo < (y.vo - x.vo) * 256 then [(3, o)] else [])) ++
  (a.vBus.filterMap fun x => match b.vBus.find? fun y => y.1 = x.1 with
    | some y => if lower p.tolV x.2 y.2 then some (4, x.1) else none
    | none => none) ++
  (a.f.filterMap fun x => match b.f.find? fun y => y.1 = x.1 with
    | some y => if p.tolTherm * 256 < x.2 - y.2 then some (5, x.1) else none
    | none => none) ++
  ((List.range 16).filterMap fun g =>
    let x := a.group g
    let y := b.group g
    if x.st = .attached && (y.st ≠ .attached || (x.lawOk && !y.lawOk) || y.h < x.h) then some (6, g) else none) ++
  (a.afes.filterMap fun x => match b.afes.find? fun y => y.1 = x.1 with
    | some y => if (x.2.1 && !y.2.1) || (x.2.2 && !y.2.2) then some (7, x.1) else none
    | none => none) ++
  (match a.curt, b.curt with
    | none, some _ => [(8, 0)]
    | some x, some y => if lower p.tolGrid x y then [(8, 0)] else []
    | _, none => []) ++
  (if lower p.tolGrid a.importKw b.importKw then [(9, 0)] else []) ++
  (if p.tolGrid * a.aux < (b.aux - a.aux) * 256 then [(10, 0)] else [])

end Sys2Proof.Machine
end

