-- ==== Sys2Proof/Machine/Juggler.lean ====
section
/-!
DEFINITION. The Juggler's state (chapter 7): curtailment sources, the matrix states of Table 7.8, the latch, the ink point and
the ink switch. The inputs of Table 7.2 are gathered in Inputs.lean and passed in here.
-/
namespace Sys2Proof.Machine

open Sys2Proof.Config

/-- The Juggler changed. -/
def State.modJug (s : State) (f : Juggler → Juggler) : State := { s with juggler := f s.juggler }

/-- One group's matrix state changed. -/
def State.modMatrix (s : State) (g : Nat) (f : Matrix → Matrix) : State :=
  s.modJug fun j => { j with matrix := vmapIdx (fun i x => if i = g then f x else x) j.matrix }

/-- A group's matrix state. -/
def State.matrix (s : State) (g : Nat) : Matrix := vget s.juggler.matrix g {}

/-! ### Curtailment (R272 to R275) -/

/-- What a source contributes, in kW; none for no limit (R272). -/
def Policy.contribution (p : Policy) (c : CurtSrc) : Option Nat :=
  match c.st with
  | .lifted => none
  | .active => c.value
  | .silent =>
    if p.curtFallback = 0xFFFF then c.value
    else some (match c.value with | some v => min v p.curtFallback | none => p.curtFallback)

/-- The lesser of two limits, none being no limit. -/
def minLimit : Option Nat → Option Nat → Option Nat
  | none, y => y
  | x, none => x
  | some x, some y => some (min x y)

/-- An optional number as an event value, -1 for none. -/
def optVal : Option Nat → Int
  | none => -1
  | some n => n

/-- The effective curtailment is formed again; CURTAILMENT is raised where it changes (R272, R286). -/
def State.recurtail (s : State) (src : Int) : State :=
  let p := s.policy
  let e := minLimit (p.contribution s.juggler.curtObj) (p.contribution s.juggler.curtCan)
  if e = s.juggler.effective then s
  else (s.modJug fun j => { j with effective := e }).raise .curtailment [optVal s.juggler.effective, optVal e, src]

/-- A write of LIMIT_KW and VALID_S to the object source (R273): also a lifting write falls silent after a validity that is not zero. -/
def State.writeCurt (s : State) (limitKw validS : Nat) : State :=
  let lift := limitKw = 0xFFFFFFFF
  (s.modJug fun j =>
    { j with curtObj :=
      { st := if lift then .lifted else .active, value := if lift then none else some limitKw
        expiry := if validS = 0 then none else some (s.time.clock + validS * ticksPerSec) } }).recurtail 0

/-- A grid command takes effect (R273, R275, Table 7.7): every valid frame refreshes the CAN source. -/
def State.takeGrid (s : State) (chan : CanNo) (payload : BitVec 64) : State :=
  let p := s.policy
  let v := payload.toNat
  let limit := v / 2 ^ 32
  if p.curtCanEn && chan.val = p.curtCan && v / 256 % 256 = 1 then
    (s.modJug fun j =>
      { j with curtCan :=
        { st := if limit = 0xFFFFFFFF then .lifted else .active
          value := if limit = 0xFFFFFFFF then none else some limit
          expiry := some (s.time.clock + p.curtTimeout), seq := v / 65536 % 65536 } }).recurtail 1
  else s

/-- GRID_COMMAND (R273, R275, Table 7.7). -/
def execGridCommand (t : Nat) (chan : CanNo) (payload : BitVec 64) (s : State) : Out :=
  .next ((s.advance t).submit (.gridCommand chan payload) (·.takeGrid chan payload))

/-- A curtailment source. -/
def State.curtSrc (s : State) : CurtSource → CurtSrc
  | .object => s.juggler.curtObj
  | .can => s.juggler.curtCan

/-- A curtailment source falls silent (R272, R273). -/
def State.fallSilent (s : State) (src : CurtSource) : State :=
  let c' : CurtSrc := { s.curtSrc src with st := .silent, expiry := none }
  let n : Int := match src with | .object => 0 | .can => 1
  if (s.curtSrc src).st = .silent then s else
  ((s.modJug fun j => match src with
    | .object => { j with curtObj := c' }
    | .can => { j with curtCan := c' }).raise .curtSilent [n, optVal (s.policy.contribution c')]).recurtail n

/-- CURT_SILENT (R273): the validity of the object source, or the timeout of the CAN source, has expired, in service. A refresh in
the expiry tick is in time (R47). -/
def execCurtSilent (t : Nat) (src : CurtSource) (s : State) : Out :=
  let s := s.advance t
  let due := match (s.curtSrc src).expiry with | some e => s.expired e 0 | none => false
  .next (if s.startup.mode = .service && due && (s.curtSrc src).st ≠ .silent && (src = .object || s.policy.curtCanEn) then
    s.submit (.curtSilent src) (·.fallSilent src)
  else s)

/-- The sources at service start: the object source as kept in MRAM with its remaining validity, the CAN source SILENT with
no value where enabled, LIFTED otherwise (R274). Between power-down and service start `expiry` holds the remaining ticks. -/
def State.curtService (s : State) : State :=
  (s.modJug fun j =>
    { j with
      curtObj := { j.curtObj with expiry := j.curtObj.expiry.map (· + s.time.clock) }
      curtCan := if s.policy.curtCanEn then { st := .silent } else {} }).recurtail 0

/-- A revision that sets CURT_CAN_EN starts the CAN source SILENT, one that clears it lifts it; with another CURT_TIMEOUT the
silence timeout counts on from the last command received (R274, log 122). `was` is the policy before. -/
def State.curtRevision (s : State) (was : Policy) : State :=
  let p := s.policy
  (s.modJug fun j => { j with curtCan :=
    if p.curtCanEn && !was.curtCanEn then { st := .silent }
    else if !p.curtCanEn then {}
    else { j.curtCan with expiry := j.curtCan.expiry.map fun e => e + p.curtTimeout - was.curtTimeout } }).recurtail 1

/-! ### The matrix (R276 to R279, R733) -/

/-- MFAULT is entered: causes 0 timeout, 1 status fault, 2 wrong outlet, 3 opened, 4 not drained (MATRIX_FAULT). -/
def State.matrixFault (s : State) (g : Nat) (cause : Int) : State :=
  let m := s.matrix g
  let left : Int := match m.st with
    | .free => 0 | .closing => 1 | .attached => 2 | .draining => 3 | .opening => 4 | .mfault => 5
  (s.modMatrix g fun m => { m with st := .mfault, cmd := none }).raise .matrixFault [g, left, cause]

/-- A contactor command waits for the group's slot, with the next SEQ (R278, R279). -/
def Matrix.command (m : Matrix) (op outlet now : Nat) : Matrix :=
  let q := (m.seq + 1) % 256
  { m with seq := q, cmd := some (op, outlet, q), cmdAt := now }

/-- The payload of a contactor command: OP, OUTLET, SEQ, CHECK (Table 7.9). -/
def ctrPayload (c : Nat × Nat × Nat) : W32 :=
  let op := BitVec.ofNat 8 c.1
  let o := BitVec.ofNat 8 c.2.1
  let q := BitVec.ofNat 8 c.2.2
  op ++ o ++ q ++ (op ^^^ o ^^^ q ^^^ 0xA5#8)

/-- The inked decision of one group takes effect (R276 to R278). -/
def State.applyDecision (s : State) (g : Nat) (d : MatrixDecision) : State :=
  let m := s.matrix g
  match d, m.st with
  | .attach o, .free =>
    s.modMatrix g fun m => { (m.command 1 o s.time.clock) with
      st := .closing, outlet := o, decidedHalf := some s.carousel.half, decidedStamp := s.stamp }
  | .release, .attached =>
    s.modMatrix g fun m => { m with
      st := .draining, drainLatches := 0, decidedHalf := some s.carousel.half, decidedStamp := s.stamp }
  | _, _ => s

/-- The output current of a group in 0.1 A from the latest result of its law, or none where R733 finds no measurement: the
channel lost, no result committed in the half-turn before the latch. -/
def State.groupCurrent (s : State) (g : Nat) : Option Nat :=
  match s.lawOf g with
  | none => none
  | some l =>
    let w := s.law l
    let chan := (s.inputs l).headD (0, false, 0)
    let fresh := match w.lastStroke with
      | some k => decide ((s.carousel.half - 1) * (s.nStrokes / 2) ≤ k)
      | none => false
    if vget s.laws.lost chan.1 false || w.causes.contains .frozen || !fresh then none
    else match w.vecs[1]? with
      | some v => some (bfVal (v.1.getD 0 0, v.2) * 10).abs.floor.toNat
      | none => none

/-- A DRAINING group at a latch: the open command once its law is not RUNNING and its current is below I_OPEN, a fault after
the latch of entry and four more (Table 7.8, R733). -/
def State.drainLatch (s : State) (g : Nat) : State :=
  let m := s.matrix g
  if m.st ≠ .draining then s else
  let idle := match s.lawOf g with | some l => (s.law l).st ≠ .running | none => true
  let low := match s.groupCurrent g with | some i => i < s.policy.iOpen | none => false
  if idle && low then s.modMatrix g fun m => { (m.command 2 m.outlet s.time.clock) with st := .opening }
  else if 4 ≤ m.drainLatches then s.matrixFault g 4
  else s.modMatrix g fun m => { m with drainLatches := m.drainLatches + 1 }

/-- A contactor status takes effect (R278, R279, R629, R733): one with a good CHECK moves its group, and ends the command whose SEQ it
shows. -/
def State.takeContactor (s : State) (g : ConvNo) (payload : W32) : State :=
  let b (i : Nat) : Nat := payload.toNat / 2 ^ (8 * i) % 256
  let check := (payload.extractLsb' 24 8) ^^^ (payload.extractLsb' 16 8) ^^^ (payload.extractLsb' 8 8) ^^^ 0xA5#8
  if check ≠ payload.extractLsb' 0 8 then
    s.modMatrix g.val fun m => { m with checkFails := m.checkFails + 1 }
  else
    let st := b 3
    let o := b 2
    let q := b 1
    let m := s.matrix g.val
    let s := s.modMatrix g.val fun m =>
      { m with
        status := some { state := st, outlet := o, seq := q, time := s.time.clock }
        cmd := if q = m.seq then none else m.cmd }
    let other := st = 1 && o ≠ m.outlet
    match m.st with
    | .closing =>
      if st = 1 && o = m.outlet && q = m.seq then
        (s.modMatrix g.val fun m => { m with st := .attached, cmd := none }).raise .groupAttached [g.val, m.outlet]
      else if st = 0x80 then s.matrixFault g.val 1
      else if other then s.matrixFault g.val 2
      else s
    | .attached | .draining =>
      if st = 0 then s.matrixFault g.val 3
      else if st = 0x80 then s.matrixFault g.val 1
      else if other then s.matrixFault g.val 2
      else s
    | .opening =>
      if st = 0 && q = m.seq then
        (s.modMatrix g.val fun m => { m with st := .free, outlet := 0, cmd := none }).raise .groupReleased [g.val, m.outlet]
      else if st = 0x80 then s.matrixFault g.val 1
      else s
    | _ => s

/-- CONTACTOR_STATUS (R278, R279, R629). -/
def execContactorStatus (t : Nat) (g : ConvNo) (payload : W32) (s : State) : Out :=
  .next ((s.advance t).submit (.contactorStatus g payload) (·.takeContactor g payload))

/-- MATRIX_TO has passed without the status that a group's state asks for (Table 7.8): the expected one in CLOSING and OPENING, any in
ATTACHED and DRAINING; a status in the expiry tick is in time (R47). -/
def State.matrixLate (s : State) (g : Nat) : Bool :=
  let m := s.matrix g
  match m.st with
  | .closing | .opening => s.expired m.cmdAt s.policy.matrixTo
  | .attached | .draining =>
    s.expired (match m.status with | some x => max x.time m.cmdAt | none => m.cmdAt) s.policy.matrixTo
  | _ => false

/-- The decision of MATRIX_TIMEOUT takes effect, where the group still waits (Table 7.8). -/
def State.matrixExpired (s : State) (g : Nat) : State := if s.matrixLate g then s.matrixFault g 0 else s

/-- MATRIX_TIMEOUT (Table 7.8). -/
def execMatrixTimeout (t : Nat) (g : ConvNo) (s : State) : Out :=
  let s := s.advance t
  .next (if s.matrixLate g.val then s.submit (.matrixTimeout g) (·.matrixExpired g.val) else s)

/-! ### Latch, pencil, ink point, ink switch -/

/-- An allocation enters the allocation log, tagged as a pencil or as ink (Table 4.7, Table 7.12). -/
def State.logAlloc (s : State) (pencil : Bool) (a : Option Alloc) : State :=
  match a with
  | some a => s.modJug fun j => { j with log := ((s.stamp, pencil, a) :: j.log).take allocLogDepth }
  | none => s

/-- A P1 task is released: its pencil follows from the latched inputs, the ink, the records and the Carousel's frequency as they
stand now (R119, R261). -/
def State.pencilWork (s : State) : State :=
  match s.juggler.latch with
  | some i => s.modJug fun j => { j with pencil := none, work := some (s.policy.pencil i j.ink s.carousel.freq) }
  | none => s

/-- The pencil of this half-turn has been computed (R261): the P1 task has retired. -/
def State.commitPencil (s : State) : State :=
  if s.juggler.pointDone then s
  else (s.modJug fun j => { j with pencil := j.work }).logAlloc true s.juggler.work

/-- GUARANTEE_CUT is raised for the guarantees first cut in a session (Table 7.15). -/
def State.guaranteeCuts (s : State) (a : Alloc) : State :=
  a.shorts.foldl (fun s x =>
    if vget s.juggler.cutRaised (x.outlet - 1) false then s
    else (s.modJug fun j => { j with cutRaised := vput j.cutRaised (x.outlet - 1) true }).raise
      .guaranteeCut [x.outlet, x.cls, x.cause]) s

/-- The phase in phase units at which the ink point of the half-turn in progress lies. -/
def State.inkPhase (s : State) : Nat := s.carousel.half * halfUnits + s.policy.inkArc * arcUnits

/-- The lesser of two inks value by value, without matrix decisions (R602). -/
def Alloc.lesser (a : Alloc) (x : InkVals) : Alloc :=
  let min2 (u v : Nat × Nat) : Nat × Nat := (min u.1 v.1, min u.2 v.2)
  let q (u v : Int) : Int := if u * v < 0 then 0 else if u.natAbs ≤ v.natAbs then u else v
  { a with
    outlets := a.outlets.mapIdx fun k u => min2 u (x.outlets.getD k u)
    groups := a.groups.mapIdx fun k u => min2 u (x.groups.getD k u)
    afes := a.afes.mapIdx fun k u => let v := x.afes.getD k u; (min u.1 v.1, q u.2 v.2)
    matrix := List.replicate 16 .none }

/-- The lesser of two inks during a divergence test (R602), shortfalls formed anew from the resulting values. `i` are the inputs the
module's own ink was computed from. -/
def Policy.mergeInk (p : Policy) (i : JugIn) (prev a : Alloc) (x : InkVals) (freq : Nat) : Alloc :=
  let m := a.lesser x
  let w := m.outlets.map (·.1)
  let bs := (p.allBounds i prev.outlets).mapIdx fun k (b : Bounds) =>
    if a.clamp then { b with g := if p.cls (k + 1) = 2 then 0 else min (p.gKw (k + 1) * 1000) b.req } else b
  let loads := p.loads i w
  let room := p.limited.mapIdx fun k n => p.limit16 i n - (loads.getD k (0, 0)).2
  let short := (List.range 64).map fun o => (bs.getD o {}).g - w.getD o 0
  { m with g := bs.map (·.g), shorts := p.shorts i bs short room a.clamp freq, loads }

/-- Ink is written for the next half-turn (R265): in a divergence test the holder's is the lesser of it and the standby's, and the
journal carries it (R602). -/
def State.writeInk (s : State) (i : JugIn) (a : Alloc) (other : Option InkVals) : State :=
  let a := match s.pair.diverge, other with
    | some _, some x => s.policy.mergeInk i s.juggler.ink a x s.carousel.freq
    | _, _ => a
  let s := match s.pair.diverge with
    | some d => { s with pair := { s.pair with diverge := some { d with inked := true } } }
    | none => s
  let s := ((s.modJug fun j => { j with nextInk := some a, pointDone := true }).logAlloc false (some a)).guaranteeCuts a
  match s.pair.st, s.pair.diverge, other with
  | .holder, some _, some _ => s.journal (.ink { outlets := a.outlets, groups := a.groups, afes := a.afes })
  | _, _, _ => s

/-- The holder's ink of a divergence test takes effect on both modules (R602): it is the lesser of both already. -/
def State.takeInk (s : State) (x : InkVals) : State :=
  s.modJug fun j => { j with nextInk := j.nextInk.map fun a => if s.pair.diverge.isSome then a.lesser x else a }

/-- The ink point with the inputs as they stand (R262 to R268): the pencil is inked, or clamp ink is computed. PENCIL_LATE carries
the arcs passed since the ink point (log 147). -/
def State.inkPoint (s : State) (now : JugIn) (other : Option InkVals) : State :=
  match s.juggler.latch with
  | none => s
  | some latch =>
    if s.juggler.pointDone then s else
    let s := s.modCar fun c => { c with phase := max c.phase s.inkPhase }
    let p := s.policy
    let tight := p.tightened latch now
    let clamp := p.clampInk now s.juggler.ink s.carousel.freq
    match s.juggler.pencil with
    | some a =>
      if tight.isEmpty then s.writeInk latch a other
      else
        ((s.modJug fun j => { j with clampInks := j.clampInks + 1 }).raise
          .inkClamp (tight.flatMap fun x => [(x.1 : Int), (x.2 : Int)])).writeInk now clamp other
    | none =>
      ((s.modJug fun j => { j with clampInks := j.clampInks + 1, pencilLate := j.pencilLate + 1 }).raise
        .pencilLate [((s.stamp % 32768 - p.inkArc : Nat) : Int)]).writeInk now clamp other

/-- An outlet draws its power through a node of the tree, as the groups stand attached in `i` (R244, Table 7.1). -/
def Policy.under (p : Policy) (i : JugIn) (n : CNode) (o : Nat) : Bool :=
  match n.kind with
  | 3 => (p.nodes.find? fun b => b.node = n.parent).any fun b => p.coef i b o ≠ 0
  | 4 => (i.group n.inst).st = .attached && (i.group n.inst).outlet = o
  | 5 => n.inst = o
  | 6 => (p.nodeFor 5 o).any fun q => q.node = n.parent
  | _ => p.coef i n o ≠ 0

/-- The ink where clamp ink has not retired by the boundary: zero on the outlets whose inputs, or those of a node above them,
tightened, the previous ink elsewhere (R268). The guarantee of an outlet set to zero falls short in full, as under clamp ink (log
146). -/
def Policy.lateInk (p : Policy) (latch now : JugIn) (prev : Alloc) (freq : Nat) : Alloc × List Nat :=
  let tight := p.tightened latch now
  let hit (o : Nat) : Bool := tight.any fun x =>
    if x.1 ≤ 3 then x.2 = o
    else if x.1 = 4 then p.nodes.any fun n => n.node = x.2 && p.under latch n o
    else if x.1 = 5 then p.nodes.any fun n => n.therm = x.2 && p.under latch n o
    else if x.1 = 6 then (latch.group x.2).outlet = o
    else if x.1 = 7 then (p.nodeFor 3 x.2).any fun n => p.under latch n o
    else (p.kind 0).any fun n => p.under latch n o
  let zero := outletNos.filter hit
  let outlets := (List.range 64).map fun k => if zero.contains (k + 1) then (0, 0) else prev.outlets.getD k (0, 0)
  let bs := outletNos.map fun o =>
    let b := p.bounds now o 0
    { b with g := if p.cls o = 2 then 0 else min (p.gKw o * 1000) b.req }
  let short := outletNos.map fun o => if zero.contains o then (bs.getD (o - 1) {}).g else 0
  ({ prev with
    outlets
    groups := (List.range 16).map fun g => if zero.contains (latch.group g).outlet then (0, (prev.groups.getD g (0, 0)).2)
      else prev.groups.getD g (0, 0)
    matrix := List.replicate 16 .none
    loads := p.loads latch (outlets.map (·.1))
    shorts := (prev.shorts.filter fun x => !zero.contains x.outlet) ++
      p.shorts now bs short (p.limited.map (p.limit16 now)) true freq }, zero)

/-- The ink switch at a half-turn boundary (R265, R268): the ink written takes effect, with its matrix decisions. -/
def State.inkSwitch (s : State) (now : JugIn) : State :=
  let (a, s) := match s.juggler.nextInk, s.juggler.latch with
    | some a, _ => (a, s)
    | none, some latch =>
      let (a, zero) := s.policy.lateInk latch now s.juggler.ink s.carousel.freq
      (a, (s.modJug fun j => { j with clampLate := j.clampLate + 1 }).raise .clampLate (zero.map fun o => (o : Int)))
    | none, none => ({ s.juggler.ink with matrix := List.replicate 16 .none, shorts := [] }, s)
  let s := s.modJug fun j =>
    { j with ink := a, nextInk := none, pencil := none, pointDone := false, halfTurns := j.halfTurns + 1
             inkStamp := s.stamp }
  (List.range 16).foldl (fun s g => s.applyDecision g (a.matrix.getD g .none)) s

/-- The latch at a half-turn boundary (R250), with the DRAINING groups judged (R733). -/
def State.latchInputs (s : State) (now : JugIn) : State :=
  let s := s.modJug fun j => { j with latch := some now }
  (List.range 16).foldl State.drainLatch s

/-- The ink of a law in A and V (R213, Table 6.4). -/
def State.inkFor (s : State) (l : Nat) : Rat × Rat :=
  let g := s.lawGroup l
  if s.lawAfe l then
    let x := s.juggler.ink.afes.getD (g - 16) (0, 0)
    ((x.1 : Rat) / 10, (x.2 : Rat) / 10)
  else
    let x := s.juggler.ink.groups.getD g (0, 0)
    ((x.1 : Rat) / 10, (x.2 : Rat) / 10)

end Sys2Proof.Machine
end

