-- ==== Sys2Proof/Machine/Thermal.lean ====
section
/-!
DEFINITION. The thermal model (chapter 8): its records, the expansion of R296, the integration of R301 in exact arithmetic,
tiers, limits, sensors and cooling demands. Temperatures are rationals in degC; LOG codes are powers of two taken with 64
fraction bits (log 14).
-/
namespace Sys2Proof.Machine

open Sys2Proof.Config

/-! ### Codes and records -/

/-- 2^(2^j / 2048) for j = 0 to 10, with 64 fraction bits (log 14). -/
def exp2Table : List Nat :=
  [18452988445124272033, 18459234930309000272, 18471734244850835106, 18496758270674070881, 18546908069882975960,
   18647615946650685159, 18850675170876015534, 19263451207323153962, 20116317054877281742, 21936999301089678047,
   26087635650665564425]

/-- 2^(r / 2048) for r below 2048. -/
def exp2Frac (r : Nat) : Rat :=
  (((List.range 11).foldl (fun a j => if r / 2 ^ j % 2 = 1 then a * exp2Table.getD j 0 / 2 ^ 64 else a) (2 ^ 64) : Nat) : Rat)
    / 18446744073709551616

/-- 2^(x / 2048). -/
def exp2At (x : Int) : Rat := scaleRat (exp2Frac (x % 2048).toNat) (x / 2048)

/-- The value of a LOG16 code; code 0 is no conductance and no heat flow (R288). -/
def log16 (c : Nat) : Rat := if c = 0 then 0 else exp2At ((c : Int) - 40960)

/-- The value of a LOG9 code in W/K (R288). -/
def log9 (c : Nat) : Rat := if c = 0 then 0 else exp2At (((c : Int) - 320) * 128)

/-- A signed 16-bit field in 1/16 degC as degC. -/
def t16 (w : List W32) (i hi lo : Nat) : Rat := (sfld w i hi lo : Rat) / 16

def State.stencil (s : State) (n : Nat) : List W32 := (s.recAt 0x0701 31 24 n).getD []
def State.instRec (s : State) (n : Nat) : List W32 := (s.recAt 0x0702 31 18 n).getD []
def State.classRec (s : State) (c : Nat) : List W32 := (s.recAt 0x0703 31 26 c).getD []
def State.sensorRec (s : State) (n : Nat) : Option (List W32) := s.recAt 0x0704 31 27 n
def State.loopRec (s : State) (n : Nat) : Option (List W32) := s.recAt 0x0705 31 29 n
/-- NODES, SOURCES of a stencil (Table 8.2). -/
def stNodes (w : List W32) : Nat := fld w 0 23 11
def stSources (w : List W32) : Nat := fld w 0 10 4
/-- The two words of source descriptor j (Table 8.3). -/
def stSource (w : List W32) (j : Nat) : List W32 := (w.drop (2 + 8 * stNodes w + 2 * j)).take 2
/-- The 18 words of loss table j (R293). -/
def stLoss (w : List W32) (j : Nat) : List W32 := (w.drop (2 + 8 * stNodes w + 2 * stSources w + 18 * j)).take 18
/-- The signal bound to a role of an instance (R294, R295). -/
def roleSig (inst : List W32) (r : Nat) : Nat := if r % 2 = 0 then fld inst (4 + r / 2) 31 16 else fld inst (4 + r / 2) 15 0
/-- OUTLET served by a cable instance, 0 for none. -/
def instOutlet (inst : List W32) : Nat := fld inst 1 26 20
/-- Thresholds of a class in degC (Table 8.7). -/
def clsWarn (c : List W32) : Rat := t16 c 1 31 16
def clsThr (c : List W32) : Rat := t16 c 1 15 0
def clsShut (c : List W32) : Rat := t16 c 2 31 16
/-- Hystereses, margin and residual bound in K. -/
def clsK (c : List W32) (i hi lo : Nat) : Rat := (fld c i hi lo : Rat) / 8
def clsMargin (c : List W32) : Rat := clsK c 0 18 11

/-! ### Signals (R295, R298, R300) -/

/-- Element `i` of the scaled input vector a law committed last (Table 6.1, stage 1). -/
def State.lawElem (s : State) (l i : Nat) : Rat :=
  match (s.law l).vecs[1]? with
  | some v => bfVal (v.1.getD i 0, v.2)
  | none => 0

/-- The output current of a converter group, or the rms phase current of an AFE unit: square and magnitude. -/
def State.groupSignal (s : State) (g : Nat) : Rat × Rat :=
  match s.lawOf g with
  | none => (0, 0)
  | some l =>
    if g < 16 then let i := s.lawElem l 0; (i * i, |i|)
    else
      let q : Rat := (s.lawElem l 0 ^ 2 + s.lawElem l 1 ^ 2 + s.lawElem l 2 ^ 2) / 3
      (q, bfVal (sqrtDown24 q))

/-- The current of a leg, from the leg samples of its I_CHAN; zero without diode emulation, where the leg has no such channel, and
while the group coasts (Table 8.5, R191, log 156). -/
def State.legSignal (s : State) (n : Nat) : Rat × Rat :=
  match s.legDe n, (s.leg n).sample with
  | true, some (raw, m, _) => let x : Rat := (raw : Rat) / ((m ^ 3 : Nat) : Rat) * s.legIFs n / 10; (x * x, |x|)
  | _, _ => (0, 0)

/-- The sum of i_out of the groups ATTACHED to an outlet. -/
def State.outletCurrent (s : State) (o : Nat) : Rat :=
  (List.range 16).foldl (fun (a : Rat) g =>
    if (s.matrix g).st = .attached && (s.matrix g).outlet = o then
      a + (match s.lawOf g with | some l => s.lawElem l 0 | none => 0)
    else a) 0

/-- Square and magnitude of a current signal in the last stroke (Table 8.5). -/
def State.sigValue (s : State) (sig : Nat) : Rat × Rat :=
  match sig / 4096 with
  | 1 => s.groupSignal (sig % 4096)
  | 2 => s.legSignal (sig % 4096)
  | 3 => let i := s.outletCurrent (sig % 4096); (i * i, |i|)
  | _ => (0, 0)

/-- Every bound current signal gains the contribution of the stroke that ends (R298). -/
def State.thermStroke (s : State) : State :=
  { s with thermal := { s.thermal with
    strokes := s.thermal.strokes + 1
    sigs := s.thermal.sigs.map fun (x : SigSum) =>
      let v := s.sigValue x.sig
      { x with sq := x.sq + v.1, mag := x.mag + v.2, lastSq := v.1, lastMag := v.2 } } }

/-- A sensor's state. -/
def State.sensor (s : State) (n : Nat) : Sensor := vget s.thermal.sensors n {}

/-- The temperature of a sensor in degC, by its record. -/
def State.sensorVal (s : State) (n : Nat) : Rat :=
  let w := (s.sensorRec n).getD []
  sensorTemp (fld w 0 26 24) (fld w 1 31 16) (fld w 1 15 0) (s.sensor n).reading

/-- The reference temperature of a sensor: T_FB while it is invalid (R319). -/
def State.sensorRef (s : State) (n : Nat) : Rat :=
  if (s.sensor n).valid then s.sensorVal n else t16 ((s.sensorRec n).getD []) 3 31 16

/-- The cooling unit of an instance. -/
def State.dcu (s : State) (inst : Nat) : Option Dcu := s.thermal.dcus.find? fun d => d.inst = inst

/-- FLOW_MIN of the loop whose flow sensor is `n`; zero for any other flow sensor (R300). -/
def State.flowFallback (s : State) (n : Nat) : Nat :=
  ((s.recs 0x0705).findSome? fun r => if bit r 0 7 && fld r 0 12 8 = n then some (fld r 1 15 0) else none).getD 0

/-- A flow signal in 0.01 L/min (R294, R300, R326). -/
def State.flow (s : State) (inst sig : Nat) : Rat :=
  if sig / 4096 = 4 then
    let n := sig % 4096
    if (s.sensor n).valid then ((s.sensor n).reading : Rat) / 65536 * fld ((s.sensorRec n).getD []) 1 31 16
    else s.flowFallback n
  else if sig / 4096 = 5 then
    match s.dcu inst with
    | some d => if d.silent then fld (s.instRec inst) 1 15 0 else min d.flow (fld (s.instRec inst) 3 31 16)
    | none => 0
  else 0

/-- The largest flow a signal can report (R297). -/
def State.flowMax (s : State) (inst sig : Nat) : Rat :=
  if sig / 4096 = 4 then fld ((s.sensorRec (sig % 4096)).getD []) 1 31 16
  else if sig / 4096 = 5 then fld (s.instRec inst) 3 31 16 else 0

/-- The reference temperature REF_SEL names for an instance; none for 63 (R288). -/
def State.refTemp (s : State) (inst sel : Nat) : Option Rat :=
  if sel < 32 then some (s.sensorRef sel)
  else if sel < 40 then
    (s.loopRec (sel - 32)).map fun r => s.sensorRef (fld r 0 6 2)
  else if sel = 48 then
    (s.dcu inst).map fun d => if d.silent then t16 (s.instRec inst) 3 15 0 else (d.supply : Rat) / 16
  else none

/-! ### Power (R299) -/

/-- Advection conductance in W/K for a flow in 0.01 L/min: Q * RHO_C * SCALE. -/
def advection (rho scale : Nat) (flow : Rat) : Rat := flow / 6000000 * ((rho * 1000 : Nat) : Rat) * scale / 4096

/-- The loss of a semiconductor table at a current in A and a frequency in Hz: bilinear, extended linearly beyond the last
current point, nearest edge outside F0 to F3 (R293, R299). -/
def lossAt (w : List W32) (i f : Rat) : Rat :=
  let step : Rat := (fld w 0 31 16 : Rat) / 10
  let fq (k : Nat) : Rat := (fld w 1 (31 - 8 * k) (24 - 8 * k) * 1000 : Nat)
  let v (j k : Nat) : Rat :=
    let n := 4 * j + k
    (if n % 2 = 0 then fld w (2 + n / 2) 31 16 else fld w (2 + n / 2) 15 0 : Nat) / (10 : Rat)
  let atF (j : Nat) : Rat :=
    if f ≤ fq 0 then v j 0 else if fq 3 ≤ f then v j 3 else
    let k := if f < fq 1 then 0 else if f < fq 2 then 1 else 2
    v j k + (v j (k + 1) - v j k) * (f - fq k) / (fq (k + 1) - fq k)
  let j := min 6 (i / step).floor.toNat
  atF j + (atF (j + 1) - atF j) * (i / step - j)

/-- What a thermal update of a node takes besides its temperature (R299, R301): a heat flow at temperature T is
a0 + a1 * T. -/
structure NodeIn where
  a0 : Rat
  a1 : Rat
  deriving DecidableEq, Repr, Inhabited

/-- Mean square and magnitude of a signal for a folio since its previous update; the last contribution where no stroke has
passed (R298). -/
def State.sigMean (s : State) (f : Folio) (sig : Nat) : Rat × Rat :=
  match s.thermal.sigs.find? fun x => x.sig = sig with
  | none => (0, 0)
  | some x =>
    let n := s.thermal.strokes - f.seenStrokes
    if n = 0 then (x.lastSq, x.lastMag) else
    let p := (f.seen.find? fun y => y.1 = sig).map (·.2)
    let b := p.getD (0, 0)
    ((x.sq - b.1) / n, (x.mag - b.2) / n)

/-- The power of a node's source as a function of its own temperature (R299); `up` gives other temperatures. -/
def State.sourceIn (s : State) (f : Folio) (base : Nat) (n : TNode) (up : Nat → Rat) : NodeIn :=
  let inst := s.instRec f.inst
  let st := s.stencil (fld inst 0 17 10)
  match n.src with
  | none => ⟨0, 0⟩
  | some j =>
    let d := stSource st j
    let sc : Rat := (n.scale : Rat) / 4096
    let sig := roleSig inst (fld d 0 27 24)
    match fld d 0 31 28 with
    | 0 =>
      let p := (s.sigMean f sig).1 * (fld d 1 31 16 : Rat) / 10000000 * sc
      let al : Rat := (fld d 1 15 0 : Rat) / 1000000
      ⟨p * (1 - al * 20), p * al⟩
    | 1 =>
      let fr : Rat := ((s.nStrokes * s.carousel.freq : Nat) : Rat) / 4294967296
      ⟨lossAt (stLoss st (fld d 0 23 20)) (s.sigMean f sig).2 fr * sc, 0⟩
    | 2 =>
      let g := advection (fld d 1 31 16) n.scale (s.flow f.inst sig)
      let u := fld d 0 19 7
      let tUp := if u = 0x1FFF then s.refTemp f.inst n.refSel else some (up (base + u))
      match tUp with
      | some x => ⟨g * x, -g⟩
      | none => ⟨0, 0⟩
    | _ => ⟨(fld d 1 31 16 : Rat) / 10 * sc, 0⟩

/-- The whole heat flow into a node (R301). -/
def State.nodeIn (s : State) (f : Folio) (base : Nat) (n : TNode) (up : Nat → Rat) : NodeIn :=
  let src := s.sourceIn f base n up
  let lk := n.links.foldl (fun (a : NodeIn) l => let g := log9 l.2; ⟨a.a0 + g * up l.1, a.a1 - g⟩) src
  match s.refTemp f.inst n.refSel with
  | some t => let g := log16 n.gRef; ⟨lk.a0 + g * t, lk.a1 - g⟩
  | none => lk

/-! ### Temperatures -/

/-- The temperature of a mantissa of 24 bits at a folio exponent (R289). -/
def tempVal (exp temp : Int) : Rat := scaleRat temp (exp - 22)

/-- A rational number rounded to the nearest integer, ties away from zero. -/
def roundRat (x : Rat) : Int := roundAway x.num x.den

/-- A temperature in degC at a folio exponent, to nearest, ties away from zero (R302). -/
def tempOf (exp : Int) (t : Rat) : Int := roundRat (scaleRat t (22 - exp))

/-- A folio normalised (R289): the largest |TEMP|, the upper 16 bits of the 24, in [2^14, 2^15), or exponent -64. -/
def renormFolio (exp : Int) (ts : List Int) : Int × List Int :=
  let big := ts.foldl (fun b x => max b x.natAbs) 0
  if big = 0 then (-64, ts) else
  let e0 := max (-64) (min 63 (exp + (Nat.log2 big : Int) - 22))
  let conv (e : Int) : List Int := ts.map fun x =>
    if e ≤ exp then x * 2 ^ (exp - e).toNat else roundAway x (2 ^ (e - exp).toNat)
  let r := conv e0
  if (r.any fun x => 2 ^ 15 ≤ (x / 256).natAbs) && e0 < 63 then (e0 + 1, conv (e0 + 1)) else (e0, r)

/-- One node changed by its sub-steps (R301, R302). -/
def stepNode (exp : Int) (h invC : Rat) (i : NodeIn) : Nat → Int → Int
  | 0, t => t
  | k + 1, t =>
    let v := tempVal exp t
    stepNode exp h invC i k (tempOf exp (v + h * invC * (i.a0 + i.a1 * v)))

/-- A node is uncertain (R309, R310). -/
def uncertain (f : Folio) (n : TNode) : Bool := n.poisoned || 2 ≤ f.missed

/-- The value an uncertain node takes (R310). -/
def State.safeTemp (s : State) (n : TNode) : Rat :=
  match n.lim with
  | some c => let w := s.classRec c; clsThr w + (clsShut w - clsThr w) / 2
  | none => (n.init : Rat) / 16

/-- The temperature a reader of the base tier or of the fast tier sees at a node (R303, R304). -/
def State.seenTemp (s : State) (fast : Bool) (g : Nat) : Rat :=
  match s.thermal.folios[g / 64]? with
  | none => 0
  | some f =>
    if fast && f.slot.isSome then
      match f.nodes[g % 64]? with
      | some n => tempVal f.exp n.temp
      | none => 0
    else tempVal f.baseExp (f.baseTemps.getD (g % 64) 0)

/-- The first node of an instance. -/
def State.instBase (s : State) (inst : Nat) : Nat :=
  ((s.thermal.insts.find? fun x => x.inst = inst).map (·.base)).getD 0

/-- Sub-steps of a node for a period in ticks: the smallest k from 1 to 16 with dt/k at most half its time constant (R78,
R297). -/
def State.subSteps (s : State) (inst : Nat) (n : TNode) (dt : Nat) : Nat :=
  let w := s.instRec inst
  let st := s.stencil (fld w 0 17 10)
  let adv : Rat := match n.src with
    | some j =>
      let d := stSource st j
      if fld d 0 31 28 = 2 then advection (fld d 1 31 16) n.scale (s.flowMax inst (roleSig w (fld d 0 27 24))) else 0
    | none => 0
  let g : Rat := n.links.foldl (fun (a : Rat) l => a + log9 l.2) (log16 n.gRef + adv)
  let need : Rat := 2 * ((dt : Rat) / 400000000) * g * log16 n.invC
  max 1 need.ceil.toNat

/-- Ticks of a base period (Table 8.6). -/
def basePeriod : Nat := 10 * ticksPerMs

/-- The result of a folio's update released now (R301, R302, R309, R310). -/
def State.folioResult (s : State) (k : Nat) (f : Folio) (fast : Bool) : FolioResult :=
  let dt := if f.missed = 0 then (if fast then f.period else basePeriod) else s.tick - f.lastTick
  let base := s.instBase f.inst
  let from_ (n : TNode) (t0 : Int) : Int :=
    if n.invC = 0 then n.temp else
    let ks := n.ksub + 1
    let ks := if f.missed = 0 then ks else min 32 (2 * ks)
    stepNode f.exp ((dt : Rat) / 400000000 / ks) (log16 n.invC) (s.nodeIn f base n (s.seenTemp fast)) ks t0
  let safe (n : TNode) : Int := from_ n (tempOf f.exp (s.safeTemp n))
  { folio := k, exp := f.exp, safe := f.nodes.map safe, strokes := s.thermal.strokes
    temps := f.nodes.map fun n => if uncertain f n then safe n else from_ n n.temp }

/-! ### Expansion (R296) -/

/-- A node entry of a stencil (Table 8.1), its links shifted to the instance's base. -/
def nodeOf (w : List W32) (i base : Nat) : TNode :=
  let r := (w.drop (2 + 8 * i)).take 8
  { temp := sfld r 0 31 16
    invC := fld r 1 31 16, gRef := fld r 1 15 0
    links := (List.range 4).filterMap fun k =>
      if fld r (2 + k) 8 0 = 0 then none else some (base + fld r (2 + k) 31 9, fld r (2 + k) 8 0)
    src := if bit r 6 31 then some (fld r 6 30 25) else none
    refSel := fld r 6 24 19, scale := fld r 6 15 0
    lim := if bit r 7 25 then some (fld r 7 31 26) else none
    conductor := bit r 7 24, pinFast := bit r 7 23
    init := sfld r 0 31 16 }

/-- A link added to the node at an index. -/
def addLink (l : List TNode) (i to_ code : Nat) : List TNode :=
  l.modify i fun n => { n with links := n.links ++ [(to_, code)] }

/-- One instance is laid down after the nodes so far (R296, steps 1 to 4). -/
def State.expandInst (s : State) (acc : List TNode × List TInst) (w : List W32) : List TNode × List TInst :=
  let st := s.stencil (fld w 0 17 10)
  let base := acc.1.length
  let n := stNodes st
  let body := (List.range n).map fun i => nodeOf st i base
  let pad := (64 - n % 64) % 64
  let l := acc.1 ++ body ++ List.replicate pad { temp := 0 }
  let l := (List.range (fld w 1 31 27)).foldl (fun l p =>
    let a := base + fld w (12 + 2 * p) 31 20
    let g := fld w (13 + 2 * p) 31 9
    let c := fld w (12 + 2 * p) 19 11
    addLink (addLink l a g c) g a c) l
  (l, acc.2 ++ [{ inst := fld w 0 31 18, base, count := n }])

/-- The start temperature of a node in 1/16 degC (R296, step 5). -/
def State.startTemp (s : State) (n : TNode) : Int :=
  match n.lim with
  | some c => max n.init (sfld (s.classRec c) 4 31 16)
  | none => n.init

/-- A node of a folio belongs to the fast tier's period: 10 ms over the largest FAST_DIV, in ticks (R304). -/
def State.fastPeriod (s : State) (ns : List TNode) : Nat :=
  let d := ns.foldl (fun b n => match n.lim with | some c => max b (fld (s.classRec c) 0 25 19) | none => b) 0
  basePeriod / (if d = 0 then 100 else d)

/-- A folio formed from 64 nodes of an instance. -/
def State.newFolio (s : State) (inst : Nat) (ns : List TNode) : Folio :=
  let period := s.fastPeriod ns
  let fast := ns.any (·.pinFast)
  let r := renormFolio 18 (ns.map s.startTemp)
  let e := r.1
  let nodes := (ns.zip r.2).map fun x => { x.1 with
    temp := x.2, tLim := (s.startTemp x.1 : Rat) / 16
    ksub := s.subSteps inst x.1 (if fast then period else basePeriod) - 1 }
  { inst, exp := e, nodes, baseExp := e, baseTemps := r.2, period, lastTick := s.tick }

/-- Node lists cut into folios of 64. -/
def chunk64 : Nat → List TNode → List (List TNode)
  | 0, _ => []
  | k + 1, l => if l.isEmpty then [] else l.take 64 :: chunk64 k (l.drop 64)

/-- The signals bound in the model. -/
def State.boundSigs (s : State) : List Nat :=
  ((s.recs 0x0702).flatMap fun w => (List.range 16).map (roleSig w)).eraseDups

/-- The model is expanded at step 5 (R296). Until a cooling unit's first status its fallback flow and temperature stand (log 148). -/
def State.expandThermal (s : State) : State :=
  let (nodes, insts) := (s.recs 0x0702).foldl s.expandInst ([], [])
  let owner (g : Nat) : Nat :=
    (insts.foldl (fun b x => if x.base ≤ g then some x.inst else b) none).getD 0
  let folios := (chunk64 nodes.length nodes).mapIdx fun i ns => s.newFolio (owner (64 * i)) ns
  let pinned := (folios.mapIdx fun i f => (i, f.nodes.any (·.pinFast))).filterMap fun x => if x.2 then some x.1 else none
  let folios := folios.mapIdx fun i f => { f with slot := pinned.findIdx? (· = i) }
  { s with thermal :=
    { folios, insts
      sigs := (s.boundSigs.filter fun g => 1 ≤ g / 4096 && g / 4096 ≤ 3).map fun g => { sig := g }
      dcus := (s.recs 0x0702).filterMap fun w => if bit w 1 19 then
        some { inst := fld w 0 31 18, flow := fld w 1 15 0, supply := sfld w 3 15 0, lastAt := s.time.clock } else none
      fastFull := s.thermal.fastFull } }

/-! ### Limits (R311 to R315) -/

/-- A folio changed. -/
def State.modFolio (s : State) (k : Nat) (f : Folio → Folio) : State :=
  { s with thermal := { s.thermal with folios := s.thermal.folios.modify k f } }

/-- One node changed. -/
def State.modNode (s : State) (g : Nat) (f : TNode → TNode) : State :=
  s.modFolio (g / 64) fun x => { x with nodes := x.nodes.modify (g % 64) f }

/-- A temperature as an event value, in 1/65 536 degC, rounded down. -/
def tempEvent (t : Rat) : Int := (t * 65536).floor

/-- The factor of a LIM node with 16 fraction bits, rounded down; 0 while its latch is set (R313). -/
def nodeFactor (c : List W32) (n : TNode) : Nat :=
  if n.shut then 0 else
  (clampInt 0 65536 ((clsShut c - n.tLim) / (clsShut c - clsThr c) * 65536).floor).toNat

/-- Valid sensor temperatures per node (R311, R320): AI sensors and dispenser channels. -/
def State.sensorTemps (s : State) : List (Nat × Rat) :=
  ((s.recs 0x0704).filterMap fun w =>
    let n := fld w 0 31 27
    if fld w 0 26 24 ≠ 2 && fld w 0 22 0 ≠ 0x7FFFFF && (s.sensor n).valid then some (fld w 0 22 0, s.sensorVal n) else none)
  ++ ((s.recs 0x0801).flatMap fun w => (List.range 4).filterMap fun i =>
    let d := vget s.thermal.disp (4 * (fld w 0 31 25 - 1) + i) {}
    match d.temp with
    | some t => if d.valid && fld w (3 + i) 31 9 ≠ 0x7FFFFF then some (fld w (3 + i) 31 9, (t : Rat) / 16) else none
    | none => none)

/-- T_lim of a LIM node (R310, R311). -/
def State.tLimOf (s : State) (f : Folio) (g : Nat) (n : TNode) (sens : List (Nat × Rat)) : Rat :=
  (sens.filter fun x => x.1 = g).foldl (fun b x => max b x.2)
    (if uncertain f n then s.safeTemp n else tempVal f.exp n.temp)

/-- A LIM node's T_lim, flags and latch are formed again, with their events (R311 to R313, Table 8.13). -/
def State.limitNode (s : State) (g : Nat) (sens : List (Nat × Rat)) : State :=
  match s.thermal.folios[g / 64]? with
  | none => s
  | some f =>
    match f.nodes[g % 64]? with
    | none => s
    | some n =>
      match n.lim with
      | none => s
      | some c =>
        let w := s.classRec c
        let t := s.tLimOf f g n sens
        let warn := if clsWarn w ≤ t then true else if t < clsWarn w - clsK w 2 15 8 then false else n.warn
        let thr := if clsThr w < t then true else if t < clsThr w - clsK w 2 7 0 then false else n.thr
        let shut := if clsShut w ≤ t then true else if t < clsShut w - clsK w 3 31 24 then false else n.shut
        let n' := { n with tLim := t, warn, thr, shut }
        let s := s.modNode g fun _ => n'
        let s := if warn ≠ n.warn then s.raise .thermalWarn [g, c, tempEvent t, ofBool warn] else s
        let s := if thr ≠ n.thr then s.raise .thermalThrottle [g, f.inst, nodeFactor w n'] else s
        if shut ≠ n.shut then s.raise .thermalShutdown [g, f.inst, instOutlet (s.instRec f.inst)] else s

/-- The factor and the pause of an instance are published again (R314, R315). -/
def State.publishInst (s : State) (inst : Nat) : State :=
  let fs := s.thermal.folios.filter fun f => f.inst = inst
  let lims := fs.flatMap fun f => f.nodes.filterMap fun n => n.lim.map fun c => (s.classRec c, n)
  let f := lims.foldl (fun b x => min b (nodeFactor x.1 x.2)) 65536
  let pause := instOutlet (s.instRec inst) ≠ 0 && lims.any fun x => x.2.shut
  { s with thermal := { s.thermal with
    insts := s.thermal.insts.map fun (x : TInst) => if x.inst = inst then { x with f, pause } else x } }

/-- Every LIM node of a folio is judged again, and its instance published. -/
def State.limitFolio (s : State) (k : Nat) (sens : List (Nat × Rat)) : State :=
  let s := (List.range 64).foldl (fun s i => s.limitNode (64 * k + i) sens) s
  match s.thermal.folios[k]? with
  | some f => s.publishInst f.inst
  | none => s

/-- The outlets under a thermal pause (R315). -/
def State.thermalPause (s : State) (o : Nat) : Bool :=
  s.thermal.insts.any fun x => x.pause && instOutlet (s.instRec x.inst) = o

/-! ### Tiers (R305 to R308) -/

/-- The ratio of a folio (R306). -/
def State.folioRatio (s : State) (f : Folio) : Rat :=
  f.nodes.foldl (fun (b : Rat) n => match n.lim with
    | some c => max b ((n.tLim + 27315 / 100) / (clsShut (s.classRec c) + 27315 / 100))
    | none => b) 0

/-- A folio is a candidate for promotion (R306). -/
def State.folioHot (s : State) (f : Folio) : Bool :=
  f.nodes.any fun n => match n.lim with
    | some c => let w := s.classRec c; clsThr w - clsMargin w < n.tLim
    | none => false

/-- Every LIM node of a folio lies below its demotion bound (R307). -/
def State.folioCool (s : State) (f : Folio) : Bool :=
  f.nodes.all fun n => match n.lim with
    | some c => let w := s.classRec c; n.tLim < clsThr w - 2 * clsMargin w
    | none => true

/-- A folio is pinned to the fast tier. -/
def Folio.pinned (f : Folio) : Bool := f.nodes.any (·.pinFast)

/-- The tier decisions made at the base release before take effect (R305): slots and sub-steps change. -/
def State.applyTiers (s : State) : State :=
  let s := s.thermal.tierNext.foldl (fun s d =>
    let used := s.thermal.folios.filterMap (·.slot)
    let freeSlot := ((List.range 4097).find? fun i => !used.contains i).getD 4096
    s.modFolio d.1 fun f =>
      let dt := if d.2 then f.period else basePeriod
      { f with slot := if d.2 then some freeSlot else none, coolSince := none
               nodes := f.nodes.map fun n => { n with ksub := s.subSteps f.inst n dt - 1 } }) s
  { s with thermal := { s.thermal with tierNext := [] } }

/-- Folio numbers with their folios. -/
def State.numbered (s : State) : List (Nat × Folio) := s.thermal.folios.mapIdx fun i f => (i, f)

/-- Candidates in descending order of ratio, by ascending folio number among equal ratios (R305). -/
def State.candidates (s : State) : List (Nat × Rat) :=
  ((s.numbered.filter fun x => x.2.slot.isNone && s.folioHot x.2).map fun x => (x.1, s.folioRatio x.2)).mergeSort
    fun a b => b.2 < a.2 || (a.2 = b.2 && a.1 ≤ b.1)

/-- The tier decisions of a base release, for the next one (R305 to R308). -/
def State.decideTiers (s : State) : State :=
  let s := { s with thermal := { s.thermal with
    folios := s.thermal.folios.map fun (f : Folio) =>
      if f.slot.isSome && s.folioCool f then { f with coolSince := some (f.coolSince.getD s.tick) }
      else { f with coolSince := none } } }
  let demote := (s.numbered.filter fun x => x.2.slot.isSome && !x.2.pinned && !s.folioHot x.2 &&
    (match x.2.coolSince with | some t => t + ticksPerSec ≤ s.tick | none => false)).map (·.1)
  let stay := (s.numbered.filter fun x => x.2.slot.isSome && !demote.contains x.1)
  let room := 4096 - stay.length
  let cands := s.candidates
  let fit := cands.take room
  -- the rest may displace non-pinned fast folios of lower ratio, lowest first
  let weak := ((stay.filter fun x => !x.2.pinned).map fun x => (x.1, s.folioRatio x.2)).mergeSort
    fun a b => a.2 < b.2 || (a.2 = b.2 && a.1 ≤ b.1)
  let swaps := ((cands.drop room).zip weak).takeWhile fun p => p.2.2 < p.1.2
  let rest := cands.drop (room + swaps.length)
  let dec := (demote.map fun k => (k, false)) ++ (swaps.map fun p => (p.2.1, false)) ++
    ((fit ++ swaps.map (·.1)).map fun c => (c.1, true))
  let s := { s with thermal := { s.thermal with
    tierNext := dec, waiting := rest.length } }
  let due := match s.thermal.fastFullAt with | some t => t + ticksPerSec ≤ s.time.clock | none => true
  if !rest.isEmpty && due then
    ({ s with thermal := { s.thermal with fastFullAt := some s.time.clock, fastFull := s.thermal.fastFull + 1 } }).raise .fastFull
      [rest.length, ((rest.headD (0, 0)).2 * 65536).floor]
  else s

/-! ### Releases and commits -/

/-- The base-tier folios of a block that are due (R136, R303). -/
def State.blockFolios (s : State) (first : Nat) : List (Nat × Folio) :=
  (s.numbered.drop first).take s.foliosPerTask |>.filter fun x => x.2.slot.isNone && x.2.lastRelease + basePeriod ≤ s.tick

/-- A fast folio's period has passed since its last release (R304). -/
def State.fastDue (s : State) (f : Folio) : Bool := f.lastRelease + f.period ≤ s.tick

/-- The folios of the n-th P2 task of a tier period: FOLIOS_PER_TASK of those due at its start, in folio order (R136). -/
def State.waveFolios (s : State) (n : Nat) : List (Nat × Folio) :=
  ((s.thermal.fastWave.drop (n * s.foliosPerTask)).take s.foliosPerTask).filterMap fun k =>
    (s.thermal.folios[k]?).bind fun f => if f.slot.isSome && s.fastDue f then some (k, f) else none

/-- A thermal task's flight is opened at its release, its results computed from the versions fixed there (R119). -/
def State.openFlight (s : State) (fast : Bool) (fs : List (Nat × Folio)) (dom seq : Nat) : State :=
  let fl : ThermFlight :=
    { dom, seq, tick := s.tick, results := fs.map fun x => s.folioResult x.1 x.2 fast
      sums := s.thermal.sigs.map fun x => (x.sig, x.sq, x.mag), sens := s.sensorTemps }
  let s := { s with thermal := { s.thermal with flights := s.thermal.flights ++ [fl] } }
  fs.foldl (fun s x => s.modFolio x.1 fun f => { f with lastRelease := s.tick }) s

/-- The headroom of a set of instances: the least T_THR - T_lim over their LIM nodes (R323). -/
def State.headroom (s : State) (p : Nat → Bool) : Option Rat :=
  (s.thermal.folios.filter fun f => p f.inst).foldl (fun b f => f.nodes.foldl (fun b n => match n.lim with
    | some c =>
      let h := clsThr (s.classRec c) - n.tLim
      match b with | some x => some (min x h) | none => some h
    | none => b) b) none

/-- The headrooms a cooling task takes at its release: loops 0 to 7, then the units by instance number above 8. -/
def State.headrooms (s : State) : List (Nat × Rat) :=
  ((s.recs 0x0705).map fun r =>
    let n := fld r 0 31 29
    let tgt : Rat := (fld r 1 31 16 : Rat) / 16
    (n, (s.headroom fun i => fld (s.instRec i) 0 9 6 = n).getD tgt)) ++
  (s.thermal.dcus.map fun d =>
    let w := (s.loopRec (fld (s.instRec d.inst) 0 9 6)).getD []
    (8 + d.inst, (s.headroom fun i => i = d.inst).getD ((fld w 1 31 16 : Rat) / 16)))

/-- One demand (R323): integrator and demand after a task. -/
def coolStep (r : List W32) (x d h : Rat) : Rat × Rat :=
  let u (i hi lo : Nat) : Rat := (fld r i hi lo : Rat) / 65536
  let lo := u 2 31 16
  let hi := u 2 15 0
  let cl (a b v : Rat) : Rat := max a (min b v)
  let e := (fld r 1 31 16 : Rat) / 16 - h
  let kp := bfVal (c24 (r.getD 4 0))
  let ki := bfVal (c24 (r.getD 5 0))
  let xNew := cl lo hi (x + ki * e)
  let raw := kp * e + xNew
  let dn := cl lo hi raw
  let xNew := if (dn < raw && 0 < e) || (raw < dn && e < 0) then x else xNew
  let ramp := u 3 31 16
  (xNew, cl (d - ramp) (d + ramp) dn)

/-- What a cooling task computes from the versions fixed at its release: the state of every loop and cooling unit (R119, R323). -/
def State.coolResults (s : State) (rooms : List (Nat × Rat)) : List (Nat × CoolLoop) :=
  rooms.filterMap fun p =>
    let step (r : List W32) (x d : Rat) : Nat × CoolLoop := let y := coolStep r x d p.2; (p.1, { x := y.1, d := y.2, h := p.2 })
    if p.1 < 8 then (s.loopRec p.1).map fun r => let l := vget s.thermal.loops p.1 {}; step r l.x l.d
    else (s.dcu (p.1 - 8)).bind fun d => (s.loopRec (fld (s.instRec d.inst) 0 9 6)).map fun r => step r d.x d.d

/-- A cooling task commits: every loop and cooling unit gets its demand (R323). -/
def State.commitCooling (s : State) (res : List (Nat × CoolLoop)) : State :=
  let get (k : Nat) : Option CoolLoop := (res.find? fun x => x.1 = k).map (·.2)
  { s with thermal := { s.thermal with
    loops := vmapIdx (fun i l => (get i).getD l) s.thermal.loops
    dcus := s.thermal.dcus.map fun (d : Dcu) => match get (8 + d.inst) with
      | some y => { d with x := y.x, d := y.d, h := y.h }
      | none => d } }

/-- FLOW_FALLBACK is raised once for each flow signal of the folio's instance that has fallen back (R300). -/
def State.flowCheck (s : State) (inst : Nat) : State :=
  (List.range 16).foldl (fun s r =>
    let sig := roleSig (s.instRec inst) r
    if sig / 4096 = 4 then
      let n := sig % 4096
      if (s.sensor n).valid || (s.sensor n).fallback then s
      else ({ s with thermal := { s.thermal with
          sensors := vput s.thermal.sensors n { s.sensor n with fallback := true } } }).raise
        .flowFallback [sig, s.flowFallback n]
    else if sig / 4096 = 5 then
      match s.dcu inst with
      | some d =>
        if d.silent && !d.fallback then
          ({ s with thermal := { s.thermal with
            dcus := s.thermal.dcus.map fun (x : Dcu) => if x.inst = inst then { x with fallback := true } else x } }).raise
            .flowFallback [sig, fld (s.instRec inst) 1 15 0]
        else s
      | none => s
    else s) s

/-- A folio's result is committed (R289, R309, R310). -/
def State.commitFolio (s : State) (fl : ThermFlight) (r : FolioResult) : State :=
  let s := s.modFolio r.folio fun f =>
    let n := renormFolio r.exp r.temps
    let f := { f with
      exp := n.1, nodes := (f.nodes.zip n.2).map fun (x : TNode × Int) => { x.1 with temp := x.2, poisoned := false }
      missed := 0, lastTick := fl.tick, seen := fl.sums, seenStrokes := r.strokes }
    if f.slot.isNone then { f with baseExp := n.1, baseTemps := n.2 } else f
  let mine (p : Nat × Nat) : Bool := (dramNodes p.1 p.2).any fun x => x.1 / 64 = r.folio
  let s := { s with array := { s.array with dramPoisoned := s.array.dramPoisoned.filter fun p => !mine p } }
  match s.thermal.folios[r.folio]? with
  | some f => (s.flowCheck f.inst).limitFolio r.folio fl.sens
  | none => s

/-- The base update of a block copies the fast folios' committed values into the base version (R303). -/
def State.copyFast (s : State) (first : Nat) : State :=
  { s with thermal := { s.thermal with
    folios := s.thermal.folios.mapIdx fun i (f : Folio) =>
      if f.slot.isSome && first ≤ i && i < first + s.foliosPerTask then
        { f with baseExp := f.exp, baseTemps := f.nodes.map (·.temp) }
      else f } }

/-- The outlets' conductor means are published after the base update (R327): TEMP alone, invalid while a node is uncertain. -/
def State.publishOutlets (s : State) : State :=
  { s with thermal := { s.thermal with
    published := vmapIdx (fun k _ =>
      match s.thermal.insts.find? fun x => instOutlet (s.instRec x.inst) = k + 1 with
      | none => none
      | some x =>
        let ns := (s.thermal.folios.filter fun f => f.inst = x.inst).flatMap fun f =>
          (f.nodes.zip f.baseTemps).filterMap fun y =>
            if y.1.conductor then some (tempVal f.baseExp (y.2 / 256 * 256), uncertain f y.1) else none
        if ns.isEmpty then none else
        let sum : Rat := ns.foldl (fun (a : Rat) y => a + y.1) 0
        some (sum / (ns.length : Nat), !(ns.any fun y => y.2))) s.thermal.published } }

/-- The flight of a task is closed and returned. -/
def State.takeFlight (s : State) (dom seq : Nat) : Option ThermFlight × State :=
  (s.thermal.flights.find? fun f => f.dom = dom && f.seq = seq,
   { s with thermal := { s.thermal with flights := s.thermal.flights.filter fun f => !(f.dom = dom && f.seq = seq) } })

/-- A thermal or cooling task commits. -/
def State.commitThermal (s : State) (k : TaskKind) (dom seq : Nat) : State :=
  match s.takeFlight dom seq with
  | (none, s) => s
  | (some fl, s) =>
    match k with
    | .cooling => s.commitCooling fl.cool
    | .baseFolios first =>
      let s := (fl.results.foldl (fun s r => s.commitFolio fl r) s).copyFast first
      let more := s.array.opens.any fun o =>
        (match o.kind with | .baseFolios _ => true | _ => false) && !(o.dom = dom && o.seq = seq)
      if more then s else s.publishOutlets
    | _ => fl.results.foldl (fun s r => s.commitFolio fl r) s

/-- THERMAL_POISON for the nodes of a folio that become uncertain, with their limits (R310). -/
def State.poisonEvents (s : State) (gs : List Nat) (cause : Int) : State :=
  let s := gs.foldl (fun s g => s.raise .thermalPoison [g, cause]) s
  (gs.map (· / 64)).eraseDups.foldl (fun s k => s.limitFolio k s.sensorTemps) s

/-- A thermal task is closed as missed (R309): its folios miss an update, and the second in a row makes their nodes uncertain. -/
def State.missThermal (s : State) (k : TaskKind) (dom seq : Nat) : State :=
  match s.takeFlight dom seq with
  | (none, s) => s
  | (some fl, s) =>
    let s := match k with
      | .baseFolios _ => { s with thermal := { s.thermal with missed := (s.thermal.missed.1 + 1, s.thermal.missed.2) } }
      | .fastFolios _ => { s with thermal := { s.thermal with missed := (s.thermal.missed.1, s.thermal.missed.2 + 1) } }
      | _ => s
    fl.results.foldl (fun s r =>
      let s := s.modFolio r.folio fun f => { f with missed := f.missed + 1 }
      match s.thermal.folios[r.folio]? with
      | some f =>
        if f.missed = 2 then
          s.poisonEvents ((f.nodes.mapIdx fun i n => (i, n.poisoned)).filterMap fun x =>
            if x.2 then none else some (64 * r.folio + x.1)) 1
        else s
      | none => s) s

/-- A poisoned LPDDR5X block is taken up: nodes poisoned in both versions become uncertain (R310). -/
def State.poisonNodes (s : State) : State :=
  let bad := s.array.dramPoisoned.flatMap fun p => dramNodes p.1 p.2
  let both := ((bad.filter fun x => x.2 = 0 && bad.contains (x.1, 1)).map (·.1)).eraseDups
  let new := both.filter fun g => match s.thermal.folios[g / 64]? with
    | some f => match f.nodes[g % 64]? with
      | some n => !n.poisoned
      | none => false
    | none => false
  if new.isEmpty then s else
  let old (g : Nat) : Bool := match s.thermal.folios[g / 64]? with | some f => 2 ≤ f.missed | none => false
  let s' := new.foldl (fun s g => s.modNode g fun n => { n with poisoned := true }) s
  s'.poisonEvents (new.filter fun g => !old g) 0

/-- A task that reads a poisoned block takes the safe start value for the nodes that became uncertain by it (R143, R310). `was` are
the folios before the read. -/
def State.safeStarts (s : State) (was : List Folio) (dom seq : Nat) : State :=
  let now := s.thermal.folios
  let fresh (k i : Nat) : Bool :=
    let p (fs : List Folio) : Bool := ((fs[k]?).bind fun f => f.nodes[i]?).any (·.poisoned)
    p now && !p was
  { s with thermal := { s.thermal with flights := s.thermal.flights.map fun (fl : ThermFlight) =>
    if fl.dom = dom && fl.seq = seq then
      { fl with results := fl.results.map fun (r : FolioResult) =>
          { r with temps := r.temps.mapIdx fun i t => if fresh r.folio i then r.safe.getD i t else t } }
    else fl } }

/-! ### Commands -/

/-- The residual of a reconciled reading against its node's class bound (R321): the instants from which it has been outside and
inside. -/
def State.residual (s : State) (node : Nat) (t : Rat) : Option (Rat × List W32) :=
  match s.thermal.folios[node / 64]? with
  | none => none
  | some f => (f.nodes[node % 64]?).bind fun n => n.lim.map fun c => (t - tempVal f.exp n.temp, s.classRec c)

/-- The since-instants after a residual. -/
def residNext (now : Nat) (r : Option (Rat × List W32)) (out ins : Option Nat) : Option Nat × Option Nat :=
  match r with
  | none => (none, none)
  | some (x, c) =>
    if clsK c 3 23 16 < |x| then (some (out.getD now), none) else (none, some (ins.getD now))

/-- A sensor's state replaced. -/
def State.putSensor (s : State) (n : Nat) (y : Sensor) : State :=
  { s with thermal := { s.thermal with sensors := vput s.thermal.sensors n y } }

/-- One sensor takes a reading (R318, R319, R321). -/
def State.takeReading (s : State) (w : List W32) (reading : Nat) : State :=
  let n := fld w 0 31 27
  let x := s.sensor n
  let good := fld w 2 31 16 ≤ reading && reading ≤ fld w 2 15 0
  if good then
    let y : Sensor := { x with
      reading, sampled := true, valid := x.valid || !x.sampled
      goodSince := some (x.goodSince.getD s.time.clock), fallback := x.fallback && !(x.valid || !x.sampled) }
    let s := s.putSensor n y
    let r := if y.valid && fld w 0 26 24 ≠ 2 then s.residual (fld w 0 22 0) (s.sensorVal n) else none
    let z := residNext s.time.clock r x.outSince x.inSince
    s.putSensor n { y with outSince := z.1, inSince := z.2 }
  else
    let s := s.putSensor n { x with reading, sampled := true, valid := false, goodSince := none, outSince := none, inSince := none }
    if x.valid || !x.sampled then s.raise .sensorFault [n, reading] else s

/-- Samples of the AI inputs take effect, in 1/65 536 of the input range, in AI order (R318, R319). -/
def State.takeSamples (s : State) (readings : List Nat) : State :=
  (s.recs 0x0704).foldl (fun s w => match readings[fld w 0 31 27]? with
    | some r => s.takeReading w (r % 65536)
    | none => s) s

/-- AI_SAMPLE (R318, R319): the holder's samples, carried in the journal. -/
def execAiSample (t : Nat) (readings : List Nat) (s : State) : Out :=
  .next ((s.advance t).submit (.aiSample readings) (·.takeSamples readings))

/-- SENSOR_VALID (R319): a second of valid readings makes a sensor valid again. -/
def execSensorValid (t : Nat) (n : Fin 32) (s : State) : Out :=
  let s := s.advance t
  let x := s.sensor n.val
  .next (match x.goodSince with
    | some g =>
      if !x.valid && g + ticksPerSec ≤ s.time.clock then
        { s with thermal := { s.thermal with sensors := s.thermal.sensors.set n { x with valid := true, fallback := false } } }
      else s
    | none => s)

/-- A connector temperature becomes invalid (R320). -/
def State.staleTemp (s : State) (outlet : OutletNo) (chan : Fin 4) : State :=
  let k := 4 * outlet.val + chan.val
  let d := vget s.thermal.disp k {}
  if d.valid then
    ({ s with thermal := { s.thermal with
      disp := vput s.thermal.disp k { d with valid := false, outSince := none, inSince := none } } }).raise
      .dispTempStale [outlet.val + 1, chan.val]
  else s

/-- DISP_TEMP_STALE (R320): a connector temperature has not been refreshed within 1 s; a report in the expiry tick is in time (R47). -/
def execDispTempStale (t : Nat) (outlet : OutletNo) (chan : Fin 4) (s : State) : Out :=
  let s := s.advance t
  let d := vget s.thermal.disp (4 * outlet.val + chan.val) {}
  .next (if d.valid && s.expired d.at_ ticksPerSec then s.submit (.dispTempStale outlet chan) (·.staleTemp outlet chan) else s)

/-- A dispenser reports its connector temperatures (R320, R347). -/
def State.reportTemps (s : State) (outlet : Nat) (w : List W32) (temps : List (Option Int)) : State :=
  (List.range 4).foldl (fun s i =>
    match temps.getD i none with
    | none => s
    | some t =>
      let k := 4 * (outlet - 1) + i
      let d := vget s.thermal.disp k {}
      let z := residNext s.time.clock (s.residual (fld w (3 + i) 31 9) ((t : Rat) / 16)) d.outSince d.inSince
      { s with thermal := { s.thermal with
        disp := vput s.thermal.disp k
          { d with temp := some t, at_ := s.time.clock, valid := true, outSince := z.1, inSince := z.2 } } }) s

/-- RESID_S of a class in ticks. -/
def residTime (c : List W32) : Nat := fld c 3 15 0 * 100 * ticksPerMs

/-- The alarm of R321 changes where the residual has stayed outside, or inside, its bound for RESID_S. -/
def residAlarm (now : Nat) (c : List W32) (alarm : Bool) (out ins : Option Nat) : Bool :=
  match alarm, out, ins with
  | false, some t, _ => t + residTime c ≤ now
  | true, _, some t => !(t + residTime c ≤ now)
  | a, _, _ => a

/-- THERMAL_DISAGREE (R321): sensors 0 to 31 are the AI inputs, 32 + 4 (o - 1) + n channel n of outlet o. -/
def execThermalDisagree (t : Nat) (n : Fin 288) (s : State) : Out :=
  let s := s.advance t
  let now := s.time.clock
  .next (if n.val < 32 then
    let x := s.sensor n.val
    let node := fld ((s.sensorRec n.val).getD []) 0 22 0
    match if x.valid then s.residual node (s.sensorVal n.val) else none with
    | some (r, c) =>
      let a := residAlarm now c x.alarm x.outSince x.inSince
      if a ≠ x.alarm then
        ({ s with thermal := { s.thermal with sensors := vput s.thermal.sensors n.val { x with alarm := a } } }).raise
          .thermalDisagree [n.val, node, tempEvent r, ofBool a]
      else s
    | none => s
  else
    let k := n.val - 32
    let d := vget s.thermal.disp k {}
    let node := fld ((s.recAt 0x0801 31 25 (k / 4 + 1)).getD []) (3 + k % 4) 31 9
    match if d.valid then s.residual node ((d.temp.getD 0 : Rat) / 16) else none with
    | some (r, c) =>
      let a := residAlarm now c d.alarm d.outSince d.inSince
      if a ≠ d.alarm then
        ({ s with thermal := { s.thermal with disp := vput s.thermal.disp k { d with alarm := a } } }).raise
          .thermalDisagree [n.val, node, tempEvent r, ofBool a]
      else s
    | none => s)

/-- A cooling unit's status takes effect (R325, R326, Table 8.10): one with STATE 0x80 is treated as silent. -/
def State.takeDcu (s : State) (inst : Nat) (payload : BitVec 64) : State :=
  let v := payload.toNat
  match s.dcu inst with
    | none => s
    | some d =>
      if v / 256 % 256 ≠ 1 then s else
      let st := v / 65536 % 256
      let d' : Dcu :=
        if st = 0x80 then { d with unitState := st, seqSeen := v / 2 ^ 24 % 256, lastAt := s.time.clock, silent := true }
        else { d with
          flow := v / 2 ^ 48, supply := signed 16 (v / 2 ^ 32 % 65536), seqSeen := v / 2 ^ 24 % 256, unitState := st
          lastAt := s.time.clock, silent := false, fallback := false }
      let s' := { s with thermal := { s.thermal with
        dcus := s.thermal.dcus.map fun (x : Dcu) => if x.inst = inst then d' else x } }
      if st = 0x80 && !d.silent then s'.raise .dcuSilent [inst, instOutlet (s.instRec inst)] else s'

/-- DCU_STATUS (R325, R326). -/
def execDcuStatus (t inst : Nat) (payload : BitVec 64) (s : State) : Out :=
  .next ((s.advance t).submit (.dcuStatus inst payload) (·.takeDcu inst payload))

/-- A cooling unit is silent (R326). -/
def State.dcuLost (s : State) (inst : Nat) : State :=
  match s.dcu inst with
  | some d =>
    if d.silent then s else
    ({ s with thermal := { s.thermal with
      dcus := s.thermal.dcus.map fun (x : Dcu) => if x.inst = inst then { x with silent := true } else x } }).raise
      .dcuSilent [inst, instOutlet (s.instRec inst)]
  | none => s

/-- DCU_SILENT (R326): no status for 500 ms; one in the expiry tick is in time (R47). -/
def execDcuSilent (t inst : Nat) (s : State) : Out :=
  let s := s.advance t
  .next (match s.dcu inst with
    | some d => if !d.silent && s.expired d.lastAt (500 * ticksPerMs) then s.submit (.dcuSilent inst) (·.dcuLost inst) else s
    | none => s)

/-- The DEMAND field of a cooling unit's command: d in 1/65 536, rounded down, at most 65 535 (Table 8.10). -/
def demandField (d : Rat) : Nat := min 65535 (d * 65536).floor.toNat

end Sys2Proof.Machine
end

