-- ==== Sys2Proof/Machine/Scribe.lean ====
section
/-!
DEFINITION. The Scribe (chapter 10): metering periods, registers, sessions and charges, demand intervals, wall-time steps, tamper
records, receipts. Energies are exact in 2^-32 mWh, rounded down where a joule value enters (log 17).
-/
namespace Sys2Proof.Machine

open Sys2Proof.Config

/-! ### Helpers -/

/-- The Scribe changed. -/
def State.modScribe (s : State) (f : Scribe → Scribe) : State := { s with scribe := f s.scribe }

/-- The committed part of the Scribe changed. -/
def State.modCore (s : State) (f : ScribeCore → ScribeCore) : State := s.modScribe fun x => { x with core := f x.core }

/-- An accumulator in whole mWh (R378). -/
def mWh (a : Nat) : Nat := a / 2 ^ 32

/-- Joules in 2^-32 mWh, rounded down (R378: 1 mWh is 3.6 J). -/
def unitsOf (j : Rat) : Nat := (j * 10 / 36 * 4294967296).floor.toNat

/-- The registers of outlet o, numbered from 1. -/
def State.regs (s : State) (o : Nat) : Regs := vget s.scribe.core.regs (o - 1) {}

/-- The registers of outlet o changed. -/
def State.modRegs (s : State) (o : Nat) (f : Regs → Regs) : State :=
  s.modCore fun c => { c with regs := vmapIdx (fun i r => if i + 1 = o then f r else r) c.regs }

/-- The outlet of a context, numbered from 1 (R352). -/
def ctxOutlet (c : Nat) : Nat := c / 2 + 1

/-- The METER_CHANNEL record of an outlet (Table 10.2). -/
def State.meterRec (s : State) (o : Nat) : Option (List W32) := s.recAt 0x0901 31 25 o

/-- The open session of a context. -/
def State.session (s : State) (c : Nat) : Option Session := s.scribe.core.sessions.find? fun x => x.ctx = c

/-- Sessions changed where a condition holds. -/
def State.modSessions (s : State) (p : Session → Bool) (f : Session → Session) : State :=
  s.modCore fun c => { c with sessions := c.sessions.map fun x => if p x then f x else x }

/-- A flag added once. -/
def addFlag (l : List MFlag) (f : MFlag) : List MFlag := if l.contains f then l else l ++ [f]

/-- An outlet's open sessions and the interval in progress are flagged. -/
def State.flagOutlet (s : State) (o : Nat) (f : MFlag) : State :=
  (s.modSessions (fun x => ctxOutlet x.ctx = o) fun x => { x with flags := addFlag x.flags f }).modCore fun c =>
    { c with interval := { c.interval with flags := addFlag c.interval.flags f } }

/-- An event of the Scribe, with its Scribe time (R422, R461). -/
def State.raiseS (s : State) (e : Ev) (val : List Int) : State := s.raise e (val ++ [(s.scribe.core.time : Int)])

/-- Scribe time: while the Scribe is closed, the time committed last (R61). -/
def State.scribeTime (s : State) : Nat :=
  if s.scribe.open_ then s.scribe.core.time else (s.scribe.copies.head?.map fun c => c.1.time).getD s.scribe.core.time

/-- A tamper record counts (R444, R446): COUNT stops at 0xFFFF_FFFF; TAMPER is raised. -/
def State.countTamper (s : State) (typ : Nat) : State :=
  let r := vget s.tamper.recs (typ - 1) {}
  let time := s.scribeTime
  let r' : TamperRec :=
    { count := min (r.count + 1) 0xFFFFFFFF
      firstScribe := if r.count = 0 then time else r.firstScribe
      firstWall := if r.count = 0 then s.wallSec else r.firstWall
      lastScribe := time, lastWall := s.wallSec }
  ({ s with tamper := { s.tamper with recs := vput s.tamper.recs (typ - 1) r' } }).raiseS .tamper [typ, r'.count]

/-! ### Samples (R373, R374, R377) -/

/-- One metering sample of an outlet (R374, R377). -/
def PeriodSum.add (p : PeriodSum) (w : List W32) (xv xi : Rat) : PeriodSum :=
  let v := bfVal (c24 (w.getD 1 0)) * xv + bfVal (c24 (w.getD 2 0))
  let i := bfVal (c24 (w.getD 3 0)) * xi + bfVal (c24 (w.getD 4 0))
  { n := p.n + 1, vi := p.vi + v * i, ii := p.ii + i * i, absI := p.absI + |i| }

/-- The filter output of an MD channel as a fraction of full scale (R374). -/
def State.mdFilter (s : State) (c : Nat) : Rat := (sinc3 64 (vget s.scribe.bits c []) : Rat) / 262144

/-- A clock of MDCK_n clocks one bit into each of its channels; the 64th since the last sample gives a sample of each of its
outlets that is metered and not faulty (R373, R374, R379). -/
def State.mdEdge (s : State) (g : Nat) (bits : BitVec 16) : State :=
  let k := vget s.scribe.mdck g {}
  let s := s.modScribe fun x =>
    { x with
      bits := vmapIdx (fun c l => if c / 16 = g then (bits.getLsbD (c % 16) :: l).take 190 else l) x.bits
      mdck := vput x.mdck g { k with phase := (k.phase + 1) % 64 } }
  if k.phase + 1 < 64 then s else
  (List.range 8).foldl (fun s j =>
    let o := 8 * g + j + 1
    match s.meterRec o with
    | none => s
    | some w =>
      if vget s.scribe.faulty (o - 1) false then s
      else
        let p := (vget s.scribe.sums (o - 1) {}).add w (s.mdFilter (2 * o - 2)) (s.mdFilter (2 * o - 1))
        s.modScribe fun x => { x with sums := vput x.sums (o - 1) p }) s

/-- The frequency used for an MDCK's samples: the one measured over the last second, MDCK_NOM before the first (R376). -/
def State.mdFreq (s : State) (g : Nat) (w : List W32) : Nat :=
  let f := (vget s.scribe.mdck g {}).freq
  if f = 0 then fld w 5 15 0 * 1000 else f

/-! ### Metering periods (R377, R378, R389) -/

/-- The conductor temperature for compensation: clamped, T_MAX where invalid; and whether it was valid (R389). -/
def State.condTemp (s : State) (o : Nat) (w : List W32) : Rat × Bool :=
  match vget s.thermal.published (o - 1) none with
  | some (t, true) => (max (t16 w 3 31 16) (min (t16 w 3 15 0) t), true)
  | _ => (t16 w 3 15 0, false)

/-- R(T) of an outlet's cable in ohms (R389). -/
def cableR (w : List W32) (t : Rat) : Rat :=
  ((w.getD 1 0).toNat : Rat) / 10000000 * (1 + (fld w 2 31 16 : Rat) / 1000000 * (t - 20))

/-- One outlet's metering period ends (R377, R385, R389). -/
def State.endPeriodOutlet (s : State) (o : Nat) : State :=
  match s.meterRec o with
  | none => s
  | some w =>
    let p := vget s.scribe.sums (o - 1) {}
    let s := s.modScribe fun x => { x with sums := vput x.sums (o - 1) {} }
    if p.n = 0 || p.absI / p.n < (fld w 5 31 16 : Rat) / 10 then s else
    let k : Rat := 64 / (s.mdFreq ((2 * o - 2) / 16) w : Nat)
    let e := p.vi * k
    let q2 := p.ii * k
    if s.scribe.seal_ = .broken then
      if 0 < e then s.modRegs o fun r => { r with service := r.service + unitsOf e } else s
    else
      let s := s.modSessions (fun x => ctxOutlet x.ctx = o) fun x => { x with q2 := x.q2 + q2 }
      if e < 0 then s.modRegs o fun r => { r with rev := r.rev + unitsOf (-e) }
      else if e = 0 then s
      else
      let comp := s.recAt 0x0902 31 25 o
      let t := match comp with | some c => s.condTemp o c | none => (20, true)
      let l := match comp with | some c => unitsOf (q2 * cableR c t.1) | none => 0
      let eU := unitsOf e
      let add := eU - l
      let s := s.modRegs o fun r =>
        { r with unc := r.unc + eU, comp := r.comp + add, loss := r.loss + l
                 tariff := r.tariff.modify (s.scribe.tariff - 1) (· + add) }
      let was := vget s.scribe.compDef (o - 1) false
      let s := s.modScribe fun x => { x with compDef := vput x.compDef (o - 1) (!t.2) }
      if t.2 then s
      else
        let s := s.flagOutlet o .compDefault
        if was then s else s.raiseS .compDefault [o]

/-- The sample time of the period in seconds, from the first metered outlet (Table 10.8, DURATION_MS; log 18). -/
def State.periodSeconds (s : State) : Rat :=
  match (s.recs 0x0901).head? with
  | none => 0
  | some w =>
    let o := fld w 0 31 25
    ((vget s.scribe.sums (o - 1) {}).n * 64 : Nat) / ((s.mdFreq ((2 * o - 2) / 16) w : Nat) : Rat)

/-- A metering period ends at the present sample for every outlet (R375, R377). Sessions under invalid wall time are UNDATED
(R395). -/
def State.endPeriod (s : State) : State :=
  if !s.scribe.open_ then s else
  let sec := s.periodSeconds
  let s := s.modCore fun c => { c with interval := { c.interval with seconds := c.interval.seconds + sec } }
  let s := (List.range 64).foldl (fun s i => s.endPeriodOutlet (i + 1)) s
  let s := if s.wall.valid then s else s.modSessions (fun _ => true) fun x => { x with flags := addFlag x.flags .undated }
  if s.scribe.seal_ = .broken then
    (s.modSessions (fun _ => true) fun x => { x with flags := addFlag x.flags .nonLegal }).modCore fun c =>
      { c with interval := { c.interval with flags := addFlag c.interval.flags .sealBroken } }
  else s

/-! ### Charges (R399 to R401) -/

/-- The energy of a session per tariff, in mWh, up to now. -/
def State.sessionSegs (s : State) (x : Session) : List (Nat × Nat) :=
  let now := mWh (s.regs (ctxOutlet x.ctx)).comp - x.segStart
  let hit := x.segs.any fun p => p.1 = x.tariff
  let l := if hit then x.segs.map fun p => if p.1 = x.tariff then (p.1, p.2 + now) else p else x.segs ++ [(x.tariff, now)]
  l.mergeSort fun a b => a.1 ≤ b.1

/-- A session's shortfall in mWh under a condition on (cause, tariff), rounded down (R401). -/
def Session.shortMWh (x : Session) (p : Nat × Nat → Bool) : Nat :=
  (x.shorts.filter fun y => p (y.1, y.2.1)).foldl (fun a y => a + y.2.2) 0 / 3600000

/-- A segment with its price and amount in 10^-2 minor units (Table 10.10). -/
structure Segment where
  tariff : Nat
  energy : Nat
  price : Nat
  amount : Nat
  deriving DecidableEq, Repr

/-- The segments of a session, at the prices in force now (log 151). -/
def State.segments (s : State) (x : Session) : List Segment :=
  (s.sessionSegs x).map fun p =>
    let price := ((s.tariffRec p.1).getD 1 0).toNat
    { tariff := p.1, energy := p.2, price, amount := p.2 * price / 100000000 }

/-- The discount of a session (R401). -/
def State.discount (s : State) (x : Session) (segs : List Segment) : Nat :=
  segs.foldl (fun a g =>
    let r := s.tariffRec g.tariff
    if bit r 0 27 then
      a + min g.amount (x.shortMWh (fun y => y.2 = g.tariff) * (r.getD 4 0).toNat / 100000000)
    else a) 0

/-- TOTAL of a session in whole minor units (R399). -/
def State.total (s : State) (x : Session) : Nat :=
  let segs := s.segments x
  (x.fee + segs.foldl (fun a g => a + g.amount) 0 + x.idleAmount - s.discount x segs) / 100

/-- Idle minutes that have become complete are charged (R400): `x.idleNext` is the instant at which the minute in progress began,
`x.idleFee` the fee of the tariff in force then. -/
def Session.idleStep (x : Session) (now fee : Nat) : Session :=
  match x.idleFrom with
  | none => x
  | some t0 =>
    let start := t0 + x.idleGrace * 60 * ticksPerSec
    if now < start then { x with idleNext := start, idleFee := fee }
    else
      let x := if x.idleNext < start then { x with idleNext := start, idleFee := fee } else x
      let n := (now - x.idleNext) / (60 * ticksPerSec)
      if n = 0 then (if x.idleNext = now then { x with idleFee := fee } else x) else
      -- the first of the minutes began under the fee noted at its start, the others under the present one
      { x with idleMin := x.idleMin + n, idleAmount := x.idleAmount + x.idleFee + (n - 1) * fee
               idleNext := x.idleNext + n * 60 * ticksPerSec, idleFee := fee }

/-- The idle fee of the tariff in force. -/
def State.idleFeeNow (s : State) : Nat := ((s.tariffRec s.scribe.tariff).getD 3 0).toNat

/-- Idle charges of the open sessions are brought up to now. -/
def State.idleAll (s : State) : State :=
  s.modSessions (fun x => x.ended.isNone) fun x => x.idleStep s.time.clock s.idleFeeNow

/-- The tariff in force changes (R394): each open session begins a new segment. -/
def State.switchTariff (s : State) (t : Nat) : State :=
  if t = s.scribe.tariff then s else
  let s := s.idleAll
  let s := s.modSessions (fun x => x.ended.isNone) fun x =>
    { x with segs := s.sessionSegs x, segStart := mWh (s.regs (ctxOutlet x.ctx)).comp, tariff := t }
  let s := s.modScribe fun x => { x with tariff := t }
  s.idleAll

/-! ### Demand intervals (R402 to R407) -/

/-- Flags as bits of word 1 of an interval record (Table 10.8). -/
def MFlag.intervalBit : MFlag → Nat
  | .repeated => 31
  | .powerFail => 30
  | .short => 29
  | .step => 28
  | .invalidTime => 27
  | .sealBroken => 26
  | .inputFault => 25
  | .compDefault => 24
  | _ => 0

/-- Flags as bits of word 1 of a receipt (Table 10.10). -/
def MFlag.receiptBit : MFlag → Nat
  | .nonLegal => 15
  | .undated => 14
  | .solo => 13
  | .noCounter => 12
  | .repeated => 11
  | .powerFail => 10
  | .compDefault => 9
  | .inputFault => 8
  | .prepaid => 7
  | .discounted => 6
  | _ => 0

/-- A set of flags as a word; a flag without a place in it counts nothing. -/
def flagWord (bitOf : MFlag → Nat) (l : List MFlag) : Nat :=
  l.foldl (fun a f => if bitOf f = 0 then a else a ||| 2 ^ bitOf f) 0

/-- The demand of a closed interval enters an outlet's monthly maximum (R403). -/
def State.demandMax (s : State) (o energy : Nat) (sec : Rat) (at_ : Nat) : State :=
  if sec = 0 then s else
  let d := ((energy : Rat) * 36 / 10 / sec).floor.toNat
  if (s.regs o).max.1 < d then s.modRegs o fun r => { r with max := (d, at_) } else s

/-- The interval in progress closes with its record (R402, R403), ending at TAI second `at_` where it is known; tamper type 8
counts per outlet (Table 11.6). -/
def State.closeInterval (s : State) (more : List MFlag) (at_ : Option Nat) : State :=
  let iv := s.scribe.core.interval
  let flags := more.foldl addFlag iv.flags
  let outs := (List.range 64).map (· + 1)
  let energy := outs.map fun o => mWh (s.regs o).comp - iv.energy.getD (o - 1) 0
  let rec_ : IntervalRec :=
    { seq := s.scribe.core.seq + 1, flags, startScribe := iv.startScribe, startWall := iv.startWall.getD 0
      durationMs := (iv.seconds * 1000).floor.toNat, energy }
  let s := s.modScribe fun x => { x with profile := (rec_ :: x.profile).take 7281, core := { x.core with seq := rec_.seq } }
  let whole := (s.demandLen : Rat) ≤ 2 * iv.seconds && !flags.contains .repeated && !flags.contains .invalidTime
  let s := if whole then outs.foldl (fun s o => s.demandMax o (energy.getD (o - 1) 0) iv.seconds (at_.getD 0)) s else s
  let s := outs.foldl (fun s o =>
    if iv.reverse.getD (o - 1) 0 / 1000 < mWh (s.regs o).rev / 1000 then s.countTamper 8 else s) s
  s.raiseS .intervalClosed [rec_.seq, flagWord MFlag.intervalBit flags]

/-- A new interval begins at TAI second `at_`, where wall time is valid (R402, R406): SHORT unless it begins at an aligned
boundary, REPEATED while a set-back wall time has not been passed again. -/
def State.startInterval (s : State) (flags : List MFlag) (at_ : Option Nat) : State :=
  let outs := (List.range 64).map (· + 1)
  let flags := match at_ with
    | some x => if s.aligned x then flags else addFlag flags .short
    | none => flags
  let flags := if s.scribe.core.highest.isSome then addFlag flags .repeated else flags
  s.modCore fun c => { c with interval :=
    { startScribe := c.time, startWall := at_, endWall := at_.map s.nextAligned, flags
      energy := outs.map fun o => mWh (s.regs o).comp, reverse := outs.map fun o => mWh (s.regs o).rev } }

/-- Month starts (R388): each taken once. Under a broken seal the demand registers are frozen (R385), and keep their months (log 150). -/
def State.monthStart (s : State) (tai : Nat) : State :=
  let m := s.monthOf tai
  match s.scribe.core.month with
  | none => s.modCore fun c => { c with month := some m }
  | some k =>
    if k < m && s.scribe.seal_ = .broken then s.modCore fun c => { c with month := some m }
    else if k < m then
      s.modCore fun c => { c with month := some m, regs := vmap (fun r => { r with prevMax := r.max, max := (0, 0) }) c.regs }
    else s

/-- The wall-time boundaries that have come (R402, R406, R408, R410): interval end, month start, tariff switch. -/
def State.boundaries (s : State) : State :=
  match s.wallSec with
  | none => s.switchTariff s.defaultTariff
  | some now =>
    let s := match s.scribe.core.highest with
      | some h => if h < now then s.modCore fun c => { c with highest := none } else s
      | none => s
    let s := match s.scribe.core.interval.endWall with
      | some e => if e ≤ now then (s.closeInterval [] (some e)).startInterval [] (some now) else s
      | none => s
    (s.monthStart now).switchTariff (s.tariffAt now)

/-- A revision that changes DEMAND_MIN: the interval in progress ends at the first boundary under either length (R404). `was` is the
length before. -/
def State.demandRevision (s : State) (was : Nat) : State :=
  match s.wallSec, s.scribe.core.interval.endWall with
  | some now, some e =>
    if s.demandLen = was then s
    else s.modCore fun c => { c with interval := { c.interval with endWall := some (min e (s.nextAligned now)) } }
  | _, _ => s

/-- Wall time first becomes valid (R405). -/
def State.scribeWallValid (s : State) : State :=
  if !s.scribe.open_ then s else
  let s := (s.endPeriod.closeInterval [.invalidTime] s.wallSec).startInterval [] s.wallSec
  match s.wallSec with
  | some now => (s.monthStart now).switchTariff (s.tariffAt now)
  | none => s

/-- A wall-time step, old and new TAI seconds (R406, R407). -/
def State.scribeWallStep (s : State) (old new : Nat) (back : Bool) : State :=
  if !s.scribe.open_ then s else
  let s := s.endPeriod.closeInterval [.step] (some old)
  if back then
    let s := s.modCore fun c => { c with highest := some (max old (c.highest.getD 0)) }
    let s := s.startInterval [] (some new)
    let s := s.modSessions (fun _ => true) fun x => { x with flags := addFlag x.flags .repeated }
    ((s.switchTariff (s.tariffAt new)).raiseS .clockSetBack [old, new]).countTamper 3
  else
    let s := match s.scribe.core.highest with
      | some h => if h < new then s.modCore fun c => { c with highest := none } else s
      | none => s
    let s := s.startInterval [.step, .short] (some new)
    (s.monthStart new).switchTariff (s.tariffAt new)

/-! ### Sessions (R399, R415) -/

/-- A session begins at the mark of its entry to CHECKS (R375, R399). -/
def State.sessionStart (s : State) (ctx protocol idType : Nat) (emaid : List Byte) : State :=
  if !s.scribe.open_ then s else
  let s := s.endPeriod
  let r := s.regs (ctxOutlet ctx)
  let flags := (if s.wall.valid then [] else [MFlag.undated]) ++ (if s.startup.hdr.prepay then [MFlag.prepaid] else []) ++
    (if s.scribe.core.highest.isSome then [MFlag.repeated] else []) ++
    (if vget s.scribe.faulty (ctx / 2) false then [MFlag.inputFault] else [])
  s.modCore fun c => { c with sessions := c.sessions ++
    [{ ctx, protocol, idType, emaid, startWall := s.wallSec, startScribe := c.time, regStart := mWh r.comp
       uncStart := mWh r.unc, revStart := mWh r.rev, tariff := s.scribe.tariff
       fee := ((s.tariffRec s.scribe.tariff).getD 2 0).toNat, segs := [], segStart := mWh r.comp, flags }] }

/-- Idle time begins at the entry to ENDING (R400). -/
def State.sessionIdle (s : State) (ctx : Nat) : State :=
  let s := s.endPeriod
  let r := s.tariffRec s.scribe.tariff
  s.modSessions (fun x => x.ctx = ctx) fun x =>
    { x with idleFrom := some s.time.clock, idleGrace := fld r 0 26 16, idleNext := 0, idleFee := (r.getD 3 0).toNat }

/-- Shortfall increments are entered in the sessions (R259, R401), under the tariff in force. -/
def State.addShorts (s : State) (l : List Shortfall) : State :=
  l.foldl (fun s h => s.modSessions (fun x => x.ctx = h.ctx && x.ended.isNone) fun x =>
    { x with shorts :=
      let k := (h.cause, s.scribe.tariff)
      let old := ((x.shorts.find? fun y => y.1 = k.1 && y.2.1 = k.2).map fun y => y.2.2).getD 0
      (k.1, k.2, old + h.watts * h.durUs) :: x.shorts.filter fun y => !(y.1 = k.1 && y.2.1 = k.2) }) s

/-- A 32-bit word. -/
def u32 (n : Nat) : W32 := BitVec.ofNat 32 n
/-- A 64-bit value in two words, most significant first (R7). -/
def u64 (n : Nat) : List W32 := [u32 (n / 2 ^ 32), u32 n]

/-- Four bytes of a byte list as a word. -/
def wordOfBytes (l : List Byte) (i : Nat) : W32 :=
  u32 ((List.range 4).foldl (fun a k => a * 256 + (l.getD (4 * i + k) 0).toNat) 0)

/-- The compensation bound B in mWh, rounded up (R392). -/
def State.compBound (s : State) (x : Session) : Nat :=
  match s.recAt 0x0902 31 25 (ctxOutlet x.ctx) with
  | none => 0
  | some w =>
    let al : Rat := (fld w 2 31 16 : Rat) / 1000000
    let tol : Rat := (fld w 2 15 0 : Rat) / 10000
    let b := x.q2 * ((w.getD 1 0).toNat : Rat) / 10000000 *
      (al * (t16 w 3 15 0 - t16 w 3 31 16) + tol * (1 + al * (t16 w 3 15 0 - 20)))
    (b * 10 / 36).ceil.toNat

/-- This module runs without a partner (R416). -/
def State.solo (s : State) : Bool := s.pair.st = .solo || s.pair.st = .none || s.pair.st = .detached

/-- The body of a receipt, words 0 to the end of the segments (Table 10.10). -/
def State.receiptBody (s : State) (x : Session) (no endCause used held change : Nat) (flags : List MFlag) : List W32 :=
  let o := ctxOutlet x.ctx
  let r := s.regs o
  let segs := s.segments x
  let short (c : Nat) : W32 := u32 (x.shortMWh fun y => y.1 = c)
  let e := x.ended.getD (0, none, 0)
  [u32 0x59524331, u32 ((100 + 4 * segs.length) * 65536 + flagWord MFlag.receiptBit flags)] ++
  u64 no ++ u64 s.startup.hdr.hubId ++
  u64 (if s.pair.st = .standby then s.ident.partnerSerial else s.ident.serial) ++
  [u32 (o * 2 ^ 25 + x.ctx * 2 ^ 18 + x.protocol * 2 ^ 16 + x.idType * 2 ^ 12 + endCause * 2 ^ 8)] ++
  ((List.range 6).map fun i => if x.idType = 3 then wordOfBytes x.emaid i else 0) ++
  u64 (x.startWall.getD 0 * 2 ^ 16) ++ u64 (e.2.1.getD 0 * 2 ^ 16) ++ u64 (x.startScribe * 2 ^ 24) ++ u64 (e.2.2 * 2 ^ 24) ++
  u64 x.regStart ++ u64 (mWh r.comp) ++ u64 x.uncStart ++ u64 (mWh r.unc) ++
  [u32 (mWh r.rev - x.revStart)] ++ u64 x.q2.floor.toNat ++ [u32 (s.compBound x)] ++
  [u32 (fld (s.tariffRec x.tariff) 0 15 0 * 65536 + segs.length * 256), u32 x.fee, u32 (x.idleMin * 65536),
   u32 x.idleAmount, short 0, short 1, short 2, short 3, u32 (s.discount x segs), u32 held, u32 used, u32 (change * 256),
   u32 (s.total x), u32 s.legalVer, 0] ++
  segs.flatMap fun g => [u32 (g.tariff * 2 ^ 28), u32 g.energy, u32 g.price, u32 g.amount]

/-! ### Commits (R409, R442) -/

/-- The Scribe commits its state to the older of the two copies (R409), and reads the commit back (Table 15.6). -/
def State.scribeCommit (s : State) : State :=
  (s.modScribe fun x => { x with copies := ((x.core, s.tokens, s.tamper) :: x.copies).take 2 }).selfTest 10 true

/-- A metrology log entry (R386). -/
def State.metLogAdd (s : State) (kind : MetLogKind) (role : Option Role) (hash : Nat) (legal : Nat := 0) : State :=
  s.modScribe fun x => { x with metLog :=
    ({ kind, scribe := s.scribeTime, wall := s.wallSec, role, hash, legal } :: x.metLog).take 1024 }

end Sys2Proof.Machine
end

