-- ==== Sys2Proof/Machine/TokenUnit.lean ====
section
/-!
DEFINITION. Tokens (chapter 11): the entry buffer, the decision of R430, lockout, credit and change. The commands that bring
key presses and second marks stand with the Barker and the Scribe.
-/
namespace Sys2Proof.Machine

open Sys2Proof.Config

/-! ### Helpers -/

/-- The token state of outlet `o`, from 1. -/
def State.tok (s : State) (o : Nat) : TokenOutlet := vget s.tokens.outlets (o - 1) {}
def State.modTokens (s : State) (f : Tokens → Tokens) : State := { s with tokens := f s.tokens }
def State.modTok (s : State) (o : Nat) (f : TokenOutlet → TokenOutlet) : State :=
  s.modTokens fun x => { x with outlets := vmapIdx (fun i y => if i + 1 = o then f y else y) x.outlets }

/-- TOKEN_POLICY (Table 11.5). -/
def State.tokenPolicy (s : State) : List W32 := s.rec1 0x0A01
def State.authMin (s : State) : Nat := (s.tokenPolicy.getD 0 0).toNat
def State.creditMax (s : State) : Nat := (s.tokenPolicy.getD 1 0).toNat
def State.changeMin (s : State) : Nat := (s.tokenPolicy.getD 2 0).toNat
def State.stopReserve (s : State) : Nat := fld s.tokenPolicy 3 31 16
/-- ENTRY_TO in ticks. -/
def State.entryTo (s : State) : Nat := fld s.tokenPolicy 3 15 8 * ticksPerSec

/-- Why token entry is not offered on an outlet (R425); nothing is said while it is. A Scribe that is not open decides no token
(R671). -/
def State.tokBarred (s : State) (o : Nat) : Option TokenText :=
  if s.ident.orderN || !s.startup.hdr.prepay || !s.scribe.open_ then some .notOffered
  else if s.scribe.seal_ = .broken then some .sealBroken
  else match (s.tok o).lockEnd with
    | some e => some (.locked (e - s.scribe.core.time))
    | none => none

/-- Line 2 of an outlet's display (R424, R425). -/
def State.line2 (s : State) (o : Nat) : TokenText :=
  match s.tokBarred o with
  | some r => r
  | none => (s.tok o).text

/-- An outcome text is put up for 10 s (R424). -/
def State.showText (s : State) (o : Nat) (x : TokenText) : State :=
  s.modTok o fun y => { y with text := x, textAt := s.time.clock }

/-! ### Token values (Table 11.2) -/

def tokClass (v : Nat) : Nat := v / 2 ^ 64 % 4
def tokId (v : Nat) : Nat := v / 2 ^ 40 % 2 ^ 24
/-- Bits [39:24]. -/
def tokBits (v : Nat) : Nat := v / 2 ^ 24 % 2 ^ 16
/-- MANT * 10^EXP. -/
def tokAmount (v : Nat) : Nat := tokBits v % 2 ^ 14 * 10 ^ (tokBits v / 2 ^ 14)
def tokMac (v : Nat) : BitVec 24 := BitVec.ofNat 24 v

/-- The decimal value of a buffer, first digit most significant (R426). -/
def decimal (l : List (Fin 10)) : Nat := l.foldl (fun a d => a * 10 + d.val) 0

/-- The token MAC of the current generation, if the key unit performs the derivation (R427, R428). -/
def State.macOf (s : State) (cls id bits : Nat) : Option (BitVec 24) × State :=
  match s.boundSlot 5 with
  | none => (none, s)
  | some k =>
    let u := s.useKey k .derive .scribe
    (if u.1 then some (tokenMac s.tokens.gen s.startup.hdr.hubId cls id bits) else none, u.2)

/-! ### Failures and lockout (R431, R433) -/

/-- A failure at an outlet: the fifth within 600 s locks the keypad. -/
def State.tokFail (s : State) (o : Nat) : State :=
  let now := s.scribe.core.time
  let l := now :: (s.tok o).failures.filter fun x => now ≤ x + 600
  if 5 ≤ l.length then
    ((s.modTok o fun y => { y with failures := [], lockEnd := some (now + 600) }).countTamper 5).raiseS
      .keypadLocked [o, now + 600]
  else s.modTok o fun y => { y with failures := l }

/-- An entry of the token log. -/
def State.logToken (s : State) (o v : Nat) (decoded : Bool) (x : TokenText) : State :=
  let e : TokenLogEntry :=
    { outlet := o, cls := if decoded then tokClass v else 0, tokenId := if decoded then tokId v else 0
      amount := if decoded then tokAmount v else 0, outcome := x, scribe := s.scribe.core.time, wall := s.wallSec }
  s.modTokens fun y => { y with log := (e :: y.log).take 4096 }

/-- A token is refused (TOKEN_REFUSED): causes 0 FORMAT, 1 MAC, 2 REPLAY, 3 limit, 4 old generation. A FORMAT failure decodes no
TOKEN_ID. -/
def State.tokRefuse (s : State) (o v cause : Nat) (x : TokenText) : State :=
  ((s.showText o x).logToken o v (cause ≠ 0) x).raiseS .tokenRefused
    (if cause = 0 then [o, 0] else [o, cause, tokId v])

/-! ### Credit (R435, R436) -/

/-- The context of an outlet that is in SETUP to PAUSED. -/
def State.liveCtx (s : State) (o : Nat) : Option Nat :=
  [2 * (o - 1), 2 * (o - 1) + 1].find? fun c =>
    let x := (vget s.barker.ctxs c {}).st
    x = .setup || x = .auth || x = .checks || x = .delivering || x = .paused

/-- CREDIT_HELD of a context. -/
def State.creditOf (s : State) (c : Nat) : Nat :=
  ((s.scribe.core.credits.find? fun x => x.1 = c).map (·.2)).getD 0
def State.setCredit (s : State) (c n : Nat) : State :=
  s.modCore fun x => { x with credits := (c, n) :: x.credits.filter fun y => y.1 ≠ c }

/-- The credit a token accepted now would add to. -/
def State.heldNow (s : State) (o : Nat) : Nat :=
  match s.liveCtx o with
  | some c => s.creditOf c
  | none => (s.tok o).held

/-- Credit is added: to the session in SETUP to PAUSED, else to the outlet, whose hold time restarts (R435). -/
def State.addCredit (s : State) (o n : Nat) : State :=
  match s.liveCtx o with
  | some c => s.setCredit c (s.creditOf c + n)
  | none => s.modTok o fun y => { y with held := y.held + n, holdEnd := some (s.scribe.core.time + 600), holdDue := none }

/-- At plug-in the held credit moves to the session, and a change token leaves the display (R436, R441). -/
def State.plugCredit (s : State) (o c : Nat) : State :=
  (s.setCredit c (s.tok o).held).modTok o fun y => { y with held := 0, holdEnd := none, holdDue := none, change := none }

/-! ### The decision of R430 -/

/-- TOKEN_ID is used up: high and the bitmap of the 4 097 IDs up to it. -/
def Tokens.use (k : Tokens) (id : Nat) : Tokens :=
  let high := max k.high id
  { k with high, used := id :: k.used.filter fun x => high ≤ x + 4096 }

/-- An accepted credit token. -/
def State.takeCredit (s : State) (o v : Nat) : State :=
  let x := TokenText.accepted (tokAmount v)
  ((((s.modTokens (·.use (tokId v))).addCredit o (tokAmount v)).showText o x).logToken o v true x).raiseS
    .tokenAccepted [o, 0, tokId v, tokAmount v]

/-- An accepted key-change token. -/
def State.takeKeyChange (s : State) (o v : Nat) : State :=
  let old := s.tokens.gen
  let x := TokenText.keyChanged (tokBits v)
  let s := s.modTokens fun k => { k with gen := tokBits v, high := 0, used := [] }
  ((((s.showText o x).logToken o v true x).raiseS .tokenAccepted [o, 2, tokId v, 0]).raiseS
    .tokenKeyChanged [old, tokBits v]).countTamper 15

/-- A submission of 20 digits is decided (R430). A derivation that the key unit refuses yields no MAC to agree with. -/
def State.submitToken (s : State) (o : Nat) (digits : List (Fin 10)) : State :=
  let v := decimal digits
  if 2 ^ 66 ≤ v then (s.tokRefuse o v 0 .invalid).tokFail o else
  let m := s.macOf (tokClass v) (tokId v) (tokBits v)
  let s := m.2
  if m.1 ≠ some (tokMac v) then (s.tokRefuse o v 1 .invalid).tokFail o
  else if tokClass v = 3 then
    let x := if tokBits v = 0 then TokenText.testAll else .testShow (s.heldNow o) s.tokens.gen
    (s.showText o x).logToken o v true x
  else if tokClass v = 1 then (s.showText o .redeem).logToken o v true .redeem
  else if tokId v + 4096 < s.tokens.high || (tokId v ≤ s.tokens.high && s.tokens.used.contains (tokId v)) then
    ((s.tokRefuse o v 2 .alreadyUsed).countTamper 6).tokFail o
  else if tokClass v = 0 && s.creditMax < s.heldNow o + tokAmount v then s.tokRefuse o v 3 .creditLimit
  else if tokClass v = 2 && tokBits v ≤ s.tokens.gen then s.tokRefuse o v 4 .oldKey
  else if tokClass v = 0 then s.takeCredit o v
  else s.takeKeyChange o v

/-! ### Key presses (R423) -/

/-- One key press on an outlet whose token entry is offered; other codes of KEY do nothing (Table 9.3). -/
def State.keyPress (s : State) (o key : Nat) : State :=
  if (s.tokBarred o).isSome then s else
  let press (f : TokenOutlet → TokenOutlet) : State := s.modTok o fun y => { f y with lastPress := s.time.clock }
  if 0x30 ≤ key && key ≤ 0x39 then
    press fun y => if y.buffer.length < 20 then { y with buffer := y.buffer ++ [Fin.ofNat 10 (key - 0x30)] } else y
  else if key = 0x08 then press fun y => { y with buffer := y.buffer.dropLast }
  else if key = 0x1B then press fun y => { y with buffer := [] }
  else if key = 0x0D then
    let digits := (s.tok o).buffer
    if digits.length = 20 then (press fun y => { y with buffer := [] }).submitToken o digits
    else (press id).showText o .enter20
  else s

/-- ENTRY_TO has passed since the last press: the buffer is emptied (R423). -/
def State.dropEntryBuffer (s : State) (o : Nat) : State := s.modTok o fun y => { y with buffer := [] }

/-- ENTRY_TIMEOUT (R423): ENTRY_TO after the last press; a press in the expiry tick is in time (R47). -/
def execEntryTimeout (t : Nat) (outlet : OutletNo) (s : State) : Out :=
  let s := s.advance t
  let o := outlet.val + 1
  .next (if (s.tok o).buffer ≠ [] && s.expired (s.tok o).lastPress s.entryTo then
    s.submit (.entryTimeout outlet) (·.dropEntryBuffer o)
  else s)

/-- A submission's text leaves line 2 (R424). -/
def State.dropText (s : State) (o : Nat) : State := s.modTok o fun y => { y with text := .none }

/-- OUTCOME_TEXT_EXPIRY (R424): 10 s after a submission. -/
def execOutcomeTextExpiry (t : Nat) (outlet : OutletNo) (s : State) : Out :=
  let s := s.advance t
  let o := outlet.val + 1
  .next (if (s.tok o).text ≠ .none && s.expired (s.tok o).textAt (10 * ticksPerSec) then
    s.submit (.outcomeTextExpiry outlet) (·.dropText o)
  else s)

/-! ### Change (R437, R440, R441) -/

/-- EXP and MANT of a change amount: the smallest EXP that brings the quotient to 16 383 or less. -/
def changeExp (u : Nat) : Nat := ((List.range 4).find? fun e => u / 10 ^ e ≤ 16383).getD 3

/-- Unused credit is returned (R440): the change token formed, TOKEN_ID, v and amount; the rest goes to the residue register. A
refusal of the key unit leaves the whole to the residue. -/
def State.returnCredit (s : State) (u : Nat) : Option (Nat × Nat × Nat) × State :=
  let rest (n : Nat) (s : State) : State := s.modTokens fun k => { k with residue := k.residue + n }
  if u = 0 || u < s.changeMin then (none, rest u s) else
  let e := changeExp u
  let m := u / 10 ^ e
  let id := s.tokens.changeCounter
  let x := s.macOf 1 id (e * 2 ^ 14 + m)
  match x.1 with
  | none => (none, rest u x.2)
  | some mac =>
    let v := ((2 ^ 24 + id % 2 ^ 24) * 2 ^ 16 + e * 2 ^ 14 + m) * 2 ^ 24 + mac.toNat
    (some (id, v, m * 10 ^ e), (rest (u - m * 10 ^ e) x.2).modTokens fun k =>
      { k with changeCounter := id + 1, issued := (id, v) :: k.issued })

/-- A change token is issued at an outlet: on the display in place of any text (R441, R459). -/
def State.issueChange (s : State) (o : Nat) : Option (Nat × Nat × Nat) → State
  | none => s
  | some x => (s.modTok o fun y => { y with change := some (x.2.1, s.time.clock), text := .none }).raiseS
      .changeIssued [o, x.1, x.2.2]

/-- A change token leaves the display (R441). -/
def State.dropChange (s : State) (o : Nat) : State := s.modTok o fun y => { y with change := none }

/-- CHANGE_DISPLAY_TIMEOUT (R441): 30 min after its issue a change token leaves the display. -/
def execChangeDisplayTimeout (t : Nat) (outlet : OutletNo) (s : State) : Out :=
  let s := s.advance t
  let o := outlet.val + 1
  .next (match (s.tok o).change with
    | some x => if s.expired x.2 (1800 * ticksPerSec) then s.submit (.changeDisplayTimeout outlet) (·.dropChange o) else s
    | none => s)

/-- The module takes its inputs by the journal (R583). -/
def State.byJournal (s : State) : Bool :=
  s.pair.st = .holder || s.pair.st = .solo || s.pair.st = .standby || s.pair.st = .resync

/-- Lockouts and hold times end at a second mark (R434, R437). The credit stays for the plug-ins stamped up to the tick of the mark
(R436). -/
def State.tokSecond (s : State) (o : Nat) : State :=
  let now := s.scribe.core.time
  let x := s.tok o
  let s := match x.lockEnd with
    | some e => if e ≤ now then (s.modTok o fun y => { y with lockEnd := none }).raiseS .keypadUnlocked [o] else s
    | none => s
  match x.holdEnd with
  | some e =>
    if e ≤ now then s.modTok o fun y => { y with holdEnd := none, holdDue := some (if s.byJournal then none else some s.tick) } else s
  | none => s

/-- The journal entry of a mark tells both modules the holder's tick of it. -/
def State.markHolds (s : State) (tick : Nat) : State :=
  s.modTokens fun x => { x with outlets := vmap (fun (y : TokenOutlet) =>
    if y.holdDue = some none then { y with holdDue := some (some tick) } else y) x.outlets }

/-- The held credit of a hold time that ended is returned once every input stamped up to the tick of its mark has taken effect
(R436, R437, R459). -/
def State.settleHold (s : State) (o : Nat) : State :=
  let x := s.tok o
  match x.holdDue with
  | some (some d) =>
    if s.pair.journal.all fun e => d < e.entry.arrival then
      let r := (s.modTok o fun y => { y with held := 0, holdDue := none }).returnCredit x.held
      r.2.issueChange o r.1
    else s
  | _ => s
def State.settleHolds (s : State) : State := (List.range 64).foldl (fun s i => s.settleHold (i + 1)) s

/-- The connection selects a change TOKEN_ID; its 20 digits are then read with GET (R452, Table 11.14). -/
def State.selectChange (s : State) (c : ConnNo) (tokenId : Nat) : State :=
  s.guarded c (dev 136 3 0) .write fun _ s =>
    if tokenId < 2 ^ 24 then (s.modConn c fun k => { k with changeSel := some tokenId }).answer c 0
    else s.answer c 3

/-- CHANGE_TOKEN_LOOKUP (R452, Table 11.14). -/
def execChangeTokenLookup (t : Nat) (c : ConnNo) (tokenId : Nat) (s : State) : Out := .next ((s.advance t).selectChange c tokenId)

end Sys2Proof.Machine
end

