-- ==== Sys2Proof/Machine/Receipts.lean ====
section
/-!
DEFINITION. The close of a session (R399, R415 to R417, R439, R440): the receipt body, its counter-signature, its signature.
-/
namespace Sys2Proof.Machine

open Sys2Proof.Config

/-- Flags that a receipt takes at its close: NON_LEGAL on an FP-6400-N and under a broken seal (R2, R385), DISCOUNTED. -/
def State.closeFlags (s : State) (x : Session) (discount : Nat) : List MFlag :=
  let l := if s.ident.orderN || s.scribe.seal_ = .broken then addFlag x.flags .nonLegal else x.flags
  if 0 < discount then addFlag l .discounted else l

/-- Word 1 of a receipt body with other flags. -/
def withFlags (body : List W32) (flags : List MFlag) : List W32 :=
  body.modify 1 fun w => u32 (w.toNat / 65536 * 65536 + flagWord MFlag.receiptBit flags)

/-- A session closes (R399, R415, R439): its receipt is built, what exceeds the credit is waived, and unused credit returned.
The standby signs its body, SOLO and NO_COUNTER clear in it, and sends the signature (R416). -/
def State.closeSession (s : State) (x : Session) (cause : Nat) (wall : Option Nat) (scribe : Nat) : State :=
  let s := s.idleAll
  let x := ((s.scribe.core.sessions.find? fun y => y.ctx = x.ctx).getD x)
  let x := { x with ended := some (cause, wall, scribe) }
  let o := ctxOutlet x.ctx
  let total := s.total x
  let held := s.creditOf x.ctx
  let used := min total held
  let prepaid := x.flags.contains .prepaid
  let s := if prepaid then s.modTokens fun k => { k with waived := k.waived + (total - held) } else s
  let r := if prepaid then s.returnCredit (held - used) else (none, s)
  let s := r.2
  let no := s.scribe.core.receiptNo + 1
  let flags := s.closeFlags x (s.discount x (s.segments x))
  let body := s.receiptBody x no cause used held ((r.1.map (·.1)).getD 0) flags
  let rec_ : Receipt := { no, ctx := x.ctx, outlet := o, total, flags, body, closedAt := s.time.clock, change := r.1 }
  let s := s.modRegs o fun g => { g with session := mWh g.comp - x.regStart }
  let u := if s.pair.st = .standby then s.useKey 4 .sign .scribe else (false, s)
  let s := u.2
  let rec_ := if u.1 then { rec_ with sent := some (signature 4 body) } else rec_
  s.modScribe fun y =>
    { y with
      building := y.building ++ [rec_]
      core := { y.core with
        receiptNo := no, sessions := y.core.sessions.filter fun z => z.ctx ≠ x.ctx
        credits := y.core.credits.filter fun z => z.1 ≠ x.ctx } }

/-- The receipt of a context that waits for its signature. -/
def State.buildingOf (s : State) (c : Nat) : Option Receipt := s.scribe.building.find? fun r => r.ctx = c

def State.modBuilding (s : State) (c : Nat) (f : Receipt → Receipt) : State :=
  s.modScribe fun y => { y with building := y.building.map fun r => if r.ctx = c then f r else r }

/-- A number in `n` words, most significant first. -/
def wordsOf (n x : Nat) : List W32 := (List.range n).map fun i => u32 (x / 2 ^ (32 * (n - 1 - i)))

/-- Every word before SIGNATURE (Table 10.10, R417). -/
def Receipt.unsigned (r : Receipt) : List W32 :=
  withFlags r.body r.flags ++ (match r.counter with
    | some (serial, sig) => wordsOf 2 serial ++ wordsOf 24 sig
    | none => List.replicate 26 0)

/-- COUNTER_SIGNATURE (R416): the standby's signature of the body arrives while the receipt waits. -/
def execCounterSignature (t : Nat) (ctx : CtxNo) (serial sig : Nat) (s : State) : Out :=
  let s := s.advance t
  .next (match s.buildingOf ctx.val with
    | some r =>
      if s.pair.st = .holder && r.counter.isNone && !r.flags.contains .noCounter then
        s.modBuilding ctx.val fun r => { r with counter := some (serial, sig) }
      else s
    | none => s)

/-- A receipt waits for its counter-signature (R416). -/
def State.waitsCounter (s : State) (r : Receipt) : Bool := !s.solo && r.counter.isNone && !r.flags.contains .noCounter

/-- The receipt goes on without a counter-signature (R416). -/
def State.goNoCounter (s : State) (c : Nat) : State :=
  match s.buildingOf c with
  | some r =>
    if s.waitsCounter r then
      (s.modBuilding c fun r => { r with flags := addFlag r.flags .noCounter }).raiseS .noCounter [r.no]
    else s
  | none => s

/-- NO_COUNTER (R416): a second after the entry to CLOSING no counter-signature has come; one in the expiry tick is in time (R47). -/
def execNoCounter (t : Nat) (ctx : CtxNo) (s : State) : Out :=
  let s := s.advance t
  .next (match s.buildingOf ctx.val with
    | some r =>
      if s.waitsCounter r && s.expired r.closedAt ticksPerSec then s.submit (.noCounter ctx) (·.goNoCounter ctx.val) else s
    | none => s)

/-- The receipt of a context can be signed (R416, R417). -/
def State.signable (s : State) (r : Receipt) : Bool := s.solo || r.counter.isSome || r.flags.contains .noCounter

/-- The holder signs a receipt and stores it (R417); both modules keep it. -/
def State.signReceipt (s : State) (c : Nat) (r : Receipt) : State :=
  let r := if s.solo then { r with flags := addFlag r.flags .solo, counter := none } else r
  let u := if s.pair.st = .standby then (true, s) else s.useKey 4 .sign .scribe
  if !u.1 then u.2 else
  let r := { r with signature := if s.pair.st = .standby then none else some (signature 4 r.unsigned) }
  let s := u.2.modScribe fun y =>
    { y with receipts := (r :: y.receipts).take 1024, building := y.building.filter fun z => z.ctx ≠ c }
  (s.raiseS .sessionReceipt [r.outlet, r.no, r.total, flagWord MFlag.receiptBit r.flags]).issueChange r.outlet r.change

end Sys2Proof.Machine
end

