-- ==== Sys2Proof/Machine/LegEvents.lean ====
section
/-!
DEFINITION. Leg faults and LEGS_OFF (R175 to R188): the reactions that touch legs, groups and laws together.
-/
namespace Sys2Proof.Machine

open Sys2Proof.Config

/-- A leg fault takes effect in the state of both modules (R176, R177, R180): the leg is off and FAULTED, its group coasts, its law
coasts, or stops where too few legs remain (R184, Table 6.5). -/
def State.takeFault (s : State) (n : Nat) (c : LegCause) : State :=
  let g := s.legGroup n
  let st := (s.leg n).st
  if st = .off || st = .switching || st = .inhibited then
    let s := (s.modLeg n fun l =>
      { l with st := .faulted, killed := false, hi := false, lo := false, cycle := none, upcoming := [], next := [], word := {}
               sample := none, faults := l.faults + 1, cause := some c, cleared := false, disagreeRun := 0 }).raise
      .legFault [n, if c = .flt then 0 else 1, g]
    let s := s.decideCoast g
    match s.lawOf g with
    | some l =>
      if (s.law l).st = .running && !s.enoughLegs g then s.stopLaw l .groupStopped else s.coastLaw l .legFault
    | none => s
  else s

/-- A fault is found on a leg. The holder's hardware drives the leg off and lets its group coast at the next stroke boundary; the
latch and what follows from it wait for the EFFECT stamp of the holder's journal entry (R175 to R177, R180). A fault already found
is not entered again. -/
def State.findFault (s : State) (leg : LegNo) (c : LegCause) : State :=
  let n := leg.val
  let l := s.leg n
  if l.killed || !(l.st = .off || l.st = .switching || l.st = .inhibited) then s else
  let s := if s.holds then
      (s.modLeg n fun l => { l with hi := false, lo := false, killed := true }).decideCoast (s.legGroup n)
    else s
  s.submit (.legFault leg (c = .readback)) (·.takeFault n c)

/-- LEG_FAULT (R175, R178, R185): FLT low for 10 ticks is a fault of the leg. Fewer ticks restart the 1 s wait of R185, and none says
that FLT reads high from now on (log 11). A level low before service is known when service begins; an UNUSED leg's has no effect. -/
def execLegFault (t : Nat) (leg : LegNo) (lowTicks : Nat) (s : State) : Out :=
  let s := s.advance t
  let s := s.modLeg leg.val fun l => { l with fltLow := lowTicks ≠ 0, fltHighSince := s.time.clock }
  .next (if 10 ≤ lowTicks then s.findFault leg .flt else s)

/-- READBACK_FAULT (R180): the third consecutive disagreeing stroke on a leg, while this module drives. -/
def execReadbackFault (t : Nat) (leg : LegNo) (s : State) : Out :=
  let s := s.advance t
  .next (if s.holds && (s.legs.legs[leg]).thirdDisagreement then s.findFault leg .readback else s)

/-- Every leg that is not UNUSED, IDLE or FAULTED becomes INHIBITED and every group coasts (R187, Table 5.6). -/
def State.inhibit (s : State) : State :=
  let s := { s with legs := { s.legs with
    legs := vmap (fun l =>
      if l.st = .off || l.st = .switching || l.st = .inhibited then { l.coast with st := .inhibited } else { l.coast with st := l.st })
      s.legs.legs
    groups := vmap (fun g => { g with coasting := true, coastDue := false }) s.legs.groups } }
  (List.range 43).foldl (fun s l => s.coastLaw l .legsOff) s

/-- LEGS_OFF comes into force for the legs (R186, R187). -/
def State.assertLegsOff (s : State) : State :=
  if s.legs.legsOff then s else
  let count := s.legs.legs.toList.countP fun l => l.st = .off || l.st = .switching
  ({ s.inhibit with legs := { s.inhibit.legs with
      legsOff := true, releaseDue := false, offCount := s.legs.offCount + 1, offTick := s.tick } }).raise
    .legsOffAsserted [count]

/-- LEGS_OFF is released: the legs go to OFF at the next stroke boundary (R188). -/
def State.releaseLegsOff (s : State) : State :=
  if s.legs.legsOff then
    ({ s with legs := { s.legs with legsOff := false, releaseDue := true, releaseTick := s.tick } }).raise
      .legsOffReleased [((s.tick - s.legs.offTick) / ticksPerUs : Nat)]
  else s

/-- LEGS_OFF of a module takes effect in the state of both: it is in force while either module asserts it (R467). -/
def State.takeLegsOff (s : State) (side : Side) (on : Bool) : State :=
  let sides := match side with | .own => (on, s.legs.offSides.2) | .partner => (s.legs.offSides.1, on)
  let s : State := { s with legs := { s.legs with offSides := sides } }
  if sides.1 || sides.2 then s.assertLegsOff else s.releaseLegsOff

end Sys2Proof.Machine
end

