-- ==== Sys2Proof/Machine/SafetyNet.lean ====
section
/-!
DEFINITION. The safety net (chapter 12): its section, channels, functions, outputs and reactions. The commands stand in
SafetyCmd.lean, which also knows the sessions they pause.
-/
namespace Sys2Proof.Machine

open Sys2Proof.Config

/-! ### The SAFETY_SECTION (Tables 12.3 and 12.4) -/

/-- A safety function entry. -/
structure FnRec where
  num : Nat
  kind : Nat
  two : Bool
  manual : Bool
  siA : Nat
  siB : Nat
  tpA : Nat
  tpB : Nat
  legs : Bool
  so : Nat
  reset : Nat
  soRef : Nat
  disc : Nat
  pause : Nat
  weld : Nat
  deriving DecidableEq, Repr

/-- Entry `i` of a section payload. -/
def fnOf (w : List W32) (i : Nat) : FnRec :=
  let k := 4 + 5 * i
  { num := fld w k 31 27, kind := fld w k 26 24, two := bit w k 23, manual := bit w k 22, siA := fld w k 21 16
    siB := fld w k 15 10, tpA := fld w k 9 7, tpB := fld w k 6 4, legs := bit w (k + 1) 31, so := fld w (k + 1) 30 23
    reset := fld w (k + 1) 22 17, soRef := fld w (k + 1) 16 14, disc := fld w (k + 1) 13 0, pause := wide w (k + 2) 2
    weld := fld w (k + 4) 31 16 }

/-- The functions of a section. -/
def sectFns (w : List W32) : List FnRec := (List.range (fld w 0 31 26)).map (fnOf w)

/-- The channel inputs of a function. -/
def FnRec.chans (f : FnRec) : List Nat := if f.two then [f.siA, f.siB] else [f.siA]

def State.safeFns (s : State) : List FnRec := sectFns s.safety.sect
def State.fnRec (s : State) (n : Nat) : Option FnRec := s.safeFns.find? fun f => f.num = n
/-- ORPHAN_S in ticks. -/
def State.orphanS (s : State) : Nat := fld s.safety.sect 0 25 20 * ticksPerSec
def State.degradeMin (s : State) : Nat := fld s.safety.sect 0 19 11
def State.soEn (s : State) (n : Nat) : Bool := bit s.safety.sect 2 (24 + n)

/-- The function an input is a channel of. -/
def State.fnOfInput (s : State) (i : Nat) : Option FnRec := s.safeFns.find? fun f => f.chans.contains i

/-- The source of an input declared as a channel (R469). -/
def State.tpOf (s : State) (i : Nat) : Option Nat :=
  (s.fnOfInput i).map fun f => if f.siA = i then f.tpA else f.tpB

/-! ### State access -/

def State.modSafety (s : State) (f : Safety → Safety) : State := { s with safety := f s.safety }
def State.safeIn (s : State) (i : Nat) : SafeIn := vget s.safety.ins i {}
def State.safeFn (s : State) (n : Nat) : SafeFn := vget s.safety.fns n {}
def State.modIn (s : State) (i : Nat) (f : SafeIn → SafeIn) : State :=
  s.modSafety fun x => { x with ins := vmapIdx (fun k y => if k = i then f y else y) x.ins }
def State.modFn (s : State) (n : Nat) (f : SafeFn → SafeFn) : State :=
  s.modSafety fun x => { x with fns := vmapIdx (fun k y => if k = n then f y else y) x.fns }
def State.modOut (s : State) (n : Nat) (f : SafeOut → SafeOut) : State :=
  s.modSafety fun x => { x with outs := vmapIdx (fun k y => if k = n then f y else y) x.outs }

/-- The power die has its supply (R569). -/
def State.powerDie (s : State) : Bool := 165 ≤ s.supply.auxIn

/-! ### Reactions (R480, R483, R467) -/

/-- A function in demand names an output. -/
def State.soDemand (s : State) (n : Nat) : Bool :=
  s.safeFns.any fun f => (s.safeFn f.num).demand && f.so / 2 ^ n % 2 = 1

/-- An output is on (R483, R463, R492). -/
def State.soWanted (s : State) (n : Nat) : Bool :=
  let x := vget s.safety.outs n {}
  x.req && s.soEn n && !x.faulty && !s.soDemand n && !s.safety.netFault && !s.safety.orphanOut && !s.supply.hotShut
    && s.powerDie

/-- Ticks since the dark test of an output began, in the power die's second: SO_n at 125 ms * n for 300 us (R484). -/
def State.darkTicks (s : State) (n : Nat) : Option Nat :=
  let x := (s.time.clock - s.safety.dieAt) % ticksPerSec
  if 125 * n * ticksPerMs ≤ x && x ≤ 125 * n * ticksPerMs + 300 * ticksPerUs then some (x - 125 * n * ticksPerMs) else none

/-- An output that is on is being dark-tested (R484). -/
def State.darkNow (s : State) (n : Nat) : Bool :=
  let x := vget s.safety.outs n {}
  match s.darkTicks n with
  | some d => x.on && x.at_ + d ≤ s.time.clock
  | none => false

/-- The outputs follow their conditions (R483). -/
def State.refreshSo (s : State) : State :=
  s.modSafety fun x => { x with
    outs := vmapIdx (fun n y => if y.on = s.soWanted n then y else { y with on := s.soWanted n, at_ := s.time.clock }) x.outs }

/-- LEGS_OFF is demanded by this module's power die (R463, R480, R490, Table 14.5). -/
def State.legsWanted (s : State) : Bool :=
  s.safety.netFault || (s.safety.orphan.isSome && !s.safety.orphanAct) || s.supply.hotShut || !s.powerDie
    || s.safeFns.any fun f => f.legs && (s.safeFn f.num).demand

/-- The reactions of the safety net follow the demands (R480). The LEGS_OFF line acts on this module's drivers at once; what both modules
make of it takes effect at the EFFECT stamp of the journal (R186, R467). -/
def State.react (s : State) : State :=
  let s := s.refreshSo
  let want := s.legsWanted
  if want = s.safety.legsOwn then s
  else (s.modSafety fun x => { x with legsOwn := want }).submit (.legsOff .own want) (·.takeLegsOff .own want)

/-- The outlets for which this module's own safety net signals a pause, bit 63 outlet 64 (R467, R480). -/
def State.ownPause (s : State) : BitVec 64 :=
  if s.safety.netFault then BitVec.allOnes 64
  else s.safeFns.foldl (fun a f => if (s.safeFn f.num).demand then a ||| BitVec.ofNat 64 f.pause else a) 0

/-- The session pause flag of outlet `o`, from 1 (R353, R463, R467, R480). -/
def State.safetyPause (s : State) (o : Nat) : Bool :=
  (s.safety.pausePartner ||| s.ownPause).getLsbD (o - 1)

/-- The insulation alarm of outlet `o` (R479). -/
def State.insulationAlarm (s : State) (o : Nat) : Bool :=
  s.safeFns.any fun f => f.kind = 2 && (s.safeFn f.num).demand && f.pause / 2 ^ (o - 1) % 2 = 1

/-! ### Functions (R475 to R478) -/

/-- A channel's demand counts: it is not faulty; the input of a weld check is no channel of this kind (R475, R477, R478, R487;
log 23). -/
def State.chanDemand (s : State) (f : FnRec) : Bool :=
  f.kind ≠ 3 && f.chans.any fun i => (s.safeIn i).demand && (s.safeIn i).fault.isNone

/-- The condition of R475. -/
def State.fnWanted (s : State) (f : FnRec) : Bool :=
  let x := s.safeFn f.num
  s.chanDemand f || x.forced || x.weld || x.asked

/-- The cause of a demand: 0 channel, 1 faulty channel, 2 weld check, 3 Ringmaster. -/
def State.fnCause (s : State) (f : FnRec) : Nat :=
  let x := s.safeFn f.num
  if s.chanDemand f then 0 else if x.weld then 2 else if x.forced then 1 else 3

/-- The reactions of a function as one number: LEGS_OFF, R_SO, PAUSE. -/
def FnRec.reactions (f : FnRec) : Int := ((if f.legs then 1 else 0 : Nat) * 2 ^ 72 + f.so * 2 ^ 64 + f.pause : Nat)

/-- A demand ends (R477). -/
def State.endDemand (s : State) (f : FnRec) : State :=
  let since := (s.safeFn f.num).since
  (s.modFn f.num fun x => { x with demand := false }).raise .safetyClear [f.num, ((s.time.clock - since) / ticksPerUs : Nat)]

/-- A function is evaluated: it enters demand, or, with RESTART = auto, leaves it (R475, R477). -/
def State.evalFn (s : State) (f : FnRec) : State :=
  let x := s.safeFn f.num
  let want := s.fnWanted f
  if want && !x.demand then
    (s.modFn f.num fun x => { x with demand := true, cause := s.fnCause f, since := s.time.clock }).raise
      .safetyDemand [f.num, s.fnCause f, f.reactions]
  else if !want && x.demand && !f.manual then s.endDemand f
  else s

/-- Every function is evaluated, and the reactions follow (R462, R480). -/
def State.evalFns (s : State) : State := (s.safeFns.foldl State.evalFn s).react

/-! ### Faulty channels, degraded mode, acknowledgement (R472, R476, R487 to R489) -/

/-- A channel becomes faulty: degraded mode, or forced demand. Causes 0 missing pulse, 1 foreign pulse, 2 discrepancy. -/
def State.faultChannel (s : State) (i cause : Nat) : State :=
  if (s.safeIn i).fault.isSome && !(s.safeIn i).repaired then s else
  match s.fnOfInput i with
  | none => s
  | some f =>
    let s := (s.modIn i fun x => { x with fault := some cause, repaired := false }).raise .channelFault [f.num, i, cause]
    match f.chans.find? fun j => j ≠ i && (s.safeIn j).fault.isNone with
    | some j =>
      if s.degradeMin = 0 then (s.modFn f.num fun x => { x with forced := true }).evalFns
      else if (s.safeFn f.num).degraded then s.evalFns
      else ((s.modFn f.num fun x => { x with degraded := true, minuteAt := s.time.clock }).raise
        .degradedStart [f.num, j]).evalFns
    | none => (s.modFn f.num fun x => { x with forced := true }).evalFns

/-- Elapsed degraded time in ticks (R487). -/
def State.degradedTicks (s : State) (n : Nat) : Nat :=
  let x := s.safeFn n
  x.minutes * 60 * ticksPerSec + (if x.degraded then s.time.clock - x.minuteAt else 0)

/-- A function is acknowledged (R478, R489): after the repair of every faulty channel it leaves forced demand and degraded mode; a
weld latch clears once the input has read high for 1 s. -/
def State.acknowledge (s : State) (f : FnRec) : State :=
  let repaired := f.chans.all fun i => (s.safeIn i).fault.isNone || (s.safeIn i).repaired
  let s := if repaired then
      (f.chans.foldl (fun s i => s.modIn i fun x => { x with fault := none, repaired := false }) s).modFn f.num fun x =>
        { x with forced := false, degraded := false, minutes := 0 }
    else s
  let i := s.safeIn f.siA
  if (s.safeFn f.num).weld && i.level && i.levelAt + ticksPerSec ≤ s.time.clock then
    s.modFn f.num fun x => { x with weld := false }
  else s

/-- The Ringmaster's requests of the outputs in use (R483). -/
def State.requestSo (s : State) (on : Bool) : State :=
  (s.modSafety fun x => { x with outs := vmapIdx (fun n y => { y with req := on && s.soEn n }) x.outs }).react

end Sys2Proof.Machine
end

