-- ==== Sys2Proof/Machine/Barker.lean ====
section
/-!
DEFINITION. The Barker (chapter 9): session contexts, authorisation, pause causes, requests to the Juggler, and the steps a vehicle
message takes. The tunnel and its payloads stand in Tunnel.lean. End causes are those of Table 10.10; pause causes 0 safety,
1 thermal, 2 DIO silent, 3 link.
-/
namespace Sys2Proof.Machine

open Sys2Proof.Config

/-! ### State access and records -/

def State.bctx (s : State) (c : Nat) : Ctx := vget s.barker.ctxs c {}
def State.modCtx (s : State) (c : Nat) (f : Ctx → Ctx) : State :=
  { s with barker := { s.barker with ctxs := vmapIdx (fun i x => if i = c then f x else x) s.barker.ctxs } }
def State.outletDisp (s : State) (o : Nat) : Disp := vget s.barker.disps (o - 1) {}
def State.modDisp (s : State) (o : Nat) (f : Disp → Disp) : State :=
  { s with barker := { s.barker with disps := vmapIdx (fun i x => if i + 1 = o then f x else x) s.barker.disps } }
/-- The contexts of an outlet (R352). -/
def ctxsOf (o : Nat) : List Nat := [2 * (o - 1), 2 * (o - 1) + 1]

/-- The SESSION_POLICY that governs a context: the one of its app-protocol handshake (R367), before it the active one. -/
def State.ctxPol (s : State) (c : Nat) : List W32 := if (s.bctx c).pol = [] then s.rec1 0x0803 else (s.bctx c).pol
def polPnc (p : List W32) : Bool := bit p 0 25
def polEim (p : List W32) : Bool := bit p 0 24
def polTls (p : List W32) : Bool := bit p 0 23
/-- PAUSE_MAX, DIO_PAUSE, DIO_END, CC_HOLD and AUTH_WAIT in ticks (Table 9.10). -/
def polPauseMax (p : List W32) : Nat := fld p 0 15 0 * ticksPerSec
def polDioPause (p : List W32) : Nat := fld p 1 31 24 * 10 * ticksPerMs
def polDioEnd (p : List W32) : Nat := fld p 1 23 16 * 100 * ticksPerMs
def polCcHold (p : List W32) : Nat := fld p 2 31 16 * ticksPerMs
def polAuthWait (p : List W32) : Nat := fld p 3 31 16 * ticksPerSec
/-- PRECHARGE_I in 0.1 A, CC_TOL in 1/256. -/
def polPreI (p : List W32) : Nat := fld p 1 15 0
def polCcTol (p : List W32) : Nat := fld p 2 15 0

/-- The DISPENSER record of an outlet (Table 9.8). -/
def State.dispRec (s : State) (o : Nat) : Option (List W32) := s.recAt 0x0801 31 25 o

/-! ### Outlet measurements (R359, Table 9.6) -/

/-- The highest v_out among the groups attached to an outlet, in 0.1 V, rounded down. -/
def State.outletVoltage (s : State) (o : Nat) : Nat :=
  (List.range 16).foldl (fun (a : Nat) g =>
    if (s.matrix g).st = .attached && (s.matrix g).outlet = o then
      max a (match s.lawOf g with | some l => (s.lawElem l 1 * 10).floor.toNat | none => 0)
    else a) 0

/-- V_RATED of an outlet in 0.1 V; I_MAX in 0.1 A and P_MAX in W, the lower of its CABLE and OUTLET nodes (Table 9.6). -/
def State.outletNode (s : State) (o : Nat) : CNode := (s.policy.nodeFor 5 o).getD default
def State.vRatedOf (s : State) (o : Nat) : Nat := (s.outletNode o).vRated
def State.cableNodes (s : State) (o : Nat) : List CNode :=
  s.outletNode o :: s.policy.nodes.filter fun n => n.kind = 6 && n.parent = (s.outletNode o).node
def State.iMaxOf (s : State) (o : Nat) : Nat :=
  (s.cableNodes o).foldl (fun a n => if n.iMax = 0xFFFF then a else min a (n.iMax * 10)) noLimit
def State.pMaxOf (s : State) (o : Nat) : Nat :=
  (s.cableNodes o).foldl (fun a n => if n.pMax = 0xFFFF then a else min a (n.pMax * 1000)) noLimit

/-! ### Requests (R358, Table 9.5) -/

/-- The cable-check voltage in 0.1 V. -/
def State.ccVoltage (s : State) (c : Nat) : Nat := min (max 5000 (s.bctx c).evMax.1) (s.vRatedOf (ctxOutlet c))

/-- I_REQ, P_REQ and V_MAX of a context from its latest accepted request. -/
def State.formReq (s : State) (c : Nat) : Nat × Nat × Nat :=
  let x := s.bctx c
  let pre := polPreI (s.ctxPol c)
  let v := s.ccVoltage c
  let (evV, evI, evP) := x.evMax
  match x.phase with
  | .none => (0, 0, 0)
  | .discovery => (0, 0, evV)
  | .cable => (pre, pre * v / 100, v)
  | .precharge => (min pre x.target.2, pre * x.target.1 / 100, x.target.1)
  | .delivering =>
    let i := min x.target.2 evI
    if x.protocol = 3 then (i, evP.getD 0, if x.dynamic then evV else min x.target.1 evV)
    else (i, evP.getD (i * s.vRatedOf (ctxOutlet c) / 100), evV)

/-- The requests of a context in CHECKS or DELIVERING are formed anew; PAUSED keeps those of its last delivering. -/
def State.refreshReq (s : State) (c : Nat) : State :=
  let st := (s.bctx c).st
  if st = .checks || st = .delivering then s.modCtx c fun x => { x with req := s.formReq c } else s

/-! ### Transitions of Table 9.4 -/

/-- SETUP to PAUSED. -/
def CtxState.running : CtxState → Bool
  | .setup | .auth | .checks | .delivering | .paused => true
  | _ => false

/-- End causes that send state F and light lamp 2: error, timeout, DIO_END, cable check failed (R348, R732). -/
def badEnd (cause : Nat) : Bool := cause = 3 || cause = 4 || cause = 6 || cause = 8

/-- CHECKED to be unplugged by the outlet's latest DIO (R354). -/
def State.unplugged (s : State) (o : Nat) : Bool :=
  match (s.outletDisp o).dio with
  | some d => d.1.prox = 0 || d.1.pilot = 0
  | none => false

/-- Connected for a plug-in (Table 9.4, FREE). -/
def State.plugged (s : State) (o : Nat) : Bool :=
  match (s.outletDisp o).dio with
  | some d => d.1.prox = 1 && 1 ≤ d.1.pilot && d.1.pilot ≤ 3
  | none => false

/-- A plug-in is held: the module is armed with DRAIN = 1 (R689). -/
def State.drained (s : State) : Bool :=
  match s.update.armed with
  | some a => a.drain
  | none => false

/-- A plug-in stamped in the arc of the quiet boundary at which an activation boundary was named, without DRAIN: the hub was not
quiet there, and the next quiet boundary is awaited (R697). -/
def State.notQuiet (s : State) : State :=
  match s.update.armed with
  | some a => match a.boundary with
    | some b =>
      if !a.drain && s.stamp - s.journalLead + 10 * 32768 ≤ b then
        { s with update := { s.update with armed := some { a with boundary := none } } }
      else s
    | none => s
  | none => s

/-- A vehicle connected at an outlet without a context in SETUP to ENDING is taken by the lower-numbered FREE context, or waits
(R352, R355, R689). -/
def State.plugIn (s : State) (o : Nat) : State :=
  if !s.plugged o || (ctxsOf o).any fun c => (s.bctx c).st.running || (s.bctx c).st = .ending then s else
  match (ctxsOf o).find? fun c => (s.bctx c).st = .free with
  | some c =>
    if s.drained then
      if (s.outletDisp o).waiting then s else (s.modDisp o fun d => { d with waiting := true }).raise .plugWait [o]
    else
      let s := (s.modDisp o fun d => { d with waiting := false }).modCtx c fun _ => { st := .setup, plugAt := s.time.clock }
      let s := if s.startup.hdr.prepay then s.plugCredit o c else s.modTok o fun y => { y with change := none }
      let s := s.modJug fun j => { j with cutRaised := vput j.cutRaised (o - 1) false }
      s.notQuiet.raise .plugIn [o, c]
  | none =>
    if (s.outletDisp o).waiting then s else (s.modDisp o fun d => { d with waiting := true }).raise .plugWait [o]

/-- A plug-in of this tick was taken by the upper context of an outlet whose lower one becomes FREE in the same tick: the
lower-numbered FREE context is the chosen one (R355, R362, log 149), and what the upper has begun with is its own. -/
def State.rechoose (s : State) (c : Nat) : State :=
  let x := s.bctx (c + 1)
  if c % 2 = 0 && x.st = .setup && x.plugAt = s.time.clock && x.protocol = 0 then
    let n := s.creditOf (c + 1)
    let s := (s.modCtx c fun _ => x).modCtx (c + 1) fun _ => {}
    s.modCore fun y => { y with credits := (y.credits.filter fun z => z.1 ≠ c + 1) ++ (if n = 0 then [] else [(c, n)]) }
  else s

/-- A context becomes FREE, and a plug-in that waits is taken (R355). -/
def State.freeCtx (s : State) (c receiptNo : Nat) : State :=
  let s := ((s.modCtx c fun _ => {}).raise .sessionClosed [c, receiptNo]).rechoose c
  if (s.outletDisp (ctxOutlet c)).waiting then s.plugIn (ctxOutlet c) else s

/-- CLOSING is entered (R354, R399, R415): the session's receipt is built; without a session the context is FREE at once and its
credit returned. -/
def State.closeCtx (s : State) (c cause : Nat) : State :=
  let o := ctxOutlet c
  let s := (s.modCtx c fun x =>
    { x with st := .closing, endCause := cause, closedAt := s.time.clock, deliver := false, welding := false
             stateF := false, phase := .none, req := (0, 0, 0) }).raise .sessionEnd [c, cause]
  match s.session c with
  | some x =>
    let s := s.endPeriod
    s.closeSession x cause s.wallSec s.scribe.core.time
  | none =>
    let r := if s.startup.hdr.prepay && s.scribe.open_ then s.returnCredit (s.creditOf c) else (none, s)
    let s := r.2.modCore fun y => { y with credits := y.credits.filter fun z => z.1 ≠ c }
    (s.issueChange o r.1).freeCtx c 0

/-- ENDING moves to CLOSING once the session is stopped and the vehicle unplugged (Table 9.4). -/
def State.tryClose (s : State) (c : Nat) : State :=
  let x := s.bctx c
  if x.st = .ending && x.stopped && s.unplugged (ctxOutlet c) then s.closeCtx c x.endCause else s

/-- A context in SETUP to PAUSED goes to ENDING (Table 9.4). -/
def State.endCtx (s : State) (c cause : Nat) : State :=
  let x := s.bctx c
  if !x.st.running then s else
  let s := (s.modCtx c fun x =>
    { x with st := .ending, endCause := cause, endStamp := s.stamp, phase := .none, req := (0, 0, 0)
             stateF := badEnd cause && !x.deliver }).raise .sessionEnd [c, cause]
  let s := if (s.session c).isSome then s.sessionIdle c else s
  s.tryClose c

/-- Credit is exhausted (R439). -/
def State.creditOut (s : State) (c : Nat) : Bool :=
  match s.session c with
  | some x => x.flags.contains .prepaid && s.creditOf c < s.total x + s.stopReserve
  | none => false

/-! ### Pause causes (R353, R356) -/

/-- The pause causes present at an outlet. -/
def State.pauseCauses (s : State) (o : Nat) : List Nat :=
  let d := s.outletDisp o
  (if s.safetyPause o then [0] else []) ++ (if s.thermalPause o then [1] else []) ++
    (if d.silent then [2] else []) ++ (if d.linkDown then [3] else [])

/-- A context follows the pause causes of its outlet. -/
def State.pauseCtx (s : State) (c : Nat) : State :=
  let x := s.bctx c
  let l := s.pauseCauses (ctxOutlet c)
  let val : List Int := (c : Int) :: l.map fun (n : Nat) => (n : Int)
  match x.st with
  | .delivering =>
    if l = [] then s
    else (s.modCtx c fun x => { x with st := .paused, causes := l, pausedAt := s.time.clock }).raise .sessionPaused val
  | .paused =>
    if l = [] then
      ((s.modCtx c fun x => { x with st := .delivering, causes := [] }).refreshReq c).raise .sessionResumed
        [c, ((s.time.clock - x.pausedAt) / ticksPerMs : Nat)]
    else
      let s' := s.modCtx c fun x => { x with causes := l }
      if l.all fun n => x.causes.contains n then s' else s'.raise .sessionPaused val
  | .checks =>
    -- An insulation alarm fails a cable check in progress (R359).
    if x.phase = .cable && !x.ccOk && s.insulationAlarm (ctxOutlet c) then s.endCtx c 8 else s
  | _ => s

/-- The contexts that deliver, pause or check their cable follow the causes of their outlets. -/
def State.pauseScan (s : State) : State := (List.range 128).foldl State.pauseCtx s

/-- What a context in CHECKS waits for at its outlet: the cable-check voltage held, precharge complete (R359). -/
def State.checkVoltage (s : State) (c : Nat) : State :=
  let x := s.bctx c
  if x.st ≠ .checks then s else
  let v := s.outletVoltage (ctxOutlet c)
  match x.phase with
  | .cable =>
    let w := s.ccVoltage c
    let near : Bool := decide ((max v w - min v w) * 256 ≤ w * polCcTol (s.ctxPol c))
    s.modCtx c fun x => { x with ccSince := if near then some (x.ccSince.getD s.time.clock) else none }
  | .precharge =>
    let w := x.target.1
    s.modCtx c fun x => { x with precharged := decide (max v w - min v w ≤ 200) }
  | _ => s

def State.checkVoltages (s : State) : State := (List.range 128).foldl State.checkVoltage s

/-! ### Authorisation (R336, R337) -/

/-- A decision of R337: authorised, still Ongoing, refused. -/
inductive AuthResult where | granted | ongoing | refused
  deriving DecidableEq, Repr

/-- R337 for a context and an identification. -/
def State.authorise (s : State) (c : Nat) (id : IdKind) (contractOk : Bool) : AuthResult :=
  let x := s.bctx c
  let p := s.ctxPol c
  let prepay := s.startup.hdr.prepay
  let credit : Bool := decide (s.authMin ≤ s.creditOf c)
  match id with
  | .eim => if prepay then (if credit then .granted else .ongoing) else if polEim p then .granted else .refused
  | .pnc =>
    if !(polPnc p && 2 ≤ x.protocol && x.tls && contractOk) then .refused
    else if prepay && !credit then .ongoing else .granted

/-- AUTH to CHECKS (R353, R399): the delivering flag is set and the session begins. -/
def State.grant (s : State) (c : Nat) : State :=
  let x := s.bctx c
  let idType : Nat := match x.ident with | some .pnc => 3 | _ => if s.startup.hdr.prepay then 2 else 1
  let s := (s.modCtx c fun x => { x with st := .checks, deliver := true }).raise .sessionAuthorised [c, idType, x.protocol]
  s.sessionStart c x.protocol idType (if idType = 3 then x.emaid else [])

/-- An authorisation still Ongoing is granted once the credit has come (R337). -/
def State.retryAuth (s : State) (c : Nat) : State :=
  let x := s.bctx c
  match x.st, x.ident with
  | .auth, some id => if s.authorise c id true = .granted then s.grant c else s
  | _, _ => s

/-- An authorisation still Ongoing after AUTH_WAIT ends the session (R337, R362). Reasons: 0 refused, 1 AUTH_WAIT. -/
def State.authExpired (s : State) (c : Nat) : State :=
  let s := s.retryAuth c
  if (s.bctx c).st = .auth then (s.raise .sessionRefused [c, 1]).endCtx c 4 else s

/-- AUTH_WAIT (R337, R362). -/
def execAuthWait (t : Nat) (ctx : CtxNo) (s : State) : Out :=
  let s := s.advance t
  let c := ctx.val
  .next (if (s.bctx c).st = .auth && s.expired (s.bctx c).authAt (polAuthWait (s.ctxPol c)) then
    s.submit (.authWait ctx) (·.authExpired c)
  else s)

/-! ### Vehicle messages (R331, R334, R360, R367) -/

/-- The protocol chosen among those offered (R331, R367). -/
def State.chooseProtocol (s : State) (o : Nat) (p : List W32) (offered : List (Fin 4)) (tls : Bool) : Option Nat :=
  let mask := fld ((s.dispRec o).getD []) 0 21 19
  let ok (q : Nat) : Bool :=
    q ≠ 0 && offered.any (fun x => x.val = q) && mask / 2 ^ (q - 1) % 2 = 1
      && (q ≠ 3 || tls) && (q ≠ 2 || tls || !polTls p)
  [fld p 0 31 30, fld p 0 29 28, fld p 0 27 26].find? ok

/-- What a response tells after parameter discovery (Table 9.6): present maximum current and power, zero in PAUSED, present
voltage and current, and but for DIN SPEC 70121 the session energy in mWh. -/
def State.presentVals (s : State) (c : Nat) : List Int :=
  let o := ctxOutlet c
  let ink := if (s.bctx c).st = .paused then (0, 0) else s.juggler.ink.outlets.getD (o - 1) (0, 0)
  let e := match s.session c with
    | some x => mWh (s.regs o).comp - x.regStart
    | none => 0
  [(ink.2 : Int), (ink.1 : Int), (s.outletVoltage o : Int), (s.outletCurrent o * 10).floor] ++
    (if (s.bctx c).protocol = 1 then [] else [(e : Int)])

/-- A response: 0 OK, 1 Ongoing, 2 FAILED, 3 sequence error, 4 V2GTP error; with its values. -/
def State.respond (s : State) (c code : Nat) (vals : List Int := []) : State :=
  s.modCtx c fun x => { x with reply := (code : Int) :: vals }

/-- A message out of sequence, or one that does not decode, ends the session (R334). -/
def State.sequenceError (s : State) (c : Nat) : State := (s.respond c 3).endCtx c 3

/-- The vehicle stops its session; where the credit is exhausted in the same message, the end cause is CREDIT (R362). -/
def State.vehicleStop (s : State) (c : Nat) : State :=
  (s.respond c 0).endCtx c (if (s.bctx c).st = .delivering && s.creditOut c then 2 else 0)

/-- supportedAppProtocol (R367). -/
def State.msgProtocol (s : State) (c : Nat) (offered : List (Fin 4)) (tls : Bool) : State :=
  if (s.bctx c).st ≠ .setup || (s.bctx c).protocol ≠ 0 then s.sequenceError c else
  let p := s.rec1 0x0803
  match s.chooseProtocol (ctxOutlet c) p offered tls with
  | some q => (s.modCtx c fun x => { x with protocol := q, tls := tls && q ≠ 1, pol := p }).respond c 0 [q]
  | none => (s.respond c 2).endCtx c 3

/-- An authorisation request, from SETUP or repeated in AUTH. -/
def State.msgAuthorization (s : State) (c : Nat) (id : IdKind) (ok : Bool) (emaid : List Byte) : State :=
  let x := s.bctx c
  if !(x.st = .setup && x.protocol ≠ 0 || x.st = .auth) then s.sequenceError c else
  let s := if x.st = .setup then s.modCtx c fun x => { x with st := .auth, authAt := s.time.clock } else s
  let s := s.modCtx c fun x => { x with ident := some id, emaid }
  match s.authorise c id ok with
  | .granted => (s.grant c).respond c 0
  | .ongoing => s.respond c 1
  | .refused => ((s.respond c 2).raise .sessionRefused [c, 0]).endCtx c 3

/-- Parameter discovery in CHECKS. -/
def State.msgDiscovery (s : State) (c v i : Nat) (p : Option Nat) (dynamic : Bool) : State :=
  if (s.bctx c).st ≠ .checks then s.sequenceError c else
  let o := ctxOutlet c
  let s := s.modCtx c fun x =>
    { x with evMax := (v, i, p), dynamic := dynamic && x.protocol = 3, phase := .discovery, ccOk := false, ccSince := none }
  (s.refreshReq c).respond c 0 [s.iMaxOf o, s.pMaxOf o, s.vRatedOf o, polPreI (s.ctxPol c)]

/-- Cable check in CHECKS: Finished once it has passed. -/
def State.msgCableCheck (s : State) (c : Nat) : State :=
  let x := s.bctx c
  if x.st ≠ .checks || x.phase = .none then s.sequenceError c
  else
    let s := if x.phase = .discovery then s.modCtx c fun x => { x with phase := .cable } else s
    let s := ((s.checkVoltage c).refreshReq c).respond c (if x.ccOk then 0 else 1) (s.presentVals c)
    s.pauseCtx c

/-- Precharge in CHECKS after the cable check. -/
def State.msgPreCharge (s : State) (c v i : Nat) (pv : Option Nat) : State :=
  let x := s.bctx c
  if x.st ≠ .checks || !x.ccOk then s.sequenceError c else
  let s := s.modCtx c fun x => { x with phase := .precharge, target := (v, i), presentV := pv <|> x.presentV }
  let s := (s.checkVoltage c).refreshReq c
  s.respond c (if (s.bctx c).precharged then 0 else 1) (s.presentVals c)

/-- PowerDelivery start or stop. -/
def State.msgPowerDelivery (s : State) (c : Nat) (start : Bool) : State :=
  let x := s.bctx c
  match x.st, start with
  | .checks, true =>
    if !x.ccOk then s.sequenceError c else
    let s := (s.modCtx c fun x => { x with st := .delivering, phase := .delivering }).raise .deliveryStart [c]
    ((s.refreshReq c).respond c 0 (s.presentVals c)).pauseCtx c
  | .delivering, true | .paused, true => s.respond c 0 (s.presentVals c)
  | .checks, false | .delivering, false | .paused, false => s.vehicleStop c
  | _, _ => s.sequenceError c

/-- A current demand in DELIVERING or PAUSED. In Dynamic control `targetI` is the current that the energy request and the
departure time ask for at the present voltage. -/
def State.msgDemand (s : State) (c v i maxV maxI : Nat) (maxP pv : Option Nat) : State :=
  let x := s.bctx c
  if x.st ≠ .delivering && x.st ≠ .paused then s.sequenceError c else
  let s := s.modCtx c fun x =>
    { x with target := (v, i), evMax := (maxV, maxI, maxP <|> x.evMax.2.2), presentV := pv <|> x.presentV }
  (s.refreshReq c).respond c 0 (s.presentVals c)

/-- One vehicle message. A context in FREE or CLOSING takes none; in ENDING only welding detection and the stop act. -/
def State.vehicleMsg (s : State) (c : Nat) (m : V2g) : State :=
  let x := s.bctx c
  match m with
  | .tcpClosed => ((s.modCtx c fun x => { x with stopped := true }).endCtx c 3).tryClose c
  | .undecodable => s.sequenceError c
  | .tooLarge len =>
    if len ≤ 16384 then s
    else (((s.modCtx c fun x => { x with stopped := true }).respond c 4).endCtx c 3).tryClose c
  | .appProtocol offered tls => s.msgProtocol c offered tls
  | .sessionSetup => if x.st = .setup && x.protocol ≠ 0 then s.respond c 0 else s.sequenceError c
  | .serviceSelection ok =>
    if x.st = .setup && x.protocol ≠ 0 then s.respond c (if ok then 0 else 2) else s.sequenceError c
  | .certificateRequest => s.respond c 2
  | .authorization id ok emaid => s.msgAuthorization c id ok emaid
  | .parameterDiscovery v i p dynamic => s.msgDiscovery c v i p dynamic
  | .cableCheck => s.msgCableCheck c
  | .preCharge v i pv => s.msgPreCharge c v i pv
  | .powerDelivery start => s.msgPowerDelivery c start
  | .currentDemand v i mv mi mp pv => s.msgDemand c v i mv mi mp pv
  | .weldingDetection =>
    if x.st = .ending then (s.modCtx c fun x => { x with welding := true }).respond c 0 (s.presentVals c) else s.sequenceError c
  | .sessionStop =>
    ((s.modCtx c fun x => { x with stopped := true, welding := false }).vehicleStop c).tryClose c

/-- A random value of the Barker takes effect. -/
def State.takeRandom (s : State) (ctx : CtxNo) (v : BitVec 64) : State := s.modCtx ctx.val fun x => { x with random := some v }

/-- The Barker draws a random value for a context from the holder's generator, and the journal carries it (R338). A standby takes it
from there. -/
def State.drawRandom (s : State) (ctx : CtxNo) : State :=
  if !s.decides then s else
  let v := randomValue s.free
  let s := (s.nextFree).takeRandom ctx v
  match s.pair.st with
  | .holder | .solo => s.journal (.random ctx v)
  | _ => s

/-- A message needs a random value: the TLS handshake before the app protocol, the session identifier (R338). -/
def asksRandom : V2g → Bool
  | .appProtocol _ tls => tls
  | .sessionSetup => true
  | _ => false

/-- V2G_MESSAGE (R331 to R338, R358 to R360, R367). -/
def execV2gMessage (t : Nat) (ctx : CtxNo) (m : V2g) (s : State) : Out :=
  let s := s.advance t
  let st := (s.bctx ctx.val).st
  .next (if s.startup.mode = .service && (st.running || st = .ending) then
    (if asksRandom m then s.drawRandom ctx else s).vehicleMsg ctx.val m
  else s)

/-- A timeout of the standard has expired (R357). -/
def State.seccExpired (s : State) (c : Nat) : State := if (s.bctx c).st.running then s.endCtx c 4 else s

/-- SECC_TIMEOUT (R357): the stack reports that a timeout of the standard has expired. -/
def execSeccTimeout (t : Nat) (ctx : CtxNo) (s : State) : Out :=
  let s := s.advance t
  .next (if (s.bctx ctx.val).st.running then s.submit (.seccTimeout ctx) (·.seccExpired ctx.val) else s)

/-- CABLE_CHECK (R359): the outlet voltage has stayed within CC_TOL for CC_HOLD without an insulation alarm. -/
def execCableCheck (t : Nat) (ctx : CtxNo) (s : State) : Out :=
  let s := s.advance t
  let c := ctx.val
  let s := (s.checkVoltage c).pauseCtx c
  let x := s.bctx c
  let held : Bool := match x.ccSince with
    | some a => decide (a + polCcHold (s.ctxPol c) ≤ s.time.clock)
    | none => false
  .next (if x.st = .checks && x.phase = .cable && held then s.modCtx c fun x => { x with ccOk := true } else s)

/-- DELIVERING_FLAG_CLEAR (R352, R353): in ENDING the outlet's current has fallen below I_OPEN. -/
def execDeliveringFlagClear (t : Nat) (ctx : CtxNo) (s : State) : Out :=
  let s := s.advance t
  let x := s.bctx ctx.val
  .next (if x.st = .ending && x.deliver && s.outletCurrent (ctxOutlet ctx.val) * 10 < s.policy.iOpen then
    s.modCtx ctx.val fun x => { x with deliver := false, stateF := badEnd x.endCause }
  else s)

/-- A pause has lasted PAUSE_MAX (R352). -/
def State.pauseExpired (s : State) (c : Nat) : State :=
  let s := s.pauseCtx c
  if (s.bctx c).st = .paused then s.endCtx c 5 else s

/-- PAUSE_MAX (R352, R362): PAUSE_MAX has elapsed in PAUSED. -/
def execPauseMax (t : Nat) (ctx : CtxNo) (s : State) : Out :=
  let s := s.advance t
  let c := ctx.val
  .next (if (s.bctx c).st = .paused && s.expired (s.bctx c).pausedAt (polPauseMax (s.ctxPol c)) then
    s.submit (.pauseMax ctx) (·.pauseExpired c)
  else s)

/-- SESSION_RECEIPT (R417): the receipt is signed and stored, and the context leaves CLOSING. -/
def execSessionReceipt (t : Nat) (ctx : CtxNo) (s : State) : Out :=
  let s := s.advance t
  let c := ctx.val
  .next (match s.buildingOf c with
    | some r =>
      if !s.signable r then s else
      let s := s.signReceipt c r
      if (s.buildingOf c).isNone && (s.bctx c).st = .closing then s.freeCtx c r.no else s
    | none => s)

end Sys2Proof.Machine
end

