-- ==== Sys2Proof/Machine/Frames.lean ====
section
/-!
DEFINITION. Handbill tunnel frames as they stand on the wire (R7, R340, Tables 9.2 and 9.3): the fields of a frame received, its payloads,
and the words of the frames that the module sends. A frame is whole words, each with its most significant byte first; `extra` counts the
bytes of a UDP payload that ends inside a word.
-/
namespace Sys2Proof

def Tunnel.magic (f : Tunnel) : Nat := Machine.fld f.words 0 31 16
def Tunnel.version (f : Tunnel) : Nat := Machine.fld f.words 0 15 8
def Tunnel.typ (f : Tunnel) : Nat := Machine.fld f.words 0 7 0
def Tunnel.dir (f : Tunnel) : Bool := Machine.bit f.words 1 31
def Tunnel.auth (f : Tunnel) : Bool := Machine.bit f.words 1 30
def Tunnel.outlet (f : Tunnel) : Nat := Machine.fld f.words 1 23 16
/-- LENGTH: payload bytes. -/
def Tunnel.length (f : Tunnel) : Nat := Machine.fld f.words 1 15 0
def Tunnel.dispId (f : Tunnel) : Nat := Machine.wide f.words 2 2
def Tunnel.seq (f : Tunnel) : Nat := Machine.fld f.words 4 31 0

/-- Words of a payload of `n` bytes: zero bytes follow to the next word boundary (R340). -/
def payWords (n : Nat) : Nat := (n + 3) / 4

/-- The payload, padded. -/
def Tunnel.payload (f : Tunnel) : List W32 := (f.words.drop 5).take (payWords f.length)

/-- The last word is the CRC-32C of all before it (R340, R341). -/
def Tunnel.crcOk (f : Tunnel) : Bool := f.words.getLast? = some (Machine.crc32c f.words.dropLast)

/-- The UDP length matches LENGTH (R340, R341). -/
def Tunnel.lenOk (f : Tunnel) : Bool :=
  f.extra.val = 0 && f.length ≤ 1536 && f.words.length = 6 + payWords f.length + (if f.auth then 2 else 0)

/-- A connector temperature in 1/16 degC; 0x8000 is absent (Table 9.3). -/
def connTemp (w : List W32) (i hi lo : Nat) : Option Int :=
  if Machine.fld w i hi lo = 0x8000 then none else some (Machine.sfld w i hi lo)

/-- The DIO payload to the module (Table 9.3): three words. -/
def Tunnel.dioPay (f : Tunnel) : Option Dio :=
  let w := f.payload
  if f.length = 12 then
    some { pilot := Machine.fld w 0 31 28, prox := Fin.ofNat 4 (Machine.fld w 0 27 26), linkUp := Machine.bit w 0 25
           key := Machine.fld w 0 23 16, keySeq := Machine.fld w 0 15 8
           temps := [connTemp w 1 31 16, connTemp w 1 15 0, connTemp w 2 31 16, connTemp w 2 15 0] }
  else none

/-- The HELLO payload from a dispenser (R349): two words. -/
def Tunnel.helloPay (f : Tunnel) : Option HelloPay :=
  let w := f.payload
  if f.length = 8 then
    some { hwRev := Machine.fld w 0 31 16, fwRev := Machine.fld w 0 15 0, link := Machine.fld w 1 31 24
           channels := Machine.fld w 1 23 16 }
  else none

/-- LINK of a VLINK payload, 0x01 10BASE-T1S or 0x02 HomePlug Green PHY, and the length of the vehicle-link frame that follows it, 14 to
1 514 bytes (R344). -/
def Tunnel.vlinkPay (f : Tunnel) : Option (Nat × Nat) :=
  let link := Machine.fld f.payload 0 31 24
  if (link = 1 || link = 2) && 18 ≤ f.length && f.length ≤ 1518 then some (link, f.length - 4) else none

end Sys2Proof

namespace Sys2Proof.Machine

open Sys2Proof.Config

/-! ### Frames sent -/

/-- The text line that stands for a free text of the module: reasons, and the texts of the test token (R425, R430; log 139). -/
def freeLine (code a b : Nat) : List Byte := (List.range 24).map fun i => freeText code a b (Fin.ofNat 24 i)

/-- Decimal digits as characters, most significant first. -/
def digitsOf (n : Nat) : List Byte := (Nat.toDigits 10 n).map fun c => BitVec.ofNat 8 c.toNat

/-- Characters of a text. -/
def chars (s : String) : List Byte := s.toList.map fun c => BitVec.ofNat 8 c.toNat

/-- A line of 24 characters: what is left over of it holds spaces (log 139). -/
def line24 (l : List Byte) : List Byte := (l ++ List.replicate 24 0x20).take 24

/-- Digits in groups of four separated by single spaces (R424). -/
def grouped : Nat → List Byte → List Byte
  | 0, l => l
  | n + 1, l => if l.length ≤ 4 then l else l.take 4 ++ 0x20 :: grouped n (l.drop 4)

/-- Two digits. -/
def twoDigits (n : Nat) : List Byte := [BitVec.ofNat 8 (48 + n / 10 % 10), BitVec.ofNat 8 (48 + n % 10)]

/-- The outcome texts of Table 11.1; what follows a text stands after one space (log 139). -/
def outcomeText : TokenText → List Byte
  | .none => []
  | .enter20 => chars "ENTER 20 DIGITS"
  | .accepted n => chars "ACCEPTED " ++ digitsOf n
  | .keyChanged g => chars "KEY CHANGED " ++ digitsOf g
  | .invalid => chars "INVALID TOKEN"
  | .alreadyUsed => chars "TOKEN ALREADY USED"
  | .creditLimit => chars "CREDIT LIMIT"
  | .oldKey => chars "TOKEN NOT FOR THIS KEY"
  | .redeem => chars "REDEEM AT VENDOR"
  | .locked n => chars "KEYPAD LOCKED " ++ twoDigits (n / 60) ++ 0x3A :: twoDigits (n % 60)
  | .testAll => freeLine 0 0 0
  | .testShow held g => freeLine 1 held g
  | .sealBroken => freeLine 2 0 0
  | .notOffered => freeLine 3 0 0

/-- Line 1 (R424, R441): the digits entered; with none, the change token that the display shows (log 139). -/
def DioOut.lineOne (d : DioOut) : List Byte :=
  if d.line1 ≠ [] then grouped 5 (d.line1.map fun x => BitVec.ofNat 8 (48 + x.val))
  else match d.change with
    | some c => grouped 5 ((List.replicate 20 0x30 ++ digitsOf c.1).reverse.take 20).reverse
    | none => if d.line2 = .testAll then freeLine 4 0 0 else []

/-- Four bytes as a word, most significant first (R7). -/
def wordOf (l : List Byte) : W32 := u32 (l.foldl (fun a b => a * 256 + b.toNat) 0)

/-- TEXT: two lines of 24 characters, line 1 first. -/
def DioOut.textWords (d : DioOut) : List W32 :=
  let l := line24 d.lineOne ++ line24 (outcomeText d.line2)
  (List.range 12).map fun i => wordOf ((l.drop (4 * i)).take 4)

/-- The DIO payload to a dispenser (Table 9.3): fourteen words. -/
def DioOut.words (d : DioOut) : List W32 := [u32 (d.cp * 2 ^ 28 + d.lamps), u32 (d.textSeq * 2 ^ 16)] ++ d.textWords

/-- A frame that the module sends (R340): header, payload, TAG where AUTH asks for one, CRC-32C. DIR is 1. -/
def frameWords (typ outlet dispId seq : Nat) (tag : Option (BitVec 64)) (payload : List W32) : List W32 :=
  let head := [u32 (0x48420100 + typ), u32 (2 ^ 31 + (if tag.isSome then 2 ^ 30 else 0) + outlet * 2 ^ 16 + 4 * payload.length)] ++
    u64 dispId ++ [u32 seq]
  let body := head ++ payload ++ match tag with
    | some x => u64 x.toNat
    | none => []
  body ++ [crc32c body]

/-- A frame for an outlet's dispenser, or for the group (`o` = 0, TIME). The standby computes it too and discards it (R339). SEQ is the
next transmit SEQ, equal at both modules. -/
def State.sendFrame (s : State) (typ o : Nat) (payload : List W32) : State :=
  let w := (s.dispRec o).getD []
  let id := if o = 0 then 0 else wide w 1 2
  let seq := (s.barker.txSeq + 1) % 2 ^ 32
  let head := [u32 (0x48420100 + typ), u32 (3 * 2 ^ 30 + o * 2 ^ 16 + 4 * payload.length)] ++ u64 id ++ [u32 seq]
  let tag := if 1 ≤ o && bit w 0 22 then some (tunnelTag s.tunnelKey id (head ++ payload)) else none
  { s with barker := { s.barker with txSeq := seq, lastFrame := frameWords typ o id seq tag payload } }

/-! ### Addresses on the vehicle link -/

/-- The five least significant bytes of SHA-256 over HUB_ID and the outlet number, the outlet as one byte (R333, log 140). -/
def State.seccHash (s : State) (o : Nat) : List Nat :=
  let h := sha256Bytes (((u64 s.startup.hdr.hubId).flatMap wordBytes).map BitVec.toNat ++ [o])
  (List.range 5).map fun i => h / 256 ^ (4 - i) % 256

/-- The MAC address of the SECC of an outlet (R333): 0x02, then five bytes of a hash. -/
def State.seccMac (s : State) (o : Nat) : List Nat := 2 :: s.seccHash o

/-- The IPv6 link-local address of a MAC address (R333, R641): fe80::/64 with the modified EUI-64, whose universal bit is inverted. -/
def linkLocal (m : List Nat) : List Nat :=
  [0xFE, 0x80, 0, 0, 0, 0, 0, 0] ++ [m.getD 0 0 ^^^ 2] ++ (m.drop 1).take 2 ++ [0xFF, 0xFE] ++ m.drop 3

/-- The SECC's link-local address on the vehicle link of an outlet (R333). -/
def State.seccAddr (s : State) (o : Nat) : List Nat := linkLocal (s.seccMac o)

end Sys2Proof.Machine
end

