-- ==== Sys2Proof/Machine/Pumps.lean ====
section
/-!
DEFINITION. Pump drives (R502 to R524). The power die works from its own copies of the records, so that it goes on through a
restart of the logic die.
-/
namespace Sys2Proof.Machine

open Sys2Proof.Config

/-! ### The record (Table 13.6) -/

/-- A record as the power die holds it. -/
def State.powerRec (s : State) (typ hi lo i : Nat) : Option (List W32) :=
  (s.drives.recs.find? fun r => r.typ = typ && fld r.payload 0 hi lo = i).map (·.payload)

def State.pumpRec (s : State) (n : Nat) : Option (List W32) := s.powerRec 0x0C01 31 29 n

/-- CAP of a driver (R508). -/
def pumpCap (w : List W32) : Rat :=
  if bit w 0 28 then 1
  else min (98 / 100) (1 - ((20 * fld w 0 26 19 + 400) * fld w 0 18 13 : Nat) / 1000000)

def pumpRetries (w : List W32) : Nat := fld w 0 8 5
/-- DUTY_RAMP per tick. -/
def pumpRamp (w : List W32) : Rat := (fld w 2 15 0 : Rat) / 65536 / ticksPerMs
def orphanDuty (w : List W32) : Rat := (fld w 2 31 16 : Rat) / 65536

/-! ### State access -/

def State.pump (s : State) (n : Nat) : Pump := vget s.drives.pumps n {}
def State.modPump (s : State) (n : Nat) (f : Pump → Pump) : State :=
  { s with drives := { s.drives with pumps := vmapIdx (fun k x => if k = n then f x else x) s.drives.pumps } }

/-- The duty applied at an instant: in RUN it moves towards its target at DUTY_RAMP (R508). -/
def Pump.dutyNow (x : Pump) (w : List W32) (now : Nat) : Rat :=
  if x.st ≠ .run then 0 else
  let d := pumpRamp w * ((now - x.dutyAt : Nat) : Rat)
  if x.duty ≤ x.target then min x.target (x.duty + d) else max x.target (x.duty - d)

/-- The target of a driver changes: the ramp goes on from the present duty. -/
def Pump.retarget (x : Pump) (w : List W32) (now : Nat) (target : Rat) : Pump :=
  { x with duty := x.dutyNow w now, dutyAt := now, target }

/-- The target under a speed command (R508). -/
def pumpTarget (w : List W32) (cmd : Rat) : Rat := if cmd < 2 / 100 then 0 else min cmd (pumpCap w)

/-- DIAG is entered: the tests run (R517, R518). -/
def Pump.diag (x : Pump) (now : Nat) : Pump :=
  { x with st := .diag, diagFailed := none, diagAt := now, duty := 0, target := 0, hsOff := [false, false, false] }

/-- RUN is entered at zero duty (R521); a driver whose sequence went on through orphan mode then ramps to ORPHAN_DUTY (Table 13.12). -/
def Pump.enterRun (x : Pump) (w : List W32) (now : Nat) : Pump :=
  { x with
    st := .run, duty := 0, dutyAt := now, target := if x.orphanHold then orphanDuty w else pumpTarget w x.cmd
    runAt := now, pwmAt := now, diagFailed := none }

/-- A speed command (R508, R519). -/
def State.pumpCommand (s : State) (n : Nat) (cmd : Rat) : State :=
  match s.pumpRec n with
  | none => s
  | some w =>
    let now := s.time.clock
    s.modPump n fun x =>
      let x := { x with cmd, orphanHold := false }
      match x.st with
      | .off => if 2 / 100 ≤ cmd then x.diag now else x
      | .run => x.retarget w now (pumpTarget w cmd)
      | _ => x

/-! ### Faults (R520) -/

/-- Causes: 0 SHORT, 1 STALL, 2 HALL, 3 BST_UV. -/
def State.pumpEvent (s : State) (n cause mask : Nat) : State := s.raise .pumpFault [n, cause, mask, (s.pump n).retries]

/-- A driver in RUN faults: RETRY_WAIT with one retry used, or LATCHED where none is left (R520). -/
def State.faultPump (s : State) (n cause : Nat) : State :=
  match s.pumpRec n with
  | none => s
  | some w =>
    let now := s.time.clock
    let x := s.pump n
    let x' : Pump := { x with duty := 0, target := 0, faults := x.faults.modify cause (· + 1), bstAt := [] }
    if pumpRetries w ≤ x.retries then (s.modPump n fun _ => { x' with st := .latched }).raise .pumpLatched [n]
    else s.modPump n fun _ => { x' with st := .retryWait, retries := x.retries + 1, waitAt := now }

/-! ### Commutation (R504 to R511) -/

/-- The PWM, low-side and off phase of a Hall code A B C, phases 0 to 2 (Table 13.2); none for an invalid code. With DIR = 1 the PWM
and low-side columns are exchanged. -/
def commutation (dir : Bool) (code : Nat) : Option (Nat × Nat × Nat) :=
  let row : Option (Nat × Nat × Nat) := match code with
    | 5 => some (0, 1, 2)
    | 4 => some (0, 2, 1)
    | 6 => some (1, 2, 0)
    | 2 => some (1, 0, 2)
    | 3 => some (2, 0, 1)
    | 1 => some (2, 1, 0)
    | _ => none
  row.map fun r => if dir then (r.2.1, r.1, r.2.2) else r

/-- DEAD in ticks (Table 13.6). -/
def pumpDead (w : List W32) : Nat := 4 * fld w 0 26 19

/-- The part a phase has under a Hall code: 0 PWM, 1 low side, 2 off (Table 13.2). -/
def phasePart (w : List W32) (code phase : Nat) : Nat :=
  match commutation (bit w 0 27) code with
  | some r => if r.1 = phase then 0 else if r.2.1 = phase then 1 else 2
  | none => 2

/-- The ticks passed since the present PWM period began (R505). -/
def Pump.inPeriod (x : Pump) (w : List W32) (now : Nat) : Rat :=
  let period : Rat := (400000 : Rat) / (max 1 (fld w 0 18 13) : Nat)
  let u : Rat := ((now - x.pwmAt : Nat) : Rat)
  u - period * (u / period).floor

/-- The high-side and low-side gate of a phase at an instant (R505, R506, R509, R511). In RUN, the PWM phase has its high side on
for the duty fraction of each period and its low side for the remainder less a dead time either side; the low-side phase holds its
low side on; the off phase holds both off. A phase whose part has changed at a commutation step holds both off for DEAD. A refresh
pulse turns the low side on for 400 ns, DEAD after its start. -/
def Pump.gates (x : Pump) (w : List W32) (now phase : Nat) : Bool × Bool :=
  if x.st ≠ .run || (commutation false x.hall.val).isNone then (false, false) else
  let part := phasePart w x.hall.val phase
  let dead := pumpDead w
  let r := x.refreshAt.getD phase 0
  if 0 < r && r ≤ now && now < r + 2 * dead + 160 then (false, decide (r + dead ≤ now ∧ now < r + dead + 160))
  else if part ≠ phasePart w x.lastHall.val phase && now < x.hallAt + dead then (false, false)
  else match part with
    | 0 =>
      let period : Rat := (400000 : Rat) / (max 1 (fld w 0 18 13) : Nat)
      let u := x.inPeriod w now
      let on := x.dutyNow w now * period
      (decide (u < on) && !x.hsOff.getD phase false, decide (on + (dead : Rat) ≤ u ∧ u + (dead : Rat) < period))
    | 1 => (false, true)
    | _ => (false, false)

/-- HALL_CHANGE (R504, R511): a code stable for 1 us is the next commutation step; a phase whose bootstrap stands above 8.5 V gets its
high side back. -/
def execHallChange (t : Nat) (p : PumpNo) (code : Fin 8) (stableNs : Nat) (bstMv : List Nat) (s : State) : Out :=
  let s := s.advance t
  let now := s.time.clock
  .next (if 1000 ≤ stableNs && code ≠ (s.pump p.val).hall then
    s.modPump p.val fun x => { x with
      hall := code, hallAt := now, lastHall := x.hall
      edges := now :: x.edges.filter fun e => now < e + ticksPerSec
      hsOff := if (commutation false code.val).isSome then
          x.hsOff.mapIdx fun i off => off && decide (bstMv.getD i 0 ≤ 8500)
        else x.hsOff }
  else s)

/-- HALL_FAULT (R506, R544): an invalid code for 10 ms with a duty that is not zero; a change in the sample of the expiry is in time. -/
def execHallFault (t : Nat) (p : PumpNo) (s : State) : Out :=
  let s := s.advance t
  let n := p.val
  let x := s.pump n
  let w := (s.pumpRec n).getD []
  .next (if x.st = .run && (commutation false x.hall.val).isNone && s.expired (max x.hallAt x.runAt) (10 * ticksPerMs)
      && 0 < x.dutyNow w s.time.clock then (s.pumpEvent n 2 0).faultPump n 2
  else s)

/-- STALL (R507): a duty of 0.05 or more and no Hall edge for STALL_MS. -/
def execStall (t : Nat) (p : PumpNo) (s : State) : Out :=
  let s := s.advance t
  let n := p.val
  let x := s.pump n
  let w := (s.pumpRec n).getD []
  .next (if x.st = .run && 5 / 100 ≤ x.dutyNow w s.time.clock
      && s.expired (max x.hallAt x.runAt) (fld w 1 15 0 * ticksPerMs) then (s.pumpEvent n 1 0).faultPump n 1
  else s)

/-- BOOTSTRAP_REFRESH (R509): a phase whose low side has not been on for 400 ns within the last 64 us gets a low-side pulse, at an
instant at which its high side is off; in the sample of a commutation step the step is taken and the pulse waits (Table 13.12). -/
def execBootstrapRefresh (t : Nat) (p : PumpNo) (phase : Fin 3) (sinceLowNs : Nat) (s : State) : Out :=
  let s := s.advance t
  let n := p.val
  let w := (s.pumpRec n).getD []
  .next (if (s.pump n).st = .run && !bit w 0 28 && 64000 ≤ sinceLowNs && !((s.pump n).gates w s.time.clock phase.val).1
      && (s.pump n).hallAt ≠ s.time.clock then
    s.modPump n fun x => { x with refreshes := x.refreshes + 1, refreshAt := x.refreshAt.set phase.val s.time.clock }
  else s)

/-- BST_UV (R511): the high side of the phase goes off; eight events within 1 s are a fault. -/
def execBstUv (t : Nat) (p : PumpNo) (phase : Fin 3) (mv : Nat) (s : State) : Out :=
  let s := s.advance t
  let n := p.val
  let now := s.time.clock
  .next (if (s.pump n).st = .run && mv < 8000 then
    let s := (s.modPump n fun x => { x with
      hsOff := x.hsOff.set phase.val true, bstEvents := x.bstEvents + 1
      bstAt := now :: x.bstAt.filter fun e => now ≤ e + ticksPerSec }).pumpEvent n 3 0
    if 8 ≤ (s.pump n).bstAt.length then (s.modPump n fun x => { x with bstFault := some now }).faultPump n 3 else s
  else s)

/-- Whether a sense input trips (R513, R514): its hard comparator at three times OC_SENSE at any time, its normal comparator at
OC_SENSE once BLANK has passed since the switch turned on, be it that the current began inside blanking. A current at a threshold
trips (log 143). -/
def shortTrips (w : List W32) (x : SenseObs) : Bool :=
  let oc := fld w 1 26 16
  decide (3 * oc ≤ x.ua10) || (decide (oc ≤ x.ua10) && decide (250 * fld w 1 31 27 ≤ x.onNs))

/-- The leg mask of a short (R515): every switch that tripped within 1 us of the first. -/
def shortMask (w : List W32) (obs : List SenseObs) : Nat :=
  let trips := obs.filter (shortTrips w)
  let first := trips.foldl (fun a x => min a x.atNs) ((trips.head?.map (·.atNs)).getD 0)
  (List.range 6).foldl (fun a b => if trips.any fun x => x.sw.val = b && x.atNs ≤ first + 1000 then a + 2 ^ b else a) 0

/-- A short in the sample in which BST_UV has stopped the driver (Table 13.12): the fault's cause is SHORT, with the one retry used. -/
def State.shortForBst (s : State) (n mask : Nat) : State :=
  (s.modPump n fun x => { x with
    bstFault := none, faults := (x.faults.modify 3 (· - 1)).modify 0 (· + 1) }).raise .pumpFault [n, 0, mask, (s.pump n).retries]

/-- PUMP_SHORT (R513 to R515, R544): the first trip stops the driver. -/
def execPumpShort (t : Nat) (p : PumpNo) (obs : List SenseObs) (s : State) : Out :=
  let s := s.advance t
  let n := p.val
  let mask := shortMask ((s.pumpRec n).getD []) obs
  .next (if mask = 0 then s
    else if (s.pump n).st = .run then (s.pumpEvent n 0 mask).faultPump n 0
    else if (s.pump n).bstFault = some s.time.clock then s.shortForBst n mask
    else s)

/-! ### Motor bus and diagnosis (R516 to R518) -/

/-- VM_HOLD (R516): the motor bus outside its band for 10 us, in RUN or DIAG (Table 13.12). -/
def execVmHold (t : Nat) (p : PumpNo) (dv lastedUs : Nat) (s : State) : Out :=
  let s := s.advance t
  let n := p.val
  let w := (s.pumpRec n).getD []
  let st := (s.pump n).st
  .next (if (st = .run || st = .diag) && 10 ≤ lastedUs && (dv < fld w 3 31 16 || fld w 3 15 0 < dv) then
    s.modPump n fun x => { x with st := .vmHold, duty := 0, target := 0, diagFailed := none }
  else s)

/-- VM_RECOVERED (R516): the band regained for 10 ms. -/
def execVmRecovered (t : Nat) (p : PumpNo) (dv lastedMs : Nat) (s : State) : Out :=
  let s := s.advance t
  let n := p.val
  let w := (s.pumpRec n).getD []
  .next (if (s.pump n).st = .vmHold && 10 ≤ lastedMs && fld w 3 31 16 ≤ dv && dv ≤ fld w 3 15 0 then
    s.modPump n fun x => x.diag s.time.clock
  else s)

/-- Test and cause of a failed diagnosis: 0 SHORT_SUPPLY, 1 SHORT_GROUND, 2 to 4 OPEN naming the phase (Table 13.4). -/
def diagCause : DiagResult → Option (Int × Int)
  | .pass => none
  | .shortSupply => some (1, 0)
  | .shortGround => some (2, 1)
  | .openPhase k ph => some (3 + k.val, 2 + ph.val)

/-- The difference of two measured voltages. -/
def apart (a b : Nat) : Nat := if a ≤ b then b - a else a - b

/-- The tests of Table 13.4 in order, each with its failure; tests 1 and 2 are skipped below VM_UV (R518). Where both B and C differ
from A, test 3 names B (log 143). -/
def diagRun (w : List W32) (v : DiagObs) : List (Option DiagResult) :=
  let low := v.vm < 100 * fld w 3 31 16
  [if low then none else some (if 8 * v.vm < 10 * max v.sink.1 (max v.sink.2.1 v.sink.2.2) then .shortSupply else .pass),
    if low then none else some (if v.fromA.1 < 1000 then .shortGround else .pass),
    some (if 500 < apart v.fromA.2.1 v.fromA.1 then .openPhase 0 1
      else if 500 < apart v.fromA.2.2 v.fromA.1 then .openPhase 0 2 else .pass),
    some (if 500 < apart v.fromB.2 v.fromB.1 then .openPhase 1 2 else .pass)]

/-- What the sequence finds: the first failure ends it (R517). -/
def diagResult (w : List W32) (v : DiagObs) : DiagResult :=
  (((diagRun w v).filterMap id).find? fun r => decide (r ≠ .pass)).getD .pass

/-- The tests that the sequence runs: those up to the first failure, without the skipped ones. -/
def diagRuns (w : List W32) (v : DiagObs) (i : Nat) : Bool :=
  ((diagRun w v).getD i none).isSome && ((diagRun w v).take i).all fun r => decide (r.getD .pass = .pass)

/-- PUMP_DIAG (R517, R518): the tests end, each after 5 ms; on a pass the driver runs, else the sequence waits for its repetition. -/
def execPumpDiag (t : Nat) (p : PumpNo) (obs : DiagObs) (s : State) : Out :=
  let s := s.advance t
  let n := p.val
  let x := s.pump n
  let w := (s.pumpRec n).getD []
  let r := diagResult w obs
  let runs := diagRuns w obs
  .next (if x.st = .diag && x.diagFailed.isNone && x.diagAt + ((List.range 4).countP runs) * 5 * ticksPerMs ≤ s.time.clock then
    let s := s.modPump n fun x => { x with
      diagLast := some (r, s.tick)
      diagTests := x.diagTests.mapIdx fun i y =>
        if runs i then some (decide (((diagRun w obs).getD i none).getD .pass = .pass), s.tick) else y }
    match diagCause r with
    | none => s.modPump n fun x => x.enterRun ((s.pumpRec n).getD []) s.time.clock
    | some c => (s.modPump n fun x => { x with diagFailed := some s.time.clock, diagFails := x.diagFails + 1 }).raise .pumpDiag
        [n, c.1, c.2]
  else s)

/-- PUMP_DIAG_REPEAT (R518): 10 s after a failed diagnosis the sequence runs again. -/
def execPumpDiagRepeat (t : Nat) (p : PumpNo) (s : State) : Out :=
  let s := s.advance t
  let n := p.val
  let due : Bool := match (s.pump n).diagFailed with | some f => s.expired f (10 * ticksPerSec) | none => false
  .next (if (s.pump n).st = .diag && due then s.modPump n fun x => x.diag s.time.clock else s)

/-- PUMP_RETRY (Table 13.5): 200 ms in RETRY_WAIT. -/
def execPumpRetry (t : Nat) (p : PumpNo) (s : State) : Out :=
  let s := s.advance t
  let n := p.val
  let x := s.pump n
  .next (if x.st = .retryWait && s.expired x.waitAt (200 * ticksPerMs) then
    if pumpRetries ((s.pumpRec n).getD []) < x.retries then (s.modPump n fun x => { x with st := .latched }).raise .pumpLatched [n]
    else s.modPump n fun x => x.diag s.time.clock
  else s)

/-- PUMP_RETRY_RESET (R520): 60 s of RUN without a fault. -/
def execPumpRetryReset (t : Nat) (p : PumpNo) (s : State) : Out :=
  let s := s.advance t
  let n := p.val
  let x := s.pump n
  .next (if x.st = .run && s.expired x.runAt (60 * ticksPerSec) then s.modPump n fun x => { x with retries := 0 } else s)

/-- LATCHED goes to OFF (R545). -/
def State.opPumpClear (s : State) (c : Caller) (p : PumpNo) : State :=
  (s.modPump p.val fun x => if x.st = .latched then { x with st := .off } else x).reply c 0

/-- PUMP_CLEAR (R545). -/
def execPumpClear (t : Nat) (c : ConnNo) (p : PumpNo) (s : State) : Out :=
  .next ((s.advance t).change c (dev 139 3 p.val) .execute (.pumpClear p) fun c s => s.opPumpClear c p)

/-- DUTY_RAMPED_TO_ZERO (R508): under a command below 0.02 the duty has reached zero. -/
def execDutyRampedToZero (t : Nat) (p : PumpNo) (s : State) : Out :=
  let s := s.advance t
  let n := p.val
  let x := s.pump n
  .next (if x.st = .run && x.cmd < 2 / 100 && !x.orphanHold && x.dutyNow ((s.pumpRec n).getD []) s.time.clock = 0 then
    s.modPump n fun x => { x with st := .off, duty := 0, target := 0 }
  else s)

/-! ### Pumps of the pair (R522, R324, R523) -/

/-- A pump is lost (R522). -/
def pumpLost (x : PumpState × Bool) : Bool :=
  match x.1 with
  | .latched | .retryWait => true
  | .diag => x.2
  | _ => false

/-- The pumps of a loop's mask (Table 8.8). -/
def loopPumps (r : List W32) : List Nat := (List.range 8).filter fun n => bit r 0 (21 + n)

/-- A loop's solo flag follows the partner's pumps: set when all of them are lost, cleared when one runs (R522). -/
def State.soloLoop (s : State) (r : List W32) : State :=
  let k := fld r 0 31 29
  let theirs := (loopPumps r).map fun n => s.drives.partnerPumps.getD n (.off, false)
  let is := s.drives.soloLoops.contains k
  if !is && !theirs.isEmpty && theirs.all pumpLost then
    ({ s with drives := { s.drives with soloLoops := s.drives.soloLoops ++ [k] } }).raise .pumpSoloLoop [k, 1]
  else if is && theirs.any fun x => x.1 = .run then
    ({ s with drives := { s.drives with soloLoops := s.drives.soloLoops.filter (· ≠ k) } }).raise .pumpSoloLoop [k, 0]
  else s

/-- PARTNER_PUMP_STATE (R522). -/
def execPartnerPumpState (t : Nat) (states : List (PumpState × Bool)) (s : State) : Out :=
  let s := s.advance t
  let s := { s with drives := { s.drives with partnerPumps := states } }
  .next ((s.recs 0x0705).foldl State.soloLoop s)

/-- The speed commands of a cooling task (R324, R522): D * SHARE / 256 while paired, D while solo, clamped to 1. -/
def State.pumpSpeeds (s : State) : State :=
  (s.recs 0x0705).foldl (fun s r =>
    let k := fld r 0 31 29
    let d := (vget s.thermal.loops k {}).d
    let paired := (s.pair.st = .holder || s.pair.st = .standby) && !s.drives.soloLoops.contains k
    let cmd : Rat := min 1 (if paired then d * (fld r 0 20 13 : Rat) / 256 else d)
    (loopPumps r).foldl (fun s n => s.pumpCommand n cmd) s) s

/-- Orphan mode (R523, Table 13.12): every driver in RUN ramps to ORPHAN_DUTY, and one whose sequence is under way will. -/
def State.orphanPumps (s : State) : State :=
  (List.range 8).foldl (fun s n => match s.pumpRec n with
    | some w => s.modPump n fun x =>
      let x := { x with orphanHold := x.st ≠ .off && x.st ≠ .latched }
      if x.st = .run then x.retarget w s.time.clock (orphanDuty w) else x
    | none => s) s

/-- Service starts (R518): every driver with a record that is OFF runs its diagnosis. -/
def State.pumpsService (s : State) : State :=
  (List.range 8).foldl (fun s n => match s.pumpRec n with
    | some _ => s.modPump n fun x => if x.st = .off then x.diag s.time.clock else x
    | none => s) s

end Sys2Proof.Machine
end

