-- ==== Sys2Proof/Machine/LoadSwitches.lean ====
section
/-!
DEFINITION. Load switches (R525 to R541) and timer outputs (R542, R543).
-/
namespace Sys2Proof.Machine

open Sys2Proof.Config

/-! ### The record (Table 13.10) -/

/-- A LOAD_SWITCH record's payload; a channel without one behaves as this one (R541). -/
def State.lsRec (s : State) (n : Nat) : List W32 :=
  (s.powerRec 0x0C02 31 27 n).getD [0, BitVec.ofNat 32 (275 * 2 ^ 17 + 10 * 2 ^ 9 + 10 * 2)]

def lsMode (w : List W32) : Nat := fld w 0 26 25
def lsPaired (w : List W32) : Bool := bit w 0 24
def lsRetries (w : List W32) : Nat := fld w 0 23 20
def lsRetryMs (w : List W32) : Nat := fld w 0 19 10 * 10
def lsSlew (w : List W32) : Nat := fld w 1 31 26

/-! ### State access and the command of a channel -/

def State.ls (s : State) (n : Nat) : LoadSw := vget s.drives.ls n {}
def State.modLs (s : State) (n : Nat) (f : LoadSw → LoadSw) : State :=
  { s with drives := { s.drives with ls := vmapIdx (fun k x => if k = n then f x else x) s.drives.ls } }
def State.supplyGroup (s : State) (g : Nat) : SupplyGroup := vget s.drives.groups g {}
def State.modGroupVs (s : State) (g : Nat) (f : SupplyGroup → SupplyGroup) : State :=
  { s with drives := { s.drives with groups := vmapIdx (fun k x => if k = g then f x else x) s.drives.groups } }

/-- The ring enable (R526, R490). -/
def State.ringEnable (s : State) : Bool :=
  (s.pair.st = .holder || s.pair.st = .solo) && s.pair.ringOut && s.safety.orphan.isNone

/-- Load switches work: in service (Table 3.9), and local ones through orphan mode (R490). -/
def State.lsLive (s : State) : Bool :=
  s.powerDie && !s.supply.hotShut && (s.startup.mode = .service || s.safety.orphan.isSome)

/-- A channel is commanded on (R525). -/
def State.lsCommanded (s : State) (n : Nat) : Bool :=
  (s.ls n).input && s.lsLive && (!lsPaired (s.lsRec n) || s.ringEnable)

/-- A channel goes on, off, or waits for its latch (R525, R537). -/
def LoadSw.follow (x : LoadSw) (cmd : Bool) (now : Nat) : LoadSw :=
  match x.st with
  | .off =>
    if cmd then
      if x.hot then { x with st := .retryWait, waitEnd := some now } else { x with st := .turnOn, turnAt := now }
    else x
  | .turnOn | .on => if cmd then x else { x with st := .off, offAt := now }
  | _ => x

/-- Every channel follows its command (R525, R526). -/
def State.refreshLs (s : State) : State :=
  { s with drives := { s.drives with ls := vmapIdx (fun n x => x.follow (s.lsCommanded n) s.time.clock) s.drives.ls } }

/-! ### Faults (R536) -/

/-- Cause numbers: 0 SHORT, 1 OVERLOAD, 2 SLEW, 3 FREEWHEEL, 4 THERMAL. -/
def LsCause.num : LsCause → Nat
  | .short => 0
  | .overload => 1
  | .slew => 2
  | .freewheel => 3
  | .thermal => 4

/-- A fault that turns a channel off uses one retry, or latches it (R536); one turn-off uses no second retry (R544). -/
def State.faultLs (s : State) (n : Nat) (c : LsCause) : State :=
  let x := s.ls n
  let w := s.lsRec n
  let now := s.time.clock
  let s := s.raise .lsFault [n, LsCause.num c, x.retries]
  if lsRetries w ≤ x.retries then
    (s.modLs n fun x => { x with st := .latched, offAt := now, waitEnd := none }).raise .lsLatched [n, LsCause.num c]
  else
    s.modLs n fun x =>
      { x with st := if x.st = .uvHold then .uvHold else .retryWait, retries := x.retries + 1, offAt := now
               waitEnd := some (now + lsRetryMs w * ticksPerMs) }

/-- A channel conducts. -/
def LoadSw.conducts (x : LoadSw) : Bool := x.st = .on || x.st = .turnOn

/-! ### Commands -/

/-- LS_IN_CHANGE (R525). -/
def execLsInChange (t : Nat) (n : LsNo) (level : Bool) (s : State) : Out :=
  let s := s.advance t
  .next (s.modLs n.val fun x => { x with input := level }).refreshLs

/-- LS_TURN_ON_COMPLETE (R532, Table 13.8). -/
def execLsTurnOnComplete (t : Nat) (n : LsNo) (outPct : Nat) (s : State) : Out :=
  let s := s.advance t
  .next (if (s.ls n.val).st = .turnOn && (lsMode (s.lsRec n.val) ≠ 2 || 95 ≤ outPct) then
    s.modLs n.val fun x => { x with st := .on, cleanAt := s.time.clock }
  else s)

/-- LS_SHORT (R529, R532): in current limit, 7 A or in a capacitive ramp 5 A, with the output below half the group supply for 10 us;
in a capacitive ramp below 1 V for 2 ms. A channel that undervoltage has just turned off records its short too (Table 13.12). -/
def execLsShort (t : Nat) (n : LsNo) (o : LsSense) (supplyMv us : Nat) (s : State) : Out :=
  let s := s.advance t
  let x := s.ls n.val
  let ramp := x.st = .turnOn && lsMode (s.lsRec n.val) = 2
  let hit := if ramp then 5000 ≤ o.mA && o.outMv < 1000 && 2000 ≤ us
    else 7000 ≤ o.mA && 2 * o.outMv < supplyMv && 10 ≤ us
  let here := x.conducts || (x.st = .uvHold && x.offAt = s.time.clock && x.waitEnd.isNone)
  .next (if here && hit then s.faultLs n.val .short else s)

/-- LS_OVERLOAD (R530): current above I_TRIP for TRIP_MS. A capacitive ramp is limited to 5 A and does not trip (Table 13.9; log 24). -/
def execLsOverload (t : Nat) (n : LsNo) (mA ms : Nat) (s : State) : Out :=
  let s := s.advance t
  let w := s.lsRec n.val
  let x := s.ls n.val
  .next (if x.conducts && !(x.st = .turnOn && lsMode w = 2) && fld w 1 25 17 * 10 < mA && fld w 1 16 9 ≤ ms then
    s.faultLs n.val .overload
  else s)

/-- LS_SLEW_FAULT (R532): 95 % of the supply not reached within 4 * SLEW_MS + 10 ms of the start of the sequence. -/
def execLsSlewFault (t : Nat) (n : LsNo) (outMv supplyMv : Nat) (s : State) : Out :=
  let s := s.advance t
  let w := s.lsRec n.val
  .next (if (s.ls n.val).st = .turnOn && lsMode w = 2 && 100 * outMv < 95 * supplyMv
      && s.expired (s.ls n.val).turnAt ((4 * lsSlew w + 10) * ticksPerMs) then s.faultLs n.val .slew else s)

/-- The threshold of an open-load check in uA, or none where it does not run (R528). -/
def olThreshold (w : List W32) : OlThreshold → Option Nat
  | .std => if bit w 1 0 then some 50000 else none
  | .fine => if lsMode w = 1 && fld w 0 9 4 ≠ 0 then some (fld w 0 9 4 * 500) else none

/-- LS_OPEN_LOAD (R531): 100 ms of on-time below a threshold sets its flag, above 1.1 times clears it. -/
def execLsOpenLoad (t : Nat) (n : LsNo) (th : OlThreshold) (below : Bool) (uA ms : Nat) (s : State) : Out :=
  let s := s.advance t
  let x := s.ls n.val
  let flag := match th with | .std => x.olStd | .fine => x.olFine
  let set (v : Bool) : State :=
    (s.modLs n.val fun x => match th with
      | .std => { x with olStd := v }
      | .fine => { x with olFine := v }).raise .lsOpenLoad [n.val, (match th with | .std => 0 | .fine => 1), ofBool v]
  .next (match olThreshold (s.lsRec n.val) th with
    | none => s
    | some k =>
      if x.st ≠ .on || ms < 100 then s
      else if below && uA < k && !flag then set true
      else if !below && 11 * k < 10 * uA && flag then set false
      else s)

/-- LS_FREEWHEEL (R534): the output below -3 V for more than 2 us after a turn-off; the third event latches the channel. -/
def execLsFreewheel (t : Nat) (n : LsNo) (outMv : Int) (us : Nat) (s : State) : Out :=
  let s := s.advance t
  let x := s.ls n.val
  .next (if lsMode (s.lsRec n.val) = 3 && !x.conducts && outMv < -3000 && 2 < us then
    let s := (s.modLs n.val fun x => { x with freewheels := x.freewheels + 1 }).raise .lsFault [n.val, LsCause.num .freewheel, x.retries]
    if 3 ≤ x.freewheels + 1 && x.st ≠ .latched then
      (s.modLs n.val fun x => { x with st := .latched, waitEnd := none }).raise .lsLatched [n.val, LsCause.num .freewheel]
    else s
  else s)

/-- RETRY_MS has ended with the latch clear: the channel restarts if commanded (R536, R537). -/
def State.retryLs (s : State) (n : Nat) : State :=
  let x := s.ls n
  let over_ : Bool := match x.waitEnd with | some e => decide (e < s.time.clock) | none => false
  if x.st = .retryWait && over_ && !x.hot then
    s.modLs n fun x =>
      if s.lsCommanded n then { x with st := .turnOn, turnAt := s.time.clock, waitEnd := none }
      else { x with st := .off, waitEnd := none }
  else s

/-- LS_THERMAL (R535, R537): the junction temperature of a channel, in degC. -/
def execLsThermal (t : Nat) (n : LsNo) (degC : Int) (s : State) : Out :=
  let s := s.advance t
  let k := n.val
  let x := s.ls k
  let s := if 150 ≤ degC && !x.warn then (s.modLs k fun x => { x with warn := true }).raise .lsThermalWarn [k, degC, 1]
    else if degC < 135 && x.warn then (s.modLs k fun x => { x with warn := false }).raise .lsThermalWarn [k, degC, 0]
    else s
  .next (if 175 ≤ degC then
    let s := s.modLs k fun x => { x with hot := true }
    if x.conducts then s.faultLs k .thermal else s
  else if degC < 160 && x.hot then (s.modLs k fun x => { x with hot := false }).retryLs k
  else s)

/-- LS_RETRY (R536). -/
def execLsRetry (t : Nat) (n : LsNo) (s : State) : Out := .next ((s.advance t).retryLs n.val)

/-- LS_RETRY_RESET (R538): CLEAR_S of on-time without a fault. -/
def execLsRetryReset (t : Nat) (n : LsNo) (s : State) : Out :=
  let s := s.advance t
  let x := s.ls n.val
  .next (if x.st = .on && s.expired x.cleanAt (fld (s.lsRec n.val) 1 8 1 * ticksPerSec) then
    s.modLs n.val fun x => { x with retries := 0 }
  else s)

/-- LS_SUPPLY_UV (R539): a group below 7.0 V for 20 us. -/
def execLsSupplyUv (t : Nat) (g : VsNo) (mv us : Nat) (s : State) : Out :=
  let s := s.advance t
  .next (if mv < 7000 && 20 ≤ us && !(s.supplyGroup g.val).uv then
    let now := s.time.clock
    (({ s with drives := { s.drives with
      ls := vmapIdx (fun (n : Nat) (x : LoadSw) =>
        if n / 8 = g.val && decide (x.st ≠ LsState.latched) then
          { x with st := LsState.uvHold, offAt := if x.conducts then now else x.offAt }
        else x) s.drives.ls } }).modGroupVs g.val fun x => { x with uv := true, count := x.count + 1 }).raise .lsSupplyUv [g.val, mv, 1]
  else s)

/-- A channel leaves UV_HOLD (R539, Table 13.8). -/
def LoadSw.release (x : LoadSw) (cmd : Bool) (now : Nat) : LoadSw :=
  if x.st ≠ .uvHold then x
  else if x.waitEnd.isSome then { x with st := .retryWait }
  else ({ x with st := .off } : LoadSw).follow cmd now

/-- LS_SUPPLY_RECOVERED (R539): above 7.6 V for 1 ms. -/
def execLsSupplyRecovered (t : Nat) (g : VsNo) (mv us : Nat) (s : State) : Out :=
  let s := s.advance t
  .next (if 7600 < mv && 1000 ≤ us && (s.supplyGroup g.val).uv then
    let s := (s.modGroupVs g.val fun x => { x with uv := false }).raise .lsSupplyUv [g.val, mv, 0]
    { s with drives := { s.drives with
      ls := vmapIdx (fun n x => if n / 8 = g.val then x.release (s.lsCommanded n) s.time.clock else x) s.drives.ls } }
  else s)

/-- LATCHED goes to OFF; retries and freewheel events become zero (R545). -/
def State.opLsClear (s : State) (c : Caller) (n : LsNo) : State :=
  ((s.modLs n.val fun x =>
    { x with st := if x.st = .latched then .off else x.st, retries := 0, freewheels := 0 }).refreshLs).reply c 0

/-- LOAD_SWITCH_CLEAR (R545). -/
def execLoadSwitchClear (t : Nat) (c : ConnNo) (n : LsNo) (s : State) : Out :=
  .next ((s.advance t).change c (dev 140 1 n.val) .execute (.loadSwitchClear n) fun c s => s.opLsClear c n)

/-! ### Timer outputs (R542, R543) -/

def State.timerRec (s : State) (n : Nat) : Option (List W32) := s.recAt 0x0C03 31 27 n

/-- The condition of a timer's SOURCE. -/
def State.timerOn (s : State) (w : List W32) : Bool :=
  s.startup.mode = .service &&
  match fld w 0 26 24 with
  | 1 | 2 | 3 => true
  | 4 => (vget s.barker.ctxs (2 * fld w 0 23 16 - 2) {}).st ≠ .free || (vget s.barker.ctxs (2 * fld w 0 23 16 - 1) {}).st ≠ .free
  | 5 => s.safeFns.any fun f => (s.safeFn f.num).demand
  | 6 => s.thermal.folios.any fun f => f.nodes.any (·.warn)
  | _ => false

/-- The duty of a timer's pulses: DUTY, or the loop's demand for SOURCE 3. -/
def State.timerDuty (s : State) (w : List W32) : Rat :=
  if fld w 0 26 24 = 3 then (vget s.thermal.loops (fld w 0 23 16) {}).d else (fld w 1 31 16 : Rat) / 65536

/-- The level of TMR_nn (R542): low outside service, without a record and under SOURCE 0. -/
def State.timerLevel (s : State) (n : Nat) : Bool :=
  match s.timerRec n with
  | none => false
  | some w =>
    if s.startup.mode ≠ .service || fld w 0 26 24 = 0 then false
    else
      let d := s.timerDuty w
      let hi := s.timerOn w && (fld w 0 15 0 = 0 || decide (1 ≤ d) || (!(vget s.drives.timers n (false, 0)).1 && decide (0 < d)))
      hi ≠ bit w 1 0

/-- TIMER_OUTPUT_PULSE (R542): the end of the high or low phase of a pulsing output. -/
def execTimerOutputPulse (t : Nat) (n : LsNo) (s : State) : Out :=
  let s := s.advance t
  .next (match s.timerRec n.val with
    | none => s
    | some w =>
      let x := vget s.drives.timers n.val (false, 0)
      let f := fld w 0 15 0
      let part := if x.1 then 1 - s.timerDuty w else s.timerDuty w
      if s.timerOn w && f ≠ 0 && part * ticksPerSec ≤ ((s.time.clock - x.2) * f : Nat) then
        { s with drives := { s.drives with timers := vput s.drives.timers n.val (!x.1, s.time.clock) } }
      else s)

end Sys2Proof.Machine
end

