-- ==== Sys2Proof/Machine/Regulators.lean ====
section
/-!
DEFINITION. The regulators BUCK_4 and BUCK_5 (R551 to R565), by index 0 and 1. References are in mV at FB.
-/
namespace Sys2Proof.Machine

open Sys2Proof.Config

/-! ### Module rails (Table 14.3) -/

/-- What the power die's OTP holds for BUCK_0 to BUCK_3 (R566, Table 14.3): the rail in mV, its steady tolerance in 1/1000, the load to be
provided for in A, the frequency in kHz, the place in the start order. -/
structure RailOtp where
  mV : Nat
  tolPermille : Nat
  loadA : Nat
  khz : Nat
  order : Nat
  deriving DecidableEq, Repr

/-- The OTP values of a rail. -/
def railOtp : Nat → RailOtp
  | 0 => { mV := 750, tolPermille := 20, loadA := 24, khz := 400, order := 1 }
  | 1 => { mV := 1050, tolPermille := 20, loadA := 5, khz := 500, order := 2 }
  | 2 => { mV := 1800, tolPermille := 20, loadA := 3, khz := 600, order := 3 }
  | _ => { mV := 3300, tolPermille := 20, loadA := 5, khz := 800, order := 4 }

/-- A voltage lies outside a band, in 1/1000, about the rail's. -/
def RailOtp.outside (x : RailOtp) (permille mV : Nat) : Bool :=
  decide (1000 * mV < (1000 - permille) * x.mV) || decide ((1000 + permille) * x.mV < 1000 * mV)

/-- The reference of a module rail in mV at its output: the four come up in the order of Table 14.3 within step 1, and go down in the
reverse order within one step (R567, log 144). -/
def State.railRef (s : State) (e : Nat) : Nat := if s.supply.rails = .up then (railOtp e).mV else 0

/-! ### The record (Table 14.7) -/

def State.regRec (s : State) (n : Nat) : Option (List W32) := s.powerRec 0x0D01 31 29 (4 + n)
def regKhz (w : List W32) : Nat := fld w 0 28 17
def regRetries (w : List W32) : Nat := fld w 0 4 1
def regKeep (w : List W32) : Bool := bit w 0 11

def State.reg (s : State) (n : Nat) : Reg := vget s.supply.regs n {}
def State.modReg (s : State) (n : Nat) (f : Reg → Reg) : State :=
  { s with supply := { s.supply with regs := vmapIdx (fun k x => if k = n then f x else x) s.supply.regs } }

/-! ### The reference (R555 to R557) -/

/-- The reference moves towards its target, in RAMP_DOWN towards zero, at SLEW_ON rising and SLEW_OFF falling. -/
def Reg.goal (x : Reg) : Rat := if x.st = .rampDown then 0 else x.target

/-- The reference at an instant. -/
def Reg.refNow (x : Reg) (w : List W32) (now : Nat) : Rat :=
  match x.st with
  | .softStart | .run | .rampDown =>
    let ms : Rat := ((now - x.refAt : Nat) : Rat) / ticksPerMs
    if x.ref ≤ x.goal then min x.goal (x.ref + fld w 3 15 8 * ms) else max x.goal (x.ref - fld w 3 7 0 * ms)
  | _ => 0

/-- A state is entered with the reference where it stands. -/
def Reg.enter (x : Reg) (w : List W32) (now : Nat) (st : RegState) : Reg :=
  { x with ref := x.refNow w now, refAt := now, st, stAt := now }

/-- A full soft start from zero reference. -/
def Reg.fromZero (x : Reg) (now : Nat) : Reg := { x with ref := 0, refAt := now, st := .softStart, stAt := now }

/-- Both gates off. -/
def Reg.gatesOff (x : Reg) (now : Nat) (st : RegState) : Reg := { x with ref := 0, refAt := now, st, stAt := now, ov := false }

/-- The target reference of a regulator (R555). -/
def State.regTarget (s : State) (w : List W32) : Nat :=
  let hi := fld w 1 31 21
  if fld w 0 10 8 = 1 then
    let lo := fld w 1 20 10
    let d := (vget s.thermal.loops (fld w 0 7 5) {}).d
    (roundRat (lo + d * ((hi : Rat) - lo))).toNat
  else hi

/-- A new target: the ramp goes on from the present reference (R557). -/
def State.retargetReg (s : State) (n : Nat) : State :=
  match s.regRec n with
  | none => s
  | some w => s.modReg n fun x =>
      { x with ref := x.refNow w s.time.clock, refAt := s.time.clock, target := s.regTarget w }

/-- After a cooling task, regulators with SOURCE 1 get their targets (R555). -/
def State.regTargets (s : State) : State :=
  [0, 1].foldl (fun s n => if fld ((s.regRec n).getD []) 0 10 8 = 1 then s.retargetReg n else s) s

/-- The instant at which service began (step 9). -/
def State.serviceAt (s : State) : Option Nat :=
  (s.startup.done.find? fun x => x.1 = .s9).map fun x => s.time.tick0 + x.2

/-- Service begins (R556, R557): OFF goes to DELAY, a ramp down turns round. Its own oscillator runs at F_KHZ. -/
def State.regsService (s : State) : State :=
  [0, 1].foldl (fun s n => match s.regRec n with
    | none => s
    | some w =>
      let s := s.retargetReg n
      s.modReg n fun x =>
        let x := { x with offAt := none }
        match x.st with
        | .off => { x with st := .delay, stAt := s.time.clock, freq := regKhz w, freqAt := s.time.clock }
        | .rampDown => x.enter w s.time.clock .softStart
        | _ => x) s

/-- A restart, REFUSED or HELD commands the turn-off (R556); with `keep`, a controller in RUN with ORPHAN_KEEP holds on (R559). A
LATCHED controller is OFF after a restart. -/
def State.regsOff (s : State) (keep : Bool) : State :=
  [0, 1].foldl (fun s n => match s.regRec n with
    | none => s
    | some w =>
      s.modReg n fun x =>
        if x.st = .latched then { x with st := .off, retries := 0 }
        else if x.st = .off || (keep && regKeep w && x.st = .run) then x
        else { x with offAt := some s.time.clock }) s

/-! ### Faults and retries (R560 to R564) -/

/-- A fault uses one retry, or latches the controller (R564). Causes of REG_FAULT: 0 OV, 1 short, 2 thermal. -/
def State.faultReg (s : State) (n cause : Nat) (st : RegState) : State :=
  let w := (s.regRec n).getD []
  let x := s.reg n
  let now := s.time.clock
  if regRetries w ≤ x.retries then
    (s.modReg n fun x => x.gatesOff now .latched).raise .regFault [4 + n, cause]
  else s.modReg n fun x => { x.gatesOff now st with retries := x.retries + 1 }

/-- The stage switches. -/
def Reg.switching (x : Reg) : Bool := x.st = .softStart || x.st = .run || x.st = .rampDown

/-! ### The gates of a period (R549, R550, R552, R554) -/

/-- Diode emulation is in force: by DE_EN, and throughout a ramp whatever DE_EN says; in an overvoltage the low side switches
synchronously (R554, R556, R562). -/
def Reg.emulates (x : Reg) (w : List W32) : Bool := !x.ov && (bit w 0 12 || x.st = .softStart || x.st = .rampDown)

/-- The gates of one switching period, in ns from its start: until when the high side is on, and from when to when the low side is. -/
structure GatePeriod where
  high : Rat
  lowFrom : Rat
  lowTo : Rat
  deriving DecidableEq, Repr

/-- What the gates do in a period of `period` ns in which the loop asks for `ask` ns of high side; `zero` is the instant at which
the switch node rises through -2 mV, the current having reached zero. A shorter request than 40 ns skips the period; the low side is
on for at least 60 ns, 10 ns after the high side's end and until 10 ns before the next period; under diode emulation it goes off at
the zero of the current (R549, R550, R554). `limit` is the instant at which BUCK_n_CS exceeds ILIM_MV: the high side goes off there
(R560). -/
def Reg.gates (x : Reg) (w : List W32) (period ask : Rat) (zero limit : Option Rat) : GatePeriod :=
  if !x.switching then { high := 0, lowFrom := 0, lowTo := 0 } else
  let full : Rat := if ask < 40 || x.ov then 0 else min ask (period - 80)
  let high : Rat := match limit with
    | some l => min full l
    | none => full
  let from_ : Rat := high + 10
  let to_ : Rat := match zero with
    | some z => if x.emulates w then min (period - 10) (max z (from_ + 60)) else period - 10
    | none => period - 10
  { high, lowFrom := from_, lowTo := to_ }

/-- The delay in ns of a turn-on after a rising edge of REG_SYNC: SYNC_PHASE in steps of 45 degrees (R552). -/
def syncDelay (w : List W32) (khz : Rat) : Rat := (fld w 0 15 13 : Rat) / 8 * (1000000 / khz)

/-! ### Commands -/

/-- REG_TURN_ON (R556): DLY_ON after service began. -/
def execRegTurnOn (t : Nat) (b : BuckNo) (s : State) : Out :=
  let s := s.advance t
  let n := b.val
  .next (match s.regRec n, s.serviceAt with
    | some w, some at_ =>
      let x := s.reg n
      if (x.st = .delay || x.st = .off) && s.startup.mode = .service && at_ + fld w 3 31 24 * ticksPerMs ≤ s.time.clock then
        (s.retargetReg n).modReg n fun x => x.fromZero s.time.clock
      else s
    | _, _ => s)

/-- REG_TURN_OFF (R556): DLY_OFF after the turn-off was commanded, the reference ramps down; a controller that does not switch goes
OFF. -/
def execRegTurnOff (t : Nat) (b : BuckNo) (s : State) : Out :=
  let s := s.advance t
  let n := b.val
  .next (match s.regRec n, (s.reg n).offAt with
    | some w, some at_ =>
      if at_ + fld w 3 23 16 * ticksPerMs ≤ s.time.clock then
        s.modReg n fun x =>
          let x := { x with offAt := none }
          if x.switching then x.enter w s.time.clock .rampDown else if x.st = .latched then x else x.gatesOff s.time.clock .off
      else s
    | _, _ => s)

/-- REG_RAMP_DONE (Table 14.2). -/
def execRegRampDone (t : Nat) (b : BuckNo) (s : State) : Out :=
  let s := s.advance t
  let n := b.val
  let w := (s.regRec n).getD []
  let x := s.reg n
  let now := s.time.clock
  .next (match x.st with
    | .softStart => if x.refNow w now = x.goal then s.modReg n fun x => { x.enter w now .run with cleanAt := now } else s
    | .rampDown => if x.refNow w now = 0 then s.modReg n fun x => x.gatesOff now .off else s
    | _ => s)

/-- A frequency lies within 20 % of F_KHZ (R552). -/
def inBand (w : List W32) (khz : Nat) : Bool := 4 * regKhz w ≤ 5 * khz && 5 * khz ≤ 6 * regKhz w

/-- The switching frequency in kHz at an instant: it glides at no more than 1 % of F_KHZ in 100 us (R552). -/
def Reg.freqNow (x : Reg) (w : List W32) (now : Nat) : Rat :=
  let goal : Rat := if x.sync then x.syncKhz else regKhz w
  let d : Rat := (regKhz w : Rat) / 100 * ((now - x.freqAt : Nat) : Rat) / (100 * ticksPerUs : Nat)
  if x.freq ≤ goal then min goal (x.freq + d) else max goal (x.freq - d)

/-- REG_SYNC_LOCK (R552): the frequency glides towards REG_SYNC. -/
def execRegSyncLock (t : Nat) (b : BuckNo) (khz : Nat) (s : State) : Out :=
  let s := s.advance t
  let n := b.val
  .next (match s.regRec n with
    | some w =>
      if bit w 0 16 && inBand w khz then
        s.modReg n fun x => { x with freq := x.freqNow w s.time.clock, freqAt := s.time.clock, sync := true, syncKhz := khz }
      else s
    | none => s)

/-- SYNC_LOST (R553): no edge within two periods of F_KHZ, an edge at their end being in time, or the frequency out of band. -/
def execSyncLost (t : Nat) (b : BuckNo) (waitNs khz : Nat) (s : State) : Out :=
  let s := s.advance t
  let n := b.val
  .next (match s.regRec n with
    | some w =>
      if (s.reg n).sync && (decide (2000000 < waitNs * regKhz w) || !inBand w khz) then
        (s.modReg n fun x => { x with freq := x.freqNow w s.time.clock, freqAt := s.time.clock, sync := false }).raise .syncLost [4 + n]
      else s
    | none => s)

/-- REG_HICCUP (R560, R561): 256 consecutive periods in each of which BUCK_n_CS, at least `csMv`, exceeded ILIM_MV, with FB below half the
reference. -/
def execRegHiccup (t : Nat) (b : BuckNo) (o : RegSense) (periods : Nat) (s : State) : Out :=
  let s := s.advance t
  let n := b.val
  let x := s.reg n
  .next (if (x.st = .run || x.st = .softStart) && fld ((s.regRec n).getD []) 2 15 8 < o.csMv && 256 ≤ periods && o.fbPct < 50 then
    let s := s.faultReg n 1 .hiccup
    if (s.reg n).st = .hiccup then s.raise .regHiccup [4 + n, (s.reg n).retries] else s
  else s)

/-- REG_HICCUP_END (R561, R564). -/
def execRegHiccupEnd (t : Nat) (b : BuckNo) (s : State) : Out :=
  let s := s.advance t
  let n := b.val
  let x := s.reg n
  .next (if x.st = .hiccup && !x.hot && x.stAt + fld ((s.regRec n).getD []) 4 31 24 * 10 * ticksPerMs ≤ s.time.clock then
    s.modReg n fun x => x.fromZero s.time.clock
  else s)

/-- REG_FAULT (R562): FB above 115 % for 10 us; the third within 1 s is a fault. Below 105 % the high side switches again. -/
def execRegFault (t : Nat) (b : BuckNo) (fbPct us : Nat) (s : State) : Out :=
  let s := s.advance t
  let n := b.val
  let x := s.reg n
  let now := s.time.clock
  .next (if (x.st = .run || x.st = .softStart) && !x.ov && 115 < fbPct && 10 ≤ us then
    let s := (s.modReg n fun x =>
      { x with ov := true, cleanAt := now, ovAt := now :: x.ovAt.filter fun e => now ≤ e + ticksPerSec }).raise .regFault [4 + n, 0]
    if 3 ≤ (s.reg n).ovAt.length then (s.modReg n fun x => { x with ovAt := [] }).faultReg n 0 .retryWait else s
  else if fbPct < 105 then s.modReg n fun x => { x with ov := false }
  else s)

/-- A controller's junction temperature (R563, R564). -/
def State.regTemp (s : State) (n : Nat) (degC : Int) : State :=
  let x := s.reg n
  let s := if 135 ≤ degC && !x.warn then (s.modReg n fun x => { x with warn := true }).raise .regThermal [4 + n, degC, 1]
    else if degC < 120 && x.warn then (s.modReg n fun x => { x with warn := false }).raise .regThermal [4 + n, degC, 0]
    else s
  if 150 ≤ degC then
    let s := s.modReg n fun x => { x with hot := true }
    if x.switching then s.faultReg n 2 .retryWait else s
  else if degC < 135 then s.modReg n fun x => { x with hot := false }
  else s

/-- REG_THERMAL (R563). -/
def execRegThermal (t : Nat) (b : BuckNo) (degC : Int) (s : State) : Out := .next ((s.advance t).regTemp b.val degC)

/-- REG_RETRY_WAIT_END (Table 14.2). -/
def execRegRetryWaitEnd (t : Nat) (b : BuckNo) (s : State) : Out :=
  let s := s.advance t
  let n := b.val
  let x := s.reg n
  .next (if x.st = .retryWait && !x.hot && x.stAt + 10 * ticksPerMs ≤ s.time.clock then
    s.modReg n fun x => x.fromZero s.time.clock
  else s)

/-- REG_PG (R558): FB outside 8 % of the reference for 1 ms; the output voltage is FB * DIV. -/
def execRegPg (t : Nat) (b : BuckNo) (fbPermille ms : Nat) (s : State) : Out :=
  let s := s.advance t
  let n := b.val
  let x := s.reg n
  let w := (s.regRec n).getD []
  let out := (x.refNow w s.time.clock * fbPermille / 1000 * (fld w 2 31 16 : Rat) / 256).floor
  .next (if !x.switching then s
  else if fbPermille < 920 || 1080 < fbPermille then
    if 1 ≤ ms && x.pg then (s.modReg n fun x => { x with pg := false }).raise .regPg [4 + n, out] else s
  else s.modReg n fun x => { x with pg := true })

/-- REG_RETRY_RESET (R564): CLEAR_S of RUN without a fault. -/
def execRegRetryReset (t : Nat) (b : BuckNo) (s : State) : Out :=
  let s := s.advance t
  let n := b.val
  let x := s.reg n
  .next (if x.st = .run && x.cleanAt + fld ((s.regRec n).getD []) 4 23 16 * ticksPerSec ≤ s.time.clock then
    s.modReg n fun x => { x with retries := 0 }
  else s)

/-- LATCHED goes to OFF (R577). -/
def State.opRegClear (s : State) (c : Caller) (b : BuckNo) : State :=
  (s.modReg b.val fun x => if x.st = .latched then { x with st := .off } else x).reply c 0

/-- REGULATOR_CLEAR (R577). -/
def execRegulatorClear (t : Nat) (c : ConnNo) (b : BuckNo) (s : State) : Out :=
  .next ((s.advance t).change c (dev 141 3 (4 + b.val)) .execute (.regulatorClear b) fun c s => s.opRegClear c b)

end Sys2Proof.Machine
end

