-- ==== Sys2Proof/Machine/Reset.lean ====
section
/-!
DEFINITION. What a reset of the logic die leaves (R52, R66, R89, R95, R409, R455, R490, R683): flash, MRAM, fuses and one-time
programmable values, the power die and the pins keep their contents; every other state of the logic die returns to its reset
value.
-/
namespace Sys2Proof.Machine

open Sys2Proof.Config

/-- Remaining validity of the object curtailment source, in ticks (R274). -/
def CurtSrc.save (c : CurtSrc) (now : Nat) : CurtSrc := { c with expiry := c.expiry.map (· - now) }

/-- The staging of a kind through a reset: header pieces in RAM are lost, and with them a header not yet complete (R681, R683). -/
def Staging.reset (x : Staging) : Staging :=
  { x with hdrPieces := [], st := if x.st = .header then .empty else x.st }

/-- What MRAM and fuses keep of the update unit; a reset disarms (R693, R697). -/
def Update.reset (u : Update) (now : Nat) : Update :=
  { u with
    fw := u.fw.reset, img := u.img.reset, armed := none, trialPartner := none
    served := (u.served.1 + (match u.served.2 with | some a => now - a | none => 0), none) }

/-- What MRAM keeps of the Scribe (R409, R414): the core in RAM is lost until the Scribe opens. -/
def Scribe.reset (x : Scribe) : Scribe :=
  { copies := x.copies, profile := x.profile, receipts := x.receipts, building := x.building, metLog := x.metLog
    powerLog := x.powerLog, seal_ := x.seal_, sealHash := x.sealHash, opening := x.opening, pfail := x.pfail }

/-- The logic die enters reset. Its pins keep their levels. -/
def State.logicReset (s : State) : State :=
  let now := s.time.clock
  { State.reset with
    time := { clock := now, tick0 := now }
    free := s.free
    flash := s.flash
    startup :=
      { auxRise := s.startup.auxRise, bank := s.startup.bank, kept := s.startup.kept, refusal := s.startup.refusal
        stored := s.startup.stored, prevHash := s.startup.prevHash }
    legs :=
      { legsOff := s.safety.legsOwn || s.safety.legsPartner, offSides := (s.safety.legsOwn, s.safety.legsPartner)
        legs := vmap (fun l => { fltLow := l.fltLow, fltHighSince := l.fltHighSince }) s.legs.legs }
    juggler := { curtObj := if s.startup.mode = .service then s.juggler.curtObj.save now else s.juggler.curtObj }
    scribe := s.scribe.reset
    ident := s.ident
    keys := s.keys
    update := s.update.reset now
    port := { startCount := s.port.startCount }
    tamper := { inputs := s.tamper.inputs }
    safety := { s.safety with beatAt := none, divergences := 0 }
    drives := s.drives
    supply := s.supply
    pending := s.pending }

/-- The drives at a restart (R520, R523, R534, R538): every channel off and no latch left; with `keep`, pumps that run, or whose sequence
is under way, go on in orphan mode (Table 13.12). -/
def State.restartDrives (s : State) (keep : Bool) : State :=
  { s with drives := { s.drives with
    pumps := vmap (fun (x : Pump) =>
      if keep && x.st ≠ .off && x.st ≠ .latched then x
      else { x with st := .off, cmd := 0, duty := 0, target := 0, retries := 0, diagFailed := none, orphanHold := false
                    hsOff := [false, false, false], bstAt := [], edges := [] }) s.drives.pumps
    ls := vmap (fun (x : LoadSw) =>
      if x.st = .latched then { x with st := .off, retries := 0, freewheels := 0 } else { x with freewheels := 0 }) s.drives.ls
    partnerPumps := [], soloLoops := [] } }

/-- Legs and laws as they stand while the module is not in service (Table 5.6, R220): every leg with a role IDLE and undriven, every group
coasting, every law IDLE. -/
def Legs.rest (x : Legs) : Legs :=
  { x with
    legs := vmap (fun (l : Leg) => { l.coast with
      st := if l.st = .unused then .unused else .idle, killed := false, mismatch := false, disagreeRun := 0 }) x.legs
    groups := vmap (fun _ => {}) x.groups, contended := [], resolved := [] }

/-- Service ends without a restart: every output returns to its reset state (R94, R483, R542, R556). -/
def State.endService (s : State) : State :=
  let s := s.requestSo false
  let s := (s.restartDrives false).regsOff false
  { s with
    legs := s.legs.rest
    laws := { s.laws with laws := vmap (fun _ => {}) s.laws.laws, snaps := [] }
    array := { s.array with jobs := [], settled := [], opens := [], queue := [], retire := [] } }

/-- The power die enters orphan mode and holds the logic die in reset for 10 ms (R490, R491, R523, R559). A second cause in orphan
mode resets the logic die again. -/
def State.enterOrphan (s : State) : State :=
  let now := s.time.clock
  let req : Nat := (List.range 8).foldl (fun a n => if (vget s.safety.outs n {}).req then a + 2 ^ n else a) 0
  let again := s.safety.orphan.isSome && !s.safety.orphanAct
  let s := s.modSafety fun x =>
    { x with orphan := if again then x.orphan else some now, orphanAct := false, resetUntil := some (now + 10 * ticksPerMs) }
  let s := ((s.orphanPumps.restartDrives true).regsOff true).logicReset
  let s := if again then s else s.raise .orphanEnter [req]
  s.react.refreshLs

/-- A commanded restart (R99, R483, R672, R692): the Ringmaster's requests end, the outputs return to their reset state, and the
logic die starts again. -/
def State.restart (s : State) : State :=
  let s := s.requestSo false
  let s := ((s.restartDrives false).regsOff false).logicReset
  ((s.modSafety fun x => { x with resetUntil := some s.time.clock }).react).refreshLs

/-! ### Steps of the start sequence and refusal (R91, R92, R96) -/

/-- A step of Table 3.8 completes at this tick (Table 3.10, D = 7). -/
def State.stepDone (s : State) (x : Step) : State :=
  { s with startup := { s.startup with done := s.startup.done ++ [(x, s.tick)] } }
def State.isDone (s : State) (x : Step) : Bool := s.startup.done.any (·.1 = x)

/-- The 128 header words of the image in a bank. -/
def imageHeader (f : Flash) : List W32 := f.words 8192 128

/-- The header fields that are kept (Table 3.2). -/
def hdrOf (h : List W32) : ImageHdr :=
  { sealReq := bit h 2 15, prepay := bit h 2 14, paired := bit h 2 13, imageSeq := fld h 3 31 0, imageLen := fld h 4 31 0
    recordCount := fld h 5 31 0, hubId := wide h 6 2, created := wide h 8 2 / 65536, keySlot := fld h 10 31 24
    minManifest := fld h 11 31 0, recordsHash := wide h 12 12 }

/-- The index of a failure that concerns no single record (R96). -/
def noIndex : Nat := 0xFFFFFFFF

/-- REFUSED is entered: a refusal record is written, the Carousel's state is discarded, the Scribe stays closed with its MRAM
contents (R91, R96). -/
def State.refuse (s : State) (code index : Nat) : State :=
  let h := hdrOf (imageHeader (s.flash.bank s.startup.bank))
  let s : State := { s with
    startup := { s.startup with
      mode := .refused, refusal := some { code, index, imageSeq := h.imageSeq, recordsHash := h.recordsHash } }
    carousel := {}, scribe := s.scribe.reset, pair := { s.pair with st := .none, driving := false, ringOut := false } }
  s.raise .imageRefused [code, index]

/-- Latest time of a step after AUX_IN rose, in ms, and its refusal code (Table 3.8, R92); none for step 7. -/
def State.stepLimit (s : State) : Step → Option (Nat × Nat)
  | .s1 => some (30, 0x21)
  | .s2 => some (35, 0x22)
  | .s3a => some (185, 0x2A)
  | .s3b => some (235, 0x2B)
  | .s3c => some (800, 0x23)
  | .s4 => some (2800, 0x24)
  | .s5 => some (3800, 0x25)
  | .s6 => some (4600, 0x26)
  | .s7 => none
  | .s8 => some (5200, 0x28)
  | .s9 => some (6000, 0x29)
  | .serviceWin => if s.isDone .s4 then some (10 * fld (s.rec1 0x0201) 0 31 16, 0x29) else none

/-- A step of the start sequence is past its latest time; step 9 also past SERVICE_WIN (R92). -/
def State.stepLate (s : State) (x : Step) : Bool :=
  let past (y : Step) : Bool := match s.stepLimit y with
    | some l => s.expired s.startup.auxRise (l.1 * ticksPerMs)
    | none => false
  past x || (x = .s9 && past .serviceWin)

/-- The module is refused for a step past its time (R92). -/
def State.refuseStep (s : State) (x : Step) : State :=
  match s.stepLimit x with
  | some l => s.refuse l.2 noIndex
  | none => s

end Sys2Proof.Machine
end

