-- ==== Sys2Proof/Machine/SafetyCmd.lean ====
section
/-!
DEFINITION. The commands of the safety net (chapter 12). After each of them the sessions follow the pause flags (R353).
-/
namespace Sys2Proof.Machine

open Sys2Proof.Config

/-! ### Samples and channels (R462, R463, R469 to R473) -/

/-- An instant lies in the pulse window of source TP_n: 200 us from 2n ms in each 16 ms of the power die's clock (R469). -/
def State.inWindow (s : State) (tp : Nat) : Bool :=
  let x := (s.time.clock - s.safety.dieAt) % (16 * ticksPerMs)
  2 * tp * ticksPerMs ≤ x && x < 2 * tp * ticksPerMs + 200 * ticksPerUs

/-- One counted sample of an input (R471); a high level that ends is a candidate press of a reset input (R477). -/
def SafeIn.take (x : SafeIn) (level : Bool) (now : Nat) : SafeIn :=
  if x.level = level then { x with run := min 200 (x.run + 1) }
  else { x with level, levelAt := now, run := 1, press := if level then x.press else some (x.levelAt, now) }

/-- The pulse checks of one sample of a channel (R472): `own`, the sample lies in the channel's own window; `other`, in the window of
another source. A low run counts as a foreign pulse if it began and ended inside that window. -/
def SafeIn.pulse (x : SafeIn) (own other level : Bool) : SafeIn :=
  let x := { x with raw := level, paused := x.paused || x.demand }
  if own then
    let low := if level then 0 else x.ownLow + 1
    { x with ownSamples := x.ownSamples + 1, ownLow := low, ownPulse := x.ownPulse || 10 ≤ low, otherLow := 0 }
  else if level then { x with ownLow := 0, otherLow := 0, otherPulse := x.otherPulse || 10 ≤ x.otherLow }
  else { x with ownLow := 0, otherLow := if other then x.otherLow + 1 else 0 }

/-- The low run that a sample continues lies inside the window of another source only if it began there (R472). -/
def SafeIn.runOther (x : SafeIn) (other : Bool) : Bool := other && (x.raw || 0 < x.otherLow)

/-- A period of the pulse checks ends (R472, R489; log 153): one in which the channel was in demand, or in which its window was not
sampled whole, is not judged. -/
def SafeIn.endPeriod (x : SafeIn) : SafeIn :=
  let x' := { x with ownSamples := 0, ownLow := 0, ownPulse := false, otherPulse := false, paused := x.demand }
  if x.paused then { x' with passRun := 0 }
  else if x.ownSamples < 40 then x'
  else
    { x' with
      missRun := if x.ownPulse then 0 else x.missRun + 1
      foreignRun := if x.otherPulse then x.foreignRun + 1 else 0
      passRun := if x.ownPulse && !x.otherPulse then x.passRun + 1 else 0
      missing := if x.ownPulse then x.missing else x.missing + 1
      foreign_ := if x.otherPulse then x.foreign_ + 1 else x.foreign_ }

/-- Every input is sampled; samples in an input's own pulse window are discarded for its filter (R470), and serve its pulse checks
(R472). -/
def State.sampleInputs (s : State) (levels : BitVec 32) : State :=
  let period := (s.time.clock - s.safety.dieAt) / (16 * ticksPerMs)
  let anew : Bool := period ≠ s.safety.period
  s.modSafety fun y => { y with
    period
    ins := vmapIdx (fun (i : Nat) (x : SafeIn) =>
      let level := levels.getLsbD i
      match s.tpOf i with
      | none => x.take level s.time.clock
      | some tp =>
        let x := if anew then x.endPeriod else x
        let own := s.inWindow tp
        let other := (List.range 8).any fun k => k ≠ tp && s.inWindow k
        let x := x.pulse own (x.runOther other) level
        if own then x else x.take level s.time.clock) y.ins }

/-- An output is found faulty and stays off (R485). Causes: 0 stuck high in a dark test, 1 high while off, 2 overcurrent. -/
def State.faultOut (s : State) (n cause : Nat) : State :=
  if (vget s.safety.outs n {}).faulty then s
  else ((s.modOut n fun x => { x with faulty := true }).raise .soFault [n, cause]).react

/-- An output in use reads high 300 us or more after it was switched off (R485). -/
def State.offHigh (s : State) (n : Nat) (high : Bool) : Bool :=
  let x := vget s.safety.outs n {}
  high && s.soEn n && !x.on && x.at_ + 300 * ticksPerUs ≤ s.time.clock

/-- SAFETY_CYCLE (R462, R463, R485): a 5 us cycle. Two cycles in which the evaluation channels disagree are a fault until the
module restarts. -/
def execSafetyCycle (t : Nat) (levels : BitVec 32) (disagree : Bool) (soHigh : BitVec 8) (s : State) : Out :=
  let s := s.advance t
  .next (if !s.powerDie then s else
    let s := (s.sampleInputs levels).modSafety fun x => { x with cycles := x.cycles + 1 }
    let again := disagree && s.safety.disagreed
    let s := s.modSafety fun x => { x with disagreed := disagree }
    let s := if again && !s.safety.netFault then
        ((s.modSafety fun x => { x with netFault := true }).raise .safetyNetFault [s.safety.cycles]).react
      else s
    ((List.range 8).foldl (fun s n => if s.offHigh n (soHigh.getLsbD n) then s.faultOut n 1 else s) s).pauseScan)

/-- SAFETY_DEMAND (R471, R475): a channel has read low in 200 consecutive counted samples. -/
def execSafetyDemand (t : Nat) (i : SiNo) (s : State) : Out :=
  let s := s.advance t
  let x := s.safeIn i.val
  .next (if s.powerDie && (s.fnOfInput i.val).isSome && !x.demand && !x.level && x.run = 200 then
    ((s.modIn i.val fun x => { x with demand := true, since := s.time.clock }).evalFns).pauseScan
  else s)

/-- SAFETY_CLEAR (R471, R477): a channel has read high in 200 consecutive counted samples. -/
def execSafetyClear (t : Nat) (i : SiNo) (s : State) : Out :=
  let s := s.advance t
  let x := s.safeIn i.val
  .next (if s.powerDie && x.demand && x.level && x.run = 200 then
    ((s.modIn i.val fun x => { x with demand := false, since := s.time.clock }).evalFns).pauseScan
  else s)

/-- PULSE_FAULT (R472): two consecutive periods with a missing or a foreign pulse, while the channel is not in demand. -/
def execPulseFault (t : Nat) (i : SiNo) (obs : PulseObs) (s : State) : Out :=
  let s := s.advance t
  .next (if s.powerDie && (s.fnOfInput i.val).isSome && !(s.safeIn i.val).demand then
    match obs with
    | .missing => if 2 ≤ (s.safeIn i.val).missRun then (s.faultChannel i.val 0).pauseScan else s
    | .foreign => if 2 ≤ (s.safeIn i.val).foreignRun then (s.faultChannel i.val 1).pauseScan else s
  else s)

/-- DISCREPANCY_TIMEOUT (R476, R499): exactly one channel has been in demand for DISC_MS, and the sample of the expiry is over; the other
is faulty. -/
def execDiscrepancyTimeout (t : Nat) (fn : FuncNo) (s : State) : Out :=
  let s := s.advance t
  .next (match s.fnRec fn.val with
    | some f =>
      let due (a b : Nat) : Bool :=
        (s.safeIn a).demand && !(s.safeIn b).demand && (s.safeIn a).fault.isNone
          && s.expired (s.safeIn a).since (f.disc * ticksPerMs)
      if !s.powerDie || !f.two then s
      else if due f.siA f.siB then (s.faultChannel f.siB 2).pauseScan
      else if due f.siB f.siA then (s.faultChannel f.siA 2).pauseScan
      else s
    | none => s)

/-- CHANNEL_REPAIRED (R489): a faulty channel has passed its pulse checks in 10 consecutive periods without demand. -/
def execChannelRepaired (t : Nat) (i : SiNo) (s : State) : Out :=
  let s := s.advance t
  let x := s.safeIn i.val
  .next (if s.powerDie && x.fault.isSome && !x.demand && 10 ≤ x.passRun then
    s.modIn i.val fun x => { x with repaired := true } else s)

/-! ### Functions (R477, R478, R487 to R489) -/

/-- A press that began after every channel of a manual function had left demand ends its demand (R477). -/
def State.pressFn (s : State) (f : FnRec) (began : Nat) : State :=
  let late := f.kind = 3 || f.chans.all fun i => (s.safeIn i).fault.isSome || decide ((s.safeIn i).since < began)
  if f.manual && (s.safeFn f.num).demand && !s.fnWanted f && late then s.endDemand f else s

/-- RESET_PRESS (R477, R489): a reset input that was high is released; a press lasted 100 ms to 3 s. The row names the press by the tick at
which it began. -/
def execResetPress (t : Nat) (i : SiNo) (began : Nat) (s : State) : Out :=
  let s := s.advance t
  let fs := s.safeFns.filter fun f => f.reset = i.val
  .next (match (s.safeIn i.val).press with
    | some (rise, fall) =>
      if rise ≠ began then s else
      let s := s.modIn i.val fun x => { x with press := none }
      if s.powerDie && rise + 100 * ticksPerMs ≤ fall && fall ≤ rise + 3000 * ticksPerMs then
        let s := fs.foldl State.acknowledge s
        let s := fs.foldl (fun s f => s.pressFn f rise) s
        (s.evalFns).pauseScan
      else s
    | none => s)

/-- WELD_DEMAND (R478): the mirror contact has read low for WELD_MS while SO_REF has been off for WELD_MS. -/
def execWeldDemand (t : Nat) (fn : FuncNo) (s : State) : Out :=
  let s := s.advance t
  .next (match s.fnRec fn.val with
    | some f =>
      let x := s.safeIn f.siA
      let o := vget s.safety.outs f.soRef {}
      let w := f.weld * ticksPerMs
      if s.powerDie && f.kind = 3 && !x.level && x.levelAt + w ≤ s.time.clock && !o.on && o.at_ + w ≤ s.time.clock then
        ((s.modFn fn.val fun y => { y with weld := true }).evalFns).pauseScan
      else s
    | none => s)

/-- DEGRADED_EXPIRED (R487, R488): DEGRADE_MIN minutes with a channel that has not been repaired. -/
def execDegradedExpired (t : Nat) (fn : FuncNo) (s : State) : Out :=
  let s := s.advance t
  .next (match s.fnRec fn.val with
    | some f =>
      let bad := f.chans.any fun i => (s.safeIn i).fault.isSome && !(s.safeIn i).repaired
      if s.powerDie && (s.safeFn fn.val).degraded && !(s.safeFn fn.val).forced && bad
          && s.degradeMin * 60 * ticksPerSec < s.degradedTicks fn.val then
        (((s.modFn fn.val fun x => { x with forced := true }).raise .degradedExpired [fn.val]).evalFns).pauseScan
      else s
    | none => s)

/-- The acknowledge operation, for a function without a reset input (R489, R500). -/
def State.opAcknowledge (s : State) (c : Caller) (fn : FuncNo) : State :=
  match s.fnRec fn.val with
  | none => s.reply c 2
  | some f => if f.reset ≠ 63 then s.reply c 4 else (((s.acknowledge f).evalFns).pauseScan).reply c 0

/-- SAFETY_ACKNOWLEDGE (R489, R500). -/
def execSafetyAcknowledge (t : Nat) (c : ConnNo) (fn : FuncNo) (s : State) : Out :=
  .next ((s.advance t).change c (dev 138 4 fn.val) .execute (.acknowledge fn) fun c s => s.opAcknowledge c fn)

/-- SAFETY_CROSS_CHECK (R464, R465): the Ringmaster's own evaluation finds functions that should be in demand and are not; a request
stands while the check lists its function. The third divergence since start is a failed self-test. -/
def execSafetyCrossCheck (t : Nat) (divergent : List FuncNo) (s : State) : Out :=
  let s := s.advance t
  .next (if s.startup.mode ≠ .service || !s.powerDie then s else
    let s := s.safeFns.foldl (fun s f =>
      let hit := divergent.any fun n => n.val = f.num
      if hit && !(s.safeFn f.num).demand then
        (((s.modFn f.num fun x => { x with asked := true }).modSafety fun x =>
          { x with divergences := x.divergences + 1 })).raise .safetyDiverge [f.num, s.safety.divergences + 1]
      else s.modFn f.num fun x => { x with asked := x.asked && hit }) s
    let fail : Bool := decide (3 ≤ s.safety.divergences)
    let s := s.selfTest 9 (!fail)
    ((if fail then s.degrade 1 else s).evalFns).pauseScan)

/-! ### Outputs (R484, R485) -/

/-- DARK_TEST (R484, R499): the readback of an on output in its 300 us of the power die's second; it must fall. An output that was off
when they began is not tested. -/
def execDarkTest (t : Nat) (so : SoNo) (low : Bool) (s : State) : Out :=
  let s := s.advance t
  .next (if s.powerDie && s.darkNow so.val then
    let s := s.modOut so.val fun x => { x with dark := some low }
    if low then s else s.faultOut so.val 0
  else s)

/-- SO_OVERCURRENT (R485): more than 0.7 A. -/
def execSoOvercurrent (t : Nat) (so : SoNo) (mA : Nat) (s : State) : Out :=
  let s := s.advance t
  .next (if s.powerDie && (vget s.safety.outs so.val {}).on && 700 < mA then
    s.faultOut so.val 2 else s)

/-! ### Heartbeat and orphan mode (R490 to R492) -/

/-- Orphan mode, or the hold of an activation, ends (R492, R690): the requests of a logic die in service govern again. ORPHAN_EXIT
tells the duration in ms and whether the outputs were dropped. -/
def State.exitOrphan (s : State) : State :=
  match s.safety.orphan with
  | none => s
  | some a =>
    let dropped := s.safety.orphanOut
    let held := s.safety.orphanAct
    let s := s.modSafety fun x => { x with orphan := none, orphanAct := false, orphanOut := false }
    let s := (s.requestSo true).refreshLs
    if held then s else s.raise .orphanExit [((s.time.clock - a) / ticksPerMs : Nat), ofBool dropped]

/-- HEARTBEAT (R490, R492): the Ringmaster writes its heartbeat. -/
def execHeartbeat (t : Nat) (s : State) : Out :=
  let s := s.advance t
  .next (if s.startup.mode = .off || !s.powerDie then s else
    let s := s.modSafety fun x => { x with beatAt := some s.time.clock }
    if s.startup.mode = .service then s.exitOrphan.pauseScan else s)

/-- ORPHAN_ENTER (R490): no heartbeat for 500 us. -/
def execOrphanEnter (t : Nat) (s : State) : Out :=
  let s := s.advance t
  .next (match s.safety.beatAt with
    | some a => if s.powerDie && s.safety.orphan.isNone && s.expired a (500 * ticksPerUs) then s.enterOrphan else s
    | none => s)

/-- ORPHAN_TIMEOUT (R492, R559, R690): ORPHAN_S has expired, for an activation 12 s if that is longer; every output goes off until
service. -/
def execOrphanTimeout (t : Nat) (s : State) : Out :=
  let s := s.advance t
  .next (match s.safety.orphan with
    | some a =>
      let lim := if s.safety.orphanAct then max (12 * ticksPerSec) s.orphanS else s.orphanS
      if s.powerDie && !s.safety.orphanOut && s.expired a lim then
        (s.modSafety fun x => { x with orphanOut := true }).react.regsOff false
      else s
    | none => s)

/-! ### LEGS_OFF shared by the pair (R467) -/

/-- LEGS_OFF_ASSERTED (R186, R187, R467): the line of this module, or the report of the partner's. -/
def execLegsOffAsserted (t : Nat) (side : Side) (s : State) : Out :=
  let s := s.advance t
  .next (match side with
    | .own =>
      if s.legsWanted && !s.safety.legsOwn then s.react else s
    | .partner =>
      if s.safety.legsPartner then s
      else (s.modSafety fun x => { x with legsPartner := true }).submit (.legsOff .partner true) (·.takeLegsOff .partner true))

/-- LEGS_OFF_RELEASED (R188, R467). -/
def execLegsOffReleased (t : Nat) (side : Side) (s : State) : Out :=
  let s := s.advance t
  .next (match side with
    | .own =>
      if !s.legsWanted && s.safety.legsOwn then s.react else s
    | .partner =>
      if s.safety.legsPartner then
        (s.modSafety fun x => { x with legsPartner := false }).submit (.legsOff .partner false) (·.takeLegsOff .partner false)
      else s)

/-! ### The safety change (R495, R496, R498) -/

/-- A password is 12 to 64 printable ASCII characters. -/
def goodPassword (p : List Byte) : Bool :=
  12 ≤ p.length && p.length ≤ 64 && p.all fun b => 0x20 ≤ b.toNat && b.toNat ≤ 0x7E

/-- An entry of the change log (R498). -/
def State.logChange (s : State) (kind role subject : Nat) (crc : W32) (hash : Nat) : State :=
  let e : ChangeEntry :=
    { no := s.safety.entryNo + 1, kind, role, subject, scribe := s.scribeTime, wall := s.wallSec, crc, hash }
  (s.modSafety fun x => { x with log := (e :: x.log).take 1024, entryNo := e.no }).countTamper 11

/-- The object is refused after five wrong passwords within 10 min (R496). -/
def State.changeRefused (s : State) : Bool :=
  match s.safety.refusedUntil with
  | some e => decide (s.time.clock < e)
  | none => false

/-- A wrong password. -/
def State.wrongPassword (s : State) : State :=
  let now := s.time.clock
  let l := now :: s.safety.wrong.filter fun x => now ≤ x + 600 * ticksPerSec
  if 5 ≤ l.length then s.modSafety fun x => { x with wrong := [], refusedUntil := some (now + 600 * ticksPerSec) }
  else s.modSafety fun x => { x with wrong := l }

/-- The safety-change operation (R495, R496, R498): the first password set needs no earlier one. -/
def State.opSafetyChange (s : State) (c : Caller) (pw : List Byte) (ch : SafetyChange) : State :=
  if s.changeRefused then s.reply c 4 else
  let ok : Bool := match s.safety.password, ch with
    | some h, _ => decide (passwordHash pw = h)
    | none, .password _ => true
    | none, .newSection _ _ => false
  if !ok then s.wrongPassword.reply c 1 else
  let role := roleBit c.role
  let subject := subjectHash role c.addr
  match ch with
  | .newSection crc hash =>
    ((s.logChange 1 role subject crc hash).raise .safetyChange [1, s.safety.entryNo + 1, crc.toNat]).reply c 0
  | .password p =>
    if !goodPassword p then s.reply c 3 else
    let s := s.modSafety fun x => { x with password := some (passwordHash p) }
    ((s.logChange 2 role subject s.safety.sealedCrc 0).raise .safetyChange
      [2, s.safety.entryNo + 1, s.safety.sealedCrc.toNat]).reply c 0

/-- SAFETY_CHANGE (R495, R496, R498). -/
def execSafetyChange (t : Nat) (c : ConnNo) (pw : List Byte) (ch : SafetyChange) (s : State) : Out :=
  .next ((s.advance t).change c (dev 138 5 0) .execute (.safetyChange pw ch) fun c s => s.opSafetyChange c pw ch)

/-- SAFETY_CHANGE_UNLOCK (R496): 10 min after the fifth wrong password. -/
def execSafetyChangeUnlock (t : Nat) (s : State) : Out :=
  let s := s.advance t
  .next (match s.safety.refusedUntil with
    | some e => if e ≤ s.time.clock then s.modSafety fun x => { x with refusedUntil := none } else s
    | none => s)

end Sys2Proof.Machine
end

