-- ==== Sys2Proof/Machine/Tunnel.lean ====
section
/-!
DEFINITION. The handbill tunnel (R338 to R351): the checks a frame passes, its payloads, and what the module sends to the
dispensers. A frame is an input of the journal, and both modules process it at its EFFECT stamp (R338).
-/
namespace Sys2Proof.Machine

open Sys2Proof.Config

def State.discard (s : State) (f : Discards → Discards) : State :=
  { s with barker := { s.barker with discards := f s.barker.discards } }

/-- The outlet whose DISPENSER record holds a DISP_ID. -/
def State.outletOfDisp (s : State) (dispId : Nat) : Option Nat :=
  ((s.recs 0x0801).find? fun r => wide r 1 2 = dispId).map fun r => fld r 0 31 25

/-- A HELLO with an unknown DISP_ID is ignored; DISP_UNKNOWN is raised at most once per minute per DISP_ID (R350). -/
def State.unknownDisp (s : State) (dispId addr : Nat) : State :=
  let fresh := s.barker.unknown.any fun (x : Nat × Nat × Nat) => x.1 = dispId && s.tick < x.2.2 + 60 * ticksPerSec
  if fresh then s else
  let l := (dispId, addr, s.tick) :: s.barker.unknown.filter fun (x : Nat × Nat × Nat) => x.1 ≠ dispId
  let l := l.take 16 ++ (l.drop 16).filter fun (x : Nat × Nat × Nat) => s.tick < x.2.2 + 60 * ticksPerSec
  ({ s with barker := { s.barker with unknown := l } }).raise .dispUnknown [dispId, addr]

/-- A frame without a valid TAG: 16 within 10 s raise TUNNEL_AUTH (R342). -/
def State.tagFailure (s : State) (o dispId : Nat) : State :=
  let now := s.time.clock
  let l := now :: (s.outletDisp o).authFails.filter fun x => now ≤ x + 10 * ticksPerSec
  let s := s.discard fun d => { d with tag := d.tag + 1 }
  if 16 ≤ l.length then
    (s.modDisp o fun d => { d with authFails := [] }).raise .tunnelAuth [dispId, l.length]
  else s.modDisp o fun d => { d with authFails := l }

/-- The TAG of a frame of an outlet verifies, where its record asks for one (R342): the key unit derives the key. -/
def State.tagGood (s : State) (o : Nat) (f : Tunnel) : Bool × State :=
  if bit ((s.dispRec o).getD []) 0 22 then
    if f.auth && f.tagOk then s.useKey s.tunnelKey .derive .barker else (false, s)
  else (true, s)

/-- The source address is the outlet's, or may become it: none seen within the last second (R350). -/
def State.sourceGood (s : State) (o src : Nat) : Bool :=
  match (s.outletDisp o).addr with
  | some a => a.1 = src || decide (a.2 + ticksPerSec < s.time.clock)
  | none => true

/-- Replay window (R343): a SEQ above the highest accepted, or at most 32 below it and new. -/
def Disp.fresh (d : Disp) (seq : Nat) : Bool :=
  match d.high with
  | some h => h < seq || (h ≤ seq + 32 && !d.seen.contains seq)
  | none => true

def Disp.accept (d : Disp) (seq : Nat) : Disp :=
  let h := max seq (d.high.getD 0)
  { d with high := some h, seen := seq :: d.seen.filter fun x => h ≤ x + 32 }

/-- A HELLO with SEQ 0 resets the window. -/
def Disp.resetWindow (d : Disp) : Disp := { d with high := some 0, seen := [0] }

/-- Every context of an outlet is FREE. -/
def State.allFree (s : State) (o : Nat) : Bool := (ctxsOf o).all fun c => (s.bctx c).st = .free

/-- A source address is one of the pair's: the unicast addresses that the ETH_PORT records give the two modules (R341, R641). -/
def State.fromModule (s : State) (src : Nat) : Bool := (s.recs 0x1001).any fun w => wide w 2 4 = src || wide w 6 4 = src

/-- The checks of R341 to R343 and R350 on a frame of a TYPE: the outlet it is accepted for, and the state with the discard
counted. -/
def State.tunnelIn (s : State) (f : Tunnel) (typ : Nat) : Option Nat × State :=
  if !f.crcOk then (none, s.discard fun d => { d with crc := d.crc + 1 })
  else if f.magic ≠ 0x4842 || f.version ≠ 1 || f.typ ≠ typ then (none, s.discard fun d => { d with header := d.header + 1 })
  else if !f.lenOk then (none, s.discard fun d => { d with length := d.length + 1 })
  else if f.dir then (none, if s.fromModule f.src then s else s.discard fun d => { d with dir := d.dir + 1 })
  else match s.outletOfDisp f.dispId with
    | none =>
      if typ = 3 then (none, s.unknownDisp f.dispId f.src)
      else (none, s.discard fun d => { d with identity := d.identity + 1 })
    | some o =>
      if typ ≠ 3 && f.outlet ≠ o then (none, s.discard fun d => { d with identity := d.identity + 1 }) else
      let g := s.tagGood o f
      let s := g.2
      if !g.1 then (none, s.tagFailure o f.dispId)
      else if !s.sourceGood o f.src then
        let first := match (s.outletDisp o).addr with | some a => a.1 | none => 0
        (none, ((s.discard fun d => { d with conflict := d.conflict + 1 }).raise .dispConflict
          [f.dispId, first, f.src]).countTamper 16)
      else if typ = 3 && f.seq = 0 then
        if s.allFree o then
          (some o, s.modDisp o fun d => { d.resetWindow with addr := some (f.src, s.time.clock) })
        else (none, s.discard fun d => { d with replay := d.replay + 1 })
      else if (s.outletDisp o).fresh f.seq then
        (some o, s.modDisp o fun d => { d.accept f.seq with addr := some (f.src, s.time.clock) })
      else (none, s.discard fun d => { d with replay := d.replay + 1 })

/-- A frame whose payload has not the length of its TYPE is discarded and counted with LENGTH (log 141). -/
def State.badPayload (s : State) : State := s.discard fun d => { d with length := d.length + 1 }

/-- One vehicle-link frame of 14 to 1 514 bytes is passed to the stack (R344). -/
def State.takeVlink (s : State) (f : Tunnel) : State :=
  match s.tunnelIn f 1 with
  | (some o, s) =>
    match f.vlinkPay with
    | some x => s.modDisp o fun d => { d with vlink := (x.2, d.vlink.2 + 1) }
    | none => s.badPayload
  | (none, s) => s

/-- The tunnel is received on a port: its record has TUNNEL_EN = 1 (R644). -/
def State.tunnelOn (s : State) (p : EthNo) : Bool := s.startup.mode = .service && (s.ethRec p.val).any fun w => bit w 0 27

/-- VLINK (R338, R344): in service. -/
def execVlink (t src : Nat) (port : EthNo) (d : Datagram) (s : State) : Out :=
  let s := s.advance t
  .next (if !s.tunnelOn port then s else s.submit (.vlink ⟨⟨src, port⟩, d⟩) (·.takeVlink ⟨⟨src, port⟩, d⟩))

/-- SDP_REQUEST (R332): answered with TLS, or without where a protocol permitted to the outlet runs without it, and with the SECC's
address on the vehicle link (R333). -/
def execSdpRequest (t : Nat) (outlet : OutletNo) (tls : Bool) (s : State) : Out :=
  let s := s.advance t
  let o := outlet.val + 1
  let mask := fld ((s.dispRec o).getD []) 0 21 19
  let plain := mask % 2 = 1 || (mask / 2 % 2 = 1 && !polTls (s.rec1 0x0803))
  .next (if s.startup.mode = .service && (s.dispRec o).isSome && (ctxsOf o).any fun c => (s.bctx c).st = .setup then
    let s := s.modDisp o fun d => { d with sdp := some (tls || !plain, s.seccAddr o) }
    match (List.finRange 128).find? fun c => (ctxsOf o).contains c.val && (s.bctx c.val).st = .setup with
    | some c => s.drawRandom c
    | none => s
  else s)

/-- A DIO frame has told a new key press (R347); the first KEY_SEQ of a dispenser only sets the reference. -/
def State.dioKey (s : State) (o : Nat) (d : Dio) : State :=
  let old := (s.outletDisp o).keySeq
  let s := s.modDisp o fun x => { x with keySeq := some d.keySeq }
  if d.key ≠ 0 && old.isSome && old ≠ some d.keySeq then
    let s := s.keyPress o d.key
    (ctxsOf o).foldl State.retryAuth s
  else s

/-- Pilot and proximity of a DIO frame act on the outlet's contexts (R352, R354, R355, R731): an unplug hides a vehicle stop of the
same frame stamp (R362). -/
def State.dioPlug (s : State) (o : Nat) (d : Dio) : State :=
  if d.prox = 0 || d.pilot = 0 then
    let s := s.modDisp o fun x => { x with waiting := false }
    (ctxsOf o).foldl (fun s c =>
      let x := s.bctx c
      if x.st.running then s.closeCtx c 1
      else if x.st = .ending then s.closeCtx c (if x.endCause = 0 && x.endStamp = s.stamp then 1 else x.endCause)
      else s) s
  else if d.prox = 2 || d.prox = 3 then
    (ctxsOf o).foldl (fun s c => s.endCtx c (if d.prox = 2 then 0 else 3)) s
  else s.plugIn o

/-- A DIO frame takes effect (R346, R347, R354 to R357, R362). -/
def State.takeDio (s : State) (f : Tunnel) : State :=
  match s.tunnelIn f 2, f.dioPay with
  | (none, s), _ => s
  | (some _, s), none => s.badPayload
  | (some o, s), some d =>
    let was : Bool := match (s.outletDisp o).dio with | some x => x.1.linkUp | none => false
    let s := s.modDisp o fun x =>
      { x with dio := some (d, s.time.clock), silent := false
               linkDown := if d.linkUp then false else x.linkDown || was }
    let s := s.reportTemps o ((s.dispRec o).getD []) d.temps
    let s := (s.dioKey o d).dioPlug o d
    (ctxsOf o).foldl State.pauseCtx s

/-- DIO (R338, R346): in service. -/
def execDio (t : Nat) (x : Sender) (d : Datagram) (s : State) : Out :=
  let s := s.advance t
  .next (if !s.tunnelOn x.port then s else s.submit (.dio ⟨x, d⟩) (·.takeDio ⟨x, d⟩))

/-- An outlet's dispenser is silent: its contexts pause (R356). -/
def State.dioSilent (s : State) (o : Nat) : State :=
  (ctxsOf o).foldl State.pauseCtx (s.modDisp o fun d => { d with silent := true })

/-- DIO_PAUSE (R356, R357): no DIO for DIO_PAUSE; one in the expiry tick is in time (R47). -/
def execDioPause (t : Nat) (outlet : OutletNo) (s : State) : Out :=
  let s := s.advance t
  let o := outlet.val + 1
  let p := ((ctxsOf o).find? fun c => (s.bctx c).st.running).elim (s.rec1 0x0803) s.ctxPol
  .next (match (s.outletDisp o).dio with
    | some x =>
      if !(s.outletDisp o).silent && s.expired x.2 (polDioPause p) then s.submit (.dioPause outlet) (·.dioSilent o) else s
    | none => s)

/-- A paused context whose dispenser has been silent for DIO_END. -/
def State.dioGone (s : State) (o c : Nat) : Bool :=
  (s.bctx c).st = .paused && match (s.outletDisp o).dio with
    | some x => s.expired x.2 (polDioEnd (s.ctxPol c))
    | none => false

/-- The paused contexts of an outlet that is still silent end (R352). -/
def State.dioEnded (s : State) (o : Nat) : State :=
  (ctxsOf o).foldl (fun s c => if s.dioGone o c then s.endCtx c 6 else s) s

/-- DIO_END (R352): no DIO for DIO_END ends a paused context. -/
def execDioEnd (t : Nat) (outlet : OutletNo) (s : State) : Out :=
  let s := s.advance t
  let o := outlet.val + 1
  .next (if (ctxsOf o).any (s.dioGone o) then s.submit (.dioEnd outlet) (·.dioEnded o) else s)

/-- A HELLO takes effect (R349, R350): an admitted dispenser is answered with ADMITTED, its outlet and HUB_ID. -/
def State.takeHello (s : State) (f : Tunnel) : State :=
  match s.tunnelIn f 3, f.helloPay with
  | (none, s), _ => s
  | (some _, s), none => s.badPayload
  | (some o, s), some h => (s.modDisp o fun d =>
      { d with hello := some h, admitted := true, helloSent := d.helloSent + 1 }).sendFrame 3 o
        (u32 (2 ^ 31 + o * 2 ^ 16) :: u64 s.startup.hdr.hubId)

/-- HELLO (R338, R349): in service. -/
def execHello (t : Nat) (x : Sender) (d : Datagram) (s : State) : Out :=
  let s := s.advance t
  .next (if !s.tunnelOn x.port then s else s.submit (.hello ⟨x, d⟩) (·.takeHello ⟨x, d⟩))

/-! ### What the module sends -/

/-- CP_CMD of an outlet (R732). -/
def State.cpCmd (s : State) (o : Nat) : Nat :=
  match (ctxsOf o).find? fun c => (s.bctx c).st.running || (s.bctx c).st = .ending with
  | some c => if (s.bctx c).stateF then 2 else 1
  | none => 0

/-- LAMPS of an outlet (R348): three bits per lamp. -/
def State.lamps (s : State) (o : Nat) : Nat :=
  let st (x : CtxState) : Bool := (ctxsOf o).any fun c => (s.bctx c).st = x
  let err := (ctxsOf o).any fun c => (s.bctx c).st = .ending && badEnd (s.bctx c).endCause
  (if st .free then 1 else 0) + (if st .delivering then 2 else if st .paused then 1 else 0) * 8 +
    (if err then 1 else 0) * 64 + (if (s.outletDisp o).waiting then 3 else 0) * 512

/-- The DIO payload due to an outlet's dispenser (Table 9.3). -/
def State.dioOut (s : State) (o : Nat) : DioOut :=
  { cp := s.cpCmd o, lamps := s.lamps o, textSeq := (s.outletDisp o).textSeq, line1 := (s.tok o).buffer
    line2 := s.line2 o, change := (s.tok o).change }

/-- The text of a DIO payload. -/
def DioOut.text (d : DioOut) : List (Fin 10) × TokenText × Option (Nat × Nat) := (d.line1, d.line2, d.change)

/-- DIO_SEND (R346): on a change, and at least every 100 ms, to an admitted dispenser. -/
def execDioSend (t : Nat) (outlet : OutletNo) (s : State) : Out :=
  let s := s.advance t
  let o := outlet.val + 1
  let d := s.outletDisp o
  let new := s.dioOut o
  let textNew : Bool := match d.sent with
    | some x => decide (x.1.text ≠ new.text)
    | none => true
  let new := if textNew then { new with textSeq := (d.textSeq + 1) % 65536 } else new
  let due : Bool := match d.sent with
    | some x => decide (x.1 ≠ new ∨ x.2 + 100 * ticksPerMs ≤ s.time.clock)
    | none => true
  .next (if s.startup.mode = .service && d.admitted && due then
    (s.modDisp o fun d => { d with sent := some (new, s.time.clock), textSeq := new.textSeq }).sendFrame 2 o new.words
  else s)

/-- The payload of TIME (R351): TAI seconds and the flags, nanoseconds, the line stamp. -/
def State.timeWords (s : State) : List W32 :=
  u64 (s.wallRaw * 65536 + if s.wall.valid then 1 else 0) ++ [u32 (s.wall.half % 2000000000 / 2)] ++ u64 s.stamp

/-- TIME_SEND (R351): to the group. -/
def execTimeSend (t : Nat) (s : State) : Out :=
  let s := s.advance t
  .next (if s.startup.mode = .service then
    ({ s with barker := { s.barker with
      timeSent := some (s.wallRaw, s.wall.valid, s.wall.half % 2000000000 / 2, s.stamp) } }).sendFrame 4 0 s.timeWords
  else s)

/-- CERT_EXPIRING (R365): the daily check; a leaf or sub-CA that expires within 30 days of wall time. -/
def execCertExpiring (t : Nat) (certs : List CertExpiry) (s : State) : Out :=
  let s := s.advance t
  .next (match s.wallSec with
    | none => s
    | some now =>
      if s.startup.mode ≠ .service || s.barker.certDay = some (now / 86400) then s else
      let s := { s with barker := { s.barker with certDay := some (now / 86400) } }
      certs.foldl (fun s x =>
        match s.certs[x.entry]? with
        | some k =>
          if fld (s.rec1 0x0802) k 31 28 ≤ 1 && x.expiry ≤ now + 30 * 86400 then
            s.raise .certExpiring [x.entry, x.expiry] else s
        | none => s) s)

end Sys2Proof.Machine
end

