-- ==== Sys2Proof/Machine/ScribeCmd.lean ====
section
/-!
DEFINITION. The commands of the Scribe (chapter 10): period marks, input faults, the seal, selections, opening readings, tamper
inputs, Scribe time, and its opening at step 8.
-/
namespace Sys2Proof.Machine

open Sys2Proof.Config

/-! ### Periods and Scribe time (R60, R375 to R379, R408 to R410) -/

/-- A clock frequency lies more than 2 % from MDCK_NOM (R379). -/
def mdckOff (nomKhz hz : Nat) : Bool := nomKhz * 1000 * 2 < (max hz (nomKhz * 1000) - min hz (nomKhz * 1000)) * 100

/-- An outlet's metrology input becomes faulty or recovers (R379); the fault is tamper type 7. Causes: 0 no transition, 1 MDCK lost,
2 saturated, 3 frequency, 4 recovered. -/
def State.meterFault (s : State) (o : Nat) (on : Bool) (cause : Int) : State :=
  if vget s.scribe.faulty (o - 1) false = on then s else
  let s := s.modScribe fun x => { x with faulty := vput x.faulty (o - 1) on }
  let s := s.raiseS .meterInputFault [o, cause]
  if on then (s.flagOutlet o .inputFault).countTamper 7 else s

/-- The measured MDCK frequencies that come with a second mark (R376, R379). -/
def State.takeFreqs (s : State) (freqs : List Nat) : State :=
  let s := s.modScribe fun x => { x with mdck := vmapIdx (fun (i : Nat) (m : Mdck) => { m with freq := freqs.getD i m.freq }) x.mdck }
  (List.range 64).foldl (fun s i =>
    match s.meterRec (i + 1), freqs[2 * i / 16]? with
    | some w, some f => if mdckOff (fld w 5 15 0) f then s.meterFault (i + 1) true 3 else s
    | _, _ => s) s

/-- Sessions and the interval in progress of an outlet whose input is faulty keep the flag (R379). -/
def State.flagFaulty (s : State) : State :=
  (List.range 64).foldl (fun s i => if vget s.scribe.faulty i false then s.flagOutlet (i + 1) .inputFault else s) s

/-- Credit exhaustion is reported to the Barker, which ends a delivering session (R361, R439). -/
def State.creditScan (s : State) : State :=
  s.scribe.core.sessions.foldl (fun s x =>
    if (s.bctx x.ctx).st = .delivering && s.creditOut x.ctx then s.endCtx x.ctx 2 else s) s

/-- PERIOD_MARK (R375 to R378, R394, R402, R408, R409, R434, R437, R439): the metering period ends, the boundaries that have come take
effect, and at a second mark the state is committed. The holder enters the mark in the journal; it divides the samples at the index it
names, which both modules count, and not at the EFFECT stamp of its entry (log 119). -/
def execPeriodMark (t : Nat) (m : Mark) (s : State) : Out :=
  let s := s.advance t
  let s := if s.pair.st = .holder || s.pair.st = .solo then s.journal (.mark m) else s
  .next (if !s.scribe.open_ then s else
    let s := (s.settleHolds.endPeriod.idleAll).flagFaulty
    let s := s.boundaries
    let s := s.creditScan
    if m.second then
      let s := s.takeFreqs m.freqs
      let s := (List.range 64).foldl (fun s i => s.tokSecond (i + 1)) s
      s.scribeCommit
    else s)

/-- SCRIBE_TIME_COUNT (R60): Scribe time counts a second. -/
def execScribeTimeCount (t : Nat) (s : State) : Out :=
  let s := s.advance t
  .next (if s.scribe.open_ && s.scribe.core.time < 2 ^ 40 - 1 then s.modCore fun c => { c with time := c.time + 1 } else s)

/-- METER_INPUT_FAULT (R379). -/
def execMeterInputFault (t : Nat) (outlet : OutletNo) (obs : MeterObs) (s : State) : Out :=
  let s := s.advance t
  let o := outlet.val + 1
  let nom : Nat := match s.meterRec o with | some w => fld w 5 15 0 | none => 0
  .next (if !s.scribe.open_ || (s.meterRec o).isNone then s else
    match obs with
    | .noTransition n => if 64 ≤ n then s.meterFault o true 0 else s
    | .mdckLost (.noEdge ns) => if 1000 ≤ ns then s.meterFault o true 1 else s
    | .mdckLost (.frequency khz) => if khz < 4900 || 25500 < khz then s.meterFault o true 1 else s
    | .saturated ms => if 1000 ≤ ms then s.meterFault o true 2 else s
    | .freqOff hz => if mdckOff nom hz then s.meterFault o true 3 else s
    | .recovered => s.meterFault o false 4)

/-! ### The seal (R383 to R386) -/

/-- The metrology hash of the records of the active image with a Scribe part (R383). -/
def State.metroHash (s : State) (part6 : Nat) : Nat :=
  let recs := s.startup.image.filter fun r => r.typ = 0x0901 || r.typ = 0x0902
  sha384 ((recs.flatMap fun r => u32 (r.typ * 65536 + r.payload.length) :: r.payload ++ [r.crc]) ++ wordsOf 12 part6)

/-- A life-cycle transition (Table 17.4): 0 MANUFACTURE to 4 RETIRED. -/
def lifeNum : Life → Nat
  | .manufacture => 0
  | .provisioned => 1
  | .commissioned => 2
  | .service => 3
  | .retired => 4

def State.setLife (s : State) (l : Life) : State :=
  if s.ident.life = l then s
  else ({ s with ident := { s.ident with life := l } }).raise .lifecycle [lifeNum s.ident.life, lifeNum l]

/-- The metrology is sealed, or resealed in SERVICE, on an FP-6400-M whose image has SEAL = 1 (R384, R385, Table 17.4). -/
def State.opSeal (s : State) (c : Caller) : State :=
  if s.ident.orderN || !s.startup.hdr.sealReq || s.scribe.seal_ = .sealed
      || !(s.ident.life = .commissioned || s.ident.life = .service) then s.reply c 4
  else
    let h := s.metroHash (hdrPartHash s.activeManifest 6)
    let s := if s.scribe.open_ then s.endPeriod else s
    let s := s.modScribe fun x => { x with seal_ := .sealed, sealHash := some h }
    let s := (s.metLogAdd .sealSet (some c.role) h).raiseS .sealSet [roleBit c.role, h]
    (s.setLife .commissioned).reply c 0

/-- SEAL (R384, R385). -/
def execSeal (t : Nat) (c : ConnNo) (s : State) : Out :=
  .next ((s.advance t).change c { a := 1, b := 0, c := 131, d := 1, e := 0, f := 255 } .execute .seal fun c s => s.opSeal c)

/-- The seal is broken (R385): energy up to the break stays in the legal registers. -/
def State.opSealBreak (s : State) (c : Caller) : State :=
  if s.scribe.seal_ ≠ .sealed || s.ident.life ≠ .commissioned then s.reply c 4
  else
    let s := if s.scribe.open_ then s.endPeriod else s
    let h := s.scribe.sealHash.getD 0
    let s := s.modScribe fun x => { x with seal_ := .broken }
    let s := (s.metLogAdd .sealBroken (some c.role) h).raiseS .sealBroken [roleBit c.role]
    let s := s.modSessions (fun _ => true) fun x => { x with flags := addFlag x.flags .nonLegal }
    ((s.countTamper 13).setLife .service).reply c 0

/-- SEAL_BREAK (R385). -/
def execSealBreak (t : Nat) (c : ConnNo) (s : State) : Out :=
  .next ((s.advance t).change c { a := 1, b := 0, c := 131, d := 2, e := 0, f := 255 } .execute .sealBreak fun c s => s.opSealBreak c)

/-- The connection selects a receipt number (R421, R452). -/
def State.selectReceipt (s : State) (c : ConnNo) (no : Nat) : State :=
  s.guarded c { a := 1, b := 0, c := 131, d := 3, e := 0, f := 255 } .write fun _ s =>
    (s.modConn c fun k => { k with receiptSel := some no }).answer c 0

/-- RECEIPT_SELECT (R421, R452). -/
def execReceiptSelect (t : Nat) (c : ConnNo) (no : Nat) (s : State) : Out := .next ((s.advance t).selectReceipt c no)

/-! ### Opening reading (R418, R419) -/

/-- The registers of an outlet as an opening reading carries them: the accumulators of Table 10.3 and the demand state. -/
def Regs.opening (r : Regs) : List Nat :=
  [r.comp] ++ r.tariff ++ [r.rev, r.unc, r.loss, r.service, r.max.1, r.max.2, r.prevMax.1, r.prevMax.2, r.session]

def regsOfOpening (l : List Nat) : Regs :=
  let g (i : Nat) : Nat := l.getD i 0
  { comp := g 0, tariff := (List.range 8).map fun i => g (1 + i), rev := g 9, unc := g 10, loss := g 11, service := g 12
    max := (g 13, g 14), prevMax := (g 15, g 16), session := g 17 }

/-- The survivor's opening reading as it stands. -/
def State.openingNow (s : State) (replacement : Nat) : OpeningRec :=
  let k := s.tokens
  { hubId := s.ident.hubId, survivor := s.ident.serial, replacement, scribeTime := s.scribe.core.time
    registers := s.scribe.core.regs.toList.map Regs.opening, nextReceipt := s.scribe.core.receiptNo + 1
    nextSeq := s.scribe.core.seq + 1, sealedHash := s.scribe.sealHash.getD 0, tokenGen := k.gen, tokenHigh := k.high
    changeCounter := k.changeCounter, residue := k.residue, waived := k.waived
    tamperCounts := s.tamper.recs.toList.map (·.count), verified := true }

/-- The registers, time, counters and token registers of another module's Scribe are taken as this module's own (R372, R413,
R419). Scribe time never goes back (R61). -/
def State.adoptScribe (s : State) (r : OpeningRec) : State :=
  let s := s.modCore fun c =>
    { c with
      time := max c.time r.scribeTime, receiptNo := r.nextReceipt - 1, seq := r.nextSeq - 1
      regs := vmapIdx (fun (i : Nat) (_ : Regs) => regsOfOpening (r.registers.getD i [])) c.regs }
  let s := s.modTokens fun k =>
    { k with gen := r.tokenGen, high := r.tokenHigh, changeCounter := r.changeCounter, residue := r.residue, waived := r.waived }
  { s with tamper := { s.tamper with
    recs := vmapIdx (fun (i : Nat) (x : TamperRec) => { x with count := r.tamperCounts.getD i 0 }) s.tamper.recs } }

/-- OPENING_READING (R61, R418, R419): a replacement whose Scribe has not yet been open in this start verifies the survivor's record and
takes every value in it as its own, where that sets Scribe time back nowhere; the survivor writes the same log entry. -/
def execOpeningReading (t : Nat) (r : OpeningRec) (s : State) : Out :=
  let s := s.advance t
  .next (if !r.verified || r.hubId ≠ s.ident.hubId then s
    else if r.survivor = s.ident.serial then
      ((s.modScribe fun x => { x with opening := some r }).metLogAdd .openingReading none r.sealedHash).raiseS .openingReading
        [r.survivor, r.replacement]
    else if r.replacement ≠ s.ident.serial || s.scribe.open_ || r.scribeTime < s.scribe.core.time then s else
    let s := (s.adoptScribe r).modScribe fun x => { x with opening := some r }
    ((s.metLogAdd .openingReading none r.sealedHash).raiseS .openingReading [r.survivor, r.replacement]).scribeCommit)

/-! ### Tamper inputs (R444, R445) -/

/-- Tamper type of an input: TMP_IN_0 and 1 the cover, 2 and 3 the magnet. -/
def tamperType (i : Nat) : Nat := if i < 2 then 1 else 2

/-- A debounced level of a tamper input takes effect: a rising edge counts while the Scribe is open (R445). -/
def State.takeTamper (s : State) (i : Fin 4) (level : Bool) : State :=
  let was := s.tamper.inputs[i]
  let s : State := { s with tamper := { s.tamper with inputs := s.tamper.inputs.set i level } }
  if level && !was && s.scribe.open_ then s.countTamper (tamperType i.val) else s

/-- TAMPER_INPUT (R445): a level that has stood 10 ms. The holder's levels are carried in the journal. -/
def execTamperInput (t : Nat) (i : Fin 4) (ms : Nat) (level : Bool) (s : State) : Out :=
  let s := s.advance t
  .next (if ms < 10 || s.tamper.inputs[i] = level then s else s.submit (.tamperInput i level) (·.takeTamper i level))

/-! ### Power failure and opening (R61, R409, R411, R412) -/

/-- A power-fail or power-return record (R411, R412): the log keeps 64. -/
def State.powerRecord (s : State) (ret : Bool) (scribe : Nat) (wall : Option Nat) (sessions : List Nat) : State :=
  let r : PowerFail := { return_ := ret, scribe, wall, stamp := s.stamp, tick := s.tick, sessions }
  (s.modScribe fun x => { x with powerLog := (r :: x.powerLog).take 64 }).raiseS .powerFailRecord
    (ofBool ret :: sessions.map fun (n : Nat) => (n : Int))

/-- The Scribe at PFAIL (R410, R411): boundaries of this instant first, then the record, counted as tamper type 9, and the commit; no
energy counts after it. -/
def State.scribePfail (s : State) : State :=
  if !s.scribe.open_ then s else
  let s := (s.endPeriod.idleAll).boundaries
  let open_ := s.scribe.core.sessions.map Session.ctx
  let s := (s.powerRecord false s.scribe.core.time s.wallSec open_).countTamper 9
  let s := s.modScribe fun x => { x with pfail := some (x.core.time, s.wallSec) }
  let s := s.scribeCommit
  s.modScribe fun x => { x with open_ := false }

/-- What was counted while the Scribe was closed is added to the committed records (R444). -/
def TamperRec.add (a b : TamperRec) : TamperRec :=
  if b.count = 0 then a
  else
    { count := min (a.count + b.count) 0xFFFFFFFF
      firstScribe := if a.count = 0 then b.firstScribe else a.firstScribe
      firstWall := if a.count = 0 then b.firstWall else a.firstWall
      lastScribe := b.lastScribe, lastWall := b.lastWall }

/-- The state committed last is restored, its time one second on; a Scribe that has never committed keeps its reset state (R61,
R409). -/
def State.scribeRestore (s : State) : State :=
  match s.scribe.copies with
  | c :: _ =>
    { s with
      scribe := { s.scribe with core := { c.1 with time := min (c.1.time + 1) (2 ^ 40 - 1) } }
      tokens := c.2.1
      tamper := { s.tamper with recs := vmapIdx (fun i a => a.add (vget s.tamper.recs i {})) c.2.2.recs } }
  | [] => s

/-- The sessions that were open at PFAIL close with end cause POWER_FAIL at that instant, and wait for their receipts (R412). -/
def State.closeAtFail (s : State) (scribe : Nat) (wall : Option Nat) : State :=
  s.scribe.core.sessions.foldl (fun (s : State) (x : Session) =>
    let s := s.modSessions (fun y => y.ctx = x.ctx) fun y => { y with flags := addFlag y.flags .powerFail }
    let x' := { x with flags := addFlag x.flags .powerFail }
    let s := s.modCtx x.ctx fun _ => { st := .closing, endCause := 7, closedAt := s.time.clock }
    s.closeSession x' 7 wall scribe) s

/-- A receipt that waited for its signature keeps its context in CLOSING (R420). -/
def State.reopenBuilding (s : State) : State :=
  s.scribe.building.foldl (fun (s : State) (r : Receipt) =>
    if (s.bctx r.ctx).st = .closing then s
    else s.modCtx r.ctx fun _ => { st := .closing, closedAt := s.time.clock }) s

/-- SCRIBE_OPEN at step 8 (R412, R444, R445, R671): in COMMISSIONED and SERVICE. The interval in progress continues, flagged
POWER_FAIL, and closes, at its scheduled end where that has come, when wall time is known; inputs found high and a changed
RECORDS_HASH are counted. A module that returns to a partner in service discards its own power-fail record and waits for the state
transfer (R413). -/
def State.scribeOpen (s : State) : State :=
  let s := if s.ident.life = .commissioned || s.ident.life = .service then
      let s := (s.scribeRestore).modScribe fun x => { x with open_ := true, tariff := s.defaultTariff }
      let s := if s.pair.st = .resync then s.modScribe fun x =>
          { x with pfail := none, powerLog := if x.pfail.isSome then x.powerLog.drop 1 else x.powerLog } else
        match s.scribe.pfail with
        | some f =>
          let s := s.modCore fun c => { c with interval := { c.interval with flags := addFlag c.interval.flags .powerFail } }
          let ctxs := s.scribe.core.sessions.map Session.ctx
          let s := s.closeAtFail f.1 f.2
          let s := s.powerRecord true s.scribe.core.time s.wallSec ctxs
          let s := s.modScribe fun x => { x with pfail := none }
          if s.wall.valid then s.boundaries else s
        | none => s.closeAtFail s.scribe.core.time none
      let s := s.reopenBuilding
      let s := (List.range 4).foldl (fun s i =>
        if vget s.tamper.inputs i false then s.countTamper (tamperType i) else s) s
      match s.startup.prevHash with
      | some h => if h ≠ s.startup.hdr.recordsHash then s.countTamper 14 else s
      | none => s
    else s
  { s with startup := { s.startup with prevHash := some s.startup.hdr.recordsHash } }

end Sys2Proof.Machine
end

