-- ==== Sys2Proof/Machine/Pair.lean ====
section
/-!
DEFINITION. The pair (chapter 15): pairing, the input journal as each module keeps it, the ring and how it changes hands,
contention, digests and the divergence test, self-tests, recommissioning. Codes of the events' causes are those of log 30.
-/
namespace Sys2Proof.Machine

open Sys2Proof.Config

def State.modPair (s : State) (f : Pair → Pair) : State := { s with pair := f s.pair }

/-- Pair states as numbers, in the order of Table 15.1. -/
def pairNum : PairState → Int
  | .none => 0
  | .pairing => 1
  | .holder => 2
  | .standby => 3
  | .solo => 4
  | .resync => 5
  | .detached => 6

/-- The PAIR record (Table 15.8) and the windows of MODULE (Table 3.5). -/
def State.tzEn (s : State) (link : Nat) : Bool := fld (s.rec1 0x0E01) 0 23 22 / 2 ^ link % 2 = 1
def State.resyncMax (s : State) : Nat := fld (s.rec1 0x0E01) 1 31 28
def State.pairWin (s : State) : Nat := fld (s.rec1 0x0201) 0 15 8 * 10 * ticksPerMs

/-! ### Leaving and taking the ring -/

/-- The module stops RING_OUT and sets its drivers to high impedance (R592, R598, R599); the paired load switches follow
(R526). -/
def State.quiet (s : State) : State :=
  (s.modPair fun p => { p with driving := false, ringOut := false, decided := none, cold := false }).refreshLs

/-- RESYNC is entered (Table 15.1): the state transfer replaces what the journal built; RESYNC_MAX resyncs within one hour make
the module DEGRADED (R607). -/
def State.enterResync (s : State) : State :=
  let now := s.time.clock
  let s := (s.modPair fun p =>
    { p with st := .resync, resyncAt := now, misFrom := none, plan := none, diverge := none, journal := [], copies := [], applied := none
             resyncs := now :: p.resyncs.filter fun x => now < x + 3600 * ticksPerSec }).quiet
  if s.resyncMax ≤ s.pair.resyncs.length then s.degrade 8 else s

/-- A standby falls out of step (R586, R588, R590): 0 an entry or payload missing, 1 a commit missing, 2 misalignment. -/
def State.outOfStep (s : State) (cause jseq : Nat) : State :=
  if s.pair.st = .standby then (s.raise .outOfStep [cause, jseq]).enterResync else s

/-- A holder without a standby runs SOLO (R610). -/
def State.loseStandby (s : State) : State :=
  let last : Int := match s.pair.beat with | some b => pairNum b.1.state | none => 0
  (s.modPair fun p => { p with st := .solo, plan := none, partnerResync := false }).raise .partnerLost [last]

/-- The contactor commands of the current ink without a confirming status are sent again with their SEQ (R597). -/
def Matrix.resend (m : Matrix) : Matrix :=
  let seen : Bool := match m.status with | some x => decide (x.seq = m.seq) | none => false
  match m.st with
  | .closing => { m with cmd := if seen then none else some (1, m.outlet, m.seq) }
  | .opening => { m with cmd := if seen then none else some (2, m.outlet, m.seq) }
  | _ => { m with cmd := none }

/-- The latest committed word of a leg is its own from the first cycle of the new holder's (R595). -/
def Leg.takeHeld (l : Leg) : Leg := match l.held with
  | some w => { l.await 0 w with held := none }
  | none => l

/-- The ring is taken at a decision (R594, R597): RING_OUT, CAN transmission and the ring enable start, in service; a module not yet
in service drives nothing before step 9 (R95). Where the heartbeat is lost the new holder has no standby. -/
def State.takeRing (s : State) : State :=
  let s := (s.modPair fun p =>
    { p with st := .holder, ringOut := s.startup.mode = .service, decided := some s.time.clock, yieldSeen := false, ringLost := false
             takeovers := p.takeovers + 1, takeoverStamp := s.stamp }).modJug fun j =>
    { j with matrix := vmap Matrix.resend j.matrix }
  let s : State := { s with legs := { s.legs with legs := vmap Leg.takeHeld s.legs.legs } }
  let s := s.refreshLs
  if s.pair.beatLost then s.loseStandby else s

/-- TAKEOVER by a standby in step (R594): trigger 0 heartbeat, 1 yield. -/
def State.takeover (s : State) : State :=
  (s.raise .takeover [if s.pair.beatLost then 0 else 1]).takeRing

/-- The state of service start that a cold takeover begins from (R604): every leg OFF, every law READY, zero ink, contexts and
sessions ended with cause error. -/
def State.coldState (s : State) : State :=
  let s := { s with
    legs := { s.legs with
      legs := vmap (fun (l : Leg) =>
        if l.st = LegState.unused || l.st = LegState.idle then l else { l.coast with st := .off, disagreeRun := 0 }) s.legs.legs
      groups := vmap (fun (g : LegGroup) => { g with coasting := true, coastDue := false, stopped := false }) s.legs.groups }
    laws := { s.laws with
      laws := vmap (fun (x : Law) =>
        if x.st = LawState.idle then x else { x with st := .ready, causes := [], prev := (0, 0), new := (0, 0) }) s.laws.laws
      snaps := [] } }
  let s := if s.legs.legsOff then s.inhibit else s
  let s := s.modJug fun j => { j with latch := none, pencil := none, ink := {}, nextInk := none, pointDone := false }
  let s := (List.range 128).foldl (fun s c =>
    let x := (s.bctx c).st
    if x.running || x = .ending then s.closeCtx c 3 else s) s
  s.scribe.core.sessions.foldl (fun (s : State) (x : Session) =>
    let s := s.modCtx x.ctx fun _ => { st := .closing, endCause := 3, closedAt := s.time.clock }
    s.closeSession x 3 s.wallSec s.scribe.core.time) s

/-- COLD_TAKEOVER from RESYNC or DETACHED (R604). -/
def State.coldTakeover (s : State) : State :=
  let was := pairNum s.pair.st
  ((s.raise .coldTakeover [was]).coldState.takeRing).modPair fun p => { p with cold := true }

/-- The ring is judged against R594 and Table 15.1: a DEGRADED standby takes the ring on the loss of the holder only (R607). -/
def State.judgeRing (s : State) : State :=
  let p := s.pair
  if !p.ringLost then s else
  match p.st with
  | .standby => if p.beatLost || (p.yieldSeen && p.degraded.isEmpty) then s.takeover else s
  | .resync => if p.beatLost then s.coldTakeover else s
  | .detached => s.coldTakeover
  | _ => s

/-- The holder gives the ring away (R598, R599): YIELD with its cause, the drivers quiet, then STANDBY or RESYNC. -/
def State.yieldRing (s : State) (cause : Nat) (resync : Bool) : State :=
  let s := (s.raise .yield [cause]).modPair fun p =>
    { p with st := .standby, plan := none, ringLost := false, yieldSeen := false, partnerResync := false }
  if resync then s.enterResync else s.quiet

/-! ### Pairing (R579 to R582, R93, R5, R611) -/

/-- What pairing finds about a partner: not accepted for the present, a fault or a binding that leaves this module SOLO or HELD,
or accepted. Causes of PAIRING_FAULT: 0 ordering code, 1 PAIR_POS, 2 images. -/
inductive PairFind where
  | absent
  | fault (cause : Nat) (held : Bool)
  | replaced
  | unbound
  | accepted
  deriving DecidableEq, Repr

/-- The pairing checks in the order ordering code, PAIR_POS, images, binding (log 31). The binding of each must name the other (R580). -/
def State.pairFind (s : State) (p : PartnerInfo) : PairFind :=
  let h := s.startup.hdr
  if !p.paired || !h.paired || !p.attestOk then .absent
  else if p.orderN ≠ s.ident.orderN then .fault 0 false
  else if p.pairPos = s.ident.pairPos then .fault 1 true
  else if p.recordsHash ≠ h.recordsHash then
    .fault 2 (h.imageSeq < p.imageSeq || (h.imageSeq = p.imageSeq && s.ident.pairPos))
  else if p.serial = s.ident.partnerSerial && (s.ident.partnerHash.getD p.idHash) = p.idHash then
    if p.boundSerial = s.ident.serial then .accepted else .absent
  else if s.ident.partnerSerial = 0 || (p.inService && s.startup.mode ≠ .service) then .unbound
  else .replaced

/-- TURN of the holder is adopted (R589): every phase the Carousel holds moves by the same number of turns; before the first lock it
is kept for that lock. The last half-turn boundary is a record made before the adoption and keeps the stamp of its own count (log
118). -/
def Carousel.adopt (c : Carousel) (n turn tick : Nat) : Carousel :=
  if !c.running then { c with adopted := some (turn, tick) } else
  let old := c.phase / turnUnits
  let f (x : Nat) : Nat := x + turn * turnUnits - old * turnUnits
  let r (x : RefSet) : RefSet := { x with validAt := f x.validAt, turnMeans := x.turnMeans.map fun y => (y.1, f y.2) }
  { c with
    phase := f c.phase, holdFrom := f c.holdFrom, relockFrom := f c.relockFrom
    glideFrom := (c.glideFrom.1, f c.glideFrom.2.1, c.glideFrom.2.2)
    stroke := c.stroke + turn * n - old * n, half := c.half + 2 * turn - 2 * old
    setA := r c.setA, setB := r c.setB, history := c.history.map fun y => (y.1, f y.2) }

/-- Step 6 completes with a pair state (Table 15.1); past its latest time it is refused (R92). -/
def State.settle (s : State) (st : PairState) : State :=
  if s.stepLate .s6 then s.refuseStep .s6 else (s.modPair fun p => { p with st }).stepDone .s6

/-- HELD is entered, with every output in its reset state (R93, R94, R581, R611). -/
def State.hold_ (s : State) : State :=
  let s := if s.startup.mode = .service then s.endService else s
  ({ s with startup := { s.startup with mode := .held } }.quiet).modPair fun p =>
    { p with st := .none, journal := [], copies := [], applied := none }

/-- The outcome of pairing, at step 6 and for a SOLO module in service (R93, R579 to R582, R611). -/
def State.pairOutcome (s : State) (p : PartnerInfo) : State :=
  let service := s.startup.mode = .service
  match s.pairFind p with
  | .absent => s
  | .fault cause held =>
    let s := s.raise .pairingFault [cause]
    if held then s.hold_ else if service then s else s.settle .solo
  | .unbound => s.hold_
  | .replaced =>
    let s := if s.pair.replaced.contains p.serial then s
      else ((s.modPair fun x => { x with replaced := x.replaced ++ [p.serial] }).raise .partnerReplaced [p.serial]).countTamper 10
    if service then s else s.settle .solo
  | .accepted =>
    let s := { s with ident := { s.ident with partnerHash := some p.idHash } }
    let s := s.modPair fun x => { x with partner := some p, beatLost := false, ringLost := false, yieldSeen := false }
    let st : PairState := if service then .holder else if p.inService then .resync
      else if s.ident.pairPos then .holder else .standby
    let s := s.raise .paired [pairNum st, p.serial]
    if service then s.modPair fun x => { x with st := .holder, partnerResync := true }
    else
      let s := if st = .holder then s else s.modCar (·.adopt s.nStrokes p.turn s.tick)
      if st = .resync && !s.stepLate .s6 then (s.settle .resync).enterResync else s.settle st

/-- A module in HELD whose partner's attestation names it writes the new binding and restarts (R612): the survivor was recommissioned with
its serial (log 154). -/
def State.rebind (s : State) (p : PartnerInfo) : State :=
  if p.paired && s.startup.hdr.paired && p.attestOk && p.orderN = s.ident.orderN && p.recordsHash = s.startup.hdr.recordsHash
      && p.boundSerial = s.ident.serial && p.serial ≠ s.ident.partnerSerial then
    ({ s with ident := { s.ident with partnerSerial := p.serial, partnerHash := some p.idHash } }).restart
  else s

/-- PAIRING (R580, R612): at step 6, for a SOLO module in service whose image expects a partner (R582), or in HELD. -/
def execPairing (t : Nat) (p : PartnerInfo) (s : State) : Out :=
  let s := s.advance t
  .next (if s.startup.mode = .held then s.rebind p
    else if (s.startup.mode = .starting && s.pair.st = .pairing) || (s.startup.mode = .service && s.pair.st = .solo) then
    s.pairOutcome p else s)

/-- PAIR_WIN_EXPIRY (R582, R74): PAIR_WIN after step 5 (log 32); a partner accepted in the expiry tick is in time (R47). -/
def execPairWinExpiry (t : Nat) (s : State) : Out :=
  let s := s.advance t
  .next (match s.startup.done.find? fun x => x.1 = .s5 with
    | some x =>
      if s.startup.mode = .starting && s.pair.st = .pairing && x.2 + s.pairWin < s.tick then s.settle .solo else s
    | none => s)

/-! ### The journal at the standby (R585 to R588) -/

/-- An entry leaves the journal. -/
def State.dropEntry (s : State) (jseq : Nat) : State :=
  s.modPair fun p => { p with journal := p.journal.filter fun x => x.entry.jseq ≠ jseq }

/-- An entry was late at its EFFECT stamp (Table 15.10). -/
def State.countLate (s : State) : State :=
  s.modPair fun p => { p with jcounts := (p.jcounts.1, p.jcounts.2.1, p.jcounts.2.2.1 + 1, p.jcounts.2.2.2) }

/-- JOURNAL_ENTRY_RECEIVED (R584 to R586, R605): an inline entry brings its input, a referenced one takes the earliest unmatched
copy of its SOURCE and DIGEST; an entry after its EFFECT stamp is late. Stroke records are exempt (R585). -/
def execJournalEntryReceived (t : Nat) (m : JPending) (s : State) : Out :=
  let s := s.advance t
  let e := m.entry
  .next (if s.pair.st ≠ .standby && s.pair.st ≠ .resync then s else
    let s := s.modPair fun p => { p with jseq := e.jseq, jcounts := (p.jcounts.1 + 1, p.jcounts.2) }
    let hit := s.pair.copies.findIdx? fun (x : InputCopy) => x.source = e.source && x.digest = e.digest
    let held := if e.inline_ then m.input.filter fun i => inputSource i = e.source
      else hit.bind fun i => (s.pair.copies[i]?).map (·.input)
    let s := if e.inline_ then s else match hit with
      | some i => s.modPair fun p => { p with copies := p.copies.eraseIdx i }
      | none => s
    let s := if e.source = 2 && s.pair.st = .standby then s.selfTest 11 hit.isSome else s
    if e.source = 0xA then s
    else if e.effect < s.stamp && s.pair.st = .standby then (s.countLate).outOfStep 0 e.jseq
    else s.modPair fun p => { p with journal := p.journal ++ [{ entry := e, input := held }] })

/-- PAYLOAD_FETCH (R586, R607): the payload an entry lacks arrives from the holder; 16 fetches of CAN frames within 1 s are a
failed self-test. -/
def execPayloadFetch (t : Nat) (m : JPayload) (s : State) : Out :=
  let s := s.advance t
  let jseq := m.jseq
  .next (match s.pair.journal.find? fun x => x.entry.jseq = jseq && x.input.isNone with
    | none => s
    | some x =>
      if (s.pair.st ≠ .standby && s.pair.st ≠ .resync) || inputSource m.input ≠ x.entry.source then s else
      let now := s.time.clock
      let s := s.modPair fun p =>
        { p with
          jcounts := (p.jcounts.1, p.jcounts.2.1 + 1, p.jcounts.2.2)
          journal := p.journal.map fun y => if y.entry.jseq = jseq then { y with input := some m.input } else y
          canFetches := if x.entry.source = 2 then now :: p.canFetches.filter (fun z => now < z + ticksPerSec) else p.canFetches }
      let s := if 16 ≤ s.pair.canFetches.length then s.degrade 7 else s
      if x.entry.effect < s.stamp && s.pair.st = .standby then (s.countLate.dropEntry jseq).outOfStep 0 jseq else s)

/-- UNMATCHED_COPY_DISCARD (R586): 4 turns after its arrival. -/
def execUnmatchedCopyDiscard (t source digest : Nat) (s : State) : Out :=
  let s := s.advance t
  .next (match s.pair.copies.findIdx? fun x =>
      x.source = source && x.digest = digest && decide (x.phase + 4 * turnUnits ≤ s.carousel.phase) with
    | some i => s.modPair fun p =>
      { p with
        copies := p.copies.eraseIdx i
        jcounts := (p.jcounts.1, p.jcounts.2.1, p.jcounts.2.2.1, p.jcounts.2.2.2 + 1) }
    | none => s)

/-- The standby has not committed a result of the holder's by its own deadline (R588). -/
def State.commitMissed (s : State) (x : LawNo × Nat) : Bool :=
  !(s.law x.1.val).committed.contains x.2 &&
    match s.array.jobs.find? fun j => j.law = x.1.val && j.seq = x.2 with
    | some j => decide (j.deadline < s.stamp)
    | none => true

/-- STROKE_RECORD (R588): the standby releases its copies of the law tasks of the stroke at the holder's sample indices and applies
each leg's word in the cycle named; a result the holder committed and the standby did not puts it out of step. -/
def execStrokeRecord (t : Nat) (r : StrokeRec) (s : State) : Out :=
  let s := s.advance t
  .next (if s.pair.st ≠ .standby then s
    else if r.committed.any s.commitMissed then s.outOfStep 1 s.pair.jseq
    else
      let s := r.laws.foldl (fun s x => s.releaseRecorded r.stroke x) (s.placeWords r.words)
      s.modPair fun p => { p with strokeRec := r.stroke })

/-! ### Alignment and the ring (R589 to R598) -/

/-- CAROUSEL_ALIGNMENT (R589): the link delay and the error to the holder, measured every 1 ms. -/
def execCarouselAlignment (t delayNs : Nat) (errNs : Int) (s : State) : Out :=
  let s := s.advance t
  .next (if s.pair.st = .standby || s.pair.st = .resync || s.pair.st = .holder then
    s.modPair fun p =>
      { p with align := if p.st = .holder then p.align else errNs
               misFrom := if p.st = .holder || errNs.natAbs ≤ 50 then none else some (p.misFrom.getD s.carousel.phase)
               links := vmap (fun (l : TzLink) => if l.up then { l with delay := delayNs } else l) p.links }
  else s)

/-- MISALIGNMENT (R590): every measurement of one half-turn has been above 50 ns, and so is the present one. -/
def execMisalignment (t : Nat) (errNs : Int) (s : State) : Out :=
  let s := s.advance t
  .next (match s.pair.misFrom with
    | some a => if 50 < errNs.natAbs && a + turnUnits / 2 ≤ s.carousel.phase then s.outOfStep 2 s.pair.jseq else s
    | none => s)

/-- What a heartbeat of this module carries (R591, R467). -/
def State.ownBeat (s : State) : Beat :=
  { state := s.pair.st, degraded := !s.pair.degraded.isEmpty, lastJseq := s.pair.jseq, pause := s.ownPause }

/-- PAIR_HEARTBEAT (R591, R467): one sent on a link in use, or one received, with the pause flags of the partner's safety
net. -/
def execPairHeartbeat (t : Nat) (link : Fin 2) (b : Option Beat) (s : State) : Out :=
  let s := s.advance t
  .next (if s.pair.st = .none || s.pair.st = .pairing || !s.tzEn link.val then s else match b with
    | none => s.modPair fun p => { p with links := vmod p.links link fun l => { l with sent := l.sent + 1, lastBeat := some s.ownBeat } }
    | some b =>
      let s := (s.modPair fun p =>
        { p with beat := some (b, s.time.clock), beatLost := false, partnerResync := b.state = .resync }).selfTest 7 true
      ((s.modSafety fun x => { x with pausePartner := b.pause }).react).pauseScan)

/-- RING_WATCHDOG_LAPSE (R592): 2 us without a refresh, in ticks; one in the expiry tick is in time (R47). -/
def execRingWatchdogLapse (t ticks : Nat) (s : State) : Out :=
  let s := s.advance t
  .next (if 2 * ticksPerUs < ticks && s.holds then s.quiet else s)

/-- RING_LOST (R593, R594, R604, R619): no transition on RING_IN for 4 us, in ticks; one in the expiry tick is in time. -/
def execRingLost (t ticks : Nat) (s : State) : Out :=
  let s := s.advance t
  .next (if ticks ≤ 4 * ticksPerUs || s.pair.ringLost
      || !(s.pair.st = .standby || s.pair.st = .resync || s.pair.st = .detached) then s else
    let s := s.modPair fun p => { p with ringLost := true }
    let s := if !s.pair.beatLost && !s.pair.yieldSeen && s.pair.st ≠ .detached then s.raise .ringWire [] else s
    s.judgeRing)

/-- HEARTBEAT_LOST (R593, R594, R604, R610): none on any link for 8 us; one that arrives in the expiry tick is in time. -/
def execHeartbeatLost (t : Nat) (s : State) : Out :=
  let s := s.advance t
  let gone : Bool := match s.pair.beat with
    | some b => s.expired b.2 (8 * ticksPerUs)
    | none => true
  .next (if !gone || s.pair.beatLost || s.pair.st = .none || s.pair.st = .pairing || s.pair.st = .solo then s else
    let s := s.modPair fun p => { p with beatLost := true }
    if s.pair.st = .holder then s.loseStandby else s.judgeRing)

/-- NEW_HOLDER_DRIVE (R595, R604; log 157): at the first stroke boundary at least 4 us after the decision, after a cold takeover at the
first one. -/
def execNewHolderDrive (t : Nat) (s : State) : Out :=
  let s := s.advance t
  .next (match s.pair.decided with
    | some d =>
      let lead := if s.pair.cold then 0 else 4 * ticksPerUs
      if s.holds && s.startup.mode = .service && s.carousel.running && d + lead ≤ s.carousel.strokeTick + s.time.tick0 then
        s.modPair fun p => { p with driving := true, decided := none, cold := false }
      else s
    | none => s)

/-- YIELD (R598, R601, R607): at the boundary named. A yield for DEGRADED needs a fit standby still (R617). -/
def execYield (t : Nat) (s : State) : Out :=
  let s := s.advance t
  .next (match s.pair.plan with
    | none => s
    | some p =>
      if s.pair.st ≠ .holder || s.carousel.half < p.half then s
      else if p.cause < 10 && !s.standbyFit then s.modPair fun x => { x with plan := none }
      else s.yieldRing p.cause (p.cause = 12))

/-- YIELD_MESSAGE (R594): one takeover, whichever comes first (R617). -/
def execYieldMessage (t : Nat) (s : State) : Out :=
  let s := s.advance t
  .next (if s.pair.st = .standby then (s.modPair fun p => { p with yieldSeen := true }).judgeRing else s)

/-- The yield operation: the holder plans its yield; refused where no fit standby could take the ring (R598, R607). A standby that
carries out the holder's entry has nothing to plan. -/
def State.opYield (s : State) (c : Caller) : State :=
  if s.pair.st = .holder && s.standbyFit && s.pair.plan.isNone then (s.planYield 10).reply c 0 else s.reply c 4

/-- YIELD_EXECUTE (R598, R618): the yield object. -/
def execYieldExecute (t : Nat) (c : ConnNo) (s : State) : Out :=
  .next ((s.advance t).change c (dev 142 6 0) .execute .yield_ fun c s => s.opYield c)

/-! ### Contention (R181, R599) -/

/-- DRIVE_CONTENTION (R181, R195, R599): an amplitude above 850 mV while driving is a second driver; the event names the net first
seen; the module with PAIR_POS low yields, unless its image has no partner (R582). In the window announced for an agreeing-drive
test the net is not judged (R606). -/
def execDriveContention (t : Nat) (leg : LegNo) (net : Net) (mV : Nat) (s : State) : Out :=
  let s := s.advance t
  let test : Bool := match s.pair.agree with
    | some x => decide (x.1 = leg.val ∧ x.2.1 = net ∧ x.2.2 ≤ s.time.clock ∧ s.time.clock < x.2.2 + ticksPerUs)
    | none => false
  let known := test || s.legs.resolved.contains (leg.val, net) || s.legs.contended.any fun x => x.leg = leg.val && x.net = net
  .next (if mV ≤ 850 || known || !s.pair.driving || s.safety.legsOwn || s.legs.legsOff || s.legRole leg.val = 0 then s else
    let stroke := s.carousel.stroke
    let x : Contention := { leg := leg.val, net, yieldStroke := some (s.pair.contYield.getD stroke) }
    let first := s.legs.contended.isEmpty
    let s : State := { s with legs := { s.legs with contended := s.legs.contended ++ [x] } }
    let s := if first then s.raise .driveContention [leg.val, if net = Net.hi then 0 else 1] else s
    let s := s.modPair fun p => { p with contYield := some (p.contYield.getD stroke) }
    if s.ident.pairPos || !s.startup.hdr.paired then s else s.yieldRing 11 (s.pair.st ≠ .holder))

/-- CONTENTION_RESOLVED (R181, R599): a stroke without a sample above 850 mV, or the end of the third stroke after the yield. -/
def execContentionResolved (t : Nat) (leg : LegNo) (net : Net) (clean : Bool) (s : State) : Out :=
  let s := s.advance t
  .next (match s.legs.contended.find? fun x => x.leg = leg.val && x.net = net with
    | none => s
    | some x =>
      let third : Bool := match x.yieldStroke with | some y => decide (y + 4 ≤ s.carousel.stroke) | none => false
      if !clean && !third then s else
      let rest := s.legs.contended.filter fun y => !(y.leg = leg.val && y.net = net)
      let s := { s with legs := { s.legs with
        contended := rest
        resolved := s.legs.resolved ++ [(leg.val, net)] } }
      if rest.isEmpty then s.modPair fun p => { p with contYield := none } else s)

/-! ### Digests and the divergence test (R600 to R603) -/

/-- Values of a law in a digest: state, references and repetitive tables. -/
def Law.digestVals (x : Law) : List Int :=
  let st : Int := match x.st with | .idle => 0 | .ready => 1 | .running => 2 | .coasted => 3 | .stopped => 4
  [st] ++ x.causes.map LawCause.num ++
    [x.prev.1.num, x.prev.1.den, x.prev.2.num, x.prev.2.den, (x.p : Int)] ++ (x.x.flatMap fun y => [y.1, y.2]) ++ x.rep.flatten

/-- Values of an ink in a digest. -/
def Alloc.digestVals (a : Alloc) : List Int :=
  (a.outlets ++ a.groups).flatMap (fun x => [(x.1 : Int), (x.2 : Int)]) ++ a.afes.flatMap fun x => [x.1, x.2]

/-- The commit hash (R600): results of the half-turn in SEQ order within ascending domains. -/
def commitVals (l : List (Nat × Nat × List W32)) : List Int :=
  let before (x y : Nat × Nat × List W32) : Bool := x.1 < y.1 || (x.1 = y.1 && x.2.1 ≤ y.2.1)
  let put (x : Nat × Nat × List W32) (l : List (Nat × Nat × List W32)) : List (Nat × Nat × List W32) :=
    l.takeWhile (fun y => before y x) ++ x :: l.dropWhile fun y => before y x
  (l.foldr put []).flatMap fun x => [(x.1 : Int), (x.2.1 : Int), (x.2.2.length : Int)] ++ x.2.2.map fun w => (w.toNat : Int)

/-- The digest of a half-turn boundary (R600). -/
def State.digestNow (s : State) : Nat :=
  sha256 (s.juggler.ink.digestVals ++ s.laws.laws.toList.flatMap Law.digestVals ++
    s.scribe.core.regs.toList.flatMap (fun r => r.opening.map fun n => (n : Int)) ++ [(sha256 (commitVals s.pair.commits) : Int)])

/-- The pair's part of a half-turn boundary: the digest is computed and kept, the commits of the half-turn begin anew (R600); a DEGRADED
holder with a fit standby plans its yield (R607). -/
def State.pairHalf (s : State) : State :=
  let s := match s.pair.st with
    | .holder | .standby =>
      s.modPair fun p => { p with digests := ((s.carousel.half, s.digestNow, none) :: p.digests).take 64, commits := [] }
    | _ => s.modPair fun p => { p with commits := [] }
  if s.pair.st = .holder && !s.pair.degraded.isEmpty && s.standbyFit && s.pair.plan.isNone then
    s.planYield (s.pair.degraded.headD 0)
  else s

/-- A digest truncated to its first 64 bits. -/
def shortDigest (d : Nat) : Int := (d / 2 ^ 192 : Nat)

/-- PARTNER_DIGEST (R600, R601): compared with the module's own of that half-turn boundary; a mismatch starts the divergence test, and is
counted while one runs. -/
def execPartnerDigest (t boundary digest : Nat) (s : State) : Out :=
  let s := s.advance t
  .next (match s.pair.digests.find? fun x => x.1 = boundary && x.2.2.isNone with
    | none => s
    | some x =>
      let s := (s.modPair fun p =>
        { p with digests := p.digests.map fun y => if y.1 = boundary then (y.1, y.2.1, some digest) else y }).selfTest 8
          (x.2.1 = digest)
      if x.2.1 = digest then s else
      match s.pair.diverge with
      | some d => s.modPair fun p => { p with diverge := some { d with more := d.more + 1 } }
      | none =>
        (s.modPair fun p => { p with diverge := some { started := s.time.clock, inked := false, more := 0 } }).raise
          .digestMismatch [boundary, shortDigest x.2.1, shortDigest digest])

/-- The built-in tests of the divergence test: every nib not fenced is tested; one that fails is fenced (R131, R601). -/
def State.testNibs (s : State) (failed : List NibNo) : State :=
  let s := s.modArr fun a => { a with nibs := vmapIdx (fun i (x : Nib) =>
    if x.fenced then x else { x with lastTest := some (s.tick, !(failed.any fun n => n.val = i)) }) a.nibs }
  failed.foldl (fun s n => if (s.array.nibs[n]).fenced then s else s.fence n 0) s

/-- DIVERGENCE_RESULT (R131, R601, R607): this module fails with a nib that fails its test or a digest that comes out another than
the one it sent. -/
def execDivergenceResult (t : Nat) (x : OwnTest) (partner : Bool) (s : State) : Out :=
  let s := s.advance t
  let own := x.failed.isEmpty && x.digestOk
  .next (if s.pair.diverge.isNone then s else
    let s := ((s.testNibs x.failed).modPair fun p => { p with diverge := none }).raise .divergenceResult [ofBool own, ofBool partner]
    let s := if own then s else s.degrade 3
    match s.pair.st with
    | .holder => if !own && partner then s.planYield 12 else s
    | .standby => if own && !partner then s else s.enterResync
    | _ => s)

/-- A curtailment source as a state transfer brings it (R274). -/
def curtOf (x : Nat × Option Nat × Option Nat) (now : Nat) : CurtSrc :=
  { st := if x.1 = 0 then .lifted else if x.1 = 1 then .active else .silent, value := x.2.1, expiry := x.2.2.map (· + now) }

/-- A leg as a state transfer brings it: this module's own FLT input, no readback counted yet. -/
def Leg.adopt (own x : Leg) : Leg :=
  { x with fltLow := own.fltLow, fltHighSince := own.fltHighSince, killed := false, mismatch := false, disagreeRun := 0 }

/-- The Scribe as a state transfer brings it: Scribe time never goes back (R61), and this module's own clocks and samples go on. -/
def Scribe.adopt (own x : Scribe) : Scribe :=
  { x with
    open_ := own.open_, mdck := own.mdck, bits := own.bits, sums := own.sums, faulty := own.faulty, copies := own.copies
    core := { x.core with time := max own.core.time x.core.time } }

/-- Every domain of the transfer is taken at its latest committed version (R603); no task is in flight at the boundary. -/
def State.adoptDomains (s : State) (x : Transfer) : State :=
  let now := s.time.clock
  let s := { s with
    legs := { s.legs with
      legs := vmapIdx (fun i l => l.adopt (vget x.legs i {})) s.legs.legs, groups := x.groups, offSides := x.offSides
      legsOff := x.offSides.1 || x.offSides.2 }
    laws := { s.laws with laws := x.laws, snaps := [] }
    array := { s.array with seqs := x.seqs, jobs := [], settled := [], opens := [], queue := [], retire := [] }
    juggler := { x.juggler with curtObj := curtOf x.curtObj now, curtCan := curtOf x.curtCan now }
    thermal := { x.thermal with flights := [], sigs := s.thermal.sigs, strokes := s.thermal.strokes }
    barker := x.barker
    pair := { s.pair with takeovers := x.takeovers.1, takeoverStamp := x.takeovers.2 } }
  if s.scribe.open_ then
    ({ s with
      scribe := s.scribe.adopt x.work, tokens := x.tokens
      tamper := { s.tamper with recs := x.tamper.recs } }).scribeCommit
  else s

/-- RESYNC_DONE (R603, R61, R274, R372, R413): at a half-turn boundary with no block outstanding, the standby goes on from the state
transferred. -/
def execResyncDone (t outstanding mib : Nat) (x : Transfer) (s : State) : Out :=
  let s := s.advance t
  .next (if s.pair.st ≠ .resync || outstanding ≠ 0 then s else
    ((s.adoptDomains x).modPair fun p => { p with st := .standby }).raise .resyncDone
      [((s.time.clock - s.pair.resyncAt) / ticksPerMs : Nat), mib])

/-! ### Self-tests and health (R605 to R608) -/

/-- AGREEING_DRIVE_TEST (R606, R607): the standby's readback must exceed 850 mV; with an edge of the net near, the test moves to
another stroke (R617). On the holder the step opens the announced window of 1 us. -/
def execAgreeingDriveTest (t : Nat) (leg : LegNo) (net : Net) (mV : Nat) (edgeNear : Bool) (s : State) : Out :=
  let s := s.advance t
  .next (if s.pair.st = .holder then s.modPair fun p => { p with agree := some (leg.val, net, s.time.clock) }
    else if s.pair.st ≠ .standby || s.startup.mode ≠ .service || edgeNear then s else
    let s := s.selfTest 5 (decide (850 < mV))
    if 850 < mV then s else s.degrade 4)

/-- RING_BURST (R606, R607): the holder must report 20 +- 1 transitions of the standby's burst. -/
def execRingBurst (t transitions : Nat) (s : State) : Out :=
  let s := s.advance t
  let ok : Bool := 19 ≤ transitions && transitions ≤ 21
  .next (if s.pair.st ≠ .standby || s.startup.mode ≠ .service then s else
    let s := s.selfTest 6 ok
    if ok then s else s.degrade 5)

/-- The periods of Table 15.6 in ticks, by test. Tests of every stroke and half-turn have no fixed period: 20 ms is taken. -/
def testPeriod (n : Nat) : Nat :=
  [10 * ticksPerSec, 8 * ticksPerMs, 120 * ticksPerSec, ticksPerSec, 20 * ticksPerMs, 10 * ticksPerSec, ticksPerSec, 2 * ticksPerUs,
    20 * ticksPerMs, ticksPerMs, ticksPerSec, ticksPerSec].getD n ticksPerSec

/-- The coverage of a test as a fraction in 1/1 000: of the nibs for the nib test, all or nothing for the others (log 33). -/
def State.coverage (s : State) (n : Nat) : Int :=
  if n = 0 then
    let fresh := s.array.nibs.toList.countP fun x => match x.lastTest with
      | some y => decide (s.tick < y.1 + 10 * ticksPerSec)
      | none => false
    (fresh * 1000 / 256 : Nat)
  else match s.pair.tests.find? fun x => x.1 = n with
    | some x => if s.tick ≤ x.2.tick + testPeriod n then 1000 else 0
    | none => 0

/-- HEALTH_REPORT (R608). -/
def execHealthReport (t : Nat) (s : State) : Out :=
  let s := s.advance t
  let test (n : Nat) : List Int := match s.pair.tests.find? fun x => x.1 = n with
    | some x => [n, x.2.tick, (s.tick - x.2.tick : Nat), ofBool x.2.pass, s.coverage n]
    | none => [n, -1, -1, 0, 0]
  .next (s.modPair fun p => { p with health :=
    [(s.tick : Int)] ++ (List.range 12).flatMap test ++ [(p.degraded.length : Int)] ++ p.degraded.map (fun n => (n : Int)) ++
      [(s.array.nibs.toList.countP (·.fenced) : Int)] ++ s.array.fencedList ++ [pairNum p.st] })

/-- LINK_STATE (R619, Table 15.1): a Trapeze link in use is lost or restored; both lost detach the module, one restored brings it
back through RESYNC. -/
def execLinkState (t : Nat) (link : Fin 2) (up : Bool) (s : State) : Out :=
  let s := s.advance t
  .next (if !s.tzEn link.val || s.pair.links[link].up = up then s else
    let s := (s.modPair fun p => { p with links := vmod p.links link fun l =>
      { l with up, errors := if up then l.errors else l.errors + 1 } }).raise .linkState [link.val, ofBool up]
    let none_ := (List.range 2).all fun k => !(s.tzEn k && (vget s.pair.links k {}).up)
    if none_ && (s.pair.st = .standby || s.pair.st = .resync) then
      s.modPair fun p => { p with st := .detached, journal := [], copies := [], applied := none, plan := none, diverge := none }
    else if up && s.pair.st = .detached then s.enterResync
    else s)

/-- The recommission operation (R612, R418): the survivor binds the new module's serial, if its attestation shows the same ordering
code and an image that satisfies R93, and sends the opening reading. -/
def State.opRecommission (s : State) (c : Caller) (p : PartnerInfo) : State :=
  if !p.attestOk || p.orderN ≠ s.ident.orderN || p.recordsHash ≠ s.startup.hdr.recordsHash then s.reply c 4
  else
    let s := { s with ident := { s.ident with partnerSerial := p.serial, partnerHash := some p.idHash } }
    let s := s.modScribe fun x => { x with opening := some (s.openingNow p.serial) }
    (s.raise .recommissioned [p.serial, roleBit c.role]).reply c 0

/-- RECOMMISSION (R612): the recommission object. -/
def execRecommission (t : Nat) (c : ConnNo) (p : PartnerInfo) (s : State) : Out :=
  .next ((s.advance t).change c (dev 142 5 0) .execute (.recommission p) fun c s => s.opRecommission c p)

end Sys2Proof.Machine
end

