-- ==== Sys2Proof/Machine/Buses.lean ====
section
/-!
DEFINITION. The CAN channels, the Ethernet ports, PTP, wall time and telemetry (chapter 16, R54 to R59).
-/
namespace Sys2Proof.Machine

open Sys2Proof.Config

/-! ### CAN records and state access -/

def State.canRec (s : State) (k : Nat) : Option (List W32) := s.recAt 0x0F01 31 29 k
def canFormat (w : List W32) : Nat := fld w 0 28 27
def canRole (w : List W32) : Nat := fld w 0 26 25
def canRefId (w : List W32) : Nat := fld w 2 28 0
def State.canSched (s : State) (k : Nat) : List W32 := (s.recAt 0x0F02 31 29 k).getD []
def schedL (w : List W32) : Nat := fld w 0 28 25
def schedM (w : List W32) : Nat := fld w 0 24 22

def State.can (s : State) (k : Nat) : Can := vget s.buses.can k {}
def State.modCan (s : State) (k : Nat) (f : Can → Can) : State :=
  { s with buses := { s.buses with can := vmapIdx (fun i x => if i = k then f x else x) s.buses.can } }
def State.canCount (s : State) (k : Nat) (f : CanCounts → CanCounts) : State :=
  s.modCan k fun x => { x with counts := f x.counts }

/-- Listen-only (R623, Table 3.9). -/
def State.listenOnly (s : State) (w : List W32) : Bool :=
  bit w 0 24 || s.startup.mode ≠ .service || s.pair.st = .standby || s.pair.st = .resync || s.pair.st = .detached

/-! ### Fault confinement (R622, ISO 11898-1) -/

/-- The error state follows the counts; each entry to error passive or bus-off, and the end of error passive, raises an
event. -/
def State.canConfine (s : State) (k : Nat) : State :=
  let x := s.can k
  let st : CanErr := if x.err = .busOff || 255 < x.tec then .busOff else if 127 < x.tec || 127 < x.rec_ then .passive else .active
  if st = x.err then s else
  let s := s.modCan k fun x => { x with err := st }
  match st with
  | .busOff =>
    (((s.modCan k fun x => { x with attempt := none, frame := none }).canCount k fun c => { c with busOffs := c.busOffs + 1 }).raise
      .canBusOff [k])
  | _ => s.raise .canErrorPassive [k, x.tec, x.rec_]

/-- CAN_RECEIVE_ERROR (R622, R623): a listen-only channel counts the error without changing its error state. -/
def execCanReceiveError (t : Nat) (chan : CanNo) (e : RxErr) (s : State) : Out :=
  let s := s.advance t
  let k := chan.val
  .next (match s.canRec k with
    | none => s
    | some w =>
      let s := s.canCount k fun c => { c with errors := c.errors + 1 }
      if s.listenOnly w || (s.can k).err = .busOff then s else
      (s.modCan k fun x =>
        { x with rec_ := x.rec_ + match e with | .first => 1 | .dominantAfterFlag => 8 }).canConfine k)

/-- CAN_BUS_OFF_RECOVERY (R622): 128 occurrences of 11 recessive bits. -/
def execCanBusOffRecovery (t : Nat) (chan : CanNo) (occurrences : Nat) (s : State) : Out :=
  let s := s.advance t
  .next (if (s.can chan.val).err = .busOff && 128 ≤ occurrences then
    (s.modCan chan.val fun x => { x with err := .active, tec := 0, rec_ := 0 }).raise .canBusOff [chan.val]
  else s)

/-! ### The schedule (R625 to R633) -/

/-- The cycle in progress on a channel: its number, its index in the matrix, the arcs since it began. A follower counts from its
last reference message, and runs on by R625 only once that is lost (R631). -/
def State.canCycle (s : State) (k : Nat) : Option (Nat × Nat × Nat) :=
  match s.canRec k with
  | none => none
  | some w =>
    let sched := s.canSched k
    let len := 2 ^ schedL sched
    let m := 2 ^ schedM sched
    if !s.carousel.running || sched.isEmpty then none
    else if canRole w = 2 then
      match (s.can k).cycleRef with
      | none => none
      | some r =>
        let x := s.stamp - r.1
        if len ≤ x && !(s.can k).refLost then none else some (r.1 + x / len, (r.2 + x / len) % m, x % len)
    else some (s.stamp / len, s.stamp / len % m, s.stamp % len)

/-- A window of the schedule (Table 16.6). -/
structure CanWin where
  start : Nat
  repeat_ : Nat
  offset : Nat
  length : Nat
  kind : Nat
  src : Nat
  index : Nat
  deriving DecidableEq, Repr

def winOf (w : List W32) (i : Nat) : CanWin :=
  let k := 1 + 3 * i
  { start := fld w k 31 14, repeat_ := fld w k 13 11, offset := fld w k 10 5, length := fld w (k + 1) 31 14
    kind := fld w (k + 2) 31 30, src := fld w (k + 2) 29 27, index := fld w (k + 2) 26 13 }

/-- The reference message stamped with the present line stamp (R632, Table 16.3). -/
def State.refMessage (s : State) (idx : Nat) : Nat :=
  idx % 64 * 2 ^ 58 + (if s.carousel.st = .locked then 2 ^ 57 else 0) + s.stamp % 2 ^ 56

/-- The bits of a classic extended frame of n bytes with worst-case stuffing and intermission (R628; ISO 11898-1, log 40). -/
def frameBits (n : Nat) : Nat := 67 + 8 * n + (53 + 8 * n) / 4

/-- A frame of n bytes that starts now ends before the window closes, at the Carousel's present frequency (R628). -/
def State.fitsWindow (s : State) (w : List W32) (v : CanWin) (off n : Nat) : Bool :=
  let close := (s.stamp - off + v.start + v.length + 1) * arcUnits
  decide (s.carousel.phase ≤ close) &&
    decide (s.carousel.freq * frameBits n * ticksPerMs ≤ (close - s.carousel.phase) * fld w 0 15 0)

/-- A window whose cycle began `off` arcs ago and that opened in it is open to this module (R597, R626, R633, R654): the schedule
has started, the tick of the opening is over, so that a status of that tick comes first, and a new holder has decided before it
opened. -/
def State.winBegan (s : State) (v : CanWin) (off : Nat) : Bool :=
  let start := s.stamp - off + v.start
  (s.buses.schedFrom.any fun a => a ≤ s.stamp - off) && decide (start * arcUnits + s.carousel.freq ≤ s.carousel.phase)
    && (s.pair.takeovers = 0 || decide (s.pair.takeoverStamp < start))

/-- A status with the SEQ of a group's command has arrived and waits in the journal: no repeat is sent (R629, R654). -/
def State.statusComing (s : State) (g : Nat) (seq : Nat) : Bool :=
  s.pair.journal.any fun e => match e.input with
    | some (.contactorStatus c p) => c.val = g && p.toNat / 256 % 256 = seq
    | _ => false

/-- The bytes of an 8-byte or 4-byte payload, first byte first. -/
def payloadBytes (n x : Nat) : List Byte := (List.range n).map fun i => BitVec.ofNat 8 (x / 2 ^ (8 * (n - 1 - i)))

/-- The converter group of a GROUP node (Table 7.11). -/
def State.groupOfNode (s : State) (node : Nat) : Option CNode := s.policy.nodes.find? fun n => n.node = node && n.kind = 4

/-- The frame a source has pending: identifier and payload. 1 contactor command, 2 cooling-unit command, 3 reference message
(R279, R325, R629, R631). -/
def State.pendingFrame (s : State) (idx src index : Nat) (w : List W32) : Option (Nat × List Byte) :=
  match src with
  | 1 => (s.groupOfNode index).bind fun n =>
      ((s.matrix n.inst).cmd.filter fun c => !s.statusComing n.inst c.2.2).map fun c => (n.ctrId, payloadBytes 4 (ctrPayload c).toNat)
  | 2 => (s.dcu index).map fun d =>
      (fld (s.instRec index) 2 28 0, payloadBytes 8 (demandField d.d * 2 ^ 48 + d.seq * 2 ^ 40 + 2 ^ 32))
  | 3 => if canRole w = 1 then some (canRefId w, payloadBytes 8 (s.refMessage idx)) else none
  | _ => none

/-- A cooling command is pending afresh in each exclusive window: its SEQ moves on (R325, R629). -/
def State.freshDcu (s : State) (inst : Nat) : State :=
  { s with thermal := { s.thermal with
    dcus := s.thermal.dcus.map fun (d : Dcu) => if d.inst = inst then { d with seq := (d.seq + 1) % 256 } else d } }

/-- A frame is counted as missed and kept for the arbitration windows of its cycle (R628). -/
def State.canMissed (s : State) (k src index cycle : Nat) : State :=
  let s := s.modCan k fun x =>
    { x with attempt := none, frame := none
             missed := (src, index, cycle) :: x.missed.filter fun m => m.2.2 = cycle && !(m.1 = src && m.2.1 = index) }
  (s.canCount k fun c => { c with missed := c.missed + 1 }).raise .canTxMissed [k, src, index]

/-- The frame starts (R628). -/
def State.startFrame (s : State) (k src index : Nat) (f : Nat × List Byte) : State :=
  s.modCan k fun x => { x with attempt := some (src, index), frame := some f }

/-- The missed frame of lowest identifier still pending in the cycle (Table 16.2, KIND 2). -/
def State.arbitrate (s : State) (k cycle idx : Nat) (w : List W32) : Option (Nat × Nat × (Nat × List Byte)) :=
  ((s.can k).missed.filter fun m => m.2.2 = cycle).foldl (fun best m =>
    match s.pendingFrame idx m.1 m.2.1 w, best with
    | some f, some b => if f.1 < b.2.2.1 then some (m.1, m.2.1, f) else best
    | some f, none => some (m.1, m.2.1, f)
    | none, _ => best) none

/-- A holder counts the slots that its standby did not hear, and is DEGRADED at the third in a row (R607). -/
def State.heardSlot (s : State) (heard : Bool) : State :=
  if s.pair.st ≠ .holder then s else
  let n := if heard then 0 else s.pair.unheard + 1
  let s := s.modPair fun p => { p with unheard := n }
  if 3 ≤ n then s.degrade 9 else s

/-- A window with one sender: it waits for the bus to be idle and makes one attempt with the frame pending, or counts it as missed once it
cannot end in time (R627, R628). -/
def State.canSlot (s : State) (k : Nat) (w : List W32) (v : CanWin) (cycle idx off src index : Nat) (idle heard : Bool) : State :=
  match s.pendingFrame idx src index w with
  | none => s
  | some f =>
    if (s.can k).tried || (s.can k).attempt.isSome then s
    else if !s.fitsWindow w v off f.2.length then
      ((s.modCan k fun x => { x with tried := true }).canMissed k src index cycle).heardSlot heard
    else if idle then ((s.modCan k fun x => { x with tried := true }).startFrame k src index f).heardSlot heard
    else s

/-- The first command in a window: the window's attempt is still to come, and a cooling command is pending afresh (R628, R629). -/
def State.takeWindow (s : State) (k cycle entry : Nat) (v : CanWin) : State :=
  if (s.can k).win = some (cycle, entry) then s else
  let s := s.modCan k fun x => { x with win := some (cycle, entry), tried := false }
  if v.kind = 1 && v.src = 2 then s.freshDcu v.index else s

/-- CAN_WINDOW (R626 to R633, R607): window `entry` of the channel is open; `idle` says that the bus is idle, `heard` that the
standby heard the frame sent. -/
def execCanWindow (t : Nat) (chan : CanNo) (entry : Nat) (idle heard : Bool) (s : State) : Out :=
  let s := s.advance t
  let k := chan.val
  let sched := s.canSched k
  .next (match s.canRec k, s.canCycle k with
    | some w, some (cycle, idx, off) =>
      let v := winOf sched entry
      let is_open := entry < fld sched 0 21 14 && v.start ≤ off && off ≤ v.start + v.length && idx % 2 ^ v.repeat_ = v.offset
      if !is_open || !s.winBegan v off || s.listenOnly w || (s.can k).err = .busOff then s else
      let s := s.takeWindow k cycle entry v
      match v.kind with
      | 0 => s.canSlot k w v cycle idx off 3 0 idle heard
      | 1 => s.canSlot k w v cycle idx off v.src v.index idle heard
      | 2 => match s.arbitrate k cycle idx w with
        | some (src, index, f) =>
          if idle && (s.can k).attempt.isNone && s.fitsWindow w v off f.2.length then s.startFrame k src index f else s
        | none => s
      | _ => s
    | _, _ => s)

/-- CAN_TX_DONE (R622, R628): the end of the attempt in progress. -/
def execCanTxDone (t : Nat) (chan : CanNo) (e : TxEnd) (s : State) : Out :=
  let s := s.advance t
  let k := chan.val
  .next (match (s.can k).attempt with
    | none => s
    | some a =>
      let cycle := ((s.canCycle k).getD (0, 0, 0)).1
      match e with
      | .success =>
        ((s.modCan k fun x =>
          { x with attempt := none, tec := x.tec - 1, missed := x.missed.filter fun m => !(m.1 = a.1 && m.2.1 = a.2) }).canCount k
            fun c => { c with tx := c.tx + 1 }).canConfine k
      | .lostArbitration => s.canMissed k a.1 a.2 cycle
      | .error =>
        (((s.canMissed k a.1 a.2 cycle).canCount k fun c => { c with errors := c.errors + 1 }).modCan k fun x =>
          { x with tec := x.tec + 8 }).canConfine k)

/-- A follower has had no reference message for 2 cycle lengths; one that arrives in the expiry arc is in time (R47, R631). -/
def State.refOverdue (s : State) (k : Nat) : Option Nat :=
  let x := s.can k
  match s.canRec k, x.cycleRef with
  | some w, some r => if canRole w = 2 && !x.refLost && r.1 + 2 * 2 ^ schedL (s.canSched k) < s.stamp then some r.2 else none
  | _, _ => none

/-- The loss of the reference takes effect (R631). -/
def State.loseCanRef (s : State) (k : Nat) : State :=
  match s.refOverdue k with
  | some c => (s.modCan k fun x => { x with refLost := true }).raise .canRefLost [k, c]
  | none => s

/-- CAN_REF_LOST (R631): a follower runs on after 2 cycle lengths without a reference message. -/
def execCanRefLost (t : Nat) (chan : CanNo) (s : State) : Out :=
  let s := s.advance t
  .next (if (s.refOverdue chan.val).isSome then s.submit (.canRefLost chan) (·.loseCanRef chan.val) else s)

/-! ### Reception (R624, R634 to R636) -/

/-- What a filter element does with a frame: reject, one of the FIFOs, a buffer, or a part of the module. -/
inductive CanAction where | reject | fifo (n : Nat) | buffer (n : Nat) | deliver | reference
  deriving DecidableEq, Repr

/-- The implicit elements of a channel in the order of R634: extended identifiers with what they deliver to. -/
def State.implicitIds (s : State) (k : Nat) (w : List W32) : List (Nat × CanAction) :=
  let p := s.policy
  ((p.kind 4).filter fun n => n.can = k).map (fun n => (n.ctrId + 1, CanAction.deliver)) ++
  ((s.recs 0x0702).filter fun r => bit r 1 19 && fld r 1 18 16 = k).map (fun r => (fld r 2 28 0 + 1, CanAction.deliver)) ++
  (if p.curtCanEn && p.curtCan = k then [(p.curtId, CanAction.deliver)] else []) ++
  (if canRole w = 2 then [(canRefId w, CanAction.reference)] else [])

/-- An element of CAN_FILTER matches a frame (R635). -/
def filterMatches (r : List W32) (idk : IdK) (ident : Nat) : Bool :=
  let kind := match idk with | .base => 0 | .extended => 1 | .xl => 2
  let a := fld r 1 28 0
  let b := fld r 2 28 0
  fld r 0 18 17 = kind && match fld r 0 20 19 with
    | 0 => a ≤ ident && ident ≤ b
    | 1 => ident = a || ident = b
    | 2 => ident &&& b = a &&& b
    | _ => false

/-- The action of a CAN_FILTER element (Table 16.7). -/
def filterAction (r : List W32) : CanAction :=
  match fld r 0 16 14 with
  | 1 => .fifo 0
  | 2 => .fifo 1
  | 3 => .buffer (fld r 0 13 9)
  | _ => .reject

/-- The action of the first element that matches a frame (R634). -/
def State.canAction (s : State) (k : Nat) (w : List W32) (f : CanFrame) : CanAction :=
  match (s.implicitIds k w).find? fun x => f.idk = .extended && x.1 = f.ident with
  | some x => x.2
  | none =>
    match (s.recs 0x0F03).find? fun r => fld r 0 31 29 = k && filterMatches r f.idk f.ident with
    | some r => filterAction r
    | none => .reject

/-- The frames of FIFO 0 or 1 of a channel replaced. -/
def State.putFifo (s : State) (k n : Nat) (q : List (CanFrame × Nat)) : State :=
  s.modCan k fun x => if n = 0 then { x with fifo0 := q } else { x with fifo1 := q }

/-- A frame enters a FIFO of 64; a full one drops it or overwrites its oldest, and CAN_RX_OVERFLOW is raised at most once per second
(R636, Table 16.14). -/
def State.toFifo (s : State) (k n : Nat) (w : List W32) (f : CanFrame) (tick : Nat) : State :=
  let x := s.can k
  let q := if n = 0 then x.fifo0 else x.fifo1
  if q.length < 64 then s.putFifo k n (q ++ [(f, tick)]) else
  let s := s.putFifo k n (if bit w 2 31 then q.drop 1 ++ [(f, tick)] else q)
  let s := s.canCount k fun c => { c with fifoLoss := c.fifoLoss + 1 }
  let o := if n = 0 then x.over0 else x.over1
  let due : Bool := match o.2 with | some y => decide (y + ticksPerSec ≤ s.time.clock) | none => true
  let o' : Nat × Option Nat := if due then (0, some s.time.clock) else (o.1 + 1, o.2)
  let s := s.modCan k fun x => if n = 0 then { x with over0 := o' } else { x with over1 := o' }
  if due then s.raise .canRxOverflow [k, n, o.1 + 1] else s

/-- The frame is of a format the channel receives (R622, Table 16.1). -/
def formatOk (fmt : Nat) (f : CanFrame) : Bool :=
  match f.idk with
  | .xl => fmt = 2 && 1 ≤ f.data.length && f.data.length ≤ 2048
  | _ => f.data.length ≤ (if fmt = 0 then 8 else 64)

/-- The receive error count after a frame without error (R622, ISO 11898-1; log 34). -/
def State.canGood (s : State) (k : Nat) : State :=
  if 127 < (s.can k).rec_ then
    ((s.modCan k fun x => { x with rec_ := 119 + (canRecAfter s.free).val }).nextFree).canConfine k
  else s.modCan k fun x => { x with rec_ := x.rec_ - 1 }

/-- A frame that a channel does not reject takes its place: in a FIFO or buffer with the tick of its arrival, or as the reference message
that starts a basic cycle at the arc of its arrival (R631, R636). -/
def State.canDeliver (s : State) (k : Nat) (f : CanFrame) (tick stamp : Nat) : State :=
  match s.canRec k with
  | none => s
  | some w =>
    match s.canAction k w f with
    | .fifo n => s.toFifo k n w f tick
    | .buffer n => s.modCan k fun x => { x with buffers := (n, f, tick) :: x.buffers.filter fun b => b.1 ≠ n }
    | .reference => s.modCan k fun x => { x with cycleRef := some (stamp, (f.data.headD 0).toNat / 4), refLost := false }
    | _ => s

/-- CAN_FRAME_RECEIVED (R583, R624, R631, R634 to R636): a frame not rejected is an input of the journal. What an implicit element
delivers to the Juggler or the thermal model enters it with GRID_COMMAND, CONTACTOR_STATUS and DCU_STATUS (log 35). -/
def execCanFrameReceived (t : Nat) (chan : CanNo) (f : CanFrame) (s : State) : Out :=
  let s := s.advance t
  let k := chan.val
  .next (match s.canRec k with
    | none => s
    | some w =>
      if !formatOk (canFormat w) f || (s.can k).err = .busOff then s else
      let s := s.canCount k fun c => { c with rx := c.rx + 1 }
      let s := if s.listenOnly w then s else s.canGood k
      if f.remote then s.canCount k fun c => { c with remote := c.remote + 1 } else
      match s.canAction k w f with
      | .reject => s.canCount k fun c => { c with rejects := c.rejects + 1 }
      | .deliver => s
      | _ => s.submit (.canFrame chan f) fun s => s.canDeliver k f s.tick s.stamp)

/-! ### Ethernet (R640 to R646) -/

def State.modEth (s : State) (p : EthNo) (f : Eth → Eth) : State :=
  { s with buses := { s.buses with eth := vmod s.buses.eth p f } }

/-- The address a port uses: ADDR_0 with PAIR_POS low, ADDR_1 with it high (R641); 0 without a record, or where the
address failed duplicate address detection. -/
def State.ethAddr (s : State) (p : Nat) : Nat :=
  match s.ethRec p with
  | some r => if (vget s.buses.eth p {}).dup then 0 else wide r (if s.ident.pairPos then 6 else 2) 4
  | none => 0

/-- The link-local address of a port, by modified EUI-64 of its MAC address (R641). -/
def State.ethLinkLocal (s : State) (p : Nat) : List Nat :=
  let m := vget s.ident.macs p 0
  linkLocal ((List.range 6).map fun i => m / 256 ^ (5 - i) % 256)

/-- The classes of traffic a port sends (Table 16.11). -/
inductive EthClass where | tunnel | ptp | telem | obj
  deriving DecidableEq, Repr

/-- The VLAN and the priority of a class on a port (R642): the queue is that of the PCP, served in strict order, after PTP event
messages. -/
def State.ethTag (s : State) (p : Nat) (c : EthClass) : Nat × Nat :=
  let r := (s.ethRec p).getD []
  (fld r 0 24 13, match c with
    | .tunnel => fld r 0 12 10
    | .ptp => fld r 0 9 7
    | .telem => fld r 0 6 4
    | .obj => fld r 0 3 1)

/-- ETH_FRAME_RECEIVED (R95, R642 to R644): stamped, held to the port's VLAN, and dispatched. The first copy of a tunnel frame goes
on to the Barker, which enters it in the journal with VLINK, DIO or HELLO; a later one is a duplicate, and of two copies in one tick
the one from the lower-numbered port is the first (R654). Before service only neighbour discovery is answered, no echo (Table 3.9).
-/
def execEthFrameReceived (t : Nat) (port : EthNo) (vid : Nat) (k : EthKind) (s : State) : Out :=
  let s := s.advance t
  let r := s.ethRec port.val
  let own := match r with | some w => fld w 0 24 13 | none => 0
  .next (if !s.isDone .s3c || (r.isNone && (s.portRecs 0x1001).isSome) then s else
    let s := s.modEth port fun e => { e with rx := e.rx + 1, lastStamp := s.tick }
    if vid ≠ own then s.modEth port fun e => { e with vlanDrops := e.vlanDrops + 1 } else
    match k with
    | .tunnel payload =>
      if s.startup.mode ≠ .service || !bit (r.getD []) 0 27 then s else
      let now := s.time.clock
      let seen := s.buses.tunnelSeen.filter fun x => now ≤ x.2.1 + 100 * ticksPerMs
      match seen.find? fun x => x.1 = payload with
      | some x =>
        let loser := if x.2.1 = now && port < x.2.2 then x.2.2 else port
        let s := s.modEth loser fun e => { e with dups := e.dups + 1 }
        if loser = port then s
        else { s with buses := { s.buses with
          tunnelSeen := seen.map fun y => if y.1 = payload then (y.1, y.2.1, port) else y } }
      | none => { s with buses := { s.buses with tunnelSeen := (payload, now, port) :: seen } }
    | .neighbour => s.modEth port fun e => { e with answers := e.answers + 1 }
    | .echo => if s.startup.mode ≠ .service then s else s.modEth port fun e => { e with answers := e.answers + 1 }
    | _ => s)

/-- ETH_LINK (R656): port and speed, 0 10GBASE-R, 1 1000BASE-X. -/
def execEthLink (t : Nat) (port : EthNo) (up : Bool) (s : State) : Out :=
  let s := s.advance t
  .next (if s.buses.eth[port].link = up then s
    else (s.modEth port fun e => { e with link := up }).raise .ethLink [port.val, fld ((s.ethRec port.val).getD []) 0 29 29])

/-- ETH_ADDR_DUP (R641): the address is not used. -/
def execEthAddrDup (t : Nat) (port : EthNo) (s : State) : Out :=
  let s := s.advance t
  .next (if s.buses.eth[port].dup then s
    else (s.modEth port fun e => { e with dup := true }).raise .ethAddrDup [port.val, s.ethAddr port.val])

/-! ### Wall time (R55 to R59) -/

/-- Wall time is stepped to a value in half nanoseconds (R57, R58): WALL_TIME_STEP with the old and new seconds and nanoseconds, the
source, and the role of a manual set; the Scribe learns of the step, or that wall time is valid now (R405 to R407). -/
def State.stepWall (s : State) (half : Nat) (source : WallSource) (role : Int) : State :=
  let old := s.wall.half
  let was := s.wall.valid
  let src : Int := match source with | .none => 0 | .ptp => 1 | .manual => 2
  let s := ({ s with wall :=
    { half, valid := was || source = WallSource.manual, source, slew := 0, steps := s.wall.steps + 1 } }).raise .wallTimeStep
      [(old / 2000000000 : Nat), (old % 2000000000 / 2 : Nat), (half / 2000000000 : Nat), (half % 2000000000 / 2 : Nat), src, role]
  if was then s.scribeWallStep (old / 2000000000) (half / 2000000000) (half < old)
  else if s.wall.valid then s.scribeWallValid else s

/-- The wall-time object takes effect (R56): refused while PTP is synchronised. -/
def State.opWall (s : State) (c : Caller) (sec nsec : Nat) : State :=
  if s.ptp.sync then s.reply c 4
  else if 2 ^ 48 ≤ sec || 1000000000 ≤ nsec then s.reply c 3
  else (s.stepWall (sec * 2000000000 + 2 * nsec) .manual (roleBit c.role)).reply c 0

/-- Wall time is written (R56). -/
def State.writeWall (s : State) (c : ConnNo) (sec nsec : Nat) : State :=
  s.change c (dev 128 5 0) .write (.wall sec nsec) fun c s => s.opWall c sec nsec

/-- WALL_TIME_SET (R56). -/
def execWallTimeSet (t : Nat) (c : ConnNo) (sec nsec : Nat) (s : State) : Out := .next ((s.advance t).writeWall c sec nsec)

/-! ### PTP (R647 to R649) -/

def State.modPtp (s : State) (f : Ptp → Ptp) : State := { s with ptp := f s.ptp }

/-- PTP_EN and PTP_DOMAIN of a port. -/
def State.ptpPort (s : State) (p domain : Nat) : Bool :=
  match s.ethRec p with
  | some r => bit r 0 26 && fld r 1 23 16 = domain
  | none => false

/-- ANNOUNCE_TO intervals of a master heard on a port have passed without an Announce (R648, R47). -/
def State.announceLost (s : State) (x : Nat × PtpMaster × Nat) : Bool :=
  s.expired x.2.2 (fld ((s.ethRec x.1).getD []) 18 31 28 * x.2.1.intervalTicks)

/-- The order of the best master clock algorithm (IEEE 1588-2019): the values compared in turn. -/
def ptpRank (x : Nat × PtpMaster × Nat) : List Nat :=
  [x.2.1.priority1, x.2.1.clockClass, x.2.1.accuracy, x.2.1.variance, x.2.1.priority2, x.2.1.identity, x.2.1.stepsRemoved, x.1]

/-- Lexicographic order of two rankings. -/
def rankLt : List Nat → List Nat → Bool
  | a :: as, b :: bs => a < b || (a = b && rankLt as bs)
  | _, _ => false

/-- The best master among those heard. -/
def bestMaster (l : List (Nat × PtpMaster × Nat)) : Option (Nat × PtpMaster × Nat) :=
  l.foldl (fun best x => match best with
    | some b => if rankLt (ptpRank x) (ptpRank b) then some x else best
    | none => some x) none

/-- PTP_STATE: gained or lost, port, master identity (Table 2.5). -/
def State.ptpState (s : State) (on : Bool) (p identity : Nat) : State :=
  (s.modPtp fun x => { x with sync := on }).raise .ptpState [ofBool on, p, identity]

/-- The selection among the masters heard; another master has to be followed afresh (R648). -/
def State.selectMaster (s : State) : State :=
  let best := bestMaster s.ptp.heard
  let same : Bool := match best, s.ptp.selected with
    | some b, some x => b.1 = x.1 && b.2.1.identity = x.2.identity
    | none, none => true
    | _, _ => false
  let s := if same then s else
    let s := match s.ptp.selected with
      | some x => if s.ptp.sync then s.ptpState false x.1 x.2.identity else s
      | none => s
    s.modPtp fun x => { x with good := 0, lastSync := s.time.clock }
  s.modPtp fun x => { x with selected := best.map fun b => (b.1, b.2.1) }

/-- PTP_ANNOUNCE (R647, R648). -/
def execPtpAnnounce (t : Nat) (port : EthNo) (m : PtpMaster) (s : State) : Out :=
  let s := s.advance t
  .next (if s.isDone .s3c && s.ptpPort port.val m.domain then
    let l := s.ptp.heard.filter fun x => !(x.1 = port.val && x.2.1.identity = m.identity) && !s.announceLost x
    (s.modPtp fun x => { x with heard := l ++ [(port.val, m, s.time.clock)] }).selectMaster
  else s)

/-- Wall time moves by an offset in half nanoseconds under PTP: a step (R57). -/
def State.ptpStep (s : State) (delta : Int) : State := s.stepWall (s.wall.half + delta).toNat .ptp 0

/-- An offset of up to 100 ms is to be slewed (R57). -/
def State.ptpSlew (s : State) (delta : Int) : State := { s with wall := { s.wall with slew := delta } }

/-- Wall time follows PTP from now on, and is valid (R55, R59, R648); without PTP it runs on as it is. -/
def State.wallPtp (s : State) (on : Bool) : State :=
  if !on then s else
  let was := s.wall.valid
  let s : State := { s with wall := { s.wall with valid := true, source := .ptp } }
  if was then s else s.scribeWallValid

/-- PTP_SYNC (R55, R57, R648, R649): from the selected master. The holder's slews, steps and state are carried in the journal; the
standby only reports its own result. Wall time becomes synchronised, and valid, after 8 Sync messages below 10 us. -/
def execPtpSync (t : Nat) (port : EthNo) (identity : Nat) (offsetNs : Int) (pathDelayNs : Nat) (s : State) : Out :=
  let s := s.advance t
  .next (match s.ptp.selected with
    | none => s
    | some x =>
      if x.1 ≠ port.val || x.2.identity ≠ identity then s else
      let s := s.modPtp fun p =>
        { p with offset := offsetNs, delay := pathDelayNs, lastSync := s.time.clock
                 good := if offsetNs.natAbs < 10000 then p.good + 1 else 0 }
      let delta := -2 * offsetNs
      let s := if offsetNs.natAbs ≤ 100000000 then s.submit (.wallSlew delta) (·.ptpSlew delta)
        else s.submit (.wallStep delta) (·.ptpStep delta)
      if !s.ptp.sync && 8 ≤ s.ptp.good then
        (s.ptpState true x.1 x.2.identity).submit (.ptpState true) (·.wallPtp true)
      else s)

/-- PTP_TIMEOUT (R648): no Announce of the selected master for ANNOUNCE_TO intervals, or no Sync for 4 s; one in the expiry tick arrives
in time (R47). -/
def execPtpTimeout (t : Nat) (s : State) : Out :=
  let s := s.advance t
  .next (match s.ptp.selected with
    | none => s
    | some x =>
      let gone := s.ptp.heard.any fun y => y.1 = x.1 && y.2.1.identity = x.2.identity && s.announceLost y
      let quiet := s.expired s.ptp.lastSync (4 * ticksPerSec)
      if !gone && !quiet then s else
      let s := if s.ptp.sync then
          (s.ptpState false x.1 x.2.identity).submit (.ptpState false) (·.wallPtp false)
        else s
      let s := s.modPtp fun p => { p with good := 0 }
      if gone then (s.modPtp fun p => { p with heard := p.heard.filter fun y => !s.announceLost y }).selectMaster else s)

/-! ### Telemetry (R650 to R652) -/

/-- TEMP of a node in BF16 (R12): the upper 16 bits of the 24 kept. -/
def temp16 (n : TNode) : Nat := (n.temp / 256 % 65536).toNat

/-- One folio block (Table 16.9, KIND 0). -/
def State.folioBlock (s : State) (k : Nat) : List W32 :=
  match s.thermal.folios[k]? with
  | none => []
  | some f =>
    let x (i : Nat) : Nat := (f.nodes[i]?).elim 0 temp16
    u32 (k * 2 ^ 15 + (f.exp % 128).toNat * 2 ^ 8) :: (List.range 32).map fun i => u32 (x (2 * i) * 65536 + x (2 * i + 1))

/-- The allocation log of an ink or a pencil (KIND 2). -/
def State.allocWords (s : State) (a : Alloc) (first count : Nat) : List W32 :=
  let p := s.policy
  u32 (first * 2 ^ 24 + count * 2 ^ 16) :: (List.range count).flatMap fun i =>
    let o := first + i
    let x := a.outlets.getD (o - 1) (0, 0)
    let v := (((List.range 16).find? fun g => (s.matrix g).outlet = o && (s.matrix g).st = .attached).map fun g =>
      (a.groups.getD g (0, 0)).2).getD 0
    let w := (a.shorts.filter fun y => y.outlet = o).foldl (fun n y => n + y.watts) 0
    [u32 x.1, u32 x.2, u32 (v % 65536 * 65536 + p.cls o % 4 * 2 ^ 14), u32 w]

/-- One entry of the CAN log (KIND 3). -/
def logEntry (k n : Nat) (x : CanFrame × Nat) : List W32 :=
  let fmt := match x.1.idk with | .xl => 2 | _ => if x.1.data.length ≤ 8 then 0 else 1
  u64 x.2 ++ [u32 (k * 2 ^ 29 + x.1.ident % 2 ^ 29), u32 (fmt * 2 ^ 30 + n * 2 ^ 28 + x.1.data.length)] ++
    (List.range ((x.1.data.length + 3) / 4)).map (wordOfBytes x.1.data)

/-- As many entries as fit 350 words, with the number taken. -/
def fitEntries : List (List W32) → Nat → List W32 × Nat
  | [], _ => ([], 0)
  | e :: rest, room =>
    if e.length ≤ room then let r := fitEntries rest (room - e.length); (e ++ r.1, r.2 + 1) else ([], 0)

/-- The strokes of a waveform frame: those captured that fit, oldest first; the filters as they read now where no law samples the channels
(R651, log 36). -/
def State.waveRows (s : State) (w : List W32) : List (Nat × List Int) :=
  let count := fld w 5 15 0
  match (vget s.buses.streams (fld w 0 31 28) {}).waves with
  | [] => [(s.stamp, (List.range count).map fun i => s.waveWord (fld w 6 31 0 + i))]
  | rows => rows.take (max 1 (349 / max 1 count))

/-- STAMP of a frame: the line stamp of the data's first instant (Table 16.8). -/
def State.frameStamp (s : State) (w : List W32) : Nat :=
  if fld w 0 27 26 = 1 then ((s.waveRows w).headD (s.stamp, [])).1 else s.stamp

/-- The frames of an update: PENCIL, FRAG, FRAGS, payload (R651). -/
def State.telemFrames (s : State) (w : List W32) : List (Bool × Nat × Nat × List W32) :=
  let count := fld w 5 15 0
  let first := fld w 6 31 0
  match fld w 0 27 26 with
  | 0 =>
    let n := ceilDiv count 10
    (List.range n).map fun i =>
      (false, i, n, (List.range (min 10 (count - 10 * i))).flatMap fun j => s.folioBlock (first + 10 * i + j))
  | 1 =>
    let rows := s.waveRows w
    [(false, 0, 1, u32 (first * 2 ^ 24 + count * 2 ^ 16 + rows.length) ::
      rows.flatMap fun r => r.2.map fun (v : Int) => u32 (v % 2 ^ 24).toNat <<< 8)]
  | 2 =>
    (false, 0, 1, s.allocWords s.juggler.ink first count) ::
      (match s.juggler.pencil with
       | some a => [(true, 0, 1, s.allocWords a first count)]
       | none => [])
  | _ =>
    let x := s.can first
    let l := x.fifo0.map (logEntry first 0) ++ x.fifo1.map (logEntry first 1)
    let r := fitEntries l 350
    if r.2 = 0 then [] else [(false, 0, 1, r.1)]

/-- The words of a telemetry frame (R650, Table 16.8). -/
def State.telemWords (s : State) (stream kind seq stamp : Nat) (f : Bool × Nat × Nat × List W32) : List W32 :=
  let w := [u32 (0x5954 * 2 ^ 16 + 0x0100 + kind), u32 (stream * 2 ^ 28 + (if f.1 then 2 ^ 27 else 0) + 4 * f.2.2.2.length)] ++
    u64 s.ident.serial ++ [u32 seq] ++ u64 stamp ++ [u32 (f.2.1 * 2 ^ 16 + f.2.2.1)] ++ f.2.2.2
  w ++ [crc32c w]

/-- The frames that a CAN log stream has taken leave the FIFOs (R636). -/
def State.drainLog (s : State) (k : Nat) : State :=
  let x := s.can k
  let n := (fitEntries (x.fifo0.map (logEntry k 0) ++ x.fifo1.map (logEntry k 1)) 350).2
  s.modCan k fun y => { y with fifo0 := y.fifo0.drop n, fifo1 := y.fifo1.drop (n - x.fifo0.length) }

/-- TELEMETRY_SEND (R650 to R652): an update of a stream; frames that find their queue full are dropped. -/
def execTelemetrySend (t : Nat) (stream : Fin 16) (queueFull : Bool) (s : State) : Out :=
  let s := s.advance t
  .next (match s.recAt 0x1002 31 28 stream.val with
    | none => s
    | some w =>
      if s.startup.mode ≠ .service then s else
      let kind := fld w 0 27 26
      let fs := s.telemFrames w
      let n := fs.length
      let x := s.buses.streams[stream]
      let left := if kind = 1 then x.waves.drop (s.waveRows w).length else x.waves
      let x := { x with waves := left }
      let due : Bool := match x.dropAt with | some y => decide (y + ticksPerSec ≤ s.time.clock) | none => true
      let last := fs.getLast?.map fun f => s.telemWords stream.val kind ((x.seq + n) % 2 ^ 32) (s.frameStamp w) f
      let y : Telem :=
        if queueFull then
          { x with seq := (x.seq + n) % 2 ^ 32, dropped := x.dropped + n
                   dropAt := if due && n ≠ 0 then some s.time.clock else x.dropAt }
        else { x with seq := (x.seq + n) % 2 ^ 32, sent := x.sent + n, frame := last.getD x.frame }
      let s := if kind = 3 then s.drainLog (fld w 6 31 0) else s
      let s := { s with buses := { s.buses with streams := s.buses.streams.set stream y } }
      if queueFull && due && n ≠ 0 then s.raise .telemetryDrop [stream.val, y.dropped] else s)

end Sys2Proof.Machine
end

