-- ==== Sys2Proof/Machine/Records.lean ====
section
/-!
DEFINITION. The records of a configuration image one by one (Table 3.4, checks 0x06 and 0x07 of Table 3.6): lengths, instance
numbers, ranges of fields and reserved bits, and the rules that concern a single record together with the records it
belongs to. A candidate state holds the records of the image or revision that is checked.
-/
namespace Sys2Proof.Machine

open Sys2Proof.Config

/-! ### The catalogue (Table 3.4) -/

/-- A record type: structural, least and greatest count, the instance field of word 0. -/
structure RecType where
  typ : Nat
  structural : Bool
  least : Nat
  most : Nat
  inst : Option (Nat × Nat)
  deriving DecidableEq, Repr

/-- Record types in ascending order (Table 3.4). -/
def recTypes : List RecType :=
  [⟨0x0101, true, 1, 1, none⟩, ⟨0x0201, true, 1, 1, none⟩, ⟨0x0301, true, 1, 1, none⟩,
   ⟨0x0401, true, 0, 128, some (31, 24)⟩, ⟨0x0402, true, 0, 43, some (31, 26)⟩,
   ⟨0x0501, true, 0, 43, some (31, 26)⟩, ⟨0x0502, true, 0, 1024, some (31, 22)⟩,
   ⟨0x0601, true, 1, 4096, some (31, 20)⟩, ⟨0x0602, false, 1, 1, none⟩, ⟨0x0603, false, 1, 1, none⟩,
   ⟨0x0701, true, 1, 256, some (31, 24)⟩, ⟨0x0702, true, 1, 16384, some (31, 18)⟩,
   ⟨0x0703, true, 1, 64, some (31, 26)⟩, ⟨0x0704, true, 0, 32, some (31, 27)⟩,
   ⟨0x0705, true, 0, 8, some (31, 29)⟩, ⟨0x0801, true, 0, 64, some (31, 25)⟩, ⟨0x0802, true, 1, 1, none⟩,
   ⟨0x0803, false, 1, 1, none⟩, ⟨0x0901, true, 0, 64, some (31, 25)⟩, ⟨0x0902, true, 0, 64, some (31, 25)⟩] ++
  [⟨0x0903, false, 1, 8, some (31, 28)⟩, ⟨0x0904, false, 1, 16, some (31, 28)⟩, ⟨0x0905, false, 1, 1, none⟩,
   ⟨0x0A01, false, 0, 1, none⟩, ⟨0x0A02, true, 1, 1, none⟩, ⟨0x0B01, true, 1, 1, none⟩,
   ⟨0x0C01, true, 0, 8, some (31, 29)⟩, ⟨0x0C02, true, 0, 24, some (31, 27)⟩,
   ⟨0x0C03, true, 0, 24, some (31, 27)⟩, ⟨0x0D01, true, 0, 2, some (31, 29)⟩, ⟨0x0E01, true, 1, 1, none⟩,
   ⟨0x0F01, true, 0, 8, some (31, 29)⟩, ⟨0x0F02, true, 0, 8, some (31, 29)⟩,
   ⟨0x0F03, true, 0, 2048, some (31, 21)⟩, ⟨0x1001, true, 1, 4, some (31, 30)⟩,
   ⟨0x1002, false, 0, 16, some (31, 28)⟩, ⟨0x1101, true, 1, 48, some (31, 26)⟩]

/-- The catalogue entry of a type. -/
def recType (typ : Nat) : Option RecType := recTypes.find? fun x => x.typ = typ

/-- A type is operational (R72). -/
def operational (typ : Nat) : Bool := (recType typ).any fun x => !x.structural

/-- The instance number of a record; zero for a type that carries none. -/
def recInst (r : Rec) : Nat :=
  match (recType r.typ).bind (·.inst) with
  | some (hi, lo) => fld r.payload 0 hi lo
  | none => 0

/-- The framing word of a record (Table 3.3). -/
def recHead (r : Rec) : W32 := BitVec.ofNat 32 (r.typ * 65536 + r.payload.length)

/-! ### Lengths -/

/-- LENGTH agrees with the layout of the type. -/
def lengthOk (r : Rec) : Bool :=
  let w := r.payload
  let n := w.length
  match r.typ with
  | 0x0101 => n = 4
  | 0x0201 => n = 2
  | 0x0301 => n = 2 + ceilDiv (fld w 0 31 24) 4
  | 0x0401 => n = 4
  | 0x0402 => n = 3
  | 0x0501 => n = 4
  | 0x0502 => 1 ≤ n
  | 0x0601 => n = (match fld w 0 19 16 with | 4 => 7 | 5 => 5 | _ => 4)
  | 0x0602 => n = 132
  | 0x0603 => n = 5
  | 0x0701 => n = 2 + 8 * fld w 0 23 11 + 2 * fld w 0 10 4 + 18 * fld w 1 31 27
  | 0x0702 => n = 12 + 2 * fld w 1 31 27
  | 0x0703 => n = 5
  | 0x0704 => n = 4
  | 0x0705 => n = 6
  | 0x0801 => n = 7
  | 0x0802 => n = (certOffsets w (fld w 0 31 16) 1).foldl (fun a i => a + 1 + ceilDiv (fld w i 15 0) 4) 1
  | 0x0803 => n = 4
  | 0x0901 => n = 7
  | 0x0902 => n = 5
  | 0x0903 => n = 5
  | 0x0904 => n = 1 + fld w 0 27 24
  | 0x0905 => n = 5 + fld w 4 31 25
  | 0x0A01 => n = 4
  | 0x0A02 => n = (caTags w (fld w 0 31 24) 1).2 + 3 * fld w 0 23 16
  | 0x0B01 => n = 4 + 5 * fld w 0 31 26
  | 0x0C01 => n = 4
  | 0x0C02 => n = 2
  | 0x0C03 => n = 2
  | 0x0D01 => n = 5
  | 0x0E01 => n = 2
  | 0x0F01 => n = 3
  | 0x0F02 => n = 1 + 3 * fld w 0 21 14
  | 0x0F03 => n = 3
  | 0x1001 => n = 19
  | 0x1002 => n = 7
  | 0x1101 => n = 2
  | _ => false

/-! ### Ranges of single fields -/

/-- A field and its range: word, highest and lowest bit, least and greatest value. -/
abbrev Range := Nat × Nat × Nat × Nat × Nat

/-- A reserved field (R8). -/
def rsv (i hi lo : Nat) : Range := (i, hi, lo, 0, 0)

/-- Field ranges and reserved fields of the types of chapters 2 to 6, where the field's width does not already give them. -/
def rangesA : Nat → List Range
  | 0x0101 =>
    [(0, 31, 20, 160, 4000), (0, 19, 18, 1, 3), rsv 0 16 16, (0, 15, 0, 23040, 33792), (1, 31, 16, 23040, 65535),
     (1, 15, 0, 0, 33792), (2, 31, 22, 0, 600), (2, 21, 14, 20, 90), (2, 13, 6, 105, 150), rsv 2 5 0,
     (3, 31, 16, 1, 65535), (3, 15, 12, 1, 12), rsv 3 11 8, (3, 7, 0, 1, 255)]
  | 0x0201 => [(0, 31, 16, 100, 600), (0, 15, 8, 10, 80), rsv 0 7 0, (1, 31, 16, 4, 1000), (1, 15, 0, 4, 60000)]
  | 0x0301 => [(0, 31, 24, 0, 43), (0, 23, 16, 1, 25), (0, 15, 8, 1, 128), (0, 7, 4, 1, 8), rsv 0 3 0, rsv 1 26 0]
  | 0x0401 =>
    [(0, 31, 24, 0, 127), (0, 23, 22, 0, 2), (0, 21, 16, 0, 42), rsv 0 8 0, (1, 31, 17, 640, 25600), rsv 1 16 16, rsv 1 7 0,
     rsv 3 15 0]
  | 0x0402 => [(0, 31, 26, 0, 42), (0, 24, 21, 1, 8), rsv 0 20 16, rsv 1 15 0, (2, 31, 16, 1, 65535)]
  | 0x0501 =>
    [(0, 31, 26, 0, 42), (0, 24, 19, 0, 42), (0, 17, 15, 1, 7), rsv 0 14 8, (0, 7, 0, 8, 255), rsv 1 11 0, rsv 2 7 7,
     (3, 31, 16, 1, 65535), rsv 3 15 0]
  | 0x0502 => [(0, 31, 26, 0, 42), (0, 25, 22, 0, 9), rsv 0 11 0]
  | _ => []

/-- The same for chapters 7 to 9. -/
def rangesB : Nat → List Range
  | 0x0601 => [(0, 19, 16, 0, 6), rsv 0 7 0, rsv 1 19 16, (1, 15, 0, 0, 6553), (2, 31, 16, 1, 65535), (2, 15, 0, 1, 65535),
     rsv 3 8 0]
  | 0x0602 =>
    [(0, 31, 16, 16384, 31744), (2, 15, 0, 500, 10000), (3, 31, 16, 1, 65535), (3, 7, 1, 5, 127)] ++
    (List.range 64).flatMap fun o =>
      [(4 + 2 * o, 31, 30, 0, 2), rsv (4 + 2 * o) 29 24, (4 + 2 * o, 23, 16, 1, 255), (5 + 2 * o, 31, 16, 1, 65535),
       rsv (5 + 2 * o) 15 0]
  | 0x0603 => [(0, 31, 16, 1, 65534), (1, 15, 0, 1, 6000), rsv 3 30 16, rsv 4 23 0]
  | 0x0701 => [(0, 23, 11, 1, 4096), (0, 10, 4, 0, 64), rsv 0 3 0, (1, 31, 27, 0, 16), rsv 1 26 0]
  | 0x0702 => [rsv 0 5 0, (1, 31, 27, 0, 16), (1, 26, 20, 0, 64), rsv 2 31 29]
  | 0x0703 =>
    [(0, 25, 19, 1, 100), (0, 18, 11, 1, 255), rsv 0 10 0, (2, 15, 8, 1, 255), (2, 7, 0, 1, 255), (3, 31, 24, 1, 255),
     (3, 23, 16, 1, 255), (3, 15, 0, 1, 65535), rsv 4 15 0]
  | 0x0704 => [(0, 26, 24, 0, 2), rsv 3 15 0]
  | 0x0705 => [(0, 20, 13, 128, 255), rsv 0 0 0, rsv 3 15 0, rsv 4 7 7, rsv 5 7 7]
  | 0x0801 => [(0, 31, 25, 1, 64), (0, 24, 23, 0, 1), rsv 0 18 0, rsv 3 8 0, rsv 4 8 0, rsv 5 8 0, rsv 6 8 0]
  | 0x0802 => [(0, 31, 16, 1, 64), rsv 0 7 0]
  | 0x0803 =>
    [rsv 0 22 16, (0, 15, 0, 1, 3600), (1, 31, 24, 10, 100), (1, 23, 16, 10, 255), (1, 15, 0, 5, 100), (2, 31, 16, 100, 5000),
     (2, 15, 0, 3, 26), (3, 31, 16, 1, 60), rsv 3 15 0]
  | _ => []

/-- The same for chapters 10 to 13. -/
def rangesC : Nat → List Range
  | 0x0901 =>
    [(0, 31, 25, 1, 64), rsv 0 24 0, rsv 1 7 7, rsv 2 7 7, rsv 3 7 7, rsv 4 7 7, (5, 31, 16, 1, 65535), (5, 15, 0, 5000, 25000)]
  | 0x0902 => [(0, 31, 25, 1, 64), rsv 0 24 0, (1, 31, 0, 1, 0xFFFFFFFE), (2, 31, 16, 0, 10000), (2, 15, 0, 1, 2000)]
  | 0x0903 => [(0, 31, 28, 1, 8), (0, 26, 16, 0, 1440)]
  | 0x0904 => [(0, 27, 24, 1, 12), rsv 0 23 0]
  | 0x0905 => [(0, 15, 8, 0, 8), rsv 0 7 6, (1, 3, 0, 1, 8), (4, 31, 25, 0, 64), rsv 4 24 0]
  | 0x0A01 => [(0, 31, 0, 1, 16383000), (1, 31, 0, 1, 16383000), (2, 31, 0, 1, 16383000), (3, 15, 8, 10, 255), rsv 3 7 0]
  | 0x0A02 => [(0, 31, 24, 1, 8), rsv 0 15 0]
  | 0x0B01 => [(0, 31, 26, 1, 32), (0, 25, 20, 8, 60), (0, 19, 11, 0, 480), rsv 0 10 0, rsv 2 23 0, rsv 3 23 0]
  | 0x0C01 =>
    [(0, 26, 19, 10, 160), (0, 18, 13, 10, 50), (0, 12, 9, 1, 15), rsv 0 4 0, (1, 31, 27, 2, 16), (1, 26, 16, 1, 2047),
     (1, 15, 0, 10, 10000), (2, 15, 0, 1, 65535), (3, 31, 16, 50, 550), (3, 15, 0, 0, 600)]
  | 0x0C02 => [(0, 31, 27, 0, 23), (0, 19, 10, 1, 1023), rsv 0 3 0, (1, 25, 17, 50, 350), (1, 16, 9, 1, 255), (1, 8, 1, 1, 255)]
  | 0x0C03 => [(0, 31, 27, 0, 23), (0, 26, 24, 0, 6), rsv 1 15 1]
  | _ => []

/-- The same for chapters 14 to 17. -/
def rangesD : Nat → List Range
  | 0x0D01 =>
    [(0, 31, 29, 4, 5), (0, 28, 17, 300, 2200), (0, 10, 8, 0, 1), rsv 0 0 0, (1, 31, 21, 200, 1200), rsv 1 9 0,
     (2, 31, 16, 256, 65535), (2, 15, 8, 10, 200), rsv 2 7 0, (3, 15, 8, 1, 255), (3, 7, 0, 1, 255), (4, 31, 24, 1, 255),
     (4, 23, 16, 1, 255), rsv 4 15 0]
  | 0x0E01 => [(0, 31, 24, 8, 255), rsv 0 21 0, (1, 31, 28, 1, 15), rsv 1 27 0]
  | 0x0F01 => [(0, 28, 27, 0, 2), (0, 26, 25, 0, 2), rsv 0 22 16, (0, 15, 0, 50, 1000), rsv 2 30 29]
  | 0x0F02 => [(0, 28, 25, 11, 18), (0, 24, 22, 0, 6), (0, 21, 14, 1, 255), rsv 0 13 0]
  | 0x0F03 => [(0, 20, 19, 0, 2), (0, 18, 17, 0, 2), (0, 16, 14, 0, 3), rsv 0 8 0, rsv 1 31 29, rsv 2 31 29]
  | 0x1001 => [(0, 24, 13, 0, 4094), rsv 0 0 0, (1, 31, 24, 1, 128), (1, 23, 16, 0, 127), (18, 31, 28, 2, 10), rsv 18 26 0]
  | 0x1002 => [rsv 0 21 16, (5, 15, 0, 1, 8192)]
  | 0x1101 => [(0, 31, 26, 16, 63), rsv 0 21 0]
  | _ => []

/-- Every single field of a record is in range. -/
def rangesOk (r : Rec) : Bool :=
  (rangesA r.typ ++ rangesB r.typ ++ rangesC r.typ ++ rangesD r.typ).all fun x =>
    let v := fld r.payload x.1 x.2.1 x.2.2.1
    decide (x.2.2.2.1 ≤ v) && decide (v ≤ x.2.2.2.2)

/-! ### Rules within a record -/

/-- A C24 parameter with its reserved bit clear (R204). -/
def c24Ok (w : List W32) (i : Nat) : Bool := !bit w i 7
/-- A C24 parameter above zero. -/
def c24Pos (w : List W32) (i : Nat) : Bool := c24Ok w i && decide (0 < bfVal (c24At w i))
/-- A C24 parameter in (0, 1]. -/
def c24Unit (w : List W32) (i : Nat) : Bool := c24Pos w i && decide (bfVal (c24At w i) ≤ 1)

/-- Stroke rate times 512 * 64 at F_HI with the fastest correction of RELOCK: N * F_HI * 65 (R39, R76, R77). -/
def State.fastRate (s : State) : Nat := s.nStrokes * s.fHi * 65

/-- R39, R43, R63. -/
def carouselOk (w : List W32) : Bool :=
  let n := fld w 0 31 20
  let lo := fld w 1 31 16
  let hi := fld w 1 15 0
  let nom := fld w 0 15 0
  n % 2 = 0 && (if bit w 0 17 then bit w 0 19 else bit w 0 18) && decide (lo ≤ nom) && decide (nom ≤ hi)
    && decide (lo + 512 ≤ hi) && decide (n * hi * 65 ≤ 200000 * 512 * 64) && decide (8000 * 512 * 64 ≤ n * lo * 63)

/-- TASK_PLAN: reserved bits of the home bytes, unused bytes, LAW_COUNT (R134). -/
def State.taskPlanOk (s : State) (w : List W32) : Bool :=
  let n := fld w 0 31 24
  let byte (i : Nat) : Nat := fld w (2 + i / 4) (31 - 8 * (i % 4)) (24 - 8 * (i % 4))
  n = (s.recs 0x0501).length && (List.range n).all (fun i => byte i / 32 % 4 = 0)
    && (List.range (4 * (w.length - 2))).all fun i => i < n || byte i = 0

/-- LEG (R165, R191). -/
def State.legOk (s : State) (w : List W32) : Bool :=
  let role := fld w 0 23 22
  let de := bit w 0 15
  (role ≠ 0 || fld w 0 21 16 = 0) && (!de || role = 2)
    && (!de || (decide (100 ≤ fld w 2 31 16) && decide (fld w 2 15 0 ≤ 25600) && fld w 3 31 16 ≠ 0))
    && decide ((2 * fld w 1 31 17 + 2560) * s.fastRate ≤ ticksPerSec * 32 * 64 * 512)

/-- The LEG records of a group, and n, their number, whatever their indices are (R157). -/
def State.groupLegs (s : State) (g : Nat) : List (List W32) :=
  (s.recs 0x0401).filter fun r => fld r 0 23 22 ≠ 0 && fld r 0 21 16 = g
def State.legCount (s : State) (g : Nat) : Nat := (s.groupLegs g).length

/-- LEG_GROUP (Table 5.9). -/
def State.groupOk (s : State) (w : List W32) : Bool :=
  let g := fld w 0 31 26
  let afe := bit w 0 25
  (afe = decide (16 ≤ g)) && decide (fld w 0 24 21 ≤ s.legCount g)
    && (!afe || (fld w 0 24 21 = 3 && fld w 1 23 16 = 0 && fld w 2 15 0 = 0))

/-- LAW (Table 6.7); a law whose group is missing is left to check 0x08 (R240). -/
def State.lawOk (s : State) (w : List W32) : Bool :=
  let g := fld w 0 24 19
  let afe := bit w 0 25
  c24Pos w 2 && (if afe then decide (fld w 1 15 12 ≤ 2) else decide (fld w 1 15 12 ≤ s.legCount g))
    && ((s.recAt 0x0402 31 26 g).isNone || afe = bit (s.groupRec g) 0 25)

/-- Parameter words of a stage (Table 6.9). -/
def stageWords (afe : Bool) (pos width : Nat) : Nat :=
  match pos with
  | 0 => width
  | 1 => 2 * width
  | 2 => if afe then 2 else 1
  | 3 => if afe then 12 else 5
  | 4 => 4
  | 5 => 2
  | 6 => 3
  | 7 => 1
  | _ => 0

/-- len of a repetitive table, N / h (R216). -/
def State.repLen (s : State) (w : List W32) : Nat × Nat :=
  let h := match fld w 1 31 30 with | 0 => 1 | 1 => 2 | 2 => 6 | _ => 12
  (s.nStrokes / h, s.nStrokes % h)

/-- One INPUT element (Table 6.9). -/
def State.inputOk (s : State) (g : Nat) (afe : Bool) (w : List W32) (i : Nat) : Bool :=
  let chan := fld w (1 + i) 31 24
  let leg := (s.members g)[i - 3]?
  decide (8 ≤ fld w (1 + i) 22 15) && fld w (1 + i) 14 0 = 0
    && (!bit w (1 + i) 23 || (!afe && decide (3 ≤ i) && leg.any fun n => s.legDe n && s.legChan n = chan))
    && (if afe then i ≠ 6 || chan = fld (s.groupRec g) 1 31 24
        else (i ≠ 1 || chan = fld (s.groupRec g) 1 23 16) && (i ≠ 2 || chan = fld (s.groupRec g) 1 31 24))

/-- The parameters of a stage of a law (Table 6.9, R197, R216, R729). -/
def State.stageParams (s : State) (g : Nat) (afe : Bool) (w : List W32) : Bool :=
  let width := fld w 0 16 12
  let all (l : List Nat) : Bool := l.all (c24Ok w)
  let ordered (c : Nat) : Bool := decide (bfVal (c24At w (3 + 4 * c)) ≤ bfVal (c24At w (4 + 4 * c)))
  match fld w 0 25 22 with
  | 0 => (List.range width).all (s.inputOk g afe w)
  | 1 => all ((List.range (2 * width)).map (· + 1))
  | 2 => if afe then fld w 1 15 0 = 0 && c24Ok w 2 else c24Pos w 1
  | 3 =>
    if afe then all ((List.range 12).map (· + 1)) && (List.range 3).all ordered
    else all [1, 2, 3, 4, 5] && ordered 0
  | 4 =>
    let len := s.repLen w
    len.2 = 0 && decide (fld w 1 29 24 < len.1) && fld w 1 23 23 = 0 && fld w 1 15 0 = 0 && c24Unit w 2 && all [3, 4]
  | 5 => all [1, 2] && (afe || bfVal (c24At w 2) = 0)
  | 6 => c24Unit w 1 && all [2, 3] && (!afe || (bfVal (c24At w 2) = 0 && bfVal (c24At w 3) = 0))
  | 7 => fld w 1 30 16 = 0 && decide (fld w 1 15 0 ≤ 8192) && (afe || (!bit w 1 31 && fld w 1 15 0 = 0))
  | _ => true

/-- LAW_STAGE (Tables 6.8 and 6.9, R197); a stage of a missing law is left to check 0x08. -/
def State.stageOk (s : State) (w : List W32) : Bool :=
  let l := fld w 0 31 26
  let pos := fld w 0 25 22
  let width := fld w 0 16 12
  let en := bit w 0 17
  if !s.hasLaw l then true else
  let afe := s.lawAfe l
  let g := s.lawGroup l
  let n := s.legCount g
  fld w 0 21 18 = pos && (en || pos = 4 || pos = 9) && !(afe && pos = 9)
    && width = (if pos ≤ 1 then (if afe then 7 else 3 + n) else 0)
    && w.length = 1 + stageWords afe pos width
    && (pos ≠ 9 || en || !(s.groupLegs g).any fun r => bit r 0 15)
    && s.stageParams g afe w

/-- Table entries of the active repetitive stages, up to and with the stage `k` in instance order (R221). -/
def State.repEntries (s : State) (k : Nat) : Nat :=
  (s.recs 0x0502).foldl (fun a w =>
    if fld w 0 31 22 ≤ k && fld w 0 25 22 = 4 && bit w 0 17 then
      a + (s.repLen w).1 * (if s.lawAfe (fld w 0 31 26) then 2 else 1)
    else a) 0

/-- CNODE (Table 7.11, R282). -/
def cnodeOk (w : List W32) : Bool :=
  let inst := fld w 0 15 8
  let loss := fld w 1 15 0
  let p := fld w 2 31 16
  let i := fld w 2 15 0
  match fld w 0 19 16 with
  | 0 => inst = 0 && loss = 0 && i = 0xFFFF
  | 1 => inst = 0 && i = 0xFFFF
  | 2 => inst = 0
  | 3 => decide (16 ≤ inst) && decide (inst ≤ 42) && loss = 0 && i ≠ 0xFFFF
  | 4 => decide (inst ≤ 15) && !(p = 0xFFFF && i = 0xFFFF)
  | 5 => decide (1 ≤ inst) && decide (inst ≤ 64) && loss = 0 && decide (100 ≤ fld w 4 31 16)
      && decide (fld w 4 31 16 ≤ 15000) && fld w 4 15 0 = 0
  | _ => inst = 0 && loss = 0

/-- One node entry of a stencil (Table 8.1, R288, R291). -/
def stencilNodeOk (w : List W32) (nodes sources : Nat) (i : Nat) : Bool :=
  let r := (w.drop (2 + 8 * i)).take 8
  let sel := fld r 6 24 19
  fld r 0 15 0 = 0 && (List.range 4).all (fun k => fld r (2 + k) 8 0 = 0 || decide (fld r (2 + k) 31 9 < nodes))
    && (!bit r 6 31 || decide (fld r 6 30 25 < sources)) && (decide (sel < 40) || sel = 48 || sel = 63)
    && fld r 6 18 16 = 0 && fld r 6 15 0 ≠ 0 && fld r 7 17 0 = 0
    && (List.range 4).all fun k => fld r (2 + k) 8 0 = 0 ||
        let q := (w.drop (2 + 8 * fld r (2 + k) 31 9)).take 8
        (List.range 4).any fun m => fld q (2 + m) 31 9 = i && fld q (2 + m) 8 0 = fld r (2 + k) 8 0

/-- A source descriptor of a stencil (Table 8.3). -/
def sourceOk (w : List W32) (nodes tables : Nat) (j : Nat) : Bool :=
  let d := stSource w j
  let kind := fld d 0 31 28
  let up := fld d 0 19 7
  decide (kind ≤ 3) && fld d 0 6 0 = 0 && (kind ≠ 1 || (decide (fld d 0 23 20 < tables) && fld d 1 31 16 = 0))
    && (kind ≠ 2 || decide (up < nodes) || up = 0x1FFF) && (kind = 0 || fld d 1 15 0 = 0)

/-- A loss table of a stencil (R293). -/
def lossOk (w : List W32) (j : Nat) : Bool :=
  let d := stLoss w j
  let f (k : Nat) : Nat := fld d 1 (31 - 8 * k) (24 - 8 * k)
  fld d 0 15 0 = 0 && decide (8 ≤ f 0) && decide (f 0 < f 1) && decide (f 1 < f 2) && decide (f 2 < f 3) && decide (f 3 ≤ 200)

/-- NODE_STENCIL (R291, R297). -/
def stencilOk (w : List W32) : Bool :=
  let n := stNodes w
  let m := stSources w
  let t := fld w 1 31 27
  (List.range n).all (stencilNodeOk w n m) && (List.range m).all (sourceOk w n t) && (List.range t).all (lossOk w)

/-- STENCIL_INSTANCE (Table 8.4, R295). -/
def instanceOk (w : List W32) : Bool :=
  let sigOk (x : Nat) : Bool :=
    let i := x % 4096
    match x / 4096 with
    | 0 => i = 0
    | 1 => decide (i ≤ 42)
    | 2 => decide (i ≤ 127)
    | 3 => decide (1 ≤ i) && decide (i ≤ 64)
    | 4 => decide (i ≤ 31)
    | 5 => i = 0
    | _ => false
  (decide (fld w 0 9 6 ≤ 7) || fld w 0 9 6 = 15) && (List.range 16).all (fun r => sigOk (roleSig w r))
    && (List.range (fld w 1 31 27)).all fun p => fld w (12 + 2 * p) 10 0 = 0 && fld w (13 + 2 * p) 8 0 = 0

/-- LIMIT_CLASS (Table 8.7). -/
def classOk (w : List W32) : Bool :=
  let thr := sfld w 1 15 0
  let shut := sfld w 2 31 16
  decide (sfld w 1 31 16 ≤ thr) && decide (thr < shut) && decide ((2 * fld w 3 31 24 : Nat) < shut - thr)

/-- SENSOR (Table 8.8). -/
def sensorOk (w : List W32) : Bool :=
  let k := fld w 0 26 24
  (k ≠ 1 || fld w 1 31 16 = 0) && (k = 0 || fld w 1 15 0 = 0) && decide (fld w 2 31 16 < fld w 2 15 0)

/-- CERT_CHAIN (R364, Table 9.9). -/
def certChainOk (w : List W32) : Bool :=
  let key := fld w 0 15 8
  (decide (key ≤ 63) || key = 0xFF) && (certOffsets w (fld w 0 31 16) 1).all fun i =>
    let use := fld w i 31 28
    let n := fld w i 15 0
    decide (use ≤ 3) && decide (1 ≤ fld w i 27 24) && decide (fld w i 27 24 ≤ 3) && decide (fld w i 23 16 ≤ 63)
      && (use = 0 || fld w i 23 16 = 0) && decide (1 ≤ n) && decide (n ≤ 8192)
      && (n % 4 = 0 || fld w (i + n / 4 + 1) (31 - 8 * (n % 4)) 0 = 0)

/-- DAY_PROFILE (R397). -/
def profileOk (w : List W32) : Bool :=
  (List.range (fld w 0 27 24)).all fun i =>
    let m := fld w (1 + i) 31 21
    decide (m ≤ 1439) && decide (1 ≤ fld w (1 + i) 20 17) && decide (fld w (1 + i) 20 17 ≤ 8) && fld w (1 + i) 16 0 = 0
      && (if i = 0 then m = 0 else decide (fld w i 31 21 < m))

/-- The order of special days: MONTH, DAY, then a particular year ascending with the every-year word last (R398). -/
def specialKey (w : List W32) (i : Nat) : Nat :=
  let y := fld w i 31 20
  (fld w i 19 16 * 32 + fld w i 15 11) * 4096 + (if y = 0 then 4095 else y - 1)

/-- CALENDAR (R398, Table 10.7). -/
def calendarOk (w : List W32) : Bool :=
  let off := sfld w 0 23 16
  let m := fld w 0 5 0
  let z (i : Nat) : Bool := w.getD i 0 = 0
  let dst (i : Nat) : Bool :=
    decide (1 ≤ fld w i 31 28) && decide (fld w i 31 28 ≤ 12) && decide (1 ≤ fld w i 27 25) && decide (fld w i 27 25 ≤ 5)
      && decide (fld w i 24 22 ≤ 6) && fld w i 10 0 = 0
  decide (-48 ≤ off) && decide (off ≤ 56) && m ≠ 0 && 60 % m = 0 && (z 2 == z 3) && (z 2 || (dst 2 && dst 3))
    && (List.range (fld w 4 31 25)).all fun k =>
      let i := 5 + k
      let y := fld w i 31 20
      (y = 0 || decide (2000 ≤ y)) && decide (1 ≤ fld w i 19 16) && decide (fld w i 19 16 ≤ 12) && decide (1 ≤ fld w i 15 11)
        && fld w i 6 0 = 0 && (k = 0 || decide (specialKey w (i - 1) < specialKey w i))

/-- TOKEN_POLICY (Table 11.5, R438). -/
def State.tokenPolicyOk (s : State) (w : List W32) : Bool :=
  let max_ := fld w 1 31 0
  decide (fld w 0 31 0 ≤ max_) && decide (fld w 2 31 0 ≤ max_)
    && (s.recs 0x0903).all fun t => decide (ceilDiv (fld t 2 31 0) 100 ≤ fld w 0 31 0)

/-- OBJECT_RIGHTS (Table 11.12). -/
def rightsOk (w : List W32) : Bool :=
  let c := caTags w (fld w 0 31 24) 1
  c.1.all (fun i => !bit w i 31 && fld w i 23 16 = 0 && decide (1 ≤ fld w i 15 0) && decide (fld w i 15 0 ≤ 8192))
    && (List.range (fld w 0 23 16)).all fun k => fld w (c.2 + 3 * k + 1) 15 0 = 0 && fld w (c.2 + 3 * k + 2) 10 0 = 0

/-- SAFETY_SECTION: each function entry (Table 12.4, R474, R494). -/
def sectionOk (w : List W32) : Bool :=
  (List.range (fld w 0 31 26)).all fun k =>
    let e := w.drop (4 + 5 * k)
    let two := bit e 0 23
    let kind := fld e 0 26 24
    let tp (x : Nat) : Bool := bit w 3 (24 + x)
    (k = 0 || decide (fld (w.drop (4 + 5 * (k - 1))) 0 31 27 < fld e 0 31 27)) && decide (kind ≤ 4)
      && decide (fld e 0 21 16 ≤ 31) && (if two then decide (fld e 0 15 10 ≤ 31) else fld e 0 15 10 = 63)
      && tp (fld e 0 9 7) && (!two || (tp (fld e 0 6 4) && fld e 0 6 4 ≠ fld e 0 9 7)) && fld e 0 3 0 = 0
      && (fld e 1 30 23 &&& fld w 2 31 24) = fld e 1 30 23
      && (decide (fld e 1 22 17 ≤ 31) || (fld e 1 22 17 = 63 && !bit e 0 22))
      && (kind ≠ 3 || bit w 2 (24 + fld e 1 16 14)) && decide (10 ≤ fld e 1 13 0) && decide (fld e 1 13 0 ≤ 5000)
      && (if kind = 3 then decide (20 ≤ fld e 4 31 16) && decide (fld e 4 31 16 ≤ 2000) else fld e 4 31 16 = 0)
      && fld e 4 15 0 = 0

/-- PUMP (Table 13.6, R508). -/
def pumpOk (w : List W32) : Bool :=
  decide ((9 : Rat) / 10 ≤ pumpCap w) && decide (orphanDuty w ≤ pumpCap w) && decide (fld w 3 31 16 < fld w 3 15 0)

/-- LOAD_SWITCH (Table 13.10). -/
def loadSwitchOk (w : List W32) : Bool :=
  let mode := fld w 0 26 25
  let fine := fld w 0 9 4
  let slew := fld w 1 31 26
  (fine = 0 || (mode = 1 && decide (2 ≤ fine) && decide (fine ≤ 40)))
    && (if mode = 2 then decide (1 ≤ slew) && decide (slew ≤ 50) else slew = 0)

/-- TIMER (Table 13.11). -/
def timerOk (w : List W32) : Bool :=
  let src := fld w 0 26 24
  let par := fld w 0 23 16
  let f := fld w 0 15 0
  (if src = 3 then decide (par ≤ 7) else if src = 4 then decide (1 ≤ par) && decide (par ≤ 64) else par = 0)
    && (f = 0 || (decide (10 ≤ f) && decide (f ≤ 20000))) && (f ≠ 0 || (src ≠ 2 && src ≠ 3))

/-- A CAN rate that the 80 MHz clock can give: a prescaler of 1 to 32, from `lo` to `hi` quanta, and a sample point within 1 % of
the bit of the one configured in 1/256 (R621, log 37). -/
def canRateOk (kbps lo hi sp : Nat) : Bool :=
  kbps ≠ 0 && 80000 % kbps = 0 && (List.range 32).any fun p =>
    let k := 80000 / kbps
    let q := k / (p + 1)
    k % (p + 1) = 0 && decide (lo ≤ q) && decide (q ≤ hi) && (List.range q).any fun n =>
      n ≠ 0 && decide ((max (256 * n) (q * sp) - min (256 * n) (q * sp)) * 100 ≤ 256 * q)

/-- CAN_CHANNEL (Table 16.5, R621). -/
def canChannelOk (w : List W32) : Bool :=
  let fmt := fld w 0 28 27
  let nom := fld w 0 15 0
  let data := fld w 1 31 16
  canRateOk nom 8 400 (fld w 1 15 8) && (fld w 0 26 25 ≠ 0 || fld w 2 28 0 = 0) && (!bit w 0 23 || (fmt = 2 && decide (data ≤ 10000)))
    && (if fmt = 0 then data = 0
        else decide (nom ≤ data) && decide (data ≤ if fmt = 1 then 8000 else 20000) && canRateOk data 4 80 (fld w 1 7 0))

/-- CAN_SCHEDULE: each entry (Table 16.6). -/
def scheduleOk (w : List W32) : Bool :=
  (List.range (fld w 0 21 14)).all fun k =>
    let e := w.drop (1 + 3 * k)
    let excl := fld e 2 31 30 = 1
    fld e 0 4 0 = 0 && decide (fld e 0 13 11 ≤ 6) && fld e 1 13 0 = 0 && fld e 2 12 0 = 0
      && (if excl then fld e 2 29 27 = 1 || fld e 2 29 27 = 2 else fld e 2 29 27 = 0 && fld e 2 26 13 = 0)

/-- ETH_PORT (Table 16.11, R648). -/
def State.ethOk (s : State) (w : List W32) : Bool :=
  (bit w 0 27 || wide w 10 4 = 0)
    && (!bit w 0 26 || (s.recs 0x1001).all fun v => !bit v 0 26 || decide (fld w 0 31 30 < fld v 0 31 30) || fld v 1 23 16 = fld w 1 23 16)

/-- Bits per second of a telemetry stream times 2 * 512 * 64 at F_HI * 65/64: headers, payloads and CRC words (R652, log 38). -/
def State.telemRate (s : State) (w : List W32) : Nat :=
  let period := fld w 5 31 16
  let count := fld w 5 15 0
  match fld w 0 27 26 with
  | 0 => if period = 0 then 0 else (9 * ceilDiv count 10 + 33 * count) * 32 * 100 * 65536 / period
  | 1 => if period = 0 then 0 else (10 + count) * 32 * 2 * s.fastRate / period
  | 2 => 2 * (10 + 4 * count) * 32 * 2 * (2 * s.fHi * 65)
  | _ => 0

/-- TELEMETRY (Table 16.10, R652). -/
def State.telemetryOk (s : State) (w : List W32) : Bool :=
  let kind := fld w 0 27 26
  let period := fld w 5 31 16
  let count := fld w 5 15 0
  let ports := fld w 0 25 22
  let most := match kind with | 0 => 8192 | 1 => 16 | 2 => 64 | _ => 1
  let gig := 1000000000 * 65536
  (List.range 4).all (fun p => ports / 2 ^ p % 2 = 0 || (s.recs 0x1001).any fun v => fld v 0 31 30 = p && bit v 0 25)
    && (if kind ≤ 1 then period ≠ 0 else period = 0) && decide (count ≤ most) && (kind ≠ 3 || decide (fld w 6 31 0 ≤ 7))
    && decide (s.telemRate w ≤ gig)
    && (List.range 4).all fun p => ports / 2 ^ p % 2 = 0 ||
        decide (((s.recs 0x1002).foldl (fun a v =>
          if fld v 0 31 28 ≤ fld w 0 31 28 && fld v 0 25 22 / 2 ^ p % 2 = 1 then a + s.telemRate v else a) 0) ≤ 2 * gig)

/-- A record keeps the rules of its chapter that concern check 0x07, within the records of the candidate state. -/
def State.recRules (s : State) (r : Rec) : Bool :=
  let w := r.payload
  match r.typ with
  | 0x0101 => carouselOk w
  | 0x0201 => decide (fld w 1 31 16 ≤ fld w 1 15 0)
  | 0x0301 => s.taskPlanOk w
  | 0x0401 => s.legOk w
  | 0x0402 => s.groupOk w
  | 0x0501 => s.lawOk w
  | 0x0502 => s.stageOk w && decide (s.repEntries (fld w 0 31 22) ≤ 131072)
  | 0x0601 => cnodeOk w
  | 0x0602 => (List.range 64).all fun o => fld w (4 + 2 * o) 31 30 ≠ 2 || fld w (4 + 2 * o) 15 0 = 0
  | 0x0603 => decide (fld w 0 15 0 < fld w 0 31 16)
  | 0x0701 => stencilOk w
  | 0x0702 => instanceOk w
  | 0x0703 => classOk w
  | 0x0704 => sensorOk w
  | 0x0705 => decide (fld w 2 31 16 ≤ fld w 2 15 0)
  | 0x0801 => wide w 1 2 ≠ 0 && (fld w 0 24 23 ≠ 1 || fld w 0 20 19 = 0)
  | 0x0802 => certChainOk w
  | 0x0901 => c24Pos w 1 && c24Pos w 3
  | 0x0902 => decide (sfld w 3 31 16 < sfld w 3 15 0)
  | 0x0903 => decide (fld w 4 31 0 ≤ fld w 1 31 0)
      && (s.recs 0x0903).all fun v => decide (fld w 0 31 28 < fld v 0 31 28) || fld v 0 15 0 = fld w 0 15 0
  | 0x0904 => profileOk w
  | 0x0905 => calendarOk w
  | 0x0A01 => s.tokenPolicyOk w
  | 0x0A02 => rightsOk w
  | 0x0B01 => sectionOk w
  | 0x0C01 => pumpOk w
  | 0x0C02 => loadSwitchOk w
  | 0x0C03 => timerOk w
  | 0x0D01 => !bit w 0 8 || (decide (200 ≤ fld w 1 20 10) && decide (fld w 1 20 10 ≤ fld w 1 31 21))
  | 0x0E01 => (!s.startup.hdr.paired || fld w 0 23 22 ≠ 0) && decide (65536 * s.fHi * 65 ≤ fld w 0 31 24 * 512 * 64 * 100000)
  | 0x0F01 => canChannelOk w
  | 0x0F02 => scheduleOk w
  | 0x0F03 => fld w 0 16 14 = 3 || fld w 0 13 9 = 0
  | 0x1001 => s.ethOk w
  | 0x1002 => s.telemetryOk w
  | 0x1101 => let p := fld w 0 25 22; p = 3 || p = 5 || p = 6 || p = 7
  | _ => true

/-- Check 0x07 of one record. -/
def State.recordOk (s : State) (r : Rec) : Bool := lengthOk r && rangesOk r && s.recRules r

/-- State, inputs and result of a P0 or P1 task fit together in the 16 KiB of local memory, by their numbers of 64-byte blocks (R112). -/
def fitsLocal (x : Nat × Nat × Nat) : Bool := decide (64 * (x.1 + x.2.1 + x.2.2) ≤ 16384)

/-- Check 0x07 of the records of an image, with the blocks of the law kernels in LAW order and of the Juggler's last: the index of
the first record that fails, a LAW record where its kernel does not fit the local memory (R112). That each result domain has one
writing class (R123) every image meets, since a domain is written for one kind of task alone. -/
def State.rangesBad (s : State) (rs : List Rec) (blocks : List (Nat × Nat × Nat)) : Option Nat :=
  let n := rs.countP fun r => r.typ = 0x0501
  let law (i : Nat) : Nat := (rs.take i).countP fun r => r.typ = 0x0501
  match ((rs.mapIdx fun i r => (i, r)).find? fun x =>
      !s.recordOk x.2 || (x.2.typ = 0x0501 && !(blocks[law x.1]?).any fitsLocal)).map (·.1) with
  | some i => some i
  | none => if (blocks[n]?).any fitsLocal then none else some 0xFFFFFFFF

end Sys2Proof.Machine
end

