-- ==== Sys2Proof/Machine/Checks.lean ====
section
/-!
DEFINITION. The image checks (R68 to R78, Table 3.6): the header, framing, cross-references between records, ordering code and
loads. A failure is a code with the index of the offending record (R96); the record a rule over several records names is
the first that breaks it in image order (log 39).
-/
namespace Sys2Proof.Machine

open Sys2Proof.Config

/-! ### Reading an image (R66, R68, R70) -/

/-- The record area of the image in a bank. -/
def imageArea (f : Flash) (len : Nat) : List W32 := (f.words 8192 (128 + len / 4)).drop 128

/-- Check 0x01 (R68, Table 3.2). -/
def headerOk (h : List W32) : Bool :=
  let len := fld h 4 31 0
  fld h 0 31 0 = 0x59464331 && fld h 1 31 16 = 1 && fld h 1 15 0 = 128 && fld h 2 31 16 = 0x6400 && fld h 2 12 0 = 0
    && fld h 3 31 0 ≠ 0 && len % 4 = 0 && decide (len ≤ 0x03FFFE00) && fld h 5 31 0 ≠ 0 && wide h 6 2 ≠ 0 && fld h 9 15 0 = 0
    && decide (fld h 10 31 24 ≤ 63) && fld h 10 23 16 = 1 && fld h 10 15 0 = 0 && wide h 24 8 = 0 && wide h 56 72 = 0

/-- The record area walked (R70): the records found, and the index of the first frame that fails. -/
def walk : Nat → Nat → List W32 → List Rec × Option Nat
  | 0, _, _ => ([], none)
  | _ + 1, _, [] => ([], none)
  | k + 1, i, w :: rest =>
    let n := w.toNat % 65536
    if n = 0 || rest.length < n + 1 then ([], some i)
    else
      let r : Rec := { typ := w.toNat / 65536, payload := rest.take n, crc := rest.getD n 0 }
      if crc32c (w :: r.payload) ≠ r.crc then ([], some i)
      else let x := walk k (i + 1) (rest.drop (n + 1)); (r :: x.1, x.2)

/-- Check 0x05: the records of the area, or the index of the failure (R70). -/
def framing (area : List W32) (count : Nat) : Except Nat (List Rec) :=
  let x := walk area.length 0 area
  match x.2 with
  | some i => .error i
  | none => if x.1.length = count then .ok x.1 else .error (min count x.1.length)

/-- A state that holds the records to be checked as if they were in force. -/
def State.candidate (s : State) (h : ImageHdr) (rs : List Rec) : State :=
  { s with startup := { s.startup with
    hdr := h, image := rs.filter fun r => !operational r.typ, oper := rs.filter fun r => operational r.typ } }

/-- The first index whose record fails. -/
def firstBad (rs : List Rec) (ok : Nat → Rec → Bool) : Option Nat :=
  ((rs.mapIdx fun i r => (i, r)).find? fun x => !ok x.1 x.2).map (·.1)

/-! ### Check 0x02 (R69) -/

/-- A slot verifies an image (R69, R658): a configuration-authority key whose attributes permit the verification to the boot
world. -/
def State.authority (s : State) (slot : Nat) : Bool :=
  let a := (s.slot slot).attr
  typeSupports (attrType a) .verify && a.getLsbD 26 && a.getLsbD 20 && a.getLsbD 16 && attrPurpose a = 3
    && (match lifeBit s.ident.life with | some b => a.getLsbD b | none => false)

/-! ### Check 0x06 (R71, R73, R443) -/

/-- Types, order, instances and counts. -/
def cataloguOk (rs : List Rec) (prepay : Bool) : Option Nat :=
  let ordered (i : Nat) (r : Rec) : Bool :=
    (recType r.typ).isSome && (i = 0 ||
      (rs[i - 1]?).all fun p => decide (p.typ < r.typ) ||
        (p.typ = r.typ && ((recType r.typ).bind (·.inst)).elim true fun _ => decide (recInst p < recInst r)))
  let within (i : Nat) (r : Rec) : Bool :=
    match recType r.typ with
    | some x => decide (((rs.take (i + 1)).filter fun y => y.typ = r.typ).length ≤ x.most) && (prepay || r.typ ≠ 0x0A01)
    | none => false
  match firstBad rs fun i r => ordered i r && within i r with
  | some i => some i
  | none =>
    if recTypes.all fun x => decide ((if x.typ = 0x0A01 && prepay then 1 else x.least) ≤ (rs.filter fun r => r.typ = x.typ).length)
    then none else some noIndex

/-! ### Check 0x08 -/

/-- Uses of the SD channels: a leg current of a leg, or another use (R193). -/
def State.sdUses (s : State) : List (Nat × Option Nat) :=
  ((s.recs 0x0401).filterMap fun w => if bit w 0 15 then some (fld w 1 15 8, some (fld w 0 31 24)) else none) ++
  ((s.recs 0x0402).flatMap fun w =>
    (fld w 1 31 24, none) :: (if bit w 0 25 then [] else [(fld w 1 23 16, none)])) ++
  (s.recs 0x0501).flatMap fun w =>
    let l := fld w 0 31 26
    let legs := s.members (fld w 0 24 19)
    (s.inputs l).mapIdx fun i e => (e.1, if bit w 0 25 || i < 3 then none else legs[i - 3]?)

/-- A leg-current channel has no other use (R193). -/
def State.sdAlone (s : State) (chan leg : Nat) : Bool :=
  s.sdUses.all fun u => u.1 ≠ chan || u.2 = some leg

/-- LEG (R193). -/
def State.legCross (s : State) (w : List W32) : Bool :=
  let role := fld w 0 23 22
  match s.recAt 0x0402 31 26 (fld w 0 21 16) with
  | none => role = 0
  | some g => role = 0 || ((role = 1) == bit g 0 25) && (!bit w 0 15 || s.sdAlone (fld w 1 15 8) (fld w 0 31 24))

/-- LEG_GROUP (R193, R196). -/
def State.groupCross (s : State) (w : List W32) : Bool :=
  let g := fld w 0 31 26
  let idx := (s.recs 0x0401).filterMap fun r => if fld r 0 23 22 ≠ 0 && fld r 0 21 16 = g then some (fld r 0 14 12) else none
  let n := idx.length
  (List.range n).all (fun i => idx.contains i) && (if bit w 0 25 then n = 3 else decide (1 ≤ n) && decide (n ≤ 8))
    && ((s.recs 0x0501).countP fun r => fld r 0 24 19 = g) = 1

/-- LAW (R197, R240, R243). -/
def State.lawCross (s : State) (w : List W32) : Bool :=
  let l := fld w 0 31 26
  let g := fld w 0 24 19
  let has (p : Nat) : Bool := (s.stage l p) ≠ []
  (s.recAt 0x0402 31 26 g).isSome && [0, 1, 2, 3, 5, 6, 7, 8].all has
    && (bit w 0 25 || !(s.groupLegs g).any (fun r => bit r 0 15) || bit (s.stage l 9) 0 17)
    && (s.policy.nodes.countP fun n => n.kind = (if 16 ≤ g then 3 else 4) && n.inst = g) = 1

/-- LAW_STAGE: its law exists, one M for each channel, leg currents alone (R193, R207). -/
def State.stageCross (s : State) (w : List W32) : Bool :=
  let l := fld w 0 31 26
  let afe := s.lawAfe l
  let legs := s.members (s.lawGroup l)
  s.hasLaw l && (fld w 0 25 22 ≠ 0 || (List.range (fld w 0 16 12)).all fun i =>
    let c := fld w (1 + i) 31 24
    ((s.recs 0x0502).all fun v => fld w 0 31 22 < fld v 0 31 22 || fld v 0 25 22 ≠ 0 || (List.range (fld v 0 16 12)).all fun j =>
      fld v (1 + j) 31 24 ≠ c || fld v (1 + j) 22 15 = fld w (1 + i) 22 15)
    && (afe || i < 3 || match legs[i - 3]? with | some n => s.sdAlone c n | none => true))

/-- CNODE (R243, R297). -/
def State.cnodeCross (s : State) (bases : List Nat) (w : List W32) : Bool :=
  let n := cnodeOf w
  let parent := (s.recAt 0x0601 31 20 n.parent).map cnodeOf
  let parentKind := match n.kind with | 1 => 0 | 2 => 1 | 3 => 2 | 4 => 2 | 5 => 0 | _ => 5
  (if n.node = 0 then n.kind = 0 && n.parent = 0
   else n.kind ≠ 0 && parent.any fun p => p.kind = parentKind)
    && (s.recAt 0x0601 31 20 0).isSome
    && (n.kind ≠ 6 || s.policy.nodes.all fun m => decide (n.node ≤ m.node) || m.kind ≠ 6 || m.parent ≠ n.parent)
    && (n.therm = 0x7FFFFF || bases.contains n.therm)

/-- The first nodes of the instances by the rule of R296. -/
def State.instBases (s : State) : List Nat :=
  ((s.recs 0x0702).foldl (fun (a : List Nat × Nat) w =>
    (a.1 ++ [a.2], a.2 + 64 * ceilDiv (stNodes (s.stencil (fld w 0 17 10))) 64)) ([], 0)).1

/-- A sensor of KIND flow. -/
def State.flowSensor (s : State) (n : Nat) : Bool := (s.sensorRec n).any fun r => fld r 0 26 24 = 2

/-- STENCIL_INSTANCE: what it names exists, and its ports find link slots (R294, R297). -/
def State.instanceCross (s : State) (w : List W32) : Bool :=
  let n := fld w 0 31 18
  let dcu := bit w 1 19
  match s.recAt 0x0701 31 24 (fld w 0 17 10) with
  | none => false
  | some st =>
    let nodes := stNodes st
    (List.range nodes).all (fun i =>
      let x := nodeOf st i 0
      (if x.refSel < 32 then (s.sensorRec x.refSel).any fun r => bit r 0 23
       else if x.refSel < 40 then (s.loopRec (x.refSel - 32)).any fun r => bit r 0 1
       else x.refSel = 63 || dcu) && x.lim.all fun c => (s.recAt 0x0703 31 26 c).isSome)
    && (List.range 16).all (fun r =>
      let g := roleSig w r
      match g / 4096 with
      | 4 => s.flowSensor (g % 4096)
      | 5 => dcu
      | _ => true)
    &&
      let before := (s.recs 0x0702).filter fun v => decide (fld v 0 31 18 < n)
      let acc := before.foldl s.expandInst ([], [])
      let base := acc.1.length
      (List.range (fld w 1 31 27)).all (fun p =>
        decide (fld w (12 + 2 * p) 31 20 < nodes) && decide (fld w (13 + 2 * p) 31 9 < base))
      && (s.expandInst acc w).1.all fun x => decide (x.links.length ≤ 4)

/-- COOLING_LOOP names sensors that exist (Table 8.9). -/
def State.loopCross (s : State) (w : List W32) : Bool :=
  (!bit w 0 7 || s.flowSensor (fld w 0 12 8)) && (!bit w 0 1 || (s.sensorRec (fld w 0 6 2)).isSome)

/-- DISPENSER (R243, R363). -/
def State.dispenserCross (s : State) (w : List W32) : Bool :=
  (s.policy.nodes.any fun n => n.kind = 5 && n.inst = fld w 0 31 25)
    && (s.recs 0x0801).all fun v => decide (fld w 0 31 25 ≤ fld v 0 31 25) || wide v 1 2 ≠ wide w 1 2

/-- A slot is bound with a purpose. -/
def State.boundTo (s : State) (slot purpose : Nat) : Bool :=
  (s.recs 0x1101).any fun r => fld r 0 31 26 = slot && fld r 0 25 22 = purpose

/-- CERT_CHAIN (R365, R668); `leads` says that each leaf leads to a V2G root of the image. -/
def State.certCross (s : State) (leads : Bool) (w : List W32) : Bool :=
  let es := (certOffsets w (fld w 0 31 16) 1).map fun i => (fld w i 31 28, fld w i 27 24, fld w i 23 16)
  let leaf (c : Nat) : Bool := es.any fun e => e.1 = 0 && e.2.1 = c
  let key := fld w 0 15 8
  leads && es.all (fun e => e.1 = 3 || leaf e.2.1)
    && es.all (fun e => e.1 ≠ 0 ||
        let a := (s.slot e.2.2).attr
        typeSupports (attrType a) .sign && a.getLsbD 27 && a.getLsbD 18 && s.boundTo e.2.2 7)
    && (s.recs 0x0801).all (fun d => (!bit d 0 21 || leaf 2 || leaf 3) && (!bit d 0 20 || leaf 1) && (!bit d 0 22 || key ≠ 0xFF))
    && (!bit (s.rec1 0x0803) 0 25 || es.any fun e => e.1 = 3)
    && (key = 0xFF || s.boundTo key 6)

/-- METER_CHANNEL: one MDCK_NOM for each group (R373, R382). -/
def State.meterCross (s : State) (w : List W32) : Bool :=
  (s.recs 0x0901).all fun v =>
    decide (fld w 0 31 25 ≤ fld v 0 31 25) || (fld v 0 31 25 - 1) / 8 ≠ (fld w 0 31 25 - 1) / 8 || fld v 5 15 0 = fld w 5 15 0

/-- DAY_PROFILE and CALENDAR name records that exist (Tables 10.6 and 10.7). -/
def State.profileCross (s : State) (w : List W32) : Bool :=
  (List.range (fld w 0 27 24)).all fun i => (s.recAt 0x0903 31 28 (fld w (1 + i) 20 17)).isSome
def State.calendarCross (s : State) (w : List W32) : Bool :=
  let prof (n : Nat) : Bool := (s.recAt 0x0904 31 28 n).isSome
  (List.range 7).all (fun k => prof (fld w 1 (31 - 4 * k) (28 - 4 * k))) && (s.recAt 0x0903 31 28 (fld w 1 3 0)).isSome
    && (List.range (fld w 4 31 25)).all fun k => prof (fld w (5 + k) 10 7)

/-- SAFETY_SECTION: each SI ball serves one channel, or reset inputs (R474). -/
def sectionCross (w : List W32) : Bool :=
  let es := (List.range (fld w 0 31 26)).map fun k => w.drop (4 + 5 * k)
  let chans := es.flatMap fun e => fld e 0 21 16 :: (if bit e 0 23 then [fld e 0 15 10] else [])
  let resets := (es.map fun e => fld e 1 22 17).filter (· ≠ 63)
  decide chans.Nodup && resets.all fun r => !chans.contains r

/-- CAN_CHANNEL (R634, R638). -/
def State.canCross (s : State) (w : List W32) : Bool :=
  let k := fld w 0 31 29
  ((s.recAt 0x0F02 31 29 k).isSome == !bit w 0 24)
    && decide ((s.implicitIds k w).length + ((s.recs 0x0F03).countP fun r => fld r 0 31 29 = k) ≤ 256)

/-- A window is active in a cycle (R626). -/
def CanWin.active (x : CanWin) (cycle : Nat) : Bool := cycle % 2 ^ x.repeat_ = x.offset

/-- CAN_SCHEDULE (R630). -/
def State.scheduleCross (s : State) (w : List W32) : Bool :=
  let k := fld w 0 31 29
  let ch := (s.canRec k).getD []
  let l := schedL w
  let m := schedM w
  let ws := (List.range (fld w 0 21 14)).map (winOf w)
  let group (x : CanWin) : Bool := (s.groupOfNode x.index).any fun n => n.can = k
  let inst (x : CanWin) : Bool := (s.recAt 0x0702 31 18 x.index).any fun r => bit r 1 19 && fld r 1 18 16 = k
  let longEnough (x : CanWin) : Bool :=
    let n := if x.kind = 0 then 8 else if x.src = 1 then 4 else 8
    x.kind ≥ 2 || decide (frameBits n * 65536 * s.fHi * 65 ≤ (x.length + 1) * fld ch 0 15 0 * 1000 * 512 * 64)
  let starts (i : Nat) : List Nat := (List.range (2 ^ m)).flatMap fun c =>
    (ws.filter fun x => x.kind = 1 && x.src = 2 && x.index = i && x.active c).map fun x => c * 2 ^ l + x.start
  let total := 2 ^ (l + m)
  let gapsOk (i : Nat) : Bool :=
    let ss := starts i
    ss ≠ [] && ss.all fun a =>
      let gap := ss.foldl (fun g b => min g ((b + total - a - 1) % total + 1)) total
      decide (gap * 512 * 64 * 10 ≤ 65536 * s.fLo * 63)
  (s.canRec k).isSome
    && ws.all (fun x => decide (x.start + x.length + 1 ≤ 2 ^ l) && decide (x.repeat_ ≤ m) && decide (x.offset < 2 ^ x.repeat_)
        && (x.kind ≠ 0 || canRole ch = 1) && (x.kind ≠ 1 || (if x.src = 1 then group x else inst x)) && longEnough x)
    && (List.range (2 ^ m)).all (fun c =>
        let on := ws.filter fun x => x.active c
        decide (on.length ≤ 64) && decide (on.Pairwise fun (x y : CanWin) => x.start + x.length < y.start ∨ y.start + y.length < x.start))
    && ((s.policy.kind 4).filter fun n => n.can = k).all (fun n => ws.any fun x => x.kind = 1 && x.src = 1 && x.index = n.node)
    && ((s.recs 0x0702).filter fun r => bit r 1 19 && fld r 1 18 16 = k).all fun r => gapsOk (fld r 0 31 18)

/-- KEY_BINDING (R668). -/
def State.bindingCross (s : State) (w : List W32) : Bool :=
  let x := s.slot (fld w 0 31 26)
  decide (16 ≤ fld w 0 31 26) && attrType x.attr ≠ 0 && attrPurpose x.attr = fld w 0 25 22 && x.kcv.toNat = fld w 1 31 0

/-- Check 0x08 of one record. -/
def State.recordCross (s : State) (bases : List Nat) (leads : Bool) (r : Rec) : Bool :=
  let w := r.payload
  match r.typ with
  | 0x0401 => s.legCross w
  | 0x0402 => s.groupCross w
  | 0x0501 => s.lawCross w
  | 0x0502 => s.stageCross w
  | 0x0601 => s.cnodeCross bases w
  | 0x0702 => s.instanceCross w
  | 0x0705 => s.loopCross w
  | 0x0801 => s.dispenserCross w
  | 0x0802 => s.certCross leads w
  | 0x0901 => s.meterCross w
  | 0x0904 => s.profileCross w
  | 0x0905 => s.calendarCross w
  | 0x0B01 => sectionCross w
  | 0x0F01 => s.canCross w
  | 0x0F02 => s.scheduleCross w
  | 0x1101 => s.bindingCross w
  | _ => true

/-- Check 0x08 as a whole (R668 for the header). -/
def State.crossOk (s : State) (leads : Bool) (rs : List Rec) : Option Nat :=
  match firstBad rs fun _ r => s.recordCross s.instBases leads r with
  | some i => some i
  | none =>
    let h := s.startup.hdr
    let tokens := (s.recs 0x1101).countP fun r => fld r 0 25 22 = 5
    if s.boundTo h.keySlot 3 && tokens = (if h.prepay then 1 else 0) then none else some noIndex

/-! ### Checks 0x09 to 0x0E -/

/-- The sealed metrology hash that check 0x09 compares with (R384): in a trial with a released part 6, the one formed with that
part over the records of the old bank's image (R696). -/
def State.sealedHash (s : State) (part6 : Nat) : Option Nat :=
  match s.scribe.seal_, s.scribe.sealHash with
  | .sealed, some h =>
    match s.update.trial, s.update.release with
    | some old, some (p, _) =>
      if p = part6 then
        let f := s.flash.bank old
        let ih := hdrOf (imageHeader f)
        match framing (imageArea f ih.imageLen) ih.recordCount with
        | .ok rs => some ((s.candidate ih rs).metroHash part6)
        | .error _ => some h
      else some h
    | _, _ => some h
  | _, _ => none

/-- Check 0x09 (R4, R384). -/
def State.orderingOk (s : State) (cand : State) (part6 : Nat) : Bool :=
  let h := cand.startup.hdr
  !(s.ident.orderN && (h.sealReq || h.prepay)) && (s.ident.hubId = 0 || h.hubId = s.ident.hubId)
    && (s.sealedHash part6).all fun x => cand.metroHash part6 = x

/-- P0 cycles per second times 32 768: 2 * W * N * F_HI * 65/64 summed over the laws (R76). -/
def State.p0Cycles (s : State) (ws : List Nat) : Nat := 2 * ws.sum * s.fastRate

/-- Cycles per second of 248 nibs. -/
def capacity : Nat := 248 * ticksPerSec

/-- The W of the i-th law meets the latency bound (R77). -/
def State.latencyOk (s : State) (w : Nat) : Bool := decide ((2 * w + 400) * s.fastRate ≤ ticksPerSec * 64 * 512)

/-- Ticks left to the tightest law under R77. -/
def State.latencyMargin (s : State) (ws : List Nat) : Int :=
  if s.fastRate = 0 then 0
  else ((ticksPerSec * 64 * 512 / s.fastRate : Nat) - 400 : Int) / 2 - (ws.foldl max 0 : Nat)

/-- The loads of the classes P0 to P4 in cycles per second times 32 768 (R76, R78): P0 with its shadow copies; the Juggler's passes
in every half-turn; the fast tier with its sub-steps and the cooling law; the base tier; the background work. The fast tier holds
the pinned folios and, of those with limited nodes, the ones whose move from the base tier adds most, as many as find a slot (R304,
R305; log 138). -/
def State.arrayLoads (s : State) (obs : ImageObs) : List Nat :=
  let cycles (f : Folio) (dt : Nat) : Nat :=
    (obs.folioCycles + obs.stepCycles * (f.nodes.map fun n => s.subSteps f.inst n dt).sum) * 32768 * ticksPerSec / dt
  let insert (x : Nat × Nat) (l : List (Nat × Nat)) : List (Nat × Nat) :=
    l.takeWhile (fun y => x.1 + y.2 ≤ y.1 + x.2) ++ x :: l.dropWhile fun y => x.1 + y.2 ≤ y.1 + x.2
  let fs := s.thermal.folios
  let pinned := fs.filter Folio.pinned
  let free := fs.filter fun f => !f.pinned
  let cand := (free.filter fun f => f.nodes.any fun n => n.lim.isSome).map fun f =>
    (cycles f f.period, cycles f basePeriod)
  let fast := ((cand.foldr insert []).take (4096 - pinned.length)).filter fun x => decide (x.2 < x.1)
  [s.p0Cycles obs.kernelCycles, 2 * obs.jugglerCycles * s.fHi * 65,
    (pinned.map fun f => cycles f f.period).sum + (fast.map (·.1)).sum + 100 * 32768 * obs.coolingCycles,
    (free.map fun f => cycles f basePeriod).sum - (fast.map (·.2)).sum, 32768 * obs.p4Cycles]

/-- Check 0x0C of one record (R78, R297): the candidate's model expanded. -/
def State.thermalOk (s : State) (r : Rec) : Bool :=
  if r.typ ≠ 0x0702 then true else
  let n := fld r.payload 0 31 18
  match s.thermal.insts.find? fun x => x.inst = n with
  | none => false
  | some x =>
    let last := x.base + 64 * ceilDiv x.count 64
    let fs := s.thermal.folios.filter fun f => f.inst = n
    let sofar := (s.thermal.folios.take (last / 64)).countP Folio.pinned
    decide (last ≤ 5242880) && decide (sofar ≤ 4096) && fs.all fun f => f.nodes.all fun d =>
      decide (s.subSteps n d (if f.pinned then f.period else basePeriod) ≤ 16)

/-- The hash and CRC of the section (R727). -/
def sectionHash (r : Rec) : Nat := sha384 (recHead r :: r.payload)

/-- Check 0x0D of one record (R497, R727). -/
def State.sectionKnown (s : State) (r : Rec) : Bool :=
  r.typ ≠ 0x0B01 || r.crc = s.safety.sealedCrc ||
    (s.safety.log.find? fun e => e.kind = 1).any fun e => e.crc = r.crc && e.hash = sectionHash r

/-! ### The checks in order (R75) -/

/-- Checks 0x06 to 0x0E on framed records: the code and index of the first failure. -/
def State.recordChecks (s : State) (h : ImageHdr) (rs : List Rec) (part6 : Nat) (obs : ImageObs) : Option (Nat × Nat) :=
  let c := s.candidate h rs
  let x := c.expandThermal
  let at_ (code : Nat) (o : Option Nat) : Option (Nat × Nat) := o.map fun i => (code, i)
  let when (code : Nat) (ok : Bool) : Option (Nat × Nat) := if ok then none else some (code, noIndex)
  let laws := rs.mapIdx fun i r => (i, r.typ)
  at_ 0x06 (cataloguOk rs h.prepay)
    <|> at_ 0x07 (c.rangesBad rs obs.kernelBlocks)
    <|> at_ 0x08 (c.crossOk obs.chainsOk rs)
    <|> when 0x09 (s.orderingOk c part6)
    <|> when 0x0A (decide (5 * c.p0Cycles obs.kernelCycles ≤ 2 * 32768 * capacity))
    <|> at_ 0x0B ((((laws.filter fun y => y.2 = 0x0501).zip obs.kernelCycles).find? fun y => !c.latencyOk y.2).map fun y => y.1.1)
    <|> at_ 0x0C (firstBad rs fun _ r => x.thermalOk r)
    <|> at_ 0x0D (firstBad rs fun _ r => s.sectionKnown r)
    <|> when 0x0E (decide ((x.arrayLoads obs).sum ≤ 32768 * capacity))

/-- What the checks find in the image of a flash under a manifest and the hash of a Scribe part (R75): the header and records of an
image that passes, or the code and index of the first failure. -/
def State.checkImage (s : State) (f : Flash) (manifest : List W32) (part6 : Nat) (obs : ImageObs) :
    Except (Nat × Nat) (ImageHdr × List Rec) :=
  let h := imageHeader f
  if !headerOk h then .error (0x01, noIndex)
  else
    let ih := hdrOf h
    if !(s.authority ih.keySlot && obs.sigOk) then .error (0x02, noIndex)
    else if sha384 (imageArea f ih.imageLen) ≠ ih.recordsHash then .error (0x03, noIndex)
    else if hdrVersion manifest < ih.minManifest then .error (0x04, noIndex)
    else
      match framing (imageArea f ih.imageLen) ih.recordCount with
      | .error i => .error (0x05, i)
      | .ok rs =>
        match s.recordChecks ih rs part6 obs with
        | some e => .error e
        | none => .ok (ih, rs)

end Sys2Proof.Machine
end

