-- ==== Sys2Proof/Machine/StartUp.lean ====
section
/-!
DEFINITION. The start sequence (R66, R67, R89 to R101): the steps of Table 3.8, the refusal of an image, bank revert, and what
begins with service.
-/
namespace Sys2Proof.Machine

open Sys2Proof.Config

/-! ### Limits of the steps (R92) -/

/-- START_STEP_TIMEOUT (R92): a step, or service within SERVICE_WIN, has not completed by its time; one that completes in that tick
is in time (R47). -/
def execStartStepTimeout (t : Nat) (step : Step) (s : State) : Out :=
  let s := s.advance t
  .next (if s.startup.mode = .starting && !s.isDone step && s.stepLate step then s.refuseStep step else s)

/-! ### Steps 1 to 3 (R91, R660, R677) -/

/-- A slot whose tag fails is treated as empty (R660). -/
def State.corruptSlot (s : State) (i : Fin 64) : State :=
  if attrType (s.slot i.val).attr = 0 then s
  else (s.modSlot i.val fun x => { x with attr := 0, kcv := 0 }).raise .keyCorrupt [i.val]

/-- Step 2: the logic die leaves reset, the tick counter starts at 0 and the start count rises by one; what the power die
recorded in its cells while the logic die was down is raised with its power-die time; a SAFETY_NET_FAULT and faulty outputs last until
this restart (R52, R455, R463, R485, R573, R578, R660, R669, R692). -/
def State.leaveReset (s : State) (obs : ImageObs) : State :=
  let cells := s.port.events.reverse
  let since := s.time.tick0 - s.safety.dieAt
  let s : State := { s with
    time := { s.time with tick0 := s.time.clock }
    port := { startCount := (s.port.startCount + 1) % 2 ^ 32 } }
  let s := s.stepDone .s2
  let s := cells.foldl (fun (s : State) (e : EvRec) => s.raise e.ev (e.val ++ [((since + e.tick : Nat) : Int)])) s
  let s := (s.modSafety fun x =>
    { x with netFault := false, disagreed := false, outs := vmap (fun (o : SafeOut) => { o with faulty := false }) x.outs }).react
  let s := match s.supply.holdup with
    | some ms => if s.supply.holdupDue && ms < 10 then s.raise .holdupShort [ms] else s
    | none => s
  let s : State := { s with supply := { s.supply with holdupDue := false } }
  let s := match s.update.revertDue with
    | some x => ({ s with update := { s.update with revertDue := none } }).raise .activationReverted [x.1, x.2]
    | none => s
  let s := obs.corrupt.foldl State.corruptSlot s
  if s.ident.life = .retired then s.refuse 0x31 noIndex
  else if !obs.pufOk then s.refuse 0x30 noIndex
  else s

/-- Offset and length of part entry `i`, 0 to 6. -/
def partRange (h : List W32) (i : Nat) : Nat × Nat := ((h.getD (14 + 16 * i) 0).toNat, (h.getD (15 + 16 * i) 0).toNat)

/-- Part `i`, 0 to 6, of a firmware set in a bank has the hash of its entry in the manifest (R677, R679, R686). -/
def Flash.partGood (f : Flash) (h : List W32) (i : Nat) : Bool :=
  let x := partRange h i
  let w := f.words (8 + x.1 / 4096) (ceilDiv x.2 4)
  decide (sha384Bytes (((w.flatMap wordBytes).take x.2).map BitVec.toNat) = hdrPartHash h (i + 1))

/-- The manifest of a bank passes (R677): both signatures verify against slots 2 and 3, its ROLLBACK is not below the fuse counter,
and part 1 has its hash. -/
def State.manifestGood (s : State) (k : BankId) (obs : ImageObs) (m : KeyMaster) : Bool :=
  obs.manifestOk && s.keyAllowed 2 .verify m && s.keyAllowed 3 .verify m
    && decide (s.update.fuse ≤ hdrRollback (s.manifest k)) && (s.flash.bank k).partGood (s.manifest k) 0

/-- Parts 2 to 7 of a bank have their hashes (R677). -/
def State.partsGood (s : State) (k : BankId) : Bool :=
  (List.range 6).all fun i => (s.flash.bank k).partGood (s.manifest k) (i + 1)

/-- The firmware set of a bank passes step 3 (R99, R677, R688). -/
def State.bankGood (s : State) (k : BankId) (obs : ImageObs) (m : KeyMaster) : Bool := s.manifestGood k obs m && s.partsGood k

/-- The image of a bank checked as step 4 checks it, against the manifest and the Scribe part of that bank (R99, R688). -/
def State.checkBank (s : State) (k : BankId) (obs : ImageObs) : Except (Nat × Nat) (ImageHdr × List Rec) :=
  s.checkImage (s.flash.bank k) (s.manifest k) (hdrPartHash (s.manifest k) 6) obs

/-- The first record of the image, if it is a CAROUSEL record in range (R71, step 3b). -/
def State.firstCarousel (s : State) : Option Rec :=
  let w := (s.flash.bank s.startup.bank).words 8192 134
  let r : Rec := { typ := fld w 128 31 16, payload := (w.drop 129).take 4, crc := w.getD 133 0 }
  if fld w 128 15 0 = 4 && r.typ = 0x0101 && rangesOk r && carouselOk r.payload && crc32c (recHead r :: r.payload) = r.crc then some r
  else none

/-- Step 3b: the Carousel enters ACQUIRE; with an unusable record it is not started, and step 4 refuses (log 41). -/
def State.startCarousel (s : State) : State :=
  match s.firstCarousel with
  | some r => { s with
      startup := { s.startup with image := [r] }, carousel := { st := .acquire, started := true, followed := .a } }
  | none => s

/-! ### Steps 4 and 5 (R75, R89, R90, R98, R296, R497) -/

/-- Each nib pins the kernels of the P0 laws of the active image in its kernel cache (R106). -/
def State.pinKernels (s : State) : State :=
  let code (r : List W32) : Nat := if bit r 0 25 then 1 else 0
  let codes := ((s.recs 0x0501).map code).eraseDups
  s.modArr fun a => { a with nibs := vmap (fun (x : Nib) => { x with cache := codes, pinned := codes.length }) a.nibs }

/-- The legs that the records give a role are IDLE (Table 5.6). -/
def State.idleLegs (s : State) : State :=
  { s with legs := { s.legs with
    legs := vmapIdx (fun i (l : Leg) => if s.legRole i = 0 then l else { l with st := .idle }) s.legs.legs } }

/-- The image is accepted (R98, R101, R106, R112, R135, R497). The refusal record of an earlier start is cleared: the spec does not
say how long it is kept (log 136). -/
def State.acceptImage (s : State) (h : ImageHdr) (rs : List Rec) (obs : ImageObs) : State :=
  let s := s.candidate h rs
  let ws := obs.kernelCycles
  let kept := rs.filter fun r => r.typ = 0x1001 || r.typ = 0x0A02
  let drives := rs.filter fun r => r.typ = 0x0C01 || r.typ = 0x0C02 || r.typ = 0x0D01
  let laws := s.recs 0x0501
  let homes := assignHomes (((List.range laws.length).zip ws).map fun x => ((s.homeByte x.1).1, (s.homeByte x.1).2, x.2))
    (List.replicate 32 0)
  let s : State := { s with
    startup := { s.startup with
      kept := some kept, refusal := none, revision := 0, revStamp := 0
      revHash := crc32c ((s.startup.oper).flatMap fun r => recHead r :: r.payload ++ [r.crc])
      loads := ((s.expandThermal.arrayLoads obs).map (· / 32768), s.latencyMargin ws) }
    drives := { s.drives with recs := drives }
    array := { s.array with homes, kernelW := ws, sizes := obs.kernelBlocks } }
  let s := s.pinKernels.idleLegs
  let s := s.raise .imageAccepted [h.imageSeq, h.recordsHash]
  match rs.find? fun r => r.typ = 0x0B01 with
  | none => s
  | some r =>
    let s := s.modSafety fun x => { x with sect := r.payload }
    if r.crc = s.safety.sealedCrc then s
    else
      let s := s.modSafety fun x => { x with sealedCrc := r.crc }
      (s.logChange 3 0 0 r.crc (sectionHash r)).raise .safetySectionActive [r.crc.toNat, fld r.payload 1 31 0]

/-- The revision stored in MRAM is applied, or discarded where it belongs to another image (R89, R90). -/
def State.takeStored (s : State) : State :=
  match s.startup.stored with
  | none => s
  | some v =>
    if v.recordsHash = s.startup.hdr.recordsHash then
      { s with startup := { s.startup with oper := v.recs, revision := v.number, revHash := v.hash } }
    else ({ s with startup := { s.startup with stored := none } }).raise .revisionDiscarded [v.number]

/-- Step 4: the image is read and checked. -/
def State.readImage (s : State) (obs : ImageObs) : State :=
  match s.checkBank s.startup.bank obs with
  | .error e => s.refuse e.1 e.2
  | .ok x => ((s.acceptImage x.1 x.2 obs).takeStored).stepDone .s4

/-- Step 5: the thermal model is expanded; a module whose image expects a partner begins pairing (R296, R580, log 32). -/
def State.expandStep (s : State) : State :=
  let s := s.expandThermal.stepDone .s5
  if s.startup.hdr.paired then s.modPair fun p => { p with st := .pairing } else s

/-! ### Service (step 9) -/

/-- Service begins (R91, R274, R483, R491, R518, R556, R591, R693). -/
def State.beginService (s : State) : State :=
  let s : State := { s with startup := { s.startup with mode := .service } }
  let s : State := { s.stepDone .s9 with buses := { s.buses with schedFrom := some s.stamp } }
  let s := s.raise .serviceStart [((s.time.clock - s.startup.auxRise) / ticksPerMs : Nat)]
  let s : State := { s with update := { s.update with served := (s.update.served.1, some s.time.clock) } }
  let s := if s.holds then s.modPair fun p => { p with driving := true, ringOut := true, decided := none, cold := false } else s
  let s := (s.lawsService).lostAtService
  let s := if s.legs.legsOff then s.inhibit else s
  ((((s.pumpsService).regsService).curtService).requestSo true).refreshLs

/-! ### The steps in order -/

/-- The steps that must be complete before a step can complete (Table 3.8). -/
def stepNeeds : Step → List Step
  | .s1 => []
  | .s2 => [.s1]
  | .s3a => [.s2]
  | .s3b => [.s3a]
  | .s3c => [.s3b]
  | .s4 => [.s3c]
  | .s5 => [.s4]
  | .s6 => [.s5]
  | .s7 => [.s3b]
  | .s8 => [.s6]
  | .s9 => [.s7, .s8]
  | .serviceWin => [.serviceWin]

/-- What a step does as it completes. Verification that fails leaves its step incomplete (R92). -/
def State.takeStep (s : State) (obs : ImageObs) : Step → State
  | .s1 => ({ s with supply := { s.supply with rails := .up } }).stepDone .s1
  | .s2 => s.leaveReset obs
  | .s3a => if s.manifestGood s.startup.bank obs .boot then s.stepDone .s3a else s
  | .s3b => s.startCarousel.stepDone .s3b
  | .s3c => if s.partsGood s.startup.bank then s.stepDone .s3c else s
  | .s4 => s.readImage obs
  | .s5 => s.expandStep
  | .s6 =>
    if s.startup.hdr.paired then s else s.settle .solo
  | .s7 => if s.carousel.running then s.stepDone .s7 else s
  | .s8 => s.scribeOpen.stepDone .s8
  | .s9 => s.beginService
  | .serviceWin => s

/-- START_STEP_COMPLETE (R91, R92): a step of Table 3.8 completes, or is refused where its latest time has passed; `obs` tells what
the boot world has verified. Step 6 of an image that expects a partner completes by PAIRING or PAIR_WIN_EXPIRY. -/
def execStartStepComplete (t : Nat) (step : Step) (obs : ImageObs) (s : State) : Out :=
  let s := s.advance t
  .next (if s.startup.mode = .starting && !s.isDone step && (stepNeeds step).all s.isDone then
    if s.stepLate step then s.refuseStep step else s.takeStep obs step
  else s)

/-! ### Bank revert (R97, R99) -/

/-- BANK_REVERT (R97, R99, R681): SERVICE alone; the other bank must pass steps 3 and 4. -/
def execBankRevert (t : Nat) (c : ConnNo) (obs : ImageObs) (s : State) : Out :=
  let s := s.advance t
  .next (s.op c (fun m => m = .refused || m = .held || m = .service) fun conn s =>
    let k := otherBank s.startup.bank
    if conn.role ≠ .service then s.answer c 1
    else if !s.update.inactiveValid || s.update.trial.isSome then s.answer c 4
    else if !s.bankGood k obs .ring then s.answer c 5 [0x23, noIndex]
    else
      match s.checkBank k obs with
      | .error e => s.answer c 5 [e.1, e.2]
      | .ok _ =>
        let served := if s.manifest k = s.activeManifest then s.update.served else (0, none)
        let s : State := { s with startup := { s.startup with bank := k }, update := { s.update with served } }
        let n : Int := match k with | .a => 0 | .b => 1
        (((s.raise .bankRevert [n]).answer c 0)).restart)

end Sys2Proof.Machine
end

