-- ==== Sys2Proof/Machine/Update.lean ====
section
/-!
DEFINITION. Firmware update (R678 to R697): the staging of packages piece by piece, arming, activation at a common boundary, the
trial and its end, the anti-rollback fuse and the legal release of the Scribe part. KIND 2 is `true` where a Bool names a kind.
-/
namespace Sys2Proof.Machine

open Sys2Proof.Config

/-- KIND as the tables number it. -/
def kindNum (k2 : Bool) : Int := if k2 then 2 else 1

def State.modUpdate (s : State) (f : Update → Update) : State := { s with update := f s.update }
def State.staging (s : State) (k2 : Bool) : Staging := if k2 then s.update.img else s.update.fw
def State.modStaging (s : State) (k2 : Bool) (f : Staging → Staging) : State :=
  s.modUpdate fun u => if k2 then { u with img := f u.img } else { u with fw := f u.fw }

/-- The bank that pieces are written to (R680). -/
def State.spare (s : State) : BankId := otherBank s.startup.bank

/-! ### Disarming, abandoning (R684, R688, R689, R697) -/

/-- The module disarms; plug-ins that were held proceed (R689). Causes: 0 disarm, 1 own preparation, 2 the partner's, 3 deadline,
4 newer header or abort, 5 PFAIL (log 42). -/
def State.disarm (s : State) (cause : Nat) : State :=
  if s.update.armed.isNone then s else
  let s := (s.modUpdate fun u => { u with armed := none }).raise .activationDisarmed [cause]
  (List.range 64).foldl (fun s i => if (s.outletDisp (i + 1)).waiting then s.plugIn (i + 1) else s) s

/-- The legal release lapses as its staging leaves READY (R695). -/
def State.lapse (s : State) (k2 : Bool) : State :=
  if !k2 && (s.staging k2).st = .ready then s.modUpdate fun u => { u with release := none } else s

/-- A staging in progress is abandoned (R684). -/
def State.abandon (s : State) (k2 : Bool) : State :=
  let x := s.staging k2
  if x.st = .empty || x.st = .header then s
  else ((s.lapse k2).modStaging k2 fun x => { hdrPieces := x.hdrPieces }).raise .updateAbandoned [kindNum k2, hdrPkg x.header]

/-! ### The header (R678, R679, R681) -/

/-- The largest length of each part (Table 17.6). -/
def partLimits : List Nat := [0x100000, 0x400000, 0x600000, 0x400000, 0x800000, 0x200000, 0x40000]

/-- Code 0x40: MAGIC, FORMAT, KIND, reserved bits and the fields that a kind keeps zero (log 42). -/
def pkgForm (h : List W32) (k2 : Bool) : Bool :=
  let zero (i n : Nat) : Bool := wide h i n = 0
  let hl := fld h 6 15 8
  fld h 0 31 0 = 0x59555031 && fld h 1 31 16 = 1 && fld h 1 15 8 = (if k2 then 2 else 1) && fld h 1 7 0 = 0 && fld h 2 13 0 = 0
    && fld h 4 15 0 = 0 && fld h 6 7 0 = 0 && !zero 7 2 && fld h 12 15 0 = 0 && zero 125 131
    && zero (256 + 12 * hl) (3840 - (256 + 12 * hl)) && zero 7992 200
    && (if k2 then fld h 4 31 24 = 0 && zero 5 1 && zero 13 112 && zero 3864 (7992 - 3864)
        else fld h 4 23 16 = 0 && zero 9 2 && (List.range 7).all fun i => fld h (13 + 16 * i) 15 0 = 0 && zero (16 + 16 * i) 1)

/-- Code 0x44: PIECES, HL_PIECES and parts (R678, R679). -/
def pkgSizes (h : List W32) (k2 : Bool) : Bool :=
  let p := hdrPieces h
  let parts := (List.range 7).map (partRange h)
  1 ≤ p && p ≤ (if k2 then 16384 else 8184) && hdrHl h = ceilDiv p 85
    && (k2 || (List.range 7).all fun i =>
      let x := parts.getD i (0, 0)
      fld h (13 + 16 * i) 31 24 = i + 1 && x.1 % 4096 = 0 && decide (1 ≤ x.2) && decide (x.2 ≤ partLimits.getD i 0)
        && decide (x.1 + x.2 ≤ p * 4096)
        && (parts.take i).all fun y => decide (y.1 + y.2 ≤ x.1) || decide (x.1 + x.2 ≤ y.1))

/-- Code 0x42: the signatures; `ok` says that they verify under the keys named. -/
def State.pkgSigned (s : State) (h : List W32) (k2 ok : Bool) : Bool × State :=
  if k2 then
    let slot := fld h 4 23 16
    (s.authority slot && (!s.proven || s.boundTo slot 3) && ok, s)
  else
    let a := s.useKey 2 .verify .update
    let b := a.2.useKey 3 .verify .update
    (a.1 && b.1 && ok, b.2)

/-- The first code a header fails with (R681). -/
def State.pkgCode (s : State) (h : List W32) (k2 signed : Bool) : Option Nat :=
  let x := s.staging k2
  let progress := x.st ≠ .empty && x.st ≠ .header
  if !pkgForm h k2 then some 0x40
  else if fld h 2 31 16 ≠ 0x6400 || !bit h 2 (if s.ident.orderN then 14 else 15) then some 0x41
  else if !signed then some 0x42
  else if (if k2 then s.ident.hubId ≠ 0 && hdrHub h ≠ s.ident.hubId else decide (hdrRollback h < s.update.fuse)) then some 0x43
  else if !pkgSizes h k2 then some 0x44
  else if progress && hdrVersion h ≤ hdrVersion x.header then some 0x45
  else if !k2 && hdrVersion h = hdrVersion s.activeManifest then some 0x46
  else none

/-- The header pieces held make the header. -/
def headerOf (l : List (Nat × List W32)) : List W32 :=
  (List.range 8).flatMap fun i => ((l.find? fun x => x.1 = i).map (·.2)).getD []

/-- Pages written one after another. -/
def State.writePages (s : State) (k : BankId) (p : Nat) (w : List W32) (n : Nat) : State :=
  (List.range n).foldl (fun (s : State) i => s.writePage k (p + i) ((w.drop (1024 * i)).take 1024)) s

/-- A header that passes begins a staging (R681, R684, R697). -/
def State.beginStaging (s : State) (k2 : Bool) (h : List W32) : State :=
  let s := (s.abandon k2).disarm 4
  let s := s.modStaging k2 fun _ => { st := .receiving, header := h, got := List.range 8 }
  let s := if k2 then s else s.writePages s.spare 0 h 8
  (s.modUpdate fun u => { u with inactiveValid := false }).raise .updateHeader [kindNum k2, hdrPkg h, 0]

/-- The eight header pieces are present (R681, R683, R684). -/
def State.takeHeader (s : State) (c : Caller) (k2 ok : Bool) : State :=
  let x := s.staging k2
  let h := headerOf x.hdrPieces
  let s := s.modStaging k2 fun x => { x with hdrPieces := [] }
  if x.st ≠ .empty && x.st ≠ .header && hdrPkg h = hdrPkg x.header then s.reply c 0 [x.got.length]
  else
    let form := (s.pkgCode h k2 true).all fun n => 0x42 ≤ n
    let v := if form then s.pkgSigned h k2 ok else (false, s)
    match v.2.pkgCode h k2 v.1 with
    | some code =>
      let s := v.2.modStaging k2 fun x => if x.st = .header then {} else x
      (s.raise .updateHeader [kindNum k2, hdrPkg h, code]).reply c 5 [code]
    | none => (v.2.beginStaging k2 h).reply c 0 [8]

/-! ### Pieces (R680, R682, R683) -/

/-- The page of the inactive bank that piece `i` of a package goes to (R680). -/
def piecePage (k2 : Bool) (hl i : Nat) : Nat :=
  if i < 8 + hl then (if k2 then 28672 else 24576) + (i - 8) else (if k2 then 8192 else 8) + (i - 8 - hl)

/-- The hash-list piece that a payload piece needs. -/
def hashPiece (hl i : Nat) : Option Nat := if i < 8 + hl then none else some (8 + (i - 8 - hl) / 85)

/-- The hash that a piece beyond the header must have (R682): of a hash-list piece its entry of HL_HASH, of payload piece j entry j
mod 85 of hash-list piece floor(j/85), which stands in the inactive bank. -/
def State.pieceHash (s : State) (k2 : Bool) (i : Nat) : Nat :=
  let h := (s.staging k2).header
  let hl := hdrHl h
  if i < 8 + hl then wide h (256 + 12 * (i - 8)) 12
  else
    let j := i - 8 - hl
    wide ((s.flash.bank s.spare).page (piecePage k2 hl (8 + j / 85))) (12 * (j % 85)) 12

/-- A piece beyond the header (R682, R683). -/
def State.takePiece (s : State) (c : Caller) (k2 : Bool) (i : Nat) (data : List W32) : State :=
  let x := s.staging k2
  let hl := hdrHl x.header
  let all_ := 8 + hl + hdrPieces x.header
  if x.st = .empty || x.st = .header then s.reply c 4
  else if all_ ≤ i then s.reply c 3
  else if x.got.contains i then s.reply c 0 [x.got.length]
  else if (hashPiece hl i).any fun k => !x.got.contains k then s.reply c 4
  else if sha384 data ≠ s.pieceHash k2 i then
    let s := s.modStaging k2 fun x => { x with bad := x.bad + 1 }
    let s := if x.bad + 1 = 64 then s.raise .updatePieceBad [kindNum k2, 64] else s
    s.reply c 3
  else
    let s := s.writePage s.spare (piecePage k2 hl i) data
    let s := s.modStaging k2 fun x =>
      { x with got := x.got ++ [i], st := if x.got.length + 1 = all_ then .checking else x.st }
    s.reply c 0 [x.got.length + 1]

/-- A piece takes effect (R680 to R684): `sigOk` says, of the piece that completes a header, that its signatures verify. -/
def State.opPiece (s : State) (c : Caller) (piece : Nat) (data : List W32) (sigOk : Bool) : State :=
  let k2 : Bool := decide (32768 ≤ piece)
  let i := piece % 32768
  if 8 ≤ i then s.takePiece c k2 i data
  else
    let s := s.modStaging k2 fun x =>
      { x with st := if x.st = .empty then .header else x.st, hdrPieces := aput x.hdrPieces i data }
    let n := (s.staging k2).hdrPieces.length
    if n = 8 then s.takeHeader c k2 sigOk else s.reply c 0 [n]

/-- UPDATE_PIECE (R97, R680 to R684). Where no record of rights exists, every client may send pieces (R98). -/
def execUpdatePiece (t : Nat) (c : ConnNo) (piece : Nat) (data : List W32) (sigOk : Bool) (s : State) : Out :=
  let s := s.advance t
  .next (s.op c (fun m => m = .refused || m = .held || m = .service) fun conn s =>
    if s.rightsRec.isSome && !(conn.role = .operator || conn.role = .service || conn.role = .vendor) then s.answer c 1
    else if data.length ≠ 1024 || 65535 < piece then s.answer c 3
    else s.request c conn (.updatePiece piece data sigOk) fun c s => s.opPiece c piece data sigOk)

/-- The manifest a staged image would run with (R686, R687). -/
def State.nextManifest (s : State) : List W32 :=
  if s.update.fw.st = .ready then s.update.fw.header else s.activeManifest

/-- The code of a failed check of a staging (R686): of KIND 1 that a part fails its hash, of KIND 2 the first of the checks of
Table 3.6. Check 0x09 is made with the Scribe part in force (log 42). -/
def State.stagedCode (s : State) (k2 : Bool) (obs : ImageObs) : Option Nat :=
  if k2 then
    match s.checkImage (s.flash.bank s.spare) s.nextManifest (hdrPartHash s.activeManifest 6) obs with
    | .error e => some e.1
    | .ok _ => none
  else if (List.range 7).all ((s.flash.bank s.spare).partGood (s.staging false).header) then none else some 0x23

/-- UPDATE_CHECK_DONE (R685, R686): the last missing piece has come and the staged package has been checked. -/
def execUpdateCheckDone (t : Nat) (k2 : Bool) (obs : ImageObs) (s : State) : Out :=
  let s := s.advance t
  let x := s.staging k2
  .next (if x.st ≠ .checking then s else
    match s.stagedCode k2 obs with
    | some code => (s.modStaging k2 fun x => { x with st := .failed }).raise .updateFailed [kindNum k2, code]
    | none => (s.modStaging k2 fun x => { x with st := .ready }).raise .updateReady [kindNum k2, hdrPkg x.header])

/-- A staging is abandoned on request (R684, R697). -/
def State.opAbort (s : State) (c : Caller) (k2 : Bool) : State :=
  match (s.staging k2).st with
  | .empty => s.reply c 4
  | .header => (s.modStaging k2 fun _ => {}).reply c 0
  | _ => ((s.abandon k2).disarm 4).reply c 0

/-- UPDATE_ABORT (R684, R697). -/
def execUpdateAbort (t : Nat) (c : ConnNo) (k2 : Bool) (s : State) : Out :=
  .next ((s.advance t).change c (dev 146 3 0) .execute (.updateAbort k2) fun c s => s.opAbort c k2)

/-! ### Arming (R687, R688) -/

/-- The metrology records of the image staged (R687). -/
def State.stagedRecs (s : State) : List Rec :=
  let f := s.flash.bank s.spare
  match framing (imageArea f (hdrOf (imageHeader f)).imageLen) (hdrOf (imageHeader f)).recordCount with
  | .ok rs => rs
  | .error _ => []

def isMetrology (r : Rec) : Bool := r.typ = 0x0901 || r.typ = 0x0902

/-- Part 6 of the staged firmware set differs from the active one and has no matching release, on an FP-6400-M (R695). -/
def State.unreleased (s : State) : Bool :=
  let p := hdrPartHash s.update.fw.header 6
  s.update.fw.st = .ready && !s.ident.orderN && p ≠ hdrPartHash s.activeManifest 6
    && s.update.release ≠ some (p, hdrLegal s.update.fw.header)

/-- Arming is refused (R687). -/
def State.armRefused (s : State) : Bool :=
  let img := s.update.img.st = .ready
  (s.update.fw.st ≠ .ready && !img) || s.startup.pendingRev.isSome
    || (s.startup.hdr.paired && !((s.pair.st = .holder && s.standbyFit && s.pair.degraded.isEmpty) ||
        (s.pair.st = .standby && s.pair.degraded.isEmpty && s.pair.beat.any fun b => b.1.state = .holder && !b.1.degraded)))
    || s.unreleased
    || (img && s.scribe.seal_ = .sealed &&
        s.stagedRecs.filter isMetrology ≠ s.startup.image.filter isMetrology)
    || (img && hdrVersion s.nextManifest < (hdrOf (imageHeader (s.flash.bank s.spare))).minManifest)

/-- The module is armed (R687, R688): arming again replaces the armed state. -/
def State.opArm (s : State) (c : Caller) (deadlineMin drain : Nat) : State :=
  if deadlineMin < 1 || 10080 < deadlineMin || 1 < drain then s.reply c 3
  else if s.armRefused then s.reply c 4
  else
    let a : Armed := { deadline := s.time.clock + deadlineMin * 60 * ticksPerSec, drain := drain = 1 }
    ((s.modUpdate fun u => { u with armed := some a }).raise .activationArmed [deadlineMin, drain]).reply c 0

/-- ARM (R687, R688). -/
def execArm (t : Nat) (c : ConnNo) (deadlineMin drain : Nat) (s : State) : Out :=
  .next ((s.advance t).change c (dev 146 2 0) .execute (.arm deadlineMin drain) fun c s => s.opArm c deadlineMin drain)

/-- The module is disarmed on request (Table 17.13). -/
def State.opDisarm (s : State) (c : Caller) : State :=
  if s.update.armed.isNone then s.reply c 4 else (s.disarm 0).reply c 0

/-- DISARM (Table 17.13). -/
def execDisarm (t : Nat) (c : ConnNo) (s : State) : Out :=
  .next ((s.advance t).change c (dev 146 2 0) .execute .disarm fun c s => s.opDisarm c)

/-- The pages of one flash from `p` to before `q` replaced by those of another. -/
def Flash.copyPages (f g : Flash) (p q : Nat) : Flash :=
  f.filter (fun x => x.1 < p) ++ g.filter (fun x => p ≤ x.1 && x.1 < q) ++ f.filter fun x => q ≤ x.1

/-- A bank replaced whole. -/
def State.putBank (s : State) (k : BankId) (f : Flash) : State :=
  { s with flash := match k with | .a => { s.flash with a := f } | .b => { s.flash with b := f } }

/-- The set that is not staged is copied into the inactive bank (R688, Table 3.1). -/
def State.prepare (s : State) : State :=
  let own := s.flash.bank s.startup.bank
  let f := s.flash.bank s.spare
  let f := if s.update.fw.st = .ready then f else f.copyPages own 0 8192
  let f := if s.update.img.st = .ready then f else f.copyPages own 8192 24576
  s.putBank s.spare f

/-- ARM_PREPARE_DONE (R688): a module has prepared its inactive bank and verified it as steps 3 and 4 would, or has
failed: the partner with its report, this module (no report of the partner) with what the boot world finds. -/
def execArmPrepareDone (t : Nat) (partner : Option Bool) (obs : ImageObs) (s : State) : Out :=
  let s := s.advance t
  .next (match s.update.armed with
    | none => s
    | some a => match partner with
      | none =>
        let s := s.prepare
        if s.bankGood s.spare obs .ring && (s.checkBank s.spare obs).isOk then
          s.modUpdate fun u => { u with armed := some { a with own := some true } }
        else s.disarm 1
      | some pass =>
        if pass then s.modUpdate fun u => { u with armed := some { a with partner := some true } } else s.disarm 2)

/-- The deadline has passed: the module disarms, where no activation boundary is named (R689). -/
def State.passDeadline (s : State) : State :=
  match s.update.armed with
  | some a => if a.boundary.isNone then s.disarm 3 else s
  | none => s

/-- An activation boundary is named by an entry that has not taken effect. -/
def State.boundaryComing (s : State) : Bool :=
  s.pair.journal.any fun e => match e.input with | some (.activationBoundary _) => true | _ => false

/-- ACTIVATION_DEADLINE (R689, R697): the arc of the deadline is over while no activation boundary is named; a quiet boundary in that arc
wins. -/
def execActivationDeadline (t : Nat) (s : State) : Out :=
  let s := s.advance t
  .next (match s.update.armed with
    | some a =>
      if a.deadline < s.time.clock && a.boundary.isNone && !s.boundaryComing && s.stampOf (a.deadline - s.time.tick0) < s.stamp then
        s.submit .activationDeadline (·.passDeadline)
      else s
    | none => s)

/-! ### The activation boundary (R689, R690) -/

/-- The hub is quiet (R689). -/
def State.hubQuiet (s : State) : Bool :=
  s.barker.ctxs.toList.all (fun (x : Ctx) => x.st = .free || x.st = .setup || x.st = .auth)
    && s.juggler.matrix.toList.all fun (m : Matrix) => m.st = .free

/-- Both modules have reported a pass. -/
def State.prepared (s : State) (a : Armed) : Bool :=
  a.own = some true && (!s.startup.hdr.paired || a.partner = some true)

/-- The package staged, where it is READY. -/
def State.readyPkg (s : State) (k2 : Bool) : Nat :=
  if (s.staging k2).st = .ready then hdrPkg (s.staging k2).header else 0

/-- The power die holds outputs, pumps and regulators while the logic die is in reset (R690). -/
def State.holdForTrial (s : State) : State :=
  let now := s.time.clock
  let s := s.modSafety fun x => { x with orphan := some now, orphanAct := true, resetUntil := some now }
  ((((s.orphanPumps.restartDrives true).regsOff true).logicReset).react).refreshLs

/-- The activation boundary (R690). -/
def State.activate (s : State) (boundary : Nat) : State :=
  let s := s.raise .activationStart [boundary, s.readyPkg false, s.readyPkg true]
  let s := (List.range 128).foldl (fun s c => s.endCtx c 3) s
  let s := if s.scribe.open_ then s.scribeCommit else s
  let s := s.modUpdate fun u =>
    { u with trial := some s.startup.bank, trialKinds := (u.fw.st = .ready, u.img.st = .ready), trialPartner := none }
  let s : State := { s with startup := { s.startup with bank := s.spare } }
  s.holdForTrial

/-- The activation boundary is named (R689). -/
def State.nameBoundary (s : State) (b : Nat) : State :=
  s.modUpdate fun u => { u with armed := u.armed.map fun a => { a with boundary := some b } }

/-- The armed state at a half-turn boundary (R689): a quiet boundary names the activation boundary 10 half-turns later; at the
named one the activation takes place if the hub is quiet. The holder names it; both modules take it at its EFFECT stamp. -/
def State.activationHalf (s : State) : State :=
  match s.update.armed with
  | none => s
  | some a =>
    let here := s.stamp
    match a.boundary with
    | none =>
      let b := here + 10 * 32768
      if s.hubQuiet && s.prepared a then s.submit (.activationBoundary b) (·.nameBoundary b) else s
    | some b =>
      if here < b then s
      else if s.hubQuiet then s.activate b
      else s.modUpdate fun u => { u with armed := some { a with boundary := none } }

/-! ### The trial (R691, R692, R694, R696) -/

/-- The log of activations keeps 16 (Table 17.13). -/
def State.logActivation (s : State) (result : Nat) : State :=
  let e : ActivationRec :=
    { pkg1 := if s.update.trialKinds.1 then s.readyPkg false else 0, pkg2 := if s.update.trialKinds.2 then s.readyPkg true else 0
      result, tick := s.tick }
  s.modUpdate fun u => { u with log := (e :: u.log).take 16 }

/-- Parts whose SETTINGS_FMT differs between two manifests. -/
def settingsChanged (old new : List W32) : List Nat :=
  ((List.range 7).map (· + 1)).filter fun n => hdrSettings old n ≠ hdrSettings new n

/-- A part differs between two manifests. -/
def partsChanged (old new : List W32) : Bool :=
  (List.range 7).any fun i => hdrPartHash old (i + 1) ≠ hdrPartHash new (i + 1)

/-- The activation completes (R691, R694, R696). -/
def State.finishTrial (s : State) (old : BankId) : State :=
  let mOld := s.manifest old
  let mNew := s.activeManifest
  let s := s.logActivation 0
  let s := s.raise .activationDone [hdrVersion mNew, s.startup.hdr.imageSeq]
  let s := (settingsChanged mOld mNew).foldl (fun (s : State) n => s.raise .settingsReset [n]) s
  let s := if partsChanged mOld mNew then s.countTamper 12 else s
  let p6 := hdrPartHash mNew 6
  let s := match s.update.release with
    | some (p, v) =>
      if p = p6 && s.scribe.seal_ = SealState.sealed then
        let h := s.metroHash p6
        (s.modScribe fun x => { x with sealHash := some h }).metLogAdd .scribePart none h v
      else s
    | none => s
  s.modUpdate fun u =>
    { u with
      trial := none, trialPartner := none, trialKinds := (false, false), inactiveValid := true, fw := {}, img := {}, release := none
      served := if mOld = mNew then u.served else (0, none) }

/-- ACTIVATION_DONE (R691): step 6 is complete on the trial bank and, for an image that expects a partner, the partner has reported
its pass. -/
def execActivationDone (t : Nat) (partnerPass : Bool) (s : State) : Out :=
  let s := s.advance t
  .next (match s.update.trial with
    | none => s
    | some old =>
      let s := if partnerPass then s.modUpdate fun u => { u with trialPartner := some true } else s
      if s.isDone .s6 && (!s.startup.hdr.paired || s.update.trialPartner = some true) then s.finishTrial old else s)

/-- The first step of Table 3.8 that has not completed, by its place in the table from 1. -/
def State.stepReached (s : State) : Nat :=
  ([Step.s1, .s2, .s3a, .s3b, .s3c, .s4, .s5, .s6, .s7, .s8, .s9].findIdx fun x => !s.isDone x) + 1

/-- A restart while the power die goes on holding its outputs (R690, R692). -/
def State.restartHeld (s : State) : State :=
  if !s.safety.orphanAct then s.restart
  else
    let s := ((s.restartDrives true).regsOff true).logicReset
    ((s.modSafety fun x => { x with resetUntil := some s.time.clock }).react).refreshLs

/-- The marker goes back to the old bank, and the module restarts (R692). -/
def State.revertTrial (s : State) (old : BankId) (module_ : Nat) : State :=
  let s := s.logActivation 1
  let step := s.stepReached
  let s := s.modUpdate fun u =>
    { u with
      trial := none, trialPartner := none, trialKinds := (false, false), revertDue := some (module_, step), release := none
      fw := if u.fw.st = .ready then {} else u.fw, img := if u.img.st = .ready then {} else u.img }
  let s : State := { s with startup := { s.startup with bank := old } }
  s.restartHeld

/-- ACTIVATION_REVERTED (R692): the module has failed a step in trial, the partner has not reported a pass within PAIR_WIN of this
module's step 6, or the partner has reverted. -/
def execActivationReverted (t : Nat) (partnerReverted : Bool) (s : State) : Out :=
  let s := s.advance t
  .next (match s.update.trial with
    | none => s
    | some old =>
      let late : Bool := match s.startup.done.find? fun x => x.1 = .s6 with
        | some x => s.startup.hdr.paired && s.update.trialPartner ≠ some true && decide (x.2 + s.pairWin < s.tick)
        | none => false
      if partnerReverted then s.revertTrial old 1
      else if s.startup.mode = .refused || late then s.revertTrial old 0
      else s)

/-! ### Anti-rollback and the legal release (R693, R695) -/

/-- Ticks of service on the active manifest (R693). -/
def State.servedTicks (s : State) : Nat :=
  s.update.served.1 + (match s.update.served.2 with | some a => s.time.clock - a | none => 0)

/-- The fuse counter advances to the active manifest's ROLLBACK. -/
def State.blowFuse (s : State) : State :=
  let r := hdrRollback s.activeManifest
  if s.update.fuse < r then (s.modUpdate fun u => { u with fuse := r }).raise .rollbackAdvanced [r] else s

/-- ROLLBACK_ADVANCED (R693): after 7 days of service. -/
def execRollbackAdvanced (t : Nat) (s : State) : Out :=
  let s := s.advance t
  .next (if s.startup.mode = .service && 7 * 86400 * ticksPerSec ≤ s.servedTicks then s.blowFuse else s)

/-- The fuse counter advances on request (R693). -/
def State.opRollback (s : State) (c : Caller) : State := s.blowFuse.reply c 0

/-- ROLLBACK_COMMIT (R693, R698). -/
def execRollbackCommit (t : Nat) (c : ConnNo) (s : State) : Out :=
  .next ((s.advance t).change c (dev 146 5 0) .execute .rollbackCommit fun c s => s.opRollback c)

/-- A legal release of the part 6 and LEGAL_VER of the KIND 1 package that is READY (R386, R695). -/
def State.opLegal (s : State) (c : Caller) (partHash legalVer : Nat) : State :=
  let h := s.update.fw.header
  if s.update.fw.st ≠ .ready then s.reply c 4
  else if partHash ≠ hdrPartHash h 6 || legalVer ≠ hdrLegal h then s.reply c 3
  else
    let s := s.modUpdate fun u => { u with release := some (partHash, legalVer) }
    let s := s.metLogAdd .scribePart (some c.role) partHash legalVer
    (s.raise .legalRelease [legalVer, (partHash / 2 ^ 320 : Nat)]).reply c 0

/-- LEGAL_RELEASE (R386, R695): the object is absent on an FP-6400-N. -/
def execLegalRelease (t : Nat) (c : ConnNo) (partHash legalVer : Nat) (s : State) : Out :=
  let s := s.advance t
  .next (if s.ident.orderN then s.guarded c (dev 146 4 0) .execute fun _ s => s.answer c 2
    else s.change c (dev 146 4 0) .execute (.legalRelease partHash legalVer) fun c s => s.opLegal c partHash legalVer)

end Sys2Proof.Machine
end

