-- ==== Sys2Proof/Machine/Life.lean ====
section
/-!
DEFINITION. The life cycle (R669 to R672) and the attestation statement (R673, R674).
-/
namespace Sys2Proof.Machine

open Sys2Proof.Config

/-- The attribute word of slot 4 (Table 17.2): ECDSA P-384, sign, Scribe, firmware world, COMMISSIONED and SERVICE, metering, FIXED,
EXPORT_PUB. -/
def meteringAttr : W32 := 0x38089960#32

/-- The Scribe opens for the first time (R670): Scribe time, registers, generation zero, change counter 1. -/
def State.firstOpen (s : State) : State :=
  let s := s.modScribe fun x =>
    { x with open_ := true, core := {}, copies := [], sums := Vector.replicate 64 {}, tariff := s.defaultTariff }
  let s := s.modTokens fun _ => {}
  ((s.startInterval [] s.wallSec).boundaries).scribeCommit

/-- COMMISSION (R670). -/
def execCommission (t : Nat) (c : ConnNo) (hubId partner : Nat) (s : State) : Out :=
  let s := s.advance t
  .next (s.guarded c (dev 145 6 0) .execute fun _ s =>
    if s.ident.life ≠ .provisioned then s.answer c 4
    else if hubId ≠ s.startup.hdr.hubId || ((partner = 0) == s.startup.hdr.paired) then s.answer c 3
    else
      let s := s.modSlot 4 fun _ => { attr := meteringAttr, kcv := meteringKcv s.ident.serial }
      let s : State := { s with ident := { s.ident with hubId, partnerSerial := partner, partnerHash := none } }
      (s.firstOpen.setLife .commissioned).answer c 0)

/-- RETIRE (R672): with the module's own serial as its value. -/
def execRetire (t : Nat) (c : ConnNo) (serial : Nat) (s : State) : Out :=
  let s := s.advance t
  .next (s.guarded c (dev 145 7 0) .execute fun _ s =>
    if serial ≠ s.ident.serial then s.answer c 3
    else if s.ident.life = .manufacture || s.ident.life = .retired then s.answer c 4
    else
      let s : State := { s with keys := { s.keys with slots := Vector.replicate 64 {} } }
      ((s.setLife .retired).answer c 0).restart)

/-! ### The attestation statement -/

/-- The metering public key is there (Table 17.5). -/
def State.meterPub (s : State) : Nat := if attrType (s.slot 4).attr = 0 then 0 else meteringPublic s.ident.serial

/-- The header and record area of the active image. -/
def State.activeImage (s : State) : List W32 :=
  (s.flash.bank s.startup.bank).words 8192 (128 + s.startup.hdr.imageLen / 4)

/-- Records as they stand in an image, framed (R70). -/
def serialised (rs : List Rec) : List W32 := rs.flatMap fun r => recHead r :: r.payload ++ [r.crc]

/-- Words 0 to 201 of the statement (Table 17.5). -/
def State.attestBody (s : State) (nonce : List Byte) : List W32 :=
  let m := s.activeManifest
  let id := s.ident
  let flag (b : Bool) (n : Nat) : Nat := if b then 2 ^ n else 0
  let w1 := 9214 * 65536 + lifeNum id.life * 4096 + flag id.orderN 11 + flag (s.pair.st = .holder || s.pair.st = .standby) 10
    + flag (!s.pair.degraded.isEmpty) 9 + flag (s.scribe.seal_ = .sealed) 8 + nonce.length
  [u32 0x59415431, u32 w1] ++ u64 id.serial ++ u64 id.hubId ++ wordsOf 12 (identityHash 0 id.serial)
    ++ wordsOf 12 (identityHash 1 id.serial) ++ wordsOf 24 s.meterPub ++ [u32 (hdrVersion m), u32 (hdrLegal m)]
    ++ (List.range 7).flatMap (fun i => wordsOf 12 (hdrPartHash m (i + 1))) ++ wordsOf 12 (sha384 s.activeImage)
    ++ [u32 s.startup.revision] ++ wordsOf 12 (sha384 (serialised s.startup.oper)) ++ u64 id.partnerSerial
    ++ wordsOf 12 (id.partnerHash.getD 0) ++ [u32 (s.update.fuse * 2 ^ 24 + hdrRollback m * 2 ^ 16)]
    ++ u64 (s.wallRaw * 65536 + (if s.wall.valid then 1 else 0)) ++ u64 (s.scribeTime * 2 ^ 24) ++ u64 s.tick
    ++ (List.range 16).map (wordOfBytes nonce)

/-- The signature of one identity key over words 0 to 201; zero where the key unit refuses (R658, R674). -/
def State.attestSign (s : State) (slot : Nat) (body : List W32) : Nat × State :=
  let u := s.useKey slot .sign .ring
  (if u.1 then signature slot body else 0, u.2)

/-- ATTEST (R451, R673, R674): any role, in every mode; the response carries words 0 to 201, then the two signatures as one number
each. -/
def execAttest (t : Nat) (c : ConnNo) (nonce : List Byte) (s : State) : Out :=
  let s := s.advance t
  .next (s.op c always fun _ s =>
    if nonce.length < 16 || 64 < nonce.length then s.answer c 3
    else
      let body := s.attestBody nonce
      let a := s.attestSign 0 body
      let b := a.2.attestSign 1 body
      b.2.answer c 0 (body.map (fun w => (w.toNat : Int)) ++ [(a.1 : Int), (b.1 : Int)]))

end Sys2Proof.Machine
end

