-- ==== Sys2Proof/Machine/PowerCmd.lean ====
section
/-!
DEFINITION. The supply (R566 to R575): power-up, rail faults, AUX_IN and PFAIL, die temperatures, and the release of the logic die
from its reset (R490). Voltages of AUX_IN are in 0.1 V.
-/
namespace Sys2Proof.Machine

open Sys2Proof.Config

def State.modSupply (s : State) (f : Supply → Supply) : State := { s with supply := f s.supply }

/-! ### Up and down (R567, R569, R571, R573) -/

/-- The start sequence begins with the rails (R91, R567). -/
def State.startPower (s : State) : State :=
  let s := s.modSupply fun x => { x with rails := .off, pfail := none }
  let s := s.modSafety fun x => { x with resetUntil := none }
  { s with startup := { s.startup with mode := .starting, auxRise := s.time.clock, done := [] } }

/-- What the power die keeps without its supply: its non-volatile cells (R487, R495, R497, R498, R573, R578). -/
def State.dieOff (s : State) : State :=
  let fns := vmapIdx (fun (n : Nat) (x : SafeFn) =>
    ({ degraded := x.degraded, minutes := s.degradedTicks n / (60 * ticksPerSec), minuteAt := s.time.clock } : SafeFn)) s.safety.fns
  { s with
    safety :=
      { sealedCrc := s.safety.sealedCrc, fns, password := s.safety.password, log := s.safety.log, entryNo := s.safety.entryNo
        legsOwn := s.safety.legsOwn, legsPartner := s.safety.legsPartner, pausePartner := s.safety.pausePartner }
    drives :=
      { pumps := vmap (fun (x : Pump) => ({ hall := x.hall, hallAt := x.hallAt } : Pump)) s.drives.pumps
        ls := vmap (fun (x : LoadSw) => ({ input := x.input } : LoadSw)) s.drives.ls }
    supply := { auxIn := s.supply.auxIn, holdup := s.supply.holdup, holdupDue := s.supply.holdupDue, railCount := s.supply.railCount } }

/-- The rails are sequenced down: every output in its reset state, the logic die without supply, orphan mode over; below 16.5 V the
power die stops too (R569, R571, R575). -/
def State.powerDown (s : State) (aux : Nat) : State :=
  let now := s.time.clock
  let s := s.modSupply fun x =>
    { x with auxIn := aux, pfail := none
             holdup := match x.pfail with | some a => some ((now - a) / ticksPerMs) | none => x.holdup
             holdupDue := x.pfail.isSome || x.holdupDue }
  let s := s.modSafety fun x => { x with orphan := none, orphanAct := false, orphanOut := false, resetUntil := none }
  let s := (((s.requestSo false).restartDrives false).regsOff false).logicReset
  let s := s.modSupply fun x => { x with rails := if x.rails = .latched then .latched else .off }
  let s := if aux < 165 then s.dieOff else s
  s.react.refreshLs

/-- POWER_UP (R91, R569): AUX_IN rises above 18 V. -/
def execPowerUp (t volts10 : Nat) (s : State) : Out :=
  let s := s.advance t
  .next (if 180 < volts10 && s.startup.mode = .off && s.supply.rails = .off && !s.supply.hotShut && s.safety.resetUntil.isNone then
    let s := if s.powerDie then s else s.modSafety fun x =>
      { x with dieAt := s.time.clock, fns := vmap (fun (y : SafeFn) => { y with minuteAt := s.time.clock }) x.fns }
    ((s.modSupply fun x => { x with auxIn := volts10 }).startPower).react
  else s)

/-- AUX_IN_LOW (R569): below 16.5 V. Without a PFAIL before it the Scribe keeps what it committed last. -/
def execAuxInLow (t volts10 : Nat) (s : State) : Out :=
  let s := s.advance t
  .next (if volts10 < 165 && s.powerDie then s.powerDown volts10 else s)

/-- PFAIL (R411, R570, R571, R697): asserted for 50 us at the ball or by AUX_IN below 17.0 V. -/
def execPfail (t ballUs auxLowUs : Nat) (s : State) : Out :=
  let s := s.advance t
  .next (if (50 ≤ ballUs || 50 ≤ auxLowUs) && s.powerDie && s.supply.pfail.isNone then
    let s := s.modSupply fun x => { x with pfail := some s.time.clock }
    s.scribePfail.disarm 5
  else s)

/-- PFAIL_POWER_DOWN (R571): 10 ms after the assertion, or with AUX_IN below 16.5 V before; the module starts again where AUX_IN
stands above 18 V. -/
def execPfailPowerDown (t aux : Nat) (s : State) : Out :=
  let s := s.advance t
  .next (match s.supply.pfail with
    | none => s
    | some a =>
      if a + 10 * ticksPerMs ≤ s.time.clock || aux < 165 then
        let s := s.powerDown aux
        if 180 < aux && s.supply.rails = .off && !s.supply.hotShut then s.startPower else s
      else s)

/-! ### Module rails (R568) -/

/-- RAIL_FAULT (R568, R575): a rail outside 5 % of its OTP voltage for 100 us, or in hiccup; the third within 60 s latches the rails
off. -/
def execRailFault (t : Nat) (rail : Fin 4) (mV us : Nat) (hiccup : Bool) (s : State) : Out :=
  let s := s.advance t
  let live := s.supply.rails = .up || (s.supply.rails = .off && s.startup.mode = .starting)
  .next (if (((railOtp rail.val).outside 50 mV && 100 ≤ us) || hiccup) && live && s.powerDie && s.supply.pfail.isNone then
    let now := s.time.clock
    let l := now :: s.supply.railFaults.filter fun x => now < x + 60 * ticksPerSec
    let s := s.modSupply fun x =>
      { x with rails := if 3 ≤ l.length then .latched else .faultWait, railFaults := l, railCount := x.railCount + 1 }
    let s := (s.enterOrphan).modSafety fun x => { x with resetUntil := none }
    s.raise .railFault [rail.val, s.supply.railCount]
  else s)

/-- No controller of a module rail has its thermal latch set (R563, R564). -/
def State.railsCool (s : State) : Bool := (List.range 4).all fun k => !vget s.supply.alarms (10 + k) false

/-- RAIL_RESTART (R568): 100 ms after the rail fault the sequence starts again; a thermal latch of a rail's controller holds it (R564). -/
def execRailRestart (t : Nat) (s : State) : Out :=
  let s := s.advance t
  .next (match s.supply.railFaults with
    | a :: _ => if s.supply.rails = .faultWait && s.railsCool && a + 100 * ticksPerMs ≤ s.time.clock then s.startPower else s
    | [] => s)

/-- LOGIC_DIE_RESTART (R490, R672, R690, R692): the power die releases the logic die from reset, and the module restarts from step 2;
the times of Table 3.8 run as if step 1 had just completed at its latest. -/
def execLogicDieRestart (t : Nat) (s : State) : Out :=
  let s := s.advance t
  .next (match s.safety.resetUntil with
    | some e =>
      if e ≤ s.time.clock && s.supply.rails = .up && s.startup.mode = .off then
        let s := s.modSafety fun x => { x with resetUntil := none }
        { s with startup := { s.startup with
          mode := .starting, auxRise := s.time.clock - 30 * ticksPerMs, done := [(.s1, s.tick)] } }
      else s
    | none => s)

/-! ### Die temperatures (R574) -/

/-- Warning, its clearing, and alarm thresholds of a sensor in degC (Table 14.5). -/
def dieLimits (n : Nat) : Int × Int × Int :=
  if n < 8 then (110, 100, 125) else if n = 8 then (100, 90, 115) else if n = 9 then (140, 130, 160) else (135, 120, 150)

/-- The power die shuts down at its central alarm, and restarts the module below the warning threshold (Table 14.5). -/
def State.hotPower (s : State) (degC : Int) : State :=
  if 160 ≤ degC && !s.supply.hotShut then
    ((s.modSupply fun x => { x with hotShut := true }).powerDown s.supply.auxIn)
  else if degC < 140 && s.supply.hotShut then
    let s := (s.modSupply fun x => { x with hotShut := false }).react
    if 180 < s.supply.auxIn && s.supply.rails = .off then s.startPower else s
  else s

/-- The event of a die-temperature warning that begins or ends: REG_THERMAL for the fixed regulators, TEMP_WARN for the others
(R574). -/
def State.dieWarn (s : State) (n : Nat) (degC : Int) (was : Bool) : State :=
  let now := vget s.supply.warns n false
  if now = was then s
  else if 10 ≤ n then s.raise .regThermal [n - 10, degC, ofBool now] else s.raise .tempWarn [n, degC, ofBool now]

/-- One reading. Sensors of BUCK_4 and BUCK_5 act as R563; those of BUCK_0 to BUCK_3 raise its events, and their alarm is the
thermal latch, which clears below 135 degC. -/
def State.dieTemp (s : State) (n : Nat) (degC : Int) : State :=
  let lim := dieLimits n
  let warn := vget s.supply.warns n false
  let alarm := vget s.supply.alarms n false
  let s := s.modSupply fun x =>
    { x with
      temps := vput x.temps n degC
      warns := vput x.warns n (if warn then decide (lim.2.1 ≤ degC) else decide (lim.1 ≤ degC))
      alarms := vput x.alarms n (decide (lim.2.2 ≤ degC) || (10 ≤ n && alarm && decide (135 ≤ degC))) }
  if 14 ≤ n then s.regTemp (n - 14) degC
  else
    let s := s.dieWarn n degC warn
    if n < 10 then
      let s := if lim.2.2 ≤ degC && !alarm then
          let s := s.raise .tempAlarm [n, degC]
          if n < 9 then s.degrade 2 else s
        else s
      if n = 9 then s.hotPower degC else s
    else s

/-- DIE_TEMP_MONITOR (R563, R574): sensors 0 to 7 logic die, 8 memory die, 9 power die centre, 10 to 15 BUCK_0 to BUCK_5. -/
def execDieTempMonitor (t : Nat) (r : TempReadings) (s : State) : Out :=
  let s := s.advance t
  .next (r.foldl (fun (s : State) x =>
    if s.powerDie && (9 ≤ x.1.val || s.startup.mode ≠ .off) then s.dieTemp x.1.val x.2 else s) s)

end Sys2Proof.Machine
end

