-- ==== Sys2Proof/Machine/Inputs.lean ====
section
/-!
DEFINITION. The inputs of the Juggler (Table 7.2), the ink point, and the object-port commands on curtailment, matrix, legs, laws
and the node view.
-/
namespace Sys2Proof.Machine

open Sys2Proof.Config

/-! ### Table 7.2 -/

/-- The context whose requests an outlet shows: the one with the delivering flag, or else one in SETUP to ENDING. -/
def State.outletCtx (s : State) (o : Nat) : Nat :=
  match (ctxsOf o).find? fun c => (s.bctx c).deliver with
  | some c => c
  | none =>
    ((ctxsOf o).find? fun c => (s.bctx c).st.running || (s.bctx c).st = .ending).getD ((ctxsOf o).headD 0)

/-- V_o of an outlet in 0.1 V (R248). -/
def State.vOf (s : State) (o : Nat) : Nat :=
  let attached := (List.range 16).any fun g => (s.matrix g).st = .attached && (s.matrix g).outlet = o
  max s.policy.vCalcMin
    (if attached then s.outletVoltage o else ((s.bctx (s.outletCtx o)).presentV).getD 0)

/-- What the Juggler takes of an outlet. -/
def State.outletIn (s : State) (o : Nat) : OutletIn :=
  let c := s.outletCtx o
  let x := s.bctx c
  { deliver := x.deliver, safety := s.safetyPause o, pReq := x.req.2.1, iReq := x.req.1, vMax := x.req.2.2
    vo := s.vOf o, ctx := c }

/-- A law is READY or RUNNING. -/
def State.lawUp (s : State) (g : Nat) : Bool :=
  match s.lawOf g with
  | some l => (s.law l).st = .ready || (s.law l).st = .running
  | none => false

/-- v_bus of a BUS node in 0.1 V (R245): the highest bus voltage its AFE_UNIT laws in READY or RUNNING have committed. -/
def State.busVoltage (s : State) (p : Policy) (bus : CNode) : Nat :=
  p.nodes.foldl (fun (a : Nat) n =>
    if n.kind = 3 && n.parent = bus.node && s.lawUp n.inst then
      max a (match s.lawOf n.inst with | some l => (s.lawElem l 6 * 10).floor.toNat | none => 0)
    else a) 0

/-- What the Juggler takes of a converter group. -/
def State.groupIn (s : State) (g : Nat) : GroupIn :=
  let m := s.matrix g
  { st := m.st, outlet := m.outlet, h := (s.group g).capLegs, healthy := (s.healthyLegs g).length, n := (s.members g).length, lawOk := s.lawUp g
    decidedHalf := m.decidedHalf }

/-- The inputs of the Juggler as they stand (R250, Table 7.2). An AFE unit that reports zero capacity, as with a FAULTED leg, has no
available power (R184, R246). -/
def State.jugInputs (s : State) : JugIn :=
  let p := s.policy
  { half := s.carousel.half
    outlets := outletNos.map s.outletIn
    f := s.thermal.insts.map fun (x : TInst) => (x.base, x.f)
    vBus := (p.kind 2).map fun n => (n.node, s.busVoltage p n)
    groups := (List.range 16).map s.groupIn
    afes := (List.range 27).map fun k =>
      let g := 16 + k
      (g, s.lawUp g && (s.group g).capLegs ≠ 0, (match s.lawOf g with | some l => decide ((s.law l).st = .running) | none => false))
    curt := s.juggler.effective, importKw := p.importKw, aux := p.auxReserve }

/-! ### Commands -/

/-- INK_POINT (R259, R262 to R268, R602): the ink of the next half-turn is written, and its shortfall increments with it. -/
def execInkPoint (t : Nat) (other : Option InkVals) (s : State) : Out :=
  let s := s.advance t
  .next (if s.startup.mode = .service && s.carousel.running && s.juggler.latch.isSome && !s.juggler.pointDone then
    let s := s.inkPoint s.jugInputs other
    match s.juggler.nextInk with
    | some a => s.addShorts a.shorts
    | none => s
  else s)

/-- A write of the curtailment object takes effect (R273, R285). -/
def State.opCurt (s : State) (c : Caller) (limitKw validS : Nat) : State :=
  if 2 ^ 32 ≤ limitKw || 2 ^ 32 ≤ validS then s.reply c 3 else (s.writeCurt limitKw validS).reply c 0

/-- The curtailment object is written (R273, R285). -/
def State.putCurt (s : State) (conn : ConnNo) (limitKw validS : Nat) : State :=
  s.change conn (dev 133 4 0) .write (.curtailment limitKw validS) fun c s => s.opCurt c limitKw validS

/-- CURTAILMENT_WRITE (R273, R285). -/
def execCurtailmentWrite (t : Nat) (conn : ConnNo) (limitKw validS : Nat) (s : State) : Out :=
  .next ((s.advance t).putCurt conn limitKw validS)

/-- MFAULT goes to FREE while the latest valid status, within MATRIX_TO, reports open; RES 4 otherwise (R278, Table 7.8). -/
def State.opMatrixClear (s : State) (c : Caller) (g : ConvNo) : State :=
  let m := s.matrix g.val
  let isOpen : Bool := match m.status with
    | some x => decide (x.state = 0 ∧ s.time.clock ≤ x.time + s.policy.matrixTo)
    | none => false
  if m.st = .mfault && isOpen then
    (s.modMatrix g.val fun m => { m with st := .free, outlet := 0, cmd := none }).reply c 0
  else s.reply c 4

/-- MATRIX_CLEAR (R278, R285, Table 7.8). -/
def execMatrixClear (t : Nat) (conn : ConnNo) (g : ConvNo) (s : State) : Out :=
  .next ((s.advance t).change conn (dev 133 3 g.val) .execute (.matrixClear g) fun c s => s.opMatrixClear c g)

/-- The leg may be readmitted once more (R185). -/
def State.opLegClear (s : State) (c : Caller) (leg : LegNo) : State :=
  (s.modLeg leg.val fun l => { l with cleared := true }).reply c 0

/-- LEG_CLEAR (R185, R194). -/
def execLegClear (t : Nat) (conn : ConnNo) (leg : LegNo) (s : State) : Out :=
  .next ((s.advance t).change conn (dev 131 4 leg.val) .execute (.legClear leg) fun c s => s.opLegClear c leg)

/-- STOPPED goes to READY while no cause holds; RES 4 otherwise (R226, R237, Table 6.5). -/
def State.opLawClear (s : State) (c : Caller) (l : LawNo) : State :=
  let w := s.law l.val
  if w.st ≠ .stopped || w.causes.any (s.causeHolds w (s.lawGroup l.val)) then s.reply c 4
  else
    ((s.modLaw l.val fun x => { x with st := .ready, causes := [], trips := 0, x := [] }).raise
      .lawCleared [l.val, (roleBit c.role : Int)]).reply c 0

/-- LAW_CLEAR (R226, R237, R241, Table 6.5). -/
def execLawClear (t : Nat) (conn : ConnNo) (l : LawNo) (s : State) : Out :=
  .next ((s.advance t).change conn (dev 132 4 l.val) .execute (.lawClear l) fun c s => s.opLawClear c l)

/-- The connection selects a node; RES 2 where no such node exists (R329, R452). -/
def State.selectNode (s : State) (conn : ConnNo) (node : Nat) : State :=
  s.guarded conn (dev 134 1 0) .write fun _ s =>
    if node < s.thermal.folios.foldl (fun (a : Nat) f => a + f.nodes.length) 0 then
      (s.modConn conn fun k => { k with nodeSel := some node }).answer conn 0
    else s.answer conn 2

/-- NODE_VIEW_SET (R329, R452). -/
def execNodeViewSet (t : Nat) (conn : ConnNo) (node : Nat) (s : State) : Out := .next ((s.advance t).selectNode conn node)

end Sys2Proof.Machine
end

