-- ==== Sys2Proof/Machine/Tasks.lean ====
section
/-!
DEFINITION. Tasks from release to commit (R107 to R130): what a release fixes, what a nib meets when it takes a task, what a
committed result does and what a missed one costs.
-/
namespace Sys2Proof.Machine

open Sys2Proof.Config

/-! ### Release (R107) -/

/-- The tick deadline of the folio blocks and of the cooling task: the end of the period that begins at the release (log 44). -/
def State.periodEnd (s : State) (fs : List (Nat × Folio)) : Nat :=
  s.tick + fs.foldl (fun (a : Nat) x => if x.2.slot.isSome then min a x.2.period else a) basePeriod

/-- A thermal task is released: its flight opened, its descriptor queued; the n-th of its tier period goes to troupe n mod 32 (R136). -/
def State.releaseThermal (s : State) (k : TaskKind) (fast : Bool) (n : Nat) (fs : List (Nat × Folio)) : State :=
  let seq := s.array.nextSeq (taskDom k)
  let dl := s.periodEnd fs
  (s.openFlight fast fs (taskDom k) seq).release1 k n false (some dl)

/-- A base block is due: a folio of the base tier in it is, or all of its folios are fast and only copied (R303). -/
def State.baseDue (s : State) (first : Nat) : Bool :=
  let range := (s.numbered.drop first).take s.foliosPerTask
  !range.isEmpty && first % s.foliosPerTask = 0 && (!(s.blockFolios first).isEmpty || range.all fun x => x.2.slot.isSome)

/-- The fast folios due are found at the first P2 task of a tier period (R136, R304). -/
def State.startWave (s : State) (n : Nat) : State :=
  if n = 0 then { s with thermal := { s.thermal with fastWave := (s.numbered.filter fun x => x.2.slot.isSome && s.fastDue x.2).map (·.1) } }
  else s

/-- A task is released to its home troupe (R107, R211, R261, R303, R304, R323). Tier decisions made at the last base release take
effect, and new ones are made, with the first block of a base update (R305). -/
def State.releaseTask (s : State) (k : TaskKind) : State :=
  match k with
  | .law l => s.releaseLaw l
  | .juggler _ =>
    if s.juggler.latch.isSome && !s.juggler.pointDone then
      let n := s.array.jugglerCount
      let s := (s.pencilWork).modArr fun a => { a with jugglerCount := n + 1 }
      s.release1 k (s.jugglerHome + n) true (some (s.inkPhase / arcUnits))
    else s
  | .fastFolios n =>
    let s := s.startWave n
    let fs := s.waveFolios n
    if fs.isEmpty then s else s.releaseThermal k true n fs
  | .baseFolios first =>
    if !s.baseDue first then s else
    let s := if first = 0 then (s.applyTiers).decideTiers else s
    s.releaseThermal k false (first / s.foliosPerTask) (s.blockFolios first)
  | .cooling =>
    let dom := taskDom k
    let seq := s.array.nextSeq dom
    let fl : ThermFlight := { dom, seq, tick := s.tick, cool := s.coolResults s.headrooms }
    let s := { s with thermal := { s.thermal with flights := s.thermal.flights ++ [fl] } }
    s.release1 k (taskHome dom seq).val false (some (s.tick + basePeriod))
  | .analytics _ deadline =>
    let dom := taskDom k
    s.release1 k (taskHome dom (s.array.nextSeq dom)).val false deadline
  | .calibration _ _ =>
    let dom := taskDom k
    s.release1 k (taskHome dom (s.array.nextSeq dom)).val false none

/-- A release at a tick is a decision of the holder that the journal carries (Table 15.2); releases at line stamps, and the
background work of the Ringmaster, are each module's own. -/
def tickScheduled : TaskKind → Bool
  | .fastFolios _ | .baseFolios _ | .cooling => true
  | .law _ | .juggler _ | .analytics _ _ | .calibration _ _ => false

/-- TASK_RELEASE (R107): in service. A standby releases its copies of the law tasks on the stroke record (R588). -/
def execTaskRelease (t : Nat) (k : TaskKind) (s : State) : Out :=
  let s := s.advance t
  .next (if s.startup.mode ≠ .service then s
    else match k with
      | .law _ => if s.decides then s.releaseTask k else s
      | k => if tickScheduled k then s.submit (.release k) (·.releaseTask k) else s.releaseTask k)

/-! ### Commits (R120, R121) -/

/-- A result commits: it is noted for the digest of the half-turn (R600), P0 to P3, with what it differs by from the exact one. -/
def State.noteCommit (s : State) (dom seq : Nat) (err : List W32) : State :=
  { s with pair := { s.pair with commits := s.pair.commits ++ [(dom, seq, err)] } }

/-- A task of P1 to P4 commits: the pencil (R261), folios (R289, R303), demands with pump speeds and regulator targets (R323, R324,
R555), the finding of a calibration check (R145, Table 15.6). Throttle pauses reach the sessions (R315, R356). -/
def State.commitTask (s : State) (k : Task) : State :=
  let s := (s.modArr (·.closeTask k)).writeResult k.result
  let s := if k.cls ≤ 3 then s.noteCommit k.dom k.seq k.err else s
  match k.kind with
  | .juggler _ =>
    if s.array.jugglerLost || s.array.opens.any fun o => o.dom = k.dom then s else s.commitPencil
  | .cooling => ((s.commitThermal k.kind k.dom k.seq).pumpSpeeds).regTargets
  | .fastFolios _ | .baseFolios _ => (s.commitThermal k.kind k.dom k.seq).pauseScan
  | .calibration _ good => s.selfTest 3 good
  | .law _ | .analytics _ _ => s

/-- Every task of P1 to P4 that may commit does, in SEQ order within its domain (R120). -/
def State.commitTasks : Nat → State → State
  | 0, s => s
  | n + 1, s => match s.array.ready with
    | some k => commitTasks n (s.commitTask k)
    | none => s

/-- A job whose copies agree is closed; it is remembered while a copy still runs, for the comparison of that copy (R128). -/
def State.settleJob (s : State) (j : P0Job) : State :=
  s.modArr fun a =>
    let a := a.closeJob j.law j.seq
    if a.copyRuns j.law j.seq then { a with settled := a.settled ++ [j] } else a

/-- The agreed results of a law commit in SEQ order (R120, R126, R212); what waits for an outlet voltage is judged again (R359). -/
def State.commitJobs (law : Nat) : Nat → State → State
  | 0, s => s
  | n + 1, s => match s.array.p0Ready law with
    | some j =>
      let e := j.agreed.getD []
      let k := s.withRefs { (default : Task) with kind := .law (Fin.ofNat 43 law), dom := law, seq := j.seq }
      let s := ((s.settleJob j).writeResult k.result).noteCommit law j.seq e
      commitJobs law n ((s.commitLaw law j.seq j.deadline e).checkVoltages)
    | none => s

/-- What may retire now, retires. -/
def State.retireAll (s : State) : State :=
  let s := (List.range 43).foldl (fun s l => State.commitJobs l s.array.jobs.length s) s
  State.commitTasks s.array.opens.length s

/-! ### Misses (R108) -/

/-- A task of P1 to P4 is closed as missed, with the owner's reaction (R268, R309). -/
def State.missTask (s : State) (k : Task) : State :=
  let s := s.modArr fun a => (a.closeTask k).countMiss k.home none
  match k.kind with
  | .juggler _ => s.modArr fun a => { a with jugglerLost := true }
  | .fastFolios _ | .baseFolios _ | .cooling => s.missThermal k.kind k.dom k.seq
  | .law _ | .analytics _ _ | .calibration _ _ => s

/-- A P0 task is closed as missed: the stroke is an overrun of its law (R108, R222). -/
def State.missJob (s : State) (j : P0Job) : State :=
  (s.modArr fun a => (a.closeJob j.law j.seq).countMiss j.home (some j.law)).overrunLaw j.law j.seq

/-- DEADLINE_MISS of a task whose deadline lies before now, with its lateness. -/
def State.lateEvent (s : State) (cls : Nat) (kind : TaskKind) (seq late : Nat) : State :=
  s.raise .deadlineMiss [cls, s.kernelVal kind, seq, late]

/-- DEADLINE_MISS (R108, R222 to R224): a task that has not retired by its deadline; its own deadline's tick is in time (R47). -/
def execDeadlineMiss (t dom seq : Nat) (s : State) : Out :=
  let s := s.advance t
  .next (match s.array.job dom seq with
    | some j =>
      if j.deadline < s.stamp then ((s.lateEvent 0 (.law (Fin.ofNat 43 j.law)) seq (s.stamp - j.deadline)).missJob j).retireAll else s
    | none =>
      match s.array.opens.find? fun k => k.dom = dom && k.seq = seq with
      | some k =>
        match k.deadline with
        | some d => if d < s.dlNow k.lineDl then ((s.lateEvent k.cls k.kind seq (s.dlNow k.lineDl - d)).missTask k).retireAll else s
        | none => s
      | none => s)

/-! ### Taking (R111, R114, R138, R139, R143) -/

/-- A nib is free again after a task, or goes on with the test it was running (R146); its busy ticks are counted (R148). -/
def State.release (s : State) (n : NibNo) : State :=
  match (s.array.nibs[n]).act with
  | .running _ _ =>
    let back : NibAct := match (s.array.nibs[n]).test with | some _ => .testing s.tick | none => .free
    (s.stopRun n back).modNib n fun x => { x with test := none }
  | _ => s

/-- A task that is not run: its P0 job or itself is closed as missed (R111, R139). -/
def State.dropTask (s : State) (k : Task) : State :=
  (if k.cls = 0 then
    match s.array.job k.dom k.seq with
    | some j => s.missJob j
    | none => s
  else if s.array.opens.any fun o => o.dom = k.dom && o.seq = k.seq then s.missTask k else s).retireAll

/-- TASK_REFUSED (R111): causes 0 CHECK, 1 reference. -/
def State.refuseTask (s : State) (n : NibNo) (k : Task) (cause : Int) : State :=
  ((s.release n).raise .taskRefused [k.cls, s.kernelVal k.kind, cause]).dropTask k

/-- A double-bit error in what a task reads (R139, R140): the word is poisoned, the task abandoned; a P0 copy gets a third copy, any
other task is closed as missed. -/
def State.abandonTask (s : State) (n : NibNo) (k : Task) (addr : Nat) : State :=
  let s := (s.poisonWord addr false).release n
  if k.cls = 0 then s.copyLost k n.val else s.dropTask k

/-- An uncorrectable block in what a task reads (R143, R310): the task goes on with the block flagged, and its kernel takes the safe
start value for the nodes that have become uncertain. -/
def State.readPoison (s : State) (n : NibNo) (k : Task) (channel : Fin 2) (block : Nat) : State :=
  let was := s.thermal.folios
  let s := (s.poisonBlock channel block).poisonNodes
  let s := s.modNib n fun x => { x with act := match x.act with
    | .running k a => .running { k with poisoned := true } a
    | y => y }
  s.safeStarts was k.dom k.seq

/-- What a nib meets when it reads the descriptor, state and inputs of the task it has taken. -/
def State.readTask (s : State) (n : NibNo) (k : Task) (obs : ReadObs) : State :=
  match obs, s.array.poisoned.find? k.reads with
  | .descriptor ws, _ =>
    match descriptorFault ws with
    | some cause => s.refuseTask n k cause
    | none => s
  | .doubleBit addr, _ => s.abandonTask n k addr
  | _, some addr => s.abandonTask n k addr
  | .corrected addr, none => s.correct addr
  | .dramCorrected _ _, none => s.correctBlock
  | .dramUncorrectable channel block, none => s.readPoison n k channel block
  | .ok, none => s

/-- A nib takes a task that it claims, and reads it. -/
def State.takeAndRead (s : State) (n : NibNo) (k : Task) (obs : ReadObs) : State :=
  (s.takeTask n k).readTask n { k with parkedBy := none } obs

/-- TASK_TAKE (R114 to R116, R132): a nib that is not fenced takes the task R114 gives it, unless R115 gives it to another. -/
def execTaskTake (t : Nat) (n : NibNo) (obs : ReadObs) (s : State) : Out :=
  let s := s.advance t
  .next (if (s.array.nibs[n]).fenced then s else
    match s.pick n with
    | some k => if s.mayClaim n k then (s.displace k).takeAndRead n k obs else s
    | none => s)

/-- A nib parks the task it runs, and takes a P0 copy (R117). -/
def State.parkFor (s : State) (n : NibNo) (x p : Task) (obs : ReadObs) : State :=
  let before := s.array.nibs[n]
  let s := (s.stopRun n .free).modArr fun a =>
    ({ a with
      queue := a.queue ++ [{ x with parkedBy := some n.val, enq := s.tick }]
      nibs := vmod a.nibs n fun y => { y with parked := true, slot := some y.mem } }).count (n.val / 8) fun l =>
      { l with parks := l.parks + 1 }
  let s := (s.takeTask n p).modArr fun a => { a with claims := (a.claims.1, a.claims.2.map fun c =>
    if c.task = p && c.nib = n.val then { c with before } else c) }
  s.readTask n p obs

/-- PARK (R115, R117, R118): at a checkpoint a nib running P1 to P4 finds a P0 copy that no free nib can take. It writes the task's
local state to its park slot, requeues the task at the head of its class, and takes the copy. -/
def execPark (t : Nat) (o : ParkObs) (s : State) : Out :=
  let s := s.advance t
  let n := o.nib
  let k := n.val / 8
  let p0 := ([0, 1, 2, 3, 4] : List Nat).findSome? fun d => s.array.head (k + d) 0 s.tick
  .next (match (s.array.nibs[n]).act, p0 with
    | .running x _, some p =>
      let freeNib := (List.range 5).any fun d =>
        (List.range 8).any fun j =>
          let m := vget s.array.nibs (((p.home + 32 - d) % 32) * 8 + j) {}
          !m.fenced && m.act = .free
      if x.cls ≠ 0 && !(s.array.nibs[n]).parked && !freeNib && s.mayClaim n p then (s.displace p).parkFor n x p o.obs else s
    | _, _ => s)

/-! ### Completion (R120, R126 to R130) -/

/-- A copy that completes after two others have agreed is compared with what they agreed on: a minority result makes its nib suspect
(R128). -/
def State.lateCopy (s : State) (n : NibNo) (k : Task) (err : List W32) : State :=
  match s.array.settled.find? fun j => j.law = k.dom && j.seq = k.seq with
  | none => s
  | some j =>
    let s := s.modArr fun a => { a with settled := a.settled.filter fun j => a.copyRuns j.law j.seq }
    if j.agreed = some err then s else s.suspectNib n

/-- A copy of a P0 task completes: it is compared, and what is agreed commits; a job on which three copies differ ends without a
result (R128). A result after the deadline is discarded (R108). -/
def State.completeP0 (s : State) (n : NibNo) (k : Task) (err : List W32) : State :=
  match s.array.job k.dom k.seq with
  | none => s.lateCopy n k err
  | some j =>
    if j.deadline < s.stamp then s else
    let j' := { j with results := j.results ++ [{ copy := k.copy, nib := n.val, err := some err }] }
    let s := (s.modArr (·.modJob j.law j.seq fun _ => j')).compare j'
    if 3 ≤ (j'.results.filter fun r => r.err.isSome).length && (majority j'.results).isNone then
      ((s.modArr (·.closeJob j.law j.seq)).overrunLaw j.law j.seq).retireAll
    else s.retireAll

/-- Words of zero at the end of a difference tell nothing. -/
def trimErr (err : List W32) : List W32 := (err.reverse.dropWhile (· = 0)).reverse

/-- TASK_COMPLETE (R120, R126): `err` is the exclusive or of the nib's result block, status word first, with the exact one, word by
word (log 7). A completed result waits in the retire buffer; one that comes after its deadline is discarded (R108). -/
def execTaskComplete (t : Nat) (n : NibNo) (err : List W32) (s : State) : Out :=
  let s := s.advance t
  let err := trimErr err
  .next (match (s.array.nibs[n]).act with
    | .running k _ =>
      let s := s.release n
      if k.cls = 0 then s.completeP0 n k err
      else
        let late : Bool := match k.deadline with | some d => decide (d < s.dlNow k.lineDl) | none => false
        if late || !(s.array.opens.any fun o => o.dom = k.dom && o.seq = k.seq) then s
        else (s.modArr fun a => { a with retire := a.retire ++ [{ k with err }] }).retireAll
    | _ => s)

/-! ### LPDDR5X scrubbing (R143, R144) -/

/-- DRAM_SCRUB (R143, R144, R310): a block of the fitted capacity is read. The blocks of a pass follow in order, channel 0 first
(log 127); the last of channel 1 ends it. -/
def execDramScrub (t : Nat) (channel : Fin 2) (block : Nat) (obs : ScrubObs) (s : State) : Out :=
  let s := s.advance t
  .next (if dramBlocks ≤ block then s else
    let s := match obs, s.array.dramPoisoned.contains (channel.val, block) with
      | .double, _ => (s.poisonBlock channel block).poisonNodes
      | .single, false => s.correctBlock
      | _, _ => s
    let n := channel.val * dramBlocks + block
    if s.array.dramNext ≠ n then s
    else if n + 1 = 2 * dramBlocks then (s.modArr fun a => { a with dramNext := 0, dramPass := s.tick }).selfTest 2 true
    else s.modArr fun a => { a with dramNext := n + 1 })

end Sys2Proof.Machine
end

