-- ==== Sys2Proof/Machine/Boundary.lean ====
section
/-!
DEFINITION. What happens at stroke and half-turn boundaries (R40, R46, R87, R250, R265), and the clocks of the modulators (R207,
R373). The parts stand in the chapters' own files.
-/
namespace Sys2Proof.Machine

open Sys2Proof.Config

/-! ### Strokes -/

/-- The stroke record of the holder (R588): it is sent with its own JSEQ and has no EFFECT stamp (R585). -/
def State.strokeRecord (s : State) : State :=
  match s.pair.st with
  | .holder | .solo =>
    let c := s.pair.jcounts
    s.modPair fun p => { p with jseq := (p.jseq + 1) % 2 ^ 32, strokeRec := s.carousel.stroke, jcounts := (c.1 + 1, c.2) }
  | _ => s

/-- The readback comparison of the stroke that ends, as the self-test it is (R179, R182, Table 15.6). -/
def State.readbackTest (s : State) : State := s.selfTest 4 (s.legs.legs.toList.all fun l => !l.mismatch)

/-- The load counters close with the turn (R148). -/
def State.turnEnd (s : State) (was : Nat) : State :=
  let n := s.nStrokes
  if was / n < s.carousel.stroke / n then s.modArr (·.endTurn s.tick) else s

/-- A revision is applied: the operational records change, the number counts up, MRAM keeps it, every staging copy is stale, the
tamper event is recorded (R83, R87, R89, R274, R404). -/
def State.applyRevision (s : State) (r : PendingRev) : State :=
  let was := s.policy
  let len := s.demandLen
  let n := (s.startup.revision + 1) % 2 ^ 32
  let s : State := { s with
    startup := { s.startup with
      oper := r.recs, revision := n, revHash := r.hash, revStamp := s.stamp, pendingRev := none, ahead := none
      stored := some { number := n, recs := r.recs, hash := r.hash, recordsHash := s.startup.hdr.recordsHash } }
    port := { s.port with
      conns := vmap (Option.map fun (c : Conn) => { c with stage := .empty, stageRecs := [], code := 0 }) s.port.conns } }
  let s := ((s.curtRevision was).demandRevision len).countTamper 4
  s.raise .revisionApplied [n, r.boundary]

/-- A revision is cancelled (R85). -/
def State.cancelRevision (s : State) (r : PendingRev) : State :=
  ({ s with startup := { s.startup with pendingRev := none, ahead := none } }).raise .revisionCancelled [r.hash.toNat]

/-- A paired holder needs the standby's acknowledgement (R85, R86). -/
def State.ackMissing (s : State) (r : PendingRev) : Bool := s.pair.st = .holder && !r.acked

/-- A revision whose stamp had passed when it was scheduled takes place once the next arc has begun, and is counted (R45). The table
has no row for an arc boundary: the stroke boundary that follows it applies the revision (log 59). -/
def State.revisionLate (s : State) : State :=
  match s.startup.pendingRev with
  | some r => if r.late && !s.ackMissing r then (s.lateSchedule 129 r.boundary).applyRevision r else s
  | none => s

/-- STROKE_BOUNDARY (R36, R37, R40 to R42, R44, R54, R158, R170, R179, R298): once the phase has reached the start of the next
stroke, the readback sample of the boundary, in which a leg not named reads as it is driven; measurements and the loop of the
Carousel, the current signals of the stroke that ends, the legs' next cycles. -/
def execStrokeBoundary (t : Nat) (ma mb : LineMeas) (x : StrokeObs) (s : State) : Out :=
  let s := s.advance t
  .next (if !s.carousel.running || !s.carousel.strokeDue s.nStrokes then s else
    let was := s.carousel.stroke
    let s := x.nets.foldl (fun s x => s.compareNets x.1.val x.2) s
    let s := (s.thermStroke).readbackTest
    let s := s.modCar fun c => c.onStroke s.nStrokes s.tick (s.wired .a) (s.wired .b) ma mb x.ab
    ((((s.turnEnd was).revisionLate).legsStroke).lawsStroke).strokeRecord)

/-! ### Revisions at their boundary (R85 to R89) -/

/-- The pending revision at the half-turn boundary that it names (R87). -/
def State.revisionHalf (s : State) : State :=
  match s.startup.pendingRev with
  | none => s
  | some r =>
    if s.stamp < r.boundary then s
    else if s.ackMissing r then s.cancelRevision r
    else s.applyRevision r

/-- REVISION_ACK (R85): the standby has acknowledged the pending revision, at the latest in the arc of the half-turn boundary before the
named one. -/
def execRevisionAck (t hash : Nat) (s : State) : Out :=
  let s := s.advance t
  .next (match s.startup.pendingRev with
    | some r =>
      if r.hash.toNat = hash && s.stamp + 32768 ≤ r.boundary then
        { s with startup := { s.startup with pendingRev := some { r with acked := true } } }
      else s
    | none => s)

/-- The cancellation of the pending revision, on both modules (R85). -/
def State.revisionCancel (s : State) : State :=
  match s.startup.pendingRev with
  | some r => s.cancelRevision r
  | none => s

/-- REVISION_CANCELLED (R85): the arc of the half-turn boundary before the named one has passed without an acknowledgement (R47). The
holder's decision takes effect on both modules at its EFFECT stamp (R50). -/
def execRevisionCancelled (t : Nat) (s : State) : Out :=
  let s := s.advance t
  .next (match s.startup.pendingRev with
    | some r =>
      if s.ackMissing r && r.boundary < s.stamp + 32768 then s.submit .revisionCancelled (·.revisionCancel) else s
    | none => s)

/-! ### Half-turns -/

/-- The boundary instant (R231, R250, R265): ink and matrix decisions take effect, then the groups report and the inputs are latched. -/
def State.inkHalf (s : State) : State :=
  let s := s.inkSwitch s.jugInputs
  let s := s.reportGroups
  let s := s.latchInputs s.jugInputs
  s.modArr fun a => { a with jugglerCount := 0, jugglerLost := false }

/-- HALF_TURN_BOUNDARY (R34, R44, R87, R183, R210, R213, R234, R250, R265, R600, R689): once the phase has reached the half-turn that
the row names, and where that has not begun, its beginning: the boundary instant, then the events of its arc, the revision first. -/
def execHalfTurnBoundary (t half : Nat) (s : State) : Out :=
  let s := s.advance t
  .next (if !s.carousel.running || !s.carousel.halfDue half then s else
    let s := s.modCar (·.beginHalf half s.tick)
    if s.startup.mode ≠ .service then s.revertHalf else
    let s := (s.inkHalf.revisionHalf).revertHalf
    let s := s.lawsHalf s.inkFor fun g => (s.matrix g).st = .attached
    ((s.pairHalf).pauseScan).activationHalf)

/-! ### Modulator clocks -/

/-- MODULATOR_CLOCK (R207, R373, R374): a rising edge of SDCK_0 to SDCK_15, or of MDCK_0 to MDCK_7, with the bits of its channels. -/
def execModulatorClock (t : Nat) (metering : Bool) (clk : SdckNo) (bits : BitVec 16) (s : State) : Out :=
  let s := s.advance t
  .next (if metering then (if clk.val < 8 then s.mdEdge clk.val bits else s) else s.sdEdge clk bits)

end Sys2Proof.Machine
end

