-- ==== Sys2Proof/Machine/Revisions.lean ====
section
/-!
DEFINITION. Operational revisions on the object port (R79 to R84): the staging copies, CHECK and COMMIT.
-/
namespace Sys2Proof.Machine

open Sys2Proof.Config

/-- The staging role of an operational type (Table 3.4). -/
def stagingRole (typ : Nat) : Role := if typ = 0x1002 then .service else .operator

/-- COMMIT_MIN and COMMIT_MAX in half-turns (Table 3.5). -/
def State.commitMin (s : State) : Nat := fld (s.rec1 0x0201) 1 31 16
def State.commitMax (s : State) : Nat := fld (s.rec1 0x0201) 1 15 0

/-- Two records stand in the order of a set: ascending type, then ascending instance (R80). -/
def recBefore (x y : Rec) : Bool := decide (x.typ < y.typ) || (x.typ = y.typ && decide (recInst x ≤ recInst y))

/-- The same record of a set: type and instance. -/
def sameRec (x y : Rec) : Bool := x.typ = y.typ && recInst x = recInst y

/-- A record put into a set in order, in place of the one of its type and instance. -/
def putRec (x : Rec) (l : List Rec) : List Rec :=
  let l := l.filter fun y => !sameRec x y
  l.takeWhile (recBefore · x) ++ x :: l.dropWhile (recBefore · x)

/-- The operational set that results from a staging copy (R80). -/
def resultingSet (oper staged : List Rec) : List Rec := staged.foldl (fun l x => putRec x l) oper

/-- The check code: CRC-32C over the records of the set, each framed (R80). -/
def checkCode (rs : List Rec) : W32 := crc32c (serialised rs)

/-- The checks of Table 3.6 that apply to a revision, 0x05 to 0x08, over the structural records and the resulting set: the code and
the index in that set of the first failure; the index of a failing structural record is none. -/
def State.checkSet (s : State) (rs : List Rec) : Option (Nat × Nat) :=
  let all := resultingSet s.startup.image rs
  let c := s.candidate s.startup.hdr all
  let pos (o : Option Nat) : Nat := match o with
    | some i => match all[i]? with
      | some r => (rs.findIdx? fun x => sameRec x r).getD noIndex
      | none => noIndex
    | none => noIndex
  match firstBad rs fun _ r => crc32c (recHead r :: r.payload) = r.crc with
  | some i => some (0x05, i)
  | none =>
    match cataloguOk all s.startup.hdr.prepay with
    | some i => some (0x06, pos (some i))
    | none =>
      match firstBad rs fun _ r => c.recordOk r with
      | some i => some (0x07, i)
      | none =>
        match c.crossOk true all with
        | some i => some (0x08, pos (some i))
        | none => none

/-- SET_STAGE (R79, R83): complete operational records into the connection's staging copy; a structural or unknown type is refused with
RES 3, a type for which the role lacks the staging role with RES 1. -/
def execSetStage (t : Nat) (conn : ConnNo) (base : Nat) (recs : List Rec) (s : State) : Out :=
  let s := s.advance t
  .next (s.op conn inService fun k s =>
    if recs.isEmpty || recs.any fun r => !operational r.typ then s.answer conn 3
    else if recs.any fun r => stagingRole r.typ ≠ k.role then s.answer conn 1
    else
      (s.modConn conn fun k =>
        { k with stage := .staged, stageRecs := recs.foldl (fun l x => putRec x l) k.stageRecs, base, code := 0 }).answer conn 0)

/-- The role of a connection is the staging role of every staged type (Table 11.9). -/
def Conn.mayStage (k : Conn) : Bool := k.stageRecs.all fun r => stagingRole r.typ = k.role

/-- CHECK (R80, R83): RES 5 with the code of Table 3.6 and the record's index where it fails. On a copy already CHECKED the checks
run again, and one that fails leaves the copy STAGED (log 117). -/
def execCheck (t : Nat) (conn : ConnNo) (s : State) : Out :=
  let s := s.advance t
  .next (s.op conn inService fun k s =>
    if k.stage = .empty then s.answer conn 4
    else if !k.mayStage then s.answer conn 1
    else
      let rs := resultingSet s.startup.oper k.stageRecs
      match s.checkSet rs with
      | some e => (s.modConn conn fun k => { k with stage := .staged, code := 0 }).answer conn 5 [e.1, e.2]
      | none =>
        let code := checkCode rs
        (s.modConn conn fun k => { k with stage := .checked, code }).answer conn 0 [code.toNat])

/-- The named boundary is a half-turn boundary from COMMIT_MIN to COMMIT_MAX half-turns after the arc in which the COMMIT arrived
(R81). -/
def State.boundaryOk (s : State) (arrival boundary : Nat) : Bool :=
  boundary % 32768 = 0 && decide (arrival + s.commitMin * 32768 ≤ boundary) && decide (boundary ≤ arrival + s.commitMax * 32768)

/-- A revision is scheduled (R45, R84, R89): it is pending module-wide and written to MRAM; one whose boundary has passed is late. -/
def State.scheduleRevision (s : State) (r : PendingRev) : State :=
  let late := r.boundary < s.stamp
  let s : State := { s with startup := { s.startup with
    pendingRev := some { r with late }
    ahead := some { number := (s.startup.revision + 1) % 2 ^ 32, recs := r.recs, hash := r.hash
                    recordsHash := s.startup.hdr.recordsHash } } }
  s.raise .commitAccepted [r.hash.toNat, r.boundary]

/-- COMMIT takes effect (R81 to R85, R689): refused where another revision has come first, while an activation is armed, and for a
boundary out of range; otherwise the revision is pending on both modules, and the standby acknowledges it. -/
def State.opCommit (s : State) (c : Caller) (code : W32) (boundary base : Nat) (recs : List Rec) (arrival : Nat) : State :=
  if base ≠ s.startup.revision || s.startup.pendingRev.isSome then s.reply c 6
  else if s.update.armed.isSome then s.reply c 4
  else if !s.boundaryOk arrival boundary then s.reply c 3
  else
    let s := s.scheduleRevision
      { recs := resultingSet s.startup.oper recs, hash := code, boundary, acked := s.pair.st = .standby }
    let s := match c.conn with
      | some n => s.modConn n fun k => { k with stage := .empty, stageRecs := [], code := 0 }
      | none => s
    s.reply c 0

/-- The place of a commit in its tick: its port, ETH_0 first, and then its connection index (R82). -/
def State.commitKey (s : State) : JInput → Nat
  | .op true conn _ _ (.commit ..) => (match s.port.conns[conn] with | some k => k.port.val | none => 0) * 256 + conn.val
  | _ => 0

/-- An entry of the journal is a COMMIT that arrived at a tick on this module. -/
def commitAt (tick : Nat) (x : JPending) : Bool :=
  x.entry.arrival = tick && match x.input with
    | some (.op true _ _ _ (.commit ..)) => true
    | _ => false

/-- COMMITs that arrived in one tick stand in the journal in the order of R82. -/
def State.orderCommits (s : State) : State :=
  let here := s.pair.journal.filter (commitAt s.tick)
  let sorted := (here.filterMap (·.input)).mergeSort fun a b => s.commitKey a ≤ s.commitKey b
  let place (l : List JPending × List JInput) (x : JPending) : List JPending × List JInput :=
    if commitAt s.tick x then (l.1 ++ [{ x with input := l.2.head? }], l.2.tail) else (l.1 ++ [x], l.2)
  { s with pair := { s.pair with journal := (s.pair.journal.foldl place ([], sorted)).1 } }

/-- COMMIT (R81 to R83): the staging copy must be CHECKED and the check code current; the operation then takes effect at its EFFECT
stamp. -/
def execCommit (t : Nat) (conn : ConnNo) (code : W32) (boundary : Nat) (s : State) : Out :=
  let s := s.advance t
  .next (s.op conn inService fun k s =>
    if k.stage ≠ .checked then s.answer conn 4
    else if !k.mayStage then s.answer conn 1
    else if code ≠ k.code then s.answer conn 6
    else
      let at_ := s.stampOf s.tick
      (s.request conn k (.commit code boundary k.base k.stageRecs) fun c s =>
        s.opCommit c code boundary k.base k.stageRecs at_).orderCommits)

end Sys2Proof.Machine
end

