-- ==== Sys2Proof/Machine/Objects.lean ====
section
/-!
DEFINITION. The values of the objects of the object port, chapter by chapter, as lists of integers (R450: each object has its own
form): enumerations by the place of their name in the chapter's table, rationals in 1/65 536 rounded down, records as their
words (log 47). A function answers none where the object does not exist.
-/
namespace Sys2Proof.Machine

open Sys2Proof.Config

/-! ### Forms -/

/-- Words as integers. -/
def wordVals (l : List W32) : List Int := l.map fun w => (w.toNat : Int)
/-- The payload of a record, where it exists. -/
def recVals (r : Option (List W32)) : Option (List Int) := r.map wordVals
/-- The payloads of several records. -/
def recsVals (l : List (List W32)) : Option (List Int) := some (l.flatMap wordVals)
/-- Bytes of a list as integers. -/
def byteVals (l : List Byte) : List Int := l.map fun b => (b.toNat : Int)
/-- A value that may be absent: its presence, then the value or zero. -/
def optPair (x : Option Nat) : List Int := [ofBool x.isSome, x.getD 0]
/-- Naturals as integers. -/
def natVals (l : List Nat) : List Int := l.map fun (n : Nat) => (n : Int)
/-- A measured quantity at a place of the object (log 46). -/
def State.meas (s : State) (place : Nat) : Int := measured s.free place

/-! ### 128: the Carousel (Table 2.4) -/

def State.obj128 (s : State) : Nat → Nat → Option (List Int)
  | 0, 0 => let c := s.carousel; some [c.st.num, setNum c.followed, ofBool (c.st = .locked), c.firstLock]
  | 1, 0 => some [s.carousel.lastHalf.1, s.carousel.lastHalf.2]
  | 2, 0 => some [(s.carousel.freq / freqUnit : Nat), (s.carousel.set s.carousel.followed).freq]
  | 3, e =>
    if 1 < e then none else
    let r := s.carousel.set (if e = 0 then .a else .b)
    let last : List Int := match r.lastFail with
      | some f => [1, f.cause.num, f.tick, f.stamp]
      | none => [0, 0, 0, 0]
    some ([ofBool r.valid, r.mag, r.freq, r.failCount] ++ last)
  | 4, 0 => some [s.carousel.offset]
  | 5, 0 =>
    let src : Int := match s.wall.source with | .none => 0 | .ptp => 1 | .manual => 2
    some [s.wallRaw, (s.wall.half % 2000000000 / 2 : Nat), ofBool s.wall.valid, src]
  | 6, 0 => some [s.scribeTime]
  | 7, 0 => let c := s.carousel; some [c.lateCount, c.relockCount, c.holdCount, s.wall.steps]
  | 8, 0 => some (wordVals (s.rec1 0x0101))
  | _, _ => none

/-! ### 129: configuration (Table 3.10) -/

def State.obj129 (s : State) : Nat → Nat → Option (List Int)
  | 0, 0 => some [s.startup.done.length, ofBool (s.startup.mode = .refused), ofBool (s.startup.mode = .held),
      (match s.startup.bank with | .a => 0 | .b => 1)]
  | 1, 0 => let h := s.startup.hdr; some [h.imageSeq, h.recordsHash, h.hubId, h.created, h.recordCount]
  | 2, 0 => some [s.startup.revision, s.startup.revHash.toNat, s.startup.revStamp]
  | 3, 0 => some (match s.startup.pendingRev with
    | some r => [1, r.hash.toNat, r.boundary, ofBool r.acked]
    | none => [0, 0, 0, 0])
  | 4, e => (s.port.conns.toList[e]?).map fun k => match k with
    | some k => [(match k.stage with | .empty => 0 | .staged => 1 | .checked => 2), k.base, k.code.toNat]
    | none => [0, 0, 0]
  | 5, 0 => some (match s.startup.refusal with
    | some r => [1, r.code, r.index, r.imageSeq, r.recordsHash]
    | none => [0, 0, 0, 0, 0])
  | 6, 0 => let l := s.startup.loads; some ([(l.1.getD 0 0 : Int), l.2] ++ natVals l.1)
  | 7, 0 => some (s.startup.done.flatMap fun x => [((x.1.ctorIdx : Nat) : Int), (x.2 : Int)])
  | _, _ => none

/-! ### 130: nibs (Table 4.10) -/

def nibState (n : Nib) : Int := if n.fenced then 3 else match n.act with
  | .free => 0
  | .running _ _ => 1
  | .testing _ => 2

def State.obj130 (s : State) : Nat → Nat → Option (List Int)
  | 0, 0 =>
    let a := s.array
    let f := 256 - a.unfenced
    some [a.unfenced, (a.nibs.toList.foldl (fun (n : Nat) x => n + x.suspect) 0 : Nat), ofBool (8 ≤ f), ofBool (9 ≤ f)]
  | 1, e => (s.array.nibs.toList[e]?).map fun (n : Nib) =>
      [nibState n, (n.suspect : Int)] ++ (match n.lastTest with
        | some x => [1, (x.1 : Int), ofBool x.2]
        | none => [0, 0, 0])
  | 2, e => (s.array.lastLoad.toList[e]?).map fun (l : TroupeLoad) =>
      natVals (l.busy ++ [l.taken, l.given, l.parks, l.thirds, l.misses])
  | 3, e =>
    ((s.recs 0x0501).findIdx? fun r => fld r 0 31 26 = e).map fun i =>
      let k := s.array.homes.getD i 0
      let c := vget s.array.lawCounts e (0, 0)
      natVals [k, (k + 16) % 32, (k + 8) % 32, c.1, c.2]
  | 4, 0 => some (natVals (s.array.corrections.toList ++ [s.array.poisoned.length, s.array.scrubPass]))
  | 5, 0 => some (natVals [dramGiB, s.array.dramCorrections, s.array.dramPoisoned.length, s.array.dramPass])
  | 6, 0 => some (s.array.trace.flatMap fun (x : TraceEntry) => wordVals x.words ++ [(x.nib : Int), (x.tick : Int)])
  | 7, 0 => some (wordVals s.taskPlan ++ natVals s.array.homes)
  | _, _ => none

/-! ### 131: legs (Table 5.10) -/

def legCauseNum : Option LegCause → Int
  | none => 0
  | some .flt => 1
  | some .readback => 2

/-- The offsets in use: for each leg that switches, in rank order, its offset in 1/65 536 of a stroke (R158). -/
def State.offsets (s : State) (g : Nat) : List Int :=
  let h := (s.group g).healthy.length
  (List.range h).map fun r => (legOffset (16 ≤ g) (s.groupBase g) r h * 65536).floor

def State.obj131 (s : State) : Nat → Nat → Option (List Int)
  | 5, 0 => let l := s.legs; some [ofBool l.legsOff, l.offCount, l.offTick, l.releaseTick]
  | 0, e => if 127 < e then none else
    let l := s.leg e
    some [s.legRole e, s.legGroup e, (l.st.ctorIdx : Nat), ofBool l.deActive, ofBool (!l.fltLow), legCauseNum l.cause, l.retries]
  | 1, e => if 127 < e then none else let l := s.leg e; some (natVals [l.clamps, l.deferred, l.disagree, l.faults, l.cuts])
  | 2, e => if 127 < e then none else let l := s.leg e; some [l.lastWord.on, ofBool l.lastWord.holdOff, l.lastWord.loCut, l.wordTick]
  | 3, e => if 42 < e then none else
    let g := s.group e
    let ms := s.members e
    some (natVals (ms.length :: ms) ++ [((s.healthyLegs e).length : Int), ((s.offsets e).length : Int)] ++ s.offsets e
      ++ [ofBool g.coasting, g.capLegs, ms.length])
  | 6, e => recVals (s.recAt 0x0401 31 24 e)
  | 7, e => recVals (s.recAt 0x0402 31 26 e)
  | _, _ => none

/-! ### 132: control laws (Table 6.10) -/

def State.obj132 (s : State) (d e : Nat) : Option (List Int) :=
  if !s.hasLaw e then none else
  let l := s.law e
  match d with
  | 0 => some ([((l.st.ctorIdx : Nat) : Int), l.causes.length] ++ l.causes.map LawCause.num ++
      [(l.p : Int), tempEvent l.prev.1, tempEvent l.prev.2, tempEvent l.new.1, tempEvent l.new.2,
       (l.status.1.length : Int)] ++ l.status.1.map ofBool ++ [ofBool l.status.2.1, ofBool l.status.2.2])
  | 1 => some (natVals [l.overruns, l.overrunAt.countP fun k => s.carousel.stroke < k + 1000, l.trips, l.feCount, l.repSats, l.limits])
  | 2 => some (l.vecs.flatMap fun v => v.1 ++ [v.2])
  | 3 => some (l.rep.flatten ++ [(s.lawPar e).tabExp])
  | 5 => some (wordVals (s.lawRec e) ++
      ((s.recs 0x0502).filter fun w => fld w 0 31 26 = e).flatMap wordVals)
  | _ => none

/-! ### 133: the Juggler (Table 7.14) -/

/-- The latest pencil for every outlet, tagged pencil: the allocation log holds it last (R270, Table 7.5). -/
def State.pencilVals (s : State) : List Int :=
  match s.juggler.log.find? fun x => x.2.1 with
  | some (_, tag, a) => a.outlets.flatMap fun x => [ofBool tag, (x.1 : Int), (x.2 : Int)]
  | none => []

/-- A constraint node: its record, effective limit in W, ink load in W, binding flag. The spec does not say when a node binds
(log 46). -/
def State.nodeVals (s : State) (n : Nat) : Option (List Int) :=
  (s.recAt 0x0601 31 20 n).map fun r =>
    let p := s.policy
    let i := (s.juggler.latch).getD {}
    let c := cnodeOf r
    let o := if c.kind = 6 then ((p.nodes.find? fun q => q.node = c.parent).map (·.inst)).getD 0 else c.inst
    let watts (o : Nat) : Nat := (s.juggler.ink.outlets.getD (o - 1) (0, 0)).1
    let lim := if c.kind < 3 then p.limit16 i c / 65536
      else if c.kind = 3 then i.afePower c / 65536
      else if c.kind = 4 then i.limitAt c (i.outlet (i.group c.inst).outlet).vo
      else i.limitAt c (i.outlet o).vo
    let share (g : Nat) : Nat :=
      let sum := p.capSum i (i.group g).outlet
      if sum = 0 then 0 else watts (i.group g).outlet * p.cap i g / sum
    let load := if c.kind < 3 then ((s.juggler.ink.loads.find? fun x => x.1 = c.node).map (·.2)).getD 0 / 65536
      else if c.kind = 3 then 0
      else if c.kind = 4 then share c.inst
      else watts o
    wordVals r ++ [(lim : Int), (load : Int), s.meas 0]

/-- The latest shortfall of an outlet in the ink: watts and cause. -/
def State.shortOf (s : State) (o : Nat) : List Int :=
  match s.juggler.ink.shorts.find? fun x => x.outlet = o with
  | some x => [(x.watts : Int), (x.cause : Int)]
  | none => [0, 0]

def curtVals (p : Policy) (c : CurtSrc) : List Int :=
  [((c.st.ctorIdx : Nat) : Int), optVal (p.contribution c)]

def State.obj133 (s : State) (b d e : Nat) : Option (List Int) :=
  let p := s.policy
  let j := s.juggler
  if 16 ≤ d && d ≤ 31 && b = 0 then s.nodeVals (256 * (d - 16) + e) else
  match d with
  | 0 => if b = 0 && e = 0 then some (natVals [j.halfTurns, j.clampInks, j.pencilLate, j.clampLate, j.inkStamp]) else none
  | 1 => if b = 0 || 64 < b || e ≠ 0 || (p.nodeFor 5 b).isNone then none else
    let x := j.ink.outlets.getD (b - 1) (0, 0)
    some (natVals [x.1, x.2, p.cls b, j.ink.g.getD (b - 1) 0] ++ s.shortOf b ++
      natVals ((List.range 16).filter fun g => (s.matrix g).st = .attached && (s.matrix g).outlet = b))
  | 2 => if b ≠ 0 || 15 < e || (p.nodeFor 4 e).isNone then none else
    let m := s.matrix e
    some (natVals [m.st.ctorIdx, m.outlet, m.decidedStamp, m.checkFails])
  | 4 => if b = 0 && e = 0 then some (curtVals p j.curtObj ++ curtVals p j.curtCan ++ [optVal j.effective]) else none
  | 5 => if b = 0 && e = 0 then some s.pencilVals else none
  | 6 => if b = 0 && e = 0 then some (wordVals p.pol ++ wordVals p.site) else none
  | _ => none

/-! ### 134: thermal model (Table 8.12) -/

/-- All nodes with their folios, from node 0. -/
def State.allNodes (s : State) : List (Folio × TNode) := s.thermal.folios.flatMap fun f => f.nodes.map fun n => (f, n)

/-- The hottest of some nodes: its number, T_lim and factor. -/
def State.hottest (s : State) (p : Nat → Folio → TNode → Bool) : List Int :=
  let l := (s.allNodes.mapIdx fun g x => (g, x)).filter fun y => p y.1 y.2.1 y.2.2 && y.2.2.lim.isSome
  let best := l.foldl (fun (b : Option (Nat × Folio × TNode)) y => match b with
    | some z => if z.2.2.tLim < y.2.2.tLim then some y else b
    | none => some y) none
  match best with
  | some y => [(y.1 : Int), tempEvent y.2.2.tLim, nodeFactor (s.classRec (y.2.2.lim.getD 0)) y.2.2]
  | none => [-1, 0, 65536]

/-- The node view (Table 8.12): record, T_lim, f, flags, tier, and the temperatures of the sensors reconciled there. -/
def State.viewNode (s : State) (g : Nat) : List Int :=
  match s.allNodes[g]? with
  | none => []
  | some (f, n) =>
    [n.temp, f.exp, n.invC, n.gRef, n.refSel, n.scale, optVal n.src, optVal n.lim, ofBool n.conductor, ofBool n.pinFast, n.ksub,
      n.init, tempEvent n.tLim,
      (match n.lim with | some c => nodeFactor (s.classRec c) n | none => 65536), ofBool n.warn, ofBool n.thr, ofBool n.shut,
      ofBool n.poisoned, ofBool f.slot.isSome] ++
    (n.links.flatMap fun l => natVals [l.1, l.2]) ++
    ((s.sensorTemps.filter fun x => x.1 = g).map fun x => tempEvent x.2)

/-- The residual of a sensor (R321); zero where it has none. -/
def State.sensorResidual (s : State) (w : List W32) : Int :=
  match s.residual (fld w 0 22 0) (s.sensorVal (fld w 0 31 27)) with
  | some r => if fld w 0 26 24 = 2 then 0 else tempEvent r.1
  | none => 0

def State.sensorVals (s : State) (e : Nat) : Option (List Int) :=
  (s.sensorRec e).map fun w =>
    let x := s.sensor e
    [(x.reading : Int), tempEvent (s.sensorVal e), ofBool x.valid, s.sensorResidual w, ofBool x.alarm]

/-- The flow and supply temperature of a loop, as the flow signals and sensors named by its record show them. -/
def State.loopVals (s : State) (e : Nat) : Option (List Int) :=
  (s.loopRec e).map fun r =>
    let l := vget s.thermal.loops e {}
    let sens (en : Bool) (n : Nat) : Int := if en then tempEvent (s.sensorVal n) else 0
    [tempEvent l.h, tempEvent l.d] ++ (loopPumps r).map (fun n => tempEvent (s.pump n).cmd) ++
      [sens (bit r 0 7) (fld r 0 12 8), sens (bit r 0 1) (fld r 0 6 2)]

def State.obj134 (s : State) (k : Conn) (b d e : Nat) : Option (List Int) :=
  let th := s.thermal
  if 64 ≤ d && d ≤ 127 && b = 0 then
    (th.insts.find? fun x => x.inst = 256 * (d - 64) + e).map fun x =>
      (x.f : Int) :: s.hottest (fun _ f _ => f.inst = x.inst) ++ [ofBool (th.folios.any fun f =>
        f.inst = x.inst && f.nodes.any (·.shut))]
  else match d with
  | 0 => if b = 0 && e = 0 then
      some (natVals [s.allNodes.length, th.folios.length, th.folios.countP (·.slot.isSome), th.waiting, th.fastFull,
        th.missed.1, th.missed.2])
    else none
  | 1 => if b = 0 && e = 0 then some (match k.nodeSel with | some g => (g : Int) :: s.viewNode g | none => []) else none
  | 2 => if b ≠ 0 || 63 < e then none else
    (s.recAt 0x0703 31 26 e).map fun w =>
      let l := s.allNodes.filter fun x => x.2.lim = some e
      wordVals w ++ natVals [l.countP (·.2.warn), l.countP (·.2.thr), l.countP (·.2.shut)]
  | 3 => if b = 0 then s.sensorVals e else none
  | 4 => if b = 0 then s.loopVals e else none
  | 5 => if b ≠ 0 then none else
    (th.dcus[e]?).map fun (x : Dcu) =>
      [tempEvent x.d, (x.flow : Int), x.supply, (x.unitState : Int), ofBool x.silent, (x.seqSeen : Int)]
  | 6 => if b = 0 || 64 < b || e ≠ 0 then none else
    (th.insts.find? fun x => instOutlet (s.instRec x.inst) = b).map fun x =>
      (match vget th.published (b - 1) none with
        | some y => [tempEvent y.1, ofBool y.2]
        | none => [0, 0]) ++ s.hottest fun _ f _ => f.inst = x.inst
  | _ => none

/-! ### 135: the Barker (Table 9.11) -/

/-- The latest DIO of a dispenser. -/
def dioVals (d : Dio) : List Int :=
  [(d.pilot : Int), (d.prox.val : Int), ofBool d.linkUp, (d.key : Int), (d.keySeq : Int)] ++
    d.temps.flatMap fun x => [ofBool x.isSome, x.getD 0]

/-- A session context. -/
def ctxVals (x : Ctx) : List Int :=
  [((x.st.ctorIdx : Nat) : Int), (x.protocol : Int), (match x.ident with | none => 0 | some .eim => 1 | some .pnc => 2),
    ofBool x.tls, ofBool x.dynamic] ++ byteVals x.emaid ++ [(x.causes.length : Int)] ++ natVals x.causes ++
    natVals [x.req.1, x.req.2.1, x.req.2.2, x.endCause, x.phase.ctorIdx] ++ [ofBool x.welding] ++ x.reply

/-- A dispenser. -/
def State.dispVals (s : State) (o : Nat) (w : List W32) : List Int :=
  let x := s.outletDisp o
  [((wide w 1 2 : Nat) : Int), ((x.addr.map (·.1)).getD 0 : Nat)] ++
    (match x.hello with | some h => natVals [1, h.hwRev, h.fwRev, h.link, h.channels] | none => [0, 0, 0, 0, 0]) ++
    (match x.dio with | some y => (1 : Int) :: dioVals y.1 ++ [((s.time.clock - y.2 : Nat) : Int)] | none => [0]) ++
    [ofBool x.admitted]

/-- An entry of CERT_CHAIN: the tag and the certificate's words. -/
def State.certVals (s : State) (e : Nat) : Option (List Int) :=
  (s.certs[e]?).map fun i =>
    let w := s.rec1 0x0802
    wordVals ((w.drop i).take (1 + (fld w i 15 0 + 3) / 4))

def State.obj135 (s : State) (b d e : Nat) : Option (List Int) :=
  let bk := s.barker
  let outlet := 1 ≤ b && b ≤ 64 && (s.dispRec b).isSome
  match d with
  | 0 => if b = 0 && e = 0 then
      let n (st : CtxState) : Nat := bk.ctxs.toList.countP fun x => x.st = st
      let q := bk.discards
      some (natVals ([n .free, n .setup, n .auth, n .checks, n .delivering, n .paused, n .ending, n .closing]
        ++ [bk.ctxs.toList.countP fun x => x.tls && x.st ≠ .free]
        ++ [q.crc, q.header, q.length, q.dir, q.identity, q.conflict, q.tag, q.replay]))
    else none
  | 1 => if outlet && e ≤ 1 then some (ctxVals (s.bctx (2 * (b - 1) + e))) else none
  | 2 => if outlet && e = 0 then some (s.dispVals b ((s.dispRec b).getD [])) else none
  | 3 => if b = 0 then s.certVals e else none
  | 4 => if b = 0 && e = 0 then some (bk.unknown.flatMap fun x => natVals [x.1, x.2.1, x.2.2]) else none
  | 5 => if b = 0 && e = 0 then some (wordVals (s.rec1 0x0803)) else none
  | 6 => if outlet && e = 0 then recVals (s.dispRec b) else none
  | _ => none

end Sys2Proof.Machine
end

