-- ==== Sys2Proof/Machine/Objects2.lean ====
section
/-!
DEFINITION. The values of the objects of chapters 10 to 17: metering, tokens, tamper records, safety net, drives, supplies, pair,
buses, keys and update. See Objects.lean for the form of the values (log 47).
-/
namespace Sys2Proof.Machine

open Sys2Proof.Config

/-! ### Medium 1: metering (Tables 10.3 and 10.12) -/

/-- Whole Wh of an accumulator. -/
def wattHours (a : Nat) : Nat := mWh a / 1000

/-- The registers of a metered outlet (Table 10.3). -/
def State.meterReg (s : State) (o c d e f : Nat) : Option (List Int) :=
  let r := s.regs o
  if (s.meterRec o).isNone then none else
  match c, d, e, f with
  | 1, 8, 0, 255 => some [wattHours r.comp]
  | 1, 8, e, 255 => if 1 ≤ e && e ≤ 8 then some [wattHours (r.tariff.getD (e - 1) 0)] else none
  | 2, 8, 0, 255 => some [wattHours r.rev]
  | 128, 8, 0, 255 => some [wattHours r.unc]
  | 129, 8, 0, 255 => some [wattHours r.loss]
  | 130, 8, 0, 255 => some [wattHours r.service]
  | 1, 9, 0, 255 => some [(r.session / 1000 : Nat)]
  | 1, 4, 0, 255 =>
    let iv := s.scribe.core.interval
    let en : Nat := mWh r.comp - iv.energy.getD (o - 1) 0
    some [if iv.seconds = 0 then 0 else ((en : Rat) * 36 / 10 / iv.seconds).floor]
  | 1, 6, 0, 255 => some [r.max.1, r.max.2]
  | 1, 6, 0, 1 => some [r.prevMax.1, r.prevMax.2]
  | _, _, _, _ => none

/-- An opening reading (R418). -/
def openingVals (x : OpeningRec) : List Int :=
  natVals ([x.hubId, x.survivor, x.replacement, x.scribeTime] ++ x.registers.flatten ++
    [x.nextReceipt, x.nextSeq, x.sealedHash, x.tokenGen, x.tokenHigh, x.changeCounter, x.residue, x.waived] ++ x.tamperCounts)

/-- A receipt of the store: body, counter-signature, signature (Table 10.10). -/
def receiptVals (r : Receipt) : List Int :=
  wordVals r.body ++ (match r.counter with | some c => natVals [1, c.1, c.2] | none => [0, 0, 0]) ++ optPair r.signature

/-- The Scribe's objects (Table 10.12). -/
def State.scribeObj (s : State) (k : Conn) : Nat → Option (List Int)
  | 0 => some (natVals [s.scribe.seal_.ctorIdx, s.metroHash (hdrPartHash s.activeManifest 6), s.legalVer] ++
      s.scribe.faulty.toList.map ofBool ++ natVals [(s.scribe.copies.head?.map fun c => c.1.time).getD 0])
  | 3 => some (match k.receiptSel with
    | some n => ((s.scribe.receipts.find? fun r => r.no = n).map receiptVals).getD []
    | none => [])
  | 4 => some ((s.scribe.opening.map openingVals).getD [])
  | 6 => some (s.scribe.powerLog.flatMap fun (x : PowerFail) =>
      ofBool x.return_ :: (x.scribe : Int) :: optPair x.wall ++ natVals ([x.stamp, x.tick, x.sessions.length] ++ x.sessions))
  | 7 => recsVals (s.recs 0x0901 ++ s.recs 0x0902 ++ s.recs 0x0903 ++ s.recs 0x0904 ++ s.recs 0x0905)
  | _ => none

/-! ### 136 and 137: tokens and tamper records (Tables 11.7 and 11.14) -/

def tokenTextVals : TokenText → List Int
  | .none => [0, 0]
  | .enter20 => [1, 0]
  | .accepted n => [2, n]
  | .keyChanged g => [3, g]
  | .invalid => [4, 0]
  | .alreadyUsed => [5, 0]
  | .creditLimit => [6, 0]
  | .oldKey => [7, 0]
  | .redeem => [8, 0]
  | .locked n => [9, n]
  | .testAll => [10, 0]
  | .testShow h g => [11, (h * 65536 + g : Nat)]
  | .sealBroken => [12, 0]
  | .notOffered => [13, 0]

def State.obj136 (s : State) (k : Conn) (b d : Nat) : Option (List Int) :=
  let x := s.tokens
  match d with
  | 0 => if b ≠ 0 then none else
    some (natVals [x.gen, x.high, x.changeCounter, x.residue, x.waived,
      x.outlets.toList.countP fun y => y.lockEnd.isSome])
  | 1 => if b = 0 || 64 < b then none else
    let y := s.tok b
    some ([(y.held : Int)] ++ optPair y.holdEnd ++ [(y.failures.length : Int)] ++ optPair y.lockEnd)
  | 3 => if b ≠ 0 then none else some (match k.changeSel with
    | some id => ((x.issued.find? fun y => y.1 = id).map fun y => [(y.2 : Int)]).getD []
    | none => [])
  | 4 => if b ≠ 0 then none else recVals (s.recs 0x0A01).head?
  | _ => none

/-- The ten words of a tamper record (Table 11.7). -/
def tamperWords (typ : Nat) (r : TamperRec) : List W32 :=
  let wall (x : Option Nat) : List W32 := u64 (match x with | some v => v * 65536 + 1 | none => 0)
  [u32 (typ * 2 ^ 24), u32 r.count] ++ u64 (r.firstScribe * 2 ^ 24) ++ wall r.firstWall ++ u64 (r.lastScribe * 2 ^ 24) ++
    wall r.lastWall

def State.obj137 (s : State) : Nat → Nat → Option (List Int)
  | 0, e => if e = 0 then none else (s.tamper.recs.toList[e - 1]?).map fun r => wordVals (tamperWords e r)
  | 1, 0 => some (s.tamper.inputs.toList.map ofBool)
  | _, _ => none

/-! ### 138: the safety net (Table 12.7) -/

def State.fnVals (s : State) (f : FnRec) : List Int :=
  let x := s.safeFn f.num
  [ofBool x.demand, (x.cause : Int)] ++
    (f.chans.flatMap fun i => let y := s.safeIn i; [ofBool y.level, ofBool y.demand, optVal y.fault]) ++
    [ofBool x.degraded, (s.degradedTicks f.num / (60 * ticksPerSec) : Nat), ofBool x.weld, ofBool x.forced, ofBool x.asked]

def State.obj138 (s : State) : Nat → Nat → Option (List Int)
  | 0, 0 =>
    let x := s.safety
    some ([(x.sealedCrc.toNat : Int), (fld x.sect 1 31 0 : Nat), ofBool x.netFault] ++ optPair x.orphan ++
      [ofBool x.orphanAct, ofBool x.orphanOut, ofBool x.legsOwn, ofBool x.legsPartner, (x.divergences : Int), (x.cycles : Int),
        ofBool x.disagreed])
  | 1, e => (s.fnRec e).map s.fnVals
  | 2, e => (s.safety.ins.toList[e]?).map fun (x : SafeIn) =>
      [ofBool x.level, ofBool x.demand, optVal x.fault, ofBool x.repaired, (x.missing : Int), (x.foreign_ : Int), optVal (s.tpOf e)]
  | 3, e => (s.safety.outs.toList[e]?).map fun (x : SafeOut) =>
      [ofBool x.req, ofBool (x.on && !s.darkNow e), ofBool x.faulty, (match x.dark with | none => -1 | some b => ofBool b), s.meas 0]
  | 7, 0 => some (wordVals s.safety.sect)
  | _, _ => none

/-! ### 139 and 140: pump drives and load switches (Table 13.13) -/

/-- The result of a diagnosis. -/
def diagVal : DiagResult → Int
  | .pass => 0
  | .shortSupply => 1
  | .shortGround => 2
  | .openPhase test phase => 3 + 3 * test.val + phase.val

/-- The speed in rpm from the Hall edges of the last second: 6 POLES edges in a turn (R524). -/
def Pump.rpm (x : Pump) (w : List W32) (now : Nat) : Nat :=
  (x.edges.countP fun e => decide (now < e + ticksPerSec)) * 10 / max 1 (fld w 0 12 9)

def State.obj139 (s : State) (d e : Nat) : Option (List Int) :=
  (s.pumpRec e).bind fun w =>
    let x := s.pump e
    match d with
    | 0 =>
      let solo := (s.recs 0x0705).any fun r => (loopPumps r).contains e && s.drives.soloLoops.contains (fld r 0 31 29)
      let share := (((s.recs 0x0705).find? fun r => (loopPumps r).contains e).map fun r => fld r 0 20 13).getD 0
      some [(x.st.ctorIdx : Nat), tempEvent x.cmd, tempEvent (x.dutyNow w s.time.clock), x.rpm w s.time.clock, x.hall.val,
        s.meas 0, x.retries, share, ofBool solo]
    | 1 => some (natVals (x.faults ++ [x.bstEvents, x.refreshes, x.diagFails]))
    | 2 => some ((match x.diagLast with | some y => [1, diagVal y.1, (y.2 : Int)] | none => [0, 0, 0]) ++
        x.diagTests.flatMap fun y => match y with | some z => [1, ofBool z.1, (z.2 : Int)] | none => [0, 0, 0])
    | 4 => some (wordVals w)
    | _ => none

def State.obj140 (s : State) : Nat → Nat → Option (List Int)
  | 0, e => if 23 < e then none else
    let x := s.ls e
    some [(x.st.ctorIdx : Nat), ofBool x.input, ofBool (s.lsCommanded e), s.meas 0, s.meas 1, ofBool x.olStd, ofBool x.olFine,
      ofBool x.hot, ofBool x.warn, x.retries, x.freewheels]
  | 2, e => if 2 < e then none else let g := s.supplyGroup e; some [s.meas 0, g.count, ofBool g.uv]
  | 3, e => recVals (s.powerRec 0x0C02 31 27 e)
  | 4, e => (s.timerRec e).map fun w => wordVals w ++ [ofBool (s.timerLevel e)]
  | _, _ => none

/-! ### 141: regulators and supplies (Table 14.8) -/

/-- A controller: BUCK_0 to BUCK_3 follow the rail sequence, BUCK_4 and BUCK_5 their records. -/
def State.buckVals (s : State) (e : Nat) : List Int :=
  let temp := vget s.supply.temps (10 + e) 25
  if e < 4 then
    [(s.supply.rails.ctorIdx : Nat), (s.railRef e : Nat), s.meas 1, 0, s.meas 3, temp, 0, ((railOtp e).khz : Nat),
      ofBool (vget s.supply.alarms (10 + e) false)]
  else
    let x := s.reg (e - 4)
    let w := (s.regRec (e - 4)).getD []
    [(x.st.ctorIdx : Nat), tempEvent (x.refNow w s.time.clock), s.meas 1, ofBool x.sync, s.meas 3, temp, x.retries, x.syncKhz,
      tempEvent (x.freqNow w s.time.clock), ofBool x.pg, ofBool x.hot, ofBool x.warn, ofBool x.ov]

def State.obj141 (s : State) : Nat → Nat → Option (List Int)
  | 0, e => if 5 < e then none else some (s.buckVals e)
  | 1, 0 =>
    let x := s.supply
    some ([s.meas 0, ofBool x.pfail.isSome] ++ optPair x.holdup ++ [(x.railCount : Int), ofBool (x.rails = .latched)])
  | 2, e => (s.supply.temps.toList[e]?).map fun (t : Int) => [t, ofBool (vget s.supply.warns e false), ofBool (vget s.supply.alarms e false)]
  | 4, e => if e < 4 then none else recVals (s.regRec (e - 4))
  | _, _ => none

/-! ### 142 and 147: the pair, health and identity (Table 15.10, R608, R609) -/

def State.obj142 (s : State) : Nat → Nat → Option (List Int)
  | 0, 0 =>
    let p := s.pair
    let far : List Int := match p.beat with
      | some b => [pairNum b.1.state, ofBool b.1.degraded]
      | none => [-1, 0]
    some ([pairNum p.st, ofBool s.ident.pairPos, (s.ident.partnerSerial : Int)] ++ far ++
      [(p.takeovers : Int), (p.takeoverStamp : Int), ofBool (!p.degraded.isEmpty), ofBool p.partnerResync, (p.strokeRec : Int),
        p.align])
  | 1, 0 => let c := s.pair.jcounts; some (natVals [c.1, c.2.1, c.2.2.1, c.2.2.2] ++ [s.meas 0])
  | 3, e => (s.pair.links.toList[e]?).map fun (x : TzLink) => [ofBool x.up, (x.errors : Int), (x.delay : Int)]
  | 4, 0 => some ([(s.ident.partnerSerial : Int)] ++ optPair (s.ident.partnerHash.map fun h => h / 2 ^ 320))
  | 7, 0 => some (wordVals (s.rec1 0x0E01))
  | _, _ => none

def State.obj147 (s : State) : Nat → Nat → Option (List Int)
  | 0, 0 => some s.pair.health
  | 1, 0 =>
    let m := s.activeManifest
    some [s.ident.serial, ofBool s.ident.orderN, lifeNum s.ident.life, ofBool s.ident.pairPos, hdrVersion m, hdrLegal m,
      s.startup.hdr.imageSeq, s.startup.revision, s.ident.partnerSerial]
  | _, _ => none

/-! ### 143 and 144: CAN channels and ports (Table 16.13) -/

/-- A CAN frame as words of its object: kind, identifier, remote, data. -/
def canFrameVals (f : CanFrame) : List Int :=
  [((f.idk.ctorIdx : Nat) : Int), (f.ident : Int), ofBool f.remote] ++ byteVals f.data

def State.obj143 (s : State) (d e : Nat) : Option (List Int) :=
  match d with
  | 2 => if 255 < e then none else
    (s.canRec (e / 32)).map fun _ =>
      match (s.can (e / 32)).buffers.find? fun x => x.1 = e % 32 with
      | some x => (1 : Int) :: (x.2.2 : Int) :: canFrameVals x.2.1
      | none => [0]
  | _ => (s.canRec e).bind fun w =>
    let x := s.can e
    match d with
    | 0 => some [(x.err.ctorIdx : Nat), x.tec, x.rec_, ofBool (s.listenOnly w), canRole w,
        ((s.canCycle e).map fun c => c.2.1).getD 0, ofBool x.refLost]
    | 1 => let c := x.counts; some (natVals [c.rx, c.tx, c.missed, c.errors, c.busOffs, c.fifoLoss, c.rejects, c.remote])
    | 3 => some (wordVals w ++ wordVals (s.canSched e) ++
        (((s.recs 0x0F03).filter fun r => fld r 0 31 29 = e).flatMap wordVals) ++
        natVals ((s.implicitIds e w).map (·.1)))
    | _ => none

/-- The rights of the calling role on the status objects, and the active OBJECT_RIGHTS record. -/
def State.rightsVals (s : State) (k : Conn) : List Int :=
  (roleBit k.role : Int) :: wordVals ((s.rightsRec).getD [])

def State.obj144 (s : State) (k : Conn) (d e : Nat) : Option (List Int) :=
  match d with
  | 0 => (s.buses.eth.toList[e]?).map fun (x : Eth) =>
      [ofBool x.link, (fld ((s.ethRec e).getD []) 0 29 29 : Nat), (s.ethAddr e : Int), ofBool x.dup, (x.rx : Int),
        (x.vlanDrops : Int), (x.dups : Int), (x.lastStamp : Int), (x.answers : Int)] ++ (List.range 9).map s.meas
  | 1 => if e = 0 then some (s.rightsVals k) else none
  | 2 => if e ≠ 0 then none else
    let p := s.ptp
    some ((match p.selected with | some y => natVals [1, y.1, y.2.identity] | none => [0, 0, 0]) ++
      [p.offset, (p.delay : Int), ofBool p.sync])
  | 3 => (s.recAt 0x1002 31 28 e).map fun w =>
      let x := vget s.buses.streams e {}
      natVals [x.seq, x.sent, x.dropped] ++ wordVals w
  | 4 => (s.port.conns.toList.getD e none).map fun c =>
      [(roleBit c.role : Int), (c.port.val : Int), (c.addr : Int), 0, (c.cursor : Int), ofBool c.sub.isSome]
  | 5 => recVals (s.ethRec e)
  | _ => none

/-! ### 145 and 146: keys and update (Table 17.13) -/

/-- The public part of a slot that exports it (R657). -/
def State.publicPart (s : State) (e : Nat) : List Int :=
  let x := s.slot e
  if x.attr.toNat / 32 % 2 = 0 then []
  else if e = 4 then [(s.meterPub : Int)]
  else [(slotPublic e s.ident.serial x.kcv.toNat : Int)]

def State.obj145 (s : State) : Nat → Nat → Option (List Int)
  | 0, 0 =>
    let l := s.keys.slots.toList
    some (natVals [lifeNum s.ident.life, l.countP fun x => attrType x.attr ≠ 0, l.foldl (fun (n : Nat) x => n + x.denials) 0])
  | 1, e => (s.keys.slots.toList[e]?).map fun (x : KeySlot) =>
      [(x.attr.toNat : Int), (x.kcv.toNat : Int), (x.denials : Int)] ++ s.publicPart e
  | 4, 0 => some (deviceCert 0 s.ident.serial ++ deviceCert 1 s.ident.serial ++ deviceCert 6 s.ident.serial)
  | 8, e => recVals (s.recAt 0x1101 31 26 e)
  | _, _ => none

/-- Staging of one kind: state, PKG_ID, VERSION, pieces held and in all. -/
def stagingVals (x : Staging) : List Int :=
  natVals [x.st.ctorIdx, hdrPkg x.header, hdrVersion x.header, x.got.length, 8 + hdrHl x.header + hdrPieces x.header, x.bad]

def State.obj146 (s : State) : Nat → Nat → Option (List Int)
  | 0, 0 =>
    let u := s.update
    some (stagingVals u.fw ++ stagingVals u.img ++ (match u.armed with
      | some a => [1, (a.deadline : Int), ofBool a.drain] ++ optPair a.boundary
      | none => [0, 0, 0, 0, 0]) ++ natVals [u.fuse])
  | 6, 0 => some (s.update.log.flatMap fun (x : ActivationRec) => natVals [x.pkg1, x.pkg2, x.result, x.tick])
  | _, _ => none

/-! ### Lists of entries (interface class 7, and the received bitmap) -/

def optRole (r : Option Role) : Int := match r with | some x => roleBit x | none => 0

/-- The entries of an object that is read by entries, oldest first. -/
def State.entries (s : State) (o : Obis) : Option (List (List Int)) :=
  if o.b ≠ 0 || o.f ≠ 255 then none else
  match o.a, o.c, o.d, o.e with
  | 1, 99, 1, 0 => some (s.scribe.profile.reverse.map fun (x : IntervalRec) =>
      natVals ([x.seq, flagWord MFlag.intervalBit x.flags, x.startScribe, x.startWall, x.durationMs] ++ x.energy))
  | 1, 131, 5, 0 => some (s.scribe.metLog.reverse.map fun (x : MetLogEntry) =>
      [((x.kind.ctorIdx : Nat) : Int), (x.scribe : Int)] ++ optPair x.wall ++ [optRole x.role, (x.hash / 2 ^ 320 : Nat), (x.legal : Int)])
  | 0, 136, 2, 0 => some (s.tokens.log.reverse.map fun (x : TokenLogEntry) =>
      natVals [x.outlet, x.cls, x.tokenId, x.amount] ++ tokenTextVals x.outcome ++ (x.scribe : Int) :: optPair x.wall)
  | 0, 138, 6, 0 => some (s.safety.log.reverse.map fun (x : ChangeEntry) =>
      natVals [x.no, x.kind, x.role, x.subject, x.scribe] ++ optPair x.wall ++ [(x.crc.toNat : Int), (x.hash : Int)])
  | 0, 142, 2, 0 => some (s.pair.digests.reverse.map fun (x : Nat × Nat × Option Nat) =>
      natVals [x.1, x.2.1] ++ optPair x.2.2)
  | 0, 145, 5, 0 => some (s.keys.log.reverse.map fun (x : KeyLogEntry) =>
      [(x.slot : Int), ofBool x.destroy, (x.attr.toNat : Int), (x.subject : Int), (x.scribe : Int)] ++ optPair x.wall)
  | 0, 146, 1, e =>
    if 1 < e then none else
    let x := s.staging (e = 1)
    let n := 8 + hdrHl x.header + hdrPieces x.header
    some ((List.range (if x.header = [] then 8 else n)).map fun i =>
      [ofBool (x.got.contains i || (x.header = [] && x.hdrPieces.any fun y => y.1 = i))])
  | _, _, _, _ => none

/-! ### The whole object table -/

/-- The value of an object for a connection; none where no such object exists or it has no value to read. -/
def State.objVal (s : State) (k : Conn) (o : Obis) : Option (List Int) :=
  if o.a = 1 then
    if 1 ≤ o.b && o.b ≤ 64 then s.meterReg o.b o.c o.d o.e o.f
    else if o.b = 0 && o.c = 131 && o.e = 0 && o.f = 255 then s.scribeObj k o.d
    else none
  else if o.a ≠ 0 || o.f ≠ 255 then none
  else if o.c = 133 then s.obj133 o.b o.d o.e
  else if o.c = 134 then s.obj134 k o.b o.d o.e
  else if o.c = 135 then s.obj135 o.b o.d o.e
  else if o.c = 136 then (if o.e = 0 then s.obj136 k o.b o.d else none)
  else if o.b ≠ 0 then none
  else match o.c with
    | 128 => s.obj128 o.d o.e
    | 129 => s.obj129 o.d o.e
    | 130 => s.obj130 o.d o.e
    | 131 => s.obj131 o.d o.e
    | 132 => s.obj132 o.d o.e
    | 137 => s.obj137 o.d o.e
    | 138 => s.obj138 o.d o.e
    | 139 => s.obj139 o.d o.e
    | 140 => s.obj140 o.d o.e
    | 141 => s.obj141 o.d o.e
    | 142 => s.obj142 o.d o.e
    | 143 => s.obj143 o.d o.e
    | 144 => s.obj144 k o.d o.e
    | 145 => s.obj145 o.d o.e
    | 146 => s.obj146 o.d o.e
    | 147 => s.obj147 o.d o.e
    | _ => none

/-- Objects that can only be executed (the D and E of the objects tables). -/
def executable (o : Obis) : Bool :=
  if o.a = 1 then o.b = 0 && o.c = 131 && (o.d = 1 || o.d = 2) && o.e = 0 && o.f = 255
  else o.a = 0 && o.b = 0 && o.f = 255 && match o.c, o.d with
    | 131, 4 => o.e ≤ 127
    | 132, 4 => o.e ≤ 42
    | 133, 3 => o.e ≤ 15
    | 138, 4 => o.e ≤ 31
    | 138, 5 => o.e = 0
    | 139, 3 => o.e ≤ 7
    | 140, 1 => o.e ≤ 23
    | 141, 3 => o.e = 4 || o.e = 5
    | 142, 5 | 142, 6 => o.e = 0
    | 145, 2 | 145, 3 => 16 ≤ o.e && o.e ≤ 63
    | 145, 6 | 145, 7 | 146, 2 | 146, 3 | 146, 4 | 146, 5 => o.e = 0
    | _, _ => false

/-- An object exists. -/
def State.objExists (s : State) (k : Conn) (o : Obis) : Bool :=
  executable o || (s.objVal k o).isSome || (s.entries o).isSome

end Sys2Proof.Machine
end

