-- ==== Sys2Proof/Machine/GetSet.lean ====
section
/-!
DEFINITION. GET and SET (R451, Tables 11.8 to 11.11).
-/
namespace Sys2Proof.Machine

open Sys2Proof.Config

/-- The six bytes of an object's code: attribute 1, the logical name. -/
def Obis.bytes (o : Obis) : List Int := natVals [o.a, o.b, o.c, o.d, o.e, o.f]

/-- The entries selected by [first, count], the first entry being 1, the oldest. -/
def selected (sel : Option (Nat × Nat)) (l : List (List Int)) : List Int :=
  match sel with
  | some x => (((l.drop (x.1 - 1)).take x.2)).flatten
  | none => l.flatten

/-- A selection is well formed: count at most 512 (Table 11.8), entries numbered from 1. -/
def selOk : Option (Nat × Nat) → Bool
  | some x => 1 ≤ x.1 && x.2 ≤ 512
  | none => true

/-- The read itself: attribute 1 gives the code, attribute 2 the value. -/
def State.readObj (s : State) (c : ConnNo) (k : Conn) (o : Obis) (attr : Nat) (sel : Option (Nat × Nat)) : State :=
  if attr = 1 then s.answer c 0 (Obis.bytes o)
  else if attr ≠ 2 then s.answer c 2
  else match s.entries o with
    | some l => if selOk sel then s.answer c 0 (selected sel l) else s.answer c 3
    | none => (s.answer c 0 ((s.objVal k o).getD [])).nextFree

/-- GET (R95, R97, R451, R452, Table 11.10): served in every mode; nothing of the module changes but the connection's answer. -/
def execGet (t : Nat) (c : ConnNo) (o : Obis) (attr : Nat) (sel : Option (Nat × Nat)) (s : State) : Out :=
  .next ((s.advance t).op c always fun k s =>
    if s.absent o || !s.objExists k o then s.answer c 2
    else if !s.hasRight k.role .read o then s.answer c 1
    else s.readObj c k o attr sel)

/-- The writable objects that SET reaches, each with the form of its value (R56, R273, R329, R421, R460). -/
def State.writeObj (s : State) (c : ConnNo) (o : Obis) (val : List Int) : State :=
  let v (i : Nat) : Nat := (val.getD i 0).toNat
  let ok (n : Nat) : Bool := val.length = n && val.all fun x => decide (0 ≤ x)
  if o = dev 128 5 0 then (if ok 2 then s.writeWall c (v 0) (v 1) else s.answer c 3)
  else if o = dev 133 4 0 then (if ok 2 then s.putCurt c (v 0) (v 1) else s.answer c 3)
  else if o = dev 134 1 0 then (if ok 1 then s.selectNode c (v 0) else s.answer c 3)
  else if o = dev 136 3 0 then (if ok 1 then s.selectChange c (v 0) else s.answer c 3)
  else if o.c = 131 && o.d = 3 then (if ok 1 then s.selectReceipt c (v 0) else s.answer c 3)
  else s.answer c 2

/-- SET (R451, R452, Table 11.10): RES 2 where no such object or attribute exists, RES 1 without the right to write. Every object
with a right to write has a row of its own; SET of it does what that row does. -/
def execSet (t : Nat) (c : ConnNo) (o : Obis) (attr : Nat) (val : List Int) (s : State) : Out :=
  .next ((s.advance t).op c inService fun k s =>
    if s.absent o || !s.objExists k o then s.answer c 2
    else if !s.hasRight k.role .write o then s.answer c 1
    else if attr ≠ 2 then s.answer c 2
    else s.writeObj c o val)

end Sys2Proof.Machine
end

