-- ==== Sys2Proof/Machine/Journal.lean ====
section
/-!
DEFINITION. JOURNAL_EFFECT (R50, R585 to R587): an entry of the input journal takes effect at its EFFECT stamp, on both modules of the pair
alike. What each input does is the function that its command names when there is no journal.
-/
namespace Sys2Proof.Machine

open Sys2Proof.Config

/-- The header of a journal entry as words (Table 15.3). -/
def JEntry.header (e : JEntry) : List W32 :=
  [u32 (e.source * 2 ^ 24 + (if e.inline_ then 2 ^ 23 else 0) + e.length), u32 e.jseq] ++ u64 e.effect ++ u64 e.arrival ++ u64 e.digest

/-- A state-changing operation takes effect (R451). -/
def State.applyOp (s : State) (c : Caller) (arrival : Nat) : OpReq → State
  | .wall sec nsec => s.opWall c sec nsec
  | .curtailment limitKw validS => s.opCurt c limitKw validS
  | .matrixClear g => s.opMatrixClear c g
  | .legClear leg => s.opLegClear c leg
  | .lawClear l => s.opLawClear c l
  | .keyImport slot k => s.opKeyImport c slot k
  | .keyDestroy slot => s.opKeyDestroy c slot
  | .loadSwitchClear ls => s.opLsClear c ls
  | .pumpClear pump => s.opPumpClear c pump
  | .regulatorClear buck => s.opRegClear c buck
  | .yield_ => s.opYield c
  | .recommission p => s.opRecommission c p
  | .commit code boundary base recs => s.opCommit c code boundary base recs arrival
  | .acknowledge fn => s.opAcknowledge c fn
  | .safetyChange pw ch => s.opSafetyChange c pw ch
  | .seal => s.opSeal c
  | .sealBreak => s.opSealBreak c
  | .updatePiece piece data sigOk => s.opPiece c piece data sigOk
  | .updateAbort kind2 => s.opAbort c kind2
  | .arm deadlineMin drain => s.opArm c deadlineMin drain
  | .disarm => s.opDisarm c
  | .rollbackCommit => s.opRollback c
  | .legalRelease partHash legalVer => s.opLegal c partHash legalVer

/-- An input takes effect, with the tick and the line stamp of its arrival at the holder (R50, R585). Changes of the Carousel have taken
effect on the holder at their decision (Table 2.2), and period marks on both modules at the sample they name (log 119). -/
def State.applyInput (s : State) (tick stamp : Nat) : JInput → State
  | .vlink f => s.takeVlink f
  | .dio f => s.takeDio f
  | .hello f => s.takeHello f
  | .canFrame chan f => s.canDeliver chan.val f tick stamp
  | .gridCommand chan payload => s.takeGrid chan payload
  | .contactorStatus g payload => s.takeContactor g payload
  | .dcuStatus inst payload => s.takeDcu inst payload
  | .op here conn role addr r => s.applyOp (callerOf here conn role addr) stamp r
  | .aiSample readings => s.takeSamples readings
  | .random ctx v => s.takeRandom ctx v
  | .ink x => s.takeInk x
  | .legFault leg readback => s.takeFault leg.val (if readback then .readback else .flt)
  | .lawChange l .overruns8 => s.stopLaw l.val .overruns8
  | .lawChange l .overrun => s.coastLaw l.val .overrun
  | .feedbackLost chan => s.loseChannel chan.val
  | .clockLost clk => s.loseClock clk.val
  | .release k => s.releaseTask k
  | .carousel c => if s.pair.st = .standby then s.applyCar c else s
  | .curtSilent src => s.fallSilent src
  | .matrixTimeout g => s.matrixExpired g.val
  | .dispTempStale outlet chan => s.staleTemp outlet chan
  | .dcuSilent inst => s.dcuLost inst
  | .seccTimeout ctx => s.seccExpired ctx.val
  | .authWait ctx => s.authExpired ctx.val
  | .pauseMax ctx => s.pauseExpired ctx.val
  | .entryTimeout outlet => s.dropEntryBuffer (outlet.val + 1)
  | .outcomeTextExpiry outlet => s.dropText (outlet.val + 1)
  | .changeDisplayTimeout outlet => s.dropChange (outlet.val + 1)
  | .dioPause outlet => s.dioSilent (outlet.val + 1)
  | .dioEnd outlet => s.dioEnded (outlet.val + 1)
  | .noCounter ctx => s.goNoCounter ctx.val
  | .canRefLost chan => s.loseCanRef chan.val
  | .revisionCancelled => s.revisionCancel
  | .activationBoundary b => s.nameBoundary b
  | .activationDeadline => s.passDeadline
  | .mark _ => s.markHolds tick
  | .wallStep delta => s.ptpStep delta
  | .wallSlew delta => s.ptpSlew delta
  | .ptpState sync => s.wallPtp sync
  | .legsOff side on => s.takeLegsOff side on
  | .tamperInput input level => s.takeTamper input level

/-- The head of the journal leaves it. -/
def State.popEntry (s : State) (jseq : Nat) : State :=
  s.modPair fun p => { p with journal := p.journal.tail, applied := some jseq }

/-- The entry that an entry follows has taken effect, or none is known (R584). -/
def State.followsOn (s : State) (jseq : Nat) : Bool :=
  match s.pair.applied with
  | some a => jseq = (a + 1) % 2 ^ 32
  | none => true

/-- An entry that is not there at its EFFECT stamp puts a standby out of step (R586). -/
def State.missEntry (s : State) (jseq : Nat) : State := if s.pair.st = .standby then s.countLate.outOfStep 0 jseq else s

/-- The head of the journal at its EFFECT stamp (R585, R586). A module in RESYNC takes the state that the entries have made from the
transfer (R603). A payload may still come within the arc. -/
def State.applyEntry (s : State) (x : JPending) : State :=
  let q := x.entry.jseq
  if s.pair.st = .resync then s.popEntry q else
  match x.input with
  | some i => (s.settleHolds.popEntry q).applyInput x.entry.arrival (x.entry.effect - s.journalLead) i
  | none =>
    if s.stamp ≤ x.entry.effect then s
    else (s.popEntry q).missEntry q

/-- JOURNAL_EFFECT (R50, R585 to R587): the entry takes effect once its EFFECT stamp has come, entries in the order of their JSEQ. -/
def execJournalEffect (t jseq : Nat) (s : State) : Out :=
  let s := s.advance t
  .next (match s.pair.journal with
    | x :: _ =>
      if !s.followsOn x.entry.jseq && s.pair.st = .standby then
        if jseq < x.entry.jseq || x.entry.effect ≤ s.stamp then s.missEntry jseq else s
      else if x.entry.jseq = jseq && x.entry.effect ≤ s.stamp then s.applyEntry x
      else s
    | [] => if s.followsOn jseq then s.missEntry jseq else s)

end Sys2Proof.Machine
end

