-- ==== Sys2Proof/Machine/Dispatch.lean ====
section
/-!
DEFINITION. The meaning of every command: one direct call for each row of the opcode table.
-/
namespace Sys2Proof.Machine

open Sys2Proof

/-- The effect of a command on everything but the queue. -/
def exec (i : Instr) (s : State) : Host.Outcome State Fault Refusal :=
  match i with
  | .powerUp t volts10 => Sys2Proof.Machine.execPowerUp t volts10 s
  | .startStepTimeout t step => Sys2Proof.Machine.execStartStepTimeout t step s
  | .pairing t p => Sys2Proof.Machine.execPairing t p s
  | .pairWinExpiry t => Sys2Proof.Machine.execPairWinExpiry t s
  | .refFail t set obs => Sys2Proof.Machine.execRefFail t set obs s
  | .refValid t set m arcs => Sys2Proof.Machine.execRefValid t set m arcs s
  | .locked t obs => Sys2Proof.Machine.execLocked t obs s
  | .relock t obs => Sys2Proof.Machine.execRelock t obs s
  | .startWinExpiry t => Sys2Proof.Machine.execStartWinExpiry t s
  | .glide t => Sys2Proof.Machine.execGlide t s
  | .nominal t => Sys2Proof.Machine.execNominal t s
  | .revert t => Sys2Proof.Machine.execRevert t s
  | .strokeBoundary t ma mb x => Sys2Proof.Machine.execStrokeBoundary t ma mb x s
  | .halfTurnBoundary t half => Sys2Proof.Machine.execHalfTurnBoundary t half s
  | .ptpAnnounce t port m => Sys2Proof.Machine.execPtpAnnounce t port m s
  | .ptpSync t port identity offsetNs pathDelayNs => Sys2Proof.Machine.execPtpSync t port identity offsetNs pathDelayNs s
  | .ptpTimeout t => Sys2Proof.Machine.execPtpTimeout t s
  | .wallTimeSet t conn sec nsec => Sys2Proof.Machine.execWallTimeSet t conn sec nsec s
  | .scribeTimeCount t => Sys2Proof.Machine.execScribeTimeCount t s
  | .get t conn obj attr sel => Sys2Proof.Machine.execGet t conn obj attr sel s
  | .set t conn obj attr val => Sys2Proof.Machine.execSet t conn obj attr val s
  | .setStage t conn base recs => Sys2Proof.Machine.execSetStage t conn base recs s
  | .check t conn => Sys2Proof.Machine.execCheck t conn s
  | .commit t conn code boundary => Sys2Proof.Machine.execCommit t conn code boundary s
  | .revisionAck t hash => Sys2Proof.Machine.execRevisionAck t hash s
  | .revisionCancelled t => Sys2Proof.Machine.execRevisionCancelled t s
  | .subscribe t conn names seq => Sys2Proof.Machine.execSubscribe t conn names seq s
  | .event t conn => Sys2Proof.Machine.execEvent t conn s
  | .attest t conn nonce => Sys2Proof.Machine.execAttest t conn nonce s
  | .updatePiece t conn piece data sigOk => Sys2Proof.Machine.execUpdatePiece t conn piece data sigOk s
  | .portReset t conn => Sys2Proof.Machine.execPortReset t conn s
  | .connectionOpen t port addr ou ca timeValid => Sys2Proof.Machine.execConnectionOpen t port addr ou ca timeValid s
  | .connectionLost t conn => Sys2Proof.Machine.execConnectionLost t conn s
  | .malformedMessage t conn why => Sys2Proof.Machine.execMalformedMessage t conn why s
  | .bankRevert t conn obs => Sys2Proof.Machine.execBankRevert t conn obs s
  | .taskRelease t k => Sys2Proof.Machine.execTaskRelease t k s
  | .taskTake t nib obs => Sys2Proof.Machine.execTaskTake t nib obs s
  | .park t x => Sys2Proof.Machine.execPark t x s
  | .taskComplete t nib err => Sys2Proof.Machine.execTaskComplete t nib err s
  | .thirdCopyTimeout t l => Sys2Proof.Machine.execThirdCopyTimeout t l s
  | .deadlineMiss t dom seq => Sys2Proof.Machine.execDeadlineMiss t dom seq s
  | .inkwellScrub t addr obs => Sys2Proof.Machine.execInkwellScrub t addr obs s
  | .dramScrub t channel block obs => Sys2Proof.Machine.execDramScrub t channel block obs s
  | .nibBistStart t => Sys2Proof.Machine.execNibBistStart t s
  | .nibBistDone t nib pass => Sys2Proof.Machine.execNibBistDone t nib pass s
  | .legFault t leg lowTicks => Sys2Proof.Machine.execLegFault t leg lowTicks s
  | .readbackFault t leg => Sys2Proof.Machine.execReadbackFault t leg s
  | .driveContention t leg net mV => Sys2Proof.Machine.execDriveContention t leg net mV s
  | .contentionResolved t leg net cleanStroke => Sys2Proof.Machine.execContentionResolved t leg net cleanStroke s
  | .legsOffAsserted t side => Sys2Proof.Machine.execLegsOffAsserted t side s
  | .legsOffReleased t side => Sys2Proof.Machine.execLegsOffReleased t side s
  | .legClear t conn leg => Sys2Proof.Machine.execLegClear t conn leg s
  | .feedbackLost t chan clocks => Sys2Proof.Machine.execFeedbackLost t chan clocks s
  | .sdckLost t clk obs => Sys2Proof.Machine.execSdckLost t clk obs s
  | .sdckValid t clk turns => Sys2Proof.Machine.execSdckValid t clk turns s
  | .lawClear t conn l => Sys2Proof.Machine.execLawClear t conn l s
  | .inkPoint t other => Sys2Proof.Machine.execInkPoint t other s
  | .curtailmentWrite t conn limitKw validS => Sys2Proof.Machine.execCurtailmentWrite t conn limitKw validS s
  | .gridCommand t chan payload => Sys2Proof.Machine.execGridCommand t chan payload s
  | .curtSilent t src => Sys2Proof.Machine.execCurtSilent t src s
  | .contactorStatus t g payload => Sys2Proof.Machine.execContactorStatus t g payload s
  | .matrixTimeout t g => Sys2Proof.Machine.execMatrixTimeout t g s
  | .matrixClear t conn g => Sys2Proof.Machine.execMatrixClear t conn g s
  | .aiSample t readings => Sys2Proof.Machine.execAiSample t readings s
  | .sensorValid t sensor => Sys2Proof.Machine.execSensorValid t sensor s
  | .dispTempStale t outlet chan => Sys2Proof.Machine.execDispTempStale t outlet chan s
  | .thermalDisagree t sensor => Sys2Proof.Machine.execThermalDisagree t sensor s
  | .dcuStatus t inst payload => Sys2Proof.Machine.execDcuStatus t inst payload s
  | .dcuSilent t inst => Sys2Proof.Machine.execDcuSilent t inst s
  | .nodeViewSet t conn node => Sys2Proof.Machine.execNodeViewSet t conn node s
  | .vlink t src port d => Sys2Proof.Machine.execVlink t src port d s
  | .sdpRequest t outlet tls => Sys2Proof.Machine.execSdpRequest t outlet tls s
  | .v2gMessage t ctx msg => Sys2Proof.Machine.execV2gMessage t ctx msg s
  | .seccTimeout t ctx => Sys2Proof.Machine.execSeccTimeout t ctx s
  | .authWait t ctx => Sys2Proof.Machine.execAuthWait t ctx s
  | .cableCheck t ctx => Sys2Proof.Machine.execCableCheck t ctx s
  | .deliveringFlagClear t ctx => Sys2Proof.Machine.execDeliveringFlagClear t ctx s
  | .dio t x d => Sys2Proof.Machine.execDio t x d s
  | .entryTimeout t outlet => Sys2Proof.Machine.execEntryTimeout t outlet s
  | .dioSend t outlet => Sys2Proof.Machine.execDioSend t outlet s
  | .dioPause t outlet => Sys2Proof.Machine.execDioPause t outlet s
  | .dioEnd t outlet => Sys2Proof.Machine.execDioEnd t outlet s
  | .pauseMax t ctx => Sys2Proof.Machine.execPauseMax t ctx s
  | .hello t x d => Sys2Proof.Machine.execHello t x d s
  | .timeSend t => Sys2Proof.Machine.execTimeSend t s
  | .certExpiring t certs => Sys2Proof.Machine.execCertExpiring t certs s
  | .periodMark t m => Sys2Proof.Machine.execPeriodMark t m s
  | .meterInputFault t outlet obs => Sys2Proof.Machine.execMeterInputFault t outlet obs s
  | .seal t conn => Sys2Proof.Machine.execSeal t conn s
  | .sealBreak t conn => Sys2Proof.Machine.execSealBreak t conn s
  | .receiptSelect t conn no => Sys2Proof.Machine.execReceiptSelect t conn no s
  | .counterSignature t ctx serial sig => Sys2Proof.Machine.execCounterSignature t ctx serial sig s
  | .noCounter t ctx => Sys2Proof.Machine.execNoCounter t ctx s
  | .sessionReceipt t ctx => Sys2Proof.Machine.execSessionReceipt t ctx s
  | .changeDisplayTimeout t outlet => Sys2Proof.Machine.execChangeDisplayTimeout t outlet s
  | .changeTokenLookup t conn tokenId => Sys2Proof.Machine.execChangeTokenLookup t conn tokenId s
  | .openingReading t r => Sys2Proof.Machine.execOpeningReading t r s
  | .tamperInput t input debouncedMs level => Sys2Proof.Machine.execTamperInput t input debouncedMs level s
  | .safetyCycle t levels disagree soHigh => Sys2Proof.Machine.execSafetyCycle t levels disagree soHigh s
  | .safetyDemand t input => Sys2Proof.Machine.execSafetyDemand t input s
  | .safetyClear t input => Sys2Proof.Machine.execSafetyClear t input s
  | .pulseFault t input obs => Sys2Proof.Machine.execPulseFault t input obs s
  | .discrepancyTimeout t fn => Sys2Proof.Machine.execDiscrepancyTimeout t fn s
  | .resetPress t input rise => Sys2Proof.Machine.execResetPress t input rise s
  | .weldDemand t fn => Sys2Proof.Machine.execWeldDemand t fn s
  | .degradedExpired t fn => Sys2Proof.Machine.execDegradedExpired t fn s
  | .channelRepaired t input => Sys2Proof.Machine.execChannelRepaired t input s
  | .safetyAcknowledge t conn fn => Sys2Proof.Machine.execSafetyAcknowledge t conn fn s
  | .safetyCrossCheck t divergent => Sys2Proof.Machine.execSafetyCrossCheck t divergent s
  | .darkTest t so readbackLow => Sys2Proof.Machine.execDarkTest t so readbackLow s
  | .soOvercurrent t so mA => Sys2Proof.Machine.execSoOvercurrent t so mA s
  | .heartbeat t => Sys2Proof.Machine.execHeartbeat t s
  | .orphanEnter t => Sys2Proof.Machine.execOrphanEnter t s
  | .orphanTimeout t => Sys2Proof.Machine.execOrphanTimeout t s
  | .safetyChange t conn pw ch => Sys2Proof.Machine.execSafetyChange t conn pw ch s
  | .safetyChangeUnlock t => Sys2Proof.Machine.execSafetyChangeUnlock t s
  | .hallChange t pump code stableNs bstMv => Sys2Proof.Machine.execHallChange t pump code stableNs bstMv s
  | .hallFault t pump => Sys2Proof.Machine.execHallFault t pump s
  | .stall t pump => Sys2Proof.Machine.execStall t pump s
  | .bootstrapRefresh t pump phase sinceLowNs => Sys2Proof.Machine.execBootstrapRefresh t pump phase sinceLowNs s
  | .bstUv t pump phase mv => Sys2Proof.Machine.execBstUv t pump phase mv s
  | .pumpShort t pump obs => Sys2Proof.Machine.execPumpShort t pump obs s
  | .vmHold t pump dv lastedUs => Sys2Proof.Machine.execVmHold t pump dv lastedUs s
  | .vmRecovered t pump dv lastedMs => Sys2Proof.Machine.execVmRecovered t pump dv lastedMs s
  | .pumpDiag t pump obs => Sys2Proof.Machine.execPumpDiag t pump obs s
  | .pumpDiagRepeat t pump => Sys2Proof.Machine.execPumpDiagRepeat t pump s
  | .pumpRetry t pump => Sys2Proof.Machine.execPumpRetry t pump s
  | .pumpRetryReset t pump => Sys2Proof.Machine.execPumpRetryReset t pump s
  | .pumpClear t conn pump => Sys2Proof.Machine.execPumpClear t conn pump s
  | .partnerPumpState t states => Sys2Proof.Machine.execPartnerPumpState t states s
  | .lsInChange t ls level => Sys2Proof.Machine.execLsInChange t ls level s
  | .lsTurnOnComplete t ls outPct => Sys2Proof.Machine.execLsTurnOnComplete t ls outPct s
  | .lsShort t ls x supplyMv us => Sys2Proof.Machine.execLsShort t ls x supplyMv us s
  | .lsOverload t ls mA ms => Sys2Proof.Machine.execLsOverload t ls mA ms s
  | .lsSlewFault t ls outMv supplyMv => Sys2Proof.Machine.execLsSlewFault t ls outMv supplyMv s
  | .lsOpenLoad t ls th below uA ms => Sys2Proof.Machine.execLsOpenLoad t ls th below uA ms s
  | .lsFreewheel t ls outMv us => Sys2Proof.Machine.execLsFreewheel t ls outMv us s
  | .lsThermal t ls degC => Sys2Proof.Machine.execLsThermal t ls degC s
  | .lsRetry t ls => Sys2Proof.Machine.execLsRetry t ls s
  | .lsRetryReset t ls => Sys2Proof.Machine.execLsRetryReset t ls s
  | .lsSupplyUv t vs mv us => Sys2Proof.Machine.execLsSupplyUv t vs mv us s
  | .lsSupplyRecovered t vs mv us => Sys2Proof.Machine.execLsSupplyRecovered t vs mv us s
  | .loadSwitchClear t conn ls => Sys2Proof.Machine.execLoadSwitchClear t conn ls s
  | .regTurnOn t buck => Sys2Proof.Machine.execRegTurnOn t buck s
  | .regTurnOff t buck => Sys2Proof.Machine.execRegTurnOff t buck s
  | .regRampDone t buck => Sys2Proof.Machine.execRegRampDone t buck s
  | .regSyncLock t buck khz => Sys2Proof.Machine.execRegSyncLock t buck khz s
  | .syncLost t buck waitNs khz => Sys2Proof.Machine.execSyncLost t buck waitNs khz s
  | .regHiccup t buck x periods => Sys2Proof.Machine.execRegHiccup t buck x periods s
  | .regHiccupEnd t buck => Sys2Proof.Machine.execRegHiccupEnd t buck s
  | .regFault t buck fbPct us => Sys2Proof.Machine.execRegFault t buck fbPct us s
  | .regThermal t buck degC => Sys2Proof.Machine.execRegThermal t buck degC s
  | .regRetryWaitEnd t buck => Sys2Proof.Machine.execRegRetryWaitEnd t buck s
  | .regPg t buck fbPermille ms => Sys2Proof.Machine.execRegPg t buck fbPermille ms s
  | .regRetryReset t buck => Sys2Proof.Machine.execRegRetryReset t buck s
  | .regulatorClear t conn buck => Sys2Proof.Machine.execRegulatorClear t conn buck s
  | .railFault t rail mV us hiccup => Sys2Proof.Machine.execRailFault t rail mV us hiccup s
  | .railRestart t => Sys2Proof.Machine.execRailRestart t s
  | .auxInLow t volts10 => Sys2Proof.Machine.execAuxInLow t volts10 s
  | .pfail t ballUs auxLowUs => Sys2Proof.Machine.execPfail t ballUs auxLowUs s
  | .pfailPowerDown t auxVolts10 => Sys2Proof.Machine.execPfailPowerDown t auxVolts10 s
  | .dieTempMonitor t r => Sys2Proof.Machine.execDieTempMonitor t r s
  | .journalEntryReceived t x => Sys2Proof.Machine.execJournalEntryReceived t x s
  | .payloadFetch t x => Sys2Proof.Machine.execPayloadFetch t x s
  | .journalEffect t jseq => Sys2Proof.Machine.execJournalEffect t jseq s
  | .unmatchedCopyDiscard t source digest => Sys2Proof.Machine.execUnmatchedCopyDiscard t source digest s
  | .strokeRecord t r => Sys2Proof.Machine.execStrokeRecord t r s
  | .carouselAlignment t delayNs errNs => Sys2Proof.Machine.execCarouselAlignment t delayNs errNs s
  | .misalignment t errNs => Sys2Proof.Machine.execMisalignment t errNs s
  | .pairHeartbeat t link b => Sys2Proof.Machine.execPairHeartbeat t link b s
  | .ringWatchdogLapse t ticks => Sys2Proof.Machine.execRingWatchdogLapse t ticks s
  | .ringLost t ticks => Sys2Proof.Machine.execRingLost t ticks s
  | .heartbeatLost t => Sys2Proof.Machine.execHeartbeatLost t s
  | .newHolderDrive t => Sys2Proof.Machine.execNewHolderDrive t s
  | .yield_ t => Sys2Proof.Machine.execYield t s
  | .yieldMessage t => Sys2Proof.Machine.execYieldMessage t s
  | .yieldExecute t conn => Sys2Proof.Machine.execYieldExecute t conn s
  | .partnerDigest t boundary digest => Sys2Proof.Machine.execPartnerDigest t boundary digest s
  | .divergenceResult t own partnerPass => Sys2Proof.Machine.execDivergenceResult t own partnerPass s
  | .resyncDone t outstanding mib x => Sys2Proof.Machine.execResyncDone t outstanding mib x s
  | .agreeingDriveTest t leg net mV edgeNear => Sys2Proof.Machine.execAgreeingDriveTest t leg net mV edgeNear s
  | .ringBurst t transitions => Sys2Proof.Machine.execRingBurst t transitions s
  | .healthReport t => Sys2Proof.Machine.execHealthReport t s
  | .linkState t link up => Sys2Proof.Machine.execLinkState t link up s
  | .recommission t conn p => Sys2Proof.Machine.execRecommission t conn p s
  | .canFrameReceived t chan f => Sys2Proof.Machine.execCanFrameReceived t chan f s
  | .canWindow t chan entry idle heard => Sys2Proof.Machine.execCanWindow t chan entry idle heard s
  | .canTxDone t chan e => Sys2Proof.Machine.execCanTxDone t chan e s
  | .canBusOffRecovery t chan occurrences => Sys2Proof.Machine.execCanBusOffRecovery t chan occurrences s
  | .canRefLost t chan => Sys2Proof.Machine.execCanRefLost t chan s
  | .ethFrameReceived t port vid k => Sys2Proof.Machine.execEthFrameReceived t port vid k s
  | .ethLink t port up => Sys2Proof.Machine.execEthLink t port up s
  | .ethAddrDup t port => Sys2Proof.Machine.execEthAddrDup t port s
  | .telemetrySend t stream queueFull => Sys2Proof.Machine.execTelemetrySend t stream queueFull s
  | .keyImport t conn slot k => Sys2Proof.Machine.execKeyImport t conn slot k s
  | .keyDestroy t conn slot => Sys2Proof.Machine.execKeyDestroy t conn slot s
  | .commission t conn hubId partner => Sys2Proof.Machine.execCommission t conn hubId partner s
  | .retire t conn serial => Sys2Proof.Machine.execRetire t conn serial s
  | .updateCheckDone t kind2 obs => Sys2Proof.Machine.execUpdateCheckDone t kind2 obs s
  | .updateAbort t conn kind2 => Sys2Proof.Machine.execUpdateAbort t conn kind2 s
  | .arm t conn deadlineMin drain => Sys2Proof.Machine.execArm t conn deadlineMin drain s
  | .disarm t conn => Sys2Proof.Machine.execDisarm t conn s
  | .armPrepareDone t partner obs => Sys2Proof.Machine.execArmPrepareDone t partner obs s
  | .activationDeadline t => Sys2Proof.Machine.execActivationDeadline t s
  | .activationDone t partnerPass => Sys2Proof.Machine.execActivationDone t partnerPass s
  | .activationReverted t partnerReverted => Sys2Proof.Machine.execActivationReverted t partnerReverted s
  | .rollbackAdvanced t => Sys2Proof.Machine.execRollbackAdvanced t s
  | .rollbackCommit t conn => Sys2Proof.Machine.execRollbackCommit t conn s
  | .legalRelease t conn partHash legalVer => Sys2Proof.Machine.execLegalRelease t conn partHash legalVer s
  | .startStepComplete t step obs => Sys2Proof.Machine.execStartStepComplete t step obs s
  | .logicDieRestart t => Sys2Proof.Machine.execLogicDieRestart t s
  | .legEdge t leg hi lo mv => Sys2Proof.Machine.execLegEdge t leg hi lo mv s
  | .legSample t leg => Sys2Proof.Machine.execLegSample t leg s
  | .modulatorClock t metering clk bits => Sys2Proof.Machine.execModulatorClock t metering clk bits s
  | .outcomeTextExpiry t outlet => Sys2Proof.Machine.execOutcomeTextExpiry t outlet s
  | .dutyRampedToZero t pump => Sys2Proof.Machine.execDutyRampedToZero t pump s
  | .timerOutputPulse t tmr => Sys2Proof.Machine.execTimerOutputPulse t tmr s
  | .canReceiveError t chan e => Sys2Proof.Machine.execCanReceiveError t chan e s

end Sys2Proof.Machine
end

