-- ==== Sys2Proof/Safety.lean ====
section
/-!
DEFINITION. What the statements speak of: a command that completes, what a command leaves unchanged, and what a safe state of the
block is.
-/
namespace Sys2Proof.Machine

open Sys2Proof

/-- The parts of the state, one for each field of State. -/
inductive Part where
  | time | free | carousel | wall | startup | flash | array | legs | laws | juggler | thermal | barker | scribe | ident | keys
  | update | ptp | pair | port | tokens | tamper | safety | drives | supply | buses | pending
  deriving DecidableEq, Repr

/-- A part is the same in two states. -/
def State.same (s u : State) : Part → Prop
  | .time => u.time = s.time
  | .free => u.free = s.free
  | .carousel => u.carousel = s.carousel
  | .wall => u.wall = s.wall
  | .startup => u.startup = s.startup
  | .flash => u.flash = s.flash
  | .array => u.array = s.array
  | .legs => u.legs = s.legs
  | .laws => u.laws = s.laws
  | .juggler => u.juggler = s.juggler
  | .thermal => u.thermal = s.thermal
  | .barker => u.barker = s.barker
  | .scribe => u.scribe = s.scribe
  | .ident => u.ident = s.ident
  | .keys => u.keys = s.keys
  | .update => u.update = s.update
  | .ptp => u.ptp = s.ptp
  | .pair => u.pair = s.pair
  | .port => u.port = s.port
  | .tokens => u.tokens = s.tokens
  | .tamper => u.tamper = s.tamper
  | .safety => u.safety = s.safety
  | .drives => u.drives = s.drives
  | .supply => u.supply = s.supply
  | .buses => u.buses = s.buses
  | .pending => u.pending = s.pending

/-- From the state to which time has passed, nothing changes but the parts named. -/
def Only (changed : List Part) (z u : State) : Prop := ∀ p, p ∉ changed → z.same u p

/-- The command answers a next state, of which `P` holds. -/
def Done (i : Instr) (s : State) (P : State → Prop) : Prop := ∃ u, exec i s = .next u ∧ P u

/-- The requests of a connection that wait for their answers (R449). -/
def State.waits (s : State) (c : ConnNo) : List PortSlot := ((s.port.conns[c]).map (·.slots)).getD []

/-- The operation `r` of a client on an object is served: the connection is open and fewer than 16 of its requests wait, the module is in
service, the object is there, and the role has the right (R449, R452). -/
def Allowed (z : State) (c : ConnNo) (r : Right) (o : Obis) : Prop :=
  z.startup.mode = .service ∧ z.absent o = false ∧ (z.waits c).length < 16 ∧
    ∃ k, z.port.conns[c] = some k ∧ z.hasRight k.role r o = true

/-- RES of the response to the last request on a connection, sent or kept in its place (R449, Table 11.10). -/
def State.res (s : State) (c : ConnNo) : Option Nat := (s.port.conns[c]).bind fun k => match k.slots.getLast? with
  | some (.ready a) => some a.res
  | some _ => none
  | none => k.answer.map (·.res)

/-! ### Inputs of the pair (R50, R583 to R587) -/

/-- The state in which the entry at the head of the journal takes effect: the entry has left the journal. -/
def State.popped (s : State) (jseq : Nat) : State := s.settleHolds.popEntry jseq

/-- Input `j` at the head of the journal, its EFFECT stamp come: where `H` holds of the state that the entry has left, `P` holds of
that state and the next. -/
def Effect (j : JInput) (H : State → Prop) (P : State → State → Prop) : Prop :=
  ∀ (s z : State) (t : Nat) (x : JPending), z = s.advance t → z.pair.journal.head? = some x → x.input = some j →
    x.entry.effect ≤ z.stamp → z.pair.st ≠ .resync → (z.followsOn x.entry.jseq = true ∨ z.pair.st ≠ .standby) →
    H (z.popped x.entry.jseq) → Done (.journalEffect t x.entry.jseq) s (P (z.popped x.entry.jseq))

/-- What becomes of a command that brings input `j` in a pair: the holder, or a module in SOLO, enters it in its journal; a follower
keeps a copy of a referenced input, and does nothing else. -/
def Enters (i : Instr) (j : JInput) (s z : State) : Prop :=
  (z.pair.st = .holder ∨ z.pair.st = .solo → Done i s fun u => u = z.journal j) ∧
  (z.decides = false → inputInline j = true → Done i s fun u => u = z) ∧
  (z.decides = false → inputInline j = false → Done i s fun u =>
    u.pair = { z.pair with copies := z.pair.copies ++
      [{ source := inputSource j, digest := (inputSum j).2, phase := z.carousel.phase, input := j }] } ∧ Only [.pair] z u)

/-- A command brings input `j` where `G` holds: in a pair it enters the journal, without one it takes effect at once; the effect,
where `H` holds, is `P` of the state before it and the state after. -/
def Input (i : Nat → Instr) (j : JInput) (G H : State → Prop) (P : State → State → Prop) : Prop :=
  (∀ (s z : State) (t : Nat), z = s.advance t → G z →
    Enters (i t) j s z ∧ (journals z.pair.st = false → H z → Done (i t) s (P z))) ∧
  Effect j H P

/-- The state in which a request of a connection waits for its effect. -/
def State.asked (s : State) (c : ConnNo) : State := s.modConn c fun k => { k with slots := k.slots ++ [.pending] }

/-- An operation of a client that changes the module (R451, R583): the holder, or a module in SOLO, enters it in its journal; a
follower leaves it to the holder; a module without a journal does it at once. Its effect, where `H` holds, is `P`, and its answer
`res`. -/
def Request (i : Nat → Instr) (c : ConnNo) (o : Obis) (r : Right) (q : OpReq) (res : Nat) (H : State → Prop)
    (P : State → State → Prop) : Prop :=
  (∀ (s z : State) (t : Nat) (k : Conn), z = s.advance t → Allowed z c r o → z.port.conns[c] = some k →
    (z.pair.st = .holder ∨ z.pair.st = .solo →
      Done (i t) s fun u => u = (z.asked c).journal (.op true c k.role k.addr q)) ∧
    (z.decides = false → Done (i t) s fun u => u = z.asked c) ∧
    (journals z.pair.st = false → z.waits c = [] → H z → Done (i t) s fun u => P z u ∧ u.res c = some res)) ∧
  ∀ (here : Bool) (role : Role) (addr : Nat), Effect (.op here c role addr q) H fun z u =>
    P z u ∧ (here = true → z.waits c = [.pending] → u.res c = some res)

/-- The event raised last. -/
def State.lastEv (s : State) : Option Ev := s.port.events.head?.map (·.ev)

/-- Both flashes keep the canonical form of their page lists. -/
def FlashOk (s : State) : Prop := s.flash.a.wf = true ∧ s.flash.b.wf = true

/-- No more events are kept than R455 says. -/
def EventsOk (s : State) : Prop := s.port.events.length ≤ 65536

/-- A safe state: no leg drives both its nets, and no safety output that a demand names is on. -/
def Safe (s : State) : Prop :=
  (∀ n, n < 128 → ¬((s.leg n).hi = true ∧ (s.leg n).lo = true)) ∧
  ∀ n, n < 8 → s.soDemand n = true → (vget s.safety.outs n {}).on = false

/-- A tunnel frame of a TYPE passes every check for outlet `o` but that of its SEQ (R341, R342, R350). -/
def FrameFor (z : State) (f : Tunnel) (typ o : Nat) : Prop :=
  f.crcOk = true ∧ f.magic = 0x4842 ∧ f.version = 1 ∧ f.typ = typ ∧ f.lenOk = true ∧ f.dir = false ∧
    z.outletOfDisp f.dispId = some o ∧ 1 ≤ o ∧ o ≤ 64 ∧ (typ = 3 ∨ f.outlet = o) ∧ (z.tagGood o f).1 = true ∧
    z.sourceGood o f.src = true

end Sys2Proof.Machine
end

