-- ==== Sys2Proof/Certificates/Slice0/Obligations.lean ====
section
/-!
DEFINITION. The statements for the provers: what each command does, what it leaves unchanged, and what every step keeps.
The rules a docstring names say where its clauses come from; what is claimed of them is what the Lean writes out.
-/
open Sys2Proof Sys2Proof.Config Sys2Proof.Machine

/-- A step takes the command at the front of the queue and is `exec` of it on the state with the rest of the queue. With an
empty queue the block idles (the model's choice, log 48). Choices of the model it rests on: log 48. -/
def Obligations.StepRunsFrontCommand : Prop :=
  (∀ (s : State) (c : Instr) (rest : List Instr), s.pending = c :: rest → step s = exec c { s with pending := rest }) ∧
  (∀ s : State, s.pending = [] → step s = .next s)

/-- No command ends in a fault or a refusal, and no command touches the queue, the serial number, the ordering code or the
pair position, which are fuses, one-time programmable values and a strap pin (R1, R579, R669). -/
def Obligations.EveryCommandCompletes : Prop :=
  ∀ (i : Instr) (s : State), ∃ u, exec i s = .next u ∧ u.pending = s.pending ∧ u.ident.serial = s.ident.serial ∧
    u.ident.orderN = s.ident.orderN ∧ u.ident.pairPos = s.ident.pairPos

/-- A step of a state with well-formed flashes gives one: page numbers rise, every page is whole, and no page listed is an
erased one (R66). Choices of the model it rests on: log 21. -/
def Obligations.StepKeepsFlashes : Prop :=
  ∀ s u : State, FlashOk s → step s = .next u → FlashOk u

/-- No step writes the flash of the bank in use (R66, R67, R683, R688): every piece and every preparation goes to the other
bank. -/
def Obligations.StepKeepsTheActiveBank : Prop :=
  ∀ s u : State, step s = .next u → u.flash.bank s.startup.bank = s.flash.bank s.startup.bank

/-- Right after reset: the rails off, RING_OUT, the legs, the safety outputs, the pumps and the load switches off, the
Carousel not started and its stamp 0, every nib as at delivery, no event kept, the object port without connections, and an
empty queue. Reset has both flashes in their form, keeps no more events than R455 says, and is a safe state. Choices of the
model it rests on: log 3, 91. -/
def Obligations.ResetState : Prop :=
  State.reset.startup.mode = .off ∧ State.reset.supply.rails = .off ∧ State.reset.pair.ringOut = false ∧
  State.reset.carousel.started = false ∧ State.reset.carousel.running = false ∧ State.reset.stamp = 0 ∧
  (∀ n, n < 128 → (State.reset.leg n).hi = false ∧ (State.reset.leg n).lo = false) ∧
  (∀ n, n < 8 → (vget State.reset.safety.outs n {}).on = false) ∧
  (∀ n, n < 8 → (State.reset.pump n).st = .off) ∧ (∀ n, n < 24 → (State.reset.ls n).st = .off) ∧
  (∀ n : Fin 256, State.reset.array.nibs[n] = {}) ∧ State.reset.port.events = [] ∧
  (∀ c : ConnNo, State.reset.port.conns[c] = none) ∧ State.reset.pending = [] ∧
  FlashOk State.reset ∧ EventsOk State.reset ∧ Safe State.reset

/-- REF_FAIL (R25, Table 2.1): a valid, wired set that reaches a limit fails, with its failure record; the other set keeps its
validity. In LOCKED the Carousel goes on with the other set if it is valid, and otherwise enters HOLDOVER; that of a follower
waits for the holder's decision. REF_VALID (R26, Table 2.1): a set never valid since start becomes valid after one turn that
meets R24, a failed one after four; in ACQUIRE the Carousel follows a valid set, in HOLDOVER, GLIDE and NOMINAL it enters
RELOCK; a follower leaves that to the holder. Choices of the model it rests on: log 1, 6, 22. -/
def Obligations.ReferencesFailAndBecomeValid : Prop :=
  (∀ (s z : State) (t : Nat) (i : SetId) (obs : RefObs), z = s.advance t →
    z.carousel.started = true → z.wired i = true → (z.carousel.set i).valid = true →
    ((∃ n, obs = .noTransition n ∧ 64 ≤ n) ∨ obs = .clockLost ∨
      (∃ m a, obs = .magnitude m a ∧ 2048 ≤ a ∧ (m < z.vMin ∨ z.vMax < m)) ∨
      (∃ f a, obs = .frequency f a ∧ 32768 ≤ a ∧ (f < z.fLo ∨ z.fHi < f))) →
    Done (.refFail t i obs) s fun u =>
      (u.carousel.set i).valid = false ∧ (u.carousel.set i).failCount = (z.carousel.set i).failCount + 1 ∧
      (u.carousel.set i).lastFail = some { cause := refCause obs, tick := z.tick, stamp := z.stamp } ∧
      u.carousel.set (otherSet i) = z.carousel.set (otherSet i) ∧
      (z.carousel.followed ≠ i → u.carousel.st = z.carousel.st ∧ u.carousel.followed = z.carousel.followed) ∧
      (z.decides = false → u.carousel.st = z.carousel.st ∧ u.carousel.followed = z.carousel.followed) ∧
      (z.decides = true → z.carousel.followed = i → z.carousel.st = .locked →
        if (z.carousel.set (otherSet i)).valid then u.carousel.st = .locked ∧ u.carousel.followed = otherSet i
        else u.carousel.st = .holdover ∧ u.carousel.holdFrom = z.carousel.phase ∧
          u.carousel.holdCount = z.carousel.holdCount + 1) ∧
      u.carousel.phase = z.carousel.phase ∧ Only [.carousel, .pair, .port] z u) ∧
  (∀ (s z : State) (t : Nat) (i : SetId) (m : LineMeas) (arcs : Nat), z = s.advance t →
    z.carousel.started = true → z.wired i = true → (z.carousel.set i).valid = false → m.transitions = true →
    z.vMin ≤ m.mag → m.mag ≤ z.vMax → z.fLo ≤ m.freq → m.freq ≤ z.fHi →
    (if (z.carousel.set i).everValid then 262144 else 65536) ≤ arcs →
    Done (.refValid t i m arcs) s fun u =>
      (u.carousel.set i).valid = true ∧ (u.carousel.set i).everValid = true ∧ (u.carousel.set i).validAt = z.carousel.phase ∧
      u.carousel.set (otherSet i) = z.carousel.set (otherSet i) ∧
      (z.carousel.st = .locked → u.carousel.st = .locked) ∧
      (z.decides = false → u.carousel.st = z.carousel.st ∧ u.carousel.followed = z.carousel.followed) ∧
      (z.decides = true → z.carousel.st = .holdover ∨ z.carousel.st = .glide ∨ z.carousel.st = .nominal →
        u.carousel.st = .relock ∧ (u.carousel.set u.carousel.followed).valid = true) ∧
      (z.decides = true → z.carousel.st = .acquire → u.carousel.st = .acquire ∧ (u.carousel.set u.carousel.followed).valid =
        true) ∧
      Only [.carousel, .pair, .port] z u)

/-- LOCKED, START_WIN_EXPIRY (R30, R32, Table 2.1): from ACQUIRE the first lock starts ARC at 0 and the strokes, and TURN at 0
or where the holder's count, adopted before, has come to (R589); from RELOCK the Carousel locks again without a break of the
line stamp; where START_WIN passes without a lock it runs at F_NOM in NOMINAL. RELOCK, GLIDE, NOMINAL, REVERT (R34, R36, R728,
Table 2.1). Loss of lock in LOCKED goes to RELOCK on the same set; HOLD_H turns of holdover end in GLIDE, the glide ends in
NOMINAL at F_NOM, and after REVERT turns of validity the return to the preferred set waits for the next half-turn boundary.
Choices of the model it rests on: log 1, 6, 114, 115. -/
def Obligations.CarouselStates : Prop :=
  (∀ (s z : State) (t : Nat) (o : LockObs), z = s.advance t → z.carousel.started = true →
    (z.carousel.set z.carousel.followed).valid = true → o.phaseErr ≤ 64 → o.freqErr ≤ 50 → 2 ≤ o.halfTurns →
    z.carousel.st = .acquire →
    Done (.locked t o) s fun u =>
      u.carousel.st = .locked ∧ u.carousel.running = true ∧ u.stamp % 65536 = 0 ∧
      (z.carousel.adopted = none → u.stamp = 0 ∧ u.carousel.stroke = 0 ∧ u.carousel.half = 0) ∧
      (∀ turn at_ : Nat, z.carousel.adopted = some (turn, at_) → turn ≤ u.stamp / 65536) ∧
      u.carousel.firstLock = z.tick ∧ Only [.carousel, .pair, .port] z u) ∧
  (∀ (s z : State) (t : Nat) (o : LockObs), z = s.advance t → z.carousel.started = true →
    (z.carousel.set z.carousel.followed).valid = true → o.phaseErr ≤ 64 → o.freqErr ≤ 50 → 2 ≤ o.halfTurns →
    z.carousel.st = .relock → z.decides = true →
    Done (.locked t o) s fun u =>
      u.carousel = { z.carousel with st := .locked } ∧ Only [.carousel, .pair, .port] z u) ∧
  (∀ (s z : State) (t : Nat), z = s.advance t → z.carousel.started = true → z.carousel.running = false →
    z.time.tick0 + z.startWin < z.time.clock → z.carousel.setA.valid = false → z.carousel.setB.valid = false →
    Done (.startWinExpiry t) s fun u =>
      u.carousel.st = .nominal ∧ u.carousel.running = true ∧ (z.carousel.adopted = none → u.stamp = 0) ∧ u.carousel.freq =
        z.fNom * 2 ^ 23 ∧
      Only [.carousel, .pair, .port] z u) ∧
  (∀ (s z : State) (t : Nat) (o : LockObs), z = s.advance t → z.carousel.st = .locked → z.decides = true →
    (z.carousel.set z.carousel.followed).valid = true → 1 ≤ o.halfTurns → (64 < o.phaseErr ∨ 50 < o.freqErr) →
    Done (.relock t o) s fun u =>
      u.carousel.st = .relock ∧ u.carousel.followed = z.carousel.followed ∧ u.carousel.phase = z.carousel.phase ∧
      u.carousel.relockCount = z.carousel.relockCount + 1 ∧ Only [.carousel, .pair, .port] z u) ∧
  (∀ (s z : State) (t : Nat), z = s.advance t → z.carousel.st = .holdover → z.decides = true →
    z.carousel.holdFrom + z.holdH * (2 ^ 32 * 400000000) ≤ z.carousel.phase →
    Done (.glide t) s fun u =>
      u.carousel = { z.carousel with st := .glide, glideFrom := (0, z.carousel.phase, z.carousel.freq) } ∧ Only [.carousel,
        .pair, .port] z u) ∧
  (∀ (s z : State) (t : Nat), z = s.advance t → z.carousel.st = .glide → z.decides = true →
    z.carousel.freq = z.fNom * 2 ^ 23 →
    Done (.nominal t) s fun u =>
      u.carousel.st = .nominal ∧ u.carousel.freq = z.fNom * 2 ^ 23 ∧ u.carousel.phase = z.carousel.phase ∧ Only [.carousel,
        .pair, .port] z u) ∧
  (∀ (s z : State) (t : Nat), z = s.advance t → z.carousel.st = .locked → z.decides = true →
    z.carousel.followed ≠ z.pref → (z.carousel.set z.pref).valid = true →
    (z.carousel.set z.pref).validAt + z.revertTurns * (2 ^ 32 * 400000000) ≤ z.carousel.phase →
    Done (.revert t) s fun u =>
      u.carousel = { z.carousel with revertDue := true } ∧ Only [.carousel] z u)

/-- STROKE_BOUNDARY and HALF_TURN_BOUNDARY (R40, R41, R42, R44, R265): nothing happens before the phase has reached the
boundary; then the stroke count is that of the stroke in which the phase stands, with the instant of its beginning in taps of
78.125 ps, and the half-turn count is that of the half-turn named, with the line stamp and tick of its boundary; a half-turn
that has begun, or not been reached, does nothing. Choices of the model it rests on: log 1, 6, 116. -/
def Obligations.Boundaries : Prop :=
  (∀ (s z : State) (t : Nat) (ma mb : LineMeas) (x : StrokeObs), z = s.advance t →
    z.carousel.running = true → z.carousel.stroke < strokeAt z.nStrokes z.carousel.phase →
    Done (.strokeBoundary t ma mb x) s fun u =>
      u.carousel.stroke = strokeAt z.nStrokes z.carousel.phase ∧ u.carousel.phase = z.carousel.phase ∧
      u.carousel.tap = 32 * z.tick -
        (z.carousel.phase - strokePhase z.nStrokes (strokeAt z.nStrokes z.carousel.phase)) * 32 / z.carousel.freq ∧
      u.carousel.strokeTick = z.tick ∧ Only [.carousel, .startup, .array, .legs, .laws, .juggler, .thermal, .scribe, .pair,
        .port, .tamper] z u) ∧
  (∀ (s z : State) (t : Nat) (ma mb : LineMeas) (x : StrokeObs), z = s.advance t →
    (z.carousel.running = false ∨ strokeAt z.nStrokes z.carousel.phase ≤ z.carousel.stroke) →
    Done (.strokeBoundary t ma mb x) s fun u => u = z) ∧
  (∀ (s z : State) (t h : Nat), z = s.advance t → z.carousel.running = true →
    z.carousel.half < h → h * (2 ^ 31 * 400000000) ≤ z.carousel.phase → z.startup.mode ≠ .service →
    Done (.halfTurnBoundary t h) s fun u =>
      u.carousel.half = h ∧ u.carousel.phase = z.carousel.phase ∧
      u.carousel.lastHalf = (h * 32768, z.tick) ∧ Only [.carousel, .pair, .port] z u) ∧
  (∀ (s z : State) (t h : Nat), z = s.advance t → z.carousel.running = true →
    z.carousel.half < h → h * (2 ^ 31 * 400000000) ≤ z.carousel.phase → z.startup.mode = .service → z.update.armed = none →
    Done (.halfTurnBoundary t h) s fun u =>
      u.carousel.half = h ∧ u.carousel.phase = z.carousel.phase ∧
      u.array.jugglerCount = 0 ∧ u.array.jugglerLost = false ∧ Only [.time, .carousel, .wall, .startup, .array, .legs, .laws,
        .juggler, .thermal, .barker, .scribe, .keys, .update, .ptp, .pair, .port, .tokens, .tamper, .safety, .drives, .supply,
        .buses] z u) ∧
  (∀ (s z : State) (t h : Nat), z = s.advance t →
    (z.carousel.running = false ∨ h ≤ z.carousel.half ∨ z.carousel.phase < h * (2 ^ 31 * 400000000)) →
    Done (.halfTurnBoundary t h) s fun u => u = z)

/-- AUX_IN_LOW, PFAIL, PFAIL_POWER_DOWN, RAIL_FAULT (R52, R411, R568 to R571, R573, R697): the logic die loses its state but
for flash and keys, PFAIL closes the Scribe and disarms, the hold-up time is recorded in whole milliseconds, and the third
rail fault within 60 s latches the rails off. DIE_TEMP_MONITOR (R574, Table 14.5): one reading is kept, its warning follows
the thresholds with their hysteresis, its alarm the alarm threshold, and the thermal latch of a rail's controller holds to its
clearing; a logic-die alarm that begins makes the module DEGRADED. Choices of the model it rests on: log 1, 64, 65, 66. -/
def Obligations.SuppliesAndDieTemperatures : Prop :=
  (∀ (s z : State) (t v : Nat), z = s.advance t → v < 165 → 165 ≤ z.supply.auxIn →
    Done (.auxInLow t v) s fun u =>
      u.startup.mode = .off ∧ u.supply.auxIn = v ∧ u.supply.rails = .off ∧ u.carousel = {} ∧ u.time.tick0 = z.time.clock ∧
      u.scribe.open_ = false ∧
      Only [.time, .carousel, .wall, .startup, .array, .legs, .laws, .juggler, .thermal, .barker, .scribe, .update, .ptp,
        .pair, .port, .tokens, .tamper, .safety, .drives, .supply, .buses] z u) ∧
  (∀ (s z : State) (t ball aux : Nat), z = s.advance t → (50 ≤ ball ∨ 50 ≤ aux) → 165 ≤ z.supply.auxIn → z.supply.pfail = none →
    Done (.pfail t ball aux) s fun u =>
      u.supply = { z.supply with pfail := some z.time.clock } ∧ u.update = { z.update with armed := none } ∧
      (z.update.armed = none → u.scribe.open_ = false ∧ Only [.scribe, .tamper, .port, .supply] z u) ∧ Only [.juggler, .barker,
        .scribe, .update, .pair, .port, .tokens, .tamper, .supply] z u) ∧
  (∀ (s z : State) (t aux a : Nat), z = s.advance t → z.supply.pfail = some a → (a + 4000000 ≤ z.time.clock ∨ aux < 165) →
    Done (.pfailPowerDown t aux) s fun u =>
      u.supply.holdup = some ((z.time.clock - a) / 400000) ∧ u.supply.auxIn = aux ∧ u.supply.pfail = none ∧ u.carousel = {} ∧
      u.time.tick0 = z.time.clock ∧ (aux ≤ 180 → u.startup.mode = .off) ∧
      (180 < aux → z.supply.rails ≠ .latched → z.supply.hotShut = false →
        u.startup.mode = .starting ∧ u.startup.auxRise = z.time.clock) ∧
      Only [.time, .carousel, .wall, .startup, .array, .legs, .laws, .juggler, .thermal, .barker, .scribe, .update, .ptp,
        .pair, .port, .tokens, .tamper, .safety, .drives, .supply, .buses] z u) ∧
  (∀ (s z : State) (t : Nat) (rail : Fin 4) (mV us : Nat) (hiccup : Bool), z = s.advance t →
    (((railOtp rail.val).outside 50 mV = true ∧ 100 ≤ us) ∨ hiccup = true) → (z.supply.rails = .up ∨ (z.supply.rails = .off ∧
      z.startup.mode = .starting)) →
    165 ≤ z.supply.auxIn → z.supply.pfail = none →
    Done (.railFault t rail mV us hiccup) s fun u =>
      u.supply.railFaults = z.time.clock :: z.supply.railFaults.filter (fun x => z.time.clock < x + 24000000000) ∧
      u.supply.rails = (if 3 ≤ u.supply.railFaults.length then .latched else .faultWait) ∧
      u.supply.railCount = z.supply.railCount + 1 ∧ u.startup.mode = .off ∧ u.carousel = {} ∧ u.safety.resetUntil = none ∧
      u.safety.orphan.isSome = true ∧
      Only [.time, .carousel, .wall, .startup, .array, .legs, .laws, .juggler, .thermal, .barker, .scribe, .update, .ptp,
        .pair, .port, .tokens, .tamper, .safety, .drives, .supply, .buses] z u) ∧
  (∀ (s z : State) (t : Nat) (n : Fin 16) (d : Int), z = s.advance t → 165 ≤ z.supply.auxIn → (9 ≤ n.val ∨ z.startup.mode ≠
    .off) →
    Done (.dieTempMonitor t [(n, d)]) s fun u =>
      vget u.supply.temps n 0 = d ∧
      vget u.supply.warns n false =
        (if vget z.supply.warns n false then decide ((dieLimits n).2.1 ≤ d) else decide ((dieLimits n).1 ≤ d)) ∧
      vget u.supply.alarms n false = (decide ((dieLimits n).2.2 ≤ d) ||
        (decide (10 ≤ n.val) && vget z.supply.alarms n false && decide (135 ≤ d))) ∧
      (∀ m : Fin 16, m ≠ n → vget u.supply.temps m 0 = vget z.supply.temps m 0) ∧
      (n.val < 8 → 125 ≤ d → vget z.supply.alarms n false = false → 2 ∈ u.pair.degraded) ∧
      (10 ≤ n.val → Only [.port, .supply] z u) ∧ Only [.time, .carousel, .wall, .startup, .array, .legs, .laws, .juggler,
        .thermal, .barker, .scribe, .update, .ptp, .pair, .port, .tokens, .tamper, .safety, .drives, .supply, .buses] z u)

/-- POWER_UP, RAIL_RESTART, LOGIC_DIE_RESTART (R91, R490, R568, R569): the start sequence begins as AUX_IN rises above 18 V,
100 ms after a rail fault, and from step 2 when the power die releases the logic die. START_STEP_TIMEOUT (R47, R92, R96, Table
3.8): a step that has not completed by its latest time refuses the image with its code; the Carousel's state is discarded and
the refusal record names no record. A step that would complete later is refused likewise. START_STEP_COMPLETE (R52, R90, R91,
R101, R455, R677, Table 3.8): in STARTING a step whose predecessors are complete completes in time: the rails are up, the
logic die leaves reset with its tick counter at 0 and its start count one higher, the manifest and the parts of the active
bank are verified, the image is read, an unpaired module settles as SOLO, the Carousel has locked, service begins. Choices of
the model it rests on: log 1, 26, 41, 64, 67, 136. -/
def Obligations.StartSequence : Prop :=
  (∀ (s z : State) (t v : Nat), z = s.advance t → 180 < v → z.startup.mode = .off → z.supply.rails = .off →
    z.supply.hotShut = false → z.safety.resetUntil = none →
    Done (.powerUp t v) s fun u =>
      u.startup = { z.startup with mode := .starting, auxRise := z.time.clock, done := [] } ∧ u.supply.auxIn = v ∧
      u.supply.rails = .off ∧ Only [.startup, .legs, .laws, .pair, .port, .safety, .supply] z u) ∧
  (∀ (s z : State) (t a : Nat) (l : List Nat), z = s.advance t → z.supply.railFaults = a :: l → z.supply.rails = .faultWait →
    z.railsCool = true → a + 40000000 ≤ z.time.clock →
    Done (.railRestart t) s fun u =>
      u.startup = { z.startup with mode := .starting, auxRise := z.time.clock, done := [] } ∧ u.supply.rails = .off ∧
      u.safety.resetUntil = none ∧ Only [.startup, .safety, .supply] z u) ∧
  (∀ (s z : State) (t e : Nat), z = s.advance t → z.safety.resetUntil = some e → e ≤ z.time.clock → z.supply.rails = .up →
    z.startup.mode = .off →
    Done (.logicDieRestart t) s fun u =>
      u.startup.mode = .starting ∧ u.startup.done = [(.s1, z.tick)] ∧ u.startup.auxRise = z.time.clock - 12000000 ∧
      u.safety.resetUntil = none ∧ Only [.startup, .safety] z u) ∧
  (∀ s : State, s.stepLimit .s1 = some (30, 0x21) ∧ s.stepLimit .s2 = some (35, 0x22) ∧ s.stepLimit .s3a = some (185, 0x2A) ∧
    s.stepLimit .s3b = some (235, 0x2B) ∧ s.stepLimit .s3c = some (800, 0x23) ∧ s.stepLimit .s4 = some (2800, 0x24) ∧
    s.stepLimit .s5 = some (3800, 0x25) ∧ s.stepLimit .s6 = some (4600, 0x26) ∧ s.stepLimit .s7 = none ∧
    s.stepLimit .s8 = some (5200, 0x28) ∧ s.stepLimit .s9 = some (6000, 0x29)) ∧
  (∀ (s z : State) (t : Nat) (step : Step) (ms code : Nat), z = s.advance t → z.stepLimit step = some (ms, code) →
    z.startup.mode = .starting → z.isDone step = false → z.startup.auxRise + ms * 400000 < z.time.clock →
    Done (.startStepTimeout t step) s fun u =>
      u.startup.mode = .refused ∧ (u.startup.refusal.map fun r => (r.code, r.index)) = some (code, noIndex) ∧ u.carousel = {} ∧
      u.scribe.open_ = false ∧ u.pair.st = .none ∧ u.pair.ringOut = false ∧ Only [.carousel, .startup, .scribe, .pair, .port] z
        u) ∧
  (∀ (s z : State) (t : Nat) (step : Step) (obs : ImageObs) (ms code : Nat), z = s.advance t → z.stepLimit step = some (ms,
    code) →
    z.startup.mode = .starting → z.isDone step = false → (∀ k ∈ stepNeeds step, z.isDone k = true) →
    z.startup.auxRise + ms * 400000 < z.time.clock →
    Done (.startStepComplete t step obs) s fun u =>
      u.startup.mode = .refused ∧ (u.startup.refusal.map fun r => (r.code, r.index)) = some (code, noIndex) ∧ u.carousel = {} ∧
      Only [.startup, .carousel, .scribe, .pair, .port] z u) ∧
  (∀ (s z : State) (t : Nat) (obs : ImageObs) (step : Step), z = s.advance t → z.startup.mode = .starting →
    z.isDone step = false → (∀ k ∈ stepNeeds step, z.isDone k = true) → z.stepLate step = false →
    (step = .s1 ∨ step = .s3b ∨ step = .s5 ∨ step = .s8 ∨ step = .s9 ∨
      (step = .s3a ∧ z.manifestGood z.startup.bank obs .boot = true) ∨
      (step = .s3c ∧ z.partsGood z.startup.bank = true) ∨ (step = .s6 ∧ z.startup.hdr.paired = false) ∨
      (step = .s7 ∧ z.carousel.running = true) ∨ (step = .s2 ∧ z.ident.life ≠ .retired ∧ obs.pufOk = true)) →
    Done (.startStepComplete t step obs) s fun u =>
      u.isDone step = true ∧ (step = .s1 → u.supply.rails = .up) ∧ (step = .s6 → u.pair.st = .solo) ∧
      (step = .s2 → u.tick = 0 ∧ u.port.startCount = (z.port.startCount + 1) % 2 ^ 32 ∧ u.safety.netFault = false) ∧
      (step = .s9 → u.startup.mode = .service ∧ u.update.served.2 = some z.time.clock) ∧ (step ≠ .s9 → u.startup.mode =
        .starting) ∧
      Only [.time, .carousel, .startup, .array, .legs, .laws, .juggler, .thermal, .barker, .scribe, .keys, .update, .pair,
        .port, .tokens, .tamper, .safety, .drives, .supply, .buses] z u) ∧
  (∀ (s z : State) (t : Nat) (obs : ImageObs), z = s.advance t → z.startup.mode = .starting → z.isDone .s4 = false →
    z.isDone .s3c = true → z.stepLate .s4 = false →
    Done (.startStepComplete t .s4 obs) s fun u =>
      match z.checkBank z.startup.bank obs with
      | .error e => u.startup.mode = .refused ∧ (u.startup.refusal.map fun r => (r.code, r.index)) = some (e.1, e.2) ∧
        u.carousel = {}
      | .ok x => u.isDone .s4 = true ∧ u.startup.mode = .starting ∧ u.startup.hdr = x.1 ∧ u.startup.refusal = none)

/-- PAIRING, PAIR_WIN_EXPIRY (R93, R580 to R582, R611, R612, Table 15.1): a partner that passes every check, whose binding
names this module, and that is not in service makes this module HOLDER at PAIR_POS high and STANDBY at low, and is remembered;
without a partner within PAIR_WIN of step 5 the module settles as SOLO. A different ordering code is a pairing fault and SOLO
(R5); equal PAIR_POS, or no binding yet, is HELD. In HELD a partner whose attestation names this module is bound, and the
module restarts (log 154). Choices of the model it rests on: log 1, 30, 31, 32, 154. -/
def Obligations.Pairing : Prop :=
  (∀ (s z : State) (t : Nat) (p : PartnerInfo), z = s.advance t → z.startup.mode = .starting → z.pair.st = .pairing →
    p.paired = true → z.startup.hdr.paired = true → p.attestOk = true → p.orderN = z.ident.orderN → p.pairPos ≠ z.ident.pairPos
      →
    p.recordsHash = z.startup.hdr.recordsHash → p.serial = z.ident.partnerSerial → p.boundSerial = z.ident.serial →
    (z.ident.partnerHash = none ∨ z.ident.partnerHash = some p.idHash) → p.inService = false → z.stepLate .s6 = false →
    Done (.pairing t p) s fun u =>
      u.pair.st = (if z.ident.pairPos then .holder else .standby) ∧ u.pair.partner = some p ∧
      u.ident = { z.ident with partnerHash := some p.idHash } ∧ u.isDone .s6 = true ∧ Only [.time, .carousel, .wall, .startup,
        .array, .legs, .laws, .juggler, .thermal, .barker, .scribe, .ident, .update, .ptp, .pair, .port, .tokens, .tamper,
        .safety, .drives, .supply, .buses] z u) ∧
  (∀ (s z : State) (t : Nat) (p : PartnerInfo), z = s.advance t → z.startup.mode = .starting → z.pair.st = .pairing →
    p.paired = true → z.startup.hdr.paired = true → p.attestOk = true → p.orderN ≠ z.ident.orderN → z.stepLate .s6 = false →
    Done (.pairing t p) s fun u =>
      u.pair.st = .solo ∧ u.isDone .s6 = true ∧ u.ident = z.ident ∧ u.lastEv = some .pairingFault ∧
      Only [.time, .carousel, .wall, .startup, .array, .legs, .laws, .juggler, .thermal, .barker, .scribe, .ident, .update,
        .ptp, .pair, .port, .tokens, .tamper, .safety, .drives, .supply, .buses] z u) ∧
  (∀ (s z : State) (t : Nat) (p : PartnerInfo), z = s.advance t → z.startup.mode = .starting → z.pair.st = .pairing →
    p.paired = true → z.startup.hdr.paired = true → p.attestOk = true → p.orderN = z.ident.orderN →
    (p.pairPos = z.ident.pairPos ∨ (p.recordsHash = z.startup.hdr.recordsHash ∧ z.ident.partnerSerial = 0 ∧ p.serial ≠ 0)) →
    Done (.pairing t p) s fun u =>
      u.startup.mode = .held ∧ u.pair.st = .none ∧ u.pair.ringOut = false ∧ u.ident = z.ident ∧ Only [.time, .carousel, .wall,
        .startup, .array, .legs, .laws, .juggler, .thermal, .barker, .scribe, .ident, .update, .ptp, .pair, .port, .tokens,
        .tamper, .safety, .drives, .supply, .buses] z u) ∧
  (∀ (s z : State) (t : Nat) (p : PartnerInfo), z = s.advance t → z.startup.mode = .held →
    p.paired = true → z.startup.hdr.paired = true → p.attestOk = true → p.orderN = z.ident.orderN →
    p.recordsHash = z.startup.hdr.recordsHash → p.boundSerial = z.ident.serial → p.serial ≠ z.ident.partnerSerial →
    Done (.pairing t p) s fun u =>
      u.ident = { z.ident with partnerSerial := p.serial, partnerHash := some p.idHash } ∧ u.startup.mode = .off ∧
      u.safety.resetUntil = some z.time.clock ∧ Only [.time, .carousel, .wall, .startup, .array, .legs, .laws, .juggler,
        .thermal, .barker, .scribe, .ident, .update, .ptp, .pair, .port, .tokens, .tamper, .safety, .drives, .supply, .buses] z
        u) ∧
  (∀ (s z : State) (t k : Nat), z = s.advance t → z.startup.done.find? (fun x => x.1 = .s5) = some (.s5, k) →
    z.startup.mode = .starting → z.pair.st = .pairing → k + fld (z.rec1 0x0201) 0 15 8 * 4000000 < z.tick → z.stepLate .s6 =
      false →
    Done (.pairWinExpiry t) s fun u =>
      u.pair = { z.pair with st := .solo } ∧ u.isDone .s6 = true ∧ Only [.carousel, .startup, .scribe, .pair, .port] z u)

/-- REVISION_ACK, REVISION_CANCELLED, BANK_REVERT (R85, R97, R99): the acknowledgement of the pending revision is kept, if it
comes by the arc of the half-turn boundary before the named one; a holder's revision that is not acknowledged by then is
cancelled on both modules; a SERVICE client changes the active bank, and the module restarts. Choices of the model it rests
on: log 1, 22, 57, 69. -/
def Obligations.RevisionsAndBanks : Prop :=
  (∀ (s z : State) (t : Nat) (r : PendingRev), z = s.advance t → z.startup.pendingRev = some r → z.stamp + 32768 ≤ r.boundary →
    Done (.revisionAck t r.hash.toNat) s fun u =>
      u.startup = { z.startup with pendingRev := some { r with acked := true } } ∧ Only [.startup] z u) ∧
  (∀ (s z : State) (t : Nat) (r : PendingRev), z = s.advance t → z.startup.pendingRev = some r → r.boundary < z.stamp + 32768 →
    Done (.revisionAck t r.hash.toNat) s fun u => u = z) ∧
  (∀ (s z : State) (t : Nat) (r : PendingRev), z = s.advance t → z.startup.pendingRev = some r → z.pair.st = .holder →
    r.acked = false → r.boundary < z.stamp + 32768 →
    Done (.revisionCancelled t) s fun u => u = z.journal .revisionCancelled) ∧
  (∀ (s z : State) (t : Nat) (x : JPending) (r : PendingRev), z = s.advance t → z.pair.journal.head? = some x →
    x.input = some .revisionCancelled → x.entry.effect ≤ z.stamp → z.pair.st = .holder ∨ (z.pair.st = .standby ∧ z.pair.applied
      = none) →
    z.startup.pendingRev = some r →
    Done (.journalEffect t x.entry.jseq) s fun u =>
      u.startup = { z.startup with pendingRev := none, ahead := none } ∧ u.lastEv = some .revisionCancelled) ∧
  (∀ (s z : State) (t : Nat) (c : ConnNo) (k : Conn) (obs : ImageObs) (x : ImageHdr × List Rec), z = s.advance t →
    z.port.conns[c] = some k → k.slots.length < 16 → (z.startup.mode = .refused ∨ z.startup.mode = .held ∨ z.startup.mode =
      .service) →
    k.role = .service → z.update.inactiveValid = true → z.update.trial = none →
    z.bankGood (otherBank z.startup.bank) obs .ring = true → z.checkBank (otherBank z.startup.bank) obs = .ok x →
    Done (.bankRevert t c obs) s fun u =>
      u.startup.bank = otherBank z.startup.bank ∧ u.startup.mode = .off ∧ u.safety.resetUntil = some z.time.clock ∧
      u.carousel = {} ∧
      Only [.time, .carousel, .wall, .startup, .array, .legs, .laws, .juggler, .thermal, .barker, .scribe, .update, .ptp,
        .pair, .port, .tokens, .tamper, .safety, .drives, .supply, .buses] z u)

/-- PTP_ANNOUNCE, PTP_SYNC, PTP_TIMEOUT (R55, R57, R648): the selected master is a best one of those heard; a holder slews an
offset of at most 100 ms and steps a greater one, by way of the journal; eight Sync messages below 10 us make wall time
synchronised and valid; 4 s without a Sync end it. WALL_TIME_SET, SCRIBE_TIME_COUNT (R56, R57, R60): a client with the right
steps wall time, except while it is synchronised (RES 4); Scribe time counts up and stops at its greatest value. Choices of
the model it rests on: log 1, 22, 79. -/
def Obligations.WallAndScribeTime : Prop :=
  (∀ (s z : State) (t : Nat) (port : EthNo) (m : PtpMaster), z = s.advance t → z.isDone .s3c = true → z.ptpPort port.val
    m.domain = true →
    Done (.ptpAnnounce t port m) s fun u =>
      (port.val, m, z.time.clock) ∈ u.ptp.heard ∧
      (∃ b ∈ u.ptp.heard, u.ptp.selected = some (b.1, b.2.1) ∧
        ∀ x ∈ u.ptp.heard, rankLt (ptpRank x) (ptpRank b) = false) ∧ Only [.ptp, .port] z u) ∧
  (∀ (s z : State) (t : Nat) (port : EthNo) (m : PtpMaster) (off : Int) (delay : Nat), z = s.advance t → z.ptp.selected = some
    (port.val, m) →
    off.natAbs ≤ 100000000 → (z.ptp.sync = true ∨ 10000 ≤ off.natAbs ∨ z.ptp.good < 7) →
    Done (.ptpSync t port m.identity off delay) s fun u =>
      u.ptp = { z.ptp with
        offset := off, delay, lastSync := z.time.clock, good := if off.natAbs < 10000 then z.ptp.good + 1 else 0 } ∧
      u.pair = (z.submit (.wallSlew (-2 * off)) id).pair ∧
      u.wall = (if journals z.pair.st then z.wall else { z.wall with slew := -2 * off }) ∧ Only [.ptp, .wall, .pair] z u) ∧
  (∀ (s z : State) (t : Nat) (port : EthNo) (m : PtpMaster) (off : Int) (delay : Nat), z = s.advance t → z.ptp.selected = some
    (port.val, m) → 100000000 < off.natAbs →
    Done (.ptpSync t port m.identity off delay) s fun u =>
      u.ptp.good = 0 ∧ u.ptp.sync = z.ptp.sync ∧
      (journals z.pair.st = true → u.pair = (z.submit (.wallStep (-2 * off)) id).pair ∧ u.wall = z.wall) ∧
      (journals z.pair.st = false → u.wall =
        { half := (z.wall.half - 2 * off).toNat, valid := z.wall.valid, source := .ptp, slew := 0, steps := z.wall.steps + 1 })
          ∧ Only [.wall, .scribe, .ptp, .pair, .port, .tamper] z u) ∧
  (∀ (s z : State) (t : Nat) (port : EthNo) (m : PtpMaster) (off : Int) (delay : Nat), z = s.advance t → z.ptp.selected = some
    (port.val, m) →
    off.natAbs < 10000 → z.ptp.sync = false → 7 ≤ z.ptp.good →
    Done (.ptpSync t port m.identity off delay) s fun u =>
      u.ptp.sync = true ∧ (journals z.pair.st = true → u.wall = z.wall) ∧
      (z.pair.st = .holder ∨ z.pair.st = .solo → u.pair.journal.map (·.input) =
        z.pair.journal.map (·.input) ++ [some (.wallSlew (-2 * off)), some (.ptpState true)]) ∧
      (journals z.pair.st = false → u.wall = { z.wall with slew := -2 * off, valid := true, source := .ptp }) ∧ Only [.wall,
        .scribe, .ptp, .pair, .port, .tamper] z u) ∧
  (∀ (s z : State) (t : Nat) (x : Nat × PtpMaster), z = s.advance t → z.ptp.selected = some x → z.ptp.lastSync + 1600000000 <
    z.time.clock →
    Done (.ptpTimeout t) s fun u => u.ptp.sync = false ∧ u.ptp.good = 0 ∧ Only [.wall, .scribe, .ptp, .pair, .port, .tamper] z
      u) ∧
  (∀ (d : Int), Effect (.wallSlew d) (fun z => True) fun z u =>
      u.wall = { z.wall with slew := d } ∧ Only [.wall] z u) ∧
  (∀ (d : Int), Effect (.wallStep d) (fun z => True) fun z u =>
      u.wall = { half := (z.wall.half + d).toNat, valid := z.wall.valid, source := .ptp, slew := 0, steps := z.wall.steps + 1 }
        ∧
    Only [.wall, .scribe, .tamper, .port] z u) ∧
  (Effect (.ptpState true) (fun z => True) fun z u =>
      u.wall = { z.wall with valid := true, source := .ptp }) ∧
  (∀ (c : ConnNo) (sec nsec : Nat), Request (fun t => .wallTimeSet t c sec nsec) c (dev 128 5 0) .write (.wall sec nsec) 0 (fun
    z => z.ptp.sync = false ∧ sec < 2 ^ 48 ∧ nsec < 1000000000) fun z u =>
      u.wall = { half := sec * 2000000000 + 2 * nsec, valid := true, source := .manual, slew := 0, steps := z.wall.steps + 1 }
        ∧ Only [.wall, .scribe, .pair, .port, .tamper] z u) ∧
  (∀ (c : ConnNo) (sec nsec : Nat), Request (fun t => .wallTimeSet t c sec nsec) c (dev 128 5 0) .write (.wall sec nsec) 4 (fun
    z => z.ptp.sync = true) fun z u =>
      Only [.port] z u) ∧
  (∀ (s z : State) (t : Nat), z = s.advance t → z.scribe.open_ = true → z.scribe.core.time < 2 ^ 40 - 1 →
    Done (.scribeTimeCount t) s fun u =>
      u.scribe = { z.scribe with core := { z.scribe.core with time := z.scribe.core.time + 1 } } ∧ Only [.scribe] z u) ∧
  (∀ (s z : State) (t : Nat), z = s.advance t → z.scribe.core.time = 2 ^ 40 - 1 → Done (.scribeTimeCount t) s fun u => u = z)

/-- CAN_RECEIVE_ERROR, CAN_BUS_OFF_RECOVERY, CAN_REF_LOST, CAN_TX_DONE (R622, R623, R628, R631): the error counts and the
states they lead to, each channel for itself. CAN_WINDOW, CAN_FRAME_RECEIVED (R626, R628, R632, R634, R636): the channel's
master sends the reference message, stamped with the line stamp, at its window, once the bus is idle; a frame that a filter
element sends to a FIFO with room is an input of the journal, and is stored last in it with its tick. Choices of the model it
rests on: log 1, 34, 35. -/
def Obligations.CanChannels : Prop :=
  (∀ (s z : State) (t : Nat) (k : CanNo) (e : RxErr) (w : List W32), z = s.advance t → z.canRec k.val = some w → z.listenOnly w
    = false → (z.can k.val).err = .active →
    (z.can k.val).tec ≤ 127 →
    Done (.canReceiveError t k e) s fun u =>
      (u.can k.val).rec_ = (z.can k.val).rec_ + (match e with | .first => 1 | .dominantAfterFlag => 8) ∧
      (u.can k.val).err = (if 127 < (u.can k.val).rec_ then .passive else .active) ∧ (u.can k.val).tec = (z.can k.val).tec ∧
      (∀ j : CanNo, j ≠ k → u.can j.val = z.can j.val) ∧ Only [.port, .buses] z u) ∧
  (∀ (s z : State) (t : Nat) (k : CanNo) (e : RxErr) (w : List W32), z = s.advance t → z.canRec k.val = some w → z.listenOnly w
    = true →
    Done (.canReceiveError t k e) s fun u =>
      u.can k.val = { z.can k.val with counts := { (z.can k.val).counts with errors := (z.can k.val).counts.errors + 1 } } ∧
      (∀ j : CanNo, j ≠ k → u.can j.val = z.can j.val) ∧ Only [.buses] z u) ∧
  (∀ (s z : State) (t : Nat) (k : CanNo) (n : Nat), z = s.advance t → (z.can k.val).err = .busOff → 128 ≤ n →
    Done (.canBusOffRecovery t k n) s fun u =>
      u.can k.val = { z.can k.val with err := .active, tec := 0, rec_ := 0 } ∧ u.lastEv = some .canBusOff ∧
      (∀ j : CanNo, j ≠ k → u.can j.val = z.can j.val) ∧ Only [.port, .buses] z u) ∧
  (∀ (k : CanNo) (w : List W32) (r : Nat × Nat), Input (fun t => .canRefLost t k) (.canRefLost k) (fun z => z.canRec k.val =
    some w ∧ (z.can k.val).cycleRef = some r ∧ canRole w = 2 ∧ (z.can k.val).refLost = false ∧ r.1 + 2 * 2 ^ schedL (z.canSched
    k.val) < z.stamp) (fun z => z.canRec k.val = some w ∧ (z.can k.val).cycleRef = some r ∧ canRole w = 2 ∧ (z.can
    k.val).refLost = false ∧ r.1 + 2 * 2 ^ schedL (z.canSched k.val) < z.stamp) fun z u =>
      u.can k.val = { z.can k.val with refLost := true } ∧ u.lastEv = some .canRefLost ∧
      (∀ j : CanNo, j ≠ k → u.can j.val = z.can j.val) ∧ Only [.pair, .port, .buses] z u) ∧
  (∀ (s z : State) (t : Nat) (k : CanNo) (a : Nat × Nat), z = s.advance t → (z.can k.val).attempt = some a → (z.can k.val).err
    = .active → (z.can k.val).tec ≤ 127 →
    (z.can k.val).rec_ ≤ 127 →
    Done (.canTxDone t k .success) s fun u =>
      (u.can k.val).attempt = none ∧ (u.can k.val).tec = (z.can k.val).tec - 1 ∧ (u.can k.val).err = .active ∧
      (u.can k.val).counts = { (z.can k.val).counts with tx := (z.can k.val).counts.tx + 1 } ∧
      (∀ j : CanNo, j ≠ k → u.can j.val = z.can j.val) ∧ Only [.buses] z u) ∧
  (∀ (s z : State) (t : Nat) (k : CanNo) (a : Nat × Nat), z = s.advance t → (z.can k.val).attempt = some a → (z.can k.val).err
    = .active →
    255 < (z.can k.val).tec + 8 →
    Done (.canTxDone t k .error) s fun u =>
      (u.can k.val).err = .busOff ∧ (u.can k.val).attempt = none ∧ u.lastEv = some .canBusOff ∧
      (∀ j : CanNo, j ≠ k → u.can j.val = z.can j.val) ∧ Only [.port, .buses] z u) ∧
  (∀ (s z : State) (t : Nat) (k : CanNo) (e : Nat) (heard : Bool) (w : List W32) (cyc idx off : Nat), z = s.advance t →
    z.canRec k.val = some w →
    z.canCycle k.val = some (cyc, idx, off) → e < fld (z.canSched k.val) 0 21 14 → (winOf (z.canSched k.val) e).kind = 0 →
    (winOf (z.canSched k.val) e).start ≤ off → off ≤ (winOf (z.canSched k.val) e).start + (winOf (z.canSched k.val) e).length →
    idx % 2 ^ (winOf (z.canSched k.val) e).repeat_ = (winOf (z.canSched k.val) e).offset →
    z.winBegan (winOf (z.canSched k.val) e) off = true → z.fitsWindow w (winOf (z.canSched k.val) e) off 8 = true →
    z.listenOnly w = false → canRole w = 1 → (z.can k.val).err ≠ .busOff → (z.can k.val).attempt = none →
    (z.can k.val).win ≠ some (cyc, e) → (heard = true ∨ z.pair.st ≠ .holder) →
    Done (.canWindow t k e true heard) s fun u =>
      u.can k.val = { z.can k.val with
        win := some (cyc, e), tried := true, attempt := some (3, 0), frame := some (canRefId w, payloadBytes 8 (z.refMessage
          idx)) } ∧
      (∀ j : CanNo, j ≠ k → u.can j.val = z.can j.val) ∧ Only [.pair, .buses] z u) ∧
  (∀ (s z : State) (t : Nat) (k : CanNo) (f : CanFrame) (w : List W32), z = s.advance t → z.canRec k.val = some w → formatOk
    (canFormat w) f = true →
    (z.can k.val).err = .active → (z.can k.val).rec_ ≤ 127 → f.remote = false → z.canAction k.val w f = .fifo 0 →
    (z.can k.val).fifo0.length < 64 →
    Done (.canFrameReceived t k f) s fun u =>
      (u.can k.val).fifo0 = (if journals z.pair.st then (z.can k.val).fifo0 else (z.can k.val).fifo0 ++ [(f, z.tick)]) ∧
      (u.can k.val).fifo1 = (z.can k.val).fifo1 ∧ (u.can k.val).counts = { (z.can k.val).counts with rx := (z.can
        k.val).counts.rx + 1 } ∧
      u.pair = (z.submit (.canFrame k f) id).pair ∧
      (∀ j : CanNo, j ≠ k → u.can j.val = z.can j.val) ∧ Only [.pair, .buses] z u) ∧
  (∀ (k : CanNo) (f : CanFrame) (w : List W32), Effect (.canFrame k f) (fun z => z.canRec k.val = some w ∧ z.canAction k.val w
    f = .fifo 0 ∧ (z.can k.val).fifo0.length < 64) fun z u =>
      (∃ tick, (u.can k.val).fifo0 = (z.can k.val).fifo0 ++ [(f, tick)]) ∧ (u.can k.val).counts = (z.can k.val).counts ∧
      Only [.buses] z u) ∧
  (∀ (s z : State) (t : Nat) (k : CanNo) (f : CanFrame) (w : List W32), z = s.advance t → z.canRec k.val = some w → formatOk
    (canFormat w) f = true →
    (z.can k.val).err = .active → (z.can k.val).rec_ ≤ 127 → f.remote = false → z.canAction k.val w f = .reject →
    Done (.canFrameReceived t k f) s fun u =>
      (u.can k.val).fifo0 = (z.can k.val).fifo0 ∧ (u.can k.val).fifo1 = (z.can k.val).fifo1 ∧
      (u.can k.val).counts.rejects = (z.can k.val).counts.rejects + 1 ∧ Only [.buses] z u)

/-- ETH_FRAME_RECEIVED, ETH_LINK, ETH_ADDR_DUP, TELEMETRY_SEND (R641 to R644, R651, R652, R656): frames of another VLAN are
dropped; of the copies of a tunnel frame within 100 ms one is accepted, of two in one tick the one from the lower-numbered
port; the SEQ of a telemetry stream counts its frames, also those that a full queue drops. Choices of the model it rests on:
log 1, 36, 78. -/
def Obligations.EthernetAndTelemetry : Prop :=
  (∀ (s z : State) (t : Nat) (p : EthNo) (vid : Nat) (k : EthKind) (r : List W32), z = s.advance t → z.isDone .s3c = true →
    z.ethRec p.val = some r → vid ≠ fld r 0 24 13 →
    Done (.ethFrameReceived t p vid k) s fun u =>
      u.buses = { z.buses with eth := vmod z.buses.eth p fun e =>
        { e with rx := e.rx + 1, lastStamp := z.tick, vlanDrops := e.vlanDrops + 1 } } ∧ Only [.buses] z u) ∧
  (∀ (s z : State) (t : Nat) (p : EthNo) (n : Nat) (r : List W32), z = s.advance t → z.isDone .s3c = true → z.ethRec p.val =
    some r → z.startup.mode = .service →
    bit r 0 27 = true → (∃ x ∈ z.buses.tunnelSeen, x.1 = n ∧ z.time.clock ≤ x.2.1 + 40000000) →
    (∀ x ∈ z.buses.tunnelSeen, x.1 = n → x.2.1 < z.time.clock) →
    Done (.ethFrameReceived t p (fld r 0 24 13) (.tunnel n)) s fun u =>
      u.buses.eth[p].dups = z.buses.eth[p].dups + 1 ∧ u.buses.tunnelSeen = z.buses.tunnelSeen ∧ Only [.buses] z u) ∧
  (∀ (s z : State) (t : Nat) (p q : EthNo) (n : Nat) (r : List W32) (l : List (Nat × Nat × EthNo)), z = s.advance t → z.isDone
    .s3c = true → z.ethRec p.val = some r →
    z.startup.mode = .service → bit r 0 27 = true → z.buses.tunnelSeen = (n, z.time.clock, q) :: l → p < q →
    Done (.ethFrameReceived t p (fld r 0 24 13) (.tunnel n)) s fun u =>
      u.buses.eth[q].dups = z.buses.eth[q].dups + 1 ∧ u.buses.tunnelSeen.head? = some (n, z.time.clock, p) ∧ Only [.buses] z u)
        ∧
  (∀ (s z : State) (t : Nat) (p : EthNo) (n : Nat) (r : List W32), z = s.advance t → z.isDone .s3c = true → z.ethRec p.val =
    some r → z.startup.mode = .service →
    bit r 0 27 = true → (∀ x ∈ z.buses.tunnelSeen, x.1 = n → x.2.1 + 40000000 < z.time.clock) →
    Done (.ethFrameReceived t p (fld r 0 24 13) (.tunnel n)) s fun u =>
      u.buses.eth[p].dups = z.buses.eth[p].dups ∧ (n, z.time.clock, p) ∈ u.buses.tunnelSeen ∧ Only [.buses] z u) ∧
  (∀ (s z : State) (t : Nat) (p : EthNo) (up : Bool), z = s.advance t → z.buses.eth[p].link ≠ up →
    Done (.ethLink t p up) s fun u =>
      u.buses = { z.buses with eth := vmod z.buses.eth p fun e => { e with link := up } } ∧ u.lastEv = some .ethLink ∧ Only
        [.port, .buses] z u) ∧
  (∀ (s z : State) (t : Nat) (p : EthNo), z = s.advance t → z.buses.eth[p].dup = false →
    Done (.ethAddrDup t p) s fun u =>
      u.buses = { z.buses with eth := vmod z.buses.eth p fun e => { e with dup := true } } ∧ u.lastEv = some .ethAddrDup ∧ Only
        [.port, .buses] z u) ∧
  (∀ (s z : State) (t : Nat) (n : Fin 16) (full : Bool) (w : List W32), z = s.advance t → z.recAt 0x1002 31 28 n.val = some w →
    z.startup.mode = .service →
    Done (.telemetrySend t n full) s fun u =>
      u.buses.streams[n].seq = (z.buses.streams[n].seq + (z.telemFrames w).length) % 2 ^ 32 ∧
      (u.buses.streams[n].sent, u.buses.streams[n].dropped) =
        (if full then (z.buses.streams[n].sent, z.buses.streams[n].dropped + (z.telemFrames w).length)
         else (z.buses.streams[n].sent + (z.telemFrames w).length, z.buses.streams[n].dropped)) ∧
      (∀ m : Fin 16, m ≠ n → u.buses.streams[m] = z.buses.streams[m]) ∧ u.buses.eth = z.buses.eth ∧ Only [.port, .buses] z u)

/-- CONNECTION_OPEN, CONNECTION_LOST, MALFORMED_MESSAGE (R83, R84, R447 to R449): a client with a role takes the lowest free
connection; a connection that is lost, or sends a malformed message, is closed with its staging copy, and the pending revision
stays. SUBSCRIBE, EVENT, PORT_RESET, ATTEST (R456 to R458, R673, R674): a subscription keeps its names and its start; the next
queued event is sent with the gap before it; PORT RESET ends staging and subscription of its connection alone, behind the
requests that still wait; a seventeenth request unanswered closes the connection (R449); a statement of 202 words and two
signatures answers a nonce of 16 to 64 bytes, and any other nonce is refused with RES 3. Choices of the model it rests on: log
1, 27, 28, 47. -/
def Obligations.ConnectionsAndPortServices : Prop :=
  (∀ (s z : State) (t : Nat) (p : EthNo) (a : Nat) (ou : Option Role) (ca : Option Nat) (ok : Bool) (r : Role) (i : ConnNo), z
    = s.advance t →
    z.clientRole ou ca ok = some r → z.portUp = true → z.objEn p.val = true → z.ident.life ≠ .manufacture →
    z.port.conns[i] = none → (∀ j : ConnNo, j < i → z.port.conns[j] ≠ none) →
    Done (.connectionOpen t p a ou ca ok) s fun u =>
      u.port.conns[i] = some { role := r, port := p, addr := a, cursor := z.port.seqOf (z.port.raised + 1) } ∧
      (∀ j : ConnNo, j ≠ i → u.port.conns[j] = z.port.conns[j]) ∧ u.port.events = z.port.events ∧ Only [.port] z u) ∧
  (∀ (s z : State) (t : Nat) (c : ConnNo), z = s.advance t → Done (.connectionLost t c) s fun u =>
      u.port = { z.port with conns := z.port.conns.set c none } ∧ Only [.port] z u) ∧
  (∀ (s z : State) (t : Nat) (c : ConnNo) (why : Malformed), z = s.advance t → Done (.malformedMessage t c why) s fun u =>
      u.port = { z.port with conns := z.port.conns.set c none } ∧ Only [.port] z u) ∧
  (∀ (s z : State) (t : Nat) (c : ConnNo) (k : Conn) (names : List Ev), z = s.advance t → z.port.conns[c] = some k →
    k.slots.length < 16 → z.startup.mode = .service →
    Done (.subscribe t c names none) s fun u =>
      (u.port.conns[c].map fun x => (x.sub, x.cursor, x.gap)) = some (some { names }, z.port.seqOf (z.port.raised + 1), none) ∧
      u.res c = some 0 ∧ (∀ d : ConnNo, d ≠ c → u.port.conns[d] = z.port.conns[d]) ∧ Only [.port] z u) ∧
  (∀ (s z : State) (t : Nat) (c : ConnNo) (k : Conn) (e : EvRec) (rest : List EvRec), z = s.advance t → z.port.conns[c] = some
    k → k.slots.length < 16 → k.gapFirst = none → k.queue = e :: rest →
    z.hasRight k.role .read (evObj e.ev) = true →
    Done (.event t c) s fun u =>
      u.port.conns[c] = some { k with queue := rest, gap := none, cursor := e.seq + 1, sent := some { ev := some e, gap :=
        k.gap } } ∧
      (∀ d : ConnNo, d ≠ c → u.port.conns[d] = z.port.conns[d]) ∧ Only [.port] z u) ∧
  (∀ (s z : State) (t : Nat) (c : ConnNo) (k : Conn), z = s.advance t → z.port.conns[c] = some k → k.slots = [] →
    Done (.portReset t c) s fun u =>
      u.port.conns[c] = some { k with
        stage := .empty, stageRecs := [], code := 0, sub := none, queue := [], gap := none, gapFirst := none
        cursor := z.port.seqOf (z.port.raised + 1)
        answer := some { res := 0, val := [z.port.seqOf (z.port.raised + 1), z.startup.hdr.recordsHash, z.startup.revision] } }
          ∧
      (∀ d : ConnNo, d ≠ c → u.port.conns[d] = z.port.conns[d]) ∧ Only [.port] z u) ∧
  (∀ (s z : State) (t : Nat) (c : ConnNo) (k : Conn), z = s.advance t → z.port.conns[c] = some k → k.slots ≠ [] →
    k.slots.length < 16 →
    Done (.portReset t c) s fun u => u.port.conns[c] = some { k with slots := k.slots ++ [.reset] } ∧
      (∀ d : ConnNo, d ≠ c → u.port.conns[d] = z.port.conns[d]) ∧ Only [.port] z u) ∧
  (∀ (s z : State) (t : Nat) (c : ConnNo) (k : Conn) (nonce : List Byte), z = s.advance t → z.port.conns[c] = some k → 16 ≤
    k.slots.length →
    Done (.attest t c nonce) s fun u => u.port = { z.port with conns := z.port.conns.set c none } ∧ Only [.port] z u) ∧
  (∀ (s z : State) (t : Nat) (c : ConnNo) (k : Conn) (nonce : List Byte), z = s.advance t → z.port.conns[c] = some k →
    k.slots.length < 16 → 16 ≤ nonce.length → nonce.length ≤ 64 →
    Done (.attest t c nonce) s fun u =>
      (∃ l, u.port.conns[c] = some (k.put { res := 0, val := 0x59415431 :: l }) ∧ l.length = 203) ∧ Only [.keys, .port] z u) ∧
  (∀ (s z : State) (t : Nat) (c : ConnNo) (k : Conn) (nonce : List Byte), z = s.advance t → z.port.conns[c] = some k →
    k.slots.length < 16 → (nonce.length < 16 ∨ 64 < nonce.length) →
    Done (.attest t c nonce) s fun u => u.port.conns[c] = some (k.put { res := 3 }) ∧ Only [.port] z u)

/-- GET, SET (R98, R451, R452, Table 11.10): a GET that the role may read answers in every mode and changes nothing else of
the module; a SET of the wall-time object does what WALL_TIME_SET does; RES 2 without such an object, RES 1 without the right,
RES 4 for SET out of service. Choices of the model it rests on: log 1, 28, 47. -/
def Obligations.ReadsAndWrites : Prop :=
  (∀ (s z : State) (t : Nat) (c : ConnNo) (k : Conn) (o : Obis), z = s.advance t → z.port.conns[c] = some k → k.slots.length <
    16 → z.absent o = false → z.objExists k o = true →
    z.hasRight k.role .read o = true →
    Done (.get t c o 2 none) s fun u =>
      u.res c = some 0 ∧ (∀ d : ConnNo, d ≠ c → u.port.conns[d] = z.port.conns[d]) ∧ u.port.events = z.port.events ∧ Only
        [.free, .port] z u) ∧
  (∀ (s z : State) (t : Nat) (c : ConnNo) (k : Conn) (o : Obis) (attr : Nat) (sel : Option (Nat × Nat)), z = s.advance t →
    z.port.conns[c] = some k → k.slots.length < 16 →
    (z.absent o = true ∨ z.objExists k o = false) →
    Done (.get t c o attr sel) s fun u =>
      u.port.conns[c] = some (k.put { res := 2 }) ∧
      (∀ d : ConnNo, d ≠ c → u.port.conns[d] = z.port.conns[d]) ∧ Only [.port] z u) ∧
  (∀ (s z : State) (t : Nat) (c : ConnNo) (k : Conn) (o : Obis) (attr : Nat) (sel : Option (Nat × Nat)), z = s.advance t →
    z.port.conns[c] = some k → k.slots.length < 16 →
    z.absent o = false → z.objExists k o = true → z.hasRight k.role .read o = false →
    Done (.get t c o attr sel) s fun u =>
      u.port.conns[c] = some (k.put { res := 1 }) ∧ Only [.port] z u) ∧
  (∀ (c : ConnNo) (sec nsec : Nat), Request (fun t => .set t c (dev 128 5 0) 2 [(sec : Int), (nsec : Int)]) c (dev 128 5 0)
    .write (.wall sec nsec) 0 (fun z => z.ptp.sync = false ∧ sec < 2 ^ 48 ∧ nsec < 1000000000) fun z u =>
      u.wall = { half := sec * 2000000000 + 2 * nsec, valid := true, source := .manual, slew := 0, steps := z.wall.steps + 1 } ∧
      Only [.wall, .scribe, .port, .tamper] z u) ∧
  (∀ (s z : State) (t : Nat) (c : ConnNo) (k : Conn) (o : Obis) (attr : Nat) (val : List Int), z = s.advance t →
    z.port.conns[c] = some k → k.slots.length < 16 → z.startup.mode ≠ .service →
    Done (.set t c o attr val) s fun u => u.port.conns[c] = some (k.put { res := 4 }) ∧ Only [.port] z u)

/-- SET_STAGE, CHECK, COMMIT (R79 to R84): operational records go into the connection's staging copy, a structural type is
refused with RES 3; a set that passes gets its check code; a commit of the checked set enters the journal in the order of R82;
on the active revision, at a boundary in range, it becomes the pending one and empties the staging copy, and it is refused
with RES 6 while one is pending. Choices of the model it rests on: log 1, 22, 55, 56. -/
def Obligations.RevisionsAreStaged : Prop :=
  (∀ (s z : State) (t : Nat) (c : ConnNo) (k : Conn) (base : Nat) (recs : List Rec), z = s.advance t → z.port.conns[c] = some k
    → k.slots.length < 16 → z.startup.mode = .service → recs ≠ [] →
    (∀ r ∈ recs, operational r.typ = true ∧ stagingRole r.typ = k.role) →
    Done (.setStage t c base recs) s fun u =>
      u.port.conns[c] = some (({ k with
        stage := .staged, stageRecs := recs.foldl (fun l x => putRec x l) k.stageRecs, base, code := 0 } : Conn).put { res := 0
          }) ∧
      (∀ d : ConnNo, d ≠ c → u.port.conns[d] = z.port.conns[d]) ∧ Only [.port] z u) ∧
  (∀ (s z : State) (t : Nat) (c : ConnNo) (k : Conn) (base : Nat) (recs : List Rec), z = s.advance t → z.port.conns[c] = some k
    → k.slots.length < 16 → z.startup.mode = .service →
    (∃ r ∈ recs, operational r.typ = false) →
    Done (.setStage t c base recs) s fun u => u.port.conns[c] = some (k.put { res := 3 }) ∧ Only [.port] z u) ∧
  (∀ (s z : State) (t : Nat) (c : ConnNo) (k : Conn), z = s.advance t → z.port.conns[c] = some k → k.slots.length < 16 →
    z.startup.mode = .service → k.stage ≠ .empty →
    (∀ r ∈ k.stageRecs, stagingRole r.typ = k.role) → z.checkSet (resultingSet z.startup.oper k.stageRecs) = none →
    Done (.check t c) s fun u =>
      (u.port.conns[c].map fun x => (x.stage, x.code)) = some (.checked, checkCode (resultingSet z.startup.oper k.stageRecs)) ∧
      u.res c = some 0 ∧ (∀ d : ConnNo, d ≠ c → u.port.conns[d] = z.port.conns[d]) ∧ u.startup = z.startup ∧ Only [.port] z u) ∧
  (∀ (s z : State) (t : Nat) (c : ConnNo) (k : Conn) (boundary : Nat), z = s.advance t → z.port.conns[c] = some k → k.slots =
    [] → z.startup.mode = .service → k.stage = .checked →
    (∀ r ∈ k.stageRecs, stagingRole r.typ = k.role) → k.base = z.startup.revision → z.startup.pendingRev = none →
    z.update.armed = none → z.boundaryOk (z.stampOf z.tick) boundary = true → journals z.pair.st = false →
    Done (.commit t c k.code boundary) s fun u =>
      u.startup = { z.startup with
        pendingRev := some { recs := resultingSet z.startup.oper k.stageRecs, hash := k.code, boundary, acked := false
                             late := decide (boundary < z.stamp) }
        ahead := some { number := (z.startup.revision + 1) % 2 ^ 32, recs := resultingSet z.startup.oper k.stageRecs, hash :=
          k.code
                        recordsHash := z.startup.hdr.recordsHash } } ∧
      (u.port.conns[c].map fun x => (x.stage, x.stageRecs)) = some (.empty, []) ∧ u.lastEv = some .commitAccepted ∧
      u.res c = some 0 ∧ Only [.startup, .pair, .port] z u) ∧
  (∀ (s z : State) (t : Nat) (c : ConnNo) (k : Conn) (boundary : Nat), z = s.advance t → z.port.conns[c] = some k →
    k.slots.length < 16 → z.startup.mode = .service →
    k.stage = .checked → (∀ r ∈ k.stageRecs, stagingRole r.typ = k.role) → (z.pair.st = .holder ∨ z.pair.st = .solo) →
    Done (.commit t c k.code boundary) s fun u =>
      u = ((z.asked c).journal (.op true c k.role k.addr (.commit k.code boundary k.base k.stageRecs))).orderCommits) ∧
  (∀ (s z : State) (t : Nat) (x : JPending) (here : Bool) (c : ConnNo) (role : Role) (addr : Nat) (code : W32) (boundary base :
    Nat) (recs : List Rec), z = s.advance t →
    z.pair.journal.head? = some x → x.input = some (.op here c role addr (.commit code boundary base recs)) →
    x.entry.effect ≤ z.stamp → z.pair.st = .holder → base = z.startup.revision → z.startup.pendingRev = none →
    z.update.armed = none → z.boundaryOk (x.entry.effect - z.journalLead) boundary = true →
    Done (.journalEffect t x.entry.jseq) s fun u =>
      u.startup = { z.startup with
        pendingRev := some { recs := resultingSet z.startup.oper recs, hash := code, boundary, acked := false
                             late := decide (boundary < z.stamp) }
        ahead := some { number := (z.startup.revision + 1) % 2 ^ 32, recs := resultingSet z.startup.oper recs, hash := code
                        recordsHash := z.startup.hdr.recordsHash } } ∧
      u.lastEv = some .commitAccepted ∧ (here = true → z.waits c = [.pending] → u.res c = some 0)) ∧
  (∀ (here : Bool) (c : ConnNo) (role : Role) (addr : Nat) (code : W32) (boundary base : Nat) (recs : List Rec), Effect (.op
    here c role addr (.commit code boundary base recs)) (fun z => z.startup.pendingRev.isSome = true) fun z u =>
      (here = true → z.waits c = [.pending] → u.res c = some 6) ∧ Only [.port] z u)

/-- KEY_IMPORT, KEY_DESTROY (R658, R662, R665, R666): an accepted import writes its slot and no other and is logged; a key
field that does not unwrap is refused; destruction empties the slot; slots 0 to 15 do not exist for a client. COMMISSION,
RETIRE (R670, R672): a PROVISIONED module is bound to the hub of its image and to its partner, gets its metering key and opens
its Scribe; retirement empties every key slot, and the module restarts, RETIRED. Choices of the model it rests on: log 1, 19,
22, 28. -/
def Obligations.KeysAndLifeCycle : Prop :=
  (∀ (c : ConnNo) (n : SlotNo) (k : KeyImport), Request (fun t => .keyImport t c n k) c (dev 145 2 n.val) .execute (.keyImport
    n k) 0 (fun z => 16 ≤ n.val ∧ z.ident.life ≠ .manufacture ∧ z.ident.life ≠ .retired ∧ z.slotNamed n.val = false ∧ badAttr
    (k.attr &&& 0xFFFFFFE0#32) = false ∧ (7 < attrType k.attr ∨ z.keyAllowed 5 .derive .update = true) ∧ k.keyOk = true ∧
    (attrPurpose k.attr ≠ 3 ∨ z.ident.life = .provisioned ∨ (k.sigPresent = true ∧ k.sigOk = true))) fun z u =>
      u.keys.slots[n] = { attr := k.attr &&& 0xFFFFFFE0#32, kcv := k.kcv } ∧
      (∀ m : SlotNo, m ≠ n → u.keys.slots[m] = z.keys.slots[m]) ∧
      (∃ e, u.keys.log = (e :: z.keys.log).take 256 ∧ e.slot = n.val ∧ e.destroy = false ∧ e.attr = k.attr &&& 0xFFFFFFE0#32) ∧
      u.lastEv = some .keyChanged ∧ Only [.keys, .pair, .port] z u) ∧
  (∀ (c : ConnNo) (n : SlotNo) (k : KeyImport), Request (fun t => .keyImport t c n k) c (dev 145 2 n.val) .execute (.keyImport
    n k) 3 (fun z => 16 ≤ n.val ∧ z.ident.life ≠ .manufacture ∧ z.ident.life ≠ .retired ∧ z.slotNamed n.val = false ∧ badAttr
    (k.attr &&& 0xFFFFFFE0#32) = false ∧ 7 < attrType k.attr ∧ k.keyOk = false) fun z u =>
      u.keys = z.keys ∧ Only [.keys, .pair, .port] z u) ∧
  (∀ (c : ConnNo) (n : SlotNo), Request (fun t => .keyDestroy t c n) c (dev 145 3 n.val) .execute (.keyDestroy n) 0 (fun z =>
    16 ≤ n.val ∧ z.slotNamed n.val = false) fun z u =>
      u.keys.slots[n] = {} ∧ (∀ m : SlotNo, m ≠ n → u.keys.slots[m] = z.keys.slots[m]) ∧
      (∃ e, u.keys.log = (e :: z.keys.log).take 256 ∧ e.slot = n.val ∧ e.destroy = true) ∧ u.lastEv = some .keyChanged ∧ Only
        [.keys, .pair, .port] z u) ∧
  (∀ (c : ConnNo) (n : SlotNo), Request (fun t => .keyDestroy t c n) c (dev 145 3 n.val) .execute (.keyDestroy n) 2 (fun z =>
    n.val < 16) fun z u =>
      u.keys = z.keys ∧ Only [.keys, .pair, .port] z u) ∧
  (∀ (s z : State) (t : Nat) (c : ConnNo) (partner : Nat), z = s.advance t → Allowed z c .execute (dev 145 6 0) → z.ident.life
    = .provisioned →
    (partner = 0 ↔ z.startup.hdr.paired = false) →
    Done (.commission t c z.startup.hdr.hubId partner) s fun u =>
      u.ident = { z.ident with
        life := .commissioned, hubId := z.startup.hdr.hubId, partnerSerial := partner, partnerHash := none } ∧
      (u.slot 4).attr = 0x38089960#32 ∧ (∀ m : SlotNo, m.val ≠ 4 → u.keys.slots[m] = z.keys.slots[m]) ∧ u.scribe.open_ = true ∧
      u.tokens.gen = 0 ∧ u.tokens.changeCounter = 1 ∧ Only [.scribe, .ident, .keys, .pair, .port, .tokens, .tamper] z u) ∧
  (∀ (s z : State) (t : Nat) (c : ConnNo), z = s.advance t → Allowed z c .execute (dev 145 6 0) → z.ident.life ≠ .provisioned →
    Done (.commission t c z.startup.hdr.hubId 0) s fun u => u.res c = some 4 ∧ Only [.port] z u) ∧
  (∀ (s z : State) (t : Nat) (c : ConnNo), z = s.advance t → Allowed z c .execute (dev 145 7 0) → z.ident.life ≠ .manufacture →
    z.ident.life ≠ .retired →
    Done (.retire t c z.ident.serial) s fun u =>
      u.ident = { z.ident with life := .retired } ∧ (∀ m : SlotNo, u.keys.slots[m] = {}) ∧ u.startup.mode = .off ∧ u.carousel =
        {} ∧
      u.safety.resetUntil = some z.time.clock ∧ Only [.time, .carousel, .wall, .startup, .array, .legs, .laws, .juggler,
        .thermal, .barker, .scribe, .ident, .keys, .update, .ptp, .pair, .port, .tokens, .tamper, .safety, .drives, .supply,
        .buses] z u)

/-- UPDATE_PIECE, UPDATE_CHECK_DONE, UPDATE_ABORT (R680, R682 to R686): a payload piece with its hash is written to its page
of the inactive bank, and no other page of either bank changes; one without its hash is refused and counted; both by way of
the journal; the check decides between READY and FAILED; an abort empties the staging. Choices of the model it rests on: log
1, 19, 22, 42. -/
def Obligations.PackagesAreStaged : Prop :=
  (∀ (s z : State) (t : Nat) (c : ConnNo) (k : Conn) (piece : Nat) (data : List W32) (k2 ok : Bool), z = s.advance t →
    z.port.conns[c] = some k → k.slots = [] →
    z.startup.mode = .service →
    (k.role = .operator ∨ k.role = .service ∨ k.role = .vendor) → data.length = 1024 → piece < 65536 → journals z.pair.st =
      false →
    k2 = decide (32768 ≤ piece) → 8 ≤ piece % 32768 → (z.staging k2).st = .receiving →
    piece % 32768 < 8 + hdrHl (z.staging k2).header + hdrPieces (z.staging k2).header → piece % 32768 ∉ (z.staging k2).got →
    (∀ h, hashPiece (hdrHl (z.staging k2).header) (piece % 32768) = some h → h ∈ (z.staging k2).got) → sha384 data =
      z.pieceHash k2 (piece % 32768) →
    Done (.updatePiece t c piece data ok) s fun u =>
      (u.flash.bank (otherBank z.startup.bank)).page (piecePage k2 (hdrHl (z.staging k2).header) (piece % 32768)) = data ∧
      (∀ p, p ≠ piecePage k2 (hdrHl (z.staging k2).header) (piece % 32768) →
        (u.flash.bank (otherBank z.startup.bank)).page p = (z.flash.bank (otherBank z.startup.bank)).page p) ∧
      u.flash.bank z.startup.bank = z.flash.bank z.startup.bank ∧
      (u.staging k2).got = (z.staging k2).got ++ [piece % 32768] ∧ u.res c = some 0 ∧ Only [.flash, .juggler, .barker, .scribe,
        .keys, .update, .pair, .port, .tokens] z u) ∧
  (∀ (s z : State) (t : Nat) (c : ConnNo) (k : Conn) (piece : Nat) (data : List W32) (ok : Bool), z = s.advance t →
    z.port.conns[c] = some k → k.slots.length < 16 →
    z.startup.mode = .service →
    (k.role = .operator ∨ k.role = .service ∨ k.role = .vendor) → data.length = 1024 → piece < 65536 → (z.pair.st = .holder ∨
      z.pair.st = .solo) →
    Done (.updatePiece t c piece data ok) s fun u =>
      u = (z.asked c).journal (.op true c k.role k.addr (.updatePiece piece data ok))) ∧
  (∀ (here : Bool) (c : ConnNo) (role : Role) (addr piece : Nat) (data : List W32) (k2 ok : Bool), Effect (.op here c role addr
    (.updatePiece piece data ok)) (fun z => k2 = decide (32768 ≤ piece) ∧ 8 ≤ piece % 32768 ∧ (z.staging k2).st = .receiving ∧
    piece % 32768 < 8 + hdrHl (z.staging k2).header + hdrPieces (z.staging k2).header ∧ piece % 32768 ∉ (z.staging k2).got ∧ (∀
    h, hashPiece (hdrHl (z.staging k2).header) (piece % 32768) = some h → h ∈ (z.staging k2).got) ∧ data.length = 1024 ∧ sha384
    data = z.pieceHash k2 (piece % 32768)) fun z u =>
      (u.flash.bank (otherBank z.startup.bank)).page (piecePage k2 (hdrHl (z.staging k2).header) (piece % 32768)) = data ∧
      (∀ p, p ≠ piecePage k2 (hdrHl (z.staging k2).header) (piece % 32768) →
        (u.flash.bank (otherBank z.startup.bank)).page p = (z.flash.bank (otherBank z.startup.bank)).page p) ∧
      u.flash.bank z.startup.bank = z.flash.bank z.startup.bank ∧
      (u.staging k2).got = (z.staging k2).got ++ [piece % 32768] ∧ (here = true → z.waits c = [.pending] → u.res c = some 0) ∧
        Only [.flash, .update, .port] z u) ∧
  (∀ (here : Bool) (c : ConnNo) (role : Role) (addr piece : Nat) (data : List W32) (k2 ok : Bool), Effect (.op here c role addr
    (.updatePiece piece data ok)) (fun z => k2 = decide (32768 ≤ piece) ∧ 8 ≤ piece % 32768 ∧ (z.staging k2).st = .receiving ∧
    piece % 32768 < 8 + hdrHl (z.staging k2).header + hdrPieces (z.staging k2).header ∧ piece % 32768 ∉ (z.staging k2).got ∧ (∀
    h, hashPiece (hdrHl (z.staging k2).header) (piece % 32768) = some h → h ∈ (z.staging k2).got) ∧ sha384 data ≠ z.pieceHash
    k2 (piece % 32768)) fun z u =>
      (u.staging k2).bad = (z.staging k2).bad + 1 ∧ (u.staging k2).got = (z.staging k2).got ∧
      (here = true → z.waits c = [.pending] → u.res c = some 3) ∧ Only [.update, .port] z u) ∧
  (∀ (s z : State) (t : Nat) (k2 : Bool) (obs : ImageObs), z = s.advance t → (z.staging k2).st = .checking →
    Done (.updateCheckDone t k2 obs) s fun u =>
      (z.stagedCode k2 obs = none →
        u.staging k2 = { z.staging k2 with st := .ready } ∧ u.lastEv = some .updateReady) ∧
      (z.stagedCode k2 obs ≠ none →
        u.staging k2 = { z.staging k2 with st := .failed } ∧ u.lastEv = some .updateFailed) ∧
      u.staging (!k2) = z.staging (!k2) ∧ Only [.update, .port] z u) ∧
  (∀ (c : ConnNo) (k2 : Bool), Request (fun t => .updateAbort t c k2) c (dev 146 3 0) .execute (.updateAbort k2) 0 (fun z =>
    (z.staging k2).st = .receiving ∧ z.update.armed = none) fun z u =>
      (u.staging k2).st = .empty ∧ (u.staging k2).got = [] ∧ u.staging (!k2) = z.staging (!k2) ∧ u.lastEv = some
        .updateAbandoned ∧ Only [.juggler, .barker, .scribe, .update, .pair, .port, .tokens] z u)

/-- ARM, DISARM, ARM_PREPARE_DONE, ACTIVATION_DEADLINE (R687 to R689): arming keeps its deadline, a failed preparation or the
deadline disarms, and a pass is kept for its module. ACTIVATION_DONE, ACTIVATION_REVERTED, ROLLBACK_ADVANCED, ROLLBACK_COMMIT,
LEGAL_RELEASE (R691 to R693, R695): a trial ends with both stagings empty and the old set valid in the other bank, or with the
marker back at the old bank and a restart; the fuse counter only rises, to the active manifest's ROLLBACK; a release names the
part and version that are staged. Choices of the model it rests on: log 1, 19, 22, 42, 109. -/
def Obligations.ArmingAndActivation : Prop :=
  (∀ (c : ConnNo) (m d : Nat), Request (fun t => .arm t c m d) c (dev 146 2 0) .execute (.arm m d) 0 (fun z => 1 ≤ m ∧ m ≤
    10080 ∧ d ≤ 1 ∧ z.armRefused = false) fun z u =>
      u.update = { z.update with armed := some { deadline := z.time.clock + m * 24000000000, drain := decide (d = 1) } } ∧
      u.lastEv = some .activationArmed ∧ Only [.update, .pair, .port] z u) ∧
  (∀ (c : ConnNo) (m d : Nat), Request (fun t => .arm t c m d) c (dev 146 2 0) .execute (.arm m d) 4 (fun z => 1 ≤ m ∧ m ≤
    10080 ∧ d ≤ 1 ∧ z.armRefused = true) fun z u =>
      u.update = z.update ∧ Only [.update, .pair, .port] z u) ∧
  (∀ (c : ConnNo), Request (fun t => .disarm t c) c (dev 146 2 0) .execute .disarm 0 (fun z => z.update.armed.isSome = true)
    fun z u =>
      u.update = { z.update with armed := none } ∧ Only [.juggler, .barker, .scribe, .update, .pair, .port, .tokens] z u) ∧
  (∀ (s z : State) (t : Nat) (a : Armed) (obs : ImageObs), z = s.advance t → z.update.armed = some a →
    Done (.armPrepareDone t none obs) s fun u =>
      u.update.armed = (if z.prepare.bankGood (otherBank z.startup.bank) obs .ring && (z.prepare.checkBank (otherBank
        z.startup.bank) obs).isOk
        then some { a with own := some true } else none) ∧
      u.flash.bank z.startup.bank = z.flash.bank z.startup.bank ∧ Only [.flash, .juggler, .barker, .scribe, .update, .port,
        .tokens] z u) ∧
  (∀ (s z : State) (t : Nat) (a : Armed) (pass : Bool) (obs : ImageObs), z = s.advance t → z.update.armed = some a →
    Done (.armPrepareDone t (some pass) obs) s fun u =>
      u.update.armed = (if pass then some { a with partner := some true } else none) ∧ u.flash = z.flash ∧ Only [.flash,
        .juggler, .barker, .scribe, .update, .port, .tokens] z u) ∧
  (∀ (a : Armed), Input (fun t => .activationDeadline t) .activationDeadline (fun z => z.update.armed = some a ∧ a.deadline <
    z.time.clock ∧ a.boundary = none ∧ z.boundaryComing = false ∧ z.stampOf (a.deadline - z.time.tick0) < z.stamp) (fun z =>
    z.update.armed = some a ∧ a.boundary = none) fun z u =>
      u.update = { z.update with armed := none } ∧ Only [.juggler, .barker, .scribe, .update, .pair, .port, .tokens] z u) ∧
  (∀ (s z : State) (t : Nat) (old : BankId), z = s.advance t → z.update.trial = some old → z.isDone .s6 = true →
    z.startup.hdr.paired = false →
    Done (.activationDone t false) s fun u =>
      u.update.trial = none ∧ u.update.fw = {} ∧ u.update.img = {} ∧ u.update.inactiveValid = true ∧ u.update.release = none ∧
      (u.update.log.head?.map (·.result)) = some 0 ∧ Only [.scribe, .update, .port, .tamper] z u) ∧
  (∀ (s z : State) (t : Nat) (old : BankId), z = s.advance t → z.update.trial = some old →
    Done (.activationReverted t true) s fun u =>
      u.startup.bank = old ∧ u.startup.mode = .off ∧ u.update.trial = none ∧ u.carousel = {} ∧
      u.safety.resetUntil = some z.time.clock ∧ (u.update.log.head?.map (·.result)) = some 1 ∧ Only [.time, .carousel, .wall,
        .startup, .array, .legs, .laws, .juggler, .thermal, .barker, .scribe, .update, .ptp, .pair, .port, .tokens, .tamper,
        .safety, .drives, .supply, .buses] z u) ∧
  (∀ (s z : State) (t : Nat), z = s.advance t → z.startup.mode = .service → 241920000000000 ≤ z.servedTicks → z.update.fuse <
    hdrRollback z.activeManifest →
    Done (.rollbackAdvanced t) s fun u =>
      u.update = { z.update with fuse := hdrRollback z.activeManifest } ∧ u.lastEv = some .rollbackAdvanced ∧ Only [.update,
        .port] z u) ∧
  (∀ (c : ConnNo), Request (fun t => .rollbackCommit t c) c (dev 146 5 0) .execute .rollbackCommit 0 (fun z => True) fun z u =>
      u.update = { z.update with fuse := max z.update.fuse (hdrRollback z.activeManifest) } ∧ Only [.update, .pair, .port] z u)
        ∧
  (∀ (c : ConnNo) (h v : Nat), Request (fun t => .legalRelease t c h v) c (dev 146 4 0) .execute (.legalRelease h v) 0 (fun z
    => z.update.fw.st = .ready ∧ h = hdrPartHash z.update.fw.header 6 ∧ v = hdrLegal z.update.fw.header) fun z u =>
      u.update = { z.update with release := some (h, v) } ∧ u.lastEv = some .legalRelease ∧ Only [.scribe, .update, .pair,
        .port] z u) ∧
  (∀ (s z : State) (t : Nat) (c : ConnNo) (k : Conn) (h v : Nat), z = s.advance t → z.port.conns[c] = some k → k.slots.length <
    16 → z.startup.mode = .service →
    z.ident.orderN = true →
    Done (.legalRelease t c h v) s fun u => u.port.conns[c] = some (k.put { res := 2 }) ∧ Only [.port] z u)

/-- TASK_RELEASE (R107, R113, R122, R124, R209, R211): a law's task is queued at its sample instant as primary and shadow, 16
troupes apart, with the SEQ next in its domain, its deadline and its snapshot; a task of P4 is queued once; the cooling task
is a decision of the holder that both modules carry out. Choices of the model it rests on: log 1, 22, 43, 58, 124, 125. -/
def Obligations.TasksAreReleased : Prop :=
  (∀ (s z : State) (t : Nat) (l : LawNo) (d : LawDue) (rest : List LawDue), z = s.advance t → z.startup.mode = .service →
    z.decides = true → (z.law l.val).st ≠ .idle →
    z.carousel.running = true → (z.law l.val).due = d :: rest → d.instant < z.nowTap + 32 →
    Done (.taskRelease t (.law l)) s fun u =>
      (∃ a b : Task, u.array.queue = z.array.queue ++ [a, b] ∧ a.copy = 1 ∧ b.copy = 2 ∧ a.cls = 0 ∧ b.cls = 0 ∧ a.home < 32 ∧
        b.home = (a.home + 16) % 32 ∧ a.dom = l.val ∧ b.dom = l.val ∧ a.seq = z.array.nextSeq l.val ∧ b.seq = a.seq ∧
        a.enq = z.tick ∧ b.enq = z.tick ∧ a.deadline = some (z.lawDeadline d) ∧ b.deadline = some (z.lawDeadline d)) ∧
      u.array.nextSeq l.val = (z.array.nextSeq l.val + 1) % 2 ^ 32 ∧ u.array.nibs = z.array.nibs ∧
      u.laws.snaps = z.laws.snaps ++ [z.snapLaw l.val (z.array.nextSeq l.val) d none] ∧ (u.law l.val).due = rest ∧
      (∀ m : LawNo, m ≠ l → u.law m.val = z.law m.val) ∧ Only [.array, .laws, .buses] z u) ∧
  (∀ (s z : State) (t : Nat) (k : Nat) (d : Option Nat), z = s.advance t → z.startup.mode = .service →
    Done (.taskRelease t (.analytics k d)) s fun u =>
      (∃ a : Task, u.array.queue = z.array.queue ++ [a] ∧ u.array.opens = z.array.opens ++ [a] ∧ a.cls = 4 ∧ a.dom = 0x100 + k ∧
        a.seq = z.array.nextSeq (0x100 + k) ∧ a.deadline = d ∧ a.enq = z.tick) ∧
      u.array.nextSeq (0x100 + k) = (z.array.nextSeq (0x100 + k) + 1) % 2 ^ 32 ∧ u.array.nibs = z.array.nibs ∧ Only [.array] z
        u) ∧
  (Input (fun t => .taskRelease t .cooling) (.release .cooling) (fun z => z.startup.mode = .service) (fun z => True) fun z u =>
      (∃ a : Task, u.array.queue = z.array.queue ++ [a] ∧ a.cls = 2 ∧ a.dom = 65 ∧ a.deadline = some (z.tick + basePeriod)) ∧
      u.thermal.flights.length = z.thermal.flights.length + 1 ∧ Only [.array, .thermal] z u)

/-- TASK_TAKE, PARK (R113 to R115, R117, R132): a nib takes what it picks, which is then no longer queued, and no other nib
changes; a free nib that takes a task of its own troupe takes none of a lower class than one that could be taken there; a
fenced nib takes none; a nib that parks its task writes its local memory to its park slot and runs the waiting copy, and its
task waits at the head of its class. Choices of the model it rests on: log 1, 43, 123, 125, 129, 130, 132. -/
def Obligations.TasksAreTaken : Prop :=
  (∀ (s z : State) (t : Nat) (n : NibNo) (k : Task), z = s.advance t → z.array.nibs[n].fenced = false → z.pick n = some k →
    z.claimOf k = none →
    z.array.poisoned.find? k.reads = none →
    Done (.taskTake t n .ok) s fun u =>
      u.array.nibs[n].act = .running { k with parkedBy := none } z.tick ∧ u.array.queue = z.array.queue.erase k ∧
      u.array.trace.head? = some { words := z.descriptor k, task := k, nib := n.val, tick := z.tick } ∧
      (∀ m : NibNo, m ≠ n → u.array.nibs[m].act = z.array.nibs[m].act ∧ u.array.nibs[m].fenced = z.array.nibs[m].fenced) ∧
      (z.array.nibs[n].act = .free → (∀ x ∈ z.array.queue, x.parkedBy ≠ some n.val) → k.home % 32 = n.val / 8 →
        ∀ y ∈ z.array.queue, y.home % 32 = n.val / 8 → y.enq < z.tick → y.cls < 4 → k.cls ≤ y.cls) ∧ Only [.array] z u) ∧
  (∀ (s z : State) (t : Nat) (n : NibNo) (obs : ReadObs), z = s.advance t → z.array.nibs[n].fenced = true → Done (.taskTake t n
    obs) s fun u => u = z) ∧
  (∀ (s z : State) (t : Nat) (n : NibNo) (x p : Task) (since : Nat), z = s.advance t → z.array.nibs[n].act = .running x since →
    x.cls ≠ 0 → z.array.nibs[n].parked = false →
    ([0, 1, 2, 3, 4] : List Nat).findSome? (fun d => z.array.head (n.val / 8 + d) 0 z.tick) = some p → p.parkedBy = none →
    z.claimOf p = none → z.array.poisoned.find? p.reads = none →
    (∀ d j, d < 5 → j < 8 → (vget z.array.nibs ((p.home + 32 - d) % 32 * 8 + j) {}).fenced = true ∨
      (vget z.array.nibs ((p.home + 32 - d) % 32 * 8 + j) {}).act ≠ .free) →
    Done (.park t { nib := n, obs := .ok }) s fun u =>
      u.array.nibs[n].act = .running p z.tick ∧ u.array.nibs[n].parked = true ∧ u.array.nibs[n].slot.isSome = true ∧
      { x with parkedBy := some n.val, enq := z.tick } ∈ u.array.queue ∧
      (∀ m : NibNo, m ≠ n → u.array.nibs[m].act = z.array.nibs[m].act) ∧ Only [.free, .array, .legs, .laws, .juggler, .thermal,
        .barker, .scribe, .keys, .update, .pair, .port, .tokens, .drives, .supply] z u)

/-- TASK_COMPLETE (R120, R126): two copies that agree retire the task and commit their result, two that differ bring a third
copy, eight troupes from the primary, and P0_MISMATCH; a task of P4 in time commits, a calibration check with its finding.
DEADLINE_MISS, THIRD_COPY_TIMEOUT (R47, R108, R127, R129, R222): a task past its deadline is closed and counted as a miss, a
law's task as an overrun of the law; where one copy has completed and the other has not within W ticks of its start, the third
copy is released. Choices of the model it rests on: log 1, 7, 49, 121, 131. -/
def Obligations.ResultsRetire : Prop :=
  (∀ (s z : State) (t : Nat) (n : NibNo) (k : Task) (since : Nat) (j : P0Job) (r : CopyResult) (e : List W32), z = s.advance t
    → z.array.nibs[n].act = .running k since →
    z.array.nibs[n].test = none → k.cls = 0 → k.dom = j.law → k.seq = j.seq → z.array.jobs = [j] → z.array.opens = [] →
    z.array.retire = [] → j.law < 43 → z.stamp ≤ j.deadline → j.results = [r] → r.err = some (trimErr e) → j.agreed = none →
    j.third = false →
    Done (.taskComplete t n e) s fun u =>
      u.array.jobs = [] ∧ u.pair.commits = z.pair.commits ++ [(j.law, j.seq, trimErr e)] ∧ u.array.nibs[n].act = .free ∧
      (∀ m : NibNo, m ≠ n → u.array.nibs[m] = z.array.nibs[m]) ∧ Only [.free, .array, .legs, .laws, .juggler, .thermal,
        .barker, .scribe, .keys, .update, .pair, .port, .tokens, .drives, .supply] z u) ∧
  (∀ (s z : State) (t : Nat) (n : NibNo) (k : Task) (since : Nat) (j : P0Job) (r : CopyResult) (e e' : List W32), z = s.advance
    t → z.array.nibs[n].act = .running k since →
    z.array.nibs[n].test = none → k.cls = 0 → k.dom = j.law → k.seq = j.seq → z.array.jobs = [j] → z.array.opens = [] →
    z.array.retire = [] → j.law < 43 → z.stamp ≤ j.deadline → j.results = [r] → r.err = some e' → trimErr e ≠ e' → j.agreed =
      none →
    j.third = false →
    Done (.taskComplete t n e) s fun u =>
      u.array.jobs = [{ j with results := [r, { copy := k.copy, nib := n.val, err := some (trimErr e) }], third := true }] ∧
      (∃ x : Task, u.array.queue = z.array.queue ++ [x] ∧ x.copy = 3 ∧ x.cls = 0 ∧ x.home = (j.home + 8) % 32 ∧
        x.deadline = some j.deadline ∧ x.seq = j.seq) ∧
      u.pair.commits = z.pair.commits ∧ u.lastEv = some .p0Mismatch ∧ Only [.free, .array, .legs, .laws, .juggler, .thermal,
        .barker, .scribe, .keys, .update, .pair, .port, .tokens, .drives, .supply] z u) ∧
  (∀ (s z : State) (t : Nat) (n : NibNo) (k o : Task) (since kern : Nat) (d : Option Nat) (e : List W32), z = s.advance t →
    z.array.nibs[n].act = .running k since →
    z.array.nibs[n].test = none → k.kind = .analytics kern d → k.cls = 4 →
    k.deadline = none → z.array.jobs = [] → z.array.opens = [o] → z.array.retire = [] → o.dom = k.dom → o.seq = k.seq →
    Done (.taskComplete t n e) s fun u =>
      u.array.opens = [] ∧ u.array.retire = [] ∧ u.array.nibs[n].act = .free ∧ Only [.array, .free] z u) ∧
  (∀ (s z : State) (t : Nat) (n : NibNo) (k o : Task) (since : Nat) (which : Fin 26) (good : Bool) (e : List W32), z =
    s.advance t → z.array.nibs[n].act = .running k since →
    z.array.nibs[n].test = none → k.kind = .calibration which good → k.cls = 4 →
    k.deadline = none → z.array.jobs = [] → z.array.opens = [o] → z.array.retire = [] → o.dom = k.dom → o.seq = k.seq →
    Done (.taskComplete t n e) s fun u =>
      u.array.opens = [] ∧ u.pair = { z.pair with tests := aput z.pair.tests 3 { tick := z.tick, pass := good } } ∧
      Only [.array, .free, .pair] z u) ∧
  (∀ (s z : State) (t : Nat) (j : P0Job), z = s.advance t → z.array.jobs = [j] → z.array.opens = [] → z.array.retire = [] →
    j.law < 43 → j.deadline < z.stamp →
    Done (.deadlineMiss t j.law j.seq) s fun u =>
      u.array.jobs = [] ∧ (u.law j.law).overruns = (z.law j.law).overruns + 1 ∧
      (u.law j.law).overrunRun = (z.law j.law).overrunRun + 1 ∧ (∀ m : LawNo, m.val ≠ j.law → u.law m.val = z.law m.val) ∧
      (vget u.array.lawCounts j.law (0, 0)).2 = (vget z.array.lawCounts j.law (0, 0)).2 + 1 ∧ Only [.array, .legs, .laws,
        .juggler, .thermal, .barker, .scribe, .keys, .update, .pair, .port, .tokens, .drives, .supply] z u) ∧
  (∀ (s z : State) (t : Nat) (k : Task) (kern d : Nat) (e : Option Nat), z = s.advance t → z.array.jobs = [] → z.array.opens =
    [k] → z.array.retire = [] →
    k.kind = .analytics kern e → k.deadline = some d → d < z.dlNow k.lineDl →
    Done (.deadlineMiss t k.dom k.seq) s fun u =>
      u.array.opens = [] ∧ u.lastEv = some .deadlineMiss ∧
      (vget u.array.load (k.home % 32) {}).misses = (vget z.array.load (k.home % 32) {}).misses + 1 ∧ Only [.array, .port] z u)
        ∧
  (∀ (s z : State) (t : Nat) (l : LawNo) (j : P0Job) (r : CopyResult) (w c a : Nat), z = s.advance t → z.array.jobs = [j] →
    j.law = l.val → j.third = false → j.results = [r] →
    j.agreed = none → z.array.kernelW.getD (((z.recs 0x0501).findIdx? fun r => fld r 0 31 26 = l.val).getD 0) 0 = w →
    ((j.starts.find? fun p => p.1 = 3 - r.copy).orElse fun _ => j.starts.find? fun p => p.1 = r.copy) = some (c, a) → a + w <
      z.tick →
    Done (.thirdCopyTimeout t l) s fun u =>
      u.array.jobs = [{ j with third := true }] ∧
      (∃ x : Task, u.array.queue = z.array.queue ++ [x] ∧ x.copy = 3 ∧ x.home = (j.home + 8) % 32 ∧ x.seq = j.seq) ∧ Only
        [.array] z u) ∧
  (∀ (s z : State) (t : Nat) (l : LawNo) (j : P0Job) (r : CopyResult) (w c a : Nat), z = s.advance t → z.array.jobs = [j] →
    j.law = l.val → j.results = [r] →
    z.array.kernelW.getD (((z.recs 0x0501).findIdx? fun r => fld r 0 31 26 = l.val).getD 0) 0 = w →
    ((j.starts.find? fun p => p.1 = 3 - r.copy).orElse fun _ => j.starts.find? fun p => p.1 = r.copy) = some (c, a) → z.tick ≤
      a + w →
    Done (.thirdCopyTimeout t l) s fun u => u = z)

/-- INKWELL_SCRUB, DRAM_SCRUB, NIB_BIST_START, NIB_BIST_DONE (R131, R132, R138, R140, R141, R143, R144, R146): a single-bit
error is counted, a double-bit error poisons its word or block, a write of the same tick wins; a test starts on one nib 39 ms
after the last one, and a nib that fails it is fenced. Choices of the model it rests on: log 1, 8, 45, 51, 127, 133. -/
def Obligations.ScrubsAndTests : Prop :=
  (∀ (s z : State) (t : Nat) (a : Nat), z = s.advance t → a < 0x1800000 → z.array.written.1 ≠ z.tick →
    z.array.poisoned.contains (a / 8 * 8) = false →
    Done (.inkwellScrub t a .single) s fun u =>
      vget u.array.corrections (a / 393216) 0 = vget z.array.corrections (a / 393216) 0 + 1 ∧ u.array.poisoned =
        z.array.poisoned ∧
      Only [.array, .pair, .port] z u) ∧
  (∀ (s z : State) (t : Nat) (a : Nat), z = s.advance t → a < 0x1800000 → z.array.written.1 ≠ z.tick →
    Done (.inkwellScrub t a .double) s fun u =>
      a / 8 * 8 ∈ u.array.poisoned ∧ u.lastEv = some .inkwellDb ∧ Only [.array, .pair, .port] z u) ∧
  (∀ (s z : State) (t : Nat) (a : Nat) (obs : ScrubObs) (r : Nat × Nat), z = s.advance t → a < 0x1800000 → z.array.written =
    (z.tick, [r]) → r.1 ≤ a → a < r.2 →
    Done (.inkwellScrub t a obs) s fun u => u.array = { z.array with reread := z.array.reread ++ [a] } ∧ Only [.array] z u) ∧
  (∀ (s z : State) (t : Nat) (c : Fin 2) (b : Nat), z = s.advance t → b < dramBlocks → z.array.dramPoisoned.contains (c.val, b)
    = false →
    Done (.dramScrub t c b .single) s fun u => u.array.dramCorrections = z.array.dramCorrections + 1 ∧ Only [.array, .thermal,
      .pair, .port] z u) ∧
  (∀ (s z : State) (t : Nat) (c : Fin 2) (b : Nat), z = s.advance t → b < dramBlocks →
    Done (.dramScrub t c b .double) s fun u => (c.val, b) ∈ u.array.dramPoisoned ∧ Only [.array, .thermal, .pair, .port] z u) ∧
  (∀ (s z : State) (t : Nat) (c : Fin 2) (b : Nat), z = s.advance t → b < dramBlocks → z.array.dramNext = c.val * dramBlocks +
    b →
    Done (.dramScrub t c b .clean) s fun u =>
      (if c.val * dramBlocks + b + 1 = 2 * dramBlocks then u.array.dramNext = 0 ∧ u.array.dramPass = z.tick
       else u.array.dramNext = c.val * dramBlocks + b + 1 ∧ u.pair = z.pair) ∧ Only [.array, .pair] z u) ∧
  (∀ (s z : State) (t : Nat) (n : NibNo), z = s.advance t → z.array.bistAt = none → (∀ m : NibNo, z.array.nibs[m] = {}) →
    z.array.bistNext = n.val →
    Done (.nibBistStart t) s fun u =>
      u.array = { z.array with
        bistAt := some z.time.clock, bistNext := (n.val + 1) % 256
        nibs := z.array.nibs.set n { act := .testing z.tick } } ∧ Only [.array] z u) ∧
  (∀ (s z : State) (t : Nat) (b : Nat), z = s.advance t → z.array.bistAt = some b → z.time.clock < b + 15600000 → Done
    (.nibBistStart t) s fun u => u = z) ∧
  (∀ (s z : State) (t : Nat) (n : NibNo) (a : Nat), z = s.advance t → z.array.nibs[n].act = .testing a →
    Done (.nibBistDone t n true) s fun u =>
      u.array.nibs[n] = { z.array.nibs[n] with act := .free, lastTest := some (z.tick, true) } ∧
      (∀ m : NibNo, m ≠ n → u.array.nibs[m] = z.array.nibs[m]) ∧ Only [.array, .pair] z u) ∧
  (∀ (s z : State) (t : Nat) (n : NibNo) (a : Nat), z = s.advance t → z.array.nibs[n].act = .testing a →
    Done (.nibBistDone t n false) s fun u =>
      u.array.nibs[n].fenced = true ∧ u.array.nibs[n].act = .free ∧ u.array.nibs[n].lastTest = some (z.tick, false) ∧
      (∀ m : NibNo, m ≠ n → u.array.nibs[m] = z.array.nibs[m]) ∧ Only [.free, .array, .pair, .port] z u)

/-- LEG_FAULT, READBACK_FAULT, LEG_CLEAR (R50, R175 to R177, R180, R185): a fault found on a leg that is OFF, switching or
INHIBITED drives it off at once, and its group coasts with the next stroke; the leg is FAULTED from the EFFECT stamp on, in
both modules; FLT low for less than 10 ticks is no fault; a standby takes none of its own; leg-clear permits one more
readmission. LEGS_OFF_ASSERTED, LEGS_OFF_RELEASED (R186 to R188, R467): a LEGS_OFF of either module drives every leg off,
inhibits the legs that were OFF or switching, and every group coasts; it ends when no module asserts it, and its release is
taken at the next stroke boundary. A change of the lines is an input of the journal; this module's own acts on its drivers at
once. Choices of the model it rests on: log 1, 11, 22, 54, 80. -/
def Obligations.LegsAreOff : Prop :=
  (∀ (s z : State) (t : Nat) (n : LegNo) (k : Nat), z = s.advance t → 10 ≤ k → journals z.pair.st = false → (z.leg
    n.val).killed = false →
    ((z.leg n.val).st = .off ∨ (z.leg n.val).st = .switching ∨ (z.leg n.val).st = .inhibited) →
    Done (.legFault t n k) s fun u =>
      (u.leg n.val).st = .faulted ∧ (u.leg n.val).hi = false ∧ (u.leg n.val).lo = false ∧ (u.leg n.val).cause = some .flt ∧
      (u.leg n.val).faults = (z.leg n.val).faults + 1 ∧ (u.leg n.val).fltLow = true ∧ (u.leg n.val).cleared = false ∧
      (∀ m : LegNo, m ≠ n → u.leg m.val = z.leg m.val) ∧
      (z.legGroup n.val < 43 → ((u.group (z.legGroup n.val)).coastDue = true ∨ (u.group (z.legGroup n.val)).coasting = true)) ∧
      Only [.legs, .laws, .port] z u) ∧
  (∀ (s z : State) (t : Nat) (n : LegNo) (k : Nat), z = s.advance t → 10 ≤ k → z.holds = true → (z.leg n.val).killed = false →
    ((z.leg n.val).st = .off ∨ (z.leg n.val).st = .switching ∨ (z.leg n.val).st = .inhibited) →
    Done (.legFault t n k) s fun u =>
      u.leg n.val = { z.leg n.val with fltLow := true, fltHighSince := z.time.clock, hi := false, lo := false, killed := true }
        ∧
      (∀ m : LegNo, m ≠ n → u.leg m.val = z.leg m.val) ∧ u.pair = (z.submit (.legFault n false) id).pair ∧
      (z.legGroup n.val < 43 → ((u.group (z.legGroup n.val)).coastDue = true ∨ (u.group (z.legGroup n.val)).coasting = true)) ∧
      Only [.legs, .pair] z u) ∧
  (∀ (s z : State) (t : Nat) (n : LegNo) (k : Nat), z = s.advance t → k < 10 ∨ z.decides = false ∨ (z.leg n.val).st = .unused ∨
    (z.leg n.val).st = .idle ∨
      (z.leg n.val).st = .faulted →
    Done (.legFault t n k) s fun u =>
      u.leg n.val = { z.leg n.val with fltLow := decide (k ≠ 0), fltHighSince := z.time.clock } ∧
      (∀ m : LegNo, m ≠ n → u.leg m.val = z.leg m.val) ∧ Only [.legs] z u) ∧
  (∀ (n : LegNo) (rb : Bool), Effect (.legFault n rb) (fun z => ((z.leg n.val).st = .off ∨ (z.leg n.val).st = .switching ∨
    (z.leg n.val).st = .inhibited)) fun z u =>
      (u.leg n.val).st = .faulted ∧ (u.leg n.val).hi = false ∧ (u.leg n.val).lo = false ∧
      (u.leg n.val).cause = some (if rb then .readback else .flt) ∧ (u.leg n.val).faults = (z.leg n.val).faults + 1 ∧
      (u.leg n.val).cleared = false ∧ (∀ m : LegNo, m ≠ n → u.leg m.val = z.leg m.val) ∧
      (z.legGroup n.val < 43 → ((u.group (z.legGroup n.val)).coastDue = true ∨ (u.group (z.legGroup n.val)).coasting = true)) ∧
      Only [.legs, .laws, .port] z u) ∧
  (∀ (s z : State) (t : Nat) (n : LegNo), z = s.advance t → z.holds = true → (z.leg n.val).thirdDisagreement = true → (z.leg
    n.val).killed = false →
    ((z.leg n.val).st = .off ∨ (z.leg n.val).st = .switching ∨ (z.leg n.val).st = .inhibited) →
    Done (.readbackFault t n) s fun u =>
      u.leg n.val = { z.leg n.val with hi := false, lo := false, killed := true } ∧
      (∀ m : LegNo, m ≠ n → u.leg m.val = z.leg m.val) ∧ u.pair = (z.submit (.legFault n true) id).pair ∧
      Only [.legs, .pair] z u) ∧
  (∀ (s z : State) (t : Nat) (n : LegNo), z = s.advance t → z.holds = false ∨ (z.leg n.val).thirdDisagreement = false → Done
    (.readbackFault t n) s fun u => u = z) ∧
  (∀ (c : ConnNo) (n : LegNo), Request (fun t => .legClear t c n) c (dev 131 4 n.val) .execute (.legClear n) 0 (fun z => True)
    fun z u =>
      u.leg n.val = { z.leg n.val with cleared := true } ∧ (∀ m : LegNo, m ≠ n → u.leg m.val = z.leg m.val) ∧
      u.legs.groups = z.legs.groups ∧ Only [.legs, .port] z u) ∧
  (∀ (s z : State) (t : Nat), z = s.advance t → z.safety.legsPartner = false → z.legs.legsOff = false → journals z.pair.st =
    false →
    Done (.legsOffAsserted t .partner) s fun u =>
      u.legs.legsOff = true ∧ u.safety = { z.safety with legsPartner := true } ∧
      (∀ n : LegNo, (u.leg n.val).hi = false ∧ (u.leg n.val).lo = false) ∧
      (∀ n : LegNo, (z.leg n.val).st = .off ∨ (z.leg n.val).st = .switching → (u.leg n.val).st = .inhibited) ∧
      (∀ g : GroupNo, (u.group g.val).coasting = true) ∧ u.legs.offCount = z.legs.offCount + 1 ∧
      u.lastEv = some .legsOffAsserted ∧ Only [.legs, .laws, .pair, .port, .safety] z u) ∧
  (∀ (s z : State) (t : Nat), z = s.advance t → z.safety.legsPartner = false → z.holds = true →
    Done (.legsOffAsserted t .partner) s fun u =>
      u.safety = { z.safety with legsPartner := true } ∧ u.pair = (z.submit (.legsOff .partner true) id).pair ∧
      Only [.pair, .safety] z u) ∧
  (∀ (side : Side), Effect (.legsOff side true) (fun z => z.legs.legsOff = false) fun z u =>
      u.legs.legsOff = true ∧ (∀ n : LegNo, (u.leg n.val).hi = false ∧ (u.leg n.val).lo = false) ∧
      (∀ n : LegNo, (z.leg n.val).st = .off ∨ (z.leg n.val).st = .switching → (u.leg n.val).st = .inhibited) ∧
      (∀ g : GroupNo, (u.group g.val).coasting = true) ∧ u.legs.offCount = z.legs.offCount + 1 ∧
      u.lastEv = some .legsOffAsserted ∧ Only [.legs, .laws, .port] z u) ∧
  (∀ (s z : State) (t : Nat), z = s.advance t → z.safety.legsOwn = false → z.legsWanted = true →
    Done (.legsOffAsserted t .own) s fun u =>
      u.safety.legsOwn = true ∧ (journals z.pair.st = false → u.legs.legsOff = true) ∧
      (z.holds = true → u.legs = z.legs ∧ u.pair = (z.submit (.legsOff .own true) id).pair) ∧ Only [.legs, .laws, .pair, .port,
        .safety] z u) ∧
  (∀ (s z : State) (t : Nat), z = s.advance t → z.safety.legsPartner = true → z.legs.offSides = (false, true) → z.legs.legsOff
    = true → journals z.pair.st = false →
    Done (.legsOffReleased t .partner) s fun u =>
      u.legs = { z.legs with legsOff := false, offSides := (false, false), releaseDue := true, releaseTick := z.tick } ∧
      u.safety = { z.safety with legsPartner := false } ∧ u.lastEv = some .legsOffReleased ∧ Only [.legs, .laws, .pair, .port,
        .safety] z u) ∧
  (Effect (.legsOff .partner false) (fun z => z.legs.offSides.1 = true ∧ z.legs.legsOff = true) fun z u =>
      u.legs = { z.legs with offSides := (true, false) } ∧ Only [.legs] z u) ∧
  (∀ (side : Side), Effect (.legsOff side false) (fun z => ((side = .own ∧ z.legs.offSides.2 = false) ∨ (side = .partner ∧
    z.legs.offSides.1 = false)) ∧ z.legs.legsOff = true) fun z u =>
      u.legs = { z.legs with legsOff := false, offSides := (false, false), releaseDue := true, releaseTick := z.tick } ∧
      u.lastEv = some .legsOffReleased ∧ Only [.legs, .port] z u)

/-- DRIVE_CONTENTION, CONTENTION_RESOLVED (R181, R195, R599, R606): a second driver on a net this module drives is recorded,
the first net with an event; the module with PAIR_POS low yields, stops RING_OUT and its drivers; in the window of an
agreeing-drive test the net is not judged; a clean stroke ends the contention of the net. LEG_EDGE, LEG_SAMPLE,
MODULATOR_CLOCK (R160, R171, R179, R181, R182, R187, R207, R373): the edge generator of a switching leg takes its next edge,
and a reading of its nets that disagrees marks the stroke while the module compares; above 850 mV it does so only on a net
whose contention is resolved, on the module that drives; a leg that does not switch is not touched; a clock edge puts one bit
into each channel of its clock. Choices of the model it rests on: log 1, 72, 80, 99. -/
def Obligations.NetsAndEdges : Prop :=
  (∀ (s z : State) (t : Nat) (n : LegNo) (net : Net) (mV : Nat), z = s.advance t → 850 < mV → z.pair.driving = true →
    z.legs.legsOff = false → z.safety.legsOwn = false →
    z.legRole n.val ≠ 0 → z.legs.resolved.contains (n.val, net) = false → z.legs.contended = [] → z.pair.agree = none →
    z.ident.pairPos = true →
    Done (.driveContention t n net mV) s fun u =>
      (∃ x, u.legs.contended = [x] ∧ x.leg = n.val ∧ x.net = net) ∧ u.pair.st = z.pair.st ∧
      u.pair.driving = true ∧ u.lastEv = some .driveContention ∧ Only [.legs, .pair, .port] z u) ∧
  (∀ (s z : State) (t : Nat) (n : LegNo) (net : Net) (mV : Nat), z = s.advance t → 850 < mV → z.pair.driving = true →
    z.legs.legsOff = false → z.safety.legsOwn = false →
    z.legRole n.val ≠ 0 → z.legs.resolved.contains (n.val, net) = false → z.legs.contended ≠ [] →
    (∀ x ∈ z.legs.contended, x.leg ≠ n.val ∨ x.net ≠ net) → z.pair.agree = none → z.ident.pairPos = true →
    Done (.driveContention t n net mV) s fun u =>
      (∃ x, u.legs.contended = z.legs.contended ++ [x] ∧ x.leg = n.val ∧ x.net = net) ∧ u.pair.st = z.pair.st ∧
      Only [.legs, .pair] z u) ∧
  (∀ (s z : State) (t : Nat) (n : LegNo) (net : Net) (mV : Nat), z = s.advance t → 850 < mV → z.pair.driving = true →
    z.legs.legsOff = false → z.safety.legsOwn = false →
    z.legRole n.val ≠ 0 → z.legs.resolved.contains (n.val, net) = false → z.legs.contended = [] → z.pair.agree = none →
    z.ident.pairPos = false → z.startup.hdr.paired = true → z.pair.st = .holder →
    Done (.driveContention t n net mV) s fun u =>
      (∃ x, u.legs.contended = [x] ∧ x.leg = n.val ∧ x.net = net) ∧ u.pair.st = .standby ∧
      u.pair.driving = false ∧ u.pair.ringOut = false ∧ u.lastEv = some .yield ∧ Only [.legs, .pair, .port, .drives] z u) ∧
  (∀ (s z : State) (t : Nat) (n : LegNo) (net : Net) (mV start : Nat), z = s.advance t → z.pair.agree = some (n.val, net,
    start) → start ≤ z.time.clock →
    z.time.clock < start + 400 → Done (.driveContention t n net mV) s fun u => u = z) ∧
  (∀ (s z : State) (t : Nat) (n : LegNo) (net : Net) (mV : Nat), z = s.advance t → mV ≤ 850 → Done (.driveContention t n net
    mV) s fun u => u = z) ∧
  (∀ (s z : State) (t : Nat) (n : LegNo) (net : Net) (x : Contention), z = s.advance t → z.legs.contended = [x] → x.leg = n.val
    → x.net = net →
    Done (.contentionResolved t n net true) s fun u =>
      u.legs.contended = [] ∧ (n.val, net) ∈ u.legs.resolved ∧ u.legs.legs = z.legs.legs ∧
      u.pair = { z.pair with contYield := none } ∧ Only [.legs, .pair] z u) ∧
  (∀ (s z : State) (t : Nat) (n : LegNo) (x : NetSample), z = s.advance t → (z.leg n.val).st = .switching → (z.leg
    n.val).killed = false →
    Done (.legEdge t n x.hi x.lo (x.mvHi, x.mvLo)) s fun u =>
      (u.leg n.val).hi = ((z.leg n.val).step (z.legDead n.val) z.nowTap z.tick).hi ∧
      (u.leg n.val).lo = ((z.leg n.val).step (z.legDead n.val) z.nowTap z.tick).lo ∧
      ((u.leg n.val).mismatch = true ↔ (z.leg n.val).mismatch = true ∨ (z.compares = true ∧
        ((if 850 < x.mvHi then z.pair.driving = true ∧ (n.val, Net.hi) ∈ z.legs.resolved else x.hi ≠ (u.leg n.val).hi) ∨
          (if 850 < x.mvLo then z.pair.driving = true ∧ (n.val, Net.lo) ∈ z.legs.resolved else x.lo ≠ (u.leg n.val).lo)))) ∧
      (∀ m : LegNo, m ≠ n → u.leg m.val = z.leg m.val) ∧ Only [.legs] z u) ∧
  (∀ (s z : State) (t : Nat) (n : LegNo) (x : NetSample), z = s.advance t → (z.leg n.val).st ≠ .switching ∨ (z.leg
    n.val).killed = true →
    Done (.legEdge t n x.hi x.lo (x.mvHi, x.mvLo)) s fun u => u = z) ∧
  (∀ (s z : State) (t : Nat) (n : LegNo) (c : LegCycle), z = s.advance t → z.legDe n.val = true → (z.leg n.val).cycle = some c
    → (z.leg n.val).st = .switching →
    (z.leg n.val).hi = true →
    Done (.legSample t n) s fun u =>
      (u.leg n.val).sample.isSome = true ∧ (∀ m : LegNo, m ≠ n → u.leg m.val = z.leg m.val) ∧ Only [.legs] z u) ∧
  (∀ (s z : State) (t : Nat) (k : SdckNo) (bits : BitVec 16), z = s.advance t → Done (.modulatorClock t false k bits) s fun u =>
      (∀ c : SdChan, u.laws.bits[c] = if c.val / 16 = k.val then
        (bits.getLsbD (c.val - 16 * k.val) :: z.laws.bits[c]).take 1019 else z.laws.bits[c]) ∧
      u.laws.laws = z.laws.laws ∧ Only [.laws] z u) ∧
  (∀ (s z : State) (t : Nat) (k : SdckNo) (bits : BitVec 16), z = s.advance t → k.val < 8 → Done (.modulatorClock t true k
    bits) s fun u =>
      (∀ c : Fin 128, u.scribe.bits[c] = if c.val / 16 = k.val then
        (bits.getLsbD (c.val % 16) :: z.scribe.bits[c]).take 190 else z.scribe.bits[c]) ∧
      u.scribe.core = z.scribe.core ∧ Only [.scribe] z u)

/-- FEEDBACK_LOST, SDCK_LOST, SDCK_VALID, LAW_CLEAR (R226 to R228, R230, R233, Table 6.5): a channel is lost at once, and the
journalled decision coasts every RUNNING law that reads it; a lost clock loses its 16 channels; a stopped law is READY again
once it is cleared and no cause holds. Choices of the model it rests on: log 1, 22, 54, 60. -/
def Obligations.FeedbackAndLawClear : Prop :=
  (∀ (s z : State) (t : Nat) (c : SdChan) (n : Nat), z = s.advance t → 64 ≤ n → z.laws.lost[c] = false →
    Done (.feedbackLost t c n) s fun u =>
      u.laws.lost = z.laws.lost.set c true ∧
      (z.holds = true → u.laws.laws = z.laws.laws ∧ u.legs = z.legs ∧ u.pair = (z.submit (.feedbackLost c) id).pair) ∧
      (z.decides = false → u.laws.laws = z.laws.laws ∧ u.legs = z.legs ∧ u.pair = z.pair) ∧ Only [.legs, .laws, .pair, .port] z
        u) ∧
  (∀ (c : SdChan), Effect (.feedbackLost c) (fun z => True) fun z u =>
      (∀ l : LawNo, z.hasLaw l.val = true → (z.law l.val).st = .running → z.reads l.val c.val = true →
        (u.law l.val).st = .coasted) ∧
      (∀ l : LawNo, z.reads l.val c.val = false → u.law l.val = z.law l.val) ∧ Only [.legs, .laws, .port] z u) ∧
  (∀ (s z : State) (t : Nat) (k : SdckNo) (o : ClockObs), z = s.advance t → clockGone o = true → z.laws.clocks[k].lost = false →
    Done (.sdckLost t k o) s fun u =>
      u.laws.clocks[k].lost = true ∧ (∀ c : SdChan, c.val / 16 = k.val → u.laws.lost[c] = true) ∧
      (∀ c : SdChan, c.val / 16 ≠ k.val → u.laws.lost[c] = z.laws.lost[c]) ∧
      (k.val = 14 → z.carousel.started = true → z.wired .a = true → z.carousel.setA.valid = true → u.carousel.setA.valid =
        false) ∧
      (k.val < 14 → u.carousel = z.carousel) ∧
      (k.val < 14 → z.holds = true → u.laws.laws = z.laws.laws ∧ u.pair = (z.submit (.clockLost k) id).pair) ∧ Only [.carousel,
        .legs, .laws, .pair, .port] z u) ∧
  (∀ (k : SdckNo), Effect (.clockLost k) (fun z => True) fun z u =>
      (∀ (l : LawNo) (c : SdChan), c.val / 16 = k.val → z.hasLaw l.val = true → (z.law l.val).st = .running →
        z.reads l.val c.val = true → (u.law l.val).st = .coasted) ∧ Only [.legs, .laws, .port] z u) ∧
  (∀ (s z : State) (t : Nat) (k : SdckNo) (n : Nat), z = s.advance t → 4 ≤ n → z.laws.clocks[k].lost = true →
    Done (.sdckValid t k n) s fun u =>
      u.laws = { z.laws with clocks := z.laws.clocks.set k { lost := false } } ∧ u.lastEv = some .sdckLost ∧ Only [.laws,
        .port] z u) ∧
  (∀ (c : ConnNo) (l : LawNo), Request (fun t => .lawClear t c l) c (dev 132 4 l.val) .execute (.lawClear l) 0 (fun z => (z.law
    l.val).st = .stopped ∧ (∀ x ∈ (z.law l.val).causes, z.causeHolds (z.law l.val) (z.lawGroup l.val) x = false)) fun z u =>
      u.law l.val = { z.law l.val with st := .ready, causes := [], trips := 0, x := [] } ∧
      (∀ m : LawNo, m ≠ l → u.law m.val = z.law m.val) ∧ u.lastEv = some .lawCleared ∧ Only [.laws, .port] z u) ∧
  (∀ (c : ConnNo) (l : LawNo), Request (fun t => .lawClear t c l) c (dev 132 4 l.val) .execute (.lawClear l) 4 (fun z => (z.law
    l.val).st ≠ .stopped) fun z u =>
      Only [.port] z u)

/-- SAFETY_CYCLE, SAFETY_DEMAND, SAFETY_CLEAR (R462, R463, R470, R471, R475, R477, R480, R483, R485): every cycle samples the
inputs outside their own pulse window; two cycles in which the evaluations disagree are a fault with every output off; a
channel that has read low in 200 samples puts its function in demand, with the function's outputs off and its LEGS_OFF; one
that has read high for as long ends the demand of a function that restarts by itself, and of no manual one. Choices of the
model it rests on: log 1, 23, 93. -/
def Obligations.DemandsAndReactions : Prop :=
  (∀ (s z : State) (t : Nat) (lv : BitVec 32) (hi : BitVec 8), z = s.advance t → z.powerDie = true →
    Done (.safetyCycle t lv false hi) s fun u =>
      u.safety.cycles = z.safety.cycles + 1 ∧
      (∀ i : SiNo, z.tpOf i.val = none → u.safeIn i.val = (z.safeIn i.val).take (lv.getLsbD i.val) z.time.clock) ∧
      (∀ (i : SiNo) (p : Nat), z.tpOf i.val = some p → z.inWindow p = true →
        (u.safeIn i.val).level = (z.safeIn i.val).level ∧ (u.safeIn i.val).run = (z.safeIn i.val).run ∧
        (u.safeIn i.val).levelAt = (z.safeIn i.val).levelAt ∧ (u.safeIn i.val).raw = lv.getLsbD i.val) ∧
      (∀ (i : SiNo) (p : Nat), z.tpOf i.val = some p → (z.time.clock - z.safety.dieAt) / (16 * ticksPerMs) ≠ z.safety.period →
        (z.safeIn i.val).paused = false → (z.safeIn i.val).ownSamples = 40 →
        ((u.safeIn i.val).missRun = if (z.safeIn i.val).ownPulse then 0 else (z.safeIn i.val).missRun + 1) ∧
        ((u.safeIn i.val).foreignRun = if (z.safeIn i.val).otherPulse then (z.safeIn i.val).foreignRun + 1 else 0)) ∧
      (∀ n : SoNo, z.offHigh n.val (hi.getLsbD n.val) = true →
        (vget u.safety.outs n.val {}).faulty = true ∧ (vget u.safety.outs n.val {}).on = false) ∧ Only [.legs, .laws, .juggler,
          .barker, .scribe, .keys, .update, .pair, .port, .tokens, .safety] z u) ∧
  (∀ (s z : State) (t : Nat) (lv : BitVec 32) (hi : BitVec 8), z = s.advance t → z.powerDie = true → z.safety.disagreed = true
    → z.safety.netFault = false →
    z.safety.legsOwn = false →
    Done (.safetyCycle t lv true hi) s fun u =>
      u.safety.netFault = true ∧ (∀ n : SoNo, (vget u.safety.outs n.val {}).on = false) ∧ u.safety.legsOwn = true ∧
      (journals z.pair.st = false → u.legs.legsOff = true) ∧ Only [.legs, .laws, .juggler, .barker, .scribe, .keys, .update,
        .pair, .port, .tokens, .safety] z u) ∧
  (∀ (s z : State) (t : Nat) (i : SiNo) (f : FnRec), z = s.advance t → z.powerDie = true → z.fnOfInput i.val = some f → f.kind
    ≠ 3 →
    (∀ g ∈ z.safeFns, g.num = f.num → g = f) → (z.safeIn i.val).demand = false → (z.safeIn i.val).level = false →
    (z.safeIn i.val).run = 200 → (z.safeIn i.val).fault = none → z.safety.legsOwn = false →
    Done (.safetyDemand t i) s fun u =>
      (u.safeIn i.val).demand = true ∧ (u.safeFn f.num).demand = true ∧
      (∀ m : SiNo, m ≠ i → u.safeIn m.val = z.safeIn m.val) ∧
      (∀ n : SoNo, f.so / 2 ^ n.val % 2 = 1 → (vget u.safety.outs n.val {}).on = false) ∧
      (f.legs = true → u.safety.legsOwn = true ∧ (journals z.pair.st = false → u.legs.legsOff = true)) ∧ Only [.legs, .laws,
        .juggler, .barker, .scribe, .keys, .update, .pair, .port, .tokens, .safety] z u) ∧
  (∀ (s z : State) (t : Nat) (i : SiNo) (f : FnRec), z = s.advance t → z.powerDie = true → z.fnOfInput i.val = some f → f.two =
    false →
    (∀ g ∈ z.safeFns, g.num = f.num → g = f) → (z.safeIn i.val).demand = true → (z.safeIn i.val).level = true →
    (z.safeIn i.val).run = 200 → (z.safeFn f.num).demand = true → (z.safeFn f.num).forced = false →
    (z.safeFn f.num).weld = false → (z.safeFn f.num).asked = false →
    Done (.safetyClear t i) s fun u =>
      (u.safeIn i.val).demand = false ∧ (u.safeFn f.num).demand = f.manual ∧
      (∀ m : SiNo, m ≠ i → u.safeIn m.val = z.safeIn m.val) ∧ Only [.legs, .laws, .juggler, .barker, .scribe, .keys, .update,
        .pair, .port, .tokens, .safety] z u)

/-- PULSE_FAULT, DISCREPANCY_TIMEOUT, CHANNEL_REPAIRED, DEGRADED_EXPIRED (R472, R476, R487 to R489): a channel with a bad
pulse or a discrepancy is faulty; its function goes on in degraded mode where the section permits it and the other channel is
good, and is forced into demand otherwise, or after DEGRADE_MIN; a repair is recorded. Choices of the model it rests on: log
1, 23, 100, 153. -/
def Obligations.FaultyChannels : Prop :=
  (∀ (s z : State) (t : Nat) (i : SiNo) (f : FnRec), z = s.advance t → z.powerDie = true → z.fnOfInput i.val = some f →
    (z.safeIn i.val).demand = false →
    (z.safeIn i.val).fault = none → f.two = true → (∃ j ∈ f.chans, j ≠ i.val ∧ (z.safeIn j).fault = none) → z.degradeMin ≠ 0 →
    (z.safeFn f.num).degraded = false → 2 ≤ (z.safeIn i.val).missRun →
    Done (.pulseFault t i .missing) s fun u =>
      (u.safeIn i.val).fault = some 0 ∧
      (u.safeFn f.num).degraded = true ∧ (u.safeFn f.num).forced = (z.safeFn f.num).forced ∧ Only [.legs, .laws, .juggler,
        .barker, .scribe, .keys, .update, .pair, .port, .tokens, .safety] z u) ∧
  (∀ (s z : State) (t : Nat) (i : SiNo) (f : FnRec), z = s.advance t → z.powerDie = true → z.fnOfInput i.val = some f →
    (z.safeIn i.val).demand = false →
    (z.safeIn i.val).fault = none → (f.two = false ∨ z.degradeMin = 0) →
    2 ≤ (z.safeIn i.val).foreignRun →
    Done (.pulseFault t i .foreign) s fun u =>
      (u.safeIn i.val).fault = some 1 ∧
      (u.safeFn f.num).forced = true ∧ (u.safeFn f.num).demand = true ∧
      (∀ n : SoNo, f.so / 2 ^ n.val % 2 = 1 → (vget u.safety.outs n.val {}).on = false) ∧ Only [.legs, .laws, .juggler,
        .barker, .scribe, .keys, .update, .pair, .port, .tokens, .safety] z u) ∧
  (∀ (s z : State) (t : Nat) (fn : FuncNo) (f : FnRec), z = s.advance t → z.powerDie = true → z.fnRec fn.val = some f → f.two =
    true → f.siB < 32 →
    z.fnOfInput f.siB = some f → (z.safeIn f.siA).demand = true → (z.safeIn f.siA).fault = none →
    (z.safeIn f.siB).demand = false → (z.safeIn f.siB).fault = none →
    (z.safeIn f.siA).since + f.disc * ticksPerMs < z.time.clock →
    Done (.discrepancyTimeout t fn) s fun u =>
      (u.safeIn f.siB).fault = some 2 ∧ u.safeIn f.siA = z.safeIn f.siA ∧
      ((u.safeFn fn.val).degraded = true ∨ (u.safeFn fn.val).forced = true) ∧ Only [.legs, .laws, .juggler, .barker, .scribe,
        .keys, .update, .pair, .port, .tokens, .safety] z u) ∧
  (∀ (s z : State) (t : Nat) (fn : FuncNo) (f : FnRec), z = s.advance t → z.fnRec fn.val = some f → f.two = false →
    Done (.discrepancyTimeout t fn) s fun u => u = z) ∧
  (∀ (s z : State) (t : Nat) (i : SiNo), z = s.advance t → z.powerDie = true → (z.safeIn i.val).fault ≠ none → (z.safeIn
    i.val).demand = false →
    10 ≤ (z.safeIn i.val).passRun →
    Done (.channelRepaired t i) s fun u =>
      u.safeIn i.val = { z.safeIn i.val with repaired := true } ∧ (∀ m : SiNo, m ≠ i → u.safeIn m.val = z.safeIn m.val) ∧
      u.safety.fns = z.safety.fns ∧ Only [.safety] z u) ∧
  (∀ (s z : State) (t : Nat) (fn : FuncNo) (f : FnRec), z = s.advance t → z.powerDie = true → z.fnRec fn.val = some f →
    (z.safeFn fn.val).degraded = true →
    (z.safeFn fn.val).forced = false → (∃ j ∈ f.chans, (z.safeIn j).fault ≠ none ∧ (z.safeIn j).repaired = false) →
    z.degradeMin * 60 * ticksPerSec < z.degradedTicks fn.val →
    Done (.degradedExpired t fn) s fun u =>
      (u.safeFn fn.val).forced = true ∧ (u.safeFn fn.val).demand = true ∧ u.safety.ins = z.safety.ins ∧ Only [.legs, .laws,
        .juggler, .barker, .scribe, .keys, .update, .pair, .port, .tokens, .safety] z u)

/-- RESET_PRESS, SAFETY_ACKNOWLEDGE, WELD_DEMAND (R477, R478, R489, R500): a press of 100 ms to 3 s that began after the
channels left demand ends the demand of a manual function, another press does nothing; acknowledgement after repair ends
forced demand and degraded mode; a mirror contact that stays low with its output off latches the weld demand. Choices of the
model it rests on: log 1, 22, 23, 93. -/
def Obligations.ResetAndWeld : Prop :=
  (∀ (s z : State) (t : Nat) (i : SiNo) (rise fall : Nat) (f : FnRec), z = s.advance t → z.powerDie = true → (z.safeIn
    i.val).press = some (rise, fall) →
    rise + 100 * ticksPerMs ≤ fall → fall ≤ rise + 3000 * ticksPerMs → f ∈ z.safeFns → f.reset = i.val →
    (∀ g ∈ z.safeFns, g.num = f.num → g = f) → f.manual = true → f.kind ≠ 3 → (z.safeFn f.num).demand = true →
    (z.safeFn f.num).forced = false → (z.safeFn f.num).weld = false → (z.safeFn f.num).asked = false →
    (∀ j ∈ f.chans, (z.safeIn j).demand = false ∧ (z.safeIn j).fault = none ∧ (z.safeIn j).since < rise) →
    Done (.resetPress t i rise) s fun u => (u.safeFn f.num).demand = false ∧ (u.safeIn i.val).press = none ∧ Only [.legs,
      .laws, .juggler, .barker, .scribe, .keys, .update, .pair, .port, .tokens, .safety] z u) ∧
  (∀ (s z : State) (t : Nat) (i : SiNo) (rise fall : Nat), z = s.advance t → (z.safeIn i.val).press = some (rise, fall) →
    (fall < rise + 100 * ticksPerMs ∨ rise + 3000 * ticksPerMs < fall) →
    Done (.resetPress t i rise) s fun u =>
      u.safeIn i.val = { z.safeIn i.val with press := none } ∧ u.safety.fns = z.safety.fns ∧ Only [.safety] z u) ∧
  (∀ (s z : State) (t : Nat) (i : SiNo) (rise : Nat), z = s.advance t → (z.safeIn i.val).press.map (·.1) ≠ some rise → Done
    (.resetPress t i rise) s fun u => u = z) ∧
  (∀ (c : ConnNo) (fn : FuncNo) (f : FnRec), Request (fun t => .safetyAcknowledge t c fn) c (dev 138 4 fn.val) .execute
    (.acknowledge fn) 0 (fun z => z.fnRec fn.val = some f ∧ f.reset = 63 ∧ (∀ j ∈ f.chans, (z.safeIn j).fault = none ∨
    (z.safeIn j).repaired = true)) fun z u =>
      (u.safeFn fn.val).forced = false ∧ (u.safeFn fn.val).degraded = false ∧ (u.safeFn fn.val).minutes = 0 ∧
      (∀ j ∈ f.chans, j < 32 → (u.safeIn j).fault = none ∧ (u.safeIn j).repaired = false) ∧ Only [.legs, .laws, .juggler,
        .barker, .scribe, .keys, .update, .pair, .port, .tokens, .safety] z u) ∧
  (∀ (c : ConnNo) (fn : FuncNo) (f : FnRec), Request (fun t => .safetyAcknowledge t c fn) c (dev 138 4 fn.val) .execute
    (.acknowledge fn) 4 (fun z => z.fnRec fn.val = some f ∧ f.reset ≠ 63) fun z u =>
      Only [.port] z u) ∧
  (∀ (s z : State) (t : Nat) (fn : FuncNo) (f : FnRec), z = s.advance t → z.powerDie = true → z.fnRec fn.val = some f → f.kind
    = 3 → (z.safeIn f.siA).level = false →
    (z.safeIn f.siA).levelAt + f.weld * ticksPerMs ≤ z.time.clock → (vget z.safety.outs f.soRef {}).on = false →
    (vget z.safety.outs f.soRef {}).at_ + f.weld * ticksPerMs ≤ z.time.clock →
    Done (.weldDemand t fn) s fun u =>
      (u.safeFn fn.val).weld = true ∧ (u.safeFn fn.val).demand = true ∧ u.safety.ins = z.safety.ins ∧
      (∀ n : SoNo, f.so / 2 ^ n.val % 2 = 1 → (vget u.safety.outs n.val {}).on = false) ∧ Only [.legs, .laws, .juggler,
        .barker, .scribe, .keys, .update, .pair, .port, .tokens, .safety] z u)

/-- SAFETY_CROSS_CHECK, DARK_TEST, SO_OVERCURRENT (R464, R465, R484, R485): a function that the Ringmaster finds in demand and
the power die does not is put in demand at its request, which ends when the check no longer lists it; an output that stays
high in its dark test or carries more than 0.7 A is faulty and off. HEARTBEAT, ORPHAN_ENTER, ORPHAN_TIMEOUT (R490 to R492):
500 us without a heartbeat put the power die in orphan mode, which asserts LEGS_OFF and resets the logic die for 10 ms; the
outputs go off when ORPHAN_S has passed; the heartbeat of a logic die in service ends it and its requests govern again.
Choices of the model it rests on: log 1, 22, 93, 109. -/
def Obligations.OutputsAndOrphanMode : Prop :=
  (∀ (s z : State) (t : Nat) (ns : List FuncNo) (f : FnRec) (n : FuncNo), z = s.advance t → z.startup.mode = .service →
    z.powerDie = true → f ∈ z.safeFns → n ∈ ns → n.val = f.num →
    (∀ g ∈ z.safeFns, g.num = f.num → g = f) → (z.safeFn f.num).demand = false →
    Done (.safetyCrossCheck t ns) s fun u =>
      (u.safeFn f.num).asked = true ∧ (u.safeFn f.num).demand = true ∧ z.safety.divergences < u.safety.divergences ∧
      (3 ≤ u.safety.divergences → 1 ∈ u.pair.degraded) ∧ Only [.legs, .laws, .juggler, .barker, .scribe, .keys, .update, .pair,
        .port, .tokens, .safety] z u) ∧
  (∀ (s z : State) (t : Nat), z = s.advance t → z.startup.mode = .service → z.powerDie = true → Done (.safetyCrossCheck t []) s
    fun u =>
      (∀ f ∈ z.safeFns, (u.safeFn f.num).asked = false) ∧ u.safety.divergences = z.safety.divergences ∧ Only [.legs, .laws,
        .juggler, .barker, .scribe, .keys, .update, .pair, .port, .tokens, .safety] z u) ∧
  (∀ (s z : State) (t : Nat) (n : SoNo), z = s.advance t → z.powerDie = true → z.darkNow n.val = true →
    Done (.darkTest t n true) s fun u =>
      u.safety.outs[n] = { z.safety.outs[n] with dark := some true } ∧ (∀ m : SoNo, m ≠ n → u.safety.outs[m] =
        z.safety.outs[m]) ∧
      Only [.safety] z u) ∧
  (∀ (s z : State) (t : Nat) (n : SoNo), z = s.advance t → z.powerDie = true → z.darkNow n.val = false → Done (.darkTest t n
    false) s fun u => u = z) ∧
  (∀ (s z : State) (t : Nat) (n : SoNo), z = s.advance t → z.powerDie = true → z.darkNow n.val = true → z.safety.outs[n].faulty
    = false →
    Done (.darkTest t n false) s fun u =>
      u.safety.outs[n].faulty = true ∧ u.safety.outs[n].on = false ∧ u.safety.outs[n].dark = some false ∧
      (∀ m : SoNo, m ≠ n → u.safety.outs[m].faulty = z.safety.outs[m].faulty) ∧ Only [.legs, .laws, .pair, .port, .safety] z u)
        ∧
  (∀ (s z : State) (t : Nat) (n : SoNo) (mA : Nat), z = s.advance t → z.powerDie = true → z.safety.outs[n].on = true →
    z.safety.outs[n].faulty = false → 700 < mA →
    Done (.soOvercurrent t n mA) s fun u =>
      u.safety.outs[n].faulty = true ∧ u.safety.outs[n].on = false ∧
      (∀ m : SoNo, m ≠ n → u.safety.outs[m].faulty = z.safety.outs[m].faulty) ∧ Only [.legs, .laws, .pair, .port, .safety] z u)
        ∧
  (∀ (s z : State) (t : Nat) (n : SoNo) (mA : Nat), z = s.advance t → mA ≤ 700 → Done (.soOvercurrent t n mA) s fun u => u = z) ∧
  (∀ (s z : State) (t : Nat), z = s.advance t → z.startup.mode = .service → z.powerDie = true →
    Done (.heartbeat t) s fun u =>
      u.safety.beatAt = some z.time.clock ∧ u.safety.orphan = none ∧
      (z.safety.orphan ≠ none → u.safety.orphanOut = false ∧ ∀ n : SoNo, u.safety.outs[n].req = z.soEn n.val) ∧ Only [.legs,
        .laws, .juggler, .barker, .scribe, .keys, .update, .pair, .port, .tokens, .safety, .drives] z u) ∧
  (∀ (s z : State) (t : Nat) (a : Nat), z = s.advance t → z.safety.beatAt = some a → z.powerDie = true → z.safety.orphan = none
    → a + 500 * ticksPerUs < z.time.clock →
    Done (.orphanEnter t) s fun u =>
      u.safety.orphan = some z.time.clock ∧ u.safety.orphanAct = false ∧ u.safety.legsOwn = true ∧
      u.safety.resetUntil = some (z.time.clock + 10 * ticksPerMs) ∧ u.startup.mode = .off ∧ u.safety.fns = z.safety.fns ∧ Only
        [.time, .carousel, .wall, .startup, .array, .legs, .laws, .juggler, .thermal, .barker, .scribe, .update, .ptp, .pair,
        .port, .tokens, .tamper, .safety, .drives, .supply, .buses] z u) ∧
  (∀ (s z : State) (t : Nat) (a : Nat), z = s.advance t → z.safety.beatAt = some a → z.time.clock ≤ a + 500 * ticksPerUs → Done
    (.orphanEnter t) s fun u => u = z) ∧
  (∀ (s z : State) (t : Nat) (a : Nat), z = s.advance t → z.safety.orphan = some a → z.safety.orphanAct = false →
    z.safety.orphanOut = false → z.powerDie = true →
    a + z.orphanS < z.time.clock →
    Done (.orphanTimeout t) s fun u =>
      u.safety.orphanOut = true ∧ u.safety.orphan = some a ∧ (∀ n : SoNo, u.safety.outs[n].on = false) ∧ Only [.legs, .laws,
        .pair, .port, .safety, .supply] z u)

/-- SAFETY_CHANGE, SAFETY_CHANGE_UNLOCK (R495, R496, R498): the right password logs the new section or sets the new password;
a wrong one is refused and counted, and after five within 10 min every change is refused for 10 min. Choices of the model it
rests on: log 1, 19, 22, 94. -/
def Obligations.SafetyChanges : Prop :=
  (∀ (c : ConnNo) (pw : List Byte) (crc : W32) (h : Nat), Request (fun t => .safetyChange t c pw (.newSection crc h)) c (dev
    138 5 0) .execute (.safetyChange pw (.newSection crc h)) 0 (fun z => z.changeRefused = false ∧ z.safety.password = some
    (passwordHash pw)) fun z u =>
      (∃ e, u.safety.log = (e :: z.safety.log).take 1024 ∧ e.no = z.safety.entryNo + 1 ∧ e.kind = 1 ∧ e.crc = crc ∧ e.hash = h)
        ∧
      u.safety.entryNo = z.safety.entryNo + 1 ∧ u.safety.sect = z.safety.sect ∧ u.safety.password = z.safety.password ∧
      u.lastEv = some .safetyChange ∧ Only [.port, .tamper, .safety] z u) ∧
  (∀ (c : ConnNo) (pw p : List Byte), Request (fun t => .safetyChange t c pw (.password p)) c (dev 138 5 0) .execute
    (.safetyChange pw (.password p)) 0 (fun z => z.changeRefused = false ∧ (z.safety.password = none ∨ z.safety.password = some
    (passwordHash pw)) ∧ goodPassword p = true) fun z u =>
      u.safety.password = some (passwordHash p) ∧ u.safety.entryNo = z.safety.entryNo + 1 ∧ Only [.port, .tamper, .safety] z u)
        ∧
  (∀ (c : ConnNo) (pw : List Byte) (h : Nat) (ch : SafetyChange), Request (fun t => .safetyChange t c pw ch) c (dev 138 5 0)
    .execute (.safetyChange pw ch) 1 (fun z => z.changeRefused = false ∧ z.safety.password = some h ∧ passwordHash pw ≠ h) fun
    z u =>
      u.safety.log = z.safety.log ∧ u.safety.password = z.safety.password ∧
      (4 ≤ (z.safety.wrong.filter fun x => z.time.clock ≤ x + 600 * ticksPerSec).length →
        u.safety.refusedUntil = some (z.time.clock + 600 * ticksPerSec)) ∧ Only [.port, .safety] z u) ∧
  (∀ (c : ConnNo) (pw : List Byte) (ch : SafetyChange), Request (fun t => .safetyChange t c pw ch) c (dev 138 5 0) .execute
    (.safetyChange pw ch) 4 (fun z => z.changeRefused = true) fun z u =>
      Only [.port] z u) ∧
  (∀ (s z : State) (t : Nat) (e : Nat), z = s.advance t → z.safety.refusedUntil = some e → e ≤ z.time.clock →
    Done (.safetyChangeUnlock t) s fun u => u.safety = { z.safety with refusedUntil := none } ∧ Only [.safety] z u)

/-- INK_POINT (R262 to R268): the pencil is inked where no input tightened, clamp ink where one did or the pencil is late, and
the ink of the next half-turn is written once; in a divergence test the holder merges it with the standby's and journals it,
and both modules take the lesser (R602). Choices of the model it rests on: log 1, 22, 62, 81, 146, 147. -/
def Obligations.InkIsWritten : Prop :=
  (∀ (s z : State) (t : Nat) (o : Option InkVals) (i : JugIn) (a : Alloc), z = s.advance t → z.startup.mode = .service →
    z.carousel.running = true → z.juggler.latch = some i →
    z.juggler.pointDone = false → z.pair.diverge = none → z.juggler.pencil = some a → z.policy.tightened i z.jugInputs = [] →
    Done (.inkPoint t o) s fun u =>
      u.juggler.nextInk = some a ∧ u.juggler.pointDone = true ∧ u.juggler.ink = z.juggler.ink ∧
      u.juggler.clampInks = z.juggler.clampInks ∧ Only [.carousel, .juggler, .scribe, .pair, .port] z u) ∧
  (∀ (s z : State) (t : Nat) (o : Option InkVals) (i : JugIn) (a : Alloc), z = s.advance t → z.startup.mode = .service →
    z.carousel.running = true → z.juggler.latch = some i →
    z.juggler.pointDone = false → z.pair.diverge = none → z.juggler.pencil = some a → z.policy.tightened i z.jugInputs ≠ [] →
    Done (.inkPoint t o) s fun u =>
      u.juggler.nextInk = some (z.policy.clampInk z.jugInputs z.juggler.ink z.carousel.freq) ∧ u.juggler.pointDone = true ∧
      u.juggler.clampInks = z.juggler.clampInks + 1 ∧ Only [.carousel, .juggler, .scribe, .pair, .port] z u) ∧
  (∀ (s z : State) (t : Nat) (o : Option InkVals) (i : JugIn), z = s.advance t → z.startup.mode = .service → z.carousel.running
    = true → z.juggler.latch = some i →
    z.juggler.pointDone = false → z.pair.diverge = none → z.juggler.pencil = none →
    Done (.inkPoint t o) s fun u =>
      u.juggler.nextInk = some (z.policy.clampInk z.jugInputs z.juggler.ink z.carousel.freq) ∧ u.juggler.pointDone = true ∧
      u.juggler.pencilLate = z.juggler.pencilLate + 1 ∧ Only [.carousel, .juggler, .scribe, .pair, .port] z u) ∧
  (∀ (s z : State) (t : Nat) (o : InkVals) (i : JugIn) (a : Alloc) (d : Diverge), z = s.advance t → z.startup.mode = .service →
    z.carousel.running = true →
    z.juggler.latch = some i → z.juggler.pointDone = false → z.pair.diverge = some d → z.juggler.pencil = some a →
    z.policy.tightened i z.jugInputs = [] →
    Done (.inkPoint t (some o)) s fun u =>
      u.juggler.nextInk = some (z.policy.mergeInk i z.juggler.ink a o z.carousel.freq) ∧ u.juggler.pointDone = true ∧
      (z.pair.st = .holder → u.pair.journal.length = z.pair.journal.length + 1) ∧ Only [.carousel, .juggler, .scribe, .pair,
        .port] z u) ∧
  (∀ (x : InkVals) (a : Alloc), Effect (.ink x) (fun z => z.juggler.nextInk = some a ∧ z.pair.diverge.isSome = true) fun z u =>
      u.juggler = { z.juggler with nextInk := some (a.lesser x) } ∧ Only [.juggler] z u) ∧
  (∀ (s z : State) (t : Nat) (o : Option InkVals), z = s.advance t → z.juggler.pointDone = true → Done (.inkPoint t o) s fun u
    => u = z)

/-- CURTAILMENT_WRITE, GRID_COMMAND, CURT_SILENT (R272, R273, R285, Table 7.7): a write or a frame makes its source active or
lifted, with its validity; an expired source is silent; and the effective curtailment is the lesser of what the two sources
contribute. Choices of the model it rests on: log 1, 22, 84, 122. -/
def Obligations.CurtailmentSources : Prop :=
  (∀ (c : ConnNo) (kw secs : Nat), Request (fun t => .curtailmentWrite t c kw secs) c (dev 133 4 0) .write (.curtailment kw
    secs) 0 (fun z => kw < 2 ^ 32 - 1 ∧ secs < 2 ^ 32) fun z u =>
      u.juggler.curtObj.st = .active ∧ u.juggler.curtObj.value = some kw ∧
      u.juggler.curtObj.expiry = (if secs = 0 then none else some (z.time.clock + secs * ticksPerSec)) ∧
      u.juggler.curtCan = z.juggler.curtCan ∧
      u.juggler.effective = minLimit (some kw) (z.policy.contribution z.juggler.curtCan) ∧ Only [.juggler, .port] z u) ∧
  (∀ (c : ConnNo) (secs : Nat), Request (fun t => .curtailmentWrite t c (2 ^ 32 - 1) secs) c (dev 133 4 0) .write (.curtailment
    (2 ^ 32 - 1) secs) 0 (fun z => secs < 2 ^ 32) fun z u =>
      u.juggler.curtObj.st = .lifted ∧
      u.juggler.curtObj.expiry = (if secs = 0 then none else some (z.time.clock + secs * ticksPerSec)) ∧
      u.juggler.effective = z.policy.contribution z.juggler.curtCan ∧ Only [.juggler, .port] z u) ∧
  (∀ (k : CanNo) (v : BitVec 64), Input (fun t => .gridCommand t k v) (.gridCommand k v) (fun z => True) (fun z =>
    z.policy.curtCanEn = true ∧ k.val = z.policy.curtCan ∧ v.toNat / 256 % 256 = 1 ∧ v.toNat / 2 ^ 32 ≠ 2 ^ 32 - 1) fun z u =>
      u.juggler.curtCan.st = .active ∧ u.juggler.curtCan.value = some (v.toNat / 2 ^ 32) ∧
      u.juggler.curtCan.expiry = some (z.time.clock + z.policy.curtTimeout) ∧ u.juggler.curtObj = z.juggler.curtObj ∧
      u.juggler.effective = minLimit (z.policy.contribution z.juggler.curtObj) (some (v.toNat / 2 ^ 32)) ∧
      Only [.juggler, .port] z u) ∧
  (∀ (k : CanNo) (v : BitVec 64), Effect (.gridCommand k v) (fun z => (z.policy.curtCanEn = false ∨ k.val ≠ z.policy.curtCan ∨
    v.toNat / 256 % 256 ≠ 1)) fun z u =>
      u = z) ∧
  (∀ (e : Nat), Input (fun t => .curtSilent t .object) (.curtSilent .object) (fun z => z.startup.mode = .service ∧
    z.juggler.curtObj.expiry = some e ∧ e < z.time.clock ∧ z.juggler.curtObj.st ≠ .silent) (fun z => z.juggler.curtObj.st ≠
    .silent) fun z u =>
      u.juggler.curtObj = { z.juggler.curtObj with st := .silent, expiry := none } ∧ u.juggler.curtCan = z.juggler.curtCan ∧
      u.juggler.effective =
        minLimit (z.policy.contribution u.juggler.curtObj) (z.policy.contribution z.juggler.curtCan) ∧ Only [.juggler, .port] z
          u) ∧
  (∀ (e : Nat), Input (fun t => .curtSilent t .can) (.curtSilent .can) (fun z => z.startup.mode = .service ∧ z.policy.curtCanEn
    = true ∧ z.juggler.curtCan.expiry = some e ∧ e < z.time.clock ∧ z.juggler.curtCan.st ≠ .silent) (fun z =>
    z.juggler.curtCan.st ≠ .silent) fun z u =>
      u.juggler.curtCan = { z.juggler.curtCan with st := .silent, expiry := none } ∧ u.juggler.curtObj = z.juggler.curtObj ∧
      Only [.juggler, .port] z u) ∧
  (∀ (s z : State) (t : Nat) (e : Nat), z = s.advance t → z.juggler.curtObj.expiry = some e → z.time.clock ≤ e → Done
    (.curtSilent t .object) s fun u => u = z)

/-- CONTACTOR_STATUS, MATRIX_TIMEOUT, MATRIX_CLEAR (R278, R279, R285, Table 7.8): the status a group waits for moves it to
ATTACHED or FREE; a wrong one, or none in time, to MFAULT, which a client clears while the status reads open. Choices of the
model it rests on: log 1, 22, 61. -/
def Obligations.MatrixStates : Prop :=
  (∀ (g : ConvNo) (st o q : BitVec 8), Input (fun t => .contactorStatus t g (st ++ o ++ q ++ (st ^^^ o ^^^ q ^^^ 0xA5#8)))
    (.contactorStatus g (st ++ o ++ q ++ (st ^^^ o ^^^ q ^^^ 0xA5#8))) (fun z => True) (fun z => (z.matrix g.val).st = .closing
    ∧ st.toNat = 1 ∧ o.toNat = (z.matrix g.val).outlet ∧ q.toNat = (z.matrix g.val).seq) fun z u =>
      (u.matrix g.val).st = .attached ∧ (u.matrix g.val).outlet = (z.matrix g.val).outlet ∧ (u.matrix g.val).cmd = none ∧
      (∀ h : ConvNo, h ≠ g → u.matrix h.val = z.matrix h.val) ∧ u.lastEv = some .groupAttached ∧ Only [.juggler, .port] z u) ∧
  (∀ (g : ConvNo) (st o q : BitVec 8), Input (fun t => .contactorStatus t g (st ++ o ++ q ++ (st ^^^ o ^^^ q ^^^ 0xA5#8)))
    (.contactorStatus g (st ++ o ++ q ++ (st ^^^ o ^^^ q ^^^ 0xA5#8))) (fun z => True) (fun z => (z.matrix g.val).st = .opening
    ∧ st.toNat = 0 ∧ q.toNat = (z.matrix g.val).seq) fun z u =>
      (u.matrix g.val).st = .free ∧ (u.matrix g.val).outlet = 0 ∧ (u.matrix g.val).cmd = none ∧
      (∀ h : ConvNo, h ≠ g → u.matrix h.val = z.matrix h.val) ∧ u.lastEv = some .groupReleased ∧ Only [.juggler, .port] z u) ∧
  (∀ (g : ConvNo) (st o q : BitVec 8), Input (fun t => .contactorStatus t g (st ++ o ++ q ++ (st ^^^ o ^^^ q ^^^ 0xA5#8)))
    (.contactorStatus g (st ++ o ++ q ++ (st ^^^ o ^^^ q ^^^ 0xA5#8))) (fun z => True) (fun z => ((z.matrix g.val).st =
    .attached ∨ (z.matrix g.val).st = .draining) ∧ (st.toNat = 0 ∨ st.toNat = 128 ∨ (st.toNat = 1 ∧ o.toNat ≠ (z.matrix
    g.val).outlet))) fun z u =>
      (u.matrix g.val).st = .mfault ∧ (u.matrix g.val).cmd = none ∧
      (∀ h : ConvNo, h ≠ g → u.matrix h.val = z.matrix h.val) ∧ u.lastEv = some .matrixFault ∧ Only [.juggler, .port] z u) ∧
  (∀ (g : ConvNo) (st o q k : BitVec 8), Input (fun t => .contactorStatus t g (st ++ o ++ q ++ k)) (.contactorStatus g (st ++ o
    ++ q ++ k)) (fun z => True) (fun z => k ≠ st ^^^ o ^^^ q ^^^ 0xA5#8) fun z u =>
      u.matrix g.val = { z.matrix g.val with checkFails := (z.matrix g.val).checkFails + 1 } ∧
      (∀ h : ConvNo, h ≠ g → u.matrix h.val = z.matrix h.val) ∧ Only [.juggler] z u) ∧
  (∀ (g : ConvNo), Input (fun t => .matrixTimeout t g) (.matrixTimeout g) (fun z => ((z.matrix g.val).st = .closing ∨ (z.matrix
    g.val).st = .opening) ∧ (z.matrix g.val).cmdAt + z.policy.matrixTo < z.time.clock) (fun z => z.matrixLate g.val = true) fun
    z u =>
      (u.matrix g.val).st = .mfault ∧ (∀ h : ConvNo, h ≠ g → u.matrix h.val = z.matrix h.val) ∧
      u.lastEv = some .matrixFault ∧ Only [.juggler, .port] z u) ∧
  (∀ (s z : State) (t : Nat) (g : ConvNo), z = s.advance t → (z.matrix g.val).st = .free ∨ (z.matrix g.val).st = .mfault ∨
      (z.matrix g.val).st = .closing ∧ z.time.clock ≤ (z.matrix g.val).cmdAt + z.policy.matrixTo →
    Done (.matrixTimeout t g) s fun u => u = z) ∧
  (∀ (c : ConnNo) (g : ConvNo) (x : CtrStatus), Request (fun t => .matrixClear t c g) c (dev 133 3 g.val) .execute
    (.matrixClear g) 0 (fun z => (z.matrix g.val).st = .mfault ∧ (z.matrix g.val).status = some x ∧ x.state = 0 ∧ z.time.clock
    ≤ x.time + z.policy.matrixTo) fun z u =>
      u.matrix g.val = { z.matrix g.val with st := .free, outlet := 0, cmd := none } ∧
      (∀ h : ConvNo, h ≠ g → u.matrix h.val = z.matrix h.val) ∧ Only [.juggler, .port] z u) ∧
  (∀ (c : ConnNo) (g : ConvNo), Request (fun t => .matrixClear t c g) c (dev 133 3 g.val) .execute (.matrixClear g) 4 (fun z =>
    (z.matrix g.val).st ≠ .mfault) fun z u =>
      Only [.port] z u)

/-- AI_SAMPLE, SENSOR_VALID (R318, R319): a reading in its sensor's range is kept, one outside makes the sensor invalid at
once, and a second of good readings makes it valid again. DISP_TEMP_STALE, THERMAL_DISAGREE (R320, R321): a connector
temperature not refreshed for 1 s is invalid; a residual outside, or back inside, its bound for RESID_S raises, or ends, the
alarm of its sensor or channel. Choices of the model it rests on: log 1, 12, 22, 85. -/
def Obligations.SensorsAndResiduals : Prop :=
  (∀ (rs : List Nat) (n : Fin 32) (w : List W32) (r : Nat), Input (fun t => .aiSample t rs) (.aiSample rs) (fun z => True) (fun
    z => w ∈ z.recs 0x0704 ∧ fld w 0 31 27 = n.val ∧ (∀ x ∈ z.recs 0x0704, fld x 0 31 27 = n.val → x = w) ∧ rs[n.val]? = some r
    ∧ r < 65536) fun z u =>
      (u.sensor n.val).reading = r ∧ (u.sensor n.val).sampled = true ∧
      (u.sensor n.val).valid = (decide (fld w 2 31 16 ≤ r ∧ r ≤ fld w 2 15 0) &&
        ((z.sensor n.val).valid || !(z.sensor n.val).sampled)) ∧
      (∀ m : Fin 32, (∀ x ∈ z.recs 0x0704, fld x 0 31 27 ≠ m.val) → u.sensor m.val = z.sensor m.val) ∧
      u.thermal.folios = z.thermal.folios ∧ Only [.thermal, .port] z u) ∧
  (∀ (s z : State) (t : Nat) (n : Fin 32) (g : Nat), z = s.advance t → (z.sensor n.val).goodSince = some g → (z.sensor
    n.val).valid = false → g + ticksPerSec ≤ z.time.clock →
    Done (.sensorValid t n) s fun u =>
      u.sensor n.val = { z.sensor n.val with valid := true, fallback := false } ∧
      (∀ m : Fin 32, m ≠ n → u.sensor m.val = z.sensor m.val) ∧ Only [.thermal] z u) ∧
  (∀ (s z : State) (t : Nat) (n : Fin 32) (g : Nat), z = s.advance t → (z.sensor n.val).goodSince = some g → z.time.clock < g +
    ticksPerSec →
    Done (.sensorValid t n) s fun u => u = z) ∧
  (∀ (o : OutletNo) (k : Fin 4), Input (fun t => .dispTempStale t o k) (.dispTempStale o k) (fun z => (vget z.thermal.disp (4 *
    o.val + k.val) {}).valid = true ∧ (vget z.thermal.disp (4 * o.val + k.val) {}).at_ + ticksPerSec < z.time.clock) (fun z =>
    (vget z.thermal.disp (4 * o.val + k.val) {}).valid = true) fun z u =>
      (vget u.thermal.disp (4 * o.val + k.val) {}).valid = false ∧
      (∀ n, n ≠ 4 * o.val + k.val → vget u.thermal.disp n {} = vget z.thermal.disp n {}) ∧
      u.lastEv = some .dispTempStale ∧ Only [.thermal, .port] z u) ∧
  (∀ (s z : State) (t : Nat) (n : Fin 288) (r : Rat) (c : List W32) (a : Nat), z = s.advance t → n.val < 32 → (z.sensor
    n.val).valid = true →
    z.residual (fld ((z.sensorRec n.val).getD []) 0 22 0) (z.sensorVal n.val) = some (r, c) → (z.sensor n.val).alarm = false →
    (z.sensor n.val).outSince = some a → a + residTime c ≤ z.time.clock →
    Done (.thermalDisagree t n) s fun u =>
      u.sensor n.val = { z.sensor n.val with alarm := true } ∧ (∀ m, m ≠ n.val → u.sensor m = z.sensor m) ∧
      u.lastEv = some .thermalDisagree ∧ Only [.thermal, .port] z u) ∧
  (∀ (s z : State) (t : Nat) (n : Fin 288) (r : Rat) (c : List W32) (a : Nat), z = s.advance t → n.val < 32 → (z.sensor
    n.val).valid = true →
    z.residual (fld ((z.sensorRec n.val).getD []) 0 22 0) (z.sensorVal n.val) = some (r, c) → (z.sensor n.val).alarm = true →
    (z.sensor n.val).inSince = some a → a + residTime c ≤ z.time.clock →
    Done (.thermalDisagree t n) s fun u =>
      u.sensor n.val = { z.sensor n.val with alarm := false } ∧ u.lastEv = some .thermalDisagree ∧ Only [.thermal, .port] z u) ∧
  (∀ (s z : State) (t : Nat) (n : Fin 288) (k : Nat) (r : Rat) (c : List W32) (a : Nat), z = s.advance t → n.val = 32 + k →
    (vget z.thermal.disp k {}).valid = true →
    z.residual (fld ((z.recAt 0x0801 31 25 (k / 4 + 1)).getD []) (3 + k % 4) 31 9)
      (((vget z.thermal.disp k {}).temp.getD 0 : Rat) / 16) = some (r, c) →
    (vget z.thermal.disp k {}).alarm = false → (vget z.thermal.disp k {}).outSince = some a → a + residTime c ≤ z.time.clock →
    Done (.thermalDisagree t n) s fun u =>
      (vget u.thermal.disp k {}).alarm = true ∧ u.lastEv = some .thermalDisagree ∧ Only [.thermal, .port] z u)

/-- DCU_STATUS, DCU_SILENT, NODE_VIEW_SET (R325, R326, R329, Table 8.10): a good status of a cooling unit is taken, STATE 0x80
counts as silence, and so do 500 ms without one; a client selects the node of its view. Choices of the model it rests on: log
1, 22, 85, 148. -/
def Obligations.CoolingUnits : Prop :=
  (∀ (n : Nat) (v : BitVec 64) (d : Dcu), Input (fun t => .dcuStatus t n v) (.dcuStatus n v) (fun z => True) (fun z => z.dcu n
    = some d ∧ v.toNat / 256 % 256 = 1 ∧ v.toNat / 65536 % 256 ≠ 128) fun z u =>
      u.dcu n = some { d with
        flow := v.toNat / 2 ^ 48, supply := signed 16 (v.toNat / 2 ^ 32 % 65536), seqSeen := v.toNat / 2 ^ 24 % 256
        unitState := v.toNat / 65536 % 256, lastAt := z.time.clock, silent := false, fallback := false } ∧
      (∀ m, m ≠ n → u.dcu m = z.dcu m) ∧ Only [.thermal] z u) ∧
  (∀ (n : Nat) (v : BitVec 64) (d : Dcu), Input (fun t => .dcuStatus t n v) (.dcuStatus n v) (fun z => True) (fun z => z.dcu n
    = some d ∧ d.silent = false ∧ v.toNat / 256 % 256 = 1 ∧ v.toNat / 65536 % 256 = 128) fun z u =>
      (∃ e, u.dcu n = some e ∧ e.silent = true ∧ e.flow = d.flow ∧ e.supply = d.supply) ∧ u.lastEv = some .dcuSilent ∧
      Only [.thermal, .port] z u) ∧
  (∀ (n : Nat) (d : Dcu), Input (fun t => .dcuSilent t n) (.dcuSilent n) (fun z => z.dcu n = some d ∧ d.silent = false ∧
    d.lastAt + 500 * ticksPerMs < z.time.clock) (fun z => z.dcu n = some d ∧ d.silent = false) fun z u =>
      u.dcu n = some { d with silent := true } ∧ (∀ m, m ≠ n → u.dcu m = z.dcu m) ∧ u.lastEv = some .dcuSilent ∧
      Only [.thermal, .port] z u) ∧
  (∀ (s z : State) (t : Nat) (n : Nat) (d : Dcu), z = s.advance t → z.dcu n = some d → z.time.clock ≤ d.lastAt + 500 *
    ticksPerMs →
    Done (.dcuSilent t n) s fun u => u = z) ∧
  (∀ (s z : State) (t : Nat) (c : ConnNo) (n : Nat), z = s.advance t → Allowed z c .write (dev 134 1 0) →
    n < z.thermal.folios.foldl (fun (a : Nat) f => a + f.nodes.length) 0 →
    Done (.nodeViewSet t c n) s fun u =>
      (∃ k, u.port.conns[c] = some k ∧ k.nodeSel = some n) ∧ u.res c = some 0 ∧ Only [.port] z u) ∧
  (∀ (s z : State) (t : Nat) (c : ConnNo) (n : Nat), z = s.advance t → Allowed z c .write (dev 134 1 0) →
    z.thermal.folios.foldl (fun (a : Nat) f => a + f.nodes.length) 0 ≤ n →
    Done (.nodeViewSet t c n) s fun u => u.res c = some 2 ∧ Only [.port] z u)

/-- VLINK, HELLO (R338, R341 to R344, R349, R350, R644): a frame that passes every check is accepted with its SEQ and its
source; one with a bad CRC, without a valid TAG, or with an old SEQ is discarded and counted; a HELLO admits its dispenser and
is answered; an unknown DISP_ID is told. Choices of the model it rests on: log 1, 19, 22, 105, 141. -/
def Obligations.TunnelFrames : Prop :=
  (∀ (f : Tunnel) (o : OutletNo) (k n : Nat), Input (fun t => .vlink t f.src f.port f.toDatagram) (.vlink f) (fun z =>
    z.tunnelOn f.port = true) (fun z => FrameFor z f 1 (o.val + 1) ∧ (z.outletDisp (o.val + 1)).fresh f.seq = true ∧ f.vlinkPay
    = some (k, n)) fun z u =>
      u.outletDisp (o.val + 1) = { (z.outletDisp (o.val + 1)).accept f.seq with
        addr := some (f.src, z.time.clock), vlink := (n, (z.outletDisp (o.val + 1)).vlink.2 + 1) } ∧
      (∀ p : OutletNo, p ≠ o → u.outletDisp (p.val + 1) = z.outletDisp (p.val + 1)) ∧
      u.barker.discards = z.barker.discards ∧ u.barker.ctxs = z.barker.ctxs ∧ Only [.barker, .keys, .port] z u) ∧
  (∀ (f : Tunnel), Input (fun t => .vlink t f.src f.port f.toDatagram) (.vlink f) (fun z => z.tunnelOn f.port = true) (fun z =>
    f.crcOk = false) fun z u =>
      u.barker = { z.barker with discards := { z.barker.discards with crc := z.barker.discards.crc + 1 } } ∧ Only [.barker] z
        u) ∧
  (∀ (f : Tunnel), Input (fun t => .vlink t f.src f.port f.toDatagram) (.vlink f) (fun z => z.tunnelOn f.port = true) (fun z =>
    f.crcOk = true ∧ f.magic = 0x4842 ∧ f.version = 1 ∧ f.typ = 1 ∧ f.lenOk = false) fun z u =>
      u.barker = { z.barker with discards := { z.barker.discards with length := z.barker.discards.length + 1 } } ∧
      Only [.barker] z u) ∧
  (∀ (f : Tunnel) (o : OutletNo), Input (fun t => .vlink t f.src f.port f.toDatagram) (.vlink f) (fun z => z.tunnelOn f.port =
    true) (fun z => FrameFor z f 1 (o.val + 1) ∧ (z.outletDisp (o.val + 1)).fresh f.seq = false) fun z u =>
      u.barker.discards = { z.barker.discards with replay := z.barker.discards.replay + 1 } ∧ u.barker.disps = z.barker.disps ∧
      Only [.barker, .keys, .port] z u) ∧
  (∀ (s z : State) (t : Nat) (f : Tunnel), z = s.advance t → z.tunnelOn f.port = false → Done (.vlink t f.src f.port
    f.toDatagram) s fun u => u = z) ∧
  (∀ (f : Tunnel) (o : OutletNo) (h : HelloPay), Input (fun t => .hello t f.toSender f.toDatagram) (.hello f) (fun z =>
    z.tunnelOn f.port = true) (fun z => FrameFor z f 3 (o.val + 1) ∧ f.seq = 0 ∧ z.allFree (o.val + 1) = true ∧ f.helloPay =
    some h) fun z u =>
      u.outletDisp (o.val + 1) = { (z.outletDisp (o.val + 1)).resetWindow with
        addr := some (f.src, z.time.clock), hello := some h, admitted := true
        helloSent := (z.outletDisp (o.val + 1)).helloSent + 1 } ∧
      (∀ p : OutletNo, p ≠ o → u.outletDisp (p.val + 1) = z.outletDisp (p.val + 1)) ∧
      u.barker.lastFrame.head? = some 0x48420103#32 ∧
      u.barker.txSeq = (z.barker.txSeq + 1) % 2 ^ 32 ∧ Only [.barker, .keys, .port] z u) ∧
  (∀ (f : Tunnel), Input (fun t => .hello t f.toSender f.toDatagram) (.hello f) (fun z => z.tunnelOn f.port = true) (fun z =>
    f.crcOk = true ∧ f.magic = 0x4842 ∧ f.version = 1 ∧ f.typ = 3 ∧ f.lenOk = true ∧ f.dir = false ∧ z.outletOfDisp f.dispId =
    none ∧ (∀ x ∈ z.barker.unknown, x.1 ≠ f.dispId)) fun z u =>
      u.barker.disps = z.barker.disps ∧ u.lastEv = some .dispUnknown ∧ Only [.barker, .port] z u)

/-- DIO, DIO_PAUSE, DIO_END (R346, R347, R352 to R357): an accepted DIO is the outlet's latest; a vehicle that plugs in takes
the lower free context, or either as it is the only one; unplugging closes every context; silence pauses a delivery and then
ends it. Choices of the model it rests on: log 1, 22, 108. -/
def Obligations.DispenserInputs : Prop :=
  (∀ (f : Tunnel) (d : Dio) (o : OutletNo), Input (fun t => .dio t f.toSender f.toDatagram) (.dio f) (fun z => z.tunnelOn
    f.port = true) (fun z => FrameFor z f 2 (o.val + 1) ∧ (z.outletDisp (o.val + 1)).fresh f.seq = true ∧ f.dioPay = some d)
    fun z u =>
      (u.outletDisp (o.val + 1)).dio = some (d, z.time.clock) ∧ (u.outletDisp (o.val + 1)).silent = false ∧
      (u.outletDisp (o.val + 1)).keySeq = some d.keySeq ∧ (u.outletDisp (o.val + 1)).addr = some (f.src, z.time.clock) ∧
      (∀ p : OutletNo, p ≠ o → u.outletDisp (p.val + 1) = z.outletDisp (p.val + 1)) ∧
      Only [.juggler, .thermal, .barker, .scribe, .keys, .update, .port, .tokens, .tamper] z u) ∧
  (∀ (f : Tunnel) (d : Dio) (o : OutletNo), Input (fun t => .dio t f.toSender f.toDatagram) (.dio f) (fun z => z.tunnelOn
    f.port = true) (fun z => FrameFor z f 2 (o.val + 1) ∧ (z.outletDisp (o.val + 1)).fresh f.seq = true ∧ f.dioPay = some d ∧
    d.prox = 1 ∧ 1 ≤ d.pilot ∧ d.pilot ≤ 3 ∧ d.key = 0 ∧ z.allFree (o.val + 1) = true ∧ z.drained = false) fun z u =>
      (u.bctx (2 * o.val)).st = .setup ∧ u.bctx (2 * o.val + 1) = z.bctx (2 * o.val + 1) ∧
      (u.outletDisp (o.val + 1)).waiting = false ∧ u.lastEv = some .plugIn ∧
      Only [.juggler, .thermal, .barker, .scribe, .keys, .update, .port, .tokens, .tamper] z u) ∧
  (∀ (f : Tunnel) (d : Dio) (o : OutletNo), Input (fun t => .dio t f.toSender f.toDatagram) (.dio f) (fun z => z.tunnelOn
    f.port = true) (fun z => FrameFor z f 2 (o.val + 1) ∧ (z.outletDisp (o.val + 1)).fresh f.seq = true ∧ f.dioPay = some d ∧
    (d.prox = 0 ∨ d.pilot = 0) ∧ d.key = 0) fun z u =>
      (∀ c ∈ ctxsOf (o.val + 1), (u.bctx c).st = .free ∨ (u.bctx c).st = .closing) ∧
      (u.outletDisp (o.val + 1)).waiting = false ∧
      Only [.juggler, .thermal, .barker, .scribe, .keys, .update, .port, .tokens, .tamper] z u) ∧
  (∀ (o : OutletNo) (x : Dio × Nat), Input (fun t => .dioPause t o) (.dioPause o) (fun z => (z.outletDisp (o.val + 1)).dio =
    some x ∧ (z.outletDisp (o.val + 1)).silent = false ∧ (x.2 + polDioPause (((ctxsOf (o.val + 1)).find? fun c => (z.bctx
    c).st.running).elim (z.rec1 0x0803) z.ctxPol) < z.time.clock)) (fun z => (z.outletDisp (o.val + 1)).dio = some x) fun z u =>
      (u.outletDisp (o.val + 1)).silent = true ∧
      (∀ c ∈ ctxsOf (o.val + 1), (z.bctx c).st = .delivering → (u.bctx c).st = .paused ∧ 2 ∈ (u.bctx c).causes) ∧
      Only [.juggler, .barker, .scribe, .keys, .update, .port, .tokens] z u) ∧
  (∀ (o : OutletNo) (x : Dio × Nat) (c : Nat), Input (fun t => .dioEnd t o) (.dioEnd o) (fun z => (z.outletDisp (o.val +
    1)).dio = some x ∧ c ∈ ctxsOf (o.val + 1) ∧ (z.bctx c).st = .paused ∧ x.2 + polDioEnd (z.ctxPol c) < z.time.clock) (fun z
    => (z.outletDisp (o.val + 1)).dio = some x ∧ c ∈ ctxsOf (o.val + 1) ∧ (z.bctx c).st = .paused ∧ (z.bctx c).stopped = false
    ∧ x.2 + polDioEnd (z.ctxPol c) < z.time.clock) fun z u =>
      (u.bctx c).st = .ending ∧ (u.bctx c).endCause = 6 ∧ (u.bctx c).req = (0, 0, 0) ∧
      Only [.juggler, .barker, .scribe, .keys, .update, .port, .tokens] z u) ∧
  (∀ (s z : State) (t : Nat) (o : OutletNo), z = s.advance t → (z.outletDisp (o.val + 1)).dio = none → Done (.dioEnd t o) s fun
    u => u = z)

/-- DIO_SEND, TIME_SEND, SDP_REQUEST, CERT_EXPIRING (R332, R346, R351, R365): an admitted dispenser is sent its outlet's state
on a change and every 100 ms, and the time; a discovery request is answered with TLS or without as the outlet's protocols
permit; a certificate that expires within 30 days is told once a day. Choices of the model it rests on: log 1, 106, 139. -/
def Obligations.DispenserOutputs : Prop :=
  (∀ (s z : State) (t : Nat) (o : OutletNo), z = s.advance t → z.startup.mode = .service → (z.outletDisp (o.val + 1)).admitted
    = true →
    (z.outletDisp (o.val + 1)).sent = none →
    Done (.dioSend t o) s fun u =>
      (∃ x, (u.outletDisp (o.val + 1)).sent = some (x, z.time.clock) ∧ x.cp = z.cpCmd (o.val + 1) ∧
        x.lamps = z.lamps (o.val + 1) ∧ x.textSeq = ((z.outletDisp (o.val + 1)).textSeq + 1) % 65536) ∧
      u.barker.txSeq = (z.barker.txSeq + 1) % 2 ^ 32 ∧ u.barker.ctxs = z.barker.ctxs ∧ Only [.barker] z u) ∧
  (∀ (s z : State) (t : Nat) (o : OutletNo) (a : Nat), z = s.advance t → z.startup.mode = .service → (z.outletDisp (o.val +
    1)).admitted = true →
    (z.outletDisp (o.val + 1)).sent = some (z.dioOut (o.val + 1), a) → a + 100 * ticksPerMs ≤ z.time.clock →
    Done (.dioSend t o) s fun u =>
      u.outletDisp (o.val + 1) = { z.outletDisp (o.val + 1) with sent := some (z.dioOut (o.val + 1), z.time.clock) } ∧
      (∀ p : OutletNo, p ≠ o → u.outletDisp (p.val + 1) = z.outletDisp (p.val + 1)) ∧ Only [.barker] z u) ∧
  (∀ (s z : State) (t : Nat) (o : OutletNo) (a : Nat), z = s.advance t → (z.outletDisp (o.val + 1)).sent = some (z.dioOut
    (o.val + 1), a) →
    z.time.clock < a + 100 * ticksPerMs → Done (.dioSend t o) s fun u => u = z) ∧
  (∀ (s z : State) (t : Nat), z = s.advance t → z.startup.mode = .service → Done (.timeSend t) s fun u =>
      u.barker = { z.barker with
        timeSent := some (z.wallRaw, z.wall.valid, z.wall.half % 2000000000 / 2, z.stamp)
        txSeq := (z.barker.txSeq + 1) % 2 ^ 32
        lastFrame := frameWords 4 0 0 ((z.barker.txSeq + 1) % 2 ^ 32) none z.timeWords } ∧ Only [.barker] z u) ∧
  (∀ (s z : State) (t : Nat) (o : OutletNo) (tls : Bool) (r : List W32), z = s.advance t → z.startup.mode = .service →
    z.dispRec (o.val + 1) = some r →
    (∃ c ∈ ctxsOf (o.val + 1), (z.bctx c).st = .setup) →
    Done (.sdpRequest t o tls) s fun u =>
      u.outletDisp (o.val + 1) = { z.outletDisp (o.val + 1) with
        sdp := some (tls || !(bit r 0 19 || (bit r 0 20 && !polTls (z.rec1 0x0803))), z.seccAddr (o.val + 1)) } ∧
      (∀ c : CtxNo, (u.bctx c.val).st = (z.bctx c.val).st) ∧ Only [.free, .barker, .pair] z u) ∧
  (∀ (s z : State) (t : Nat) (now : Nat) (x : CertExpiry) (k : Nat), z = s.advance t → z.wallSec = some now → z.startup.mode =
    .service →
    z.barker.certDay ≠ some (now / 86400) → z.certs[x.entry]? = some k → fld (z.rec1 0x0802) k 31 28 ≤ 1 →
    x.expiry ≤ now + 30 * 86400 →
    Done (.certExpiring t [x]) s fun u =>
      u.barker = { z.barker with certDay := some (now / 86400) } ∧ u.lastEv = some .certExpiring ∧ Only [.barker, .port] z u) ∧
  (∀ (s z : State) (t : Nat) (now : Nat) (xs : List CertExpiry), z = s.advance t → z.wallSec = some now → z.barker.certDay =
    some (now / 86400) →
    Done (.certExpiring t xs) s fun u => u = z)

/-- V2G_MESSAGE up to the authorisation (R331, R334, R337, R353, R367): the handshake fixes the protocol, an authorisation is
granted, stays ongoing, or ends the session; a message out of sequence or not decodable ends it too; a free context takes
none. No message changes another context that is not free and has not been taken in this very tick. Choices of the model it
rests on: log 1, 19, 22, 104, 149. -/
def Obligations.VehicleAuthorisation : Prop :=
  (∀ (s z : State) (t : Nat) (c : CtxNo) (l : List (Fin 4)) (tls : Bool) (q : Nat), z = s.advance t → z.startup.mode = .service
    → (z.bctx c.val).st = .setup →
    (z.bctx c.val).protocol = 0 → z.chooseProtocol (ctxOutlet c.val) (z.rec1 0x0803) l tls = some q →
    Done (.v2gMessage t c (.appProtocol l tls)) s fun u =>
      u.bctx c.val = { z.bctx c.val with
        protocol := q, tls := tls && q ≠ 1, pol := z.rec1 0x0803, reply := [0, (q : Int)]
        random := if tls && z.decides then some (randomValue z.free) else (z.bctx c.val).random } ∧
      (∀ d : CtxNo, d ≠ c → u.bctx d.val = z.bctx d.val) ∧ u.scribe = z.scribe ∧ Only [.free, .juggler, .barker, .scribe,
        .keys, .update, .pair, .port, .tokens] z u) ∧
  (∀ (s z : State) (t : Nat) (c : CtxNo) (id : IdKind) (ok : Bool) (em : List Byte), z = s.advance t → z.startup.mode =
    .service → (z.bctx c.val).st = .setup →
    (z.bctx c.val).protocol ≠ 0 → z.authorise c.val id ok = .granted →
    Done (.v2gMessage t c (.authorization id ok em)) s fun u =>
      (u.bctx c.val).st = .checks ∧ (u.bctx c.val).deliver = true ∧ (u.bctx c.val).ident = some id ∧
      (u.bctx c.val).reply = [0] ∧ (∀ d : CtxNo, d ≠ c → u.bctx d.val = z.bctx d.val) ∧ Only [.free, .juggler, .barker,
        .scribe, .keys, .update, .pair, .port, .tokens] z u) ∧
  (∀ (s z : State) (t : Nat) (c : CtxNo) (id : IdKind) (ok : Bool) (em : List Byte), z = s.advance t → z.startup.mode =
    .service → (z.bctx c.val).st = .setup →
    (z.bctx c.val).protocol ≠ 0 → z.authorise c.val id ok = .ongoing →
    Done (.v2gMessage t c (.authorization id ok em)) s fun u =>
      (u.bctx c.val).st = .auth ∧ (u.bctx c.val).authAt = z.time.clock ∧ (u.bctx c.val).reply = [1] ∧
      (u.bctx c.val).deliver = (z.bctx c.val).deliver ∧ (∀ d : CtxNo, d ≠ c → u.bctx d.val = z.bctx d.val) ∧ Only [.free,
        .juggler, .barker, .scribe, .keys, .update, .pair, .port, .tokens] z u) ∧
  (∀ (s z : State) (t : Nat) (c : CtxNo) (id : IdKind) (ok : Bool) (em : List Byte), z = s.advance t → z.startup.mode =
    .service → (z.bctx c.val).st = .setup →
    (z.bctx c.val).protocol ≠ 0 → (z.bctx c.val).stopped = false → z.authorise c.val id ok = .refused →
    Done (.v2gMessage t c (.authorization id ok em)) s fun u =>
      (u.bctx c.val).st = .ending ∧ (u.bctx c.val).endCause = 3 ∧ (u.bctx c.val).reply = [2] ∧ Only [.free, .juggler, .barker,
        .scribe, .keys, .update, .pair, .port, .tokens] z u) ∧
  (∀ (s z : State) (t : Nat) (c : CtxNo), z = s.advance t → z.startup.mode = .service → (z.bctx c.val).st.running = true →
    (z.bctx c.val).stopped = false →
    Done (.v2gMessage t c .undecodable) s fun u =>
      (u.bctx c.val).st = .ending ∧ (u.bctx c.val).endCause = 3 ∧ (u.bctx c.val).req = (0, 0, 0) ∧ (u.bctx c.val).reply = [3] ∧
      (∀ d : CtxNo, d ≠ c → u.bctx d.val = z.bctx d.val) ∧ Only [.free, .juggler, .barker, .scribe, .keys, .update, .pair,
        .port, .tokens] z u) ∧
  (∀ (s z : State) (t : Nat) (c : CtxNo) (m : V2g), z = s.advance t → (z.bctx c.val).st = .free ∨ (z.bctx c.val).st = .closing
    ∨ z.startup.mode ≠ .service →
    Done (.v2gMessage t c m) s fun u => u = z) ∧
  (∀ (s z : State) (t : Nat) (c d : CtxNo) (m : V2g), z = s.advance t → d ≠ c → (z.bctx d.val).st ≠ .free → ((z.bctx d.val).st
    = .setup → (z.bctx d.val).plugAt ≠ z.time.clock) →
    Done (.v2gMessage t c m) s fun u => u.bctx d.val = z.bctx d.val ∧ Only [.free, .juggler, .barker, .scribe, .keys, .update,
      .pair, .port, .tokens] z u)

/-- V2G_MESSAGE from parameter discovery to the stop (R358 to R360, R362, Table 9.5): requests follow the phase, delivery
starts after a passed cable check, a demand forms the request anew, and a stop ends the session with the vehicle's cause.
Choices of the model it rests on: log 1, 104, 107. -/
def Obligations.VehicleDelivery : Prop :=
  (∀ (s z : State) (t : Nat) (c : CtxNo) (v i : Nat) (p : Option Nat) (dyn : Bool), z = s.advance t → z.startup.mode = .service
    → (z.bctx c.val).st = .checks →
    Done (.v2gMessage t c (.parameterDiscovery v i p dyn)) s fun u =>
      (u.bctx c.val).phase = .discovery ∧ (u.bctx c.val).evMax = (v, i, p) ∧ (u.bctx c.val).req = (0, 0, v) ∧
      (u.bctx c.val).ccOk = false ∧ (u.bctx c.val).st = .checks ∧ (∀ d : CtxNo, d ≠ c → u.bctx d.val = z.bctx d.val) ∧ Only
        [.free, .juggler, .barker, .scribe, .keys, .update, .pair, .port, .tokens] z u) ∧
  (∀ (s z : State) (t : Nat) (c : CtxNo), z = s.advance t → z.startup.mode = .service → (z.bctx c.val).st = .checks → (z.bctx
    c.val).phase = .discovery →
    z.insulationAlarm (ctxOutlet c.val) = false →
    Done (.v2gMessage t c .cableCheck) s fun u =>
      (u.bctx c.val).phase = .cable ∧ (u.bctx c.val).st = .checks ∧
      (u.bctx c.val).req = (polPreI (z.ctxPol c.val), polPreI (z.ctxPol c.val) * z.ccVoltage c.val / 100, z.ccVoltage c.val) ∧
        Only [.free, .juggler, .barker, .scribe, .keys, .update, .pair, .port, .tokens] z u) ∧
  (∀ (s z : State) (t : Nat) (c : CtxNo) (v i : Nat) (pv : Option Nat), z = s.advance t → z.startup.mode = .service → (z.bctx
    c.val).st = .checks →
    (z.bctx c.val).ccOk = true →
    Done (.v2gMessage t c (.preCharge v i pv)) s fun u =>
      (u.bctx c.val).phase = .precharge ∧ (u.bctx c.val).target = (v, i) ∧
      (u.bctx c.val).req = (min (polPreI (z.ctxPol c.val)) i, polPreI (z.ctxPol c.val) * v / 100, v) ∧ Only [.free, .juggler,
        .barker, .scribe, .keys, .update, .pair, .port, .tokens] z u) ∧
  (∀ (s z : State) (t : Nat) (c : CtxNo), z = s.advance t → z.startup.mode = .service → (z.bctx c.val).st = .checks → (z.bctx
    c.val).ccOk = true →
    z.pauseCauses (ctxOutlet c.val) = [] →
    Done (.v2gMessage t c (.powerDelivery true)) s fun u =>
      (u.bctx c.val).st = .delivering ∧ (u.bctx c.val).phase = .delivering ∧ u.lastEv = some .deliveryStart ∧ Only [.free,
        .juggler, .barker, .scribe, .keys, .update, .pair, .port, .tokens] z u) ∧
  (∀ (s z : State) (t : Nat) (c : CtxNo) (v i mv mi : Nat) (mp pv : Option Nat), z = s.advance t → z.startup.mode = .service →
    (z.bctx c.val).st = .delivering →
    Done (.v2gMessage t c (.currentDemand v i mv mi mp pv)) s fun u =>
      (u.bctx c.val).target = (v, i) ∧ (u.bctx c.val).req = u.formReq c.val ∧ (u.bctx c.val).st = .delivering ∧
      (∀ d : CtxNo, d ≠ c → u.bctx d.val = z.bctx d.val) ∧ u.scribe = z.scribe ∧ Only [.free, .juggler, .barker, .scribe,
        .keys, .update, .pair, .port, .tokens] z u) ∧
  (∀ (s z : State) (t : Nat) (c : CtxNo) (v i mv mi : Nat) (mp pv : Option Nat), z = s.advance t → z.startup.mode = .service →
    (z.bctx c.val).st = .paused →
    Done (.v2gMessage t c (.currentDemand v i mv mi mp pv)) s fun u =>
      (u.bctx c.val).target = (v, i) ∧ (u.bctx c.val).req = (z.bctx c.val).req ∧ (u.bctx c.val).st = .paused ∧ Only [.free,
        .juggler, .barker, .scribe, .keys, .update, .pair, .port, .tokens] z u) ∧
  (∀ (s z : State) (t : Nat) (c : CtxNo), z = s.advance t → z.startup.mode = .service → (z.bctx c.val).st = .delivering →
    (z.bctx c.val).stopped = false →
    z.creditOut c.val = false →
    Done (.v2gMessage t c (.powerDelivery false)) s fun u =>
      (u.bctx c.val).st = .ending ∧ (u.bctx c.val).endCause = 0 ∧ (u.bctx c.val).req = (0, 0, 0) ∧ Only [.free, .juggler,
        .barker, .scribe, .keys, .update, .pair, .port, .tokens] z u)

/-- SECC_TIMEOUT, AUTH_WAIT, PAUSE_MAX, CABLE_CHECK, DELIVERING_FLAG_CLEAR (R337, R352, R353, R357, R359, R362): each timer
ends the session with its cause; a voltage held for CC_HOLD passes the cable check, one that leaves its band starts the time
anew; the delivering flag falls with the current. Choices of the model it rests on: log 1, 86, 104. -/
def Obligations.SessionTimers : Prop :=
  (∀ (c : CtxNo), Input (fun t => .seccTimeout t c) (.seccTimeout c) (fun z => (z.bctx c.val).st.running = true) (fun z =>
    (z.bctx c.val).st.running = true ∧ (z.bctx c.val).stopped = false) fun z u =>
      (u.bctx c.val).st = .ending ∧ (u.bctx c.val).endCause = 4 ∧ (u.bctx c.val).req = (0, 0, 0) ∧
      (∀ d : CtxNo, d ≠ c → u.bctx d.val = z.bctx d.val) ∧ Only [.juggler, .barker, .scribe, .keys, .update, .port, .tokens] z
        u) ∧
  (∀ (c : CtxNo), Input (fun t => .authWait t c) (.authWait c) (fun z => (z.bctx c.val).st = .auth ∧ (z.bctx c.val).authAt +
    polAuthWait (z.ctxPol c.val) < z.time.clock) (fun z => (z.bctx c.val).st = .auth ∧ (z.bctx c.val).stopped = false ∧ (∀ id,
    (z.bctx c.val).ident = some id → z.authorise c.val id true ≠ .granted)) fun z u =>
      (u.bctx c.val).st = .ending ∧ (u.bctx c.val).endCause = 4 ∧ (∀ d : CtxNo, d ≠ c → u.bctx d.val = z.bctx d.val) ∧
      Only [.juggler, .barker, .scribe, .keys, .update, .port, .tokens] z u) ∧
  (∀ (s z : State) (t : Nat) (c : CtxNo), z = s.advance t → (z.bctx c.val).st = .auth → z.time.clock ≤ (z.bctx c.val).authAt +
    polAuthWait (z.ctxPol c.val) →
    Done (.authWait t c) s fun u => u = z) ∧
  (∀ (c : CtxNo), Input (fun t => .pauseMax t c) (.pauseMax c) (fun z => (z.bctx c.val).st = .paused ∧ (z.bctx c.val).pausedAt
    + polPauseMax (z.ctxPol c.val) < z.time.clock) (fun z => (z.bctx c.val).st = .paused ∧ (z.bctx c.val).stopped = false ∧
    z.pauseCauses (ctxOutlet c.val) ≠ []) fun z u =>
      (u.bctx c.val).st = .ending ∧ (u.bctx c.val).endCause = 5 ∧ (∀ d : CtxNo, d ≠ c → u.bctx d.val = z.bctx d.val) ∧
      Only [.juggler, .barker, .scribe, .keys, .update, .port, .tokens] z u) ∧
  (∀ (s z : State) (t : Nat) (c : CtxNo) (a : Nat), z = s.advance t → (z.bctx c.val).st = .checks → (z.bctx c.val).phase =
    .cable → (z.bctx c.val).ccOk = false →
    z.insulationAlarm (ctxOutlet c.val) = false → (z.bctx c.val).ccSince = some a →
    a + polCcHold (z.ctxPol c.val) ≤ z.time.clock →
    (max (z.outletVoltage (ctxOutlet c.val)) (z.ccVoltage c.val) - min (z.outletVoltage (ctxOutlet c.val)) (z.ccVoltage c.val))
      * 256
      ≤ z.ccVoltage c.val * polCcTol (z.ctxPol c.val) →
    Done (.cableCheck t c) s fun u => u.bctx c.val = { z.bctx c.val with ccOk := true } ∧
      (∀ d : CtxNo, d ≠ c → u.bctx d.val = z.bctx d.val) ∧ Only [.juggler, .barker, .scribe, .keys, .update, .port, .tokens] z
        u) ∧
  (∀ (s z : State) (t : Nat) (c : CtxNo), z = s.advance t → (z.bctx c.val).st = .checks → (z.bctx c.val).phase = .cable →
    (z.bctx c.val).ccOk = false →
    z.insulationAlarm (ctxOutlet c.val) = false →
    z.ccVoltage c.val * polCcTol (z.ctxPol c.val) <
      (max (z.outletVoltage (ctxOutlet c.val)) (z.ccVoltage c.val) - min (z.outletVoltage (ctxOutlet c.val)) (z.ccVoltage
        c.val)) *
        256 →
    Done (.cableCheck t c) s fun u => u.bctx c.val = { z.bctx c.val with ccSince := none } ∧ Only [.juggler, .barker, .scribe,
      .keys, .update, .port, .tokens] z u) ∧
  (∀ (s z : State) (t : Nat) (c : CtxNo), z = s.advance t → (z.bctx c.val).st = .ending → (z.bctx c.val).deliver = true →
    z.outletCurrent (ctxOutlet c.val) * 10 < z.policy.iOpen →
    Done (.deliveringFlagClear t c) s fun u =>
      u.bctx c.val = { z.bctx c.val with deliver := false, stateF := badEnd (z.bctx c.val).endCause } ∧
      (∀ d : CtxNo, d ≠ c → u.bctx d.val = z.bctx d.val) ∧ Only [.barker] z u)

/-- PERIOD_MARK (R375, R377, R378, R385, R389): at the end of a period forward energy enters the uncompensated register whole
and the compensated one less the cable loss, reverse energy its own register, and energy under a broken seal the service
register; a period below the starting current enters none. The mark of a holder is journalled, and its entry tells the tick of
the mark (R436, R583). Choices of the model it rests on: log 1, 17, 88, 119. -/
def Obligations.EnergyIsCounted : Prop :=
  (∀ (s z : State) (t : Nat) (m : Mark) (o : OutletNo) (w : List W32) (e q : Rat), z = s.advance t → z.scribe.open_ = true →
    z.meterRec (o.val + 1) = some w →
    (vget z.scribe.sums o.val {}).n ≠ 0 →
    (fld w 5 31 16 : Rat) / 10 ≤ (vget z.scribe.sums o.val {}).absI / (vget z.scribe.sums o.val {}).n →
    e = (vget z.scribe.sums o.val {}).vi * (64 / (z.mdFreq ((2 * (o.val + 1) - 2) / 16) w : Nat)) →
    q = (vget z.scribe.sums o.val {}).ii * (64 / (z.mdFreq ((2 * (o.val + 1) - 2) / 16) w : Nat)) →
    z.scribe.seal_ ≠ .broken → 0 < e →
    Done (.periodMark t m) s fun u =>
      (u.regs (o.val + 1)).unc = (z.regs (o.val + 1)).unc + unitsOf e ∧
      (z.recAt 0x0902 31 25 (o.val + 1) = none → (u.regs (o.val + 1)).comp = (z.regs (o.val + 1)).comp + unitsOf e) ∧
      (∀ c, z.recAt 0x0902 31 25 (o.val + 1) = some c → (u.regs (o.val + 1)).comp = (z.regs (o.val + 1)).comp +
        (unitsOf e - unitsOf (q * cableR c (z.condTemp (o.val + 1) c).1))) ∧
      (u.regs (o.val + 1)).rev = (z.regs (o.val + 1)).rev ∧ (u.regs (o.val + 1)).service = (z.regs (o.val + 1)).service ∧ Only
        [.juggler, .barker, .scribe, .keys, .update, .pair, .port, .tokens, .tamper] z u) ∧
  (∀ (s z : State) (t : Nat) (m : Mark) (o : OutletNo) (w : List W32) (e : Rat), z = s.advance t → z.scribe.open_ = true →
    z.meterRec (o.val + 1) = some w →
    (vget z.scribe.sums o.val {}).n ≠ 0 →
    (fld w 5 31 16 : Rat) / 10 ≤ (vget z.scribe.sums o.val {}).absI / (vget z.scribe.sums o.val {}).n →
    e = (vget z.scribe.sums o.val {}).vi * (64 / (z.mdFreq ((2 * (o.val + 1) - 2) / 16) w : Nat)) →
    z.scribe.seal_ ≠ .broken → e < 0 →
    Done (.periodMark t m) s fun u =>
      (u.regs (o.val + 1)).rev = (z.regs (o.val + 1)).rev + unitsOf (-e) ∧
      (u.regs (o.val + 1)).comp = (z.regs (o.val + 1)).comp ∧ (u.regs (o.val + 1)).unc = (z.regs (o.val + 1)).unc ∧ Only
        [.juggler, .barker, .scribe, .keys, .update, .pair, .port, .tokens, .tamper] z u) ∧
  (∀ (s z : State) (t : Nat) (m : Mark) (o : OutletNo) (w : List W32) (e : Rat), z = s.advance t → z.scribe.open_ = true →
    z.meterRec (o.val + 1) = some w →
    (vget z.scribe.sums o.val {}).n ≠ 0 →
    (fld w 5 31 16 : Rat) / 10 ≤ (vget z.scribe.sums o.val {}).absI / (vget z.scribe.sums o.val {}).n →
    e = (vget z.scribe.sums o.val {}).vi * (64 / (z.mdFreq ((2 * (o.val + 1) - 2) / 16) w : Nat)) →
    z.scribe.seal_ = .broken → 0 < e →
    Done (.periodMark t m) s fun u =>
      (u.regs (o.val + 1)).service = (z.regs (o.val + 1)).service + unitsOf e ∧
      (u.regs (o.val + 1)).comp = (z.regs (o.val + 1)).comp ∧ (u.regs (o.val + 1)).unc = (z.regs (o.val + 1)).unc ∧
      (u.regs (o.val + 1)).rev = (z.regs (o.val + 1)).rev ∧ Only [.juggler, .barker, .scribe, .keys, .update, .pair, .port,
        .tokens, .tamper] z u) ∧
  (∀ (s z : State) (t : Nat) (m : Mark) (o : OutletNo), z = s.advance t → z.scribe.open_ = true → z.meterRec (o.val + 1) = none
    ∨ (vget z.scribe.sums o.val {}).n = 0 →
    Done (.periodMark t m) s fun u =>
      (u.regs (o.val + 1)).comp = (z.regs (o.val + 1)).comp ∧ (u.regs (o.val + 1)).unc = (z.regs (o.val + 1)).unc ∧
      (u.regs (o.val + 1)).rev = (z.regs (o.val + 1)).rev ∧ (u.regs (o.val + 1)).service = (z.regs (o.val + 1)).service ∧ Only
        [.juggler, .barker, .scribe, .keys, .update, .pair, .port, .tokens, .tamper] z u) ∧
  (∀ (s z : State) (t : Nat) (m : Mark), z = s.advance t → z.scribe.open_ = false → z.holds = true → Done (.periodMark t m) s
    fun u => u = z.journal (.mark m)) ∧
  (∀ (s z : State) (t : Nat) (m : Mark), z = s.advance t → z.scribe.open_ = false → z.holds = false → Done (.periodMark t m) s
    fun u => u = z) ∧
  (∀ (m : Mark) (o : OutletNo), Effect (.mark m) (fun z => (z.tok (o.val + 1)).holdDue = some none) fun z u =>
      (∃ d, (u.tok (o.val + 1)).holdDue = some (some d)) ∧ Only [.tokens] z u)

/-- SEAL, SEAL_BREAK (R383 to R386, Table 17.4): sealing keeps the metrology hash, and breaking the seal moves the module to
SERVICE, makes every open session NON_LEGAL and counts as tamper type 13; either is refused where the state does not permit
it. METER_INPUT_FAULT, TAMPER_INPUT (R379, R444, R445, Table 11.6): a faulty metering input is marked and counted as tamper
type 7, and recovers; a tamper input that rises counts its type while the Scribe is open, one that falls does not. Choices of
the model it rests on: log 1, 19, 22, 87. -/
def Obligations.SealAndTamper : Prop :=
  (∀ (c : ConnNo), Request (fun t => .seal t c) c ({ a := 1, b := 0, c := 131, d := 1, e := 0, f := 255 }) .execute .seal 0
    (fun z => z.ident.orderN = false ∧ z.startup.hdr.sealReq = true ∧ z.scribe.seal_ ≠ .sealed ∧ (z.ident.life = .commissioned
    ∨ z.ident.life = .service)) fun z u =>
      u.scribe.seal_ = .sealed ∧ u.scribe.sealHash = some (z.metroHash (hdrPartHash z.activeManifest 6)) ∧
      u.ident = { z.ident with life := .commissioned } ∧ Only [.scribe, .ident, .port] z u) ∧
  (∀ (c : ConnNo), Request (fun t => .seal t c) c ({ a := 1, b := 0, c := 131, d := 1, e := 0, f := 255 }) .execute .seal 4
    (fun z => (z.ident.orderN = true ∨ z.startup.hdr.sealReq = false ∨ z.scribe.seal_ = .sealed)) fun z u =>
      Only [.port] z u) ∧
  (∀ (c : ConnNo), Request (fun t => .sealBreak t c) c ({ a := 1, b := 0, c := 131, d := 2, e := 0, f := 255 }) .execute
    .sealBreak 0 (fun z => z.scribe.seal_ = .sealed ∧ z.ident.life = .commissioned) fun z u =>
      u.scribe.seal_ = .broken ∧ u.ident = { z.ident with life := .service } ∧
      (∀ x ∈ u.scribe.core.sessions, MFlag.nonLegal ∈ x.flags) ∧
      (vget u.tamper.recs 12 {}).count = min ((vget z.tamper.recs 12 {}).count + 1) 0xFFFFFFFF ∧
      Only [.scribe, .ident, .port, .tamper] z u) ∧
  (∀ (c : ConnNo), Request (fun t => .sealBreak t c) c ({ a := 1, b := 0, c := 131, d := 2, e := 0, f := 255 }) .execute
    .sealBreak 4 (fun z => z.scribe.seal_ ≠ .sealed) fun z u =>
      Only [.port] z u) ∧
  (∀ (s z : State) (t : Nat) (o : OutletNo) (w : List W32) (x : MeterObs), z = s.advance t → z.scribe.open_ = true → z.meterRec
    (o.val + 1) = some w →
    z.scribe.faulty[o] = false →
    ((∃ n, x = .noTransition n ∧ 64 ≤ n) ∨ (∃ n, x = .saturated n ∧ 1000 ≤ n) ∨ (∃ n, x = .mdckLost (.noEdge n) ∧ 1000 ≤ n) ∨
      (∃ n, x = .freqOff n ∧ mdckOff (fld w 5 15 0) n = true)) →
    Done (.meterInputFault t o x) s fun u =>
      u.scribe.faulty = z.scribe.faulty.set o true ∧
      (vget u.tamper.recs 6 {}).count = min ((vget z.tamper.recs 6 {}).count + 1) 0xFFFFFFFF ∧
      u.scribe.core.regs = z.scribe.core.regs ∧ Only [.scribe, .port, .tamper] z u) ∧
  (∀ (s z : State) (t : Nat) (o : OutletNo) (w : List W32), z = s.advance t → z.scribe.open_ = true → z.meterRec (o.val + 1) =
    some w → z.scribe.faulty[o] = true →
    Done (.meterInputFault t o .recovered) s fun u =>
      u.scribe.faulty = z.scribe.faulty.set o false ∧ u.tamper = z.tamper ∧ u.scribe.core = z.scribe.core ∧ Only [.scribe,
        .port, .tamper] z u) ∧
  (∀ (i : Fin 4) (ms : Nat), Input (fun t => .tamperInput t i ms true) (.tamperInput i true) (fun z => 10 ≤ ms ∧
    z.tamper.inputs[i] = false) (fun z => z.tamper.inputs[i] = false ∧ z.scribe.open_ = true) fun z u =>
      u.tamper.inputs = z.tamper.inputs.set i true ∧
      (vget u.tamper.recs (tamperType i.val - 1) {}).count =
        min ((vget z.tamper.recs (tamperType i.val - 1) {}).count + 1) 0xFFFFFFFF ∧ u.lastEv = some .tamper ∧
      Only [.port, .tamper] z u) ∧
  (∀ (i : Fin 4) (ms : Nat), Input (fun t => .tamperInput t i ms false) (.tamperInput i false) (fun z => 10 ≤ ms ∧
    z.tamper.inputs[i] = true) (fun z => True) fun z u =>
      u.tamper = { z.tamper with inputs := z.tamper.inputs.set i false } ∧ Only [.tamper] z u) ∧
  (∀ (s z : State) (t : Nat) (i : Fin 4) (ms : Nat) (b : Bool), z = s.advance t → ms < 10 → Done (.tamperInput t i ms b) s fun
    u => u = z)

/-- COUNTER_SIGNATURE, NO_COUNTER, SESSION_RECEIPT, RECEIPT_SELECT, OPENING_READING (R416 to R419, R421): a receipt waits for
its counter-signature or for a second, is then signed and stored, and its context is free; a replacement takes the survivor's
registers, time and counters. Choices of the model it rests on: log 1, 19, 110. -/
def Obligations.ReceiptsAndReadings : Prop :=
  (∀ (s z : State) (t : Nat) (c : CtxNo) (r : Receipt) (serial sig : Nat), z = s.advance t → z.buildingOf c.val = some r →
    z.pair.st = .holder → r.counter = none →
    MFlag.noCounter ∉ r.flags →
    Done (.counterSignature t c serial sig) s fun u =>
      u.buildingOf c.val = some { r with counter := some (serial, sig) } ∧ u.scribe.core = z.scribe.core ∧
      u.scribe.receipts = z.scribe.receipts ∧ Only [.scribe] z u) ∧
  (∀ (c : CtxNo) (r : Receipt), Input (fun t => .noCounter t c) (.noCounter c) (fun z => z.buildingOf c.val = some r ∧ z.solo =
    false ∧ r.counter = none ∧ MFlag.noCounter ∉ r.flags ∧ r.closedAt + ticksPerSec < z.time.clock) (fun z => z.buildingOf
    c.val = some r ∧ z.solo = false ∧ r.counter = none ∧ MFlag.noCounter ∉ r.flags) fun z u =>
      u.buildingOf c.val = some { r with flags := r.flags ++ [.noCounter] } ∧ u.scribe.core = z.scribe.core ∧
      u.lastEv = some .noCounter ∧ Only [.scribe, .port] z u) ∧
  (∀ (s z : State) (t : Nat) (c : CtxNo) (r : Receipt), z = s.advance t → z.buildingOf c.val = some r → z.solo = false →
    z.pair.st ≠ .standby → z.signable r = true →
    (z.useKey 4 .sign .scribe).1 = true →
    Done (.sessionReceipt t c) s fun u =>
      u.scribe.receipts = ({ r with signature := some (signature 4 r.unsigned) } :: z.scribe.receipts).take 1024 ∧
      u.buildingOf c.val = none ∧
      ((z.bctx c.val).st = .closing → (z.outletDisp (ctxOutlet c.val)).waiting = false →
        (z.bctx (c.val + 1)).plugAt ≠ z.time.clock → u.bctx c.val = {}) ∧ Only [.juggler, .barker, .scribe, .keys, .update,
          .port, .tokens] z u) ∧
  (∀ (s z : State) (t : Nat) (c : CtxNo) (r : Receipt), z = s.advance t → z.buildingOf c.val = some r → z.signable r = false →
    Done (.sessionReceipt t c) s fun u => u = z) ∧
  (∀ (s z : State) (t : Nat) (c : ConnNo) (n : Nat), z = s.advance t →
    Allowed z c .write { a := 1, b := 0, c := 131, d := 3, e := 0, f := 255 } →
    Done (.receiptSelect t c n) s fun u =>
      (∃ k, u.port.conns[c] = some k ∧ k.receiptSel = some n) ∧ u.res c = some 0 ∧ Only [.port] z u) ∧
  (∀ (s z : State) (t : Nat) (r : OpeningRec), z = s.advance t → r.verified = true → r.hubId = z.ident.hubId → r.survivor =
    z.ident.serial →
    Done (.openingReading t r) s fun u =>
      u.scribe.opening = some r ∧ u.scribe.core = z.scribe.core ∧ u.tokens = z.tokens ∧ u.lastEv = some .openingReading ∧ Only
        [.scribe, .pair, .port, .tokens, .tamper] z u) ∧
  (∀ (s z : State) (t : Nat) (r : OpeningRec), z = s.advance t → r.verified = true → r.hubId = z.ident.hubId → r.survivor ≠
    z.ident.serial →
    r.replacement = z.ident.serial → z.scribe.open_ = false → z.scribe.core.time ≤ r.scribeTime →
    Done (.openingReading t r) s fun u =>
      (∀ o : OutletNo, u.regs (o.val + 1) = regsOfOpening (r.registers.getD o.val [])) ∧ u.scribe.core.time = r.scribeTime ∧
      u.scribe.core.receiptNo = r.nextReceipt - 1 ∧ u.tokens.gen = r.tokenGen ∧ u.tokens.changeCounter = r.changeCounter ∧
      u.scribe.copies.head?.map (·.1) = some u.scribe.core ∧ Only [.scribe, .pair, .port, .tokens, .tamper] z u) ∧
  (∀ (s z : State) (t : Nat) (r : OpeningRec), z = s.advance t → r.verified = false → Done (.openingReading t r) s fun u => u =
    z)

/-- The decision of a submission (R430, R431, R433, R435): a wrong MAC or a used TOKEN_ID brings no credit and is a failure,
an accepted token's amount is added once to what the outlet holds and its TOKEN_ID used up, and the fifth failure within 600 s
locks the keypad. ENTRY_TIMEOUT, OUTCOME_TEXT_EXPIRY, CHANGE_DISPLAY_TIMEOUT, CHANGE_TOKEN_LOOKUP (R423, R424, R441, R452):
the buffer, the outcome text and the change token leave the display when their times have passed; a client selects a change
token by its number. Choices of the model it rests on: log 1, 19, 22, 101, 102, 139. -/
def Obligations.TokensAndDisplays : Prop :=
  (∀ (z : State) (o : OutletNo) (l : List (Fin 10)) (v : Nat), v = decimal l → v < 2 ^ 66 →
    (z.macOf (tokClass v) (tokId v) (tokBits v)).1 ≠ some (tokMac v) →
    (z.submitToken (o.val + 1) l).scribe.core.credits = z.scribe.core.credits ∧
    ((z.submitToken (o.val + 1) l).tok (o.val + 1)).held = (z.tok (o.val + 1)).held ∧
    (z.submitToken (o.val + 1) l).tokens.used = z.tokens.used) ∧
  (∀ (z : State) (o : OutletNo) (l : List (Fin 10)) (v : Nat), v = decimal l → v < 2 ^ 66 →
    (z.macOf (tokClass v) (tokId v) (tokBits v)).1 = some (tokMac v) → tokClass v = 0 → z.tokens.high ≤ tokId v + 4096 →
    z.tokens.high < tokId v ∨ tokId v ∉ z.tokens.used → z.heldNow (o.val + 1) + tokAmount v ≤ z.creditMax →
    (z.submitToken (o.val + 1) l).heldNow (o.val + 1) = z.heldNow (o.val + 1) + tokAmount v ∧
    tokId v ∈ (z.submitToken (o.val + 1) l).tokens.used ∧ (z.submitToken (o.val + 1) l).tokens.high = max z.tokens.high (tokId
      v)) ∧
  (∀ (z : State) (o : OutletNo) (l : List (Fin 10)) (v : Nat), v = decimal l → v < 2 ^ 66 →
    (z.macOf (tokClass v) (tokId v) (tokBits v)).1 = some (tokMac v) → tokClass v = 0 → tokId v ≤ z.tokens.high →
    tokId v ∈ z.tokens.used →
    (z.submitToken (o.val + 1) l).heldNow (o.val + 1) = z.heldNow (o.val + 1) ∧ (z.submitToken (o.val + 1) l).tokens.used =
      z.tokens.used) ∧
  (∀ (z : State) (o : OutletNo),
    4 ≤ ((z.tok (o.val + 1)).failures.filter fun x => z.scribe.core.time ≤ x + 600).length →
    ((z.tokFail (o.val + 1)).tok (o.val + 1)).lockEnd = some (z.scribe.core.time + 600) ∧
    ((z.tokFail (o.val + 1)).tok (o.val + 1)).failures = []) ∧
  (∀ (o : OutletNo), Input (fun t => .entryTimeout t o) (.entryTimeout o) (fun z => (z.tok (o.val + 1)).buffer ≠ [] ∧ (z.tok
    (o.val + 1)).lastPress + z.entryTo < z.time.clock) (fun z => True) fun z u =>
      u.tok (o.val + 1) = { z.tok (o.val + 1) with buffer := [] } ∧
      (∀ p : OutletNo, p ≠ o → u.tok (p.val + 1) = z.tok (p.val + 1)) ∧ Only [.tokens] z u) ∧
  (∀ (o : OutletNo), Input (fun t => .outcomeTextExpiry t o) (.outcomeTextExpiry o) (fun z => (z.tok (o.val + 1)).text ≠ .none
    ∧ (z.tok (o.val + 1)).textAt + 10 * ticksPerSec < z.time.clock) (fun z => True) fun z u =>
      u.tok (o.val + 1) = { z.tok (o.val + 1) with text := .none } ∧
      (∀ p : OutletNo, p ≠ o → u.tok (p.val + 1) = z.tok (p.val + 1)) ∧ Only [.tokens] z u) ∧
  (∀ (o : OutletNo) (x : Nat × Nat), Input (fun t => .changeDisplayTimeout t o) (.changeDisplayTimeout o) (fun z => (z.tok
    (o.val + 1)).change = some x ∧ x.2 + 1800 * ticksPerSec < z.time.clock) (fun z => True) fun z u =>
      u.tok (o.val + 1) = { z.tok (o.val + 1) with change := none } ∧
      (∀ p : OutletNo, p ≠ o → u.tok (p.val + 1) = z.tok (p.val + 1)) ∧ Only [.tokens] z u) ∧
  (∀ (s z : State) (t : Nat) (o : OutletNo), z = s.advance t → (z.tok (o.val + 1)).change = none → Done (.changeDisplayTimeout
    t o) s fun u => u = z) ∧
  (∀ (s z : State) (t : Nat) (c : ConnNo) (n : Nat), z = s.advance t → Allowed z c .write (dev 136 3 0) → n < 2 ^ 24 →
    Done (.changeTokenLookup t c n) s fun u =>
      (∃ k, u.port.conns[c] = some k ∧ k.changeSel = some n) ∧ u.res c = some 0 ∧ Only [.port] z u) ∧
  (∀ (s z : State) (t : Nat) (c : ConnNo) (n : Nat), z = s.advance t → Allowed z c .write (dev 136 3 0) → 2 ^ 24 ≤ n →
    Done (.changeTokenLookup t c n) s fun u => u.res c = some 3 ∧ u.tokens = z.tokens ∧ Only [.port] z u)

/-- HALL_CHANGE, BOOTSTRAP_REFRESH, BST_UV, DUTY_RAMPED_TO_ZERO (R504 to R506, R508, R509, R511): a code stable for 1 us is
the commutation step; a phase low on its bootstrap gets a pulse or loses its high side; a pump whose duty has ramped to zero
is OFF; no other pump changes. The two gates of a phase are never on together, and both are off outside RUN and under an
invalid code. VM_HOLD, VM_RECOVERED, PUMP_DIAG, PUMP_DIAG_REPEAT, PARTNER_PUMP_STATE (R516 to R518, R522): a motor bus outside
its band holds the pump and its recovery diagnoses it; a passed diagnosis runs it, a failed one waits 10 s; a loop runs solo
when every pump of the partner on it is lost. Choices of the model it rests on: log 1, 95, 142, 143. -/
def Obligations.PumpsAndDiagnosis : Prop :=
  (∀ (s z : State) (t : Nat) (p : PumpNo) (k : Fin 8) (ns : Nat) (mv : List Nat), z = s.advance t → 1000 ≤ ns → k ≠ (z.pump
    p.val).hall →
    Done (.hallChange t p k ns mv) s fun u =>
      (u.pump p.val).hall = k ∧ (u.pump p.val).hallAt = z.time.clock ∧ (u.pump p.val).st = (z.pump p.val).st ∧
      (∀ m : PumpNo, m ≠ p → u.pump m.val = z.pump m.val) ∧ Only [.drives] z u) ∧
  (∀ (s z : State) (t : Nat) (p : PumpNo) (k : Fin 8) (ns : Nat) (mv : List Nat), z = s.advance t → ns < 1000 → Done
    (.hallChange t p k ns mv) s fun u => u = z) ∧
  (∀ (s z : State) (t : Nat) (p : PumpNo) (ph : Fin 3) (ns : Nat) (w : List W32), z = s.advance t → z.pumpRec p.val = some w →
    bit w 0 28 = false →
    (z.pump p.val).st = .run → 64000 ≤ ns →
    ((z.pump p.val).gates w z.time.clock ph.val).1 = false → (z.pump p.val).hallAt ≠ z.time.clock →
    Done (.bootstrapRefresh t p ph ns) s fun u =>
      u.pump p.val = { z.pump p.val with
        refreshes := (z.pump p.val).refreshes + 1, refreshAt := (z.pump p.val).refreshAt.set ph.val z.time.clock } ∧
      (∀ m : PumpNo, m ≠ p → u.pump m.val = z.pump m.val) ∧ Only [.drives] z u) ∧
  (∀ (s z : State) (t : Nat) (p : PumpNo) (ph : Fin 3) (ns : Nat), z = s.advance t → ns < 64000 ∨ (z.pump p.val).hallAt =
    z.time.clock →
    Done (.bootstrapRefresh t p ph ns) s fun u => u = z) ∧
  (∀ (s z : State) (t : Nat) (p : PumpNo) (ph : Fin 3) (mv : Nat), z = s.advance t → (z.pump p.val).st = .run → mv < 8000 →
    (z.pump p.val).bstAt.length < 7 →
    Done (.bstUv t p ph mv) s fun u =>
      (u.pump p.val).st = .run ∧ (u.pump p.val).hsOff = (z.pump p.val).hsOff.set ph.val true ∧
      (u.pump p.val).bstEvents = (z.pump p.val).bstEvents + 1 ∧ u.lastEv = some .pumpFault ∧
      (∀ m : PumpNo, m ≠ p → u.pump m.val = z.pump m.val) ∧ Only [.port, .drives] z u) ∧
  (∀ (s z : State) (t : Nat) (p : PumpNo) (w : List W32), z = s.advance t → z.pumpRec p.val = some w → (z.pump p.val).st = .run
    → (z.pump p.val).cmd < 2 / 100 →
    (z.pump p.val).orphanHold = false →
    (z.pump p.val).dutyNow w z.time.clock = 0 →
    Done (.dutyRampedToZero t p) s fun u =>
      u.pump p.val = { z.pump p.val with st := .off, duty := 0, target := 0 } ∧
      (∀ m : PumpNo, m ≠ p → u.pump m.val = z.pump m.val) ∧ Only [.drives] z u) ∧
  (∀ (x : Pump) (w : List W32) (now ph : Nat), ¬((x.gates w now ph).1 = true ∧ (x.gates w now ph).2 = true)) ∧
  (∀ (x : Pump) (w : List W32) (now ph : Nat), x.st ≠ .run ∨ commutation false x.hall.val = none →
    x.gates w now ph = (false, false)) ∧
  (∀ (s z : State) (t : Nat) (p : PumpNo) (w : List W32) (dv us : Nat), z = s.advance t → z.pumpRec p.val = some w → ((z.pump
    p.val).st = .run ∨ (z.pump p.val).st = .diag) →
    10 ≤ us → (dv < fld w 3 31 16 ∨ fld w 3 15 0 < dv) →
    Done (.vmHold t p dv us) s fun u =>
      u.pump p.val = { z.pump p.val with st := .vmHold, duty := 0, target := 0, diagFailed := none } ∧
      (∀ m : PumpNo, m ≠ p → u.pump m.val = z.pump m.val) ∧ Only [.drives] z u) ∧
  (∀ (s z : State) (t : Nat) (p : PumpNo) (w : List W32) (dv ms : Nat), z = s.advance t → z.pumpRec p.val = some w → (z.pump
    p.val).st = .vmHold → 10 ≤ ms →
    fld w 3 31 16 ≤ dv → dv ≤ fld w 3 15 0 →
    Done (.vmRecovered t p dv ms) s fun u =>
      u.pump p.val = (z.pump p.val).diag z.time.clock ∧ (∀ m : PumpNo, m ≠ p → u.pump m.val = z.pump m.val) ∧ Only [.drives] z
        u) ∧
  (∀ (s z : State) (t : Nat) (p : PumpNo) (w : List W32) (o : DiagObs), z = s.advance t → z.pumpRec p.val = some w → (z.pump
    p.val).st = .diag →
    (z.pump p.val).diagFailed = none → (z.pump p.val).diagAt + 20 * ticksPerMs ≤ z.time.clock → diagResult w o = .pass →
    Done (.pumpDiag t p o) s fun u =>
      (u.pump p.val).st = .run ∧ (u.pump p.val).duty = 0 ∧
      (u.pump p.val).target = (if (z.pump p.val).orphanHold then orphanDuty w else pumpTarget w (z.pump p.val).cmd) ∧
      (u.pump p.val).runAt = z.time.clock ∧ (∀ m : PumpNo, m ≠ p → u.pump m.val = z.pump m.val) ∧ Only [.drives] z u) ∧
  (∀ (s z : State) (t : Nat) (p : PumpNo) (w : List W32) (o : DiagObs), z = s.advance t → z.pumpRec p.val = some w → (z.pump
    p.val).st = .diag →
    (z.pump p.val).diagFailed = none → (z.pump p.val).diagAt + 20 * ticksPerMs ≤ z.time.clock → diagResult w o ≠ .pass →
    Done (.pumpDiag t p o) s fun u =>
      (u.pump p.val).st = .diag ∧ (u.pump p.val).diagFailed = some z.time.clock ∧
      (u.pump p.val).diagFails = (z.pump p.val).diagFails + 1 ∧ u.lastEv = some .pumpDiag ∧
      (∀ m : PumpNo, m ≠ p → u.pump m.val = z.pump m.val) ∧ Only [.port, .drives] z u) ∧
  (∀ (w : List W32) (o : DiagObs), 100 * fld w 3 31 16 ≤ o.vm → 8 * o.vm < 10 * max o.sink.1 (max o.sink.2.1 o.sink.2.2) →
    diagResult w o = .shortSupply) ∧
  (∀ (w : List W32) (o : DiagObs), 100 * fld w 3 31 16 ≤ o.vm → 10 * max o.sink.1 (max o.sink.2.1 o.sink.2.2) ≤ 8 * o.vm →
    o.fromA.1 < 1000 → diagResult w o = .shortGround) ∧
  (∀ (s z : State) (t : Nat) (p : PumpNo) (a : Nat), z = s.advance t → (z.pump p.val).st = .diag → (z.pump p.val).diagFailed =
    some a → a + 10 * ticksPerSec < z.time.clock →
    Done (.pumpDiagRepeat t p) s fun u =>
      u.pump p.val = (z.pump p.val).diag z.time.clock ∧ (∀ m : PumpNo, m ≠ p → u.pump m.val = z.pump m.val) ∧ Only [.drives] z
        u) ∧
  (∀ (s z : State) (t : Nat) (l : List (PumpState × Bool)) (r : List W32), z = s.advance t → z.recs 0x0705 = [r] → fld r 0 31
    29 ∉ z.drives.soloLoops → loopPumps r ≠ [] →
    (∀ n ∈ loopPumps r, pumpLost (l.getD n (.off, false)) = true) →
    Done (.partnerPumpState t l) s fun u =>
      u.drives = { z.drives with partnerPumps := l, soloLoops := z.drives.soloLoops ++ [fld r 0 31 29] } ∧
      u.lastEv = some .pumpSoloLoop ∧ Only [.port, .drives] z u) ∧
  (∀ (s z : State) (t : Nat) (l : List (PumpState × Bool)), z = s.advance t → z.recs 0x0705 = [] → Done (.partnerPumpState t l)
    s fun u =>
      u.drives = { z.drives with partnerPumps := l } ∧ Only [.drives] z u)

/-- HALL_FAULT, PUMP_SHORT, PUMP_RETRY, PUMP_RETRY_RESET, PUMP_CLEAR (R506, R515, R520, R545): a fault in RUN stops the pump
and uses a retry, or latches it where none is left; a retry diagnoses it again; 60 s of RUN restore the retries; a client
unlatches it. Choices of the model it rests on: log 1, 22, 95, 143. -/
def Obligations.PumpFaults : Prop :=
  (∀ (s z : State) (t : Nat) (p : PumpNo) (w : List W32), z = s.advance t → z.pumpRec p.val = some w → (z.pump p.val).st = .run
    →
    commutation false (z.pump p.val).hall.val = none →
    max (z.pump p.val).hallAt (z.pump p.val).runAt + 10 * ticksPerMs < z.time.clock →
    0 < (z.pump p.val).dutyNow w z.time.clock → (z.pump p.val).retries < pumpRetries w →
    Done (.hallFault t p) s fun u =>
      (u.pump p.val).st = .retryWait ∧ (u.pump p.val).retries = (z.pump p.val).retries + 1 ∧ (u.pump p.val).duty = 0 ∧
      (u.pump p.val).waitAt = z.time.clock ∧ u.lastEv = some .pumpFault ∧
      (∀ m : PumpNo, m ≠ p → u.pump m.val = z.pump m.val) ∧ Only [.port, .drives] z u) ∧
  (∀ (s z : State) (t : Nat) (p : PumpNo) (w : List W32) (obs : List SenseObs), z = s.advance t → z.pumpRec p.val = some w →
    (z.pump p.val).st = .run →
    (∃ x ∈ obs, 3 * fld w 1 26 16 ≤ x.ua10 ∨ (fld w 1 26 16 ≤ x.ua10 ∧ 250 * fld w 1 31 27 ≤ x.onNs)) →
    (z.pump p.val).retries < pumpRetries w →
    Done (.pumpShort t p obs) s fun u =>
      (u.pump p.val).st = .retryWait ∧ (u.pump p.val).retries = (z.pump p.val).retries + 1 ∧ (u.pump p.val).duty = 0 ∧
      u.lastEv = some .pumpFault ∧ (∀ m : PumpNo, m ≠ p → u.pump m.val = z.pump m.val) ∧ Only [.port, .drives] z u) ∧
  (∀ (s z : State) (t : Nat) (p : PumpNo) (w : List W32) (obs : List SenseObs), z = s.advance t → z.pumpRec p.val = some w →
    (z.pump p.val).st = .run →
    (∃ x ∈ obs, 3 * fld w 1 26 16 ≤ x.ua10 ∨ (fld w 1 26 16 ≤ x.ua10 ∧ 250 * fld w 1 31 27 ≤ x.onNs)) →
    pumpRetries w ≤ (z.pump p.val).retries →
    Done (.pumpShort t p obs) s fun u =>
      (u.pump p.val).st = .latched ∧ (u.pump p.val).duty = 0 ∧ u.lastEv = some .pumpLatched ∧
      (∀ m : PumpNo, m ≠ p → u.pump m.val = z.pump m.val) ∧ Only [.port, .drives] z u) ∧
  (∀ (s z : State) (t : Nat) (p : PumpNo) (w : List W32) (obs : List SenseObs), z = s.advance t → z.pumpRec p.val = some w →
    (∀ x ∈ obs, x.ua10 < fld w 1 26 16 ∨ (x.ua10 < 3 * fld w 1 26 16 ∧ x.onNs < 250 * fld w 1 31 27)) →
    Done (.pumpShort t p obs) s fun u => u = z) ∧
  (∀ (s z : State) (t : Nat) (p : PumpNo) (w : List W32), z = s.advance t → z.pumpRec p.val = some w → (z.pump p.val).st =
    .retryWait →
    (z.pump p.val).waitAt + 200 * ticksPerMs < z.time.clock → (z.pump p.val).retries ≤ pumpRetries w →
    Done (.pumpRetry t p) s fun u =>
      u.pump p.val = (z.pump p.val).diag z.time.clock ∧ (∀ m : PumpNo, m ≠ p → u.pump m.val = z.pump m.val) ∧ Only [.drives] z
        u) ∧
  (∀ (s z : State) (t : Nat) (p : PumpNo), z = s.advance t → (z.pump p.val).st = .run → (z.pump p.val).runAt + 60 * ticksPerSec
    < z.time.clock →
    Done (.pumpRetryReset t p) s fun u =>
      u.pump p.val = { z.pump p.val with retries := 0 } ∧ (∀ m : PumpNo, m ≠ p → u.pump m.val = z.pump m.val) ∧ Only [.drives]
        z u) ∧
  (∀ (c : ConnNo) (p : PumpNo), Request (fun t => .pumpClear t c p) c (dev 139 3 p.val) .execute (.pumpClear p) 0 (fun z =>
    (z.pump p.val).st = .latched) fun z u =>
      u.pump p.val = { z.pump p.val with st := .off } ∧ (∀ m : PumpNo, m ≠ p → u.pump m.val = z.pump m.val) ∧
      Only [.port, .drives] z u)

/-- LS_IN_CHANGE, LS_TURN_ON_COMPLETE, LS_RETRY_RESET, LOAD_SWITCH_CLEAR, TIMER_OUTPUT_PULSE (R525, R526, R532, R536 to R538,
R542, R545): a channel follows its input while its die and its ring enable let it; a ramp that is complete is ON; CLEAR_S of
on-time restore the retries; a client unlatches it; a pulsing timer output changes its level at the end of its phase.
LS_OPEN_LOAD, LS_SUPPLY_UV, LS_SUPPLY_RECOVERED (R531, R539): a load below its threshold for 100 ms sets its flag; a group
below 7.0 V holds all its channels but the latched ones, and lets them follow their commands again above 7.6 V. Choices of the
model it rests on: log 1, 95. -/
def Obligations.LoadSwitchesFollow : Prop :=
  (∀ (s z : State) (t : Nat) (n : LsNo), z = s.advance t → (z.ls n.val).st = .off → (z.ls n.val).hot = false → z.lsLive = true →
    (lsPaired (z.lsRec n.val) = false ∨ z.ringEnable = true) →
    Done (.lsInChange t n true) s fun u =>
      u.ls n.val = { z.ls n.val with input := true, st := .turnOn, turnAt := z.time.clock } ∧
      (∀ m : LsNo, m ≠ n → u.ls m.val = (z.ls m.val).follow (z.lsCommanded m.val) z.time.clock) ∧ Only [.drives] z u) ∧
  (∀ (s z : State) (t : Nat) (n : LsNo), z = s.advance t → (z.ls n.val).conducts = true →
    Done (.lsInChange t n false) s fun u =>
      u.ls n.val = { z.ls n.val with input := false, st := .off, offAt := z.time.clock } ∧ Only [.drives] z u) ∧
  (∀ (s z : State) (t : Nat) (n : LsNo) (pct : Nat), z = s.advance t → (z.ls n.val).st = .turnOn → (lsMode (z.lsRec n.val) ≠ 2
    ∨ 95 ≤ pct) →
    Done (.lsTurnOnComplete t n pct) s fun u =>
      u.ls n.val = { z.ls n.val with st := .on, cleanAt := z.time.clock } ∧
      (∀ m : LsNo, m ≠ n → u.ls m.val = z.ls m.val) ∧ Only [.drives] z u) ∧
  (∀ (s z : State) (t : Nat) (n : LsNo), z = s.advance t → (z.ls n.val).st = .on → (z.ls n.val).cleanAt + fld (z.lsRec n.val) 1
    8 1 * ticksPerSec < z.time.clock →
    Done (.lsRetryReset t n) s fun u =>
      u.ls n.val = { z.ls n.val with retries := 0 } ∧ (∀ m : LsNo, m ≠ n → u.ls m.val = z.ls m.val) ∧ Only [.drives] z u) ∧
  (∀ (c : ConnNo) (n : LsNo), Request (fun t => .loadSwitchClear t c n) c (dev 140 1 n.val) .execute (.loadSwitchClear n) 0
    (fun z => (z.ls n.val).st = .latched ∧ z.lsCommanded n.val = false) fun z u =>
      u.ls n.val = { z.ls n.val with st := .off, retries := 0, freewheels := 0 } ∧ Only [.port, .drives] z u) ∧
  (∀ (s z : State) (t : Nat) (n : LsNo) (w : List W32), z = s.advance t → z.timerRec n.val = some w → z.timerOn w = true → fld
    w 0 15 0 ≠ 0 →
    (if z.drives.timers[n].1 then 1 - z.timerDuty w else z.timerDuty w) * ticksPerSec ≤
      ((z.time.clock - z.drives.timers[n].2) * fld w 0 15 0 : Nat) →
    Done (.timerOutputPulse t n) s fun u =>
      u.drives = { z.drives with timers := z.drives.timers.set n (!z.drives.timers[n].1, z.time.clock) } ∧ Only [.drives] z u) ∧
  (∀ (s z : State) (t : Nat) (n : LsNo), z = s.advance t → z.timerRec n.val = none → Done (.timerOutputPulse t n) s fun u => u
    = z) ∧
  (∀ (s z : State) (t : Nat) (n : LsNo) (k uA ms : Nat), z = s.advance t → olThreshold (z.lsRec n.val) .std = some k → (z.ls
    n.val).st = .on → 100 ≤ ms → uA < k →
    (z.ls n.val).olStd = false →
    Done (.lsOpenLoad t n .std true uA ms) s fun u =>
      u.ls n.val = { z.ls n.val with olStd := true } ∧ u.lastEv = some .lsOpenLoad ∧
      (∀ m : LsNo, m ≠ n → u.ls m.val = z.ls m.val) ∧ Only [.port, .drives] z u) ∧
  (∀ (s z : State) (t : Nat) (n : LsNo) (k uA ms : Nat), z = s.advance t → olThreshold (z.lsRec n.val) .fine = some k → (z.ls
    n.val).st = .on → 100 ≤ ms →
    11 * k < 10 * uA → (z.ls n.val).olFine = true →
    Done (.lsOpenLoad t n .fine false uA ms) s fun u =>
      u.ls n.val = { z.ls n.val with olFine := false } ∧ u.lastEv = some .lsOpenLoad ∧
      (∀ m : LsNo, m ≠ n → u.ls m.val = z.ls m.val) ∧ Only [.port, .drives] z u) ∧
  (∀ (s z : State) (t : Nat) (g : VsNo) (mv us : Nat), z = s.advance t → mv < 7000 → 20 ≤ us → z.drives.groups[g].uv = false →
    Done (.lsSupplyUv t g mv us) s fun u =>
      u.drives.groups[g].uv = true ∧ u.drives.groups[g].count = z.drives.groups[g].count + 1 ∧
      (∀ n : LsNo, n.val / 8 = g.val → (z.ls n.val).st ≠ .latched → (u.ls n.val).st = .uvHold) ∧
      (∀ n : LsNo, n.val / 8 ≠ g.val ∨ (z.ls n.val).st = .latched → u.ls n.val = z.ls n.val) ∧ u.lastEv = some .lsSupplyUv ∧
        Only [.port, .drives] z u) ∧
  (∀ (s z : State) (t : Nat) (g : VsNo) (mv us : Nat), z = s.advance t → 7600 < mv → 1000 ≤ us → z.drives.groups[g].uv = true →
    Done (.lsSupplyRecovered t g mv us) s fun u =>
      u.drives.groups[g].uv = false ∧ (∀ n : LsNo, n.val / 8 = g.val → (u.ls n.val).st ≠ .uvHold) ∧
      (∀ n : LsNo, n.val / 8 ≠ g.val → u.ls n.val = z.ls n.val) ∧ u.lastEv = some .lsSupplyUv ∧ Only [.port, .drives] z u)

/-- LS_SHORT, LS_OVERLOAD, LS_SLEW_FAULT, LS_FREEWHEEL, LS_THERMAL, LS_RETRY (R529, R530, R532, R534 to R537): a fault of a
conducting channel turns it off and uses a retry, or latches it where none is left; the third freewheel event latches it; a
hot channel waits until it has cooled. Choices of the model it rests on: log 1, 22, 24, 95. -/
def Obligations.LoadSwitchFaults : Prop :=
  (∀ (s z : State) (t : Nat) (n : LsNo) (x : LsSense) (v us : Nat), z = s.advance t → (z.ls n.val).conducts = true →
    ¬((z.ls n.val).st = .turnOn ∧ lsMode (z.lsRec n.val) = 2) → 7000 ≤ x.mA → 2 * x.outMv < v → 10 ≤ us →
    (z.ls n.val).retries < lsRetries (z.lsRec n.val) →
    Done (.lsShort t n x v us) s fun u =>
      u.ls n.val = { z.ls n.val with
        st := .retryWait, retries := (z.ls n.val).retries + 1, offAt := z.time.clock
        waitEnd := some (z.time.clock + lsRetryMs (z.lsRec n.val) * ticksPerMs) } ∧ u.lastEv = some .lsFault ∧
      (∀ m : LsNo, m ≠ n → u.ls m.val = z.ls m.val) ∧ Only [.port, .drives] z u) ∧
  (∀ (s z : State) (t : Nat) (n : LsNo) (x : LsSense) (v us : Nat), z = s.advance t → (z.ls n.val).st = .turnOn → lsMode
    (z.lsRec n.val) = 2 → 5000 ≤ x.mA → x.outMv < 1000 → 2000 ≤ us →
    lsRetries (z.lsRec n.val) ≤ (z.ls n.val).retries →
    Done (.lsShort t n x v us) s fun u =>
      u.ls n.val = { z.ls n.val with st := .latched, offAt := z.time.clock, waitEnd := none } ∧ u.lastEv = some .lsLatched ∧
      (∀ m : LsNo, m ≠ n → u.ls m.val = z.ls m.val) ∧ Only [.port, .drives] z u) ∧
  (∀ (s z : State) (t : Nat) (n : LsNo) (mA ms : Nat), z = s.advance t → (z.ls n.val).st = .on → fld (z.lsRec n.val) 1 25 17 *
    10 < mA → fld (z.lsRec n.val) 1 16 9 ≤ ms →
    (z.ls n.val).retries < lsRetries (z.lsRec n.val) →
    Done (.lsOverload t n mA ms) s fun u =>
      (u.ls n.val).st = .retryWait ∧ (u.ls n.val).retries = (z.ls n.val).retries + 1 ∧ u.lastEv = some .lsFault ∧
      (∀ m : LsNo, m ≠ n → u.ls m.val = z.ls m.val) ∧ Only [.port, .drives] z u) ∧
  (∀ (s z : State) (t : Nat) (n : LsNo) (mA ms : Nat), z = s.advance t → mA ≤ fld (z.lsRec n.val) 1 25 17 * 10 → Done
    (.lsOverload t n mA ms) s fun u => u = z) ∧
  (∀ (s z : State) (t : Nat) (n : LsNo) (o v : Nat), z = s.advance t → (z.ls n.val).st = .turnOn → lsMode (z.lsRec n.val) = 2 →
    100 * o < 95 * v →
    (z.ls n.val).turnAt + (4 * lsSlew (z.lsRec n.val) + 10) * ticksPerMs < z.time.clock → (z.ls n.val).retries < lsRetries
      (z.lsRec n.val) →
    Done (.lsSlewFault t n o v) s fun u =>
      (u.ls n.val).st = .retryWait ∧ (u.ls n.val).retries = (z.ls n.val).retries + 1 ∧ u.lastEv = some .lsFault ∧
      (∀ m : LsNo, m ≠ n → u.ls m.val = z.ls m.val) ∧ Only [.port, .drives] z u) ∧
  (∀ (s z : State) (t : Nat) (n : LsNo) (mv : Int) (us : Nat), z = s.advance t → lsMode (z.lsRec n.val) = 3 → (z.ls
    n.val).conducts = false → mv < -3000 → 2 < us →
    (z.ls n.val).freewheels = 2 → (z.ls n.val).st ≠ .latched →
    Done (.lsFreewheel t n mv us) s fun u =>
      u.ls n.val = { z.ls n.val with st := .latched, waitEnd := none, freewheels := 3 } ∧ u.lastEv = some .lsLatched ∧
      (∀ m : LsNo, m ≠ n → u.ls m.val = z.ls m.val) ∧ Only [.port, .drives] z u) ∧
  (∀ (s z : State) (t : Nat) (n : LsNo) (d : Int), z = s.advance t → 175 ≤ d → (z.ls n.val).conducts = true → (z.ls
    n.val).retries < lsRetries (z.lsRec n.val) →
    Done (.lsThermal t n d) s fun u =>
      (u.ls n.val).hot = true ∧ (u.ls n.val).warn = true ∧ (u.ls n.val).st = .retryWait ∧ u.lastEv = some .lsFault ∧
      (∀ m : LsNo, m ≠ n → u.ls m.val = z.ls m.val) ∧ Only [.port, .drives] z u) ∧
  (∀ (s z : State) (t : Nat) (n : LsNo) (e : Nat), z = s.advance t → (z.ls n.val).st = .retryWait → (z.ls n.val).waitEnd = some
    e → e < z.time.clock →
    (z.ls n.val).hot = false →
    Done (.lsRetry t n) s fun u =>
      (u.ls n.val = if z.lsCommanded n.val then { z.ls n.val with st := .turnOn, turnAt := z.time.clock, waitEnd := none }
        else { z.ls n.val with st := .off, waitEnd := none }) ∧
      (∀ m : LsNo, m ≠ n → u.ls m.val = z.ls m.val) ∧ Only [.drives] z u) ∧
  (∀ (s z : State) (t : Nat) (n : LsNo) (e : Nat), z = s.advance t → (z.ls n.val).waitEnd = some e → z.time.clock ≤ e → Done
    (.lsRetry t n) s fun u => u = z)

/-- REG_TURN_ON, REG_TURN_OFF, REG_RAMP_DONE, REGULATOR_CLEAR (R555 to R557, R577, Table 14.2): DLY_ON after service the soft
start begins from zero, DLY_OFF after the command the reference ramps down, and a ramp that has ended is RUN or OFF; a client
unlatches a controller; the other one does not change. REG_SYNC_LOCK, SYNC_LOST, REG_PG (R549, R552 to R554, R558): a
synchronisation in its band is followed and a lost one left, without a jump of the frequency; an output outside 8 % of its
reference for 1 ms is not good. In each period the low side is on for at least 60 ns, 10 ns after the high side, and goes off
at the zero of the current under diode emulation. Choices of the model it rests on: log 1, 97. -/
def Obligations.RegulatorsRamp : Prop :=
  (∀ (s z : State) (t : Nat) (b : BuckNo) (w : List W32) (a : Nat), z = s.advance t → z.regRec b.val = some w → z.serviceAt =
    some a →
    ((z.reg b.val).st = .delay ∨ (z.reg b.val).st = .off) → z.startup.mode = .service →
    a + fld w 3 31 24 * ticksPerMs ≤ z.time.clock →
    Done (.regTurnOn t b) s fun u =>
      (u.reg b.val).st = .softStart ∧ (u.reg b.val).ref = 0 ∧ (u.reg b.val).refAt = z.time.clock ∧
      (u.reg b.val).target = z.regTarget w ∧ (∀ m : BuckNo, m ≠ b → u.reg m.val = z.reg m.val) ∧ Only [.supply] z u) ∧
  (∀ (s z : State) (t : Nat) (b : BuckNo), z = s.advance t → z.startup.mode ≠ .service → Done (.regTurnOn t b) s fun u => u =
    z) ∧
  (∀ (s z : State) (t : Nat) (b : BuckNo) (w : List W32) (a : Nat), z = s.advance t → z.regRec b.val = some w → (z.reg
    b.val).offAt = some a →
    (z.reg b.val).switching = true → a + fld w 3 23 16 * ticksPerMs ≤ z.time.clock →
    Done (.regTurnOff t b) s fun u =>
      (u.reg b.val).st = .rampDown ∧ (u.reg b.val).ref = (z.reg b.val).refNow w z.time.clock ∧ (u.reg b.val).offAt = none ∧
      (∀ m : BuckNo, m ≠ b → u.reg m.val = z.reg m.val) ∧ Only [.supply] z u) ∧
  (∀ (s z : State) (t : Nat) (b : BuckNo), z = s.advance t → (z.reg b.val).offAt = none → Done (.regTurnOff t b) s fun u => u =
    z) ∧
  (∀ (s z : State) (t : Nat) (b : BuckNo) (w : List W32), z = s.advance t → z.regRec b.val = some w → (z.reg b.val).st =
    .softStart →
    (z.reg b.val).refNow w z.time.clock = (z.reg b.val).target →
    Done (.regRampDone t b) s fun u =>
      (u.reg b.val).st = .run ∧ (u.reg b.val).cleanAt = z.time.clock ∧ (u.reg b.val).ref = (z.reg b.val).target ∧
      (∀ m : BuckNo, m ≠ b → u.reg m.val = z.reg m.val) ∧ Only [.supply] z u) ∧
  (∀ (s z : State) (t : Nat) (b : BuckNo) (w : List W32), z = s.advance t → z.regRec b.val = some w → (z.reg b.val).st =
    .rampDown →
    (z.reg b.val).refNow w z.time.clock = 0 →
    Done (.regRampDone t b) s fun u =>
      u.reg b.val = (z.reg b.val).gatesOff z.time.clock .off ∧ (∀ m : BuckNo, m ≠ b → u.reg m.val = z.reg m.val) ∧ Only
        [.supply] z u) ∧
  (∀ (c : ConnNo) (k : BuckNo), Request (fun t => .regulatorClear t c k) c (dev 141 3 (4 + k.val)) .execute (.regulatorClear k)
    0 (fun z => (z.reg k.val).st = .latched) fun z u =>
      u.reg k.val = { z.reg k.val with st := .off } ∧ (∀ m : BuckNo, m ≠ k → u.reg m.val = z.reg m.val) ∧ Only [.port, .supply]
        z u) ∧
  (∀ (s z : State) (t : Nat) (b : BuckNo) (w : List W32) (khz : Nat), z = s.advance t → z.regRec b.val = some w → bit w 0 16 =
    true → inBand w khz = true →
    Done (.regSyncLock t b khz) s fun u =>
      u.reg b.val = { z.reg b.val with
        freq := (z.reg b.val).freqNow w z.time.clock, freqAt := z.time.clock, sync := true, syncKhz := khz } ∧
      (∀ m : BuckNo, m ≠ b → u.reg m.val = z.reg m.val) ∧ Only [.supply] z u) ∧
  (∀ (s z : State) (t : Nat) (b : BuckNo) (w : List W32) (khz : Nat), z = s.advance t → z.regRec b.val = some w → inBand w khz
    = false →
    Done (.regSyncLock t b khz) s fun u => u = z) ∧
  (∀ (s z : State) (t : Nat) (b : BuckNo) (w : List W32) (n khz : Nat), z = s.advance t → z.regRec b.val = some w → (z.reg
    b.val).sync = true →
    (2000000 < n * regKhz w ∨ inBand w khz = false) →
    Done (.syncLost t b n khz) s fun u =>
      u.reg b.val = { z.reg b.val with freq := (z.reg b.val).freqNow w z.time.clock, freqAt := z.time.clock, sync := false } ∧
      (∀ m : BuckNo, m ≠ b → u.reg m.val = z.reg m.val) ∧ u.lastEv = some .syncLost ∧ Only [.port, .supply] z u) ∧
  (∀ (s z : State) (t : Nat) (b : BuckNo) (w : List W32) (n khz : Nat), z = s.advance t → z.regRec b.val = some w → n * regKhz
    w ≤ 2000000 → inBand w khz = true →
    Done (.syncLost t b n khz) s fun u => u = z) ∧
  (∀ (x : Reg) (w : List W32) (period ask : Rat) (zero limit : Option Rat), x.switching = true → 80 ≤ period →
    (x.gates w period ask zero limit).lowFrom = (x.gates w period ask zero limit).high + 10 ∧
    (x.gates w period ask zero limit).lowFrom + 60 ≤ (x.gates w period ask zero limit).lowTo ∧
    (x.gates w period ask zero limit).lowTo ≤ period - 10 ∧ (x.gates w period ask zero limit).high ≤ period - 80) ∧
  (∀ (x : Reg) (w : List W32) (period ask y : Rat) (limit : Option Rat), x.emulates w = true → x.switching = true →
    (x.gates w period ask (some y) limit).lowTo ≤ max y ((x.gates w period ask (some y) limit).high + 70)) ∧
  (∀ (s z : State) (t : Nat) (b : BuckNo) (fb ms : Nat), z = s.advance t → (z.reg b.val).switching = true → (z.reg b.val).pg =
    true → (fb < 920 ∨ 1080 < fb) → 1 ≤ ms →
    Done (.regPg t b fb ms) s fun u =>
      u.reg b.val = { z.reg b.val with pg := false } ∧ (∀ m : BuckNo, m ≠ b → u.reg m.val = z.reg m.val) ∧
      u.lastEv = some .regPg ∧ Only [.port, .supply] z u) ∧
  (∀ (s z : State) (t : Nat) (b : BuckNo) (fb ms : Nat), z = s.advance t → (z.reg b.val).switching = true → 920 ≤ fb → fb ≤
    1080 →
    Done (.regPg t b fb ms) s fun u => u.reg b.val = { z.reg b.val with pg := true } ∧ Only [.supply] z u)

/-- REG_HICCUP, REG_HICCUP_END, REG_FAULT, REG_THERMAL, REG_RETRY_WAIT_END, REG_RETRY_RESET (R560 to R564): a short, the third
overvoltage within 1 s and an overtemperature turn the gates off and use a retry, or latch the controller; the wait ends in a
soft start from zero. Choices of the model it rests on: log 1, 22, 26. -/
def Obligations.RegulatorFaults : Prop :=
  (∀ (s z : State) (t : Nat) (b : BuckNo) (w : List W32) (x : RegSense) (n : Nat), z = s.advance t → z.regRec b.val = some w →
    ((z.reg b.val).st = .run ∨ (z.reg b.val).st = .softStart) →
    fld w 2 15 8 < x.csMv → 256 ≤ n → x.fbPct < 50 → (z.reg b.val).retries < regRetries w →
    Done (.regHiccup t b x n) s fun u =>
      u.reg b.val = { (z.reg b.val).gatesOff z.time.clock .hiccup with retries := (z.reg b.val).retries + 1 } ∧
      (∀ m : BuckNo, m ≠ b → u.reg m.val = z.reg m.val) ∧ u.lastEv = some .regHiccup ∧ Only [.port, .supply] z u) ∧
  (∀ (s z : State) (t : Nat) (b : BuckNo) (w : List W32) (x : RegSense) (n : Nat), z = s.advance t → z.regRec b.val = some w →
    ((z.reg b.val).st = .run ∨ (z.reg b.val).st = .softStart) →
    fld w 2 15 8 < x.csMv → 256 ≤ n → x.fbPct < 50 → regRetries w ≤ (z.reg b.val).retries →
    Done (.regHiccup t b x n) s fun u =>
      u.reg b.val = (z.reg b.val).gatesOff z.time.clock .latched ∧ u.lastEv = some .regFault ∧ Only [.port, .supply] z u) ∧
  (∀ (s z : State) (t : Nat) (b : BuckNo) (w : List W32), z = s.advance t → z.regRec b.val = some w → (z.reg b.val).st =
    .hiccup → (z.reg b.val).hot = false →
    (z.reg b.val).stAt + fld w 4 31 24 * 10 * ticksPerMs ≤ z.time.clock →
    Done (.regHiccupEnd t b) s fun u =>
      u.reg b.val = (z.reg b.val).fromZero z.time.clock ∧ (∀ m : BuckNo, m ≠ b → u.reg m.val = z.reg m.val) ∧ Only [.supply] z
        u) ∧
  (∀ (s z : State) (t : Nat) (b : BuckNo) (fb us : Nat), z = s.advance t → ((z.reg b.val).st = .run ∨ (z.reg b.val).st =
    .softStart) → 115 < fb → 10 ≤ us →
    (z.reg b.val).ovAt.length < 2 → (z.reg b.val).ov = false →
    Done (.regFault t b fb us) s fun u =>
      (u.reg b.val).ov = true ∧ (u.reg b.val).st = (z.reg b.val).st ∧ (u.reg b.val).cleanAt = z.time.clock ∧
      (∀ m : BuckNo, m ≠ b → u.reg m.val = z.reg m.val) ∧ u.lastEv = some .regFault ∧ Only [.port, .supply] z u) ∧
  (∀ (s z : State) (t : Nat) (b : BuckNo) (w : List W32) (fb us : Nat), z = s.advance t → z.regRec b.val = some w → (z.reg
    b.val).st = .run → 115 < fb → 10 ≤ us →
    (z.reg b.val).ov = false →
    2 ≤ ((z.reg b.val).ovAt.filter fun e => z.time.clock ≤ e + ticksPerSec).length → (z.reg b.val).retries < regRetries w →
    Done (.regFault t b fb us) s fun u =>
      (u.reg b.val).st = .retryWait ∧ (u.reg b.val).retries = (z.reg b.val).retries + 1 ∧ (u.reg b.val).ref = 0 ∧
      (u.reg b.val).ovAt = [] ∧ (∀ m : BuckNo, m ≠ b → u.reg m.val = z.reg m.val) ∧ Only [.port, .supply] z u) ∧
  (∀ (s z : State) (t : Nat) (b : BuckNo) (fb us : Nat), z = s.advance t → fb < 105 →
    Done (.regFault t b fb us) s fun u => u.reg b.val = { z.reg b.val with ov := false } ∧ Only [.supply] z u) ∧
  (∀ (s z : State) (t : Nat) (b : BuckNo) (w : List W32) (d : Int), z = s.advance t → z.regRec b.val = some w → 150 ≤ d →
    (z.reg b.val).switching = true →
    (z.reg b.val).retries < regRetries w →
    Done (.regThermal t b d) s fun u =>
      (u.reg b.val).st = .retryWait ∧ (u.reg b.val).hot = true ∧ (u.reg b.val).warn = true ∧
      (u.reg b.val).retries = (z.reg b.val).retries + 1 ∧ (∀ m : BuckNo, m ≠ b → u.reg m.val = z.reg m.val) ∧ Only [.port,
        .supply] z u) ∧
  (∀ (s z : State) (t : Nat) (b : BuckNo), z = s.advance t → (z.reg b.val).st = .retryWait → (z.reg b.val).hot = false →
    (z.reg b.val).stAt + 10 * ticksPerMs ≤ z.time.clock →
    Done (.regRetryWaitEnd t b) s fun u =>
      u.reg b.val = (z.reg b.val).fromZero z.time.clock ∧ (∀ m : BuckNo, m ≠ b → u.reg m.val = z.reg m.val) ∧ Only [.supply] z
        u) ∧
  (∀ (s z : State) (t : Nat) (b : BuckNo), z = s.advance t → (z.reg b.val).hot = true → Done (.regRetryWaitEnd t b) s fun u =>
    u = z) ∧
  (∀ (s z : State) (t : Nat) (b : BuckNo) (w : List W32), z = s.advance t → z.regRec b.val = some w → (z.reg b.val).st = .run →
    (z.reg b.val).cleanAt + fld w 4 23 16 * ticksPerSec ≤ z.time.clock →
    Done (.regRetryReset t b) s fun u =>
      u.reg b.val = { z.reg b.val with retries := 0 } ∧ (∀ m : BuckNo, m ≠ b → u.reg m.val = z.reg m.val) ∧ Only [.supply] z u)

/-- JOURNAL_ENTRY_RECEIVED, PAYLOAD_FETCH, UNMATCHED_COPY_DISCARD, STROKE_RECORD (R585 to R588, R603): an entry waits for its
EFFECT with its input, with the standby's own copy, or without the payload it lacks until that is fetched; one that is late
puts the standby out of step; a module in RESYNC gathers entries; a copy without an entry goes after 4 turns; a stroke record
places the words it names, and a commit that the standby misses puts it out of step. JOURNAL_EFFECT (R50, R585, R586, R603):
the entry at the head of the journal takes effect once its EFFECT stamp has come, as its input says and on both modules alike;
an entry that is missing, or whose payload is, at that stamp puts the standby out of step; in RESYNC entries go, for the
transfer brings what they do. CAROUSEL_ALIGNMENT, PAIR_HEARTBEAT, LINK_STATE (R589 to R591, R467, R619): the standby keeps its
error to the holder and since when it has been above 50 ns; a heartbeat brings the partner's state and pauses; a link in use
that is lost is told, and both lost detach the standby, which comes back through RESYNC. Choices of the model it rests on: log
1, 22, 53, 75, 77, 92, 145. -/
def Obligations.JournalAndLinks : Prop :=
  (∀ (s z : State) (t : Nat) (e : JEntry) (i : JInput), z = s.advance t → z.pair.st = .standby → e.inline_ = true → inputSource
    i = e.source → e.source ≠ 2 → e.source ≠ 10 →
    z.stamp ≤ e.effect →
    Done (.journalEntryReceived t { entry := e, input := some i }) s fun u =>
      u.pair = { z.pair with
        jseq := e.jseq, jcounts := (z.pair.jcounts.1 + 1, z.pair.jcounts.2)
        journal := z.pair.journal ++ [{ entry := e, input := some i }] } ∧ Only [.pair] z u) ∧
  (∀ (s z : State) (t : Nat) (e : JEntry) (i : Option JInput) (x : InputCopy) (l : List InputCopy), z = s.advance t → z.pair.st
    = .standby → e.inline_ = false → e.source ≠ 10 →
    z.pair.copies = x :: l → x.source = e.source → x.digest = e.digest → z.stamp ≤ e.effect →
    Done (.journalEntryReceived t { entry := e, input := i }) s fun u =>
      u.pair.journal = z.pair.journal ++ [{ entry := e, input := some x.input }] ∧ u.pair.copies = l ∧ u.pair.jseq = e.jseq ∧
      u.pair.st = .standby ∧ Only [.pair] z u) ∧
  (∀ (s z : State) (t : Nat) (e : JEntry) (i : Option JInput), z = s.advance t → z.pair.st = .standby → e.inline_ = false →
    e.source ≠ 10 → z.stamp ≤ e.effect →
    (∀ x ∈ z.pair.copies, ¬(x.source = e.source ∧ x.digest = e.digest)) →
    Done (.journalEntryReceived t { entry := e, input := i }) s fun u =>
      u.pair.journal = z.pair.journal ++ [{ entry := e, input := none }] ∧ u.pair.copies = z.pair.copies ∧ u.pair.st = .standby
        ∧
      Only [.pair] z u) ∧
  (∀ (s z : State) (t : Nat) (e : JEntry) (i : Option JInput), z = s.advance t → z.pair.st = .standby → e.source ≠ 10 →
    e.effect < z.stamp →
    Done (.journalEntryReceived t { entry := e, input := i }) s fun u =>
      u.pair.st = .resync ∧ u.pair.journal = [] ∧ u.pair.driving = false ∧ u.pair.jcounts.2.2.1 = z.pair.jcounts.2.2.1 + 1 ∧
        Only [.pair, .port, .drives] z u) ∧
  (∀ (s z : State) (t : Nat) (e : JEntry) (i : Option JInput), z = s.advance t → z.pair.st = .resync → e.inline_ = true → (∀ x,
    i = some x → inputSource x = e.source) →
    e.source ≠ 10 →
    Done (.journalEntryReceived t { entry := e, input := i }) s fun u =>
      u.pair.st = .resync ∧ u.pair.journal = z.pair.journal ++ [{ entry := e, input := i }] ∧ Only [.pair] z u) ∧
  (∀ (s z : State) (t : Nat) (e : JEntry) (i : Option JInput), z = s.advance t → z.pair.st ≠ .standby → z.pair.st ≠ .resync →
    Done (.journalEntryReceived t { entry := e, input := i }) s fun u => u = z) ∧
  (∀ (s z : State) (t : Nat) (q : Nat) (i : JInput) (x : JPending), z = s.advance t → z.pair.st = .standby → z.pair.journal =
    [x] → x.entry.jseq = q → x.input = none →
    inputSource i = x.entry.source → x.entry.source ≠ 2 → z.pair.canFetches.length < 16 → z.stamp ≤ x.entry.effect →
    Done (.payloadFetch t { jseq := q, input := i }) s fun u =>
      u.pair.journal = [{ x with input := some i }] ∧ u.pair.st = .standby ∧ u.pair.jcounts.2.1 = z.pair.jcounts.2.1 + 1 ∧
      Only [.pair] z u) ∧
  (∀ (s z : State) (t : Nat) (q : Nat) (i : JInput) (x : JPending), z = s.advance t → z.pair.st = .standby → z.pair.journal =
    [x] → x.entry.jseq = q → x.input = none →
    inputSource i = x.entry.source → x.entry.effect < z.stamp →
    Done (.payloadFetch t { jseq := q, input := i }) s fun u => u.pair.st = .resync ∧ u.pair.journal = [] ∧ Only [.pair, .port,
      .drives] z u) ∧
  (∀ (s z : State) (t : Nat) (src dg : Nat) (x : InputCopy), z = s.advance t → z.pair.copies = [x] → x.source = src → x.digest
    = dg →
    x.phase + 4 * turnUnits ≤ z.carousel.phase →
    Done (.unmatchedCopyDiscard t src dg) s fun u =>
      u.pair.copies = [] ∧ u.pair.jcounts.2.2.2 = z.pair.jcounts.2.2.2 + 1 ∧ u.pair.journal = z.pair.journal ∧ Only [.pair] z
        u) ∧
  (∀ (s z : State) (t : Nat) (r : StrokeRec), z = s.advance t → z.pair.st = .standby → (∀ x ∈ r.committed, x.2 ∈ (z.law
    x.1.val).committed) →
    Done (.strokeRecord t r) s fun u =>
      u.pair = { z.pair with strokeRec := r.stroke } ∧ u.legs = (z.placeWords r.words).legs ∧
      (r.laws = [] → Only [.legs, .pair] z u) ∧ Only [.array, .legs, .laws, .pair, .port, .drives, .buses] z u) ∧
  (∀ (s z : State) (t : Nat) (r : StrokeRec) (x : LawNo × Nat), z = s.advance t → z.pair.st = .standby → x ∈ r.committed → x.2
    ∉ (z.law x.1.val).committed →
    (∀ j ∈ z.array.jobs, ¬(j.law = some x.1.val ∧ j.seq = x.2)) →
    Done (.strokeRecord t r) s fun u =>
      u.pair.st = .resync ∧ u.pair.journal = [] ∧ u.pair.copies = [] ∧ Only [.pair, .port, .drives] z u) ∧
  (∀ (s z : State) (t : Nat) (x : JPending) (l : List JPending) (i : JInput), z = s.advance t → z.pair.journal = x :: l →
    x.input = some i → x.entry.effect ≤ z.stamp →
    z.pair.st ≠ .resync → (z.pair.st = .standby → z.followsOn x.entry.jseq = true) →
    Done (.journalEffect t x.entry.jseq) s fun u =>
      (z.popped x.entry.jseq).pair.journal = l ∧ (z.popped x.entry.jseq).pair.applied = some x.entry.jseq ∧
      u = (z.popped x.entry.jseq).applyInput x.entry.arrival (x.entry.effect - z.journalLead) i) ∧
  (∀ (s z : State) (t : Nat) (x : JPending) (l : List JPending), z = s.advance t → z.pair.journal = x :: l → z.stamp <
    x.entry.effect → z.followsOn x.entry.jseq = true →
    Done (.journalEffect t x.entry.jseq) s fun u => u = z) ∧
  (∀ (s z : State) (t : Nat) (x : JPending) (l : List JPending), z = s.advance t → z.pair.journal = x :: l → x.input = none →
    x.entry.effect = z.stamp →
    z.pair.st = .standby → z.followsOn x.entry.jseq = true →
    Done (.journalEffect t x.entry.jseq) s fun u => u = z) ∧
  (∀ (s z : State) (t : Nat) (x : JPending) (l : List JPending), z = s.advance t → z.pair.journal = x :: l → x.input = none →
    x.entry.effect < z.stamp →
    z.pair.st = .standby → z.followsOn x.entry.jseq = true →
    Done (.journalEffect t x.entry.jseq) s fun u =>
      u.pair.st = .resync ∧ u.pair.journal = [] ∧ u.pair.jcounts.2.2.1 = z.pair.jcounts.2.2.1 + 1 ∧
      Only [.pair, .port, .drives] z u) ∧
  (∀ (s z : State) (t : Nat) (q a : Nat) (x : JPending) (l : List JPending), z = s.advance t → z.pair.st = .standby →
    z.pair.journal = x :: l → z.pair.applied = some a →
    x.entry.jseq ≠ (a + 1) % 2 ^ 32 → (q < x.entry.jseq ∨ x.entry.effect ≤ z.stamp) →
    Done (.journalEffect t q) s fun u =>
      u.pair.st = .resync ∧ u.pair.journal = [] ∧ u.pair.copies = [] ∧ Only [.pair, .port, .drives] z u) ∧
  (∀ (s z : State) (t : Nat) (q a : Nat), z = s.advance t → z.pair.st = .standby → z.pair.journal = [] → z.pair.applied = some
    a → q = (a + 1) % 2 ^ 32 →
    Done (.journalEffect t q) s fun u =>
      u.pair.st = .resync ∧ u.pair.jcounts.2.2.1 = z.pair.jcounts.2.2.1 + 1 ∧ Only [.pair, .port, .drives] z u) ∧
  (∀ (s z : State) (t : Nat) (x : JPending) (l : List JPending), z = s.advance t → z.pair.st = .resync → z.pair.journal = x ::
    l → x.entry.effect ≤ z.stamp →
    Done (.journalEffect t x.entry.jseq) s fun u =>
      u.pair = { z.pair with journal := l, applied := some x.entry.jseq } ∧ Only [.pair] z u) ∧
  (∀ (s z : State) (t : Nat) (d : Nat) (e : Int), z = s.advance t → z.pair.st = .standby →
    Done (.carouselAlignment t d e) s fun u =>
      u.pair.align = e ∧ u.pair.st = .standby ∧ u.pair.journal = z.pair.journal ∧
      u.pair.misFrom = (if e.natAbs ≤ 50 then none else some (z.pair.misFrom.getD z.carousel.phase)) ∧
      (∀ k : Fin 2, u.pair.links[k].delay = if z.pair.links[k].up then d else z.pair.links[k].delay) ∧ Only [.pair] z u) ∧
  (∀ (s z : State) (t : Nat) (k : Fin 2), z = s.advance t → z.pair.st = .holder → z.tzEn k.val = true →
    Done (.pairHeartbeat t k none) s fun u =>
      u.pair.links[k].sent = z.pair.links[k].sent + 1 ∧ u.pair.links[k].lastBeat = some z.ownBeat ∧ u.pair.beat = z.pair.beat ∧
      Only [.pair] z u) ∧
  (∀ (s z : State) (t : Nat) (k : Fin 2) (b : Beat), z = s.advance t → z.pair.st = .holder → z.tzEn k.val = true →
    Done (.pairHeartbeat t k (some b)) s fun u =>
      u.pair.beat = some (b, z.time.clock) ∧ u.pair.beatLost = false ∧ u.pair.partnerResync = decide (b.state = .resync) ∧
      u.pair.st = .holder ∧ u.safety.pausePartner = b.pause ∧ Only [.legs, .laws, .juggler, .barker, .scribe, .keys, .update,
        .pair, .port, .tokens, .safety] z u) ∧
  (∀ (s z : State) (t : Nat) (k : Fin 2), z = s.advance t → z.tzEn k.val = true → z.pair.links[k].up = true → (z.pair.st =
    .standby ∨ z.pair.st = .resync) →
    (∀ m : Fin 2, m ≠ k → z.tzEn m.val = false ∨ z.pair.links[m].up = false) →
    Done (.linkState t k false) s fun u =>
      u.pair.st = .detached ∧ u.pair.links[k].up = false ∧ u.pair.links[k].errors = z.pair.links[k].errors + 1 ∧
      u.pair.journal = [] ∧ u.lastEv = some .linkState ∧ Only [.pair, .port, .drives] z u) ∧
  (∀ (s z : State) (t : Nat) (k : Fin 2), z = s.advance t → z.tzEn k.val = true → z.pair.links[k].up = false → z.pair.st =
    .holder →
    Done (.linkState t k true) s fun u =>
      u.pair.st = .holder ∧ u.pair.links[k].up = true ∧ u.pair.links[k].errors = z.pair.links[k].errors ∧
      u.lastEv = some .linkState ∧ Only [.pair, .port] z u) ∧
  (∀ (s z : State) (t : Nat) (k : Fin 2), z = s.advance t → z.tzEn k.val = true → z.pair.links[k].up = false → z.pair.st =
    .detached →
    Done (.linkState t k true) s fun u =>
      u.pair.st = .resync ∧ u.pair.links[k].up = true ∧ u.pair.resyncAt = z.time.clock ∧ u.pair.driving = false ∧ Only [.pair,
        .port, .drives] z u)

/-- RING_LOST, HEARTBEAT_LOST, RING_WATCHDOG_LAPSE, NEW_HOLDER_DRIVE (R592 to R595, R604, R610, Table 15.1): a standby takes
the ring on the loss of the ring together with the heartbeat, or with a yield; the loss of one alone is no takeover; a
detached module takes it cold; a holder without heartbeats runs SOLO; a lapsed watchdog stops the drivers; the new holder
drives at the first stroke boundary at least 4 us after its decision. Choices of the model it rests on: log 1, 26, 72, 76,
157. -/
def Obligations.RingChangesHands : Prop :=
  (∀ (s z : State) (t : Nat) (n : Nat), z = s.advance t → 4 * ticksPerUs < n → z.pair.st = .standby → z.pair.ringLost = false →
    z.pair.beatLost = true →
    z.startup.mode = .service →
    Done (.ringLost t n) s fun u =>
      u.pair.st = .solo ∧ u.pair.ringOut = true ∧ u.pair.decided = some z.time.clock ∧ u.pair.driving = z.pair.driving ∧
      u.pair.takeovers = z.pair.takeovers + 1 ∧ Only [.legs, .laws, .juggler, .barker, .scribe, .keys, .update, .pair, .port,
        .tokens, .drives] z u) ∧
  (∀ (s z : State) (t : Nat) (n : Nat), z = s.advance t → 4 * ticksPerUs < n → z.pair.st = .standby → z.pair.ringLost = false →
    z.pair.beatLost = false →
    z.pair.yieldSeen = true → z.pair.degraded = [] → z.startup.mode = .service →
    Done (.ringLost t n) s fun u =>
      u.pair.st = .holder ∧ u.pair.ringOut = true ∧ u.pair.decided = some z.time.clock ∧ u.lastEv = some .takeover ∧ Only
        [.legs, .laws, .juggler, .barker, .scribe, .keys, .update, .pair, .port, .tokens, .drives] z u) ∧
  (∀ (s z : State) (t : Nat) (n : Nat), z = s.advance t → 4 * ticksPerUs < n → z.pair.st = .standby → z.pair.ringLost = false →
    z.pair.beatLost = false →
    z.pair.yieldSeen = false →
    Done (.ringLost t n) s fun u =>
      u.pair = { z.pair with ringLost := true } ∧ u.lastEv = some .ringWire ∧ Only [.pair, .port] z u) ∧
  (∀ (s z : State) (t : Nat) (n : Nat), z = s.advance t → 4 * ticksPerUs < n → z.pair.st = .detached → z.pair.ringLost = false
    → z.pair.beatLost = true →
    z.startup.mode = .service →
    Done (.ringLost t n) s fun u =>
      u.pair.st = .solo ∧ u.pair.ringOut = true ∧ u.pair.cold = true ∧ u.pair.decided = some z.time.clock ∧
      u.juggler.pencil = none ∧ u.juggler.latch = none ∧ Only [.legs, .laws, .juggler, .barker, .scribe, .keys, .update, .pair,
        .port, .tokens, .drives] z u) ∧
  (∀ (s z : State) (t : Nat) (n : Nat), z = s.advance t → n ≤ 4 * ticksPerUs → Done (.ringLost t n) s fun u => u = z) ∧
  (∀ (s z : State) (t : Nat) (b : Beat × Nat), z = s.advance t → z.pair.beat = some b → b.2 + 8 * ticksPerUs < z.time.clock →
    z.pair.beatLost = false → z.pair.st = .holder →
    Done (.heartbeatLost t) s fun u =>
      u.pair.st = .solo ∧ u.pair.beatLost = true ∧ u.pair.driving = z.pair.driving ∧ u.pair.ringOut = z.pair.ringOut ∧
      u.lastEv = some .partnerLost ∧ Only [.pair, .port] z u) ∧
  (∀ (s z : State) (t : Nat) (b : Beat × Nat), z = s.advance t → z.pair.beat = some b → b.2 + 8 * ticksPerUs < z.time.clock →
    z.pair.beatLost = false → z.pair.st = .standby →
    z.pair.ringLost = false →
    Done (.heartbeatLost t) s fun u => u.pair = { z.pair with beatLost := true } ∧ Only [.pair] z u) ∧
  (∀ (s z : State) (t : Nat) (b : Beat × Nat), z = s.advance t → z.pair.beat = some b → z.time.clock ≤ b.2 + 8 * ticksPerUs →
    Done (.heartbeatLost t) s fun u => u = z) ∧
  (∀ (s z : State) (t : Nat) (n : Nat), z = s.advance t → 2 * ticksPerUs < n → z.holds = true →
    Done (.ringWatchdogLapse t n) s fun u =>
      u.pair = { z.pair with driving := false, ringOut := false, decided := none, cold := false } ∧ Only [.pair, .drives] z u) ∧
  (∀ (s z : State) (t : Nat) (n : Nat), z = s.advance t → n ≤ 2 * ticksPerUs → Done (.ringWatchdogLapse t n) s fun u => u = z) ∧
  (∀ (s z : State) (t : Nat) (d : Nat), z = s.advance t → z.pair.decided = some d → z.holds = true → z.startup.mode = .service
    → z.carousel.running = true →
    z.pair.cold = false → d + 4 * ticksPerUs ≤ z.carousel.strokeTick + z.time.tick0 →
    Done (.newHolderDrive t) s fun u => u.pair = { z.pair with driving := true, decided := none } ∧ Only [.pair] z u) ∧
  (∀ (s z : State) (t : Nat) (d : Nat), z = s.advance t → z.pair.decided = some d → z.holds = true → z.startup.mode = .service
    → z.carousel.running = true →
    z.pair.cold = true → d ≤ z.carousel.strokeTick + z.time.tick0 →
    Done (.newHolderDrive t) s fun u => u.pair = { z.pair with driving := true, decided := none, cold := false } ∧ Only [.pair]
      z u) ∧
  (∀ (s z : State) (t : Nat) (d : Nat), z = s.advance t → z.pair.decided = some d → z.pair.cold = false → z.carousel.strokeTick
    + z.time.tick0 < d + 4 * ticksPerUs →
    Done (.newHolderDrive t) s fun u => u = z)

/-- YIELD, YIELD_MESSAGE, YIELD_EXECUTE, RECOMMISSION (R594, R598, R601, R607, R612, R618): a planned yield gives the ring
away at its boundary, one for a degraded holder only to a fit standby, and one for a failed divergence test ends in RESYNC; a
message with the ring lost is a takeover; a client plans a yield where a fit standby is there, and binds a new partner.
Choices of the model it rests on: log 1, 19, 22, 72, 73. -/
def Obligations.Yielding : Prop :=
  (∀ (s z : State) (t : Nat) (p : YieldPlan), z = s.advance t → z.pair.plan = some p → z.pair.st = .holder → p.half ≤
    z.carousel.half → 10 ≤ p.cause → p.cause ≠ 12 →
    Done (.yield_ t) s fun u =>
      u.pair.st = .standby ∧ u.pair.driving = false ∧ u.pair.ringOut = false ∧ u.pair.plan = none ∧ u.lastEv = some .yield ∧
        Only [.pair, .port, .drives] z u) ∧
  (∀ (s z : State) (t : Nat) (p : YieldPlan), z = s.advance t → z.pair.plan = some p → z.pair.st = .holder → p.half ≤
    z.carousel.half → p.cause = 12 →
    Done (.yield_ t) s fun u =>
      u.pair.st = .resync ∧ u.pair.driving = false ∧ u.pair.ringOut = false ∧ u.pair.plan = none ∧ Only [.pair, .port, .drives]
        z u) ∧
  (∀ (s z : State) (t : Nat) (p : YieldPlan), z = s.advance t → z.pair.plan = some p → z.pair.st = .holder → p.half ≤
    z.carousel.half → p.cause < 10 → z.standbyFit = false →
    Done (.yield_ t) s fun u => u.pair = { z.pair with plan := none } ∧ Only [.pair] z u) ∧
  (∀ (s z : State) (t : Nat), z = s.advance t → z.pair.plan = none → Done (.yield_ t) s fun u => u = z) ∧
  (∀ (s z : State) (t : Nat), z = s.advance t → z.pair.st = .standby → z.pair.ringLost = true → z.pair.degraded = [] →
    z.pair.beatLost = false → z.startup.mode = .service →
    Done (.yieldMessage t) s fun u =>
      u.pair.st = .holder ∧ u.pair.ringOut = true ∧ u.pair.decided = some z.time.clock ∧ u.lastEv = some .takeover ∧ Only
        [.legs, .laws, .juggler, .barker, .scribe, .keys, .update, .pair, .port, .tokens, .drives] z u) ∧
  (∀ (s z : State) (t : Nat), z = s.advance t → z.pair.st = .standby → z.pair.ringLost = false →
    Done (.yieldMessage t) s fun u => u.pair = { z.pair with yieldSeen := true } ∧ Only [.pair] z u) ∧
  (∀ (c : ConnNo) (role : Role) (addr : Nat), Effect (.op true c role addr .yield_) (fun z => z.pair.st = .holder ∧
    z.standbyFit = true ∧ z.pair.plan = none ∧ z.waits c = [.pending]) fun z u =>
      u.pair.plan = some { cause := 10, half := z.carousel.half + 1 } ∧ u.pair.st = .holder ∧ u.res c = some 0 ∧
      Only [.pair, .port] z u) ∧
  (∀ (c : ConnNo), Request (fun t => .yieldExecute t c) c (dev 142 6 0) .execute .yield_ 4 (fun z => z.standbyFit = false) fun
    z u =>
      u.pair = z.pair ∧ Only [.port] z u) ∧
  (∀ (c : ConnNo) (p : PartnerInfo), Request (fun t => .recommission t c p) c (dev 142 5 0) .execute (.recommission p) 0 (fun z
    => p.attestOk = true ∧ p.orderN = z.ident.orderN ∧ p.recordsHash = z.startup.hdr.recordsHash) fun z u =>
      u.ident = { z.ident with partnerSerial := p.serial, partnerHash := some p.idHash } ∧ u.scribe.core = z.scribe.core ∧
      (∃ r, u.scribe.opening = some r ∧ r.survivor = z.ident.serial ∧ r.replacement = p.serial) ∧
      u.lastEv = some .recommissioned ∧ Only [.scribe, .ident, .port] z u) ∧
  (∀ (c : ConnNo) (p : PartnerInfo), Request (fun t => .recommission t c p) c (dev 142 5 0) .execute (.recommission p) 4 (fun z
    => p.attestOk = false) fun z u =>
      u.ident = z.ident ∧ Only [.port] z u)

/-- PARTNER_DIGEST, DIVERGENCE_RESULT, RESYNC_DONE, AGREEING_DRIVE_TEST, RING_BURST, HEALTH_REPORT (R131, R600 to R603, R606
to R608): digests that agree change nothing, ones that differ start the divergence test; a nib that fails it is fenced; a
holder that fails it alone plans its yield and a standby that fails it resyncs; a finished transfer is the new state; the
holder opens the window of an agreeing-drive test, and a failed self-test of the standby makes it DEGRADED. Choices of the
model it rests on: log 1, 19, 52, 74. -/
def Obligations.DigestsAndHealth : Prop :=
  (∀ (s z : State) (t : Nat) (b d : Nat), z = s.advance t → z.pair.digests.find? (fun x => x.1 = b && x.2.2.isNone) = some (b,
    d, none) →
    Done (.partnerDigest t b d) s fun u =>
      u.pair.diverge = z.pair.diverge ∧ (b, d, some d) ∈ u.pair.digests ∧ u.pair.st = z.pair.st ∧ Only [.pair] z u) ∧
  (∀ (s z : State) (t : Nat) (b d e : Nat), z = s.advance t → z.pair.digests.find? (fun x => x.1 = b && x.2.2.isNone) = some
    (b, d, none) → d ≠ e → z.pair.diverge = none →
    Done (.partnerDigest t b e) s fun u =>
      u.pair.diverge = some { started := z.time.clock, inked := false, more := 0 } ∧ (b, d, some e) ∈ u.pair.digests ∧
      u.lastEv = some .digestMismatch ∧ Only [.pair, .port] z u) ∧
  (∀ (s z : State) (t : Nat) (failed : List NibNo) (ok : Bool), z = s.advance t → z.pair.diverge ≠ none → z.pair.st = .holder →
    failed ≠ [] ∨ ok = false →
    Done (.divergenceResult t { failed, digestOk := ok } true) s fun u =>
      u.pair.diverge = none ∧ u.pair.plan = some { cause := 12, half := z.carousel.half + 1 } ∧ 3 ∈ u.pair.degraded ∧
      (∀ n ∈ failed, (u.array.nibs[n]).fenced = true) ∧ u.pair.st = .holder ∧ Only [.free, .array, .pair, .port, .drives] z u) ∧
  (∀ (s z : State) (t : Nat) (failed : List NibNo) (ok partner : Bool), z = s.advance t → z.pair.diverge ≠ none → z.pair.st =
    .standby →
    Done (.divergenceResult t { failed, digestOk := ok } partner) s fun u =>
      u.pair.diverge = none ∧ u.pair.st = (if failed = [] ∧ ok = true ∧ partner = false then .standby else .resync) ∧
      (∀ n ∈ failed, (u.array.nibs[n]).fenced = true) ∧ (failed ≠ [] ∨ ok = false → 3 ∈ u.pair.degraded) ∧ Only [.free, .array,
        .pair, .port, .drives] z u) ∧
  (∀ (s z : State) (t : Nat) (failed : List NibNo) (ok partner : Bool), z = s.advance t → z.pair.diverge = none →
    Done (.divergenceResult t { failed, digestOk := ok } partner) s fun u => u = z) ∧
  (∀ (s z : State) (t : Nat) (mib : Nat) (x : Transfer), z = s.advance t → z.pair.st = .resync → z.scribe.open_ = true →
    Done (.resyncDone t 0 mib x) s fun u =>
      u.pair.st = .standby ∧ u.scribe.core = { x.work.core with time := max z.scribe.core.time x.work.core.time } ∧
      u.scribe.bits = z.scribe.bits ∧ u.scribe.sums = z.scribe.sums ∧ u.tokens = x.tokens ∧ u.tamper.recs = x.tamper.recs ∧
      u.barker = x.barker ∧ u.laws.laws = x.laws ∧ u.legs.groups = x.groups ∧ u.legs.offSides = x.offSides ∧ u.array.seqs =
        x.seqs ∧
      u.juggler.ink = x.juggler.ink ∧ u.juggler.curtObj = curtOf x.curtObj z.time.clock ∧
      u.juggler.curtCan = curtOf x.curtCan z.time.clock ∧ u.thermal.folios = x.thermal.folios ∧
      u.lastEv = some .resyncDone ∧ Only [.array, .legs, .laws, .juggler, .thermal, .barker, .scribe, .pair, .port, .tokens,
        .tamper] z u) ∧
  (∀ (s z : State) (t : Nat) (n mib : Nat) (x : Transfer), z = s.advance t → n ≠ 0 → Done (.resyncDone t n mib x) s fun u => u
    = z) ∧
  (∀ (s z : State) (t : Nat) (l : LegNo) (n : Net) (mV : Nat) (near : Bool), z = s.advance t → z.pair.st = .holder →
    Done (.agreeingDriveTest t l n mV near) s fun u =>
      u.pair = { z.pair with agree := some (l.val, n, z.time.clock) } ∧ Only [.pair] z u) ∧
  (∀ (s z : State) (t : Nat) (l : LegNo) (n : Net) (mV : Nat), z = s.advance t → z.pair.st = .standby → z.startup.mode =
    .service →
    Done (.agreeingDriveTest t l n mV false) s fun u =>
      (850 < mV → u.pair.degraded = z.pair.degraded) ∧ (mV ≤ 850 → 4 ∈ u.pair.degraded) ∧ u.pair.st = .standby ∧ Only [.pair,
        .port] z u) ∧
  (∀ (s z : State) (t : Nat) (l : LegNo) (n : Net) (mV : Nat), z = s.advance t → z.pair.st ≠ .holder → Done (.agreeingDriveTest
    t l n mV true) s fun u => u = z) ∧
  (∀ (s z : State) (t : Nat) (n : Nat), z = s.advance t → z.pair.st = .standby → z.startup.mode = .service →
    Done (.ringBurst t n) s fun u =>
      (19 ≤ n → n ≤ 21 → u.pair.degraded = z.pair.degraded) ∧ (n < 19 ∨ 21 < n → 5 ∈ u.pair.degraded) ∧ u.pair.st = .standby ∧
        Only [.pair, .port] z u) ∧
  (∀ (s z : State) (t : Nat), z = s.advance t → Done (.healthReport t) s fun u => ∃ h, u.pair = { z.pair with health := (z.tick
    : Int) :: h } ∧ Only [.pair] z u)

/-- STALL (R507): with the applied duty at or above 0.05, a driver in RUN that sees no Hall edge for STALL_MS and past the
expiry tick (R47), counted from the later of the last edge and its entry to RUN, faults with cause STALL; below that duty, or
with an edge since, nothing happens. -/
def Obligations.StallFaults : Prop :=
  (∀ (s z : State) (t : Nat) (p : PumpNo) (w : List W32), z = s.advance t → z.pumpRec p.val = some w → (z.pump p.val).st = .run
    →
    5 / 100 ≤ (z.pump p.val).dutyNow w z.time.clock →
    max (z.pump p.val).hallAt (z.pump p.val).runAt + fld w 1 15 0 * ticksPerMs < z.time.clock →
    Done (.stall t p) s fun u =>
      (u.pump p.val).faults = (z.pump p.val).faults.modify 1 (· + 1) ∧ (u.pump p.val).duty = 0 ∧
      ((u.pump p.val).st = .retryWait ∧ (u.pump p.val).retries = (z.pump p.val).retries + 1 ∨ (u.pump p.val).st = .latched) ∧
      (∀ m : PumpNo, m ≠ p → u.pump m.val = z.pump m.val) ∧ Only [.port, .drives] z u) ∧
  (∀ (s z : State) (t : Nat) (p : PumpNo) (w : List W32), z = s.advance t → z.pumpRec p.val = some w →
    (z.pump p.val).dutyNow w z.time.clock < 5 / 100 ∨
      z.time.clock ≤ max (z.pump p.val).hallAt (z.pump p.val).runAt + fld w 1 15 0 * ticksPerMs →
    Done (.stall t p) s fun u => u = z)

/-- MISALIGNMENT (R590): a misalignment above 50 ns that lasts one half-turn puts the standby out of step, which stops it from
driving and starts a resync; one that has not lasted so long does nothing, and neither does one of a module that is no
standby. -/
def Obligations.MisalignedStandbyIsOutOfStep : Prop :=
  (∀ (s z : State) (t : Nat) (a : Nat) (e : Int), z = s.advance t → z.pair.st = .standby → 50 < e.natAbs → z.pair.misFrom =
    some a → a + turnUnits / 2 ≤ z.carousel.phase →
    Done (.misalignment t e) s fun u =>
      u.pair.st = .resync ∧ u.pair.ringOut = false ∧ u.pair.driving = false ∧ u.pair.journal = [] ∧
      u.pair.resyncAt = z.time.clock ∧ Only [.pair, .port, .drives] z u) ∧
  (∀ (s z : State) (t : Nat) (e : Int), z = s.advance t → z.pair.st ≠ .standby ∨ e.natAbs ≤ 50 ∨ (∀ a, z.pair.misFrom = some a
    → z.carousel.phase < a + turnUnits / 2) →
    Done (.misalignment t e) s fun u => u = z)
end

