-- ==== Sys2Proof/Laws/Chg.lean ====
section
/-!
SUPPORT. What an operation leaves unchanged: `Chg L s u` says that every part of the state outside `L` is in `u` as in `s`, with
the lemmas that chain such facts.
-/
namespace Sys2Proof.Machine
open Sys2Proof

/-- Every part outside `L` is the same. -/
structure Chg (L : List Part) (z s : State) : Prop where
  same : ∀ p, L.contains p = false → z.same s p

theorem Chg.refl (L : List Part) (s : State) : Chg L s s := ⟨fun p _ => by cases p <;> rfl⟩

theorem State.same_trans {a b c : State} {p : Part} (h : a.same b p) (k : b.same c p) : a.same c p := by
  cases p <;> exact Eq.trans k h

theorem Chg.step {M L : List Part} {z s u : State} (h : Chg L z s) (k : Chg M s u)
    (hs : M.all (fun p => L.contains p) = true) : Chg L z u := ⟨fun p hp =>
  State.same_trans (h.1 p hp) (k.1 p (by
    rw [← Bool.not_eq_true]; intro hm
    have := List.all_eq_true.mp hs p (by simpa using hm)
    rw [hp] at this; cases this))⟩

theorem Chg.ite {c : Prop} [Decidable c] {L : List Part} {s a b : State} (h : Chg L s a) (k : Chg L s b) :
    Chg L s (if c then a else b) := by
  split
  · exact h
  · exact k

theorem Chg.ite2 {α : Type} {c : Prop} [Decidable c] {L : List Part} {s : State} {a b : α × State} (h : Chg L s a.2)
    (k : Chg L s b.2) : Chg L s (if c then a else b).2 := by
  split
  · exact h
  · exact k

theorem Chg.foldl {α : Type} {L : List Part} {z s : State} (f : State → α → State) (l : List α)
    (h : Chg L z s) (hf : ∀ s x, Chg L s (f s x)) : Chg L z (l.foldl f s) := by
  induction l generalizing s with
  | nil => exact h
  | cons a l ih => exact ih (Chg.step h (hf s a) (by simp))

/-! One unchanged part: `(State.react_chg s).wall rfl` says that `State.react` leaves wall time alone. -/

theorem Chg.time {L : List Part} {s u : State} (h : Chg L s u) (hp : L.contains .time = false) : u.time = s.time := h.1 _ hp
theorem Chg.free {L : List Part} {s u : State} (h : Chg L s u) (hp : L.contains .free = false) : u.free = s.free := h.1 _ hp
theorem Chg.carousel {L : List Part} {s u : State} (h : Chg L s u) (hp : L.contains .carousel = false) : u.carousel = s.carousel := h.1 _ hp
theorem Chg.wall {L : List Part} {s u : State} (h : Chg L s u) (hp : L.contains .wall = false) : u.wall = s.wall := h.1 _ hp
theorem Chg.startup {L : List Part} {s u : State} (h : Chg L s u) (hp : L.contains .startup = false) : u.startup = s.startup := h.1 _ hp
theorem Chg.flash {L : List Part} {s u : State} (h : Chg L s u) (hp : L.contains .flash = false) : u.flash = s.flash := h.1 _ hp
theorem Chg.array {L : List Part} {s u : State} (h : Chg L s u) (hp : L.contains .array = false) : u.array = s.array := h.1 _ hp
theorem Chg.legs {L : List Part} {s u : State} (h : Chg L s u) (hp : L.contains .legs = false) : u.legs = s.legs := h.1 _ hp
theorem Chg.laws {L : List Part} {s u : State} (h : Chg L s u) (hp : L.contains .laws = false) : u.laws = s.laws := h.1 _ hp
theorem Chg.juggler {L : List Part} {s u : State} (h : Chg L s u) (hp : L.contains .juggler = false) : u.juggler = s.juggler := h.1 _ hp
theorem Chg.thermal {L : List Part} {s u : State} (h : Chg L s u) (hp : L.contains .thermal = false) : u.thermal = s.thermal := h.1 _ hp
theorem Chg.barker {L : List Part} {s u : State} (h : Chg L s u) (hp : L.contains .barker = false) : u.barker = s.barker := h.1 _ hp
theorem Chg.scribe {L : List Part} {s u : State} (h : Chg L s u) (hp : L.contains .scribe = false) : u.scribe = s.scribe := h.1 _ hp
theorem Chg.ident {L : List Part} {s u : State} (h : Chg L s u) (hp : L.contains .ident = false) : u.ident = s.ident := h.1 _ hp
theorem Chg.keys {L : List Part} {s u : State} (h : Chg L s u) (hp : L.contains .keys = false) : u.keys = s.keys := h.1 _ hp
theorem Chg.update {L : List Part} {s u : State} (h : Chg L s u) (hp : L.contains .update = false) : u.update = s.update := h.1 _ hp
theorem Chg.ptp {L : List Part} {s u : State} (h : Chg L s u) (hp : L.contains .ptp = false) : u.ptp = s.ptp := h.1 _ hp
theorem Chg.pair {L : List Part} {s u : State} (h : Chg L s u) (hp : L.contains .pair = false) : u.pair = s.pair := h.1 _ hp
theorem Chg.port {L : List Part} {s u : State} (h : Chg L s u) (hp : L.contains .port = false) : u.port = s.port := h.1 _ hp
theorem Chg.tokens {L : List Part} {s u : State} (h : Chg L s u) (hp : L.contains .tokens = false) : u.tokens = s.tokens := h.1 _ hp
theorem Chg.tamper {L : List Part} {s u : State} (h : Chg L s u) (hp : L.contains .tamper = false) : u.tamper = s.tamper := h.1 _ hp
theorem Chg.safety {L : List Part} {s u : State} (h : Chg L s u) (hp : L.contains .safety = false) : u.safety = s.safety := h.1 _ hp
theorem Chg.drives {L : List Part} {s u : State} (h : Chg L s u) (hp : L.contains .drives = false) : u.drives = s.drives := h.1 _ hp
theorem Chg.supply {L : List Part} {s u : State} (h : Chg L s u) (hp : L.contains .supply = false) : u.supply = s.supply := h.1 _ hp
theorem Chg.buses {L : List Part} {s u : State} (h : Chg L s u) (hp : L.contains .buses = false) : u.buses = s.buses := h.1 _ hp
theorem Chg.pending {L : List Part} {s u : State} (h : Chg L s u) (hp : L.contains .pending = false) : u.pending = s.pending := h.1 _ hp

/-- What an operation may change, as the frame of a statement. -/
theorem Only.of_chg {L M : List Part} {z u : State} (h : Chg L z u) (hs : L.all (fun p => M.contains p) = true) : Only M z u :=
  fun p hp => h.1 p (by
    rw [← Bool.not_eq_true]; intro hm
    have := List.all_eq_true.mp hs p (by simpa using hm)
    simp_all)

/-! One part replaced. -/

theorem Chg.setTime (s : State) (x : Time) : Chg [.time] s { s with time := x } :=
  ⟨fun p hp => by cases p <;> first | rfl | cases hp⟩

theorem Chg.setFree (s : State) (x : Nat) : Chg [.free] s { s with free := x } :=
  ⟨fun p hp => by cases p <;> first | rfl | cases hp⟩

theorem Chg.setCarousel (s : State) (x : Carousel) : Chg [.carousel] s { s with carousel := x } :=
  ⟨fun p hp => by cases p <;> first | rfl | cases hp⟩

theorem Chg.setWall (s : State) (x : Wall) : Chg [.wall] s { s with wall := x } :=
  ⟨fun p hp => by cases p <;> first | rfl | cases hp⟩

theorem Chg.setStartup (s : State) (x : Startup) : Chg [.startup] s { s with startup := x } :=
  ⟨fun p hp => by cases p <;> first | rfl | cases hp⟩

theorem Chg.setFlash (s : State) (x : Flashes) : Chg [.flash] s { s with flash := x } :=
  ⟨fun p hp => by cases p <;> first | rfl | cases hp⟩

theorem Chg.setArray (s : State) (x : Array_) : Chg [.array] s { s with array := x } :=
  ⟨fun p hp => by cases p <;> first | rfl | cases hp⟩

theorem Chg.setLegs (s : State) (x : Legs) : Chg [.legs] s { s with legs := x } :=
  ⟨fun p hp => by cases p <;> first | rfl | cases hp⟩

theorem Chg.setLaws (s : State) (x : Laws) : Chg [.laws] s { s with laws := x } :=
  ⟨fun p hp => by cases p <;> first | rfl | cases hp⟩

theorem Chg.setJuggler (s : State) (x : Juggler) : Chg [.juggler] s { s with juggler := x } :=
  ⟨fun p hp => by cases p <;> first | rfl | cases hp⟩

theorem Chg.setThermal (s : State) (x : Thermal) : Chg [.thermal] s { s with thermal := x } :=
  ⟨fun p hp => by cases p <;> first | rfl | cases hp⟩

theorem Chg.setBarker (s : State) (x : Barker) : Chg [.barker] s { s with barker := x } :=
  ⟨fun p hp => by cases p <;> first | rfl | cases hp⟩

theorem Chg.setScribe (s : State) (x : Scribe) : Chg [.scribe] s { s with scribe := x } :=
  ⟨fun p hp => by cases p <;> first | rfl | cases hp⟩

theorem Chg.setIdent (s : State) (x : Ident) : Chg [.ident] s { s with ident := x } :=
  ⟨fun p hp => by cases p <;> first | rfl | cases hp⟩

theorem Chg.setKeys (s : State) (x : Keys) : Chg [.keys] s { s with keys := x } :=
  ⟨fun p hp => by cases p <;> first | rfl | cases hp⟩

theorem Chg.setUpdate (s : State) (x : Update) : Chg [.update] s { s with update := x } :=
  ⟨fun p hp => by cases p <;> first | rfl | cases hp⟩

theorem Chg.setPtp (s : State) (x : Ptp) : Chg [.ptp] s { s with ptp := x } :=
  ⟨fun p hp => by cases p <;> first | rfl | cases hp⟩

theorem Chg.setPair (s : State) (x : Pair) : Chg [.pair] s { s with pair := x } :=
  ⟨fun p hp => by cases p <;> first | rfl | cases hp⟩

theorem Chg.setPort (s : State) (x : Port) : Chg [.port] s { s with port := x } :=
  ⟨fun p hp => by cases p <;> first | rfl | cases hp⟩

theorem Chg.setTokens (s : State) (x : Tokens) : Chg [.tokens] s { s with tokens := x } :=
  ⟨fun p hp => by cases p <;> first | rfl | cases hp⟩

theorem Chg.setTamper (s : State) (x : Tamper) : Chg [.tamper] s { s with tamper := x } :=
  ⟨fun p hp => by cases p <;> first | rfl | cases hp⟩

theorem Chg.setSafety (s : State) (x : Safety) : Chg [.safety] s { s with safety := x } :=
  ⟨fun p hp => by cases p <;> first | rfl | cases hp⟩

theorem Chg.setDrives (s : State) (x : Drives) : Chg [.drives] s { s with drives := x } :=
  ⟨fun p hp => by cases p <;> first | rfl | cases hp⟩

theorem Chg.setSupply (s : State) (x : Supply) : Chg [.supply] s { s with supply := x } :=
  ⟨fun p hp => by cases p <;> first | rfl | cases hp⟩

theorem Chg.setBuses (s : State) (x : Buses) : Chg [.buses] s { s with buses := x } :=
  ⟨fun p hp => by cases p <;> first | rfl | cases hp⟩

theorem Chg.setPending (s : State) (x : List Instr) : Chg [.pending] s { s with pending := x } :=
  ⟨fun p hp => by cases p <;> first | rfl | cases hp⟩

end Sys2Proof.Machine
end

