-- ==== Sys2Proof/Laws/OpFrames.lean ====
section
/-!
SUPPORT. The parts of the state that each shared operation may change: one lemma for every operation that answers a state.
-/
set_option maxRecDepth 4000
set_option linter.tactic.unusedName false
set_option linter.unreachableTactic false
set_option linter.unusedTactic false

namespace Sys2Proof.Machine
open Sys2Proof

theorem State.modUpdate_chg (s : State) (f : Update → Update) : Chg [.update] s (State.modUpdate s f) := by
  unfold State.modUpdate
  repeat' (first
    | with_reducible exact Chg.refl _ _
    | with_reducible assumption
    | split
    | fail_if_no_progress (with_reducible refine Chg.step ?_ (Chg.setUpdate _ _) (by decide)))

theorem State.modStaging_chg (s : State) (k2 : Bool) (f : Staging → Staging) : Chg [.update] s (State.modStaging s k2 f) := by
  unfold State.modStaging
  repeat' (first
    | with_reducible exact Chg.refl _ _
    | with_reducible assumption
    | (apply Chg.step; rotate_left
       with_reducible exact State.modUpdate_chg ..
       decide))

theorem State.raise_chg (s : State) (e : Ev) (val : List ℤ) : Chg [.port] s (State.raise s e val) := by
  unfold State.raise
  repeat' (first
    | with_reducible exact Chg.refl _ _
    | with_reducible assumption
    | split
    | fail_if_no_progress (with_reducible refine Chg.step ?_ (Chg.setPort _ _) (by decide)))

theorem State.lapse_chg (s : State) (k2 : Bool) : Chg [.update] s (State.lapse s k2) := by
  unfold State.lapse
  repeat' (first
    | with_reducible exact Chg.refl _ _
    | with_reducible assumption
    | (apply Chg.step; rotate_left
       with_reducible exact State.modUpdate_chg ..
       decide)
    | split)

theorem State.abandon_chg (s : State) (k2 : Bool) : Chg [.update, .port] s (State.abandon s k2) := by
  unfold State.abandon
  repeat' (first
    | with_reducible exact Chg.refl _ _
    | with_reducible assumption
    | (apply Chg.step; rotate_left
       (first
         | with_reducible exact State.lapse_chg ..
         | with_reducible exact State.modStaging_chg ..
         | with_reducible exact State.raise_chg ..)
       decide)
    | (extract_lets +onlyGivenNames x1
       suffices hx : Chg [.update, .port] s x1
       on_goal 1 => clear_value x1
       on_goal 2 => unfold x1)
    | (extract_lets +onlyGivenNames x1
       suffices hx : Chg [.update, .port] s x1.2
       on_goal 1 => clear_value x1
       on_goal 2 => unfold x1)
    | (extract_lets +onlyGivenNames x1; clear_value x1)
    | split)

theorem State.modArr_chg (s : State) (f : Array_ → Array_) : Chg [.array] s (State.modArr s f) := by
  unfold State.modArr
  repeat' (first
    | with_reducible exact Chg.refl _ _
    | with_reducible assumption
    | split
    | fail_if_no_progress (with_reducible refine Chg.step ?_ (Chg.setArray _ _) (by decide)))

theorem State.releaseThird_chg (s : State) (j : P0Job) : Chg [.array] s (State.releaseThird s j) := by
  unfold State.releaseThird
  repeat' (first
    | with_reducible exact Chg.refl _ _
    | with_reducible assumption
    | (apply Chg.step; rotate_left
       with_reducible exact State.modArr_chg ..
       decide)
    | (extract_lets +onlyGivenNames x1
       suffices hx : Chg [.array] s x1
       on_goal 1 => clear_value x1
       on_goal 2 => unfold x1)
    | (extract_lets +onlyGivenNames x1
       suffices hx : Chg [.array] s x1.2
       on_goal 1 => clear_value x1
       on_goal 2 => unfold x1)
    | (extract_lets +onlyGivenNames x1; clear_value x1)
    | split)

theorem State.copyLost_chg (s : State) (k : Task) (nib : ℕ) : Chg [.array] s (State.copyLost s k nib) := by
  unfold State.copyLost
  repeat' (first
    | with_reducible exact Chg.refl _ _
    | with_reducible assumption
    | (apply Chg.step; rotate_left
       (first
         | with_reducible exact State.modArr_chg ..
         | with_reducible exact State.releaseThird_chg ..)
       decide)
    | split)

theorem State.writeResult_chg (s : State) (r : BlockRange) : Chg [.array] s (State.writeResult s r) := by
  unfold State.writeResult
  repeat' (first
    | with_reducible exact Chg.refl _ _
    | with_reducible assumption
    | (apply Chg.step; rotate_left
       with_reducible exact State.modArr_chg ..
       decide)
    | split)

theorem State.modPump_chg (s : State) (n : ℕ) (f : Pump → Pump) : Chg [.drives] s (State.modPump s n f) := by
  unfold State.modPump
  repeat' (first
    | with_reducible exact Chg.refl _ _
    | with_reducible assumption
    | (extract_lets +onlyGivenNames x1
       suffices hx : Chg [.drives] s x1
       on_goal 1 => clear_value x1
       on_goal 2 => unfold x1)
    | (extract_lets +onlyGivenNames x1
       suffices hx : Chg [.drives] s x1.2
       on_goal 1 => clear_value x1
       on_goal 2 => unfold x1)
    | (extract_lets +onlyGivenNames x1; clear_value x1)
    | split
    | fail_if_no_progress (with_reducible refine Chg.step ?_ (Chg.setDrives _ _) (by decide)))

theorem State.pumpCommand_chg (s : State) (n : ℕ) (cmd : ℚ) : Chg [.drives] s (State.pumpCommand s n cmd) := by
  unfold State.pumpCommand
  repeat' (first
    | with_reducible exact Chg.refl _ _
    | with_reducible assumption
    | (apply Chg.step; rotate_left
       with_reducible exact State.modPump_chg ..
       decide)
    | (extract_lets +onlyGivenNames x1
       suffices hx : Chg [.drives] s x1
       on_goal 1 => clear_value x1
       on_goal 2 => unfold x1)
    | (extract_lets +onlyGivenNames x1
       suffices hx : Chg [.drives] s x1.2
       on_goal 1 => clear_value x1
       on_goal 2 => unfold x1)
    | (extract_lets +onlyGivenNames x1; clear_value x1)
    | split)

theorem State.pumpSpeeds_chg (s : State) : Chg [.drives] s (State.pumpSpeeds s) := by
  unfold State.pumpSpeeds
  repeat' (first
    | with_reducible exact Chg.refl _ _
    | with_reducible assumption
    | (apply Chg.step; rotate_left
       with_reducible exact State.pumpCommand_chg ..
       decide)
    | (extract_lets +onlyGivenNames x1
       suffices hx : Chg [.drives] s x1
       on_goal 1 => clear_value x1
       on_goal 2 => unfold x1)
    | (extract_lets +onlyGivenNames x1
       suffices hx : Chg [.drives] s x1.2
       on_goal 1 => clear_value x1
       on_goal 2 => unfold x1)
    | (extract_lets +onlyGivenNames x1; clear_value x1)
    | split
    | (with_reducible apply Chg.foldl; rotate_left; intro s _))

theorem State.modScribe_chg (s : State) (f : Scribe → Scribe) : Chg [.scribe] s (State.modScribe s f) := by
  unfold State.modScribe
  repeat' (first
    | with_reducible exact Chg.refl _ _
    | with_reducible assumption
    | split
    | fail_if_no_progress (with_reducible refine Chg.step ?_ (Chg.setScribe _ _) (by decide)))

theorem State.modCore_chg (s : State) (f : ScribeCore → ScribeCore) : Chg [.scribe] s (State.modCore s f) := by
  unfold State.modCore
  repeat' (first
    | with_reducible exact Chg.refl _ _
    | with_reducible assumption
    | (apply Chg.step; rotate_left
       with_reducible exact State.modScribe_chg ..
       decide))

theorem State.modSessions_chg (s : State) (p : Session → Bool) (f : Session → Session) : Chg [.scribe] s (State.modSessions s p f) := by
  unfold State.modSessions
  repeat' (first
    | with_reducible exact Chg.refl _ _
    | with_reducible assumption
    | (apply Chg.step; rotate_left
       with_reducible exact State.modCore_chg ..
       decide))

theorem State.flagOutlet_chg (s : State) (o : ℕ) (f : MFlag) : Chg [.scribe] s (State.flagOutlet s o f) := by
  unfold State.flagOutlet
  repeat' (first
    | with_reducible exact Chg.refl _ _
    | with_reducible assumption
    | (apply Chg.step; rotate_left
       (first
         | with_reducible exact State.modCore_chg ..
         | with_reducible exact State.modSessions_chg ..)
       decide))

theorem State.modRegs_chg (s : State) (o : ℕ) (f : Regs → Regs) : Chg [.scribe] s (State.modRegs s o f) := by
  unfold State.modRegs
  repeat' (first
    | with_reducible exact Chg.refl _ _
    | with_reducible assumption
    | (apply Chg.step; rotate_left
       with_reducible exact State.modCore_chg ..
       decide))

theorem State.raiseS_chg (s : State) (e : Ev) (val : List ℤ) : Chg [.port] s (State.raiseS s e val) := by
  unfold State.raiseS
  repeat' (first
    | with_reducible exact Chg.refl _ _
    | with_reducible assumption
    | (apply Chg.step; rotate_left
       with_reducible exact State.raise_chg ..
       decide))

theorem State.endPeriodOutlet_chg (s : State) (o : ℕ) : Chg [.scribe, .port] s (State.endPeriodOutlet s o) := by
  unfold State.endPeriodOutlet
  repeat' (first
    | with_reducible exact Chg.refl _ _
    | with_reducible assumption
    | (apply Chg.step; rotate_left
       (first
         | with_reducible exact State.flagOutlet_chg ..
         | with_reducible exact State.modRegs_chg ..
         | with_reducible exact State.modScribe_chg ..
         | with_reducible exact State.modSessions_chg ..
         | with_reducible exact State.raiseS_chg ..)
       decide)
    | (extract_lets +onlyGivenNames x1
       suffices hx : Chg [.scribe, .port] s x1
       on_goal 1 => clear_value x1
       on_goal 2 => unfold x1)
    | (extract_lets +onlyGivenNames x1
       suffices hx : Chg [.scribe, .port] s x1.2
       on_goal 1 => clear_value x1
       on_goal 2 => unfold x1)
    | (extract_lets +onlyGivenNames x1; clear_value x1)
    | split)

theorem State.endPeriod_chg (s : State) : Chg [.scribe, .port] s (State.endPeriod s) := by
  unfold State.endPeriod
  repeat' (first
    | with_reducible exact Chg.refl _ _
    | with_reducible assumption
    | (apply Chg.step; rotate_left
       (first
         | with_reducible exact State.endPeriodOutlet_chg ..
         | with_reducible exact State.modCore_chg ..
         | with_reducible exact State.modSessions_chg ..)
       decide)
    | (extract_lets +onlyGivenNames x1
       suffices hx : Chg [.scribe, .port] s x1
       on_goal 1 => clear_value x1
       on_goal 2 => unfold x1)
    | (extract_lets +onlyGivenNames x1
       suffices hx : Chg [.scribe, .port] s x1.2
       on_goal 1 => clear_value x1
       on_goal 2 => unfold x1)
    | (extract_lets +onlyGivenNames x1; clear_value x1)
    | split
    | (with_reducible apply Chg.foldl; rotate_left; intro s _))

theorem State.sessionIdle_chg (s : State) (ctx : ℕ) : Chg [.scribe, .port] s (State.sessionIdle s ctx) := by
  unfold State.sessionIdle
  repeat' (first
    | with_reducible exact Chg.refl _ _
    | with_reducible assumption
    | (apply Chg.step; rotate_left
       (first
         | with_reducible exact State.endPeriod_chg ..
         | with_reducible exact State.modSessions_chg ..)
       decide))

theorem State.modCtx_chg (s : State) (c : ℕ) (f : Ctx → Ctx) : Chg [.barker] s (State.modCtx s c f) := by
  unfold State.modCtx
  repeat' (first
    | with_reducible exact Chg.refl _ _
    | with_reducible assumption
    | (extract_lets +onlyGivenNames x1
       suffices hx : Chg [.barker] s x1
       on_goal 1 => clear_value x1
       on_goal 2 => unfold x1)
    | (extract_lets +onlyGivenNames x1
       suffices hx : Chg [.barker] s x1.2
       on_goal 1 => clear_value x1
       on_goal 2 => unfold x1)
    | (extract_lets +onlyGivenNames x1; clear_value x1)
    | split
    | fail_if_no_progress (with_reducible refine Chg.step ?_ (Chg.setBarker _ _) (by decide)))

theorem State.rechoose_chg (s : State) (c : ℕ) : Chg [.barker, .scribe] s (State.rechoose s c) := by
  unfold State.rechoose
  repeat' (first
    | with_reducible exact Chg.refl _ _
    | with_reducible assumption
    | (apply Chg.step; rotate_left
       (first
         | with_reducible exact State.modCore_chg ..
         | with_reducible exact State.modCtx_chg ..)
       decide)
    | (extract_lets +onlyGivenNames x1
       suffices hx : Chg [.barker, .scribe] s x1
       on_goal 1 => clear_value x1
       on_goal 2 => unfold x1)
    | (extract_lets +onlyGivenNames x1
       suffices hx : Chg [.barker, .scribe] s x1.2
       on_goal 1 => clear_value x1
       on_goal 2 => unfold x1)
    | (extract_lets +onlyGivenNames x1; clear_value x1)
    | split)

theorem State.setCredit_chg (s : State) (c : ℕ) (n : ℕ) : Chg [.scribe] s (State.setCredit s c n) := by
  unfold State.setCredit
  repeat' (first
    | with_reducible exact Chg.refl _ _
    | with_reducible assumption
    | (apply Chg.step; rotate_left
       with_reducible exact State.modCore_chg ..
       decide))

theorem State.modTokens_chg (s : State) (f : Tokens → Tokens) : Chg [.tokens] s (State.modTokens s f) := by
  unfold State.modTokens
  repeat' (first
    | with_reducible exact Chg.refl _ _
    | with_reducible assumption
    | split
    | fail_if_no_progress (with_reducible refine Chg.step ?_ (Chg.setTokens _ _) (by decide)))

theorem State.modTok_chg (s : State) (o : ℕ) (f : TokenOutlet → TokenOutlet) : Chg [.tokens] s (State.modTok s o f) := by
  unfold State.modTok
  repeat' (first
    | with_reducible exact Chg.refl _ _
    | with_reducible assumption
    | (apply Chg.step; rotate_left
       with_reducible exact State.modTokens_chg ..
       decide))

theorem State.plugCredit_chg (s : State) (o : ℕ) (c : ℕ) : Chg [.scribe, .tokens] s (State.plugCredit s o c) := by
  unfold State.plugCredit
  repeat' (first
    | with_reducible exact Chg.refl _ _
    | with_reducible assumption
    | (apply Chg.step; rotate_left
       (first
         | with_reducible exact State.modTok_chg ..
         | with_reducible exact State.setCredit_chg ..)
       decide))

theorem State.modDisp_chg (s : State) (o : ℕ) (f : Disp → Disp) : Chg [.barker] s (State.modDisp s o f) := by
  unfold State.modDisp
  repeat' (first
    | with_reducible exact Chg.refl _ _
    | with_reducible assumption
    | (extract_lets +onlyGivenNames x1
       suffices hx : Chg [.barker] s x1
       on_goal 1 => clear_value x1
       on_goal 2 => unfold x1)
    | (extract_lets +onlyGivenNames x1
       suffices hx : Chg [.barker] s x1.2
       on_goal 1 => clear_value x1
       on_goal 2 => unfold x1)
    | (extract_lets +onlyGivenNames x1; clear_value x1)
    | split
    | fail_if_no_progress (with_reducible refine Chg.step ?_ (Chg.setBarker _ _) (by decide)))

theorem State.modJug_chg (s : State) (f : Juggler → Juggler) : Chg [.juggler] s (State.modJug s f) := by
  unfold State.modJug
  repeat' (first
    | with_reducible exact Chg.refl _ _
    | with_reducible assumption
    | split
    | fail_if_no_progress (with_reducible refine Chg.step ?_ (Chg.setJuggler _ _) (by decide)))

theorem State.notQuiet_chg (s : State) : Chg [.update] s (State.notQuiet s) := by
  unfold State.notQuiet
  repeat' (first
    | with_reducible exact Chg.refl _ _
    | with_reducible assumption
    | (extract_lets +onlyGivenNames x1
       suffices hx : Chg [.update] s x1
       on_goal 1 => clear_value x1
       on_goal 2 => unfold x1)
    | (extract_lets +onlyGivenNames x1
       suffices hx : Chg [.update] s x1.2
       on_goal 1 => clear_value x1
       on_goal 2 => unfold x1)
    | (extract_lets +onlyGivenNames x1; clear_value x1)
    | split
    | fail_if_no_progress (with_reducible refine Chg.step ?_ (Chg.setUpdate _ _) (by decide)))

theorem State.plugIn_chg (s : State) (o : ℕ) : Chg [.juggler, .barker, .scribe, .update, .port, .tokens] s (State.plugIn s o) := by
  unfold State.plugIn
  repeat' (first
    | with_reducible exact Chg.refl _ _
    | with_reducible assumption
    | (apply Chg.step; rotate_left
       (first
         | with_reducible exact State.modCtx_chg ..
         | with_reducible exact State.modDisp_chg ..
         | with_reducible exact State.modJug_chg ..
         | with_reducible exact State.modTok_chg ..
         | with_reducible exact State.notQuiet_chg ..
         | with_reducible exact State.plugCredit_chg ..
         | with_reducible exact State.raise_chg ..)
       decide)
    | (extract_lets +onlyGivenNames x1
       suffices hx : Chg [.juggler, .barker, .scribe, .update, .port, .tokens] s x1
       on_goal 1 => clear_value x1
       on_goal 2 => unfold x1)
    | split)

theorem State.freeCtx_chg (s : State) (c : ℕ) (receiptNo : ℕ) : Chg [.juggler, .barker, .scribe, .update, .port, .tokens] s (State.freeCtx s c receiptNo) := by
  unfold State.freeCtx
  repeat' (first
    | with_reducible exact Chg.refl _ _
    | with_reducible assumption
    | (apply Chg.step; rotate_left
       (first
         | with_reducible exact State.modCtx_chg ..
         | with_reducible exact State.plugIn_chg ..
         | with_reducible exact State.raise_chg ..
         | with_reducible exact State.rechoose_chg ..)
       decide)
    | (extract_lets +onlyGivenNames x1
       suffices hx : Chg [.juggler, .barker, .scribe, .update, .port, .tokens] s x1
       on_goal 1 => clear_value x1
       on_goal 2 => unfold x1)
    | split)

theorem State.modSlot_chg (s : State) (i : ℕ) (f : KeySlot → KeySlot) : Chg [.keys] s (State.modSlot s i f) := by
  unfold State.modSlot
  repeat' (first
    | with_reducible exact Chg.refl _ _
    | with_reducible assumption
    | (extract_lets +onlyGivenNames x1
       suffices hx : Chg [.keys] s x1
       on_goal 1 => clear_value x1
       on_goal 2 => unfold x1)
    | (extract_lets +onlyGivenNames x1
       suffices hx : Chg [.keys] s x1.2
       on_goal 1 => clear_value x1
       on_goal 2 => unfold x1)
    | (extract_lets +onlyGivenNames x1; clear_value x1)
    | split
    | fail_if_no_progress (with_reducible refine Chg.step ?_ (Chg.setKeys _ _) (by decide)))

theorem State.denyKey_chg (s : State) (i : ℕ) (op : KeyOp) (m : KeyMaster) : Chg [.keys, .port] s (State.denyKey s i op m) := by
  unfold State.denyKey
  repeat' (first
    | with_reducible exact Chg.refl _ _
    | with_reducible assumption
    | (apply Chg.step; rotate_left
       (first
         | with_reducible exact State.modSlot_chg ..
         | with_reducible exact State.raise_chg ..)
       decide)
    | (extract_lets +onlyGivenNames x1
       suffices hx : Chg [.keys, .port] s x1
       on_goal 1 => clear_value x1
       on_goal 2 => unfold x1)
    | (extract_lets +onlyGivenNames x1
       suffices hx : Chg [.keys, .port] s x1.2
       on_goal 1 => clear_value x1
       on_goal 2 => unfold x1)
    | (extract_lets +onlyGivenNames x1; clear_value x1)
    | split)

theorem State.useKey_chg (s : State) (i : ℕ) (op : KeyOp) (m : KeyMaster) : Chg [.keys, .port] s (State.useKey s i op m).2 := by
  unfold State.useKey
  repeat' (first
    | with_reducible exact Chg.refl _ _
    | with_reducible assumption
    | (apply Chg.step; rotate_left
       with_reducible exact State.denyKey_chg ..
       decide)
    | split)

theorem State.macOf_chg (s : State) (cls : ℕ) (id : ℕ) (bits : ℕ) : Chg [.keys, .port] s (State.macOf s cls id bits).2 := by
  unfold State.macOf
  repeat' (first
    | with_reducible exact Chg.refl _ _
    | with_reducible assumption
    | (apply Chg.step; rotate_left
       with_reducible exact State.useKey_chg ..
       decide)
    | split)

theorem State.returnCredit_chg (s : State) (u : ℕ) : Chg [.keys, .port, .tokens] s (State.returnCredit s u).2 := by
  have hr (n : Nat) (z : State) : Chg [.tokens] z (z.modTokens fun k => { k with residue := k.residue + n }) := State.modTokens_chg ..
  have hm := State.macOf_chg s 1 s.tokens.changeCounter (changeExp u * 2 ^ 14 + u / 10 ^ changeExp u)
  unfold State.returnCredit
  extract_lets rest e m id x
  have hx : Chg [.keys, .port, .tokens] s x.2 := Chg.step (Chg.refl _ s) hm (by decide)
  clear_value x
  split
  · exact Chg.step (Chg.refl _ s) (hr u s) (by decide)
  · split
    · exact Chg.step hx (hr u x.2) (by decide)
    · have h := Chg.step hx (hr (u - m * 10 ^ e) x.2) (by decide)
      dsimp only
      exact Chg.step (M := [.tokens]) h (State.modTokens_chg ..) (by decide)

theorem State.issueChange_chg (s : State) (o : ℕ) (a2 : Option (ℕ × ℕ × ℕ)) : Chg [.port, .tokens] s (State.issueChange s o a2) := by
  unfold State.issueChange
  repeat' (first
    | with_reducible exact Chg.refl _ _
    | with_reducible assumption
    | (apply Chg.step; rotate_left
       (first
         | with_reducible exact State.modTok_chg ..
         | with_reducible exact State.raiseS_chg ..)
       decide)
    | split)

theorem State.idleAll_chg (s : State) : Chg [.scribe] s (State.idleAll s) := by
  unfold State.idleAll
  repeat' (first
    | with_reducible exact Chg.refl _ _
    | with_reducible assumption
    | (apply Chg.step; rotate_left
       with_reducible exact State.modSessions_chg ..
       decide))

theorem State.closeSession_chg (s : State) (x : Session) (cause : ℕ) (wall : Option ℕ) (scribe : ℕ) : Chg [.scribe, .keys, .port, .tokens] s (State.closeSession s x cause wall scribe) := by
  unfold State.closeSession
  repeat' (first
    | with_reducible exact Chg.refl _ _
    | with_reducible assumption
    | (apply Chg.step; rotate_left
       (first
         | with_reducible exact State.idleAll_chg ..
         | with_reducible exact State.modRegs_chg ..
         | with_reducible exact State.modScribe_chg ..
         | with_reducible exact State.modTokens_chg ..
         | with_reducible exact State.returnCredit_chg ..
         | with_reducible exact State.useKey_chg ..)
       decide)
    | (extract_lets +onlyGivenNames x1; clear_value x1)
    | split)

theorem State.closeCtx_chg (s : State) (c : ℕ) (cause : ℕ) : Chg [.juggler, .barker, .scribe, .keys, .update, .port, .tokens] s (State.closeCtx s c cause) := by
  unfold State.closeCtx
  repeat' (first
    | with_reducible exact Chg.refl _ _
    | with_reducible assumption
    | (apply Chg.step; rotate_left
       (first
         | with_reducible exact State.closeSession_chg ..
         | with_reducible exact State.endPeriod_chg ..
         | with_reducible exact State.freeCtx_chg ..
         | with_reducible exact State.issueChange_chg ..
         | with_reducible exact State.modCore_chg ..
         | with_reducible exact State.modCtx_chg ..
         | with_reducible exact State.raise_chg ..
         | with_reducible exact State.returnCredit_chg ..)
       decide)
    | (extract_lets +onlyGivenNames x1
       suffices hx : Chg [.juggler, .barker, .scribe, .keys, .update, .port, .tokens] s x1
       on_goal 1 => clear_value x1
       on_goal 2 => unfold x1)
    | (extract_lets +onlyGivenNames x1
       suffices hx : Chg [.juggler, .barker, .scribe, .keys, .update, .port, .tokens] s x1.2
       on_goal 1 => clear_value x1
       on_goal 2 => unfold x1)
    | (extract_lets +onlyGivenNames x1; clear_value x1)
    | split)

theorem State.tryClose_chg (s : State) (c : ℕ) : Chg [.juggler, .barker, .scribe, .keys, .update, .port, .tokens] s (State.tryClose s c) := by
  unfold State.tryClose
  repeat' (first
    | with_reducible exact Chg.refl _ _
    | with_reducible assumption
    | (apply Chg.step; rotate_left
       with_reducible exact State.closeCtx_chg ..
       decide)
    | (extract_lets +onlyGivenNames x1
       suffices hx : Chg [.juggler, .barker, .scribe, .keys, .update, .port, .tokens] s x1
       on_goal 1 => clear_value x1
       on_goal 2 => unfold x1)
    | (extract_lets +onlyGivenNames x1
       suffices hx : Chg [.juggler, .barker, .scribe, .keys, .update, .port, .tokens] s x1.2
       on_goal 1 => clear_value x1
       on_goal 2 => unfold x1)
    | (extract_lets +onlyGivenNames x1; clear_value x1)
    | split)

theorem State.endCtx_chg (s : State) (c : ℕ) (cause : ℕ) : Chg [.juggler, .barker, .scribe, .keys, .update, .port, .tokens] s (State.endCtx s c cause) := by
  unfold State.endCtx
  repeat' (first
    | with_reducible exact Chg.refl _ _
    | with_reducible assumption
    | (apply Chg.step; rotate_left
       (first
         | with_reducible exact State.modCtx_chg ..
         | with_reducible exact State.raise_chg ..
         | with_reducible exact State.sessionIdle_chg ..
         | with_reducible exact State.tryClose_chg ..)
       decide)
    | (extract_lets +onlyGivenNames x1
       suffices hx : Chg [.juggler, .barker, .scribe, .keys, .update, .port, .tokens] s x1
       on_goal 1 => clear_value x1
       on_goal 2 => unfold x1)
    | (extract_lets +onlyGivenNames x1
       suffices hx : Chg [.juggler, .barker, .scribe, .keys, .update, .port, .tokens] s x1.2
       on_goal 1 => clear_value x1
       on_goal 2 => unfold x1)
    | (extract_lets +onlyGivenNames x1; clear_value x1)
    | split)

theorem State.refreshReq_chg (s : State) (c : ℕ) : Chg [.barker] s (State.refreshReq s c) := by
  unfold State.refreshReq
  repeat' (first
    | with_reducible exact Chg.refl _ _
    | with_reducible assumption
    | (apply Chg.step; rotate_left
       with_reducible exact State.modCtx_chg ..
       decide)
    | (extract_lets +onlyGivenNames x1
       suffices hx : Chg [.barker] s x1
       on_goal 1 => clear_value x1
       on_goal 2 => unfold x1)
    | (extract_lets +onlyGivenNames x1
       suffices hx : Chg [.barker] s x1.2
       on_goal 1 => clear_value x1
       on_goal 2 => unfold x1)
    | (extract_lets +onlyGivenNames x1; clear_value x1)
    | split)

theorem State.pauseCtx_chg (s : State) (c : ℕ) : Chg [.juggler, .barker, .scribe, .keys, .update, .port, .tokens] s (State.pauseCtx s c) := by
  unfold State.pauseCtx
  repeat' (first
    | with_reducible exact Chg.refl _ _
    | with_reducible assumption
    | (apply Chg.step; rotate_left
       (first
         | with_reducible exact State.endCtx_chg ..
         | with_reducible exact State.modCtx_chg ..
         | with_reducible exact State.raise_chg ..
         | with_reducible exact State.refreshReq_chg ..)
       decide)
    | (extract_lets +onlyGivenNames x1
       suffices hx : Chg [.juggler, .barker, .scribe, .keys, .update, .port, .tokens] s x1
       on_goal 1 => clear_value x1
       on_goal 2 => unfold x1)
    | (extract_lets +onlyGivenNames x1
       suffices hx : Chg [.juggler, .barker, .scribe, .keys, .update, .port, .tokens] s x1.2
       on_goal 1 => clear_value x1
       on_goal 2 => unfold x1)
    | (extract_lets +onlyGivenNames x1; clear_value x1)
    | split)

theorem State.pauseScan_chg (s : State) : Chg [.juggler, .barker, .scribe, .keys, .update, .port, .tokens] s (State.pauseScan s) := by
  unfold State.pauseScan
  repeat' (first
    | with_reducible exact Chg.refl _ _
    | with_reducible assumption
    | (apply Chg.step; rotate_left
       with_reducible exact State.pauseCtx_chg ..
       decide)
    | split
    | (with_reducible apply Chg.foldl; rotate_left; intro s _))

theorem State.modReg_chg (s : State) (n : ℕ) (f : Reg → Reg) : Chg [.supply] s (State.modReg s n f) := by
  unfold State.modReg
  repeat' (first
    | with_reducible exact Chg.refl _ _
    | with_reducible assumption
    | (extract_lets +onlyGivenNames x1
       suffices hx : Chg [.supply] s x1
       on_goal 1 => clear_value x1
       on_goal 2 => unfold x1)
    | (extract_lets +onlyGivenNames x1
       suffices hx : Chg [.supply] s x1.2
       on_goal 1 => clear_value x1
       on_goal 2 => unfold x1)
    | (extract_lets +onlyGivenNames x1; clear_value x1)
    | split
    | fail_if_no_progress (with_reducible refine Chg.step ?_ (Chg.setSupply _ _) (by decide)))

theorem State.retargetReg_chg (s : State) (n : ℕ) : Chg [.supply] s (State.retargetReg s n) := by
  unfold State.retargetReg
  repeat' (first
    | with_reducible exact Chg.refl _ _
    | with_reducible assumption
    | (apply Chg.step; rotate_left
       with_reducible exact State.modReg_chg ..
       decide)
    | split)

theorem State.regTargets_chg (s : State) : Chg [.supply] s (State.regTargets s) := by
  unfold State.regTargets
  repeat' (first
    | with_reducible exact Chg.refl _ _
    | with_reducible assumption
    | (apply Chg.step; rotate_left
       with_reducible exact State.retargetReg_chg ..
       decide)
    | (extract_lets +onlyGivenNames x1; clear_value x1)
    | split
    | (with_reducible apply Chg.foldl; rotate_left; intro s _))

theorem State.noteCommit_chg (s : State) (dom : ℕ) (seq : ℕ) (err : List W32) : Chg [.pair] s (State.noteCommit s dom seq err) := by
  unfold State.noteCommit
  repeat' (first
    | with_reducible exact Chg.refl _ _
    | with_reducible assumption
    | (extract_lets +onlyGivenNames x1
       suffices hx : Chg [.pair] s x1
       on_goal 1 => clear_value x1
       on_goal 2 => unfold x1)
    | (extract_lets +onlyGivenNames x1
       suffices hx : Chg [.pair] s x1.2
       on_goal 1 => clear_value x1
       on_goal 2 => unfold x1)
    | (extract_lets +onlyGivenNames x1; clear_value x1)
    | split
    | fail_if_no_progress (with_reducible refine Chg.step ?_ (Chg.setPair _ _) (by decide)))

theorem State.copyFast_chg (s : State) (first : ℕ) : Chg [.thermal] s (State.copyFast s first) := by
  unfold State.copyFast
  repeat' (first
    | with_reducible exact Chg.refl _ _
    | with_reducible assumption
    | (extract_lets +onlyGivenNames x1
       suffices hx : Chg [.thermal] s x1
       on_goal 1 => clear_value x1
       on_goal 2 => unfold x1)
    | (extract_lets +onlyGivenNames x1
       suffices hx : Chg [.thermal] s x1.2
       on_goal 1 => clear_value x1
       on_goal 2 => unfold x1)
    | (extract_lets +onlyGivenNames x1; clear_value x1)
    | split
    | fail_if_no_progress (with_reducible refine Chg.step ?_ (Chg.setThermal _ _) (by decide)))

theorem State.flowCheck_chg (s : State) (inst : ℕ) : Chg [.thermal, .port] s (State.flowCheck s inst) := by
  unfold State.flowCheck
  repeat' (first
    | with_reducible exact Chg.refl _ _
    | with_reducible assumption
    | (apply Chg.step; rotate_left
       with_reducible exact State.raise_chg ..
       decide)
    | (extract_lets +onlyGivenNames x1
       suffices hx : Chg [.thermal, .port] s x1
       on_goal 1 => clear_value x1
       on_goal 2 => unfold x1)
    | (extract_lets +onlyGivenNames x1
       suffices hx : Chg [.thermal, .port] s x1.2
       on_goal 1 => clear_value x1
       on_goal 2 => unfold x1)
    | (extract_lets +onlyGivenNames x1; clear_value x1)
    | split
    | (with_reducible apply Chg.foldl; rotate_left; intro s _)
    | fail_if_no_progress (with_reducible refine Chg.step ?_ (Chg.setThermal _ _) (by decide)))

theorem State.modFolio_chg (s : State) (k : ℕ) (f : Folio → Folio) : Chg [.thermal] s (State.modFolio s k f) := by
  unfold State.modFolio
  repeat' (first
    | with_reducible exact Chg.refl _ _
    | with_reducible assumption
    | (extract_lets +onlyGivenNames x1
       suffices hx : Chg [.thermal] s x1
       on_goal 1 => clear_value x1
       on_goal 2 => unfold x1)
    | (extract_lets +onlyGivenNames x1
       suffices hx : Chg [.thermal] s x1.2
       on_goal 1 => clear_value x1
       on_goal 2 => unfold x1)
    | (extract_lets +onlyGivenNames x1; clear_value x1)
    | split
    | fail_if_no_progress (with_reducible refine Chg.step ?_ (Chg.setThermal _ _) (by decide)))

theorem State.modNode_chg (s : State) (g : ℕ) (f : TNode → TNode) : Chg [.thermal] s (State.modNode s g f) := by
  unfold State.modNode
  repeat' (first
    | with_reducible exact Chg.refl _ _
    | with_reducible assumption
    | (apply Chg.step; rotate_left
       with_reducible exact State.modFolio_chg ..
       decide))

theorem State.limitNode_chg (s : State) (g : ℕ) (sens : List (ℕ × ℚ)) : Chg [.thermal, .port] s (State.limitNode s g sens) := by
  unfold State.limitNode
  repeat' (first
    | with_reducible exact Chg.refl _ _
    | with_reducible assumption
    | (apply Chg.step; rotate_left
       (first
         | with_reducible exact State.modNode_chg ..
         | with_reducible exact State.raise_chg ..)
       decide)
    | (extract_lets +onlyGivenNames x1
       suffices hx : Chg [.thermal, .port] s x1
       on_goal 1 => clear_value x1
       on_goal 2 => unfold x1)
    | (extract_lets +onlyGivenNames x1
       suffices hx : Chg [.thermal, .port] s x1.2
       on_goal 1 => clear_value x1
       on_goal 2 => unfold x1)
    | (extract_lets +onlyGivenNames x1; clear_value x1)
    | split)

theorem State.publishInst_chg (s : State) (inst : ℕ) : Chg [.thermal] s (State.publishInst s inst) := by
  unfold State.publishInst
  repeat' (first
    | with_reducible exact Chg.refl _ _
    | with_reducible assumption
    | (extract_lets +onlyGivenNames x1
       suffices hx : Chg [.thermal] s x1
       on_goal 1 => clear_value x1
       on_goal 2 => unfold x1)
    | (extract_lets +onlyGivenNames x1
       suffices hx : Chg [.thermal] s x1.2
       on_goal 1 => clear_value x1
       on_goal 2 => unfold x1)
    | (extract_lets +onlyGivenNames x1; clear_value x1)
    | split
    | fail_if_no_progress (with_reducible refine Chg.step ?_ (Chg.setThermal _ _) (by decide)))

theorem State.limitFolio_chg (s : State) (k : ℕ) (sens : List (ℕ × ℚ)) : Chg [.thermal, .port] s (State.limitFolio s k sens) := by
  unfold State.limitFolio
  repeat' (first
    | with_reducible exact Chg.refl _ _
    | with_reducible assumption
    | (apply Chg.step; rotate_left
       (first
         | with_reducible exact State.limitNode_chg ..
         | with_reducible exact State.publishInst_chg ..)
       decide)
    | (extract_lets +onlyGivenNames x1
       suffices hx : Chg [.thermal, .port] s x1
       on_goal 1 => clear_value x1
       on_goal 2 => unfold x1)
    | split
    | (with_reducible apply Chg.foldl; rotate_left; intro s _))

theorem State.commitFolio_chg (s : State) (fl : ThermFlight) (r : FolioResult) : Chg [.array, .thermal, .port] s (State.commitFolio s fl r) := by
  unfold State.commitFolio
  repeat' (first
    | with_reducible exact Chg.refl _ _
    | with_reducible assumption
    | (apply Chg.step; rotate_left
       (first
         | with_reducible exact State.flowCheck_chg ..
         | with_reducible exact State.limitFolio_chg ..
         | with_reducible exact State.modFolio_chg ..)
       decide)
    | (extract_lets +onlyGivenNames x1
       suffices hx : Chg [.array, .thermal, .port] s x1
       on_goal 1 => clear_value x1
       on_goal 2 => unfold x1)
    | (extract_lets +onlyGivenNames x1
       suffices hx : Chg [.array, .thermal, .port] s x1.2
       on_goal 1 => clear_value x1
       on_goal 2 => unfold x1)
    | (extract_lets +onlyGivenNames x1; clear_value x1)
    | split
    | fail_if_no_progress (with_reducible refine Chg.step ?_ (Chg.setArray _ _) (by decide)))

theorem State.publishOutlets_chg (s : State) : Chg [.thermal] s (State.publishOutlets s) := by
  unfold State.publishOutlets
  repeat' (first
    | with_reducible exact Chg.refl _ _
    | with_reducible assumption
    | (extract_lets +onlyGivenNames x1
       suffices hx : Chg [.thermal] s x1
       on_goal 1 => clear_value x1
       on_goal 2 => unfold x1)
    | (extract_lets +onlyGivenNames x1
       suffices hx : Chg [.thermal] s x1.2
       on_goal 1 => clear_value x1
       on_goal 2 => unfold x1)
    | (extract_lets +onlyGivenNames x1; clear_value x1)
    | split
    | fail_if_no_progress (with_reducible refine Chg.step ?_ (Chg.setThermal _ _) (by decide)))

theorem State.commitCooling_chg (s : State) (res : List (ℕ × CoolLoop)) : Chg [.thermal] s (State.commitCooling s res) := by
  unfold State.commitCooling
  repeat' (first
    | with_reducible exact Chg.refl _ _
    | with_reducible assumption
    | (extract_lets +onlyGivenNames x1
       suffices hx : Chg [.thermal] s x1
       on_goal 1 => clear_value x1
       on_goal 2 => unfold x1)
    | (extract_lets +onlyGivenNames x1
       suffices hx : Chg [.thermal] s x1.2
       on_goal 1 => clear_value x1
       on_goal 2 => unfold x1)
    | (extract_lets +onlyGivenNames x1; clear_value x1)
    | split
    | fail_if_no_progress (with_reducible refine Chg.step ?_ (Chg.setThermal _ _) (by decide)))

theorem State.takeFlight_chg (s : State) (dom : ℕ) (seq : ℕ) : Chg [.thermal] s (State.takeFlight s dom seq).2 := by
  unfold State.takeFlight
  repeat' (first
    | with_reducible exact Chg.refl _ _
    | with_reducible assumption
    | (extract_lets +onlyGivenNames x1
       suffices hx : Chg [.thermal] s x1
       on_goal 1 => clear_value x1
       on_goal 2 => unfold x1)
    | (extract_lets +onlyGivenNames x1
       suffices hx : Chg [.thermal] s x1.2
       on_goal 1 => clear_value x1
       on_goal 2 => unfold x1)
    | (extract_lets +onlyGivenNames x1; clear_value x1)
    | split
    | fail_if_no_progress (with_reducible refine Chg.step ?_ (Chg.setThermal _ _) (by decide)))

theorem State.commitThermal_chg (s : State) (k : TaskKind) (dom : ℕ) (seq : ℕ) : Chg [.array, .thermal, .port] s (State.commitThermal s k dom seq) := by
  have ht := State.takeFlight_chg s dom seq
  have hf (l : List FolioResult) (fl : ThermFlight) (z : State) (hz : Chg [.array, .thermal, .port] s z) :
      Chg [.array, .thermal, .port] s (l.foldl (fun s r => s.commitFolio fl r) z) :=
    Chg.foldl _ _ hz fun s x => State.commitFolio_chg ..
  unfold State.commitThermal
  split
  · rename_i h; rw [h] at ht; exact Chg.step (Chg.refl _ _) ht (by decide)
  · rename_i h; rw [h] at ht
    have hz := Chg.step (Chg.refl [.array, .thermal, .port] _) ht (by decide)
    split
    · exact Chg.step hz (State.commitCooling_chg ..) (by decide)
    · extract_lets x1 more
      have hx : Chg [.array, .thermal, .port] s x1 := Chg.step (hf _ _ _ hz) (State.copyFast_chg ..) (by decide)
      split
      · exact hx
      · exact Chg.step hx (State.publishOutlets_chg ..) (by decide)
    · exact hf _ _ _ hz

theorem State.logAlloc_chg (s : State) (pencil : Bool) (a : Option Alloc) : Chg [.juggler] s (State.logAlloc s pencil a) := by
  unfold State.logAlloc
  repeat' (first
    | with_reducible exact Chg.refl _ _
    | with_reducible assumption
    | (apply Chg.step; rotate_left
       with_reducible exact State.modJug_chg ..
       decide)
    | split)

theorem State.commitPencil_chg (s : State) : Chg [.juggler] s (State.commitPencil s) := by
  unfold State.commitPencil
  repeat' (first
    | with_reducible exact Chg.refl _ _
    | with_reducible assumption
    | (apply Chg.step; rotate_left
       (first
         | with_reducible exact State.logAlloc_chg ..
         | with_reducible exact State.modJug_chg ..)
       decide)
    | split)

theorem State.selfTest_chg (s : State) (n : ℕ) (pass : Bool) : Chg [.pair] s (State.selfTest s n pass) := by
  unfold State.selfTest
  repeat' (first
    | with_reducible exact Chg.refl _ _
    | with_reducible assumption
    | (extract_lets +onlyGivenNames x1
       suffices hx : Chg [.pair] s x1
       on_goal 1 => clear_value x1
       on_goal 2 => unfold x1)
    | (extract_lets +onlyGivenNames x1
       suffices hx : Chg [.pair] s x1.2
       on_goal 1 => clear_value x1
       on_goal 2 => unfold x1)
    | (extract_lets +onlyGivenNames x1; clear_value x1)
    | split
    | fail_if_no_progress (with_reducible refine Chg.step ?_ (Chg.setPair _ _) (by decide)))

theorem State.commitTask_chg (s : State) (k : Task) : Chg [.array, .juggler, .thermal, .barker, .scribe, .keys, .update, .pair, .port, .tokens, .drives, .supply] s (State.commitTask s k) := by
  unfold State.commitTask
  repeat' (first
    | with_reducible exact Chg.refl _ _
    | with_reducible assumption
    | (apply Chg.step; rotate_left
       (first
         | with_reducible exact State.commitPencil_chg ..
         | with_reducible exact State.commitThermal_chg ..
         | with_reducible exact State.modArr_chg ..
         | with_reducible exact State.noteCommit_chg ..
         | with_reducible exact State.pauseScan_chg ..
         | with_reducible exact State.pumpSpeeds_chg ..
         | with_reducible exact State.regTargets_chg ..
         | with_reducible exact State.selfTest_chg ..
         | with_reducible exact State.writeResult_chg ..)
       decide)
    | (extract_lets +onlyGivenNames x1
       suffices hx : Chg [.array, .juggler, .thermal, .barker, .scribe, .keys, .update, .pair, .port, .tokens, .drives, .supply] s x1
       on_goal 1 => clear_value x1
       on_goal 2 => unfold x1)
    | split)

theorem State.commitTasks_chg (a0 : ℕ) (a1 : State) : Chg [.array, .juggler, .thermal, .barker, .scribe, .keys, .update, .pair, .port, .tokens, .drives, .supply] a1 (State.commitTasks a0 a1) := by
  induction a0 generalizing a1 with
  | zero => exact Chg.refl _ _
  | succ n ih =>
    unfold State.commitTasks
    split
    · exact Chg.step (Chg.step (Chg.refl _ _) (State.commitTask_chg ..) (by decide)) (ih _) (by decide)
    · exact Chg.refl _ _

theorem State.settleJob_chg (s : State) (j : P0Job) : Chg [.array] s (State.settleJob s j) := by
  unfold State.settleJob
  repeat' (first
    | with_reducible exact Chg.refl _ _
    | with_reducible assumption
    | (apply Chg.step; rotate_left
       with_reducible exact State.modArr_chg ..
       decide))

theorem State.modLeg_chg (s : State) (n : ℕ) (f : Leg → Leg) : Chg [.legs] s (State.modLeg s n f) := by
  unfold State.modLeg
  repeat' (first
    | with_reducible exact Chg.refl _ _
    | with_reducible assumption
    | (extract_lets +onlyGivenNames x1
       suffices hx : Chg [.legs] s x1
       on_goal 1 => clear_value x1
       on_goal 2 => unfold x1)
    | (extract_lets +onlyGivenNames x1
       suffices hx : Chg [.legs] s x1.2
       on_goal 1 => clear_value x1
       on_goal 2 => unfold x1)
    | (extract_lets +onlyGivenNames x1; clear_value x1)
    | split
    | fail_if_no_progress (with_reducible refine Chg.step ?_ (Chg.setLegs _ _) (by decide)))

theorem State.writeWords_chg (s : State) (words : List (ℕ × LegWord)) : Chg [.legs] s (State.writeWords s words) := by
  unfold State.writeWords
  repeat' (first
    | with_reducible exact Chg.refl _ _
    | with_reducible assumption
    | (apply Chg.step; rotate_left
       with_reducible exact State.modLeg_chg ..
       decide)
    | (extract_lets +onlyGivenNames x1
       suffices hx : Chg [.legs] s x1
       on_goal 1 => clear_value x1
       on_goal 2 => unfold x1)
    | (extract_lets +onlyGivenNames x1
       suffices hx : Chg [.legs] s x1.2
       on_goal 1 => clear_value x1
       on_goal 2 => unfold x1)
    | (extract_lets +onlyGivenNames x1; clear_value x1)
    | split
    | (with_reducible apply Chg.foldl; rotate_left; intro s _))

theorem State.modLaw_chg (s : State) (l : ℕ) (f : Law → Law) : Chg [.laws] s (State.modLaw s l f) := by
  unfold State.modLaw
  repeat' (first
    | with_reducible exact Chg.refl _ _
    | with_reducible assumption
    | (extract_lets +onlyGivenNames x1
       suffices hx : Chg [.laws] s x1
       on_goal 1 => clear_value x1
       on_goal 2 => unfold x1)
    | (extract_lets +onlyGivenNames x1
       suffices hx : Chg [.laws] s x1.2
       on_goal 1 => clear_value x1
       on_goal 2 => unfold x1)
    | (extract_lets +onlyGivenNames x1; clear_value x1)
    | split
    | fail_if_no_progress (with_reducible refine Chg.step ?_ (Chg.setLaws _ _) (by decide)))

theorem State.modGroup_chg (s : State) (g : ℕ) (f : LegGroup → LegGroup) : Chg [.legs] s (State.modGroup s g f) := by
  unfold State.modGroup
  repeat' (first
    | with_reducible exact Chg.refl _ _
    | with_reducible assumption
    | (extract_lets +onlyGivenNames x1
       suffices hx : Chg [.legs] s x1
       on_goal 1 => clear_value x1
       on_goal 2 => unfold x1)
    | (extract_lets +onlyGivenNames x1
       suffices hx : Chg [.legs] s x1.2
       on_goal 1 => clear_value x1
       on_goal 2 => unfold x1)
    | (extract_lets +onlyGivenNames x1; clear_value x1)
    | split
    | fail_if_no_progress (with_reducible refine Chg.step ?_ (Chg.setLegs _ _) (by decide)))

theorem State.decideCoast_chg (s : State) (g : ℕ) : Chg [.legs] s (State.decideCoast s g) := by
  unfold State.decideCoast
  repeat' (first
    | with_reducible exact Chg.refl _ _
    | with_reducible assumption
    | (apply Chg.step; rotate_left
       with_reducible exact State.modGroup_chg ..
       decide))

theorem State.stopLaw_chg (s : State) (l : ℕ) (c : LawCause) : Chg [.legs, .laws, .port] s (State.stopLaw s l c) := by
  unfold State.stopLaw
  repeat' (first
    | with_reducible exact Chg.refl _ _
    | with_reducible assumption
    | (apply Chg.step; rotate_left
       (first
         | with_reducible exact State.decideCoast_chg ..
         | with_reducible exact State.modLaw_chg ..
         | with_reducible exact State.raise_chg ..)
       decide)
    | (extract_lets +onlyGivenNames x1
       suffices hx : Chg [.legs, .laws, .port] s x1
       on_goal 1 => clear_value x1
       on_goal 2 => unfold x1)
    | (extract_lets +onlyGivenNames x1
       suffices hx : Chg [.legs, .laws, .port] s x1.2
       on_goal 1 => clear_value x1
       on_goal 2 => unfold x1)
    | (extract_lets +onlyGivenNames x1; clear_value x1)
    | split)

theorem State.coastLaw_chg (s : State) (l : ℕ) (c : LawCause) : Chg [.legs, .laws, .port] s (State.coastLaw s l c) := by
  unfold State.coastLaw
  repeat' (first
    | with_reducible exact Chg.refl _ _
    | with_reducible assumption
    | (apply Chg.step; rotate_left
       (first
         | with_reducible exact State.decideCoast_chg ..
         | with_reducible exact State.modLaw_chg ..
         | with_reducible exact State.raise_chg ..)
       decide)
    | (extract_lets +onlyGivenNames x1
       suffices hx : Chg [.legs, .laws, .port] s x1
       on_goal 1 => clear_value x1
       on_goal 2 => unfold x1)
    | (extract_lets +onlyGivenNames x1
       suffices hx : Chg [.legs, .laws, .port] s x1.2
       on_goal 1 => clear_value x1
       on_goal 2 => unfold x1)
    | (extract_lets +onlyGivenNames x1; clear_value x1)
    | split)

theorem State.supervise_chg (s : State) (l : ℕ) : Chg [.legs, .laws, .port] s (State.supervise s l) := by
  unfold State.supervise
  repeat' (first
    | with_reducible exact Chg.refl _ _
    | with_reducible assumption
    | (apply Chg.step; rotate_left
       (first
         | with_reducible exact State.coastLaw_chg ..
         | with_reducible exact State.modLaw_chg ..
         | with_reducible exact State.raise_chg ..
         | with_reducible exact State.stopLaw_chg ..)
       decide)
    | (extract_lets +onlyGivenNames x1
       suffices hx : Chg [.legs, .laws, .port] s x1
       on_goal 1 => clear_value x1
       on_goal 2 => unfold x1)
    | (extract_lets +onlyGivenNames x1
       suffices hx : Chg [.legs, .laws, .port] s x1.2
       on_goal 1 => clear_value x1
       on_goal 2 => unfold x1)
    | (extract_lets +onlyGivenNames x1; clear_value x1)
    | split)

theorem State.commitLaw_chg (s : State) (l : ℕ) (seq : ℕ) (deadline : ℕ) (err : List W32) : Chg [.legs, .laws, .port] s (State.commitLaw s l seq deadline err) := by
  unfold State.commitLaw
  repeat' (first
    | with_reducible exact Chg.refl _ _
    | with_reducible assumption
    | (apply Chg.step; rotate_left
       (first
         | with_reducible exact State.modLaw_chg ..
         | with_reducible exact State.supervise_chg ..
         | with_reducible exact State.writeWords_chg ..)
       decide)
    | (extract_lets +onlyGivenNames x1
       suffices hx : Chg [.legs, .laws, .port] s x1
       on_goal 1 => clear_value x1
       on_goal 2 => unfold x1)
    | (extract_lets +onlyGivenNames x1
       suffices hx : Chg [.legs, .laws, .port] s x1.2
       on_goal 1 => clear_value x1
       on_goal 2 => unfold x1)
    | (extract_lets +onlyGivenNames x1; clear_value x1)
    | split
    | fail_if_no_progress (with_reducible refine Chg.step ?_ (Chg.setLaws _ _) (by decide)))

theorem State.checkVoltage_chg (s : State) (c : ℕ) : Chg [.barker] s (State.checkVoltage s c) := by
  unfold State.checkVoltage
  repeat' (first
    | with_reducible exact Chg.refl _ _
    | with_reducible assumption
    | (apply Chg.step; rotate_left
       with_reducible exact State.modCtx_chg ..
       decide)
    | (extract_lets +onlyGivenNames x1
       suffices hx : Chg [.barker] s x1
       on_goal 1 => clear_value x1
       on_goal 2 => unfold x1)
    | (extract_lets +onlyGivenNames x1
       suffices hx : Chg [.barker] s x1.2
       on_goal 1 => clear_value x1
       on_goal 2 => unfold x1)
    | (extract_lets +onlyGivenNames x1; clear_value x1)
    | split)

theorem State.checkVoltages_chg (s : State) : Chg [.barker] s (State.checkVoltages s) := by
  unfold State.checkVoltages
  repeat' (first
    | with_reducible exact Chg.refl _ _
    | with_reducible assumption
    | (apply Chg.step; rotate_left
       with_reducible exact State.checkVoltage_chg ..
       decide)
    | split
    | (with_reducible apply Chg.foldl; rotate_left; intro s _))

theorem State.commitJobs_chg (law : ℕ) (a1 : ℕ) (a2 : State) : Chg [.array, .legs, .laws, .barker, .pair, .port] a2 (State.commitJobs law a1 a2) := by
  induction a1 generalizing a2 with
  | zero => exact Chg.refl _ _
  | succ n ih =>
    unfold State.commitJobs
    split
    · refine Chg.step ?_ (ih _) (by decide)
      refine Chg.step (Chg.step ?_ (State.commitLaw_chg ..) (by decide)) (State.checkVoltages_chg ..) (by decide)
      exact Chg.step (Chg.step (Chg.step (Chg.refl _ _) (State.settleJob_chg ..) (by decide)) (State.writeResult_chg ..) (by decide))
        (State.noteCommit_chg ..) (by decide)
    · exact Chg.refl _ _

theorem State.retireAll_chg (s : State) : Chg [.array, .legs, .laws, .juggler, .thermal, .barker, .scribe, .keys, .update, .pair, .port, .tokens, .drives, .supply] s (State.retireAll s) := by
  unfold State.retireAll
  repeat' (first
    | with_reducible exact Chg.refl _ _
    | with_reducible assumption
    | (apply Chg.step; rotate_left
       (first
         | with_reducible exact State.commitJobs_chg ..
         | with_reducible exact State.commitTasks_chg ..)
       decide)
    | (extract_lets +onlyGivenNames x1; clear_value x1)
    | split
    | (with_reducible apply Chg.foldl; rotate_left; intro s _))

theorem State.journal_chg (s : State) (i : JInput) : Chg [.pair] s (State.journal s i) := by
  unfold State.journal
  repeat' (first
    | with_reducible exact Chg.refl _ _
    | with_reducible assumption
    | (extract_lets +onlyGivenNames x1
       suffices hx : Chg [.pair] s x1
       on_goal 1 => clear_value x1
       on_goal 2 => unfold x1)
    | (extract_lets +onlyGivenNames x1
       suffices hx : Chg [.pair] s x1.2
       on_goal 1 => clear_value x1
       on_goal 2 => unfold x1)
    | (extract_lets +onlyGivenNames x1; clear_value x1)
    | split
    | fail_if_no_progress (with_reducible refine Chg.step ?_ (Chg.setPair _ _) (by decide)))

theorem State.submit_chg {L : List Part} {s : State} {i : JInput} {f : State → State}
    (h : ∀ z, Chg L z (f z)) (hp : [Part.pair].all (fun p => L.contains p) = true) : Chg L s (s.submit i f) := by
  have hj : Chg L s (s.journal i) := Chg.step (Chg.refl _ _) (State.journal_chg ..) hp
  unfold State.submit
  split
  · exact hj
  · exact hj
  · exact Chg.ite (Chg.refl _ _) (Chg.step (Chg.refl _ _) (Chg.setPair _ _) hp)
  · exact Chg.ite (Chg.refl _ _) (Chg.step (Chg.refl _ _) (Chg.setPair _ _) hp)
  all_goals exact h s

theorem State.overrunLaw_chg (s : State) (l : ℕ) (seq : ℕ) : Chg [.legs, .laws, .pair, .port] s (State.overrunLaw s l seq) := by
  unfold State.overrunLaw
  repeat' (first
    | with_reducible exact Chg.refl _ _
    | with_reducible assumption
    | (apply Chg.step; rotate_left
       (first
         | with_reducible exact State.coastLaw_chg ..
         | with_reducible exact State.modLaw_chg ..
         | with_reducible exact State.stopLaw_chg ..)
       decide)
    | refine Chg.step (M := [.legs, .laws, .pair, .port]) ?_ (State.submit_chg (fun s => ?_) (by decide)) (by decide)
    | (extract_lets +onlyGivenNames x1
       suffices hx : Chg [.legs, .laws, .pair, .port] s x1
       on_goal 1 => clear_value x1
       on_goal 2 => unfold x1)
    | (extract_lets +onlyGivenNames x1
       suffices hx : Chg [.legs, .laws, .pair, .port] s x1.2
       on_goal 1 => clear_value x1
       on_goal 2 => unfold x1)
    | (extract_lets +onlyGivenNames x1; clear_value x1)
    | split
    | fail_if_no_progress (with_reducible refine Chg.step ?_ (Chg.setLaws _ _) (by decide)))

theorem State.missJob_chg (s : State) (j : P0Job) : Chg [.array, .legs, .laws, .pair, .port] s (State.missJob s j) := by
  unfold State.missJob
  repeat' (first
    | with_reducible exact Chg.refl _ _
    | with_reducible assumption
    | (apply Chg.step; rotate_left
       (first
         | with_reducible exact State.modArr_chg ..
         | with_reducible exact State.overrunLaw_chg ..)
       decide))

theorem State.poisonEvents_chg (s : State) (gs : List ℕ) (cause : ℤ) : Chg [.thermal, .port] s (State.poisonEvents s gs cause) := by
  unfold State.poisonEvents
  repeat' (first
    | with_reducible exact Chg.refl _ _
    | with_reducible assumption
    | (apply Chg.step; rotate_left
       (first
         | with_reducible exact State.limitFolio_chg ..
         | with_reducible exact State.raise_chg ..)
       decide)
    | (extract_lets +onlyGivenNames x1
       suffices hx : Chg [.thermal, .port] s x1
       on_goal 1 => clear_value x1
       on_goal 2 => unfold x1)
    | split
    | (with_reducible apply Chg.foldl; rotate_left; intro s _))

theorem State.missThermal_chg (s : State) (k : TaskKind) (dom : ℕ) (seq : ℕ) : Chg [.thermal, .port] s (State.missThermal s k dom seq) := by
  have ht := State.takeFlight_chg s dom seq
  unfold State.missThermal
  split
  · rename_i h; rw [h] at ht; exact Chg.step (Chg.refl _ _) ht (by decide)
  · rename_i h; rw [h] at ht
    have hz := Chg.step (Chg.refl [.thermal, .port] _) ht (by decide)
    extract_lets _ x1
    have h1 : Chg [.thermal, .port] s x1 := by
      unfold x1
      split
      · refine Chg.step hz (M := [.thermal]) ⟨fun p hp => ?_⟩ (by decide)
        cases p <;> first | (exact absurd hp (by decide)) | (simp only [State.same]; done)
      · refine Chg.step hz (M := [.thermal]) ⟨fun p hp => ?_⟩ (by decide)
        cases p <;> first | (exact absurd hp (by decide)) | (simp only [State.same]; done)
      · exact hz
    clear_value x1
    refine Chg.foldl _ _ h1 fun s x => ?_
    extract_lets x2
    have h2 : Chg [.thermal, .port] s x2 := Chg.step (Chg.refl _ _) (State.modFolio_chg ..) (by decide)
    clear_value x2
    split
    · exact Chg.ite (Chg.step h2 (State.poisonEvents_chg ..) (by decide)) h2
    · exact h2

theorem State.missTask_chg (s : State) (k : Task) : Chg [.array, .thermal, .port] s (State.missTask s k) := by
  unfold State.missTask
  repeat' (first
    | with_reducible exact Chg.refl _ _
    | with_reducible assumption
    | (apply Chg.step; rotate_left
       (first
         | with_reducible exact State.missThermal_chg ..
         | with_reducible exact State.modArr_chg ..)
       decide)
    | (extract_lets +onlyGivenNames x1
       suffices hx : Chg [.array, .thermal, .port] s x1
       on_goal 1 => clear_value x1
       on_goal 2 => unfold x1)
    | split)

theorem State.dropTask_chg (s : State) (k : Task) : Chg [.array, .legs, .laws, .juggler, .thermal, .barker, .scribe, .keys, .update, .pair, .port, .tokens, .drives, .supply] s (State.dropTask s k) := by
  unfold State.dropTask
  repeat' (first
    | with_reducible exact Chg.refl _ _
    | with_reducible assumption
    | (apply Chg.step; rotate_left
       (first
         | with_reducible exact State.missJob_chg ..
         | with_reducible exact State.missTask_chg ..
         | with_reducible exact State.retireAll_chg ..)
       decide)
    | (extract_lets +onlyGivenNames x1; clear_value x1)
    | split)

theorem State.nextFree_chg (s : State) : Chg [.free] s (State.nextFree s) := by
  unfold State.nextFree
  repeat' (first
    | with_reducible exact Chg.refl _ _
    | with_reducible assumption
    | split
    | fail_if_no_progress (with_reducible refine Chg.step ?_ (Chg.setFree _ _) (by decide)))

theorem State.modNib_chg (s : State) (n : NibNo) (f : Nib → Nib) : Chg [.array] s (State.modNib s n f) := by
  unfold State.modNib
  repeat' (first
    | with_reducible exact Chg.refl _ _
    | with_reducible assumption
    | (apply Chg.step; rotate_left
       with_reducible exact State.modArr_chg ..
       decide))

theorem State.stopRun_chg (s : State) (n : NibNo) (act : NibAct) : Chg [.free, .array] s (State.stopRun s n act) := by
  unfold State.stopRun
  repeat' (first
    | with_reducible exact Chg.refl _ _
    | with_reducible assumption
    | (apply Chg.step; rotate_left
       (first
         | with_reducible exact State.modArr_chg ..
         | with_reducible exact State.modNib_chg ..
         | with_reducible exact State.nextFree_chg ..)
       decide)
    | split)

theorem State.release_chg (s : State) (n : NibNo) : Chg [.free, .array] s (State.release s n) := by
  unfold State.release
  repeat' (first
    | with_reducible exact Chg.refl _ _
    | with_reducible assumption
    | (apply Chg.step; rotate_left
       (first
         | with_reducible exact State.modNib_chg ..
         | with_reducible exact State.stopRun_chg ..)
       decide)
    | (extract_lets +onlyGivenNames x1
       suffices hx : Chg [.free, .array] s x1
       on_goal 1 => clear_value x1
       on_goal 2 => unfold x1)
    | (extract_lets +onlyGivenNames x1
       suffices hx : Chg [.free, .array] s x1.2
       on_goal 1 => clear_value x1
       on_goal 2 => unfold x1)
    | (extract_lets +onlyGivenNames x1; clear_value x1)
    | split)

theorem State.poisonWord_chg (s : State) (addr : ℕ) (byScrubber : Bool) : Chg [.array, .port] s (State.poisonWord s addr byScrubber) := by
  unfold State.poisonWord
  repeat' (first
    | with_reducible exact Chg.refl _ _
    | with_reducible assumption
    | (apply Chg.step; rotate_left
       (first
         | with_reducible exact State.modArr_chg ..
         | with_reducible exact State.raise_chg ..)
       decide))

theorem State.abandonTask_chg (s : State) (n : NibNo) (k : Task) (addr : ℕ) : Chg [.free, .array, .legs, .laws, .juggler, .thermal, .barker, .scribe, .keys, .update, .pair, .port, .tokens, .drives, .supply] s (State.abandonTask s n k addr) := by
  unfold State.abandonTask
  repeat' (first
    | with_reducible exact Chg.refl _ _
    | with_reducible assumption
    | (apply Chg.step; rotate_left
       (first
         | with_reducible exact State.copyLost_chg ..
         | with_reducible exact State.dropTask_chg ..
         | with_reducible exact State.poisonWord_chg ..
         | with_reducible exact State.release_chg ..)
       decide)
    | (extract_lets +onlyGivenNames x1
       suffices hx : Chg [.free, .array, .legs, .laws, .juggler, .thermal, .barker, .scribe, .keys, .update, .pair, .port, .tokens, .drives, .supply] s x1
       on_goal 1 => clear_value x1
       on_goal 2 => unfold x1)
    | split)

theorem State.modSafety_chg (s : State) (f : Safety → Safety) : Chg [.safety] s (State.modSafety s f) := by
  unfold State.modSafety
  repeat' (first
    | with_reducible exact Chg.refl _ _
    | with_reducible assumption
    | split
    | fail_if_no_progress (with_reducible refine Chg.step ?_ (Chg.setSafety _ _) (by decide)))

theorem State.countTamper_chg (s : State) (typ : ℕ) : Chg [.port, .tamper] s (State.countTamper s typ) := by
  unfold State.countTamper
  repeat' (first
    | with_reducible exact Chg.refl _ _
    | with_reducible assumption
    | (apply Chg.step; rotate_left
       with_reducible exact State.raiseS_chg ..
       decide)
    | (extract_lets +onlyGivenNames x1
       suffices hx : Chg [.port, .tamper] s x1
       on_goal 1 => clear_value x1
       on_goal 2 => unfold x1)
    | (extract_lets +onlyGivenNames x1
       suffices hx : Chg [.port, .tamper] s x1.2
       on_goal 1 => clear_value x1
       on_goal 2 => unfold x1)
    | (extract_lets +onlyGivenNames x1; clear_value x1)
    | split
    | fail_if_no_progress (with_reducible refine Chg.step ?_ (Chg.setTamper _ _) (by decide)))

theorem State.logChange_chg (s : State) (kind : ℕ) (role : ℕ) (subject : ℕ) (crc : W32) (hash : ℕ) : Chg [.port, .tamper, .safety] s (State.logChange s kind role subject crc hash) := by
  unfold State.logChange
  repeat' (first
    | with_reducible exact Chg.refl _ _
    | with_reducible assumption
    | (apply Chg.step; rotate_left
       (first
         | with_reducible exact State.countTamper_chg ..
         | with_reducible exact State.modSafety_chg ..)
       decide))

theorem State.candidate_chg (s : State) (h : ImageHdr) (rs : List Rec) : Chg [.startup] s (State.candidate s h rs) := by
  unfold State.candidate
  repeat' (first
    | with_reducible exact Chg.refl _ _
    | with_reducible assumption
    | (extract_lets +onlyGivenNames x1
       suffices hx : Chg [.startup] s x1
       on_goal 1 => clear_value x1
       on_goal 2 => unfold x1)
    | (extract_lets +onlyGivenNames x1
       suffices hx : Chg [.startup] s x1.2
       on_goal 1 => clear_value x1
       on_goal 2 => unfold x1)
    | (extract_lets +onlyGivenNames x1; clear_value x1)
    | split
    | fail_if_no_progress (with_reducible refine Chg.step ?_ (Chg.setStartup _ _) (by decide)))

theorem State.expandThermal_chg (s : State) : Chg [.thermal] s (State.expandThermal s) := by
  unfold State.expandThermal
  repeat' (first
    | with_reducible exact Chg.refl _ _
    | with_reducible assumption
    | (extract_lets +onlyGivenNames x1
       suffices hx : Chg [.thermal] s x1
       on_goal 1 => clear_value x1
       on_goal 2 => unfold x1)
    | (extract_lets +onlyGivenNames x1
       suffices hx : Chg [.thermal] s x1.2
       on_goal 1 => clear_value x1
       on_goal 2 => unfold x1)
    | (extract_lets +onlyGivenNames x1; clear_value x1)
    | split
    | fail_if_no_progress (with_reducible refine Chg.step ?_ (Chg.setThermal _ _) (by decide)))

theorem State.idleLegs_chg (s : State) : Chg [.legs] s (State.idleLegs s) := by
  unfold State.idleLegs
  repeat' (first
    | with_reducible exact Chg.refl _ _
    | with_reducible assumption
    | (extract_lets +onlyGivenNames x1
       suffices hx : Chg [.legs] s x1
       on_goal 1 => clear_value x1
       on_goal 2 => unfold x1)
    | (extract_lets +onlyGivenNames x1
       suffices hx : Chg [.legs] s x1.2
       on_goal 1 => clear_value x1
       on_goal 2 => unfold x1)
    | (extract_lets +onlyGivenNames x1; clear_value x1)
    | split
    | fail_if_no_progress (with_reducible refine Chg.step ?_ (Chg.setLegs _ _) (by decide)))

theorem State.pinKernels_chg (s : State) : Chg [.array] s (State.pinKernels s) := by
  unfold State.pinKernels
  repeat' (first
    | with_reducible exact Chg.refl _ _
    | with_reducible assumption
    | (apply Chg.step; rotate_left
       with_reducible exact State.modArr_chg ..
       decide))

theorem State.acceptImage_chg (s : State) (h : ImageHdr) (rs : List Rec) (obs : ImageObs) : Chg [.startup, .array, .legs, .thermal, .port, .tamper, .safety, .drives] s (State.acceptImage s h rs obs) := by
  unfold State.acceptImage
  repeat' (first
    | with_reducible exact Chg.refl _ _
    | with_reducible assumption
    | (apply Chg.step; rotate_left
       (first
         | with_reducible exact State.candidate_chg ..
         | with_reducible exact State.expandThermal_chg ..
         | with_reducible exact State.idleLegs_chg ..
         | with_reducible exact State.logChange_chg ..
         | with_reducible exact State.modSafety_chg ..
         | with_reducible exact State.pinKernels_chg ..
         | with_reducible exact State.raise_chg ..)
       decide)
    | (extract_lets +onlyGivenNames x1
       suffices hx : Chg [.startup, .array, .legs, .thermal, .port, .tamper, .safety, .drives] s x1
       on_goal 1 => clear_value x1
       on_goal 2 => unfold x1)
    | (extract_lets +onlyGivenNames x1
       suffices hx : Chg [.startup, .array, .legs, .thermal, .port, .tamper, .safety, .drives] s x1.2
       on_goal 1 => clear_value x1
       on_goal 2 => unfold x1)
    | (extract_lets +onlyGivenNames x1; clear_value x1)
    | split
    | fail_if_no_progress (with_reducible refine Chg.step ?_ (Chg.setStartup _ _) (by decide))
    | fail_if_no_progress (with_reducible refine Chg.step ?_ (Chg.setArray _ _) (by decide))
    | fail_if_no_progress (with_reducible refine Chg.step ?_ (Chg.setDrives _ _) (by decide))
    | (refine ⟨fun p hp => ?_⟩; have hb := fun (x : State) (h : Chg [.startup, .array, .legs, .thermal, .port, .tamper, .safety, .drives] s x) => h.1 p hp; cases p <;> first | (exact absurd hp (by decide)) | (simp only [State.same]; done) | (simp only [State.same] at hb ⊢; exact hb _ (by assumption))))

theorem State.modFn_chg (s : State) (n : ℕ) (f : SafeFn → SafeFn) : Chg [.safety] s (State.modFn s n f) := by
  unfold State.modFn
  repeat' (first
    | with_reducible exact Chg.refl _ _
    | with_reducible assumption
    | (apply Chg.step; rotate_left
       with_reducible exact State.modSafety_chg ..
       decide))

theorem State.modIn_chg (s : State) (i : ℕ) (f : SafeIn → SafeIn) : Chg [.safety] s (State.modIn s i f) := by
  unfold State.modIn
  repeat' (first
    | with_reducible exact Chg.refl _ _
    | with_reducible assumption
    | (apply Chg.step; rotate_left
       with_reducible exact State.modSafety_chg ..
       decide))

theorem State.acknowledge_chg (s : State) (f : FnRec) : Chg [.safety] s (State.acknowledge s f) := by
  unfold State.acknowledge
  extract_lets r x1 i
  have hx : Chg [.safety] s x1 := by
    unfold x1
    split
    · refine Chg.step (Chg.foldl _ _ (Chg.refl _ _) fun s x => ?_) (State.modFn_chg ..) (by decide)
      exact State.modIn_chg ..
    · exact Chg.refl _ _
  clear_value x1
  split
  · exact Chg.step hx (State.modFn_chg ..) (by decide)
  · exact hx

theorem State.scribeCommit_chg (s : State) : Chg [.scribe, .pair] s (State.scribeCommit s) := by
  unfold State.scribeCommit
  repeat' (first
    | with_reducible exact Chg.refl _ _
    | with_reducible assumption
    | (apply Chg.step; rotate_left
       (first
         | with_reducible exact State.modScribe_chg ..
         | with_reducible exact State.selfTest_chg ..)
       decide))

theorem State.refreshSo_chg (s : State) : Chg [.safety] s (State.refreshSo s) := by
  unfold State.refreshSo
  repeat' (first
    | with_reducible exact Chg.refl _ _
    | with_reducible assumption
    | (apply Chg.step; rotate_left
       with_reducible exact State.modSafety_chg ..
       decide))

theorem State.releaseLegsOff_chg (s : State) : Chg [.legs, .port] s (State.releaseLegsOff s) := by
  unfold State.releaseLegsOff
  repeat' (first
    | with_reducible exact Chg.refl _ _
    | with_reducible assumption
    | (apply Chg.step; rotate_left
       with_reducible exact State.raise_chg ..
       decide)
    | (extract_lets +onlyGivenNames x1
       suffices hx : Chg [.legs, .port] s x1
       on_goal 1 => clear_value x1
       on_goal 2 => unfold x1)
    | (extract_lets +onlyGivenNames x1
       suffices hx : Chg [.legs, .port] s x1.2
       on_goal 1 => clear_value x1
       on_goal 2 => unfold x1)
    | (extract_lets +onlyGivenNames x1; clear_value x1)
    | split
    | fail_if_no_progress (with_reducible refine Chg.step ?_ (Chg.setLegs _ _) (by decide)))

theorem State.inhibit_chg (s : State) : Chg [.legs, .laws, .port] s (State.inhibit s) := by
  unfold State.inhibit
  repeat' (first
    | with_reducible exact Chg.refl _ _
    | with_reducible assumption
    | (apply Chg.step; rotate_left
       with_reducible exact State.coastLaw_chg ..
       decide)
    | (extract_lets +onlyGivenNames x1
       suffices hx : Chg [.legs, .laws, .port] s x1
       on_goal 1 => clear_value x1
       on_goal 2 => unfold x1)
    | (extract_lets +onlyGivenNames x1
       suffices hx : Chg [.legs, .laws, .port] s x1.2
       on_goal 1 => clear_value x1
       on_goal 2 => unfold x1)
    | (extract_lets +onlyGivenNames x1; clear_value x1)
    | split
    | (with_reducible apply Chg.foldl; rotate_left; intro s _)
    | fail_if_no_progress (with_reducible refine Chg.step ?_ (Chg.setLegs _ _) (by decide)))

theorem State.assertLegsOff_chg (s : State) : Chg [.legs, .laws, .port] s (State.assertLegsOff s) := by
  unfold State.assertLegsOff
  repeat' (first
    | with_reducible exact Chg.refl _ _
    | with_reducible assumption
    | (apply Chg.step; rotate_left
       (first
         | with_reducible exact State.inhibit_chg ..
         | with_reducible exact State.raise_chg ..)
       decide)
    | (extract_lets +onlyGivenNames x1
       suffices hx : Chg [.legs, .laws, .port] s x1
       on_goal 1 => clear_value x1
       on_goal 2 => unfold x1)
    | (extract_lets +onlyGivenNames x1
       suffices hx : Chg [.legs, .laws, .port] s x1.2
       on_goal 1 => clear_value x1
       on_goal 2 => unfold x1)
    | (extract_lets +onlyGivenNames x1; clear_value x1)
    | split
    | fail_if_no_progress (with_reducible refine Chg.step ?_ (Chg.setLegs _ _) (by decide)))

theorem State.takeLegsOff_chg (s : State) (side : Side) (on : Bool) : Chg [.legs, .laws, .port] s (State.takeLegsOff s side on) := by
  unfold State.takeLegsOff
  repeat' (first
    | with_reducible exact Chg.refl _ _
    | with_reducible assumption
    | (apply Chg.step; rotate_left
       (first
         | with_reducible exact State.assertLegsOff_chg ..
         | with_reducible exact State.releaseLegsOff_chg ..)
       decide)
    | (extract_lets +onlyGivenNames x1
       suffices hx : Chg [.legs, .laws, .port] s x1
       on_goal 1 => clear_value x1
       on_goal 2 => unfold x1)
    | (extract_lets +onlyGivenNames x1
       suffices hx : Chg [.legs, .laws, .port] s x1.2
       on_goal 1 => clear_value x1
       on_goal 2 => unfold x1)
    | (extract_lets +onlyGivenNames x1; clear_value x1)
    | split
    | fail_if_no_progress (with_reducible refine Chg.step ?_ (Chg.setLegs _ _) (by decide)))

theorem State.react_chg (s : State) : Chg [.legs, .laws, .pair, .port, .safety] s (State.react s) := by
  unfold State.react
  repeat' (first
    | with_reducible exact Chg.refl _ _
    | with_reducible assumption
    | (apply Chg.step; rotate_left
       (first
         | with_reducible exact State.modSafety_chg ..
         | with_reducible exact State.refreshSo_chg ..
         | with_reducible exact State.takeLegsOff_chg ..)
       decide)
    | refine Chg.step (M := [.legs, .laws, .pair, .port, .safety]) ?_ (State.submit_chg (fun s => ?_) (by decide)) (by decide)
    | (extract_lets +onlyGivenNames x1
       suffices hx : Chg [.legs, .laws, .pair, .port, .safety] s x1
       on_goal 1 => clear_value x1
       on_goal 2 => unfold x1)
    | (extract_lets +onlyGivenNames x1
       suffices hx : Chg [.legs, .laws, .pair, .port, .safety] s x1.2
       on_goal 1 => clear_value x1
       on_goal 2 => unfold x1)
    | (extract_lets +onlyGivenNames x1; clear_value x1)
    | split)

theorem State.logicReset_chg (s : State) : Chg [.time, .carousel, .wall, .startup, .array, .legs, .laws, .juggler, .thermal, .barker, .scribe, .update, .ptp, .pair, .port, .tokens, .tamper, .safety, .buses] s (State.logicReset s) := by
  unfold State.logicReset
  refine ⟨fun p hp => ?_⟩
  cases p <;> first | (exact absurd hp (by decide)) | (simp only [State.same]; done)

theorem State.regsOff_chg (s : State) (keep : Bool) : Chg [.supply] s (State.regsOff s keep) := by
  unfold State.regsOff
  repeat' (first
    | with_reducible exact Chg.refl _ _
    | with_reducible assumption
    | (apply Chg.step; rotate_left
       with_reducible exact State.modReg_chg ..
       decide)
    | (extract_lets +onlyGivenNames x1; clear_value x1)
    | split
    | (with_reducible apply Chg.foldl; rotate_left; intro s _))

theorem State.refreshLs_chg (s : State) : Chg [.drives] s (State.refreshLs s) := by
  unfold State.refreshLs
  repeat' (first
    | with_reducible exact Chg.refl _ _
    | with_reducible assumption
    | (extract_lets +onlyGivenNames x1
       suffices hx : Chg [.drives] s x1
       on_goal 1 => clear_value x1
       on_goal 2 => unfold x1)
    | (extract_lets +onlyGivenNames x1
       suffices hx : Chg [.drives] s x1.2
       on_goal 1 => clear_value x1
       on_goal 2 => unfold x1)
    | (extract_lets +onlyGivenNames x1; clear_value x1)
    | split
    | fail_if_no_progress (with_reducible refine Chg.step ?_ (Chg.setDrives _ _) (by decide)))

theorem State.restartDrives_chg (s : State) (keep : Bool) : Chg [.drives] s (State.restartDrives s keep) := by
  unfold State.restartDrives
  repeat' (first
    | with_reducible exact Chg.refl _ _
    | with_reducible assumption
    | (extract_lets +onlyGivenNames x1
       suffices hx : Chg [.drives] s x1
       on_goal 1 => clear_value x1
       on_goal 2 => unfold x1)
    | (extract_lets +onlyGivenNames x1
       suffices hx : Chg [.drives] s x1.2
       on_goal 1 => clear_value x1
       on_goal 2 => unfold x1)
    | (extract_lets +onlyGivenNames x1; clear_value x1)
    | split
    | fail_if_no_progress (with_reducible refine Chg.step ?_ (Chg.setDrives _ _) (by decide)))

theorem State.orphanPumps_chg (s : State) : Chg [.drives] s (State.orphanPumps s) := by
  unfold State.orphanPumps
  repeat' (first
    | with_reducible exact Chg.refl _ _
    | with_reducible assumption
    | (apply Chg.step; rotate_left
       with_reducible exact State.modPump_chg ..
       decide)
    | (extract_lets +onlyGivenNames x1; clear_value x1)
    | split
    | (with_reducible apply Chg.foldl; rotate_left; intro s _))

theorem State.holdForTrial_chg (s : State) : Chg [.time, .carousel, .wall, .startup, .array, .legs, .laws, .juggler, .thermal, .barker, .scribe, .update, .ptp, .pair, .port, .tokens, .tamper, .safety, .drives, .supply, .buses] s (State.holdForTrial s) := by
  unfold State.holdForTrial
  repeat' (first
    | with_reducible exact Chg.refl _ _
    | with_reducible assumption
    | (apply Chg.step; rotate_left
       (first
         | with_reducible exact State.logicReset_chg ..
         | with_reducible exact State.modSafety_chg ..
         | with_reducible exact State.orphanPumps_chg ..
         | with_reducible exact State.react_chg ..
         | with_reducible exact State.refreshLs_chg ..
         | with_reducible exact State.regsOff_chg ..
         | with_reducible exact State.restartDrives_chg ..)
       decide))

theorem State.activate_chg (s : State) (boundary : ℕ) : Chg [.time, .carousel, .wall, .startup, .array, .legs, .laws, .juggler, .thermal, .barker, .scribe, .keys, .update, .ptp, .pair, .port, .tokens, .tamper, .safety, .drives, .supply, .buses] s (State.activate s boundary) := by
  unfold State.activate
  extract_lets x1 x2 x3 x4 _ x5
  have h1 : Chg [.time, .carousel, .wall, .startup, .array, .legs, .laws, .juggler, .thermal, .barker, .scribe, .keys, .update, .ptp, .pair, .port, .tokens, .tamper, .safety, .drives, .supply, .buses] s x1 := Chg.step (Chg.refl _ _) (State.raise_chg ..) (by decide)
  have h2 : Chg [.time, .carousel, .wall, .startup, .array, .legs, .laws, .juggler, .thermal, .barker, .scribe, .keys, .update, .ptp, .pair, .port, .tokens, .tamper, .safety, .drives, .supply, .buses] s x2 := Chg.foldl _ _ h1 fun s x => Chg.step (Chg.refl _ _) (State.endCtx_chg ..) (by decide)
  have h3 : Chg [.time, .carousel, .wall, .startup, .array, .legs, .laws, .juggler, .thermal, .barker, .scribe, .keys, .update, .ptp, .pair, .port, .tokens, .tamper, .safety, .drives, .supply, .buses] s x3 := by
    unfold x3
    split
    · exact Chg.step h2 (State.scribeCommit_chg ..) (by decide)
    · exact h2
  have h4 : Chg [.time, .carousel, .wall, .startup, .array, .legs, .laws, .juggler, .thermal, .barker, .scribe, .keys, .update, .ptp, .pair, .port, .tokens, .tamper, .safety, .drives, .supply, .buses] s x4 := Chg.step h3 (State.modUpdate_chg ..) (by decide)
  clear_value x4
  have h5 : Chg [.startup] x4 x5 := by
    refine ⟨fun p hp => ?_⟩
    cases p <;> first | (exact absurd hp (by decide)) | (simp only [State.same, x5]; done)
  exact Chg.step (Chg.step h4 h5 (by decide)) (State.holdForTrial_chg ..) (by decide)

theorem State.nameBoundary_chg (s : State) (b : ℕ) : Chg [.update] s (State.nameBoundary s b) := by
  unfold State.nameBoundary
  repeat' (first
    | with_reducible exact Chg.refl _ _
    | with_reducible assumption
    | (apply Chg.step; rotate_left
       with_reducible exact State.modUpdate_chg ..
       decide))

theorem State.activationHalf_chg (s : State) : Chg [.time, .carousel, .wall, .startup, .array, .legs, .laws, .juggler, .thermal, .barker, .scribe, .keys, .update, .ptp, .pair, .port, .tokens, .tamper, .safety, .drives, .supply, .buses] s (State.activationHalf s) := by
  unfold State.activationHalf
  repeat' (first
    | with_reducible exact Chg.refl _ _
    | with_reducible assumption
    | (apply Chg.step; rotate_left
       (first
         | with_reducible exact State.activate_chg ..
         | with_reducible exact State.modUpdate_chg ..
         | with_reducible exact State.nameBoundary_chg ..)
       decide)
    | refine Chg.step (M := [.time, .carousel, .wall, .startup, .array, .legs, .laws, .juggler, .thermal, .barker, .scribe, .keys, .update, .ptp, .pair, .port, .tokens, .tamper, .safety, .drives, .supply, .buses]) ?_ (State.submit_chg (fun s => ?_) (by decide)) (by decide)
    | (extract_lets +onlyGivenNames x1
       suffices hx : Chg [.time, .carousel, .wall, .startup, .array, .legs, .laws, .juggler, .thermal, .barker, .scribe, .keys, .update, .ptp, .pair, .port, .tokens, .tamper, .safety, .drives, .supply, .buses] s x1
       on_goal 1 => clear_value x1
       on_goal 2 => unfold x1)
    | (extract_lets +onlyGivenNames x1
       suffices hx : Chg [.time, .carousel, .wall, .startup, .array, .legs, .laws, .juggler, .thermal, .barker, .scribe, .keys, .update, .ptp, .pair, .port, .tokens, .tamper, .safety, .drives, .supply, .buses] s x1.2
       on_goal 1 => clear_value x1
       on_goal 2 => unfold x1)
    | (extract_lets +onlyGivenNames x1; clear_value x1)
    | split)

theorem State.addCredit_chg (s : State) (o : ℕ) (n : ℕ) : Chg [.scribe, .tokens] s (State.addCredit s o n) := by
  unfold State.addCredit
  repeat' (first
    | with_reducible exact Chg.refl _ _
    | with_reducible assumption
    | (apply Chg.step; rotate_left
       (first
         | with_reducible exact State.modTok_chg ..
         | with_reducible exact State.setCredit_chg ..)
       decide)
    | split)

theorem State.addShorts_chg (s : State) (l : List Shortfall) : Chg [.scribe] s (State.addShorts s l) := by
  unfold State.addShorts
  repeat' (first
    | with_reducible exact Chg.refl _ _
    | with_reducible assumption
    | (apply Chg.step; rotate_left
       with_reducible exact State.modSessions_chg ..
       decide)
    | split
    | (with_reducible apply Chg.foldl; rotate_left; intro s _))

theorem State.adoptDomains_chg (s : State) (x : Transfer) : Chg [.array, .legs, .laws, .juggler, .thermal, .barker, .scribe, .pair, .tokens, .tamper] s (State.adoptDomains s x) := by
  unfold State.adoptDomains
  repeat' (first
    | with_reducible exact Chg.refl _ _
    | with_reducible assumption
    | (apply Chg.step; rotate_left
       with_reducible exact State.scribeCommit_chg ..
       decide)
    | (extract_lets +onlyGivenNames x1
       suffices hx : Chg [.array, .legs, .laws, .juggler, .thermal, .barker, .scribe, .pair, .tokens, .tamper] s x1
       on_goal 1 => clear_value x1
       on_goal 2 => unfold x1)
    | (extract_lets +onlyGivenNames x1
       suffices hx : Chg [.array, .legs, .laws, .juggler, .thermal, .barker, .scribe, .pair, .tokens, .tamper] s x1.2
       on_goal 1 => clear_value x1
       on_goal 2 => unfold x1)
    | (extract_lets +onlyGivenNames x1; clear_value x1)
    | split
    | fail_if_no_progress (with_reducible refine Chg.step ?_ (Chg.setArray _ _) (by decide))
    | fail_if_no_progress (with_reducible refine Chg.step ?_ (Chg.setLegs _ _) (by decide))
    | fail_if_no_progress (with_reducible refine Chg.step ?_ (Chg.setLaws _ _) (by decide))
    | fail_if_no_progress (with_reducible refine Chg.step ?_ (Chg.setJuggler _ _) (by decide))
    | fail_if_no_progress (with_reducible refine Chg.step ?_ (Chg.setThermal _ _) (by decide))
    | fail_if_no_progress (with_reducible refine Chg.step ?_ (Chg.setBarker _ _) (by decide))
    | fail_if_no_progress (with_reducible refine Chg.step ?_ (Chg.setScribe _ _) (by decide))
    | fail_if_no_progress (with_reducible refine Chg.step ?_ (Chg.setPair _ _) (by decide))
    | fail_if_no_progress (with_reducible refine Chg.step ?_ (Chg.setTokens _ _) (by decide))
    | fail_if_no_progress (with_reducible refine Chg.step ?_ (Chg.setTamper _ _) (by decide))
    | (refine ⟨fun p hp => ?_⟩; have hb := fun (x : State) (h : Chg [.array, .legs, .laws, .juggler, .thermal, .barker, .scribe, .pair, .tokens, .tamper] s x) => h.1 p hp; cases p <;> first | (exact absurd hp (by decide)) | (simp only [State.same]; done) | (simp only [State.same] at hb ⊢; exact hb _ (by assumption))))

theorem State.adoptScribe_chg (s : State) (r : OpeningRec) : Chg [.scribe, .tokens, .tamper] s (State.adoptScribe s r) := by
  unfold State.adoptScribe
  repeat' (first
    | with_reducible exact Chg.refl _ _
    | with_reducible assumption
    | (apply Chg.step; rotate_left
       (first
         | with_reducible exact State.modCore_chg ..
         | with_reducible exact State.modTokens_chg ..)
       decide)
    | (extract_lets +onlyGivenNames x1
       suffices hx : Chg [.scribe, .tokens, .tamper] s x1
       on_goal 1 => clear_value x1
       on_goal 2 => unfold x1)
    | (extract_lets +onlyGivenNames x1
       suffices hx : Chg [.scribe, .tokens, .tamper] s x1.2
       on_goal 1 => clear_value x1
       on_goal 2 => unfold x1)
    | (extract_lets +onlyGivenNames x1; clear_value x1)
    | split
    | fail_if_no_progress (with_reducible refine Chg.step ?_ (Chg.setTamper _ _) (by decide)))

theorem State.advance_chg (s : State) (t : ℕ) : Chg [.time, .carousel, .wall] s (State.advance s t) := by
  unfold State.advance
  repeat' (first
    | with_reducible exact Chg.refl _ _
    | with_reducible assumption
    | (extract_lets +onlyGivenNames x1
       suffices hx : Chg [.time, .carousel, .wall] s x1
       on_goal 1 => clear_value x1
       on_goal 2 => unfold x1)
    | (extract_lets +onlyGivenNames x1
       suffices hx : Chg [.time, .carousel, .wall] s x1.2
       on_goal 1 => clear_value x1
       on_goal 2 => unfold x1)
    | (extract_lets +onlyGivenNames x1; clear_value x1)
    | split
    | fail_if_no_progress (with_reducible refine Chg.step ?_ (Chg.setTime _ _) (by decide))
    | fail_if_no_progress (with_reducible refine Chg.step ?_ (Chg.setCarousel _ _) (by decide))
    | fail_if_no_progress (with_reducible refine Chg.step ?_ (Chg.setWall _ _) (by decide))
    | (refine ⟨fun p hp => ?_⟩; have hb := fun (x : State) (h : Chg [.time, .carousel, .wall] s x) => h.1 p hp; cases p <;> first | (exact absurd hp (by decide)) | (simp only [State.same]; done) | (simp only [State.same] at hb ⊢; exact hb _ (by assumption))))

theorem State.modCar_chg (s : State) (f : Carousel → Carousel) : Chg [.carousel] s (State.modCar s f) := by
  unfold State.modCar
  repeat' (first
    | with_reducible exact Chg.refl _ _
    | with_reducible assumption
    | split
    | fail_if_no_progress (with_reducible refine Chg.step ?_ (Chg.setCarousel _ _) (by decide)))

theorem State.toRelock_chg (s : State) (i : SetId) : Chg [.carousel, .port] s (State.toRelock s i) := by
  unfold State.toRelock
  repeat' (first
    | with_reducible exact Chg.refl _ _
    | with_reducible assumption
    | (apply Chg.step; rotate_left
       (first
         | with_reducible exact State.modCar_chg ..
         | with_reducible exact State.raise_chg ..)
       decide))

theorem State.decideCar_chg (s : State) (c : CarChange) : Chg [.pair] s (State.decideCar s c) := by
  unfold State.decideCar
  repeat' (first
    | with_reducible exact Chg.refl _ _
    | with_reducible assumption
    | (apply Chg.step; rotate_left
       with_reducible exact State.journal_chg ..
       decide)
    | split)

theorem State.enterRelock_chg (s : State) (i : SetId) : Chg [.carousel, .pair, .port] s (State.enterRelock s i) := by
  unfold State.enterRelock
  repeat' (first
    | with_reducible exact Chg.refl _ _
    | with_reducible assumption
    | (apply Chg.step; rotate_left
       (first
         | with_reducible exact State.decideCar_chg ..
         | with_reducible exact State.toRelock_chg ..)
       decide))

theorem State.relockOn_chg (s : State) (i : SetId) : Chg [.carousel, .pair] s (State.relockOn s i) := by
  unfold State.relockOn
  repeat' (first
    | with_reducible exact Chg.refl _ _
    | with_reducible assumption
    | (apply Chg.step; rotate_left
       (first
         | with_reducible exact State.decideCar_chg ..
         | with_reducible exact State.modCar_chg ..)
       decide))

theorem State.afterValid_chg (s : State) : Chg [.carousel, .pair, .port] s (State.afterValid s) := by
  unfold State.afterValid
  repeat' (first
    | with_reducible exact Chg.refl _ _
    | with_reducible assumption
    | (apply Chg.step; rotate_left
       (first
         | with_reducible exact State.enterRelock_chg ..
         | with_reducible exact State.modCar_chg ..
         | with_reducible exact State.relockOn_chg ..)
       decide)
    | split)

theorem State.modConn_chg (s : State) (c : ConnNo) (f : Conn → Conn) : Chg [.port] s (State.modConn s c f) := by
  unfold State.modConn
  repeat' (first
    | with_reducible exact Chg.refl _ _
    | with_reducible assumption
    | (extract_lets +onlyGivenNames x1
       suffices hx : Chg [.port] s x1
       on_goal 1 => clear_value x1
       on_goal 2 => unfold x1)
    | (extract_lets +onlyGivenNames x1
       suffices hx : Chg [.port] s x1.2
       on_goal 1 => clear_value x1
       on_goal 2 => unfold x1)
    | (extract_lets +onlyGivenNames x1; clear_value x1)
    | split
    | fail_if_no_progress (with_reducible refine Chg.step ?_ (Chg.setPort _ _) (by decide)))

theorem State.answer_chg (s : State) (c : ConnNo) (res : ℕ) (val : List ℤ) : Chg [.port] s (State.answer s c res val) := by
  unfold State.answer
  repeat' (first
    | with_reducible exact Chg.refl _ _
    | with_reducible assumption
    | (apply Chg.step; rotate_left
       with_reducible exact State.modConn_chg ..
       decide))

theorem State.toGlide_chg (s : State) : Chg [.carousel, .port] s (State.toGlide s) := by
  unfold State.toGlide
  repeat' (first
    | with_reducible exact Chg.refl _ _
    | with_reducible assumption
    | (apply Chg.step; rotate_left
       (first
         | with_reducible exact State.modCar_chg ..
         | with_reducible exact State.raise_chg ..)
       decide))

theorem State.toSet_chg (s : State) (i : SetId) : Chg [.carousel, .port] s (State.toSet s i) := by
  unfold State.toSet
  repeat' (first
    | with_reducible exact Chg.refl _ _
    | with_reducible assumption
    | (apply Chg.step; rotate_left
       (first
         | with_reducible exact State.modCar_chg ..
         | with_reducible exact State.raise_chg ..)
       decide))

theorem State.firstLock_chg (s : State) (st : CarState) (f : ℕ) : Chg [.carousel] s (State.firstLock s st f) := by
  unfold State.firstLock
  repeat' (first
    | with_reducible exact Chg.refl _ _
    | with_reducible assumption
    | (apply Chg.step; rotate_left
       with_reducible exact State.modCar_chg ..
       decide))

theorem State.toLocked_chg (s : State) : Chg [.carousel, .port] s (State.toLocked s) := by
  unfold State.toLocked
  repeat' (first
    | with_reducible exact Chg.refl _ _
    | with_reducible assumption
    | (apply Chg.step; rotate_left
       (first
         | with_reducible exact State.firstLock_chg ..
         | with_reducible exact State.modCar_chg ..
         | with_reducible exact State.raise_chg ..)
       decide)
    | (extract_lets +onlyGivenNames x1
       suffices hx : Chg [.carousel, .port] s x1
       on_goal 1 => clear_value x1
       on_goal 2 => unfold x1)
    | (extract_lets +onlyGivenNames x1
       suffices hx : Chg [.carousel, .port] s x1.2
       on_goal 1 => clear_value x1
       on_goal 2 => unfold x1)
    | (extract_lets +onlyGivenNames x1; clear_value x1)
    | split)

theorem State.toHoldover_chg (s : State) (f : ℕ) : Chg [.carousel, .port] s (State.toHoldover s f) := by
  unfold State.toHoldover
  repeat' (first
    | with_reducible exact Chg.refl _ _
    | with_reducible assumption
    | (apply Chg.step; rotate_left
       (first
         | with_reducible exact State.modCar_chg ..
         | with_reducible exact State.raise_chg ..)
       decide))

theorem State.toNominal_chg (s : State) : Chg [.carousel, .port] s (State.toNominal s) := by
  unfold State.toNominal
  repeat' (first
    | with_reducible exact Chg.refl _ _
    | with_reducible assumption
    | (apply Chg.step; rotate_left
       (first
         | with_reducible exact State.modCar_chg ..
         | with_reducible exact State.raise_chg ..)
       decide))

theorem State.applyCar_chg (s : State) (a1 : CarChange) : Chg [.carousel, .port] s (State.applyCar s a1) := by
  unfold State.applyCar
  repeat' (first
    | with_reducible exact Chg.refl _ _
    | with_reducible assumption
    | (apply Chg.step; rotate_left
       (first
         | with_reducible exact State.modCar_chg ..
         | with_reducible exact State.toGlide_chg ..
         | with_reducible exact State.toHoldover_chg ..
         | with_reducible exact State.toLocked_chg ..
         | with_reducible exact State.toNominal_chg ..
         | with_reducible exact State.toRelock_chg ..
         | with_reducible exact State.toSet_chg ..)
       decide)
    | split)

theorem State.modMatrix_chg (s : State) (g : ℕ) (f : Matrix → Matrix) : Chg [.juggler] s (State.modMatrix s g f) := by
  unfold State.modMatrix
  repeat' (first
    | with_reducible exact Chg.refl _ _
    | with_reducible assumption
    | (apply Chg.step; rotate_left
       with_reducible exact State.modJug_chg ..
       decide))

theorem State.applyDecision_chg (s : State) (g : ℕ) (d : MatrixDecision) : Chg [.juggler] s (State.applyDecision s g d) := by
  unfold State.applyDecision
  repeat' (first
    | with_reducible exact Chg.refl _ _
    | with_reducible assumption
    | (apply Chg.step; rotate_left
       with_reducible exact State.modMatrix_chg ..
       decide)
    | (extract_lets +onlyGivenNames x1
       suffices hx : Chg [.juggler] s x1
       on_goal 1 => clear_value x1
       on_goal 2 => unfold x1)
    | (extract_lets +onlyGivenNames x1
       suffices hx : Chg [.juggler] s x1.2
       on_goal 1 => clear_value x1
       on_goal 2 => unfold x1)
    | (extract_lets +onlyGivenNames x1; clear_value x1)
    | split)

theorem State.disarm_chg (s : State) (cause : ℕ) : Chg [.juggler, .barker, .scribe, .update, .port, .tokens] s (State.disarm s cause) := by
  unfold State.disarm
  repeat' (first
    | with_reducible exact Chg.refl _ _
    | with_reducible assumption
    | (apply Chg.step; rotate_left
       (first
         | with_reducible exact State.modUpdate_chg ..
         | with_reducible exact State.plugIn_chg ..
         | with_reducible exact State.raise_chg ..)
       decide)
    | (extract_lets +onlyGivenNames x1
       suffices hx : Chg [.juggler, .barker, .scribe, .update, .port, .tokens] s x1
       on_goal 1 => clear_value x1
       on_goal 2 => unfold x1)
    | (extract_lets +onlyGivenNames x1; clear_value x1)
    | split
    | (with_reducible apply Chg.foldl; rotate_left; intro s _))

theorem State.passDeadline_chg (s : State) : Chg [.juggler, .barker, .scribe, .update, .port, .tokens] s (State.passDeadline s) := by
  unfold State.passDeadline
  repeat' (first
    | with_reducible exact Chg.refl _ _
    | with_reducible assumption
    | (apply Chg.step; rotate_left
       with_reducible exact State.disarm_chg ..
       decide)
    | split)

theorem State.markLost_chg (s : State) (chan : ℕ) : Chg [.laws] s (State.markLost s chan) := by
  unfold State.markLost
  repeat' (first
    | with_reducible exact Chg.refl _ _
    | with_reducible assumption
    | (extract_lets +onlyGivenNames x1
       suffices hx : Chg [.laws] s x1
       on_goal 1 => clear_value x1
       on_goal 2 => unfold x1)
    | (extract_lets +onlyGivenNames x1
       suffices hx : Chg [.laws] s x1.2
       on_goal 1 => clear_value x1
       on_goal 2 => unfold x1)
    | (extract_lets +onlyGivenNames x1; clear_value x1)
    | split
    | fail_if_no_progress (with_reducible refine Chg.step ?_ (Chg.setLaws _ _) (by decide)))

theorem State.loseChannel_chg (s : State) (chan : ℕ) : Chg [.legs, .laws, .port] s (State.loseChannel s chan) := by
  unfold State.loseChannel
  repeat' (first
    | with_reducible exact Chg.refl _ _
    | with_reducible assumption
    | (apply Chg.step; rotate_left
       (first
         | with_reducible exact State.coastLaw_chg ..
         | with_reducible exact State.markLost_chg ..
         | with_reducible exact State.raise_chg ..)
       decide)
    | (extract_lets +onlyGivenNames x1
       suffices hx : Chg [.legs, .laws, .port] s x1
       on_goal 1 => clear_value x1
       on_goal 2 => unfold x1)
    | (extract_lets +onlyGivenNames x1; clear_value x1)
    | split
    | (with_reducible apply Chg.foldl; rotate_left; intro s _))

theorem State.discard_chg (s : State) (f : Discards → Discards) : Chg [.barker] s (State.discard s f) := by
  unfold State.discard
  repeat' (first
    | with_reducible exact Chg.refl _ _
    | with_reducible assumption
    | (extract_lets +onlyGivenNames x1
       suffices hx : Chg [.barker] s x1
       on_goal 1 => clear_value x1
       on_goal 2 => unfold x1)
    | (extract_lets +onlyGivenNames x1
       suffices hx : Chg [.barker] s x1.2
       on_goal 1 => clear_value x1
       on_goal 2 => unfold x1)
    | (extract_lets +onlyGivenNames x1; clear_value x1)
    | split
    | fail_if_no_progress (with_reducible refine Chg.step ?_ (Chg.setBarker _ _) (by decide)))

theorem State.badPayload_chg (s : State) : Chg [.barker] s (State.badPayload s) := by
  unfold State.badPayload
  repeat' (first
    | with_reducible exact Chg.refl _ _
    | with_reducible assumption
    | (apply Chg.step; rotate_left
       with_reducible exact State.discard_chg ..
       decide))

theorem State.sendFrame_chg (s : State) (typ : ℕ) (o : ℕ) (payload : List W32) : Chg [.barker] s (State.sendFrame s typ o payload) := by
  unfold State.sendFrame
  repeat' (first
    | with_reducible exact Chg.refl _ _
    | with_reducible assumption
    | (extract_lets +onlyGivenNames x1
       suffices hx : Chg [.barker] s x1
       on_goal 1 => clear_value x1
       on_goal 2 => unfold x1)
    | (extract_lets +onlyGivenNames x1
       suffices hx : Chg [.barker] s x1.2
       on_goal 1 => clear_value x1
       on_goal 2 => unfold x1)
    | (extract_lets +onlyGivenNames x1; clear_value x1)
    | split
    | fail_if_no_progress (with_reducible refine Chg.step ?_ (Chg.setBarker _ _) (by decide)))

theorem State.unknownDisp_chg (s : State) (dispId : ℕ) (addr : ℕ) : Chg [.barker, .port] s (State.unknownDisp s dispId addr) := by
  unfold State.unknownDisp
  repeat' (first
    | with_reducible exact Chg.refl _ _
    | with_reducible assumption
    | (apply Chg.step; rotate_left
       with_reducible exact State.raise_chg ..
       decide)
    | (extract_lets +onlyGivenNames x1
       suffices hx : Chg [.barker, .port] s x1
       on_goal 1 => clear_value x1
       on_goal 2 => unfold x1)
    | (extract_lets +onlyGivenNames x1
       suffices hx : Chg [.barker, .port] s x1.2
       on_goal 1 => clear_value x1
       on_goal 2 => unfold x1)
    | (extract_lets +onlyGivenNames x1; clear_value x1)
    | split
    | fail_if_no_progress (with_reducible refine Chg.step ?_ (Chg.setBarker _ _) (by decide)))

theorem State.tagGood_chg (s : State) (o : ℕ) (f : Tunnel) : Chg [.keys, .port] s (State.tagGood s o f).2 := by
  unfold State.tagGood
  repeat' (first
    | with_reducible exact Chg.refl _ _
    | with_reducible assumption
    | (apply Chg.step; rotate_left
       with_reducible exact State.useKey_chg ..
       decide)
    | split)

theorem State.tagFailure_chg (s : State) (o : ℕ) (dispId : ℕ) : Chg [.barker, .port] s (State.tagFailure s o dispId) := by
  unfold State.tagFailure
  repeat' (first
    | with_reducible exact Chg.refl _ _
    | with_reducible assumption
    | (apply Chg.step; rotate_left
       (first
         | with_reducible exact State.discard_chg ..
         | with_reducible exact State.modDisp_chg ..
         | with_reducible exact State.raise_chg ..)
       decide)
    | (extract_lets +onlyGivenNames x1
       suffices hx : Chg [.barker, .port] s x1
       on_goal 1 => clear_value x1
       on_goal 2 => unfold x1)
    | (extract_lets +onlyGivenNames x1
       suffices hx : Chg [.barker, .port] s x1.2
       on_goal 1 => clear_value x1
       on_goal 2 => unfold x1)
    | (extract_lets +onlyGivenNames x1; clear_value x1)
    | split)

theorem State.tunnelIn_chg (s : State) (f : Tunnel) (typ : ℕ) : Chg [.barker, .keys, .port, .tamper] s (State.tunnelIn s f typ).2 := by
  have h0 := Chg.refl [.barker, .keys, .port, .tamper] s
  have hd (z : State) (a : Option Nat) (g : Discards → Discards) (hz : Chg [.barker, .keys, .port, .tamper] s z) : Chg [.barker, .keys, .port, .tamper] s (a, z.discard g).2 := Chg.step hz (State.discard_chg ..) (by decide)
  have hm (z : State) (a : Option Nat) (o : Nat) (g : Disp → Disp) (hz : Chg [.barker, .keys, .port, .tamper] s z) : Chg [.barker, .keys, .port, .tamper] s (a, z.modDisp o g).2 := Chg.step hz (State.modDisp_chg ..) (by decide)
  unfold State.tunnelIn
  refine Chg.ite2 (hd _ _ _ h0) (Chg.ite2 (hd _ _ _ h0) (Chg.ite2 (hd _ _ _ h0) (Chg.ite2 (Chg.ite h0 (Chg.step h0 (State.discard_chg ..) (by decide))) ?_)))
  split
  · exact Chg.ite2 (Chg.step h0 (State.unknownDisp_chg ..) (by decide)) (hd _ _ _ h0)
  rename_i o _
  refine Chg.ite2 (hd _ _ _ h0) ?_
  have hg : Chg [.barker, .keys, .port, .tamper] s (s.tagGood o f).2 := Chg.step h0 (State.tagGood_chg ..) (by decide)
  generalize s.tagGood o f = g at hg ⊢
  refine Chg.ite2 (Chg.step hg (State.tagFailure_chg ..) (by decide)) (Chg.ite2 ?_ (Chg.ite2 (Chg.ite2 (hm _ _ _ _ hg) (hd _ _ _ hg)) (Chg.ite2 (hm _ _ _ _ hg) (hd _ _ _ hg))))
  exact Chg.step (Chg.step (hd _ none _ hg) (State.raise_chg ..) (by decide)) (State.countTamper_chg ..) (by decide)

theorem State.takeHello_chg (s : State) (f : Tunnel) : Chg [.barker, .keys, .port, .tamper] s (State.takeHello s f) := by
  have ht := State.tunnelIn_chg s f 3
  unfold State.takeHello
  generalize s.tunnelIn f 3 = y at ht ⊢
  have hz := Chg.step (Chg.refl [.barker, .keys, .port, .tamper] s) ht (by decide)
  split
  · exact hz
  · exact Chg.step hz (State.badPayload_chg ..) (by decide)
  · exact Chg.step (Chg.step hz (State.modDisp_chg ..) (by decide)) (State.sendFrame_chg ..) (by decide)

theorem State.recurtail_chg (s : State) (src : ℤ) : Chg [.juggler, .port] s (State.recurtail s src) := by
  unfold State.recurtail
  repeat' (first
    | with_reducible exact Chg.refl _ _
    | with_reducible assumption
    | (apply Chg.step; rotate_left
       (first
         | with_reducible exact State.modJug_chg ..
         | with_reducible exact State.raise_chg ..)
       decide)
    | (extract_lets +onlyGivenNames x1
       suffices hx : Chg [.juggler, .port] s x1
       on_goal 1 => clear_value x1
       on_goal 2 => unfold x1)
    | (extract_lets +onlyGivenNames x1
       suffices hx : Chg [.juggler, .port] s x1.2
       on_goal 1 => clear_value x1
       on_goal 2 => unfold x1)
    | (extract_lets +onlyGivenNames x1; clear_value x1)
    | split)

theorem State.takeGrid_chg (s : State) (chan : CanNo) (payload : BitVec 64) : Chg [.juggler, .port] s (State.takeGrid s chan payload) := by
  unfold State.takeGrid
  repeat' (first
    | with_reducible exact Chg.refl _ _
    | with_reducible assumption
    | (apply Chg.step; rotate_left
       (first
         | with_reducible exact State.modJug_chg ..
         | with_reducible exact State.recurtail_chg ..)
       decide)
    | (extract_lets +onlyGivenNames x1
       suffices hx : Chg [.juggler, .port] s x1
       on_goal 1 => clear_value x1
       on_goal 2 => unfold x1)
    | (extract_lets +onlyGivenNames x1
       suffices hx : Chg [.juggler, .port] s x1.2
       on_goal 1 => clear_value x1
       on_goal 2 => unfold x1)
    | (extract_lets +onlyGivenNames x1; clear_value x1)
    | split)

theorem State.takeInk_chg (s : State) (x : InkVals) : Chg [.juggler] s (State.takeInk s x) := by
  unfold State.takeInk
  repeat' (first
    | with_reducible exact Chg.refl _ _
    | with_reducible assumption
    | (apply Chg.step; rotate_left
       with_reducible exact State.modJug_chg ..
       decide))

theorem State.modCan_chg (s : State) (k : ℕ) (f : Can → Can) : Chg [.buses] s (State.modCan s k f) := by
  unfold State.modCan
  repeat' (first
    | with_reducible exact Chg.refl _ _
    | with_reducible assumption
    | (extract_lets +onlyGivenNames x1
       suffices hx : Chg [.buses] s x1
       on_goal 1 => clear_value x1
       on_goal 2 => unfold x1)
    | (extract_lets +onlyGivenNames x1
       suffices hx : Chg [.buses] s x1.2
       on_goal 1 => clear_value x1
       on_goal 2 => unfold x1)
    | (extract_lets +onlyGivenNames x1; clear_value x1)
    | split
    | fail_if_no_progress (with_reducible refine Chg.step ?_ (Chg.setBuses _ _) (by decide)))

theorem State.loseCanRef_chg (s : State) (k : ℕ) : Chg [.port, .buses] s (State.loseCanRef s k) := by
  unfold State.loseCanRef
  repeat' (first
    | with_reducible exact Chg.refl _ _
    | with_reducible assumption
    | (apply Chg.step; rotate_left
       (first
         | with_reducible exact State.modCan_chg ..
         | with_reducible exact State.raise_chg ..)
       decide)
    | split)

theorem State.dropText_chg (s : State) (o : ℕ) : Chg [.tokens] s (State.dropText s o) := by
  unfold State.dropText
  repeat' (first
    | with_reducible exact Chg.refl _ _
    | with_reducible assumption
    | (apply Chg.step; rotate_left
       with_reducible exact State.modTok_chg ..
       decide))

theorem State.loseClock_chg (s : State) (clk : ℕ) : Chg [.legs, .laws, .port] s (State.loseClock s clk) := by
  unfold State.loseClock
  repeat' (first
    | with_reducible exact Chg.refl _ _
    | with_reducible assumption
    | (apply Chg.step; rotate_left
       with_reducible exact State.loseChannel_chg ..
       decide)
    | split
    | (with_reducible apply Chg.foldl; rotate_left; intro s _))

theorem State.takeRandom_chg (s : State) (ctx : CtxNo) (v : BitVec 64) : Chg [.barker] s (State.takeRandom s ctx v) := by
  unfold State.takeRandom
  repeat' (first
    | with_reducible exact Chg.refl _ _
    | with_reducible assumption
    | (apply Chg.step; rotate_left
       with_reducible exact State.modCtx_chg ..
       decide))

theorem State.matrixFault_chg (s : State) (g : ℕ) (cause : ℤ) : Chg [.juggler, .port] s (State.matrixFault s g cause) := by
  unfold State.matrixFault
  repeat' (first
    | with_reducible exact Chg.refl _ _
    | with_reducible assumption
    | (apply Chg.step; rotate_left
       (first
         | with_reducible exact State.modMatrix_chg ..
         | with_reducible exact State.raise_chg ..)
       decide))

theorem State.matrixExpired_chg (s : State) (g : ℕ) : Chg [.juggler, .port] s (State.matrixExpired s g) := by
  unfold State.matrixExpired
  repeat' (first
    | with_reducible exact Chg.refl _ _
    | with_reducible assumption
    | (apply Chg.step; rotate_left
       with_reducible exact State.matrixFault_chg ..
       decide)
    | split)

theorem State.dioPlug_chg (s : State) (o : ℕ) (d : Dio) : Chg [.juggler, .barker, .scribe, .keys, .update, .port, .tokens] s (State.dioPlug s o d) := by
  unfold State.dioPlug
  repeat' (first
    | with_reducible exact Chg.refl _ _
    | with_reducible assumption
    | (apply Chg.step; rotate_left
       (first
         | with_reducible exact State.closeCtx_chg ..
         | with_reducible exact State.endCtx_chg ..
         | with_reducible exact State.modDisp_chg ..
         | with_reducible exact State.plugIn_chg ..)
       decide)
    | (extract_lets +onlyGivenNames x1
       suffices hx : Chg [.juggler, .barker, .scribe, .keys, .update, .port, .tokens] s x1
       on_goal 1 => clear_value x1
       on_goal 2 => unfold x1)
    | (extract_lets +onlyGivenNames x1
       suffices hx : Chg [.juggler, .barker, .scribe, .keys, .update, .port, .tokens] s x1.2
       on_goal 1 => clear_value x1
       on_goal 2 => unfold x1)
    | (extract_lets +onlyGivenNames x1; clear_value x1)
    | split
    | (with_reducible apply Chg.foldl; rotate_left; intro s _))

theorem State.reportTemps_chg (s : State) (outlet : ℕ) (w : List W32) (temps : List (Option ℤ)) : Chg [.thermal] s (State.reportTemps s outlet w temps) := by
  unfold State.reportTemps
  repeat' (first
    | with_reducible exact Chg.refl _ _
    | with_reducible assumption
    | (extract_lets +onlyGivenNames x1
       suffices hx : Chg [.thermal] s x1
       on_goal 1 => clear_value x1
       on_goal 2 => unfold x1)
    | (extract_lets +onlyGivenNames x1
       suffices hx : Chg [.thermal] s x1.2
       on_goal 1 => clear_value x1
       on_goal 2 => unfold x1)
    | (extract_lets +onlyGivenNames x1; clear_value x1)
    | split
    | (with_reducible apply Chg.foldl; rotate_left; intro s _)
    | fail_if_no_progress (with_reducible refine Chg.step ?_ (Chg.setThermal _ _) (by decide)))

theorem State.sessionStart_chg (s : State) (ctx : ℕ) (protocol : ℕ) (idType : ℕ) (emaid : List Byte) : Chg [.scribe, .port] s (State.sessionStart s ctx protocol idType emaid) := by
  unfold State.sessionStart
  repeat' (first
    | with_reducible exact Chg.refl _ _
    | with_reducible assumption
    | (apply Chg.step; rotate_left
       (first
         | with_reducible exact State.endPeriod_chg ..
         | with_reducible exact State.modCore_chg ..)
       decide)
    | (extract_lets +onlyGivenNames x1
       suffices hx : Chg [.scribe, .port] s x1
       on_goal 1 => clear_value x1
       on_goal 2 => unfold x1)
    | (extract_lets +onlyGivenNames x1
       suffices hx : Chg [.scribe, .port] s x1.2
       on_goal 1 => clear_value x1
       on_goal 2 => unfold x1)
    | (extract_lets +onlyGivenNames x1; clear_value x1)
    | split)

theorem State.grant_chg (s : State) (c : ℕ) : Chg [.barker, .scribe, .port] s (State.grant s c) := by
  unfold State.grant
  repeat' (first
    | with_reducible exact Chg.refl _ _
    | with_reducible assumption
    | (apply Chg.step; rotate_left
       (first
         | with_reducible exact State.modCtx_chg ..
         | with_reducible exact State.raise_chg ..
         | with_reducible exact State.sessionStart_chg ..)
       decide))

theorem State.retryAuth_chg (s : State) (c : ℕ) : Chg [.barker, .scribe, .port] s (State.retryAuth s c) := by
  unfold State.retryAuth
  repeat' (first
    | with_reducible exact Chg.refl _ _
    | with_reducible assumption
    | (apply Chg.step; rotate_left
       with_reducible exact State.grant_chg ..
       decide)
    | (extract_lets +onlyGivenNames x1
       suffices hx : Chg [.barker, .scribe, .port] s x1
       on_goal 1 => clear_value x1
       on_goal 2 => unfold x1)
    | (extract_lets +onlyGivenNames x1
       suffices hx : Chg [.barker, .scribe, .port] s x1.2
       on_goal 1 => clear_value x1
       on_goal 2 => unfold x1)
    | (extract_lets +onlyGivenNames x1; clear_value x1)
    | split)

theorem State.showText_chg (s : State) (o : ℕ) (x : TokenText) : Chg [.tokens] s (State.showText s o x) := by
  unfold State.showText
  repeat' (first
    | with_reducible exact Chg.refl _ _
    | with_reducible assumption
    | (apply Chg.step; rotate_left
       with_reducible exact State.modTok_chg ..
       decide))

theorem State.logToken_chg (s : State) (o : ℕ) (v : ℕ) (decoded : Bool) (x : TokenText) : Chg [.tokens] s (State.logToken s o v decoded x) := by
  unfold State.logToken
  repeat' (first
    | with_reducible exact Chg.refl _ _
    | with_reducible assumption
    | (apply Chg.step; rotate_left
       with_reducible exact State.modTokens_chg ..
       decide))

theorem State.tokRefuse_chg (s : State) (o : ℕ) (v : ℕ) (cause : ℕ) (x : TokenText) : Chg [.port, .tokens] s (State.tokRefuse s o v cause x) := by
  unfold State.tokRefuse
  repeat' (first
    | with_reducible exact Chg.refl _ _
    | with_reducible assumption
    | (apply Chg.step; rotate_left
       (first
         | with_reducible exact State.logToken_chg ..
         | with_reducible exact State.raiseS_chg ..
         | with_reducible exact State.showText_chg ..)
       decide))

theorem State.takeCredit_chg (s : State) (o : ℕ) (v : ℕ) : Chg [.scribe, .port, .tokens] s (State.takeCredit s o v) := by
  unfold State.takeCredit
  repeat' (first
    | with_reducible exact Chg.refl _ _
    | with_reducible assumption
    | (apply Chg.step; rotate_left
       (first
         | with_reducible exact State.addCredit_chg ..
         | with_reducible exact State.logToken_chg ..
         | with_reducible exact State.modTokens_chg ..
         | with_reducible exact State.raiseS_chg ..
         | with_reducible exact State.showText_chg ..)
       decide))

theorem State.tokFail_chg (s : State) (o : ℕ) : Chg [.port, .tokens, .tamper] s (State.tokFail s o) := by
  unfold State.tokFail
  repeat' (first
    | with_reducible exact Chg.refl _ _
    | with_reducible assumption
    | (apply Chg.step; rotate_left
       (first
         | with_reducible exact State.countTamper_chg ..
         | with_reducible exact State.modTok_chg ..
         | with_reducible exact State.raiseS_chg ..)
       decide)
    | (extract_lets +onlyGivenNames x1
       suffices hx : Chg [.port, .tokens, .tamper] s x1
       on_goal 1 => clear_value x1
       on_goal 2 => unfold x1)
    | (extract_lets +onlyGivenNames x1
       suffices hx : Chg [.port, .tokens, .tamper] s x1.2
       on_goal 1 => clear_value x1
       on_goal 2 => unfold x1)
    | (extract_lets +onlyGivenNames x1; clear_value x1)
    | split)

theorem State.takeKeyChange_chg (s : State) (o : ℕ) (v : ℕ) : Chg [.port, .tokens, .tamper] s (State.takeKeyChange s o v) := by
  unfold State.takeKeyChange
  repeat' (first
    | with_reducible exact Chg.refl _ _
    | with_reducible assumption
    | (apply Chg.step; rotate_left
       (first
         | with_reducible exact State.countTamper_chg ..
         | with_reducible exact State.logToken_chg ..
         | with_reducible exact State.modTokens_chg ..
         | with_reducible exact State.raiseS_chg ..
         | with_reducible exact State.showText_chg ..)
       decide))

theorem State.submitToken_chg (s : State) (o : ℕ) (digits : List (Fin 10)) : Chg [.scribe, .keys, .port, .tokens, .tamper] s (State.submitToken s o digits) := by
  unfold State.submitToken
  repeat' (first
    | with_reducible exact Chg.refl _ _
    | with_reducible assumption
    | (apply Chg.step; rotate_left
       (first
         | with_reducible exact State.countTamper_chg ..
         | with_reducible exact State.logToken_chg ..
         | with_reducible exact State.macOf_chg ..
         | with_reducible exact State.showText_chg ..
         | with_reducible exact State.takeCredit_chg ..
         | with_reducible exact State.takeKeyChange_chg ..
         | with_reducible exact State.tokFail_chg ..
         | with_reducible exact State.tokRefuse_chg ..)
       decide)
    | (extract_lets +onlyGivenNames x1
       suffices hx : Chg [.scribe, .keys, .port, .tokens, .tamper] s x1
       on_goal 1 => clear_value x1
       on_goal 2 => unfold x1)
    | (extract_lets +onlyGivenNames x1
       suffices hx : Chg [.scribe, .keys, .port, .tokens, .tamper] s x1.2
       on_goal 1 => clear_value x1
       on_goal 2 => unfold x1)
    | (extract_lets +onlyGivenNames x1; clear_value x1)
    | split)

theorem State.keyPress_chg (s : State) (o : ℕ) (key : ℕ) : Chg [.scribe, .keys, .port, .tokens, .tamper] s (State.keyPress s o key) := by
  unfold State.keyPress
  refine Chg.ite (Chg.refl _ _) ?_
  extract_lets press digits
  have hp (f : TokenOutlet → TokenOutlet) : Chg [.scribe, .keys, .port, .tokens, .tamper] s (press f) := Chg.step (Chg.refl _ _) (State.modTok_chg ..) (by decide)
  clear_value press
  exact Chg.ite (hp _) (Chg.ite (hp _) (Chg.ite (hp _) (Chg.ite
    (Chg.ite (Chg.step (hp _) (State.submitToken_chg ..) (by decide)) (Chg.step (hp _) (State.showText_chg ..) (by decide))) (Chg.refl _ _))))

theorem State.dioKey_chg (s : State) (o : ℕ) (d : Dio) : Chg [.barker, .scribe, .keys, .port, .tokens, .tamper] s (State.dioKey s o d) := by
  unfold State.dioKey
  repeat' (first
    | with_reducible exact Chg.refl _ _
    | with_reducible assumption
    | (apply Chg.step; rotate_left
       (first
         | with_reducible exact State.keyPress_chg ..
         | with_reducible exact State.modDisp_chg ..
         | with_reducible exact State.retryAuth_chg ..)
       decide)
    | (extract_lets +onlyGivenNames x1
       suffices hx : Chg [.barker, .scribe, .keys, .port, .tokens, .tamper] s x1
       on_goal 1 => clear_value x1
       on_goal 2 => unfold x1)
    | (extract_lets +onlyGivenNames x1
       suffices hx : Chg [.barker, .scribe, .keys, .port, .tokens, .tamper] s x1.2
       on_goal 1 => clear_value x1
       on_goal 2 => unfold x1)
    | (extract_lets +onlyGivenNames x1; clear_value x1)
    | split
    | (with_reducible apply Chg.foldl; rotate_left; intro s _))

theorem State.takeDio_chg (s : State) (f : Tunnel) : Chg [.juggler, .thermal, .barker, .scribe, .keys, .update, .port, .tokens, .tamper] s (State.takeDio s f) := by
  have ht := State.tunnelIn_chg s f 2
  unfold State.takeDio
  generalize s.tunnelIn f 2 = y at ht ⊢
  have hz := Chg.step (Chg.refl [.juggler, .thermal, .barker, .scribe, .keys, .update, .port, .tokens, .tamper] s) ht (by decide)
  split
  · exact hz
  · exact Chg.step hz (State.badPayload_chg ..) (by decide)
  · exact Chg.foldl _ _ (Chg.step (Chg.step (Chg.step (Chg.step hz (State.modDisp_chg ..) (by decide)) (State.reportTemps_chg ..) (by decide))
      (State.dioKey_chg ..) (by decide)) (State.dioPlug_chg ..) (by decide)) fun s x => Chg.step (Chg.refl _ _) (State.pauseCtx_chg ..) (by decide)

theorem State.seccExpired_chg (s : State) (c : ℕ) : Chg [.juggler, .barker, .scribe, .keys, .update, .port, .tokens] s (State.seccExpired s c) := by
  unfold State.seccExpired
  repeat' (first
    | with_reducible exact Chg.refl _ _
    | with_reducible assumption
    | (apply Chg.step; rotate_left
       with_reducible exact State.endCtx_chg ..
       decide)
    | split)

theorem State.markHolds_chg (s : State) (tick : ℕ) : Chg [.tokens] s (State.markHolds s tick) := by
  unfold State.markHolds
  repeat' (first
    | with_reducible exact Chg.refl _ _
    | with_reducible assumption
    | (apply Chg.step; rotate_left
       with_reducible exact State.modTokens_chg ..
       decide))

theorem State.ptpSlew_chg (s : State) (delta : ℤ) : Chg [.wall] s (State.ptpSlew s delta) := by
  unfold State.ptpSlew
  repeat' (first
    | with_reducible exact Chg.refl _ _
    | with_reducible assumption
    | (extract_lets +onlyGivenNames x1
       suffices hx : Chg [.wall] s x1
       on_goal 1 => clear_value x1
       on_goal 2 => unfold x1)
    | (extract_lets +onlyGivenNames x1
       suffices hx : Chg [.wall] s x1.2
       on_goal 1 => clear_value x1
       on_goal 2 => unfold x1)
    | (extract_lets +onlyGivenNames x1; clear_value x1)
    | split
    | fail_if_no_progress (with_reducible refine Chg.step ?_ (Chg.setWall _ _) (by decide)))

theorem State.putSensor_chg (s : State) (n : ℕ) (y : Sensor) : Chg [.thermal] s (State.putSensor s n y) := by
  unfold State.putSensor
  repeat' (first
    | with_reducible exact Chg.refl _ _
    | with_reducible assumption
    | (extract_lets +onlyGivenNames x1
       suffices hx : Chg [.thermal] s x1
       on_goal 1 => clear_value x1
       on_goal 2 => unfold x1)
    | (extract_lets +onlyGivenNames x1
       suffices hx : Chg [.thermal] s x1.2
       on_goal 1 => clear_value x1
       on_goal 2 => unfold x1)
    | (extract_lets +onlyGivenNames x1; clear_value x1)
    | split
    | fail_if_no_progress (with_reducible refine Chg.step ?_ (Chg.setThermal _ _) (by decide)))

theorem State.takeReading_chg (s : State) (w : List W32) (reading : ℕ) : Chg [.thermal, .port] s (State.takeReading s w reading) := by
  unfold State.takeReading
  repeat' (first
    | with_reducible exact Chg.refl _ _
    | with_reducible assumption
    | (apply Chg.step; rotate_left
       (first
         | with_reducible exact State.putSensor_chg ..
         | with_reducible exact State.raise_chg ..)
       decide)
    | (extract_lets +onlyGivenNames x1
       suffices hx : Chg [.thermal, .port] s x1
       on_goal 1 => clear_value x1
       on_goal 2 => unfold x1)
    | (extract_lets +onlyGivenNames x1
       suffices hx : Chg [.thermal, .port] s x1.2
       on_goal 1 => clear_value x1
       on_goal 2 => unfold x1)
    | (extract_lets +onlyGivenNames x1; clear_value x1)
    | split)

theorem State.takeSamples_chg (s : State) (readings : List ℕ) : Chg [.thermal, .port] s (State.takeSamples s readings) := by
  unfold State.takeSamples
  repeat' (first
    | with_reducible exact Chg.refl _ _
    | with_reducible assumption
    | (apply Chg.step; rotate_left
       with_reducible exact State.takeReading_chg ..
       decide)
    | (extract_lets +onlyGivenNames x1; clear_value x1)
    | split
    | (with_reducible apply Chg.foldl; rotate_left; intro s _))

theorem State.takeContactor_chg (s : State) (g : ConvNo) (payload : W32) : Chg [.juggler, .port] s (State.takeContactor s g payload) := by
  unfold State.takeContactor
  repeat' (first
    | with_reducible exact Chg.refl _ _
    | with_reducible assumption
    | (apply Chg.step; rotate_left
       (first
         | with_reducible exact State.matrixFault_chg ..
         | with_reducible exact State.modMatrix_chg ..
         | with_reducible exact State.raise_chg ..)
       decide)
    | (extract_lets +onlyGivenNames x1
       suffices hx : Chg [.juggler, .port] s x1
       on_goal 1 => clear_value x1
       on_goal 2 => unfold x1)
    | (extract_lets +onlyGivenNames x1
       suffices hx : Chg [.juggler, .port] s x1.2
       on_goal 1 => clear_value x1
       on_goal 2 => unfold x1)
    | (extract_lets +onlyGivenNames x1; clear_value x1)
    | split)

theorem State.monthStart_chg (s : State) (tai : ℕ) : Chg [.scribe] s (State.monthStart s tai) := by
  unfold State.monthStart
  repeat' (first
    | with_reducible exact Chg.refl _ _
    | with_reducible assumption
    | (apply Chg.step; rotate_left
       with_reducible exact State.modCore_chg ..
       decide)
    | (extract_lets +onlyGivenNames x1
       suffices hx : Chg [.scribe] s x1
       on_goal 1 => clear_value x1
       on_goal 2 => unfold x1)
    | (extract_lets +onlyGivenNames x1
       suffices hx : Chg [.scribe] s x1.2
       on_goal 1 => clear_value x1
       on_goal 2 => unfold x1)
    | (extract_lets +onlyGivenNames x1; clear_value x1)
    | split)

theorem State.startInterval_chg (s : State) (flags : List MFlag) (at_ : Option ℕ) : Chg [.scribe] s (State.startInterval s flags at_) := by
  unfold State.startInterval
  repeat' (first
    | with_reducible exact Chg.refl _ _
    | with_reducible assumption
    | (apply Chg.step; rotate_left
       with_reducible exact State.modCore_chg ..
       decide))

theorem State.switchTariff_chg (s : State) (t : ℕ) : Chg [.scribe] s (State.switchTariff s t) := by
  unfold State.switchTariff
  repeat' (first
    | with_reducible exact Chg.refl _ _
    | with_reducible assumption
    | (apply Chg.step; rotate_left
       (first
         | with_reducible exact State.idleAll_chg ..
         | with_reducible exact State.modScribe_chg ..
         | with_reducible exact State.modSessions_chg ..)
       decide)
    | (extract_lets +onlyGivenNames x1
       suffices hx : Chg [.scribe] s x1
       on_goal 1 => clear_value x1
       on_goal 2 => unfold x1)
    | split)

theorem State.demandMax_chg (s : State) (o : ℕ) (energy : ℕ) (sec : ℚ) (at_ : ℕ) : Chg [.scribe] s (State.demandMax s o energy sec at_) := by
  unfold State.demandMax
  repeat' (first
    | with_reducible exact Chg.refl _ _
    | with_reducible assumption
    | (apply Chg.step; rotate_left
       with_reducible exact State.modRegs_chg ..
       decide)
    | (extract_lets +onlyGivenNames x1
       suffices hx : Chg [.scribe] s x1
       on_goal 1 => clear_value x1
       on_goal 2 => unfold x1)
    | (extract_lets +onlyGivenNames x1
       suffices hx : Chg [.scribe] s x1.2
       on_goal 1 => clear_value x1
       on_goal 2 => unfold x1)
    | (extract_lets +onlyGivenNames x1; clear_value x1)
    | split)

theorem State.closeInterval_chg (s : State) (more : List MFlag) (at_ : Option ℕ) : Chg [.scribe, .port, .tamper] s (State.closeInterval s more at_) := by
  unfold State.closeInterval
  repeat' (first
    | with_reducible exact Chg.refl _ _
    | with_reducible assumption
    | (apply Chg.step; rotate_left
       (first
         | with_reducible exact State.countTamper_chg ..
         | with_reducible exact State.demandMax_chg ..
         | with_reducible exact State.modScribe_chg ..
         | with_reducible exact State.raiseS_chg ..)
       decide)
    | (extract_lets +onlyGivenNames x1; clear_value x1)
    | split
    | (with_reducible apply Chg.foldl; rotate_left; intro s _))

theorem State.scribeWallStep_chg (s : State) (old : ℕ) (new : ℕ) (back : Bool) : Chg [.scribe, .port, .tamper] s (State.scribeWallStep s old new back) := by
  unfold State.scribeWallStep
  repeat' (first
    | with_reducible exact Chg.refl _ _
    | with_reducible assumption
    | (apply Chg.step; rotate_left
       (first
         | with_reducible exact State.closeInterval_chg ..
         | with_reducible exact State.countTamper_chg ..
         | with_reducible exact State.endPeriod_chg ..
         | with_reducible exact State.modCore_chg ..
         | with_reducible exact State.modSessions_chg ..
         | with_reducible exact State.monthStart_chg ..
         | with_reducible exact State.raiseS_chg ..
         | with_reducible exact State.startInterval_chg ..
         | with_reducible exact State.switchTariff_chg ..)
       decide)
    | (extract_lets +onlyGivenNames x1
       suffices hx : Chg [.scribe, .port, .tamper] s x1
       on_goal 1 => clear_value x1
       on_goal 2 => unfold x1)
    | split)

theorem State.scribeWallValid_chg (s : State) : Chg [.scribe, .port, .tamper] s (State.scribeWallValid s) := by
  unfold State.scribeWallValid
  repeat' (first
    | with_reducible exact Chg.refl _ _
    | with_reducible assumption
    | (apply Chg.step; rotate_left
       (first
         | with_reducible exact State.closeInterval_chg ..
         | with_reducible exact State.endPeriod_chg ..
         | with_reducible exact State.monthStart_chg ..
         | with_reducible exact State.startInterval_chg ..
         | with_reducible exact State.switchTariff_chg ..)
       decide)
    | (extract_lets +onlyGivenNames x1
       suffices hx : Chg [.scribe, .port, .tamper] s x1
       on_goal 1 => clear_value x1
       on_goal 2 => unfold x1)
    | split)

theorem State.stepWall_chg (s : State) (half : ℕ) (source : WallSource) (role : ℤ) : Chg [.wall, .scribe, .port, .tamper] s (State.stepWall s half source role) := by
  unfold State.stepWall
  extract_lets old was src x1
  have h1 : Chg [.wall, .scribe, .port, .tamper] s x1 := Chg.step (Chg.step (Chg.refl _ _) (Chg.setWall ..) (by decide)) (State.raise_chg ..) (by decide)
  clear_value x1
  exact Chg.ite (Chg.step h1 (State.scribeWallStep_chg ..) (by decide)) (Chg.ite (Chg.step h1 (State.scribeWallValid_chg ..) (by decide)) h1)

theorem State.reply_chg (s : State) (c : Caller) (res : ℕ) (val : List ℤ) : Chg [.port] s (State.reply s c res val) := by
  unfold State.reply
  repeat' (first
    | with_reducible exact Chg.refl _ _
    | with_reducible assumption
    | (apply Chg.step; rotate_left
       with_reducible exact State.modConn_chg ..
       decide)
    | split)

theorem State.opWall_chg (s : State) (c : Caller) (sec : ℕ) (nsec : ℕ) : Chg [.wall, .scribe, .port, .tamper] s (State.opWall s c sec nsec) := by
  unfold State.opWall
  repeat' (first
    | with_reducible exact Chg.refl _ _
    | with_reducible assumption
    | (apply Chg.step; rotate_left
       (first
         | with_reducible exact State.reply_chg ..
         | with_reducible exact State.stepWall_chg ..)
       decide)
    | split)

theorem State.scheduleRevision_chg (s : State) (r : PendingRev) : Chg [.startup, .port] s (State.scheduleRevision s r) := by
  unfold State.scheduleRevision
  repeat' (first
    | with_reducible exact Chg.refl _ _
    | with_reducible assumption
    | (apply Chg.step; rotate_left
       with_reducible exact State.raise_chg ..
       decide)
    | (extract_lets +onlyGivenNames x1
       suffices hx : Chg [.startup, .port] s x1
       on_goal 1 => clear_value x1
       on_goal 2 => unfold x1)
    | (extract_lets +onlyGivenNames x1
       suffices hx : Chg [.startup, .port] s x1.2
       on_goal 1 => clear_value x1
       on_goal 2 => unfold x1)
    | (extract_lets +onlyGivenNames x1; clear_value x1)
    | split
    | fail_if_no_progress (with_reducible refine Chg.step ?_ (Chg.setStartup _ _) (by decide)))

theorem State.opCommit_chg (s : State) (c : Caller) (code : W32) (boundary : ℕ) (base : ℕ) (recs : List Rec) (arrival : ℕ) : Chg [.startup, .port] s (State.opCommit s c code boundary base recs arrival) := by
  unfold State.opCommit
  repeat' (first
    | with_reducible exact Chg.refl _ _
    | with_reducible assumption
    | (apply Chg.step; rotate_left
       (first
         | with_reducible exact State.modConn_chg ..
         | with_reducible exact State.reply_chg ..
         | with_reducible exact State.scheduleRevision_chg ..)
       decide)
    | (extract_lets +onlyGivenNames x1
       suffices hx : Chg [.startup, .port] s x1
       on_goal 1 => clear_value x1
       on_goal 2 => unfold x1)
    | split)

theorem State.opArm_chg (s : State) (c : Caller) (deadlineMin : ℕ) (drain : ℕ) : Chg [.update, .port] s (State.opArm s c deadlineMin drain) := by
  unfold State.opArm
  repeat' (first
    | with_reducible exact Chg.refl _ _
    | with_reducible assumption
    | (apply Chg.step; rotate_left
       (first
         | with_reducible exact State.modUpdate_chg ..
         | with_reducible exact State.raise_chg ..
         | with_reducible exact State.reply_chg ..)
       decide)
    | (extract_lets +onlyGivenNames x1
       suffices hx : Chg [.update, .port] s x1
       on_goal 1 => clear_value x1
       on_goal 2 => unfold x1)
    | (extract_lets +onlyGivenNames x1
       suffices hx : Chg [.update, .port] s x1.2
       on_goal 1 => clear_value x1
       on_goal 2 => unfold x1)
    | (extract_lets +onlyGivenNames x1; clear_value x1)
    | split)

theorem State.metLogAdd_chg (s : State) (kind : MetLogKind) (role : Option Role) (hash : ℕ) (legal : ℕ) : Chg [.scribe] s (State.metLogAdd s kind role hash legal) := by
  unfold State.metLogAdd
  repeat' (first
    | with_reducible exact Chg.refl _ _
    | with_reducible assumption
    | (apply Chg.step; rotate_left
       with_reducible exact State.modScribe_chg ..
       decide))

theorem State.setLife_chg (s : State) (l : Life) : Chg [.ident, .port] s (State.setLife s l) := by
  unfold State.setLife
  repeat' (first
    | with_reducible exact Chg.refl _ _
    | with_reducible assumption
    | (apply Chg.step; rotate_left
       with_reducible exact State.raise_chg ..
       decide)
    | (extract_lets +onlyGivenNames x1
       suffices hx : Chg [.ident, .port] s x1
       on_goal 1 => clear_value x1
       on_goal 2 => unfold x1)
    | (extract_lets +onlyGivenNames x1
       suffices hx : Chg [.ident, .port] s x1.2
       on_goal 1 => clear_value x1
       on_goal 2 => unfold x1)
    | (extract_lets +onlyGivenNames x1; clear_value x1)
    | split
    | fail_if_no_progress (with_reducible refine Chg.step ?_ (Chg.setIdent _ _) (by decide)))

theorem State.opSeal_chg (s : State) (c : Caller) : Chg [.scribe, .ident, .port] s (State.opSeal s c) := by
  unfold State.opSeal
  repeat' (first
    | with_reducible exact Chg.refl _ _
    | with_reducible assumption
    | (apply Chg.step; rotate_left
       (first
         | with_reducible exact State.endPeriod_chg ..
         | with_reducible exact State.metLogAdd_chg ..
         | with_reducible exact State.modScribe_chg ..
         | with_reducible exact State.raiseS_chg ..
         | with_reducible exact State.reply_chg ..
         | with_reducible exact State.setLife_chg ..)
       decide)
    | (extract_lets +onlyGivenNames x1
       suffices hx : Chg [.scribe, .ident, .port] s x1
       on_goal 1 => clear_value x1
       on_goal 2 => unfold x1)
    | (extract_lets +onlyGivenNames x1
       suffices hx : Chg [.scribe, .ident, .port] s x1.2
       on_goal 1 => clear_value x1
       on_goal 2 => unfold x1)
    | (extract_lets +onlyGivenNames x1; clear_value x1)
    | split)

theorem State.opRegClear_chg (s : State) (c : Caller) (b : BuckNo) : Chg [.port, .supply] s (State.opRegClear s c b) := by
  unfold State.opRegClear
  repeat' (first
    | with_reducible exact Chg.refl _ _
    | with_reducible assumption
    | (apply Chg.step; rotate_left
       (first
         | with_reducible exact State.modReg_chg ..
         | with_reducible exact State.reply_chg ..)
       decide))

theorem State.opAbort_chg (s : State) (c : Caller) (k2 : Bool) : Chg [.juggler, .barker, .scribe, .update, .port, .tokens] s (State.opAbort s c k2) := by
  unfold State.opAbort
  repeat' (first
    | with_reducible exact Chg.refl _ _
    | with_reducible assumption
    | (apply Chg.step; rotate_left
       (first
         | with_reducible exact State.abandon_chg ..
         | with_reducible exact State.disarm_chg ..
         | with_reducible exact State.modStaging_chg ..
         | with_reducible exact State.reply_chg ..)
       decide)
    | split)

theorem State.opPumpClear_chg (s : State) (c : Caller) (p : PumpNo) : Chg [.port, .drives] s (State.opPumpClear s c p) := by
  unfold State.opPumpClear
  repeat' (first
    | with_reducible exact Chg.refl _ _
    | with_reducible assumption
    | (apply Chg.step; rotate_left
       (first
         | with_reducible exact State.modPump_chg ..
         | with_reducible exact State.reply_chg ..)
       decide))

theorem State.writeCurt_chg (s : State) (limitKw : ℕ) (validS : ℕ) : Chg [.juggler, .port] s (State.writeCurt s limitKw validS) := by
  unfold State.writeCurt
  repeat' (first
    | with_reducible exact Chg.refl _ _
    | with_reducible assumption
    | (apply Chg.step; rotate_left
       (first
         | with_reducible exact State.modJug_chg ..
         | with_reducible exact State.recurtail_chg ..)
       decide))

theorem State.opCurt_chg (s : State) (c : Caller) (limitKw : ℕ) (validS : ℕ) : Chg [.juggler, .port] s (State.opCurt s c limitKw validS) := by
  unfold State.opCurt
  repeat' (first
    | with_reducible exact Chg.refl _ _
    | with_reducible assumption
    | (apply Chg.step; rotate_left
       (first
         | with_reducible exact State.reply_chg ..
         | with_reducible exact State.writeCurt_chg ..)
       decide)
    | split)

theorem State.modLs_chg (s : State) (n : ℕ) (f : LoadSw → LoadSw) : Chg [.drives] s (State.modLs s n f) := by
  unfold State.modLs
  repeat' (first
    | with_reducible exact Chg.refl _ _
    | with_reducible assumption
    | (extract_lets +onlyGivenNames x1
       suffices hx : Chg [.drives] s x1
       on_goal 1 => clear_value x1
       on_goal 2 => unfold x1)
    | (extract_lets +onlyGivenNames x1
       suffices hx : Chg [.drives] s x1.2
       on_goal 1 => clear_value x1
       on_goal 2 => unfold x1)
    | (extract_lets +onlyGivenNames x1; clear_value x1)
    | split
    | fail_if_no_progress (with_reducible refine Chg.step ?_ (Chg.setDrives _ _) (by decide)))

theorem State.opLsClear_chg (s : State) (c : Caller) (n : LsNo) : Chg [.port, .drives] s (State.opLsClear s c n) := by
  unfold State.opLsClear
  repeat' (first
    | with_reducible exact Chg.refl _ _
    | with_reducible assumption
    | (apply Chg.step; rotate_left
       (first
         | with_reducible exact State.modLs_chg ..
         | with_reducible exact State.refreshLs_chg ..
         | with_reducible exact State.reply_chg ..)
       decide))

theorem State.opDisarm_chg (s : State) (c : Caller) : Chg [.juggler, .barker, .scribe, .update, .port, .tokens] s (State.opDisarm s c) := by
  unfold State.opDisarm
  repeat' (first
    | with_reducible exact Chg.refl _ _
    | with_reducible assumption
    | (apply Chg.step; rotate_left
       (first
         | with_reducible exact State.disarm_chg ..
         | with_reducible exact State.reply_chg ..)
       decide)
    | split)

theorem State.opLegClear_chg (s : State) (c : Caller) (leg : LegNo) : Chg [.legs, .port] s (State.opLegClear s c leg) := by
  unfold State.opLegClear
  repeat' (first
    | with_reducible exact Chg.refl _ _
    | with_reducible assumption
    | (apply Chg.step; rotate_left
       (first
         | with_reducible exact State.modLeg_chg ..
         | with_reducible exact State.reply_chg ..)
       decide))

theorem State.logKey_chg (s : State) (k : Caller) (slot : ℕ) (destroy : Bool) (attr : W32) : Chg [.keys, .port] s (State.logKey s k slot destroy attr) := by
  unfold State.logKey
  repeat' (first
    | with_reducible exact Chg.refl _ _
    | with_reducible assumption
    | (apply Chg.step; rotate_left
       with_reducible exact State.raise_chg ..
       decide)
    | (extract_lets +onlyGivenNames x1
       suffices hx : Chg [.keys, .port] s x1
       on_goal 1 => clear_value x1
       on_goal 2 => unfold x1)
    | (extract_lets +onlyGivenNames x1
       suffices hx : Chg [.keys, .port] s x1.2
       on_goal 1 => clear_value x1
       on_goal 2 => unfold x1)
    | (extract_lets +onlyGivenNames x1; clear_value x1)
    | split
    | fail_if_no_progress (with_reducible refine Chg.step ?_ (Chg.setKeys _ _) (by decide)))

theorem State.opKeyDestroy_chg (s : State) (c : Caller) (slot : SlotNo) : Chg [.keys, .port] s (State.opKeyDestroy s c slot) := by
  unfold State.opKeyDestroy
  repeat' (first
    | with_reducible exact Chg.refl _ _
    | with_reducible assumption
    | (apply Chg.step; rotate_left
       (first
         | with_reducible exact State.logKey_chg ..
         | with_reducible exact State.modSlot_chg ..
         | with_reducible exact State.reply_chg ..)
       decide)
    | (extract_lets +onlyGivenNames x1
       suffices hx : Chg [.keys, .port] s x1
       on_goal 1 => clear_value x1
       on_goal 2 => unfold x1)
    | (extract_lets +onlyGivenNames x1
       suffices hx : Chg [.keys, .port] s x1.2
       on_goal 1 => clear_value x1
       on_goal 2 => unfold x1)
    | (extract_lets +onlyGivenNames x1; clear_value x1)
    | split)

theorem State.opMatrixClear_chg (s : State) (c : Caller) (g : ConvNo) : Chg [.juggler, .port] s (State.opMatrixClear s c g) := by
  unfold State.opMatrixClear
  repeat' (first
    | with_reducible exact Chg.refl _ _
    | with_reducible assumption
    | (apply Chg.step; rotate_left
       (first
         | with_reducible exact State.modMatrix_chg ..
         | with_reducible exact State.reply_chg ..)
       decide)
    | (extract_lets +onlyGivenNames x1
       suffices hx : Chg [.juggler, .port] s x1
       on_goal 1 => clear_value x1
       on_goal 2 => unfold x1)
    | (extract_lets +onlyGivenNames x1
       suffices hx : Chg [.juggler, .port] s x1.2
       on_goal 1 => clear_value x1
       on_goal 2 => unfold x1)
    | (extract_lets +onlyGivenNames x1; clear_value x1)
    | split)

theorem State.opRecommission_chg (s : State) (c : Caller) (p : PartnerInfo) : Chg [.scribe, .ident, .port] s (State.opRecommission s c p) := by
  unfold State.opRecommission
  repeat' (first
    | with_reducible exact Chg.refl _ _
    | with_reducible assumption
    | (apply Chg.step; rotate_left
       (first
         | with_reducible exact State.modScribe_chg ..
         | with_reducible exact State.raise_chg ..
         | with_reducible exact State.reply_chg ..)
       decide)
    | (extract_lets +onlyGivenNames x1
       suffices hx : Chg [.scribe, .ident, .port] s x1
       on_goal 1 => clear_value x1
       on_goal 2 => unfold x1)
    | (extract_lets +onlyGivenNames x1
       suffices hx : Chg [.scribe, .ident, .port] s x1.2
       on_goal 1 => clear_value x1
       on_goal 2 => unfold x1)
    | (extract_lets +onlyGivenNames x1; clear_value x1)
    | split
    | fail_if_no_progress (with_reducible refine Chg.step ?_ (Chg.setIdent _ _) (by decide)))

theorem State.endDemand_chg (s : State) (f : FnRec) : Chg [.port, .safety] s (State.endDemand s f) := by
  unfold State.endDemand
  repeat' (first
    | with_reducible exact Chg.refl _ _
    | with_reducible assumption
    | (apply Chg.step; rotate_left
       (first
         | with_reducible exact State.modFn_chg ..
         | with_reducible exact State.raise_chg ..)
       decide))

theorem State.evalFn_chg (s : State) (f : FnRec) : Chg [.port, .safety] s (State.evalFn s f) := by
  unfold State.evalFn
  repeat' (first
    | with_reducible exact Chg.refl _ _
    | with_reducible assumption
    | (apply Chg.step; rotate_left
       (first
         | with_reducible exact State.endDemand_chg ..
         | with_reducible exact State.modFn_chg ..
         | with_reducible exact State.raise_chg ..)
       decide)
    | (extract_lets +onlyGivenNames x1
       suffices hx : Chg [.port, .safety] s x1
       on_goal 1 => clear_value x1
       on_goal 2 => unfold x1)
    | (extract_lets +onlyGivenNames x1
       suffices hx : Chg [.port, .safety] s x1.2
       on_goal 1 => clear_value x1
       on_goal 2 => unfold x1)
    | (extract_lets +onlyGivenNames x1; clear_value x1)
    | split)

theorem State.evalFns_chg (s : State) : Chg [.legs, .laws, .pair, .port, .safety] s (State.evalFns s) := by
  unfold State.evalFns
  repeat' (first
    | with_reducible exact Chg.refl _ _
    | with_reducible assumption
    | (apply Chg.step; rotate_left
       (first
         | with_reducible exact State.evalFn_chg ..
         | with_reducible exact State.react_chg ..)
       decide)
    | (extract_lets +onlyGivenNames x1; clear_value x1)
    | split
    | (with_reducible apply Chg.foldl; rotate_left; intro s _))

theorem State.opAcknowledge_chg (s : State) (c : Caller) (fn : FuncNo) : Chg [.legs, .laws, .juggler, .barker, .scribe, .keys, .update, .pair, .port, .tokens, .safety] s (State.opAcknowledge s c fn) := by
  unfold State.opAcknowledge
  repeat' (first
    | with_reducible exact Chg.refl _ _
    | with_reducible assumption
    | (apply Chg.step; rotate_left
       (first
         | with_reducible exact State.acknowledge_chg ..
         | with_reducible exact State.evalFns_chg ..
         | with_reducible exact State.pauseScan_chg ..
         | with_reducible exact State.reply_chg ..)
       decide)
    | split)

theorem State.planYield_chg (s : State) (cause : ℕ) : Chg [.pair] s (State.planYield s cause) := by
  unfold State.planYield
  repeat' (first
    | with_reducible exact Chg.refl _ _
    | with_reducible assumption
    | (extract_lets +onlyGivenNames x1
       suffices hx : Chg [.pair] s x1
       on_goal 1 => clear_value x1
       on_goal 2 => unfold x1)
    | (extract_lets +onlyGivenNames x1
       suffices hx : Chg [.pair] s x1.2
       on_goal 1 => clear_value x1
       on_goal 2 => unfold x1)
    | (extract_lets +onlyGivenNames x1; clear_value x1)
    | split
    | fail_if_no_progress (with_reducible refine Chg.step ?_ (Chg.setPair _ _) (by decide)))

theorem State.opYield_chg (s : State) (c : Caller) : Chg [.pair, .port] s (State.opYield s c) := by
  unfold State.opYield
  repeat' (first
    | with_reducible exact Chg.refl _ _
    | with_reducible assumption
    | (apply Chg.step; rotate_left
       (first
         | with_reducible exact State.planYield_chg ..
         | with_reducible exact State.reply_chg ..)
       decide)
    | split)

theorem State.opKeyImport_chg (s : State) (c : Caller) (slot : SlotNo) (k : KeyImport) : Chg [.keys, .port] s (State.opKeyImport s c slot k) := by
  unfold State.opKeyImport
  repeat' (first
    | with_reducible exact Chg.refl _ _
    | with_reducible assumption
    | (apply Chg.step; rotate_left
       (first
         | with_reducible exact State.logKey_chg ..
         | with_reducible exact State.modSlot_chg ..
         | with_reducible exact State.reply_chg ..
         | with_reducible exact State.useKey_chg ..)
       decide)
    | (extract_lets +onlyGivenNames x1
       suffices hx : Chg [.keys, .port] s x1
       on_goal 1 => clear_value x1
       on_goal 2 => unfold x1)
    | (extract_lets +onlyGivenNames x1
       suffices hx : Chg [.keys, .port] s x1.2
       on_goal 1 => clear_value x1
       on_goal 2 => unfold x1)
    | (extract_lets +onlyGivenNames x1; clear_value x1)
    | split)

theorem State.blowFuse_chg (s : State) : Chg [.update, .port] s (State.blowFuse s) := by
  unfold State.blowFuse
  repeat' (first
    | with_reducible exact Chg.refl _ _
    | with_reducible assumption
    | (apply Chg.step; rotate_left
       (first
         | with_reducible exact State.modUpdate_chg ..
         | with_reducible exact State.raise_chg ..)
       decide)
    | (extract_lets +onlyGivenNames x1
       suffices hx : Chg [.update, .port] s x1
       on_goal 1 => clear_value x1
       on_goal 2 => unfold x1)
    | (extract_lets +onlyGivenNames x1
       suffices hx : Chg [.update, .port] s x1.2
       on_goal 1 => clear_value x1
       on_goal 2 => unfold x1)
    | (extract_lets +onlyGivenNames x1; clear_value x1)
    | split)

theorem State.opRollback_chg (s : State) (c : Caller) : Chg [.update, .port] s (State.opRollback s c) := by
  unfold State.opRollback
  repeat' (first
    | with_reducible exact Chg.refl _ _
    | with_reducible assumption
    | (apply Chg.step; rotate_left
       (first
         | with_reducible exact State.blowFuse_chg ..
         | with_reducible exact State.reply_chg ..)
       decide))

theorem State.opLegal_chg (s : State) (c : Caller) (partHash : ℕ) (legalVer : ℕ) : Chg [.scribe, .update, .port] s (State.opLegal s c partHash legalVer) := by
  unfold State.opLegal
  repeat' (first
    | with_reducible exact Chg.refl _ _
    | with_reducible assumption
    | (apply Chg.step; rotate_left
       (first
         | with_reducible exact State.metLogAdd_chg ..
         | with_reducible exact State.modUpdate_chg ..
         | with_reducible exact State.raise_chg ..
         | with_reducible exact State.reply_chg ..)
       decide)
    | (extract_lets +onlyGivenNames x1
       suffices hx : Chg [.scribe, .update, .port] s x1
       on_goal 1 => clear_value x1
       on_goal 2 => unfold x1)
    | (extract_lets +onlyGivenNames x1
       suffices hx : Chg [.scribe, .update, .port] s x1.2
       on_goal 1 => clear_value x1
       on_goal 2 => unfold x1)
    | (extract_lets +onlyGivenNames x1; clear_value x1)
    | split)

theorem State.writePage_chg (s : State) (k : BankId) (p : ℕ) (d : List W32) : Chg [.flash] s (State.writePage s k p d) := by
  unfold State.writePage
  repeat' (first
    | with_reducible exact Chg.refl _ _
    | with_reducible assumption
    | (extract_lets +onlyGivenNames x1
       suffices hx : Chg [.flash] s x1
       on_goal 1 => clear_value x1
       on_goal 2 => unfold x1)
    | (extract_lets +onlyGivenNames x1
       suffices hx : Chg [.flash] s x1.2
       on_goal 1 => clear_value x1
       on_goal 2 => unfold x1)
    | (extract_lets +onlyGivenNames x1; clear_value x1)
    | split
    | fail_if_no_progress (with_reducible refine Chg.step ?_ (Chg.setFlash _ _) (by decide)))

theorem State.takePiece_chg (s : State) (c : Caller) (k2 : Bool) (i : ℕ) (data : List W32) : Chg [.flash, .update, .port] s (State.takePiece s c k2 i data) := by
  unfold State.takePiece
  repeat' (first
    | with_reducible exact Chg.refl _ _
    | with_reducible assumption
    | (apply Chg.step; rotate_left
       (first
         | with_reducible exact State.modStaging_chg ..
         | with_reducible exact State.raise_chg ..
         | with_reducible exact State.reply_chg ..
         | with_reducible exact State.writePage_chg ..)
       decide)
    | (extract_lets +onlyGivenNames x1
       suffices hx : Chg [.flash, .update, .port] s x1
       on_goal 1 => clear_value x1
       on_goal 2 => unfold x1)
    | (extract_lets +onlyGivenNames x1
       suffices hx : Chg [.flash, .update, .port] s x1.2
       on_goal 1 => clear_value x1
       on_goal 2 => unfold x1)
    | (extract_lets +onlyGivenNames x1; clear_value x1)
    | split)

theorem State.writePages_chg (s : State) (k : BankId) (p : ℕ) (w : List W32) (n : ℕ) : Chg [.flash] s (State.writePages s k p w n) := by
  unfold State.writePages
  repeat' (first
    | with_reducible exact Chg.refl _ _
    | with_reducible assumption
    | (apply Chg.step; rotate_left
       with_reducible exact State.writePage_chg ..
       decide)
    | split
    | (with_reducible apply Chg.foldl; rotate_left; intro s _))

theorem State.beginStaging_chg (s : State) (k2 : Bool) (h : List W32) : Chg [.flash, .juggler, .barker, .scribe, .update, .port, .tokens] s (State.beginStaging s k2 h) := by
  unfold State.beginStaging
  repeat' (first
    | with_reducible exact Chg.refl _ _
    | with_reducible assumption
    | (apply Chg.step; rotate_left
       (first
         | with_reducible exact State.abandon_chg ..
         | with_reducible exact State.disarm_chg ..
         | with_reducible exact State.modStaging_chg ..
         | with_reducible exact State.modUpdate_chg ..
         | with_reducible exact State.raise_chg ..
         | with_reducible exact State.writePages_chg ..)
       decide)
    | (extract_lets +onlyGivenNames x1; clear_value x1)
    | split)

theorem State.pkgSigned_chg (s : State) (h : List W32) (k2 : Bool) (ok : Bool) : Chg [.keys, .port] s (State.pkgSigned s h k2 ok).2 := by
  unfold State.pkgSigned
  repeat' (first
    | with_reducible exact Chg.refl _ _
    | with_reducible assumption
    | (apply Chg.step; rotate_left
       with_reducible exact State.useKey_chg ..
       decide)
    | (extract_lets +onlyGivenNames x1
       suffices hx : Chg [.keys, .port] s x1
       on_goal 1 => clear_value x1
       on_goal 2 => unfold x1)
    | (extract_lets +onlyGivenNames x1
       suffices hx : Chg [.keys, .port] s x1.2
       on_goal 1 => clear_value x1
       on_goal 2 => unfold x1)
    | (extract_lets +onlyGivenNames x1; clear_value x1)
    | split)

theorem State.takeHeader_chg (s : State) (c : Caller) (k2 : Bool) (ok : Bool) : Chg [.flash, .juggler, .barker, .scribe, .keys, .update, .port, .tokens] s (State.takeHeader s c k2 ok) := by
  unfold State.takeHeader
  repeat' (first
    | with_reducible exact Chg.refl _ _
    | with_reducible assumption
    | (apply Chg.step; rotate_left
       (first
         | with_reducible exact State.beginStaging_chg ..
         | with_reducible exact State.modStaging_chg ..
         | with_reducible exact State.pkgSigned_chg ..
         | with_reducible exact State.raise_chg ..
         | with_reducible exact State.reply_chg ..)
       decide)
    | (extract_lets +onlyGivenNames x1
       suffices hx : Chg [.flash, .juggler, .barker, .scribe, .keys, .update, .port, .tokens] s x1
       on_goal 1 => clear_value x1
       on_goal 2 => unfold x1)
    | (extract_lets +onlyGivenNames x1
       suffices hx : Chg [.flash, .juggler, .barker, .scribe, .keys, .update, .port, .tokens] s x1.2
       on_goal 1 => clear_value x1
       on_goal 2 => unfold x1)
    | (extract_lets +onlyGivenNames x1; clear_value x1)
    | split)

theorem State.opPiece_chg (s : State) (c : Caller) (piece : ℕ) (data : List W32) (sigOk : Bool) : Chg [.flash, .juggler, .barker, .scribe, .keys, .update, .port, .tokens] s (State.opPiece s c piece data sigOk) := by
  unfold State.opPiece
  repeat' (first
    | with_reducible exact Chg.refl _ _
    | with_reducible assumption
    | (apply Chg.step; rotate_left
       (first
         | with_reducible exact State.modStaging_chg ..
         | with_reducible exact State.reply_chg ..
         | with_reducible exact State.takeHeader_chg ..
         | with_reducible exact State.takePiece_chg ..)
       decide)
    | (extract_lets +onlyGivenNames x1
       suffices hx : Chg [.flash, .juggler, .barker, .scribe, .keys, .update, .port, .tokens] s x1
       on_goal 1 => clear_value x1
       on_goal 2 => unfold x1)
    | (extract_lets +onlyGivenNames x1
       suffices hx : Chg [.flash, .juggler, .barker, .scribe, .keys, .update, .port, .tokens] s x1.2
       on_goal 1 => clear_value x1
       on_goal 2 => unfold x1)
    | (extract_lets +onlyGivenNames x1; clear_value x1)
    | split)

theorem State.opSealBreak_chg (s : State) (c : Caller) : Chg [.scribe, .ident, .port, .tamper] s (State.opSealBreak s c) := by
  unfold State.opSealBreak
  repeat' (first
    | with_reducible exact Chg.refl _ _
    | with_reducible assumption
    | (apply Chg.step; rotate_left
       (first
         | with_reducible exact State.countTamper_chg ..
         | with_reducible exact State.endPeriod_chg ..
         | with_reducible exact State.metLogAdd_chg ..
         | with_reducible exact State.modScribe_chg ..
         | with_reducible exact State.modSessions_chg ..
         | with_reducible exact State.raiseS_chg ..
         | with_reducible exact State.reply_chg ..
         | with_reducible exact State.setLife_chg ..)
       decide)
    | (extract_lets +onlyGivenNames x1
       suffices hx : Chg [.scribe, .ident, .port, .tamper] s x1
       on_goal 1 => clear_value x1
       on_goal 2 => unfold x1)
    | (extract_lets +onlyGivenNames x1
       suffices hx : Chg [.scribe, .ident, .port, .tamper] s x1.2
       on_goal 1 => clear_value x1
       on_goal 2 => unfold x1)
    | (extract_lets +onlyGivenNames x1; clear_value x1)
    | split)

theorem State.wrongPassword_chg (s : State) : Chg [.safety] s (State.wrongPassword s) := by
  unfold State.wrongPassword
  repeat' (first
    | with_reducible exact Chg.refl _ _
    | with_reducible assumption
    | (apply Chg.step; rotate_left
       with_reducible exact State.modSafety_chg ..
       decide)
    | (extract_lets +onlyGivenNames x1
       suffices hx : Chg [.safety] s x1
       on_goal 1 => clear_value x1
       on_goal 2 => unfold x1)
    | (extract_lets +onlyGivenNames x1
       suffices hx : Chg [.safety] s x1.2
       on_goal 1 => clear_value x1
       on_goal 2 => unfold x1)
    | (extract_lets +onlyGivenNames x1; clear_value x1)
    | split)

theorem State.opSafetyChange_chg (s : State) (c : Caller) (pw : List Byte) (ch : SafetyChange) : Chg [.port, .tamper, .safety] s (State.opSafetyChange s c pw ch) := by
  unfold State.opSafetyChange
  repeat' (first
    | with_reducible exact Chg.refl _ _
    | with_reducible assumption
    | (apply Chg.step; rotate_left
       (first
         | with_reducible exact State.logChange_chg ..
         | with_reducible exact State.modSafety_chg ..
         | with_reducible exact State.raise_chg ..
         | with_reducible exact State.reply_chg ..
         | with_reducible exact State.wrongPassword_chg ..)
       decide)
    | (extract_lets +onlyGivenNames x1
       suffices hx : Chg [.port, .tamper, .safety] s x1
       on_goal 1 => clear_value x1
       on_goal 2 => unfold x1)
    | (extract_lets +onlyGivenNames x1
       suffices hx : Chg [.port, .tamper, .safety] s x1.2
       on_goal 1 => clear_value x1
       on_goal 2 => unfold x1)
    | (extract_lets +onlyGivenNames x1; clear_value x1)
    | split)

theorem State.opLawClear_chg (s : State) (c : Caller) (l : LawNo) : Chg [.laws, .port] s (State.opLawClear s c l) := by
  unfold State.opLawClear
  repeat' (first
    | with_reducible exact Chg.refl _ _
    | with_reducible assumption
    | (apply Chg.step; rotate_left
       (first
         | with_reducible exact State.modLaw_chg ..
         | with_reducible exact State.raise_chg ..
         | with_reducible exact State.reply_chg ..)
       decide)
    | (extract_lets +onlyGivenNames x1
       suffices hx : Chg [.laws, .port] s x1
       on_goal 1 => clear_value x1
       on_goal 2 => unfold x1)
    | (extract_lets +onlyGivenNames x1
       suffices hx : Chg [.laws, .port] s x1.2
       on_goal 1 => clear_value x1
       on_goal 2 => unfold x1)
    | (extract_lets +onlyGivenNames x1; clear_value x1)
    | split)

theorem State.applyOp_chg (s : State) (c : Caller) (arrival : ℕ) (a3 : OpReq) : Chg [.wall, .startup, .flash, .legs, .laws, .juggler, .barker, .scribe, .ident, .keys, .update, .pair, .port, .tokens, .tamper, .safety, .drives, .supply] s (State.applyOp s c arrival a3) := by
  unfold State.applyOp
  repeat' (first
    | with_reducible exact Chg.refl _ _
    | with_reducible assumption
    | (apply Chg.step; rotate_left
       (first
         | with_reducible exact State.opAbort_chg ..
         | with_reducible exact State.opAcknowledge_chg ..
         | with_reducible exact State.opArm_chg ..
         | with_reducible exact State.opCommit_chg ..
         | with_reducible exact State.opCurt_chg ..
         | with_reducible exact State.opDisarm_chg ..
         | with_reducible exact State.opKeyDestroy_chg ..
         | with_reducible exact State.opKeyImport_chg ..
         | with_reducible exact State.opLawClear_chg ..
         | with_reducible exact State.opLegClear_chg ..
         | with_reducible exact State.opLegal_chg ..
         | with_reducible exact State.opLsClear_chg ..
         | with_reducible exact State.opMatrixClear_chg ..
         | with_reducible exact State.opPiece_chg ..
         | with_reducible exact State.opPumpClear_chg ..
         | with_reducible exact State.opRecommission_chg ..
         | with_reducible exact State.opRegClear_chg ..
         | with_reducible exact State.opRollback_chg ..
         | with_reducible exact State.opSafetyChange_chg ..
         | with_reducible exact State.opSeal_chg ..
         | with_reducible exact State.opSealBreak_chg ..
         | with_reducible exact State.opWall_chg ..
         | with_reducible exact State.opYield_chg ..)
       decide)
    | split)

theorem State.pauseExpired_chg (s : State) (c : ℕ) : Chg [.juggler, .barker, .scribe, .keys, .update, .port, .tokens] s (State.pauseExpired s c) := by
  unfold State.pauseExpired
  repeat' (first
    | with_reducible exact Chg.refl _ _
    | with_reducible assumption
    | (apply Chg.step; rotate_left
       (first
         | with_reducible exact State.endCtx_chg ..
         | with_reducible exact State.pauseCtx_chg ..)
       decide)
    | (extract_lets +onlyGivenNames x1
       suffices hx : Chg [.juggler, .barker, .scribe, .keys, .update, .port, .tokens] s x1
       on_goal 1 => clear_value x1
       on_goal 2 => unfold x1)
    | split)

theorem State.dropChange_chg (s : State) (o : ℕ) : Chg [.tokens] s (State.dropChange s o) := by
  unfold State.dropChange
  repeat' (first
    | with_reducible exact Chg.refl _ _
    | with_reducible assumption
    | (apply Chg.step; rotate_left
       with_reducible exact State.modTok_chg ..
       decide))

theorem State.takeDcu_chg (s : State) (inst : ℕ) (payload : BitVec 64) : Chg [.thermal, .port] s (State.takeDcu s inst payload) := by
  unfold State.takeDcu
  repeat' (first
    | with_reducible exact Chg.refl _ _
    | with_reducible assumption
    | (apply Chg.step; rotate_left
       with_reducible exact State.raise_chg ..
       decide)
    | (extract_lets +onlyGivenNames x1
       suffices hx : Chg [.thermal, .port] s x1
       on_goal 1 => clear_value x1
       on_goal 2 => unfold x1)
    | (extract_lets +onlyGivenNames x1
       suffices hx : Chg [.thermal, .port] s x1.2
       on_goal 1 => clear_value x1
       on_goal 2 => unfold x1)
    | (extract_lets +onlyGivenNames x1; clear_value x1)
    | split
    | fail_if_no_progress (with_reducible refine Chg.step ?_ (Chg.setThermal _ _) (by decide)))

theorem State.dcuLost_chg (s : State) (inst : ℕ) : Chg [.thermal, .port] s (State.dcuLost s inst) := by
  unfold State.dcuLost
  repeat' (first
    | with_reducible exact Chg.refl _ _
    | with_reducible assumption
    | (apply Chg.step; rotate_left
       with_reducible exact State.raise_chg ..
       decide)
    | (extract_lets +onlyGivenNames x1
       suffices hx : Chg [.thermal, .port] s x1
       on_goal 1 => clear_value x1
       on_goal 2 => unfold x1)
    | (extract_lets +onlyGivenNames x1
       suffices hx : Chg [.thermal, .port] s x1.2
       on_goal 1 => clear_value x1
       on_goal 2 => unfold x1)
    | (extract_lets +onlyGivenNames x1; clear_value x1)
    | split
    | fail_if_no_progress (with_reducible refine Chg.step ?_ (Chg.setThermal _ _) (by decide)))

theorem State.takeTamper_chg (s : State) (i : Fin 4) (level : Bool) : Chg [.port, .tamper] s (State.takeTamper s i level) := by
  unfold State.takeTamper
  repeat' (first
    | with_reducible exact Chg.refl _ _
    | with_reducible assumption
    | (apply Chg.step; rotate_left
       with_reducible exact State.countTamper_chg ..
       decide)
    | (extract_lets +onlyGivenNames x1
       suffices hx : Chg [.port, .tamper] s x1
       on_goal 1 => clear_value x1
       on_goal 2 => unfold x1)
    | (extract_lets +onlyGivenNames x1
       suffices hx : Chg [.port, .tamper] s x1.2
       on_goal 1 => clear_value x1
       on_goal 2 => unfold x1)
    | (extract_lets +onlyGivenNames x1; clear_value x1)
    | split
    | fail_if_no_progress (with_reducible refine Chg.step ?_ (Chg.setTamper _ _) (by decide)))

theorem State.modBuilding_chg (s : State) (c : ℕ) (f : Receipt → Receipt) : Chg [.scribe] s (State.modBuilding s c f) := by
  unfold State.modBuilding
  repeat' (first
    | with_reducible exact Chg.refl _ _
    | with_reducible assumption
    | (apply Chg.step; rotate_left
       with_reducible exact State.modScribe_chg ..
       decide))

theorem State.goNoCounter_chg (s : State) (c : ℕ) : Chg [.scribe, .port] s (State.goNoCounter s c) := by
  unfold State.goNoCounter
  repeat' (first
    | with_reducible exact Chg.refl _ _
    | with_reducible assumption
    | (apply Chg.step; rotate_left
       (first
         | with_reducible exact State.modBuilding_chg ..
         | with_reducible exact State.raiseS_chg ..)
       decide)
    | split)

theorem State.dioEnded_chg (s : State) (o : ℕ) : Chg [.juggler, .barker, .scribe, .keys, .update, .port, .tokens] s (State.dioEnded s o) := by
  unfold State.dioEnded
  repeat' (first
    | with_reducible exact Chg.refl _ _
    | with_reducible assumption
    | (apply Chg.step; rotate_left
       with_reducible exact State.endCtx_chg ..
       decide)
    | (extract_lets +onlyGivenNames x1; clear_value x1)
    | split
    | (with_reducible apply Chg.foldl; rotate_left; intro s _))

theorem State.dioSilent_chg (s : State) (o : ℕ) : Chg [.juggler, .barker, .scribe, .keys, .update, .port, .tokens] s (State.dioSilent s o) := by
  unfold State.dioSilent
  repeat' (first
    | with_reducible exact Chg.refl _ _
    | with_reducible assumption
    | (apply Chg.step; rotate_left
       (first
         | with_reducible exact State.modDisp_chg ..
         | with_reducible exact State.pauseCtx_chg ..)
       decide)
    | split
    | (with_reducible apply Chg.foldl; rotate_left; intro s _))

theorem State.takeVlink_chg (s : State) (f : Tunnel) : Chg [.barker, .keys, .port, .tamper] s (State.takeVlink s f) := by
  have ht := State.tunnelIn_chg s f 1
  unfold State.takeVlink
  generalize s.tunnelIn f 1 = y at ht ⊢
  obtain ⟨_ | o, z⟩ := y
  · exact Chg.step (Chg.refl _ _) ht (by decide)
  · have hz := Chg.step (Chg.refl [.barker, .keys, .port, .tamper] s) ht (by decide)
    split
    · rename_i h; cases h
      split
      · exact Chg.step hz (State.modDisp_chg ..) (by decide)
      · exact Chg.step hz (State.badPayload_chg ..) (by decide)
    · rename_i h; cases h

theorem State.fallSilent_chg (s : State) (src : CurtSource) : Chg [.juggler, .port] s (State.fallSilent s src) := by
  unfold State.fallSilent
  repeat' (first
    | with_reducible exact Chg.refl _ _
    | with_reducible assumption
    | (apply Chg.step; rotate_left
       (first
         | with_reducible exact State.modJug_chg ..
         | with_reducible exact State.raise_chg ..
         | with_reducible exact State.recurtail_chg ..)
       decide)
    | (extract_lets +onlyGivenNames x1
       suffices hx : Chg [.juggler, .port] s x1
       on_goal 1 => clear_value x1
       on_goal 2 => unfold x1)
    | (extract_lets +onlyGivenNames x1
       suffices hx : Chg [.juggler, .port] s x1.2
       on_goal 1 => clear_value x1
       on_goal 2 => unfold x1)
    | (extract_lets +onlyGivenNames x1; clear_value x1)
    | split)

theorem State.openFlight_chg (s : State) (fast : Bool) (fs : List (ℕ × Folio)) (dom : ℕ) (seq : ℕ) : Chg [.thermal] s (State.openFlight s fast fs dom seq) := by
  unfold State.openFlight
  repeat' (first
    | with_reducible exact Chg.refl _ _
    | with_reducible assumption
    | (apply Chg.step; rotate_left
       with_reducible exact State.modFolio_chg ..
       decide)
    | (extract_lets +onlyGivenNames x1
       suffices hx : Chg [.thermal] s x1
       on_goal 1 => clear_value x1
       on_goal 2 => unfold x1)
    | (extract_lets +onlyGivenNames x1
       suffices hx : Chg [.thermal] s x1.2
       on_goal 1 => clear_value x1
       on_goal 2 => unfold x1)
    | (extract_lets +onlyGivenNames x1; clear_value x1)
    | split
    | (with_reducible apply Chg.foldl; rotate_left; intro s _)
    | fail_if_no_progress (with_reducible refine Chg.step ?_ (Chg.setThermal _ _) (by decide)))

theorem State.release1_chg (s : State) (kind : TaskKind) (home : ℕ) (lineDl : Bool) (deadline : Option ℕ) : Chg [.array] s (State.release1 s kind home lineDl deadline) := by
  unfold State.release1
  repeat' (first
    | with_reducible exact Chg.refl _ _
    | with_reducible assumption
    | (apply Chg.step; rotate_left
       with_reducible exact State.modArr_chg ..
       decide))

theorem State.releaseThermal_chg (s : State) (k : TaskKind) (fast : Bool) (n : ℕ) (fs : List (ℕ × Folio)) : Chg [.array, .thermal] s (State.releaseThermal s k fast n fs) := by
  unfold State.releaseThermal
  repeat' (first
    | with_reducible exact Chg.refl _ _
    | with_reducible assumption
    | (apply Chg.step; rotate_left
       (first
         | with_reducible exact State.openFlight_chg ..
         | with_reducible exact State.release1_chg ..)
       decide))

theorem State.pencilWork_chg (s : State) : Chg [.juggler] s (State.pencilWork s) := by
  unfold State.pencilWork
  repeat' (first
    | with_reducible exact Chg.refl _ _
    | with_reducible assumption
    | (apply Chg.step; rotate_left
       with_reducible exact State.modJug_chg ..
       decide)
    | split)

theorem State.applyTiers_chg (s : State) : Chg [.thermal] s (State.applyTiers s) := by
  unfold State.applyTiers
  repeat' (first
    | with_reducible exact Chg.refl _ _
    | with_reducible assumption
    | (apply Chg.step; rotate_left
       with_reducible exact State.modFolio_chg ..
       decide)
    | (extract_lets +onlyGivenNames x1
       suffices hx : Chg [.thermal] s x1
       on_goal 1 => clear_value x1
       on_goal 2 => unfold x1)
    | (extract_lets +onlyGivenNames x1
       suffices hx : Chg [.thermal] s x1.2
       on_goal 1 => clear_value x1
       on_goal 2 => unfold x1)
    | (extract_lets +onlyGivenNames x1; clear_value x1)
    | split
    | (with_reducible apply Chg.foldl; rotate_left; intro s _)
    | fail_if_no_progress (with_reducible refine Chg.step ?_ (Chg.setThermal _ _) (by decide)))

theorem State.decideTiers_chg (s : State) : Chg [.thermal, .port] s (State.decideTiers s) := by
  unfold State.decideTiers
  repeat' (first
    | with_reducible exact Chg.refl _ _
    | with_reducible assumption
    | (apply Chg.step; rotate_left
       with_reducible exact State.raise_chg ..
       decide)
    | (extract_lets +onlyGivenNames x1
       suffices hx : Chg [.thermal, .port] s x1
       on_goal 1 => clear_value x1
       on_goal 2 => unfold x1)
    | (extract_lets +onlyGivenNames x1
       suffices hx : Chg [.thermal, .port] s x1.2
       on_goal 1 => clear_value x1
       on_goal 2 => unfold x1)
    | (extract_lets +onlyGivenNames x1; clear_value x1)
    | split
    | fail_if_no_progress (with_reducible refine Chg.step ?_ (Chg.setThermal _ _) (by decide)))

theorem State.startWave_chg (s : State) (n : ℕ) : Chg [.thermal] s (State.startWave s n) := by
  unfold State.startWave
  repeat' (first
    | with_reducible exact Chg.refl _ _
    | with_reducible assumption
    | (extract_lets +onlyGivenNames x1
       suffices hx : Chg [.thermal] s x1
       on_goal 1 => clear_value x1
       on_goal 2 => unfold x1)
    | (extract_lets +onlyGivenNames x1
       suffices hx : Chg [.thermal] s x1.2
       on_goal 1 => clear_value x1
       on_goal 2 => unfold x1)
    | (extract_lets +onlyGivenNames x1; clear_value x1)
    | split
    | fail_if_no_progress (with_reducible refine Chg.step ?_ (Chg.setThermal _ _) (by decide)))

theorem State.releaseP0_chg (s : State) (l : LawNo) (home : ℕ) (deadline : ℕ) : Chg [.array] s (State.releaseP0 s l home deadline) := by
  unfold State.releaseP0
  repeat' (first
    | with_reducible exact Chg.refl _ _
    | with_reducible assumption
    | (apply Chg.step; rotate_left
       with_reducible exact State.modArr_chg ..
       decide))

theorem State.captureWaves_chg (s : State) (l : ℕ) (stroke : ℕ) : Chg [.buses] s (State.captureWaves s l stroke) := by
  unfold State.captureWaves
  repeat' (first
    | with_reducible exact Chg.refl _ _
    | with_reducible assumption
    | (extract_lets +onlyGivenNames x1
       suffices hx : Chg [.buses] s x1
       on_goal 1 => clear_value x1
       on_goal 2 => unfold x1)
    | (extract_lets +onlyGivenNames x1
       suffices hx : Chg [.buses] s x1.2
       on_goal 1 => clear_value x1
       on_goal 2 => unfold x1)
    | (extract_lets +onlyGivenNames x1; clear_value x1)
    | split
    | fail_if_no_progress (with_reducible refine Chg.step ?_ (Chg.setBuses _ _) (by decide)))

theorem State.releaseStroke_chg (s : State) (l : LawNo) (d : LawDue) (rec_ : Option LawRecord) : Chg [.array, .laws, .buses] s (State.releaseStroke s l d rec_) := by
  unfold State.releaseStroke
  repeat' (first
    | with_reducible exact Chg.refl _ _
    | with_reducible assumption
    | (apply Chg.step; rotate_left
       (first
         | with_reducible exact State.captureWaves_chg ..
         | with_reducible exact State.modLaw_chg ..
         | with_reducible exact State.releaseP0_chg ..)
       decide)
    | (extract_lets +onlyGivenNames x1
       suffices hx : Chg [.array, .laws, .buses] s x1
       on_goal 1 => clear_value x1
       on_goal 2 => unfold x1)
    | (extract_lets +onlyGivenNames x1
       suffices hx : Chg [.array, .laws, .buses] s x1.2
       on_goal 1 => clear_value x1
       on_goal 2 => unfold x1)
    | (extract_lets +onlyGivenNames x1; clear_value x1)
    | split
    | fail_if_no_progress (with_reducible refine Chg.step ?_ (Chg.setLaws _ _) (by decide)))

theorem State.releaseLaw_chg (s : State) (l : LawNo) : Chg [.array, .laws, .buses] s (State.releaseLaw s l) := by
  unfold State.releaseLaw
  repeat' (first
    | with_reducible exact Chg.refl _ _
    | with_reducible assumption
    | (apply Chg.step; rotate_left
       with_reducible exact State.releaseStroke_chg ..
       decide)
    | split)

theorem State.releaseTask_chg (s : State) (k : TaskKind) : Chg [.array, .laws, .juggler, .thermal, .port, .buses] s (State.releaseTask s k) := by
  unfold State.releaseTask
  repeat' (first
    | with_reducible exact Chg.refl _ _
    | with_reducible assumption
    | (apply Chg.step; rotate_left
       (first
         | with_reducible exact State.applyTiers_chg ..
         | with_reducible exact State.decideTiers_chg ..
         | with_reducible exact State.modArr_chg ..
         | with_reducible exact State.pencilWork_chg ..
         | with_reducible exact State.release1_chg ..
         | with_reducible exact State.releaseLaw_chg ..
         | with_reducible exact State.releaseThermal_chg ..
         | with_reducible exact State.startWave_chg ..)
       decide)
    | (extract_lets +onlyGivenNames x1
       suffices hx : Chg [.array, .laws, .juggler, .thermal, .port, .buses] s x1
       on_goal 1 => clear_value x1
       on_goal 2 => unfold x1)
    | (extract_lets +onlyGivenNames x1
       suffices hx : Chg [.array, .laws, .juggler, .thermal, .port, .buses] s x1.2
       on_goal 1 => clear_value x1
       on_goal 2 => unfold x1)
    | (extract_lets +onlyGivenNames x1; clear_value x1)
    | split
    | fail_if_no_progress (with_reducible refine Chg.step ?_ (Chg.setThermal _ _) (by decide)))

theorem State.staleTemp_chg (s : State) (outlet : OutletNo) (chan : Fin 4) : Chg [.thermal, .port] s (State.staleTemp s outlet chan) := by
  unfold State.staleTemp
  repeat' (first
    | with_reducible exact Chg.refl _ _
    | with_reducible assumption
    | (apply Chg.step; rotate_left
       with_reducible exact State.raise_chg ..
       decide)
    | (extract_lets +onlyGivenNames x1
       suffices hx : Chg [.thermal, .port] s x1
       on_goal 1 => clear_value x1
       on_goal 2 => unfold x1)
    | (extract_lets +onlyGivenNames x1
       suffices hx : Chg [.thermal, .port] s x1.2
       on_goal 1 => clear_value x1
       on_goal 2 => unfold x1)
    | (extract_lets +onlyGivenNames x1; clear_value x1)
    | split
    | fail_if_no_progress (with_reducible refine Chg.step ?_ (Chg.setThermal _ _) (by decide)))

theorem State.authExpired_chg (s : State) (c : ℕ) : Chg [.juggler, .barker, .scribe, .keys, .update, .port, .tokens] s (State.authExpired s c) := by
  unfold State.authExpired
  repeat' (first
    | with_reducible exact Chg.refl _ _
    | with_reducible assumption
    | (apply Chg.step; rotate_left
       (first
         | with_reducible exact State.endCtx_chg ..
         | with_reducible exact State.raise_chg ..
         | with_reducible exact State.retryAuth_chg ..)
       decide)
    | (extract_lets +onlyGivenNames x1
       suffices hx : Chg [.juggler, .barker, .scribe, .keys, .update, .port, .tokens] s x1
       on_goal 1 => clear_value x1
       on_goal 2 => unfold x1)
    | split)

theorem State.wallPtp_chg (s : State) (on : Bool) : Chg [.wall, .scribe, .port, .tamper] s (State.wallPtp s on) := by
  unfold State.wallPtp
  repeat' (first
    | with_reducible exact Chg.refl _ _
    | with_reducible assumption
    | (apply Chg.step; rotate_left
       with_reducible exact State.scribeWallValid_chg ..
       decide)
    | (extract_lets +onlyGivenNames x1
       suffices hx : Chg [.wall, .scribe, .port, .tamper] s x1
       on_goal 1 => clear_value x1
       on_goal 2 => unfold x1)
    | (extract_lets +onlyGivenNames x1
       suffices hx : Chg [.wall, .scribe, .port, .tamper] s x1.2
       on_goal 1 => clear_value x1
       on_goal 2 => unfold x1)
    | (extract_lets +onlyGivenNames x1; clear_value x1)
    | split
    | fail_if_no_progress (with_reducible refine Chg.step ?_ (Chg.setWall _ _) (by decide)))

theorem State.cancelRevision_chg (s : State) (r : PendingRev) : Chg [.startup, .port] s (State.cancelRevision s r) := by
  unfold State.cancelRevision
  repeat' (first
    | with_reducible exact Chg.refl _ _
    | with_reducible assumption
    | (apply Chg.step; rotate_left
       with_reducible exact State.raise_chg ..
       decide)
    | (extract_lets +onlyGivenNames x1
       suffices hx : Chg [.startup, .port] s x1
       on_goal 1 => clear_value x1
       on_goal 2 => unfold x1)
    | (extract_lets +onlyGivenNames x1
       suffices hx : Chg [.startup, .port] s x1.2
       on_goal 1 => clear_value x1
       on_goal 2 => unfold x1)
    | (extract_lets +onlyGivenNames x1; clear_value x1)
    | split
    | fail_if_no_progress (with_reducible refine Chg.step ?_ (Chg.setStartup _ _) (by decide)))

theorem State.revisionCancel_chg (s : State) : Chg [.startup, .port] s (State.revisionCancel s) := by
  unfold State.revisionCancel
  repeat' (first
    | with_reducible exact Chg.refl _ _
    | with_reducible assumption
    | (apply Chg.step; rotate_left
       with_reducible exact State.cancelRevision_chg ..
       decide)
    | split)

theorem State.ptpStep_chg (s : State) (delta : ℤ) : Chg [.wall, .scribe, .port, .tamper] s (State.ptpStep s delta) := by
  unfold State.ptpStep
  repeat' (first
    | with_reducible exact Chg.refl _ _
    | with_reducible assumption
    | (apply Chg.step; rotate_left
       with_reducible exact State.stepWall_chg ..
       decide))

theorem State.putFifo_chg (s : State) (k : ℕ) (n : ℕ) (q : List (CanFrame × ℕ)) : Chg [.buses] s (State.putFifo s k n q) := by
  unfold State.putFifo
  repeat' (first
    | with_reducible exact Chg.refl _ _
    | with_reducible assumption
    | (apply Chg.step; rotate_left
       with_reducible exact State.modCan_chg ..
       decide))

theorem State.canCount_chg (s : State) (k : ℕ) (f : CanCounts → CanCounts) : Chg [.buses] s (State.canCount s k f) := by
  unfold State.canCount
  repeat' (first
    | with_reducible exact Chg.refl _ _
    | with_reducible assumption
    | (apply Chg.step; rotate_left
       with_reducible exact State.modCan_chg ..
       decide))

theorem State.toFifo_chg (s : State) (k : ℕ) (n : ℕ) (w : List W32) (f : CanFrame) (tick : ℕ) : Chg [.port, .buses] s (State.toFifo s k n w f tick) := by
  unfold State.toFifo
  repeat' (first
    | with_reducible exact Chg.refl _ _
    | with_reducible assumption
    | (apply Chg.step; rotate_left
       (first
         | with_reducible exact State.canCount_chg ..
         | with_reducible exact State.modCan_chg ..
         | with_reducible exact State.putFifo_chg ..
         | with_reducible exact State.raise_chg ..)
       decide)
    | (extract_lets +onlyGivenNames x1
       suffices hx : Chg [.port, .buses] s x1
       on_goal 1 => clear_value x1
       on_goal 2 => unfold x1)
    | (extract_lets +onlyGivenNames x1
       suffices hx : Chg [.port, .buses] s x1.2
       on_goal 1 => clear_value x1
       on_goal 2 => unfold x1)
    | (extract_lets +onlyGivenNames x1; clear_value x1)
    | split)

theorem State.canDeliver_chg (s : State) (k : ℕ) (f : CanFrame) (tick : ℕ) (stamp : ℕ) : Chg [.port, .buses] s (State.canDeliver s k f tick stamp) := by
  unfold State.canDeliver
  repeat' (first
    | with_reducible exact Chg.refl _ _
    | with_reducible assumption
    | (apply Chg.step; rotate_left
       (first
         | with_reducible exact State.modCan_chg ..
         | with_reducible exact State.toFifo_chg ..)
       decide)
    | split)

theorem State.takeFault_chg (s : State) (n : ℕ) (c : LegCause) : Chg [.legs, .laws, .port] s (State.takeFault s n c) := by
  unfold State.takeFault
  repeat' (first
    | with_reducible exact Chg.refl _ _
    | with_reducible assumption
    | (apply Chg.step; rotate_left
       (first
         | with_reducible exact State.coastLaw_chg ..
         | with_reducible exact State.decideCoast_chg ..
         | with_reducible exact State.modLeg_chg ..
         | with_reducible exact State.raise_chg ..
         | with_reducible exact State.stopLaw_chg ..)
       decide)
    | (extract_lets +onlyGivenNames x1
       suffices hx : Chg [.legs, .laws, .port] s x1
       on_goal 1 => clear_value x1
       on_goal 2 => unfold x1)
    | (extract_lets +onlyGivenNames x1
       suffices hx : Chg [.legs, .laws, .port] s x1.2
       on_goal 1 => clear_value x1
       on_goal 2 => unfold x1)
    | (extract_lets +onlyGivenNames x1; clear_value x1)
    | split)

theorem State.dropEntryBuffer_chg (s : State) (o : ℕ) : Chg [.tokens] s (State.dropEntryBuffer s o) := by
  unfold State.dropEntryBuffer
  repeat' (first
    | with_reducible exact Chg.refl _ _
    | with_reducible assumption
    | (apply Chg.step; rotate_left
       with_reducible exact State.modTok_chg ..
       decide))

theorem State.applyInput_chg (s : State) (tick : ℕ) (stamp : ℕ) (a3 : JInput) : Chg [.carousel, .wall, .startup, .flash, .array, .legs, .laws, .juggler, .thermal, .barker, .scribe, .ident, .keys, .update, .pair, .port, .tokens, .tamper, .safety, .drives, .supply, .buses] s (State.applyInput s tick stamp a3) := by
  unfold State.applyInput
  repeat' (first
    | with_reducible exact Chg.refl _ _
    | with_reducible assumption
    | (apply Chg.step; rotate_left
       (first
         | with_reducible exact State.applyCar_chg ..
         | with_reducible exact State.applyOp_chg ..
         | with_reducible exact State.authExpired_chg ..
         | with_reducible exact State.canDeliver_chg ..
         | with_reducible exact State.coastLaw_chg ..
         | with_reducible exact State.dcuLost_chg ..
         | with_reducible exact State.dioEnded_chg ..
         | with_reducible exact State.dioSilent_chg ..
         | with_reducible exact State.dropChange_chg ..
         | with_reducible exact State.dropEntryBuffer_chg ..
         | with_reducible exact State.dropText_chg ..
         | with_reducible exact State.fallSilent_chg ..
         | with_reducible exact State.goNoCounter_chg ..
         | with_reducible exact State.loseCanRef_chg ..
         | with_reducible exact State.loseChannel_chg ..
         | with_reducible exact State.loseClock_chg ..
         | with_reducible exact State.markHolds_chg ..
         | with_reducible exact State.matrixExpired_chg ..
         | with_reducible exact State.nameBoundary_chg ..
         | with_reducible exact State.passDeadline_chg ..
         | with_reducible exact State.pauseExpired_chg ..
         | with_reducible exact State.ptpSlew_chg ..
         | with_reducible exact State.ptpStep_chg ..
         | with_reducible exact State.releaseTask_chg ..
         | with_reducible exact State.revisionCancel_chg ..
         | with_reducible exact State.seccExpired_chg ..
         | with_reducible exact State.staleTemp_chg ..
         | with_reducible exact State.stopLaw_chg ..
         | with_reducible exact State.takeContactor_chg ..
         | with_reducible exact State.takeDcu_chg ..
         | with_reducible exact State.takeDio_chg ..
         | with_reducible exact State.takeFault_chg ..
         | with_reducible exact State.takeGrid_chg ..
         | with_reducible exact State.takeHello_chg ..
         | with_reducible exact State.takeInk_chg ..
         | with_reducible exact State.takeLegsOff_chg ..
         | with_reducible exact State.takeRandom_chg ..
         | with_reducible exact State.takeSamples_chg ..
         | with_reducible exact State.takeTamper_chg ..
         | with_reducible exact State.takeVlink_chg ..
         | with_reducible exact State.wallPtp_chg ..)
       decide)
    | split)

theorem State.modPair_chg (s : State) (f : Pair → Pair) : Chg [.pair] s (State.modPair s f) := by
  unfold State.modPair
  repeat' (first
    | with_reducible exact Chg.refl _ _
    | with_reducible assumption
    | split
    | fail_if_no_progress (with_reducible refine Chg.step ?_ (Chg.setPair _ _) (by decide)))

theorem State.popEntry_chg (s : State) (jseq : ℕ) : Chg [.pair] s (State.popEntry s jseq) := by
  unfold State.popEntry
  repeat' (first
    | with_reducible exact Chg.refl _ _
    | with_reducible assumption
    | (apply Chg.step; rotate_left
       with_reducible exact State.modPair_chg ..
       decide))

theorem State.degrade_chg (s : State) (cause : ℕ) : Chg [.pair, .port] s (State.degrade s cause) := by
  unfold State.degrade
  refine Chg.ite (Chg.refl _ _) ?_
  extract_lets _ x1
  have h1 : Chg [.pair, .port] s x1 := by
    refine Chg.step ?_ (State.raise_chg ..) (by decide)
    refine ⟨fun p hp => ?_⟩
    cases p <;> first | (exact absurd hp (by decide)) | (simp only [State.same]; done)
  exact Chg.ite (Chg.step h1 (State.planYield_chg ..) (by decide)) h1

theorem State.quiet_chg (s : State) : Chg [.pair, .drives] s (State.quiet s) := by
  unfold State.quiet
  repeat' (first
    | with_reducible exact Chg.refl _ _
    | with_reducible assumption
    | (apply Chg.step; rotate_left
       (first
         | with_reducible exact State.modPair_chg ..
         | with_reducible exact State.refreshLs_chg ..)
       decide))

theorem State.enterResync_chg (s : State) : Chg [.pair, .port, .drives] s (State.enterResync s) := by
  unfold State.enterResync
  repeat' (first
    | with_reducible exact Chg.refl _ _
    | with_reducible assumption
    | (apply Chg.step; rotate_left
       (first
         | with_reducible exact State.degrade_chg ..
         | with_reducible exact State.modPair_chg ..
         | with_reducible exact State.quiet_chg ..)
       decide)
    | (extract_lets +onlyGivenNames x1
       suffices hx : Chg [.pair, .port, .drives] s x1
       on_goal 1 => clear_value x1
       on_goal 2 => unfold x1)
    | (extract_lets +onlyGivenNames x1
       suffices hx : Chg [.pair, .port, .drives] s x1.2
       on_goal 1 => clear_value x1
       on_goal 2 => unfold x1)
    | (extract_lets +onlyGivenNames x1; clear_value x1)
    | split)

theorem State.outOfStep_chg (s : State) (cause : ℕ) (jseq : ℕ) : Chg [.pair, .port, .drives] s (State.outOfStep s cause jseq) := by
  unfold State.outOfStep
  repeat' (first
    | with_reducible exact Chg.refl _ _
    | with_reducible assumption
    | (apply Chg.step; rotate_left
       (first
         | with_reducible exact State.enterResync_chg ..
         | with_reducible exact State.raise_chg ..)
       decide)
    | split)

theorem State.countLate_chg (s : State) : Chg [.pair] s (State.countLate s) := by
  unfold State.countLate
  repeat' (first
    | with_reducible exact Chg.refl _ _
    | with_reducible assumption
    | (apply Chg.step; rotate_left
       with_reducible exact State.modPair_chg ..
       decide))

theorem State.missEntry_chg (s : State) (jseq : ℕ) : Chg [.pair, .port, .drives] s (State.missEntry s jseq) := by
  unfold State.missEntry
  repeat' (first
    | with_reducible exact Chg.refl _ _
    | with_reducible assumption
    | (apply Chg.step; rotate_left
       (first
         | with_reducible exact State.countLate_chg ..
         | with_reducible exact State.outOfStep_chg ..)
       decide)
    | split)

theorem State.settleHold_chg (s : State) (o : ℕ) : Chg [.keys, .port, .tokens] s (State.settleHold s o) := by
  unfold State.settleHold
  repeat' (first
    | with_reducible exact Chg.refl _ _
    | with_reducible assumption
    | (apply Chg.step; rotate_left
       (first
         | with_reducible exact State.issueChange_chg ..
         | with_reducible exact State.modTok_chg ..
         | with_reducible exact State.returnCredit_chg ..)
       decide)
    | (extract_lets +onlyGivenNames x1
       suffices hx : Chg [.keys, .port, .tokens] s x1
       on_goal 1 => clear_value x1
       on_goal 2 => unfold x1)
    | (extract_lets +onlyGivenNames x1
       suffices hx : Chg [.keys, .port, .tokens] s x1.2
       on_goal 1 => clear_value x1
       on_goal 2 => unfold x1)
    | (extract_lets +onlyGivenNames x1; clear_value x1)
    | split)

theorem State.settleHolds_chg (s : State) : Chg [.keys, .port, .tokens] s (State.settleHolds s) := by
  unfold State.settleHolds
  repeat' (first
    | with_reducible exact Chg.refl _ _
    | with_reducible assumption
    | (apply Chg.step; rotate_left
       with_reducible exact State.settleHold_chg ..
       decide)
    | split
    | (with_reducible apply Chg.foldl; rotate_left; intro s _))

theorem State.applyEntry_chg (s : State) (x : JPending) : Chg [.carousel, .wall, .startup, .flash, .array, .legs, .laws, .juggler, .thermal, .barker, .scribe, .ident, .keys, .update, .pair, .port, .tokens, .tamper, .safety, .drives, .supply, .buses] s (State.applyEntry s x) := by
  unfold State.applyEntry
  repeat' (first
    | with_reducible exact Chg.refl _ _
    | with_reducible assumption
    | (apply Chg.step; rotate_left
       (first
         | with_reducible exact State.applyInput_chg ..
         | with_reducible exact State.missEntry_chg ..
         | with_reducible exact State.popEntry_chg ..
         | with_reducible exact State.settleHolds_chg ..)
       decide)
    | (extract_lets +onlyGivenNames x1
       suffices hx : Chg [.carousel, .wall, .startup, .flash, .array, .legs, .laws, .juggler, .thermal, .barker, .scribe, .ident, .keys, .update, .pair, .port, .tokens, .tamper, .safety, .drives, .supply, .buses] s x1
       on_goal 1 => clear_value x1
       on_goal 2 => unfold x1)
    | (extract_lets +onlyGivenNames x1
       suffices hx : Chg [.carousel, .wall, .startup, .flash, .array, .legs, .laws, .juggler, .thermal, .barker, .scribe, .ident, .keys, .update, .pair, .port, .tokens, .tamper, .safety, .drives, .supply, .buses] s x1.2
       on_goal 1 => clear_value x1
       on_goal 2 => unfold x1)
    | (extract_lets +onlyGivenNames x1; clear_value x1)
    | split)

theorem State.curtRevision_chg (s : State) (was : Policy) : Chg [.juggler, .port] s (State.curtRevision s was) := by
  unfold State.curtRevision
  repeat' (first
    | with_reducible exact Chg.refl _ _
    | with_reducible assumption
    | (apply Chg.step; rotate_left
       (first
         | with_reducible exact State.modJug_chg ..
         | with_reducible exact State.recurtail_chg ..)
       decide))

theorem State.demandRevision_chg (s : State) (was : ℕ) : Chg [.scribe] s (State.demandRevision s was) := by
  unfold State.demandRevision
  repeat' (first
    | with_reducible exact Chg.refl _ _
    | with_reducible assumption
    | (apply Chg.step; rotate_left
       with_reducible exact State.modCore_chg ..
       decide)
    | split)

theorem State.applyRevision_chg (s : State) (r : PendingRev) : Chg [.startup, .juggler, .scribe, .port, .tamper] s (State.applyRevision s r) := by
  unfold State.applyRevision
  repeat' (first
    | with_reducible exact Chg.refl _ _
    | with_reducible assumption
    | (apply Chg.step; rotate_left
       (first
         | with_reducible exact State.countTamper_chg ..
         | with_reducible exact State.curtRevision_chg ..
         | with_reducible exact State.demandRevision_chg ..
         | with_reducible exact State.raise_chg ..)
       decide)
    | (extract_lets +onlyGivenNames x1
       suffices hx : Chg [.startup, .juggler, .scribe, .port, .tamper] s x1
       on_goal 1 => clear_value x1
       on_goal 2 => unfold x1)
    | (extract_lets +onlyGivenNames x1
       suffices hx : Chg [.startup, .juggler, .scribe, .port, .tamper] s x1.2
       on_goal 1 => clear_value x1
       on_goal 2 => unfold x1)
    | (extract_lets +onlyGivenNames x1; clear_value x1)
    | split
    | fail_if_no_progress (with_reducible refine Chg.step ?_ (Chg.setStartup _ _) (by decide))
    | fail_if_no_progress (with_reducible refine Chg.step ?_ (Chg.setPort _ _) (by decide))
    | (refine ⟨fun p hp => ?_⟩; have hb := fun (x : State) (h : Chg [.startup, .juggler, .scribe, .port, .tamper] s x) => h.1 p hp; cases p <;> first | (exact absurd hp (by decide)) | (simp only [State.same]; done) | (simp only [State.same] at hb ⊢; exact hb _ (by assumption))))

theorem State.asked_chg (s : State) (c : ConnNo) : Chg [.port] s (State.asked s c) := by
  unfold State.asked
  repeat' (first
    | with_reducible exact Chg.refl _ _
    | with_reducible assumption
    | (apply Chg.step; rotate_left
       with_reducible exact State.modConn_chg ..
       decide))

theorem State.attestSign_chg (s : State) (slot : ℕ) (body : List W32) : Chg [.keys, .port] s (State.attestSign s slot body).2 := by
  unfold State.attestSign
  repeat' (first
    | with_reducible exact Chg.refl _ _
    | with_reducible assumption
    | (apply Chg.step; rotate_left
       with_reducible exact State.useKey_chg ..
       decide))

theorem State.lawsService_chg (s : State) : Chg [.legs, .laws, .port] s (State.lawsService s) := by
  unfold State.lawsService
  repeat' (first
    | with_reducible exact Chg.refl _ _
    | with_reducible assumption
    | (apply Chg.step; rotate_left
       (first
         | with_reducible exact State.modLaw_chg ..
         | with_reducible exact State.modLeg_chg ..
         | with_reducible exact State.raise_chg ..)
       decide)
    | (extract_lets +onlyGivenNames x1
       suffices hx : Chg [.legs, .laws, .port] s x1
       on_goal 1 => clear_value x1
       on_goal 2 => unfold x1)
    | (extract_lets +onlyGivenNames x1
       suffices hx : Chg [.legs, .laws, .port] s x1.2
       on_goal 1 => clear_value x1
       on_goal 2 => unfold x1)
    | (extract_lets +onlyGivenNames x1; clear_value x1)
    | split
    | (with_reducible apply Chg.foldl; rotate_left; intro s _))

theorem State.curtService_chg (s : State) : Chg [.juggler, .port] s (State.curtService s) := by
  unfold State.curtService
  repeat' (first
    | with_reducible exact Chg.refl _ _
    | with_reducible assumption
    | (apply Chg.step; rotate_left
       (first
         | with_reducible exact State.modJug_chg ..
         | with_reducible exact State.recurtail_chg ..)
       decide))

theorem State.regsService_chg (s : State) : Chg [.supply] s (State.regsService s) := by
  unfold State.regsService
  repeat' (first
    | with_reducible exact Chg.refl _ _
    | with_reducible assumption
    | (apply Chg.step; rotate_left
       (first
         | with_reducible exact State.modReg_chg ..
         | with_reducible exact State.retargetReg_chg ..)
       decide)
    | (extract_lets +onlyGivenNames x1
       suffices hx : Chg [.supply] s x1
       on_goal 1 => clear_value x1
       on_goal 2 => unfold x1)
    | split
    | (with_reducible apply Chg.foldl; rotate_left; intro s _))

theorem State.requestSo_chg (s : State) (on : Bool) : Chg [.legs, .laws, .pair, .port, .safety] s (State.requestSo s on) := by
  unfold State.requestSo
  repeat' (first
    | with_reducible exact Chg.refl _ _
    | with_reducible assumption
    | (apply Chg.step; rotate_left
       (first
         | with_reducible exact State.modSafety_chg ..
         | with_reducible exact State.react_chg ..)
       decide))

theorem State.stepDone_chg (s : State) (x : Step) : Chg [.startup] s (State.stepDone s x) := by
  unfold State.stepDone
  repeat' (first
    | with_reducible exact Chg.refl _ _
    | with_reducible assumption
    | (extract_lets +onlyGivenNames x1
       suffices hx : Chg [.startup] s x1
       on_goal 1 => clear_value x1
       on_goal 2 => unfold x1)
    | (extract_lets +onlyGivenNames x1
       suffices hx : Chg [.startup] s x1.2
       on_goal 1 => clear_value x1
       on_goal 2 => unfold x1)
    | (extract_lets +onlyGivenNames x1; clear_value x1)
    | split
    | fail_if_no_progress (with_reducible refine Chg.step ?_ (Chg.setStartup _ _) (by decide)))

theorem State.pumpsService_chg (s : State) : Chg [.drives] s (State.pumpsService s) := by
  unfold State.pumpsService
  repeat' (first
    | with_reducible exact Chg.refl _ _
    | with_reducible assumption
    | (apply Chg.step; rotate_left
       with_reducible exact State.modPump_chg ..
       decide)
    | (extract_lets +onlyGivenNames x1; clear_value x1)
    | split
    | (with_reducible apply Chg.foldl; rotate_left; intro s _))

theorem State.lostAtService_chg (s : State) : Chg [.legs, .laws, .pair, .port] s (State.lostAtService s) := by
  unfold State.lostAtService
  exact Chg.foldl _ _ (Chg.refl _ _) fun s x => Chg.ite (State.submit_chg (fun s => Chg.step (Chg.refl _ _) (State.loseChannel_chg ..) (by decide)) (by decide)) (Chg.refl _ _)

theorem State.beginService_chg (s : State) : Chg [.startup, .legs, .laws, .juggler, .update, .pair, .port, .safety, .drives, .supply, .buses] s (State.beginService s) := by
  unfold State.beginService
  extract_lets x0 x1 x2 x3 x8 x4 x5 x6 x7 x9 x10
  have h1 : Chg [.startup, .legs, .laws, .juggler, .update, .pair, .port, .safety, .drives, .supply, .buses] s x1 := Chg.step (Chg.refl _ _) (Chg.setStartup ..) (by decide)
  have h2 : Chg [.startup, .legs, .laws, .juggler, .update, .pair, .port, .safety, .drives, .supply, .buses] s x2 := Chg.step h1 (State.stepDone_chg ..) (by decide)
  clear_value x2
  have h8 : Chg [.startup, .legs, .laws, .juggler, .update, .pair, .port, .safety, .drives, .supply, .buses] s x8 := Chg.step h2 (Chg.setBuses ..) (by decide)
  have h4 : Chg [.startup, .legs, .laws, .juggler, .update, .pair, .port, .safety, .drives, .supply, .buses] s x4 := Chg.step h8 (State.raise_chg ..) (by decide)
  clear_value x4
  have h6 : Chg [.startup, .legs, .laws, .juggler, .update, .pair, .port, .safety, .drives, .supply, .buses] s x6 := Chg.step h4 (Chg.setUpdate ..) (by decide)
  clear_value x6
  have h7 : Chg [.startup, .legs, .laws, .juggler, .update, .pair, .port, .safety, .drives, .supply, .buses] s x7 := Chg.ite (Chg.step h6 (State.modPair_chg ..) (by decide)) h6
  have h9 : Chg [.startup, .legs, .laws, .juggler, .update, .pair, .port, .safety, .drives, .supply, .buses] s x9 := Chg.step (Chg.step h7 (State.lawsService_chg ..) (by decide)) (State.lostAtService_chg ..) (by decide)
  clear_value x9
  have h10 : Chg [.startup, .legs, .laws, .juggler, .update, .pair, .port, .safety, .drives, .supply, .buses] s x10 := Chg.ite (Chg.step h9 (State.inhibit_chg ..) (by decide)) h9
  clear_value x10
  exact Chg.step (Chg.step (Chg.step (Chg.step (Chg.step h10 (State.pumpsService_chg ..) (by decide)) (State.regsService_chg ..) (by decide))
    (State.curtService_chg ..) (by decide)) (State.requestSo_chg ..) (by decide)) (State.refreshLs_chg ..) (by decide)

theorem State.boundaries_chg (s : State) : Chg [.scribe, .port, .tamper] s (State.boundaries s) := by
  unfold State.boundaries
  repeat' (first
    | with_reducible exact Chg.refl _ _
    | with_reducible assumption
    | (apply Chg.step; rotate_left
       (first
         | with_reducible exact State.closeInterval_chg ..
         | with_reducible exact State.modCore_chg ..
         | with_reducible exact State.monthStart_chg ..
         | with_reducible exact State.startInterval_chg ..
         | with_reducible exact State.switchTariff_chg ..)
       decide)
    | (extract_lets +onlyGivenNames x1; clear_value x1)
    | split)

theorem State.canConfine_chg (s : State) (k : ℕ) : Chg [.port, .buses] s (State.canConfine s k) := by
  unfold State.canConfine
  repeat' (first
    | with_reducible exact Chg.refl _ _
    | with_reducible assumption
    | (apply Chg.step; rotate_left
       (first
         | with_reducible exact State.canCount_chg ..
         | with_reducible exact State.modCan_chg ..
         | with_reducible exact State.raise_chg ..)
       decide)
    | (extract_lets +onlyGivenNames x1
       suffices hx : Chg [.port, .buses] s x1
       on_goal 1 => clear_value x1
       on_goal 2 => unfold x1)
    | (extract_lets +onlyGivenNames x1
       suffices hx : Chg [.port, .buses] s x1.2
       on_goal 1 => clear_value x1
       on_goal 2 => unfold x1)
    | (extract_lets +onlyGivenNames x1; clear_value x1)
    | split)

theorem State.canGood_chg (s : State) (k : ℕ) : Chg [.free, .port, .buses] s (State.canGood s k) := by
  unfold State.canGood
  repeat' (first
    | with_reducible exact Chg.refl _ _
    | with_reducible assumption
    | (apply Chg.step; rotate_left
       (first
         | with_reducible exact State.canConfine_chg ..
         | with_reducible exact State.modCan_chg ..
         | with_reducible exact State.nextFree_chg ..)
       decide)
    | split)

theorem State.canMissed_chg (s : State) (k : ℕ) (src : ℕ) (index : ℕ) (cycle : ℕ) : Chg [.port, .buses] s (State.canMissed s k src index cycle) := by
  unfold State.canMissed
  repeat' (first
    | with_reducible exact Chg.refl _ _
    | with_reducible assumption
    | (apply Chg.step; rotate_left
       (first
         | with_reducible exact State.canCount_chg ..
         | with_reducible exact State.modCan_chg ..
         | with_reducible exact State.raise_chg ..)
       decide))

theorem State.heardSlot_chg (s : State) (heard : Bool) : Chg [.pair, .port] s (State.heardSlot s heard) := by
  unfold State.heardSlot
  repeat' (first
    | with_reducible exact Chg.refl _ _
    | with_reducible assumption
    | (apply Chg.step; rotate_left
       (first
         | with_reducible exact State.degrade_chg ..
         | with_reducible exact State.modPair_chg ..)
       decide)
    | (extract_lets +onlyGivenNames x1
       suffices hx : Chg [.pair, .port] s x1
       on_goal 1 => clear_value x1
       on_goal 2 => unfold x1)
    | (extract_lets +onlyGivenNames x1
       suffices hx : Chg [.pair, .port] s x1.2
       on_goal 1 => clear_value x1
       on_goal 2 => unfold x1)
    | (extract_lets +onlyGivenNames x1; clear_value x1)
    | split)

theorem State.startFrame_chg (s : State) (k : ℕ) (src : ℕ) (index : ℕ) (f : ℕ × List Byte) : Chg [.buses] s (State.startFrame s k src index f) := by
  unfold State.startFrame
  repeat' (first
    | with_reducible exact Chg.refl _ _
    | with_reducible assumption
    | (apply Chg.step; rotate_left
       with_reducible exact State.modCan_chg ..
       decide))

theorem State.canSlot_chg (s : State) (k : ℕ) (w : List W32) (v : CanWin) (cycle : ℕ) (idx : ℕ) (off : ℕ) (src : ℕ) (index : ℕ) (idle : Bool) (heard : Bool) : Chg [.pair, .port, .buses] s (State.canSlot s k w v cycle idx off src index idle heard) := by
  unfold State.canSlot
  repeat' (first
    | with_reducible exact Chg.refl _ _
    | with_reducible assumption
    | (apply Chg.step; rotate_left
       (first
         | with_reducible exact State.canMissed_chg ..
         | with_reducible exact State.heardSlot_chg ..
         | with_reducible exact State.modCan_chg ..
         | with_reducible exact State.startFrame_chg ..)
       decide)
    | split)

theorem State.closeConn_chg (s : State) (c : ConnNo) : Chg [.port] s (State.closeConn s c) := by
  unfold State.closeConn
  repeat' (first
    | with_reducible exact Chg.refl _ _
    | with_reducible assumption
    | (extract_lets +onlyGivenNames x1
       suffices hx : Chg [.port] s x1
       on_goal 1 => clear_value x1
       on_goal 2 => unfold x1)
    | (extract_lets +onlyGivenNames x1
       suffices hx : Chg [.port] s x1.2
       on_goal 1 => clear_value x1
       on_goal 2 => unfold x1)
    | (extract_lets +onlyGivenNames x1; clear_value x1)
    | split
    | fail_if_no_progress (with_reducible refine Chg.step ?_ (Chg.setPort _ _) (by decide)))

theorem State.op_chg {L : List Part} {s : State} {c : ConnNo} {m : Mode → Bool} {f : Conn → State → State}
    (h : ∀ k z, Chg L z (f k z)) (hp : [Part.port].all (fun p => L.contains p) = true) : Chg L s (s.op c m f) := by
  unfold State.op
  split
  · exact Chg.refl _ _
  · exact Chg.ite (Chg.step (Chg.refl _ _) (State.closeConn_chg ..) hp)
      (Chg.ite (h _ _) (Chg.step (Chg.refl _ _) (State.answer_chg ..) hp))

theorem State.request_chg {L : List Part} {s : State} {c : ConnNo} {k : Conn} {r : OpReq} {f : Caller → State → State}
    (h : ∀ k z, Chg L z (f k z)) (hp : [Part.port].all (fun p => L.contains p) = true)
    (hq : [Part.pair].all (fun p => L.contains p) = true) : Chg L s (s.request c k r f) :=
  Chg.step (Chg.step (Chg.refl _ _) (State.modConn_chg ..) hp) (State.submit_chg (h _) hq) (by simp)

theorem State.change_chg {L : List Part} {s : State} {c : ConnNo} {o : Obis} {k : Right} {r : OpReq} {f : Caller → State → State}
    (h : ∀ k z, Chg L z (f k z)) (hp : [Part.port].all (fun p => L.contains p) = true)
    (hq : [Part.pair].all (fun p => L.contains p) = true) : Chg L s (s.change c o k r f) := by
  unfold State.change
  refine State.op_chg (fun k z => ?_) hp
  exact Chg.ite (Chg.step (Chg.refl _ _) (State.answer_chg ..) hp)
    (Chg.ite (State.request_chg h hp hq) (Chg.step (Chg.refl _ _) (State.answer_chg ..) hp))

theorem State.closeAtFail_chg (s : State) (scribe : ℕ) (wall : Option ℕ) : Chg [.barker, .scribe, .keys, .port, .tokens] s (State.closeAtFail s scribe wall) := by
  unfold State.closeAtFail
  repeat' (first
    | with_reducible exact Chg.refl _ _
    | with_reducible assumption
    | (apply Chg.step; rotate_left
       (first
         | with_reducible exact State.closeSession_chg ..
         | with_reducible exact State.modCtx_chg ..
         | with_reducible exact State.modSessions_chg ..)
       decide)
    | split
    | (with_reducible apply Chg.foldl; rotate_left; intro s _))

theorem State.coastGroup_chg (s : State) (g : ℕ) : Chg [.legs] s (State.coastGroup s g) := by
  unfold State.coastGroup
  repeat' (first
    | with_reducible exact Chg.refl _ _
    | with_reducible assumption
    | (apply Chg.step; rotate_left
       with_reducible exact State.modGroup_chg ..
       decide)
    | (extract_lets +onlyGivenNames x1
       suffices hx : Chg [.legs] s x1
       on_goal 1 => clear_value x1
       on_goal 2 => unfold x1)
    | (extract_lets +onlyGivenNames x1
       suffices hx : Chg [.legs] s x1.2
       on_goal 1 => clear_value x1
       on_goal 2 => unfold x1)
    | (extract_lets +onlyGivenNames x1; clear_value x1)
    | split
    | fail_if_no_progress (with_reducible refine Chg.step ?_ (Chg.setLegs _ _) (by decide)))

theorem State.coldState_chg (s : State) : Chg [.legs, .laws, .juggler, .barker, .scribe, .keys, .update, .port, .tokens] s (State.coldState s) := by
  unfold State.coldState
  repeat' (first
    | with_reducible exact Chg.refl _ _
    | with_reducible assumption
    | (apply Chg.step; rotate_left
       (first
         | with_reducible exact State.closeCtx_chg ..
         | with_reducible exact State.closeSession_chg ..
         | with_reducible exact State.inhibit_chg ..
         | with_reducible exact State.modCtx_chg ..
         | with_reducible exact State.modJug_chg ..)
       decide)
    | (extract_lets +onlyGivenNames x1
       suffices hx : Chg [.legs, .laws, .juggler, .barker, .scribe, .keys, .update, .port, .tokens] s x1
       on_goal 1 => clear_value x1
       on_goal 2 => unfold x1)
    | (extract_lets +onlyGivenNames x1
       suffices hx : Chg [.legs, .laws, .juggler, .barker, .scribe, .keys, .update, .port, .tokens] s x1.2
       on_goal 1 => clear_value x1
       on_goal 2 => unfold x1)
    | (extract_lets +onlyGivenNames x1; clear_value x1)
    | split
    | (with_reducible apply Chg.foldl; rotate_left; intro s _)
    | fail_if_no_progress (with_reducible refine Chg.step ?_ (Chg.setLegs _ _) (by decide))
    | fail_if_no_progress (with_reducible refine Chg.step ?_ (Chg.setLaws _ _) (by decide))
    | (refine ⟨fun p hp => ?_⟩; have hb := fun (x : State) (h : Chg [.legs, .laws, .juggler, .barker, .scribe, .keys, .update, .port, .tokens] s x) => h.1 p hp; cases p <;> first | (exact absurd hp (by decide)) | (simp only [State.same]; done) | (simp only [State.same] at hb ⊢; exact hb _ (by assumption))))

theorem State.loseStandby_chg (s : State) : Chg [.pair, .port] s (State.loseStandby s) := by
  unfold State.loseStandby
  repeat' (first
    | with_reducible exact Chg.refl _ _
    | with_reducible assumption
    | (apply Chg.step; rotate_left
       (first
         | with_reducible exact State.modPair_chg ..
         | with_reducible exact State.raise_chg ..)
       decide))

theorem State.takeRing_chg (s : State) : Chg [.legs, .juggler, .pair, .port, .drives] s (State.takeRing s) := by
  unfold State.takeRing
  repeat' (first
    | with_reducible exact Chg.refl _ _
    | with_reducible assumption
    | (apply Chg.step; rotate_left
       (first
         | with_reducible exact State.loseStandby_chg ..
         | with_reducible exact State.modJug_chg ..
         | with_reducible exact State.modPair_chg ..
         | with_reducible exact State.refreshLs_chg ..)
       decide)
    | (extract_lets +onlyGivenNames x1
       suffices hx : Chg [.legs, .juggler, .pair, .port, .drives] s x1
       on_goal 1 => clear_value x1
       on_goal 2 => unfold x1)
    | (extract_lets +onlyGivenNames x1
       suffices hx : Chg [.legs, .juggler, .pair, .port, .drives] s x1.2
       on_goal 1 => clear_value x1
       on_goal 2 => unfold x1)
    | (extract_lets +onlyGivenNames x1; clear_value x1)
    | split
    | fail_if_no_progress (with_reducible refine Chg.step ?_ (Chg.setLegs _ _) (by decide)))

theorem State.coldTakeover_chg (s : State) : Chg [.legs, .laws, .juggler, .barker, .scribe, .keys, .update, .pair, .port, .tokens, .drives] s (State.coldTakeover s) := by
  unfold State.coldTakeover
  repeat' (first
    | with_reducible exact Chg.refl _ _
    | with_reducible assumption
    | (apply Chg.step; rotate_left
       (first
         | with_reducible exact State.coldState_chg ..
         | with_reducible exact State.modPair_chg ..
         | with_reducible exact State.raise_chg ..
         | with_reducible exact State.takeRing_chg ..)
       decide))

theorem State.fence_chg (s : State) (n : NibNo) (cause : ℤ) : Chg [.free, .array, .pair, .port] s (State.fence s n cause) := by
  unfold State.fence
  repeat' (first
    | with_reducible exact Chg.refl _ _
    | with_reducible assumption
    | (apply Chg.step; rotate_left
       (first
         | with_reducible exact State.copyLost_chg ..
         | with_reducible exact State.degrade_chg ..
         | with_reducible exact State.modNib_chg ..
         | with_reducible exact State.raise_chg ..
         | with_reducible exact State.stopRun_chg ..)
       decide)
    | (extract_lets +onlyGivenNames x1
       suffices hx : Chg [.free, .array, .pair, .port] s x1
       on_goal 1 => clear_value x1
       on_goal 2 => unfold x1)
    | (extract_lets +onlyGivenNames x1
       suffices hx : Chg [.free, .array, .pair, .port] s x1.2
       on_goal 1 => clear_value x1
       on_goal 2 => unfold x1)
    | (extract_lets +onlyGivenNames x1; clear_value x1)
    | split)

theorem State.suspectNib_chg (s : State) (n : NibNo) : Chg [.free, .array, .pair, .port] s (State.suspectNib s n) := by
  unfold State.suspectNib
  repeat' (first
    | with_reducible exact Chg.refl _ _
    | with_reducible assumption
    | (apply Chg.step; rotate_left
       (first
         | with_reducible exact State.fence_chg ..
         | with_reducible exact State.modNib_chg ..
         | with_reducible exact State.raise_chg ..)
       decide)
    | (extract_lets +onlyGivenNames x1
       suffices hx : Chg [.free, .array, .pair, .port] s x1
       on_goal 1 => clear_value x1
       on_goal 2 => unfold x1)
    | (extract_lets +onlyGivenNames x1
       suffices hx : Chg [.free, .array, .pair, .port] s x1.2
       on_goal 1 => clear_value x1
       on_goal 2 => unfold x1)
    | (extract_lets +onlyGivenNames x1; clear_value x1)
    | split)

theorem State.compare_chg (s : State) (j : P0Job) : Chg [.free, .array, .pair, .port] s (State.compare s j) := by
  unfold State.compare
  repeat' (first
    | with_reducible exact Chg.refl _ _
    | with_reducible assumption
    | (apply Chg.step; rotate_left
       (first
         | with_reducible exact State.modArr_chg ..
         | with_reducible exact State.raise_chg ..
         | with_reducible exact State.releaseThird_chg ..
         | with_reducible exact State.suspectNib_chg ..)
       decide)
    | (extract_lets +onlyGivenNames x1
       suffices hx : Chg [.free, .array, .pair, .port] s x1
       on_goal 1 => clear_value x1
       on_goal 2 => unfold x1)
    | (extract_lets +onlyGivenNames x1
       suffices hx : Chg [.free, .array, .pair, .port] s x1.2
       on_goal 1 => clear_value x1
       on_goal 2 => unfold x1)
    | (extract_lets +onlyGivenNames x1; clear_value x1)
    | split
    | (with_reducible apply Chg.foldl; rotate_left; intro s _))

theorem State.compareNets_chg (s : State) (n : ℕ) (x : NetSample) : Chg [.legs] s (State.compareNets s n x) := by
  unfold State.compareNets
  repeat' (first
    | with_reducible exact Chg.refl _ _
    | with_reducible assumption
    | (apply Chg.step; rotate_left
       with_reducible exact State.modLeg_chg ..
       decide)
    | (extract_lets +onlyGivenNames x1
       suffices hx : Chg [.legs] s x1
       on_goal 1 => clear_value x1
       on_goal 2 => unfold x1)
    | (extract_lets +onlyGivenNames x1
       suffices hx : Chg [.legs] s x1.2
       on_goal 1 => clear_value x1
       on_goal 2 => unfold x1)
    | (extract_lets +onlyGivenNames x1; clear_value x1)
    | split)

theorem State.lateCopy_chg (s : State) (n : NibNo) (k : Task) (err : List W32) : Chg [.free, .array, .pair, .port] s (State.lateCopy s n k err) := by
  unfold State.lateCopy
  repeat' (first
    | with_reducible exact Chg.refl _ _
    | with_reducible assumption
    | (apply Chg.step; rotate_left
       (first
         | with_reducible exact State.modArr_chg ..
         | with_reducible exact State.suspectNib_chg ..)
       decide)
    | (extract_lets +onlyGivenNames x1
       suffices hx : Chg [.free, .array, .pair, .port] s x1
       on_goal 1 => clear_value x1
       on_goal 2 => unfold x1)
    | split)

theorem State.completeP0_chg (s : State) (n : NibNo) (k : Task) (err : List W32) : Chg [.free, .array, .legs, .laws, .juggler, .thermal, .barker, .scribe, .keys, .update, .pair, .port, .tokens, .drives, .supply] s (State.completeP0 s n k err) := by
  unfold State.completeP0
  repeat' (first
    | with_reducible exact Chg.refl _ _
    | with_reducible assumption
    | (apply Chg.step; rotate_left
       (first
         | with_reducible exact State.compare_chg ..
         | with_reducible exact State.lateCopy_chg ..
         | with_reducible exact State.modArr_chg ..
         | with_reducible exact State.overrunLaw_chg ..
         | with_reducible exact State.retireAll_chg ..)
       decide)
    | (extract_lets +onlyGivenNames x1
       suffices hx : Chg [.free, .array, .legs, .laws, .juggler, .thermal, .barker, .scribe, .keys, .update, .pair, .port, .tokens, .drives, .supply] s x1
       on_goal 1 => clear_value x1
       on_goal 2 => unfold x1)
    | (extract_lets +onlyGivenNames x1
       suffices hx : Chg [.free, .array, .legs, .laws, .juggler, .thermal, .barker, .scribe, .keys, .update, .pair, .port, .tokens, .drives, .supply] s x1.2
       on_goal 1 => clear_value x1
       on_goal 2 => unfold x1)
    | (extract_lets +onlyGivenNames x1; clear_value x1)
    | split)

theorem State.correct_chg (s : State) (addr : ℕ) : Chg [.array] s (State.correct s addr) := by
  unfold State.correct
  repeat' (first
    | with_reducible exact Chg.refl _ _
    | with_reducible assumption
    | (apply Chg.step; rotate_left
       with_reducible exact State.modArr_chg ..
       decide))

theorem State.correctBlock_chg (s : State) : Chg [.array] s (State.correctBlock s) := by
  unfold State.correctBlock
  repeat' (first
    | with_reducible exact Chg.refl _ _
    | with_reducible assumption
    | (apply Chg.step; rotate_left
       with_reducible exact State.modArr_chg ..
       decide))

theorem State.corruptSlot_chg (s : State) (i : Fin 64) : Chg [.keys, .port] s (State.corruptSlot s i) := by
  unfold State.corruptSlot
  repeat' (first
    | with_reducible exact Chg.refl _ _
    | with_reducible assumption
    | (apply Chg.step; rotate_left
       (first
         | with_reducible exact State.modSlot_chg ..
         | with_reducible exact State.raise_chg ..)
       decide)
    | split)

theorem State.creditScan_chg (s : State) : Chg [.juggler, .barker, .scribe, .keys, .update, .port, .tokens] s (State.creditScan s) := by
  unfold State.creditScan
  repeat' (first
    | with_reducible exact Chg.refl _ _
    | with_reducible assumption
    | (apply Chg.step; rotate_left
       with_reducible exact State.endCtx_chg ..
       decide)
    | (extract_lets +onlyGivenNames x1; clear_value x1)
    | split
    | (with_reducible apply Chg.foldl; rotate_left; intro s _))

theorem State.dieOff_chg (s : State) : Chg [.safety, .drives, .supply] s (State.dieOff s) := by
  unfold State.dieOff
  repeat' (first
    | with_reducible exact Chg.refl _ _
    | with_reducible assumption
    | (extract_lets +onlyGivenNames x1
       suffices hx : Chg [.safety, .drives, .supply] s x1
       on_goal 1 => clear_value x1
       on_goal 2 => unfold x1)
    | (extract_lets +onlyGivenNames x1
       suffices hx : Chg [.safety, .drives, .supply] s x1.2
       on_goal 1 => clear_value x1
       on_goal 2 => unfold x1)
    | (extract_lets +onlyGivenNames x1; clear_value x1)
    | split
    | fail_if_no_progress (with_reducible refine Chg.step ?_ (Chg.setSafety _ _) (by decide))
    | fail_if_no_progress (with_reducible refine Chg.step ?_ (Chg.setDrives _ _) (by decide))
    | fail_if_no_progress (with_reducible refine Chg.step ?_ (Chg.setSupply _ _) (by decide))
    | (refine ⟨fun p hp => ?_⟩; have hb := fun (x : State) (h : Chg [.safety, .drives, .supply] s x) => h.1 p hp; cases p <;> first | (exact absurd hp (by decide)) | (simp only [State.same]; done) | (simp only [State.same] at hb ⊢; exact hb _ (by assumption))))

theorem State.modSupply_chg (s : State) (f : Supply → Supply) : Chg [.supply] s (State.modSupply s f) := by
  unfold State.modSupply
  repeat' (first
    | with_reducible exact Chg.refl _ _
    | with_reducible assumption
    | split
    | fail_if_no_progress (with_reducible refine Chg.step ?_ (Chg.setSupply _ _) (by decide)))

theorem State.powerDown_chg (s : State) (aux : ℕ) : Chg [.time, .carousel, .wall, .startup, .array, .legs, .laws, .juggler, .thermal, .barker, .scribe, .update, .ptp, .pair, .port, .tokens, .tamper, .safety, .drives, .supply, .buses] s (State.powerDown s aux) := by
  unfold State.powerDown
  repeat' (first
    | with_reducible exact Chg.refl _ _
    | with_reducible assumption
    | (apply Chg.step; rotate_left
       (first
         | with_reducible exact State.dieOff_chg ..
         | with_reducible exact State.logicReset_chg ..
         | with_reducible exact State.modSafety_chg ..
         | with_reducible exact State.modSupply_chg ..
         | with_reducible exact State.react_chg ..
         | with_reducible exact State.refreshLs_chg ..
         | with_reducible exact State.regsOff_chg ..
         | with_reducible exact State.requestSo_chg ..
         | with_reducible exact State.restartDrives_chg ..)
       decide)
    | (extract_lets +onlyGivenNames x1; clear_value x1)
    | split)

theorem State.startPower_chg (s : State) : Chg [.startup, .safety, .supply] s (State.startPower s) := by
  unfold State.startPower
  repeat' (first
    | with_reducible exact Chg.refl _ _
    | with_reducible assumption
    | (apply Chg.step; rotate_left
       (first
         | with_reducible exact State.modSafety_chg ..
         | with_reducible exact State.modSupply_chg ..)
       decide)
    | (extract_lets +onlyGivenNames x1
       suffices hx : Chg [.startup, .safety, .supply] s x1
       on_goal 1 => clear_value x1
       on_goal 2 => unfold x1)
    | (extract_lets +onlyGivenNames x1
       suffices hx : Chg [.startup, .safety, .supply] s x1.2
       on_goal 1 => clear_value x1
       on_goal 2 => unfold x1)
    | (extract_lets +onlyGivenNames x1; clear_value x1)
    | split
    | fail_if_no_progress (with_reducible refine Chg.step ?_ (Chg.setStartup _ _) (by decide)))

theorem State.hotPower_chg (s : State) (degC : ℤ) : Chg [.time, .carousel, .wall, .startup, .array, .legs, .laws, .juggler, .thermal, .barker, .scribe, .update, .ptp, .pair, .port, .tokens, .tamper, .safety, .drives, .supply, .buses] s (State.hotPower s degC) := by
  unfold State.hotPower
  repeat' (first
    | with_reducible exact Chg.refl _ _
    | with_reducible assumption
    | (apply Chg.step; rotate_left
       (first
         | with_reducible exact State.modSupply_chg ..
         | with_reducible exact State.powerDown_chg ..
         | with_reducible exact State.react_chg ..
         | with_reducible exact State.startPower_chg ..)
       decide)
    | (extract_lets +onlyGivenNames x1
       suffices hx : Chg [.time, .carousel, .wall, .startup, .array, .legs, .laws, .juggler, .thermal, .barker, .scribe, .update, .ptp, .pair, .port, .tokens, .tamper, .safety, .drives, .supply, .buses] s x1
       on_goal 1 => clear_value x1
       on_goal 2 => unfold x1)
    | split)

theorem State.dieWarn_chg (s : State) (n : ℕ) (degC : ℤ) (was : Bool) : Chg [.port] s (State.dieWarn s n degC was) := by
  unfold State.dieWarn
  repeat' (first
    | with_reducible exact Chg.refl _ _
    | with_reducible assumption
    | (apply Chg.step; rotate_left
       with_reducible exact State.raise_chg ..
       decide)
    | (extract_lets +onlyGivenNames x1
       suffices hx : Chg [.port] s x1
       on_goal 1 => clear_value x1
       on_goal 2 => unfold x1)
    | (extract_lets +onlyGivenNames x1
       suffices hx : Chg [.port] s x1.2
       on_goal 1 => clear_value x1
       on_goal 2 => unfold x1)
    | (extract_lets +onlyGivenNames x1; clear_value x1)
    | split)

theorem State.faultReg_chg (s : State) (n : ℕ) (cause : ℕ) (st : RegState) : Chg [.port, .supply] s (State.faultReg s n cause st) := by
  unfold State.faultReg
  repeat' (first
    | with_reducible exact Chg.refl _ _
    | with_reducible assumption
    | (apply Chg.step; rotate_left
       (first
         | with_reducible exact State.modReg_chg ..
         | with_reducible exact State.raise_chg ..)
       decide)
    | (extract_lets +onlyGivenNames x1
       suffices hx : Chg [.port, .supply] s x1
       on_goal 1 => clear_value x1
       on_goal 2 => unfold x1)
    | (extract_lets +onlyGivenNames x1
       suffices hx : Chg [.port, .supply] s x1.2
       on_goal 1 => clear_value x1
       on_goal 2 => unfold x1)
    | (extract_lets +onlyGivenNames x1; clear_value x1)
    | split)

theorem State.regTemp_chg (s : State) (n : ℕ) (degC : ℤ) : Chg [.port, .supply] s (State.regTemp s n degC) := by
  unfold State.regTemp
  repeat' (first
    | with_reducible exact Chg.refl _ _
    | with_reducible assumption
    | (apply Chg.step; rotate_left
       (first
         | with_reducible exact State.faultReg_chg ..
         | with_reducible exact State.modReg_chg ..
         | with_reducible exact State.raise_chg ..)
       decide)
    | (extract_lets +onlyGivenNames x1
       suffices hx : Chg [.port, .supply] s x1
       on_goal 1 => clear_value x1
       on_goal 2 => unfold x1)
    | (extract_lets +onlyGivenNames x1
       suffices hx : Chg [.port, .supply] s x1.2
       on_goal 1 => clear_value x1
       on_goal 2 => unfold x1)
    | (extract_lets +onlyGivenNames x1; clear_value x1)
    | split)

theorem State.dieTemp_chg (s : State) (n : ℕ) (degC : ℤ) : Chg [.time, .carousel, .wall, .startup, .array, .legs, .laws, .juggler, .thermal, .barker, .scribe, .update, .ptp, .pair, .port, .tokens, .tamper, .safety, .drives, .supply, .buses] s (State.dieTemp s n degC) := by
  unfold State.dieTemp
  repeat' (first
    | with_reducible exact Chg.refl _ _
    | with_reducible assumption
    | (apply Chg.step; rotate_left
       (first
         | with_reducible exact State.degrade_chg ..
         | with_reducible exact State.dieWarn_chg ..
         | with_reducible exact State.hotPower_chg ..
         | with_reducible exact State.modSupply_chg ..
         | with_reducible exact State.raise_chg ..
         | with_reducible exact State.regTemp_chg ..)
       decide)
    | (extract_lets +onlyGivenNames x1
       suffices hx : Chg [.time, .carousel, .wall, .startup, .array, .legs, .laws, .juggler, .thermal, .barker, .scribe, .update, .ptp, .pair, .port, .tokens, .tamper, .safety, .drives, .supply, .buses] s x1
       on_goal 1 => clear_value x1
       on_goal 2 => unfold x1)
    | (extract_lets +onlyGivenNames x1
       suffices hx : Chg [.time, .carousel, .wall, .startup, .array, .legs, .laws, .juggler, .thermal, .barker, .scribe, .update, .ptp, .pair, .port, .tokens, .tamper, .safety, .drives, .supply, .buses] s x1.2
       on_goal 1 => clear_value x1
       on_goal 2 => unfold x1)
    | (extract_lets +onlyGivenNames x1; clear_value x1)
    | split)

theorem State.loseClaim_chg (s : State) (c : Claim) : Chg [.array] s (State.loseClaim s c) := by
  unfold State.loseClaim
  repeat' (first
    | with_reducible exact Chg.refl _ _
    | with_reducible assumption
    | (apply Chg.step; rotate_left
       with_reducible exact State.modArr_chg ..
       decide))

theorem State.displace_chg (s : State) (k : Task) : Chg [.array] s (State.displace s k) := by
  unfold State.displace
  repeat' (first
    | with_reducible exact Chg.refl _ _
    | with_reducible assumption
    | (apply Chg.step; rotate_left
       with_reducible exact State.loseClaim_chg ..
       decide)
    | split)

theorem State.drainLatch_chg (s : State) (g : ℕ) : Chg [.juggler, .port] s (State.drainLatch s g) := by
  unfold State.drainLatch
  repeat' (first
    | with_reducible exact Chg.refl _ _
    | with_reducible assumption
    | (apply Chg.step; rotate_left
       (first
         | with_reducible exact State.matrixFault_chg ..
         | with_reducible exact State.modMatrix_chg ..)
       decide)
    | (extract_lets +onlyGivenNames x1
       suffices hx : Chg [.juggler, .port] s x1
       on_goal 1 => clear_value x1
       on_goal 2 => unfold x1)
    | (extract_lets +onlyGivenNames x1
       suffices hx : Chg [.juggler, .port] s x1.2
       on_goal 1 => clear_value x1
       on_goal 2 => unfold x1)
    | (extract_lets +onlyGivenNames x1; clear_value x1)
    | split)

theorem State.drainLog_chg (s : State) (k : ℕ) : Chg [.buses] s (State.drainLog s k) := by
  unfold State.drainLog
  repeat' (first
    | with_reducible exact Chg.refl _ _
    | with_reducible assumption
    | (apply Chg.step; rotate_left
       with_reducible exact State.modCan_chg ..
       decide))

theorem State.drawRandom_chg (s : State) (ctx : CtxNo) : Chg [.free, .barker, .pair] s (State.drawRandom s ctx) := by
  unfold State.drawRandom
  repeat' (first
    | with_reducible exact Chg.refl _ _
    | with_reducible assumption
    | (apply Chg.step; rotate_left
       (first
         | with_reducible exact State.journal_chg ..
         | with_reducible exact State.nextFree_chg ..
         | with_reducible exact State.takeRandom_chg ..)
       decide)
    | (extract_lets +onlyGivenNames x1
       suffices hx : Chg [.free, .barker, .pair] s x1
       on_goal 1 => clear_value x1
       on_goal 2 => unfold x1)
    | (extract_lets +onlyGivenNames x1
       suffices hx : Chg [.free, .barker, .pair] s x1.2
       on_goal 1 => clear_value x1
       on_goal 2 => unfold x1)
    | (extract_lets +onlyGivenNames x1; clear_value x1)
    | split)

theorem State.dropEntry_chg (s : State) (jseq : ℕ) : Chg [.pair] s (State.dropEntry s jseq) := by
  unfold State.dropEntry
  repeat' (first
    | with_reducible exact Chg.refl _ _
    | with_reducible assumption
    | (apply Chg.step; rotate_left
       with_reducible exact State.modPair_chg ..
       decide))

theorem State.endService_chg (s : State) : Chg [.array, .legs, .laws, .pair, .port, .safety, .drives, .supply] s (State.endService s) := by
  unfold State.endService
  repeat' (first
    | with_reducible exact Chg.refl _ _
    | with_reducible assumption
    | (apply Chg.step; rotate_left
       (first
         | with_reducible exact State.regsOff_chg ..
         | with_reducible exact State.requestSo_chg ..
         | with_reducible exact State.restartDrives_chg ..)
       decide)
    | (extract_lets +onlyGivenNames x1
       suffices hx : Chg [.array, .legs, .laws, .pair, .port, .safety, .drives, .supply] s x1
       on_goal 1 => clear_value x1
       on_goal 2 => unfold x1)
    | (extract_lets +onlyGivenNames x1
       suffices hx : Chg [.array, .legs, .laws, .pair, .port, .safety, .drives, .supply] s x1.2
       on_goal 1 => clear_value x1
       on_goal 2 => unfold x1)
    | (extract_lets +onlyGivenNames x1; clear_value x1)
    | split
    | fail_if_no_progress (with_reducible refine Chg.step ?_ (Chg.setArray _ _) (by decide))
    | fail_if_no_progress (with_reducible refine Chg.step ?_ (Chg.setLegs _ _) (by decide))
    | fail_if_no_progress (with_reducible refine Chg.step ?_ (Chg.setLaws _ _) (by decide))
    | (refine ⟨fun p hp => ?_⟩; have hb := fun (x : State) (h : Chg [.array, .legs, .laws, .pair, .port, .safety, .drives, .supply] s x) => h.1 p hp; cases p <;> first | (exact absurd hp (by decide)) | (simp only [State.same]; done) | (simp only [State.same] at hb ⊢; exact hb _ (by assumption))))

theorem State.enterHoldover_chg (s : State) : Chg [.carousel, .pair, .port] s (State.enterHoldover s) := by
  unfold State.enterHoldover
  repeat' (first
    | with_reducible exact Chg.refl _ _
    | with_reducible assumption
    | (apply Chg.step; rotate_left
       (first
         | with_reducible exact State.decideCar_chg ..
         | with_reducible exact State.toHoldover_chg ..)
       decide))

theorem State.enterOrphan_chg (s : State) : Chg [.time, .carousel, .wall, .startup, .array, .legs, .laws, .juggler, .thermal, .barker, .scribe, .update, .ptp, .pair, .port, .tokens, .tamper, .safety, .drives, .supply, .buses] s (State.enterOrphan s) := by
  unfold State.enterOrphan
  repeat' (first
    | with_reducible exact Chg.refl _ _
    | with_reducible assumption
    | (apply Chg.step; rotate_left
       (first
         | with_reducible exact State.logicReset_chg ..
         | with_reducible exact State.modSafety_chg ..
         | with_reducible exact State.orphanPumps_chg ..
         | with_reducible exact State.raise_chg ..
         | with_reducible exact State.react_chg ..
         | with_reducible exact State.refreshLs_chg ..
         | with_reducible exact State.regsOff_chg ..
         | with_reducible exact State.restartDrives_chg ..)
       decide)
    | (extract_lets +onlyGivenNames x1; clear_value x1)
    | split)

theorem State.exitOrphan_chg (s : State) : Chg [.legs, .laws, .pair, .port, .safety, .drives] s (State.exitOrphan s) := by
  unfold State.exitOrphan
  repeat' (first
    | with_reducible exact Chg.refl _ _
    | with_reducible assumption
    | (apply Chg.step; rotate_left
       (first
         | with_reducible exact State.modSafety_chg ..
         | with_reducible exact State.raise_chg ..
         | with_reducible exact State.refreshLs_chg ..
         | with_reducible exact State.requestSo_chg ..)
       decide)
    | (extract_lets +onlyGivenNames x1
       suffices hx : Chg [.legs, .laws, .pair, .port, .safety, .drives] s x1
       on_goal 1 => clear_value x1
       on_goal 2 => unfold x1)
    | (extract_lets +onlyGivenNames x1
       suffices hx : Chg [.legs, .laws, .pair, .port, .safety, .drives] s x1.2
       on_goal 1 => clear_value x1
       on_goal 2 => unfold x1)
    | (extract_lets +onlyGivenNames x1; clear_value x1)
    | split)

theorem State.expandStep_chg (s : State) : Chg [.startup, .thermal, .pair] s (State.expandStep s) := by
  unfold State.expandStep
  repeat' (first
    | with_reducible exact Chg.refl _ _
    | with_reducible assumption
    | (apply Chg.step; rotate_left
       (first
         | with_reducible exact State.expandThermal_chg ..
         | with_reducible exact State.modPair_chg ..
         | with_reducible exact State.stepDone_chg ..)
       decide)
    | (extract_lets +onlyGivenNames x1
       suffices hx : Chg [.startup, .thermal, .pair] s x1
       on_goal 1 => clear_value x1
       on_goal 2 => unfold x1)
    | split)

theorem State.switchSet_chg (s : State) (i : SetId) : Chg [.carousel, .pair, .port] s (State.switchSet s i) := by
  unfold State.switchSet
  repeat' (first
    | with_reducible exact Chg.refl _ _
    | with_reducible assumption
    | (apply Chg.step; rotate_left
       (first
         | with_reducible exact State.decideCar_chg ..
         | with_reducible exact State.toSet_chg ..)
       decide))

theorem State.followedFailed_chg (s : State) : Chg [.carousel, .pair, .port] s (State.followedFailed s) := by
  unfold State.followedFailed
  repeat' (first
    | with_reducible exact Chg.refl _ _
    | with_reducible assumption
    | (apply Chg.step; rotate_left
       (first
         | with_reducible exact State.enterHoldover_chg ..
         | with_reducible exact State.modCar_chg ..
         | with_reducible exact State.relockOn_chg ..
         | with_reducible exact State.switchSet_chg ..)
       decide)
    | (extract_lets +onlyGivenNames x1
       suffices hx : Chg [.carousel, .pair, .port] s x1
       on_goal 1 => clear_value x1
       on_goal 2 => unfold x1)
    | (extract_lets +onlyGivenNames x1
       suffices hx : Chg [.carousel, .pair, .port] s x1.2
       on_goal 1 => clear_value x1
       on_goal 2 => unfold x1)
    | (extract_lets +onlyGivenNames x1; clear_value x1)
    | split)

theorem State.failSet_chg (s : State) (i : SetId) (cause : RefCause) : Chg [.carousel, .pair, .port] s (State.failSet s i cause) := by
  unfold State.failSet
  repeat' (first
    | with_reducible exact Chg.refl _ _
    | with_reducible assumption
    | (apply Chg.step; rotate_left
       (first
         | with_reducible exact State.followedFailed_chg ..
         | with_reducible exact State.modCar_chg ..
         | with_reducible exact State.raise_chg ..)
       decide)
    | (extract_lets +onlyGivenNames x1
       suffices hx : Chg [.carousel, .pair, .port] s x1
       on_goal 1 => clear_value x1
       on_goal 2 => unfold x1)
    | split)

theorem State.faultChannel_chg (s : State) (i : ℕ) (cause : ℕ) : Chg [.legs, .laws, .pair, .port, .safety] s (State.faultChannel s i cause) := by
  unfold State.faultChannel
  repeat' (first
    | with_reducible exact Chg.refl _ _
    | with_reducible assumption
    | (apply Chg.step; rotate_left
       (first
         | with_reducible exact State.evalFns_chg ..
         | with_reducible exact State.modFn_chg ..
         | with_reducible exact State.modIn_chg ..
         | with_reducible exact State.raise_chg ..)
       decide)
    | (extract_lets +onlyGivenNames x1
       suffices hx : Chg [.legs, .laws, .pair, .port, .safety] s x1
       on_goal 1 => clear_value x1
       on_goal 2 => unfold x1)
    | split)

theorem State.faultLs_chg (s : State) (n : ℕ) (c : LsCause) : Chg [.port, .drives] s (State.faultLs s n c) := by
  unfold State.faultLs
  repeat' (first
    | with_reducible exact Chg.refl _ _
    | with_reducible assumption
    | (apply Chg.step; rotate_left
       (first
         | with_reducible exact State.modLs_chg ..
         | with_reducible exact State.raise_chg ..)
       decide)
    | (extract_lets +onlyGivenNames x1
       suffices hx : Chg [.port, .drives] s x1
       on_goal 1 => clear_value x1
       on_goal 2 => unfold x1)
    | (extract_lets +onlyGivenNames x1
       suffices hx : Chg [.port, .drives] s x1.2
       on_goal 1 => clear_value x1
       on_goal 2 => unfold x1)
    | (extract_lets +onlyGivenNames x1; clear_value x1)
    | split)

theorem State.modOut_chg (s : State) (n : ℕ) (f : SafeOut → SafeOut) : Chg [.safety] s (State.modOut s n f) := by
  unfold State.modOut
  repeat' (first
    | with_reducible exact Chg.refl _ _
    | with_reducible assumption
    | (apply Chg.step; rotate_left
       with_reducible exact State.modSafety_chg ..
       decide))

theorem State.faultOut_chg (s : State) (n : ℕ) (cause : ℕ) : Chg [.legs, .laws, .pair, .port, .safety] s (State.faultOut s n cause) := by
  unfold State.faultOut
  repeat' (first
    | with_reducible exact Chg.refl _ _
    | with_reducible assumption
    | (apply Chg.step; rotate_left
       (first
         | with_reducible exact State.modOut_chg ..
         | with_reducible exact State.raise_chg ..
         | with_reducible exact State.react_chg ..)
       decide)
    | split)

theorem State.faultPump_chg (s : State) (n : ℕ) (cause : ℕ) : Chg [.port, .drives] s (State.faultPump s n cause) := by
  unfold State.faultPump
  repeat' (first
    | with_reducible exact Chg.refl _ _
    | with_reducible assumption
    | (apply Chg.step; rotate_left
       (first
         | with_reducible exact State.modPump_chg ..
         | with_reducible exact State.raise_chg ..)
       decide)
    | (extract_lets +onlyGivenNames x1
       suffices hx : Chg [.port, .drives] s x1
       on_goal 1 => clear_value x1
       on_goal 2 => unfold x1)
    | (extract_lets +onlyGivenNames x1
       suffices hx : Chg [.port, .drives] s x1.2
       on_goal 1 => clear_value x1
       on_goal 2 => unfold x1)
    | (extract_lets +onlyGivenNames x1; clear_value x1)
    | split)

theorem State.findFault_chg (s : State) (leg : LegNo) (c : LegCause) : Chg [.legs, .laws, .pair, .port] s (State.findFault s leg c) := by
  unfold State.findFault
  repeat' (first
    | with_reducible exact Chg.refl _ _
    | with_reducible assumption
    | (apply Chg.step; rotate_left
       (first
         | with_reducible exact State.decideCoast_chg ..
         | with_reducible exact State.modLeg_chg ..
         | with_reducible exact State.takeFault_chg ..)
       decide)
    | refine Chg.step (M := [.legs, .laws, .pair, .port]) ?_ (State.submit_chg (fun s => ?_) (by decide)) (by decide)
    | (extract_lets +onlyGivenNames x1
       suffices hx : Chg [.legs, .laws, .pair, .port] s x1
       on_goal 1 => clear_value x1
       on_goal 2 => unfold x1)
    | (extract_lets +onlyGivenNames x1
       suffices hx : Chg [.legs, .laws, .pair, .port] s x1.2
       on_goal 1 => clear_value x1
       on_goal 2 => unfold x1)
    | (extract_lets +onlyGivenNames x1; clear_value x1)
    | split)

theorem State.logActivation_chg (s : State) (result : ℕ) : Chg [.update] s (State.logActivation s result) := by
  unfold State.logActivation
  repeat' (first
    | with_reducible exact Chg.refl _ _
    | with_reducible assumption
    | (apply Chg.step; rotate_left
       with_reducible exact State.modUpdate_chg ..
       decide))

theorem State.finishTrial_chg (s : State) (old : BankId) : Chg [.scribe, .update, .port, .tamper] s (State.finishTrial s old) := by
  unfold State.finishTrial
  repeat' (first
    | with_reducible exact Chg.refl _ _
    | with_reducible assumption
    | (apply Chg.step; rotate_left
       (first
         | with_reducible exact State.countTamper_chg ..
         | with_reducible exact State.logActivation_chg ..
         | with_reducible exact State.metLogAdd_chg ..
         | with_reducible exact State.modScribe_chg ..
         | with_reducible exact State.modUpdate_chg ..
         | with_reducible exact State.raise_chg ..)
       decide)
    | (extract_lets +onlyGivenNames x1
       suffices hx : Chg [.scribe, .update, .port, .tamper] s x1
       on_goal 1 => clear_value x1
       on_goal 2 => unfold x1)
    | (extract_lets +onlyGivenNames x1
       suffices hx : Chg [.scribe, .update, .port, .tamper] s x1.2
       on_goal 1 => clear_value x1
       on_goal 2 => unfold x1)
    | (extract_lets +onlyGivenNames x1; clear_value x1)
    | split
    | (with_reducible apply Chg.foldl; rotate_left; intro s _))

theorem State.firstOpen_chg (s : State) : Chg [.scribe, .pair, .port, .tokens, .tamper] s (State.firstOpen s) := by
  unfold State.firstOpen
  repeat' (first
    | with_reducible exact Chg.refl _ _
    | with_reducible assumption
    | (apply Chg.step; rotate_left
       (first
         | with_reducible exact State.boundaries_chg ..
         | with_reducible exact State.modScribe_chg ..
         | with_reducible exact State.modTokens_chg ..
         | with_reducible exact State.scribeCommit_chg ..
         | with_reducible exact State.startInterval_chg ..)
       decide))

theorem State.flagFaulty_chg (s : State) : Chg [.scribe] s (State.flagFaulty s) := by
  unfold State.flagFaulty
  repeat' (first
    | with_reducible exact Chg.refl _ _
    | with_reducible assumption
    | (apply Chg.step; rotate_left
       with_reducible exact State.flagOutlet_chg ..
       decide)
    | (extract_lets +onlyGivenNames x1; clear_value x1)
    | split
    | (with_reducible apply Chg.foldl; rotate_left; intro s _))

theorem State.freshDcu_chg (s : State) (inst : ℕ) : Chg [.thermal] s (State.freshDcu s inst) := by
  unfold State.freshDcu
  repeat' (first
    | with_reducible exact Chg.refl _ _
    | with_reducible assumption
    | (extract_lets +onlyGivenNames x1
       suffices hx : Chg [.thermal] s x1
       on_goal 1 => clear_value x1
       on_goal 2 => unfold x1)
    | (extract_lets +onlyGivenNames x1
       suffices hx : Chg [.thermal] s x1.2
       on_goal 1 => clear_value x1
       on_goal 2 => unfold x1)
    | (extract_lets +onlyGivenNames x1; clear_value x1)
    | split
    | fail_if_no_progress (with_reducible refine Chg.step ?_ (Chg.setThermal _ _) (by decide)))

theorem State.guaranteeCuts_chg (s : State) (a : Alloc) : Chg [.juggler, .port] s (State.guaranteeCuts s a) := by
  unfold State.guaranteeCuts
  repeat' (first
    | with_reducible exact Chg.refl _ _
    | with_reducible assumption
    | (apply Chg.step; rotate_left
       (first
         | with_reducible exact State.modJug_chg ..
         | with_reducible exact State.raise_chg ..)
       decide)
    | (extract_lets +onlyGivenNames x1; clear_value x1)
    | split
    | (with_reducible apply Chg.foldl; rotate_left; intro s _))

theorem State.guarded_chg {L : List Part} {s : State} {c : ConnNo} {o : Obis} {r : Right} {f : Conn → State → State}
    (h : ∀ k z, Chg L z (f k z)) (hp : [Part.port].all (fun p => L.contains p) = true) : Chg L s (s.guarded c o r f) := by
  unfold State.guarded
  refine State.op_chg (fun k z => ?_) hp
  exact Chg.ite (Chg.step (Chg.refl _ _) (State.answer_chg ..) hp) (Chg.ite (h _ _) (Chg.step (Chg.refl _ _) (State.answer_chg ..) hp))

theorem State.hold__chg (s : State) : Chg [.startup, .array, .legs, .laws, .pair, .port, .safety, .drives, .supply] s (State.hold_ s) := by
  unfold State.hold_
  repeat' (first
    | with_reducible exact Chg.refl _ _
    | with_reducible assumption
    | (apply Chg.step; rotate_left
       (first
         | with_reducible exact State.endService_chg ..
         | with_reducible exact State.modPair_chg ..
         | with_reducible exact State.quiet_chg ..)
       decide)
    | (extract_lets +onlyGivenNames x1
       suffices hx : Chg [.startup, .array, .legs, .laws, .pair, .port, .safety, .drives, .supply] s x1
       on_goal 1 => clear_value x1
       on_goal 2 => unfold x1)
    | (extract_lets +onlyGivenNames x1
       suffices hx : Chg [.startup, .array, .legs, .laws, .pair, .port, .safety, .drives, .supply] s x1.2
       on_goal 1 => clear_value x1
       on_goal 2 => unfold x1)
    | (extract_lets +onlyGivenNames x1; clear_value x1)
    | split
    | fail_if_no_progress (with_reducible refine Chg.step ?_ (Chg.setStartup _ _) (by decide)))

theorem State.reportGroup_chg (s : State) (g : ℕ) : Chg [.legs, .port] s (State.reportGroup s g) := by
  unfold State.reportGroup
  repeat' (first
    | with_reducible exact Chg.refl _ _
    | with_reducible assumption
    | (apply Chg.step; rotate_left
       (first
         | with_reducible exact State.modGroup_chg ..
         | with_reducible exact State.raise_chg ..)
       decide)
    | (extract_lets +onlyGivenNames x1
       suffices hx : Chg [.legs, .port] s x1
       on_goal 1 => clear_value x1
       on_goal 2 => unfold x1)
    | (extract_lets +onlyGivenNames x1
       suffices hx : Chg [.legs, .port] s x1.2
       on_goal 1 => clear_value x1
       on_goal 2 => unfold x1)
    | (extract_lets +onlyGivenNames x1; clear_value x1)
    | split)

theorem State.reportGroups_chg (s : State) : Chg [.legs, .port] s (State.reportGroups s) := by
  unfold State.reportGroups
  repeat' (first
    | with_reducible exact Chg.refl _ _
    | with_reducible assumption
    | (apply Chg.step; rotate_left
       with_reducible exact State.reportGroup_chg ..
       decide)
    | split
    | (with_reducible apply Chg.foldl; rotate_left; intro s _))

theorem State.latchInputs_chg (s : State) (now : JugIn) : Chg [.juggler, .port] s (State.latchInputs s now) := by
  unfold State.latchInputs
  repeat' (first
    | with_reducible exact Chg.refl _ _
    | with_reducible assumption
    | (apply Chg.step; rotate_left
       (first
         | with_reducible exact State.drainLatch_chg ..
         | with_reducible exact State.modJug_chg ..)
       decide)
    | (extract_lets +onlyGivenNames x1
       suffices hx : Chg [.juggler, .port] s x1
       on_goal 1 => clear_value x1
       on_goal 2 => unfold x1)
    | split
    | (with_reducible apply Chg.foldl; rotate_left; intro s _))

theorem State.inkSwitch_chg (s : State) (now : JugIn) : Chg [.juggler, .port] s (State.inkSwitch s now) := by
  unfold State.inkSwitch
  split
  rename_i a x1 heq
  have h1 : Chg [.juggler, .port] s x1 := by
    split at heq
    · cases heq; exact Chg.refl _ _
    · cases heq
      exact Chg.step (Chg.step (Chg.refl _ s) (State.modJug_chg ..) (by decide)) (State.raise_chg ..) (by decide)
    · cases heq; exact Chg.refl _ _
  exact Chg.foldl _ _ (Chg.step h1 (State.modJug_chg ..) (by decide)) fun s x => Chg.step (Chg.refl _ _) (State.applyDecision_chg ..) (by decide)

theorem State.inkHalf_chg (s : State) : Chg [.array, .legs, .juggler, .port] s (State.inkHalf s) := by
  unfold State.inkHalf
  repeat' (first
    | with_reducible exact Chg.refl _ _
    | with_reducible assumption
    | (apply Chg.step; rotate_left
       (first
         | with_reducible exact State.inkSwitch_chg ..
         | with_reducible exact State.latchInputs_chg ..
         | with_reducible exact State.modArr_chg ..
         | with_reducible exact State.reportGroups_chg ..)
       decide))

theorem State.writeInk_chg (s : State) (i : JugIn) (a : Alloc) (other : Option InkVals) : Chg [.juggler, .pair, .port] s (State.writeInk s i a other) := by
  unfold State.writeInk
  repeat' (first
    | with_reducible exact Chg.refl _ _
    | with_reducible assumption
    | (apply Chg.step; rotate_left
       (first
         | with_reducible exact State.guaranteeCuts_chg ..
         | with_reducible exact State.journal_chg ..
         | with_reducible exact State.logAlloc_chg ..
         | with_reducible exact State.modJug_chg ..)
       decide)
    | (extract_lets +onlyGivenNames x1
       suffices hx : Chg [.juggler, .pair, .port] s x1
       on_goal 1 => clear_value x1
       on_goal 2 => unfold x1)
    | (extract_lets +onlyGivenNames x1
       suffices hx : Chg [.juggler, .pair, .port] s x1.2
       on_goal 1 => clear_value x1
       on_goal 2 => unfold x1)
    | (extract_lets +onlyGivenNames x1; clear_value x1)
    | split
    | fail_if_no_progress (with_reducible refine Chg.step ?_ (Chg.setPair _ _) (by decide)))

theorem State.inkPoint_chg (s : State) (now : JugIn) (other : Option InkVals) : Chg [.carousel, .juggler, .pair, .port] s (State.inkPoint s now other) := by
  unfold State.inkPoint
  repeat' (first
    | with_reducible exact Chg.refl _ _
    | with_reducible assumption
    | (apply Chg.step; rotate_left
       (first
         | with_reducible exact State.modCar_chg ..
         | with_reducible exact State.modJug_chg ..
         | with_reducible exact State.raise_chg ..
         | with_reducible exact State.writeInk_chg ..)
       decide)
    | (extract_lets +onlyGivenNames x1
       suffices hx : Chg [.carousel, .juggler, .pair, .port] s x1
       on_goal 1 => clear_value x1
       on_goal 2 => unfold x1)
    | (extract_lets +onlyGivenNames x1
       suffices hx : Chg [.carousel, .juggler, .pair, .port] s x1.2
       on_goal 1 => clear_value x1
       on_goal 2 => unfold x1)
    | (extract_lets +onlyGivenNames x1; clear_value x1)
    | split)

theorem State.takeover_chg (s : State) : Chg [.legs, .juggler, .pair, .port, .drives] s (State.takeover s) := by
  unfold State.takeover
  repeat' (first
    | with_reducible exact Chg.refl _ _
    | with_reducible assumption
    | (apply Chg.step; rotate_left
       (first
         | with_reducible exact State.raise_chg ..
         | with_reducible exact State.takeRing_chg ..)
       decide))

theorem State.judgeRing_chg (s : State) : Chg [.legs, .laws, .juggler, .barker, .scribe, .keys, .update, .pair, .port, .tokens, .drives] s (State.judgeRing s) := by
  unfold State.judgeRing
  repeat' (first
    | with_reducible exact Chg.refl _ _
    | with_reducible assumption
    | (apply Chg.step; rotate_left
       (first
         | with_reducible exact State.coldTakeover_chg ..
         | with_reducible exact State.takeover_chg ..)
       decide)
    | (extract_lets +onlyGivenNames x1
       suffices hx : Chg [.legs, .laws, .juggler, .barker, .scribe, .keys, .update, .pair, .port, .tokens, .drives] s x1
       on_goal 1 => clear_value x1
       on_goal 2 => unfold x1)
    | (extract_lets +onlyGivenNames x1
       suffices hx : Chg [.legs, .laws, .juggler, .barker, .scribe, .keys, .update, .pair, .port, .tokens, .drives] s x1.2
       on_goal 1 => clear_value x1
       on_goal 2 => unfold x1)
    | (extract_lets +onlyGivenNames x1; clear_value x1)
    | split)

theorem State.latchSample_chg (s : State) (n : ℕ) (m : ℕ) : Chg [.legs] s (State.latchSample s n m) := by
  unfold State.latchSample
  repeat' (first
    | with_reducible exact Chg.refl _ _
    | with_reducible assumption
    | (apply Chg.step; rotate_left
       with_reducible exact State.modLeg_chg ..
       decide))

theorem State.lateEvent_chg (s : State) (cls : ℕ) (kind : TaskKind) (seq : ℕ) (late : ℕ) : Chg [.port] s (State.lateEvent s cls kind seq late) := by
  unfold State.lateEvent
  repeat' (first
    | with_reducible exact Chg.refl _ _
    | with_reducible assumption
    | (apply Chg.step; rotate_left
       with_reducible exact State.raise_chg ..
       decide))

theorem State.lateSchedule_chg (s : State) (subsystem : ℕ) (requested : ℕ) : Chg [.carousel, .port] s (State.lateSchedule s subsystem requested) := by
  unfold State.lateSchedule
  repeat' (first
    | with_reducible exact Chg.refl _ _
    | with_reducible assumption
    | (apply Chg.step; rotate_left
       (first
         | with_reducible exact State.modCar_chg ..
         | with_reducible exact State.raise_chg ..)
       decide))

theorem State.scheduleGroup_chg (s : State) (g : ℕ) (b : ℕ) (period : ℚ) : Chg [.legs] s (State.scheduleGroup s g b period) := by
  unfold State.scheduleGroup
  repeat' (first
    | with_reducible exact Chg.refl _ _
    | with_reducible assumption
    | (extract_lets +onlyGivenNames x1
       suffices hx : Chg [.legs] s x1
       on_goal 1 => clear_value x1
       on_goal 2 => unfold x1)
    | (extract_lets +onlyGivenNames x1
       suffices hx : Chg [.legs] s x1.2
       on_goal 1 => clear_value x1
       on_goal 2 => unfold x1)
    | (extract_lets +onlyGivenNames x1; clear_value x1)
    | split
    | fail_if_no_progress (with_reducible refine Chg.step ?_ (Chg.setLegs _ _) (by decide)))

theorem State.startGroup_chg (s : State) (g : ℕ) : Chg [.legs, .port] s (State.startGroup s g) := by
  unfold State.startGroup
  repeat' (first
    | with_reducible exact Chg.refl _ _
    | with_reducible assumption
    | (apply Chg.step; rotate_left
       (first
         | with_reducible exact State.modGroup_chg ..
         | with_reducible exact State.modLeg_chg ..
         | with_reducible exact State.raise_chg ..
         | with_reducible exact State.scheduleGroup_chg ..)
       decide)
    | (extract_lets +onlyGivenNames x1
       suffices hx : Chg [.legs, .port] s x1
       on_goal 1 => clear_value x1
       on_goal 2 => unfold x1)
    | (extract_lets +onlyGivenNames x1
       suffices hx : Chg [.legs, .port] s x1.2
       on_goal 1 => clear_value x1
       on_goal 2 => unfold x1)
    | (extract_lets +onlyGivenNames x1; clear_value x1)
    | split
    | (with_reducible apply Chg.foldl; rotate_left; intro s _))

theorem State.lawHalf_chg (s : State) (ink : InkOf) (path : ℕ → Bool) (l : ℕ) : Chg [.legs, .laws, .port] s (State.lawHalf s ink path l) := by
  unfold State.lawHalf
  extract_lets w g new p old step x1 x2
  have h1 : Chg [.legs, .laws, .port] s x1 := Chg.step (Chg.refl _ _) (State.modLaw_chg ..) (by decide)
  have h2 : Chg [.legs, .laws, .port] s x2 := Chg.step h1 (State.startGroup_chg ..) (by decide)
  refine Chg.ite (Chg.refl _ _) ?_
  clear_value x2 x1
  split
  · exact Chg.ite (Chg.step (Chg.step h1 (State.modLaw_chg ..) (by decide)) (State.decideCoast_chg ..) (by decide)) h1
  · exact Chg.ite (Chg.step (Chg.step h2 (State.modLaw_chg ..) (by decide)) (State.raise_chg ..) (by decide)) h1
  · exact Chg.step h1 (State.modLaw_chg ..) (by decide)
  · exact h1

theorem State.lawsHalf_chg (s : State) (ink : InkOf) (path : ℕ → Bool) : Chg [.legs, .laws, .port] s (State.lawsHalf s ink path) := by
  unfold State.lawsHalf
  repeat' (first
    | with_reducible exact Chg.refl _ _
    | with_reducible assumption
    | (apply Chg.step; rotate_left
       with_reducible exact State.lawHalf_chg ..
       decide)
    | split
    | (with_reducible apply Chg.foldl; rotate_left; intro s _))

theorem State.scheduleLaw_chg (s : State) (l : ℕ) : Chg [.laws] s (State.scheduleLaw s l) := by
  unfold State.scheduleLaw
  repeat' (first
    | with_reducible exact Chg.refl _ _
    | with_reducible assumption
    | (apply Chg.step; rotate_left
       with_reducible exact State.modLaw_chg ..
       decide)
    | (extract_lets +onlyGivenNames x1
       suffices hx : Chg [.laws] s x1
       on_goal 1 => clear_value x1
       on_goal 2 => unfold x1)
    | (extract_lets +onlyGivenNames x1
       suffices hx : Chg [.laws] s x1.2
       on_goal 1 => clear_value x1
       on_goal 2 => unfold x1)
    | (extract_lets +onlyGivenNames x1; clear_value x1)
    | split)

theorem State.lawsStroke_chg (s : State) : Chg [.legs, .laws, .port] s (State.lawsStroke s) := by
  unfold State.lawsStroke
  repeat' (first
    | with_reducible exact Chg.refl _ _
    | with_reducible assumption
    | (apply Chg.step; rotate_left
       (first
         | with_reducible exact State.coastLaw_chg ..
         | with_reducible exact State.scheduleLaw_chg ..)
       decide)
    | (extract_lets +onlyGivenNames x1
       suffices hx : Chg [.legs, .laws, .port] s x1
       on_goal 1 => clear_value x1
       on_goal 2 => unfold x1)
    | (extract_lets +onlyGivenNames x1; clear_value x1)
    | split
    | (with_reducible apply Chg.foldl; rotate_left; intro s _))

theorem State.refuse_chg (s : State) (code : ℕ) (index : ℕ) : Chg [.carousel, .startup, .scribe, .pair, .port] s (State.refuse s code index) := by
  unfold State.refuse
  repeat' (first
    | with_reducible exact Chg.refl _ _
    | with_reducible assumption
    | (apply Chg.step; rotate_left
       with_reducible exact State.raise_chg ..
       decide)
    | (extract_lets +onlyGivenNames x1
       suffices hx : Chg [.carousel, .startup, .scribe, .pair, .port] s x1
       on_goal 1 => clear_value x1
       on_goal 2 => unfold x1)
    | (extract_lets +onlyGivenNames x1
       suffices hx : Chg [.carousel, .startup, .scribe, .pair, .port] s x1.2
       on_goal 1 => clear_value x1
       on_goal 2 => unfold x1)
    | (extract_lets +onlyGivenNames x1; clear_value x1)
    | split
    | fail_if_no_progress (with_reducible refine Chg.step ?_ (Chg.setCarousel _ _) (by decide))
    | fail_if_no_progress (with_reducible refine Chg.step ?_ (Chg.setStartup _ _) (by decide))
    | fail_if_no_progress (with_reducible refine Chg.step ?_ (Chg.setScribe _ _) (by decide))
    | fail_if_no_progress (with_reducible refine Chg.step ?_ (Chg.setPair _ _) (by decide))
    | (refine ⟨fun p hp => ?_⟩; have hb := fun (x : State) (h : Chg [.carousel, .startup, .scribe, .pair, .port] s x) => h.1 p hp; cases p <;> first | (exact absurd hp (by decide)) | (simp only [State.same]; done) | (simp only [State.same] at hb ⊢; exact hb _ (by assumption))))

theorem State.leaveReset_chg (s : State) (obs : ImageObs) : Chg [.time, .carousel, .startup, .legs, .laws, .scribe, .keys, .update, .pair, .port, .safety, .supply] s (State.leaveReset s obs) := by
  unfold State.leaveReset
  extract_lets cells since _ x1 x2 x3 x4 x5 _ x6 _ x7 x8
  have h1 : Chg [.time, .port] s x1 := ⟨fun p hp => by
    cases p <;> first | (exact absurd hp (by decide)) | (simp only [State.same, x1]; done)⟩
  have h2 : Chg [.time, .carousel, .startup, .legs, .laws, .scribe, .keys, .update, .pair, .port, .safety, .supply] s x2 := Chg.step (Chg.step (Chg.refl _ _) h1 (by decide)) (State.stepDone_chg ..) (by decide)
  clear_value x2
  have h3 : Chg [.time, .carousel, .startup, .legs, .laws, .scribe, .keys, .update, .pair, .port, .safety, .supply] s x3 := Chg.foldl _ _ h2 fun s x => Chg.step (Chg.refl _ _) (State.raise_chg ..) (by decide)
  have h4 : Chg [.time, .carousel, .startup, .legs, .laws, .scribe, .keys, .update, .pair, .port, .safety, .supply] s x4 := Chg.step (Chg.step h3 (State.modSafety_chg ..) (by decide)) (State.react_chg ..) (by decide)
  clear_value x4
  have h5 : Chg [.time, .carousel, .startup, .legs, .laws, .scribe, .keys, .update, .pair, .port, .safety, .supply] s x5 := by
    unfold x5
    split
    · exact Chg.ite (Chg.step h4 (State.raise_chg ..) (by decide)) h4
    · exact h4
  clear_value x5
  have h6 : Chg [.time, .carousel, .startup, .legs, .laws, .scribe, .keys, .update, .pair, .port, .safety, .supply] s x6 := Chg.step h5 (Chg.setSupply ..) (by decide)
  clear_value x6
  have h7 : Chg [.time, .carousel, .startup, .legs, .laws, .scribe, .keys, .update, .pair, .port, .safety, .supply] s x7 := by
    unfold x7
    split
    · exact Chg.step (Chg.step h6 (Chg.setUpdate ..) (by decide)) (State.raise_chg ..) (by decide)
    · exact h6
  clear_value x7
  have h8 : Chg [.time, .carousel, .startup, .legs, .laws, .scribe, .keys, .update, .pair, .port, .safety, .supply] s x8 := Chg.foldl _ _ h7 fun s x => Chg.step (Chg.refl _ _) (State.corruptSlot_chg ..) (by decide)
  exact Chg.ite (Chg.step h8 (State.refuse_chg ..) (by decide)) (Chg.ite (Chg.step h8 (State.refuse_chg ..) (by decide)) h8)

theorem State.legsStroke_chg (s : State) : Chg [.legs] s (State.legsStroke s) := by
  unfold State.legsStroke
  extract_lets counting _ x1 x2 _ x3 b period
  have h1 : Chg [.legs] s x1 := Chg.setLegs ..
  clear_value x1
  have h2 : Chg [.legs] s x2 := Chg.foldl _ _ h1 fun s x => Chg.ite (Chg.step (Chg.refl _ _) (State.coastGroup_chg ..) (by decide)) (Chg.refl _ _)
  clear_value x2
  have h3 : Chg [.legs] s x3 := by
    unfold x3
    refine Chg.ite ?_ h2
    exact Chg.step h2 (Chg.setLegs ..) (by decide)
  clear_value x3
  exact Chg.foldl _ _ h3 fun s x => Chg.ite (Chg.refl _ _) (Chg.step (Chg.refl _ _) (State.scheduleGroup_chg ..) (by decide))

theorem State.mdEdge_chg (s : State) (g : ℕ) (bits : BitVec 16) : Chg [.scribe] s (State.mdEdge s g bits) := by
  unfold State.mdEdge
  repeat' (first
    | with_reducible exact Chg.refl _ _
    | with_reducible assumption
    | (apply Chg.step; rotate_left
       with_reducible exact State.modScribe_chg ..
       decide)
    | (extract_lets +onlyGivenNames x1
       suffices hx : Chg [.scribe] s x1
       on_goal 1 => clear_value x1
       on_goal 2 => unfold x1)
    | (extract_lets +onlyGivenNames x1
       suffices hx : Chg [.scribe] s x1.2
       on_goal 1 => clear_value x1
       on_goal 2 => unfold x1)
    | (extract_lets +onlyGivenNames x1; clear_value x1)
    | split
    | (with_reducible apply Chg.foldl; rotate_left; intro s _))

theorem State.meterFault_chg (s : State) (o : ℕ) (on : Bool) (cause : ℤ) : Chg [.scribe, .port, .tamper] s (State.meterFault s o on cause) := by
  unfold State.meterFault
  repeat' (first
    | with_reducible exact Chg.refl _ _
    | with_reducible assumption
    | (apply Chg.step; rotate_left
       (first
         | with_reducible exact State.countTamper_chg ..
         | with_reducible exact State.flagOutlet_chg ..
         | with_reducible exact State.modScribe_chg ..
         | with_reducible exact State.raiseS_chg ..)
       decide)
    | (extract_lets +onlyGivenNames x1
       suffices hx : Chg [.scribe, .port, .tamper] s x1
       on_goal 1 => clear_value x1
       on_goal 2 => unfold x1)
    | split)

theorem State.modEth_chg (s : State) (p : EthNo) (f : Eth → Eth) : Chg [.buses] s (State.modEth s p f) := by
  unfold State.modEth
  repeat' (first
    | with_reducible exact Chg.refl _ _
    | with_reducible assumption
    | (extract_lets +onlyGivenNames x1
       suffices hx : Chg [.buses] s x1
       on_goal 1 => clear_value x1
       on_goal 2 => unfold x1)
    | (extract_lets +onlyGivenNames x1
       suffices hx : Chg [.buses] s x1.2
       on_goal 1 => clear_value x1
       on_goal 2 => unfold x1)
    | (extract_lets +onlyGivenNames x1; clear_value x1)
    | split
    | fail_if_no_progress (with_reducible refine Chg.step ?_ (Chg.setBuses _ _) (by decide)))

theorem State.modGroupVs_chg (s : State) (g : ℕ) (f : SupplyGroup → SupplyGroup) : Chg [.drives] s (State.modGroupVs s g f) := by
  unfold State.modGroupVs
  repeat' (first
    | with_reducible exact Chg.refl _ _
    | with_reducible assumption
    | (extract_lets +onlyGivenNames x1
       suffices hx : Chg [.drives] s x1
       on_goal 1 => clear_value x1
       on_goal 2 => unfold x1)
    | (extract_lets +onlyGivenNames x1
       suffices hx : Chg [.drives] s x1.2
       on_goal 1 => clear_value x1
       on_goal 2 => unfold x1)
    | (extract_lets +onlyGivenNames x1; clear_value x1)
    | split
    | fail_if_no_progress (with_reducible refine Chg.step ?_ (Chg.setDrives _ _) (by decide)))

theorem State.modPtp_chg (s : State) (f : Ptp → Ptp) : Chg [.ptp] s (State.modPtp s f) := by
  unfold State.modPtp
  repeat' (first
    | with_reducible exact Chg.refl _ _
    | with_reducible assumption
    | split
    | fail_if_no_progress (with_reducible refine Chg.step ?_ (Chg.setPtp _ _) (by decide)))

theorem State.respond_chg (s : State) (c : ℕ) (code : ℕ) (vals : List ℤ) : Chg [.barker] s (State.respond s c code vals) := by
  unfold State.respond
  repeat' (first
    | with_reducible exact Chg.refl _ _
    | with_reducible assumption
    | (apply Chg.step; rotate_left
       with_reducible exact State.modCtx_chg ..
       decide))

theorem State.sequenceError_chg (s : State) (c : ℕ) : Chg [.juggler, .barker, .scribe, .keys, .update, .port, .tokens] s (State.sequenceError s c) := by
  unfold State.sequenceError
  repeat' (first
    | with_reducible exact Chg.refl _ _
    | with_reducible assumption
    | (apply Chg.step; rotate_left
       (first
         | with_reducible exact State.endCtx_chg ..
         | with_reducible exact State.respond_chg ..)
       decide))

theorem State.msgAuthorization_chg (s : State) (c : ℕ) (id : IdKind) (ok : Bool) (emaid : List Byte) : Chg [.juggler, .barker, .scribe, .keys, .update, .port, .tokens] s (State.msgAuthorization s c id ok emaid) := by
  unfold State.msgAuthorization
  repeat' (first
    | with_reducible exact Chg.refl _ _
    | with_reducible assumption
    | (apply Chg.step; rotate_left
       (first
         | with_reducible exact State.endCtx_chg ..
         | with_reducible exact State.grant_chg ..
         | with_reducible exact State.modCtx_chg ..
         | with_reducible exact State.raise_chg ..
         | with_reducible exact State.respond_chg ..
         | with_reducible exact State.sequenceError_chg ..)
       decide)
    | (extract_lets +onlyGivenNames x1
       suffices hx : Chg [.juggler, .barker, .scribe, .keys, .update, .port, .tokens] s x1
       on_goal 1 => clear_value x1
       on_goal 2 => unfold x1)
    | (extract_lets +onlyGivenNames x1
       suffices hx : Chg [.juggler, .barker, .scribe, .keys, .update, .port, .tokens] s x1.2
       on_goal 1 => clear_value x1
       on_goal 2 => unfold x1)
    | (extract_lets +onlyGivenNames x1; clear_value x1)
    | split)

theorem State.msgCableCheck_chg (s : State) (c : ℕ) : Chg [.juggler, .barker, .scribe, .keys, .update, .port, .tokens] s (State.msgCableCheck s c) := by
  unfold State.msgCableCheck
  repeat' (first
    | with_reducible exact Chg.refl _ _
    | with_reducible assumption
    | (apply Chg.step; rotate_left
       (first
         | with_reducible exact State.checkVoltage_chg ..
         | with_reducible exact State.modCtx_chg ..
         | with_reducible exact State.pauseCtx_chg ..
         | with_reducible exact State.refreshReq_chg ..
         | with_reducible exact State.respond_chg ..
         | with_reducible exact State.sequenceError_chg ..)
       decide)
    | (extract_lets +onlyGivenNames x1
       suffices hx : Chg [.juggler, .barker, .scribe, .keys, .update, .port, .tokens] s x1
       on_goal 1 => clear_value x1
       on_goal 2 => unfold x1)
    | (extract_lets +onlyGivenNames x1
       suffices hx : Chg [.juggler, .barker, .scribe, .keys, .update, .port, .tokens] s x1.2
       on_goal 1 => clear_value x1
       on_goal 2 => unfold x1)
    | (extract_lets +onlyGivenNames x1; clear_value x1)
    | split)

theorem State.msgDemand_chg (s : State) (c : ℕ) (v : ℕ) (i : ℕ) (maxV : ℕ) (maxI : ℕ) (maxP : Option ℕ) (pv : Option ℕ) : Chg [.juggler, .barker, .scribe, .keys, .update, .port, .tokens] s (State.msgDemand s c v i maxV maxI maxP pv) := by
  unfold State.msgDemand
  repeat' (first
    | with_reducible exact Chg.refl _ _
    | with_reducible assumption
    | (apply Chg.step; rotate_left
       (first
         | with_reducible exact State.modCtx_chg ..
         | with_reducible exact State.refreshReq_chg ..
         | with_reducible exact State.respond_chg ..
         | with_reducible exact State.sequenceError_chg ..)
       decide)
    | (extract_lets +onlyGivenNames x1
       suffices hx : Chg [.juggler, .barker, .scribe, .keys, .update, .port, .tokens] s x1
       on_goal 1 => clear_value x1
       on_goal 2 => unfold x1)
    | (extract_lets +onlyGivenNames x1
       suffices hx : Chg [.juggler, .barker, .scribe, .keys, .update, .port, .tokens] s x1.2
       on_goal 1 => clear_value x1
       on_goal 2 => unfold x1)
    | (extract_lets +onlyGivenNames x1; clear_value x1)
    | split)

theorem State.msgDiscovery_chg (s : State) (c : ℕ) (v : ℕ) (i : ℕ) (p : Option ℕ) (dynamic : Bool) : Chg [.juggler, .barker, .scribe, .keys, .update, .port, .tokens] s (State.msgDiscovery s c v i p dynamic) := by
  unfold State.msgDiscovery
  repeat' (first
    | with_reducible exact Chg.refl _ _
    | with_reducible assumption
    | (apply Chg.step; rotate_left
       (first
         | with_reducible exact State.modCtx_chg ..
         | with_reducible exact State.refreshReq_chg ..
         | with_reducible exact State.respond_chg ..
         | with_reducible exact State.sequenceError_chg ..)
       decide)
    | (extract_lets +onlyGivenNames x1
       suffices hx : Chg [.juggler, .barker, .scribe, .keys, .update, .port, .tokens] s x1
       on_goal 1 => clear_value x1
       on_goal 2 => unfold x1)
    | (extract_lets +onlyGivenNames x1
       suffices hx : Chg [.juggler, .barker, .scribe, .keys, .update, .port, .tokens] s x1.2
       on_goal 1 => clear_value x1
       on_goal 2 => unfold x1)
    | (extract_lets +onlyGivenNames x1; clear_value x1)
    | split)

theorem State.vehicleStop_chg (s : State) (c : ℕ) : Chg [.juggler, .barker, .scribe, .keys, .update, .port, .tokens] s (State.vehicleStop s c) := by
  unfold State.vehicleStop
  repeat' (first
    | with_reducible exact Chg.refl _ _
    | with_reducible assumption
    | (apply Chg.step; rotate_left
       (first
         | with_reducible exact State.endCtx_chg ..
         | with_reducible exact State.respond_chg ..)
       decide))

theorem State.msgPowerDelivery_chg (s : State) (c : ℕ) (start : Bool) : Chg [.juggler, .barker, .scribe, .keys, .update, .port, .tokens] s (State.msgPowerDelivery s c start) := by
  unfold State.msgPowerDelivery
  repeat' (first
    | with_reducible exact Chg.refl _ _
    | with_reducible assumption
    | (apply Chg.step; rotate_left
       (first
         | with_reducible exact State.modCtx_chg ..
         | with_reducible exact State.pauseCtx_chg ..
         | with_reducible exact State.raise_chg ..
         | with_reducible exact State.refreshReq_chg ..
         | with_reducible exact State.respond_chg ..
         | with_reducible exact State.sequenceError_chg ..
         | with_reducible exact State.vehicleStop_chg ..)
       decide)
    | (extract_lets +onlyGivenNames x1
       suffices hx : Chg [.juggler, .barker, .scribe, .keys, .update, .port, .tokens] s x1
       on_goal 1 => clear_value x1
       on_goal 2 => unfold x1)
    | (extract_lets +onlyGivenNames x1
       suffices hx : Chg [.juggler, .barker, .scribe, .keys, .update, .port, .tokens] s x1.2
       on_goal 1 => clear_value x1
       on_goal 2 => unfold x1)
    | (extract_lets +onlyGivenNames x1; clear_value x1)
    | split)

theorem State.msgPreCharge_chg (s : State) (c : ℕ) (v : ℕ) (i : ℕ) (pv : Option ℕ) : Chg [.juggler, .barker, .scribe, .keys, .update, .port, .tokens] s (State.msgPreCharge s c v i pv) := by
  unfold State.msgPreCharge
  repeat' (first
    | with_reducible exact Chg.refl _ _
    | with_reducible assumption
    | (apply Chg.step; rotate_left
       (first
         | with_reducible exact State.checkVoltage_chg ..
         | with_reducible exact State.modCtx_chg ..
         | with_reducible exact State.refreshReq_chg ..
         | with_reducible exact State.respond_chg ..
         | with_reducible exact State.sequenceError_chg ..)
       decide)
    | (extract_lets +onlyGivenNames x1
       suffices hx : Chg [.juggler, .barker, .scribe, .keys, .update, .port, .tokens] s x1
       on_goal 1 => clear_value x1
       on_goal 2 => unfold x1)
    | (extract_lets +onlyGivenNames x1
       suffices hx : Chg [.juggler, .barker, .scribe, .keys, .update, .port, .tokens] s x1.2
       on_goal 1 => clear_value x1
       on_goal 2 => unfold x1)
    | (extract_lets +onlyGivenNames x1; clear_value x1)
    | split)

theorem State.msgProtocol_chg (s : State) (c : ℕ) (offered : List (Fin 4)) (tls : Bool) : Chg [.juggler, .barker, .scribe, .keys, .update, .port, .tokens] s (State.msgProtocol s c offered tls) := by
  unfold State.msgProtocol
  repeat' (first
    | with_reducible exact Chg.refl _ _
    | with_reducible assumption
    | (apply Chg.step; rotate_left
       (first
         | with_reducible exact State.endCtx_chg ..
         | with_reducible exact State.modCtx_chg ..
         | with_reducible exact State.respond_chg ..
         | with_reducible exact State.sequenceError_chg ..)
       decide)
    | (extract_lets +onlyGivenNames x1
       suffices hx : Chg [.juggler, .barker, .scribe, .keys, .update, .port, .tokens] s x1
       on_goal 1 => clear_value x1
       on_goal 2 => unfold x1)
    | (extract_lets +onlyGivenNames x1
       suffices hx : Chg [.juggler, .barker, .scribe, .keys, .update, .port, .tokens] s x1.2
       on_goal 1 => clear_value x1
       on_goal 2 => unfold x1)
    | (extract_lets +onlyGivenNames x1; clear_value x1)
    | split)

theorem State.orderCommits_chg (s : State) : Chg [.pair] s (State.orderCommits s) := by
  unfold State.orderCommits
  repeat' (first
    | with_reducible exact Chg.refl _ _
    | with_reducible assumption
    | (extract_lets +onlyGivenNames x1
       suffices hx : Chg [.pair] s x1
       on_goal 1 => clear_value x1
       on_goal 2 => unfold x1)
    | (extract_lets +onlyGivenNames x1
       suffices hx : Chg [.pair] s x1.2
       on_goal 1 => clear_value x1
       on_goal 2 => unfold x1)
    | (extract_lets +onlyGivenNames x1; clear_value x1)
    | split
    | fail_if_no_progress (with_reducible refine Chg.step ?_ (Chg.setPair _ _) (by decide)))

theorem State.pairHalf_chg (s : State) : Chg [.pair] s (State.pairHalf s) := by
  unfold State.pairHalf
  repeat' (first
    | with_reducible exact Chg.refl _ _
    | with_reducible assumption
    | (apply Chg.step; rotate_left
       (first
         | with_reducible exact State.modPair_chg ..
         | with_reducible exact State.planYield_chg ..)
       decide)
    | (extract_lets +onlyGivenNames x1
       suffices hx : Chg [.pair] s x1
       on_goal 1 => clear_value x1
       on_goal 2 => unfold x1)
    | split)

theorem State.refuseStep_chg (s : State) (x : Step) : Chg [.carousel, .startup, .scribe, .pair, .port] s (State.refuseStep s x) := by
  unfold State.refuseStep
  repeat' (first
    | with_reducible exact Chg.refl _ _
    | with_reducible assumption
    | (apply Chg.step; rotate_left
       with_reducible exact State.refuse_chg ..
       decide)
    | split)

theorem State.settle_chg (s : State) (st : PairState) : Chg [.carousel, .startup, .scribe, .pair, .port] s (State.settle s st) := by
  unfold State.settle
  repeat' (first
    | with_reducible exact Chg.refl _ _
    | with_reducible assumption
    | (apply Chg.step; rotate_left
       (first
         | with_reducible exact State.modPair_chg ..
         | with_reducible exact State.refuseStep_chg ..
         | with_reducible exact State.stepDone_chg ..)
       decide)
    | split)

theorem State.pairOutcome_chg (s : State) (p : PartnerInfo) : Chg [.carousel, .startup, .array, .legs, .laws, .scribe, .ident, .pair, .port, .tamper, .safety, .drives, .supply] s (State.pairOutcome s p) := by
  have hs (z : State) (st : PairState) (hz : Chg [.carousel, .startup, .array, .legs, .laws, .scribe, .ident, .pair, .port, .tamper, .safety, .drives, .supply] s z) : Chg [.carousel, .startup, .array, .legs, .laws, .scribe, .ident, .pair, .port, .tamper, .safety, .drives, .supply] s (z.settle st) := Chg.step hz (State.settle_chg ..) (by decide)
  have hh (z : State) (hz : Chg [.carousel, .startup, .array, .legs, .laws, .scribe, .ident, .pair, .port, .tamper, .safety, .drives, .supply] s z) : Chg [.carousel, .startup, .array, .legs, .laws, .scribe, .ident, .pair, .port, .tamper, .safety, .drives, .supply] s z.hold_ := Chg.step hz (State.hold__chg ..) (by decide)
  have hr (z : State) (e : Ev) (v : List Int) (hz : Chg [.carousel, .startup, .array, .legs, .laws, .scribe, .ident, .pair, .port, .tamper, .safety, .drives, .supply] s z) : Chg [.carousel, .startup, .array, .legs, .laws, .scribe, .ident, .pair, .port, .tamper, .safety, .drives, .supply] s (z.raise e v) := Chg.step hz (State.raise_chg ..) (by decide)
  have hm (z : State) (f : Pair → Pair) (hz : Chg [.carousel, .startup, .array, .legs, .laws, .scribe, .ident, .pair, .port, .tamper, .safety, .drives, .supply] s z) : Chg [.carousel, .startup, .array, .legs, .laws, .scribe, .ident, .pair, .port, .tamper, .safety, .drives, .supply] s (z.modPair f) := Chg.step hz (State.modPair_chg ..) (by decide)
  have h0 := Chg.refl [.carousel, .startup, .array, .legs, .laws, .scribe, .ident, .pair, .port, .tamper, .safety, .drives, .supply] s
  unfold State.pairOutcome
  extract_lets service x2 src x1 y st x3 x4
  have h2 : Chg [.carousel, .startup, .array, .legs, .laws, .scribe, .ident, .pair, .port, .tamper, .safety, .drives, .supply] s x2 := Chg.ite h0 (Chg.step (hr _ _ _ (hm _ _ h0)) (State.countTamper_chg ..) (by decide))
  have h1 : Chg [.carousel, .startup, .array, .legs, .laws, .scribe, .ident, .pair, .port, .tamper, .safety, .drives, .supply] s x1 := Chg.step h0 (Chg.setIdent ..) (by decide)
  clear_value x1 x2
  have h3 : Chg [.carousel, .startup, .array, .legs, .laws, .scribe, .ident, .pair, .port, .tamper, .safety, .drives, .supply] s x3 := hr _ _ _ (hm _ _ h1)
  clear_value x3
  have h4 : Chg [.carousel, .startup, .array, .legs, .laws, .scribe, .ident, .pair, .port, .tamper, .safety, .drives, .supply] s x4 := Chg.ite h3 (Chg.step h3 (State.modCar_chg ..) (by decide))
  clear_value x4
  split
  · exact h0
  · exact Chg.ite (hh _ (hr _ _ _ h0)) (Chg.ite (hr _ _ _ h0) (hs _ _ (hr _ _ _ h0)))
  · exact hh _ h0
  · exact Chg.ite h2 (hs _ _ h2)
  · exact Chg.ite (hm _ _ h3) (Chg.ite (Chg.step (hs _ _ h4) (State.enterResync_chg ..) (by decide)) (hs _ _ h4))

theorem State.refuseTask_chg (s : State) (n : NibNo) (k : Task) (cause : ℤ) : Chg [.free, .array, .legs, .laws, .juggler, .thermal, .barker, .scribe, .keys, .update, .pair, .port, .tokens, .drives, .supply] s (State.refuseTask s n k cause) := by
  unfold State.refuseTask
  repeat' (first
    | with_reducible exact Chg.refl _ _
    | with_reducible assumption
    | (apply Chg.step; rotate_left
       (first
         | with_reducible exact State.dropTask_chg ..
         | with_reducible exact State.raise_chg ..
         | with_reducible exact State.release_chg ..)
       decide))

theorem State.safeStarts_chg (s : State) (was : List Folio) (dom : ℕ) (seq : ℕ) : Chg [.thermal] s (State.safeStarts s was dom seq) := by
  unfold State.safeStarts
  repeat' (first
    | with_reducible exact Chg.refl _ _
    | with_reducible assumption
    | (extract_lets +onlyGivenNames x1
       suffices hx : Chg [.thermal] s x1
       on_goal 1 => clear_value x1
       on_goal 2 => unfold x1)
    | (extract_lets +onlyGivenNames x1
       suffices hx : Chg [.thermal] s x1.2
       on_goal 1 => clear_value x1
       on_goal 2 => unfold x1)
    | (extract_lets +onlyGivenNames x1; clear_value x1)
    | split
    | fail_if_no_progress (with_reducible refine Chg.step ?_ (Chg.setThermal _ _) (by decide)))

theorem State.poisonNodes_chg (s : State) : Chg [.thermal, .port] s (State.poisonNodes s) := by
  unfold State.poisonNodes
  repeat' (first
    | with_reducible exact Chg.refl _ _
    | with_reducible assumption
    | (apply Chg.step; rotate_left
       (first
         | with_reducible exact State.modNode_chg ..
         | with_reducible exact State.poisonEvents_chg ..)
       decide)
    | (extract_lets +onlyGivenNames x1
       suffices hx : Chg [.thermal, .port] s x1
       on_goal 1 => clear_value x1
       on_goal 2 => unfold x1)
    | (extract_lets +onlyGivenNames x1
       suffices hx : Chg [.thermal, .port] s x1.2
       on_goal 1 => clear_value x1
       on_goal 2 => unfold x1)
    | (extract_lets +onlyGivenNames x1; clear_value x1)
    | split
    | (with_reducible apply Chg.foldl; rotate_left; intro s _))

theorem State.poisonBlock_chg (s : State) (channel : Fin 2) (block : ℕ) : Chg [.array, .port] s (State.poisonBlock s channel block) := by
  unfold State.poisonBlock
  repeat' (first
    | with_reducible exact Chg.refl _ _
    | with_reducible assumption
    | (apply Chg.step; rotate_left
       (first
         | with_reducible exact State.modArr_chg ..
         | with_reducible exact State.raise_chg ..)
       decide))

theorem State.readPoison_chg (s : State) (n : NibNo) (k : Task) (channel : Fin 2) (block : ℕ) : Chg [.array, .thermal, .port] s (State.readPoison s n k channel block) := by
  unfold State.readPoison
  repeat' (first
    | with_reducible exact Chg.refl _ _
    | with_reducible assumption
    | (apply Chg.step; rotate_left
       (first
         | with_reducible exact State.modNib_chg ..
         | with_reducible exact State.poisonBlock_chg ..
         | with_reducible exact State.poisonNodes_chg ..
         | with_reducible exact State.safeStarts_chg ..)
       decide))

theorem State.readTask_chg (s : State) (n : NibNo) (k : Task) (obs : ReadObs) : Chg [.free, .array, .legs, .laws, .juggler, .thermal, .barker, .scribe, .keys, .update, .pair, .port, .tokens, .drives, .supply] s (State.readTask s n k obs) := by
  unfold State.readTask
  repeat' (first
    | with_reducible exact Chg.refl _ _
    | with_reducible assumption
    | (apply Chg.step; rotate_left
       (first
         | with_reducible exact State.abandonTask_chg ..
         | with_reducible exact State.correct_chg ..
         | with_reducible exact State.correctBlock_chg ..
         | with_reducible exact State.readPoison_chg ..
         | with_reducible exact State.refuseTask_chg ..)
       decide)
    | split)

theorem State.takeTask_chg (s : State) (n : NibNo) (k : Task) : Chg [.array] s (State.takeTask s n k) := by
  unfold State.takeTask
  repeat' (first
    | with_reducible exact Chg.refl _ _
    | with_reducible assumption
    | (apply Chg.step; rotate_left
       with_reducible exact State.modArr_chg ..
       decide))

theorem State.parkFor_chg (s : State) (n : NibNo) (x : Task) (p : Task) (obs : ReadObs) : Chg [.free, .array, .legs, .laws, .juggler, .thermal, .barker, .scribe, .keys, .update, .pair, .port, .tokens, .drives, .supply] s (State.parkFor s n x p obs) := by
  unfold State.parkFor
  repeat' (first
    | with_reducible exact Chg.refl _ _
    | with_reducible assumption
    | (apply Chg.step; rotate_left
       (first
         | with_reducible exact State.modArr_chg ..
         | with_reducible exact State.readTask_chg ..
         | with_reducible exact State.stopRun_chg ..
         | with_reducible exact State.takeTask_chg ..)
       decide))

theorem State.placeWords_chg (s : State) (words : List (LegNo × Bool)) : Chg [.legs] s (State.placeWords s words) := by
  unfold State.placeWords
  repeat' (first
    | with_reducible exact Chg.refl _ _
    | with_reducible assumption
    | (apply Chg.step; rotate_left
       with_reducible exact State.modLeg_chg ..
       decide)
    | split
    | (with_reducible apply Chg.foldl; rotate_left; intro s _))

theorem State.popped_chg (s : State) (jseq : ℕ) : Chg [.keys, .pair, .port, .tokens] s (State.popped s jseq) := by
  unfold State.popped
  repeat' (first
    | with_reducible exact Chg.refl _ _
    | with_reducible assumption
    | (apply Chg.step; rotate_left
       (first
         | with_reducible exact State.popEntry_chg ..
         | with_reducible exact State.settleHolds_chg ..)
       decide))

theorem State.powerRecord_chg (s : State) (ret : Bool) (scribe : ℕ) (wall : Option ℕ) (sessions : List ℕ) : Chg [.scribe, .port] s (State.powerRecord s ret scribe wall sessions) := by
  unfold State.powerRecord
  repeat' (first
    | with_reducible exact Chg.refl _ _
    | with_reducible assumption
    | (apply Chg.step; rotate_left
       (first
         | with_reducible exact State.modScribe_chg ..
         | with_reducible exact State.raiseS_chg ..)
       decide))

theorem State.putBank_chg (s : State) (k : BankId) (f : Flash) : Chg [.flash] s (State.putBank s k f) := by
  unfold State.putBank
  repeat' (first
    | with_reducible exact Chg.refl _ _
    | with_reducible assumption
    | (extract_lets +onlyGivenNames x1
       suffices hx : Chg [.flash] s x1
       on_goal 1 => clear_value x1
       on_goal 2 => unfold x1)
    | (extract_lets +onlyGivenNames x1
       suffices hx : Chg [.flash] s x1.2
       on_goal 1 => clear_value x1
       on_goal 2 => unfold x1)
    | (extract_lets +onlyGivenNames x1; clear_value x1)
    | split
    | fail_if_no_progress (with_reducible refine Chg.step ?_ (Chg.setFlash _ _) (by decide)))

theorem State.prepare_chg (s : State) : Chg [.flash] s (State.prepare s) := by
  unfold State.prepare
  repeat' (first
    | with_reducible exact Chg.refl _ _
    | with_reducible assumption
    | (apply Chg.step; rotate_left
       with_reducible exact State.putBank_chg ..
       decide))

theorem State.pressFn_chg (s : State) (f : FnRec) (began : ℕ) : Chg [.port, .safety] s (State.pressFn s f began) := by
  unfold State.pressFn
  repeat' (first
    | with_reducible exact Chg.refl _ _
    | with_reducible assumption
    | (apply Chg.step; rotate_left
       with_reducible exact State.endDemand_chg ..
       decide)
    | (extract_lets +onlyGivenNames x1
       suffices hx : Chg [.port, .safety] s x1
       on_goal 1 => clear_value x1
       on_goal 2 => unfold x1)
    | (extract_lets +onlyGivenNames x1
       suffices hx : Chg [.port, .safety] s x1.2
       on_goal 1 => clear_value x1
       on_goal 2 => unfold x1)
    | (extract_lets +onlyGivenNames x1; clear_value x1)
    | split)

theorem State.ptpState_chg (s : State) (on : Bool) (p : ℕ) (identity : ℕ) : Chg [.ptp, .port] s (State.ptpState s on p identity) := by
  unfold State.ptpState
  repeat' (first
    | with_reducible exact Chg.refl _ _
    | with_reducible assumption
    | (apply Chg.step; rotate_left
       (first
         | with_reducible exact State.modPtp_chg ..
         | with_reducible exact State.raise_chg ..)
       decide))

theorem State.pumpEvent_chg (s : State) (n : ℕ) (cause : ℕ) (mask : ℕ) : Chg [.port] s (State.pumpEvent s n cause mask) := by
  unfold State.pumpEvent
  repeat' (first
    | with_reducible exact Chg.refl _ _
    | with_reducible assumption
    | (apply Chg.step; rotate_left
       with_reducible exact State.raise_chg ..
       decide))

theorem State.putCurt_chg (s : State) (conn : ConnNo) (limitKw : ℕ) (validS : ℕ) : Chg [.juggler, .pair, .port] s (State.putCurt s conn limitKw validS) := by
  unfold State.putCurt
  repeat' (first
    | with_reducible exact Chg.refl _ _
    | with_reducible assumption
    | (apply Chg.step; rotate_left
       with_reducible exact State.opCurt_chg ..
       decide)
    | refine Chg.step (M := [.juggler, .pair, .port]) ?_ (State.change_chg (fun c s => ?_) (by decide) (by decide)) (by decide))

theorem State.takeStored_chg (s : State) : Chg [.startup, .port] s (State.takeStored s) := by
  unfold State.takeStored
  repeat' (first
    | with_reducible exact Chg.refl _ _
    | with_reducible assumption
    | (apply Chg.step; rotate_left
       with_reducible exact State.raise_chg ..
       decide)
    | (extract_lets +onlyGivenNames x1
       suffices hx : Chg [.startup, .port] s x1
       on_goal 1 => clear_value x1
       on_goal 2 => unfold x1)
    | (extract_lets +onlyGivenNames x1
       suffices hx : Chg [.startup, .port] s x1.2
       on_goal 1 => clear_value x1
       on_goal 2 => unfold x1)
    | (extract_lets +onlyGivenNames x1; clear_value x1)
    | split
    | fail_if_no_progress (with_reducible refine Chg.step ?_ (Chg.setStartup _ _) (by decide)))

theorem State.readImage_chg (s : State) (obs : ImageObs) : Chg [.carousel, .startup, .array, .legs, .thermal, .scribe, .pair, .port, .tamper, .safety, .drives] s (State.readImage s obs) := by
  unfold State.readImage
  repeat' (first
    | with_reducible exact Chg.refl _ _
    | with_reducible assumption
    | (apply Chg.step; rotate_left
       (first
         | with_reducible exact State.acceptImage_chg ..
         | with_reducible exact State.refuse_chg ..
         | with_reducible exact State.stepDone_chg ..
         | with_reducible exact State.takeStored_chg ..)
       decide)
    | split)

theorem State.readObj_chg (s : State) (c : ConnNo) (k : Conn) (o : Obis) (attr : ℕ) (sel : Option (ℕ × ℕ)) : Chg [.free, .port] s (State.readObj s c k o attr sel) := by
  unfold State.readObj
  repeat' (first
    | with_reducible exact Chg.refl _ _
    | with_reducible assumption
    | (apply Chg.step; rotate_left
       (first
         | with_reducible exact State.answer_chg ..
         | with_reducible exact State.nextFree_chg ..)
       decide)
    | split)

theorem State.readbackTest_chg (s : State) : Chg [.pair] s (State.readbackTest s) := by
  unfold State.readbackTest
  repeat' (first
    | with_reducible exact Chg.refl _ _
    | with_reducible assumption
    | (apply Chg.step; rotate_left
       with_reducible exact State.selfTest_chg ..
       decide))

theorem State.restart_chg (s : State) : Chg [.time, .carousel, .wall, .startup, .array, .legs, .laws, .juggler, .thermal, .barker, .scribe, .update, .ptp, .pair, .port, .tokens, .tamper, .safety, .drives, .supply, .buses] s (State.restart s) := by
  unfold State.restart
  repeat' (first
    | with_reducible exact Chg.refl _ _
    | with_reducible assumption
    | (apply Chg.step; rotate_left
       (first
         | with_reducible exact State.logicReset_chg ..
         | with_reducible exact State.modSafety_chg ..
         | with_reducible exact State.react_chg ..
         | with_reducible exact State.refreshLs_chg ..
         | with_reducible exact State.regsOff_chg ..
         | with_reducible exact State.requestSo_chg ..
         | with_reducible exact State.restartDrives_chg ..)
       decide))

theorem State.rebind_chg (s : State) (p : PartnerInfo) : Chg [.time, .carousel, .wall, .startup, .array, .legs, .laws, .juggler, .thermal, .barker, .scribe, .ident, .update, .ptp, .pair, .port, .tokens, .tamper, .safety, .drives, .supply, .buses] s (State.rebind s p) := by
  unfold State.rebind
  repeat' (first
    | with_reducible exact Chg.refl _ _
    | with_reducible assumption
    | (apply Chg.step; rotate_left
       with_reducible exact State.restart_chg ..
       decide)
    | (extract_lets +onlyGivenNames x1
       suffices hx : Chg [.time, .carousel, .wall, .startup, .array, .legs, .laws, .juggler, .thermal, .barker, .scribe, .ident, .update, .ptp, .pair, .port, .tokens, .tamper, .safety, .drives, .supply, .buses] s x1
       on_goal 1 => clear_value x1
       on_goal 2 => unfold x1)
    | (extract_lets +onlyGivenNames x1
       suffices hx : Chg [.time, .carousel, .wall, .startup, .array, .legs, .laws, .juggler, .thermal, .barker, .scribe, .ident, .update, .ptp, .pair, .port, .tokens, .tamper, .safety, .drives, .supply, .buses] s x1.2
       on_goal 1 => clear_value x1
       on_goal 2 => unfold x1)
    | (extract_lets +onlyGivenNames x1; clear_value x1)
    | split
    | fail_if_no_progress (with_reducible refine Chg.step ?_ (Chg.setIdent _ _) (by decide)))

theorem State.releaseRecorded_chg (s : State) (stroke : ℕ) (r : LawRecord) : Chg [.array, .laws, .buses] s (State.releaseRecorded s stroke r) := by
  unfold State.releaseRecorded
  repeat' (first
    | with_reducible exact Chg.refl _ _
    | with_reducible assumption
    | (apply Chg.step; rotate_left
       (first
         | with_reducible exact State.modLaw_chg ..
         | with_reducible exact State.releaseStroke_chg ..)
       decide)
    | (extract_lets +onlyGivenNames x1; clear_value x1)
    | split)

theorem State.reopenBuilding_chg (s : State) : Chg [.barker] s (State.reopenBuilding s) := by
  unfold State.reopenBuilding
  repeat' (first
    | with_reducible exact Chg.refl _ _
    | with_reducible assumption
    | (apply Chg.step; rotate_left
       with_reducible exact State.modCtx_chg ..
       decide)
    | (extract_lets +onlyGivenNames x1; clear_value x1)
    | split
    | (with_reducible apply Chg.foldl; rotate_left; intro s _))

theorem State.restartHeld_chg (s : State) : Chg [.time, .carousel, .wall, .startup, .array, .legs, .laws, .juggler, .thermal, .barker, .scribe, .update, .ptp, .pair, .port, .tokens, .tamper, .safety, .drives, .supply, .buses] s (State.restartHeld s) := by
  unfold State.restartHeld
  repeat' (first
    | with_reducible exact Chg.refl _ _
    | with_reducible assumption
    | (apply Chg.step; rotate_left
       (first
         | with_reducible exact State.logicReset_chg ..
         | with_reducible exact State.modSafety_chg ..
         | with_reducible exact State.react_chg ..
         | with_reducible exact State.refreshLs_chg ..
         | with_reducible exact State.regsOff_chg ..
         | with_reducible exact State.restart_chg ..
         | with_reducible exact State.restartDrives_chg ..)
       decide)
    | (extract_lets +onlyGivenNames x1
       suffices hx : Chg [.time, .carousel, .wall, .startup, .array, .legs, .laws, .juggler, .thermal, .barker, .scribe, .update, .ptp, .pair, .port, .tokens, .tamper, .safety, .drives, .supply, .buses] s x1
       on_goal 1 => clear_value x1
       on_goal 2 => unfold x1)
    | split)

theorem State.retryLs_chg (s : State) (n : ℕ) : Chg [.drives] s (State.retryLs s n) := by
  unfold State.retryLs
  repeat' (first
    | with_reducible exact Chg.refl _ _
    | with_reducible assumption
    | (apply Chg.step; rotate_left
       with_reducible exact State.modLs_chg ..
       decide)
    | (extract_lets +onlyGivenNames x1
       suffices hx : Chg [.drives] s x1
       on_goal 1 => clear_value x1
       on_goal 2 => unfold x1)
    | (extract_lets +onlyGivenNames x1
       suffices hx : Chg [.drives] s x1.2
       on_goal 1 => clear_value x1
       on_goal 2 => unfold x1)
    | (extract_lets +onlyGivenNames x1; clear_value x1)
    | split)

theorem State.revertHalf_chg (s : State) : Chg [.carousel, .pair, .port] s (State.revertHalf s) := by
  unfold State.revertHalf
  repeat' (first
    | with_reducible exact Chg.refl _ _
    | with_reducible assumption
    | (apply Chg.step; rotate_left
       (first
         | with_reducible exact State.modCar_chg ..
         | with_reducible exact State.switchSet_chg ..)
       decide)
    | split)

theorem State.revertTrial_chg (s : State) (old : BankId) (module_ : ℕ) : Chg [.time, .carousel, .wall, .startup, .array, .legs, .laws, .juggler, .thermal, .barker, .scribe, .update, .ptp, .pair, .port, .tokens, .tamper, .safety, .drives, .supply, .buses] s (State.revertTrial s old module_) := by
  unfold State.revertTrial
  repeat' (first
    | with_reducible exact Chg.refl _ _
    | with_reducible assumption
    | (apply Chg.step; rotate_left
       (first
         | with_reducible exact State.logActivation_chg ..
         | with_reducible exact State.modUpdate_chg ..
         | with_reducible exact State.restartHeld_chg ..)
       decide)
    | (extract_lets +onlyGivenNames x1
       suffices hx : Chg [.time, .carousel, .wall, .startup, .array, .legs, .laws, .juggler, .thermal, .barker, .scribe, .update, .ptp, .pair, .port, .tokens, .tamper, .safety, .drives, .supply, .buses] s x1
       on_goal 1 => clear_value x1
       on_goal 2 => unfold x1)
    | (extract_lets +onlyGivenNames x1
       suffices hx : Chg [.time, .carousel, .wall, .startup, .array, .legs, .laws, .juggler, .thermal, .barker, .scribe, .update, .ptp, .pair, .port, .tokens, .tamper, .safety, .drives, .supply, .buses] s x1.2
       on_goal 1 => clear_value x1
       on_goal 2 => unfold x1)
    | (extract_lets +onlyGivenNames x1; clear_value x1)
    | split
    | fail_if_no_progress (with_reducible refine Chg.step ?_ (Chg.setStartup _ _) (by decide)))

theorem State.revisionHalf_chg (s : State) : Chg [.startup, .juggler, .scribe, .port, .tamper] s (State.revisionHalf s) := by
  unfold State.revisionHalf
  repeat' (first
    | with_reducible exact Chg.refl _ _
    | with_reducible assumption
    | (apply Chg.step; rotate_left
       (first
         | with_reducible exact State.applyRevision_chg ..
         | with_reducible exact State.cancelRevision_chg ..)
       decide)
    | split)

theorem State.revisionLate_chg (s : State) : Chg [.carousel, .startup, .juggler, .scribe, .port, .tamper] s (State.revisionLate s) := by
  unfold State.revisionLate
  repeat' (first
    | with_reducible exact Chg.refl _ _
    | with_reducible assumption
    | (apply Chg.step; rotate_left
       (first
         | with_reducible exact State.applyRevision_chg ..
         | with_reducible exact State.lateSchedule_chg ..)
       decide)
    | split)

theorem State.sampleInputs_chg (s : State) (levels : BitVec 32) : Chg [.safety] s (State.sampleInputs s levels) := by
  unfold State.sampleInputs
  repeat' (first
    | with_reducible exact Chg.refl _ _
    | with_reducible assumption
    | (apply Chg.step; rotate_left
       with_reducible exact State.modSafety_chg ..
       decide))

theorem State.scribeRestore_chg (s : State) : Chg [.scribe, .tokens, .tamper] s (State.scribeRestore s) := by
  unfold State.scribeRestore
  repeat' (first
    | with_reducible exact Chg.refl _ _
    | with_reducible assumption
    | (extract_lets +onlyGivenNames x1
       suffices hx : Chg [.scribe, .tokens, .tamper] s x1
       on_goal 1 => clear_value x1
       on_goal 2 => unfold x1)
    | (extract_lets +onlyGivenNames x1
       suffices hx : Chg [.scribe, .tokens, .tamper] s x1.2
       on_goal 1 => clear_value x1
       on_goal 2 => unfold x1)
    | (extract_lets +onlyGivenNames x1; clear_value x1)
    | split
    | fail_if_no_progress (with_reducible refine Chg.step ?_ (Chg.setScribe _ _) (by decide))
    | fail_if_no_progress (with_reducible refine Chg.step ?_ (Chg.setTokens _ _) (by decide))
    | fail_if_no_progress (with_reducible refine Chg.step ?_ (Chg.setTamper _ _) (by decide))
    | (refine ⟨fun p hp => ?_⟩; have hb := fun (x : State) (h : Chg [.scribe, .tokens, .tamper] s x) => h.1 p hp; cases p <;> first | (exact absurd hp (by decide)) | (simp only [State.same]; done) | (simp only [State.same] at hb ⊢; exact hb _ (by assumption))))

theorem State.scribeOpen_chg (s : State) : Chg [.startup, .barker, .scribe, .keys, .port, .tokens, .tamper] s (State.scribeOpen s) := by
  unfold State.scribeOpen
  extract_lets x2 y1 ctxs x3 x4 x5 x6 x7
  have h2 : Chg [.startup, .barker, .scribe, .keys, .port, .tokens, .tamper] s x2 := Chg.step (Chg.step (Chg.refl _ _) (State.scribeRestore_chg ..) (by decide)) (State.modScribe_chg ..) (by decide)
  have hy : Chg [.startup, .barker, .scribe, .keys, .port, .tokens, .tamper] s y1 := Chg.step h2 (State.modCore_chg ..) (by decide)
  clear_value x2 y1
  have h3 : Chg [.startup, .barker, .scribe, .keys, .port, .tokens, .tamper] s x3 := by
    unfold x3
    split
    · exact Chg.step h2 (State.modScribe_chg ..) (by decide)
    split
    · rename_i f _
      have h := Chg.step (Chg.step (Chg.step hy (State.closeAtFail_chg _ f.1 f.2) (by decide)) (State.powerRecord_chg _ true
        (y1.closeAtFail f.1 f.2).scribe.core.time (y1.closeAtFail f.1 f.2).wallSec ctxs) (by decide))
        (State.modScribe_chg _ fun x => { x with pfail := none }) (by decide)
      exact Chg.ite (Chg.step h (State.boundaries_chg ..) (by decide)) h
    · exact Chg.step h2 (State.closeAtFail_chg ..) (by decide)
  clear_value x3
  have h4 : Chg [.startup, .barker, .scribe, .keys, .port, .tokens, .tamper] s x4 := Chg.step h3 (State.reopenBuilding_chg ..) (by decide)
  clear_value x4
  have h5 : Chg [.startup, .barker, .scribe, .keys, .port, .tokens, .tamper] s x5 := Chg.foldl _ _ h4 fun s x => Chg.ite (Chg.step (Chg.refl _ _) (State.countTamper_chg ..) (by decide)) (Chg.refl _ _)
  clear_value x5
  have h6 : Chg [.startup, .barker, .scribe, .keys, .port, .tokens, .tamper] s x6 := by
    unfold x6
    split
    · split
      · exact Chg.ite (Chg.step h5 (State.countTamper_chg ..) (by decide)) h5
      · exact h5
    · exact Chg.refl _ _
  clear_value x6
  exact Chg.step h6 (Chg.setStartup ..) (by decide)

theorem State.scribePfail_chg (s : State) : Chg [.scribe, .pair, .port, .tamper] s (State.scribePfail s) := by
  unfold State.scribePfail
  repeat' (first
    | with_reducible exact Chg.refl _ _
    | with_reducible assumption
    | (apply Chg.step; rotate_left
       (first
         | with_reducible exact State.boundaries_chg ..
         | with_reducible exact State.countTamper_chg ..
         | with_reducible exact State.endPeriod_chg ..
         | with_reducible exact State.idleAll_chg ..
         | with_reducible exact State.modScribe_chg ..
         | with_reducible exact State.powerRecord_chg ..
         | with_reducible exact State.scribeCommit_chg ..)
       decide)
    | (extract_lets +onlyGivenNames x1
       suffices hx : Chg [.scribe, .pair, .port, .tamper] s x1
       on_goal 1 => clear_value x1
       on_goal 2 => unfold x1)
    | (extract_lets +onlyGivenNames x1
       suffices hx : Chg [.scribe, .pair, .port, .tamper] s x1.2
       on_goal 1 => clear_value x1
       on_goal 2 => unfold x1)
    | (extract_lets +onlyGivenNames x1; clear_value x1)
    | split)

theorem State.scrubbed_chg (s : State) (addr : ℕ) : Chg [.array, .pair] s (State.scrubbed s addr) := by
  unfold State.scrubbed
  repeat' (first
    | with_reducible exact Chg.refl _ _
    | with_reducible assumption
    | (apply Chg.step; rotate_left
       (first
         | with_reducible exact State.modArr_chg ..
         | with_reducible exact State.selfTest_chg ..)
       decide)
    | (extract_lets +onlyGivenNames x1
       suffices hx : Chg [.array, .pair] s x1
       on_goal 1 => clear_value x1
       on_goal 2 => unfold x1)
    | (extract_lets +onlyGivenNames x1
       suffices hx : Chg [.array, .pair] s x1.2
       on_goal 1 => clear_value x1
       on_goal 2 => unfold x1)
    | (extract_lets +onlyGivenNames x1; clear_value x1)
    | split)

theorem State.sdEdge_chg (s : State) (clk : SdckNo) (bits : BitVec 16) : Chg [.laws] s (State.sdEdge s clk bits) := by
  unfold State.sdEdge
  repeat' (first
    | with_reducible exact Chg.refl _ _
    | with_reducible assumption
    | (extract_lets +onlyGivenNames x1
       suffices hx : Chg [.laws] s x1
       on_goal 1 => clear_value x1
       on_goal 2 => unfold x1)
    | (extract_lets +onlyGivenNames x1
       suffices hx : Chg [.laws] s x1.2
       on_goal 1 => clear_value x1
       on_goal 2 => unfold x1)
    | (extract_lets +onlyGivenNames x1; clear_value x1)
    | split
    | fail_if_no_progress (with_reducible refine Chg.step ?_ (Chg.setLaws _ _) (by decide)))

theorem State.selectChange_chg (s : State) (c : ConnNo) (tokenId : ℕ) : Chg [.port] s (State.selectChange s c tokenId) := by
  unfold State.selectChange
  repeat' (first
    | with_reducible exact Chg.refl _ _
    | with_reducible assumption
    | (apply Chg.step; rotate_left
       (first
         | with_reducible exact State.answer_chg ..
         | with_reducible exact State.modConn_chg ..)
       decide)
    | refine Chg.step (M := [.port]) ?_ (State.guarded_chg (fun k s => ?_) (by decide)) (by decide)
    | (extract_lets +onlyGivenNames x1; clear_value x1)
    | split)

theorem State.selectMaster_chg (s : State) : Chg [.ptp, .port] s (State.selectMaster s) := by
  unfold State.selectMaster
  repeat' (first
    | with_reducible exact Chg.refl _ _
    | with_reducible assumption
    | (apply Chg.step; rotate_left
       (first
         | with_reducible exact State.modPtp_chg ..
         | with_reducible exact State.ptpState_chg ..)
       decide)
    | (extract_lets +onlyGivenNames x1
       suffices hx : Chg [.ptp, .port] s x1
       on_goal 1 => clear_value x1
       on_goal 2 => unfold x1)
    | split)

theorem State.selectNode_chg (s : State) (conn : ConnNo) (node : ℕ) : Chg [.port] s (State.selectNode s conn node) := by
  unfold State.selectNode
  repeat' (first
    | with_reducible exact Chg.refl _ _
    | with_reducible assumption
    | (apply Chg.step; rotate_left
       (first
         | with_reducible exact State.answer_chg ..
         | with_reducible exact State.modConn_chg ..)
       decide)
    | refine Chg.step (M := [.port]) ?_ (State.guarded_chg (fun k s => ?_) (by decide)) (by decide)
    | (extract_lets +onlyGivenNames x1; clear_value x1)
    | split)

theorem State.selectReceipt_chg (s : State) (c : ConnNo) (no : ℕ) : Chg [.port] s (State.selectReceipt s c no) := by
  unfold State.selectReceipt
  repeat' (first
    | with_reducible exact Chg.refl _ _
    | with_reducible assumption
    | (apply Chg.step; rotate_left
       (first
         | with_reducible exact State.answer_chg ..
         | with_reducible exact State.modConn_chg ..)
       decide)
    | refine Chg.step (M := [.port]) ?_ (State.guarded_chg (fun k s => ?_) (by decide)) (by decide))

theorem State.shortForBst_chg (s : State) (n : ℕ) (mask : ℕ) : Chg [.port, .drives] s (State.shortForBst s n mask) := by
  unfold State.shortForBst
  repeat' (first
    | with_reducible exact Chg.refl _ _
    | with_reducible assumption
    | (apply Chg.step; rotate_left
       (first
         | with_reducible exact State.modPump_chg ..
         | with_reducible exact State.raise_chg ..)
       decide))

theorem State.signReceipt_chg (s : State) (c : ℕ) (r : Receipt) : Chg [.scribe, .keys, .port, .tokens] s (State.signReceipt s c r) := by
  unfold State.signReceipt
  repeat' (first
    | with_reducible exact Chg.refl _ _
    | with_reducible assumption
    | (apply Chg.step; rotate_left
       (first
         | with_reducible exact State.issueChange_chg ..
         | with_reducible exact State.modScribe_chg ..
         | with_reducible exact State.raiseS_chg ..
         | with_reducible exact State.useKey_chg ..)
       decide)
    | (extract_lets +onlyGivenNames x1
       suffices hx : Chg [.scribe, .keys, .port, .tokens] s x1
       on_goal 1 => clear_value x1
       on_goal 2 => unfold x1)
    | (extract_lets +onlyGivenNames x1
       suffices hx : Chg [.scribe, .keys, .port, .tokens] s x1.2
       on_goal 1 => clear_value x1
       on_goal 2 => unfold x1)
    | (extract_lets +onlyGivenNames x1; clear_value x1)
    | split)

theorem State.soloLoop_chg (s : State) (r : List W32) : Chg [.port, .drives] s (State.soloLoop s r) := by
  unfold State.soloLoop
  repeat' (first
    | with_reducible exact Chg.refl _ _
    | with_reducible assumption
    | (apply Chg.step; rotate_left
       with_reducible exact State.raise_chg ..
       decide)
    | (extract_lets +onlyGivenNames x1
       suffices hx : Chg [.port, .drives] s x1
       on_goal 1 => clear_value x1
       on_goal 2 => unfold x1)
    | (extract_lets +onlyGivenNames x1
       suffices hx : Chg [.port, .drives] s x1.2
       on_goal 1 => clear_value x1
       on_goal 2 => unfold x1)
    | (extract_lets +onlyGivenNames x1; clear_value x1)
    | split
    | fail_if_no_progress (with_reducible refine Chg.step ?_ (Chg.setDrives _ _) (by decide)))

theorem State.startCarousel_chg (s : State) : Chg [.carousel, .startup] s (State.startCarousel s) := by
  unfold State.startCarousel
  repeat' (first
    | with_reducible exact Chg.refl _ _
    | with_reducible assumption
    | (extract_lets +onlyGivenNames x1
       suffices hx : Chg [.carousel, .startup] s x1
       on_goal 1 => clear_value x1
       on_goal 2 => unfold x1)
    | (extract_lets +onlyGivenNames x1
       suffices hx : Chg [.carousel, .startup] s x1.2
       on_goal 1 => clear_value x1
       on_goal 2 => unfold x1)
    | (extract_lets +onlyGivenNames x1; clear_value x1)
    | split
    | fail_if_no_progress (with_reducible refine Chg.step ?_ (Chg.setCarousel _ _) (by decide))
    | fail_if_no_progress (with_reducible refine Chg.step ?_ (Chg.setStartup _ _) (by decide))
    | (refine ⟨fun p hp => ?_⟩; have hb := fun (x : State) (h : Chg [.carousel, .startup] s x) => h.1 p hp; cases p <;> first | (exact absurd hp (by decide)) | (simp only [State.same]; done) | (simp only [State.same] at hb ⊢; exact hb _ (by assumption))))

theorem State.strokeRecord_chg (s : State) : Chg [.pair] s (State.strokeRecord s) := by
  unfold State.strokeRecord
  repeat' (first
    | with_reducible exact Chg.refl _ _
    | with_reducible assumption
    | (apply Chg.step; rotate_left
       with_reducible exact State.modPair_chg ..
       decide)
    | (extract_lets +onlyGivenNames x1
       suffices hx : Chg [.pair] s x1
       on_goal 1 => clear_value x1
       on_goal 2 => unfold x1)
    | (extract_lets +onlyGivenNames x1
       suffices hx : Chg [.pair] s x1.2
       on_goal 1 => clear_value x1
       on_goal 2 => unfold x1)
    | (extract_lets +onlyGivenNames x1; clear_value x1)
    | split)

theorem State.takeAndRead_chg (s : State) (n : NibNo) (k : Task) (obs : ReadObs) : Chg [.free, .array, .legs, .laws, .juggler, .thermal, .barker, .scribe, .keys, .update, .pair, .port, .tokens, .drives, .supply] s (State.takeAndRead s n k obs) := by
  unfold State.takeAndRead
  repeat' (first
    | with_reducible exact Chg.refl _ _
    | with_reducible assumption
    | (apply Chg.step; rotate_left
       (first
         | with_reducible exact State.readTask_chg ..
         | with_reducible exact State.takeTask_chg ..)
       decide))

theorem State.takeFreqs_chg (s : State) (freqs : List ℕ) : Chg [.scribe, .port, .tamper] s (State.takeFreqs s freqs) := by
  unfold State.takeFreqs
  repeat' (first
    | with_reducible exact Chg.refl _ _
    | with_reducible assumption
    | (apply Chg.step; rotate_left
       (first
         | with_reducible exact State.meterFault_chg ..
         | with_reducible exact State.modScribe_chg ..)
       decide)
    | (extract_lets +onlyGivenNames x1
       suffices hx : Chg [.scribe, .port, .tamper] s x1
       on_goal 1 => clear_value x1
       on_goal 2 => unfold x1)
    | (extract_lets +onlyGivenNames x1; clear_value x1)
    | split
    | (with_reducible apply Chg.foldl; rotate_left; intro s _))

theorem State.takeStep_chg (s : State) (obs : ImageObs) (a2 : Step) : Chg [.time, .carousel, .startup, .array, .legs, .laws, .juggler, .thermal, .barker, .scribe, .keys, .update, .pair, .port, .tokens, .tamper, .safety, .drives, .supply, .buses] s (State.takeStep s obs a2) := by
  unfold State.takeStep
  repeat' (first
    | with_reducible exact Chg.refl _ _
    | with_reducible assumption
    | (apply Chg.step; rotate_left
       (first
         | with_reducible exact State.beginService_chg ..
         | with_reducible exact State.expandStep_chg ..
         | with_reducible exact State.leaveReset_chg ..
         | with_reducible exact State.readImage_chg ..
         | with_reducible exact State.scribeOpen_chg ..
         | with_reducible exact State.settle_chg ..
         | with_reducible exact State.startCarousel_chg ..
         | with_reducible exact State.stepDone_chg ..)
       decide)
    | (extract_lets +onlyGivenNames x1
       suffices hx : Chg [.time, .carousel, .startup, .array, .legs, .laws, .juggler, .thermal, .barker, .scribe, .keys, .update, .pair, .port, .tokens, .tamper, .safety, .drives, .supply, .buses] s x1
       on_goal 1 => clear_value x1
       on_goal 2 => unfold x1)
    | (extract_lets +onlyGivenNames x1
       suffices hx : Chg [.time, .carousel, .startup, .array, .legs, .laws, .juggler, .thermal, .barker, .scribe, .keys, .update, .pair, .port, .tokens, .tamper, .safety, .drives, .supply, .buses] s x1.2
       on_goal 1 => clear_value x1
       on_goal 2 => unfold x1)
    | (extract_lets +onlyGivenNames x1; clear_value x1)
    | split
    | fail_if_no_progress (with_reducible refine Chg.step ?_ (Chg.setSupply _ _) (by decide)))

theorem State.takeWindow_chg (s : State) (k : ℕ) (cycle : ℕ) (entry : ℕ) (v : CanWin) : Chg [.thermal, .buses] s (State.takeWindow s k cycle entry v) := by
  unfold State.takeWindow
  repeat' (first
    | with_reducible exact Chg.refl _ _
    | with_reducible assumption
    | (apply Chg.step; rotate_left
       (first
         | with_reducible exact State.freshDcu_chg ..
         | with_reducible exact State.modCan_chg ..)
       decide)
    | (extract_lets +onlyGivenNames x1
       suffices hx : Chg [.thermal, .buses] s x1
       on_goal 1 => clear_value x1
       on_goal 2 => unfold x1)
    | split)

theorem State.testNibs_chg (s : State) (failed : List NibNo) : Chg [.free, .array, .pair, .port] s (State.testNibs s failed) := by
  unfold State.testNibs
  repeat' (first
    | with_reducible exact Chg.refl _ _
    | with_reducible assumption
    | (apply Chg.step; rotate_left
       (first
         | with_reducible exact State.fence_chg ..
         | with_reducible exact State.modArr_chg ..)
       decide)
    | (extract_lets +onlyGivenNames x1
       suffices hx : Chg [.free, .array, .pair, .port] s x1
       on_goal 1 => clear_value x1
       on_goal 2 => unfold x1)
    | (extract_lets +onlyGivenNames x1; clear_value x1)
    | split
    | (with_reducible apply Chg.foldl; rotate_left; intro s _))

theorem State.thermStroke_chg (s : State) : Chg [.thermal] s (State.thermStroke s) := by
  unfold State.thermStroke
  repeat' (first
    | with_reducible exact Chg.refl _ _
    | with_reducible assumption
    | (extract_lets +onlyGivenNames x1
       suffices hx : Chg [.thermal] s x1
       on_goal 1 => clear_value x1
       on_goal 2 => unfold x1)
    | (extract_lets +onlyGivenNames x1
       suffices hx : Chg [.thermal] s x1.2
       on_goal 1 => clear_value x1
       on_goal 2 => unfold x1)
    | (extract_lets +onlyGivenNames x1; clear_value x1)
    | split
    | fail_if_no_progress (with_reducible refine Chg.step ?_ (Chg.setThermal _ _) (by decide)))

theorem State.tokSecond_chg (s : State) (o : ℕ) : Chg [.port, .tokens] s (State.tokSecond s o) := by
  unfold State.tokSecond
  repeat' (first
    | with_reducible exact Chg.refl _ _
    | with_reducible assumption
    | (apply Chg.step; rotate_left
       (first
         | with_reducible exact State.modTok_chg ..
         | with_reducible exact State.raiseS_chg ..)
       decide)
    | (extract_lets +onlyGivenNames x1
       suffices hx : Chg [.port, .tokens] s x1
       on_goal 1 => clear_value x1
       on_goal 2 => unfold x1)
    | (extract_lets +onlyGivenNames x1
       suffices hx : Chg [.port, .tokens] s x1.2
       on_goal 1 => clear_value x1
       on_goal 2 => unfold x1)
    | (extract_lets +onlyGivenNames x1; clear_value x1)
    | split)

theorem State.turnEnd_chg (s : State) (was : ℕ) : Chg [.array] s (State.turnEnd s was) := by
  unfold State.turnEnd
  repeat' (first
    | with_reducible exact Chg.refl _ _
    | with_reducible assumption
    | (apply Chg.step; rotate_left
       with_reducible exact State.modArr_chg ..
       decide)
    | (extract_lets +onlyGivenNames x1
       suffices hx : Chg [.array] s x1
       on_goal 1 => clear_value x1
       on_goal 2 => unfold x1)
    | (extract_lets +onlyGivenNames x1
       suffices hx : Chg [.array] s x1.2
       on_goal 1 => clear_value x1
       on_goal 2 => unfold x1)
    | (extract_lets +onlyGivenNames x1; clear_value x1)
    | split)

theorem State.vehicleMsg_chg (s : State) (c : ℕ) (m : V2g) : Chg [.juggler, .barker, .scribe, .keys, .update, .port, .tokens] s (State.vehicleMsg s c m) := by
  unfold State.vehicleMsg
  repeat' (first
    | with_reducible exact Chg.refl _ _
    | with_reducible assumption
    | (apply Chg.step; rotate_left
       (first
         | with_reducible exact State.endCtx_chg ..
         | with_reducible exact State.modCtx_chg ..
         | with_reducible exact State.msgAuthorization_chg ..
         | with_reducible exact State.msgCableCheck_chg ..
         | with_reducible exact State.msgDemand_chg ..
         | with_reducible exact State.msgDiscovery_chg ..
         | with_reducible exact State.msgPowerDelivery_chg ..
         | with_reducible exact State.msgPreCharge_chg ..
         | with_reducible exact State.msgProtocol_chg ..
         | with_reducible exact State.respond_chg ..
         | with_reducible exact State.sequenceError_chg ..
         | with_reducible exact State.tryClose_chg ..
         | with_reducible exact State.vehicleStop_chg ..)
       decide)
    | (extract_lets +onlyGivenNames x1
       suffices hx : Chg [.juggler, .barker, .scribe, .keys, .update, .port, .tokens] s x1
       on_goal 1 => clear_value x1
       on_goal 2 => unfold x1)
    | (extract_lets +onlyGivenNames x1
       suffices hx : Chg [.juggler, .barker, .scribe, .keys, .update, .port, .tokens] s x1.2
       on_goal 1 => clear_value x1
       on_goal 2 => unfold x1)
    | (extract_lets +onlyGivenNames x1; clear_value x1)
    | split)

theorem State.withFetchWord_chg (s : State) (nbits : ℕ) (w : ℕ) : Chg [.pending] s (State.withFetchWord s nbits w) := by
  unfold State.withFetchWord
  repeat' (first
    | with_reducible exact Chg.refl _ _
    | with_reducible assumption
    | split
    | fail_if_no_progress (with_reducible refine Chg.step ?_ (Chg.setPending _ _) (by decide)))

theorem State.writeWall_chg (s : State) (c : ConnNo) (sec : ℕ) (nsec : ℕ) : Chg [.wall, .scribe, .pair, .port, .tamper] s (State.writeWall s c sec nsec) := by
  unfold State.writeWall
  repeat' (first
    | with_reducible exact Chg.refl _ _
    | with_reducible assumption
    | (apply Chg.step; rotate_left
       with_reducible exact State.opWall_chg ..
       decide)
    | refine Chg.step (M := [.wall, .scribe, .pair, .port, .tamper]) ?_ (State.change_chg (fun c s => ?_) (by decide) (by decide)) (by decide))

theorem State.writeObj_chg (s : State) (c : ConnNo) (o : Obis) (val : List ℤ) : Chg [.wall, .juggler, .scribe, .pair, .port, .tamper] s (State.writeObj s c o val) := by
  unfold State.writeObj
  repeat' (first
    | with_reducible exact Chg.refl _ _
    | with_reducible assumption
    | (apply Chg.step; rotate_left
       (first
         | with_reducible exact State.answer_chg ..
         | with_reducible exact State.putCurt_chg ..
         | with_reducible exact State.selectChange_chg ..
         | with_reducible exact State.selectNode_chg ..
         | with_reducible exact State.selectReceipt_chg ..
         | with_reducible exact State.writeWall_chg ..)
       decide)
    | (extract_lets +onlyGivenNames x1
       suffices hx : Chg [.wall, .juggler, .scribe, .pair, .port, .tamper] s x1
       on_goal 1 => clear_value x1
       on_goal 2 => unfold x1)
    | (extract_lets +onlyGivenNames x1
       suffices hx : Chg [.wall, .juggler, .scribe, .pair, .port, .tamper] s x1.2
       on_goal 1 => clear_value x1
       on_goal 2 => unfold x1)
    | (extract_lets +onlyGivenNames x1; clear_value x1)
    | split)

theorem State.yieldRing_chg (s : State) (cause : ℕ) (resync : Bool) : Chg [.pair, .port, .drives] s (State.yieldRing s cause resync) := by
  unfold State.yieldRing
  repeat' (first
    | with_reducible exact Chg.refl _ _
    | with_reducible assumption
    | (apply Chg.step; rotate_left
       (first
         | with_reducible exact State.enterResync_chg ..
         | with_reducible exact State.modPair_chg ..
         | with_reducible exact State.quiet_chg ..
         | with_reducible exact State.raise_chg ..)
       decide)
    | (extract_lets +onlyGivenNames x1
       suffices hx : Chg [.pair, .port, .drives] s x1
       on_goal 1 => clear_value x1
       on_goal 2 => unfold x1)
    | split)

end Sys2Proof.Machine
end

