-- ==== Sys2Proof/Laws/ExecFrames.lean ====
section
/-!
SUPPORT. Every command answers a next state, and what it changes of the state to which time has passed.
-/
set_option maxRecDepth 4000
set_option linter.tactic.unusedName false
set_option linter.unreachableTactic false
set_option linter.unusedTactic false

namespace Sys2Proof.Machine
open Sys2Proof

theorem execActivationDeadline_chg (t : ℕ) (s : State) : ∃ u, execActivationDeadline t s = .next u ∧ Chg [.juggler, .barker, .scribe, .update, .pair, .port, .tokens] (s.advance t) u := by
  refine ⟨_, rfl, ?_⟩
  generalize s.advance t = s
  repeat' (first
    | with_reducible exact Chg.refl _ _
    | with_reducible assumption
    | (apply Chg.step; rotate_left
       with_reducible exact State.passDeadline_chg ..
       decide)
    | refine Chg.step (M := [.juggler, .barker, .scribe, .update, .pair, .port, .tokens]) ?_ (State.submit_chg (fun s => ?_) (by decide)) (by decide)
    | split)

theorem execActivationDone_chg (t : ℕ) (partnerPass : Bool) (s : State) : ∃ u, execActivationDone t partnerPass s = .next u ∧ Chg [.scribe, .update, .port, .tamper] (s.advance t) u := by
  refine ⟨_, rfl, ?_⟩
  generalize s.advance t = s
  repeat' (first
    | with_reducible exact Chg.refl _ _
    | with_reducible assumption
    | (apply Chg.step; rotate_left
       (first
         | with_reducible exact State.finishTrial_chg ..
         | with_reducible exact State.modUpdate_chg ..)
       decide)
    | (extract_lets +onlyGivenNames x1
       suffices hx : Chg [.scribe, .update, .port, .tamper] s x1
       on_goal 1 => clear_value x1
       on_goal 2 => unfold x1)
    | split)

theorem execActivationReverted_chg (t : ℕ) (partnerReverted : Bool) (s : State) : ∃ u, execActivationReverted t partnerReverted s = .next u ∧ Chg [.time, .carousel, .wall, .startup, .array, .legs, .laws, .juggler, .thermal, .barker, .scribe, .update, .ptp, .pair, .port, .tokens, .tamper, .safety, .drives, .supply, .buses] (s.advance t) u := by
  refine ⟨_, rfl, ?_⟩
  generalize s.advance t = s
  repeat' (first
    | with_reducible exact Chg.refl _ _
    | with_reducible assumption
    | (apply Chg.step; rotate_left
       with_reducible exact State.revertTrial_chg ..
       decide)
    | (extract_lets +onlyGivenNames x1
       suffices hx : Chg [.time, .carousel, .wall, .startup, .array, .legs, .laws, .juggler, .thermal, .barker, .scribe, .update, .ptp, .pair, .port, .tokens, .tamper, .safety, .drives, .supply, .buses] s x1
       on_goal 1 => clear_value x1
       on_goal 2 => unfold x1)
    | (extract_lets +onlyGivenNames x1
       suffices hx : Chg [.time, .carousel, .wall, .startup, .array, .legs, .laws, .juggler, .thermal, .barker, .scribe, .update, .ptp, .pair, .port, .tokens, .tamper, .safety, .drives, .supply, .buses] s x1.2
       on_goal 1 => clear_value x1
       on_goal 2 => unfold x1)
    | (extract_lets +onlyGivenNames x1; clear_value x1)
    | split)

theorem execAgreeingDriveTest_chg (t : ℕ) (leg : LegNo) (net : Net) (mV : ℕ) (edgeNear : Bool) (s : State) : ∃ u, execAgreeingDriveTest t leg net mV edgeNear s = .next u ∧ Chg [.pair, .port] (s.advance t) u := by
  refine ⟨_, rfl, ?_⟩
  generalize s.advance t = s
  repeat' (first
    | with_reducible exact Chg.refl _ _
    | with_reducible assumption
    | (apply Chg.step; rotate_left
       (first
         | with_reducible exact State.degrade_chg ..
         | with_reducible exact State.modPair_chg ..
         | with_reducible exact State.selfTest_chg ..)
       decide)
    | (extract_lets +onlyGivenNames x1
       suffices hx : Chg [.pair, .port] s x1
       on_goal 1 => clear_value x1
       on_goal 2 => unfold x1)
    | split)

theorem execAiSample_chg (t : ℕ) (readings : List ℕ) (s : State) : ∃ u, execAiSample t readings s = .next u ∧ Chg [.thermal, .pair, .port] (s.advance t) u := by
  refine ⟨_, rfl, ?_⟩
  generalize s.advance t = s
  repeat' (first
    | with_reducible exact Chg.refl _ _
    | with_reducible assumption
    | (apply Chg.step; rotate_left
       with_reducible exact State.takeSamples_chg ..
       decide)
    | refine Chg.step (M := [.thermal, .pair, .port]) ?_ (State.submit_chg (fun s => ?_) (by decide)) (by decide))

theorem execArm_chg (t : ℕ) (c : ConnNo) (deadlineMin : ℕ) (drain : ℕ) (s : State) : ∃ u, execArm t c deadlineMin drain s = .next u ∧ Chg [.update, .pair, .port] (s.advance t) u := by
  refine ⟨_, rfl, ?_⟩
  generalize s.advance t = s
  repeat' (first
    | with_reducible exact Chg.refl _ _
    | with_reducible assumption
    | (apply Chg.step; rotate_left
       with_reducible exact State.opArm_chg ..
       decide)
    | refine Chg.step (M := [.update, .pair, .port]) ?_ (State.change_chg (fun c s => ?_) (by decide) (by decide)) (by decide))

theorem execArmPrepareDone_chg (t : ℕ) (partner : Option Bool) (obs : ImageObs) (s : State) : ∃ u, execArmPrepareDone t partner obs s = .next u ∧ Chg [.flash, .juggler, .barker, .scribe, .update, .port, .tokens] (s.advance t) u := by
  refine ⟨_, rfl, ?_⟩
  generalize s.advance t = s
  repeat' (first
    | with_reducible exact Chg.refl _ _
    | with_reducible assumption
    | (apply Chg.step; rotate_left
       (first
         | with_reducible exact State.disarm_chg ..
         | with_reducible exact State.modUpdate_chg ..
         | with_reducible exact State.prepare_chg ..)
       decide)
    | (extract_lets +onlyGivenNames x1
       suffices hx : Chg [.flash, .juggler, .barker, .scribe, .update, .port, .tokens] s x1
       on_goal 1 => clear_value x1
       on_goal 2 => unfold x1)
    | split)

theorem execAttest_chg (t : ℕ) (c : ConnNo) (nonce : List Byte) (s : State) : ∃ u, execAttest t c nonce s = .next u ∧ Chg [.keys, .port] (s.advance t) u := by
  refine ⟨_, rfl, ?_⟩
  generalize s.advance t = s
  repeat' (first
    | with_reducible exact Chg.refl _ _
    | with_reducible assumption
    | (apply Chg.step; rotate_left
       (first
         | with_reducible exact State.answer_chg ..
         | with_reducible exact State.attestSign_chg ..)
       decide)
    | refine Chg.step (M := [.keys, .port]) ?_ (State.op_chg (fun k s => ?_) (by decide)) (by decide)
    | (extract_lets +onlyGivenNames x1
       suffices hx : Chg [.keys, .port] s x1
       on_goal 1 => clear_value x1
       on_goal 2 => unfold x1)
    | (extract_lets +onlyGivenNames x1
       suffices hx : Chg [.keys, .port] s x1.2
       on_goal 1 => clear_value x1
       on_goal 2 => unfold x1)
    | (extract_lets +onlyGivenNames x1; clear_value x1)
    | split)

theorem execAuthWait_chg (t : ℕ) (ctx : CtxNo) (s : State) : ∃ u, execAuthWait t ctx s = .next u ∧ Chg [.juggler, .barker, .scribe, .keys, .update, .pair, .port, .tokens] (s.advance t) u := by
  refine ⟨_, rfl, ?_⟩
  generalize s.advance t = s
  repeat' (first
    | with_reducible exact Chg.refl _ _
    | with_reducible assumption
    | (apply Chg.step; rotate_left
       with_reducible exact State.authExpired_chg ..
       decide)
    | refine Chg.step (M := [.juggler, .barker, .scribe, .keys, .update, .pair, .port, .tokens]) ?_ (State.submit_chg (fun s => ?_) (by decide)) (by decide)
    | split)

theorem execAuxInLow_chg (t : ℕ) (volts10 : ℕ) (s : State) : ∃ u, execAuxInLow t volts10 s = .next u ∧ Chg [.time, .carousel, .wall, .startup, .array, .legs, .laws, .juggler, .thermal, .barker, .scribe, .update, .ptp, .pair, .port, .tokens, .tamper, .safety, .drives, .supply, .buses] (s.advance t) u := by
  refine ⟨_, rfl, ?_⟩
  generalize s.advance t = s
  repeat' (first
    | with_reducible exact Chg.refl _ _
    | with_reducible assumption
    | (apply Chg.step; rotate_left
       with_reducible exact State.powerDown_chg ..
       decide)
    | split)

theorem execBankRevert_chg (t : ℕ) (c : ConnNo) (obs : ImageObs) (s : State) : ∃ u, execBankRevert t c obs s = .next u ∧ Chg [.time, .carousel, .wall, .startup, .array, .legs, .laws, .juggler, .thermal, .barker, .scribe, .update, .ptp, .pair, .port, .tokens, .tamper, .safety, .drives, .supply, .buses] (s.advance t) u := by
  refine ⟨_, rfl, ?_⟩
  generalize s.advance t = s
  repeat' (first
    | with_reducible exact Chg.refl _ _
    | with_reducible assumption
    | (apply Chg.step; rotate_left
       (first
         | with_reducible exact State.answer_chg ..
         | with_reducible exact State.raise_chg ..
         | with_reducible exact State.restart_chg ..)
       decide)
    | refine Chg.step (M := [.time, .carousel, .wall, .startup, .array, .legs, .laws, .juggler, .thermal, .barker, .scribe, .update, .ptp, .pair, .port, .tokens, .tamper, .safety, .drives, .supply, .buses]) ?_ (State.op_chg (fun k s => ?_) (by decide)) (by decide)
    | (extract_lets +onlyGivenNames x1
       suffices hx : Chg [.time, .carousel, .wall, .startup, .array, .legs, .laws, .juggler, .thermal, .barker, .scribe, .update, .ptp, .pair, .port, .tokens, .tamper, .safety, .drives, .supply, .buses] s x1
       on_goal 1 => clear_value x1
       on_goal 2 => unfold x1)
    | (extract_lets +onlyGivenNames x1
       suffices hx : Chg [.time, .carousel, .wall, .startup, .array, .legs, .laws, .juggler, .thermal, .barker, .scribe, .update, .ptp, .pair, .port, .tokens, .tamper, .safety, .drives, .supply, .buses] s x1.2
       on_goal 1 => clear_value x1
       on_goal 2 => unfold x1)
    | (extract_lets +onlyGivenNames x1; clear_value x1)
    | split
    | fail_if_no_progress (with_reducible refine Chg.step ?_ (Chg.setStartup _ _) (by decide))
    | fail_if_no_progress (with_reducible refine Chg.step ?_ (Chg.setUpdate _ _) (by decide))
    | (refine ⟨fun p hp => ?_⟩; have hb := fun (x : State) (h : Chg [.time, .carousel, .wall, .startup, .array, .legs, .laws, .juggler, .thermal, .barker, .scribe, .update, .ptp, .pair, .port, .tokens, .tamper, .safety, .drives, .supply, .buses] s x) => h.1 p hp; cases p <;> first | (exact absurd hp (by decide)) | (simp only [State.same]; done) | (simp only [State.same] at hb ⊢; exact hb _ (by assumption))))

theorem execBootstrapRefresh_chg (t : ℕ) (p : PumpNo) (phase : Fin 3) (sinceLowNs : ℕ) (s : State) : ∃ u, execBootstrapRefresh t p phase sinceLowNs s = .next u ∧ Chg [.drives] (s.advance t) u := by
  refine ⟨_, rfl, ?_⟩
  generalize s.advance t = s
  repeat' (first
    | with_reducible exact Chg.refl _ _
    | with_reducible assumption
    | (apply Chg.step; rotate_left
       with_reducible exact State.modPump_chg ..
       decide)
    | split)

theorem execBstUv_chg (t : ℕ) (p : PumpNo) (phase : Fin 3) (mv : ℕ) (s : State) : ∃ u, execBstUv t p phase mv s = .next u ∧ Chg [.port, .drives] (s.advance t) u := by
  refine ⟨_, rfl, ?_⟩
  generalize s.advance t = s
  repeat' (first
    | with_reducible exact Chg.refl _ _
    | with_reducible assumption
    | (apply Chg.step; rotate_left
       (first
         | with_reducible exact State.faultPump_chg ..
         | with_reducible exact State.modPump_chg ..
         | with_reducible exact State.pumpEvent_chg ..)
       decide)
    | (extract_lets +onlyGivenNames x1
       suffices hx : Chg [.port, .drives] s x1
       on_goal 1 => clear_value x1
       on_goal 2 => unfold x1)
    | split)

theorem execCableCheck_chg (t : ℕ) (ctx : CtxNo) (s : State) : ∃ u, execCableCheck t ctx s = .next u ∧ Chg [.juggler, .barker, .scribe, .keys, .update, .port, .tokens] (s.advance t) u := by
  refine ⟨_, rfl, ?_⟩
  generalize s.advance t = s
  repeat' (first
    | with_reducible exact Chg.refl _ _
    | with_reducible assumption
    | (apply Chg.step; rotate_left
       (first
         | with_reducible exact State.checkVoltage_chg ..
         | with_reducible exact State.modCtx_chg ..
         | with_reducible exact State.pauseCtx_chg ..)
       decide)
    | split)

theorem execCanBusOffRecovery_chg (t : ℕ) (chan : CanNo) (occurrences : ℕ) (s : State) : ∃ u, execCanBusOffRecovery t chan occurrences s = .next u ∧ Chg [.port, .buses] (s.advance t) u := by
  refine ⟨_, rfl, ?_⟩
  generalize s.advance t = s
  repeat' (first
    | with_reducible exact Chg.refl _ _
    | with_reducible assumption
    | (apply Chg.step; rotate_left
       (first
         | with_reducible exact State.modCan_chg ..
         | with_reducible exact State.raise_chg ..)
       decide)
    | split)

theorem execCanFrameReceived_chg (t : ℕ) (chan : CanNo) (f : CanFrame) (s : State) : ∃ u, execCanFrameReceived t chan f s = .next u ∧ Chg [.free, .pair, .port, .buses] (s.advance t) u := by
  refine ⟨_, rfl, ?_⟩
  generalize s.advance t = s
  repeat' (first
    | with_reducible exact Chg.refl _ _
    | with_reducible assumption
    | (apply Chg.step; rotate_left
       (first
         | with_reducible exact State.canCount_chg ..
         | with_reducible exact State.canDeliver_chg ..
         | with_reducible exact State.canGood_chg ..)
       decide)
    | refine Chg.step (M := [.free, .pair, .port, .buses]) ?_ (State.submit_chg (fun s => ?_) (by decide)) (by decide)
    | (extract_lets +onlyGivenNames x1
       suffices hx : Chg [.free, .pair, .port, .buses] s x1
       on_goal 1 => clear_value x1
       on_goal 2 => unfold x1)
    | split)

theorem execCanReceiveError_chg (t : ℕ) (chan : CanNo) (e : RxErr) (s : State) : ∃ u, execCanReceiveError t chan e s = .next u ∧ Chg [.port, .buses] (s.advance t) u := by
  refine ⟨_, rfl, ?_⟩
  generalize s.advance t = s
  repeat' (first
    | with_reducible exact Chg.refl _ _
    | with_reducible assumption
    | (apply Chg.step; rotate_left
       (first
         | with_reducible exact State.canConfine_chg ..
         | with_reducible exact State.canCount_chg ..
         | with_reducible exact State.modCan_chg ..)
       decide)
    | (extract_lets +onlyGivenNames x1
       suffices hx : Chg [.port, .buses] s x1
       on_goal 1 => clear_value x1
       on_goal 2 => unfold x1)
    | split)

theorem execCanRefLost_chg (t : ℕ) (chan : CanNo) (s : State) : ∃ u, execCanRefLost t chan s = .next u ∧ Chg [.pair, .port, .buses] (s.advance t) u := by
  refine ⟨_, rfl, ?_⟩
  generalize s.advance t = s
  repeat' (first
    | with_reducible exact Chg.refl _ _
    | with_reducible assumption
    | (apply Chg.step; rotate_left
       with_reducible exact State.loseCanRef_chg ..
       decide)
    | refine Chg.step (M := [.pair, .port, .buses]) ?_ (State.submit_chg (fun s => ?_) (by decide)) (by decide)
    | split)

theorem execCanTxDone_chg (t : ℕ) (chan : CanNo) (e : TxEnd) (s : State) : ∃ u, execCanTxDone t chan e s = .next u ∧ Chg [.port, .buses] (s.advance t) u := by
  refine ⟨_, rfl, ?_⟩
  generalize s.advance t = s
  repeat' (first
    | with_reducible exact Chg.refl _ _
    | with_reducible assumption
    | (apply Chg.step; rotate_left
       (first
         | with_reducible exact State.canConfine_chg ..
         | with_reducible exact State.canCount_chg ..
         | with_reducible exact State.canMissed_chg ..
         | with_reducible exact State.modCan_chg ..)
       decide)
    | (extract_lets +onlyGivenNames x1
       suffices hx : Chg [.port, .buses] s x1
       on_goal 1 => clear_value x1
       on_goal 2 => unfold x1)
    | (extract_lets +onlyGivenNames x1
       suffices hx : Chg [.port, .buses] s x1.2
       on_goal 1 => clear_value x1
       on_goal 2 => unfold x1)
    | (extract_lets +onlyGivenNames x1; clear_value x1)
    | split)

theorem execCanWindow_chg (t : ℕ) (chan : CanNo) (entry : ℕ) (idle : Bool) (heard : Bool) (s : State) : ∃ u, execCanWindow t chan entry idle heard s = .next u ∧ Chg [.thermal, .pair, .port, .buses] (s.advance t) u := by
  refine ⟨_, rfl, ?_⟩
  generalize s.advance t = s
  repeat' (first
    | with_reducible exact Chg.refl _ _
    | with_reducible assumption
    | (apply Chg.step; rotate_left
       (first
         | with_reducible exact State.canSlot_chg ..
         | with_reducible exact State.startFrame_chg ..
         | with_reducible exact State.takeWindow_chg ..)
       decide)
    | (extract_lets +onlyGivenNames x1
       suffices hx : Chg [.thermal, .pair, .port, .buses] s x1
       on_goal 1 => clear_value x1
       on_goal 2 => unfold x1)
    | (extract_lets +onlyGivenNames x1
       suffices hx : Chg [.thermal, .pair, .port, .buses] s x1.2
       on_goal 1 => clear_value x1
       on_goal 2 => unfold x1)
    | (extract_lets +onlyGivenNames x1; clear_value x1)
    | split)

theorem execCarouselAlignment_chg (t : ℕ) (delayNs : ℕ) (errNs : ℤ) (s : State) : ∃ u, execCarouselAlignment t delayNs errNs s = .next u ∧ Chg [.pair] (s.advance t) u := by
  refine ⟨_, rfl, ?_⟩
  generalize s.advance t = s
  repeat' (first
    | with_reducible exact Chg.refl _ _
    | with_reducible assumption
    | (apply Chg.step; rotate_left
       with_reducible exact State.modPair_chg ..
       decide)
    | split)

theorem execCertExpiring_chg (t : ℕ) (certs : List CertExpiry) (s : State) : ∃ u, execCertExpiring t certs s = .next u ∧ Chg [.barker, .port] (s.advance t) u := by
  refine ⟨_, rfl, ?_⟩
  generalize s.advance t = s
  repeat' (first
    | with_reducible exact Chg.refl _ _
    | with_reducible assumption
    | (apply Chg.step; rotate_left
       with_reducible exact State.raise_chg ..
       decide)
    | (extract_lets +onlyGivenNames x1
       suffices hx : Chg [.barker, .port] s x1
       on_goal 1 => clear_value x1
       on_goal 2 => unfold x1)
    | (extract_lets +onlyGivenNames x1
       suffices hx : Chg [.barker, .port] s x1.2
       on_goal 1 => clear_value x1
       on_goal 2 => unfold x1)
    | (extract_lets +onlyGivenNames x1; clear_value x1)
    | split
    | (with_reducible apply Chg.foldl; rotate_left; intro s _)
    | fail_if_no_progress (with_reducible refine Chg.step ?_ (Chg.setBarker _ _) (by decide)))

theorem execChangeDisplayTimeout_chg (t : ℕ) (outlet : OutletNo) (s : State) : ∃ u, execChangeDisplayTimeout t outlet s = .next u ∧ Chg [.pair, .tokens] (s.advance t) u := by
  refine ⟨_, rfl, ?_⟩
  generalize s.advance t = s
  repeat' (first
    | with_reducible exact Chg.refl _ _
    | with_reducible assumption
    | (apply Chg.step; rotate_left
       with_reducible exact State.dropChange_chg ..
       decide)
    | refine Chg.step (M := [.pair, .tokens]) ?_ (State.submit_chg (fun s => ?_) (by decide)) (by decide)
    | split)

theorem execChangeTokenLookup_chg (t : ℕ) (c : ConnNo) (tokenId : ℕ) (s : State) : ∃ u, execChangeTokenLookup t c tokenId s = .next u ∧ Chg [.port] (s.advance t) u := by
  refine ⟨_, rfl, ?_⟩
  generalize s.advance t = s
  repeat' (first
    | with_reducible exact Chg.refl _ _
    | with_reducible assumption
    | (apply Chg.step; rotate_left
       with_reducible exact State.selectChange_chg ..
       decide))

theorem execChannelRepaired_chg (t : ℕ) (i : SiNo) (s : State) : ∃ u, execChannelRepaired t i s = .next u ∧ Chg [.safety] (s.advance t) u := by
  refine ⟨_, rfl, ?_⟩
  generalize s.advance t = s
  repeat' (first
    | with_reducible exact Chg.refl _ _
    | with_reducible assumption
    | (apply Chg.step; rotate_left
       with_reducible exact State.modIn_chg ..
       decide)
    | split)

theorem execCheck_chg (t : ℕ) (conn : ConnNo) (s : State) : ∃ u, execCheck t conn s = .next u ∧ Chg [.port] (s.advance t) u := by
  refine ⟨_, rfl, ?_⟩
  generalize s.advance t = s
  repeat' (first
    | with_reducible exact Chg.refl _ _
    | with_reducible assumption
    | (apply Chg.step; rotate_left
       (first
         | with_reducible exact State.answer_chg ..
         | with_reducible exact State.modConn_chg ..)
       decide)
    | refine Chg.step (M := [.port]) ?_ (State.op_chg (fun k s => ?_) (by decide)) (by decide)
    | (extract_lets +onlyGivenNames x1
       suffices hx : Chg [.port] s x1
       on_goal 1 => clear_value x1
       on_goal 2 => unfold x1)
    | (extract_lets +onlyGivenNames x1
       suffices hx : Chg [.port] s x1.2
       on_goal 1 => clear_value x1
       on_goal 2 => unfold x1)
    | (extract_lets +onlyGivenNames x1; clear_value x1)
    | split)

theorem execCommission_chg (t : ℕ) (c : ConnNo) (hubId : ℕ) (partner : ℕ) (s : State) : ∃ u, execCommission t c hubId partner s = .next u ∧ Chg [.scribe, .ident, .keys, .pair, .port, .tokens, .tamper] (s.advance t) u := by
  refine ⟨_, rfl, ?_⟩
  generalize s.advance t = s
  repeat' (first
    | with_reducible exact Chg.refl _ _
    | with_reducible assumption
    | (apply Chg.step; rotate_left
       (first
         | with_reducible exact State.answer_chg ..
         | with_reducible exact State.firstOpen_chg ..
         | with_reducible exact State.modSlot_chg ..
         | with_reducible exact State.setLife_chg ..)
       decide)
    | refine Chg.step (M := [.scribe, .ident, .keys, .pair, .port, .tokens, .tamper]) ?_ (State.guarded_chg (fun k s => ?_) (by decide)) (by decide)
    | (extract_lets +onlyGivenNames x1
       suffices hx : Chg [.scribe, .ident, .keys, .pair, .port, .tokens, .tamper] s x1
       on_goal 1 => clear_value x1
       on_goal 2 => unfold x1)
    | (extract_lets +onlyGivenNames x1
       suffices hx : Chg [.scribe, .ident, .keys, .pair, .port, .tokens, .tamper] s x1.2
       on_goal 1 => clear_value x1
       on_goal 2 => unfold x1)
    | (extract_lets +onlyGivenNames x1; clear_value x1)
    | split
    | fail_if_no_progress (with_reducible refine Chg.step ?_ (Chg.setIdent _ _) (by decide)))

theorem execCommit_chg (t : ℕ) (conn : ConnNo) (code : W32) (boundary : ℕ) (s : State) : ∃ u, execCommit t conn code boundary s = .next u ∧ Chg [.startup, .pair, .port] (s.advance t) u := by
  refine ⟨_, rfl, ?_⟩
  generalize s.advance t = s
  repeat' (first
    | with_reducible exact Chg.refl _ _
    | with_reducible assumption
    | (apply Chg.step; rotate_left
       (first
         | with_reducible exact State.answer_chg ..
         | with_reducible exact State.opCommit_chg ..
         | with_reducible exact State.orderCommits_chg ..)
       decide)
    | refine Chg.step (M := [.startup, .pair, .port]) ?_ (State.request_chg (fun c s => ?_) (by decide) (by decide)) (by decide)
    | refine Chg.step (M := [.startup, .pair, .port]) ?_ (State.op_chg (fun k s => ?_) (by decide)) (by decide)
    | (extract_lets +onlyGivenNames x1
       suffices hx : Chg [.startup, .pair, .port] s x1
       on_goal 1 => clear_value x1
       on_goal 2 => unfold x1)
    | (extract_lets +onlyGivenNames x1
       suffices hx : Chg [.startup, .pair, .port] s x1.2
       on_goal 1 => clear_value x1
       on_goal 2 => unfold x1)
    | (extract_lets +onlyGivenNames x1; clear_value x1)
    | split)

theorem execConnectionLost_chg (t : ℕ) (c : ConnNo) (s : State) : ∃ u, execConnectionLost t c s = .next u ∧ Chg [.port] (s.advance t) u := by
  refine ⟨_, rfl, ?_⟩
  generalize s.advance t = s
  repeat' (first
    | with_reducible exact Chg.refl _ _
    | with_reducible assumption
    | (apply Chg.step; rotate_left
       with_reducible exact State.closeConn_chg ..
       decide))

theorem execConnectionOpen_chg (t : ℕ) (port : EthNo) (addr : ℕ) (ou : Option Role) (ca : Option ℕ) (timeValid : Bool) (s : State) : ∃ u, execConnectionOpen t port addr ou ca timeValid s = .next u ∧ Chg [.port] (s.advance t) u := by
  refine ⟨_, rfl, ?_⟩
  generalize s.advance t = s
  repeat' (first
    | with_reducible exact Chg.refl _ _
    | with_reducible assumption
    | (extract_lets +onlyGivenNames x1
       suffices hx : Chg [.port] s x1
       on_goal 1 => clear_value x1
       on_goal 2 => unfold x1)
    | (extract_lets +onlyGivenNames x1
       suffices hx : Chg [.port] s x1.2
       on_goal 1 => clear_value x1
       on_goal 2 => unfold x1)
    | (extract_lets +onlyGivenNames x1; clear_value x1)
    | split
    | fail_if_no_progress (with_reducible refine Chg.step ?_ (Chg.setPort _ _) (by decide)))

theorem execContactorStatus_chg (t : ℕ) (g : ConvNo) (payload : W32) (s : State) : ∃ u, execContactorStatus t g payload s = .next u ∧ Chg [.juggler, .pair, .port] (s.advance t) u := by
  refine ⟨_, rfl, ?_⟩
  generalize s.advance t = s
  repeat' (first
    | with_reducible exact Chg.refl _ _
    | with_reducible assumption
    | (apply Chg.step; rotate_left
       with_reducible exact State.takeContactor_chg ..
       decide)
    | refine Chg.step (M := [.juggler, .pair, .port]) ?_ (State.submit_chg (fun s => ?_) (by decide)) (by decide))

theorem execContentionResolved_chg (t : ℕ) (leg : LegNo) (net : Net) (clean : Bool) (s : State) : ∃ u, execContentionResolved t leg net clean s = .next u ∧ Chg [.legs, .pair] (s.advance t) u := by
  refine ⟨_, rfl, ?_⟩
  generalize s.advance t = s
  repeat' (first
    | with_reducible exact Chg.refl _ _
    | with_reducible assumption
    | (apply Chg.step; rotate_left
       with_reducible exact State.modPair_chg ..
       decide)
    | (extract_lets +onlyGivenNames x1
       suffices hx : Chg [.legs, .pair] s x1
       on_goal 1 => clear_value x1
       on_goal 2 => unfold x1)
    | (extract_lets +onlyGivenNames x1
       suffices hx : Chg [.legs, .pair] s x1.2
       on_goal 1 => clear_value x1
       on_goal 2 => unfold x1)
    | (extract_lets +onlyGivenNames x1; clear_value x1)
    | split
    | fail_if_no_progress (with_reducible refine Chg.step ?_ (Chg.setLegs _ _) (by decide)))

theorem execCounterSignature_chg (t : ℕ) (ctx : CtxNo) (serial : ℕ) (sig : ℕ) (s : State) : ∃ u, execCounterSignature t ctx serial sig s = .next u ∧ Chg [.scribe] (s.advance t) u := by
  refine ⟨_, rfl, ?_⟩
  generalize s.advance t = s
  repeat' (first
    | with_reducible exact Chg.refl _ _
    | with_reducible assumption
    | (apply Chg.step; rotate_left
       with_reducible exact State.modBuilding_chg ..
       decide)
    | split)

theorem execCurtSilent_chg (t : ℕ) (src : CurtSource) (s : State) : ∃ u, execCurtSilent t src s = .next u ∧ Chg [.juggler, .pair, .port] (s.advance t) u := by
  refine ⟨_, rfl, ?_⟩
  generalize s.advance t = s
  repeat' (first
    | with_reducible exact Chg.refl _ _
    | with_reducible assumption
    | (apply Chg.step; rotate_left
       with_reducible exact State.fallSilent_chg ..
       decide)
    | refine Chg.step (M := [.juggler, .pair, .port]) ?_ (State.submit_chg (fun s => ?_) (by decide)) (by decide)
    | split)

theorem execCurtailmentWrite_chg (t : ℕ) (conn : ConnNo) (limitKw : ℕ) (validS : ℕ) (s : State) : ∃ u, execCurtailmentWrite t conn limitKw validS s = .next u ∧ Chg [.juggler, .pair, .port] (s.advance t) u := by
  refine ⟨_, rfl, ?_⟩
  generalize s.advance t = s
  repeat' (first
    | with_reducible exact Chg.refl _ _
    | with_reducible assumption
    | (apply Chg.step; rotate_left
       with_reducible exact State.putCurt_chg ..
       decide))

theorem execDarkTest_chg (t : ℕ) (so : SoNo) (low : Bool) (s : State) : ∃ u, execDarkTest t so low s = .next u ∧ Chg [.legs, .laws, .pair, .port, .safety] (s.advance t) u := by
  refine ⟨_, rfl, ?_⟩
  generalize s.advance t = s
  repeat' (first
    | with_reducible exact Chg.refl _ _
    | with_reducible assumption
    | (apply Chg.step; rotate_left
       (first
         | with_reducible exact State.faultOut_chg ..
         | with_reducible exact State.modOut_chg ..)
       decide)
    | (extract_lets +onlyGivenNames x1
       suffices hx : Chg [.legs, .laws, .pair, .port, .safety] s x1
       on_goal 1 => clear_value x1
       on_goal 2 => unfold x1)
    | split)

theorem execDcuSilent_chg (t : ℕ) (inst : ℕ) (s : State) : ∃ u, execDcuSilent t inst s = .next u ∧ Chg [.thermal, .pair, .port] (s.advance t) u := by
  refine ⟨_, rfl, ?_⟩
  generalize s.advance t = s
  repeat' (first
    | with_reducible exact Chg.refl _ _
    | with_reducible assumption
    | (apply Chg.step; rotate_left
       with_reducible exact State.dcuLost_chg ..
       decide)
    | refine Chg.step (M := [.thermal, .pair, .port]) ?_ (State.submit_chg (fun s => ?_) (by decide)) (by decide)
    | split)

theorem execDcuStatus_chg (t : ℕ) (inst : ℕ) (payload : BitVec 64) (s : State) : ∃ u, execDcuStatus t inst payload s = .next u ∧ Chg [.thermal, .pair, .port] (s.advance t) u := by
  refine ⟨_, rfl, ?_⟩
  generalize s.advance t = s
  repeat' (first
    | with_reducible exact Chg.refl _ _
    | with_reducible assumption
    | (apply Chg.step; rotate_left
       with_reducible exact State.takeDcu_chg ..
       decide)
    | refine Chg.step (M := [.thermal, .pair, .port]) ?_ (State.submit_chg (fun s => ?_) (by decide)) (by decide))

theorem execDeadlineMiss_chg (t : ℕ) (dom : ℕ) (seq : ℕ) (s : State) : ∃ u, execDeadlineMiss t dom seq s = .next u ∧ Chg [.array, .legs, .laws, .juggler, .thermal, .barker, .scribe, .keys, .update, .pair, .port, .tokens, .drives, .supply] (s.advance t) u := by
  refine ⟨_, rfl, ?_⟩
  generalize s.advance t = s
  repeat' (first
    | with_reducible exact Chg.refl _ _
    | with_reducible assumption
    | (apply Chg.step; rotate_left
       (first
         | with_reducible exact State.lateEvent_chg ..
         | with_reducible exact State.missJob_chg ..
         | with_reducible exact State.missTask_chg ..
         | with_reducible exact State.retireAll_chg ..)
       decide)
    | split)

theorem execDegradedExpired_chg (t : ℕ) (fn : FuncNo) (s : State) : ∃ u, execDegradedExpired t fn s = .next u ∧ Chg [.legs, .laws, .juggler, .barker, .scribe, .keys, .update, .pair, .port, .tokens, .safety] (s.advance t) u := by
  refine ⟨_, rfl, ?_⟩
  generalize s.advance t = s
  repeat' (first
    | with_reducible exact Chg.refl _ _
    | with_reducible assumption
    | (apply Chg.step; rotate_left
       (first
         | with_reducible exact State.evalFns_chg ..
         | with_reducible exact State.modFn_chg ..
         | with_reducible exact State.pauseScan_chg ..
         | with_reducible exact State.raise_chg ..)
       decide)
    | (extract_lets +onlyGivenNames x1
       suffices hx : Chg [.legs, .laws, .juggler, .barker, .scribe, .keys, .update, .pair, .port, .tokens, .safety] s x1
       on_goal 1 => clear_value x1
       on_goal 2 => unfold x1)
    | (extract_lets +onlyGivenNames x1
       suffices hx : Chg [.legs, .laws, .juggler, .barker, .scribe, .keys, .update, .pair, .port, .tokens, .safety] s x1.2
       on_goal 1 => clear_value x1
       on_goal 2 => unfold x1)
    | (extract_lets +onlyGivenNames x1; clear_value x1)
    | split)

theorem execDeliveringFlagClear_chg (t : ℕ) (ctx : CtxNo) (s : State) : ∃ u, execDeliveringFlagClear t ctx s = .next u ∧ Chg [.barker] (s.advance t) u := by
  refine ⟨_, rfl, ?_⟩
  generalize s.advance t = s
  repeat' (first
    | with_reducible exact Chg.refl _ _
    | with_reducible assumption
    | (apply Chg.step; rotate_left
       with_reducible exact State.modCtx_chg ..
       decide)
    | split)

theorem execDieTempMonitor_chg (t : ℕ) (r : TempReadings) (s : State) : ∃ u, execDieTempMonitor t r s = .next u ∧ Chg [.time, .carousel, .wall, .startup, .array, .legs, .laws, .juggler, .thermal, .barker, .scribe, .update, .ptp, .pair, .port, .tokens, .tamper, .safety, .drives, .supply, .buses] (s.advance t) u := by
  refine ⟨_, rfl, ?_⟩
  generalize s.advance t = s
  repeat' (first
    | with_reducible exact Chg.refl _ _
    | with_reducible assumption
    | (apply Chg.step; rotate_left
       with_reducible exact State.dieTemp_chg ..
       decide)
    | (extract_lets +onlyGivenNames x1; clear_value x1)
    | split
    | (with_reducible apply Chg.foldl; rotate_left; intro s _))

theorem execDio_chg (t : ℕ) (x : Sender) (d : Datagram) (s : State) : ∃ u, execDio t x d s = .next u ∧ Chg [.juggler, .thermal, .barker, .scribe, .keys, .update, .pair, .port, .tokens, .tamper] (s.advance t) u := by
  refine ⟨_, rfl, ?_⟩
  generalize s.advance t = s
  repeat' (first
    | with_reducible exact Chg.refl _ _
    | with_reducible assumption
    | (apply Chg.step; rotate_left
       with_reducible exact State.takeDio_chg ..
       decide)
    | refine Chg.step (M := [.juggler, .thermal, .barker, .scribe, .keys, .update, .pair, .port, .tokens, .tamper]) ?_ (State.submit_chg (fun s => ?_) (by decide)) (by decide)
    | split)

theorem execDioEnd_chg (t : ℕ) (outlet : OutletNo) (s : State) : ∃ u, execDioEnd t outlet s = .next u ∧ Chg [.juggler, .barker, .scribe, .keys, .update, .pair, .port, .tokens] (s.advance t) u := by
  refine ⟨_, rfl, ?_⟩
  generalize s.advance t = s
  repeat' (first
    | with_reducible exact Chg.refl _ _
    | with_reducible assumption
    | (apply Chg.step; rotate_left
       with_reducible exact State.dioEnded_chg ..
       decide)
    | refine Chg.step (M := [.juggler, .barker, .scribe, .keys, .update, .pair, .port, .tokens]) ?_ (State.submit_chg (fun s => ?_) (by decide)) (by decide)
    | split)

theorem execDioPause_chg (t : ℕ) (outlet : OutletNo) (s : State) : ∃ u, execDioPause t outlet s = .next u ∧ Chg [.juggler, .barker, .scribe, .keys, .update, .pair, .port, .tokens] (s.advance t) u := by
  refine ⟨_, rfl, ?_⟩
  generalize s.advance t = s
  repeat' (first
    | with_reducible exact Chg.refl _ _
    | with_reducible assumption
    | (apply Chg.step; rotate_left
       with_reducible exact State.dioSilent_chg ..
       decide)
    | refine Chg.step (M := [.juggler, .barker, .scribe, .keys, .update, .pair, .port, .tokens]) ?_ (State.submit_chg (fun s => ?_) (by decide)) (by decide)
    | split)

theorem execDioSend_chg (t : ℕ) (outlet : OutletNo) (s : State) : ∃ u, execDioSend t outlet s = .next u ∧ Chg [.barker] (s.advance t) u := by
  refine ⟨_, rfl, ?_⟩
  generalize s.advance t = s
  repeat' (first
    | with_reducible exact Chg.refl _ _
    | with_reducible assumption
    | (apply Chg.step; rotate_left
       (first
         | with_reducible exact State.modDisp_chg ..
         | with_reducible exact State.sendFrame_chg ..)
       decide)
    | split)

theorem execDisarm_chg (t : ℕ) (c : ConnNo) (s : State) : ∃ u, execDisarm t c s = .next u ∧ Chg [.juggler, .barker, .scribe, .update, .pair, .port, .tokens] (s.advance t) u := by
  refine ⟨_, rfl, ?_⟩
  generalize s.advance t = s
  repeat' (first
    | with_reducible exact Chg.refl _ _
    | with_reducible assumption
    | (apply Chg.step; rotate_left
       with_reducible exact State.opDisarm_chg ..
       decide)
    | refine Chg.step (M := [.juggler, .barker, .scribe, .update, .pair, .port, .tokens]) ?_ (State.change_chg (fun c s => ?_) (by decide) (by decide)) (by decide))

theorem execDiscrepancyTimeout_chg (t : ℕ) (fn : FuncNo) (s : State) : ∃ u, execDiscrepancyTimeout t fn s = .next u ∧ Chg [.legs, .laws, .juggler, .barker, .scribe, .keys, .update, .pair, .port, .tokens, .safety] (s.advance t) u := by
  refine ⟨_, rfl, ?_⟩
  generalize s.advance t = s
  repeat' (first
    | with_reducible exact Chg.refl _ _
    | with_reducible assumption
    | (apply Chg.step; rotate_left
       (first
         | with_reducible exact State.faultChannel_chg ..
         | with_reducible exact State.pauseScan_chg ..)
       decide)
    | (extract_lets +onlyGivenNames x1
       suffices hx : Chg [.legs, .laws, .juggler, .barker, .scribe, .keys, .update, .pair, .port, .tokens, .safety] s x1
       on_goal 1 => clear_value x1
       on_goal 2 => unfold x1)
    | (extract_lets +onlyGivenNames x1
       suffices hx : Chg [.legs, .laws, .juggler, .barker, .scribe, .keys, .update, .pair, .port, .tokens, .safety] s x1.2
       on_goal 1 => clear_value x1
       on_goal 2 => unfold x1)
    | (extract_lets +onlyGivenNames x1; clear_value x1)
    | split)

theorem execDispTempStale_chg (t : ℕ) (outlet : OutletNo) (chan : Fin 4) (s : State) : ∃ u, execDispTempStale t outlet chan s = .next u ∧ Chg [.thermal, .pair, .port] (s.advance t) u := by
  refine ⟨_, rfl, ?_⟩
  generalize s.advance t = s
  repeat' (first
    | with_reducible exact Chg.refl _ _
    | with_reducible assumption
    | (apply Chg.step; rotate_left
       with_reducible exact State.staleTemp_chg ..
       decide)
    | refine Chg.step (M := [.thermal, .pair, .port]) ?_ (State.submit_chg (fun s => ?_) (by decide)) (by decide)
    | split)

theorem execDivergenceResult_chg (t : ℕ) (x : OwnTest) (partner : Bool) (s : State) : ∃ u, execDivergenceResult t x partner s = .next u ∧ Chg [.free, .array, .pair, .port, .drives] (s.advance t) u := by
  refine ⟨_, rfl, ?_⟩
  generalize s.advance t = s
  repeat' (first
    | with_reducible exact Chg.refl _ _
    | with_reducible assumption
    | (apply Chg.step; rotate_left
       (first
         | with_reducible exact State.degrade_chg ..
         | with_reducible exact State.enterResync_chg ..
         | with_reducible exact State.modPair_chg ..
         | with_reducible exact State.planYield_chg ..
         | with_reducible exact State.raise_chg ..
         | with_reducible exact State.testNibs_chg ..)
       decide)
    | (extract_lets +onlyGivenNames x1
       suffices hx : Chg [.free, .array, .pair, .port, .drives] s x1
       on_goal 1 => clear_value x1
       on_goal 2 => unfold x1)
    | split)

theorem execDramScrub_chg (t : ℕ) (channel : Fin 2) (block : ℕ) (obs : ScrubObs) (s : State) : ∃ u, execDramScrub t channel block obs s = .next u ∧ Chg [.array, .thermal, .pair, .port] (s.advance t) u := by
  refine ⟨_, rfl, ?_⟩
  generalize s.advance t = s
  repeat' (first
    | with_reducible exact Chg.refl _ _
    | with_reducible assumption
    | (apply Chg.step; rotate_left
       (first
         | with_reducible exact State.correctBlock_chg ..
         | with_reducible exact State.modArr_chg ..
         | with_reducible exact State.poisonBlock_chg ..
         | with_reducible exact State.poisonNodes_chg ..
         | with_reducible exact State.selfTest_chg ..)
       decide)
    | (extract_lets +onlyGivenNames x1
       suffices hx : Chg [.array, .thermal, .pair, .port] s x1
       on_goal 1 => clear_value x1
       on_goal 2 => unfold x1)
    | (extract_lets +onlyGivenNames x1
       suffices hx : Chg [.array, .thermal, .pair, .port] s x1.2
       on_goal 1 => clear_value x1
       on_goal 2 => unfold x1)
    | (extract_lets +onlyGivenNames x1; clear_value x1)
    | split)

theorem execDriveContention_chg (t : ℕ) (leg : LegNo) (net : Net) (mV : ℕ) (s : State) : ∃ u, execDriveContention t leg net mV s = .next u ∧ Chg [.legs, .pair, .port, .drives] (s.advance t) u := by
  refine ⟨_, rfl, ?_⟩
  generalize s.advance t = s
  repeat' (first
    | with_reducible exact Chg.refl _ _
    | with_reducible assumption
    | (apply Chg.step; rotate_left
       (first
         | with_reducible exact State.modPair_chg ..
         | with_reducible exact State.raise_chg ..
         | with_reducible exact State.yieldRing_chg ..)
       decide)
    | (extract_lets +onlyGivenNames x1
       suffices hx : Chg [.legs, .pair, .port, .drives] s x1
       on_goal 1 => clear_value x1
       on_goal 2 => unfold x1)
    | (extract_lets +onlyGivenNames x1
       suffices hx : Chg [.legs, .pair, .port, .drives] s x1.2
       on_goal 1 => clear_value x1
       on_goal 2 => unfold x1)
    | (extract_lets +onlyGivenNames x1; clear_value x1)
    | split
    | fail_if_no_progress (with_reducible refine Chg.step ?_ (Chg.setLegs _ _) (by decide)))

theorem execDutyRampedToZero_chg (t : ℕ) (p : PumpNo) (s : State) : ∃ u, execDutyRampedToZero t p s = .next u ∧ Chg [.drives] (s.advance t) u := by
  refine ⟨_, rfl, ?_⟩
  generalize s.advance t = s
  repeat' (first
    | with_reducible exact Chg.refl _ _
    | with_reducible assumption
    | (apply Chg.step; rotate_left
       with_reducible exact State.modPump_chg ..
       decide)
    | split)

theorem execEntryTimeout_chg (t : ℕ) (outlet : OutletNo) (s : State) : ∃ u, execEntryTimeout t outlet s = .next u ∧ Chg [.pair, .tokens] (s.advance t) u := by
  refine ⟨_, rfl, ?_⟩
  generalize s.advance t = s
  repeat' (first
    | with_reducible exact Chg.refl _ _
    | with_reducible assumption
    | (apply Chg.step; rotate_left
       with_reducible exact State.dropEntryBuffer_chg ..
       decide)
    | refine Chg.step (M := [.pair, .tokens]) ?_ (State.submit_chg (fun s => ?_) (by decide)) (by decide)
    | split)

theorem execEthAddrDup_chg (t : ℕ) (port : EthNo) (s : State) : ∃ u, execEthAddrDup t port s = .next u ∧ Chg [.port, .buses] (s.advance t) u := by
  refine ⟨_, rfl, ?_⟩
  generalize s.advance t = s
  repeat' (first
    | with_reducible exact Chg.refl _ _
    | with_reducible assumption
    | (apply Chg.step; rotate_left
       (first
         | with_reducible exact State.modEth_chg ..
         | with_reducible exact State.raise_chg ..)
       decide)
    | split)

theorem execEthFrameReceived_chg (t : ℕ) (port : EthNo) (vid : ℕ) (k : EthKind) (s : State) : ∃ u, execEthFrameReceived t port vid k s = .next u ∧ Chg [.buses] (s.advance t) u := by
  refine ⟨_, rfl, ?_⟩
  generalize s.advance t = s
  repeat' (first
    | with_reducible exact Chg.refl _ _
    | with_reducible assumption
    | (apply Chg.step; rotate_left
       with_reducible exact State.modEth_chg ..
       decide)
    | (extract_lets +onlyGivenNames x1
       suffices hx : Chg [.buses] s x1
       on_goal 1 => clear_value x1
       on_goal 2 => unfold x1)
    | (extract_lets +onlyGivenNames x1
       suffices hx : Chg [.buses] s x1.2
       on_goal 1 => clear_value x1
       on_goal 2 => unfold x1)
    | (extract_lets +onlyGivenNames x1; clear_value x1)
    | split
    | fail_if_no_progress (with_reducible refine Chg.step ?_ (Chg.setBuses _ _) (by decide)))

theorem execEthLink_chg (t : ℕ) (port : EthNo) (up : Bool) (s : State) : ∃ u, execEthLink t port up s = .next u ∧ Chg [.port, .buses] (s.advance t) u := by
  refine ⟨_, rfl, ?_⟩
  generalize s.advance t = s
  repeat' (first
    | with_reducible exact Chg.refl _ _
    | with_reducible assumption
    | (apply Chg.step; rotate_left
       (first
         | with_reducible exact State.modEth_chg ..
         | with_reducible exact State.raise_chg ..)
       decide)
    | split)

theorem execEvent_chg (t : ℕ) (c : ConnNo) (s : State) : ∃ u, execEvent t c s = .next u ∧ Chg [.port] (s.advance t) u := by
  refine ⟨_, rfl, ?_⟩
  generalize s.advance t = s
  repeat' (first
    | with_reducible exact Chg.refl _ _
    | with_reducible assumption
    | (apply Chg.step; rotate_left
       with_reducible exact State.modConn_chg ..
       decide)
    | split)

theorem execFeedbackLost_chg (t : ℕ) (chan : SdChan) (clocks : ℕ) (s : State) : ∃ u, execFeedbackLost t chan clocks s = .next u ∧ Chg [.legs, .laws, .pair, .port] (s.advance t) u := by
  refine ⟨_, rfl, ?_⟩
  generalize s.advance t = s
  repeat' (first
    | with_reducible exact Chg.refl _ _
    | with_reducible assumption
    | (apply Chg.step; rotate_left
       (first
         | with_reducible exact State.loseChannel_chg ..
         | with_reducible exact State.markLost_chg ..)
       decide)
    | refine Chg.step (M := [.legs, .laws, .pair, .port]) ?_ (State.submit_chg (fun s => ?_) (by decide)) (by decide)
    | split)

theorem execGet_chg (t : ℕ) (c : ConnNo) (o : Obis) (attr : ℕ) (sel : Option (ℕ × ℕ)) (s : State) : ∃ u, execGet t c o attr sel s = .next u ∧ Chg [.free, .port] (s.advance t) u := by
  refine ⟨_, rfl, ?_⟩
  generalize s.advance t = s
  repeat' (first
    | with_reducible exact Chg.refl _ _
    | with_reducible assumption
    | (apply Chg.step; rotate_left
       (first
         | with_reducible exact State.answer_chg ..
         | with_reducible exact State.readObj_chg ..)
       decide)
    | refine Chg.step (M := [.free, .port]) ?_ (State.op_chg (fun k s => ?_) (by decide)) (by decide)
    | (extract_lets +onlyGivenNames x1; clear_value x1)
    | split)

theorem execGlide_chg (t : ℕ) (s : State) : ∃ u, execGlide t s = .next u ∧ Chg [.carousel, .pair, .port] (s.advance t) u := by
  refine ⟨_, rfl, ?_⟩
  generalize s.advance t = s
  repeat' (first
    | with_reducible exact Chg.refl _ _
    | with_reducible assumption
    | (apply Chg.step; rotate_left
       (first
         | with_reducible exact State.decideCar_chg ..
         | with_reducible exact State.toGlide_chg ..)
       decide)
    | split)

theorem execGridCommand_chg (t : ℕ) (chan : CanNo) (payload : BitVec 64) (s : State) : ∃ u, execGridCommand t chan payload s = .next u ∧ Chg [.juggler, .pair, .port] (s.advance t) u := by
  refine ⟨_, rfl, ?_⟩
  generalize s.advance t = s
  repeat' (first
    | with_reducible exact Chg.refl _ _
    | with_reducible assumption
    | (apply Chg.step; rotate_left
       with_reducible exact State.takeGrid_chg ..
       decide)
    | refine Chg.step (M := [.juggler, .pair, .port]) ?_ (State.submit_chg (fun s => ?_) (by decide)) (by decide))

theorem execHalfTurnBoundary_chg (t : ℕ) (half : ℕ) (s : State) : ∃ u, execHalfTurnBoundary t half s = .next u ∧ Chg [.time, .carousel, .wall, .startup, .array, .legs, .laws, .juggler, .thermal, .barker, .scribe, .keys, .update, .ptp, .pair, .port, .tokens, .tamper, .safety, .drives, .supply, .buses] (s.advance t) u := by
  refine ⟨_, rfl, ?_⟩
  generalize s.advance t = s
  repeat' (first
    | with_reducible exact Chg.refl _ _
    | with_reducible assumption
    | (apply Chg.step; rotate_left
       (first
         | with_reducible exact State.activationHalf_chg ..
         | with_reducible exact State.inkHalf_chg ..
         | with_reducible exact State.lawsHalf_chg ..
         | with_reducible exact State.modCar_chg ..
         | with_reducible exact State.pairHalf_chg ..
         | with_reducible exact State.pauseScan_chg ..
         | with_reducible exact State.revertHalf_chg ..
         | with_reducible exact State.revisionHalf_chg ..)
       decide)
    | (extract_lets +onlyGivenNames x1
       suffices hx : Chg [.time, .carousel, .wall, .startup, .array, .legs, .laws, .juggler, .thermal, .barker, .scribe, .keys, .update, .ptp, .pair, .port, .tokens, .tamper, .safety, .drives, .supply, .buses] s x1
       on_goal 1 => clear_value x1
       on_goal 2 => unfold x1)
    | split)

theorem execHallChange_chg (t : ℕ) (p : PumpNo) (code : Fin 8) (stableNs : ℕ) (bstMv : List ℕ) (s : State) : ∃ u, execHallChange t p code stableNs bstMv s = .next u ∧ Chg [.drives] (s.advance t) u := by
  refine ⟨_, rfl, ?_⟩
  generalize s.advance t = s
  repeat' (first
    | with_reducible exact Chg.refl _ _
    | with_reducible assumption
    | (apply Chg.step; rotate_left
       with_reducible exact State.modPump_chg ..
       decide)
    | split)

theorem execHallFault_chg (t : ℕ) (p : PumpNo) (s : State) : ∃ u, execHallFault t p s = .next u ∧ Chg [.port, .drives] (s.advance t) u := by
  refine ⟨_, rfl, ?_⟩
  generalize s.advance t = s
  repeat' (first
    | with_reducible exact Chg.refl _ _
    | with_reducible assumption
    | (apply Chg.step; rotate_left
       (first
         | with_reducible exact State.faultPump_chg ..
         | with_reducible exact State.pumpEvent_chg ..)
       decide)
    | split)

theorem execHealthReport_chg (t : ℕ) (s : State) : ∃ u, execHealthReport t s = .next u ∧ Chg [.pair] (s.advance t) u := by
  refine ⟨_, rfl, ?_⟩
  generalize s.advance t = s
  repeat' (first
    | with_reducible exact Chg.refl _ _
    | with_reducible assumption
    | (apply Chg.step; rotate_left
       with_reducible exact State.modPair_chg ..
       decide))

theorem execHeartbeat_chg (t : ℕ) (s : State) : ∃ u, execHeartbeat t s = .next u ∧ Chg [.legs, .laws, .juggler, .barker, .scribe, .keys, .update, .pair, .port, .tokens, .safety, .drives] (s.advance t) u := by
  refine ⟨_, rfl, ?_⟩
  generalize s.advance t = s
  repeat' (first
    | with_reducible exact Chg.refl _ _
    | with_reducible assumption
    | (apply Chg.step; rotate_left
       (first
         | with_reducible exact State.exitOrphan_chg ..
         | with_reducible exact State.modSafety_chg ..
         | with_reducible exact State.pauseScan_chg ..)
       decide)
    | (extract_lets +onlyGivenNames x1
       suffices hx : Chg [.legs, .laws, .juggler, .barker, .scribe, .keys, .update, .pair, .port, .tokens, .safety, .drives] s x1
       on_goal 1 => clear_value x1
       on_goal 2 => unfold x1)
    | split)

theorem execHeartbeatLost_chg (t : ℕ) (s : State) : ∃ u, execHeartbeatLost t s = .next u ∧ Chg [.legs, .laws, .juggler, .barker, .scribe, .keys, .update, .pair, .port, .tokens, .drives] (s.advance t) u := by
  refine ⟨_, rfl, ?_⟩
  generalize s.advance t = s
  repeat' (first
    | with_reducible exact Chg.refl _ _
    | with_reducible assumption
    | (apply Chg.step; rotate_left
       (first
         | with_reducible exact State.judgeRing_chg ..
         | with_reducible exact State.loseStandby_chg ..
         | with_reducible exact State.modPair_chg ..)
       decide)
    | (extract_lets +onlyGivenNames x1
       suffices hx : Chg [.legs, .laws, .juggler, .barker, .scribe, .keys, .update, .pair, .port, .tokens, .drives] s x1
       on_goal 1 => clear_value x1
       on_goal 2 => unfold x1)
    | split)

theorem execHello_chg (t : ℕ) (x : Sender) (d : Datagram) (s : State) : ∃ u, execHello t x d s = .next u ∧ Chg [.barker, .keys, .pair, .port, .tamper] (s.advance t) u := by
  refine ⟨_, rfl, ?_⟩
  generalize s.advance t = s
  repeat' (first
    | with_reducible exact Chg.refl _ _
    | with_reducible assumption
    | (apply Chg.step; rotate_left
       with_reducible exact State.takeHello_chg ..
       decide)
    | refine Chg.step (M := [.barker, .keys, .pair, .port, .tamper]) ?_ (State.submit_chg (fun s => ?_) (by decide)) (by decide)
    | split)

theorem execInkPoint_chg (t : ℕ) (other : Option InkVals) (s : State) : ∃ u, execInkPoint t other s = .next u ∧ Chg [.carousel, .juggler, .scribe, .pair, .port] (s.advance t) u := by
  refine ⟨_, rfl, ?_⟩
  generalize s.advance t = s
  repeat' (first
    | with_reducible exact Chg.refl _ _
    | with_reducible assumption
    | (apply Chg.step; rotate_left
       (first
         | with_reducible exact State.addShorts_chg ..
         | with_reducible exact State.inkPoint_chg ..)
       decide)
    | (extract_lets +onlyGivenNames x1
       suffices hx : Chg [.carousel, .juggler, .scribe, .pair, .port] s x1
       on_goal 1 => clear_value x1
       on_goal 2 => unfold x1)
    | split)

theorem execInkwellScrub_chg (t : ℕ) (addr : ℕ) (obs : ScrubObs) (s : State) : ∃ u, execInkwellScrub t addr obs s = .next u ∧ Chg [.array, .pair, .port] (s.advance t) u := by
  refine ⟨_, rfl, ?_⟩
  generalize s.advance t = s
  repeat' (first
    | with_reducible exact Chg.refl _ _
    | with_reducible assumption
    | (apply Chg.step; rotate_left
       (first
         | with_reducible exact State.correct_chg ..
         | with_reducible exact State.modArr_chg ..
         | with_reducible exact State.poisonWord_chg ..
         | with_reducible exact State.scrubbed_chg ..)
       decide)
    | (extract_lets +onlyGivenNames x1
       suffices hx : Chg [.array, .pair, .port] s x1
       on_goal 1 => clear_value x1
       on_goal 2 => unfold x1)
    | split)

theorem execJournalEffect_chg (t : ℕ) (jseq : ℕ) (s : State) : ∃ u, execJournalEffect t jseq s = .next u ∧ Chg [.carousel, .wall, .startup, .flash, .array, .legs, .laws, .juggler, .thermal, .barker, .scribe, .ident, .keys, .update, .pair, .port, .tokens, .tamper, .safety, .drives, .supply, .buses] (s.advance t) u := by
  refine ⟨_, rfl, ?_⟩
  generalize s.advance t = s
  repeat' (first
    | with_reducible exact Chg.refl _ _
    | with_reducible assumption
    | (apply Chg.step; rotate_left
       (first
         | with_reducible exact State.applyEntry_chg ..
         | with_reducible exact State.missEntry_chg ..)
       decide)
    | split)

theorem execJournalEntryReceived_chg (t : ℕ) (m : JPending) (s : State) : ∃ u, execJournalEntryReceived t m s = .next u ∧ Chg [.pair, .port, .drives] (s.advance t) u := by
  refine ⟨_, rfl, ?_⟩
  generalize s.advance t = s
  repeat' (first
    | with_reducible exact Chg.refl _ _
    | with_reducible assumption
    | (apply Chg.step; rotate_left
       (first
         | with_reducible exact State.countLate_chg ..
         | with_reducible exact State.modPair_chg ..
         | with_reducible exact State.outOfStep_chg ..
         | with_reducible exact State.selfTest_chg ..)
       decide)
    | (extract_lets +onlyGivenNames x1
       suffices hx : Chg [.pair, .port, .drives] s x1
       on_goal 1 => clear_value x1
       on_goal 2 => unfold x1)
    | (extract_lets +onlyGivenNames x1
       suffices hx : Chg [.pair, .port, .drives] s x1.2
       on_goal 1 => clear_value x1
       on_goal 2 => unfold x1)
    | (extract_lets +onlyGivenNames x1; clear_value x1)
    | split)

theorem execKeyDestroy_chg (t : ℕ) (c : ConnNo) (slot : SlotNo) (s : State) : ∃ u, execKeyDestroy t c slot s = .next u ∧ Chg [.keys, .pair, .port] (s.advance t) u := by
  refine ⟨_, rfl, ?_⟩
  generalize s.advance t = s
  repeat' (first
    | with_reducible exact Chg.refl _ _
    | with_reducible assumption
    | (apply Chg.step; rotate_left
       with_reducible exact State.opKeyDestroy_chg ..
       decide)
    | refine Chg.step (M := [.keys, .pair, .port]) ?_ (State.change_chg (fun c s => ?_) (by decide) (by decide)) (by decide))

theorem execKeyImport_chg (t : ℕ) (c : ConnNo) (slot : SlotNo) (k : KeyImport) (s : State) : ∃ u, execKeyImport t c slot k s = .next u ∧ Chg [.keys, .pair, .port] (s.advance t) u := by
  refine ⟨_, rfl, ?_⟩
  generalize s.advance t = s
  repeat' (first
    | with_reducible exact Chg.refl _ _
    | with_reducible assumption
    | (apply Chg.step; rotate_left
       with_reducible exact State.opKeyImport_chg ..
       decide)
    | refine Chg.step (M := [.keys, .pair, .port]) ?_ (State.change_chg (fun c s => ?_) (by decide) (by decide)) (by decide))

theorem execLawClear_chg (t : ℕ) (conn : ConnNo) (l : LawNo) (s : State) : ∃ u, execLawClear t conn l s = .next u ∧ Chg [.laws, .pair, .port] (s.advance t) u := by
  refine ⟨_, rfl, ?_⟩
  generalize s.advance t = s
  repeat' (first
    | with_reducible exact Chg.refl _ _
    | with_reducible assumption
    | (apply Chg.step; rotate_left
       with_reducible exact State.opLawClear_chg ..
       decide)
    | refine Chg.step (M := [.laws, .pair, .port]) ?_ (State.change_chg (fun c s => ?_) (by decide) (by decide)) (by decide))

theorem execLegClear_chg (t : ℕ) (conn : ConnNo) (leg : LegNo) (s : State) : ∃ u, execLegClear t conn leg s = .next u ∧ Chg [.legs, .pair, .port] (s.advance t) u := by
  refine ⟨_, rfl, ?_⟩
  generalize s.advance t = s
  repeat' (first
    | with_reducible exact Chg.refl _ _
    | with_reducible assumption
    | (apply Chg.step; rotate_left
       with_reducible exact State.opLegClear_chg ..
       decide)
    | refine Chg.step (M := [.legs, .pair, .port]) ?_ (State.change_chg (fun c s => ?_) (by decide) (by decide)) (by decide))

theorem execLegEdge_chg (t : ℕ) (leg : LegNo) (hi : Bool) (lo : Bool) (mv : ℕ × ℕ) (s : State) : ∃ u, execLegEdge t leg hi lo mv s = .next u ∧ Chg [.legs] (s.advance t) u := by
  refine ⟨_, rfl, ?_⟩
  generalize s.advance t = s
  repeat' (first
    | with_reducible exact Chg.refl _ _
    | with_reducible assumption
    | (apply Chg.step; rotate_left
       (first
         | with_reducible exact State.compareNets_chg ..
         | with_reducible exact State.modLeg_chg ..)
       decide)
    | split)

theorem execLegFault_chg (t : ℕ) (leg : LegNo) (lowTicks : ℕ) (s : State) : ∃ u, execLegFault t leg lowTicks s = .next u ∧ Chg [.legs, .laws, .pair, .port] (s.advance t) u := by
  refine ⟨_, rfl, ?_⟩
  generalize s.advance t = s
  repeat' (first
    | with_reducible exact Chg.refl _ _
    | with_reducible assumption
    | (apply Chg.step; rotate_left
       (first
         | with_reducible exact State.findFault_chg ..
         | with_reducible exact State.modLeg_chg ..)
       decide)
    | split)

theorem execLegSample_chg (t : ℕ) (leg : LegNo) (s : State) : ∃ u, execLegSample t leg s = .next u ∧ Chg [.legs] (s.advance t) u := by
  refine ⟨_, rfl, ?_⟩
  generalize s.advance t = s
  repeat' (first
    | with_reducible exact Chg.refl _ _
    | with_reducible assumption
    | (apply Chg.step; rotate_left
       with_reducible exact State.latchSample_chg ..
       decide)
    | split)

theorem execLegalRelease_chg (t : ℕ) (c : ConnNo) (partHash : ℕ) (legalVer : ℕ) (s : State) : ∃ u, execLegalRelease t c partHash legalVer s = .next u ∧ Chg [.scribe, .update, .pair, .port] (s.advance t) u := by
  refine ⟨_, rfl, ?_⟩
  generalize s.advance t = s
  exact Chg.ite (State.guarded_chg (fun _ s => Chg.step (Chg.refl _ _) (State.answer_chg ..) (by decide)) (by decide))
    (State.change_chg (fun c s => Chg.step (Chg.refl _ _) (State.opLegal_chg ..) (by decide)) (by decide) (by decide))

theorem execLegsOffAsserted_chg (t : ℕ) (side : Side) (s : State) : ∃ u, execLegsOffAsserted t side s = .next u ∧ Chg [.legs, .laws, .pair, .port, .safety] (s.advance t) u := by
  refine ⟨_, rfl, ?_⟩
  generalize s.advance t = s
  repeat' (first
    | with_reducible exact Chg.refl _ _
    | with_reducible assumption
    | (apply Chg.step; rotate_left
       (first
         | with_reducible exact State.modSafety_chg ..
         | with_reducible exact State.react_chg ..
         | with_reducible exact State.takeLegsOff_chg ..)
       decide)
    | refine Chg.step (M := [.legs, .laws, .pair, .port, .safety]) ?_ (State.submit_chg (fun s => ?_) (by decide)) (by decide)
    | split)

theorem execLegsOffReleased_chg (t : ℕ) (side : Side) (s : State) : ∃ u, execLegsOffReleased t side s = .next u ∧ Chg [.legs, .laws, .pair, .port, .safety] (s.advance t) u := by
  refine ⟨_, rfl, ?_⟩
  generalize s.advance t = s
  repeat' (first
    | with_reducible exact Chg.refl _ _
    | with_reducible assumption
    | (apply Chg.step; rotate_left
       (first
         | with_reducible exact State.modSafety_chg ..
         | with_reducible exact State.react_chg ..
         | with_reducible exact State.takeLegsOff_chg ..)
       decide)
    | refine Chg.step (M := [.legs, .laws, .pair, .port, .safety]) ?_ (State.submit_chg (fun s => ?_) (by decide)) (by decide)
    | split)

theorem execLinkState_chg (t : ℕ) (link : Fin 2) (up : Bool) (s : State) : ∃ u, execLinkState t link up s = .next u ∧ Chg [.pair, .port, .drives] (s.advance t) u := by
  refine ⟨_, rfl, ?_⟩
  generalize s.advance t = s
  repeat' (first
    | with_reducible exact Chg.refl _ _
    | with_reducible assumption
    | (apply Chg.step; rotate_left
       (first
         | with_reducible exact State.enterResync_chg ..
         | with_reducible exact State.modPair_chg ..
         | with_reducible exact State.raise_chg ..)
       decide)
    | (extract_lets +onlyGivenNames x1
       suffices hx : Chg [.pair, .port, .drives] s x1
       on_goal 1 => clear_value x1
       on_goal 2 => unfold x1)
    | (extract_lets +onlyGivenNames x1
       suffices hx : Chg [.pair, .port, .drives] s x1.2
       on_goal 1 => clear_value x1
       on_goal 2 => unfold x1)
    | (extract_lets +onlyGivenNames x1; clear_value x1)
    | split)

theorem execLoadSwitchClear_chg (t : ℕ) (c : ConnNo) (n : LsNo) (s : State) : ∃ u, execLoadSwitchClear t c n s = .next u ∧ Chg [.pair, .port, .drives] (s.advance t) u := by
  refine ⟨_, rfl, ?_⟩
  generalize s.advance t = s
  repeat' (first
    | with_reducible exact Chg.refl _ _
    | with_reducible assumption
    | (apply Chg.step; rotate_left
       with_reducible exact State.opLsClear_chg ..
       decide)
    | refine Chg.step (M := [.pair, .port, .drives]) ?_ (State.change_chg (fun c s => ?_) (by decide) (by decide)) (by decide))

theorem execLocked_chg (t : ℕ) (obs : LockObs) (s : State) : ∃ u, execLocked t obs s = .next u ∧ Chg [.carousel, .pair, .port] (s.advance t) u := by
  refine ⟨_, rfl, ?_⟩
  generalize s.advance t = s
  repeat' (first
    | with_reducible exact Chg.refl _ _
    | with_reducible assumption
    | (apply Chg.step; rotate_left
       (first
         | with_reducible exact State.decideCar_chg ..
         | with_reducible exact State.toLocked_chg ..)
       decide)
    | split)

theorem execLogicDieRestart_chg (t : ℕ) (s : State) : ∃ u, execLogicDieRestart t s = .next u ∧ Chg [.startup, .safety] (s.advance t) u := by
  refine ⟨_, rfl, ?_⟩
  generalize s.advance t = s
  repeat' (first
    | with_reducible exact Chg.refl _ _
    | with_reducible assumption
    | (apply Chg.step; rotate_left
       with_reducible exact State.modSafety_chg ..
       decide)
    | (extract_lets +onlyGivenNames x1
       suffices hx : Chg [.startup, .safety] s x1
       on_goal 1 => clear_value x1
       on_goal 2 => unfold x1)
    | (extract_lets +onlyGivenNames x1
       suffices hx : Chg [.startup, .safety] s x1.2
       on_goal 1 => clear_value x1
       on_goal 2 => unfold x1)
    | (extract_lets +onlyGivenNames x1; clear_value x1)
    | split
    | fail_if_no_progress (with_reducible refine Chg.step ?_ (Chg.setStartup _ _) (by decide)))

theorem execLsFreewheel_chg (t : ℕ) (n : LsNo) (outMv : ℤ) (us : ℕ) (s : State) : ∃ u, execLsFreewheel t n outMv us s = .next u ∧ Chg [.port, .drives] (s.advance t) u := by
  refine ⟨_, rfl, ?_⟩
  generalize s.advance t = s
  repeat' (first
    | with_reducible exact Chg.refl _ _
    | with_reducible assumption
    | (apply Chg.step; rotate_left
       (first
         | with_reducible exact State.modLs_chg ..
         | with_reducible exact State.raise_chg ..)
       decide)
    | (extract_lets +onlyGivenNames x1
       suffices hx : Chg [.port, .drives] s x1
       on_goal 1 => clear_value x1
       on_goal 2 => unfold x1)
    | split)

theorem execLsInChange_chg (t : ℕ) (n : LsNo) (level : Bool) (s : State) : ∃ u, execLsInChange t n level s = .next u ∧ Chg [.drives] (s.advance t) u := by
  refine ⟨_, rfl, ?_⟩
  generalize s.advance t = s
  repeat' (first
    | with_reducible exact Chg.refl _ _
    | with_reducible assumption
    | (apply Chg.step; rotate_left
       (first
         | with_reducible exact State.modLs_chg ..
         | with_reducible exact State.refreshLs_chg ..)
       decide))

theorem execLsOpenLoad_chg (t : ℕ) (n : LsNo) (th : OlThreshold) (below : Bool) (uA : ℕ) (ms : ℕ) (s : State) : ∃ u, execLsOpenLoad t n th below uA ms s = .next u ∧ Chg [.port, .drives] (s.advance t) u := by
  refine ⟨_, rfl, ?_⟩
  generalize s.advance t = s
  repeat' (first
    | with_reducible exact Chg.refl _ _
    | with_reducible assumption
    | (apply Chg.step; rotate_left
       (first
         | with_reducible exact State.modLs_chg ..
         | with_reducible exact State.raise_chg ..)
       decide)
    | split)

theorem execLsOverload_chg (t : ℕ) (n : LsNo) (mA : ℕ) (ms : ℕ) (s : State) : ∃ u, execLsOverload t n mA ms s = .next u ∧ Chg [.port, .drives] (s.advance t) u := by
  refine ⟨_, rfl, ?_⟩
  generalize s.advance t = s
  repeat' (first
    | with_reducible exact Chg.refl _ _
    | with_reducible assumption
    | (apply Chg.step; rotate_left
       with_reducible exact State.faultLs_chg ..
       decide)
    | split)

theorem execLsRetry_chg (t : ℕ) (n : LsNo) (s : State) : ∃ u, execLsRetry t n s = .next u ∧ Chg [.drives] (s.advance t) u := by
  refine ⟨_, rfl, ?_⟩
  generalize s.advance t = s
  repeat' (first
    | with_reducible exact Chg.refl _ _
    | with_reducible assumption
    | (apply Chg.step; rotate_left
       with_reducible exact State.retryLs_chg ..
       decide))

theorem execLsRetryReset_chg (t : ℕ) (n : LsNo) (s : State) : ∃ u, execLsRetryReset t n s = .next u ∧ Chg [.drives] (s.advance t) u := by
  refine ⟨_, rfl, ?_⟩
  generalize s.advance t = s
  repeat' (first
    | with_reducible exact Chg.refl _ _
    | with_reducible assumption
    | (apply Chg.step; rotate_left
       with_reducible exact State.modLs_chg ..
       decide)
    | split)

theorem execLsShort_chg (t : ℕ) (n : LsNo) (o : LsSense) (supplyMv : ℕ) (us : ℕ) (s : State) : ∃ u, execLsShort t n o supplyMv us s = .next u ∧ Chg [.port, .drives] (s.advance t) u := by
  refine ⟨_, rfl, ?_⟩
  generalize s.advance t = s
  repeat' (first
    | with_reducible exact Chg.refl _ _
    | with_reducible assumption
    | (apply Chg.step; rotate_left
       with_reducible exact State.faultLs_chg ..
       decide)
    | split)

theorem execLsSlewFault_chg (t : ℕ) (n : LsNo) (outMv : ℕ) (supplyMv : ℕ) (s : State) : ∃ u, execLsSlewFault t n outMv supplyMv s = .next u ∧ Chg [.port, .drives] (s.advance t) u := by
  refine ⟨_, rfl, ?_⟩
  generalize s.advance t = s
  repeat' (first
    | with_reducible exact Chg.refl _ _
    | with_reducible assumption
    | (apply Chg.step; rotate_left
       with_reducible exact State.faultLs_chg ..
       decide)
    | split)

theorem execLsSupplyRecovered_chg (t : ℕ) (g : VsNo) (mv : ℕ) (us : ℕ) (s : State) : ∃ u, execLsSupplyRecovered t g mv us s = .next u ∧ Chg [.port, .drives] (s.advance t) u := by
  refine ⟨_, rfl, ?_⟩
  generalize s.advance t = s
  repeat' (first
    | with_reducible exact Chg.refl _ _
    | with_reducible assumption
    | (apply Chg.step; rotate_left
       (first
         | with_reducible exact State.modGroupVs_chg ..
         | with_reducible exact State.raise_chg ..)
       decide)
    | (extract_lets +onlyGivenNames x1
       suffices hx : Chg [.port, .drives] s x1
       on_goal 1 => clear_value x1
       on_goal 2 => unfold x1)
    | (extract_lets +onlyGivenNames x1
       suffices hx : Chg [.port, .drives] s x1.2
       on_goal 1 => clear_value x1
       on_goal 2 => unfold x1)
    | (extract_lets +onlyGivenNames x1; clear_value x1)
    | split
    | fail_if_no_progress (with_reducible refine Chg.step ?_ (Chg.setDrives _ _) (by decide)))

theorem execLsSupplyUv_chg (t : ℕ) (g : VsNo) (mv : ℕ) (us : ℕ) (s : State) : ∃ u, execLsSupplyUv t g mv us s = .next u ∧ Chg [.port, .drives] (s.advance t) u := by
  refine ⟨_, rfl, ?_⟩
  generalize s.advance t = s
  repeat' (first
    | with_reducible exact Chg.refl _ _
    | with_reducible assumption
    | (apply Chg.step; rotate_left
       (first
         | with_reducible exact State.modGroupVs_chg ..
         | with_reducible exact State.raise_chg ..)
       decide)
    | (extract_lets +onlyGivenNames x1
       suffices hx : Chg [.port, .drives] s x1
       on_goal 1 => clear_value x1
       on_goal 2 => unfold x1)
    | (extract_lets +onlyGivenNames x1
       suffices hx : Chg [.port, .drives] s x1.2
       on_goal 1 => clear_value x1
       on_goal 2 => unfold x1)
    | (extract_lets +onlyGivenNames x1; clear_value x1)
    | split
    | fail_if_no_progress (with_reducible refine Chg.step ?_ (Chg.setDrives _ _) (by decide)))

theorem execLsThermal_chg (t : ℕ) (n : LsNo) (degC : ℤ) (s : State) : ∃ u, execLsThermal t n degC s = .next u ∧ Chg [.port, .drives] (s.advance t) u := by
  refine ⟨_, rfl, ?_⟩
  generalize s.advance t = z
  have h0 := Chg.refl [.port, .drives] z
  have h2 : Chg [.port, .drives] z (if 150 ≤ degC && !(z.ls n.val).warn then (z.modLs n.val fun x => { x with warn := true }).raise .lsThermalWarn [n.val, degC, 1]
    else if degC < 135 && (z.ls n.val).warn then (z.modLs n.val fun x => { x with warn := false }).raise .lsThermalWarn [n.val, degC, 0]
    else z) := Chg.ite (Chg.step (Chg.step h0 (State.modLs_chg ..) (by decide)) (State.raise_chg ..) (by decide))
      (Chg.ite (Chg.step (Chg.step h0 (State.modLs_chg ..) (by decide)) (State.raise_chg ..) (by decide)) h0)
  have h3 := Chg.step h2 (State.modLs_chg _ n.val fun x => { x with hot := true }) (by decide)
  exact Chg.ite (Chg.ite (Chg.step h3 (State.faultLs_chg ..) (by decide)) h3)
    (Chg.ite (Chg.step (Chg.step h2 (State.modLs_chg ..) (by decide)) (State.retryLs_chg ..) (by decide)) h2)

theorem execLsTurnOnComplete_chg (t : ℕ) (n : LsNo) (outPct : ℕ) (s : State) : ∃ u, execLsTurnOnComplete t n outPct s = .next u ∧ Chg [.drives] (s.advance t) u := by
  refine ⟨_, rfl, ?_⟩
  generalize s.advance t = s
  repeat' (first
    | with_reducible exact Chg.refl _ _
    | with_reducible assumption
    | (apply Chg.step; rotate_left
       with_reducible exact State.modLs_chg ..
       decide)
    | split)

theorem execMalformedMessage_chg (t : ℕ) (c : ConnNo) (_why : Malformed) (s : State) : ∃ u, execMalformedMessage t c _why s = .next u ∧ Chg [.port] (s.advance t) u := by
  refine ⟨_, rfl, ?_⟩
  generalize s.advance t = s
  repeat' (first
    | with_reducible exact Chg.refl _ _
    | with_reducible assumption
    | (apply Chg.step; rotate_left
       with_reducible exact State.closeConn_chg ..
       decide))

theorem execMatrixClear_chg (t : ℕ) (conn : ConnNo) (g : ConvNo) (s : State) : ∃ u, execMatrixClear t conn g s = .next u ∧ Chg [.juggler, .pair, .port] (s.advance t) u := by
  refine ⟨_, rfl, ?_⟩
  generalize s.advance t = s
  repeat' (first
    | with_reducible exact Chg.refl _ _
    | with_reducible assumption
    | (apply Chg.step; rotate_left
       with_reducible exact State.opMatrixClear_chg ..
       decide)
    | refine Chg.step (M := [.juggler, .pair, .port]) ?_ (State.change_chg (fun c s => ?_) (by decide) (by decide)) (by decide))

theorem execMatrixTimeout_chg (t : ℕ) (g : ConvNo) (s : State) : ∃ u, execMatrixTimeout t g s = .next u ∧ Chg [.juggler, .pair, .port] (s.advance t) u := by
  refine ⟨_, rfl, ?_⟩
  generalize s.advance t = s
  repeat' (first
    | with_reducible exact Chg.refl _ _
    | with_reducible assumption
    | (apply Chg.step; rotate_left
       with_reducible exact State.matrixExpired_chg ..
       decide)
    | refine Chg.step (M := [.juggler, .pair, .port]) ?_ (State.submit_chg (fun s => ?_) (by decide)) (by decide)
    | split)

theorem execMeterInputFault_chg (t : ℕ) (outlet : OutletNo) (obs : MeterObs) (s : State) : ∃ u, execMeterInputFault t outlet obs s = .next u ∧ Chg [.scribe, .port, .tamper] (s.advance t) u := by
  refine ⟨_, rfl, ?_⟩
  generalize s.advance t = s
  repeat' (first
    | with_reducible exact Chg.refl _ _
    | with_reducible assumption
    | (apply Chg.step; rotate_left
       with_reducible exact State.meterFault_chg ..
       decide)
    | split)

theorem execMisalignment_chg (t : ℕ) (errNs : ℤ) (s : State) : ∃ u, execMisalignment t errNs s = .next u ∧ Chg [.pair, .port, .drives] (s.advance t) u := by
  refine ⟨_, rfl, ?_⟩
  generalize s.advance t = s
  repeat' (first
    | with_reducible exact Chg.refl _ _
    | with_reducible assumption
    | (apply Chg.step; rotate_left
       with_reducible exact State.outOfStep_chg ..
       decide)
    | split)

theorem execModulatorClock_chg (t : ℕ) (metering : Bool) (clk : SdckNo) (bits : BitVec 16) (s : State) : ∃ u, execModulatorClock t metering clk bits s = .next u ∧ Chg [.laws, .scribe] (s.advance t) u := by
  refine ⟨_, rfl, ?_⟩
  generalize s.advance t = s
  repeat' (first
    | with_reducible exact Chg.refl _ _
    | with_reducible assumption
    | (apply Chg.step; rotate_left
       (first
         | with_reducible exact State.mdEdge_chg ..
         | with_reducible exact State.sdEdge_chg ..)
       decide)
    | split)

theorem execNewHolderDrive_chg (t : ℕ) (s : State) : ∃ u, execNewHolderDrive t s = .next u ∧ Chg [.pair] (s.advance t) u := by
  refine ⟨_, rfl, ?_⟩
  generalize s.advance t = s
  repeat' (first
    | with_reducible exact Chg.refl _ _
    | with_reducible assumption
    | (apply Chg.step; rotate_left
       with_reducible exact State.modPair_chg ..
       decide)
    | (extract_lets +onlyGivenNames x1
       suffices hx : Chg [.pair] s x1
       on_goal 1 => clear_value x1
       on_goal 2 => unfold x1)
    | (extract_lets +onlyGivenNames x1
       suffices hx : Chg [.pair] s x1.2
       on_goal 1 => clear_value x1
       on_goal 2 => unfold x1)
    | (extract_lets +onlyGivenNames x1; clear_value x1)
    | split)

theorem execNibBistDone_chg (t : ℕ) (n : NibNo) (pass : Bool) (s : State) : ∃ u, execNibBistDone t n pass s = .next u ∧ Chg [.free, .array, .pair, .port] (s.advance t) u := by
  refine ⟨_, rfl, ?_⟩
  generalize s.advance t = s
  repeat' (first
    | with_reducible exact Chg.refl _ _
    | with_reducible assumption
    | (apply Chg.step; rotate_left
       (first
         | with_reducible exact State.fence_chg ..
         | with_reducible exact State.modNib_chg ..
         | with_reducible exact State.selfTest_chg ..)
       decide)
    | (extract_lets +onlyGivenNames x1
       suffices hx : Chg [.free, .array, .pair, .port] s x1
       on_goal 1 => clear_value x1
       on_goal 2 => unfold x1)
    | split)

theorem execNibBistStart_chg (t : ℕ) (s : State) : ∃ u, execNibBistStart t s = .next u ∧ Chg [.array] (s.advance t) u := by
  refine ⟨_, rfl, ?_⟩
  generalize s.advance t = s
  repeat' (first
    | with_reducible exact Chg.refl _ _
    | with_reducible assumption
    | (apply Chg.step; rotate_left
       with_reducible exact State.modArr_chg ..
       decide)
    | (extract_lets +onlyGivenNames x1
       suffices hx : Chg [.array] s x1
       on_goal 1 => clear_value x1
       on_goal 2 => unfold x1)
    | (extract_lets +onlyGivenNames x1
       suffices hx : Chg [.array] s x1.2
       on_goal 1 => clear_value x1
       on_goal 2 => unfold x1)
    | (extract_lets +onlyGivenNames x1; clear_value x1)
    | split)

theorem execNoCounter_chg (t : ℕ) (ctx : CtxNo) (s : State) : ∃ u, execNoCounter t ctx s = .next u ∧ Chg [.scribe, .pair, .port] (s.advance t) u := by
  refine ⟨_, rfl, ?_⟩
  generalize s.advance t = s
  repeat' (first
    | with_reducible exact Chg.refl _ _
    | with_reducible assumption
    | (apply Chg.step; rotate_left
       with_reducible exact State.goNoCounter_chg ..
       decide)
    | refine Chg.step (M := [.scribe, .pair, .port]) ?_ (State.submit_chg (fun s => ?_) (by decide)) (by decide)
    | split)

theorem execNodeViewSet_chg (t : ℕ) (conn : ConnNo) (node : ℕ) (s : State) : ∃ u, execNodeViewSet t conn node s = .next u ∧ Chg [.port] (s.advance t) u := by
  refine ⟨_, rfl, ?_⟩
  generalize s.advance t = s
  repeat' (first
    | with_reducible exact Chg.refl _ _
    | with_reducible assumption
    | (apply Chg.step; rotate_left
       with_reducible exact State.selectNode_chg ..
       decide))

theorem execNominal_chg (t : ℕ) (s : State) : ∃ u, execNominal t s = .next u ∧ Chg [.carousel, .pair, .port] (s.advance t) u := by
  refine ⟨_, rfl, ?_⟩
  generalize s.advance t = s
  repeat' (first
    | with_reducible exact Chg.refl _ _
    | with_reducible assumption
    | (apply Chg.step; rotate_left
       (first
         | with_reducible exact State.decideCar_chg ..
         | with_reducible exact State.toNominal_chg ..)
       decide)
    | split)

theorem execOpeningReading_chg (t : ℕ) (r : OpeningRec) (s : State) : ∃ u, execOpeningReading t r s = .next u ∧ Chg [.scribe, .pair, .port, .tokens, .tamper] (s.advance t) u := by
  refine ⟨_, rfl, ?_⟩
  generalize s.advance t = s
  repeat' (first
    | with_reducible exact Chg.refl _ _
    | with_reducible assumption
    | (apply Chg.step; rotate_left
       (first
         | with_reducible exact State.adoptScribe_chg ..
         | with_reducible exact State.metLogAdd_chg ..
         | with_reducible exact State.modScribe_chg ..
         | with_reducible exact State.raiseS_chg ..
         | with_reducible exact State.scribeCommit_chg ..)
       decide)
    | (extract_lets +onlyGivenNames x1
       suffices hx : Chg [.scribe, .pair, .port, .tokens, .tamper] s x1
       on_goal 1 => clear_value x1
       on_goal 2 => unfold x1)
    | split)

theorem execOrphanEnter_chg (t : ℕ) (s : State) : ∃ u, execOrphanEnter t s = .next u ∧ Chg [.time, .carousel, .wall, .startup, .array, .legs, .laws, .juggler, .thermal, .barker, .scribe, .update, .ptp, .pair, .port, .tokens, .tamper, .safety, .drives, .supply, .buses] (s.advance t) u := by
  refine ⟨_, rfl, ?_⟩
  generalize s.advance t = s
  repeat' (first
    | with_reducible exact Chg.refl _ _
    | with_reducible assumption
    | (apply Chg.step; rotate_left
       with_reducible exact State.enterOrphan_chg ..
       decide)
    | split)

theorem execOrphanTimeout_chg (t : ℕ) (s : State) : ∃ u, execOrphanTimeout t s = .next u ∧ Chg [.legs, .laws, .pair, .port, .safety, .supply] (s.advance t) u := by
  refine ⟨_, rfl, ?_⟩
  generalize s.advance t = s
  repeat' (first
    | with_reducible exact Chg.refl _ _
    | with_reducible assumption
    | (apply Chg.step; rotate_left
       (first
         | with_reducible exact State.modSafety_chg ..
         | with_reducible exact State.react_chg ..
         | with_reducible exact State.regsOff_chg ..)
       decide)
    | (extract_lets +onlyGivenNames x1
       suffices hx : Chg [.legs, .laws, .pair, .port, .safety, .supply] s x1
       on_goal 1 => clear_value x1
       on_goal 2 => unfold x1)
    | (extract_lets +onlyGivenNames x1
       suffices hx : Chg [.legs, .laws, .pair, .port, .safety, .supply] s x1.2
       on_goal 1 => clear_value x1
       on_goal 2 => unfold x1)
    | (extract_lets +onlyGivenNames x1; clear_value x1)
    | split)

theorem execOutcomeTextExpiry_chg (t : ℕ) (outlet : OutletNo) (s : State) : ∃ u, execOutcomeTextExpiry t outlet s = .next u ∧ Chg [.pair, .tokens] (s.advance t) u := by
  refine ⟨_, rfl, ?_⟩
  generalize s.advance t = s
  repeat' (first
    | with_reducible exact Chg.refl _ _
    | with_reducible assumption
    | (apply Chg.step; rotate_left
       with_reducible exact State.dropText_chg ..
       decide)
    | refine Chg.step (M := [.pair, .tokens]) ?_ (State.submit_chg (fun s => ?_) (by decide)) (by decide)
    | split)

theorem execPairHeartbeat_chg (t : ℕ) (link : Fin 2) (b : Option Beat) (s : State) : ∃ u, execPairHeartbeat t link b s = .next u ∧ Chg [.legs, .laws, .juggler, .barker, .scribe, .keys, .update, .pair, .port, .tokens, .safety] (s.advance t) u := by
  refine ⟨_, rfl, ?_⟩
  generalize s.advance t = s
  repeat' (first
    | with_reducible exact Chg.refl _ _
    | with_reducible assumption
    | (apply Chg.step; rotate_left
       (first
         | with_reducible exact State.modPair_chg ..
         | with_reducible exact State.modSafety_chg ..
         | with_reducible exact State.pauseScan_chg ..
         | with_reducible exact State.react_chg ..
         | with_reducible exact State.selfTest_chg ..)
       decide)
    | split)

theorem execPairWinExpiry_chg (t : ℕ) (s : State) : ∃ u, execPairWinExpiry t s = .next u ∧ Chg [.carousel, .startup, .scribe, .pair, .port] (s.advance t) u := by
  refine ⟨_, rfl, ?_⟩
  generalize s.advance t = s
  repeat' (first
    | with_reducible exact Chg.refl _ _
    | with_reducible assumption
    | (apply Chg.step; rotate_left
       with_reducible exact State.settle_chg ..
       decide)
    | split)

theorem execPairing_chg (t : ℕ) (p : PartnerInfo) (s : State) : ∃ u, execPairing t p s = .next u ∧ Chg [.time, .carousel, .wall, .startup, .array, .legs, .laws, .juggler, .thermal, .barker, .scribe, .ident, .update, .ptp, .pair, .port, .tokens, .tamper, .safety, .drives, .supply, .buses] (s.advance t) u := by
  refine ⟨_, rfl, ?_⟩
  generalize s.advance t = s
  repeat' (first
    | with_reducible exact Chg.refl _ _
    | with_reducible assumption
    | (apply Chg.step; rotate_left
       (first
         | with_reducible exact State.pairOutcome_chg ..
         | with_reducible exact State.rebind_chg ..)
       decide)
    | split)

theorem execPark_chg (t : ℕ) (o : ParkObs) (s : State) : ∃ u, execPark t o s = .next u ∧ Chg [.free, .array, .legs, .laws, .juggler, .thermal, .barker, .scribe, .keys, .update, .pair, .port, .tokens, .drives, .supply] (s.advance t) u := by
  refine ⟨_, rfl, ?_⟩
  generalize s.advance t = s
  repeat' (first
    | with_reducible exact Chg.refl _ _
    | with_reducible assumption
    | (apply Chg.step; rotate_left
       (first
         | with_reducible exact State.displace_chg ..
         | with_reducible exact State.parkFor_chg ..)
       decide)
    | (extract_lets +onlyGivenNames x1
       suffices hx : Chg [.free, .array, .legs, .laws, .juggler, .thermal, .barker, .scribe, .keys, .update, .pair, .port, .tokens, .drives, .supply] s x1
       on_goal 1 => clear_value x1
       on_goal 2 => unfold x1)
    | (extract_lets +onlyGivenNames x1
       suffices hx : Chg [.free, .array, .legs, .laws, .juggler, .thermal, .barker, .scribe, .keys, .update, .pair, .port, .tokens, .drives, .supply] s x1.2
       on_goal 1 => clear_value x1
       on_goal 2 => unfold x1)
    | (extract_lets +onlyGivenNames x1; clear_value x1)
    | split)

theorem execPartnerDigest_chg (t : ℕ) (boundary : ℕ) (digest : ℕ) (s : State) : ∃ u, execPartnerDigest t boundary digest s = .next u ∧ Chg [.pair, .port] (s.advance t) u := by
  refine ⟨_, rfl, ?_⟩
  generalize s.advance t = s
  repeat' (first
    | with_reducible exact Chg.refl _ _
    | with_reducible assumption
    | (apply Chg.step; rotate_left
       (first
         | with_reducible exact State.modPair_chg ..
         | with_reducible exact State.raise_chg ..
         | with_reducible exact State.selfTest_chg ..)
       decide)
    | (extract_lets +onlyGivenNames x1
       suffices hx : Chg [.pair, .port] s x1
       on_goal 1 => clear_value x1
       on_goal 2 => unfold x1)
    | split)

theorem execPartnerPumpState_chg (t : ℕ) (states : List (PumpState × Bool)) (s : State) : ∃ u, execPartnerPumpState t states s = .next u ∧ Chg [.port, .drives] (s.advance t) u := by
  refine ⟨_, rfl, ?_⟩
  generalize s.advance t = s
  repeat' (first
    | with_reducible exact Chg.refl _ _
    | with_reducible assumption
    | (apply Chg.step; rotate_left
       with_reducible exact State.soloLoop_chg ..
       decide)
    | (extract_lets +onlyGivenNames x1
       suffices hx : Chg [.port, .drives] s x1
       on_goal 1 => clear_value x1
       on_goal 2 => unfold x1)
    | (extract_lets +onlyGivenNames x1
       suffices hx : Chg [.port, .drives] s x1.2
       on_goal 1 => clear_value x1
       on_goal 2 => unfold x1)
    | (extract_lets +onlyGivenNames x1; clear_value x1)
    | split
    | (with_reducible apply Chg.foldl; rotate_left; intro s _)
    | fail_if_no_progress (with_reducible refine Chg.step ?_ (Chg.setDrives _ _) (by decide)))

theorem execPauseMax_chg (t : ℕ) (ctx : CtxNo) (s : State) : ∃ u, execPauseMax t ctx s = .next u ∧ Chg [.juggler, .barker, .scribe, .keys, .update, .pair, .port, .tokens] (s.advance t) u := by
  refine ⟨_, rfl, ?_⟩
  generalize s.advance t = s
  repeat' (first
    | with_reducible exact Chg.refl _ _
    | with_reducible assumption
    | (apply Chg.step; rotate_left
       with_reducible exact State.pauseExpired_chg ..
       decide)
    | refine Chg.step (M := [.juggler, .barker, .scribe, .keys, .update, .pair, .port, .tokens]) ?_ (State.submit_chg (fun s => ?_) (by decide)) (by decide)
    | split)

theorem execPayloadFetch_chg (t : ℕ) (m : JPayload) (s : State) : ∃ u, execPayloadFetch t m s = .next u ∧ Chg [.pair, .port, .drives] (s.advance t) u := by
  refine ⟨_, rfl, ?_⟩
  generalize s.advance t = s
  repeat' (first
    | with_reducible exact Chg.refl _ _
    | with_reducible assumption
    | (apply Chg.step; rotate_left
       (first
         | with_reducible exact State.countLate_chg ..
         | with_reducible exact State.degrade_chg ..
         | with_reducible exact State.dropEntry_chg ..
         | with_reducible exact State.modPair_chg ..
         | with_reducible exact State.outOfStep_chg ..)
       decide)
    | (extract_lets +onlyGivenNames x1
       suffices hx : Chg [.pair, .port, .drives] s x1
       on_goal 1 => clear_value x1
       on_goal 2 => unfold x1)
    | (extract_lets +onlyGivenNames x1
       suffices hx : Chg [.pair, .port, .drives] s x1.2
       on_goal 1 => clear_value x1
       on_goal 2 => unfold x1)
    | (extract_lets +onlyGivenNames x1; clear_value x1)
    | split)

theorem execPeriodMark_chg (t : ℕ) (m : Mark) (s : State) : ∃ u, execPeriodMark t m s = .next u ∧ Chg [.juggler, .barker, .scribe, .keys, .update, .pair, .port, .tokens, .tamper] (s.advance t) u := by
  refine ⟨_, rfl, ?_⟩
  generalize s.advance t = z
  have h2 : Chg [.juggler, .barker, .scribe, .keys, .update, .pair, .port, .tokens, .tamper] z (if z.pair.st = .holder || z.pair.st = .solo then z.journal (.mark m) else z) :=
    Chg.ite (Chg.step (Chg.refl _ _) (State.journal_chg ..) (by decide)) (Chg.refl _ _)
  generalize hx : (if z.pair.st = .holder || z.pair.st = .solo then z.journal (.mark m) else z) = x at h2
  refine Chg.ite h2 ?_
  extract_lets x3 x4 x5 x6 x7
  have h3 : Chg [.juggler, .barker, .scribe, .keys, .update, .pair, .port, .tokens, .tamper] z x3 := Chg.step (Chg.step (Chg.step (Chg.step h2 (State.settleHolds_chg ..) (by decide)) (State.endPeriod_chg ..) (by decide)) (State.idleAll_chg ..) (by decide)) (State.flagFaulty_chg ..) (by decide)
  clear_value x3
  have h4 : Chg [.juggler, .barker, .scribe, .keys, .update, .pair, .port, .tokens, .tamper] z x4 := Chg.step h3 (State.boundaries_chg ..) (by decide)
  clear_value x4
  have h5 : Chg [.juggler, .barker, .scribe, .keys, .update, .pair, .port, .tokens, .tamper] z x5 := Chg.step h4 (State.creditScan_chg ..) (by decide)
  clear_value x5
  have h6 : Chg [.juggler, .barker, .scribe, .keys, .update, .pair, .port, .tokens, .tamper] z x6 := Chg.step h5 (State.takeFreqs_chg ..) (by decide)
  clear_value x6
  have h7 : Chg [.juggler, .barker, .scribe, .keys, .update, .pair, .port, .tokens, .tamper] z x7 := Chg.foldl _ _ h6 fun s x => Chg.step (Chg.refl _ _) (State.tokSecond_chg ..) (by decide)
  clear_value x7
  exact Chg.ite (Chg.step h7 (State.scribeCommit_chg ..) (by decide)) h5

theorem execPfail_chg (t : ℕ) (ballUs : ℕ) (auxLowUs : ℕ) (s : State) : ∃ u, execPfail t ballUs auxLowUs s = .next u ∧ Chg [.juggler, .barker, .scribe, .update, .pair, .port, .tokens, .tamper, .supply] (s.advance t) u := by
  refine ⟨_, rfl, ?_⟩
  generalize s.advance t = s
  repeat' (first
    | with_reducible exact Chg.refl _ _
    | with_reducible assumption
    | (apply Chg.step; rotate_left
       (first
         | with_reducible exact State.disarm_chg ..
         | with_reducible exact State.modSupply_chg ..
         | with_reducible exact State.scribePfail_chg ..)
       decide)
    | (extract_lets +onlyGivenNames x1
       suffices hx : Chg [.juggler, .barker, .scribe, .update, .pair, .port, .tokens, .tamper, .supply] s x1
       on_goal 1 => clear_value x1
       on_goal 2 => unfold x1)
    | split)

theorem execPfailPowerDown_chg (t : ℕ) (aux : ℕ) (s : State) : ∃ u, execPfailPowerDown t aux s = .next u ∧ Chg [.time, .carousel, .wall, .startup, .array, .legs, .laws, .juggler, .thermal, .barker, .scribe, .update, .ptp, .pair, .port, .tokens, .tamper, .safety, .drives, .supply, .buses] (s.advance t) u := by
  refine ⟨_, rfl, ?_⟩
  generalize s.advance t = s
  repeat' (first
    | with_reducible exact Chg.refl _ _
    | with_reducible assumption
    | (apply Chg.step; rotate_left
       (first
         | with_reducible exact State.powerDown_chg ..
         | with_reducible exact State.startPower_chg ..)
       decide)
    | (extract_lets +onlyGivenNames x1
       suffices hx : Chg [.time, .carousel, .wall, .startup, .array, .legs, .laws, .juggler, .thermal, .barker, .scribe, .update, .ptp, .pair, .port, .tokens, .tamper, .safety, .drives, .supply, .buses] s x1
       on_goal 1 => clear_value x1
       on_goal 2 => unfold x1)
    | split)

theorem execPortReset_chg (t : ℕ) (c : ConnNo) (s : State) : ∃ u, execPortReset t c s = .next u ∧ Chg [.port] (s.advance t) u := by
  refine ⟨_, rfl, ?_⟩
  generalize s.advance t = s
  repeat' (first
    | with_reducible exact Chg.refl _ _
    | with_reducible assumption
    | (apply Chg.step; rotate_left
       with_reducible exact State.modConn_chg ..
       decide)
    | refine Chg.step (M := [.port]) ?_ (State.op_chg (fun k s => ?_) (by decide)) (by decide))

theorem execPowerUp_chg (t : ℕ) (volts10 : ℕ) (s : State) : ∃ u, execPowerUp t volts10 s = .next u ∧ Chg [.startup, .legs, .laws, .pair, .port, .safety, .supply] (s.advance t) u := by
  refine ⟨_, rfl, ?_⟩
  generalize s.advance t = s
  repeat' (first
    | with_reducible exact Chg.refl _ _
    | with_reducible assumption
    | (apply Chg.step; rotate_left
       (first
         | with_reducible exact State.modSafety_chg ..
         | with_reducible exact State.modSupply_chg ..
         | with_reducible exact State.react_chg ..
         | with_reducible exact State.startPower_chg ..)
       decide)
    | (extract_lets +onlyGivenNames x1
       suffices hx : Chg [.startup, .legs, .laws, .pair, .port, .safety, .supply] s x1
       on_goal 1 => clear_value x1
       on_goal 2 => unfold x1)
    | split)

theorem execPtpAnnounce_chg (t : ℕ) (port : EthNo) (m : PtpMaster) (s : State) : ∃ u, execPtpAnnounce t port m s = .next u ∧ Chg [.ptp, .port] (s.advance t) u := by
  refine ⟨_, rfl, ?_⟩
  generalize s.advance t = s
  repeat' (first
    | with_reducible exact Chg.refl _ _
    | with_reducible assumption
    | (apply Chg.step; rotate_left
       (first
         | with_reducible exact State.modPtp_chg ..
         | with_reducible exact State.selectMaster_chg ..)
       decide)
    | (extract_lets +onlyGivenNames x1
       suffices hx : Chg [.ptp, .port] s x1
       on_goal 1 => clear_value x1
       on_goal 2 => unfold x1)
    | (extract_lets +onlyGivenNames x1
       suffices hx : Chg [.ptp, .port] s x1.2
       on_goal 1 => clear_value x1
       on_goal 2 => unfold x1)
    | (extract_lets +onlyGivenNames x1; clear_value x1)
    | split)

theorem execPtpSync_chg (t : ℕ) (port : EthNo) (identity : ℕ) (offsetNs : ℤ) (pathDelayNs : ℕ) (s : State) : ∃ u, execPtpSync t port identity offsetNs pathDelayNs s = .next u ∧ Chg [.wall, .scribe, .ptp, .pair, .port, .tamper] (s.advance t) u := by
  refine ⟨_, rfl, ?_⟩
  generalize s.advance t = s
  repeat' (first
    | with_reducible exact Chg.refl _ _
    | with_reducible assumption
    | (apply Chg.step; rotate_left
       (first
         | with_reducible exact State.modPtp_chg ..
         | with_reducible exact State.ptpSlew_chg ..
         | with_reducible exact State.ptpState_chg ..
         | with_reducible exact State.ptpStep_chg ..
         | with_reducible exact State.wallPtp_chg ..)
       decide)
    | refine Chg.step (M := [.wall, .scribe, .ptp, .pair, .port, .tamper]) ?_ (State.submit_chg (fun s => ?_) (by decide)) (by decide)
    | (extract_lets +onlyGivenNames x1
       suffices hx : Chg [.wall, .scribe, .ptp, .pair, .port, .tamper] s x1
       on_goal 1 => clear_value x1
       on_goal 2 => unfold x1)
    | (extract_lets +onlyGivenNames x1
       suffices hx : Chg [.wall, .scribe, .ptp, .pair, .port, .tamper] s x1.2
       on_goal 1 => clear_value x1
       on_goal 2 => unfold x1)
    | (extract_lets +onlyGivenNames x1; clear_value x1)
    | split)

theorem execPtpTimeout_chg (t : ℕ) (s : State) : ∃ u, execPtpTimeout t s = .next u ∧ Chg [.wall, .scribe, .ptp, .pair, .port, .tamper] (s.advance t) u := by
  refine ⟨_, rfl, ?_⟩
  generalize s.advance t = s
  repeat' (first
    | with_reducible exact Chg.refl _ _
    | with_reducible assumption
    | (apply Chg.step; rotate_left
       (first
         | with_reducible exact State.modPtp_chg ..
         | with_reducible exact State.ptpState_chg ..
         | with_reducible exact State.selectMaster_chg ..
         | with_reducible exact State.wallPtp_chg ..)
       decide)
    | refine Chg.step (M := [.wall, .scribe, .ptp, .pair, .port, .tamper]) ?_ (State.submit_chg (fun s => ?_) (by decide)) (by decide)
    | (extract_lets +onlyGivenNames x1
       suffices hx : Chg [.wall, .scribe, .ptp, .pair, .port, .tamper] s x1
       on_goal 1 => clear_value x1
       on_goal 2 => unfold x1)
    | (extract_lets +onlyGivenNames x1
       suffices hx : Chg [.wall, .scribe, .ptp, .pair, .port, .tamper] s x1.2
       on_goal 1 => clear_value x1
       on_goal 2 => unfold x1)
    | (extract_lets +onlyGivenNames x1; clear_value x1)
    | split)

theorem execPulseFault_chg (t : ℕ) (i : SiNo) (obs : PulseObs) (s : State) : ∃ u, execPulseFault t i obs s = .next u ∧ Chg [.legs, .laws, .juggler, .barker, .scribe, .keys, .update, .pair, .port, .tokens, .safety] (s.advance t) u := by
  refine ⟨_, rfl, ?_⟩
  generalize s.advance t = s
  repeat' (first
    | with_reducible exact Chg.refl _ _
    | with_reducible assumption
    | (apply Chg.step; rotate_left
       (first
         | with_reducible exact State.faultChannel_chg ..
         | with_reducible exact State.pauseScan_chg ..)
       decide)
    | split)

theorem execPumpClear_chg (t : ℕ) (c : ConnNo) (p : PumpNo) (s : State) : ∃ u, execPumpClear t c p s = .next u ∧ Chg [.pair, .port, .drives] (s.advance t) u := by
  refine ⟨_, rfl, ?_⟩
  generalize s.advance t = s
  repeat' (first
    | with_reducible exact Chg.refl _ _
    | with_reducible assumption
    | (apply Chg.step; rotate_left
       with_reducible exact State.opPumpClear_chg ..
       decide)
    | refine Chg.step (M := [.pair, .port, .drives]) ?_ (State.change_chg (fun c s => ?_) (by decide) (by decide)) (by decide))

theorem execPumpDiag_chg (t : ℕ) (p : PumpNo) (obs : DiagObs) (s : State) : ∃ u, execPumpDiag t p obs s = .next u ∧ Chg [.port, .drives] (s.advance t) u := by
  refine ⟨_, rfl, ?_⟩
  generalize s.advance t = s
  repeat' (first
    | with_reducible exact Chg.refl _ _
    | with_reducible assumption
    | (apply Chg.step; rotate_left
       (first
         | with_reducible exact State.modPump_chg ..
         | with_reducible exact State.raise_chg ..)
       decide)
    | (extract_lets +onlyGivenNames x1
       suffices hx : Chg [.port, .drives] s x1
       on_goal 1 => clear_value x1
       on_goal 2 => unfold x1)
    | split)

theorem execPumpDiagRepeat_chg (t : ℕ) (p : PumpNo) (s : State) : ∃ u, execPumpDiagRepeat t p s = .next u ∧ Chg [.drives] (s.advance t) u := by
  refine ⟨_, rfl, ?_⟩
  generalize s.advance t = s
  repeat' (first
    | with_reducible exact Chg.refl _ _
    | with_reducible assumption
    | (apply Chg.step; rotate_left
       with_reducible exact State.modPump_chg ..
       decide)
    | split)

theorem execPumpRetry_chg (t : ℕ) (p : PumpNo) (s : State) : ∃ u, execPumpRetry t p s = .next u ∧ Chg [.port, .drives] (s.advance t) u := by
  refine ⟨_, rfl, ?_⟩
  generalize s.advance t = s
  repeat' (first
    | with_reducible exact Chg.refl _ _
    | with_reducible assumption
    | (apply Chg.step; rotate_left
       (first
         | with_reducible exact State.modPump_chg ..
         | with_reducible exact State.raise_chg ..)
       decide)
    | split)

theorem execPumpRetryReset_chg (t : ℕ) (p : PumpNo) (s : State) : ∃ u, execPumpRetryReset t p s = .next u ∧ Chg [.drives] (s.advance t) u := by
  refine ⟨_, rfl, ?_⟩
  generalize s.advance t = s
  repeat' (first
    | with_reducible exact Chg.refl _ _
    | with_reducible assumption
    | (apply Chg.step; rotate_left
       with_reducible exact State.modPump_chg ..
       decide)
    | split)

theorem execPumpShort_chg (t : ℕ) (p : PumpNo) (obs : List SenseObs) (s : State) : ∃ u, execPumpShort t p obs s = .next u ∧ Chg [.port, .drives] (s.advance t) u := by
  refine ⟨_, rfl, ?_⟩
  generalize s.advance t = s
  repeat' (first
    | with_reducible exact Chg.refl _ _
    | with_reducible assumption
    | (apply Chg.step; rotate_left
       (first
         | with_reducible exact State.faultPump_chg ..
         | with_reducible exact State.pumpEvent_chg ..
         | with_reducible exact State.shortForBst_chg ..)
       decide)
    | split)

theorem execRailFault_chg (t : ℕ) (rail : Fin 4) (mV : ℕ) (us : ℕ) (hiccup : Bool) (s : State) : ∃ u, execRailFault t rail mV us hiccup s = .next u ∧ Chg [.time, .carousel, .wall, .startup, .array, .legs, .laws, .juggler, .thermal, .barker, .scribe, .update, .ptp, .pair, .port, .tokens, .tamper, .safety, .drives, .supply, .buses] (s.advance t) u := by
  refine ⟨_, rfl, ?_⟩
  generalize s.advance t = s
  repeat' (first
    | with_reducible exact Chg.refl _ _
    | with_reducible assumption
    | (apply Chg.step; rotate_left
       (first
         | with_reducible exact State.enterOrphan_chg ..
         | with_reducible exact State.modSafety_chg ..
         | with_reducible exact State.modSupply_chg ..
         | with_reducible exact State.raise_chg ..)
       decide)
    | (extract_lets +onlyGivenNames x1
       suffices hx : Chg [.time, .carousel, .wall, .startup, .array, .legs, .laws, .juggler, .thermal, .barker, .scribe, .update, .ptp, .pair, .port, .tokens, .tamper, .safety, .drives, .supply, .buses] s x1
       on_goal 1 => clear_value x1
       on_goal 2 => unfold x1)
    | (extract_lets +onlyGivenNames x1
       suffices hx : Chg [.time, .carousel, .wall, .startup, .array, .legs, .laws, .juggler, .thermal, .barker, .scribe, .update, .ptp, .pair, .port, .tokens, .tamper, .safety, .drives, .supply, .buses] s x1.2
       on_goal 1 => clear_value x1
       on_goal 2 => unfold x1)
    | (extract_lets +onlyGivenNames x1; clear_value x1)
    | split)

theorem execRailRestart_chg (t : ℕ) (s : State) : ∃ u, execRailRestart t s = .next u ∧ Chg [.startup, .safety, .supply] (s.advance t) u := by
  refine ⟨_, rfl, ?_⟩
  generalize s.advance t = s
  repeat' (first
    | with_reducible exact Chg.refl _ _
    | with_reducible assumption
    | (apply Chg.step; rotate_left
       with_reducible exact State.startPower_chg ..
       decide)
    | split)

theorem execReadbackFault_chg (t : ℕ) (leg : LegNo) (s : State) : ∃ u, execReadbackFault t leg s = .next u ∧ Chg [.legs, .laws, .pair, .port] (s.advance t) u := by
  refine ⟨_, rfl, ?_⟩
  generalize s.advance t = s
  repeat' (first
    | with_reducible exact Chg.refl _ _
    | with_reducible assumption
    | (apply Chg.step; rotate_left
       with_reducible exact State.findFault_chg ..
       decide)
    | split)

theorem execReceiptSelect_chg (t : ℕ) (c : ConnNo) (no : ℕ) (s : State) : ∃ u, execReceiptSelect t c no s = .next u ∧ Chg [.port] (s.advance t) u := by
  refine ⟨_, rfl, ?_⟩
  generalize s.advance t = s
  repeat' (first
    | with_reducible exact Chg.refl _ _
    | with_reducible assumption
    | (apply Chg.step; rotate_left
       with_reducible exact State.selectReceipt_chg ..
       decide))

theorem execRecommission_chg (t : ℕ) (c : ConnNo) (p : PartnerInfo) (s : State) : ∃ u, execRecommission t c p s = .next u ∧ Chg [.scribe, .ident, .pair, .port] (s.advance t) u := by
  refine ⟨_, rfl, ?_⟩
  generalize s.advance t = s
  repeat' (first
    | with_reducible exact Chg.refl _ _
    | with_reducible assumption
    | (apply Chg.step; rotate_left
       with_reducible exact State.opRecommission_chg ..
       decide)
    | refine Chg.step (M := [.scribe, .ident, .pair, .port]) ?_ (State.change_chg (fun c s => ?_) (by decide) (by decide)) (by decide))

theorem execRefFail_chg (t : ℕ) (i : SetId) (obs : RefObs) (s : State) : ∃ u, execRefFail t i obs s = .next u ∧ Chg [.carousel, .pair, .port] (s.advance t) u := by
  refine ⟨_, rfl, ?_⟩
  generalize s.advance t = s
  repeat' (first
    | with_reducible exact Chg.refl _ _
    | with_reducible assumption
    | (apply Chg.step; rotate_left
       with_reducible exact State.failSet_chg ..
       decide)
    | split)

theorem execRefValid_chg (t : ℕ) (i : SetId) (m : LineMeas) (arcs : ℕ) (s : State) : ∃ u, execRefValid t i m arcs s = .next u ∧ Chg [.carousel, .pair, .port] (s.advance t) u := by
  refine ⟨_, rfl, ?_⟩
  generalize s.advance t = s
  repeat' (first
    | with_reducible exact Chg.refl _ _
    | with_reducible assumption
    | (apply Chg.step; rotate_left
       (first
         | with_reducible exact State.afterValid_chg ..
         | with_reducible exact State.modCar_chg ..
         | with_reducible exact State.raise_chg ..)
       decide)
    | (extract_lets +onlyGivenNames x1
       suffices hx : Chg [.carousel, .pair, .port] s x1
       on_goal 1 => clear_value x1
       on_goal 2 => unfold x1)
    | split)

theorem execRegFault_chg (t : ℕ) (b : BuckNo) (fbPct : ℕ) (us : ℕ) (s : State) : ∃ u, execRegFault t b fbPct us s = .next u ∧ Chg [.port, .supply] (s.advance t) u := by
  refine ⟨_, rfl, ?_⟩
  generalize s.advance t = s
  repeat' (first
    | with_reducible exact Chg.refl _ _
    | with_reducible assumption
    | (apply Chg.step; rotate_left
       (first
         | with_reducible exact State.faultReg_chg ..
         | with_reducible exact State.modReg_chg ..
         | with_reducible exact State.raise_chg ..)
       decide)
    | (extract_lets +onlyGivenNames x1
       suffices hx : Chg [.port, .supply] s x1
       on_goal 1 => clear_value x1
       on_goal 2 => unfold x1)
    | split)

theorem execRegHiccup_chg (t : ℕ) (b : BuckNo) (o : RegSense) (periods : ℕ) (s : State) : ∃ u, execRegHiccup t b o periods s = .next u ∧ Chg [.port, .supply] (s.advance t) u := by
  refine ⟨_, rfl, ?_⟩
  generalize s.advance t = s
  repeat' (first
    | with_reducible exact Chg.refl _ _
    | with_reducible assumption
    | (apply Chg.step; rotate_left
       (first
         | with_reducible exact State.faultReg_chg ..
         | with_reducible exact State.raise_chg ..)
       decide)
    | (extract_lets +onlyGivenNames x1
       suffices hx : Chg [.port, .supply] s x1
       on_goal 1 => clear_value x1
       on_goal 2 => unfold x1)
    | split)

theorem execRegHiccupEnd_chg (t : ℕ) (b : BuckNo) (s : State) : ∃ u, execRegHiccupEnd t b s = .next u ∧ Chg [.supply] (s.advance t) u := by
  refine ⟨_, rfl, ?_⟩
  generalize s.advance t = s
  repeat' (first
    | with_reducible exact Chg.refl _ _
    | with_reducible assumption
    | (apply Chg.step; rotate_left
       with_reducible exact State.modReg_chg ..
       decide)
    | split)

theorem execRegPg_chg (t : ℕ) (b : BuckNo) (fbPermille : ℕ) (ms : ℕ) (s : State) : ∃ u, execRegPg t b fbPermille ms s = .next u ∧ Chg [.port, .supply] (s.advance t) u := by
  refine ⟨_, rfl, ?_⟩
  generalize s.advance t = s
  repeat' (first
    | with_reducible exact Chg.refl _ _
    | with_reducible assumption
    | (apply Chg.step; rotate_left
       (first
         | with_reducible exact State.modReg_chg ..
         | with_reducible exact State.raise_chg ..)
       decide)
    | split)

theorem execRegRampDone_chg (t : ℕ) (b : BuckNo) (s : State) : ∃ u, execRegRampDone t b s = .next u ∧ Chg [.supply] (s.advance t) u := by
  refine ⟨_, rfl, ?_⟩
  generalize s.advance t = s
  repeat' (first
    | with_reducible exact Chg.refl _ _
    | with_reducible assumption
    | (apply Chg.step; rotate_left
       with_reducible exact State.modReg_chg ..
       decide)
    | split)

theorem execRegRetryReset_chg (t : ℕ) (b : BuckNo) (s : State) : ∃ u, execRegRetryReset t b s = .next u ∧ Chg [.supply] (s.advance t) u := by
  refine ⟨_, rfl, ?_⟩
  generalize s.advance t = s
  repeat' (first
    | with_reducible exact Chg.refl _ _
    | with_reducible assumption
    | (apply Chg.step; rotate_left
       with_reducible exact State.modReg_chg ..
       decide)
    | split)

theorem execRegRetryWaitEnd_chg (t : ℕ) (b : BuckNo) (s : State) : ∃ u, execRegRetryWaitEnd t b s = .next u ∧ Chg [.supply] (s.advance t) u := by
  refine ⟨_, rfl, ?_⟩
  generalize s.advance t = s
  repeat' (first
    | with_reducible exact Chg.refl _ _
    | with_reducible assumption
    | (apply Chg.step; rotate_left
       with_reducible exact State.modReg_chg ..
       decide)
    | split)

theorem execRegSyncLock_chg (t : ℕ) (b : BuckNo) (khz : ℕ) (s : State) : ∃ u, execRegSyncLock t b khz s = .next u ∧ Chg [.supply] (s.advance t) u := by
  refine ⟨_, rfl, ?_⟩
  generalize s.advance t = s
  repeat' (first
    | with_reducible exact Chg.refl _ _
    | with_reducible assumption
    | (apply Chg.step; rotate_left
       with_reducible exact State.modReg_chg ..
       decide)
    | split)

theorem execRegThermal_chg (t : ℕ) (b : BuckNo) (degC : ℤ) (s : State) : ∃ u, execRegThermal t b degC s = .next u ∧ Chg [.port, .supply] (s.advance t) u := by
  refine ⟨_, rfl, ?_⟩
  generalize s.advance t = s
  repeat' (first
    | with_reducible exact Chg.refl _ _
    | with_reducible assumption
    | (apply Chg.step; rotate_left
       with_reducible exact State.regTemp_chg ..
       decide))

theorem execRegTurnOff_chg (t : ℕ) (b : BuckNo) (s : State) : ∃ u, execRegTurnOff t b s = .next u ∧ Chg [.supply] (s.advance t) u := by
  refine ⟨_, rfl, ?_⟩
  generalize s.advance t = s
  repeat' (first
    | with_reducible exact Chg.refl _ _
    | with_reducible assumption
    | (apply Chg.step; rotate_left
       with_reducible exact State.modReg_chg ..
       decide)
    | split)

theorem execRegTurnOn_chg (t : ℕ) (b : BuckNo) (s : State) : ∃ u, execRegTurnOn t b s = .next u ∧ Chg [.supply] (s.advance t) u := by
  refine ⟨_, rfl, ?_⟩
  generalize s.advance t = s
  repeat' (first
    | with_reducible exact Chg.refl _ _
    | with_reducible assumption
    | (apply Chg.step; rotate_left
       (first
         | with_reducible exact State.modReg_chg ..
         | with_reducible exact State.retargetReg_chg ..)
       decide)
    | (extract_lets +onlyGivenNames x1
       suffices hx : Chg [.supply] s x1
       on_goal 1 => clear_value x1
       on_goal 2 => unfold x1)
    | (extract_lets +onlyGivenNames x1
       suffices hx : Chg [.supply] s x1.2
       on_goal 1 => clear_value x1
       on_goal 2 => unfold x1)
    | (extract_lets +onlyGivenNames x1; clear_value x1)
    | split)

theorem execRegulatorClear_chg (t : ℕ) (c : ConnNo) (b : BuckNo) (s : State) : ∃ u, execRegulatorClear t c b s = .next u ∧ Chg [.pair, .port, .supply] (s.advance t) u := by
  refine ⟨_, rfl, ?_⟩
  generalize s.advance t = s
  repeat' (first
    | with_reducible exact Chg.refl _ _
    | with_reducible assumption
    | (apply Chg.step; rotate_left
       with_reducible exact State.opRegClear_chg ..
       decide)
    | refine Chg.step (M := [.pair, .port, .supply]) ?_ (State.change_chg (fun c s => ?_) (by decide) (by decide)) (by decide))

theorem execRelock_chg (t : ℕ) (obs : LockObs) (s : State) : ∃ u, execRelock t obs s = .next u ∧ Chg [.carousel, .pair, .port] (s.advance t) u := by
  refine ⟨_, rfl, ?_⟩
  generalize s.advance t = s
  repeat' (first
    | with_reducible exact Chg.refl _ _
    | with_reducible assumption
    | (apply Chg.step; rotate_left
       with_reducible exact State.enterRelock_chg ..
       decide)
    | split)

theorem execResetPress_chg (t : ℕ) (i : SiNo) (began : ℕ) (s : State) : ∃ u, execResetPress t i began s = .next u ∧ Chg [.legs, .laws, .juggler, .barker, .scribe, .keys, .update, .pair, .port, .tokens, .safety] (s.advance t) u := by
  refine ⟨_, rfl, ?_⟩
  generalize s.advance t = s
  repeat' (first
    | with_reducible exact Chg.refl _ _
    | with_reducible assumption
    | (apply Chg.step; rotate_left
       (first
         | with_reducible exact State.acknowledge_chg ..
         | with_reducible exact State.evalFns_chg ..
         | with_reducible exact State.modIn_chg ..
         | with_reducible exact State.pauseScan_chg ..
         | with_reducible exact State.pressFn_chg ..)
       decide)
    | (extract_lets +onlyGivenNames x1
       suffices hx : Chg [.legs, .laws, .juggler, .barker, .scribe, .keys, .update, .pair, .port, .tokens, .safety] s x1
       on_goal 1 => clear_value x1
       on_goal 2 => unfold x1)
    | split
    | (with_reducible apply Chg.foldl; rotate_left; intro s _))

theorem execResyncDone_chg (t : ℕ) (outstanding : ℕ) (mib : ℕ) (x : Transfer) (s : State) : ∃ u, execResyncDone t outstanding mib x s = .next u ∧ Chg [.array, .legs, .laws, .juggler, .thermal, .barker, .scribe, .pair, .port, .tokens, .tamper] (s.advance t) u := by
  refine ⟨_, rfl, ?_⟩
  generalize s.advance t = s
  repeat' (first
    | with_reducible exact Chg.refl _ _
    | with_reducible assumption
    | (apply Chg.step; rotate_left
       (first
         | with_reducible exact State.adoptDomains_chg ..
         | with_reducible exact State.modPair_chg ..
         | with_reducible exact State.raise_chg ..)
       decide)
    | split)

theorem execRetire_chg (t : ℕ) (c : ConnNo) (serial : ℕ) (s : State) : ∃ u, execRetire t c serial s = .next u ∧ Chg [.time, .carousel, .wall, .startup, .array, .legs, .laws, .juggler, .thermal, .barker, .scribe, .ident, .keys, .update, .ptp, .pair, .port, .tokens, .tamper, .safety, .drives, .supply, .buses] (s.advance t) u := by
  refine ⟨_, rfl, ?_⟩
  generalize s.advance t = s
  repeat' (first
    | with_reducible exact Chg.refl _ _
    | with_reducible assumption
    | (apply Chg.step; rotate_left
       (first
         | with_reducible exact State.answer_chg ..
         | with_reducible exact State.restart_chg ..
         | with_reducible exact State.setLife_chg ..)
       decide)
    | refine Chg.step (M := [.time, .carousel, .wall, .startup, .array, .legs, .laws, .juggler, .thermal, .barker, .scribe, .ident, .keys, .update, .ptp, .pair, .port, .tokens, .tamper, .safety, .drives, .supply, .buses]) ?_ (State.guarded_chg (fun k s => ?_) (by decide)) (by decide)
    | (extract_lets +onlyGivenNames x1
       suffices hx : Chg [.time, .carousel, .wall, .startup, .array, .legs, .laws, .juggler, .thermal, .barker, .scribe, .ident, .keys, .update, .ptp, .pair, .port, .tokens, .tamper, .safety, .drives, .supply, .buses] s x1
       on_goal 1 => clear_value x1
       on_goal 2 => unfold x1)
    | (extract_lets +onlyGivenNames x1
       suffices hx : Chg [.time, .carousel, .wall, .startup, .array, .legs, .laws, .juggler, .thermal, .barker, .scribe, .ident, .keys, .update, .ptp, .pair, .port, .tokens, .tamper, .safety, .drives, .supply, .buses] s x1.2
       on_goal 1 => clear_value x1
       on_goal 2 => unfold x1)
    | (extract_lets +onlyGivenNames x1; clear_value x1)
    | split
    | fail_if_no_progress (with_reducible refine Chg.step ?_ (Chg.setKeys _ _) (by decide)))

theorem execRevert_chg (t : ℕ) (s : State) : ∃ u, execRevert t s = .next u ∧ Chg [.carousel] (s.advance t) u := by
  refine ⟨_, rfl, ?_⟩
  generalize s.advance t = s
  repeat' (first
    | with_reducible exact Chg.refl _ _
    | with_reducible assumption
    | (apply Chg.step; rotate_left
       with_reducible exact State.modCar_chg ..
       decide)
    | split)

theorem execRevisionAck_chg (t : ℕ) (hash : ℕ) (s : State) : ∃ u, execRevisionAck t hash s = .next u ∧ Chg [.startup] (s.advance t) u := by
  refine ⟨_, rfl, ?_⟩
  generalize s.advance t = s
  repeat' (first
    | with_reducible exact Chg.refl _ _
    | with_reducible assumption
    | (extract_lets +onlyGivenNames x1
       suffices hx : Chg [.startup] s x1
       on_goal 1 => clear_value x1
       on_goal 2 => unfold x1)
    | (extract_lets +onlyGivenNames x1
       suffices hx : Chg [.startup] s x1.2
       on_goal 1 => clear_value x1
       on_goal 2 => unfold x1)
    | (extract_lets +onlyGivenNames x1; clear_value x1)
    | split
    | fail_if_no_progress (with_reducible refine Chg.step ?_ (Chg.setStartup _ _) (by decide)))

theorem execRevisionCancelled_chg (t : ℕ) (s : State) : ∃ u, execRevisionCancelled t s = .next u ∧ Chg [.startup, .pair, .port] (s.advance t) u := by
  refine ⟨_, rfl, ?_⟩
  generalize s.advance t = s
  repeat' (first
    | with_reducible exact Chg.refl _ _
    | with_reducible assumption
    | (apply Chg.step; rotate_left
       with_reducible exact State.revisionCancel_chg ..
       decide)
    | refine Chg.step (M := [.startup, .pair, .port]) ?_ (State.submit_chg (fun s => ?_) (by decide)) (by decide)
    | split)

theorem execRingBurst_chg (t : ℕ) (transitions : ℕ) (s : State) : ∃ u, execRingBurst t transitions s = .next u ∧ Chg [.pair, .port] (s.advance t) u := by
  refine ⟨_, rfl, ?_⟩
  generalize s.advance t = s
  repeat' (first
    | with_reducible exact Chg.refl _ _
    | with_reducible assumption
    | (apply Chg.step; rotate_left
       (first
         | with_reducible exact State.degrade_chg ..
         | with_reducible exact State.selfTest_chg ..)
       decide)
    | (extract_lets +onlyGivenNames x1
       suffices hx : Chg [.pair, .port] s x1
       on_goal 1 => clear_value x1
       on_goal 2 => unfold x1)
    | split)

theorem execRingLost_chg (t : ℕ) (ticks : ℕ) (s : State) : ∃ u, execRingLost t ticks s = .next u ∧ Chg [.legs, .laws, .juggler, .barker, .scribe, .keys, .update, .pair, .port, .tokens, .drives] (s.advance t) u := by
  refine ⟨_, rfl, ?_⟩
  generalize s.advance t = s
  repeat' (first
    | with_reducible exact Chg.refl _ _
    | with_reducible assumption
    | (apply Chg.step; rotate_left
       (first
         | with_reducible exact State.judgeRing_chg ..
         | with_reducible exact State.modPair_chg ..
         | with_reducible exact State.raise_chg ..)
       decide)
    | (extract_lets +onlyGivenNames x1
       suffices hx : Chg [.legs, .laws, .juggler, .barker, .scribe, .keys, .update, .pair, .port, .tokens, .drives] s x1
       on_goal 1 => clear_value x1
       on_goal 2 => unfold x1)
    | split)

theorem execRingWatchdogLapse_chg (t : ℕ) (ticks : ℕ) (s : State) : ∃ u, execRingWatchdogLapse t ticks s = .next u ∧ Chg [.pair, .drives] (s.advance t) u := by
  refine ⟨_, rfl, ?_⟩
  generalize s.advance t = s
  repeat' (first
    | with_reducible exact Chg.refl _ _
    | with_reducible assumption
    | (apply Chg.step; rotate_left
       with_reducible exact State.quiet_chg ..
       decide)
    | split)

theorem execRollbackAdvanced_chg (t : ℕ) (s : State) : ∃ u, execRollbackAdvanced t s = .next u ∧ Chg [.update, .port] (s.advance t) u := by
  refine ⟨_, rfl, ?_⟩
  generalize s.advance t = s
  repeat' (first
    | with_reducible exact Chg.refl _ _
    | with_reducible assumption
    | (apply Chg.step; rotate_left
       with_reducible exact State.blowFuse_chg ..
       decide)
    | split)

theorem execRollbackCommit_chg (t : ℕ) (c : ConnNo) (s : State) : ∃ u, execRollbackCommit t c s = .next u ∧ Chg [.update, .pair, .port] (s.advance t) u := by
  refine ⟨_, rfl, ?_⟩
  generalize s.advance t = s
  repeat' (first
    | with_reducible exact Chg.refl _ _
    | with_reducible assumption
    | (apply Chg.step; rotate_left
       with_reducible exact State.opRollback_chg ..
       decide)
    | refine Chg.step (M := [.update, .pair, .port]) ?_ (State.change_chg (fun c s => ?_) (by decide) (by decide)) (by decide))

theorem execSafetyAcknowledge_chg (t : ℕ) (c : ConnNo) (fn : FuncNo) (s : State) : ∃ u, execSafetyAcknowledge t c fn s = .next u ∧ Chg [.legs, .laws, .juggler, .barker, .scribe, .keys, .update, .pair, .port, .tokens, .safety] (s.advance t) u := by
  refine ⟨_, rfl, ?_⟩
  generalize s.advance t = s
  repeat' (first
    | with_reducible exact Chg.refl _ _
    | with_reducible assumption
    | (apply Chg.step; rotate_left
       with_reducible exact State.opAcknowledge_chg ..
       decide)
    | refine Chg.step (M := [.legs, .laws, .juggler, .barker, .scribe, .keys, .update, .pair, .port, .tokens, .safety]) ?_ (State.change_chg (fun c s => ?_) (by decide) (by decide)) (by decide))

theorem execSafetyChange_chg (t : ℕ) (c : ConnNo) (pw : List Byte) (ch : SafetyChange) (s : State) : ∃ u, execSafetyChange t c pw ch s = .next u ∧ Chg [.pair, .port, .tamper, .safety] (s.advance t) u := by
  refine ⟨_, rfl, ?_⟩
  generalize s.advance t = s
  repeat' (first
    | with_reducible exact Chg.refl _ _
    | with_reducible assumption
    | (apply Chg.step; rotate_left
       with_reducible exact State.opSafetyChange_chg ..
       decide)
    | refine Chg.step (M := [.pair, .port, .tamper, .safety]) ?_ (State.change_chg (fun c s => ?_) (by decide) (by decide)) (by decide))

theorem execSafetyChangeUnlock_chg (t : ℕ) (s : State) : ∃ u, execSafetyChangeUnlock t s = .next u ∧ Chg [.safety] (s.advance t) u := by
  refine ⟨_, rfl, ?_⟩
  generalize s.advance t = s
  repeat' (first
    | with_reducible exact Chg.refl _ _
    | with_reducible assumption
    | (apply Chg.step; rotate_left
       with_reducible exact State.modSafety_chg ..
       decide)
    | split)

theorem execSafetyClear_chg (t : ℕ) (i : SiNo) (s : State) : ∃ u, execSafetyClear t i s = .next u ∧ Chg [.legs, .laws, .juggler, .barker, .scribe, .keys, .update, .pair, .port, .tokens, .safety] (s.advance t) u := by
  refine ⟨_, rfl, ?_⟩
  generalize s.advance t = s
  repeat' (first
    | with_reducible exact Chg.refl _ _
    | with_reducible assumption
    | (apply Chg.step; rotate_left
       (first
         | with_reducible exact State.evalFns_chg ..
         | with_reducible exact State.modIn_chg ..
         | with_reducible exact State.pauseScan_chg ..)
       decide)
    | split)

theorem execSafetyCrossCheck_chg (t : ℕ) (divergent : List FuncNo) (s : State) : ∃ u, execSafetyCrossCheck t divergent s = .next u ∧ Chg [.legs, .laws, .juggler, .barker, .scribe, .keys, .update, .pair, .port, .tokens, .safety] (s.advance t) u := by
  refine ⟨_, rfl, ?_⟩
  generalize s.advance t = s
  repeat' (first
    | with_reducible exact Chg.refl _ _
    | with_reducible assumption
    | (apply Chg.step; rotate_left
       (first
         | with_reducible exact State.degrade_chg ..
         | with_reducible exact State.evalFns_chg ..
         | with_reducible exact State.modFn_chg ..
         | with_reducible exact State.modSafety_chg ..
         | with_reducible exact State.pauseScan_chg ..
         | with_reducible exact State.raise_chg ..
         | with_reducible exact State.selfTest_chg ..)
       decide)
    | (extract_lets +onlyGivenNames x1
       suffices hx : Chg [.legs, .laws, .juggler, .barker, .scribe, .keys, .update, .pair, .port, .tokens, .safety] s x1
       on_goal 1 => clear_value x1
       on_goal 2 => unfold x1)
    | (extract_lets +onlyGivenNames x1
       suffices hx : Chg [.legs, .laws, .juggler, .barker, .scribe, .keys, .update, .pair, .port, .tokens, .safety] s x1.2
       on_goal 1 => clear_value x1
       on_goal 2 => unfold x1)
    | (extract_lets +onlyGivenNames x1; clear_value x1)
    | split
    | (with_reducible apply Chg.foldl; rotate_left; intro s _))

theorem execSafetyCycle_chg (t : ℕ) (levels : BitVec 32) (disagree : Bool) (soHigh : BitVec 8) (s : State) : ∃ u, execSafetyCycle t levels disagree soHigh s = .next u ∧ Chg [.legs, .laws, .juggler, .barker, .scribe, .keys, .update, .pair, .port, .tokens, .safety] (s.advance t) u := by
  refine ⟨_, rfl, ?_⟩
  generalize s.advance t = s
  repeat' (first
    | with_reducible exact Chg.refl _ _
    | with_reducible assumption
    | (apply Chg.step; rotate_left
       (first
         | with_reducible exact State.faultOut_chg ..
         | with_reducible exact State.modSafety_chg ..
         | with_reducible exact State.pauseScan_chg ..
         | with_reducible exact State.raise_chg ..
         | with_reducible exact State.react_chg ..
         | with_reducible exact State.sampleInputs_chg ..)
       decide)
    | (extract_lets +onlyGivenNames x1
       suffices hx : Chg [.legs, .laws, .juggler, .barker, .scribe, .keys, .update, .pair, .port, .tokens, .safety] s x1
       on_goal 1 => clear_value x1
       on_goal 2 => unfold x1)
    | (extract_lets +onlyGivenNames x1
       suffices hx : Chg [.legs, .laws, .juggler, .barker, .scribe, .keys, .update, .pair, .port, .tokens, .safety] s x1.2
       on_goal 1 => clear_value x1
       on_goal 2 => unfold x1)
    | (extract_lets +onlyGivenNames x1; clear_value x1)
    | split
    | (with_reducible apply Chg.foldl; rotate_left; intro s _))

theorem execSafetyDemand_chg (t : ℕ) (i : SiNo) (s : State) : ∃ u, execSafetyDemand t i s = .next u ∧ Chg [.legs, .laws, .juggler, .barker, .scribe, .keys, .update, .pair, .port, .tokens, .safety] (s.advance t) u := by
  refine ⟨_, rfl, ?_⟩
  generalize s.advance t = s
  repeat' (first
    | with_reducible exact Chg.refl _ _
    | with_reducible assumption
    | (apply Chg.step; rotate_left
       (first
         | with_reducible exact State.evalFns_chg ..
         | with_reducible exact State.modIn_chg ..
         | with_reducible exact State.pauseScan_chg ..)
       decide)
    | split)

theorem execScribeTimeCount_chg (t : ℕ) (s : State) : ∃ u, execScribeTimeCount t s = .next u ∧ Chg [.scribe] (s.advance t) u := by
  refine ⟨_, rfl, ?_⟩
  generalize s.advance t = s
  repeat' (first
    | with_reducible exact Chg.refl _ _
    | with_reducible assumption
    | (apply Chg.step; rotate_left
       with_reducible exact State.modCore_chg ..
       decide)
    | split)

theorem execSdckLost_chg (t : ℕ) (clk : SdckNo) (obs : ClockObs) (s : State) : ∃ u, execSdckLost t clk obs s = .next u ∧ Chg [.carousel, .legs, .laws, .pair, .port] (s.advance t) u := by
  refine ⟨_, rfl, ?_⟩
  generalize s.advance t = s
  refine Chg.ite ?_ (Chg.refl _ _)
  extract_lets src x1 x2 x3 x4
  have h1 : Chg [.carousel, .legs, .laws, .pair, .port] s x1 := Chg.step (Chg.refl _ _) (Chg.setLaws ..) (by decide)
  have h2 : Chg [.carousel, .legs, .laws, .pair, .port] s x2 := Chg.step h1 (State.raise_chg ..) (by decide)
  have h3 : Chg [.carousel, .legs, .laws, .pair, .port] s x3 := Chg.foldl _ _ h2 fun s x => Chg.step (Chg.refl _ _) (State.markLost_chg ..) (by decide)
  have h4 : Chg [.carousel, .legs, .laws, .pair, .port] s x4 := Chg.step h3
    (State.submit_chg (fun s => Chg.step (Chg.refl [.carousel, .legs, .laws, .pair, .port] s) (State.loseClock_chg ..) (by decide)) (by decide)) (by decide)
  clear_value x4
  exact Chg.ite (Chg.step h4 (State.failSet_chg ..) (by decide)) (Chg.ite (Chg.step h4 (State.failSet_chg ..) (by decide)) h4)

theorem execSdckValid_chg (t : ℕ) (clk : SdckNo) (turns : ℕ) (s : State) : ∃ u, execSdckValid t clk turns s = .next u ∧ Chg [.laws, .port] (s.advance t) u := by
  refine ⟨_, rfl, ?_⟩
  generalize s.advance t = s
  repeat' (first
    | with_reducible exact Chg.refl _ _
    | with_reducible assumption
    | (apply Chg.step; rotate_left
       with_reducible exact State.raise_chg ..
       decide)
    | (extract_lets +onlyGivenNames x1
       suffices hx : Chg [.laws, .port] s x1
       on_goal 1 => clear_value x1
       on_goal 2 => unfold x1)
    | (extract_lets +onlyGivenNames x1
       suffices hx : Chg [.laws, .port] s x1.2
       on_goal 1 => clear_value x1
       on_goal 2 => unfold x1)
    | (extract_lets +onlyGivenNames x1; clear_value x1)
    | split
    | fail_if_no_progress (with_reducible refine Chg.step ?_ (Chg.setLaws _ _) (by decide)))

theorem execSdpRequest_chg (t : ℕ) (outlet : OutletNo) (tls : Bool) (s : State) : ∃ u, execSdpRequest t outlet tls s = .next u ∧ Chg [.free, .barker, .pair] (s.advance t) u := by
  refine ⟨_, rfl, ?_⟩
  generalize s.advance t = s
  repeat' (first
    | with_reducible exact Chg.refl _ _
    | with_reducible assumption
    | (apply Chg.step; rotate_left
       (first
         | with_reducible exact State.drawRandom_chg ..
         | with_reducible exact State.modDisp_chg ..)
       decide)
    | (extract_lets +onlyGivenNames x1
       suffices hx : Chg [.free, .barker, .pair] s x1
       on_goal 1 => clear_value x1
       on_goal 2 => unfold x1)
    | split)

theorem execSeal_chg (t : ℕ) (c : ConnNo) (s : State) : ∃ u, execSeal t c s = .next u ∧ Chg [.scribe, .ident, .pair, .port] (s.advance t) u := by
  refine ⟨_, rfl, ?_⟩
  generalize s.advance t = s
  repeat' (first
    | with_reducible exact Chg.refl _ _
    | with_reducible assumption
    | (apply Chg.step; rotate_left
       with_reducible exact State.opSeal_chg ..
       decide)
    | refine Chg.step (M := [.scribe, .ident, .pair, .port]) ?_ (State.change_chg (fun c s => ?_) (by decide) (by decide)) (by decide))

theorem execSealBreak_chg (t : ℕ) (c : ConnNo) (s : State) : ∃ u, execSealBreak t c s = .next u ∧ Chg [.scribe, .ident, .pair, .port, .tamper] (s.advance t) u := by
  refine ⟨_, rfl, ?_⟩
  generalize s.advance t = s
  repeat' (first
    | with_reducible exact Chg.refl _ _
    | with_reducible assumption
    | (apply Chg.step; rotate_left
       with_reducible exact State.opSealBreak_chg ..
       decide)
    | refine Chg.step (M := [.scribe, .ident, .pair, .port, .tamper]) ?_ (State.change_chg (fun c s => ?_) (by decide) (by decide)) (by decide))

theorem execSeccTimeout_chg (t : ℕ) (ctx : CtxNo) (s : State) : ∃ u, execSeccTimeout t ctx s = .next u ∧ Chg [.juggler, .barker, .scribe, .keys, .update, .pair, .port, .tokens] (s.advance t) u := by
  refine ⟨_, rfl, ?_⟩
  generalize s.advance t = s
  repeat' (first
    | with_reducible exact Chg.refl _ _
    | with_reducible assumption
    | (apply Chg.step; rotate_left
       with_reducible exact State.seccExpired_chg ..
       decide)
    | refine Chg.step (M := [.juggler, .barker, .scribe, .keys, .update, .pair, .port, .tokens]) ?_ (State.submit_chg (fun s => ?_) (by decide)) (by decide)
    | split)

theorem execSensorValid_chg (t : ℕ) (n : Fin 32) (s : State) : ∃ u, execSensorValid t n s = .next u ∧ Chg [.thermal] (s.advance t) u := by
  refine ⟨_, rfl, ?_⟩
  generalize s.advance t = s
  repeat' (first
    | with_reducible exact Chg.refl _ _
    | with_reducible assumption
    | (extract_lets +onlyGivenNames x1
       suffices hx : Chg [.thermal] s x1
       on_goal 1 => clear_value x1
       on_goal 2 => unfold x1)
    | (extract_lets +onlyGivenNames x1
       suffices hx : Chg [.thermal] s x1.2
       on_goal 1 => clear_value x1
       on_goal 2 => unfold x1)
    | (extract_lets +onlyGivenNames x1; clear_value x1)
    | split
    | fail_if_no_progress (with_reducible refine Chg.step ?_ (Chg.setThermal _ _) (by decide)))

theorem execSessionReceipt_chg (t : ℕ) (ctx : CtxNo) (s : State) : ∃ u, execSessionReceipt t ctx s = .next u ∧ Chg [.juggler, .barker, .scribe, .keys, .update, .port, .tokens] (s.advance t) u := by
  refine ⟨_, rfl, ?_⟩
  generalize s.advance t = s
  repeat' (first
    | with_reducible exact Chg.refl _ _
    | with_reducible assumption
    | (apply Chg.step; rotate_left
       (first
         | with_reducible exact State.freeCtx_chg ..
         | with_reducible exact State.signReceipt_chg ..)
       decide)
    | (extract_lets +onlyGivenNames x1
       suffices hx : Chg [.juggler, .barker, .scribe, .keys, .update, .port, .tokens] s x1
       on_goal 1 => clear_value x1
       on_goal 2 => unfold x1)
    | split)

theorem execSet_chg (t : ℕ) (c : ConnNo) (o : Obis) (attr : ℕ) (val : List ℤ) (s : State) : ∃ u, execSet t c o attr val s = .next u ∧ Chg [.wall, .juggler, .scribe, .pair, .port, .tamper] (s.advance t) u := by
  refine ⟨_, rfl, ?_⟩
  generalize s.advance t = s
  repeat' (first
    | with_reducible exact Chg.refl _ _
    | with_reducible assumption
    | (apply Chg.step; rotate_left
       (first
         | with_reducible exact State.answer_chg ..
         | with_reducible exact State.writeObj_chg ..)
       decide)
    | refine Chg.step (M := [.wall, .juggler, .scribe, .pair, .port, .tamper]) ?_ (State.op_chg (fun k s => ?_) (by decide)) (by decide)
    | (extract_lets +onlyGivenNames x1; clear_value x1)
    | split)

theorem execSetStage_chg (t : ℕ) (conn : ConnNo) (base : ℕ) (recs : List Rec) (s : State) : ∃ u, execSetStage t conn base recs s = .next u ∧ Chg [.port] (s.advance t) u := by
  refine ⟨_, rfl, ?_⟩
  generalize s.advance t = s
  repeat' (first
    | with_reducible exact Chg.refl _ _
    | with_reducible assumption
    | (apply Chg.step; rotate_left
       (first
         | with_reducible exact State.answer_chg ..
         | with_reducible exact State.modConn_chg ..)
       decide)
    | refine Chg.step (M := [.port]) ?_ (State.op_chg (fun k s => ?_) (by decide)) (by decide)
    | (extract_lets +onlyGivenNames x1; clear_value x1)
    | split)

theorem execSoOvercurrent_chg (t : ℕ) (so : SoNo) (mA : ℕ) (s : State) : ∃ u, execSoOvercurrent t so mA s = .next u ∧ Chg [.legs, .laws, .pair, .port, .safety] (s.advance t) u := by
  refine ⟨_, rfl, ?_⟩
  generalize s.advance t = s
  repeat' (first
    | with_reducible exact Chg.refl _ _
    | with_reducible assumption
    | (apply Chg.step; rotate_left
       with_reducible exact State.faultOut_chg ..
       decide)
    | split)

theorem execStall_chg (t : ℕ) (p : PumpNo) (s : State) : ∃ u, execStall t p s = .next u ∧ Chg [.port, .drives] (s.advance t) u := by
  refine ⟨_, rfl, ?_⟩
  generalize s.advance t = s
  repeat' (first
    | with_reducible exact Chg.refl _ _
    | with_reducible assumption
    | (apply Chg.step; rotate_left
       (first
         | with_reducible exact State.faultPump_chg ..
         | with_reducible exact State.pumpEvent_chg ..)
       decide)
    | split)

theorem execStartStepComplete_chg (t : ℕ) (step : Step) (obs : ImageObs) (s : State) : ∃ u, execStartStepComplete t step obs s = .next u ∧ Chg [.time, .carousel, .startup, .array, .legs, .laws, .juggler, .thermal, .barker, .scribe, .keys, .update, .pair, .port, .tokens, .tamper, .safety, .drives, .supply, .buses] (s.advance t) u := by
  refine ⟨_, rfl, ?_⟩
  generalize s.advance t = s
  repeat' (first
    | with_reducible exact Chg.refl _ _
    | with_reducible assumption
    | (apply Chg.step; rotate_left
       (first
         | with_reducible exact State.refuseStep_chg ..
         | with_reducible exact State.takeStep_chg ..)
       decide)
    | split)

theorem execStartStepTimeout_chg (t : ℕ) (step : Step) (s : State) : ∃ u, execStartStepTimeout t step s = .next u ∧ Chg [.carousel, .startup, .scribe, .pair, .port] (s.advance t) u := by
  refine ⟨_, rfl, ?_⟩
  generalize s.advance t = s
  repeat' (first
    | with_reducible exact Chg.refl _ _
    | with_reducible assumption
    | (apply Chg.step; rotate_left
       with_reducible exact State.refuseStep_chg ..
       decide)
    | split)

theorem execStartWinExpiry_chg (t : ℕ) (s : State) : ∃ u, execStartWinExpiry t s = .next u ∧ Chg [.carousel, .pair, .port] (s.advance t) u := by
  refine ⟨_, rfl, ?_⟩
  generalize s.advance t = s
  repeat' (first
    | with_reducible exact Chg.refl _ _
    | with_reducible assumption
    | (apply Chg.step; rotate_left
       (first
         | with_reducible exact State.afterValid_chg ..
         | with_reducible exact State.decideCar_chg ..
         | with_reducible exact State.firstLock_chg ..
         | with_reducible exact State.raise_chg ..)
       decide)
    | split)

theorem execStrokeBoundary_chg (t : ℕ) (ma : LineMeas) (mb : LineMeas) (x : StrokeObs) (s : State) : ∃ u, execStrokeBoundary t ma mb x s = .next u ∧ Chg [.carousel, .startup, .array, .legs, .laws, .juggler, .thermal, .scribe, .pair, .port, .tamper] (s.advance t) u := by
  refine ⟨_, rfl, ?_⟩
  generalize s.advance t = s
  repeat' (first
    | with_reducible exact Chg.refl _ _
    | with_reducible assumption
    | (apply Chg.step; rotate_left
       (first
         | with_reducible exact State.compareNets_chg ..
         | with_reducible exact State.lawsStroke_chg ..
         | with_reducible exact State.legsStroke_chg ..
         | with_reducible exact State.modCar_chg ..
         | with_reducible exact State.readbackTest_chg ..
         | with_reducible exact State.revisionLate_chg ..
         | with_reducible exact State.strokeRecord_chg ..
         | with_reducible exact State.thermStroke_chg ..
         | with_reducible exact State.turnEnd_chg ..)
       decide)
    | (extract_lets +onlyGivenNames x1
       suffices hx : Chg [.carousel, .startup, .array, .legs, .laws, .juggler, .thermal, .scribe, .pair, .port, .tamper] s x1
       on_goal 1 => clear_value x1
       on_goal 2 => unfold x1)
    | (extract_lets +onlyGivenNames x1
       suffices hx : Chg [.carousel, .startup, .array, .legs, .laws, .juggler, .thermal, .scribe, .pair, .port, .tamper] s x1.2
       on_goal 1 => clear_value x1
       on_goal 2 => unfold x1)
    | (extract_lets +onlyGivenNames x1; clear_value x1)
    | split
    | (with_reducible apply Chg.foldl; rotate_left; intro s _))

theorem execStrokeRecord_chg (t : ℕ) (r : StrokeRec) (s : State) : ∃ u, execStrokeRecord t r s = .next u ∧ Chg [.array, .legs, .laws, .pair, .port, .drives, .buses] (s.advance t) u := by
  refine ⟨_, rfl, ?_⟩
  generalize s.advance t = s
  repeat' (first
    | with_reducible exact Chg.refl _ _
    | with_reducible assumption
    | (apply Chg.step; rotate_left
       (first
         | with_reducible exact State.modPair_chg ..
         | with_reducible exact State.outOfStep_chg ..
         | with_reducible exact State.placeWords_chg ..
         | with_reducible exact State.releaseRecorded_chg ..)
       decide)
    | (extract_lets +onlyGivenNames x1
       suffices hx : Chg [.array, .legs, .laws, .pair, .port, .drives, .buses] s x1
       on_goal 1 => clear_value x1
       on_goal 2 => unfold x1)
    | split
    | (with_reducible apply Chg.foldl; rotate_left; intro s _))

theorem execSubscribe_chg (t : ℕ) (c : ConnNo) (names : List Ev) (seq : Option ℕ) (s : State) : ∃ u, execSubscribe t c names seq s = .next u ∧ Chg [.port] (s.advance t) u := by
  refine ⟨_, rfl, ?_⟩
  generalize s.advance t = s
  repeat' (first
    | with_reducible exact Chg.refl _ _
    | with_reducible assumption
    | (apply Chg.step; rotate_left
       (first
         | with_reducible exact State.answer_chg ..
         | with_reducible exact State.modConn_chg ..)
       decide)
    | refine Chg.step (M := [.port]) ?_ (State.op_chg (fun k s => ?_) (by decide)) (by decide))

theorem execSyncLost_chg (t : ℕ) (b : BuckNo) (waitNs : ℕ) (khz : ℕ) (s : State) : ∃ u, execSyncLost t b waitNs khz s = .next u ∧ Chg [.port, .supply] (s.advance t) u := by
  refine ⟨_, rfl, ?_⟩
  generalize s.advance t = s
  repeat' (first
    | with_reducible exact Chg.refl _ _
    | with_reducible assumption
    | (apply Chg.step; rotate_left
       (first
         | with_reducible exact State.modReg_chg ..
         | with_reducible exact State.raise_chg ..)
       decide)
    | split)

theorem execTamperInput_chg (t : ℕ) (i : Fin 4) (ms : ℕ) (level : Bool) (s : State) : ∃ u, execTamperInput t i ms level s = .next u ∧ Chg [.pair, .port, .tamper] (s.advance t) u := by
  refine ⟨_, rfl, ?_⟩
  generalize s.advance t = s
  repeat' (first
    | with_reducible exact Chg.refl _ _
    | with_reducible assumption
    | (apply Chg.step; rotate_left
       with_reducible exact State.takeTamper_chg ..
       decide)
    | refine Chg.step (M := [.pair, .port, .tamper]) ?_ (State.submit_chg (fun s => ?_) (by decide)) (by decide)
    | split)

theorem execTaskComplete_chg (t : ℕ) (n : NibNo) (err : List W32) (s : State) : ∃ u, execTaskComplete t n err s = .next u ∧ Chg [.free, .array, .legs, .laws, .juggler, .thermal, .barker, .scribe, .keys, .update, .pair, .port, .tokens, .drives, .supply] (s.advance t) u := by
  refine ⟨_, rfl, ?_⟩
  generalize s.advance t = s
  repeat' (first
    | with_reducible exact Chg.refl _ _
    | with_reducible assumption
    | (apply Chg.step; rotate_left
       (first
         | with_reducible exact State.completeP0_chg ..
         | with_reducible exact State.modArr_chg ..
         | with_reducible exact State.release_chg ..
         | with_reducible exact State.retireAll_chg ..)
       decide)
    | (extract_lets +onlyGivenNames x1
       suffices hx : Chg [.free, .array, .legs, .laws, .juggler, .thermal, .barker, .scribe, .keys, .update, .pair, .port, .tokens, .drives, .supply] s x1
       on_goal 1 => clear_value x1
       on_goal 2 => unfold x1)
    | (extract_lets +onlyGivenNames x1
       suffices hx : Chg [.free, .array, .legs, .laws, .juggler, .thermal, .barker, .scribe, .keys, .update, .pair, .port, .tokens, .drives, .supply] s x1.2
       on_goal 1 => clear_value x1
       on_goal 2 => unfold x1)
    | (extract_lets +onlyGivenNames x1; clear_value x1)
    | split)

theorem execTaskRelease_chg (t : ℕ) (k : TaskKind) (s : State) : ∃ u, execTaskRelease t k s = .next u ∧ Chg [.array, .laws, .juggler, .thermal, .pair, .port, .buses] (s.advance t) u := by
  refine ⟨_, rfl, ?_⟩
  generalize s.advance t = s
  repeat' (first
    | with_reducible exact Chg.refl _ _
    | with_reducible assumption
    | (apply Chg.step; rotate_left
       with_reducible exact State.releaseTask_chg ..
       decide)
    | refine Chg.step (M := [.array, .laws, .juggler, .thermal, .pair, .port, .buses]) ?_ (State.submit_chg (fun s => ?_) (by decide)) (by decide)
    | split)

theorem execTaskTake_chg (t : ℕ) (n : NibNo) (obs : ReadObs) (s : State) : ∃ u, execTaskTake t n obs s = .next u ∧ Chg [.free, .array, .legs, .laws, .juggler, .thermal, .barker, .scribe, .keys, .update, .pair, .port, .tokens, .drives, .supply] (s.advance t) u := by
  refine ⟨_, rfl, ?_⟩
  generalize s.advance t = s
  repeat' (first
    | with_reducible exact Chg.refl _ _
    | with_reducible assumption
    | (apply Chg.step; rotate_left
       (first
         | with_reducible exact State.displace_chg ..
         | with_reducible exact State.takeAndRead_chg ..)
       decide)
    | split)

theorem execTelemetrySend_chg (t : ℕ) (stream : Fin 16) (queueFull : Bool) (s : State) : ∃ u, execTelemetrySend t stream queueFull s = .next u ∧ Chg [.port, .buses] (s.advance t) u := by
  refine ⟨_, rfl, ?_⟩
  generalize s.advance t = s
  repeat' (first
    | with_reducible exact Chg.refl _ _
    | with_reducible assumption
    | (apply Chg.step; rotate_left
       (first
         | with_reducible exact State.drainLog_chg ..
         | with_reducible exact State.raise_chg ..)
       decide)
    | (extract_lets +onlyGivenNames x1
       suffices hx : Chg [.port, .buses] s x1
       on_goal 1 => clear_value x1
       on_goal 2 => unfold x1)
    | (extract_lets +onlyGivenNames x1
       suffices hx : Chg [.port, .buses] s x1.2
       on_goal 1 => clear_value x1
       on_goal 2 => unfold x1)
    | (extract_lets +onlyGivenNames x1; clear_value x1)
    | split
    | fail_if_no_progress (with_reducible refine Chg.step ?_ (Chg.setBuses _ _) (by decide)))

theorem execThermalDisagree_chg (t : ℕ) (n : Fin 288) (s : State) : ∃ u, execThermalDisagree t n s = .next u ∧ Chg [.thermal, .port] (s.advance t) u := by
  refine ⟨_, rfl, ?_⟩
  generalize s.advance t = s
  repeat' (first
    | with_reducible exact Chg.refl _ _
    | with_reducible assumption
    | (apply Chg.step; rotate_left
       with_reducible exact State.raise_chg ..
       decide)
    | (extract_lets +onlyGivenNames x1
       suffices hx : Chg [.thermal, .port] s x1
       on_goal 1 => clear_value x1
       on_goal 2 => unfold x1)
    | (extract_lets +onlyGivenNames x1
       suffices hx : Chg [.thermal, .port] s x1.2
       on_goal 1 => clear_value x1
       on_goal 2 => unfold x1)
    | (extract_lets +onlyGivenNames x1; clear_value x1)
    | split
    | fail_if_no_progress (with_reducible refine Chg.step ?_ (Chg.setThermal _ _) (by decide)))

theorem execThirdCopyTimeout_chg (t : ℕ) (l : LawNo) (s : State) : ∃ u, execThirdCopyTimeout t l s = .next u ∧ Chg [.array] (s.advance t) u := by
  refine ⟨_, rfl, ?_⟩
  generalize s.advance t = s
  repeat' (first
    | with_reducible exact Chg.refl _ _
    | with_reducible assumption
    | (apply Chg.step; rotate_left
       with_reducible exact State.releaseThird_chg ..
       decide)
    | (extract_lets +onlyGivenNames x1
       suffices hx : Chg [.array] s x1
       on_goal 1 => clear_value x1
       on_goal 2 => unfold x1)
    | (extract_lets +onlyGivenNames x1
       suffices hx : Chg [.array] s x1.2
       on_goal 1 => clear_value x1
       on_goal 2 => unfold x1)
    | (extract_lets +onlyGivenNames x1; clear_value x1)
    | split)

theorem execTimeSend_chg (t : ℕ) (s : State) : ∃ u, execTimeSend t s = .next u ∧ Chg [.barker] (s.advance t) u := by
  refine ⟨_, rfl, ?_⟩
  generalize s.advance t = s
  repeat' (first
    | with_reducible exact Chg.refl _ _
    | with_reducible assumption
    | (apply Chg.step; rotate_left
       with_reducible exact State.sendFrame_chg ..
       decide)
    | (extract_lets +onlyGivenNames x1
       suffices hx : Chg [.barker] s x1
       on_goal 1 => clear_value x1
       on_goal 2 => unfold x1)
    | (extract_lets +onlyGivenNames x1
       suffices hx : Chg [.barker] s x1.2
       on_goal 1 => clear_value x1
       on_goal 2 => unfold x1)
    | (extract_lets +onlyGivenNames x1; clear_value x1)
    | split
    | fail_if_no_progress (with_reducible refine Chg.step ?_ (Chg.setBarker _ _) (by decide)))

theorem execTimerOutputPulse_chg (t : ℕ) (n : LsNo) (s : State) : ∃ u, execTimerOutputPulse t n s = .next u ∧ Chg [.drives] (s.advance t) u := by
  refine ⟨_, rfl, ?_⟩
  generalize s.advance t = s
  repeat' (first
    | with_reducible exact Chg.refl _ _
    | with_reducible assumption
    | (extract_lets +onlyGivenNames x1
       suffices hx : Chg [.drives] s x1
       on_goal 1 => clear_value x1
       on_goal 2 => unfold x1)
    | (extract_lets +onlyGivenNames x1
       suffices hx : Chg [.drives] s x1.2
       on_goal 1 => clear_value x1
       on_goal 2 => unfold x1)
    | (extract_lets +onlyGivenNames x1; clear_value x1)
    | split
    | fail_if_no_progress (with_reducible refine Chg.step ?_ (Chg.setDrives _ _) (by decide)))

theorem execUnmatchedCopyDiscard_chg (t : ℕ) (source : ℕ) (digest : ℕ) (s : State) : ∃ u, execUnmatchedCopyDiscard t source digest s = .next u ∧ Chg [.pair] (s.advance t) u := by
  refine ⟨_, rfl, ?_⟩
  generalize s.advance t = s
  repeat' (first
    | with_reducible exact Chg.refl _ _
    | with_reducible assumption
    | (apply Chg.step; rotate_left
       with_reducible exact State.modPair_chg ..
       decide)
    | split)

theorem execUpdateAbort_chg (t : ℕ) (c : ConnNo) (k2 : Bool) (s : State) : ∃ u, execUpdateAbort t c k2 s = .next u ∧ Chg [.juggler, .barker, .scribe, .update, .pair, .port, .tokens] (s.advance t) u := by
  refine ⟨_, rfl, ?_⟩
  generalize s.advance t = s
  repeat' (first
    | with_reducible exact Chg.refl _ _
    | with_reducible assumption
    | (apply Chg.step; rotate_left
       with_reducible exact State.opAbort_chg ..
       decide)
    | refine Chg.step (M := [.juggler, .barker, .scribe, .update, .pair, .port, .tokens]) ?_ (State.change_chg (fun c s => ?_) (by decide) (by decide)) (by decide))

theorem execUpdateCheckDone_chg (t : ℕ) (k2 : Bool) (obs : ImageObs) (s : State) : ∃ u, execUpdateCheckDone t k2 obs s = .next u ∧ Chg [.update, .port] (s.advance t) u := by
  refine ⟨_, rfl, ?_⟩
  generalize s.advance t = s
  repeat' (first
    | with_reducible exact Chg.refl _ _
    | with_reducible assumption
    | (apply Chg.step; rotate_left
       (first
         | with_reducible exact State.modStaging_chg ..
         | with_reducible exact State.raise_chg ..)
       decide)
    | split)

theorem execUpdatePiece_chg (t : ℕ) (c : ConnNo) (piece : ℕ) (data : List W32) (sigOk : Bool) (s : State) : ∃ u, execUpdatePiece t c piece data sigOk s = .next u ∧ Chg [.flash, .juggler, .barker, .scribe, .keys, .update, .pair, .port, .tokens] (s.advance t) u := by
  refine ⟨_, rfl, ?_⟩
  generalize s.advance t = s
  repeat' (first
    | with_reducible exact Chg.refl _ _
    | with_reducible assumption
    | (apply Chg.step; rotate_left
       (first
         | with_reducible exact State.answer_chg ..
         | with_reducible exact State.opPiece_chg ..)
       decide)
    | refine Chg.step (M := [.flash, .juggler, .barker, .scribe, .keys, .update, .pair, .port, .tokens]) ?_ (State.request_chg (fun c s => ?_) (by decide) (by decide)) (by decide)
    | refine Chg.step (M := [.flash, .juggler, .barker, .scribe, .keys, .update, .pair, .port, .tokens]) ?_ (State.op_chg (fun k s => ?_) (by decide)) (by decide)
    | (extract_lets +onlyGivenNames x1; clear_value x1)
    | split)

theorem execV2gMessage_chg (t : ℕ) (ctx : CtxNo) (m : V2g) (s : State) : ∃ u, execV2gMessage t ctx m s = .next u ∧ Chg [.free, .juggler, .barker, .scribe, .keys, .update, .pair, .port, .tokens] (s.advance t) u := by
  refine ⟨_, rfl, ?_⟩
  generalize s.advance t = s
  repeat' (first
    | with_reducible exact Chg.refl _ _
    | with_reducible assumption
    | (apply Chg.step; rotate_left
       (first
         | with_reducible exact State.drawRandom_chg ..
         | with_reducible exact State.vehicleMsg_chg ..)
       decide)
    | (extract_lets +onlyGivenNames x1; clear_value x1)
    | split)

theorem execVlink_chg (t : ℕ) (src : ℕ) (port : EthNo) (d : Datagram) (s : State) : ∃ u, execVlink t src port d s = .next u ∧ Chg [.barker, .keys, .pair, .port, .tamper] (s.advance t) u := by
  refine ⟨_, rfl, ?_⟩
  generalize s.advance t = s
  repeat' (first
    | with_reducible exact Chg.refl _ _
    | with_reducible assumption
    | (apply Chg.step; rotate_left
       with_reducible exact State.takeVlink_chg ..
       decide)
    | refine Chg.step (M := [.barker, .keys, .pair, .port, .tamper]) ?_ (State.submit_chg (fun s => ?_) (by decide)) (by decide)
    | split)

theorem execVmHold_chg (t : ℕ) (p : PumpNo) (dv : ℕ) (lastedUs : ℕ) (s : State) : ∃ u, execVmHold t p dv lastedUs s = .next u ∧ Chg [.drives] (s.advance t) u := by
  refine ⟨_, rfl, ?_⟩
  generalize s.advance t = s
  repeat' (first
    | with_reducible exact Chg.refl _ _
    | with_reducible assumption
    | (apply Chg.step; rotate_left
       with_reducible exact State.modPump_chg ..
       decide)
    | split)

theorem execVmRecovered_chg (t : ℕ) (p : PumpNo) (dv : ℕ) (lastedMs : ℕ) (s : State) : ∃ u, execVmRecovered t p dv lastedMs s = .next u ∧ Chg [.drives] (s.advance t) u := by
  refine ⟨_, rfl, ?_⟩
  generalize s.advance t = s
  repeat' (first
    | with_reducible exact Chg.refl _ _
    | with_reducible assumption
    | (apply Chg.step; rotate_left
       with_reducible exact State.modPump_chg ..
       decide)
    | split)

theorem execWallTimeSet_chg (t : ℕ) (c : ConnNo) (sec : ℕ) (nsec : ℕ) (s : State) : ∃ u, execWallTimeSet t c sec nsec s = .next u ∧ Chg [.wall, .scribe, .pair, .port, .tamper] (s.advance t) u := by
  refine ⟨_, rfl, ?_⟩
  generalize s.advance t = s
  repeat' (first
    | with_reducible exact Chg.refl _ _
    | with_reducible assumption
    | (apply Chg.step; rotate_left
       with_reducible exact State.writeWall_chg ..
       decide))

theorem execWeldDemand_chg (t : ℕ) (fn : FuncNo) (s : State) : ∃ u, execWeldDemand t fn s = .next u ∧ Chg [.legs, .laws, .juggler, .barker, .scribe, .keys, .update, .pair, .port, .tokens, .safety] (s.advance t) u := by
  refine ⟨_, rfl, ?_⟩
  generalize s.advance t = s
  repeat' (first
    | with_reducible exact Chg.refl _ _
    | with_reducible assumption
    | (apply Chg.step; rotate_left
       (first
         | with_reducible exact State.evalFns_chg ..
         | with_reducible exact State.modFn_chg ..
         | with_reducible exact State.pauseScan_chg ..)
       decide)
    | (extract_lets +onlyGivenNames x1
       suffices hx : Chg [.legs, .laws, .juggler, .barker, .scribe, .keys, .update, .pair, .port, .tokens, .safety] s x1
       on_goal 1 => clear_value x1
       on_goal 2 => unfold x1)
    | (extract_lets +onlyGivenNames x1
       suffices hx : Chg [.legs, .laws, .juggler, .barker, .scribe, .keys, .update, .pair, .port, .tokens, .safety] s x1.2
       on_goal 1 => clear_value x1
       on_goal 2 => unfold x1)
    | (extract_lets +onlyGivenNames x1; clear_value x1)
    | split)

theorem execYield_chg (t : ℕ) (s : State) : ∃ u, execYield t s = .next u ∧ Chg [.pair, .port, .drives] (s.advance t) u := by
  refine ⟨_, rfl, ?_⟩
  generalize s.advance t = s
  repeat' (first
    | with_reducible exact Chg.refl _ _
    | with_reducible assumption
    | (apply Chg.step; rotate_left
       (first
         | with_reducible exact State.modPair_chg ..
         | with_reducible exact State.yieldRing_chg ..)
       decide)
    | split)

theorem execYieldExecute_chg (t : ℕ) (c : ConnNo) (s : State) : ∃ u, execYieldExecute t c s = .next u ∧ Chg [.pair, .port] (s.advance t) u := by
  refine ⟨_, rfl, ?_⟩
  generalize s.advance t = s
  repeat' (first
    | with_reducible exact Chg.refl _ _
    | with_reducible assumption
    | (apply Chg.step; rotate_left
       with_reducible exact State.opYield_chg ..
       decide)
    | refine Chg.step (M := [.pair, .port]) ?_ (State.change_chg (fun c s => ?_) (by decide) (by decide)) (by decide))

theorem execYieldMessage_chg (t : ℕ) (s : State) : ∃ u, execYieldMessage t s = .next u ∧ Chg [.legs, .laws, .juggler, .barker, .scribe, .keys, .update, .pair, .port, .tokens, .drives] (s.advance t) u := by
  refine ⟨_, rfl, ?_⟩
  generalize s.advance t = s
  repeat' (first
    | with_reducible exact Chg.refl _ _
    | with_reducible assumption
    | (apply Chg.step; rotate_left
       (first
         | with_reducible exact State.judgeRing_chg ..
         | with_reducible exact State.modPair_chg ..)
       decide)
    | split)

end Sys2Proof.Machine
end

