-- ==== Sys2Proof/Laws/State.lean ====
section
/-!
SUPPORT. The fields of the state after each of the operations that change one field: no later proof unfolds a record update.
-/
namespace Sys2Proof.Machine
open Sys2Proof

/-! State.modUpdate -/

@[simp] theorem State.modUpdate_time (s : State) (f : Update → Update) : (State.modUpdate s f).time = s.time := rfl
@[simp] theorem State.modUpdate_free (s : State) (f : Update → Update) : (State.modUpdate s f).free = s.free := rfl
@[simp] theorem State.modUpdate_carousel (s : State) (f : Update → Update) : (State.modUpdate s f).carousel = s.carousel := rfl
@[simp] theorem State.modUpdate_wall (s : State) (f : Update → Update) : (State.modUpdate s f).wall = s.wall := rfl
@[simp] theorem State.modUpdate_startup (s : State) (f : Update → Update) : (State.modUpdate s f).startup = s.startup := rfl
@[simp] theorem State.modUpdate_flash (s : State) (f : Update → Update) : (State.modUpdate s f).flash = s.flash := rfl
@[simp] theorem State.modUpdate_array (s : State) (f : Update → Update) : (State.modUpdate s f).array = s.array := rfl
@[simp] theorem State.modUpdate_legs (s : State) (f : Update → Update) : (State.modUpdate s f).legs = s.legs := rfl
@[simp] theorem State.modUpdate_laws (s : State) (f : Update → Update) : (State.modUpdate s f).laws = s.laws := rfl
@[simp] theorem State.modUpdate_juggler (s : State) (f : Update → Update) : (State.modUpdate s f).juggler = s.juggler := rfl
@[simp] theorem State.modUpdate_thermal (s : State) (f : Update → Update) : (State.modUpdate s f).thermal = s.thermal := rfl
@[simp] theorem State.modUpdate_barker (s : State) (f : Update → Update) : (State.modUpdate s f).barker = s.barker := rfl
@[simp] theorem State.modUpdate_scribe (s : State) (f : Update → Update) : (State.modUpdate s f).scribe = s.scribe := rfl
@[simp] theorem State.modUpdate_ident (s : State) (f : Update → Update) : (State.modUpdate s f).ident = s.ident := rfl
@[simp] theorem State.modUpdate_keys (s : State) (f : Update → Update) : (State.modUpdate s f).keys = s.keys := rfl
@[simp] theorem State.modUpdate_update (s : State) (f : Update → Update) : (State.modUpdate s f).update = f s.update := rfl
@[simp] theorem State.modUpdate_ptp (s : State) (f : Update → Update) : (State.modUpdate s f).ptp = s.ptp := rfl
@[simp] theorem State.modUpdate_pair (s : State) (f : Update → Update) : (State.modUpdate s f).pair = s.pair := rfl
@[simp] theorem State.modUpdate_port (s : State) (f : Update → Update) : (State.modUpdate s f).port = s.port := rfl
@[simp] theorem State.modUpdate_tokens (s : State) (f : Update → Update) : (State.modUpdate s f).tokens = s.tokens := rfl
@[simp] theorem State.modUpdate_tamper (s : State) (f : Update → Update) : (State.modUpdate s f).tamper = s.tamper := rfl
@[simp] theorem State.modUpdate_safety (s : State) (f : Update → Update) : (State.modUpdate s f).safety = s.safety := rfl
@[simp] theorem State.modUpdate_drives (s : State) (f : Update → Update) : (State.modUpdate s f).drives = s.drives := rfl
@[simp] theorem State.modUpdate_supply (s : State) (f : Update → Update) : (State.modUpdate s f).supply = s.supply := rfl
@[simp] theorem State.modUpdate_buses (s : State) (f : Update → Update) : (State.modUpdate s f).buses = s.buses := rfl
@[simp] theorem State.modUpdate_pending (s : State) (f : Update → Update) : (State.modUpdate s f).pending = s.pending := rfl

/-! State.modStaging -/

@[simp] theorem State.modStaging_time (s : State) (k2 : Bool) (f : Staging → Staging) : (State.modStaging s k2 f).time = s.time := rfl
@[simp] theorem State.modStaging_free (s : State) (k2 : Bool) (f : Staging → Staging) : (State.modStaging s k2 f).free = s.free := rfl
@[simp] theorem State.modStaging_carousel (s : State) (k2 : Bool) (f : Staging → Staging) : (State.modStaging s k2 f).carousel = s.carousel := rfl
@[simp] theorem State.modStaging_wall (s : State) (k2 : Bool) (f : Staging → Staging) : (State.modStaging s k2 f).wall = s.wall := rfl
@[simp] theorem State.modStaging_startup (s : State) (k2 : Bool) (f : Staging → Staging) : (State.modStaging s k2 f).startup = s.startup := rfl
@[simp] theorem State.modStaging_flash (s : State) (k2 : Bool) (f : Staging → Staging) : (State.modStaging s k2 f).flash = s.flash := rfl
@[simp] theorem State.modStaging_array (s : State) (k2 : Bool) (f : Staging → Staging) : (State.modStaging s k2 f).array = s.array := rfl
@[simp] theorem State.modStaging_legs (s : State) (k2 : Bool) (f : Staging → Staging) : (State.modStaging s k2 f).legs = s.legs := rfl
@[simp] theorem State.modStaging_laws (s : State) (k2 : Bool) (f : Staging → Staging) : (State.modStaging s k2 f).laws = s.laws := rfl
@[simp] theorem State.modStaging_juggler (s : State) (k2 : Bool) (f : Staging → Staging) : (State.modStaging s k2 f).juggler = s.juggler := rfl
@[simp] theorem State.modStaging_thermal (s : State) (k2 : Bool) (f : Staging → Staging) : (State.modStaging s k2 f).thermal = s.thermal := rfl
@[simp] theorem State.modStaging_barker (s : State) (k2 : Bool) (f : Staging → Staging) : (State.modStaging s k2 f).barker = s.barker := rfl
@[simp] theorem State.modStaging_scribe (s : State) (k2 : Bool) (f : Staging → Staging) : (State.modStaging s k2 f).scribe = s.scribe := rfl
@[simp] theorem State.modStaging_ident (s : State) (k2 : Bool) (f : Staging → Staging) : (State.modStaging s k2 f).ident = s.ident := rfl
@[simp] theorem State.modStaging_keys (s : State) (k2 : Bool) (f : Staging → Staging) : (State.modStaging s k2 f).keys = s.keys := rfl
@[simp] theorem State.modStaging_ptp (s : State) (k2 : Bool) (f : Staging → Staging) : (State.modStaging s k2 f).ptp = s.ptp := rfl
@[simp] theorem State.modStaging_pair (s : State) (k2 : Bool) (f : Staging → Staging) : (State.modStaging s k2 f).pair = s.pair := rfl
@[simp] theorem State.modStaging_port (s : State) (k2 : Bool) (f : Staging → Staging) : (State.modStaging s k2 f).port = s.port := rfl
@[simp] theorem State.modStaging_tokens (s : State) (k2 : Bool) (f : Staging → Staging) : (State.modStaging s k2 f).tokens = s.tokens := rfl
@[simp] theorem State.modStaging_tamper (s : State) (k2 : Bool) (f : Staging → Staging) : (State.modStaging s k2 f).tamper = s.tamper := rfl
@[simp] theorem State.modStaging_safety (s : State) (k2 : Bool) (f : Staging → Staging) : (State.modStaging s k2 f).safety = s.safety := rfl
@[simp] theorem State.modStaging_drives (s : State) (k2 : Bool) (f : Staging → Staging) : (State.modStaging s k2 f).drives = s.drives := rfl
@[simp] theorem State.modStaging_supply (s : State) (k2 : Bool) (f : Staging → Staging) : (State.modStaging s k2 f).supply = s.supply := rfl
@[simp] theorem State.modStaging_buses (s : State) (k2 : Bool) (f : Staging → Staging) : (State.modStaging s k2 f).buses = s.buses := rfl
@[simp] theorem State.modStaging_pending (s : State) (k2 : Bool) (f : Staging → Staging) : (State.modStaging s k2 f).pending = s.pending := rfl

/-! State.raise -/

@[simp] theorem State.raise_time (s : State) (e : Ev) (val : List ℤ) : (State.raise s e val).time = s.time := rfl
@[simp] theorem State.raise_free (s : State) (e : Ev) (val : List ℤ) : (State.raise s e val).free = s.free := rfl
@[simp] theorem State.raise_carousel (s : State) (e : Ev) (val : List ℤ) : (State.raise s e val).carousel = s.carousel := rfl
@[simp] theorem State.raise_wall (s : State) (e : Ev) (val : List ℤ) : (State.raise s e val).wall = s.wall := rfl
@[simp] theorem State.raise_startup (s : State) (e : Ev) (val : List ℤ) : (State.raise s e val).startup = s.startup := rfl
@[simp] theorem State.raise_flash (s : State) (e : Ev) (val : List ℤ) : (State.raise s e val).flash = s.flash := rfl
@[simp] theorem State.raise_array (s : State) (e : Ev) (val : List ℤ) : (State.raise s e val).array = s.array := rfl
@[simp] theorem State.raise_legs (s : State) (e : Ev) (val : List ℤ) : (State.raise s e val).legs = s.legs := rfl
@[simp] theorem State.raise_laws (s : State) (e : Ev) (val : List ℤ) : (State.raise s e val).laws = s.laws := rfl
@[simp] theorem State.raise_juggler (s : State) (e : Ev) (val : List ℤ) : (State.raise s e val).juggler = s.juggler := rfl
@[simp] theorem State.raise_thermal (s : State) (e : Ev) (val : List ℤ) : (State.raise s e val).thermal = s.thermal := rfl
@[simp] theorem State.raise_barker (s : State) (e : Ev) (val : List ℤ) : (State.raise s e val).barker = s.barker := rfl
@[simp] theorem State.raise_scribe (s : State) (e : Ev) (val : List ℤ) : (State.raise s e val).scribe = s.scribe := rfl
@[simp] theorem State.raise_ident (s : State) (e : Ev) (val : List ℤ) : (State.raise s e val).ident = s.ident := rfl
@[simp] theorem State.raise_keys (s : State) (e : Ev) (val : List ℤ) : (State.raise s e val).keys = s.keys := rfl
@[simp] theorem State.raise_update (s : State) (e : Ev) (val : List ℤ) : (State.raise s e val).update = s.update := rfl
@[simp] theorem State.raise_ptp (s : State) (e : Ev) (val : List ℤ) : (State.raise s e val).ptp = s.ptp := rfl
@[simp] theorem State.raise_pair (s : State) (e : Ev) (val : List ℤ) : (State.raise s e val).pair = s.pair := rfl
@[simp] theorem State.raise_tokens (s : State) (e : Ev) (val : List ℤ) : (State.raise s e val).tokens = s.tokens := rfl
@[simp] theorem State.raise_tamper (s : State) (e : Ev) (val : List ℤ) : (State.raise s e val).tamper = s.tamper := rfl
@[simp] theorem State.raise_safety (s : State) (e : Ev) (val : List ℤ) : (State.raise s e val).safety = s.safety := rfl
@[simp] theorem State.raise_drives (s : State) (e : Ev) (val : List ℤ) : (State.raise s e val).drives = s.drives := rfl
@[simp] theorem State.raise_supply (s : State) (e : Ev) (val : List ℤ) : (State.raise s e val).supply = s.supply := rfl
@[simp] theorem State.raise_buses (s : State) (e : Ev) (val : List ℤ) : (State.raise s e val).buses = s.buses := rfl
@[simp] theorem State.raise_pending (s : State) (e : Ev) (val : List ℤ) : (State.raise s e val).pending = s.pending := rfl

/-! State.modArr -/

@[simp] theorem State.modArr_time (s : State) (f : Array_ → Array_) : (State.modArr s f).time = s.time := rfl
@[simp] theorem State.modArr_free (s : State) (f : Array_ → Array_) : (State.modArr s f).free = s.free := rfl
@[simp] theorem State.modArr_carousel (s : State) (f : Array_ → Array_) : (State.modArr s f).carousel = s.carousel := rfl
@[simp] theorem State.modArr_wall (s : State) (f : Array_ → Array_) : (State.modArr s f).wall = s.wall := rfl
@[simp] theorem State.modArr_startup (s : State) (f : Array_ → Array_) : (State.modArr s f).startup = s.startup := rfl
@[simp] theorem State.modArr_flash (s : State) (f : Array_ → Array_) : (State.modArr s f).flash = s.flash := rfl
@[simp] theorem State.modArr_array (s : State) (f : Array_ → Array_) : (State.modArr s f).array = f s.array := rfl
@[simp] theorem State.modArr_legs (s : State) (f : Array_ → Array_) : (State.modArr s f).legs = s.legs := rfl
@[simp] theorem State.modArr_laws (s : State) (f : Array_ → Array_) : (State.modArr s f).laws = s.laws := rfl
@[simp] theorem State.modArr_juggler (s : State) (f : Array_ → Array_) : (State.modArr s f).juggler = s.juggler := rfl
@[simp] theorem State.modArr_thermal (s : State) (f : Array_ → Array_) : (State.modArr s f).thermal = s.thermal := rfl
@[simp] theorem State.modArr_barker (s : State) (f : Array_ → Array_) : (State.modArr s f).barker = s.barker := rfl
@[simp] theorem State.modArr_scribe (s : State) (f : Array_ → Array_) : (State.modArr s f).scribe = s.scribe := rfl
@[simp] theorem State.modArr_ident (s : State) (f : Array_ → Array_) : (State.modArr s f).ident = s.ident := rfl
@[simp] theorem State.modArr_keys (s : State) (f : Array_ → Array_) : (State.modArr s f).keys = s.keys := rfl
@[simp] theorem State.modArr_update (s : State) (f : Array_ → Array_) : (State.modArr s f).update = s.update := rfl
@[simp] theorem State.modArr_ptp (s : State) (f : Array_ → Array_) : (State.modArr s f).ptp = s.ptp := rfl
@[simp] theorem State.modArr_pair (s : State) (f : Array_ → Array_) : (State.modArr s f).pair = s.pair := rfl
@[simp] theorem State.modArr_port (s : State) (f : Array_ → Array_) : (State.modArr s f).port = s.port := rfl
@[simp] theorem State.modArr_tokens (s : State) (f : Array_ → Array_) : (State.modArr s f).tokens = s.tokens := rfl
@[simp] theorem State.modArr_tamper (s : State) (f : Array_ → Array_) : (State.modArr s f).tamper = s.tamper := rfl
@[simp] theorem State.modArr_safety (s : State) (f : Array_ → Array_) : (State.modArr s f).safety = s.safety := rfl
@[simp] theorem State.modArr_drives (s : State) (f : Array_ → Array_) : (State.modArr s f).drives = s.drives := rfl
@[simp] theorem State.modArr_supply (s : State) (f : Array_ → Array_) : (State.modArr s f).supply = s.supply := rfl
@[simp] theorem State.modArr_buses (s : State) (f : Array_ → Array_) : (State.modArr s f).buses = s.buses := rfl
@[simp] theorem State.modArr_pending (s : State) (f : Array_ → Array_) : (State.modArr s f).pending = s.pending := rfl

/-! State.nextFree -/

@[simp] theorem State.nextFree_time (s : State) : (State.nextFree s ).time = s.time := rfl
@[simp] theorem State.nextFree_carousel (s : State) : (State.nextFree s ).carousel = s.carousel := rfl
@[simp] theorem State.nextFree_wall (s : State) : (State.nextFree s ).wall = s.wall := rfl
@[simp] theorem State.nextFree_startup (s : State) : (State.nextFree s ).startup = s.startup := rfl
@[simp] theorem State.nextFree_flash (s : State) : (State.nextFree s ).flash = s.flash := rfl
@[simp] theorem State.nextFree_array (s : State) : (State.nextFree s ).array = s.array := rfl
@[simp] theorem State.nextFree_legs (s : State) : (State.nextFree s ).legs = s.legs := rfl
@[simp] theorem State.nextFree_laws (s : State) : (State.nextFree s ).laws = s.laws := rfl
@[simp] theorem State.nextFree_juggler (s : State) : (State.nextFree s ).juggler = s.juggler := rfl
@[simp] theorem State.nextFree_thermal (s : State) : (State.nextFree s ).thermal = s.thermal := rfl
@[simp] theorem State.nextFree_barker (s : State) : (State.nextFree s ).barker = s.barker := rfl
@[simp] theorem State.nextFree_scribe (s : State) : (State.nextFree s ).scribe = s.scribe := rfl
@[simp] theorem State.nextFree_ident (s : State) : (State.nextFree s ).ident = s.ident := rfl
@[simp] theorem State.nextFree_keys (s : State) : (State.nextFree s ).keys = s.keys := rfl
@[simp] theorem State.nextFree_update (s : State) : (State.nextFree s ).update = s.update := rfl
@[simp] theorem State.nextFree_ptp (s : State) : (State.nextFree s ).ptp = s.ptp := rfl
@[simp] theorem State.nextFree_pair (s : State) : (State.nextFree s ).pair = s.pair := rfl
@[simp] theorem State.nextFree_port (s : State) : (State.nextFree s ).port = s.port := rfl
@[simp] theorem State.nextFree_tokens (s : State) : (State.nextFree s ).tokens = s.tokens := rfl
@[simp] theorem State.nextFree_tamper (s : State) : (State.nextFree s ).tamper = s.tamper := rfl
@[simp] theorem State.nextFree_safety (s : State) : (State.nextFree s ).safety = s.safety := rfl
@[simp] theorem State.nextFree_drives (s : State) : (State.nextFree s ).drives = s.drives := rfl
@[simp] theorem State.nextFree_supply (s : State) : (State.nextFree s ).supply = s.supply := rfl
@[simp] theorem State.nextFree_buses (s : State) : (State.nextFree s ).buses = s.buses := rfl
@[simp] theorem State.nextFree_pending (s : State) : (State.nextFree s ).pending = s.pending := rfl

/-! State.modNib -/

@[simp] theorem State.modNib_time (s : State) (n : NibNo) (f : Nib → Nib) : (State.modNib s n f).time = s.time := rfl
@[simp] theorem State.modNib_free (s : State) (n : NibNo) (f : Nib → Nib) : (State.modNib s n f).free = s.free := rfl
@[simp] theorem State.modNib_carousel (s : State) (n : NibNo) (f : Nib → Nib) : (State.modNib s n f).carousel = s.carousel := rfl
@[simp] theorem State.modNib_wall (s : State) (n : NibNo) (f : Nib → Nib) : (State.modNib s n f).wall = s.wall := rfl
@[simp] theorem State.modNib_startup (s : State) (n : NibNo) (f : Nib → Nib) : (State.modNib s n f).startup = s.startup := rfl
@[simp] theorem State.modNib_flash (s : State) (n : NibNo) (f : Nib → Nib) : (State.modNib s n f).flash = s.flash := rfl
@[simp] theorem State.modNib_legs (s : State) (n : NibNo) (f : Nib → Nib) : (State.modNib s n f).legs = s.legs := rfl
@[simp] theorem State.modNib_laws (s : State) (n : NibNo) (f : Nib → Nib) : (State.modNib s n f).laws = s.laws := rfl
@[simp] theorem State.modNib_juggler (s : State) (n : NibNo) (f : Nib → Nib) : (State.modNib s n f).juggler = s.juggler := rfl
@[simp] theorem State.modNib_thermal (s : State) (n : NibNo) (f : Nib → Nib) : (State.modNib s n f).thermal = s.thermal := rfl
@[simp] theorem State.modNib_barker (s : State) (n : NibNo) (f : Nib → Nib) : (State.modNib s n f).barker = s.barker := rfl
@[simp] theorem State.modNib_scribe (s : State) (n : NibNo) (f : Nib → Nib) : (State.modNib s n f).scribe = s.scribe := rfl
@[simp] theorem State.modNib_ident (s : State) (n : NibNo) (f : Nib → Nib) : (State.modNib s n f).ident = s.ident := rfl
@[simp] theorem State.modNib_keys (s : State) (n : NibNo) (f : Nib → Nib) : (State.modNib s n f).keys = s.keys := rfl
@[simp] theorem State.modNib_update (s : State) (n : NibNo) (f : Nib → Nib) : (State.modNib s n f).update = s.update := rfl
@[simp] theorem State.modNib_ptp (s : State) (n : NibNo) (f : Nib → Nib) : (State.modNib s n f).ptp = s.ptp := rfl
@[simp] theorem State.modNib_pair (s : State) (n : NibNo) (f : Nib → Nib) : (State.modNib s n f).pair = s.pair := rfl
@[simp] theorem State.modNib_port (s : State) (n : NibNo) (f : Nib → Nib) : (State.modNib s n f).port = s.port := rfl
@[simp] theorem State.modNib_tokens (s : State) (n : NibNo) (f : Nib → Nib) : (State.modNib s n f).tokens = s.tokens := rfl
@[simp] theorem State.modNib_tamper (s : State) (n : NibNo) (f : Nib → Nib) : (State.modNib s n f).tamper = s.tamper := rfl
@[simp] theorem State.modNib_safety (s : State) (n : NibNo) (f : Nib → Nib) : (State.modNib s n f).safety = s.safety := rfl
@[simp] theorem State.modNib_drives (s : State) (n : NibNo) (f : Nib → Nib) : (State.modNib s n f).drives = s.drives := rfl
@[simp] theorem State.modNib_supply (s : State) (n : NibNo) (f : Nib → Nib) : (State.modNib s n f).supply = s.supply := rfl
@[simp] theorem State.modNib_buses (s : State) (n : NibNo) (f : Nib → Nib) : (State.modNib s n f).buses = s.buses := rfl
@[simp] theorem State.modNib_pending (s : State) (n : NibNo) (f : Nib → Nib) : (State.modNib s n f).pending = s.pending := rfl

/-! State.modReg -/

@[simp] theorem State.modReg_time (s : State) (n : ℕ) (f : Reg → Reg) : (State.modReg s n f).time = s.time := rfl
@[simp] theorem State.modReg_free (s : State) (n : ℕ) (f : Reg → Reg) : (State.modReg s n f).free = s.free := rfl
@[simp] theorem State.modReg_carousel (s : State) (n : ℕ) (f : Reg → Reg) : (State.modReg s n f).carousel = s.carousel := rfl
@[simp] theorem State.modReg_wall (s : State) (n : ℕ) (f : Reg → Reg) : (State.modReg s n f).wall = s.wall := rfl
@[simp] theorem State.modReg_startup (s : State) (n : ℕ) (f : Reg → Reg) : (State.modReg s n f).startup = s.startup := rfl
@[simp] theorem State.modReg_flash (s : State) (n : ℕ) (f : Reg → Reg) : (State.modReg s n f).flash = s.flash := rfl
@[simp] theorem State.modReg_array (s : State) (n : ℕ) (f : Reg → Reg) : (State.modReg s n f).array = s.array := rfl
@[simp] theorem State.modReg_legs (s : State) (n : ℕ) (f : Reg → Reg) : (State.modReg s n f).legs = s.legs := rfl
@[simp] theorem State.modReg_laws (s : State) (n : ℕ) (f : Reg → Reg) : (State.modReg s n f).laws = s.laws := rfl
@[simp] theorem State.modReg_juggler (s : State) (n : ℕ) (f : Reg → Reg) : (State.modReg s n f).juggler = s.juggler := rfl
@[simp] theorem State.modReg_thermal (s : State) (n : ℕ) (f : Reg → Reg) : (State.modReg s n f).thermal = s.thermal := rfl
@[simp] theorem State.modReg_barker (s : State) (n : ℕ) (f : Reg → Reg) : (State.modReg s n f).barker = s.barker := rfl
@[simp] theorem State.modReg_scribe (s : State) (n : ℕ) (f : Reg → Reg) : (State.modReg s n f).scribe = s.scribe := rfl
@[simp] theorem State.modReg_ident (s : State) (n : ℕ) (f : Reg → Reg) : (State.modReg s n f).ident = s.ident := rfl
@[simp] theorem State.modReg_keys (s : State) (n : ℕ) (f : Reg → Reg) : (State.modReg s n f).keys = s.keys := rfl
@[simp] theorem State.modReg_update (s : State) (n : ℕ) (f : Reg → Reg) : (State.modReg s n f).update = s.update := rfl
@[simp] theorem State.modReg_ptp (s : State) (n : ℕ) (f : Reg → Reg) : (State.modReg s n f).ptp = s.ptp := rfl
@[simp] theorem State.modReg_pair (s : State) (n : ℕ) (f : Reg → Reg) : (State.modReg s n f).pair = s.pair := rfl
@[simp] theorem State.modReg_port (s : State) (n : ℕ) (f : Reg → Reg) : (State.modReg s n f).port = s.port := rfl
@[simp] theorem State.modReg_tokens (s : State) (n : ℕ) (f : Reg → Reg) : (State.modReg s n f).tokens = s.tokens := rfl
@[simp] theorem State.modReg_tamper (s : State) (n : ℕ) (f : Reg → Reg) : (State.modReg s n f).tamper = s.tamper := rfl
@[simp] theorem State.modReg_safety (s : State) (n : ℕ) (f : Reg → Reg) : (State.modReg s n f).safety = s.safety := rfl
@[simp] theorem State.modReg_drives (s : State) (n : ℕ) (f : Reg → Reg) : (State.modReg s n f).drives = s.drives := rfl
@[simp] theorem State.modReg_buses (s : State) (n : ℕ) (f : Reg → Reg) : (State.modReg s n f).buses = s.buses := rfl
@[simp] theorem State.modReg_pending (s : State) (n : ℕ) (f : Reg → Reg) : (State.modReg s n f).pending = s.pending := rfl

/-! State.modCtx -/

@[simp] theorem State.modCtx_time (s : State) (c : ℕ) (f : Ctx → Ctx) : (State.modCtx s c f).time = s.time := rfl
@[simp] theorem State.modCtx_free (s : State) (c : ℕ) (f : Ctx → Ctx) : (State.modCtx s c f).free = s.free := rfl
@[simp] theorem State.modCtx_carousel (s : State) (c : ℕ) (f : Ctx → Ctx) : (State.modCtx s c f).carousel = s.carousel := rfl
@[simp] theorem State.modCtx_wall (s : State) (c : ℕ) (f : Ctx → Ctx) : (State.modCtx s c f).wall = s.wall := rfl
@[simp] theorem State.modCtx_startup (s : State) (c : ℕ) (f : Ctx → Ctx) : (State.modCtx s c f).startup = s.startup := rfl
@[simp] theorem State.modCtx_flash (s : State) (c : ℕ) (f : Ctx → Ctx) : (State.modCtx s c f).flash = s.flash := rfl
@[simp] theorem State.modCtx_array (s : State) (c : ℕ) (f : Ctx → Ctx) : (State.modCtx s c f).array = s.array := rfl
@[simp] theorem State.modCtx_legs (s : State) (c : ℕ) (f : Ctx → Ctx) : (State.modCtx s c f).legs = s.legs := rfl
@[simp] theorem State.modCtx_laws (s : State) (c : ℕ) (f : Ctx → Ctx) : (State.modCtx s c f).laws = s.laws := rfl
@[simp] theorem State.modCtx_juggler (s : State) (c : ℕ) (f : Ctx → Ctx) : (State.modCtx s c f).juggler = s.juggler := rfl
@[simp] theorem State.modCtx_thermal (s : State) (c : ℕ) (f : Ctx → Ctx) : (State.modCtx s c f).thermal = s.thermal := rfl
@[simp] theorem State.modCtx_scribe (s : State) (c : ℕ) (f : Ctx → Ctx) : (State.modCtx s c f).scribe = s.scribe := rfl
@[simp] theorem State.modCtx_ident (s : State) (c : ℕ) (f : Ctx → Ctx) : (State.modCtx s c f).ident = s.ident := rfl
@[simp] theorem State.modCtx_keys (s : State) (c : ℕ) (f : Ctx → Ctx) : (State.modCtx s c f).keys = s.keys := rfl
@[simp] theorem State.modCtx_update (s : State) (c : ℕ) (f : Ctx → Ctx) : (State.modCtx s c f).update = s.update := rfl
@[simp] theorem State.modCtx_ptp (s : State) (c : ℕ) (f : Ctx → Ctx) : (State.modCtx s c f).ptp = s.ptp := rfl
@[simp] theorem State.modCtx_pair (s : State) (c : ℕ) (f : Ctx → Ctx) : (State.modCtx s c f).pair = s.pair := rfl
@[simp] theorem State.modCtx_port (s : State) (c : ℕ) (f : Ctx → Ctx) : (State.modCtx s c f).port = s.port := rfl
@[simp] theorem State.modCtx_tokens (s : State) (c : ℕ) (f : Ctx → Ctx) : (State.modCtx s c f).tokens = s.tokens := rfl
@[simp] theorem State.modCtx_tamper (s : State) (c : ℕ) (f : Ctx → Ctx) : (State.modCtx s c f).tamper = s.tamper := rfl
@[simp] theorem State.modCtx_safety (s : State) (c : ℕ) (f : Ctx → Ctx) : (State.modCtx s c f).safety = s.safety := rfl
@[simp] theorem State.modCtx_drives (s : State) (c : ℕ) (f : Ctx → Ctx) : (State.modCtx s c f).drives = s.drives := rfl
@[simp] theorem State.modCtx_supply (s : State) (c : ℕ) (f : Ctx → Ctx) : (State.modCtx s c f).supply = s.supply := rfl
@[simp] theorem State.modCtx_buses (s : State) (c : ℕ) (f : Ctx → Ctx) : (State.modCtx s c f).buses = s.buses := rfl
@[simp] theorem State.modCtx_pending (s : State) (c : ℕ) (f : Ctx → Ctx) : (State.modCtx s c f).pending = s.pending := rfl

/-! State.modScribe -/

@[simp] theorem State.modScribe_time (s : State) (f : Scribe → Scribe) : (State.modScribe s f).time = s.time := rfl
@[simp] theorem State.modScribe_free (s : State) (f : Scribe → Scribe) : (State.modScribe s f).free = s.free := rfl
@[simp] theorem State.modScribe_carousel (s : State) (f : Scribe → Scribe) : (State.modScribe s f).carousel = s.carousel := rfl
@[simp] theorem State.modScribe_wall (s : State) (f : Scribe → Scribe) : (State.modScribe s f).wall = s.wall := rfl
@[simp] theorem State.modScribe_startup (s : State) (f : Scribe → Scribe) : (State.modScribe s f).startup = s.startup := rfl
@[simp] theorem State.modScribe_flash (s : State) (f : Scribe → Scribe) : (State.modScribe s f).flash = s.flash := rfl
@[simp] theorem State.modScribe_array (s : State) (f : Scribe → Scribe) : (State.modScribe s f).array = s.array := rfl
@[simp] theorem State.modScribe_legs (s : State) (f : Scribe → Scribe) : (State.modScribe s f).legs = s.legs := rfl
@[simp] theorem State.modScribe_laws (s : State) (f : Scribe → Scribe) : (State.modScribe s f).laws = s.laws := rfl
@[simp] theorem State.modScribe_juggler (s : State) (f : Scribe → Scribe) : (State.modScribe s f).juggler = s.juggler := rfl
@[simp] theorem State.modScribe_thermal (s : State) (f : Scribe → Scribe) : (State.modScribe s f).thermal = s.thermal := rfl
@[simp] theorem State.modScribe_barker (s : State) (f : Scribe → Scribe) : (State.modScribe s f).barker = s.barker := rfl
@[simp] theorem State.modScribe_scribe (s : State) (f : Scribe → Scribe) : (State.modScribe s f).scribe = f s.scribe := rfl
@[simp] theorem State.modScribe_ident (s : State) (f : Scribe → Scribe) : (State.modScribe s f).ident = s.ident := rfl
@[simp] theorem State.modScribe_keys (s : State) (f : Scribe → Scribe) : (State.modScribe s f).keys = s.keys := rfl
@[simp] theorem State.modScribe_update (s : State) (f : Scribe → Scribe) : (State.modScribe s f).update = s.update := rfl
@[simp] theorem State.modScribe_ptp (s : State) (f : Scribe → Scribe) : (State.modScribe s f).ptp = s.ptp := rfl
@[simp] theorem State.modScribe_pair (s : State) (f : Scribe → Scribe) : (State.modScribe s f).pair = s.pair := rfl
@[simp] theorem State.modScribe_port (s : State) (f : Scribe → Scribe) : (State.modScribe s f).port = s.port := rfl
@[simp] theorem State.modScribe_tokens (s : State) (f : Scribe → Scribe) : (State.modScribe s f).tokens = s.tokens := rfl
@[simp] theorem State.modScribe_tamper (s : State) (f : Scribe → Scribe) : (State.modScribe s f).tamper = s.tamper := rfl
@[simp] theorem State.modScribe_safety (s : State) (f : Scribe → Scribe) : (State.modScribe s f).safety = s.safety := rfl
@[simp] theorem State.modScribe_drives (s : State) (f : Scribe → Scribe) : (State.modScribe s f).drives = s.drives := rfl
@[simp] theorem State.modScribe_supply (s : State) (f : Scribe → Scribe) : (State.modScribe s f).supply = s.supply := rfl
@[simp] theorem State.modScribe_buses (s : State) (f : Scribe → Scribe) : (State.modScribe s f).buses = s.buses := rfl
@[simp] theorem State.modScribe_pending (s : State) (f : Scribe → Scribe) : (State.modScribe s f).pending = s.pending := rfl

/-! State.modCore -/

@[simp] theorem State.modCore_time (s : State) (f : ScribeCore → ScribeCore) : (State.modCore s f).time = s.time := rfl
@[simp] theorem State.modCore_free (s : State) (f : ScribeCore → ScribeCore) : (State.modCore s f).free = s.free := rfl
@[simp] theorem State.modCore_carousel (s : State) (f : ScribeCore → ScribeCore) : (State.modCore s f).carousel = s.carousel := rfl
@[simp] theorem State.modCore_wall (s : State) (f : ScribeCore → ScribeCore) : (State.modCore s f).wall = s.wall := rfl
@[simp] theorem State.modCore_startup (s : State) (f : ScribeCore → ScribeCore) : (State.modCore s f).startup = s.startup := rfl
@[simp] theorem State.modCore_flash (s : State) (f : ScribeCore → ScribeCore) : (State.modCore s f).flash = s.flash := rfl
@[simp] theorem State.modCore_array (s : State) (f : ScribeCore → ScribeCore) : (State.modCore s f).array = s.array := rfl
@[simp] theorem State.modCore_legs (s : State) (f : ScribeCore → ScribeCore) : (State.modCore s f).legs = s.legs := rfl
@[simp] theorem State.modCore_laws (s : State) (f : ScribeCore → ScribeCore) : (State.modCore s f).laws = s.laws := rfl
@[simp] theorem State.modCore_juggler (s : State) (f : ScribeCore → ScribeCore) : (State.modCore s f).juggler = s.juggler := rfl
@[simp] theorem State.modCore_thermal (s : State) (f : ScribeCore → ScribeCore) : (State.modCore s f).thermal = s.thermal := rfl
@[simp] theorem State.modCore_barker (s : State) (f : ScribeCore → ScribeCore) : (State.modCore s f).barker = s.barker := rfl
@[simp] theorem State.modCore_ident (s : State) (f : ScribeCore → ScribeCore) : (State.modCore s f).ident = s.ident := rfl
@[simp] theorem State.modCore_keys (s : State) (f : ScribeCore → ScribeCore) : (State.modCore s f).keys = s.keys := rfl
@[simp] theorem State.modCore_update (s : State) (f : ScribeCore → ScribeCore) : (State.modCore s f).update = s.update := rfl
@[simp] theorem State.modCore_ptp (s : State) (f : ScribeCore → ScribeCore) : (State.modCore s f).ptp = s.ptp := rfl
@[simp] theorem State.modCore_pair (s : State) (f : ScribeCore → ScribeCore) : (State.modCore s f).pair = s.pair := rfl
@[simp] theorem State.modCore_port (s : State) (f : ScribeCore → ScribeCore) : (State.modCore s f).port = s.port := rfl
@[simp] theorem State.modCore_tokens (s : State) (f : ScribeCore → ScribeCore) : (State.modCore s f).tokens = s.tokens := rfl
@[simp] theorem State.modCore_tamper (s : State) (f : ScribeCore → ScribeCore) : (State.modCore s f).tamper = s.tamper := rfl
@[simp] theorem State.modCore_safety (s : State) (f : ScribeCore → ScribeCore) : (State.modCore s f).safety = s.safety := rfl
@[simp] theorem State.modCore_drives (s : State) (f : ScribeCore → ScribeCore) : (State.modCore s f).drives = s.drives := rfl
@[simp] theorem State.modCore_supply (s : State) (f : ScribeCore → ScribeCore) : (State.modCore s f).supply = s.supply := rfl
@[simp] theorem State.modCore_buses (s : State) (f : ScribeCore → ScribeCore) : (State.modCore s f).buses = s.buses := rfl
@[simp] theorem State.modCore_pending (s : State) (f : ScribeCore → ScribeCore) : (State.modCore s f).pending = s.pending := rfl

/-! State.modSessions -/

@[simp] theorem State.modSessions_time (s : State) (p : Session → Bool) (f : Session → Session) : (State.modSessions s p f).time = s.time := rfl
@[simp] theorem State.modSessions_free (s : State) (p : Session → Bool) (f : Session → Session) : (State.modSessions s p f).free = s.free := rfl
@[simp] theorem State.modSessions_carousel (s : State) (p : Session → Bool) (f : Session → Session) : (State.modSessions s p f).carousel = s.carousel := rfl
@[simp] theorem State.modSessions_wall (s : State) (p : Session → Bool) (f : Session → Session) : (State.modSessions s p f).wall = s.wall := rfl
@[simp] theorem State.modSessions_startup (s : State) (p : Session → Bool) (f : Session → Session) : (State.modSessions s p f).startup = s.startup := rfl
@[simp] theorem State.modSessions_flash (s : State) (p : Session → Bool) (f : Session → Session) : (State.modSessions s p f).flash = s.flash := rfl
@[simp] theorem State.modSessions_array (s : State) (p : Session → Bool) (f : Session → Session) : (State.modSessions s p f).array = s.array := rfl
@[simp] theorem State.modSessions_legs (s : State) (p : Session → Bool) (f : Session → Session) : (State.modSessions s p f).legs = s.legs := rfl
@[simp] theorem State.modSessions_laws (s : State) (p : Session → Bool) (f : Session → Session) : (State.modSessions s p f).laws = s.laws := rfl
@[simp] theorem State.modSessions_juggler (s : State) (p : Session → Bool) (f : Session → Session) : (State.modSessions s p f).juggler = s.juggler := rfl
@[simp] theorem State.modSessions_thermal (s : State) (p : Session → Bool) (f : Session → Session) : (State.modSessions s p f).thermal = s.thermal := rfl
@[simp] theorem State.modSessions_barker (s : State) (p : Session → Bool) (f : Session → Session) : (State.modSessions s p f).barker = s.barker := rfl
@[simp] theorem State.modSessions_ident (s : State) (p : Session → Bool) (f : Session → Session) : (State.modSessions s p f).ident = s.ident := rfl
@[simp] theorem State.modSessions_keys (s : State) (p : Session → Bool) (f : Session → Session) : (State.modSessions s p f).keys = s.keys := rfl
@[simp] theorem State.modSessions_update (s : State) (p : Session → Bool) (f : Session → Session) : (State.modSessions s p f).update = s.update := rfl
@[simp] theorem State.modSessions_ptp (s : State) (p : Session → Bool) (f : Session → Session) : (State.modSessions s p f).ptp = s.ptp := rfl
@[simp] theorem State.modSessions_pair (s : State) (p : Session → Bool) (f : Session → Session) : (State.modSessions s p f).pair = s.pair := rfl
@[simp] theorem State.modSessions_port (s : State) (p : Session → Bool) (f : Session → Session) : (State.modSessions s p f).port = s.port := rfl
@[simp] theorem State.modSessions_tokens (s : State) (p : Session → Bool) (f : Session → Session) : (State.modSessions s p f).tokens = s.tokens := rfl
@[simp] theorem State.modSessions_tamper (s : State) (p : Session → Bool) (f : Session → Session) : (State.modSessions s p f).tamper = s.tamper := rfl
@[simp] theorem State.modSessions_safety (s : State) (p : Session → Bool) (f : Session → Session) : (State.modSessions s p f).safety = s.safety := rfl
@[simp] theorem State.modSessions_drives (s : State) (p : Session → Bool) (f : Session → Session) : (State.modSessions s p f).drives = s.drives := rfl
@[simp] theorem State.modSessions_supply (s : State) (p : Session → Bool) (f : Session → Session) : (State.modSessions s p f).supply = s.supply := rfl
@[simp] theorem State.modSessions_buses (s : State) (p : Session → Bool) (f : Session → Session) : (State.modSessions s p f).buses = s.buses := rfl
@[simp] theorem State.modSessions_pending (s : State) (p : Session → Bool) (f : Session → Session) : (State.modSessions s p f).pending = s.pending := rfl

/-! State.modRegs -/

@[simp] theorem State.modRegs_time (s : State) (o : ℕ) (f : Regs → Regs) : (State.modRegs s o f).time = s.time := rfl
@[simp] theorem State.modRegs_free (s : State) (o : ℕ) (f : Regs → Regs) : (State.modRegs s o f).free = s.free := rfl
@[simp] theorem State.modRegs_carousel (s : State) (o : ℕ) (f : Regs → Regs) : (State.modRegs s o f).carousel = s.carousel := rfl
@[simp] theorem State.modRegs_wall (s : State) (o : ℕ) (f : Regs → Regs) : (State.modRegs s o f).wall = s.wall := rfl
@[simp] theorem State.modRegs_startup (s : State) (o : ℕ) (f : Regs → Regs) : (State.modRegs s o f).startup = s.startup := rfl
@[simp] theorem State.modRegs_flash (s : State) (o : ℕ) (f : Regs → Regs) : (State.modRegs s o f).flash = s.flash := rfl
@[simp] theorem State.modRegs_array (s : State) (o : ℕ) (f : Regs → Regs) : (State.modRegs s o f).array = s.array := rfl
@[simp] theorem State.modRegs_legs (s : State) (o : ℕ) (f : Regs → Regs) : (State.modRegs s o f).legs = s.legs := rfl
@[simp] theorem State.modRegs_laws (s : State) (o : ℕ) (f : Regs → Regs) : (State.modRegs s o f).laws = s.laws := rfl
@[simp] theorem State.modRegs_juggler (s : State) (o : ℕ) (f : Regs → Regs) : (State.modRegs s o f).juggler = s.juggler := rfl
@[simp] theorem State.modRegs_thermal (s : State) (o : ℕ) (f : Regs → Regs) : (State.modRegs s o f).thermal = s.thermal := rfl
@[simp] theorem State.modRegs_barker (s : State) (o : ℕ) (f : Regs → Regs) : (State.modRegs s o f).barker = s.barker := rfl
@[simp] theorem State.modRegs_ident (s : State) (o : ℕ) (f : Regs → Regs) : (State.modRegs s o f).ident = s.ident := rfl
@[simp] theorem State.modRegs_keys (s : State) (o : ℕ) (f : Regs → Regs) : (State.modRegs s o f).keys = s.keys := rfl
@[simp] theorem State.modRegs_update (s : State) (o : ℕ) (f : Regs → Regs) : (State.modRegs s o f).update = s.update := rfl
@[simp] theorem State.modRegs_ptp (s : State) (o : ℕ) (f : Regs → Regs) : (State.modRegs s o f).ptp = s.ptp := rfl
@[simp] theorem State.modRegs_pair (s : State) (o : ℕ) (f : Regs → Regs) : (State.modRegs s o f).pair = s.pair := rfl
@[simp] theorem State.modRegs_port (s : State) (o : ℕ) (f : Regs → Regs) : (State.modRegs s o f).port = s.port := rfl
@[simp] theorem State.modRegs_tokens (s : State) (o : ℕ) (f : Regs → Regs) : (State.modRegs s o f).tokens = s.tokens := rfl
@[simp] theorem State.modRegs_tamper (s : State) (o : ℕ) (f : Regs → Regs) : (State.modRegs s o f).tamper = s.tamper := rfl
@[simp] theorem State.modRegs_safety (s : State) (o : ℕ) (f : Regs → Regs) : (State.modRegs s o f).safety = s.safety := rfl
@[simp] theorem State.modRegs_drives (s : State) (o : ℕ) (f : Regs → Regs) : (State.modRegs s o f).drives = s.drives := rfl
@[simp] theorem State.modRegs_supply (s : State) (o : ℕ) (f : Regs → Regs) : (State.modRegs s o f).supply = s.supply := rfl
@[simp] theorem State.modRegs_buses (s : State) (o : ℕ) (f : Regs → Regs) : (State.modRegs s o f).buses = s.buses := rfl
@[simp] theorem State.modRegs_pending (s : State) (o : ℕ) (f : Regs → Regs) : (State.modRegs s o f).pending = s.pending := rfl

/-! State.modTokens -/

@[simp] theorem State.modTokens_time (s : State) (f : Tokens → Tokens) : (State.modTokens s f).time = s.time := rfl
@[simp] theorem State.modTokens_free (s : State) (f : Tokens → Tokens) : (State.modTokens s f).free = s.free := rfl
@[simp] theorem State.modTokens_carousel (s : State) (f : Tokens → Tokens) : (State.modTokens s f).carousel = s.carousel := rfl
@[simp] theorem State.modTokens_wall (s : State) (f : Tokens → Tokens) : (State.modTokens s f).wall = s.wall := rfl
@[simp] theorem State.modTokens_startup (s : State) (f : Tokens → Tokens) : (State.modTokens s f).startup = s.startup := rfl
@[simp] theorem State.modTokens_flash (s : State) (f : Tokens → Tokens) : (State.modTokens s f).flash = s.flash := rfl
@[simp] theorem State.modTokens_array (s : State) (f : Tokens → Tokens) : (State.modTokens s f).array = s.array := rfl
@[simp] theorem State.modTokens_legs (s : State) (f : Tokens → Tokens) : (State.modTokens s f).legs = s.legs := rfl
@[simp] theorem State.modTokens_laws (s : State) (f : Tokens → Tokens) : (State.modTokens s f).laws = s.laws := rfl
@[simp] theorem State.modTokens_juggler (s : State) (f : Tokens → Tokens) : (State.modTokens s f).juggler = s.juggler := rfl
@[simp] theorem State.modTokens_thermal (s : State) (f : Tokens → Tokens) : (State.modTokens s f).thermal = s.thermal := rfl
@[simp] theorem State.modTokens_barker (s : State) (f : Tokens → Tokens) : (State.modTokens s f).barker = s.barker := rfl
@[simp] theorem State.modTokens_scribe (s : State) (f : Tokens → Tokens) : (State.modTokens s f).scribe = s.scribe := rfl
@[simp] theorem State.modTokens_ident (s : State) (f : Tokens → Tokens) : (State.modTokens s f).ident = s.ident := rfl
@[simp] theorem State.modTokens_keys (s : State) (f : Tokens → Tokens) : (State.modTokens s f).keys = s.keys := rfl
@[simp] theorem State.modTokens_update (s : State) (f : Tokens → Tokens) : (State.modTokens s f).update = s.update := rfl
@[simp] theorem State.modTokens_ptp (s : State) (f : Tokens → Tokens) : (State.modTokens s f).ptp = s.ptp := rfl
@[simp] theorem State.modTokens_pair (s : State) (f : Tokens → Tokens) : (State.modTokens s f).pair = s.pair := rfl
@[simp] theorem State.modTokens_port (s : State) (f : Tokens → Tokens) : (State.modTokens s f).port = s.port := rfl
@[simp] theorem State.modTokens_tokens (s : State) (f : Tokens → Tokens) : (State.modTokens s f).tokens = f s.tokens := rfl
@[simp] theorem State.modTokens_tamper (s : State) (f : Tokens → Tokens) : (State.modTokens s f).tamper = s.tamper := rfl
@[simp] theorem State.modTokens_safety (s : State) (f : Tokens → Tokens) : (State.modTokens s f).safety = s.safety := rfl
@[simp] theorem State.modTokens_drives (s : State) (f : Tokens → Tokens) : (State.modTokens s f).drives = s.drives := rfl
@[simp] theorem State.modTokens_supply (s : State) (f : Tokens → Tokens) : (State.modTokens s f).supply = s.supply := rfl
@[simp] theorem State.modTokens_buses (s : State) (f : Tokens → Tokens) : (State.modTokens s f).buses = s.buses := rfl
@[simp] theorem State.modTokens_pending (s : State) (f : Tokens → Tokens) : (State.modTokens s f).pending = s.pending := rfl

/-! State.modTok -/

@[simp] theorem State.modTok_time (s : State) (o : ℕ) (f : TokenOutlet → TokenOutlet) : (State.modTok s o f).time = s.time := rfl
@[simp] theorem State.modTok_free (s : State) (o : ℕ) (f : TokenOutlet → TokenOutlet) : (State.modTok s o f).free = s.free := rfl
@[simp] theorem State.modTok_carousel (s : State) (o : ℕ) (f : TokenOutlet → TokenOutlet) : (State.modTok s o f).carousel = s.carousel := rfl
@[simp] theorem State.modTok_wall (s : State) (o : ℕ) (f : TokenOutlet → TokenOutlet) : (State.modTok s o f).wall = s.wall := rfl
@[simp] theorem State.modTok_startup (s : State) (o : ℕ) (f : TokenOutlet → TokenOutlet) : (State.modTok s o f).startup = s.startup := rfl
@[simp] theorem State.modTok_flash (s : State) (o : ℕ) (f : TokenOutlet → TokenOutlet) : (State.modTok s o f).flash = s.flash := rfl
@[simp] theorem State.modTok_array (s : State) (o : ℕ) (f : TokenOutlet → TokenOutlet) : (State.modTok s o f).array = s.array := rfl
@[simp] theorem State.modTok_legs (s : State) (o : ℕ) (f : TokenOutlet → TokenOutlet) : (State.modTok s o f).legs = s.legs := rfl
@[simp] theorem State.modTok_laws (s : State) (o : ℕ) (f : TokenOutlet → TokenOutlet) : (State.modTok s o f).laws = s.laws := rfl
@[simp] theorem State.modTok_juggler (s : State) (o : ℕ) (f : TokenOutlet → TokenOutlet) : (State.modTok s o f).juggler = s.juggler := rfl
@[simp] theorem State.modTok_thermal (s : State) (o : ℕ) (f : TokenOutlet → TokenOutlet) : (State.modTok s o f).thermal = s.thermal := rfl
@[simp] theorem State.modTok_barker (s : State) (o : ℕ) (f : TokenOutlet → TokenOutlet) : (State.modTok s o f).barker = s.barker := rfl
@[simp] theorem State.modTok_scribe (s : State) (o : ℕ) (f : TokenOutlet → TokenOutlet) : (State.modTok s o f).scribe = s.scribe := rfl
@[simp] theorem State.modTok_ident (s : State) (o : ℕ) (f : TokenOutlet → TokenOutlet) : (State.modTok s o f).ident = s.ident := rfl
@[simp] theorem State.modTok_keys (s : State) (o : ℕ) (f : TokenOutlet → TokenOutlet) : (State.modTok s o f).keys = s.keys := rfl
@[simp] theorem State.modTok_update (s : State) (o : ℕ) (f : TokenOutlet → TokenOutlet) : (State.modTok s o f).update = s.update := rfl
@[simp] theorem State.modTok_ptp (s : State) (o : ℕ) (f : TokenOutlet → TokenOutlet) : (State.modTok s o f).ptp = s.ptp := rfl
@[simp] theorem State.modTok_pair (s : State) (o : ℕ) (f : TokenOutlet → TokenOutlet) : (State.modTok s o f).pair = s.pair := rfl
@[simp] theorem State.modTok_port (s : State) (o : ℕ) (f : TokenOutlet → TokenOutlet) : (State.modTok s o f).port = s.port := rfl
@[simp] theorem State.modTok_tamper (s : State) (o : ℕ) (f : TokenOutlet → TokenOutlet) : (State.modTok s o f).tamper = s.tamper := rfl
@[simp] theorem State.modTok_safety (s : State) (o : ℕ) (f : TokenOutlet → TokenOutlet) : (State.modTok s o f).safety = s.safety := rfl
@[simp] theorem State.modTok_drives (s : State) (o : ℕ) (f : TokenOutlet → TokenOutlet) : (State.modTok s o f).drives = s.drives := rfl
@[simp] theorem State.modTok_supply (s : State) (o : ℕ) (f : TokenOutlet → TokenOutlet) : (State.modTok s o f).supply = s.supply := rfl
@[simp] theorem State.modTok_buses (s : State) (o : ℕ) (f : TokenOutlet → TokenOutlet) : (State.modTok s o f).buses = s.buses := rfl
@[simp] theorem State.modTok_pending (s : State) (o : ℕ) (f : TokenOutlet → TokenOutlet) : (State.modTok s o f).pending = s.pending := rfl

/-! State.modSlot -/

@[simp] theorem State.modSlot_time (s : State) (i : ℕ) (f : KeySlot → KeySlot) : (State.modSlot s i f).time = s.time := rfl
@[simp] theorem State.modSlot_free (s : State) (i : ℕ) (f : KeySlot → KeySlot) : (State.modSlot s i f).free = s.free := rfl
@[simp] theorem State.modSlot_carousel (s : State) (i : ℕ) (f : KeySlot → KeySlot) : (State.modSlot s i f).carousel = s.carousel := rfl
@[simp] theorem State.modSlot_wall (s : State) (i : ℕ) (f : KeySlot → KeySlot) : (State.modSlot s i f).wall = s.wall := rfl
@[simp] theorem State.modSlot_startup (s : State) (i : ℕ) (f : KeySlot → KeySlot) : (State.modSlot s i f).startup = s.startup := rfl
@[simp] theorem State.modSlot_flash (s : State) (i : ℕ) (f : KeySlot → KeySlot) : (State.modSlot s i f).flash = s.flash := rfl
@[simp] theorem State.modSlot_array (s : State) (i : ℕ) (f : KeySlot → KeySlot) : (State.modSlot s i f).array = s.array := rfl
@[simp] theorem State.modSlot_legs (s : State) (i : ℕ) (f : KeySlot → KeySlot) : (State.modSlot s i f).legs = s.legs := rfl
@[simp] theorem State.modSlot_laws (s : State) (i : ℕ) (f : KeySlot → KeySlot) : (State.modSlot s i f).laws = s.laws := rfl
@[simp] theorem State.modSlot_juggler (s : State) (i : ℕ) (f : KeySlot → KeySlot) : (State.modSlot s i f).juggler = s.juggler := rfl
@[simp] theorem State.modSlot_thermal (s : State) (i : ℕ) (f : KeySlot → KeySlot) : (State.modSlot s i f).thermal = s.thermal := rfl
@[simp] theorem State.modSlot_barker (s : State) (i : ℕ) (f : KeySlot → KeySlot) : (State.modSlot s i f).barker = s.barker := rfl
@[simp] theorem State.modSlot_scribe (s : State) (i : ℕ) (f : KeySlot → KeySlot) : (State.modSlot s i f).scribe = s.scribe := rfl
@[simp] theorem State.modSlot_ident (s : State) (i : ℕ) (f : KeySlot → KeySlot) : (State.modSlot s i f).ident = s.ident := rfl
@[simp] theorem State.modSlot_update (s : State) (i : ℕ) (f : KeySlot → KeySlot) : (State.modSlot s i f).update = s.update := rfl
@[simp] theorem State.modSlot_ptp (s : State) (i : ℕ) (f : KeySlot → KeySlot) : (State.modSlot s i f).ptp = s.ptp := rfl
@[simp] theorem State.modSlot_pair (s : State) (i : ℕ) (f : KeySlot → KeySlot) : (State.modSlot s i f).pair = s.pair := rfl
@[simp] theorem State.modSlot_port (s : State) (i : ℕ) (f : KeySlot → KeySlot) : (State.modSlot s i f).port = s.port := rfl
@[simp] theorem State.modSlot_tokens (s : State) (i : ℕ) (f : KeySlot → KeySlot) : (State.modSlot s i f).tokens = s.tokens := rfl
@[simp] theorem State.modSlot_tamper (s : State) (i : ℕ) (f : KeySlot → KeySlot) : (State.modSlot s i f).tamper = s.tamper := rfl
@[simp] theorem State.modSlot_safety (s : State) (i : ℕ) (f : KeySlot → KeySlot) : (State.modSlot s i f).safety = s.safety := rfl
@[simp] theorem State.modSlot_drives (s : State) (i : ℕ) (f : KeySlot → KeySlot) : (State.modSlot s i f).drives = s.drives := rfl
@[simp] theorem State.modSlot_supply (s : State) (i : ℕ) (f : KeySlot → KeySlot) : (State.modSlot s i f).supply = s.supply := rfl
@[simp] theorem State.modSlot_buses (s : State) (i : ℕ) (f : KeySlot → KeySlot) : (State.modSlot s i f).buses = s.buses := rfl
@[simp] theorem State.modSlot_pending (s : State) (i : ℕ) (f : KeySlot → KeySlot) : (State.modSlot s i f).pending = s.pending := rfl

/-! State.modJug -/

@[simp] theorem State.modJug_time (s : State) (f : Juggler → Juggler) : (State.modJug s f).time = s.time := rfl
@[simp] theorem State.modJug_free (s : State) (f : Juggler → Juggler) : (State.modJug s f).free = s.free := rfl
@[simp] theorem State.modJug_carousel (s : State) (f : Juggler → Juggler) : (State.modJug s f).carousel = s.carousel := rfl
@[simp] theorem State.modJug_wall (s : State) (f : Juggler → Juggler) : (State.modJug s f).wall = s.wall := rfl
@[simp] theorem State.modJug_startup (s : State) (f : Juggler → Juggler) : (State.modJug s f).startup = s.startup := rfl
@[simp] theorem State.modJug_flash (s : State) (f : Juggler → Juggler) : (State.modJug s f).flash = s.flash := rfl
@[simp] theorem State.modJug_array (s : State) (f : Juggler → Juggler) : (State.modJug s f).array = s.array := rfl
@[simp] theorem State.modJug_legs (s : State) (f : Juggler → Juggler) : (State.modJug s f).legs = s.legs := rfl
@[simp] theorem State.modJug_laws (s : State) (f : Juggler → Juggler) : (State.modJug s f).laws = s.laws := rfl
@[simp] theorem State.modJug_juggler (s : State) (f : Juggler → Juggler) : (State.modJug s f).juggler = f s.juggler := rfl
@[simp] theorem State.modJug_thermal (s : State) (f : Juggler → Juggler) : (State.modJug s f).thermal = s.thermal := rfl
@[simp] theorem State.modJug_barker (s : State) (f : Juggler → Juggler) : (State.modJug s f).barker = s.barker := rfl
@[simp] theorem State.modJug_scribe (s : State) (f : Juggler → Juggler) : (State.modJug s f).scribe = s.scribe := rfl
@[simp] theorem State.modJug_ident (s : State) (f : Juggler → Juggler) : (State.modJug s f).ident = s.ident := rfl
@[simp] theorem State.modJug_keys (s : State) (f : Juggler → Juggler) : (State.modJug s f).keys = s.keys := rfl
@[simp] theorem State.modJug_update (s : State) (f : Juggler → Juggler) : (State.modJug s f).update = s.update := rfl
@[simp] theorem State.modJug_ptp (s : State) (f : Juggler → Juggler) : (State.modJug s f).ptp = s.ptp := rfl
@[simp] theorem State.modJug_pair (s : State) (f : Juggler → Juggler) : (State.modJug s f).pair = s.pair := rfl
@[simp] theorem State.modJug_port (s : State) (f : Juggler → Juggler) : (State.modJug s f).port = s.port := rfl
@[simp] theorem State.modJug_tokens (s : State) (f : Juggler → Juggler) : (State.modJug s f).tokens = s.tokens := rfl
@[simp] theorem State.modJug_tamper (s : State) (f : Juggler → Juggler) : (State.modJug s f).tamper = s.tamper := rfl
@[simp] theorem State.modJug_safety (s : State) (f : Juggler → Juggler) : (State.modJug s f).safety = s.safety := rfl
@[simp] theorem State.modJug_drives (s : State) (f : Juggler → Juggler) : (State.modJug s f).drives = s.drives := rfl
@[simp] theorem State.modJug_supply (s : State) (f : Juggler → Juggler) : (State.modJug s f).supply = s.supply := rfl
@[simp] theorem State.modJug_buses (s : State) (f : Juggler → Juggler) : (State.modJug s f).buses = s.buses := rfl
@[simp] theorem State.modJug_pending (s : State) (f : Juggler → Juggler) : (State.modJug s f).pending = s.pending := rfl

/-! State.modDisp -/

@[simp] theorem State.modDisp_time (s : State) (o : ℕ) (f : Disp → Disp) : (State.modDisp s o f).time = s.time := rfl
@[simp] theorem State.modDisp_free (s : State) (o : ℕ) (f : Disp → Disp) : (State.modDisp s o f).free = s.free := rfl
@[simp] theorem State.modDisp_carousel (s : State) (o : ℕ) (f : Disp → Disp) : (State.modDisp s o f).carousel = s.carousel := rfl
@[simp] theorem State.modDisp_wall (s : State) (o : ℕ) (f : Disp → Disp) : (State.modDisp s o f).wall = s.wall := rfl
@[simp] theorem State.modDisp_startup (s : State) (o : ℕ) (f : Disp → Disp) : (State.modDisp s o f).startup = s.startup := rfl
@[simp] theorem State.modDisp_flash (s : State) (o : ℕ) (f : Disp → Disp) : (State.modDisp s o f).flash = s.flash := rfl
@[simp] theorem State.modDisp_array (s : State) (o : ℕ) (f : Disp → Disp) : (State.modDisp s o f).array = s.array := rfl
@[simp] theorem State.modDisp_legs (s : State) (o : ℕ) (f : Disp → Disp) : (State.modDisp s o f).legs = s.legs := rfl
@[simp] theorem State.modDisp_laws (s : State) (o : ℕ) (f : Disp → Disp) : (State.modDisp s o f).laws = s.laws := rfl
@[simp] theorem State.modDisp_juggler (s : State) (o : ℕ) (f : Disp → Disp) : (State.modDisp s o f).juggler = s.juggler := rfl
@[simp] theorem State.modDisp_thermal (s : State) (o : ℕ) (f : Disp → Disp) : (State.modDisp s o f).thermal = s.thermal := rfl
@[simp] theorem State.modDisp_scribe (s : State) (o : ℕ) (f : Disp → Disp) : (State.modDisp s o f).scribe = s.scribe := rfl
@[simp] theorem State.modDisp_ident (s : State) (o : ℕ) (f : Disp → Disp) : (State.modDisp s o f).ident = s.ident := rfl
@[simp] theorem State.modDisp_keys (s : State) (o : ℕ) (f : Disp → Disp) : (State.modDisp s o f).keys = s.keys := rfl
@[simp] theorem State.modDisp_update (s : State) (o : ℕ) (f : Disp → Disp) : (State.modDisp s o f).update = s.update := rfl
@[simp] theorem State.modDisp_ptp (s : State) (o : ℕ) (f : Disp → Disp) : (State.modDisp s o f).ptp = s.ptp := rfl
@[simp] theorem State.modDisp_pair (s : State) (o : ℕ) (f : Disp → Disp) : (State.modDisp s o f).pair = s.pair := rfl
@[simp] theorem State.modDisp_port (s : State) (o : ℕ) (f : Disp → Disp) : (State.modDisp s o f).port = s.port := rfl
@[simp] theorem State.modDisp_tokens (s : State) (o : ℕ) (f : Disp → Disp) : (State.modDisp s o f).tokens = s.tokens := rfl
@[simp] theorem State.modDisp_tamper (s : State) (o : ℕ) (f : Disp → Disp) : (State.modDisp s o f).tamper = s.tamper := rfl
@[simp] theorem State.modDisp_safety (s : State) (o : ℕ) (f : Disp → Disp) : (State.modDisp s o f).safety = s.safety := rfl
@[simp] theorem State.modDisp_drives (s : State) (o : ℕ) (f : Disp → Disp) : (State.modDisp s o f).drives = s.drives := rfl
@[simp] theorem State.modDisp_supply (s : State) (o : ℕ) (f : Disp → Disp) : (State.modDisp s o f).supply = s.supply := rfl
@[simp] theorem State.modDisp_buses (s : State) (o : ℕ) (f : Disp → Disp) : (State.modDisp s o f).buses = s.buses := rfl
@[simp] theorem State.modDisp_pending (s : State) (o : ℕ) (f : Disp → Disp) : (State.modDisp s o f).pending = s.pending := rfl

/-! State.modFolio -/

@[simp] theorem State.modFolio_time (s : State) (k : ℕ) (f : Folio → Folio) : (State.modFolio s k f).time = s.time := rfl
@[simp] theorem State.modFolio_free (s : State) (k : ℕ) (f : Folio → Folio) : (State.modFolio s k f).free = s.free := rfl
@[simp] theorem State.modFolio_carousel (s : State) (k : ℕ) (f : Folio → Folio) : (State.modFolio s k f).carousel = s.carousel := rfl
@[simp] theorem State.modFolio_wall (s : State) (k : ℕ) (f : Folio → Folio) : (State.modFolio s k f).wall = s.wall := rfl
@[simp] theorem State.modFolio_startup (s : State) (k : ℕ) (f : Folio → Folio) : (State.modFolio s k f).startup = s.startup := rfl
@[simp] theorem State.modFolio_flash (s : State) (k : ℕ) (f : Folio → Folio) : (State.modFolio s k f).flash = s.flash := rfl
@[simp] theorem State.modFolio_array (s : State) (k : ℕ) (f : Folio → Folio) : (State.modFolio s k f).array = s.array := rfl
@[simp] theorem State.modFolio_legs (s : State) (k : ℕ) (f : Folio → Folio) : (State.modFolio s k f).legs = s.legs := rfl
@[simp] theorem State.modFolio_laws (s : State) (k : ℕ) (f : Folio → Folio) : (State.modFolio s k f).laws = s.laws := rfl
@[simp] theorem State.modFolio_juggler (s : State) (k : ℕ) (f : Folio → Folio) : (State.modFolio s k f).juggler = s.juggler := rfl
@[simp] theorem State.modFolio_barker (s : State) (k : ℕ) (f : Folio → Folio) : (State.modFolio s k f).barker = s.barker := rfl
@[simp] theorem State.modFolio_scribe (s : State) (k : ℕ) (f : Folio → Folio) : (State.modFolio s k f).scribe = s.scribe := rfl
@[simp] theorem State.modFolio_ident (s : State) (k : ℕ) (f : Folio → Folio) : (State.modFolio s k f).ident = s.ident := rfl
@[simp] theorem State.modFolio_keys (s : State) (k : ℕ) (f : Folio → Folio) : (State.modFolio s k f).keys = s.keys := rfl
@[simp] theorem State.modFolio_update (s : State) (k : ℕ) (f : Folio → Folio) : (State.modFolio s k f).update = s.update := rfl
@[simp] theorem State.modFolio_ptp (s : State) (k : ℕ) (f : Folio → Folio) : (State.modFolio s k f).ptp = s.ptp := rfl
@[simp] theorem State.modFolio_pair (s : State) (k : ℕ) (f : Folio → Folio) : (State.modFolio s k f).pair = s.pair := rfl
@[simp] theorem State.modFolio_port (s : State) (k : ℕ) (f : Folio → Folio) : (State.modFolio s k f).port = s.port := rfl
@[simp] theorem State.modFolio_tokens (s : State) (k : ℕ) (f : Folio → Folio) : (State.modFolio s k f).tokens = s.tokens := rfl
@[simp] theorem State.modFolio_tamper (s : State) (k : ℕ) (f : Folio → Folio) : (State.modFolio s k f).tamper = s.tamper := rfl
@[simp] theorem State.modFolio_safety (s : State) (k : ℕ) (f : Folio → Folio) : (State.modFolio s k f).safety = s.safety := rfl
@[simp] theorem State.modFolio_drives (s : State) (k : ℕ) (f : Folio → Folio) : (State.modFolio s k f).drives = s.drives := rfl
@[simp] theorem State.modFolio_supply (s : State) (k : ℕ) (f : Folio → Folio) : (State.modFolio s k f).supply = s.supply := rfl
@[simp] theorem State.modFolio_buses (s : State) (k : ℕ) (f : Folio → Folio) : (State.modFolio s k f).buses = s.buses := rfl
@[simp] theorem State.modFolio_pending (s : State) (k : ℕ) (f : Folio → Folio) : (State.modFolio s k f).pending = s.pending := rfl

/-! State.modNode -/

@[simp] theorem State.modNode_time (s : State) (g : ℕ) (f : TNode → TNode) : (State.modNode s g f).time = s.time := rfl
@[simp] theorem State.modNode_free (s : State) (g : ℕ) (f : TNode → TNode) : (State.modNode s g f).free = s.free := rfl
@[simp] theorem State.modNode_carousel (s : State) (g : ℕ) (f : TNode → TNode) : (State.modNode s g f).carousel = s.carousel := rfl
@[simp] theorem State.modNode_wall (s : State) (g : ℕ) (f : TNode → TNode) : (State.modNode s g f).wall = s.wall := rfl
@[simp] theorem State.modNode_startup (s : State) (g : ℕ) (f : TNode → TNode) : (State.modNode s g f).startup = s.startup := rfl
@[simp] theorem State.modNode_flash (s : State) (g : ℕ) (f : TNode → TNode) : (State.modNode s g f).flash = s.flash := rfl
@[simp] theorem State.modNode_array (s : State) (g : ℕ) (f : TNode → TNode) : (State.modNode s g f).array = s.array := rfl
@[simp] theorem State.modNode_legs (s : State) (g : ℕ) (f : TNode → TNode) : (State.modNode s g f).legs = s.legs := rfl
@[simp] theorem State.modNode_laws (s : State) (g : ℕ) (f : TNode → TNode) : (State.modNode s g f).laws = s.laws := rfl
@[simp] theorem State.modNode_juggler (s : State) (g : ℕ) (f : TNode → TNode) : (State.modNode s g f).juggler = s.juggler := rfl
@[simp] theorem State.modNode_barker (s : State) (g : ℕ) (f : TNode → TNode) : (State.modNode s g f).barker = s.barker := rfl
@[simp] theorem State.modNode_scribe (s : State) (g : ℕ) (f : TNode → TNode) : (State.modNode s g f).scribe = s.scribe := rfl
@[simp] theorem State.modNode_ident (s : State) (g : ℕ) (f : TNode → TNode) : (State.modNode s g f).ident = s.ident := rfl
@[simp] theorem State.modNode_keys (s : State) (g : ℕ) (f : TNode → TNode) : (State.modNode s g f).keys = s.keys := rfl
@[simp] theorem State.modNode_update (s : State) (g : ℕ) (f : TNode → TNode) : (State.modNode s g f).update = s.update := rfl
@[simp] theorem State.modNode_ptp (s : State) (g : ℕ) (f : TNode → TNode) : (State.modNode s g f).ptp = s.ptp := rfl
@[simp] theorem State.modNode_pair (s : State) (g : ℕ) (f : TNode → TNode) : (State.modNode s g f).pair = s.pair := rfl
@[simp] theorem State.modNode_port (s : State) (g : ℕ) (f : TNode → TNode) : (State.modNode s g f).port = s.port := rfl
@[simp] theorem State.modNode_tokens (s : State) (g : ℕ) (f : TNode → TNode) : (State.modNode s g f).tokens = s.tokens := rfl
@[simp] theorem State.modNode_tamper (s : State) (g : ℕ) (f : TNode → TNode) : (State.modNode s g f).tamper = s.tamper := rfl
@[simp] theorem State.modNode_safety (s : State) (g : ℕ) (f : TNode → TNode) : (State.modNode s g f).safety = s.safety := rfl
@[simp] theorem State.modNode_drives (s : State) (g : ℕ) (f : TNode → TNode) : (State.modNode s g f).drives = s.drives := rfl
@[simp] theorem State.modNode_supply (s : State) (g : ℕ) (f : TNode → TNode) : (State.modNode s g f).supply = s.supply := rfl
@[simp] theorem State.modNode_buses (s : State) (g : ℕ) (f : TNode → TNode) : (State.modNode s g f).buses = s.buses := rfl
@[simp] theorem State.modNode_pending (s : State) (g : ℕ) (f : TNode → TNode) : (State.modNode s g f).pending = s.pending := rfl

/-! State.modPump -/

@[simp] theorem State.modPump_time (s : State) (n : ℕ) (f : Pump → Pump) : (State.modPump s n f).time = s.time := rfl
@[simp] theorem State.modPump_free (s : State) (n : ℕ) (f : Pump → Pump) : (State.modPump s n f).free = s.free := rfl
@[simp] theorem State.modPump_carousel (s : State) (n : ℕ) (f : Pump → Pump) : (State.modPump s n f).carousel = s.carousel := rfl
@[simp] theorem State.modPump_wall (s : State) (n : ℕ) (f : Pump → Pump) : (State.modPump s n f).wall = s.wall := rfl
@[simp] theorem State.modPump_startup (s : State) (n : ℕ) (f : Pump → Pump) : (State.modPump s n f).startup = s.startup := rfl
@[simp] theorem State.modPump_flash (s : State) (n : ℕ) (f : Pump → Pump) : (State.modPump s n f).flash = s.flash := rfl
@[simp] theorem State.modPump_array (s : State) (n : ℕ) (f : Pump → Pump) : (State.modPump s n f).array = s.array := rfl
@[simp] theorem State.modPump_legs (s : State) (n : ℕ) (f : Pump → Pump) : (State.modPump s n f).legs = s.legs := rfl
@[simp] theorem State.modPump_laws (s : State) (n : ℕ) (f : Pump → Pump) : (State.modPump s n f).laws = s.laws := rfl
@[simp] theorem State.modPump_juggler (s : State) (n : ℕ) (f : Pump → Pump) : (State.modPump s n f).juggler = s.juggler := rfl
@[simp] theorem State.modPump_thermal (s : State) (n : ℕ) (f : Pump → Pump) : (State.modPump s n f).thermal = s.thermal := rfl
@[simp] theorem State.modPump_barker (s : State) (n : ℕ) (f : Pump → Pump) : (State.modPump s n f).barker = s.barker := rfl
@[simp] theorem State.modPump_scribe (s : State) (n : ℕ) (f : Pump → Pump) : (State.modPump s n f).scribe = s.scribe := rfl
@[simp] theorem State.modPump_ident (s : State) (n : ℕ) (f : Pump → Pump) : (State.modPump s n f).ident = s.ident := rfl
@[simp] theorem State.modPump_keys (s : State) (n : ℕ) (f : Pump → Pump) : (State.modPump s n f).keys = s.keys := rfl
@[simp] theorem State.modPump_update (s : State) (n : ℕ) (f : Pump → Pump) : (State.modPump s n f).update = s.update := rfl
@[simp] theorem State.modPump_ptp (s : State) (n : ℕ) (f : Pump → Pump) : (State.modPump s n f).ptp = s.ptp := rfl
@[simp] theorem State.modPump_pair (s : State) (n : ℕ) (f : Pump → Pump) : (State.modPump s n f).pair = s.pair := rfl
@[simp] theorem State.modPump_port (s : State) (n : ℕ) (f : Pump → Pump) : (State.modPump s n f).port = s.port := rfl
@[simp] theorem State.modPump_tokens (s : State) (n : ℕ) (f : Pump → Pump) : (State.modPump s n f).tokens = s.tokens := rfl
@[simp] theorem State.modPump_tamper (s : State) (n : ℕ) (f : Pump → Pump) : (State.modPump s n f).tamper = s.tamper := rfl
@[simp] theorem State.modPump_safety (s : State) (n : ℕ) (f : Pump → Pump) : (State.modPump s n f).safety = s.safety := rfl
@[simp] theorem State.modPump_supply (s : State) (n : ℕ) (f : Pump → Pump) : (State.modPump s n f).supply = s.supply := rfl
@[simp] theorem State.modPump_buses (s : State) (n : ℕ) (f : Pump → Pump) : (State.modPump s n f).buses = s.buses := rfl
@[simp] theorem State.modPump_pending (s : State) (n : ℕ) (f : Pump → Pump) : (State.modPump s n f).pending = s.pending := rfl

/-! State.selfTest -/

@[simp] theorem State.selfTest_time (s : State) (n : ℕ) (pass : Bool) : (State.selfTest s n pass).time = s.time := (State.selfTest_chg s n pass).same .time rfl
@[simp] theorem State.selfTest_free (s : State) (n : ℕ) (pass : Bool) : (State.selfTest s n pass).free = s.free := (State.selfTest_chg s n pass).same .free rfl
@[simp] theorem State.selfTest_carousel (s : State) (n : ℕ) (pass : Bool) : (State.selfTest s n pass).carousel = s.carousel := (State.selfTest_chg s n pass).same .carousel rfl
@[simp] theorem State.selfTest_wall (s : State) (n : ℕ) (pass : Bool) : (State.selfTest s n pass).wall = s.wall := (State.selfTest_chg s n pass).same .wall rfl
@[simp] theorem State.selfTest_startup (s : State) (n : ℕ) (pass : Bool) : (State.selfTest s n pass).startup = s.startup := (State.selfTest_chg s n pass).same .startup rfl
@[simp] theorem State.selfTest_flash (s : State) (n : ℕ) (pass : Bool) : (State.selfTest s n pass).flash = s.flash := (State.selfTest_chg s n pass).same .flash rfl
@[simp] theorem State.selfTest_array (s : State) (n : ℕ) (pass : Bool) : (State.selfTest s n pass).array = s.array := (State.selfTest_chg s n pass).same .array rfl
@[simp] theorem State.selfTest_legs (s : State) (n : ℕ) (pass : Bool) : (State.selfTest s n pass).legs = s.legs := (State.selfTest_chg s n pass).same .legs rfl
@[simp] theorem State.selfTest_laws (s : State) (n : ℕ) (pass : Bool) : (State.selfTest s n pass).laws = s.laws := (State.selfTest_chg s n pass).same .laws rfl
@[simp] theorem State.selfTest_juggler (s : State) (n : ℕ) (pass : Bool) : (State.selfTest s n pass).juggler = s.juggler := (State.selfTest_chg s n pass).same .juggler rfl
@[simp] theorem State.selfTest_thermal (s : State) (n : ℕ) (pass : Bool) : (State.selfTest s n pass).thermal = s.thermal := (State.selfTest_chg s n pass).same .thermal rfl
@[simp] theorem State.selfTest_barker (s : State) (n : ℕ) (pass : Bool) : (State.selfTest s n pass).barker = s.barker := (State.selfTest_chg s n pass).same .barker rfl
@[simp] theorem State.selfTest_scribe (s : State) (n : ℕ) (pass : Bool) : (State.selfTest s n pass).scribe = s.scribe := (State.selfTest_chg s n pass).same .scribe rfl
@[simp] theorem State.selfTest_ident (s : State) (n : ℕ) (pass : Bool) : (State.selfTest s n pass).ident = s.ident := (State.selfTest_chg s n pass).same .ident rfl
@[simp] theorem State.selfTest_keys (s : State) (n : ℕ) (pass : Bool) : (State.selfTest s n pass).keys = s.keys := (State.selfTest_chg s n pass).same .keys rfl
@[simp] theorem State.selfTest_update (s : State) (n : ℕ) (pass : Bool) : (State.selfTest s n pass).update = s.update := (State.selfTest_chg s n pass).same .update rfl
@[simp] theorem State.selfTest_ptp (s : State) (n : ℕ) (pass : Bool) : (State.selfTest s n pass).ptp = s.ptp := (State.selfTest_chg s n pass).same .ptp rfl
@[simp] theorem State.selfTest_port (s : State) (n : ℕ) (pass : Bool) : (State.selfTest s n pass).port = s.port := (State.selfTest_chg s n pass).same .port rfl
@[simp] theorem State.selfTest_tokens (s : State) (n : ℕ) (pass : Bool) : (State.selfTest s n pass).tokens = s.tokens := (State.selfTest_chg s n pass).same .tokens rfl
@[simp] theorem State.selfTest_tamper (s : State) (n : ℕ) (pass : Bool) : (State.selfTest s n pass).tamper = s.tamper := (State.selfTest_chg s n pass).same .tamper rfl
@[simp] theorem State.selfTest_safety (s : State) (n : ℕ) (pass : Bool) : (State.selfTest s n pass).safety = s.safety := (State.selfTest_chg s n pass).same .safety rfl
@[simp] theorem State.selfTest_drives (s : State) (n : ℕ) (pass : Bool) : (State.selfTest s n pass).drives = s.drives := (State.selfTest_chg s n pass).same .drives rfl
@[simp] theorem State.selfTest_supply (s : State) (n : ℕ) (pass : Bool) : (State.selfTest s n pass).supply = s.supply := (State.selfTest_chg s n pass).same .supply rfl
@[simp] theorem State.selfTest_buses (s : State) (n : ℕ) (pass : Bool) : (State.selfTest s n pass).buses = s.buses := (State.selfTest_chg s n pass).same .buses rfl
@[simp] theorem State.selfTest_pending (s : State) (n : ℕ) (pass : Bool) : (State.selfTest s n pass).pending = s.pending := (State.selfTest_chg s n pass).same .pending rfl

/-! State.modGroup -/

@[simp] theorem State.modGroup_time (s : State) (g : ℕ) (f : LegGroup → LegGroup) : (State.modGroup s g f).time = s.time := rfl
@[simp] theorem State.modGroup_free (s : State) (g : ℕ) (f : LegGroup → LegGroup) : (State.modGroup s g f).free = s.free := rfl
@[simp] theorem State.modGroup_carousel (s : State) (g : ℕ) (f : LegGroup → LegGroup) : (State.modGroup s g f).carousel = s.carousel := rfl
@[simp] theorem State.modGroup_wall (s : State) (g : ℕ) (f : LegGroup → LegGroup) : (State.modGroup s g f).wall = s.wall := rfl
@[simp] theorem State.modGroup_startup (s : State) (g : ℕ) (f : LegGroup → LegGroup) : (State.modGroup s g f).startup = s.startup := rfl
@[simp] theorem State.modGroup_flash (s : State) (g : ℕ) (f : LegGroup → LegGroup) : (State.modGroup s g f).flash = s.flash := rfl
@[simp] theorem State.modGroup_array (s : State) (g : ℕ) (f : LegGroup → LegGroup) : (State.modGroup s g f).array = s.array := rfl
@[simp] theorem State.modGroup_laws (s : State) (g : ℕ) (f : LegGroup → LegGroup) : (State.modGroup s g f).laws = s.laws := rfl
@[simp] theorem State.modGroup_juggler (s : State) (g : ℕ) (f : LegGroup → LegGroup) : (State.modGroup s g f).juggler = s.juggler := rfl
@[simp] theorem State.modGroup_thermal (s : State) (g : ℕ) (f : LegGroup → LegGroup) : (State.modGroup s g f).thermal = s.thermal := rfl
@[simp] theorem State.modGroup_barker (s : State) (g : ℕ) (f : LegGroup → LegGroup) : (State.modGroup s g f).barker = s.barker := rfl
@[simp] theorem State.modGroup_scribe (s : State) (g : ℕ) (f : LegGroup → LegGroup) : (State.modGroup s g f).scribe = s.scribe := rfl
@[simp] theorem State.modGroup_ident (s : State) (g : ℕ) (f : LegGroup → LegGroup) : (State.modGroup s g f).ident = s.ident := rfl
@[simp] theorem State.modGroup_keys (s : State) (g : ℕ) (f : LegGroup → LegGroup) : (State.modGroup s g f).keys = s.keys := rfl
@[simp] theorem State.modGroup_update (s : State) (g : ℕ) (f : LegGroup → LegGroup) : (State.modGroup s g f).update = s.update := rfl
@[simp] theorem State.modGroup_ptp (s : State) (g : ℕ) (f : LegGroup → LegGroup) : (State.modGroup s g f).ptp = s.ptp := rfl
@[simp] theorem State.modGroup_pair (s : State) (g : ℕ) (f : LegGroup → LegGroup) : (State.modGroup s g f).pair = s.pair := rfl
@[simp] theorem State.modGroup_port (s : State) (g : ℕ) (f : LegGroup → LegGroup) : (State.modGroup s g f).port = s.port := rfl
@[simp] theorem State.modGroup_tokens (s : State) (g : ℕ) (f : LegGroup → LegGroup) : (State.modGroup s g f).tokens = s.tokens := rfl
@[simp] theorem State.modGroup_tamper (s : State) (g : ℕ) (f : LegGroup → LegGroup) : (State.modGroup s g f).tamper = s.tamper := rfl
@[simp] theorem State.modGroup_safety (s : State) (g : ℕ) (f : LegGroup → LegGroup) : (State.modGroup s g f).safety = s.safety := rfl
@[simp] theorem State.modGroup_drives (s : State) (g : ℕ) (f : LegGroup → LegGroup) : (State.modGroup s g f).drives = s.drives := rfl
@[simp] theorem State.modGroup_supply (s : State) (g : ℕ) (f : LegGroup → LegGroup) : (State.modGroup s g f).supply = s.supply := rfl
@[simp] theorem State.modGroup_buses (s : State) (g : ℕ) (f : LegGroup → LegGroup) : (State.modGroup s g f).buses = s.buses := rfl
@[simp] theorem State.modGroup_pending (s : State) (g : ℕ) (f : LegGroup → LegGroup) : (State.modGroup s g f).pending = s.pending := rfl

/-! State.modLaw -/

@[simp] theorem State.modLaw_time (s : State) (l : ℕ) (f : Law → Law) : (State.modLaw s l f).time = s.time := rfl
@[simp] theorem State.modLaw_free (s : State) (l : ℕ) (f : Law → Law) : (State.modLaw s l f).free = s.free := rfl
@[simp] theorem State.modLaw_carousel (s : State) (l : ℕ) (f : Law → Law) : (State.modLaw s l f).carousel = s.carousel := rfl
@[simp] theorem State.modLaw_wall (s : State) (l : ℕ) (f : Law → Law) : (State.modLaw s l f).wall = s.wall := rfl
@[simp] theorem State.modLaw_startup (s : State) (l : ℕ) (f : Law → Law) : (State.modLaw s l f).startup = s.startup := rfl
@[simp] theorem State.modLaw_flash (s : State) (l : ℕ) (f : Law → Law) : (State.modLaw s l f).flash = s.flash := rfl
@[simp] theorem State.modLaw_array (s : State) (l : ℕ) (f : Law → Law) : (State.modLaw s l f).array = s.array := rfl
@[simp] theorem State.modLaw_legs (s : State) (l : ℕ) (f : Law → Law) : (State.modLaw s l f).legs = s.legs := rfl
@[simp] theorem State.modLaw_juggler (s : State) (l : ℕ) (f : Law → Law) : (State.modLaw s l f).juggler = s.juggler := rfl
@[simp] theorem State.modLaw_thermal (s : State) (l : ℕ) (f : Law → Law) : (State.modLaw s l f).thermal = s.thermal := rfl
@[simp] theorem State.modLaw_barker (s : State) (l : ℕ) (f : Law → Law) : (State.modLaw s l f).barker = s.barker := rfl
@[simp] theorem State.modLaw_scribe (s : State) (l : ℕ) (f : Law → Law) : (State.modLaw s l f).scribe = s.scribe := rfl
@[simp] theorem State.modLaw_ident (s : State) (l : ℕ) (f : Law → Law) : (State.modLaw s l f).ident = s.ident := rfl
@[simp] theorem State.modLaw_keys (s : State) (l : ℕ) (f : Law → Law) : (State.modLaw s l f).keys = s.keys := rfl
@[simp] theorem State.modLaw_update (s : State) (l : ℕ) (f : Law → Law) : (State.modLaw s l f).update = s.update := rfl
@[simp] theorem State.modLaw_ptp (s : State) (l : ℕ) (f : Law → Law) : (State.modLaw s l f).ptp = s.ptp := rfl
@[simp] theorem State.modLaw_pair (s : State) (l : ℕ) (f : Law → Law) : (State.modLaw s l f).pair = s.pair := rfl
@[simp] theorem State.modLaw_port (s : State) (l : ℕ) (f : Law → Law) : (State.modLaw s l f).port = s.port := rfl
@[simp] theorem State.modLaw_tokens (s : State) (l : ℕ) (f : Law → Law) : (State.modLaw s l f).tokens = s.tokens := rfl
@[simp] theorem State.modLaw_tamper (s : State) (l : ℕ) (f : Law → Law) : (State.modLaw s l f).tamper = s.tamper := rfl
@[simp] theorem State.modLaw_safety (s : State) (l : ℕ) (f : Law → Law) : (State.modLaw s l f).safety = s.safety := rfl
@[simp] theorem State.modLaw_drives (s : State) (l : ℕ) (f : Law → Law) : (State.modLaw s l f).drives = s.drives := rfl
@[simp] theorem State.modLaw_supply (s : State) (l : ℕ) (f : Law → Law) : (State.modLaw s l f).supply = s.supply := rfl
@[simp] theorem State.modLaw_buses (s : State) (l : ℕ) (f : Law → Law) : (State.modLaw s l f).buses = s.buses := rfl
@[simp] theorem State.modLaw_pending (s : State) (l : ℕ) (f : Law → Law) : (State.modLaw s l f).pending = s.pending := rfl

/-! State.modLeg -/

@[simp] theorem State.modLeg_time (s : State) (n : ℕ) (f : Leg → Leg) : (State.modLeg s n f).time = s.time := rfl
@[simp] theorem State.modLeg_free (s : State) (n : ℕ) (f : Leg → Leg) : (State.modLeg s n f).free = s.free := rfl
@[simp] theorem State.modLeg_carousel (s : State) (n : ℕ) (f : Leg → Leg) : (State.modLeg s n f).carousel = s.carousel := rfl
@[simp] theorem State.modLeg_wall (s : State) (n : ℕ) (f : Leg → Leg) : (State.modLeg s n f).wall = s.wall := rfl
@[simp] theorem State.modLeg_startup (s : State) (n : ℕ) (f : Leg → Leg) : (State.modLeg s n f).startup = s.startup := rfl
@[simp] theorem State.modLeg_flash (s : State) (n : ℕ) (f : Leg → Leg) : (State.modLeg s n f).flash = s.flash := rfl
@[simp] theorem State.modLeg_array (s : State) (n : ℕ) (f : Leg → Leg) : (State.modLeg s n f).array = s.array := rfl
@[simp] theorem State.modLeg_laws (s : State) (n : ℕ) (f : Leg → Leg) : (State.modLeg s n f).laws = s.laws := rfl
@[simp] theorem State.modLeg_juggler (s : State) (n : ℕ) (f : Leg → Leg) : (State.modLeg s n f).juggler = s.juggler := rfl
@[simp] theorem State.modLeg_thermal (s : State) (n : ℕ) (f : Leg → Leg) : (State.modLeg s n f).thermal = s.thermal := rfl
@[simp] theorem State.modLeg_barker (s : State) (n : ℕ) (f : Leg → Leg) : (State.modLeg s n f).barker = s.barker := rfl
@[simp] theorem State.modLeg_scribe (s : State) (n : ℕ) (f : Leg → Leg) : (State.modLeg s n f).scribe = s.scribe := rfl
@[simp] theorem State.modLeg_ident (s : State) (n : ℕ) (f : Leg → Leg) : (State.modLeg s n f).ident = s.ident := rfl
@[simp] theorem State.modLeg_keys (s : State) (n : ℕ) (f : Leg → Leg) : (State.modLeg s n f).keys = s.keys := rfl
@[simp] theorem State.modLeg_update (s : State) (n : ℕ) (f : Leg → Leg) : (State.modLeg s n f).update = s.update := rfl
@[simp] theorem State.modLeg_ptp (s : State) (n : ℕ) (f : Leg → Leg) : (State.modLeg s n f).ptp = s.ptp := rfl
@[simp] theorem State.modLeg_pair (s : State) (n : ℕ) (f : Leg → Leg) : (State.modLeg s n f).pair = s.pair := rfl
@[simp] theorem State.modLeg_port (s : State) (n : ℕ) (f : Leg → Leg) : (State.modLeg s n f).port = s.port := rfl
@[simp] theorem State.modLeg_tokens (s : State) (n : ℕ) (f : Leg → Leg) : (State.modLeg s n f).tokens = s.tokens := rfl
@[simp] theorem State.modLeg_tamper (s : State) (n : ℕ) (f : Leg → Leg) : (State.modLeg s n f).tamper = s.tamper := rfl
@[simp] theorem State.modLeg_safety (s : State) (n : ℕ) (f : Leg → Leg) : (State.modLeg s n f).safety = s.safety := rfl
@[simp] theorem State.modLeg_drives (s : State) (n : ℕ) (f : Leg → Leg) : (State.modLeg s n f).drives = s.drives := rfl
@[simp] theorem State.modLeg_supply (s : State) (n : ℕ) (f : Leg → Leg) : (State.modLeg s n f).supply = s.supply := rfl
@[simp] theorem State.modLeg_buses (s : State) (n : ℕ) (f : Leg → Leg) : (State.modLeg s n f).buses = s.buses := rfl
@[simp] theorem State.modLeg_pending (s : State) (n : ℕ) (f : Leg → Leg) : (State.modLeg s n f).pending = s.pending := rfl

/-! State.journal -/

@[simp] theorem State.journal_time (s : State) (i : JInput) : (State.journal s i).time = s.time := rfl
@[simp] theorem State.journal_free (s : State) (i : JInput) : (State.journal s i).free = s.free := rfl
@[simp] theorem State.journal_carousel (s : State) (i : JInput) : (State.journal s i).carousel = s.carousel := rfl
@[simp] theorem State.journal_wall (s : State) (i : JInput) : (State.journal s i).wall = s.wall := rfl
@[simp] theorem State.journal_startup (s : State) (i : JInput) : (State.journal s i).startup = s.startup := rfl
@[simp] theorem State.journal_flash (s : State) (i : JInput) : (State.journal s i).flash = s.flash := rfl
@[simp] theorem State.journal_array (s : State) (i : JInput) : (State.journal s i).array = s.array := rfl
@[simp] theorem State.journal_legs (s : State) (i : JInput) : (State.journal s i).legs = s.legs := rfl
@[simp] theorem State.journal_laws (s : State) (i : JInput) : (State.journal s i).laws = s.laws := rfl
@[simp] theorem State.journal_juggler (s : State) (i : JInput) : (State.journal s i).juggler = s.juggler := rfl
@[simp] theorem State.journal_thermal (s : State) (i : JInput) : (State.journal s i).thermal = s.thermal := rfl
@[simp] theorem State.journal_barker (s : State) (i : JInput) : (State.journal s i).barker = s.barker := rfl
@[simp] theorem State.journal_scribe (s : State) (i : JInput) : (State.journal s i).scribe = s.scribe := rfl
@[simp] theorem State.journal_ident (s : State) (i : JInput) : (State.journal s i).ident = s.ident := rfl
@[simp] theorem State.journal_keys (s : State) (i : JInput) : (State.journal s i).keys = s.keys := rfl
@[simp] theorem State.journal_update (s : State) (i : JInput) : (State.journal s i).update = s.update := rfl
@[simp] theorem State.journal_ptp (s : State) (i : JInput) : (State.journal s i).ptp = s.ptp := rfl
@[simp] theorem State.journal_port (s : State) (i : JInput) : (State.journal s i).port = s.port := rfl
@[simp] theorem State.journal_tokens (s : State) (i : JInput) : (State.journal s i).tokens = s.tokens := rfl
@[simp] theorem State.journal_tamper (s : State) (i : JInput) : (State.journal s i).tamper = s.tamper := rfl
@[simp] theorem State.journal_safety (s : State) (i : JInput) : (State.journal s i).safety = s.safety := rfl
@[simp] theorem State.journal_drives (s : State) (i : JInput) : (State.journal s i).drives = s.drives := rfl
@[simp] theorem State.journal_supply (s : State) (i : JInput) : (State.journal s i).supply = s.supply := rfl
@[simp] theorem State.journal_buses (s : State) (i : JInput) : (State.journal s i).buses = s.buses := rfl
@[simp] theorem State.journal_pending (s : State) (i : JInput) : (State.journal s i).pending = s.pending := rfl

/-! State.modSafety -/

@[simp] theorem State.modSafety_time (s : State) (f : Safety → Safety) : (State.modSafety s f).time = s.time := rfl
@[simp] theorem State.modSafety_free (s : State) (f : Safety → Safety) : (State.modSafety s f).free = s.free := rfl
@[simp] theorem State.modSafety_carousel (s : State) (f : Safety → Safety) : (State.modSafety s f).carousel = s.carousel := rfl
@[simp] theorem State.modSafety_wall (s : State) (f : Safety → Safety) : (State.modSafety s f).wall = s.wall := rfl
@[simp] theorem State.modSafety_startup (s : State) (f : Safety → Safety) : (State.modSafety s f).startup = s.startup := rfl
@[simp] theorem State.modSafety_flash (s : State) (f : Safety → Safety) : (State.modSafety s f).flash = s.flash := rfl
@[simp] theorem State.modSafety_array (s : State) (f : Safety → Safety) : (State.modSafety s f).array = s.array := rfl
@[simp] theorem State.modSafety_legs (s : State) (f : Safety → Safety) : (State.modSafety s f).legs = s.legs := rfl
@[simp] theorem State.modSafety_laws (s : State) (f : Safety → Safety) : (State.modSafety s f).laws = s.laws := rfl
@[simp] theorem State.modSafety_juggler (s : State) (f : Safety → Safety) : (State.modSafety s f).juggler = s.juggler := rfl
@[simp] theorem State.modSafety_thermal (s : State) (f : Safety → Safety) : (State.modSafety s f).thermal = s.thermal := rfl
@[simp] theorem State.modSafety_barker (s : State) (f : Safety → Safety) : (State.modSafety s f).barker = s.barker := rfl
@[simp] theorem State.modSafety_scribe (s : State) (f : Safety → Safety) : (State.modSafety s f).scribe = s.scribe := rfl
@[simp] theorem State.modSafety_ident (s : State) (f : Safety → Safety) : (State.modSafety s f).ident = s.ident := rfl
@[simp] theorem State.modSafety_keys (s : State) (f : Safety → Safety) : (State.modSafety s f).keys = s.keys := rfl
@[simp] theorem State.modSafety_update (s : State) (f : Safety → Safety) : (State.modSafety s f).update = s.update := rfl
@[simp] theorem State.modSafety_ptp (s : State) (f : Safety → Safety) : (State.modSafety s f).ptp = s.ptp := rfl
@[simp] theorem State.modSafety_pair (s : State) (f : Safety → Safety) : (State.modSafety s f).pair = s.pair := rfl
@[simp] theorem State.modSafety_port (s : State) (f : Safety → Safety) : (State.modSafety s f).port = s.port := rfl
@[simp] theorem State.modSafety_tokens (s : State) (f : Safety → Safety) : (State.modSafety s f).tokens = s.tokens := rfl
@[simp] theorem State.modSafety_tamper (s : State) (f : Safety → Safety) : (State.modSafety s f).tamper = s.tamper := rfl
@[simp] theorem State.modSafety_safety (s : State) (f : Safety → Safety) : (State.modSafety s f).safety = f s.safety := rfl
@[simp] theorem State.modSafety_drives (s : State) (f : Safety → Safety) : (State.modSafety s f).drives = s.drives := rfl
@[simp] theorem State.modSafety_supply (s : State) (f : Safety → Safety) : (State.modSafety s f).supply = s.supply := rfl
@[simp] theorem State.modSafety_buses (s : State) (f : Safety → Safety) : (State.modSafety s f).buses = s.buses := rfl
@[simp] theorem State.modSafety_pending (s : State) (f : Safety → Safety) : (State.modSafety s f).pending = s.pending := rfl

/-! State.modIn -/

@[simp] theorem State.modIn_time (s : State) (i : ℕ) (f : SafeIn → SafeIn) : (State.modIn s i f).time = s.time := rfl
@[simp] theorem State.modIn_free (s : State) (i : ℕ) (f : SafeIn → SafeIn) : (State.modIn s i f).free = s.free := rfl
@[simp] theorem State.modIn_carousel (s : State) (i : ℕ) (f : SafeIn → SafeIn) : (State.modIn s i f).carousel = s.carousel := rfl
@[simp] theorem State.modIn_wall (s : State) (i : ℕ) (f : SafeIn → SafeIn) : (State.modIn s i f).wall = s.wall := rfl
@[simp] theorem State.modIn_startup (s : State) (i : ℕ) (f : SafeIn → SafeIn) : (State.modIn s i f).startup = s.startup := rfl
@[simp] theorem State.modIn_flash (s : State) (i : ℕ) (f : SafeIn → SafeIn) : (State.modIn s i f).flash = s.flash := rfl
@[simp] theorem State.modIn_array (s : State) (i : ℕ) (f : SafeIn → SafeIn) : (State.modIn s i f).array = s.array := rfl
@[simp] theorem State.modIn_legs (s : State) (i : ℕ) (f : SafeIn → SafeIn) : (State.modIn s i f).legs = s.legs := rfl
@[simp] theorem State.modIn_laws (s : State) (i : ℕ) (f : SafeIn → SafeIn) : (State.modIn s i f).laws = s.laws := rfl
@[simp] theorem State.modIn_juggler (s : State) (i : ℕ) (f : SafeIn → SafeIn) : (State.modIn s i f).juggler = s.juggler := rfl
@[simp] theorem State.modIn_thermal (s : State) (i : ℕ) (f : SafeIn → SafeIn) : (State.modIn s i f).thermal = s.thermal := rfl
@[simp] theorem State.modIn_barker (s : State) (i : ℕ) (f : SafeIn → SafeIn) : (State.modIn s i f).barker = s.barker := rfl
@[simp] theorem State.modIn_scribe (s : State) (i : ℕ) (f : SafeIn → SafeIn) : (State.modIn s i f).scribe = s.scribe := rfl
@[simp] theorem State.modIn_ident (s : State) (i : ℕ) (f : SafeIn → SafeIn) : (State.modIn s i f).ident = s.ident := rfl
@[simp] theorem State.modIn_keys (s : State) (i : ℕ) (f : SafeIn → SafeIn) : (State.modIn s i f).keys = s.keys := rfl
@[simp] theorem State.modIn_update (s : State) (i : ℕ) (f : SafeIn → SafeIn) : (State.modIn s i f).update = s.update := rfl
@[simp] theorem State.modIn_ptp (s : State) (i : ℕ) (f : SafeIn → SafeIn) : (State.modIn s i f).ptp = s.ptp := rfl
@[simp] theorem State.modIn_pair (s : State) (i : ℕ) (f : SafeIn → SafeIn) : (State.modIn s i f).pair = s.pair := rfl
@[simp] theorem State.modIn_port (s : State) (i : ℕ) (f : SafeIn → SafeIn) : (State.modIn s i f).port = s.port := rfl
@[simp] theorem State.modIn_tokens (s : State) (i : ℕ) (f : SafeIn → SafeIn) : (State.modIn s i f).tokens = s.tokens := rfl
@[simp] theorem State.modIn_tamper (s : State) (i : ℕ) (f : SafeIn → SafeIn) : (State.modIn s i f).tamper = s.tamper := rfl
@[simp] theorem State.modIn_drives (s : State) (i : ℕ) (f : SafeIn → SafeIn) : (State.modIn s i f).drives = s.drives := rfl
@[simp] theorem State.modIn_supply (s : State) (i : ℕ) (f : SafeIn → SafeIn) : (State.modIn s i f).supply = s.supply := rfl
@[simp] theorem State.modIn_buses (s : State) (i : ℕ) (f : SafeIn → SafeIn) : (State.modIn s i f).buses = s.buses := rfl
@[simp] theorem State.modIn_pending (s : State) (i : ℕ) (f : SafeIn → SafeIn) : (State.modIn s i f).pending = s.pending := rfl

/-! State.modFn -/

@[simp] theorem State.modFn_time (s : State) (n : ℕ) (f : SafeFn → SafeFn) : (State.modFn s n f).time = s.time := rfl
@[simp] theorem State.modFn_free (s : State) (n : ℕ) (f : SafeFn → SafeFn) : (State.modFn s n f).free = s.free := rfl
@[simp] theorem State.modFn_carousel (s : State) (n : ℕ) (f : SafeFn → SafeFn) : (State.modFn s n f).carousel = s.carousel := rfl
@[simp] theorem State.modFn_wall (s : State) (n : ℕ) (f : SafeFn → SafeFn) : (State.modFn s n f).wall = s.wall := rfl
@[simp] theorem State.modFn_startup (s : State) (n : ℕ) (f : SafeFn → SafeFn) : (State.modFn s n f).startup = s.startup := rfl
@[simp] theorem State.modFn_flash (s : State) (n : ℕ) (f : SafeFn → SafeFn) : (State.modFn s n f).flash = s.flash := rfl
@[simp] theorem State.modFn_array (s : State) (n : ℕ) (f : SafeFn → SafeFn) : (State.modFn s n f).array = s.array := rfl
@[simp] theorem State.modFn_legs (s : State) (n : ℕ) (f : SafeFn → SafeFn) : (State.modFn s n f).legs = s.legs := rfl
@[simp] theorem State.modFn_laws (s : State) (n : ℕ) (f : SafeFn → SafeFn) : (State.modFn s n f).laws = s.laws := rfl
@[simp] theorem State.modFn_juggler (s : State) (n : ℕ) (f : SafeFn → SafeFn) : (State.modFn s n f).juggler = s.juggler := rfl
@[simp] theorem State.modFn_thermal (s : State) (n : ℕ) (f : SafeFn → SafeFn) : (State.modFn s n f).thermal = s.thermal := rfl
@[simp] theorem State.modFn_barker (s : State) (n : ℕ) (f : SafeFn → SafeFn) : (State.modFn s n f).barker = s.barker := rfl
@[simp] theorem State.modFn_scribe (s : State) (n : ℕ) (f : SafeFn → SafeFn) : (State.modFn s n f).scribe = s.scribe := rfl
@[simp] theorem State.modFn_ident (s : State) (n : ℕ) (f : SafeFn → SafeFn) : (State.modFn s n f).ident = s.ident := rfl
@[simp] theorem State.modFn_keys (s : State) (n : ℕ) (f : SafeFn → SafeFn) : (State.modFn s n f).keys = s.keys := rfl
@[simp] theorem State.modFn_update (s : State) (n : ℕ) (f : SafeFn → SafeFn) : (State.modFn s n f).update = s.update := rfl
@[simp] theorem State.modFn_ptp (s : State) (n : ℕ) (f : SafeFn → SafeFn) : (State.modFn s n f).ptp = s.ptp := rfl
@[simp] theorem State.modFn_pair (s : State) (n : ℕ) (f : SafeFn → SafeFn) : (State.modFn s n f).pair = s.pair := rfl
@[simp] theorem State.modFn_port (s : State) (n : ℕ) (f : SafeFn → SafeFn) : (State.modFn s n f).port = s.port := rfl
@[simp] theorem State.modFn_tokens (s : State) (n : ℕ) (f : SafeFn → SafeFn) : (State.modFn s n f).tokens = s.tokens := rfl
@[simp] theorem State.modFn_tamper (s : State) (n : ℕ) (f : SafeFn → SafeFn) : (State.modFn s n f).tamper = s.tamper := rfl
@[simp] theorem State.modFn_drives (s : State) (n : ℕ) (f : SafeFn → SafeFn) : (State.modFn s n f).drives = s.drives := rfl
@[simp] theorem State.modFn_supply (s : State) (n : ℕ) (f : SafeFn → SafeFn) : (State.modFn s n f).supply = s.supply := rfl
@[simp] theorem State.modFn_buses (s : State) (n : ℕ) (f : SafeFn → SafeFn) : (State.modFn s n f).buses = s.buses := rfl
@[simp] theorem State.modFn_pending (s : State) (n : ℕ) (f : SafeFn → SafeFn) : (State.modFn s n f).pending = s.pending := rfl

/-! State.advance -/

@[simp] theorem State.advance_free (s : State) (t : ℕ) : (State.advance s t).free = s.free := rfl
@[simp] theorem State.advance_startup (s : State) (t : ℕ) : (State.advance s t).startup = s.startup := rfl
@[simp] theorem State.advance_flash (s : State) (t : ℕ) : (State.advance s t).flash = s.flash := rfl
@[simp] theorem State.advance_array (s : State) (t : ℕ) : (State.advance s t).array = s.array := rfl
@[simp] theorem State.advance_legs (s : State) (t : ℕ) : (State.advance s t).legs = s.legs := rfl
@[simp] theorem State.advance_laws (s : State) (t : ℕ) : (State.advance s t).laws = s.laws := rfl
@[simp] theorem State.advance_juggler (s : State) (t : ℕ) : (State.advance s t).juggler = s.juggler := rfl
@[simp] theorem State.advance_thermal (s : State) (t : ℕ) : (State.advance s t).thermal = s.thermal := rfl
@[simp] theorem State.advance_barker (s : State) (t : ℕ) : (State.advance s t).barker = s.barker := rfl
@[simp] theorem State.advance_scribe (s : State) (t : ℕ) : (State.advance s t).scribe = s.scribe := rfl
@[simp] theorem State.advance_ident (s : State) (t : ℕ) : (State.advance s t).ident = s.ident := rfl
@[simp] theorem State.advance_keys (s : State) (t : ℕ) : (State.advance s t).keys = s.keys := rfl
@[simp] theorem State.advance_update (s : State) (t : ℕ) : (State.advance s t).update = s.update := rfl
@[simp] theorem State.advance_ptp (s : State) (t : ℕ) : (State.advance s t).ptp = s.ptp := rfl
@[simp] theorem State.advance_pair (s : State) (t : ℕ) : (State.advance s t).pair = s.pair := rfl
@[simp] theorem State.advance_port (s : State) (t : ℕ) : (State.advance s t).port = s.port := rfl
@[simp] theorem State.advance_tokens (s : State) (t : ℕ) : (State.advance s t).tokens = s.tokens := rfl
@[simp] theorem State.advance_tamper (s : State) (t : ℕ) : (State.advance s t).tamper = s.tamper := rfl
@[simp] theorem State.advance_safety (s : State) (t : ℕ) : (State.advance s t).safety = s.safety := rfl
@[simp] theorem State.advance_drives (s : State) (t : ℕ) : (State.advance s t).drives = s.drives := rfl
@[simp] theorem State.advance_supply (s : State) (t : ℕ) : (State.advance s t).supply = s.supply := rfl
@[simp] theorem State.advance_buses (s : State) (t : ℕ) : (State.advance s t).buses = s.buses := rfl
@[simp] theorem State.advance_pending (s : State) (t : ℕ) : (State.advance s t).pending = s.pending := rfl

/-! State.modCar -/

@[simp] theorem State.modCar_time (s : State) (f : Carousel → Carousel) : (State.modCar s f).time = s.time := rfl
@[simp] theorem State.modCar_free (s : State) (f : Carousel → Carousel) : (State.modCar s f).free = s.free := rfl
@[simp] theorem State.modCar_carousel (s : State) (f : Carousel → Carousel) : (State.modCar s f).carousel = f s.carousel := rfl
@[simp] theorem State.modCar_wall (s : State) (f : Carousel → Carousel) : (State.modCar s f).wall = s.wall := rfl
@[simp] theorem State.modCar_startup (s : State) (f : Carousel → Carousel) : (State.modCar s f).startup = s.startup := rfl
@[simp] theorem State.modCar_flash (s : State) (f : Carousel → Carousel) : (State.modCar s f).flash = s.flash := rfl
@[simp] theorem State.modCar_array (s : State) (f : Carousel → Carousel) : (State.modCar s f).array = s.array := rfl
@[simp] theorem State.modCar_legs (s : State) (f : Carousel → Carousel) : (State.modCar s f).legs = s.legs := rfl
@[simp] theorem State.modCar_laws (s : State) (f : Carousel → Carousel) : (State.modCar s f).laws = s.laws := rfl
@[simp] theorem State.modCar_juggler (s : State) (f : Carousel → Carousel) : (State.modCar s f).juggler = s.juggler := rfl
@[simp] theorem State.modCar_thermal (s : State) (f : Carousel → Carousel) : (State.modCar s f).thermal = s.thermal := rfl
@[simp] theorem State.modCar_barker (s : State) (f : Carousel → Carousel) : (State.modCar s f).barker = s.barker := rfl
@[simp] theorem State.modCar_scribe (s : State) (f : Carousel → Carousel) : (State.modCar s f).scribe = s.scribe := rfl
@[simp] theorem State.modCar_ident (s : State) (f : Carousel → Carousel) : (State.modCar s f).ident = s.ident := rfl
@[simp] theorem State.modCar_keys (s : State) (f : Carousel → Carousel) : (State.modCar s f).keys = s.keys := rfl
@[simp] theorem State.modCar_update (s : State) (f : Carousel → Carousel) : (State.modCar s f).update = s.update := rfl
@[simp] theorem State.modCar_ptp (s : State) (f : Carousel → Carousel) : (State.modCar s f).ptp = s.ptp := rfl
@[simp] theorem State.modCar_pair (s : State) (f : Carousel → Carousel) : (State.modCar s f).pair = s.pair := rfl
@[simp] theorem State.modCar_port (s : State) (f : Carousel → Carousel) : (State.modCar s f).port = s.port := rfl
@[simp] theorem State.modCar_tokens (s : State) (f : Carousel → Carousel) : (State.modCar s f).tokens = s.tokens := rfl
@[simp] theorem State.modCar_tamper (s : State) (f : Carousel → Carousel) : (State.modCar s f).tamper = s.tamper := rfl
@[simp] theorem State.modCar_safety (s : State) (f : Carousel → Carousel) : (State.modCar s f).safety = s.safety := rfl
@[simp] theorem State.modCar_drives (s : State) (f : Carousel → Carousel) : (State.modCar s f).drives = s.drives := rfl
@[simp] theorem State.modCar_supply (s : State) (f : Carousel → Carousel) : (State.modCar s f).supply = s.supply := rfl
@[simp] theorem State.modCar_buses (s : State) (f : Carousel → Carousel) : (State.modCar s f).buses = s.buses := rfl
@[simp] theorem State.modCar_pending (s : State) (f : Carousel → Carousel) : (State.modCar s f).pending = s.pending := rfl

/-! State.modConn -/

@[simp] theorem State.modConn_time (s : State) (c : ConnNo) (f : Conn → Conn) : (State.modConn s c f).time = s.time := rfl
@[simp] theorem State.modConn_free (s : State) (c : ConnNo) (f : Conn → Conn) : (State.modConn s c f).free = s.free := rfl
@[simp] theorem State.modConn_carousel (s : State) (c : ConnNo) (f : Conn → Conn) : (State.modConn s c f).carousel = s.carousel := rfl
@[simp] theorem State.modConn_wall (s : State) (c : ConnNo) (f : Conn → Conn) : (State.modConn s c f).wall = s.wall := rfl
@[simp] theorem State.modConn_startup (s : State) (c : ConnNo) (f : Conn → Conn) : (State.modConn s c f).startup = s.startup := rfl
@[simp] theorem State.modConn_flash (s : State) (c : ConnNo) (f : Conn → Conn) : (State.modConn s c f).flash = s.flash := rfl
@[simp] theorem State.modConn_array (s : State) (c : ConnNo) (f : Conn → Conn) : (State.modConn s c f).array = s.array := rfl
@[simp] theorem State.modConn_legs (s : State) (c : ConnNo) (f : Conn → Conn) : (State.modConn s c f).legs = s.legs := rfl
@[simp] theorem State.modConn_laws (s : State) (c : ConnNo) (f : Conn → Conn) : (State.modConn s c f).laws = s.laws := rfl
@[simp] theorem State.modConn_juggler (s : State) (c : ConnNo) (f : Conn → Conn) : (State.modConn s c f).juggler = s.juggler := rfl
@[simp] theorem State.modConn_thermal (s : State) (c : ConnNo) (f : Conn → Conn) : (State.modConn s c f).thermal = s.thermal := rfl
@[simp] theorem State.modConn_barker (s : State) (c : ConnNo) (f : Conn → Conn) : (State.modConn s c f).barker = s.barker := rfl
@[simp] theorem State.modConn_scribe (s : State) (c : ConnNo) (f : Conn → Conn) : (State.modConn s c f).scribe = s.scribe := rfl
@[simp] theorem State.modConn_ident (s : State) (c : ConnNo) (f : Conn → Conn) : (State.modConn s c f).ident = s.ident := rfl
@[simp] theorem State.modConn_keys (s : State) (c : ConnNo) (f : Conn → Conn) : (State.modConn s c f).keys = s.keys := rfl
@[simp] theorem State.modConn_update (s : State) (c : ConnNo) (f : Conn → Conn) : (State.modConn s c f).update = s.update := rfl
@[simp] theorem State.modConn_ptp (s : State) (c : ConnNo) (f : Conn → Conn) : (State.modConn s c f).ptp = s.ptp := rfl
@[simp] theorem State.modConn_pair (s : State) (c : ConnNo) (f : Conn → Conn) : (State.modConn s c f).pair = s.pair := rfl
@[simp] theorem State.modConn_tokens (s : State) (c : ConnNo) (f : Conn → Conn) : (State.modConn s c f).tokens = s.tokens := rfl
@[simp] theorem State.modConn_tamper (s : State) (c : ConnNo) (f : Conn → Conn) : (State.modConn s c f).tamper = s.tamper := rfl
@[simp] theorem State.modConn_safety (s : State) (c : ConnNo) (f : Conn → Conn) : (State.modConn s c f).safety = s.safety := rfl
@[simp] theorem State.modConn_drives (s : State) (c : ConnNo) (f : Conn → Conn) : (State.modConn s c f).drives = s.drives := rfl
@[simp] theorem State.modConn_supply (s : State) (c : ConnNo) (f : Conn → Conn) : (State.modConn s c f).supply = s.supply := rfl
@[simp] theorem State.modConn_buses (s : State) (c : ConnNo) (f : Conn → Conn) : (State.modConn s c f).buses = s.buses := rfl
@[simp] theorem State.modConn_pending (s : State) (c : ConnNo) (f : Conn → Conn) : (State.modConn s c f).pending = s.pending := rfl

/-! State.answer -/

@[simp] theorem State.answer_time (s : State) (c : ConnNo) (res : ℕ) (val : List ℤ) : (State.answer s c res val).time = s.time := rfl
@[simp] theorem State.answer_free (s : State) (c : ConnNo) (res : ℕ) (val : List ℤ) : (State.answer s c res val).free = s.free := rfl
@[simp] theorem State.answer_carousel (s : State) (c : ConnNo) (res : ℕ) (val : List ℤ) : (State.answer s c res val).carousel = s.carousel := rfl
@[simp] theorem State.answer_wall (s : State) (c : ConnNo) (res : ℕ) (val : List ℤ) : (State.answer s c res val).wall = s.wall := rfl
@[simp] theorem State.answer_startup (s : State) (c : ConnNo) (res : ℕ) (val : List ℤ) : (State.answer s c res val).startup = s.startup := rfl
@[simp] theorem State.answer_flash (s : State) (c : ConnNo) (res : ℕ) (val : List ℤ) : (State.answer s c res val).flash = s.flash := rfl
@[simp] theorem State.answer_array (s : State) (c : ConnNo) (res : ℕ) (val : List ℤ) : (State.answer s c res val).array = s.array := rfl
@[simp] theorem State.answer_legs (s : State) (c : ConnNo) (res : ℕ) (val : List ℤ) : (State.answer s c res val).legs = s.legs := rfl
@[simp] theorem State.answer_laws (s : State) (c : ConnNo) (res : ℕ) (val : List ℤ) : (State.answer s c res val).laws = s.laws := rfl
@[simp] theorem State.answer_juggler (s : State) (c : ConnNo) (res : ℕ) (val : List ℤ) : (State.answer s c res val).juggler = s.juggler := rfl
@[simp] theorem State.answer_thermal (s : State) (c : ConnNo) (res : ℕ) (val : List ℤ) : (State.answer s c res val).thermal = s.thermal := rfl
@[simp] theorem State.answer_barker (s : State) (c : ConnNo) (res : ℕ) (val : List ℤ) : (State.answer s c res val).barker = s.barker := rfl
@[simp] theorem State.answer_scribe (s : State) (c : ConnNo) (res : ℕ) (val : List ℤ) : (State.answer s c res val).scribe = s.scribe := rfl
@[simp] theorem State.answer_ident (s : State) (c : ConnNo) (res : ℕ) (val : List ℤ) : (State.answer s c res val).ident = s.ident := rfl
@[simp] theorem State.answer_keys (s : State) (c : ConnNo) (res : ℕ) (val : List ℤ) : (State.answer s c res val).keys = s.keys := rfl
@[simp] theorem State.answer_update (s : State) (c : ConnNo) (res : ℕ) (val : List ℤ) : (State.answer s c res val).update = s.update := rfl
@[simp] theorem State.answer_ptp (s : State) (c : ConnNo) (res : ℕ) (val : List ℤ) : (State.answer s c res val).ptp = s.ptp := rfl
@[simp] theorem State.answer_pair (s : State) (c : ConnNo) (res : ℕ) (val : List ℤ) : (State.answer s c res val).pair = s.pair := rfl
@[simp] theorem State.answer_tokens (s : State) (c : ConnNo) (res : ℕ) (val : List ℤ) : (State.answer s c res val).tokens = s.tokens := rfl
@[simp] theorem State.answer_tamper (s : State) (c : ConnNo) (res : ℕ) (val : List ℤ) : (State.answer s c res val).tamper = s.tamper := rfl
@[simp] theorem State.answer_safety (s : State) (c : ConnNo) (res : ℕ) (val : List ℤ) : (State.answer s c res val).safety = s.safety := rfl
@[simp] theorem State.answer_drives (s : State) (c : ConnNo) (res : ℕ) (val : List ℤ) : (State.answer s c res val).drives = s.drives := rfl
@[simp] theorem State.answer_supply (s : State) (c : ConnNo) (res : ℕ) (val : List ℤ) : (State.answer s c res val).supply = s.supply := rfl
@[simp] theorem State.answer_buses (s : State) (c : ConnNo) (res : ℕ) (val : List ℤ) : (State.answer s c res val).buses = s.buses := rfl
@[simp] theorem State.answer_pending (s : State) (c : ConnNo) (res : ℕ) (val : List ℤ) : (State.answer s c res val).pending = s.pending := rfl

/-! State.modMatrix -/

@[simp] theorem State.modMatrix_time (s : State) (g : ℕ) (f : Matrix → Matrix) : (State.modMatrix s g f).time = s.time := rfl
@[simp] theorem State.modMatrix_free (s : State) (g : ℕ) (f : Matrix → Matrix) : (State.modMatrix s g f).free = s.free := rfl
@[simp] theorem State.modMatrix_carousel (s : State) (g : ℕ) (f : Matrix → Matrix) : (State.modMatrix s g f).carousel = s.carousel := rfl
@[simp] theorem State.modMatrix_wall (s : State) (g : ℕ) (f : Matrix → Matrix) : (State.modMatrix s g f).wall = s.wall := rfl
@[simp] theorem State.modMatrix_startup (s : State) (g : ℕ) (f : Matrix → Matrix) : (State.modMatrix s g f).startup = s.startup := rfl
@[simp] theorem State.modMatrix_flash (s : State) (g : ℕ) (f : Matrix → Matrix) : (State.modMatrix s g f).flash = s.flash := rfl
@[simp] theorem State.modMatrix_array (s : State) (g : ℕ) (f : Matrix → Matrix) : (State.modMatrix s g f).array = s.array := rfl
@[simp] theorem State.modMatrix_legs (s : State) (g : ℕ) (f : Matrix → Matrix) : (State.modMatrix s g f).legs = s.legs := rfl
@[simp] theorem State.modMatrix_laws (s : State) (g : ℕ) (f : Matrix → Matrix) : (State.modMatrix s g f).laws = s.laws := rfl
@[simp] theorem State.modMatrix_thermal (s : State) (g : ℕ) (f : Matrix → Matrix) : (State.modMatrix s g f).thermal = s.thermal := rfl
@[simp] theorem State.modMatrix_barker (s : State) (g : ℕ) (f : Matrix → Matrix) : (State.modMatrix s g f).barker = s.barker := rfl
@[simp] theorem State.modMatrix_scribe (s : State) (g : ℕ) (f : Matrix → Matrix) : (State.modMatrix s g f).scribe = s.scribe := rfl
@[simp] theorem State.modMatrix_ident (s : State) (g : ℕ) (f : Matrix → Matrix) : (State.modMatrix s g f).ident = s.ident := rfl
@[simp] theorem State.modMatrix_keys (s : State) (g : ℕ) (f : Matrix → Matrix) : (State.modMatrix s g f).keys = s.keys := rfl
@[simp] theorem State.modMatrix_update (s : State) (g : ℕ) (f : Matrix → Matrix) : (State.modMatrix s g f).update = s.update := rfl
@[simp] theorem State.modMatrix_ptp (s : State) (g : ℕ) (f : Matrix → Matrix) : (State.modMatrix s g f).ptp = s.ptp := rfl
@[simp] theorem State.modMatrix_pair (s : State) (g : ℕ) (f : Matrix → Matrix) : (State.modMatrix s g f).pair = s.pair := rfl
@[simp] theorem State.modMatrix_port (s : State) (g : ℕ) (f : Matrix → Matrix) : (State.modMatrix s g f).port = s.port := rfl
@[simp] theorem State.modMatrix_tokens (s : State) (g : ℕ) (f : Matrix → Matrix) : (State.modMatrix s g f).tokens = s.tokens := rfl
@[simp] theorem State.modMatrix_tamper (s : State) (g : ℕ) (f : Matrix → Matrix) : (State.modMatrix s g f).tamper = s.tamper := rfl
@[simp] theorem State.modMatrix_safety (s : State) (g : ℕ) (f : Matrix → Matrix) : (State.modMatrix s g f).safety = s.safety := rfl
@[simp] theorem State.modMatrix_drives (s : State) (g : ℕ) (f : Matrix → Matrix) : (State.modMatrix s g f).drives = s.drives := rfl
@[simp] theorem State.modMatrix_supply (s : State) (g : ℕ) (f : Matrix → Matrix) : (State.modMatrix s g f).supply = s.supply := rfl
@[simp] theorem State.modMatrix_buses (s : State) (g : ℕ) (f : Matrix → Matrix) : (State.modMatrix s g f).buses = s.buses := rfl
@[simp] theorem State.modMatrix_pending (s : State) (g : ℕ) (f : Matrix → Matrix) : (State.modMatrix s g f).pending = s.pending := rfl

/-! State.modPair -/

@[simp] theorem State.modPair_time (s : State) (f : Pair → Pair) : (State.modPair s f).time = s.time := rfl
@[simp] theorem State.modPair_free (s : State) (f : Pair → Pair) : (State.modPair s f).free = s.free := rfl
@[simp] theorem State.modPair_carousel (s : State) (f : Pair → Pair) : (State.modPair s f).carousel = s.carousel := rfl
@[simp] theorem State.modPair_wall (s : State) (f : Pair → Pair) : (State.modPair s f).wall = s.wall := rfl
@[simp] theorem State.modPair_startup (s : State) (f : Pair → Pair) : (State.modPair s f).startup = s.startup := rfl
@[simp] theorem State.modPair_flash (s : State) (f : Pair → Pair) : (State.modPair s f).flash = s.flash := rfl
@[simp] theorem State.modPair_array (s : State) (f : Pair → Pair) : (State.modPair s f).array = s.array := rfl
@[simp] theorem State.modPair_legs (s : State) (f : Pair → Pair) : (State.modPair s f).legs = s.legs := rfl
@[simp] theorem State.modPair_laws (s : State) (f : Pair → Pair) : (State.modPair s f).laws = s.laws := rfl
@[simp] theorem State.modPair_juggler (s : State) (f : Pair → Pair) : (State.modPair s f).juggler = s.juggler := rfl
@[simp] theorem State.modPair_thermal (s : State) (f : Pair → Pair) : (State.modPair s f).thermal = s.thermal := rfl
@[simp] theorem State.modPair_barker (s : State) (f : Pair → Pair) : (State.modPair s f).barker = s.barker := rfl
@[simp] theorem State.modPair_scribe (s : State) (f : Pair → Pair) : (State.modPair s f).scribe = s.scribe := rfl
@[simp] theorem State.modPair_ident (s : State) (f : Pair → Pair) : (State.modPair s f).ident = s.ident := rfl
@[simp] theorem State.modPair_keys (s : State) (f : Pair → Pair) : (State.modPair s f).keys = s.keys := rfl
@[simp] theorem State.modPair_update (s : State) (f : Pair → Pair) : (State.modPair s f).update = s.update := rfl
@[simp] theorem State.modPair_ptp (s : State) (f : Pair → Pair) : (State.modPair s f).ptp = s.ptp := rfl
@[simp] theorem State.modPair_pair (s : State) (f : Pair → Pair) : (State.modPair s f).pair = f s.pair := rfl
@[simp] theorem State.modPair_port (s : State) (f : Pair → Pair) : (State.modPair s f).port = s.port := rfl
@[simp] theorem State.modPair_tokens (s : State) (f : Pair → Pair) : (State.modPair s f).tokens = s.tokens := rfl
@[simp] theorem State.modPair_tamper (s : State) (f : Pair → Pair) : (State.modPair s f).tamper = s.tamper := rfl
@[simp] theorem State.modPair_safety (s : State) (f : Pair → Pair) : (State.modPair s f).safety = s.safety := rfl
@[simp] theorem State.modPair_drives (s : State) (f : Pair → Pair) : (State.modPair s f).drives = s.drives := rfl
@[simp] theorem State.modPair_supply (s : State) (f : Pair → Pair) : (State.modPair s f).supply = s.supply := rfl
@[simp] theorem State.modPair_buses (s : State) (f : Pair → Pair) : (State.modPair s f).buses = s.buses := rfl
@[simp] theorem State.modPair_pending (s : State) (f : Pair → Pair) : (State.modPair s f).pending = s.pending := rfl

/-! State.planYield -/

@[simp] theorem State.planYield_time (s : State) (cause : ℕ) : (State.planYield s cause).time = s.time := rfl
@[simp] theorem State.planYield_free (s : State) (cause : ℕ) : (State.planYield s cause).free = s.free := rfl
@[simp] theorem State.planYield_carousel (s : State) (cause : ℕ) : (State.planYield s cause).carousel = s.carousel := rfl
@[simp] theorem State.planYield_wall (s : State) (cause : ℕ) : (State.planYield s cause).wall = s.wall := rfl
@[simp] theorem State.planYield_startup (s : State) (cause : ℕ) : (State.planYield s cause).startup = s.startup := rfl
@[simp] theorem State.planYield_flash (s : State) (cause : ℕ) : (State.planYield s cause).flash = s.flash := rfl
@[simp] theorem State.planYield_array (s : State) (cause : ℕ) : (State.planYield s cause).array = s.array := rfl
@[simp] theorem State.planYield_legs (s : State) (cause : ℕ) : (State.planYield s cause).legs = s.legs := rfl
@[simp] theorem State.planYield_laws (s : State) (cause : ℕ) : (State.planYield s cause).laws = s.laws := rfl
@[simp] theorem State.planYield_juggler (s : State) (cause : ℕ) : (State.planYield s cause).juggler = s.juggler := rfl
@[simp] theorem State.planYield_thermal (s : State) (cause : ℕ) : (State.planYield s cause).thermal = s.thermal := rfl
@[simp] theorem State.planYield_barker (s : State) (cause : ℕ) : (State.planYield s cause).barker = s.barker := rfl
@[simp] theorem State.planYield_scribe (s : State) (cause : ℕ) : (State.planYield s cause).scribe = s.scribe := rfl
@[simp] theorem State.planYield_ident (s : State) (cause : ℕ) : (State.planYield s cause).ident = s.ident := rfl
@[simp] theorem State.planYield_keys (s : State) (cause : ℕ) : (State.planYield s cause).keys = s.keys := rfl
@[simp] theorem State.planYield_update (s : State) (cause : ℕ) : (State.planYield s cause).update = s.update := rfl
@[simp] theorem State.planYield_ptp (s : State) (cause : ℕ) : (State.planYield s cause).ptp = s.ptp := rfl
@[simp] theorem State.planYield_port (s : State) (cause : ℕ) : (State.planYield s cause).port = s.port := rfl
@[simp] theorem State.planYield_tokens (s : State) (cause : ℕ) : (State.planYield s cause).tokens = s.tokens := rfl
@[simp] theorem State.planYield_tamper (s : State) (cause : ℕ) : (State.planYield s cause).tamper = s.tamper := rfl
@[simp] theorem State.planYield_safety (s : State) (cause : ℕ) : (State.planYield s cause).safety = s.safety := rfl
@[simp] theorem State.planYield_drives (s : State) (cause : ℕ) : (State.planYield s cause).drives = s.drives := rfl
@[simp] theorem State.planYield_supply (s : State) (cause : ℕ) : (State.planYield s cause).supply = s.supply := rfl
@[simp] theorem State.planYield_buses (s : State) (cause : ℕ) : (State.planYield s cause).buses = s.buses := rfl
@[simp] theorem State.planYield_pending (s : State) (cause : ℕ) : (State.planYield s cause).pending = s.pending := rfl

/-! State.degrade -/

@[simp] theorem State.degrade_time (s : State) (cause : ℕ) : (State.degrade s cause).time = s.time := (State.degrade_chg s cause).same .time rfl
@[simp] theorem State.degrade_free (s : State) (cause : ℕ) : (State.degrade s cause).free = s.free := (State.degrade_chg s cause).same .free rfl
@[simp] theorem State.degrade_carousel (s : State) (cause : ℕ) : (State.degrade s cause).carousel = s.carousel := (State.degrade_chg s cause).same .carousel rfl
@[simp] theorem State.degrade_wall (s : State) (cause : ℕ) : (State.degrade s cause).wall = s.wall := (State.degrade_chg s cause).same .wall rfl
@[simp] theorem State.degrade_startup (s : State) (cause : ℕ) : (State.degrade s cause).startup = s.startup := (State.degrade_chg s cause).same .startup rfl
@[simp] theorem State.degrade_flash (s : State) (cause : ℕ) : (State.degrade s cause).flash = s.flash := (State.degrade_chg s cause).same .flash rfl
@[simp] theorem State.degrade_array (s : State) (cause : ℕ) : (State.degrade s cause).array = s.array := (State.degrade_chg s cause).same .array rfl
@[simp] theorem State.degrade_legs (s : State) (cause : ℕ) : (State.degrade s cause).legs = s.legs := (State.degrade_chg s cause).same .legs rfl
@[simp] theorem State.degrade_laws (s : State) (cause : ℕ) : (State.degrade s cause).laws = s.laws := (State.degrade_chg s cause).same .laws rfl
@[simp] theorem State.degrade_juggler (s : State) (cause : ℕ) : (State.degrade s cause).juggler = s.juggler := (State.degrade_chg s cause).same .juggler rfl
@[simp] theorem State.degrade_thermal (s : State) (cause : ℕ) : (State.degrade s cause).thermal = s.thermal := (State.degrade_chg s cause).same .thermal rfl
@[simp] theorem State.degrade_barker (s : State) (cause : ℕ) : (State.degrade s cause).barker = s.barker := (State.degrade_chg s cause).same .barker rfl
@[simp] theorem State.degrade_scribe (s : State) (cause : ℕ) : (State.degrade s cause).scribe = s.scribe := (State.degrade_chg s cause).same .scribe rfl
@[simp] theorem State.degrade_ident (s : State) (cause : ℕ) : (State.degrade s cause).ident = s.ident := (State.degrade_chg s cause).same .ident rfl
@[simp] theorem State.degrade_keys (s : State) (cause : ℕ) : (State.degrade s cause).keys = s.keys := (State.degrade_chg s cause).same .keys rfl
@[simp] theorem State.degrade_update (s : State) (cause : ℕ) : (State.degrade s cause).update = s.update := (State.degrade_chg s cause).same .update rfl
@[simp] theorem State.degrade_ptp (s : State) (cause : ℕ) : (State.degrade s cause).ptp = s.ptp := (State.degrade_chg s cause).same .ptp rfl
@[simp] theorem State.degrade_tokens (s : State) (cause : ℕ) : (State.degrade s cause).tokens = s.tokens := (State.degrade_chg s cause).same .tokens rfl
@[simp] theorem State.degrade_tamper (s : State) (cause : ℕ) : (State.degrade s cause).tamper = s.tamper := (State.degrade_chg s cause).same .tamper rfl
@[simp] theorem State.degrade_safety (s : State) (cause : ℕ) : (State.degrade s cause).safety = s.safety := (State.degrade_chg s cause).same .safety rfl
@[simp] theorem State.degrade_drives (s : State) (cause : ℕ) : (State.degrade s cause).drives = s.drives := (State.degrade_chg s cause).same .drives rfl
@[simp] theorem State.degrade_supply (s : State) (cause : ℕ) : (State.degrade s cause).supply = s.supply := (State.degrade_chg s cause).same .supply rfl
@[simp] theorem State.degrade_buses (s : State) (cause : ℕ) : (State.degrade s cause).buses = s.buses := (State.degrade_chg s cause).same .buses rfl
@[simp] theorem State.degrade_pending (s : State) (cause : ℕ) : (State.degrade s cause).pending = s.pending := (State.degrade_chg s cause).same .pending rfl

/-! State.modCan -/

@[simp] theorem State.modCan_time (s : State) (k : ℕ) (f : Can → Can) : (State.modCan s k f).time = s.time := rfl
@[simp] theorem State.modCan_free (s : State) (k : ℕ) (f : Can → Can) : (State.modCan s k f).free = s.free := rfl
@[simp] theorem State.modCan_carousel (s : State) (k : ℕ) (f : Can → Can) : (State.modCan s k f).carousel = s.carousel := rfl
@[simp] theorem State.modCan_wall (s : State) (k : ℕ) (f : Can → Can) : (State.modCan s k f).wall = s.wall := rfl
@[simp] theorem State.modCan_startup (s : State) (k : ℕ) (f : Can → Can) : (State.modCan s k f).startup = s.startup := rfl
@[simp] theorem State.modCan_flash (s : State) (k : ℕ) (f : Can → Can) : (State.modCan s k f).flash = s.flash := rfl
@[simp] theorem State.modCan_array (s : State) (k : ℕ) (f : Can → Can) : (State.modCan s k f).array = s.array := rfl
@[simp] theorem State.modCan_legs (s : State) (k : ℕ) (f : Can → Can) : (State.modCan s k f).legs = s.legs := rfl
@[simp] theorem State.modCan_laws (s : State) (k : ℕ) (f : Can → Can) : (State.modCan s k f).laws = s.laws := rfl
@[simp] theorem State.modCan_juggler (s : State) (k : ℕ) (f : Can → Can) : (State.modCan s k f).juggler = s.juggler := rfl
@[simp] theorem State.modCan_thermal (s : State) (k : ℕ) (f : Can → Can) : (State.modCan s k f).thermal = s.thermal := rfl
@[simp] theorem State.modCan_barker (s : State) (k : ℕ) (f : Can → Can) : (State.modCan s k f).barker = s.barker := rfl
@[simp] theorem State.modCan_scribe (s : State) (k : ℕ) (f : Can → Can) : (State.modCan s k f).scribe = s.scribe := rfl
@[simp] theorem State.modCan_ident (s : State) (k : ℕ) (f : Can → Can) : (State.modCan s k f).ident = s.ident := rfl
@[simp] theorem State.modCan_keys (s : State) (k : ℕ) (f : Can → Can) : (State.modCan s k f).keys = s.keys := rfl
@[simp] theorem State.modCan_update (s : State) (k : ℕ) (f : Can → Can) : (State.modCan s k f).update = s.update := rfl
@[simp] theorem State.modCan_ptp (s : State) (k : ℕ) (f : Can → Can) : (State.modCan s k f).ptp = s.ptp := rfl
@[simp] theorem State.modCan_pair (s : State) (k : ℕ) (f : Can → Can) : (State.modCan s k f).pair = s.pair := rfl
@[simp] theorem State.modCan_port (s : State) (k : ℕ) (f : Can → Can) : (State.modCan s k f).port = s.port := rfl
@[simp] theorem State.modCan_tokens (s : State) (k : ℕ) (f : Can → Can) : (State.modCan s k f).tokens = s.tokens := rfl
@[simp] theorem State.modCan_tamper (s : State) (k : ℕ) (f : Can → Can) : (State.modCan s k f).tamper = s.tamper := rfl
@[simp] theorem State.modCan_safety (s : State) (k : ℕ) (f : Can → Can) : (State.modCan s k f).safety = s.safety := rfl
@[simp] theorem State.modCan_drives (s : State) (k : ℕ) (f : Can → Can) : (State.modCan s k f).drives = s.drives := rfl
@[simp] theorem State.modCan_supply (s : State) (k : ℕ) (f : Can → Can) : (State.modCan s k f).supply = s.supply := rfl
@[simp] theorem State.modCan_pending (s : State) (k : ℕ) (f : Can → Can) : (State.modCan s k f).pending = s.pending := rfl

/-! State.modBuilding -/

@[simp] theorem State.modBuilding_time (s : State) (c : ℕ) (f : Receipt → Receipt) : (State.modBuilding s c f).time = s.time := rfl
@[simp] theorem State.modBuilding_free (s : State) (c : ℕ) (f : Receipt → Receipt) : (State.modBuilding s c f).free = s.free := rfl
@[simp] theorem State.modBuilding_carousel (s : State) (c : ℕ) (f : Receipt → Receipt) : (State.modBuilding s c f).carousel = s.carousel := rfl
@[simp] theorem State.modBuilding_wall (s : State) (c : ℕ) (f : Receipt → Receipt) : (State.modBuilding s c f).wall = s.wall := rfl
@[simp] theorem State.modBuilding_startup (s : State) (c : ℕ) (f : Receipt → Receipt) : (State.modBuilding s c f).startup = s.startup := rfl
@[simp] theorem State.modBuilding_flash (s : State) (c : ℕ) (f : Receipt → Receipt) : (State.modBuilding s c f).flash = s.flash := rfl
@[simp] theorem State.modBuilding_array (s : State) (c : ℕ) (f : Receipt → Receipt) : (State.modBuilding s c f).array = s.array := rfl
@[simp] theorem State.modBuilding_legs (s : State) (c : ℕ) (f : Receipt → Receipt) : (State.modBuilding s c f).legs = s.legs := rfl
@[simp] theorem State.modBuilding_laws (s : State) (c : ℕ) (f : Receipt → Receipt) : (State.modBuilding s c f).laws = s.laws := rfl
@[simp] theorem State.modBuilding_juggler (s : State) (c : ℕ) (f : Receipt → Receipt) : (State.modBuilding s c f).juggler = s.juggler := rfl
@[simp] theorem State.modBuilding_thermal (s : State) (c : ℕ) (f : Receipt → Receipt) : (State.modBuilding s c f).thermal = s.thermal := rfl
@[simp] theorem State.modBuilding_barker (s : State) (c : ℕ) (f : Receipt → Receipt) : (State.modBuilding s c f).barker = s.barker := rfl
@[simp] theorem State.modBuilding_ident (s : State) (c : ℕ) (f : Receipt → Receipt) : (State.modBuilding s c f).ident = s.ident := rfl
@[simp] theorem State.modBuilding_keys (s : State) (c : ℕ) (f : Receipt → Receipt) : (State.modBuilding s c f).keys = s.keys := rfl
@[simp] theorem State.modBuilding_update (s : State) (c : ℕ) (f : Receipt → Receipt) : (State.modBuilding s c f).update = s.update := rfl
@[simp] theorem State.modBuilding_ptp (s : State) (c : ℕ) (f : Receipt → Receipt) : (State.modBuilding s c f).ptp = s.ptp := rfl
@[simp] theorem State.modBuilding_pair (s : State) (c : ℕ) (f : Receipt → Receipt) : (State.modBuilding s c f).pair = s.pair := rfl
@[simp] theorem State.modBuilding_port (s : State) (c : ℕ) (f : Receipt → Receipt) : (State.modBuilding s c f).port = s.port := rfl
@[simp] theorem State.modBuilding_tokens (s : State) (c : ℕ) (f : Receipt → Receipt) : (State.modBuilding s c f).tokens = s.tokens := rfl
@[simp] theorem State.modBuilding_tamper (s : State) (c : ℕ) (f : Receipt → Receipt) : (State.modBuilding s c f).tamper = s.tamper := rfl
@[simp] theorem State.modBuilding_safety (s : State) (c : ℕ) (f : Receipt → Receipt) : (State.modBuilding s c f).safety = s.safety := rfl
@[simp] theorem State.modBuilding_drives (s : State) (c : ℕ) (f : Receipt → Receipt) : (State.modBuilding s c f).drives = s.drives := rfl
@[simp] theorem State.modBuilding_supply (s : State) (c : ℕ) (f : Receipt → Receipt) : (State.modBuilding s c f).supply = s.supply := rfl
@[simp] theorem State.modBuilding_buses (s : State) (c : ℕ) (f : Receipt → Receipt) : (State.modBuilding s c f).buses = s.buses := rfl
@[simp] theorem State.modBuilding_pending (s : State) (c : ℕ) (f : Receipt → Receipt) : (State.modBuilding s c f).pending = s.pending := rfl

/-! State.modLs -/

@[simp] theorem State.modLs_time (s : State) (n : ℕ) (f : LoadSw → LoadSw) : (State.modLs s n f).time = s.time := rfl
@[simp] theorem State.modLs_free (s : State) (n : ℕ) (f : LoadSw → LoadSw) : (State.modLs s n f).free = s.free := rfl
@[simp] theorem State.modLs_carousel (s : State) (n : ℕ) (f : LoadSw → LoadSw) : (State.modLs s n f).carousel = s.carousel := rfl
@[simp] theorem State.modLs_wall (s : State) (n : ℕ) (f : LoadSw → LoadSw) : (State.modLs s n f).wall = s.wall := rfl
@[simp] theorem State.modLs_startup (s : State) (n : ℕ) (f : LoadSw → LoadSw) : (State.modLs s n f).startup = s.startup := rfl
@[simp] theorem State.modLs_flash (s : State) (n : ℕ) (f : LoadSw → LoadSw) : (State.modLs s n f).flash = s.flash := rfl
@[simp] theorem State.modLs_array (s : State) (n : ℕ) (f : LoadSw → LoadSw) : (State.modLs s n f).array = s.array := rfl
@[simp] theorem State.modLs_legs (s : State) (n : ℕ) (f : LoadSw → LoadSw) : (State.modLs s n f).legs = s.legs := rfl
@[simp] theorem State.modLs_laws (s : State) (n : ℕ) (f : LoadSw → LoadSw) : (State.modLs s n f).laws = s.laws := rfl
@[simp] theorem State.modLs_juggler (s : State) (n : ℕ) (f : LoadSw → LoadSw) : (State.modLs s n f).juggler = s.juggler := rfl
@[simp] theorem State.modLs_thermal (s : State) (n : ℕ) (f : LoadSw → LoadSw) : (State.modLs s n f).thermal = s.thermal := rfl
@[simp] theorem State.modLs_barker (s : State) (n : ℕ) (f : LoadSw → LoadSw) : (State.modLs s n f).barker = s.barker := rfl
@[simp] theorem State.modLs_scribe (s : State) (n : ℕ) (f : LoadSw → LoadSw) : (State.modLs s n f).scribe = s.scribe := rfl
@[simp] theorem State.modLs_ident (s : State) (n : ℕ) (f : LoadSw → LoadSw) : (State.modLs s n f).ident = s.ident := rfl
@[simp] theorem State.modLs_keys (s : State) (n : ℕ) (f : LoadSw → LoadSw) : (State.modLs s n f).keys = s.keys := rfl
@[simp] theorem State.modLs_update (s : State) (n : ℕ) (f : LoadSw → LoadSw) : (State.modLs s n f).update = s.update := rfl
@[simp] theorem State.modLs_ptp (s : State) (n : ℕ) (f : LoadSw → LoadSw) : (State.modLs s n f).ptp = s.ptp := rfl
@[simp] theorem State.modLs_pair (s : State) (n : ℕ) (f : LoadSw → LoadSw) : (State.modLs s n f).pair = s.pair := rfl
@[simp] theorem State.modLs_port (s : State) (n : ℕ) (f : LoadSw → LoadSw) : (State.modLs s n f).port = s.port := rfl
@[simp] theorem State.modLs_tokens (s : State) (n : ℕ) (f : LoadSw → LoadSw) : (State.modLs s n f).tokens = s.tokens := rfl
@[simp] theorem State.modLs_tamper (s : State) (n : ℕ) (f : LoadSw → LoadSw) : (State.modLs s n f).tamper = s.tamper := rfl
@[simp] theorem State.modLs_safety (s : State) (n : ℕ) (f : LoadSw → LoadSw) : (State.modLs s n f).safety = s.safety := rfl
@[simp] theorem State.modLs_supply (s : State) (n : ℕ) (f : LoadSw → LoadSw) : (State.modLs s n f).supply = s.supply := rfl
@[simp] theorem State.modLs_buses (s : State) (n : ℕ) (f : LoadSw → LoadSw) : (State.modLs s n f).buses = s.buses := rfl
@[simp] theorem State.modLs_pending (s : State) (n : ℕ) (f : LoadSw → LoadSw) : (State.modLs s n f).pending = s.pending := rfl

/-! State.modSupply -/

@[simp] theorem State.modSupply_time (s : State) (f : Supply → Supply) : (State.modSupply s f).time = s.time := rfl
@[simp] theorem State.modSupply_free (s : State) (f : Supply → Supply) : (State.modSupply s f).free = s.free := rfl
@[simp] theorem State.modSupply_carousel (s : State) (f : Supply → Supply) : (State.modSupply s f).carousel = s.carousel := rfl
@[simp] theorem State.modSupply_wall (s : State) (f : Supply → Supply) : (State.modSupply s f).wall = s.wall := rfl
@[simp] theorem State.modSupply_startup (s : State) (f : Supply → Supply) : (State.modSupply s f).startup = s.startup := rfl
@[simp] theorem State.modSupply_flash (s : State) (f : Supply → Supply) : (State.modSupply s f).flash = s.flash := rfl
@[simp] theorem State.modSupply_array (s : State) (f : Supply → Supply) : (State.modSupply s f).array = s.array := rfl
@[simp] theorem State.modSupply_legs (s : State) (f : Supply → Supply) : (State.modSupply s f).legs = s.legs := rfl
@[simp] theorem State.modSupply_laws (s : State) (f : Supply → Supply) : (State.modSupply s f).laws = s.laws := rfl
@[simp] theorem State.modSupply_juggler (s : State) (f : Supply → Supply) : (State.modSupply s f).juggler = s.juggler := rfl
@[simp] theorem State.modSupply_thermal (s : State) (f : Supply → Supply) : (State.modSupply s f).thermal = s.thermal := rfl
@[simp] theorem State.modSupply_barker (s : State) (f : Supply → Supply) : (State.modSupply s f).barker = s.barker := rfl
@[simp] theorem State.modSupply_scribe (s : State) (f : Supply → Supply) : (State.modSupply s f).scribe = s.scribe := rfl
@[simp] theorem State.modSupply_ident (s : State) (f : Supply → Supply) : (State.modSupply s f).ident = s.ident := rfl
@[simp] theorem State.modSupply_keys (s : State) (f : Supply → Supply) : (State.modSupply s f).keys = s.keys := rfl
@[simp] theorem State.modSupply_update (s : State) (f : Supply → Supply) : (State.modSupply s f).update = s.update := rfl
@[simp] theorem State.modSupply_ptp (s : State) (f : Supply → Supply) : (State.modSupply s f).ptp = s.ptp := rfl
@[simp] theorem State.modSupply_pair (s : State) (f : Supply → Supply) : (State.modSupply s f).pair = s.pair := rfl
@[simp] theorem State.modSupply_port (s : State) (f : Supply → Supply) : (State.modSupply s f).port = s.port := rfl
@[simp] theorem State.modSupply_tokens (s : State) (f : Supply → Supply) : (State.modSupply s f).tokens = s.tokens := rfl
@[simp] theorem State.modSupply_tamper (s : State) (f : Supply → Supply) : (State.modSupply s f).tamper = s.tamper := rfl
@[simp] theorem State.modSupply_safety (s : State) (f : Supply → Supply) : (State.modSupply s f).safety = s.safety := rfl
@[simp] theorem State.modSupply_drives (s : State) (f : Supply → Supply) : (State.modSupply s f).drives = s.drives := rfl
@[simp] theorem State.modSupply_supply (s : State) (f : Supply → Supply) : (State.modSupply s f).supply = f s.supply := rfl
@[simp] theorem State.modSupply_buses (s : State) (f : Supply → Supply) : (State.modSupply s f).buses = s.buses := rfl
@[simp] theorem State.modSupply_pending (s : State) (f : Supply → Supply) : (State.modSupply s f).pending = s.pending := rfl

/-! State.modOut -/

@[simp] theorem State.modOut_time (s : State) (n : ℕ) (f : SafeOut → SafeOut) : (State.modOut s n f).time = s.time := rfl
@[simp] theorem State.modOut_free (s : State) (n : ℕ) (f : SafeOut → SafeOut) : (State.modOut s n f).free = s.free := rfl
@[simp] theorem State.modOut_carousel (s : State) (n : ℕ) (f : SafeOut → SafeOut) : (State.modOut s n f).carousel = s.carousel := rfl
@[simp] theorem State.modOut_wall (s : State) (n : ℕ) (f : SafeOut → SafeOut) : (State.modOut s n f).wall = s.wall := rfl
@[simp] theorem State.modOut_startup (s : State) (n : ℕ) (f : SafeOut → SafeOut) : (State.modOut s n f).startup = s.startup := rfl
@[simp] theorem State.modOut_flash (s : State) (n : ℕ) (f : SafeOut → SafeOut) : (State.modOut s n f).flash = s.flash := rfl
@[simp] theorem State.modOut_array (s : State) (n : ℕ) (f : SafeOut → SafeOut) : (State.modOut s n f).array = s.array := rfl
@[simp] theorem State.modOut_legs (s : State) (n : ℕ) (f : SafeOut → SafeOut) : (State.modOut s n f).legs = s.legs := rfl
@[simp] theorem State.modOut_laws (s : State) (n : ℕ) (f : SafeOut → SafeOut) : (State.modOut s n f).laws = s.laws := rfl
@[simp] theorem State.modOut_juggler (s : State) (n : ℕ) (f : SafeOut → SafeOut) : (State.modOut s n f).juggler = s.juggler := rfl
@[simp] theorem State.modOut_thermal (s : State) (n : ℕ) (f : SafeOut → SafeOut) : (State.modOut s n f).thermal = s.thermal := rfl
@[simp] theorem State.modOut_barker (s : State) (n : ℕ) (f : SafeOut → SafeOut) : (State.modOut s n f).barker = s.barker := rfl
@[simp] theorem State.modOut_scribe (s : State) (n : ℕ) (f : SafeOut → SafeOut) : (State.modOut s n f).scribe = s.scribe := rfl
@[simp] theorem State.modOut_ident (s : State) (n : ℕ) (f : SafeOut → SafeOut) : (State.modOut s n f).ident = s.ident := rfl
@[simp] theorem State.modOut_keys (s : State) (n : ℕ) (f : SafeOut → SafeOut) : (State.modOut s n f).keys = s.keys := rfl
@[simp] theorem State.modOut_update (s : State) (n : ℕ) (f : SafeOut → SafeOut) : (State.modOut s n f).update = s.update := rfl
@[simp] theorem State.modOut_ptp (s : State) (n : ℕ) (f : SafeOut → SafeOut) : (State.modOut s n f).ptp = s.ptp := rfl
@[simp] theorem State.modOut_pair (s : State) (n : ℕ) (f : SafeOut → SafeOut) : (State.modOut s n f).pair = s.pair := rfl
@[simp] theorem State.modOut_port (s : State) (n : ℕ) (f : SafeOut → SafeOut) : (State.modOut s n f).port = s.port := rfl
@[simp] theorem State.modOut_tokens (s : State) (n : ℕ) (f : SafeOut → SafeOut) : (State.modOut s n f).tokens = s.tokens := rfl
@[simp] theorem State.modOut_tamper (s : State) (n : ℕ) (f : SafeOut → SafeOut) : (State.modOut s n f).tamper = s.tamper := rfl
@[simp] theorem State.modOut_drives (s : State) (n : ℕ) (f : SafeOut → SafeOut) : (State.modOut s n f).drives = s.drives := rfl
@[simp] theorem State.modOut_supply (s : State) (n : ℕ) (f : SafeOut → SafeOut) : (State.modOut s n f).supply = s.supply := rfl
@[simp] theorem State.modOut_buses (s : State) (n : ℕ) (f : SafeOut → SafeOut) : (State.modOut s n f).buses = s.buses := rfl
@[simp] theorem State.modOut_pending (s : State) (n : ℕ) (f : SafeOut → SafeOut) : (State.modOut s n f).pending = s.pending := rfl

/-! State.modEth -/

@[simp] theorem State.modEth_time (s : State) (p : EthNo) (f : Eth → Eth) : (State.modEth s p f).time = s.time := rfl
@[simp] theorem State.modEth_free (s : State) (p : EthNo) (f : Eth → Eth) : (State.modEth s p f).free = s.free := rfl
@[simp] theorem State.modEth_carousel (s : State) (p : EthNo) (f : Eth → Eth) : (State.modEth s p f).carousel = s.carousel := rfl
@[simp] theorem State.modEth_wall (s : State) (p : EthNo) (f : Eth → Eth) : (State.modEth s p f).wall = s.wall := rfl
@[simp] theorem State.modEth_startup (s : State) (p : EthNo) (f : Eth → Eth) : (State.modEth s p f).startup = s.startup := rfl
@[simp] theorem State.modEth_flash (s : State) (p : EthNo) (f : Eth → Eth) : (State.modEth s p f).flash = s.flash := rfl
@[simp] theorem State.modEth_array (s : State) (p : EthNo) (f : Eth → Eth) : (State.modEth s p f).array = s.array := rfl
@[simp] theorem State.modEth_legs (s : State) (p : EthNo) (f : Eth → Eth) : (State.modEth s p f).legs = s.legs := rfl
@[simp] theorem State.modEth_laws (s : State) (p : EthNo) (f : Eth → Eth) : (State.modEth s p f).laws = s.laws := rfl
@[simp] theorem State.modEth_juggler (s : State) (p : EthNo) (f : Eth → Eth) : (State.modEth s p f).juggler = s.juggler := rfl
@[simp] theorem State.modEth_thermal (s : State) (p : EthNo) (f : Eth → Eth) : (State.modEth s p f).thermal = s.thermal := rfl
@[simp] theorem State.modEth_barker (s : State) (p : EthNo) (f : Eth → Eth) : (State.modEth s p f).barker = s.barker := rfl
@[simp] theorem State.modEth_scribe (s : State) (p : EthNo) (f : Eth → Eth) : (State.modEth s p f).scribe = s.scribe := rfl
@[simp] theorem State.modEth_ident (s : State) (p : EthNo) (f : Eth → Eth) : (State.modEth s p f).ident = s.ident := rfl
@[simp] theorem State.modEth_keys (s : State) (p : EthNo) (f : Eth → Eth) : (State.modEth s p f).keys = s.keys := rfl
@[simp] theorem State.modEth_update (s : State) (p : EthNo) (f : Eth → Eth) : (State.modEth s p f).update = s.update := rfl
@[simp] theorem State.modEth_ptp (s : State) (p : EthNo) (f : Eth → Eth) : (State.modEth s p f).ptp = s.ptp := rfl
@[simp] theorem State.modEth_pair (s : State) (p : EthNo) (f : Eth → Eth) : (State.modEth s p f).pair = s.pair := rfl
@[simp] theorem State.modEth_port (s : State) (p : EthNo) (f : Eth → Eth) : (State.modEth s p f).port = s.port := rfl
@[simp] theorem State.modEth_tokens (s : State) (p : EthNo) (f : Eth → Eth) : (State.modEth s p f).tokens = s.tokens := rfl
@[simp] theorem State.modEth_tamper (s : State) (p : EthNo) (f : Eth → Eth) : (State.modEth s p f).tamper = s.tamper := rfl
@[simp] theorem State.modEth_safety (s : State) (p : EthNo) (f : Eth → Eth) : (State.modEth s p f).safety = s.safety := rfl
@[simp] theorem State.modEth_drives (s : State) (p : EthNo) (f : Eth → Eth) : (State.modEth s p f).drives = s.drives := rfl
@[simp] theorem State.modEth_supply (s : State) (p : EthNo) (f : Eth → Eth) : (State.modEth s p f).supply = s.supply := rfl
@[simp] theorem State.modEth_pending (s : State) (p : EthNo) (f : Eth → Eth) : (State.modEth s p f).pending = s.pending := rfl

/-! State.modGroupVs -/

@[simp] theorem State.modGroupVs_time (s : State) (g : ℕ) (f : SupplyGroup → SupplyGroup) : (State.modGroupVs s g f).time = s.time := rfl
@[simp] theorem State.modGroupVs_free (s : State) (g : ℕ) (f : SupplyGroup → SupplyGroup) : (State.modGroupVs s g f).free = s.free := rfl
@[simp] theorem State.modGroupVs_carousel (s : State) (g : ℕ) (f : SupplyGroup → SupplyGroup) : (State.modGroupVs s g f).carousel = s.carousel := rfl
@[simp] theorem State.modGroupVs_wall (s : State) (g : ℕ) (f : SupplyGroup → SupplyGroup) : (State.modGroupVs s g f).wall = s.wall := rfl
@[simp] theorem State.modGroupVs_startup (s : State) (g : ℕ) (f : SupplyGroup → SupplyGroup) : (State.modGroupVs s g f).startup = s.startup := rfl
@[simp] theorem State.modGroupVs_flash (s : State) (g : ℕ) (f : SupplyGroup → SupplyGroup) : (State.modGroupVs s g f).flash = s.flash := rfl
@[simp] theorem State.modGroupVs_array (s : State) (g : ℕ) (f : SupplyGroup → SupplyGroup) : (State.modGroupVs s g f).array = s.array := rfl
@[simp] theorem State.modGroupVs_legs (s : State) (g : ℕ) (f : SupplyGroup → SupplyGroup) : (State.modGroupVs s g f).legs = s.legs := rfl
@[simp] theorem State.modGroupVs_laws (s : State) (g : ℕ) (f : SupplyGroup → SupplyGroup) : (State.modGroupVs s g f).laws = s.laws := rfl
@[simp] theorem State.modGroupVs_juggler (s : State) (g : ℕ) (f : SupplyGroup → SupplyGroup) : (State.modGroupVs s g f).juggler = s.juggler := rfl
@[simp] theorem State.modGroupVs_thermal (s : State) (g : ℕ) (f : SupplyGroup → SupplyGroup) : (State.modGroupVs s g f).thermal = s.thermal := rfl
@[simp] theorem State.modGroupVs_barker (s : State) (g : ℕ) (f : SupplyGroup → SupplyGroup) : (State.modGroupVs s g f).barker = s.barker := rfl
@[simp] theorem State.modGroupVs_scribe (s : State) (g : ℕ) (f : SupplyGroup → SupplyGroup) : (State.modGroupVs s g f).scribe = s.scribe := rfl
@[simp] theorem State.modGroupVs_ident (s : State) (g : ℕ) (f : SupplyGroup → SupplyGroup) : (State.modGroupVs s g f).ident = s.ident := rfl
@[simp] theorem State.modGroupVs_keys (s : State) (g : ℕ) (f : SupplyGroup → SupplyGroup) : (State.modGroupVs s g f).keys = s.keys := rfl
@[simp] theorem State.modGroupVs_update (s : State) (g : ℕ) (f : SupplyGroup → SupplyGroup) : (State.modGroupVs s g f).update = s.update := rfl
@[simp] theorem State.modGroupVs_ptp (s : State) (g : ℕ) (f : SupplyGroup → SupplyGroup) : (State.modGroupVs s g f).ptp = s.ptp := rfl
@[simp] theorem State.modGroupVs_pair (s : State) (g : ℕ) (f : SupplyGroup → SupplyGroup) : (State.modGroupVs s g f).pair = s.pair := rfl
@[simp] theorem State.modGroupVs_port (s : State) (g : ℕ) (f : SupplyGroup → SupplyGroup) : (State.modGroupVs s g f).port = s.port := rfl
@[simp] theorem State.modGroupVs_tokens (s : State) (g : ℕ) (f : SupplyGroup → SupplyGroup) : (State.modGroupVs s g f).tokens = s.tokens := rfl
@[simp] theorem State.modGroupVs_tamper (s : State) (g : ℕ) (f : SupplyGroup → SupplyGroup) : (State.modGroupVs s g f).tamper = s.tamper := rfl
@[simp] theorem State.modGroupVs_safety (s : State) (g : ℕ) (f : SupplyGroup → SupplyGroup) : (State.modGroupVs s g f).safety = s.safety := rfl
@[simp] theorem State.modGroupVs_supply (s : State) (g : ℕ) (f : SupplyGroup → SupplyGroup) : (State.modGroupVs s g f).supply = s.supply := rfl
@[simp] theorem State.modGroupVs_buses (s : State) (g : ℕ) (f : SupplyGroup → SupplyGroup) : (State.modGroupVs s g f).buses = s.buses := rfl
@[simp] theorem State.modGroupVs_pending (s : State) (g : ℕ) (f : SupplyGroup → SupplyGroup) : (State.modGroupVs s g f).pending = s.pending := rfl

/-! State.modPtp -/

@[simp] theorem State.modPtp_time (s : State) (f : Ptp → Ptp) : (State.modPtp s f).time = s.time := rfl
@[simp] theorem State.modPtp_free (s : State) (f : Ptp → Ptp) : (State.modPtp s f).free = s.free := rfl
@[simp] theorem State.modPtp_carousel (s : State) (f : Ptp → Ptp) : (State.modPtp s f).carousel = s.carousel := rfl
@[simp] theorem State.modPtp_wall (s : State) (f : Ptp → Ptp) : (State.modPtp s f).wall = s.wall := rfl
@[simp] theorem State.modPtp_startup (s : State) (f : Ptp → Ptp) : (State.modPtp s f).startup = s.startup := rfl
@[simp] theorem State.modPtp_flash (s : State) (f : Ptp → Ptp) : (State.modPtp s f).flash = s.flash := rfl
@[simp] theorem State.modPtp_array (s : State) (f : Ptp → Ptp) : (State.modPtp s f).array = s.array := rfl
@[simp] theorem State.modPtp_legs (s : State) (f : Ptp → Ptp) : (State.modPtp s f).legs = s.legs := rfl
@[simp] theorem State.modPtp_laws (s : State) (f : Ptp → Ptp) : (State.modPtp s f).laws = s.laws := rfl
@[simp] theorem State.modPtp_juggler (s : State) (f : Ptp → Ptp) : (State.modPtp s f).juggler = s.juggler := rfl
@[simp] theorem State.modPtp_thermal (s : State) (f : Ptp → Ptp) : (State.modPtp s f).thermal = s.thermal := rfl
@[simp] theorem State.modPtp_barker (s : State) (f : Ptp → Ptp) : (State.modPtp s f).barker = s.barker := rfl
@[simp] theorem State.modPtp_scribe (s : State) (f : Ptp → Ptp) : (State.modPtp s f).scribe = s.scribe := rfl
@[simp] theorem State.modPtp_ident (s : State) (f : Ptp → Ptp) : (State.modPtp s f).ident = s.ident := rfl
@[simp] theorem State.modPtp_keys (s : State) (f : Ptp → Ptp) : (State.modPtp s f).keys = s.keys := rfl
@[simp] theorem State.modPtp_update (s : State) (f : Ptp → Ptp) : (State.modPtp s f).update = s.update := rfl
@[simp] theorem State.modPtp_ptp (s : State) (f : Ptp → Ptp) : (State.modPtp s f).ptp = f s.ptp := rfl
@[simp] theorem State.modPtp_pair (s : State) (f : Ptp → Ptp) : (State.modPtp s f).pair = s.pair := rfl
@[simp] theorem State.modPtp_port (s : State) (f : Ptp → Ptp) : (State.modPtp s f).port = s.port := rfl
@[simp] theorem State.modPtp_tokens (s : State) (f : Ptp → Ptp) : (State.modPtp s f).tokens = s.tokens := rfl
@[simp] theorem State.modPtp_tamper (s : State) (f : Ptp → Ptp) : (State.modPtp s f).tamper = s.tamper := rfl
@[simp] theorem State.modPtp_safety (s : State) (f : Ptp → Ptp) : (State.modPtp s f).safety = s.safety := rfl
@[simp] theorem State.modPtp_drives (s : State) (f : Ptp → Ptp) : (State.modPtp s f).drives = s.drives := rfl
@[simp] theorem State.modPtp_supply (s : State) (f : Ptp → Ptp) : (State.modPtp s f).supply = s.supply := rfl
@[simp] theorem State.modPtp_buses (s : State) (f : Ptp → Ptp) : (State.modPtp s f).buses = s.buses := rfl
@[simp] theorem State.modPtp_pending (s : State) (f : Ptp → Ptp) : (State.modPtp s f).pending = s.pending := rfl

/-! The facts of the clock. -/

@[simp] theorem State.advance_clock (s : State) (t : Nat) : (s.advance t).time.clock = max s.time.clock t := rfl
@[simp] theorem State.advance_tick0 (s : State) (t : Nat) : (s.advance t).time.tick0 = s.time.tick0 := rfl
@[simp] theorem State.nextFree_free (s : State) : s.nextFree.free = s.free + 1 := rfl

end Sys2Proof.Machine
end

