-- ==== Sys2Proof/Laws/Facts.lean ====
section
/-!
SUPPORT. What the shared operations of power, reset and the safety net leave in the fields that statements speak of.
-/
namespace Sys2Proof.Machine
open Sys2Proof

/-! A reset of the logic die. -/

@[simp] theorem State.logicReset_time (s : State) :
    s.logicReset.time = { clock := s.time.clock, tick0 := s.time.clock } := rfl
@[simp] theorem State.logicReset_carousel (s : State) : s.logicReset.carousel = {} := rfl
@[simp] theorem State.logicReset_mode (s : State) : s.logicReset.startup.mode = .off := rfl
@[simp] theorem State.logicReset_bank (s : State) : s.logicReset.startup.bank = s.startup.bank := rfl
@[simp] theorem State.logicReset_scribe (s : State) : s.logicReset.scribe = s.scribe.reset := rfl
@[simp] theorem State.logicReset_update (s : State) : s.logicReset.update = s.update.reset s.time.clock := rfl
@[simp] theorem State.logicReset_pair (s : State) : s.logicReset.pair = {} := rfl
@[simp] theorem State.logicReset_port (s : State) : s.logicReset.port = { startCount := s.port.startCount } := rfl
@[simp] theorem State.logicReset_safety (s : State) :
    s.logicReset.safety = { s.safety with beatAt := none, divergences := 0 } := rfl
@[simp] theorem Scribe.reset_open (x : Scribe) : x.reset.open_ = false := rfl
@[simp] theorem Update.reset_armed (x : Update) (n : Nat) : (x.reset n).armed = none := rfl

/-! The reactions of the safety net: the outputs and the module's own LEGS_OFF line. -/

theorem State.react_safety (s : State) : ∃ o l, s.react.safety = { s.safety with outs := o, legsOwn := l } := by
  unfold State.react
  extract_lets x want
  obtain ⟨o, ho⟩ : ∃ o, x.safety = { s.safety with outs := o } := ⟨_, rfl⟩
  clear_value x want
  split
  · exact ⟨o, s.safety.legsOwn, ho⟩
  · refine ⟨o, want, ?_⟩
    rw [(State.submit_chg (L := [.laws, .legs, .pair, .port]) (fun z => Chg.step (Chg.refl _ _) (State.takeLegsOff_chg ..)
      (by decide)) (by decide)).safety rfl]
    simp only [State.modSafety_safety, ho]
    rfl

@[simp] theorem State.react_orphan (s : State) : s.react.safety.orphan = s.safety.orphan := by
  obtain ⟨o, l, h⟩ := s.react_safety; rw [h]
@[simp] theorem State.react_orphanAct (s : State) : s.react.safety.orphanAct = s.safety.orphanAct := by
  obtain ⟨o, l, h⟩ := s.react_safety; rw [h]
@[simp] theorem State.react_orphanOut (s : State) : s.react.safety.orphanOut = s.safety.orphanOut := by
  obtain ⟨o, l, h⟩ := s.react_safety; rw [h]
@[simp] theorem State.react_resetUntil (s : State) : s.react.safety.resetUntil = s.safety.resetUntil := by
  obtain ⟨o, l, h⟩ := s.react_safety; rw [h]
@[simp] theorem State.react_netFault (s : State) : s.react.safety.netFault = s.safety.netFault := by
  obtain ⟨o, l, h⟩ := s.react_safety; rw [h]
@[simp] theorem State.react_fns (s : State) : s.react.safety.fns = s.safety.fns := by
  obtain ⟨o, l, h⟩ := s.react_safety; rw [h]
@[simp] theorem State.react_ins (s : State) : s.react.safety.ins = s.safety.ins := by
  obtain ⟨o, l, h⟩ := s.react_safety; rw [h]
@[simp] theorem State.react_sect (s : State) : s.react.safety.sect = s.safety.sect := by
  obtain ⟨o, l, h⟩ := s.react_safety; rw [h]

end Sys2Proof.Machine
end

