-- ==== Sys2Proof/Laws/Flash.lean ====
section
/-!
SUPPORT. The flashes keep their canonical form, a page written is read back, and no other page changes.
-/
namespace Sys2Proof.Machine
open Sys2Proof

theorem wholePage_length (d : List W32) : (wholePage d).length = 1024 := by
  simp only [wholePage, List.length_take, List.length_append, List.length_replicate]; omega

theorem Flash.wf_iff (f : Flash) :
    f.wf = true ↔ (f.map (·.1)).Pairwise (· < ·) ∧ ∀ x ∈ f, x.2.length = 1024 ∧ x.2 ≠ erasedPage := by
  simp [Flash.wf, List.all_eq_true]

theorem Flash.mem_insert {f : Flash} {p : Nat} {d : List W32} {x : Nat × List W32} (h : x ∈ f.insert p d) :
    x = (p, d) ∨ x ∈ f := by
  induction f with
  | nil => simpa [Flash.insert] using h
  | cons y rest ih =>
    unfold Flash.insert at h
    split at h
    · rcases List.mem_cons.mp h with h | h
      · exact .inr (h ▸ List.mem_cons_self ..)
      · exact (ih h).imp id fun k => List.mem_cons_of_mem _ k
    · split at h
      · exact (List.mem_cons.mp h).imp id fun k => List.mem_cons_of_mem _ k
      · exact List.mem_cons.mp h

theorem Flash.insert_sorted {f : Flash} (p : Nat) (d : List W32) (h : (f.map (·.1)).Pairwise (· < ·)) :
    ((f.insert p d).map (·.1)).Pairwise (· < ·) := by
  induction f with
  | nil => simp [Flash.insert]
  | cons y rest ih =>
    simp only [List.map_cons, List.pairwise_cons] at h
    unfold Flash.insert
    split
    · rename_i hy
      simp only [List.map_cons, List.pairwise_cons]
      refine ⟨fun a ha => ?_, ih h.2⟩
      obtain ⟨z, hz, rfl⟩ := List.mem_map.mp ha
      rcases Flash.mem_insert hz with rfl | hz
      · exact hy
      · exact h.1 _ (List.mem_map_of_mem hz)
    · rename_i hy
      split
      · rename_i he
        simp only [List.map_cons, List.pairwise_cons]
        exact ⟨he ▸ h.1, h.2⟩
      · rename_i he
        simp only [List.map_cons, List.pairwise_cons]
        refine ⟨fun a ha => ?_, h.1, h.2⟩
        rcases List.mem_cons.mp ha with rfl | ha
        · omega
        · exact lt_trans (by omega) (h.1 a ha)

theorem Flash.write_wf {f : Flash} (h : f.wf = true) (p : Nat) (d : List W32) : (f.write p d).wf = true := by
  obtain ⟨hs, hp⟩ := (Flash.wf_iff f).mp h
  refine (Flash.wf_iff _).mpr ?_
  unfold Flash.write
  split
  · exact ⟨List.Pairwise.sublist (List.filter_sublist.map _) hs, fun x hx => hp x (List.mem_filter.mp hx).1⟩
  · rename_i hd
    refine ⟨Flash.insert_sorted p _ hs, fun x hx => ?_⟩
    rcases Flash.mem_insert hx with rfl | hx
    · exact ⟨wholePage_length d, hd⟩
    · exact hp x hx

theorem Flash.find_insert (f : Flash) (p : Nat) (d : List W32) (q : Nat) :
    (f.insert p d).find? (fun x => x.1 = q) = if q = p then some (p, d) else f.find? fun x => x.1 = q := by
  induction f with
  | nil =>
    by_cases hq : q = p
    · simp [Flash.insert, hq]
    · simp [Flash.insert, hq, Ne.symm hq]
  | cons y rest ih =>
    unfold Flash.insert
    split
    · rename_i hy
      by_cases hyq : y.1 = q
      · have : q ≠ p := by omega
        simp [hyq, this]
      · simp [hyq, ih]
    · split
      · rename_i hy he
        by_cases hq : q = p
        · simp [hq]
        · have h1 : ¬p = q := fun h => hq h.symm
          have h2 : ¬y.1 = q := by omega
          simp [hq, h1, h2]
      · by_cases hq : q = p
        · simp [hq]
        · have h1 : ¬p = q := fun h => hq h.symm
          simp [List.find?_cons, hq, h1]

theorem Flash.page_write (f : Flash) (p : Nat) (d : List W32) (q : Nat) :
    (f.write p d).page q = if q = p then wholePage d else f.page q := by
  unfold Flash.write
  split
  · rename_i hd
    unfold Flash.page
    by_cases hq : q = p
    · have : (f.filter fun x => decide (x.1 ≠ p)).find? (fun x => decide (x.1 = q)) = none := by
        rw [List.find?_eq_none]
        intro x hx
        have := (List.mem_filter.mp hx).2
        simp only [decide_eq_true_eq] at this ⊢
        omega
      rw [if_pos hq, this, hd]
    · have : (f.filter fun x => decide (x.1 ≠ p)).find? (fun x => decide (x.1 = q)) = f.find? fun x => decide (x.1 = q) := by
        rw [List.find?_filter]
        congr 1
        funext a
        by_cases ha : a.1 = q
        · simp [ha, hq]
        · simp [ha]
      rw [if_neg hq, this]
  · unfold Flash.page
    rw [Flash.find_insert f p _ q]
    by_cases hq : q = p <;> simp [hq]

theorem Flash.empty_wf : Flash.wf [] = true := by decide

theorem State.writePage_flashOk {s : State} (h : FlashOk s) (k : BankId) (p : Nat) (d : List W32) :
    FlashOk (s.writePage k p d) := by
  cases k
  · exact ⟨Flash.write_wf h.1 p d, h.2⟩
  · exact ⟨h.1, Flash.write_wf h.2 p d⟩

theorem Flash.copyPages_wf {f g : Flash} (hf : f.wf = true) (hg : g.wf = true) {p q : Nat} (hpq : p ≤ q) :
    (f.copyPages g p q).wf = true := by
  obtain ⟨fs, fp⟩ := (Flash.wf_iff f).mp hf
  obtain ⟨gs, gp⟩ := (Flash.wf_iff g).mp hg
  refine (Flash.wf_iff _).mpr ⟨?_, fun x hx => ?_⟩
  · have sub (h : Flash) (k : Nat × List W32 → Bool) (hs : (h.map (·.1)).Pairwise (· < ·)) :
        ((h.filter k).map (·.1)).Pairwise (· < ·) := List.Pairwise.sublist (List.filter_sublist.map _) hs
    simp only [Flash.copyPages, List.map_append]
    refine List.pairwise_append.mpr ⟨List.pairwise_append.mpr ⟨sub _ _ fs, sub _ _ gs, ?_⟩, sub _ _ fs, ?_⟩
    · intro a ha b hb
      obtain ⟨x, hx, rfl⟩ := List.mem_map.mp ha
      obtain ⟨y, hy, rfl⟩ := List.mem_map.mp hb
      have h1 := (List.mem_filter.mp hx).2
      have h2 := (List.mem_filter.mp hy).2
      simp only [decide_eq_true_eq, Bool.and_eq_true] at h1 h2
      omega
    · intro a ha b hb
      obtain ⟨y, hy, rfl⟩ := List.mem_map.mp hb
      have h2 := (List.mem_filter.mp hy).2
      simp only [decide_eq_true_eq] at h2
      rcases List.mem_append.mp ha with ha | ha
      · obtain ⟨x, hx, rfl⟩ := List.mem_map.mp ha
        have h1 := (List.mem_filter.mp hx).2
        simp only [decide_eq_true_eq] at h1
        omega
      · obtain ⟨x, hx, rfl⟩ := List.mem_map.mp ha
        have h1 := (List.mem_filter.mp hx).2
        simp only [decide_eq_true_eq, Bool.and_eq_true] at h1
        omega
  · simp only [Flash.copyPages, List.mem_append, List.mem_filter] at hx
    rcases hx with (hx | hx) | hx
    · exact fp x hx.1
    · exact gp x hx.1
    · exact fp x hx.1

theorem FlashOk.bank {s : State} (h : FlashOk s) (k : BankId) : (s.flash.bank k).wf = true := by
  cases k
  · exact h.1
  · exact h.2

theorem State.putBank_flashOk {s : State} (h : FlashOk s) (k : BankId) {f : Flash} (hf : f.wf = true) : FlashOk (s.putBank k f) := by
  cases k
  · exact ⟨hf, h.2⟩
  · exact ⟨h.1, hf⟩

theorem State.prepare_flashOk {s : State} (h : FlashOk s) : FlashOk s.prepare := by
  unfold State.prepare
  extract_lets own f0 f1 f2
  have h1 : f1.wf = true := by
    unfold f1
    split
    · exact h.bank _
    · exact Flash.copyPages_wf (h.bank _) (h.bank _) (by decide)
  have h2 : f2.wf = true := by
    unfold f2
    split
    · exact h1
    · exact Flash.copyPages_wf h1 (h.bank _) (by decide)
  exact State.putBank_flashOk h _ h2

theorem State.writePages_flashOk {s : State} (h : FlashOk s) (k : BankId) (p : Nat) (w : List W32) (n : Nat) :
    FlashOk (s.writePages k p w n) := by
  unfold State.writePages
  induction List.range n generalizing s with
  | nil => exact h
  | cons a l ih => exact ih (State.writePage_flashOk h _ _ _)

/-- What leaves both flashes as they are keeps their form. -/
theorem FlashOk.of_chg {L : List Part} {s u : State} (h : FlashOk s) (k : Chg L s u) (hL : L.contains .flash = false) : FlashOk u := by
  have e : u.flash = s.flash := k.same .flash hL
  exact ⟨e ▸ h.1, e ▸ h.2⟩

end Sys2Proof.Machine
end

