-- ==== Sys2Proof/Laws/Journal.lean ====
section
/-!
SUPPORT. What becomes of an input that reaches the module, in each state of the pair, and of an entry of the journal at its EFFECT
stamp: one lemma for each thing that `State.submit` and `State.journal` can do.
-/
namespace Sys2Proof.Machine
open Sys2Proof

/-- A module without a journal takes the input at once. -/
theorem State.submit_alone {s : State} (h : journals s.pair.st = false) (i : JInput) (f : State → State) : s.submit i f = f s := by
  unfold State.submit
  unfold journals at h
  split <;> simp_all

/-- A holder, and a module in SOLO, enters it in the journal. -/
theorem State.submit_holds {s : State} (h : s.pair.st = .holder ∨ s.pair.st = .solo) (i : JInput) (f : State → State) :
    s.submit i f = s.journal i := by
  unfold State.submit
  rcases h with h | h <;> rw [h]

/-- A follower takes no decision of its own. -/
theorem State.submit_follows {s : State} (h : s.decides = false) {i : JInput} (hi : inputInline i = true) (f : State → State) :
    s.submit i f = s := by
  unfold State.submit
  unfold State.decides at h
  split <;> simp_all

/-- A follower keeps a copy of a referenced input. -/
theorem State.submit_copies {s : State} (h : s.decides = false) {i : JInput} (hi : inputInline i = false) (f : State → State) :
    (s.submit i f).pair.copies = s.pair.copies ++
      [{ source := inputSource i, digest := (inputSum i).2, phase := s.carousel.phase, input := i }] := by
  unfold State.submit
  unfold State.decides at h
  split <;> simp_all

@[simp] theorem State.journal_jseq (s : State) (i : JInput) : (s.journal i).pair.jseq = (s.pair.jseq + 1) % 2 ^ 32 := rfl
@[simp] theorem State.journal_st (s : State) (i : JInput) : (s.journal i).pair.st = s.pair.st := rfl
@[simp] theorem State.journal_applied (s : State) (i : JInput) : (s.journal i).pair.applied = s.pair.applied := rfl
@[simp] theorem State.journal_copies (s : State) (i : JInput) : (s.journal i).pair.copies = s.pair.copies := rfl

/-- The entry of an input is the last of the journal. -/
theorem State.journal_journal (s : State) (i : JInput) : (s.journal i).pair.journal = s.pair.journal ++
    [{ entry := { source := inputSource i, inline_ := inputInline i, length := (inputSum i).1
                  jseq := (s.pair.jseq + 1) % 2 ^ 32, effect := s.stampOf s.tick + s.journalLead, arrival := s.tick
                  digest := (inputSum i).2 }, input := some i }] := rfl

end Sys2Proof.Machine
end

