-- ==== Sys2Proof/Laws/Vec.lean ====
section
/-!
SUPPORT. Reading an element of a vector after the updates of Machine/Bits.lean.
-/
namespace Sys2Proof.Machine

theorem vget_of_lt {α : Type} {n : Nat} (v : Vector α n) (i : Nat) (d : α) (h : i < n) : vget v i d = v[i] := by
  simp [vget, h]

theorem vget_of_ge {α : Type} {n : Nat} (v : Vector α n) (i : Nat) (d : α) (h : n ≤ i) : vget v i d = d := by
  simp [vget, h]

@[simp] theorem vget_val {α : Type} {n : Nat} (v : Vector α n) (i : Fin n) (d : α) : vget v i.val d = v[i] := by
  simp [vget]

@[simp] theorem vmapIdx_get {α : Type} {n : Nat} (f : Nat → α → α) (v : Vector α n) (i : Nat) (h : i < n) :
    (vmapIdx f v)[i] = f i v[i] := by
  simp [vmapIdx]

@[simp] theorem vmap_get {α : Type} {n : Nat} (f : α → α) (v : Vector α n) (i : Nat) (h : i < n) :
    (vmap f v)[i] = f v[i] := by
  simp [vmap]

@[simp] theorem vmod_get {α : Type} {n : Nat} (v : Vector α n) (i : Fin n) (f : α → α) (j : Nat) (h : j < n) :
    (vmod v i f)[j] = if j = i.val then f v[i] else v[j] := by
  simp [vmod, Vector.getElem_set, eq_comm]

theorem vget_vmapIdx {α : Type} {n : Nat} (f : Nat → α → α) (v : Vector α n) (i : Nat) (d : α) (h : i < n) :
    vget (vmapIdx f v) i d = f i (vget v i d) := by
  simp [vget_of_lt, h]

theorem vget_vmap {α : Type} {n : Nat} (f : α → α) (v : Vector α n) (i : Nat) (d : α) (h : i < n) :
    vget (vmap f v) i d = f (vget v i d) := by
  simp [vget_of_lt, h]

theorem vget_vput {α : Type} {n : Nat} (v : Vector α n) (i j : Nat) (x d : α) (h : i < n) :
    vget (vput v i x) j d = if j = i then x else vget v j d := by
  by_cases hj : j < n
  · by_cases e : j = i
    · subst e; simp [vget_of_lt, hj, vput]
    · simp [vget_of_lt, hj, vput, Ne.symm e, e]
  · have e : j ≠ i := by omega
    simp [vget_of_ge _ _ _ (not_lt.mp hj), e]

@[simp] theorem vput_get {α : Type} {n : Nat} (v : Vector α n) (i : Nat) (x : α) (j : Nat) (h : j < n) :
    (vput v i x)[j] = if j = i then x else v[j] := by
  by_cases e : j = i
  · subst e; simp [vput]
  · simp [vput, Ne.symm e, e]

end Sys2Proof.Machine
end

