-- ==== Sys2Proof/Machine/Package.lean ====
section
/-!
DEFINITION. What chapter 18 states of the package as data (R701, R702, R704, R705, R720): the names of the balls, the ball groups, the regions,
the balls of a leg, and the rise of the dies above the lid. No command reads them.
-/
namespace Sys2Proof.Machine

/-- The letters of R701, with I, O, Q, S, X and Z omitted. -/
def rowLetters : String := "ABCDEFGHJKLMNPRTUVWY"

/-- The n-th row designator, from 1 (R701): A to Y, then AA to AY, then BA to BM. -/
def rowName (n : Nat) : String :=
  let l := rowLetters.toList
  let last := String.ofList (l.drop ((n - 1) % 20) |>.take 1)
  if n ≤ 20 then last else if n ≤ 40 then "A" ++ last else "B" ++ last

/-- A ball by the numbers of its row and column, as it is written (R701). -/
def ballName (b : Nat × Nat) : String := rowName b.1 ++ toString b.2

/-- The regions of Table 18.3. -/
inductive BallRegion where | west | east | north | centre | south
  deriving DecidableEq, Repr, Inhabited

/-- The region of a position, rows and columns from 1 (Table 18.3). -/
def regionOf (row col : Nat) : BallRegion :=
  if col ≤ 13 then .west else if 40 ≤ col then .east
  else if row ≤ 8 then .north else if row ≤ 32 then .centre else .south

/-- The balls of a leg in the order HI_P, HI_N, LO_P, LO_N, FLT (R705). -/
def legBalls (n : Nat) : List (Nat × Nat) :=
  let k := n / 5
  let j := n % 5
  let row := if j ≤ 2 then 2 * k + 1 else 2 * k + 2
  let col := 4 * (if j ≤ 2 then j else j - 3)
  (List.range 4).map (fun i => (row, col + i + 1)) ++
    [if j = 0 then (2 * k + 1, 13) else (2 * k + 2, 8 + j)]

/-- The ball groups of Table 18.2 with their counts. -/
def ballGroups : List (String × Nat) :=
  [("LEG", 512), ("LEG_FLT", 128), ("SD", 256), ("SDCK", 16), ("LINE", 6), ("MD", 128), ("MDCK", 8), ("AI", 33)] ++
  [("DDR", 148), ("ETH", 16), ("TZ", 8), ("CAN", 16), ("CFG_FLASH", 24), ("REF_CLK", 2), ("RING", 2), ("PAIR_POS", 1)] ++
  [("PFAIL", 1), ("REG_SYNC", 1), ("TMP_IN", 4), ("TMR", 24), ("SI", 32), ("TP", 8), ("SO", 8), ("PUMP_HALL", 176)] ++
  [("LS", 96), ("BUCK", 48), ("TEST", 8), ("AUX_IN", 12), ("VS", 18), ("VDD", 332), ("GROUND", 632)]

/-- Rise of the junctions of the logic, memory and power die above the lid in units of 10 uK, for the dissipations of the three dies in mW
(R720, Table 18.10). The row of the power die is that of its central sensor. -/
def junctionRise (logic memory power : Nat) : Nat × Nat × Nat :=
  (10 * logic + 2 * memory + 2 * power, 6 * logic + 120 * memory + 1 * power, 2 * logic + 1 * memory + 35 * power)

end Sys2Proof.Machine
end

