-- ==== Sys2Proof/WellFormed.lean ====
section
/-!
DEFINITION. Well-formed commands: the operands that stand for a field of a frame, a message or a record fit the width the spec
gives that field. A command that is not well formed cannot occur at a ball or a port; exec gives it a meaning all the same.
-/
namespace Sys2Proof

/-- Value groups of an OBIS code are bytes (R13). -/
def Obis.wf (o : Obis) : Bool := [o.a, o.b, o.c, o.d, o.e, o.f].all (· < 256)

/-- TYPE is 16 bits, and a record has at least one and at most 65 535 payload words (R70). -/
def Rec.wf (r : Rec) : Bool := r.typ < 2 ^ 16 && 1 ≤ r.payload.length && r.payload.length < 2 ^ 16

/-- A tunnel frame is the payload of one UDP datagram over IPv6, below 65 536 bytes, from a 128-bit address (R340). -/
def Datagram.wf (src : Nat) (d : Datagram) : Bool := src < 2 ^ 128 && 4 * d.words.length + d.extra.val < 65536

/-- Identifiers have 11, 29 or 11 bits; data is at most 2 048 bytes (R621). -/
def CanFrame.wf (f : CanFrame) : Bool :=
  (match f.idk with | .base | .xl => decide (f.ident < 2 ^ 11) | .extended => decide (f.ident < 2 ^ 29)) && f.data.length ≤ 2048

/-- The header fields of a journal entry (Table 15.3). -/
def JEntry.wf (e : JEntry) : Bool := e.source < 2 ^ 8 && e.jseq < 2 ^ 32 && e.digest < 2 ^ 64

/-- Operands fit their fields. -/
def Instr.wf : Instr → Bool
  | .get _ _ o _ _ => o.wf
  | .set _ _ o _ _ => o.wf
  | .setStage _ _ base recs => base < 2 ^ 32 && recs.all Rec.wf
  | .attest _ _ nonce => nonce.length ≤ 1048576
  | .updatePiece _ _ piece _ _ => piece < 2 ^ 16
  | .vlink _ src _ d => d.wf src
  | .dio _ x d => d.wf x.src
  | .hello _ x d => d.wf x.src
  | .aiSample _ r => r.length ≤ 32 && r.all (· < 65536)
  | .hallChange _ _ _ _ b => b.length = 3
  | .partnerPumpState _ l => l.length = 8
  | .journalEntryReceived _ x => x.entry.wf
  | .canFrameReceived _ _ f => f.wf
  | .ethFrameReceived _ _ vid _ => vid < 4096
  | .periodMark _ m => m.freqs.length ≤ 8
  | .arm _ _ _ drain => drain < 2
  | .inkPoint _ x => match x with
    | some v => v.outlets.length = 64 && v.groups.length = 16 && v.afes.length = 27
    | none => true
  | .powerUp .. | .startStepTimeout .. | .pairing .. | .pairWinExpiry .. | .refFail .. | .refValid .. | .locked ..
  | .relock .. | .startWinExpiry .. | .glide .. | .nominal .. | .revert .. | .strokeBoundary .. | .halfTurnBoundary ..
  | .ptpAnnounce .. | .ptpSync .. | .ptpTimeout .. | .wallTimeSet .. | .scribeTimeCount .. | .check .. | .commit ..
  | .revisionAck .. | .revisionCancelled .. | .subscribe .. | .event .. | .portReset .. | .connectionOpen ..
  | .connectionLost .. | .malformedMessage .. | .bankRevert .. | .taskRelease .. | .taskTake .. | .park ..
  | .taskComplete .. | .thirdCopyTimeout .. | .deadlineMiss .. | .inkwellScrub .. | .dramScrub .. | .nibBistStart ..
  | .nibBistDone .. | .legFault .. | .readbackFault .. | .driveContention .. | .contentionResolved .. | .legsOffAsserted ..
  | .legsOffReleased .. | .legClear .. | .feedbackLost .. | .sdckLost .. | .sdckValid .. | .lawClear ..
  | .curtailmentWrite .. | .gridCommand .. | .curtSilent .. | .contactorStatus .. | .matrixTimeout .. | .matrixClear ..
  | .sensorValid .. | .dispTempStale .. | .thermalDisagree .. | .dcuStatus .. | .dcuSilent .. | .nodeViewSet ..
  | .sdpRequest .. | .v2gMessage .. | .seccTimeout .. | .authWait .. | .cableCheck .. | .deliveringFlagClear ..
  | .entryTimeout .. | .dioSend .. | .dioPause .. | .dioEnd .. | .pauseMax .. | .timeSend .. | .certExpiring ..
  | .meterInputFault .. | .seal .. | .sealBreak .. | .receiptSelect .. | .counterSignature .. | .noCounter ..
  | .sessionReceipt .. | .changeDisplayTimeout .. | .changeTokenLookup .. | .openingReading .. | .tamperInput ..
  | .safetyCycle .. | .safetyDemand .. | .safetyClear .. | .pulseFault .. | .discrepancyTimeout .. | .resetPress ..
  | .weldDemand .. | .degradedExpired .. | .channelRepaired .. | .safetyAcknowledge .. | .safetyCrossCheck .. | .darkTest ..
  | .soOvercurrent .. | .heartbeat .. | .orphanEnter .. | .orphanTimeout .. | .safetyChange .. | .safetyChangeUnlock ..
  | .hallFault .. | .stall .. | .bootstrapRefresh .. | .bstUv .. | .pumpShort .. | .vmHold .. | .vmRecovered ..
  | .pumpDiag .. | .pumpDiagRepeat .. | .pumpRetry .. | .pumpRetryReset .. | .pumpClear .. | .lsInChange ..
  | .lsTurnOnComplete .. | .lsShort .. | .lsOverload .. | .lsSlewFault .. | .lsOpenLoad .. | .lsFreewheel .. | .lsThermal ..
  | .lsRetry .. | .lsRetryReset .. | .lsSupplyUv .. | .lsSupplyRecovered .. | .loadSwitchClear .. | .regTurnOn ..
  | .regTurnOff .. | .regRampDone .. | .regSyncLock .. | .syncLost .. | .regHiccup .. | .regHiccupEnd .. | .regFault ..
  | .regThermal .. | .regRetryWaitEnd .. | .regPg .. | .regRetryReset .. | .regulatorClear .. | .railFault ..
  | .railRestart .. | .auxInLow .. | .pfail .. | .pfailPowerDown .. | .dieTempMonitor .. | .payloadFetch ..
  | .journalEffect .. | .unmatchedCopyDiscard .. | .strokeRecord .. | .carouselAlignment .. | .misalignment ..
  | .pairHeartbeat .. | .ringWatchdogLapse .. | .ringLost .. | .heartbeatLost .. | .newHolderDrive .. | .yield_ ..
  | .yieldMessage .. | .yieldExecute .. | .partnerDigest .. | .divergenceResult .. | .resyncDone .. | .agreeingDriveTest ..
  | .ringBurst .. | .healthReport .. | .linkState .. | .recommission .. | .canWindow .. | .canTxDone ..
  | .canBusOffRecovery .. | .canRefLost .. | .ethLink .. | .ethAddrDup .. | .telemetrySend .. | .keyImport ..
  | .keyDestroy .. | .commission .. | .retire .. | .updateCheckDone .. | .updateAbort .. | .disarm .. | .armPrepareDone ..
  | .activationDeadline .. | .activationDone .. | .activationReverted .. | .rollbackAdvanced .. | .rollbackCommit ..
  | .legalRelease .. | .startStepComplete .. | .logicDieRestart .. | .legEdge .. | .legSample .. | .modulatorClock ..
  | .outcomeTextExpiry .. | .dutyRampedToZero .. | .timerOutputPulse .. | .canReceiveError .. => true

end Sys2Proof
end

