-- ==== Sys2Proof/Tests/Slice0.lean ====
section
/-!
SUPPORT. The model's own tests: ill-formed commands are refused by WellFormed, a smallest image is accepted, small runs of one
command give what the spec says, and every statement for the provers has a state and operands that meet its hypotheses.
-/
namespace Sys2Proof.Tests

open Sys2Proof Sys2Proof.Config Sys2Proof.Machine

set_option Elab.async false

/-! ### Helpers -/

/-- A record of `n` words from its fields: word, low bit, value. -/
def words (n : Nat) (l : List (Nat × Nat × Nat)) : List W32 :=
  (List.range n).map fun i => BitVec.ofNat 32 (l.foldl (fun (a : Nat) f => if f.1 = i then a + f.2.2 * 2 ^ f.2.1 else a) 0)

/-- One open connection of a role. -/
def conn (r : Role) : Conn := { role := r, port := 0, addr := 0 }

/-- Connections 0 to 6, one of each role. -/
def conns : Vector (Option Conn) 256 :=
  vmapIdx (fun i _ => ([.pub, .reader, .vendor, .service, .operator, .metrology, .safety][i]?).map conn) (Vector.replicate 256 none)

/-- A module in service at 10 s, with the records given, its power die alive, and one connection of each role. -/
def sys (l : List (Nat × List W32)) : State :=
  let s := State.reset
  let recs := l.map fun r => ({ typ := r.1, payload := r.2, crc := 0 } : Rec)
  { s with
    time := { s.time with clock := 4000000000 }
    startup := { s.startup with mode := .service, image := recs, done := [.s9, .s8, .s7, .s6, .s5, .s4, .s3c, .s3b, .s3a, .s2, .s1].map fun x => (x, 0) }
    drives := { s.drives with recs := recs }
    supply := { s.supply with auxIn := 240 }
    port := { s.port with conns := conns } }

/-- A CAROUSEL record: 100 strokes, both sets wired, 50 Hz. -/
def car : Nat × List W32 :=
  (0x0101, words 4 [(0, 20, 100), (0, 18, 3), (0, 0, 25600), (1, 16, 24000), (1, 0, 27200), (2, 22, 100), (2, 14, 80), (2, 6, 120),
    (3, 12, 4), (3, 0, 4)])

/-- The payloads of a smallest image, in order: one of each type that every image must hold. -/
def minRecs : List (Nat × List W32) :=
  [(0x0101, words 4 [(0, 20, 200), (0, 18, 1), (0, 0, 25600), (1, 16, 23040), (1, 0, 27200), (2, 14, 80), (2, 6, 120), (3, 16, 1),
     (3, 12, 1), (3, 0, 1)]),
   (0x0201, words 2 [(0, 16, 100), (0, 8, 10), (1, 16, 4), (1, 0, 4)]),
   (0x0301, words 2 [(0, 16, 1), (0, 8, 1), (0, 4, 1)]),
   (0x0601, words 4 [(2, 16, 1), (2, 0, 0xFFFF), (3, 9, 0x7FFFFF)]),
   (0x0602, words 132 ([(0, 16, 16384), (2, 0, 500), (3, 16, 1), (3, 1, 5)] ++
     (List.range 64).flatMap fun o => [(4 + 2 * o, 16, 1), (5 + 2 * o, 16, 1)])),
   (0x0603, words 5 [(0, 16, 2), (0, 0, 1), (1, 0, 1)]),
   (0x0701, words 10 [(0, 11, 1), (8, 19, 63), (8, 0, 4096)]),
   (0x0702, words 12 []),
   (0x0703, words 5 [(0, 19, 1), (0, 11, 1), (1, 16, 960), (1, 0, 1280), (2, 16, 1600), (2, 8, 1), (2, 0, 1), (3, 24, 1), (3, 16, 1),
     (3, 0, 1)]),
   (0x0802, words 3 [(0, 16, 1), (0, 8, 255), (1, 28, 3), (1, 24, 1), (1, 0, 4)])] ++
  [(0x0803, words 4 [(0, 0, 1), (1, 24, 10), (1, 16, 10), (1, 0, 5), (2, 16, 100), (2, 0, 3), (3, 16, 1)]),
   (0x0903, words 5 [(0, 28, 1)]),
   (0x0904, words 2 [(0, 24, 1), (1, 17, 1)]),
   (0x0905, words 5 [(0, 0, 15), (1, 0, 1)]),
   (0x0A02, words 3 [(0, 24, 1), (1, 0, 4)]),
   (0x0B01, words 9 [(0, 26, 1), (0, 20, 8), (2, 24, 1), (3, 24, 1), (4, 10, 63), (5, 23, 1), (5, 17, 63), (5, 0, 10)]),
   (0x0E01, words 2 [(0, 24, 40), (1, 28, 1)]),
   (0x1001, words 19 [(0, 13, 1), (1, 24, 1), (18, 28, 2)]),
   (0x1101, words 2 [(0, 26, 16), (0, 22, 3), (1, 0, 7)])]

/-- Those records framed. -/
def minImage : List Rec := minRecs.map fun x =>
  let r : Rec := { typ := x.1, payload := x.2, crc := 0 }
  { r with crc := crc32c (recHead r :: r.payload) }

/-- A number as the words of a hash of 384 bits. -/
def hashWords (v : Nat) : List W32 := (List.range 12).map fun i => BitVec.ofNat 32 (v / 2 ^ (32 * (11 - i)))

/-- The SHA-384 of that image, and of nothing. -/
def minHash : Nat :=
  26796752010242426181846820550117551435684027739472489909218605479977483009988441968184129775491135378789960124356333
def noHash : Nat :=
  8725231785142640510958974801449281668044511174527971820957835005137448197712608590715499503138764434364488379578715

/-- The page that holds that image behind its header. -/
def minPage : List W32 :=
  let area := minImage.flatMap fun r => recHead r :: r.payload ++ [r.crc]
  wholePage (words 12 [(0, 0, 0x59464331), (1, 16, 1), (1, 0, 128), (2, 16, 0x6400), (3, 0, 1), (4, 0, 4 * area.length),
    (5, 0, minImage.length), (7, 0, 1), (10, 24, 16), (10, 16, 1)] ++
    hashWords minHash ++ List.replicate 104 0 ++ area)

/-- The first page of a manifest of seven parts of no bytes. -/
def minManifest : List W32 :=
  wholePage (List.replicate 13 0 ++ (List.replicate 7 (List.replicate 4 0 ++ hashWords noHash)).flatten)

/-- What the boot world finds in it. -/
def minObs : ImageObs :=
  { pufOk := true, corrupt := [], manifestOk := true, sigOk := true, chainsOk := true, kernelCycles := [], kernelBlocks := [(1, 1, 1)]
    jugglerCycles := 1000, folioCycles := 1000, stepCycles := 100, coolingCycles := 100, p4Cycles := 0 }

/-- A key that verifies firmware for every master, in both worlds and every state of life. -/
def bootKey : KeySlot := { attr := BitVec.ofNat 32 (8 * 2 ^ 28 + 2 ^ 26 + 31 * 2 ^ 17 + 63 * 2 ^ 11) }

/-- A module with that image in both banks, the key that verifies it in slot 16, and its safety section sealed. -/
def minSys (s : State) : State :=
  { s with
    flash := { a := [(0, minManifest), (8192, minPage)], b := [(0, minManifest), (8192, minPage)] }
    keys := { s.keys with slots := ((s.keys.slots.set 2 bootKey).set 3 bootKey).set 16 { attr := BitVec.ofNat 32 (8 * 2 ^ 28 + 2 ^ 26 + 2 ^ 20 + 2 ^ 16 + 2 ^ 13 + 3 * 128), kcv := 7 } }
    safety := { s.safety with sealedCrc := ((minImage.find? fun r => r.typ = 0x0B01).map (·.crc)).getD 0 } }

/-- A piece of 4 096 bytes and its hash. -/
def piece0 : List W32 := List.replicate 1024 5
def piece0Hash : Nat :=
  33057270575102638182111110212136052057522423302102134177965795141839220037402862536012320225361687821113240729149100

set_option maxRecDepth 100000 in
/-- Its hash is that number. -/
theorem piece0_hash : sha384 piece0 = piece0Hash := by decide +kernel

/-- A module that has received the header of a package of one payload piece, whose hash list is that piece. -/
def stage0 (k2 : Bool) : State :=
  let x : Staging := { st := .receiving, got := List.range 8
                       header := words 7 [(6, 8, 1), (6, 16, 1)] ++ List.replicate 249 0 ++ hashWords piece0Hash }
  let s := sys []
  { s with update := if k2 then { s.update with img := x } else { s.update with fw := x } }

/-- A CAN_CHANNEL record of channel 0 in classic format: a master where `role` is 1, a follower where it is 2. -/
def canRec0 (role listen : Nat) : Nat × List W32 := (0x0F01, words 3 [(0, 25, role), (0, 24, listen), (0, 0, 500), (2, 0, 0x123)])

/-- A CAN_SCHEDULE record of channel 0: one window, of the reference message, 2 to 1502 arcs into every cycle of 2^11 arcs. -/
def canSched0 : Nat × List W32 := (0x0F02, words 4 [(0, 25, 11), (0, 14, 1), (1, 14, 2), (2, 14, 1500)])

/-- A CAN_FILTER record of channel 0: the base identifiers 16 to 31 go to FIFO 0. -/
def canFilter0 : Nat × List W32 := (0x0F03, words 3 [(0, 14, 1), (1, 0, 16), (2, 0, 31)])

/-- An ETH_PORT record of port 1 on VLAN 7 with the tunnel and PTP in domain 24. -/
def eth1 : Nat × List W32 := (0x1001, words 19 [(0, 30, 1), (0, 27, 1), (0, 26, 1), (0, 13, 7), (1, 24, 1), (1, 16, 24), (18, 28, 2)])

/-- A PTP master. -/
def ptpM : PtpMaster :=
  { identity := 42, domain := 24, priority1 := 128, clockClass := 6, accuracy := 33, variance := 0, priority2 := 128
    stepsRemoved := 1, intervalTicks := 400000000, utcOffset := 37, utcValid := true }

/-- A connection put at an index. -/
def withConn (s : State) (c : ConnNo) (k : Conn) : State := { s with port := { s.port with conns := s.port.conns.set c (some k) } }

/-- A module in service on the smallest image. -/
def minService : State :=
  let s := minSys (sys [])
  { s with startup := { s.startup with
    hdr := hdrOf minPage, image := minImage.filter fun r => !operational r.typ, oper := minImage.filter fun r => operational r.typ } }

/-- A tariff record of instance 2. -/
def tariff2 : Rec :=
  let r : Rec := { typ := 0x0903, payload := words 5 [(0, 28, 2), (4, 0, 3), (1, 0, 3)], crc := 0 }
  { r with crc := crc32c (recHead r :: r.payload) }

/-- A small plant: legs 0 and 1 with diode emulation in group 0, whose law 0 reads channels 0 to 2. -/
def plant : List (Nat × List W32) :=
  [car,
   (0x0401, words 4 [(0, 22, 2), (0, 15, 1), (0, 9, 1), (1, 17, 640), (1, 8, 3)]),
   (0x0401, words 4 [(0, 24, 1), (0, 22, 2), (0, 15, 1), (0, 12, 1), (0, 9, 1), (1, 17, 640), (1, 8, 4)]),
   (0x0402, words 3 [(0, 21, 1), (1, 16, 1), (1, 24, 2)]),
   (0x0501, words 4 [(3, 16, 1)]),
   (0x0502, words 4 [(0, 17, 1), (0, 12, 3), (2, 24, 1), (3, 24, 2)])]

/-- There are blocks to scrub. -/
theorem dram_pos : 0 < dramBlocks := by unfold dramBlocks; split <;> decide

/-- A stroke of a law whose sample instant has come. -/
def lawDue0 : LawDue := { stroke := 0, start := 0, period := 80000, p := 0 }

/-- A copy of a task of law 3. -/
def p0 (copy home : Nat) : Task :=
  { kind := .law 3, cls := 0, home, copy, lineDl := true, deadline := some 100, dom := 3, seq := 8, enq := 5 }

/-- A task of P4, and one of a class for its home. -/
def p4 (dl : Option Nat) : Task :=
  { kind := .analytics 2 none, cls := 4, home := 9, copy := 0, lineDl := false, deadline := dl, dom := 0x102, seq := 0, enq := 5 }
def pn (cls home : Nat) : Task := { p4 none with cls, home }

/-- A job of law 3 with the results given. -/
def job (rs : List CopyResult) : P0Job := { law := 3, seq := 8, home := 30, released := 4000000000 - 20, deadline := 100, results := rs }

/-- A system whose array is changed. -/
def withArr (s : State) (f : Array_ → Array_) : State := { s with array := f s.array }

/-- A safety section: function 0 of two channels with manual restart, LEGS_OFF and output 0, function 2 of one channel with output 1,
and function 9, a weld check of output 0. -/
def sect : List W32 :=
  words 19 [(0, 26, 3), (0, 20, 8), (0, 11, 2), (2, 24, 3), (3, 24, 7),
    (4, 23, 1), (4, 22, 1), (4, 10, 1), (4, 4, 1), (5, 31, 1), (5, 23, 1), (5, 17, 5), (5, 0, 10),
    (9, 27, 2), (9, 24, 1), (9, 16, 2), (9, 10, 63), (9, 7, 2), (10, 23, 2), (10, 17, 63), (10, 0, 10),
    (14, 27, 9), (14, 24, 3), (14, 16, 3), (14, 10, 63), (14, 7, 2), (15, 23, 1), (15, 17, 63), (15, 0, 10), (18, 16, 20)]

/-- A module that evaluates that section, with outputs 0 and 1 on. -/
def safeSys (f : Safety → Safety) : State :=
  let s := sys []
  { s with safety := f { s.safety with
      sect, outs := vmapIdx (fun i x => if i < 2 then { x with req := true, on := true } else x) s.safety.outs } }
def inAt (i : Nat) (y : SafeIn) (x : Safety) : Safety := { x with ins := vmapIdx (fun k z => if k = i then y else z) x.ins }
def fnAt (i : Nat) (y : SafeFn) (x : Safety) : Safety := { x with fns := vmapIdx (fun k z => if k = i then y else z) x.fns }

/-- The site limits and the policy of a hub that takes curtailment on channel 2 for half a second. -/
def site : List (Nat × List W32) :=
  [(0x0602, words 132 [(0, 16, 16384), (2, 0, 500), (3, 16, 1), (3, 1, 5)]),
   (0x0603, words 5 [(0, 16, 100), (1, 0, 5), (2, 29, 2), (3, 31, 1)])]

/-- A module whose thermal model has one folio with one node of limit class 0, and sensor 0 on that node. -/
def thermSys (f : Thermal → Thermal) : State :=
  let s := sys [(0x0703, words 5 [(3, 16, 8), (3, 0, 1)]), (0x0704, words 4 [(2, 16, 100), (2, 0, 900)]), (0x0801, words 7 [(0, 25, 1)])]
  { s with thermal := f { s.thermal with folios := [{ inst := 0, nodes := [{ temp := 0, lim := some 0 }] }] } }

/-- A module with the Juggler changed. -/
def withJug (s : State) (f : Juggler → Juggler) : State := { s with juggler := f s.juggler }
def matrixAt (g : Nat) (m : Matrix) (j : Juggler) : Juggler := { j with matrix := vmapIdx (fun i x => if i = g then m else x) j.matrix }

/-- A hub of two dispensers: outlet 1 of DISP_ID 77 and outlet 64 of DISP_ID 78, all three protocols, with the policy of its sessions. -/
def hub : List (Nat × List W32) :=
  plant ++ site ++
  [(0x0601, words 5 [(0, 20, 1), (0, 16, 5), (0, 8, 1), (2, 0, 500), (2, 16, 400), (4, 16, 9200)]),
   (0x1001, words 2 [(0, 30, 1), (0, 28, 1), (0, 27, 1)]),
   (0x0801, words 7 [(0, 25, 1), (0, 19, 7), (2, 0, 77)]),
   (0x0801, words 7 [(0, 25, 64), (0, 19, 6), (2, 0, 78)]),
   (0x0802, words 3 [(0, 16, 1), (1, 28, 1), (1, 24, 2), (1, 0, 4)]),
   (0x0A01, words 4 [(0, 0, 500), (1, 0, 100000), (2, 0, 500), (3, 8, 10)]),
   (0x0803, words 4 [(0, 30, 2), (0, 28, 1), (0, 24, 1), (0, 0, 10), (1, 24, 50), (1, 16, 20), (1, 0, 20), (2, 16, 100), (2, 0, 13),
     (3, 16, 60)])]

/-- The DIO payload that shows a pilot and a proximity state with the link up, key sequence 1 and no connector temperature. -/
def dioPayload (pilot prox : Nat) : List W32 := words 3 [(0, 28, pilot), (0, 26, prox), (0, 25, 1), (0, 8, 1), (1, 16, 0x8000), (1, 0, 0x8000),
  (2, 16, 0x8000), (2, 0, 0x8000)]

/-- A tunnel frame of a TYPE and SEQ from a dispenser that names outlet 1, with a payload of `n` bytes; one from the dispenser of outlet 1. -/
def frameFrom (id typ seq n : Nat) (p : List W32) : Tunnel :=
  let w := words 5 [(0, 16, 0x4842), (0, 8, 1), (0, 0, typ), (1, 16, 1), (1, 0, n), (3, 0, id), (4, 0, seq)] ++ p
  { src := 9, port := 1, words := w ++ [crc32c w], extra := 0, tagOk := false }
def frameOf : Nat → Nat → Nat → List W32 → Tunnel := frameFrom 77

/-- A frame of each TYPE: VLINK with a vehicle-link frame of 14 bytes, DIO of an idle outlet, HELLO. -/
def frame (typ seq : Nat) : Tunnel :=
  if typ = 1 then frameOf 1 seq 18 (words 5 [(0, 24, 1)]) else if typ = 2 then frameOf 2 seq 12 (dioPayload 1 0)
  else frameOf 3 seq 8 (words 2 [(1, 16, 1)])
def dioOf (pilot : Nat) (prox : Fin 4) : Dio := { pilot, prox, linkUp := true, key := 0, keySeq := 1, temps := [] }

/-- That hub with context 0, or the dispenser of outlet 1, as given. -/
def ctxSys (x : Ctx) : State := (sys hub).modCtx 0 fun _ => x
def dispSys (d : Disp) : State := (sys hub).modDisp 1 fun _ => d

/-- That hub with group 0 attached to outlet 1 at 500 V and the current given in A. -/
def live (amps : Int) (x : Ctx) : State :=
  let s := ctxSys x
  { s with
    juggler := { s.juggler with matrix := vmapIdx (fun i m => if i = 0 then { m with st := .attached, outlet := 1 } else m) s.juggler.matrix }
    laws := { s.laws with laws := vmapIdx (fun i l => if i = 0 then { l with vecs := [([], 0), ([amps * 8192, 4096000], 9)] } else l) s.laws.laws } }

/-- A module whose Scribe is open, with meters of 12800 kHz and 0.5 A starting current on outlets 1 and 2, a cable on outlet 2, and
the records of the hub. -/
def scribeSys (f : Scribe → Scribe) : State :=
  let s := sys (hub ++ [(0x0901, words 6 [(0, 25, 1), (5, 16, 5), (5, 0, 12800)]), (0x0901, words 6 [(0, 25, 2), (5, 16, 5), (5, 0, 12800)]),
    (0x0902, words 4 [(0, 25, 2), (1, 0, 50000), (2, 16, 4000), (3, 0, 80)]),
    (0x1101, words 2 [(0, 26, 20), (0, 22, 5)])])
  { s with
    scribe := f { s.scribe with open_ := true }
    keys := { s.keys with slots := vmapIdx (fun i x =>
      if i = 20 then { attr := BitVec.ofNat 32 (2 ^ 28 + 2 ^ 23 + 2 ^ 19 + 2 ^ 15 + 2 ^ 13) }
      else if i = 4 then { attr := BitVec.ofNat 32 (2 * 2 ^ 28 + 2 ^ 27 + 2 ^ 19 + 2 ^ 15 + 2 ^ 13) } else x) s.keys.slots } }

/-- A module with a seal that may be set or broken. -/
def sealSys (l : Life) (x : SealState) (req : Bool) : State :=
  let s := scribeSys fun y => { y with seal_ := x }
  { s with ident := { s.ident with life := l }, startup := { s.startup with hdr := { sealReq := req } } }

/-- Metered sums of one period. -/
def sums1 (o : Nat) (p : PeriodSum) (x : Scribe) : Scribe := { x with sums := vput x.sums o p }

/-- A receipt of context 0, closed at 9 s. -/
def receipt0 : Receipt := { no := 1, ctx := 0, outlet := 1, total := 100, flags := [], body := [1, 2], closedAt := 3600000000 }
def receiptSys (r : Receipt) (p : PairState) : State :=
  let s := scribeSys fun x => { x with building := [r] }
  { s with pair := { s.pair with st := p } }
def opening0 (a b : Nat) : OpeningRec :=
  { hubId := 0, survivor := a, replacement := b, scribeTime := 100, registers := [[5]], nextReceipt := 3, nextSeq := 2
    sealedHash := 0, tokenGen := 1, tokenHigh := 7, changeCounter := 4, residue := 0, waived := 0, tamperCounts := [], verified := true }

/-- The hub with the token state of outlet 1 given. -/
def tokSys (x : TokenOutlet) : State := (scribeSys id).modTok 1 fun _ => x

/-- Drives on the power die: pump 0, load switches 2 (resistive), 3 (fine), 4 (capacitive), 5 (inductive), timer output 0 at 100 Hz
and half duty, loop 1 with pump 0. -/
def driveRecs : List (Nat × List W32) :=
  [(0x0C01, words 4 [(0, 19, 10), (0, 13, 10), (0, 5, 3), (2, 0, 100), (3, 16, 160), (3, 0, 320)]),
   (0x0C02, words 2 [(0, 27, 2), (0, 20, 3), (0, 10, 10), (1, 17, 100), (1, 9, 10), (1, 1, 10), (1, 0, 1)]),
   (0x0C02, words 2 [(0, 27, 3), (0, 25, 1), (0, 4, 10), (1, 17, 100)]),
   (0x0C02, words 2 [(0, 27, 4), (0, 25, 2), (0, 20, 3), (1, 26, 10)]),
   (0x0C02, words 2 [(0, 27, 5), (0, 25, 3), (0, 20, 3)]),
   (0x0C03, words 2 [(0, 24, 1), (0, 0, 100), (1, 16, 32768)])]
def pumpSys (x : Pump) : State := (sys (driveRecs ++ [(0x0705, words 3 [(0, 29, 1), (0, 21, 1)])])).modPump 0 fun _ => x
def lsSys (n : Nat) (x : LoadSw) : State := (sys driveRecs).modLs n fun _ => x
def pumpW : List W32 := words 4 [(0, 19, 10), (0, 13, 10), (0, 5, 3), (2, 0, 100), (3, 16, 160), (3, 0, 320)]

/-- A module whose first controller is as given: 400 kHz, synchronised, 3 retries, 1000 up at 10 per ms, 5 ms delays. -/
def regW : List W32 := words 5 [(0, 29, 4), (0, 17, 400), (0, 16, 1), (0, 1, 3), (1, 21, 1000), (3, 24, 5), (3, 16, 5), (3, 8, 10), (3, 0, 10),
  (4, 24, 10), (4, 16, 5)]
def regSys (x : Reg) : State := (sys [(0x0D01, regW)]).modReg 0 fun _ => x

/-- A module of a pair, whose part of State is given. -/
def pairSys (f : Pair → Pair) : State :=
  let s := sys (driveRecs ++ [(0x0E01, words 2 [(0, 24, 40), (0, 22, 3), (1, 28, 3)])])
  { s with pair := f s.pair }
def entry0 (q effect : Nat) (inl : Bool) : JEntry :=
  { source := 3, inline_ := inl, length := 4, jseq := q, effect, arrival := 0, digest := 11 }
def beat0 (st : PairState) : Beat := { state := st, degraded := false, lastJseq := 0, pause := 0 }
def fitBeat (p : Pair) : Pair := { p with st := .holder, beat := some (beat0 .standby, 4000000000) }
/-- A state transfer of a fresh module. -/
def transfer0 : Transfer := { (default : Transfer) with curtObj := (1, some 5, some 100) }
def partner0 (ok : Bool) : PartnerInfo :=
  { pairPos := true, orderN := false, paired := true, serial := 9, idHash := 8, imageSeq := 1, recordsHash := 0, revision := 0
    inService := true, turn := 0, attestOk := ok, boundSerial := 0 }

/-- A module that looks for its partner at step 6, its own serial 6400 and its binding to serial 9. -/
def pairing0 : State :=
  let s := sys []
  { s with startup := { s.startup with mode := .starting, auxRise := 3600000000, done := [], hdr := { paired := true } }
           pair := { s.pair with st := .pairing }, ident := { s.ident with serial := 6400, partnerSerial := 9 } }

/-- A revision that waits for half-turn boundary 2 and for its acknowledgement. -/
def rev0 : PendingRev := { recs := [], hash := 77, boundary := 65536, acked := false }

/-- A module with revision 5 in force that takes commits four half-turns ahead. -/
def rev5 : State :=
  let s := sys [(0x0201, words 2 [(1, 16, 4), (1, 0, 4)])]
  { s with startup := { s.startup with revision := 5 } }

/-- The entry of an input that takes effect at stamp 0. -/
def entry1 : JEntry := { source := 0, inline_ := true, length := 0, jseq := 1, effect := 0, arrival := 0, digest := 0 }

/-- A module with another pair state, and one whose journal holds input `j` as the entry that takes effect next. -/
def inPair (s : State) (st : PairState) : State := { s with pair := { s.pair with st } }
def queued (s : State) (j : JInput) : State :=
  { s with pair := { s.pair with
    st := .holder, applied := none
    journal := [{ entry := entry1, input := some j }] } }

/-- The hypotheses of an `Effect` statement are met: by an entry that takes effect. -/
def Takes (j : JInput) (H : State → Prop) : Prop :=
  ∃ s t x, (State.advance s t).pair.journal.head? = some x ∧ x.input = some j ∧ x.entry.effect ≤ (s.advance t).stamp ∧
    (s.advance t).pair.st ≠ .resync ∧ ((s.advance t).followsOn x.entry.jseq = true ∨ (s.advance t).pair.st ≠ .standby) ∧
    H ((s.advance t).popped x.entry.jseq)

theorem takes {j : JInput} {H : State → Prop} (s : State) (t : Nat) (h : H (((queued s j).advance t).popped 1)) : Takes j H :=
  ⟨queued s j, t, _, rfl, rfl, Nat.zero_le _, by simp [queued, State.advance], .inl rfl, h⟩

/-- The hypotheses of an `Input` statement are met: by a module without a journal, by a holder, by a follower, and by an entry that takes
effect. -/
def Met (j : JInput) (G H : State → Prop) : Prop :=
  (∃ s t, G (State.advance s t) ∧ journals (s.advance t).pair.st = false ∧ H (s.advance t)) ∧
  (∃ s t, G (State.advance s t) ∧ (s.advance t).pair.st = .holder) ∧
  (∃ s t, G (State.advance s t) ∧ (s.advance t).decides = false) ∧
  Takes j H

theorem met {j : JInput} {G H : State → Prop} (s : State) (t : Nat) (a : journals s.pair.st = false) (g1 : G (s.advance t))
    (h1 : H (s.advance t)) (g2 : G ((inPair s .holder).advance t)) (g3 : G ((inPair s .standby).advance t))
    (h2 : H (((queued s j).advance t).popped 1)) : Met j G H :=
  ⟨⟨s, t, g1, a, h1⟩, ⟨_, t, g2, rfl⟩, ⟨_, t, g3, rfl⟩, takes s t h2⟩

/-- The hypotheses of a `Request` statement are met, likewise. -/
def Asks (c : ConnNo) (o : Obis) (r : Right) (q : OpReq) (H : State → Prop) : Prop :=
  (∃ s t k, Allowed (State.advance s t) c r o ∧ (s.advance t).port.conns[c] = some k ∧ journals (s.advance t).pair.st = false ∧
    (s.advance t).waits c = [] ∧ H (s.advance t)) ∧
  (∃ s t k, Allowed (State.advance s t) c r o ∧ (s.advance t).port.conns[c] = some k ∧ (s.advance t).pair.st = .holder) ∧
  (∃ s t k, Allowed (State.advance s t) c r o ∧ (s.advance t).port.conns[c] = some k ∧ (s.advance t).decides = false) ∧
  ∃ s t x, (State.advance s t).pair.journal.head? = some x ∧ x.input = some (.op true c .pub 0 q) ∧
    x.entry.effect ≤ (s.advance t).stamp ∧ (s.advance t).pair.st ≠ .resync ∧
    ((s.advance t).followsOn x.entry.jseq = true ∨ (s.advance t).pair.st ≠ .standby) ∧
    ((s.advance t).popped x.entry.jseq).waits c = [.pending] ∧ H ((s.advance t).popped x.entry.jseq)

theorem asks {c : ConnNo} {o : Obis} {r : Right} {q : OpReq} {H : State → Prop} (s : State) (t : Nat) (k : Role)
    (a : (journals s.pair.st = false ∧ s.startup.mode = .service ∧ s.absent o = false) ∧ s.port.conns[c] = some (conn k) ∧
      s.hasRight k r o = true ∧ (((queued (s.asked c) (.op true c .pub 0 q)).advance t).popped 1).waits c = [.pending])
    (h1 : H (s.advance t)) (h2 : H (((queued (s.asked c) (.op true c .pub 0 q)).advance t).popped 1)) : Asks c o r q H := by
  obtain ⟨⟨a, b, d⟩, e, f, g⟩ := a
  have w : s.waits c = [] := by unfold State.waits; rw [e]; rfl
  have al : Allowed s c r o := ⟨b, d, by rw [w]; decide, conn k, e, f⟩
  exact ⟨⟨s, t, conn k, al, e, a, w, h1⟩, ⟨inPair s .holder, t, conn k, al, e, rfl⟩, ⟨inPair s .standby, t, conn k, al, e, rfl⟩,
    ⟨queued (s.asked c) (.op true c .pub 0 q), t, _, rfl, rfl, Nat.zero_le _, by simp [queued, State.advance], .inl rfl, g, h2⟩⟩

/-- The state after a command has the property. -/
def after (i : Instr) (s : State) (p : State → Bool) : Bool := match exec i s with | .next u => p u | _ => false

/-! ### WellFormed refuses an ill-formed command of each kind -/

theorem test_wf_get : Instr.wf (.get 0 0 { a := 256, b := 0, c := 0, d := 0, e := 0, f := 255 } 2 none) = false := by decide
theorem test_wf_set : Instr.wf (.set 0 0 { a := 0, b := 0, c := 0, d := 0, e := 0, f := 256 } 2 []) = false := by decide
theorem test_wf_set_stage_base : Instr.wf (.setStage 0 0 (2 ^ 32) []) = false := by decide
theorem test_wf_set_stage_rec : Instr.wf (.setStage 0 0 0 [{ typ := 0x0903, payload := [], crc := 0 }]) = false := by decide
theorem test_wf_set_stage_type : Instr.wf (.setStage 0 0 0 [{ typ := 0x10000, payload := [0], crc := 0 }]) = false := by decide
theorem test_wf_attest (l : List Byte) (h : 2 ^ 20 < l.length) : Instr.wf (.attest 0 0 l) = false := by
  simp [Instr.wf]; omega
theorem test_wf_update_piece : Instr.wf (.updatePiece 0 0 65536 [] true) = false := by decide
theorem test_wf_vlink : Instr.wf (.vlink 0 (2 ^ 128) 0 default) = false := by decide +kernel
theorem test_wf_hello : Instr.wf (.hello 0 default { words := List.replicate 16384 0, extra := 0, tagOk := true }) = false := by decide +kernel
theorem test_wf_dio : Instr.wf (.dio 0 default { words := List.replicate 16383 0, extra := 3, tagOk := true }) = true ∧
    Instr.wf (.dio 0 { src := 2 ^ 128, port := 0 } default) = false := by decide +kernel
theorem test_wf_ai_sample : Instr.wf (.aiSample 0 [65536]) = false := by decide
theorem test_wf_hall_change : Instr.wf (.hallChange 0 0 0 1000 [1, 2]) = false := by decide
theorem test_wf_partner_pumps : Instr.wf (.partnerPumpState 0 []) = false := by decide
theorem test_wf_journal : Instr.wf (.journalEntryReceived 0 { entry := { entry0 1 5 true with source := 256 }, input := none }) = false := by decide
theorem test_wf_can : Instr.wf (.canFrameReceived 0 0 { idk := .base, ident := 2048, remote := false, data := [] }) = false := by decide
theorem test_wf_can_ext : Instr.wf (.canFrameReceived 0 0 { idk := .extended, ident := 2 ^ 29, remote := false, data := [] }) = false := by
  decide
theorem test_wf_eth : Instr.wf (.ethFrameReceived 0 0 4096 .other) = false := by decide
theorem test_wf_period_mark : Instr.wf (.periodMark 0 { second := true, wallBoundary := false, freqs := List.replicate 9 0 }) = false := by
  decide
theorem test_wf_arm : Instr.wf (.arm 0 0 0 2) = false := by decide
theorem test_wf_ink_point : Instr.wf (.inkPoint 0 (some { outlets := [], groups := [], afes := [] })) = false := by decide
theorem test_wf_accepts : Instr.wf (.journalEntryReceived 0 { entry := entry0 1 5 true, input := none }) = true ∧ Instr.wf (.glide 0) = true := by decide

/-! ### Worked examples and tables of the spec -/

/-- No word spells a command: the table gives no row bits. -/
theorem test_decode : decodeTableWord 32 0 = none := rfl

/-- Chapter 0, worked example under R12: 900 A, 450 A and -12.5 A. -/
theorem test_bf24 : normalise [(1800, 43), (900, 43), (-25, 43)] = ({ ms := [7372800, 3686400, -102400], e := 9 }, false) := by
  decide +kernel

/-- Table 11.3: the credit token 0008 5351 0483 8787 9447. -/
theorem test_credit_token :
    decimal [0, 0, 0, 8, 5, 3, 5, 1, 0, 4, 8, 3, 8, 7, 8, 7, 9, 4, 4, 7] = 85351048387879447 ∧
    tokClass 85351048387879447 = 0 ∧ tokId 85351048387879447 = 77626 ∧ tokBits 85351048387879447 = 0x5388 ∧
    tokAmount 85351048387879447 = 50000 ∧ tokMac 85351048387879447 = 0x5DE217 := by decide +kernel

/-- Chapter 11, the change token of its worked example. -/
theorem test_change_token :
    decimal [1, 8, 4, 4, 9, 6, 3, 0, 5, 9, 7, 0, 7, 2, 5, 8, 1, 5, 7, 2] = 18449630597072581572 ∧
    tokClass 18449630597072581572 = 1 ∧ tokId 18449630597072581572 = 2625 ∧ tokBits 18449630597072581572 = 0x4717 ∧
    tokMac 18449630597072581572 = 0xB073C4 := by decide +kernel

/-- Table 5.4: the edges of LEG_066, in taps of 78.125 ps. -/
theorem test_leg_edges : cycleEdges 2560 256000 64000 320000 { on := 2516582, loCut := 713032, holdOff := false } =
    [(.e2, 66560), (.e3, 104960), (.e4, 107520), (.e5, 115840)] := by decide +kernel

/-- Chapter 5, worked example: LO_CUT of LEG_066 (t_on 3.0 us, the previous one 2.8 us, 7.0 A at mid-pulse). -/
theorem test_de_cut : deCut 10000 4000 1920 2560 256000 38400 70 800 600 (some (32768, 32, 35840)) = 713032 := by decide +kernel

/-- Chapter 3, worked example of R77: 8.5 us pass at N = 1 000 and F_HI = 53 Hz, and not at N = 2 000. -/
theorem test_latency :
    (sys [(0x0101, words 4 [(0, 20, 1000), (1, 0, 27136)])]).latencyOk 3400 = true ∧
    (sys [(0x0101, words 4 [(0, 20, 1000), (1, 0, 27136)])]).latencyOk 3516 = false ∧
    (sys [(0x0101, words 4 [(0, 20, 2000), (1, 0, 27136)])]).latencyOk 3400 = false := by decide +kernel

/-- Chapter 13, worked example of R508: DEAD 300 ns gives CAP 1 - 1.0 us x PWM_KHZ, at most 0.98. -/
theorem test_pump_cap : pumpCap (words 4 [(0, 19, 30), (0, 13, 50)]) = 95 / 100 ∧ pumpCap (words 4 [(0, 19, 30), (0, 13, 15)]) = 98 / 100 := by
  decide +kernel

/-- Chapter 16, worked example: the longest 4-byte and 8-byte extended frames have 120 and 160 bits. -/
theorem test_can_bits : frameBits 4 = 120 ∧ frameBits 8 = 160 := by decide +kernel

/-- A flash with a smallest image is in form. -/
theorem test_image_in_form : FlashOk (minSys (sys [])) := ⟨by decide +kernel, by decide +kernel⟩

/-- The SHA-256 and the SHA-384 of "abc" (FIPS 180-4): the functions that R69, R333 and others name. -/
theorem test_sha : sha256Bytes [0x61, 0x62, 0x63] = 0xba7816bf8f01cfea414140de5dae2223b00361a396177a9cb410ff61f20015ad ∧
    sha384Bytes [0x61, 0x62, 0x63] = 0xcb00753f45a35e8bb5a03d699ac65007272c32ab0eded1631a8b605a43ff5bed8086072ba1e7cc2358baeca134c825a7 := by
  decide +kernel

/-- CRC-32C and CRC-16 of the nine digits' check words: "12345678" as two words, MS first. -/
theorem test_crc : crc32c [0x31323334, 0x35363738] = 0x6087809A ∧ crc16 [0x31323334, 0x35363738] = 0xA12B := by decide +kernel

/-- Chapter 18, example under R705: the five balls of LEG_017. -/
theorem test_leg_balls : (legBalls 17).map ballName = ["G9", "G10", "G11", "G12", "H10"] := by decide +kernel

/-- Chapter 18: the groups of Table 18.2 fill the 52 by 52 grid. -/
theorem test_ball_count : (ballGroups.map (·.2)).sum = 52 * 52 := by decide +kernel

/-- Chapter 18, Table 18.11: the rises of its worked example, in units of 10 uK from mW. -/
theorem test_junction : junctionRise 26500 750 14750 = (296000, 263750, 570000) := by decide +kernel

/-! ### One command -/

/-- Table 13.9, 8.012 ms: LED channel, short for 10 us, one retry used. -/
theorem test_ls_short : after (.lsShort 4000000000 2 { mA := 7000, outMv := 100 } 240 10) (lsSys 2 { st := .on, input := true })
    (fun u => (u.ls 2).st = .retryWait ∧ (u.ls 2).retries = 1) = true := by decide +kernel

/-- R25: 63 clocks without a transition are none too many. -/
theorem test_ref_fail_early : after (.refFail 4000000000 .a (.noTransition 63))
    (let s := sys [car]; { s with carousel := { s.carousel with started := true, setA := { valid := true } } })
    (fun u => u.carousel.setA.valid) = true := by decide +kernel

/-- R25: 64 clocks without a transition fail the set. -/
theorem test_ref_fail : after (.refFail 4000000000 .a (.noTransition 64))
    (let s := sys [car]; { s with carousel := { s.carousel with started := true, setA := { valid := true } } })
    (fun u => !u.carousel.setA.valid) = true := by decide +kernel

/-- Table 15.5, 8.0 us: ring lost and heartbeat lost are a takeover. -/
theorem test_takeover : after (.ringLost 4000000000 1601) (pairSys fun p => { p with st := .standby, beatLost := true })
    (fun u => u.pair.st = .solo ∧ u.pair.ringOut ∧ !u.pair.driving) = true := by decide +kernel

/-- R592: the watchdog lapses after 2 us. -/
theorem test_watchdog : after (.ringWatchdogLapse 4000000000 801) (pairSys fun p => { p with st := .solo, driving := true, ringOut := true })
    (fun u => !u.pair.ringOut ∧ !u.pair.driving) = true := by decide +kernel

/-- Table 11.10: a client without the right gets RES 1. -/
theorem test_no_right : after (.matrixClear 4000000000 0 0) (sys []) (fun u => u.res 0 = some 1) = true := by decide +kernel

/-- R433: a wrong MAC gives no credit and is the first failure. -/
theorem test_wrong_mac : (((sys hub).submitToken 1 [1, 2, 3]).tok 1).held = 0 := by decide +kernel

/-! ### Witnesses: a state and operands that meet the hypotheses of each clause of each statement -/

/-- Every number is the value of some digits. -/
theorem decimal_surj (n v : Nat) (h : v < 10 ^ n) : ∃ l, decimal l = v := by
  induction n generalizing v with
  | zero => exact ⟨[], by simp [decimal]; omega⟩
  | succ n ih =>
    obtain ⟨l, hl⟩ := ih (v / 10) (by rw [pow_succ] at h; omega)
    refine ⟨l ++ [⟨v % 10, by omega⟩], ?_⟩
    unfold decimal at hl ⊢
    rw [List.foldl_append, hl]
    simp only [List.foldl_cons, List.foldl_nil]
    omega

/-- A token of class 0 with the TOKEN_ID, the amount bits and the MAC of a hub. -/
theorem token_exists (id bits : Nat) (hi : id < 2 ^ 24) (hb : bits < 2 ^ 16) (m : BitVec 24) :
    ∃ l v, v = decimal l ∧ v < 2 ^ 66 ∧ tokClass v = 0 ∧ tokId v = id ∧ tokBits v = bits ∧ tokMac v = m := by
  have hm := m.isLt
  obtain ⟨l, hl⟩ := decimal_surj 20 (id * 2 ^ 40 + bits * 2 ^ 24 + m.toNat) (by omega)
  refine ⟨l, _, hl.symm, by omega, by unfold tokClass; omega, by unfold tokId; omega, by unfold tokBits; omega, ?_⟩
  apply BitVec.eq_of_toNat_eq
  unfold tokMac
  rw [BitVec.toNat_ofNat]
  omega

/-- A hub whose key unit derives the token key. -/
theorem tok_mac (z : State) (cls id bits : Nat) (h : z.boundSlot 5 = some 20) (k : z.keyAllowed 20 .derive .scribe = true) :
    (z.macOf cls id bits).1 = some (tokenMac z.tokens.gen z.startup.hdr.hubId cls id bits) := by
  simp [State.macOf, h, State.useKey, k]
/-- Its hypotheses are met. -/
theorem witness_TokensAreDecided_2 : ∃ (z : State) (o : OutletNo) (l : List (Fin 10)) (v : Nat), v = decimal l ∧ v < 2 ^ 66 ∧
    (z.macOf (tokClass v) (tokId v) (tokBits v)).1 = some (tokMac v) ∧ tokClass v = 0 ∧ z.tokens.high ≤ tokId v + 4096 ∧
    (z.tokens.high < tokId v ∨ tokId v ∉ z.tokens.used) ∧ z.heldNow (o.val + 1) + tokAmount v ≤ z.creditMax := by
  obtain ⟨l, v, h1, h2, h3, h4, h5, h6⟩ := token_exists 5 500 (by decide) (by decide) (tokenMac 0 0 0 5 500)
  refine ⟨tokSys {}, 0, l, v, h1, h2, ?_, h3, ?_, ?_, ?_⟩
  · rw [tok_mac _ _ _ _ (by decide +kernel) (by decide +kernel), h3, h4, h5, h6]; rfl
  · rw [h4]; decide +kernel
  · rw [h4]; decide +kernel
  · unfold tokAmount; rw [h5]; decide +kernel
/-- Its hypotheses are met. -/
theorem witness_TokensAreDecided_3 : ∃ (z : State) (l : List (Fin 10)) (v : Nat), v = decimal l ∧ v < 2 ^ 66 ∧
    (z.macOf (tokClass v) (tokId v) (tokBits v)).1 = some (tokMac v) ∧ tokClass v = 0 ∧ tokId v ≤ z.tokens.high ∧
    tokId v ∈ z.tokens.used := by
  obtain ⟨l, v, h1, h2, h3, h4, h5, h6⟩ := token_exists 5 500 (by decide) (by decide) (tokenMac 0 0 0 5 500)
  refine ⟨(tokSys {}).modTokens fun x => { x with high := 9, used := [5] }, l, v, h1, h2, ?_, h3, ?_, ?_⟩
  · rw [tok_mac _ _ _ _ (by decide +kernel) (by decide +kernel), h3, h4, h5, h6]; rfl
  · rw [h4]; decide +kernel
  · rw [h4]; decide +kernel

/-- Its hypotheses are met. -/
theorem witness_StepRunsFrontCommand : (∃ (s : State) (c : Instr) (rest : List Instr), s.pending = c :: rest) ∧
    ∃ s : State, s.pending = [] :=
  ⟨⟨{ sys [] with pending := [.glide 5] }, .glide 5, [], rfl⟩, State.reset, rfl⟩

/-- Its hypotheses are met, by a module that holds an image. -/
theorem witness_StepKeepsFlashes : ∃ s u : State, FlashOk s ∧ step s = .next u :=
  ⟨{ minSys (sys []) with pending := [.glide 5] }, _, ⟨by decide +kernel, by decide +kernel⟩, rfl⟩

/-- Its hypothesis is met, by a module that holds an image. -/
theorem witness_StepKeepsTheActiveBank : ∃ s u : State, step s = .next u :=
  ⟨{ minSys (sys []) with pending := [.glide 5] }, _, rfl⟩

/-- Its hypotheses are met, clause by clause. -/
theorem witness_ReferencesFailAndBecomeValid :
    (∃ (s : State) (z : State) (t : Nat) (i : SetId) (obs : RefObs), z = s.advance t ∧ z.carousel.started = true ∧
      z.wired i = true ∧ (z.carousel.set i).valid = true ∧ (((∃ n, obs = .noTransition n ∧
      64 ≤ n) ∨ obs = .clockLost ∨ (∃ m a, obs = .magnitude m a ∧ 2048 ≤ a ∧
      (m < z.vMin ∨ z.vMax < m)) ∨ (∃ f a, obs = .frequency f a ∧ 32768 ≤ a ∧ (f < z.fLo ∨ z.fHi < f))))) ∧
    (∃ (s : State) (z : State) (t : Nat) (i : SetId) (m : LineMeas) (arcs : Nat), z = s.advance t ∧
      z.carousel.started = true ∧ z.wired i = true ∧ (z.carousel.set i).valid = false ∧ m.transitions = true ∧
      z.vMin ≤ m.mag ∧ m.mag ≤ z.vMax ∧ z.fLo ≤ m.freq ∧ m.freq ≤ z.fHi ∧
      ((if (z.carousel.set i).everValid then 262144 else 65536) ≤ arcs)) :=
  ⟨⟨let s := sys [car]; { s with carousel := { started := true, running := true, st := .locked, phase := 5, setA := { valid := true } } },
      _, 4000000000, .a, .noTransition 64, rfl, by decide +kernel, by decide +kernel, by decide +kernel,
      by exact Or.inl ⟨64, rfl, by decide⟩⟩,
    ⟨let s := sys [car]; { s with carousel := { started := true, st := .holdover } }, _, 4000000000, .b,
      { transitions := true, mag := 120, freq := 24000, phase := 0 }, 65536, rfl, by decide +kernel⟩⟩

/-- Its hypotheses are met, clause by clause. -/
theorem witness_CarouselStates :
    (∃ (s : State) (z : State) (t : Nat) (o : LockObs), z = s.advance t ∧ z.carousel.started = true ∧
      (z.carousel.set z.carousel.followed).valid = true ∧ o.phaseErr ≤ 64 ∧ o.freqErr ≤ 50 ∧ 2 ≤ o.halfTurns ∧
      z.carousel.st = .acquire) ∧
    (∃ (s : State) (z : State) (t : Nat) (o : LockObs), z = s.advance t ∧ z.carousel.started = true ∧
      (z.carousel.set z.carousel.followed).valid = true ∧ o.phaseErr ≤ 64 ∧ o.freqErr ≤ 50 ∧ 2 ≤ o.halfTurns ∧
      z.carousel.st = .relock ∧ z.decides = true) ∧
    (∃ (s : State) (z : State) (t : Nat), z = s.advance t ∧ z.carousel.started = true ∧ z.carousel.running = false ∧
      z.time.tick0 + z.startWin < z.time.clock ∧ z.carousel.setA.valid = false ∧ z.carousel.setB.valid = false) ∧
    (∃ (s : State) (z : State) (t : Nat) (o : LockObs), z = s.advance t ∧ z.carousel.st = .locked ∧ z.decides = true ∧
      (z.carousel.set z.carousel.followed).valid = true ∧ 1 ≤ o.halfTurns ∧ ((64 < o.phaseErr ∨ 50 < o.freqErr))) ∧
    (∃ (s : State) (z : State) (t : Nat), z = s.advance t ∧ z.carousel.st = .holdover ∧ z.decides = true ∧
      z.carousel.holdFrom + z.holdH * (2 ^ 32 * 400000000) ≤ z.carousel.phase) ∧
    (∃ (s : State) (z : State) (t : Nat), z = s.advance t ∧ z.carousel.st = .glide ∧ z.decides = true ∧
      z.carousel.freq = z.fNom * 2 ^ 23) ∧
    (∃ (s : State) (z : State) (t : Nat), z = s.advance t ∧ z.carousel.st = .locked ∧ z.decides = true ∧
      z.carousel.followed ≠ z.pref ∧ (z.carousel.set z.pref).valid = true ∧
      (z.carousel.set z.pref).validAt + z.revertTurns * (2 ^ 32 * 400000000) ≤ z.carousel.phase) :=
  ⟨⟨let s := sys [car]; { s with carousel := { started := true, setA := { valid := true } } }, _, 4000000000,
      { phaseErr := 64, freqErr := 50, halfTurns := 2 }, rfl, by decide +kernel⟩,
    ⟨let s := sys [car]; { s with carousel := { started := true, st := .relock, setA := { valid := true } } }, _,
      4000000000, { phaseErr := 64, freqErr := 50, halfTurns := 2 }, rfl, by decide +kernel⟩,
    ⟨let s := sys [car]; { s with carousel := { started := true } }, _, 4000000000, rfl, by decide +kernel⟩,
    ⟨let s := sys [car]; { s with carousel := { started := true, running := true, st := .locked, setA := { valid := true } } },
      _, 4000000000, { phaseErr := 65, freqErr := 0, halfTurns := 1 }, rfl, by decide +kernel⟩,
    ⟨let s := sys [car]; { s with carousel := { started := true, st := .holdover, holdFrom := 7, phase := 7 + 100 * (2 ^ 32 * 400000000) } },
      _, 4000000000, rfl, by decide +kernel⟩,
    ⟨let s := sys [car]; { s with carousel := { started := true, st := .glide, freq := 25600 * 2 ^ 23 } }, _, 4000000000,
      rfl, by decide +kernel⟩,
    ⟨let s := sys [car]; { s with carousel := { started := true, st := .locked, followed := .b, phase := 4 * (2 ^ 32 * 400000000), setA := { valid := true } } },
      _, 4000000000, rfl, by decide +kernel⟩⟩

/-- Its hypotheses are met, clause by clause. -/
theorem witness_Boundaries :
    (∃ (s : State) (z : State) (t : Nat), z = s.advance t ∧ z.carousel.running = true ∧
      z.carousel.stroke < strokeAt z.nStrokes z.carousel.phase) ∧
    (∃ (s : State) (z : State) (t : Nat), z = s.advance t ∧
      ((z.carousel.running = false ∨ strokeAt z.nStrokes z.carousel.phase ≤ z.carousel.stroke))) ∧
    (∃ (s : State) (z : State) (t : Nat) (h : Nat), z = s.advance t ∧ z.carousel.running = true ∧ z.carousel.half < h ∧
      h * (2 ^ 31 * 400000000) ≤ z.carousel.phase ∧ z.startup.mode ≠ .service) ∧
    (∃ (s : State) (z : State) (t : Nat) (h : Nat), z = s.advance t ∧ z.carousel.running = true ∧ z.carousel.half < h ∧
      h * (2 ^ 31 * 400000000) ≤ z.carousel.phase ∧ z.startup.mode = .service ∧ z.update.armed = none) ∧
    (∃ (s : State) (z : State) (t : Nat) (h : Nat), z = s.advance t ∧
      ((z.carousel.running = false ∨ h ≤ z.carousel.half ∨ z.carousel.phase < h * (2 ^ 31 * 400000000)))) :=
  ⟨⟨let s := sys [car]; { s with carousel := { started := true, running := true, st := .locked, freq := 25600 * 2 ^ 23, phase := 2 ^ 27 * 400000000 } },
      _, 4000000000, rfl, by decide +kernel⟩,
    ⟨sys [car], _, 4000000000, rfl, by exact .inl rfl⟩,
    ⟨let s := sys [car]; { s with startup := { s.startup with mode := .refused }, carousel := { started := true, running := true, st := .locked, phase := 2 ^ 31 * 400000000, freq := 25600 * 2 ^ 23 } },
      _, 4000000000, 1, rfl, by decide +kernel⟩,
    ⟨let s := sys [car]; { s with carousel := { started := true, running := true, st := .locked, phase := 2 ^ 31 * 400000000, freq := 25600 * 2 ^ 23 } },
      _, 4000000000, 1, rfl, by decide +kernel⟩,
    ⟨sys [car], _, 4000000000, 1, rfl, by exact .inl rfl⟩⟩

/-- Its hypotheses are met, clause by clause. -/
theorem witness_SuppliesAndDieTemperatures :
    (∃ (s : State) (z : State) (t : Nat) (v : Nat), z = s.advance t ∧ v < 165 ∧ 165 ≤ z.supply.auxIn) ∧
    (∃ (s : State) (z : State) (t : Nat) (ball : Nat) (aux : Nat), z = s.advance t ∧ ((50 ≤ ball ∨ 50 ≤ aux)) ∧
      165 ≤ z.supply.auxIn ∧ z.supply.pfail = none) ∧
    (∃ (s : State) (z : State) (t : Nat) (aux : Nat) (a : Nat), z = s.advance t ∧ z.supply.pfail = some a ∧
      ((a + 4000000 ≤ z.time.clock ∨ aux < 165))) ∧
    (∃ (s : State) (z : State) (t : Nat) (rail : Fin 4) (mV : Nat) (us : Nat) (hiccup : Bool), z = s.advance t ∧
      ((((railOtp rail.val).outside 50 mV = true ∧ 100 ≤ us) ∨ hiccup = true)) ∧
      ((z.supply.rails = .up ∨ (z.supply.rails = .off ∧ z.startup.mode = .starting))) ∧ 165 ≤ z.supply.auxIn ∧
      z.supply.pfail = none) ∧
    (∃ (s : State) (z : State) (t : Nat) (n : Fin 16), z = s.advance t ∧ 165 ≤ z.supply.auxIn ∧
      ((9 ≤ n.val ∨ z.startup.mode ≠ .off))) :=
  ⟨⟨let s := sys []; { s with supply := { s.supply with auxIn := 165 } }, _, 4000000000, 164, rfl, by decide +kernel⟩,
    ⟨sys [], _, 4000000000, 50, 0, rfl, by decide +kernel⟩,
    ⟨let s := sys []; { s with supply := { s.supply with pfail := some 3996000000 } }, _, 4000000000, 181, 3996000000, rfl,
      by decide +kernel⟩,
    ⟨let s := sys []; { s with supply := { s.supply with rails := .up, railFaults := [3999999999, 16] } }, _, 4000000000, 3,
      3466, 100, false, rfl, by decide +kernel⟩,
    ⟨sys [], _, 4000000000, 7, rfl, by decide +kernel⟩⟩

/-- Its hypotheses are met, clause by clause. -/
theorem witness_StartSequence :
    (∃ (s : State) (z : State) (t : Nat) (v : Nat), z = s.advance t ∧ 180 < v ∧ z.startup.mode = .off ∧
      z.supply.rails = .off ∧ z.supply.hotShut = false ∧ z.safety.resetUntil = none) ∧
    (∃ (s : State) (z : State) (t : Nat) (a : Nat) (l : List Nat), z = s.advance t ∧ z.supply.railFaults = a :: l ∧
      z.supply.rails = .faultWait ∧ z.railsCool = true ∧ a + 40000000 ≤ z.time.clock) ∧
    (∃ (s : State) (z : State) (t : Nat) (e : Nat), z = s.advance t ∧ z.safety.resetUntil = some e ∧ e ≤ z.time.clock ∧
      z.supply.rails = .up ∧ z.startup.mode = .off) ∧
    (∃ (s : State) (z : State) (t : Nat) (step : Step) (ms : Nat) (code : Nat), z = s.advance t ∧
      z.stepLimit step = some (ms, code) ∧ z.startup.mode = .starting ∧ z.isDone step = false ∧
      z.startup.auxRise + ms * 400000 < z.time.clock) ∧
    (∃ (s : State) (z : State) (t : Nat) (step : Step) (ms : Nat) (code : Nat), z = s.advance t ∧
      z.stepLimit step = some (ms, code) ∧ z.startup.mode = .starting ∧ z.isDone step = false ∧
      ((∀ k ∈ stepNeeds step, z.isDone k = true)) ∧ z.startup.auxRise + ms * 400000 < z.time.clock) ∧
    (∃ (s : State) (z : State) (t : Nat) (obs : ImageObs) (step : Step), z = s.advance t ∧ z.startup.mode = .starting ∧
      z.isDone step = false ∧ ((∀ k ∈ stepNeeds step, z.isDone k = true)) ∧ z.stepLate step = false ∧
      ((step = .s1 ∨ step = .s3b ∨ step = .s5 ∨ step = .s8 ∨ step = .s9 ∨ (step = .s3a ∧
      z.manifestGood z.startup.bank obs .boot = true) ∨ (step = .s3c ∧ z.partsGood z.startup.bank = true) ∨ (step = .s6 ∧
      z.startup.hdr.paired = false) ∨ (step = .s7 ∧ z.carousel.running = true) ∨ (step = .s2 ∧ z.ident.life ≠ .retired ∧
      obs.pufOk = true)))) ∧
    (∃ (s : State) (z : State) (t : Nat), z = s.advance t ∧ z.startup.mode = .starting ∧ z.isDone .s4 = false ∧
      z.isDone .s3c = true ∧ z.stepLate .s4 = false) :=
  ⟨⟨let s := sys []; { s with startup := {}, supply := {} }, _, 4000000000, 181, rfl, by decide +kernel⟩,
    ⟨let s := sys []; { s with startup := {}, supply := { s.supply with railFaults := [3960000000], rails := .faultWait } },
      _, 4000000000, 3960000000, [], rfl, by decide +kernel⟩,
    ⟨let s := sys []; { s with startup := {}, supply := { s.supply with rails := .up }, safety := { s.safety with resetUntil := some 4000000000 } },
      _, 4000000000, 4000000000, rfl, by decide +kernel⟩,
    ⟨let s := sys []; { s with startup := { s.startup with mode := .starting, auxRise := 3987999999, done := [] } }, _,
      4000000000, .s1, 30, 0x21, rfl, by decide +kernel⟩,
    ⟨let s := sys []; { s with startup := { s.startup with mode := .starting, auxRise := 3985999999, done := [(.s1, 0)] } },
      _, 4000000000, .s2, 35, 0x22, rfl, by decide +kernel⟩,
    ⟨let s := sys [(0x0201, words 2 [(0, 16, 600)])]; { s with startup := { s.startup with mode := .starting, auxRise := 1600000000, done := [(.s7, 0), (.s8, 0)] } },
      _, 4000000000, minObs, .s9, rfl, by decide +kernel⟩,
    ⟨let s := minSys (sys []); { s with startup := { s.startup with mode := .starting, auxRise := 3600000000, done := [(.s3c, 0)] } },
      _, 4000000000, rfl, by decide +kernel⟩⟩

/-- Its hypotheses are met, clause by clause. -/
theorem witness_Pairing :
    (∃ (s : State) (z : State) (t : Nat) (p : PartnerInfo), z = s.advance t ∧ z.startup.mode = .starting ∧
      z.pair.st = .pairing ∧ p.paired = true ∧ z.startup.hdr.paired = true ∧ p.attestOk = true ∧ p.orderN = z.ident.orderN ∧
      p.pairPos ≠ z.ident.pairPos ∧ p.recordsHash = z.startup.hdr.recordsHash ∧ p.serial = z.ident.partnerSerial ∧
      p.boundSerial = z.ident.serial ∧ ((z.ident.partnerHash = none ∨ z.ident.partnerHash = some p.idHash)) ∧
      p.inService = false ∧ z.stepLate .s6 = false) ∧
    (∃ (s : State) (z : State) (t : Nat) (p : PartnerInfo), z = s.advance t ∧ z.startup.mode = .starting ∧
      z.pair.st = .pairing ∧ p.paired = true ∧ z.startup.hdr.paired = true ∧ p.attestOk = true ∧ p.orderN ≠ z.ident.orderN ∧
      z.stepLate .s6 = false) ∧
    (∃ (s : State) (z : State) (t : Nat) (p : PartnerInfo), z = s.advance t ∧ z.startup.mode = .starting ∧
      z.pair.st = .pairing ∧ p.paired = true ∧ z.startup.hdr.paired = true ∧ p.attestOk = true ∧ p.orderN = z.ident.orderN ∧
      ((p.pairPos = z.ident.pairPos ∨ (p.recordsHash = z.startup.hdr.recordsHash ∧ z.ident.partnerSerial = 0 ∧
      p.serial ≠ 0)))) ∧
    (∃ (s : State) (z : State) (t : Nat) (p : PartnerInfo), z = s.advance t ∧ z.startup.mode = .held ∧ p.paired = true ∧
      z.startup.hdr.paired = true ∧ p.attestOk = true ∧ p.orderN = z.ident.orderN ∧
      p.recordsHash = z.startup.hdr.recordsHash ∧ p.boundSerial = z.ident.serial ∧ p.serial ≠ z.ident.partnerSerial) ∧
    (∃ (s : State) (z : State) (t : Nat) (k : Nat), z = s.advance t ∧
      (z.startup.done.find? (fun x => x.1 = .s5) = some (.s5, k)) ∧ z.startup.mode = .starting ∧ z.pair.st = .pairing ∧
      k + fld (z.rec1 0x0201) 0 15 8 * 4000000 < z.tick ∧ z.stepLate .s6 = false) :=
  ⟨⟨pairing0, _, 4000000000, { partner0 true with boundSerial := 6400, inService := false }, rfl, by decide +kernel⟩,
    ⟨pairing0, _, 4000000000, { partner0 true with inService := false, orderN := true }, rfl, by decide +kernel⟩,
    ⟨pairing0, _, 4000000000, { partner0 true with inService := false, pairPos := false }, rfl, by decide +kernel⟩,
    ⟨let s := pairing0; { s with startup := { s.startup with mode := .held }, ident := { s.ident with partnerSerial := 6 } },
      _, 4000000000, { partner0 true with boundSerial := 6400, inService := false }, rfl, by decide +kernel⟩,
    ⟨let s := sys [(0x0201, words 2 [(0, 8, 10)])]; { s with startup := { s.startup with mode := .starting, auxRise := 3600000000, done := [(.s5, 3959999999)] }, pair := { s.pair with st := .pairing } },
      _, 4000000000, 3959999999, rfl, by decide +kernel⟩⟩

set_option maxRecDepth 100000 in
/-- Hypotheses met: RevisionsAndBanks, clause 5. -/
theorem witness_RevisionsAndBanks_5 : ∃ (s : State) (z : State) (t : Nat) (c : ConnNo) (k : Conn) (obs : ImageObs) (x : ImageHdr × List Rec), z = s.advance t ∧ z.port.conns[c] = some k ∧ k.slots.length < 16 ∧ ((z.startup.mode = .refused ∨ z.startup.mode = .held ∨ z.startup.mode = .service)) ∧ k.role = .service ∧ z.update.inactiveValid = true ∧ z.update.trial = none ∧ z.bankGood (otherBank z.startup.bank) obs .ring = true ∧ z.checkBank (otherBank z.startup.bank) obs = .ok x :=
  ⟨let s := minSys (sys []); { s with update := { s.update with inactiveValid := true } }, _, 4000000000, 3,
      conn .service, minObs, (hdrOf minPage, minImage), rfl, by decide +kernel⟩

/-- Its hypotheses are met, clause by clause. -/
theorem witness_RevisionsAndBanks :
    (∃ (s : State) (z : State) (t : Nat) (r : PendingRev), z = s.advance t ∧ z.startup.pendingRev = some r ∧
      z.stamp + 32768 ≤ r.boundary) ∧
    (∃ (s : State) (z : State) (t : Nat) (r : PendingRev), z = s.advance t ∧ z.startup.pendingRev = some r ∧
      r.boundary < z.stamp + 32768) ∧
    (∃ (s : State) (z : State) (t : Nat) (r : PendingRev), z = s.advance t ∧ z.startup.pendingRev = some r ∧
      z.pair.st = .holder ∧ r.acked = false ∧ r.boundary < z.stamp + 32768) ∧
    (∃ (s : State) (z : State) (t : Nat) (x : JPending) (r : PendingRev), z = s.advance t ∧ z.pair.journal.head? = some x ∧
      x.input = some .revisionCancelled ∧ x.entry.effect ≤ z.stamp ∧ (z.pair.st = .holder ∨ (z.pair.st = .standby ∧
      z.pair.applied = none)) ∧ z.startup.pendingRev = some r) :=
  ⟨⟨let s := sys []; { s with startup := { s.startup with pendingRev := some rev0 } }, _, 4000000000, rev0, rfl,
      by decide +kernel⟩,
    ⟨let s := sys []; { s with startup := { s.startup with pendingRev := some { rev0 with boundary := 32767 } } }, _,
      4000000000, { rev0 with boundary := 32767 }, rfl, by decide +kernel⟩,
    ⟨let s := sys []; { s with startup := { s.startup with pendingRev := some { rev0 with boundary := 32767 } }, pair := { s.pair with st := .holder } },
      _, 4000000000, { rev0 with boundary := 32767 }, rfl, by decide +kernel⟩,
    ⟨let s := queued (sys []) .revisionCancelled; { s with startup := { s.startup with pendingRev := some rev0 }, pair := { s.pair with st := .holder } },
      _, 4000000000, { entry := entry1, input := some .revisionCancelled }, rev0, rfl, by decide +kernel, by decide +kernel,
      by decide +kernel, by exact .inl rfl, by decide +kernel⟩⟩

/-- Its hypotheses are met, clause by clause. -/
theorem witness_WallAndScribeTime :
    (∃ (s : State) (z : State) (t : Nat) (port : EthNo) (m : PtpMaster), z = s.advance t ∧ z.isDone .s3c = true ∧
      z.ptpPort port.val m.domain = true) ∧
    (∃ (s : State) (z : State) (t : Nat) (port : EthNo) (m : PtpMaster) (off : Int), z = s.advance t ∧
      z.ptp.selected = some (port.val, m) ∧ off.natAbs ≤ 100000000 ∧
      ((z.ptp.sync = true ∨ 10000 ≤ off.natAbs ∨ z.ptp.good < 7))) ∧
    (∃ (s : State) (z : State) (t : Nat) (port : EthNo) (m : PtpMaster) (off : Int), z = s.advance t ∧
      z.ptp.selected = some (port.val, m) ∧ 100000000 < off.natAbs) ∧
    (∃ (s : State) (z : State) (t : Nat) (port : EthNo) (m : PtpMaster) (off : Int), z = s.advance t ∧
      z.ptp.selected = some (port.val, m) ∧ off.natAbs < 10000 ∧ z.ptp.sync = false ∧ 7 ≤ z.ptp.good) ∧
    (∃ (s : State) (z : State) (t : Nat) (x : Nat × PtpMaster), z = s.advance t ∧ z.ptp.selected = some x ∧
      z.ptp.lastSync + 1600000000 < z.time.clock) ∧
    (∃ (d : Int), Takes (.wallSlew d) fun _ => True) ∧
    (∃ (d : Int), Takes (.wallStep d) fun _ => True) ∧
    (Takes (.ptpState true) fun _ => True) ∧
    (∃ (c : ConnNo) (sec : Nat) (nsec : Nat), Asks c (dev 128 5 0) .write (.wall sec nsec) fun z => z.ptp.sync = false ∧
      sec < 2 ^ 48 ∧ nsec < 1000000000) ∧
    (∃ (c : ConnNo) (sec : Nat) (nsec : Nat), Asks c (dev 128 5 0) .write (.wall sec nsec) fun z => z.ptp.sync = true) ∧
    (∃ (s : State) (z : State) (t : Nat), z = s.advance t ∧ z.scribe.open_ = true ∧ z.scribe.core.time < 2 ^ 40 - 1) ∧
    (∃ (s : State) (z : State) (t : Nat), z = s.advance t ∧ z.scribe.core.time = 2 ^ 40 - 1) :=
  ⟨⟨sys [eth1], _, 4000000000, 1, ptpM, rfl, by decide +kernel⟩,
    ⟨let s := sys []; { s with ptp := { s.ptp with selected := some (1, ptpM) } }, _, 4000000000, 1, ptpM, -100000000, rfl,
      by decide +kernel, by decide +kernel, by exact .inr (.inl (by decide))⟩,
    ⟨let s := sys []; { s with ptp := { s.ptp with selected := some (1, ptpM) } }, _, 4000000000, 1, ptpM, -100000001, rfl,
      by decide +kernel⟩,
    ⟨let s := sys []; { s with ptp := { s.ptp with selected := some (1, ptpM), good := 7 } }, _, 4000000000, 1, ptpM, 9999,
      rfl, by decide +kernel⟩,
    ⟨let s := sys []; { s with ptp := { s.ptp with selected := some (1, ptpM), lastSync := 2399999999, sync := true } }, _,
      4000000000, (1, ptpM), rfl, by decide +kernel⟩,
    ⟨7, takes (sys []) 4000000000 (by decide +kernel)⟩,
    ⟨-7, takes (sys []) 4000000000 (by decide +kernel)⟩,
    takes (sys []) 4000000000 (by decide +kernel),
    ⟨3, 2 ^ 48 - 1, 999999999, asks (sys []) 4000000000 .service (by decide +kernel) (by decide +kernel) (by decide +kernel)⟩,
    ⟨3, 1, 0, asks (let s := sys []; { s with ptp := { s.ptp with sync := true } }) 4000000000 .service (by decide +kernel) (by decide +kernel) (by decide +kernel)⟩,
    ⟨let s := sys []; { s with scribe := { s.scribe with open_ := true, core := { s.scribe.core with time := 2 ^ 40 - 2 } } },
      _, 4000000000, rfl, by decide +kernel⟩,
    ⟨let s := sys []; { s with scribe := { s.scribe with open_ := true, core := { s.scribe.core with time := 2 ^ 40 - 1 } } },
      _, 4000000000, rfl, by decide +kernel⟩⟩

/-- Its hypotheses are met, clause by clause. -/
theorem witness_CanChannels :
    (∃ (s : State) (z : State) (t : Nat) (k : CanNo) (w : List W32), z = s.advance t ∧ z.canRec k.val = some w ∧
      z.listenOnly w = false ∧ (z.can k.val).err = .active ∧ (z.can k.val).tec ≤ 127) ∧
    (∃ (s : State) (z : State) (t : Nat) (k : CanNo) (w : List W32), z = s.advance t ∧ z.canRec k.val = some w ∧
      z.listenOnly w = true) ∧
    (∃ (s : State) (z : State) (t : Nat) (k : CanNo) (n : Nat), z = s.advance t ∧ (z.can k.val).err = .busOff ∧ 128 ≤ n) ∧
    (∃ (k : CanNo) (w : List W32) (r : Nat × Nat), Met (.canRefLost k) (fun z => z.canRec k.val = some w ∧
      (z.can k.val).cycleRef = some r ∧ canRole w = 2 ∧ (z.can k.val).refLost = false ∧
      r.1 + 2 * 2 ^ schedL (z.canSched k.val) < z.stamp) fun z => z.canRec k.val = some w ∧ (z.can k.val).cycleRef = some r ∧
      canRole w = 2 ∧ (z.can k.val).refLost = false ∧ r.1 + 2 * 2 ^ schedL (z.canSched k.val) < z.stamp) ∧
    (∃ (s : State) (z : State) (t : Nat) (k : CanNo) (a : Nat × Nat), z = s.advance t ∧ (z.can k.val).attempt = some a ∧
      (z.can k.val).err = .active ∧ (z.can k.val).tec ≤ 127 ∧ (z.can k.val).rec_ ≤ 127) ∧
    (∃ (s : State) (z : State) (t : Nat) (k : CanNo) (a : Nat × Nat), z = s.advance t ∧ (z.can k.val).attempt = some a ∧
      (z.can k.val).err = .active ∧ 255 < (z.can k.val).tec + 8) ∧
    (∃ (s : State) (z : State) (t : Nat) (k : CanNo) (e : Nat) (heard : Bool) (w : List W32) (cyc : Nat) (idx : Nat) (off : Nat), z = s.advance t ∧ z.canRec k.val = some w ∧ z.canCycle k.val = some (cyc, idx, off) ∧ e < fld (z.canSched k.val) 0 21 14 ∧ (winOf (z.canSched k.val) e).kind = 0 ∧ (winOf (z.canSched k.val) e).start ≤ off ∧ off ≤ (winOf (z.canSched k.val) e).start + (winOf (z.canSched k.val) e).length ∧ idx % 2 ^ (winOf (z.canSched k.val) e).repeat_ = (winOf (z.canSched k.val) e).offset ∧ z.winBegan (winOf (z.canSched k.val) e) off = true ∧ z.fitsWindow w (winOf (z.canSched k.val) e) off 8 = true ∧ z.listenOnly w = false ∧ canRole w = 1 ∧ (z.can k.val).err ≠ .busOff ∧ (z.can k.val).attempt = none ∧ (z.can k.val).win ≠ some (cyc, e) ∧ ((heard = true ∨ z.pair.st ≠ .holder))) ∧
    (∃ (s : State) (z : State) (t : Nat) (k : CanNo) (f : CanFrame) (w : List W32), z = s.advance t ∧
      z.canRec k.val = some w ∧ formatOk (canFormat w) f = true ∧ (z.can k.val).err = .active ∧ (z.can k.val).rec_ ≤ 127 ∧
      f.remote = false ∧ z.canAction k.val w f = .fifo 0 ∧ (z.can k.val).fifo0.length < 64) ∧
    (∃ (k : CanNo) (f : CanFrame) (w : List W32), Takes (.canFrame k f) fun z => z.canRec k.val = some w ∧
      z.canAction k.val w f = .fifo 0 ∧ (z.can k.val).fifo0.length < 64) ∧
    (∃ (s : State) (z : State) (t : Nat) (k : CanNo) (f : CanFrame) (w : List W32), z = s.advance t ∧
      z.canRec k.val = some w ∧ formatOk (canFormat w) f = true ∧ (z.can k.val).err = .active ∧ (z.can k.val).rec_ ≤ 127 ∧
      f.remote = false ∧ z.canAction k.val w f = .reject) :=
  ⟨⟨let s := (sys [canRec0 1 0]).modCan 0 fun x => { x with rec_ := 120, tec := 127 }; { s with pair := { s.pair with st := .solo } },
      _, 4000000000, 0, (canRec0 1 0).2, rfl, by decide +kernel⟩,
    ⟨sys [canRec0 1 1], _, 4000000000, 0, (canRec0 1 1).2, rfl, by decide +kernel⟩,
    ⟨(sys []).modCan 7 fun x => { x with err := .busOff, tec := 256 }, _, 4000000000, 7, 128, rfl, by decide +kernel⟩,
    ⟨0, (canRec0 2 0).2, (7, 0), met (let s := (sys [canRec0 2 0, canSched0]).modCan 0 fun x => { x with cycleRef := some (7, 0) }; { s with carousel := { s.carousel with phase := 4104 * arcUnits } }) 4000000000 (by decide +kernel) (by decide +kernel) (by decide +kernel) (by decide +kernel) (by decide +kernel) (by decide +kernel)⟩,
    ⟨(sys []).modCan 0 fun x => { x with attempt := some (3, 0), tec := 127, rec_ := 127 }, _, 4000000000, 0, (3, 0), rfl,
      by decide +kernel⟩,
    ⟨(sys []).modCan 0 fun x => { x with attempt := some (3, 0), tec := 248 }, _, 4000000000, 0, (3, 0), rfl,
      by decide +kernel⟩,
    ⟨let s := sys [canRec0 1 0, canSched0]; { s with carousel := { s.carousel with running := true, phase := 2051 * arcUnits, freq := 25600 * 2 ^ 23 }, pair := { s.pair with st := .solo }, buses := { s.buses with schedFrom := some 0 } },
      _, 4000000000, 0, 0, false, (canRec0 1 0).2, 1, 0, 3, rfl, by decide +kernel⟩,
    ⟨(sys [canRec0 1 0, canFilter0]).modCan 0 fun x => { x with rec_ := 127, fifo0 := List.replicate 63 ({ idk := .base, ident := 16, remote := false, data := [] }, 0) },
      _, 4000000000, 0, { idk := .base, ident := 31, remote := false, data := [1, 2] }, (canRec0 1 0).2, rfl,
      by decide +kernel⟩,
    ⟨0, { idk := .base, ident := 31, remote := false, data := [1, 2] }, (canRec0 1 0).2, takes ((sys [canRec0 1 0, canFilter0])) 4000000000 (by decide +kernel)⟩,
    ⟨let s := sys [canRec0 1 0, canFilter0]; { s with pair := { s.pair with st := .solo } }, _, 4000000000, 0,
      { idk := .base, ident := 32, remote := false, data := [] }, (canRec0 1 0).2, rfl, by decide +kernel⟩⟩

/-- Its hypotheses are met, clause by clause. -/
theorem witness_EthernetAndTelemetry :
    (∃ (s : State) (z : State) (t : Nat) (p : EthNo) (vid : Nat) (r : List W32), z = s.advance t ∧ z.isDone .s3c = true ∧
      z.ethRec p.val = some r ∧ vid ≠ fld r 0 24 13) ∧
    (∃ (s : State) (z : State) (t : Nat) (p : EthNo) (n : Nat) (r : List W32), z = s.advance t ∧ z.isDone .s3c = true ∧
      z.ethRec p.val = some r ∧ z.startup.mode = .service ∧ bit r 0 27 = true ∧ ((∃ x ∈ z.buses.tunnelSeen, x.1 = n ∧
      z.time.clock ≤ x.2.1 + 40000000)) ∧ ((∀ x ∈ z.buses.tunnelSeen, x.1 = n → x.2.1 < z.time.clock))) ∧
    (∃ (s : State) (z : State) (t : Nat) (p : EthNo) (q : EthNo) (n : Nat) (r : List W32) (l : List (Nat × Nat × EthNo)), z = s.advance t ∧ z.isDone .s3c = true ∧ z.ethRec p.val = some r ∧ z.startup.mode = .service ∧ bit r 0 27 = true ∧ z.buses.tunnelSeen = (n, z.time.clock, q) :: l ∧ p < q) ∧
    (∃ (s : State) (z : State) (t : Nat) (p : EthNo) (n : Nat) (r : List W32), z = s.advance t ∧ z.isDone .s3c = true ∧
      z.ethRec p.val = some r ∧ z.startup.mode = .service ∧ bit r 0 27 = true ∧
      ((∀ x ∈ z.buses.tunnelSeen, x.1 = n → x.2.1 + 40000000 < z.time.clock))) ∧
    (∃ (s : State) (z : State) (t : Nat) (p : EthNo) (up : Bool), z = s.advance t ∧ z.buses.eth[p].link ≠ up) ∧
    (∃ (s : State) (z : State) (t : Nat) (p : EthNo), z = s.advance t ∧ z.buses.eth[p].dup = false) ∧
    (∃ (s : State) (z : State) (t : Nat) (n : Fin 16) (w : List W32), z = s.advance t ∧ z.recAt 0x1002 31 28 n.val = some w ∧
      z.startup.mode = .service) :=
  ⟨⟨sys [eth1], _, 4000000000, 1, 8, eth1.2, rfl, by decide +kernel⟩,
    ⟨let s := sys [eth1]; { s with buses := { s.buses with tunnelSeen := [(99, 3960000000, 0)] } }, _, 4000000000, 1, 99,
      eth1.2, rfl, by decide +kernel, by decide +kernel, by decide +kernel, by decide +kernel,
      by exact ⟨(99, 3960000000, 0), by decide +kernel, by decide +kernel, by decide +kernel⟩, by decide +kernel⟩,
    ⟨let s := sys [eth1]; { s with buses := { s.buses with tunnelSeen := [(99, 4000000000, 2)] } }, _, 4000000000, 1, 2, 99,
      eth1.2, [], rfl, by decide +kernel⟩,
    ⟨let s := sys [eth1]; { s with buses := { s.buses with tunnelSeen := [(99, 3959999999, 1)] } }, _, 4000000000, 1, 99,
      eth1.2, rfl, by decide +kernel⟩,
    ⟨sys [], _, 4000000000, 3, true, rfl, by decide +kernel⟩,
    ⟨sys [], _, 4000000000, 3, rfl, by decide +kernel⟩,
    ⟨let s := sys [(0x1002, words 7 [(0, 28, 15), (5, 16, 100), (5, 0, 1)])]; { s with pair := { s.pair with st := .solo } },
      _, 4000000000, 15, words 7 [(0, 28, 15), (5, 16, 100), (5, 0, 1)], rfl, by decide +kernel⟩⟩

/-- Its hypotheses are met, clause by clause. -/
theorem witness_ConnectionsAndPortServices :
    (∃ (s : State) (z : State) (t : Nat) (p : EthNo) (ou : Option Role) (ca : Option Nat) (ok : Bool) (r : Role) (i : ConnNo), z = s.advance t ∧ z.clientRole ou ca ok = some r ∧ z.portUp = true ∧ z.objEn p.val = true ∧ z.ident.life ≠ .manufacture ∧ z.port.conns[i] = none ∧ ((∀ j : ConnNo, j < i → z.port.conns[j] ≠ none))) ∧
    (∃ (s : State) (z : State) (t : Nat) (c : ConnNo) (k : Conn), z = s.advance t ∧ z.port.conns[c] = some k ∧
      k.slots.length < 16 ∧ z.startup.mode = .service) ∧
    (∃ (s : State) (z : State) (t : Nat) (c : ConnNo) (k : Conn) (e : EvRec) (rest : List EvRec), z = s.advance t ∧
      z.port.conns[c] = some k ∧ k.slots.length < 16 ∧ k.gapFirst = none ∧ k.queue = e :: rest ∧
      z.hasRight k.role .read (evObj e.ev) = true) ∧
    (∃ (s : State) (z : State) (t : Nat) (c : ConnNo) (k : Conn), z = s.advance t ∧ z.port.conns[c] = some k ∧ k.slots = []) ∧
    (∃ (s : State) (z : State) (t : Nat) (c : ConnNo) (k : Conn), z = s.advance t ∧ z.port.conns[c] = some k ∧ k.slots ≠ [] ∧
      k.slots.length < 16) ∧
    (∃ (s : State) (z : State) (t : Nat) (c : ConnNo) (k : Conn), z = s.advance t ∧ z.port.conns[c] = some k ∧
      16 ≤ k.slots.length) ∧
    (∃ (s : State) (z : State) (t : Nat) (c : ConnNo) (k : Conn) (nonce : List Byte), z = s.advance t ∧
      z.port.conns[c] = some k ∧ k.slots.length < 16 ∧ 16 ≤ nonce.length ∧ nonce.length ≤ 64) ∧
    (∃ (s : State) (z : State) (t : Nat) (c : ConnNo) (k : Conn) (nonce : List Byte), z = s.advance t ∧
      z.port.conns[c] = some k ∧ k.slots.length < 16 ∧ ((nonce.length < 16 ∨ 64 < nonce.length))) :=
  ⟨⟨sys [(0x0A02, words 3 [(0, 24, 1), (1, 24, 127), (1, 0, 4)]), (0x1001, words 19 [(0, 30, 1), (0, 28, 1)])], _,
      4000000000, 1, some .operator, some 0, true, .operator, 7, rfl, by decide +kernel⟩,
    ⟨sys [], _, 4000000000, 0, conn .pub, rfl, by decide +kernel⟩,
    ⟨withConn (sys []) 1 { conn .reader with queue := [{ seq := 9, ev := .locked, tick := 1, stamp := 2, val := [] }], gap := some (7, 2) },
      _, 4000000000, 1,
      { conn .reader with queue := [{ seq := 9, ev := .locked, tick := 1, stamp := 2, val := [] }], gap := some (7, 2) },
      { seq := 9, ev := .locked, tick := 1, stamp := 2, val := [] }, [], rfl, by decide +kernel⟩,
    ⟨withConn (sys []) 4 { conn .operator with stage := .checked, stageRecs := [tariff2], sub := some { names := [.locked] } },
      _, 4000000000, 4,
      { conn .operator with stage := .checked, stageRecs := [tariff2], sub := some { names := [.locked] } }, rfl,
      by decide +kernel⟩,
    ⟨withConn (sys []) 4 { conn .operator with slots := [.pending] }, _, 4000000000, 4,
      { conn .operator with slots := [.pending] }, rfl, by decide +kernel⟩,
    ⟨withConn (sys []) 4 { conn .operator with slots := List.replicate 16 .pending }, _, 4000000000, 4,
      { conn .operator with slots := List.replicate 16 .pending }, rfl, by decide +kernel⟩,
    ⟨sys [], _, 4000000000, 0, conn .pub, List.replicate 64 7, rfl, by decide +kernel⟩,
    ⟨sys [], _, 4000000000, 0, conn .pub, List.replicate 65 7, rfl, by decide +kernel⟩⟩

/-- Its hypotheses are met, clause by clause. -/
theorem witness_ReadsAndWrites :
    (∃ (s : State) (z : State) (t : Nat) (c : ConnNo) (k : Conn) (o : Obis), z = s.advance t ∧ z.port.conns[c] = some k ∧
      k.slots.length < 16 ∧ z.absent o = false ∧ z.objExists k o = true ∧ z.hasRight k.role .read o = true) ∧
    (∃ (s : State) (z : State) (t : Nat) (c : ConnNo) (k : Conn) (o : Obis), z = s.advance t ∧ z.port.conns[c] = some k ∧
      k.slots.length < 16 ∧ ((z.absent o = true ∨ z.objExists k o = false))) ∧
    (∃ (s : State) (z : State) (t : Nat) (c : ConnNo) (k : Conn) (o : Obis), z = s.advance t ∧ z.port.conns[c] = some k ∧
      k.slots.length < 16 ∧ z.absent o = false ∧ z.objExists k o = true ∧ z.hasRight k.role .read o = false) ∧
    (∃ (c : ConnNo) (sec : Nat) (nsec : Nat), Asks c (dev 128 5 0) .write (.wall sec nsec) fun z => z.ptp.sync = false ∧
      sec < 2 ^ 48 ∧ nsec < 1000000000) ∧
    (∃ (s : State) (z : State) (t : Nat) (c : ConnNo) (k : Conn), z = s.advance t ∧ z.port.conns[c] = some k ∧
      k.slots.length < 16 ∧ z.startup.mode ≠ .service) :=
  ⟨⟨sys [], _, 4000000000, 3, conn .service, dev 128 5 0, rfl, by decide +kernel⟩,
    ⟨withConn (sys []) 255 (conn .pub), _, 4000000000, 255, conn .pub, dev 250 0 0, rfl, by decide +kernel⟩,
    ⟨sys [], _, 4000000000, 0, conn .pub, dev 128 5 0, rfl, by decide +kernel⟩,
    ⟨4, 0, 999999999, asks (sys []) 4000000000 .operator (by decide +kernel) (by decide +kernel) (by decide +kernel)⟩,
    ⟨let s := sys []; { s with startup := { s.startup with mode := .held } }, _, 4000000000, 4, conn .operator, rfl,
      by decide +kernel⟩⟩

set_option maxRecDepth 100000 in
/-- Hypotheses met: RevisionsAreStaged, clause 3. -/
theorem witness_RevisionsAreStaged_3 : ∃ (s : State) (z : State) (t : Nat) (c : ConnNo) (k : Conn), z = s.advance t ∧
    z.port.conns[c] = some k ∧ k.slots.length < 16 ∧ z.startup.mode = .service ∧ k.stage ≠ .empty ∧
    ((∀ r ∈ k.stageRecs, stagingRole r.typ = k.role)) ∧ z.checkSet (resultingSet z.startup.oper k.stageRecs) = none :=
  ⟨withConn minService 4 { conn .operator with stage := .staged, stageRecs := [tariff2] }, _, 4000000000, 4,
      { conn .operator with stage := .staged, stageRecs := [tariff2] }, rfl, by decide +kernel⟩

/-- Its hypotheses are met, clause by clause. -/
theorem witness_RevisionsAreStaged :
    (∃ (s : State) (z : State) (t : Nat) (c : ConnNo) (k : Conn) (recs : List Rec), z = s.advance t ∧
      z.port.conns[c] = some k ∧ k.slots.length < 16 ∧ z.startup.mode = .service ∧ recs ≠ [] ∧
      ((∀ r ∈ recs, operational r.typ = true ∧ stagingRole r.typ = k.role))) ∧
    (∃ (s : State) (z : State) (t : Nat) (c : ConnNo) (k : Conn) (recs : List Rec), z = s.advance t ∧
      z.port.conns[c] = some k ∧ k.slots.length < 16 ∧ z.startup.mode = .service ∧ ((∃ r ∈ recs, operational r.typ = false))) ∧
    (∃ (s : State) (z : State) (t : Nat) (c : ConnNo) (k : Conn) (boundary : Nat), z = s.advance t ∧
      z.port.conns[c] = some k ∧ k.slots = [] ∧ z.startup.mode = .service ∧ k.stage = .checked ∧
      ((∀ r ∈ k.stageRecs, stagingRole r.typ = k.role)) ∧ k.base = z.startup.revision ∧ z.startup.pendingRev = none ∧
      z.update.armed = none ∧ z.boundaryOk (z.stampOf z.tick) boundary = true ∧ journals z.pair.st = false) ∧
    (∃ (s : State) (z : State) (t : Nat) (c : ConnNo) (k : Conn), z = s.advance t ∧ z.port.conns[c] = some k ∧
      k.slots.length < 16 ∧ z.startup.mode = .service ∧ k.stage = .checked ∧
      ((∀ r ∈ k.stageRecs, stagingRole r.typ = k.role)) ∧ ((z.pair.st = .holder ∨ z.pair.st = .solo))) ∧
    (∃ (s : State) (z : State) (t : Nat) (x : JPending) (here : Bool) (c : ConnNo) (role : Role) (addr : Nat) (code : W32) (boundary : Nat) (base : Nat) (recs : List Rec), z = s.advance t ∧ z.pair.journal.head? = some x ∧ x.input = some (.op here c role addr (.commit code boundary base recs)) ∧ x.entry.effect ≤ z.stamp ∧ z.pair.st = .holder ∧ base = z.startup.revision ∧ z.startup.pendingRev = none ∧ z.update.armed = none ∧ z.boundaryOk (x.entry.effect - z.journalLead) boundary = true) ∧
    (∃ (here : Bool) (c : ConnNo) (role : Role) (addr : Nat) (code : W32) (boundary : Nat) (base : Nat) (recs : List Rec), Takes (.op here c role addr (.commit code boundary base recs)) fun z => z.startup.pendingRev.isSome = true) :=
  ⟨⟨sys [], _, 4000000000, 4, conn .operator, [tariff2], rfl, by decide +kernel⟩,
    ⟨sys [], _, 4000000000, 4, conn .operator, [tariff2, { typ := 0x0101, payload := [], crc := 0 }], rfl,
      by decide +kernel⟩,
    ⟨withConn rev5 4 { conn .operator with stage := .checked, stageRecs := [tariff2], base := 5, code := 99 }, _,
      4000000000, 4, { conn .operator with stage := .checked, stageRecs := [tariff2], base := 5, code := 99 }, 131072, rfl,
      by decide +kernel⟩,
    ⟨inPair (withConn rev5 4 { conn .operator with stage := .checked, stageRecs := [tariff2], base := 5, code := 99 }) .solo,
      _, 4000000000, 4, { conn .operator with stage := .checked, stageRecs := [tariff2], base := 5, code := 99 }, rfl,
      by decide +kernel, by decide +kernel, by decide +kernel, by decide +kernel, by decide +kernel, by exact .inr rfl⟩,
    ⟨inPair (queued (rev5.asked 4) (.op true 4 .operator 0 (.commit 99 131072 5 [tariff2]))) .holder, _, 4000000000,
      { entry := entry1, input := some (.op true 4 .operator 0 (.commit 99 131072 5 [tariff2])) }, true, 4, .operator, 0, 99,
      131072, 5, [tariff2], rfl, by decide +kernel⟩,
    ⟨true, 4, .operator, 0, 99, 131072, 5, [tariff2], takes (let s := rev5.asked 4; { s with startup := { s.startup with pendingRev := some rev0 } }) 4000000000 (by decide +kernel)⟩⟩

/-- Its hypotheses are met, clause by clause. -/
theorem witness_KeysAndLifeCycle :
    (∃ (c : ConnNo) (n : SlotNo) (k : KeyImport), Asks c (dev 145 2 n.val) .execute (.keyImport n k) fun z => 16 ≤ n.val ∧
      z.ident.life ≠ .manufacture ∧ z.ident.life ≠ .retired ∧ z.slotNamed n.val = false ∧
      badAttr (k.attr &&& 0xFFFFFFE0#32) = false ∧ (7 < attrType k.attr ∨ z.keyAllowed 5 .derive .update = true) ∧
      k.keyOk = true ∧ (attrPurpose k.attr ≠ 3 ∨ z.ident.life = .provisioned ∨ (k.sigPresent = true ∧ k.sigOk = true))) ∧
    (∃ (c : ConnNo) (n : SlotNo) (k : KeyImport), Asks c (dev 145 2 n.val) .execute (.keyImport n k) fun z => 16 ≤ n.val ∧
      z.ident.life ≠ .manufacture ∧ z.ident.life ≠ .retired ∧ z.slotNamed n.val = false ∧
      badAttr (k.attr &&& 0xFFFFFFE0#32) = false ∧ 7 < attrType k.attr ∧ k.keyOk = false) ∧
    (∃ (c : ConnNo) (n : SlotNo), Asks c (dev 145 3 n.val) .execute (.keyDestroy n) fun z => 16 ≤ n.val ∧
      z.slotNamed n.val = false) ∧
    (∃ (c : ConnNo) (n : SlotNo), Asks c (dev 145 3 n.val) .execute (.keyDestroy n) fun z => n.val < 16) ∧
    (∃ (s : State) (z : State) (t : Nat) (c : ConnNo) (partner : Nat), z = s.advance t ∧ Allowed z c .execute (dev 145 6 0) ∧
      z.ident.life = .provisioned ∧ (partner = 0 ↔ z.startup.hdr.paired = false)) ∧
    (∃ (s : State) (z : State) (t : Nat) (c : ConnNo), z = s.advance t ∧ Allowed z c .execute (dev 145 6 0) ∧
      z.ident.life ≠ .provisioned) ∧
    (∃ (s : State) (z : State) (t : Nat) (c : ConnNo), z = s.advance t ∧ Allowed z c .execute (dev 145 7 0) ∧
      z.ident.life ≠ .manufacture ∧ z.ident.life ≠ .retired) :=
  ⟨⟨3, 16,
      { attr := BitVec.ofNat 32 (2 * 2 ^ 28 + 2 ^ 27 + 2 ^ 20 + 2 ^ 15 + 2 ^ 13 + 7 * 128), kcv := 5, keyOk := true, sigPresent := false, sigOk := false }, asks (let s := sys []; { s with keys := { s.keys with slots := s.keys.slots.set 5 { attr := BitVec.ofNat 32 (2 ^ 28 + 2 ^ 23 + 2 ^ 20 + 2 ^ 19 + 2 ^ 18 + 2 ^ 17 + 2 ^ 16 + 2 ^ 15 + 2 ^ 14 + 2 ^ 13) } } }) 4000000000 .service (by decide +kernel) (by decide +kernel) (by decide +kernel)⟩,
    ⟨3, 63,
      { attr := BitVec.ofNat 32 (8 * 2 ^ 28 + 2 ^ 26 + 2 ^ 20 + 2 ^ 16 + 2 ^ 13 + 3 * 128), kcv := 5, keyOk := false, sigPresent := false, sigOk := false }, asks (sys []) 4000000000 .service (by decide +kernel) (by decide +kernel) (by decide +kernel)⟩,
    ⟨3, 16, asks (minSys (sys [])) 4000000000 .service (by decide +kernel) (by decide +kernel) (by decide +kernel)⟩,
    ⟨3, 15, asks (sys []) 4000000000 .service (by decide +kernel) (by decide +kernel) (by decide +kernel)⟩,
    ⟨let s := sys []; { s with startup := { s.startup with hdr := { paired := true, hubId := 77 } }, pair := { s.pair with st := .solo } },
      _, 4000000000, 3, 6, rfl,
      by exact ⟨by decide +kernel, by decide +kernel, by decide +kernel, conn .service, by decide +kernel, by decide +kernel⟩,
      by decide +kernel⟩,
    ⟨let s := sys []; { s with ident := { s.ident with life := .commissioned } }, _, 4000000000, 3, rfl,
      by exact ⟨by decide +kernel, by decide +kernel, by decide +kernel, conn .service, by decide +kernel, by decide +kernel⟩,
      by decide +kernel⟩,
    ⟨sys [], _, 4000000000, 3, rfl,
      by exact ⟨by decide +kernel, by decide +kernel, by decide +kernel, conn .service, by decide +kernel, by decide +kernel⟩,
      by decide +kernel⟩⟩

/-- Its hypotheses are met, clause by clause. -/
theorem witness_PackagesAreStaged :
    (∃ (s : State) (z : State) (t : Nat) (c : ConnNo) (k : Conn) (piece : Nat) (data : List W32) (k2 : Bool), z = s.advance t ∧ z.port.conns[c] = some k ∧ k.slots = [] ∧ z.startup.mode = .service ∧ ((k.role = .operator ∨ k.role = .service ∨ k.role = .vendor)) ∧ data.length = 1024 ∧ piece < 65536 ∧ journals z.pair.st = false ∧ k2 = decide (32768 ≤ piece) ∧ 8 ≤ piece % 32768 ∧ (z.staging k2).st = .receiving ∧ piece % 32768 < 8 + hdrHl (z.staging k2).header + hdrPieces (z.staging k2).header ∧ piece % 32768 ∉ (z.staging k2).got ∧ ((∀ h, hashPiece (hdrHl (z.staging k2).header) (piece % 32768) = some h → h ∈ (z.staging k2).got)) ∧ sha384 data = z.pieceHash k2 (piece % 32768)) ∧
    (∃ (s : State) (z : State) (t : Nat) (c : ConnNo) (k : Conn) (piece : Nat) (data : List W32), z = s.advance t ∧
      z.port.conns[c] = some k ∧ k.slots.length < 16 ∧ z.startup.mode = .service ∧
      ((k.role = .operator ∨ k.role = .service ∨ k.role = .vendor)) ∧ data.length = 1024 ∧ piece < 65536 ∧
      ((z.pair.st = .holder ∨ z.pair.st = .solo))) ∧
    (∃ (here : Bool) (c : ConnNo) (role : Role) (addr : Nat) (piece : Nat) (data : List W32) (k2 : Bool) (ok : Bool), Takes (.op here c role addr (.updatePiece piece data ok)) fun z => k2 = decide (32768 ≤ piece) ∧ 8 ≤ piece % 32768 ∧ (z.staging k2).st = .receiving ∧ piece % 32768 < 8 + hdrHl (z.staging k2).header + hdrPieces (z.staging k2).header ∧ piece % 32768 ∉ (z.staging k2).got ∧ (∀ h, hashPiece (hdrHl (z.staging k2).header) (piece % 32768) = some h → h ∈ (z.staging k2).got) ∧ data.length = 1024 ∧ sha384 data = z.pieceHash k2 (piece % 32768)) ∧
    (∃ (here : Bool) (c : ConnNo) (role : Role) (addr : Nat) (piece : Nat) (data : List W32) (k2 : Bool) (ok : Bool), Takes (.op here c role addr (.updatePiece piece data ok)) fun z => k2 = decide (32768 ≤ piece) ∧ 8 ≤ piece % 32768 ∧ (z.staging k2).st = .receiving ∧ piece % 32768 < 8 + hdrHl (z.staging k2).header + hdrPieces (z.staging k2).header ∧ piece % 32768 ∉ (z.staging k2).got ∧ (∀ h, hashPiece (hdrHl (z.staging k2).header) (piece % 32768) = some h → h ∈ (z.staging k2).got) ∧ sha384 data ≠ z.pieceHash k2 (piece % 32768)) ∧
    (∃ (s : State) (z : State) (t : Nat) (k2 : Bool), z = s.advance t ∧ (z.staging k2).st = .checking) ∧
    (∃ (c : ConnNo) (k2 : Bool), Asks c (dev 146 3 0) .execute (.updateAbort k2) fun z => (z.staging k2).st = .receiving ∧
      z.update.armed = none) :=
  ⟨⟨stage0 false, _, 4000000000, 4, conn .operator, 8, piece0, false, rfl, by decide +kernel, by decide +kernel,
      by decide +kernel, by decide +kernel, by exact List.length_replicate, by decide +kernel, by decide +kernel,
      by decide +kernel, by decide +kernel, by decide +kernel, by decide +kernel, by decide +kernel,
      by intro h e; exact absurd (Eq.trans (Eq.symm (by decide +kernel : _ = none)) e) (by simp),
      by exact piece0_hash.trans (by decide +kernel)⟩,
    ⟨inPair (sys []) .solo, _, 4000000000, 4, conn .operator, 32776, piece0, rfl, by decide +kernel, by decide +kernel,
      by decide +kernel, by decide +kernel, by exact List.length_replicate, by decide +kernel, by exact .inr rfl⟩,
    ⟨true, 4, .operator, 0, 32776, piece0, true, false, takes ((stage0 true).asked 4) 4000000000 (⟨by decide +kernel, by decide +kernel, by decide +kernel, by decide +kernel, by decide +kernel, by intro h e; exact absurd (Eq.trans (Eq.symm (by decide +kernel : _ = none)) e) (by simp), by exact List.length_replicate, by exact piece0_hash.trans (by decide +kernel)⟩)⟩,
    ⟨true, 4, .operator, 0, 32776, piece0, true, false, takes (let s := (stage0 true).asked 4; { s with update := { s.update with img := { s.update.img with header := words 7 [(6, 8, 1), (6, 16, 1)] } } }) 4000000000 (⟨by decide +kernel, by decide +kernel, by decide +kernel, by decide +kernel, by decide +kernel, by intro h e; exact absurd (Eq.trans (Eq.symm (by decide +kernel : _ = none)) e) (by simp), by rw [piece0_hash]; decide +kernel⟩)⟩,
    ⟨let s := sys []; { s with update := { s.update with fw := { st := .checking } } }, _, 4000000000, false, rfl,
      by decide +kernel⟩,
    ⟨4, true, asks (let s := sys []; { s with update := { s.update with img := { st := .receiving, got := [0] } } }) 4000000000 .operator (by decide +kernel) (by decide +kernel) (by decide +kernel)⟩⟩

set_option maxRecDepth 100000 in
/-- Hypotheses met: Arming, clause 4. -/
theorem witness_Arming_4 : ∃ (s : State) (z : State) (t : Nat) (a : Armed), z = s.advance t ∧ z.update.armed = some a :=
  ⟨let s := minService; { s with update := { s.update with armed := some { deadline := 9000000000, drain := false } } },
      _, 4000000000, { deadline := 9000000000, drain := false }, rfl, by decide +kernel⟩

/-- Its hypotheses are met, clause by clause. -/
theorem witness_ArmingAndActivation :
    (∃ (c : ConnNo) (m : Nat) (d : Nat), Asks c (dev 146 2 0) .execute (.arm m d) fun z => 1 ≤ m ∧ m ≤ 10080 ∧ d ≤ 1 ∧
      z.armRefused = false) ∧
    (∃ (c : ConnNo) (m : Nat) (d : Nat), Asks c (dev 146 2 0) .execute (.arm m d) fun z => 1 ≤ m ∧ m ≤ 10080 ∧ d ≤ 1 ∧
      z.armRefused = true) ∧
    (∃ (c : ConnNo), Asks c (dev 146 2 0) .execute .disarm fun z => z.update.armed.isSome = true) ∧
    (∃ (s : State) (z : State) (t : Nat) (a : Armed), z = s.advance t ∧ z.update.armed = some a) ∧
    (∃ (a : Armed), Met .activationDeadline (fun z => z.update.armed = some a ∧ a.deadline < z.time.clock ∧
      a.boundary = none ∧ z.boundaryComing = false ∧
      z.stampOf (a.deadline - z.time.tick0) < z.stamp) fun z => z.update.armed = some a ∧ a.boundary = none) ∧
    (∃ (s : State) (z : State) (t : Nat) (old : BankId), z = s.advance t ∧ z.update.trial = some old ∧ z.isDone .s6 = true ∧
      z.startup.hdr.paired = false) ∧
    (∃ (s : State) (z : State) (t : Nat) (old : BankId), z = s.advance t ∧ z.update.trial = some old) ∧
    (∃ (s : State) (z : State) (t : Nat), z = s.advance t ∧ z.startup.mode = .service ∧ 241920000000000 ≤ z.servedTicks ∧
      z.update.fuse < hdrRollback z.activeManifest) ∧
    (∃ (c : ConnNo), Asks c (dev 146 5 0) .execute .rollbackCommit fun _ => True) ∧
    (∃ (c : ConnNo) (h : Nat) (v : Nat), Asks c (dev 146 4 0) .execute (.legalRelease h v) fun z => z.update.fw.st = .ready ∧
      h = hdrPartHash z.update.fw.header 6 ∧ v = hdrLegal z.update.fw.header) ∧
    (∃ (s : State) (z : State) (t : Nat) (c : ConnNo) (k : Conn), z = s.advance t ∧ z.port.conns[c] = some k ∧
      k.slots.length < 16 ∧ z.startup.mode = .service ∧ z.ident.orderN = true) :=
  ⟨⟨4, 10080, 1, asks (let s := sys []; { s with update := { s.update with img := { st := .ready, header := [] } } }) 4000000000 .operator (by decide +kernel) (by decide +kernel) (by decide +kernel)⟩,
    ⟨4, 1, 0, asks (sys []) 4000000000 .operator (by decide +kernel) (by decide +kernel) (by decide +kernel)⟩,
    ⟨4, asks (let s := sys []; { s with update := { s.update with armed := some { deadline := 9, drain := false } } }) 4000000000 .operator (by decide +kernel) (by decide +kernel) (by decide +kernel)⟩,
    ⟨let s := sys []; { s with update := { s.update with armed := some { deadline := 9000000000, drain := false } } }, _,
      4000000000, { deadline := 9000000000, drain := false }, rfl, by decide +kernel⟩,
    ⟨{ deadline := 3999999999, drain := false }, met (let s := sys []; { s with carousel := { s.carousel with phase := 5 * arcUnits, history := [(3999999999, 4 * arcUnits)] }, update := { s.update with armed := some { deadline := 3999999999, drain := false } } }) 4000000000 (by decide +kernel) (by decide +kernel) (by decide +kernel) (by decide +kernel) (by decide +kernel) (by decide +kernel)⟩,
    ⟨let s := sys []; { s with update := { s.update with trial := some .b, fw := { st := .ready } } }, _, 4000000000, .b,
      rfl, by decide +kernel⟩,
    ⟨let s := sys []; { s with update := { s.update with trial := some .b } }, _, 4000000000, .b, rfl, by decide +kernel⟩,
    ⟨let s := sys []; { s with update := { s.update with served := (241920000000000, some 4000000000), fuse := 254 } }, _,
      4000000000, rfl, by decide +kernel⟩,
    ⟨4, asks (sys []) 4000000000 .operator (by decide +kernel) (by decide +kernel) (by decide +kernel)⟩,
    ⟨5, 0, 0, asks (let s := sys []; { s with update := { s.update with fw := { st := .ready } } }) 4000000000 .metrology (by decide +kernel) (by decide +kernel) (by decide +kernel)⟩,
    ⟨let s := sys []; { s with ident := { s.ident with orderN := true } }, _, 4000000000, 5, conn .metrology, rfl,
      by decide +kernel⟩⟩

/-- Its hypotheses are met, clause by clause. -/
theorem witness_TasksAreReleased :
    (∃ (s : State) (z : State) (t : Nat) (l : LawNo) (d : LawDue) (rest : List LawDue), z = s.advance t ∧
      z.startup.mode = .service ∧ z.decides = true ∧ (z.law l.val).st ≠ .idle ∧ z.carousel.running = true ∧
      (z.law l.val).due = d :: rest ∧ d.instant < z.nowTap + 32) ∧
    (∃ (s : State) (z : State) (t : Nat), z = s.advance t ∧ z.startup.mode = .service) ∧
    (Met (.release .cooling) (fun z => z.startup.mode = .service) fun _ => True) :=
  ⟨⟨let s := sys plant; { s with carousel := { s.carousel with running := true, freq := 25600 * 2 ^ 23 }, laws := { s.laws with laws := vmapIdx (fun i (x : Law) => if i = 0 then { x with st := .running, due := [lawDue0] } else x) s.laws.laws } },
      _, 4000000000, 0, lawDue0, [], rfl, by decide +kernel⟩,
    ⟨sys [], _, 4000000000, rfl, by decide +kernel⟩,
    met (sys []) 4000000000 (by decide +kernel) (by decide +kernel) (by decide +kernel) (by decide +kernel) (by decide +kernel) (by decide +kernel)⟩

/-- Its hypotheses are met, clause by clause. -/
theorem witness_TasksAreTaken :
    (∃ (s : State) (z : State) (t : Nat) (n : NibNo) (k : Task), z = s.advance t ∧ z.array.nibs[n].fenced = false ∧
      z.pick n = some k ∧ z.claimOf k = none ∧ z.array.poisoned.find? k.reads = none) ∧
    (∃ (s : State) (z : State) (t : Nat) (n : NibNo), z = s.advance t ∧ z.array.nibs[n].fenced = true) ∧
    (∃ (s : State) (z : State) (t : Nat) (n : NibNo) (x : Task) (p : Task) (since : Nat), z = s.advance t ∧
      z.array.nibs[n].act = .running x since ∧ x.cls ≠ 0 ∧ z.array.nibs[n].parked = false ∧
      (([0, 1, 2, 3, 4] : List Nat).findSome? (fun d => z.array.head (n.val / 8 + d) 0 z.tick) = some p) ∧
      p.parkedBy = none ∧ z.claimOf p = none ∧ z.array.poisoned.find? p.reads = none ∧
      ((∀ d j, d < 5 → j < 8 → (vget z.array.nibs ((p.home + 32 - d) % 32 * 8 + j) {}).fenced = true ∨ (vget z.array.nibs ((p.home + 32 - d) % 32 * 8 + j) {}).act ≠ .free))) :=
  ⟨⟨withArr (sys []) fun a => { a with queue := [pn 3 9, pn 2 9, p0 1 10] }, _, 4000000000, 72, pn 2 9, rfl,
      by decide +kernel⟩,
    ⟨withArr (sys []) fun a => { a with queue := [pn 2 31], nibs := a.nibs.set 255 { fenced := true } }, _, 4000000000, 255,
      rfl, by decide +kernel⟩,
    ⟨withArr (sys []) fun a => { a with queue := [p0 1 10], nibs := vmapIdx (fun i x => if i = 72 then { act := .running (pn 2 9) 3 } else { x with fenced := true }) a.nibs },
      _, 4000000000, 72, pn 2 9, p0 1 10, 3, rfl, by decide +kernel, by decide +kernel, by decide +kernel, by decide +kernel,
      by decide +kernel, by decide +kernel, by decide +kernel, by intro d j hd hj; revert j; revert d; decide +kernel⟩⟩

/-- Its hypotheses are met, clause by clause. -/
theorem witness_ResultsRetire :
    (∃ (s : State) (z : State) (t : Nat) (n : NibNo) (k : Task) (since : Nat) (j : P0Job) (r : CopyResult) (e : List W32), z = s.advance t ∧ z.array.nibs[n].act = .running k since ∧ z.array.nibs[n].test = none ∧ k.cls = 0 ∧ k.dom = j.law ∧ k.seq = j.seq ∧ z.array.jobs = [j] ∧ z.array.opens = [] ∧ z.array.retire = [] ∧ j.law < 43 ∧ z.stamp ≤ j.deadline ∧ j.results = [r] ∧ r.err = some (trimErr e) ∧ j.agreed = none ∧ j.third = false) ∧
    (∃ (s : State) (z : State) (t : Nat) (n : NibNo) (k : Task) (since : Nat) (j : P0Job) (r : CopyResult) (e : List W32) (e' : List W32), z = s.advance t ∧ z.array.nibs[n].act = .running k since ∧ z.array.nibs[n].test = none ∧ k.cls = 0 ∧ k.dom = j.law ∧ k.seq = j.seq ∧ z.array.jobs = [j] ∧ z.array.opens = [] ∧ z.array.retire = [] ∧ j.law < 43 ∧ z.stamp ≤ j.deadline ∧ j.results = [r] ∧ r.err = some e' ∧ trimErr e ≠ e' ∧ j.agreed = none ∧ j.third = false) ∧
    (∃ (s : State) (z : State) (t : Nat) (n : NibNo) (k : Task) (o : Task) (since : Nat) (kern : Nat) (d : Option Nat), z = s.advance t ∧ z.array.nibs[n].act = .running k since ∧ z.array.nibs[n].test = none ∧ k.kind = .analytics kern d ∧ k.cls = 4 ∧ k.deadline = none ∧ z.array.jobs = [] ∧ z.array.opens = [o] ∧ z.array.retire = [] ∧ o.dom = k.dom ∧ o.seq = k.seq) ∧
    (∃ (s : State) (z : State) (t : Nat) (n : NibNo) (k : Task) (o : Task) (since : Nat) (which : Fin 26) (good : Bool), z = s.advance t ∧ z.array.nibs[n].act = .running k since ∧ z.array.nibs[n].test = none ∧ k.kind = .calibration which good ∧ k.cls = 4 ∧ k.deadline = none ∧ z.array.jobs = [] ∧ z.array.opens = [o] ∧ z.array.retire = [] ∧ o.dom = k.dom ∧ o.seq = k.seq) ∧
    (∃ (s : State) (z : State) (t : Nat) (j : P0Job), z = s.advance t ∧ z.array.jobs = [j] ∧ z.array.opens = [] ∧
      z.array.retire = [] ∧ j.law < 43 ∧ j.deadline < z.stamp) ∧
    (∃ (s : State) (z : State) (t : Nat) (k : Task) (kern : Nat) (d : Nat) (e : Option Nat), z = s.advance t ∧
      z.array.jobs = [] ∧ z.array.opens = [k] ∧ z.array.retire = [] ∧ k.kind = .analytics kern e ∧ k.deadline = some d ∧
      d < z.dlNow k.lineDl) ∧
    (∃ (s : State) (z : State) (t : Nat) (l : LawNo) (j : P0Job) (r : CopyResult) (w : Nat) (c : Nat) (a : Nat), z = s.advance t ∧ z.array.jobs = [j] ∧ j.law = l.val ∧ j.third = false ∧ j.results = [r] ∧ j.agreed = none ∧ (z.array.kernelW.getD (((z.recs 0x0501).findIdx? fun r => fld r 0 31 26 = l.val).getD 0) 0 = w) ∧ (((j.starts.find? fun p => p.1 = 3 - r.copy).orElse fun _ => j.starts.find? fun p => p.1 = r.copy) = some (c, a)) ∧ a + w < z.tick) ∧
    (∃ (s : State) (z : State) (t : Nat) (l : LawNo) (j : P0Job) (r : CopyResult) (w : Nat) (c : Nat) (a : Nat), z = s.advance t ∧ z.array.jobs = [j] ∧ j.law = l.val ∧ j.results = [r] ∧ (z.array.kernelW.getD (((z.recs 0x0501).findIdx? fun r => fld r 0 31 26 = l.val).getD 0) 0 = w) ∧ (((j.starts.find? fun p => p.1 = 3 - r.copy).orElse fun _ => j.starts.find? fun p => p.1 = r.copy) = some (c, a)) ∧ z.tick ≤ a + w) :=
  ⟨⟨withArr (let s := sys []; { s with carousel := { s.carousel with phase := 100 * arcUnits } }) fun a => { a with jobs := [job [{ copy := 1, nib := 9, err := some [5] }]], nibs := a.nibs.set 7 { act := .running (p0 2 0) 3 } },
      _, 4000000000, 7, p0 2 0, 3, job [{ copy := 1, nib := 9, err := some [5] }], { copy := 1, nib := 9, err := some [5] },
      [5, 0], rfl, by decide +kernel⟩,
    ⟨withArr (let s := sys []; { s with carousel := { s.carousel with phase := 100 * arcUnits } }) fun a => { a with jobs := [job [{ copy := 1, nib := 9, err := some [] }]], nibs := a.nibs.set 7 { act := .running (p0 2 0) 3 } },
      _, 4000000000, 7, p0 2 0, 3, job [{ copy := 1, nib := 9, err := some [] }], { copy := 1, nib := 9, err := some [] },
      [1], [], rfl, by decide +kernel⟩,
    ⟨withArr (sys []) fun a => { a with opens := [p4 none], nibs := a.nibs.set 7 { act := .running (p4 none) 3 } }, _,
      4000000000, 7, p4 none, p4 none, 3, 2, none, rfl, by decide +kernel⟩,
    ⟨withArr (sys []) fun a => { a with opens := [p4 none], nibs := a.nibs.set 7 { act := .running { p4 none with kind := .calibration 1 true } 3 } },
      _, 4000000000, 7, { p4 none with kind := .calibration 1 true }, p4 none, 3, 1, true, rfl, by decide +kernel⟩,
    ⟨withArr (let s := sys []; { s with carousel := { s.carousel with phase := 101 * arcUnits } }) fun a => { a with jobs := [job []] },
      _, 4000000000, job [], rfl, by decide +kernel⟩,
    ⟨withArr (sys []) fun a => { a with opens := [p4 (some 3999999999)] }, _, 4000000000, p4 (some 3999999999), 2,
      3999999999, none, rfl, by decide +kernel⟩,
    ⟨withArr (sys []) fun a => { a with jobs := [{ job [{ copy := 1, nib := 9, err := some [5] }] with starts := [(1, 3), (2, 3999999979)] }], kernelW := [20] },
      _, 4000000000, 3, { job [{ copy := 1, nib := 9, err := some [5] }] with starts := [(1, 3), (2, 3999999979)] },
      { copy := 1, nib := 9, err := some [5] }, 20, 2, 3999999979, rfl, by decide +kernel⟩,
    ⟨withArr (sys []) fun a => { a with jobs := [{ job [{ copy := 1, nib := 9, err := some [5] }] with starts := [(1, 3), (2, 3999999980)] }], kernelW := [20] },
      _, 4000000000, 3, { job [{ copy := 1, nib := 9, err := some [5] }] with starts := [(1, 3), (2, 3999999980)] },
      { copy := 1, nib := 9, err := some [5] }, 20, 2, 3999999980, rfl, by decide +kernel⟩⟩

/-- Its hypotheses are met, clause by clause. -/
theorem witness_ScrubsAndTests :
    (∃ (s : State) (z : State) (t : Nat) (a : Nat), z = s.advance t ∧ a < 0x1800000 ∧ z.array.written.1 ≠ z.tick ∧
      z.array.poisoned.contains (a / 8 * 8) = false) ∧
    (∃ (s : State) (z : State) (t : Nat) (a : Nat), z = s.advance t ∧ a < 0x1800000 ∧ z.array.written.1 ≠ z.tick) ∧
    (∃ (s : State) (z : State) (t : Nat) (a : Nat) (r : Nat × Nat), z = s.advance t ∧ a < 0x1800000 ∧
      z.array.written = (z.tick, [r]) ∧ r.1 ≤ a ∧ a < r.2) ∧
    (∃ (s : State) (z : State) (t : Nat) (c : Fin 2) (b : Nat), z = s.advance t ∧ b < dramBlocks ∧
      z.array.dramPoisoned.contains (c.val, b) = false) ∧
    (∃ (s : State) (z : State) (t : Nat) (b : Nat), z = s.advance t ∧ b < dramBlocks) ∧
    (∃ (s : State) (z : State) (t : Nat) (c : Fin 2) (b : Nat), z = s.advance t ∧ b < dramBlocks ∧
      z.array.dramNext = c.val * dramBlocks + b) ∧
    (∃ (s : State) (z : State) (t : Nat) (n : NibNo), z = s.advance t ∧ z.array.bistAt = none ∧
      ((∀ m : NibNo, z.array.nibs[m] = {})) ∧ z.array.bistNext = n.val) ∧
    (∃ (s : State) (z : State) (t : Nat) (b : Nat), z = s.advance t ∧ z.array.bistAt = some b ∧ z.time.clock < b + 15600000) ∧
    (∃ (s : State) (z : State) (t : Nat) (n : NibNo) (a : Nat), z = s.advance t ∧ z.array.nibs[n].act = .testing a) ∧
    (∃ (s : State) (z : State) (t : Nat) (n : NibNo) (a : Nat), z = s.advance t ∧ z.array.nibs[n].act = .testing a) :=
  ⟨⟨sys [], _, 4000000000, 0x17FFFFF, rfl, by decide +kernel⟩,
    ⟨sys [], _, 4000000000, 0, rfl, by decide +kernel⟩,
    ⟨withArr (sys []) fun a => { a with written := (4000000000, [(0, 64)]) }, _, 4000000000, 7, (0, 64), rfl,
      by decide +kernel⟩,
    ⟨sys [], _, 4000000000, 1, 0, rfl, by exact dram_pos, by decide +kernel⟩,
    ⟨sys [], _, 4000000000, 0, rfl, by exact dram_pos⟩,
    ⟨sys [], _, 4000000000, 0, 0, rfl, by exact dram_pos, by exact (Nat.zero_mul dramBlocks).symm⟩,
    ⟨withArr (sys []) fun a => { a with bistNext := 255 }, _, 4000000000, 255, rfl, by decide +kernel⟩,
    ⟨withArr (sys []) fun a => { a with bistAt := some 3984400001 }, _, 4000000000, 3984400001, rfl, by decide +kernel⟩,
    ⟨withArr (sys []) fun a => { a with nibs := a.nibs.set 0 { act := .testing 9 } }, _, 4000000000, 0, 9, rfl,
      by decide +kernel⟩,
    ⟨withArr (sys []) fun a => { a with nibs := a.nibs.set 255 { act := .testing 9 } }, _, 4000000000, 255, 9, rfl,
      by decide +kernel⟩⟩

/-- Its hypotheses are met, clause by clause. -/
theorem witness_LegsAreOff :
    (∃ (s : State) (z : State) (t : Nat) (n : LegNo) (k : Nat), z = s.advance t ∧ 10 ≤ k ∧ journals z.pair.st = false ∧
      (z.leg n.val).killed = false ∧
      (((z.leg n.val).st = .off ∨ (z.leg n.val).st = .switching ∨ (z.leg n.val).st = .inhibited))) ∧
    (∃ (s : State) (z : State) (t : Nat) (n : LegNo) (k : Nat), z = s.advance t ∧ 10 ≤ k ∧ z.holds = true ∧
      (z.leg n.val).killed = false ∧
      (((z.leg n.val).st = .off ∨ (z.leg n.val).st = .switching ∨ (z.leg n.val).st = .inhibited))) ∧
    (∃ (s : State) (z : State) (t : Nat) (n : LegNo) (k : Nat), z = s.advance t ∧
      (k < 10 ∨ z.decides = false ∨ (z.leg n.val).st = .unused ∨ (z.leg n.val).st = .idle ∨ (z.leg n.val).st = .faulted)) ∧
    (∃ (n : LegNo) (rb : Bool), Takes (.legFault n rb) fun z => ((z.leg n.val).st = .off ∨ (z.leg n.val).st = .switching ∨ (z.leg n.val).st = .inhibited)) ∧
    (∃ (s : State) (z : State) (t : Nat) (n : LegNo), z = s.advance t ∧ z.holds = true ∧
      (z.leg n.val).thirdDisagreement = true ∧ (z.leg n.val).killed = false ∧
      (((z.leg n.val).st = .off ∨ (z.leg n.val).st = .switching ∨ (z.leg n.val).st = .inhibited))) ∧
    (∃ (s : State) (z : State) (t : Nat) (n : LegNo), z = s.advance t ∧
      (z.holds = false ∨ (z.leg n.val).thirdDisagreement = false)) ∧
    (∃ (c : ConnNo) (n : LegNo), Asks c (dev 131 4 n.val) .execute (.legClear n) fun _ => True) ∧
    (∃ (s : State) (z : State) (t : Nat), z = s.advance t ∧ z.safety.legsPartner = false ∧ z.legs.legsOff = false ∧
      journals z.pair.st = false) ∧
    (∃ (s : State) (z : State) (t : Nat), z = s.advance t ∧ z.safety.legsPartner = false ∧ z.holds = true) ∧
    (∃ (side : Side), Takes (.legsOff side true) fun z => z.legs.legsOff = false) ∧
    (∃ (s : State) (z : State) (t : Nat), z = s.advance t ∧ z.safety.legsOwn = false ∧ z.legsWanted = true) ∧
    (∃ (s : State) (z : State) (t : Nat), z = s.advance t ∧ z.safety.legsPartner = true ∧ z.legs.offSides = (false, true) ∧
      z.legs.legsOff = true ∧ journals z.pair.st = false) ∧
    (Takes (.legsOff .partner false) fun z => z.legs.offSides.1 = true ∧ z.legs.legsOff = true) ∧
    (∃ (side : Side), Takes (.legsOff side false) fun z => ((side = .own ∧ z.legs.offSides.2 = false) ∨ (side = .partner ∧
      z.legs.offSides.1 = false)) ∧ z.legs.legsOff = true) :=
  ⟨⟨(sys plant).modLeg 0 fun x => { x with st := .switching, hi := true }, _, 4000000000, 0, 10, rfl, by decide +kernel⟩,
    ⟨inPair ((sys plant).modLeg 0 fun x => { x with st := .switching, hi := true }) .solo, _, 4000000000, 0, 10, rfl,
      by decide +kernel⟩,
    ⟨(sys plant).modLeg 127 fun x => { x with st := .off }, _, 4000000000, 127, 9, rfl, by decide +kernel⟩,
    ⟨1, true, takes ((sys plant).modLeg 1 fun x => { x with st := .inhibited }) 4000000000 (by decide +kernel)⟩,
    ⟨inPair ((sys plant).modLeg 1 fun x => { x with st := .switching, disagreeRun := 2, mismatch := true }) .holder, _,
      4000000000, 1, rfl, by decide +kernel⟩,
    ⟨(sys plant).modLeg 1 fun x => { x with st := .switching, disagreeRun := 3 }, _, 4000000000, 1, rfl, by decide +kernel⟩,
    ⟨3, 127, asks ((sys plant).modLeg 1 fun x => { x with st := .faulted }) 4000000000 .service (by decide +kernel) (by decide +kernel) (by decide +kernel)⟩,
    ⟨(sys plant).modLeg 0 fun x => { x with st := .switching, hi := true }, _, 4000000000, rfl, by decide +kernel⟩,
    ⟨inPair (sys plant) .holder, _, 4000000000, rfl, by decide +kernel⟩,
    ⟨.own, takes ((sys plant).modLeg 0 fun x => { x with st := .switching, hi := true }) 4000000000 (by decide +kernel)⟩,
    ⟨let s := (sys plant).modLeg 0 fun x => { x with st := .off }; { s with safety := { s.safety with netFault := true } },
      _, 4000000000, rfl, by decide +kernel⟩,
    ⟨let s := sys plant; { s with legs := { s.legs with legsOff := true, offSides := (false, true) }, safety := { s.safety with legsPartner := true } },
      _, 4000000000, rfl, by decide +kernel⟩,
    takes (let s := sys plant; { s with legs := { s.legs with legsOff := true, offSides := (true, true) }, safety := { s.safety with legsOwn := true } }) 4000000000 (by decide +kernel),
    ⟨.partner, takes (let s := sys plant; { s with legs := { s.legs with legsOff := true, offSides := (false, true) } }) 4000000000 (by decide +kernel)⟩⟩

/-- Its hypotheses are met, clause by clause. -/
theorem witness_NetsAndEdges :
    (∃ (s : State) (z : State) (t : Nat) (n : LegNo) (net : Net) (mV : Nat), z = s.advance t ∧ 850 < mV ∧
      z.pair.driving = true ∧ z.legs.legsOff = false ∧ z.safety.legsOwn = false ∧ z.legRole n.val ≠ 0 ∧
      z.legs.resolved.contains (n.val, net) = false ∧ z.legs.contended = [] ∧ z.pair.agree = none ∧ z.ident.pairPos = true) ∧
    (∃ (s : State) (z : State) (t : Nat) (n : LegNo) (net : Net) (mV : Nat), z = s.advance t ∧ 850 < mV ∧
      z.pair.driving = true ∧ z.legs.legsOff = false ∧ z.safety.legsOwn = false ∧ z.legRole n.val ≠ 0 ∧
      z.legs.resolved.contains (n.val, net) = false ∧ z.legs.contended ≠ [] ∧
      ((∀ x ∈ z.legs.contended, x.leg ≠ n.val ∨ x.net ≠ net)) ∧ z.pair.agree = none ∧ z.ident.pairPos = true) ∧
    (∃ (s : State) (z : State) (t : Nat) (n : LegNo) (net : Net) (mV : Nat), z = s.advance t ∧ 850 < mV ∧
      z.pair.driving = true ∧ z.legs.legsOff = false ∧ z.safety.legsOwn = false ∧ z.legRole n.val ≠ 0 ∧
      z.legs.resolved.contains (n.val, net) = false ∧ z.legs.contended = [] ∧ z.pair.agree = none ∧ z.ident.pairPos = false ∧
      z.startup.hdr.paired = true ∧ z.pair.st = .holder) ∧
    (∃ (s : State) (z : State) (t : Nat) (n : LegNo) (net : Net) (start : Nat), z = s.advance t ∧
      z.pair.agree = some (n.val, net, start) ∧ start ≤ z.time.clock ∧ z.time.clock < start + 400) ∧
    (∃ (s : State) (z : State) (t : Nat) (mV : Nat), z = s.advance t ∧ mV ≤ 850) ∧
    (∃ (s : State) (z : State) (t : Nat) (n : LegNo) (net : Net) (x : Contention), z = s.advance t ∧ z.legs.contended = [x] ∧
      x.leg = n.val ∧ x.net = net) ∧
    (∃ (s : State) (z : State) (t : Nat) (n : LegNo), z = s.advance t ∧ (z.leg n.val).st = .switching ∧
      (z.leg n.val).killed = false) ∧
    (∃ (s : State) (z : State) (t : Nat) (n : LegNo), z = s.advance t ∧
      ((z.leg n.val).st ≠ .switching ∨ (z.leg n.val).killed = true)) ∧
    (∃ (s : State) (z : State) (t : Nat) (n : LegNo) (c : LegCycle), z = s.advance t ∧ z.legDe n.val = true ∧
      (z.leg n.val).cycle = some c ∧ (z.leg n.val).st = .switching ∧ (z.leg n.val).hi = true) ∧
    (∃ (s : State) (z : State) (t : Nat), z = s.advance t) ∧
    (∃ (s : State) (z : State) (t : Nat) (k : SdckNo), z = s.advance t ∧ k.val < 8) :=
  ⟨⟨let s := sys plant; { s with pair := { s.pair with driving := true }, ident := { s.ident with pairPos := true } }, _,
      4000000000, 1, .hi, 851, rfl, by decide +kernel⟩,
    ⟨let s := sys plant; { s with pair := { s.pair with driving := true }, ident := { s.ident with pairPos := true }, legs := { s.legs with contended := [{ leg := 1, net := .lo, yieldStroke := none }] } },
      _, 4000000000, 1, .hi, 851, rfl, by decide +kernel⟩,
    ⟨let s := sys plant; { s with pair := { s.pair with driving := true, st := .holder }, startup := { s.startup with hdr := { paired := true } } },
      _, 4000000000, 1, .lo, 851, rfl, by decide +kernel⟩,
    ⟨let s := sys plant; { s with pair := { s.pair with driving := true, st := .holder, agree := some (1, .lo, 3999999601) } },
      _, 4000000000, 1, .lo, 3999999601, rfl, by decide +kernel⟩,
    ⟨sys [], _, 4000000000, 850, rfl, by decide +kernel⟩,
    ⟨let s := sys plant; { s with legs := { s.legs with contended := [{ leg := 1, net := .lo, yieldStroke := none }] } }, _,
      4000000000, 1, .lo, { leg := 1, net := .lo, yieldStroke := none }, rfl, by decide +kernel⟩,
    ⟨(sys plant).modLeg 0 fun x => { x with st := .switching, cycle := some { start := 127999999000, period := 200000 }, word := { on := 2 ^ 23, holdOff := false, loCut := 0 } },
      _, 4000000000, 0, rfl, by decide +kernel⟩,
    ⟨(sys plant).modLeg 0 fun x => { x with st := .off }, _, 4000000000, 0, rfl, by decide +kernel⟩,
    ⟨(sys plant).modLeg 0 fun x => { x with st := .switching, hi := true, cycle := some { start := 127999999000, period := 200000 } },
      _, 4000000000, 0, { start := 127999999000, period := 200000 }, rfl, by decide +kernel⟩,
    ⟨sys [], _, 4000000000, rfl⟩,
    ⟨sys [], _, 4000000000, 7, rfl, by decide +kernel⟩⟩

/-- Its hypotheses are met, clause by clause. -/
theorem witness_FeedbackAndLawClear :
    (∃ (s : State) (z : State) (t : Nat) (c : SdChan) (n : Nat), z = s.advance t ∧ 64 ≤ n ∧ z.laws.lost[c] = false) ∧
    (∃ (c : SdChan), Takes (.feedbackLost c) fun _ => True) ∧
    (∃ (s : State) (z : State) (t : Nat) (k : SdckNo) (o : ClockObs), z = s.advance t ∧ clockGone o = true ∧
      z.laws.clocks[k].lost = false) ∧
    (∃ (k : SdckNo), Takes (.clockLost k) fun _ => True) ∧
    (∃ (s : State) (z : State) (t : Nat) (k : SdckNo) (n : Nat), z = s.advance t ∧ 4 ≤ n ∧ z.laws.clocks[k].lost = true) ∧
    (∃ (c : ConnNo) (l : LawNo), Asks c (dev 132 4 l.val) .execute (.lawClear l) fun z => (z.law l.val).st = .stopped ∧
      (∀ x ∈ (z.law l.val).causes, z.causeHolds (z.law l.val) (z.lawGroup l.val) x = false)) ∧
    (∃ (c : ConnNo) (l : LawNo), Asks c (dev 132 4 l.val) .execute (.lawClear l) fun z => (z.law l.val).st ≠ .stopped) :=
  ⟨⟨inPair (let s := sys plant; { s with laws := { s.laws with laws := vmapIdx (fun i (x : Law) => if i = 0 then { x with st := .running } else x) s.laws.laws } }) .solo,
      _, 4000000000, 2, 64, rfl, by decide +kernel⟩,
    ⟨2, takes (let s := sys plant; { s with laws := { s.laws with laws := vmapIdx (fun i (x : Law) => if i = 0 then { x with st := .running } else x) s.laws.laws } }) 4000000000 (by decide +kernel)⟩,
    ⟨let s := sys plant; { s with carousel := { s.carousel with started := true, setA := { valid := true } } }, _,
      4000000000, 14, .frequency 4899, rfl, by decide +kernel⟩,
    ⟨0, takes (let s := sys plant; { s with laws := { s.laws with laws := vmapIdx (fun i (x : Law) => if i = 0 then { x with st := .running } else x) s.laws.laws } }) 4000000000 (by decide +kernel)⟩,
    ⟨let s := sys plant; { s with laws := { s.laws with clocks := s.laws.clocks.set 15 { lost := true } } }, _, 4000000000,
      15, 4, rfl, by decide +kernel⟩,
    ⟨3, 0, asks (let s := sys plant; { s with laws := { s.laws with laws := vmapIdx (fun i (x : Law) => if i = 0 then { x with st := .stopped, causes := [.frozen], trips := 2 } else x) s.laws.laws } }) 4000000000 .service (by decide +kernel) (by decide +kernel) (by decide +kernel)⟩,
    ⟨3, 0, asks (sys plant) 4000000000 .service (by decide +kernel) (by decide +kernel) (by decide +kernel)⟩⟩

/-- Its hypotheses are met, clause by clause. -/
theorem witness_DemandsAndReactions :
    (∃ (s : State) (z : State) (t : Nat), z = s.advance t ∧ z.powerDie = true) ∧
    (∃ (s : State) (z : State) (t : Nat), z = s.advance t ∧ z.powerDie = true ∧ z.safety.disagreed = true ∧
      z.safety.netFault = false ∧ z.safety.legsOwn = false) ∧
    (∃ (s : State) (z : State) (t : Nat) (i : SiNo) (f : FnRec), z = s.advance t ∧ z.powerDie = true ∧
      z.fnOfInput i.val = some f ∧ f.kind ≠ 3 ∧ ((∀ g ∈ z.safeFns, g.num = f.num → g = f)) ∧
      (z.safeIn i.val).demand = false ∧ (z.safeIn i.val).level = false ∧ (z.safeIn i.val).run = 200 ∧
      (z.safeIn i.val).fault = none ∧ z.safety.legsOwn = false) ∧
    (∃ (s : State) (z : State) (t : Nat) (i : SiNo) (f : FnRec), z = s.advance t ∧ z.powerDie = true ∧
      z.fnOfInput i.val = some f ∧ f.two = false ∧ ((∀ g ∈ z.safeFns, g.num = f.num → g = f)) ∧
      (z.safeIn i.val).demand = true ∧ (z.safeIn i.val).level = true ∧ (z.safeIn i.val).run = 200 ∧
      (z.safeFn f.num).demand = true ∧ (z.safeFn f.num).forced = false ∧ (z.safeFn f.num).weld = false ∧
      (z.safeFn f.num).asked = false) :=
  ⟨⟨safeSys (inAt 1 { ownSamples := 40, missRun := 1 }), _, 4000000000, rfl, by decide +kernel⟩,
    ⟨safeSys fun x => { x with disagreed := true }, _, 4000000000, rfl, by decide +kernel⟩,
    ⟨safeSys (inAt 1 { run := 200 }), _, 4000000000, 1, fnOf sect 0, rfl, by decide +kernel⟩,
    ⟨safeSys (inAt 2 { run := 200, level := true, demand := true } ∘ fnAt 2 { demand := true }), _, 4000000000, 2,
      fnOf sect 1, rfl, by decide +kernel⟩⟩

/-- Its hypotheses are met, clause by clause. -/
theorem witness_FaultyChannels :
    (∃ (s : State) (z : State) (t : Nat) (i : SiNo) (f : FnRec), z = s.advance t ∧ z.powerDie = true ∧
      z.fnOfInput i.val = some f ∧ (z.safeIn i.val).demand = false ∧ (z.safeIn i.val).fault = none ∧ f.two = true ∧
      ((∃ j ∈ f.chans, j ≠ i.val ∧ (z.safeIn j).fault = none)) ∧ z.degradeMin ≠ 0 ∧ (z.safeFn f.num).degraded = false ∧
      2 ≤ (z.safeIn i.val).missRun) ∧
    (∃ (s : State) (z : State) (t : Nat) (i : SiNo) (f : FnRec), z = s.advance t ∧ z.powerDie = true ∧
      z.fnOfInput i.val = some f ∧ (z.safeIn i.val).demand = false ∧ (z.safeIn i.val).fault = none ∧
      ((f.two = false ∨ z.degradeMin = 0)) ∧ 2 ≤ (z.safeIn i.val).foreignRun) ∧
    (∃ (s : State) (z : State) (t : Nat) (fn : FuncNo) (f : FnRec), z = s.advance t ∧ z.powerDie = true ∧
      z.fnRec fn.val = some f ∧ f.two = true ∧ f.siB < 32 ∧ z.fnOfInput f.siB = some f ∧ (z.safeIn f.siA).demand = true ∧
      (z.safeIn f.siA).fault = none ∧ (z.safeIn f.siB).demand = false ∧ (z.safeIn f.siB).fault = none ∧
      (z.safeIn f.siA).since + f.disc * ticksPerMs < z.time.clock) ∧
    (∃ (s : State) (z : State) (t : Nat) (fn : FuncNo) (f : FnRec), z = s.advance t ∧ z.fnRec fn.val = some f ∧ f.two = false) ∧
    (∃ (s : State) (z : State) (t : Nat) (i : SiNo), z = s.advance t ∧ z.powerDie = true ∧ (z.safeIn i.val).fault ≠ none ∧
      (z.safeIn i.val).demand = false ∧ 10 ≤ (z.safeIn i.val).passRun) ∧
    (∃ (s : State) (z : State) (t : Nat) (fn : FuncNo) (f : FnRec), z = s.advance t ∧ z.powerDie = true ∧
      z.fnRec fn.val = some f ∧ (z.safeFn fn.val).degraded = true ∧ (z.safeFn fn.val).forced = false ∧
      ((∃ j ∈ f.chans, (z.safeIn j).fault ≠ none ∧ (z.safeIn j).repaired = false)) ∧
      z.degradeMin * 60 * ticksPerSec < z.degradedTicks fn.val) :=
  ⟨⟨safeSys (inAt 1 { missRun := 2 }), _, 4000000000, 1, fnOf sect 0, rfl, by decide +kernel⟩,
    ⟨safeSys (inAt 2 { foreignRun := 2 }), _, 4000000000, 2, fnOf sect 1, rfl, by decide +kernel⟩,
    ⟨safeSys (inAt 0 { demand := true, since := 3995999999 }), _, 4000000000, 0, fnOf sect 0, rfl, by decide +kernel⟩,
    ⟨safeSys id, _, 4000000000, 2, fnOf sect 1, rfl, by decide +kernel⟩,
    ⟨safeSys (inAt 2 { fault := some 1, passRun := 10 }), _, 4000000000, 2, rfl, by decide +kernel⟩,
    ⟨safeSys (inAt 0 { fault := some 1 } ∘ fnAt 0 { degraded := true, minutes := 2, minuteAt := 3999999999 }), _,
      4000000000, 0, fnOf sect 0, rfl, by decide +kernel⟩⟩

/-- Its hypotheses are met, clause by clause. -/
theorem witness_ResetAndWeld :
    (∃ (s : State) (z : State) (t : Nat) (i : SiNo) (rise : Nat) (fall : Nat) (f : FnRec), z = s.advance t ∧
      z.powerDie = true ∧ (z.safeIn i.val).press = some (rise, fall) ∧ rise + 100 * ticksPerMs ≤ fall ∧
      fall ≤ rise + 3000 * ticksPerMs ∧ f ∈ z.safeFns ∧ f.reset = i.val ∧ ((∀ g ∈ z.safeFns, g.num = f.num → g = f)) ∧
      f.manual = true ∧ f.kind ≠ 3 ∧ (z.safeFn f.num).demand = true ∧ (z.safeFn f.num).forced = false ∧
      (z.safeFn f.num).weld = false ∧ (z.safeFn f.num).asked = false ∧ ((∀ j ∈ f.chans, (z.safeIn j).demand = false ∧
      (z.safeIn j).fault = none ∧ (z.safeIn j).since < rise))) ∧
    (∃ (s : State) (z : State) (t : Nat) (i : SiNo) (rise : Nat) (fall : Nat), z = s.advance t ∧
      (z.safeIn i.val).press = some (rise, fall) ∧ ((fall < rise + 100 * ticksPerMs ∨ rise + 3000 * ticksPerMs < fall))) ∧
    (∃ (s : State) (z : State) (t : Nat) (i : SiNo) (rise : Nat), z = s.advance t ∧
      (z.safeIn i.val).press.map (·.1) ≠ some rise) ∧
    (∃ (c : ConnNo) (fn : FuncNo) (f : FnRec), Asks c (dev 138 4 fn.val) .execute (.acknowledge fn) fun z => z.fnRec fn.val = some f ∧ f.reset = 63 ∧ (∀ j ∈ f.chans, (z.safeIn j).fault = none ∨ (z.safeIn j).repaired = true)) ∧
    (∃ (c : ConnNo) (fn : FuncNo) (f : FnRec), Asks c (dev 138 4 fn.val) .execute (.acknowledge fn) fun z => z.fnRec fn.val = some f ∧ f.reset ≠ 63) ∧
    (∃ (s : State) (z : State) (t : Nat) (fn : FuncNo) (f : FnRec), z = s.advance t ∧ z.powerDie = true ∧
      z.fnRec fn.val = some f ∧ f.kind = 3 ∧ (z.safeIn f.siA).level = false ∧
      (z.safeIn f.siA).levelAt + f.weld * ticksPerMs ≤ z.time.clock ∧ (vget z.safety.outs f.soRef {}).on = false ∧
      (vget z.safety.outs f.soRef {}).at_ + f.weld * ticksPerMs ≤ z.time.clock) :=
  ⟨⟨safeSys (fnAt 0 { demand := true } ∘ inAt 0 { since := 3958999999 } ∘ inAt 1 { since := 0 } ∘ inAt 5 { press := some (3959999000, 3999999000) }),
      _, 4000000000, 5, 3959999000, 3999999000, fnOf sect 0, rfl, by decide +kernel⟩,
    ⟨safeSys (inAt 5 { press := some (2000, 1200002001) }), _, 4000000000, 5, 2000, 1200002001, rfl, by decide +kernel⟩,
    ⟨safeSys id, _, 4000000000, 5, 7, rfl, by decide +kernel⟩,
    ⟨6, 2, fnOf sect 1, asks (safeSys (inAt 2 { fault := some 0, repaired := true } ∘ fnAt 2 { forced := true, demand := true })) 4000000000 .safety (by decide +kernel) (by decide +kernel) (by decide +kernel)⟩,
    ⟨6, 0, fnOf sect 0, asks (safeSys id) 4000000000 .safety (by decide +kernel) (by decide +kernel) (by decide +kernel)⟩,
    ⟨safeSys fun x => inAt 3 { levelAt := 3992000000 } { x with outs := vmapIdx (fun i (y : SafeOut) => if i = 0 then { y with on := false, req := false, at_ := 3992000000 } else y) x.outs },
      _, 4000000000, 9, fnOf sect 2, rfl, by decide +kernel⟩⟩

/-- Its hypotheses are met, clause by clause. -/
theorem witness_OutputsAndOrphanMode :
    (∃ (s : State) (z : State) (t : Nat) (ns : List FuncNo) (f : FnRec) (n : FuncNo), z = s.advance t ∧
      z.startup.mode = .service ∧ z.powerDie = true ∧ f ∈ z.safeFns ∧ n ∈ ns ∧ n.val = f.num ∧
      ((∀ g ∈ z.safeFns, g.num = f.num → g = f)) ∧ (z.safeFn f.num).demand = false) ∧
    (∃ (s : State) (z : State) (t : Nat), z = s.advance t ∧ z.startup.mode = .service ∧ z.powerDie = true) ∧
    (∃ (s : State) (z : State) (t : Nat) (n : SoNo), z = s.advance t ∧ z.powerDie = true ∧ z.darkNow n.val = true) ∧
    (∃ (s : State) (z : State) (t : Nat) (n : SoNo), z = s.advance t ∧ z.powerDie = true ∧ z.darkNow n.val = false) ∧
    (∃ (s : State) (z : State) (t : Nat) (n : SoNo), z = s.advance t ∧ z.powerDie = true ∧ z.darkNow n.val = true ∧
      z.safety.outs[n].faulty = false) ∧
    (∃ (s : State) (z : State) (t : Nat) (n : SoNo) (mA : Nat), z = s.advance t ∧ z.powerDie = true ∧
      z.safety.outs[n].on = true ∧ z.safety.outs[n].faulty = false ∧ 700 < mA) ∧
    (∃ (s : State) (z : State) (t : Nat) (mA : Nat), z = s.advance t ∧ mA ≤ 700) ∧
    (∃ (s : State) (z : State) (t : Nat), z = s.advance t ∧ z.startup.mode = .service ∧ z.powerDie = true) ∧
    (∃ (s : State) (z : State) (t : Nat) (a : Nat), z = s.advance t ∧ z.safety.beatAt = some a ∧ z.powerDie = true ∧
      z.safety.orphan = none ∧ a + 500 * ticksPerUs < z.time.clock) ∧
    (∃ (s : State) (z : State) (t : Nat) (a : Nat), z = s.advance t ∧ z.safety.beatAt = some a ∧
      z.time.clock ≤ a + 500 * ticksPerUs) ∧
    (∃ (s : State) (z : State) (t : Nat) (a : Nat), z = s.advance t ∧ z.safety.orphan = some a ∧ z.safety.orphanAct = false ∧
      z.safety.orphanOut = false ∧ z.powerDie = true ∧ a + z.orphanS < z.time.clock) :=
  ⟨⟨safeSys fun x => { x with divergences := 2 }, _, 4000000000, [2], fnOf sect 1, 2, rfl, by decide +kernel⟩,
    ⟨safeSys (fnAt 2 { demand := true, asked := true }), _, 4000000000, rfl, by decide +kernel⟩,
    ⟨safeSys fun x => { x with dieAt := 3950000000 }, _, 4000000000, 1, rfl, by decide +kernel⟩,
    ⟨safeSys fun x => { x with dieAt := 3949879999 }, _, 4000000000, 1, rfl, by decide +kernel⟩,
    ⟨safeSys fun x => { x with dieAt := 3949880000 }, _, 4000000000, 1, rfl, by decide +kernel⟩,
    ⟨safeSys id, _, 4000000000, 1, 701, rfl, by decide +kernel⟩,
    ⟨safeSys id, _, 4000000000, 700, rfl, by decide +kernel⟩,
    ⟨safeSys fun x => { x with orphan := some 5, orphanOut := true }, _, 4000000000, rfl, by decide +kernel⟩,
    ⟨safeSys fun x => { x with beatAt := some 3999799999 }, _, 4000000000, 3999799999, rfl, by decide +kernel⟩,
    ⟨safeSys fun x => { x with beatAt := some 3999800000 }, _, 4000000000, 3999800000, rfl, by decide +kernel⟩,
    ⟨safeSys fun x => { x with orphan := some 799999999 }, _, 4000000000, 799999999, rfl, by decide +kernel⟩⟩

set_option maxRecDepth 100000 in
/-- Hypotheses met: SafetyChanges, clause 1. -/
theorem witness_SafetyChanges_1 : ∃ (c : ConnNo) (pw : List Byte) (crc : W32) (h : Nat), Asks c (dev 138 5 0) .execute (.safetyChange pw (.newSection crc h)) fun z => z.changeRefused = false ∧ z.safety.password = some (passwordHash pw) :=
  ⟨6, [1], 7, 8, asks (safeSys fun x => { x with password := some (passwordHash [1]) }) 4000000000 .safety (by decide +kernel) (⟨by decide +kernel, by rfl⟩) (⟨by decide +kernel, by rfl⟩)⟩

set_option maxRecDepth 100000 in
/-- Hypotheses met: SafetyChanges, clause 3. -/
theorem witness_SafetyChanges_3 : ∃ (c : ConnNo) (pw : List Byte) (h : Nat) (ch : SafetyChange), Asks c (dev 138 5 0) .execute (.safetyChange pw ch) fun z => z.changeRefused = false ∧ z.safety.password = some h ∧ passwordHash pw ≠ h :=
  ⟨6, [1], passwordHash [1] + 1, .newSection 0 0, asks (safeSys fun x => { x with password := some (passwordHash [1] + 1), wrong := [3999999999, 3999999998, 3999999997, 3760000000000] }) 4000000000 .safety (by decide +kernel) (⟨by decide +kernel, by rfl, by omega⟩) (⟨by decide +kernel, by rfl, by omega⟩)⟩

/-- Its hypotheses are met, clause by clause. -/
theorem witness_SafetyChanges :
    (∃ (c : ConnNo) (pw : List Byte) (p : List Byte), Asks c (dev 138 5 0) .execute (.safetyChange pw (.password p)) fun z => z.changeRefused = false ∧ (z.safety.password = none ∨ z.safety.password = some (passwordHash pw)) ∧ goodPassword p = true) ∧
    (∃ (c : ConnNo) (pw : List Byte) (ch : SafetyChange), Asks c (dev 138 5 0) .execute (.safetyChange pw ch) fun z => z.changeRefused = true) ∧
    (∃ (s : State) (z : State) (t : Nat) (e : Nat), z = s.advance t ∧ z.safety.refusedUntil = some e ∧ e ≤ z.time.clock) :=
  ⟨⟨6, [], List.replicate 64 0x7E, asks (safeSys id) 4000000000 .safety (by decide +kernel) (by decide +kernel) (by decide +kernel)⟩,
    ⟨6, [], .newSection 0 0, asks (safeSys fun x => { x with refusedUntil := some 4000000001 }) 4000000000 .safety (by decide +kernel) (by decide +kernel) (by decide +kernel)⟩,
    ⟨safeSys fun x => { x with refusedUntil := some 4000000000 }, _, 4000000000, 4000000000, rfl, by decide +kernel⟩⟩

/-- Its hypotheses are met, clause by clause. -/
theorem witness_InkIsWritten :
    (∃ (s : State) (z : State) (t : Nat) (i : JugIn) (a : Alloc), z = s.advance t ∧ z.startup.mode = .service ∧
      z.carousel.running = true ∧ z.juggler.latch = some i ∧ z.juggler.pointDone = false ∧ z.pair.diverge = none ∧
      z.juggler.pencil = some a ∧ z.policy.tightened i z.jugInputs = []) ∧
    (∃ (s : State) (z : State) (t : Nat) (i : JugIn) (a : Alloc), z = s.advance t ∧ z.startup.mode = .service ∧
      z.carousel.running = true ∧ z.juggler.latch = some i ∧ z.juggler.pointDone = false ∧ z.pair.diverge = none ∧
      z.juggler.pencil = some a ∧ z.policy.tightened i z.jugInputs ≠ []) ∧
    (∃ (s : State) (z : State) (t : Nat) (i : JugIn), z = s.advance t ∧ z.startup.mode = .service ∧
      z.carousel.running = true ∧ z.juggler.latch = some i ∧ z.juggler.pointDone = false ∧ z.pair.diverge = none ∧
      z.juggler.pencil = none) ∧
    (∃ (s : State) (z : State) (t : Nat) (i : JugIn) (a : Alloc) (d : Diverge), z = s.advance t ∧ z.startup.mode = .service ∧
      z.carousel.running = true ∧ z.juggler.latch = some i ∧ z.juggler.pointDone = false ∧ z.pair.diverge = some d ∧
      z.juggler.pencil = some a ∧ z.policy.tightened i z.jugInputs = []) ∧
    (∃ (x : InkVals) (a : Alloc), Takes (.ink x) fun z => z.juggler.nextInk = some a ∧ z.pair.diverge.isSome = true) ∧
    (∃ (s : State) (z : State) (t : Nat), z = s.advance t ∧ z.juggler.pointDone = true) :=
  ⟨⟨withJug (let s := sys (car :: site); { s with carousel := { s.carousel with running := true } }) fun j => { j with latch := some (sys (car :: site)).jugInputs, pencil := some { clamp := true } },
      _, 4000000000, (sys (car :: site)).jugInputs, { clamp := true }, rfl, by decide +kernel⟩,
    ⟨withJug (let s := sys (car :: site); { s with carousel := { s.carousel with running := true } }) fun j => { j with latch := some { (sys (car :: site)).jugInputs with importKw := 200 }, pencil := some {} },
      _, 4000000000, { (sys (car :: site)).jugInputs with importKw := 200 }, {}, rfl, by decide +kernel⟩,
    ⟨withJug (let s := sys (car :: site); { s with carousel := { s.carousel with running := true } }) fun j => { j with latch := some (sys (car :: site)).jugInputs },
      _, 4000000000, (sys (car :: site)).jugInputs, rfl, by decide +kernel⟩,
    ⟨withJug (let s := sys (car :: site); { s with carousel := { s.carousel with running := true }, pair := { s.pair with st := .holder, diverge := some { started := 3, inked := false, more := 0 } } }) fun j => { j with latch := some (sys (car :: site)).jugInputs, pencil := some { clamp := true } },
      _, 4000000000, (sys (car :: site)).jugInputs, { clamp := true }, { started := 3, inked := false, more := 0 }, rfl,
      by decide +kernel⟩,
    ⟨{ outlets := [(1, 2)], groups := [], afes := [] }, {}, takes (withJug (let s := sys (car :: site); { s with carousel := { s.carousel with running := true }, pair := { s.pair with st := .holder, diverge := some { started := 3, inked := false, more := 0 } } }) fun j => { j with nextInk := some {} }) 4000000000 (by decide +kernel)⟩,
    ⟨withJug (sys site) fun j => { j with pointDone := true }, _, 4000000000, rfl, by decide +kernel⟩⟩

/-- Its hypotheses are met, clause by clause. -/
theorem witness_CurtailmentSources :
    (∃ (c : ConnNo) (kw : Nat) (secs : Nat), Asks c (dev 133 4 0) .write (.curtailment kw secs) fun z => kw < 2 ^ 32 - 1 ∧
      secs < 2 ^ 32) ∧
    (∃ (c : ConnNo) (secs : Nat), Asks c (dev 133 4 0) .write (.curtailment (2 ^ 32 - 1) secs) fun z => secs < 2 ^ 32) ∧
    (∃ (k : CanNo) (v : BitVec 64), Met (.gridCommand k v) (fun _ => True) fun z => z.policy.curtCanEn = true ∧
      k.val = z.policy.curtCan ∧ v.toNat / 256 % 256 = 1 ∧ v.toNat / 2 ^ 32 ≠ 2 ^ 32 - 1) ∧
    (∃ (k : CanNo) (v : BitVec 64), Takes (.gridCommand k v) fun z => (z.policy.curtCanEn = false ∨ k.val ≠ z.policy.curtCan ∨ v.toNat / 256 % 256 ≠ 1)) ∧
    (∃ (e : Nat), Met (.curtSilent .object) (fun z => z.startup.mode = .service ∧ z.juggler.curtObj.expiry = some e ∧
      e < z.time.clock ∧ z.juggler.curtObj.st ≠ .silent) fun z => z.juggler.curtObj.st ≠ .silent) ∧
    (∃ (e : Nat), Met (.curtSilent .can) (fun z => z.startup.mode = .service ∧ z.policy.curtCanEn = true ∧
      z.juggler.curtCan.expiry = some e ∧ e < z.time.clock ∧
      z.juggler.curtCan.st ≠ .silent) fun z => z.juggler.curtCan.st ≠ .silent) ∧
    (∃ (s : State) (z : State) (t : Nat) (e : Nat), z = s.advance t ∧ z.juggler.curtObj.expiry = some e ∧ z.time.clock ≤ e) :=
  ⟨⟨4, 2 ^ 32 - 2, 0, asks (sys site) 4000000000 .operator (by decide +kernel) (by decide +kernel) (by decide +kernel)⟩,
    ⟨4, 5, asks (sys site) 4000000000 .operator (by decide +kernel) (by decide +kernel) (by decide +kernel)⟩,
    ⟨2, BitVec.ofNat 64 (50 * 2 ^ 32 + 256), met (sys site) 4000000000 (by decide +kernel) (by decide +kernel) (by decide +kernel) (by decide +kernel) (by decide +kernel) (by decide +kernel)⟩,
    ⟨3, BitVec.ofNat 64 (50 * 2 ^ 32 + 256), takes (sys site) 4000000000 (by decide +kernel)⟩,
    ⟨3999999999, met (withJug (sys site) fun j => { j with curtObj := { st := .active, value := some 7, expiry := some 3999999999 } }) 4000000000 (by decide +kernel) (by decide +kernel) (by decide +kernel) (by decide +kernel) (by decide +kernel) (by decide +kernel)⟩,
    ⟨3999999999, met (withJug (sys site) fun j => { j with curtCan := { st := .active, value := some 7, expiry := some 3999999999 } }) 4000000000 (by decide +kernel) (by decide +kernel) (by decide +kernel) (by decide +kernel) (by decide +kernel) (by decide +kernel)⟩,
    ⟨withJug (sys site) fun j => { j with curtObj := { st := .active, value := some 7, expiry := some 4000000000 } }, _,
      4000000000, 4000000000, rfl, by decide +kernel⟩⟩

/-- Its hypotheses are met, clause by clause. -/
theorem witness_MatrixStates :
    (∃ (g : ConvNo) (st : BitVec 8) (o : BitVec 8) (q : BitVec 8), Met (.contactorStatus g (st ++ o ++ q ++ (st ^^^ o ^^^ q ^^^ 0xA5#8))) (fun _ => True) fun z => (z.matrix g.val).st = .closing ∧ st.toNat = 1 ∧ o.toNat = (z.matrix g.val).outlet ∧ q.toNat = (z.matrix g.val).seq) ∧
    (∃ (g : ConvNo) (st : BitVec 8) (o : BitVec 8) (q : BitVec 8), Met (.contactorStatus g (st ++ o ++ q ++ (st ^^^ o ^^^ q ^^^ 0xA5#8))) (fun _ => True) fun z => (z.matrix g.val).st = .opening ∧ st.toNat = 0 ∧ q.toNat = (z.matrix g.val).seq) ∧
    (∃ (g : ConvNo) (st : BitVec 8) (o : BitVec 8) (q : BitVec 8), Met (.contactorStatus g (st ++ o ++ q ++ (st ^^^ o ^^^ q ^^^ 0xA5#8))) (fun _ => True) fun z => ((z.matrix g.val).st = .attached ∨ (z.matrix g.val).st = .draining) ∧ (st.toNat = 0 ∨ st.toNat = 128 ∨ (st.toNat = 1 ∧ o.toNat ≠ (z.matrix g.val).outlet))) ∧
    (∃ (g : ConvNo) (st : BitVec 8) (o : BitVec 8) (q : BitVec 8) (k : BitVec 8), Met (.contactorStatus g (st ++ o ++ q ++ k)) (fun _ => True) fun z => k ≠ st ^^^ o ^^^ q ^^^ 0xA5#8) ∧
    (∃ (g : ConvNo), Met (.matrixTimeout g) (fun z => (z.matrix g.val).st = .closing ∨ (z.matrix g.val).st = .opening ∧
      (z.matrix g.val).cmdAt + z.policy.matrixTo < z.time.clock) fun z => z.matrixLate g.val = true) ∧
    (∃ (s : State) (z : State) (t : Nat) (g : ConvNo), z = s.advance t ∧
      ((z.matrix g.val).st = .free ∨ (z.matrix g.val).st = .mfault ∨ (z.matrix g.val).st = .closing ∧
      z.time.clock ≤ (z.matrix g.val).cmdAt + z.policy.matrixTo)) ∧
    (∃ (c : ConnNo) (g : ConvNo) (x : CtrStatus), Asks c (dev 133 3 g.val) .execute (.matrixClear g) fun z => (z.matrix g.val).st = .mfault ∧ (z.matrix g.val).status = some x ∧ x.state = 0 ∧ z.time.clock ≤ x.time + z.policy.matrixTo) ∧
    (∃ (c : ConnNo) (g : ConvNo), Asks c (dev 133 3 g.val) .execute (.matrixClear g) fun z => (z.matrix g.val).st ≠ .mfault) :=
  ⟨⟨15, 1, 64, 255, met (withJug (sys site) (matrixAt 15 { st := .closing, outlet := 64, seq := 255 })) 4000000000 (by decide +kernel) (by decide +kernel) (by decide +kernel) (by decide +kernel) (by decide +kernel) (by decide +kernel)⟩,
    ⟨0, 0, 0, 9, met (withJug (sys site) (matrixAt 0 { st := .opening, outlet := 64, seq := 9 })) 4000000000 (by decide +kernel) (by decide +kernel) (by decide +kernel) (by decide +kernel) (by decide +kernel) (by decide +kernel)⟩,
    ⟨1, 1, 63, 9, met (withJug (sys site) (matrixAt 1 { st := .attached, outlet := 64, seq := 9 })) 4000000000 (by decide +kernel) (by decide +kernel) (by decide +kernel) (by decide +kernel) (by decide +kernel) (by decide +kernel)⟩,
    ⟨1, 1, 63, 9, 0, met (sys site) 4000000000 (by decide +kernel) (by decide +kernel) (by decide +kernel) (by decide +kernel) (by decide +kernel) (by decide +kernel)⟩,
    ⟨1, met (withJug (sys site) (matrixAt 1 { st := .opening, outlet := 64, seq := 9, cmdAt := 3979999999 })) 4000000000 (by decide +kernel) (by decide +kernel) (by decide +kernel) (by decide +kernel) (by decide +kernel) (by decide +kernel)⟩,
    ⟨withJug (sys site) (matrixAt 1 { st := .mfault }), _, 4000000000, 1, rfl, by decide +kernel⟩,
    ⟨3, 1, { state := 0, outlet := 0, seq := 1, time := 3980000000 }, asks (withJug (sys site) (matrixAt 1 { st := .mfault, status := some { state := 0, outlet := 0, seq := 1, time := 3980000000 } })) 4000000000 .service (by decide +kernel) (by decide +kernel) (by decide +kernel)⟩,
    ⟨3, 1, asks (sys site) 4000000000 .service (by decide +kernel) (by decide +kernel) (by decide +kernel)⟩⟩

/-- Its hypotheses are met, clause by clause. -/
theorem witness_SensorsAndResiduals :
    (∃ (rs : List Nat) (n : Fin 32) (w : List W32) (r : Nat), Met (.aiSample rs) (fun _ => True) fun z => w ∈ z.recs 0x0704 ∧
      fld w 0 31 27 = n.val ∧ (∀ x ∈ z.recs 0x0704, fld x 0 31 27 = n.val → x = w) ∧ rs[n.val]? = some r ∧ r < 65536) ∧
    (∃ (s : State) (z : State) (t : Nat) (n : Fin 32) (g : Nat), z = s.advance t ∧ (z.sensor n.val).goodSince = some g ∧
      (z.sensor n.val).valid = false ∧ g + ticksPerSec ≤ z.time.clock) ∧
    (∃ (s : State) (z : State) (t : Nat) (n : Fin 32) (g : Nat), z = s.advance t ∧ (z.sensor n.val).goodSince = some g ∧
      z.time.clock < g + ticksPerSec) ∧
    (∃ (o : OutletNo) (k : Fin 4), Met (.dispTempStale o k) (fun z => (vget z.thermal.disp (4 * o.val + k.val) {}).valid = true ∧ (vget z.thermal.disp (4 * o.val + k.val) {}).at_ + ticksPerSec < z.time.clock) fun z => (vget z.thermal.disp (4 * o.val + k.val) {}).valid = true) ∧
    (∃ (s : State) (z : State) (t : Nat) (n : Fin 288) (r : Rat) (c : List W32) (a : Nat), z = s.advance t ∧ n.val < 32 ∧
      (z.sensor n.val).valid = true ∧
      z.residual (fld ((z.sensorRec n.val).getD []) 0 22 0) (z.sensorVal n.val) = some (r, c) ∧
      (z.sensor n.val).alarm = false ∧ (z.sensor n.val).outSince = some a ∧ a + residTime c ≤ z.time.clock) ∧
    (∃ (s : State) (z : State) (t : Nat) (n : Fin 288) (r : Rat) (c : List W32) (a : Nat), z = s.advance t ∧ n.val < 32 ∧
      (z.sensor n.val).valid = true ∧
      z.residual (fld ((z.sensorRec n.val).getD []) 0 22 0) (z.sensorVal n.val) = some (r, c) ∧
      (z.sensor n.val).alarm = true ∧ (z.sensor n.val).inSince = some a ∧ a + residTime c ≤ z.time.clock) ∧
    (∃ (s : State) (z : State) (t : Nat) (n : Fin 288) (k : Nat) (r : Rat) (c : List W32) (a : Nat), z = s.advance t ∧
      n.val = 32 + k ∧ (vget z.thermal.disp k {}).valid = true ∧
      z.residual (fld ((z.recAt 0x0801 31 25 (k / 4 + 1)).getD []) (3 + k % 4) 31 9) (((vget z.thermal.disp k {}).temp.getD 0 : Rat) / 16) = some (r, c) ∧ (vget z.thermal.disp k {}).alarm = false ∧ (vget z.thermal.disp k {}).outSince = some a ∧ a + residTime c ≤ z.time.clock) :=
  ⟨⟨[900], 0, words 4 [(2, 16, 100), (2, 0, 900)], 900, met (thermSys id) 4000000000 (by decide +kernel) (by decide +kernel) (by decide +kernel) (by decide +kernel) (by decide +kernel) (by decide +kernel)⟩,
    ⟨thermSys fun x => { x with sensors := x.sensors.set 0 { sampled := true, goodSince := some 3600000000 } }, _,
      4000000000, 0, 3600000000, rfl, by decide +kernel⟩,
    ⟨thermSys fun x => { x with sensors := x.sensors.set 0 { sampled := true, goodSince := some 3600000001 } }, _,
      4000000000, 0, 3600000001, rfl, by decide +kernel⟩,
    ⟨63, 3, met (thermSys fun x => { x with disp := x.disp.set 255 { valid := true, at_ := 3599999999 } }) 4000000000 (by decide +kernel) (by decide +kernel) (by decide +kernel) (by decide +kernel) (by decide +kernel) (by decide +kernel)⟩,
    ⟨thermSys fun x => { x with sensors := x.sensors.set 0 { valid := true, outSince := some 3960000000 } }, _, 4000000000,
      0,
      (thermSys fun x => { x with sensors := x.sensors.set 0 { valid := true, outSince := some 3960000000 } }).sensorVal 0 - tempVal (-64) 0,
      words 5 [(3, 16, 8), (3, 0, 1)], 3960000000, rfl, by decide +kernel, by decide +kernel, by rfl, by decide +kernel⟩,
    ⟨thermSys fun x => { x with sensors := x.sensors.set 0 { valid := true, alarm := true, inSince := some 3960000000 } },
      _, 4000000000, 0,
      (thermSys fun x => { x with sensors := x.sensors.set 0 { valid := true, alarm := true, inSince := some 3960000000 } }).sensorVal 0 - tempVal (-64) 0,
      words 5 [(3, 16, 8), (3, 0, 1)], 3960000000, rfl, by decide +kernel, by decide +kernel, by rfl, by decide +kernel⟩,
    ⟨thermSys fun x => { x with disp := x.disp.set 0 { valid := true, outSince := some 3960000000 } }, _, 4000000000, 32, 0,
      -tempVal (-64) 0, words 5 [(3, 16, 8), (3, 0, 1)], 3960000000, rfl, by decide +kernel⟩⟩

/-- Its hypotheses are met, clause by clause. -/
theorem witness_CoolingUnits :
    (∃ (n : Nat) (v : BitVec 64) (d : Dcu), Met (.dcuStatus n v) (fun _ => True) fun z => z.dcu n = some d ∧
      v.toNat / 256 % 256 = 1 ∧ v.toNat / 65536 % 256 ≠ 128) ∧
    (∃ (n : Nat) (v : BitVec 64) (d : Dcu), Met (.dcuStatus n v) (fun _ => True) fun z => z.dcu n = some d ∧
      d.silent = false ∧ v.toNat / 256 % 256 = 1 ∧ v.toNat / 65536 % 256 = 128) ∧
    (∃ (n : Nat) (d : Dcu), Met (.dcuSilent n) (fun z => z.dcu n = some d ∧ d.silent = false ∧
      d.lastAt + 500 * ticksPerMs < z.time.clock) fun z => z.dcu n = some d ∧ d.silent = false) ∧
    (∃ (s : State) (z : State) (t : Nat) (n : Nat) (d : Dcu), z = s.advance t ∧ z.dcu n = some d ∧
      z.time.clock ≤ d.lastAt + 500 * ticksPerMs) ∧
    (∃ (s : State) (z : State) (t : Nat) (c : ConnNo) (n : Nat), z = s.advance t ∧ Allowed z c .write (dev 134 1 0) ∧
      (n < z.thermal.folios.foldl (fun (a : Nat) f => a + f.nodes.length) 0)) ∧
    (∃ (s : State) (z : State) (t : Nat) (c : ConnNo) (n : Nat), z = s.advance t ∧ Allowed z c .write (dev 134 1 0) ∧
      (z.thermal.folios.foldl (fun (a : Nat) f => a + f.nodes.length) 0 ≤ n)) :=
  ⟨⟨3, BitVec.ofNat 64 (2 ^ 48 * 500 + 2 ^ 32 * 65535 + 256), { inst := 3, silent := true }, met (thermSys fun x => { x with dcus := [{ inst := 3, silent := true }] }) 4000000000 (by decide +kernel) (by decide +kernel) (by decide +kernel) (by decide +kernel) (by decide +kernel) (by decide +kernel)⟩,
    ⟨3, BitVec.ofNat 64 (2 ^ 48 * 500 + 128 * 65536 + 256), { inst := 3 }, met (thermSys fun x => { x with dcus := [{ inst := 3 }] }) 4000000000 (by decide +kernel) (by decide +kernel) (by decide +kernel) (by decide +kernel) (by decide +kernel) (by decide +kernel)⟩,
    ⟨3, { inst := 3, lastAt := 3799999999 }, met (thermSys fun x => { x with dcus := [{ inst := 3, lastAt := 3799999999 }] }) 4000000000 (by decide +kernel) (by decide +kernel) (by decide +kernel) (by decide +kernel) (by decide +kernel) (by decide +kernel)⟩,
    ⟨thermSys fun x => { x with dcus := [{ inst := 3, lastAt := 3800000000 }] }, _, 4000000000, 3,
      { inst := 3, lastAt := 3800000000 }, rfl, by decide +kernel⟩,
    ⟨thermSys id, _, 4000000000, 3, 0, rfl,
      by exact ⟨by decide +kernel, by decide +kernel, by decide +kernel, conn .service, by decide +kernel, by decide +kernel⟩,
      by decide +kernel⟩,
    ⟨thermSys id, _, 4000000000, 4, 1, rfl,
      by exact ⟨by decide +kernel, by decide +kernel, by decide +kernel, conn .operator, by decide +kernel, by decide +kernel⟩,
      by decide +kernel⟩⟩

/-- Its hypotheses are met, clause by clause. -/
theorem witness_TunnelFrames :
    (∃ (f : Tunnel) (o : OutletNo) (k : Nat) (n : Nat), Met (.vlink f) (fun z => z.tunnelOn f.port = true) fun z => FrameFor z f 1 (o.val + 1) ∧ (z.outletDisp (o.val + 1)).fresh f.seq = true ∧ f.vlinkPay = some (k, n)) ∧
    (∃ (f : Tunnel), Met (.vlink f) (fun z => z.tunnelOn f.port = true) fun z => f.crcOk = false) ∧
    (∃ (f : Tunnel), Met (.vlink f) (fun z => z.tunnelOn f.port = true) fun z => f.crcOk = true ∧ f.magic = 0x4842 ∧
      f.version = 1 ∧ f.typ = 1 ∧ f.lenOk = false) ∧
    (∃ (f : Tunnel) (o : OutletNo), Met (.vlink f) (fun z => z.tunnelOn f.port = true) fun z => FrameFor z f 1 (o.val + 1) ∧
      (z.outletDisp (o.val + 1)).fresh f.seq = false) ∧
    (∃ (s : State) (z : State) (t : Nat) (f : Tunnel), z = s.advance t ∧ z.tunnelOn f.port = false) ∧
    (∃ (f : Tunnel) (o : OutletNo) (h : HelloPay), Met (.hello f) (fun z => z.tunnelOn f.port = true) fun z => FrameFor z f 3 (o.val + 1) ∧ f.seq = 0 ∧ z.allFree (o.val + 1) = true ∧ f.helloPay = some h) ∧
    (∃ (f : Tunnel), Met (.hello f) (fun z => z.tunnelOn f.port = true) fun z => f.crcOk = true ∧ f.magic = 0x4842 ∧
      f.version = 1 ∧ f.typ = 3 ∧ f.lenOk = true ∧ f.dir = false ∧ z.outletOfDisp f.dispId = none ∧
      (∀ x ∈ z.barker.unknown, x.1 ≠ f.dispId)) :=
  ⟨⟨frame 1 5, 0, 1, 14, met (dispSys { high := some 37, seen := [37] }) 4000000000 (by decide +kernel) (by decide +kernel) (⟨by unfold FrameFor; decide +kernel, by decide +kernel⟩) (by decide +kernel) (by decide +kernel) (⟨by unfold FrameFor; decide +kernel, by decide +kernel⟩)⟩,
    ⟨{ frame 1 5 with words := (frame 1 5).words ++ [0] }, met (sys hub) 4000000000 (by decide +kernel) (by decide +kernel) (by decide +kernel) (by decide +kernel) (by decide +kernel) (by decide +kernel)⟩,
    ⟨{ frame 1 5 with extra := 1 }, met (sys hub) 4000000000 (by decide +kernel) (by decide +kernel) (by decide +kernel) (by decide +kernel) (by decide +kernel) (by decide +kernel)⟩,
    ⟨frame 1 5, 0, met (dispSys { high := some 38, seen := [38] }) 4000000000 (by decide +kernel) (by decide +kernel) (⟨by unfold FrameFor; decide +kernel, by decide +kernel⟩) (by decide +kernel) (by decide +kernel) (⟨by unfold FrameFor; decide +kernel, by decide +kernel⟩)⟩,
    ⟨sys hub, _, 4000000000, { frame 1 5 with port := 0 }, rfl, by decide +kernel⟩,
    ⟨frame 3 0, 0, { hwRev := 0, fwRev := 0, link := 0, channels := 1 }, met (dispSys { high := some 38, seen := [38], addr := some (8, 3599999999) }) 4000000000 (by decide +kernel) (by decide +kernel) (⟨by unfold FrameFor; decide +kernel, by decide +kernel⟩) (by decide +kernel) (by decide +kernel) (⟨by unfold FrameFor; decide +kernel, by decide +kernel⟩)⟩,
    ⟨frameFrom 79 3 0 8 (words 2 [(1, 16, 1)]), met (let s := sys hub; { s with barker := { s.barker with unknown := [(80, 9, 3999999999)] } }) 4000000000 (by decide +kernel) (by decide +kernel) (by decide +kernel) (by decide +kernel) (by decide +kernel) (by decide +kernel)⟩⟩

/-- Its hypotheses are met, clause by clause. -/
theorem witness_DispenserInputs :
    (∃ (f : Tunnel) (d : Dio) (o : OutletNo), Met (.dio f) (fun z => z.tunnelOn f.port = true) fun z => FrameFor z f 2 (o.val + 1) ∧ (z.outletDisp (o.val + 1)).fresh f.seq = true ∧ f.dioPay = some d) ∧
    (∃ (f : Tunnel) (d : Dio) (o : OutletNo), Met (.dio f) (fun z => z.tunnelOn f.port = true) fun z => FrameFor z f 2 (o.val + 1) ∧ (z.outletDisp (o.val + 1)).fresh f.seq = true ∧ f.dioPay = some d ∧ d.prox = 1 ∧ 1 ≤ d.pilot ∧ d.pilot ≤ 3 ∧ d.key = 0 ∧ z.allFree (o.val + 1) = true ∧ z.drained = false) ∧
    (∃ (f : Tunnel) (d : Dio) (o : OutletNo), Met (.dio f) (fun z => z.tunnelOn f.port = true) fun z => FrameFor z f 2 (o.val + 1) ∧ (z.outletDisp (o.val + 1)).fresh f.seq = true ∧ f.dioPay = some d ∧ (d.prox = 0 ∨ d.pilot = 0) ∧ d.key = 0) ∧
    (∃ (o : OutletNo) (x : Dio × Nat), Met (.dioPause o) (fun z => (z.outletDisp (o.val + 1)).dio = some x ∧
      (z.outletDisp (o.val + 1)).silent = false ∧
      x.2 + polDioPause (((ctxsOf (o.val + 1)).find? fun c => (z.bctx c).st.running).elim (z.rec1 0x0803) z.ctxPol) < z.time.clock) fun z => (z.outletDisp (o.val + 1)).dio = some x) ∧
    (∃ (o : OutletNo) (x : Dio × Nat) (c : Nat), Met (.dioEnd o) (fun z => (z.outletDisp (o.val + 1)).dio = some x ∧
      c ∈ ctxsOf (o.val + 1) ∧ (z.bctx c).st = .paused ∧
      x.2 + polDioEnd (z.ctxPol c) < z.time.clock) fun z => (z.outletDisp (o.val + 1)).dio = some x ∧
      c ∈ ctxsOf (o.val + 1) ∧ (z.bctx c).st = .paused ∧ (z.bctx c).stopped = false ∧
      x.2 + polDioEnd (z.ctxPol c) < z.time.clock) ∧
    (∃ (s : State) (z : State) (t : Nat) (o : OutletNo), z = s.advance t ∧ (z.outletDisp (o.val + 1)).dio = none) :=
  ⟨⟨frame 2 6, { dioOf 1 0 with temps := [none, none, none, none] }, 0, met (dispSys { high := some 5, seen := [5], silent := true }) 4000000000 (by decide +kernel) (by decide +kernel) (⟨by unfold FrameFor; decide +kernel, by decide +kernel⟩) (by decide +kernel) (by decide +kernel) (⟨by unfold FrameFor; decide +kernel, by decide +kernel⟩)⟩,
    ⟨frameOf 2 6 12 (dioPayload 3 1), { dioOf 3 1 with temps := [none, none, none, none] }, 0, met (dispSys { high := some 5, seen := [5], silent := true }) 4000000000 (by decide +kernel) (by decide +kernel) (⟨by unfold FrameFor; decide +kernel, by decide +kernel⟩) (by decide +kernel) (by decide +kernel) (⟨by unfold FrameFor; decide +kernel, by decide +kernel⟩)⟩,
    ⟨frame 2 6, { dioOf 1 0 with temps := [none, none, none, none] }, 0, met (ctxSys { st := .setup }) 4000000000 (by decide +kernel) (by decide +kernel) (⟨by unfold FrameFor; decide +kernel, by decide +kernel⟩) (by decide +kernel) (by decide +kernel) (⟨by unfold FrameFor; decide +kernel, by decide +kernel⟩)⟩,
    ⟨0, (dioOf 1 1, 3799999999), met ((ctxSys { st := .delivering }).modDisp 1 fun _ => { dio := some (dioOf 1 1, 3799999999) }) 4000000000 (by decide +kernel) (by decide +kernel) (by decide +kernel) (by decide +kernel) (by decide +kernel) (by decide +kernel)⟩,
    ⟨0, (dioOf 1 1, 3199999999), 0, met ((ctxSys { st := .paused, causes := [2] }).modDisp 1 fun _ => { dio := some (dioOf 1 1, 3199999999), silent := true }) 4000000000 (by decide +kernel) (by decide +kernel) (by decide +kernel) (by decide +kernel) (by decide +kernel) (by decide +kernel)⟩,
    ⟨sys hub, _, 4000000000, 63, rfl, by decide +kernel⟩⟩

/-- Its hypotheses are met, clause by clause. -/
theorem witness_DispenserOutputs :
    (∃ (s : State) (z : State) (t : Nat) (o : OutletNo), z = s.advance t ∧ z.startup.mode = .service ∧
      (z.outletDisp (o.val + 1)).admitted = true ∧ (z.outletDisp (o.val + 1)).sent = none) ∧
    (∃ (s : State) (z : State) (t : Nat) (o : OutletNo) (a : Nat), z = s.advance t ∧ z.startup.mode = .service ∧
      (z.outletDisp (o.val + 1)).admitted = true ∧ (z.outletDisp (o.val + 1)).sent = some (z.dioOut (o.val + 1), a) ∧
      a + 100 * ticksPerMs ≤ z.time.clock) ∧
    (∃ (s : State) (z : State) (t : Nat) (o : OutletNo) (a : Nat), z = s.advance t ∧
      (z.outletDisp (o.val + 1)).sent = some (z.dioOut (o.val + 1), a) ∧ z.time.clock < a + 100 * ticksPerMs) ∧
    (∃ (s : State) (z : State) (t : Nat), z = s.advance t ∧ z.startup.mode = .service) ∧
    (∃ (s : State) (z : State) (t : Nat) (o : OutletNo) (r : List W32), z = s.advance t ∧ z.startup.mode = .service ∧
      z.dispRec (o.val + 1) = some r ∧ ((∃ c ∈ ctxsOf (o.val + 1), (z.bctx c).st = .setup))) ∧
    (∃ (s : State) (z : State) (t : Nat) (now : Nat) (x : CertExpiry) (k : Nat), z = s.advance t ∧ z.wallSec = some now ∧
      z.startup.mode = .service ∧ z.barker.certDay ≠ some (now / 86400) ∧ z.certs[x.entry]? = some k ∧
      fld (z.rec1 0x0802) k 31 28 ≤ 1 ∧ x.expiry ≤ now + 30 * 86400) ∧
    (∃ (s : State) (z : State) (t : Nat) (now : Nat), z = s.advance t ∧ z.wallSec = some now ∧
      z.barker.certDay = some (now / 86400)) :=
  ⟨⟨(sys hub).modDisp 64 fun _ => { admitted := true, textSeq := 65535 }, _, 4000000000, 63, rfl, by decide +kernel⟩,
    ⟨(sys hub).modDisp 64 fun _ => { admitted := true, sent := some (((sys hub).modDisp 64 fun _ => { admitted := true }).dioOut 64, 3960000000) },
      _, 4000000000, 63, 3960000000, rfl, by decide +kernel⟩,
    ⟨(sys hub).modDisp 64 fun _ => { admitted := true, sent := some (((sys hub).modDisp 64 fun _ => { admitted := true }).dioOut 64, 3960000001) },
      _, 4000000000, 63, 3960000001, rfl, by decide +kernel⟩,
    ⟨sys hub, _, 4000000000, rfl, by decide +kernel⟩,
    ⟨ctxSys { st := .setup }, _, 4000000000, 0, words 7 [(0, 25, 1), (0, 19, 7), (2, 0, 77)], rfl, by decide +kernel⟩,
    ⟨let s := sys hub; { s with wall := { half := 1700000000 * 2000000000, valid := true } }, _, 4000000000, 1700000000,
      { entry := 0, expiry := 1700000000 + 30 * 86400 }, 1, rfl, by decide +kernel⟩,
    ⟨let s := sys hub; { s with wall := { half := 1700000000 * 2000000000, valid := true }, barker := { s.barker with certDay := some (1700000000 / 86400) } },
      _, 4000000000, 1700000000, rfl, by decide +kernel⟩⟩

/-- Its hypotheses are met, clause by clause. -/
theorem witness_VehicleAuthorisation :
    (∃ (s : State) (z : State) (t : Nat) (c : CtxNo) (l : List (Fin 4)) (tls : Bool) (q : Nat), z = s.advance t ∧
      z.startup.mode = .service ∧ (z.bctx c.val).st = .setup ∧ (z.bctx c.val).protocol = 0 ∧
      z.chooseProtocol (ctxOutlet c.val) (z.rec1 0x0803) l tls = some q) ∧
    (∃ (s : State) (z : State) (t : Nat) (c : CtxNo) (id : IdKind) (ok : Bool), z = s.advance t ∧ z.startup.mode = .service ∧
      (z.bctx c.val).st = .setup ∧ (z.bctx c.val).protocol ≠ 0 ∧ z.authorise c.val id ok = .granted) ∧
    (∃ (s : State) (z : State) (t : Nat) (c : CtxNo) (id : IdKind) (ok : Bool), z = s.advance t ∧ z.startup.mode = .service ∧
      (z.bctx c.val).st = .setup ∧ (z.bctx c.val).protocol ≠ 0 ∧ z.authorise c.val id ok = .ongoing) ∧
    (∃ (s : State) (z : State) (t : Nat) (c : CtxNo) (id : IdKind) (ok : Bool), z = s.advance t ∧ z.startup.mode = .service ∧
      (z.bctx c.val).st = .setup ∧ (z.bctx c.val).protocol ≠ 0 ∧ (z.bctx c.val).stopped = false ∧
      z.authorise c.val id ok = .refused) ∧
    (∃ (s : State) (z : State) (t : Nat) (c : CtxNo), z = s.advance t ∧ z.startup.mode = .service ∧
      (z.bctx c.val).st.running = true ∧ (z.bctx c.val).stopped = false) ∧
    (∃ (s : State) (z : State) (t : Nat) (c : CtxNo), z = s.advance t ∧
      ((z.bctx c.val).st = .free ∨ (z.bctx c.val).st = .closing ∨ z.startup.mode ≠ .service)) ∧
    (∃ (s : State) (z : State) (t : Nat) (c : CtxNo) (d : CtxNo), z = s.advance t ∧ d ≠ c ∧ (z.bctx d.val).st ≠ .free ∧
      (((z.bctx d.val).st = .setup → (z.bctx d.val).plugAt ≠ z.time.clock))) :=
  ⟨⟨ctxSys { st := .setup }, _, 4000000000, 0, [1, 2], true, 2, rfl, by decide +kernel⟩,
    ⟨ctxSys { st := .setup, protocol := 2 }, _, 4000000000, 0, .eim, false, rfl, by decide +kernel⟩,
    ⟨let s := ctxSys { st := .setup, protocol := 2 }; { s with startup := { s.startup with hdr := { prepay := true } }, scribe := { s.scribe with open_ := true } },
      _, 4000000000, 0, .eim, false, rfl, by decide +kernel⟩,
    ⟨ctxSys { st := .setup, protocol := 2 }, _, 4000000000, 0, .pnc, true, rfl, by decide +kernel⟩,
    ⟨ctxSys { st := .paused }, _, 4000000000, 0, rfl, by decide +kernel⟩,
    ⟨sys hub, _, 4000000000, 127, rfl, by decide +kernel⟩,
    ⟨(ctxSys { st := .delivering }).modCtx 1 fun _ => { st := .checks }, _, 4000000000, 1, 0, rfl, by decide +kernel⟩⟩

/-- Its hypotheses are met, clause by clause. -/
theorem witness_VehicleDelivery :
    (∃ (s : State) (z : State) (t : Nat) (c : CtxNo), z = s.advance t ∧ z.startup.mode = .service ∧
      (z.bctx c.val).st = .checks) ∧
    (∃ (s : State) (z : State) (t : Nat) (c : CtxNo), z = s.advance t ∧ z.startup.mode = .service ∧
      (z.bctx c.val).st = .checks ∧ (z.bctx c.val).phase = .discovery ∧ z.insulationAlarm (ctxOutlet c.val) = false) ∧
    (∃ (s : State) (z : State) (t : Nat) (c : CtxNo), z = s.advance t ∧ z.startup.mode = .service ∧
      (z.bctx c.val).st = .checks ∧ (z.bctx c.val).ccOk = true) ∧
    (∃ (s : State) (z : State) (t : Nat) (c : CtxNo), z = s.advance t ∧ z.startup.mode = .service ∧
      (z.bctx c.val).st = .checks ∧ (z.bctx c.val).ccOk = true ∧ z.pauseCauses (ctxOutlet c.val) = []) ∧
    (∃ (s : State) (z : State) (t : Nat) (c : CtxNo), z = s.advance t ∧ z.startup.mode = .service ∧
      (z.bctx c.val).st = .delivering) ∧
    (∃ (s : State) (z : State) (t : Nat) (c : CtxNo), z = s.advance t ∧ z.startup.mode = .service ∧
      (z.bctx c.val).st = .paused) ∧
    (∃ (s : State) (z : State) (t : Nat) (c : CtxNo), z = s.advance t ∧ z.startup.mode = .service ∧
      (z.bctx c.val).st = .delivering ∧ (z.bctx c.val).stopped = false ∧ z.creditOut c.val = false) :=
  ⟨⟨ctxSys { st := .checks, ccOk := true }, _, 4000000000, 0, rfl, by decide +kernel⟩,
    ⟨ctxSys { st := .checks, phase := .discovery, evMax := (8000, 4000, none) }, _, 4000000000, 0, rfl, by decide +kernel⟩,
    ⟨ctxSys { st := .checks, phase := .cable, ccOk := true }, _, 4000000000, 0, rfl, by decide +kernel⟩,
    ⟨ctxSys { st := .checks, phase := .precharge, ccOk := true }, _, 4000000000, 0, rfl, by decide +kernel⟩,
    ⟨ctxSys { st := .delivering, phase := .delivering, protocol := 3 }, _, 4000000000, 0, rfl, by decide +kernel⟩,
    ⟨ctxSys { st := .paused, phase := .delivering, protocol := 3, req := (5, 6, 7) }, _, 4000000000, 0, rfl,
      by decide +kernel⟩,
    ⟨ctxSys { st := .delivering, phase := .delivering, protocol := 3, req := (5, 6, 7) }, _, 4000000000, 0, rfl,
      by decide +kernel⟩⟩

/-- Its hypotheses are met, clause by clause. -/
theorem witness_SessionTimers :
    (∃ (c : CtxNo), Met (.seccTimeout c) (fun z => (z.bctx c.val).st.running = true) fun z => (z.bctx c.val).st.running = true ∧ (z.bctx c.val).stopped = false) ∧
    (∃ (c : CtxNo), Met (.authWait c) (fun z => (z.bctx c.val).st = .auth ∧
      (z.bctx c.val).authAt + polAuthWait (z.ctxPol c.val) < z.time.clock) fun z => (z.bctx c.val).st = .auth ∧
      (z.bctx c.val).stopped = false ∧ (∀ id, (z.bctx c.val).ident = some id → z.authorise c.val id true ≠ .granted)) ∧
    (∃ (s : State) (z : State) (t : Nat) (c : CtxNo), z = s.advance t ∧ (z.bctx c.val).st = .auth ∧
      z.time.clock ≤ (z.bctx c.val).authAt + polAuthWait (z.ctxPol c.val)) ∧
    (∃ (c : CtxNo), Met (.pauseMax c) (fun z => (z.bctx c.val).st = .paused ∧
      (z.bctx c.val).pausedAt + polPauseMax (z.ctxPol c.val) < z.time.clock) fun z => (z.bctx c.val).st = .paused ∧
      (z.bctx c.val).stopped = false ∧ z.pauseCauses (ctxOutlet c.val) ≠ []) ∧
    (∃ (s : State) (z : State) (t : Nat) (c : CtxNo) (a : Nat), z = s.advance t ∧ (z.bctx c.val).st = .checks ∧
      (z.bctx c.val).phase = .cable ∧ (z.bctx c.val).ccOk = false ∧ z.insulationAlarm (ctxOutlet c.val) = false ∧
      (z.bctx c.val).ccSince = some a ∧ a + polCcHold (z.ctxPol c.val) ≤ z.time.clock ∧
      (max (z.outletVoltage (ctxOutlet c.val)) (z.ccVoltage c.val) - min (z.outletVoltage (ctxOutlet c.val)) (z.ccVoltage c.val)) * 256 ≤ z.ccVoltage c.val * polCcTol (z.ctxPol c.val)) ∧
    (∃ (s : State) (z : State) (t : Nat) (c : CtxNo), z = s.advance t ∧ (z.bctx c.val).st = .checks ∧
      (z.bctx c.val).phase = .cable ∧ (z.bctx c.val).ccOk = false ∧ z.insulationAlarm (ctxOutlet c.val) = false ∧
      z.ccVoltage c.val * polCcTol (z.ctxPol c.val) < (max (z.outletVoltage (ctxOutlet c.val)) (z.ccVoltage c.val) - min (z.outletVoltage (ctxOutlet c.val)) (z.ccVoltage c.val)) * 256) ∧
    (∃ (s : State) (z : State) (t : Nat) (c : CtxNo), z = s.advance t ∧ (z.bctx c.val).st = .ending ∧
      (z.bctx c.val).deliver = true ∧ z.outletCurrent (ctxOutlet c.val) * 10 < z.policy.iOpen) :=
  ⟨⟨0, met (ctxSys { st := .setup }) 4000000000 (by decide +kernel) (by decide +kernel) (by decide +kernel) (by decide +kernel) (by decide +kernel) (by decide +kernel)⟩,
    ⟨0, met (let s := ctxSys { st := .auth, ident := some .eim }; { s with time := { s.time with clock := 24000000001 }, startup := { s.startup with hdr := { prepay := true } }, scribe := { s.scribe with open_ := true } }) 24000000001 (by decide +kernel) (by decide +kernel) (⟨by decide +kernel, by decide +kernel, by intro id; cases id <;> decide +kernel⟩) (by decide +kernel) (by decide +kernel) (⟨by decide +kernel, by decide +kernel, by intro id; cases id <;> decide +kernel⟩)⟩,
    ⟨ctxSys { st := .auth, ident := some .eim, authAt := 4000000000 }, _, 4000000000, 0, rfl, by decide +kernel⟩,
    ⟨0, met ((ctxSys { st := .paused, pausedAt := 0, causes := [2] }).modDisp 1 fun _ => { silent := true }) 4000000001 (by decide +kernel) (by decide +kernel) (by decide +kernel) (by decide +kernel) (by decide +kernel) (by decide +kernel)⟩,
    ⟨live 0 { st := .checks, phase := .cable, ccSince := some 3960000000 }, _, 4000000000, 0, 3960000000, rfl,
      by decide +kernel⟩,
    ⟨ctxSys { st := .checks, phase := .cable, ccSince := some 3960000000 }, _, 4000000000, 0, rfl, by decide +kernel⟩,
    ⟨let s := ctxSys { st := .ending, deliver := true, endCause := 3 }; { s with startup := { s.startup with image := s.startup.image.map fun r => if r.typ = 0x0602 then { r with payload := words 132 [(3, 16, 1)] } else r } },
      _, 4000000000, 0, rfl, by decide +kernel⟩⟩

/-- Its hypotheses are met, clause by clause. -/
theorem witness_EnergyIsCounted :
    (∃ (s : State) (z : State) (t : Nat) (o : OutletNo) (w : List W32) (e : Rat) (q : Rat), z = s.advance t ∧
      z.scribe.open_ = true ∧ z.meterRec (o.val + 1) = some w ∧ (vget z.scribe.sums o.val {}).n ≠ 0 ∧
      (fld w 5 31 16 : Rat) / 10 ≤ (vget z.scribe.sums o.val {}).absI / (vget z.scribe.sums o.val {}).n ∧
      e = (vget z.scribe.sums o.val {}).vi * (64 / (z.mdFreq ((2 * (o.val + 1) - 2) / 16) w : Nat)) ∧
      q = (vget z.scribe.sums o.val {}).ii * (64 / (z.mdFreq ((2 * (o.val + 1) - 2) / 16) w : Nat)) ∧
      z.scribe.seal_ ≠ .broken ∧ 0 < e) ∧
    (∃ (s : State) (z : State) (t : Nat) (o : OutletNo) (w : List W32) (e : Rat), z = s.advance t ∧ z.scribe.open_ = true ∧
      z.meterRec (o.val + 1) = some w ∧ (vget z.scribe.sums o.val {}).n ≠ 0 ∧
      (fld w 5 31 16 : Rat) / 10 ≤ (vget z.scribe.sums o.val {}).absI / (vget z.scribe.sums o.val {}).n ∧
      e = (vget z.scribe.sums o.val {}).vi * (64 / (z.mdFreq ((2 * (o.val + 1) - 2) / 16) w : Nat)) ∧
      z.scribe.seal_ ≠ .broken ∧ e < 0) ∧
    (∃ (s : State) (z : State) (t : Nat) (o : OutletNo) (w : List W32) (e : Rat), z = s.advance t ∧ z.scribe.open_ = true ∧
      z.meterRec (o.val + 1) = some w ∧ (vget z.scribe.sums o.val {}).n ≠ 0 ∧
      (fld w 5 31 16 : Rat) / 10 ≤ (vget z.scribe.sums o.val {}).absI / (vget z.scribe.sums o.val {}).n ∧
      e = (vget z.scribe.sums o.val {}).vi * (64 / (z.mdFreq ((2 * (o.val + 1) - 2) / 16) w : Nat)) ∧
      z.scribe.seal_ = .broken ∧ 0 < e) ∧
    (∃ (s : State) (z : State) (t : Nat) (o : OutletNo), z = s.advance t ∧ z.scribe.open_ = true ∧
      (z.meterRec (o.val + 1) = none ∨ (vget z.scribe.sums o.val {}).n = 0)) ∧
    (∃ (s : State) (z : State) (t : Nat), z = s.advance t ∧ z.scribe.open_ = false ∧ z.holds = true) ∧
    (∃ (s : State) (z : State) (t : Nat), z = s.advance t ∧ z.scribe.open_ = false ∧ z.holds = false) ∧
    (∃ (m : Mark) (o : OutletNo), Takes (.mark m) fun z => (z.tok (o.val + 1)).holdDue = some none) :=
  ⟨⟨scribeSys (sums1 1 { n := 2, vi := 360000000000, ii := 90000000, absI := 20 }), _, 4000000000, 1,
      words 6 [(0, 25, 2), (5, 16, 5), (5, 0, 12800)], 360000000000 * (64 / (12800000 : Nat)),
      90000000 * (64 / (12800000 : Nat)), rfl, by decide +kernel⟩,
    ⟨scribeSys (sums1 1 { n := 2, vi := -360000000000, ii := 90000000, absI := 20 }), _, 4000000000, 1,
      words 6 [(0, 25, 2), (5, 16, 5), (5, 0, 12800)], -360000000000 * (64 / (12800000 : Nat)), rfl, by decide +kernel⟩,
    ⟨scribeSys fun x => { sums1 0 { n := 2, vi := 360000000000, ii := 90000000, absI := 20 } x with seal_ := .broken }, _,
      4000000000, 0, words 6 [(0, 25, 1), (5, 16, 5), (5, 0, 12800)], 360000000000 * (64 / (12800000 : Nat)), rfl,
      by decide +kernel⟩,
    ⟨scribeSys id, _, 4000000000, 5, rfl, by decide +kernel⟩,
    ⟨inPair (sys []) .holder, _, 4000000000, rfl, by decide +kernel⟩,
    ⟨sys [], _, 4000000000, rfl, by decide +kernel⟩,
    ⟨{ second := true, wallBoundary := false, freqs := [] }, 0, takes (tokSys { holdDue := some none }) 4000000000 (by decide +kernel)⟩⟩

/-- Its hypotheses are met, clause by clause. -/
theorem witness_SealAndTamper :
    (∃ (c : ConnNo), Asks c ({ a := 1, b := 0, c := 131, d := 1, e := 0, f := 255 }) .execute .seal fun z => z.ident.orderN = false ∧ z.startup.hdr.sealReq = true ∧ z.scribe.seal_ ≠ .sealed ∧ (z.ident.life = .commissioned ∨ z.ident.life = .service)) ∧
    (∃ (c : ConnNo), Asks c ({ a := 1, b := 0, c := 131, d := 1, e := 0, f := 255 }) .execute .seal fun z => (z.ident.orderN = true ∨ z.startup.hdr.sealReq = false ∨ z.scribe.seal_ = .sealed)) ∧
    (∃ (c : ConnNo), Asks c ({ a := 1, b := 0, c := 131, d := 2, e := 0, f := 255 }) .execute .sealBreak fun z => z.scribe.seal_ = .sealed ∧ z.ident.life = .commissioned) ∧
    (∃ (c : ConnNo), Asks c ({ a := 1, b := 0, c := 131, d := 2, e := 0, f := 255 }) .execute .sealBreak fun z => z.scribe.seal_ ≠ .sealed) ∧
    (∃ (s : State) (z : State) (t : Nat) (o : OutletNo) (w : List W32) (x : MeterObs), z = s.advance t ∧
      z.scribe.open_ = true ∧ z.meterRec (o.val + 1) = some w ∧ z.scribe.faulty[o] = false ∧ (((∃ n, x = .noTransition n ∧
      64 ≤ n) ∨ (∃ n, x = .saturated n ∧ 1000 ≤ n) ∨ (∃ n, x = .mdckLost (.noEdge n) ∧ 1000 ≤ n) ∨ (∃ n, x = .freqOff n ∧
      mdckOff (fld w 5 15 0) n = true)))) ∧
    (∃ (s : State) (z : State) (t : Nat) (o : OutletNo) (w : List W32), z = s.advance t ∧ z.scribe.open_ = true ∧
      z.meterRec (o.val + 1) = some w ∧ z.scribe.faulty[o] = true) ∧
    (∃ (i : Fin 4) (ms : Nat), Met (.tamperInput i true) (fun z => 10 ≤ ms ∧
      z.tamper.inputs[i] = false) fun z => z.tamper.inputs[i] = false ∧ z.scribe.open_ = true) ∧
    (∃ (i : Fin 4) (ms : Nat), Met (.tamperInput i false) (fun z => 10 ≤ ms ∧ z.tamper.inputs[i] = true) fun _ => True) ∧
    (∃ (s : State) (z : State) (t : Nat) (ms : Nat), z = s.advance t ∧ ms < 10) :=
  ⟨⟨5, asks (sealSys .commissioned .unsealed true) 4000000000 .metrology (by decide +kernel) (by decide +kernel) (by decide +kernel)⟩,
    ⟨5, asks (sealSys .commissioned .sealed true) 4000000000 .metrology (by decide +kernel) (by decide +kernel) (by decide +kernel)⟩,
    ⟨5, asks (sealSys .commissioned .sealed true) 4000000000 .metrology (by decide +kernel) (by decide +kernel) (by decide +kernel)⟩,
    ⟨5, asks (sealSys .service .broken true) 4000000000 .metrology (by decide +kernel) (by decide +kernel) (by decide +kernel)⟩,
    ⟨scribeSys id, _, 4000000000, 0, words 6 [(0, 25, 1), (5, 16, 5), (5, 0, 12800)], .noTransition 64, rfl,
      by decide +kernel, by decide +kernel, by decide +kernel, by exact Or.inl ⟨64, rfl, by decide⟩⟩,
    ⟨scribeSys fun x => { x with faulty := x.faulty.set 0 true }, _, 4000000000, 0,
      words 6 [(0, 25, 1), (5, 16, 5), (5, 0, 12800)], rfl, by decide +kernel⟩,
    ⟨3, 10, met (scribeSys id) 4000000000 (by decide +kernel) (by decide +kernel) (by decide +kernel) (by decide +kernel) (by decide +kernel) (by decide +kernel)⟩,
    ⟨0, 10, met (let s := sys []; { s with tamper := { s.tamper with inputs := s.tamper.inputs.set 0 true } }) 4000000000 (by decide +kernel) (by decide +kernel) (by decide +kernel) (by decide +kernel) (by decide +kernel) (by decide +kernel)⟩,
    ⟨sys [], _, 4000000000, 9, rfl, by decide +kernel⟩⟩

/-- Its hypotheses are met, clause by clause. -/
theorem witness_ReceiptsAndReadings :
    (∃ (s : State) (z : State) (t : Nat) (c : CtxNo) (r : Receipt), z = s.advance t ∧ z.buildingOf c.val = some r ∧
      z.pair.st = .holder ∧ r.counter = none ∧ MFlag.noCounter ∉ r.flags) ∧
    (∃ (c : CtxNo) (r : Receipt), Met (.noCounter c) (fun z => z.buildingOf c.val = some r ∧ z.solo = false ∧
      r.counter = none ∧ MFlag.noCounter ∉ r.flags ∧
      r.closedAt + ticksPerSec < z.time.clock) fun z => z.buildingOf c.val = some r ∧ z.solo = false ∧ r.counter = none ∧
      MFlag.noCounter ∉ r.flags) ∧
    (∃ (s : State) (z : State) (t : Nat) (c : CtxNo) (r : Receipt), z = s.advance t ∧ z.buildingOf c.val = some r ∧
      z.solo = false ∧ z.pair.st ≠ .standby ∧ z.signable r = true ∧ (z.useKey 4 .sign .scribe).1 = true) ∧
    (∃ (s : State) (z : State) (t : Nat) (c : CtxNo) (r : Receipt), z = s.advance t ∧ z.buildingOf c.val = some r ∧
      z.signable r = false) ∧
    (∃ (s : State) (z : State) (t : Nat) (c : ConnNo), z = s.advance t ∧
      Allowed z c .write { a := 1, b := 0, c := 131, d := 3, e := 0, f := 255 }) ∧
    (∃ (s : State) (z : State) (t : Nat) (r : OpeningRec), z = s.advance t ∧ r.verified = true ∧ r.hubId = z.ident.hubId ∧
      r.survivor = z.ident.serial) ∧
    (∃ (s : State) (z : State) (t : Nat) (r : OpeningRec), z = s.advance t ∧ r.verified = true ∧ r.hubId = z.ident.hubId ∧
      r.survivor ≠ z.ident.serial ∧ r.replacement = z.ident.serial ∧ z.scribe.open_ = false ∧
      z.scribe.core.time ≤ r.scribeTime) ∧
    (∃ (s : State) (z : State) (t : Nat) (r : OpeningRec), z = s.advance t ∧ r.verified = false) :=
  ⟨⟨receiptSys receipt0 .holder, _, 4000000000, 0, receipt0, rfl, by decide +kernel⟩,
    ⟨0, { receipt0 with closedAt := 3599999999 }, met (receiptSys { receipt0 with closedAt := 3599999999 } .pairing) 4000000000 (by decide +kernel) (by decide +kernel) (by decide +kernel) (by decide +kernel) (by decide +kernel) (by decide +kernel)⟩,
    ⟨receiptSys { receipt0 with counter := some (5, 6) } .holder, _, 4000000000, 0,
      { receipt0 with counter := some (5, 6) }, rfl, by decide +kernel⟩,
    ⟨receiptSys receipt0 .holder, _, 4000000000, 0, receipt0, rfl, by decide +kernel⟩,
    ⟨sys [], _, 4000000000, 4, rfl,
      by exact ⟨by decide +kernel, by decide +kernel, by decide +kernel, conn .operator, by decide +kernel, by decide +kernel⟩⟩,
    ⟨scribeSys id, _, 4000000000, opening0 0 9, rfl, by decide +kernel⟩,
    ⟨scribeSys fun x => { x with open_ := false }, _, 4000000000, opening0 9 0, rfl, by decide +kernel⟩,
    ⟨scribeSys id, _, 4000000000, { opening0 9 0 with verified := false }, rfl, by decide +kernel⟩⟩

/-- Its hypotheses are met, clause by clause. -/
theorem witness_TokensAndDisplays :
    (∃ (z : State) (l : List (Fin 10)) (v : Nat), v = decimal l ∧ v < 2 ^ 66 ∧
      (z.macOf (tokClass v) (tokId v) (tokBits v)).1 ≠ some (tokMac v)) ∧
    (∃ (z : State) (o : OutletNo), (4 ≤ ((z.tok (o.val + 1)).failures.filter fun x => z.scribe.core.time ≤ x + 600).length)) ∧
    (∃ (o : OutletNo), Met (.entryTimeout o) (fun z => (z.tok (o.val + 1)).buffer ≠ [] ∧
      (z.tok (o.val + 1)).lastPress + z.entryTo < z.time.clock) fun _ => True) ∧
    (∃ (o : OutletNo), Met (.outcomeTextExpiry o) (fun z => (z.tok (o.val + 1)).text ≠ .none ∧
      (z.tok (o.val + 1)).textAt + 10 * ticksPerSec < z.time.clock) fun _ => True) ∧
    (∃ (o : OutletNo) (x : Nat × Nat), Met (.changeDisplayTimeout o) (fun z => (z.tok (o.val + 1)).change = some x ∧
      x.2 + 1800 * ticksPerSec < z.time.clock) fun _ => True) ∧
    (∃ (s : State) (z : State) (t : Nat) (o : OutletNo), z = s.advance t ∧ (z.tok (o.val + 1)).change = none) ∧
    (∃ (s : State) (z : State) (t : Nat) (c : ConnNo) (n : Nat), z = s.advance t ∧ Allowed z c .write (dev 136 3 0) ∧
      n < 2 ^ 24) ∧
    (∃ (s : State) (z : State) (t : Nat) (c : ConnNo) (n : Nat), z = s.advance t ∧ Allowed z c .write (dev 136 3 0) ∧
      2 ^ 24 ≤ n) :=
  ⟨⟨sys hub, [1, 2, 3], 123, by decide +kernel⟩,
    ⟨tokSys { failures := [0, 0, 0, 0] }, 0, by decide +kernel⟩,
    ⟨0, met (tokSys { buffer := [1], lastPress := 0 }) 4000000001 (by decide +kernel) (by decide +kernel) (by decide +kernel) (by decide +kernel) (by decide +kernel) (by decide +kernel)⟩,
    ⟨0, met (tokSys { text := .invalid, textAt := 0 }) 4000000001 (by decide +kernel) (by decide +kernel) (by decide +kernel) (by decide +kernel) (by decide +kernel) (by decide +kernel)⟩,
    ⟨0, (12345, 0), met (let s := tokSys { change := some (12345, 0) }; { s with time := { s.time with clock := 720000000001 } }) 720000000001 (by decide +kernel) (by decide +kernel) (by decide +kernel) (by decide +kernel) (by decide +kernel) (by decide +kernel)⟩,
    ⟨tokSys {}, _, 4000000000, 0, rfl, by decide +kernel⟩,
    ⟨sys [], _, 4000000000, 4, 5, rfl,
      by exact ⟨by decide +kernel, by decide +kernel, by decide +kernel, conn .operator, by decide +kernel, by decide +kernel⟩,
      by decide +kernel⟩,
    ⟨sys [], _, 4000000000, 5, 16777216, rfl,
      by exact ⟨by decide +kernel, by decide +kernel, by decide +kernel, conn .metrology, by decide +kernel, by decide +kernel⟩,
      by decide +kernel⟩⟩

/-- Its hypotheses are met, clause by clause. -/
theorem witness_PumpsAndDiagnosis :
    (∃ (s : State) (z : State) (t : Nat) (p : PumpNo) (k : Fin 8) (ns : Nat), z = s.advance t ∧ 1000 ≤ ns ∧
      k ≠ (z.pump p.val).hall) ∧
    (∃ (s : State) (z : State) (t : Nat) (ns : Nat), z = s.advance t ∧ ns < 1000) ∧
    (∃ (s : State) (z : State) (t : Nat) (p : PumpNo) (ph : Fin 3) (ns : Nat) (w : List W32), z = s.advance t ∧
      z.pumpRec p.val = some w ∧ bit w 0 28 = false ∧ (z.pump p.val).st = .run ∧ 64000 ≤ ns ∧
      ((z.pump p.val).gates w z.time.clock ph.val).1 = false ∧ (z.pump p.val).hallAt ≠ z.time.clock) ∧
    (∃ (s : State) (z : State) (t : Nat) (p : PumpNo) (ns : Nat), z = s.advance t ∧
      (ns < 64000 ∨ (z.pump p.val).hallAt = z.time.clock)) ∧
    (∃ (s : State) (z : State) (t : Nat) (p : PumpNo) (mv : Nat), z = s.advance t ∧ (z.pump p.val).st = .run ∧ mv < 8000 ∧
      (z.pump p.val).bstAt.length < 7) ∧
    (∃ (s : State) (z : State) (t : Nat) (p : PumpNo) (w : List W32), z = s.advance t ∧ z.pumpRec p.val = some w ∧
      (z.pump p.val).st = .run ∧ (z.pump p.val).cmd < 2 / 100 ∧ (z.pump p.val).orphanHold = false ∧
      (z.pump p.val).dutyNow w z.time.clock = 0) ∧
    (∃ (x : Pump), (x.st ≠ .run ∨ commutation false x.hall.val = none)) ∧
    (∃ (s : State) (z : State) (t : Nat) (p : PumpNo) (w : List W32) (dv : Nat) (us : Nat), z = s.advance t ∧
      z.pumpRec p.val = some w ∧ (((z.pump p.val).st = .run ∨ (z.pump p.val).st = .diag)) ∧ 10 ≤ us ∧
      ((dv < fld w 3 31 16 ∨ fld w 3 15 0 < dv))) ∧
    (∃ (s : State) (z : State) (t : Nat) (p : PumpNo) (w : List W32) (dv : Nat) (ms : Nat), z = s.advance t ∧
      z.pumpRec p.val = some w ∧ (z.pump p.val).st = .vmHold ∧ 10 ≤ ms ∧ fld w 3 31 16 ≤ dv ∧ dv ≤ fld w 3 15 0) ∧
    (∃ (s : State) (z : State) (t : Nat) (p : PumpNo) (w : List W32) (o : DiagObs), z = s.advance t ∧
      z.pumpRec p.val = some w ∧ (z.pump p.val).st = .diag ∧ (z.pump p.val).diagFailed = none ∧
      (z.pump p.val).diagAt + 20 * ticksPerMs ≤ z.time.clock ∧ diagResult w o = .pass) ∧
    (∃ (s : State) (z : State) (t : Nat) (p : PumpNo) (w : List W32) (o : DiagObs), z = s.advance t ∧
      z.pumpRec p.val = some w ∧ (z.pump p.val).st = .diag ∧ (z.pump p.val).diagFailed = none ∧
      (z.pump p.val).diagAt + 20 * ticksPerMs ≤ z.time.clock ∧ diagResult w o ≠ .pass) ∧
    (∃ (w : List W32) (o : DiagObs), 100 * fld w 3 31 16 ≤ o.vm ∧ 8 * o.vm < 10 * max o.sink.1 (max o.sink.2.1 o.sink.2.2)) ∧
    (∃ (w : List W32) (o : DiagObs), 100 * fld w 3 31 16 ≤ o.vm ∧ 10 * max o.sink.1 (max o.sink.2.1 o.sink.2.2) ≤ 8 * o.vm ∧
      o.fromA.1 < 1000) ∧
    (∃ (s : State) (z : State) (t : Nat) (p : PumpNo) (a : Nat), z = s.advance t ∧ (z.pump p.val).st = .diag ∧
      (z.pump p.val).diagFailed = some a ∧ a + 10 * ticksPerSec < z.time.clock) ∧
    (∃ (s : State) (z : State) (t : Nat) (l : List (PumpState × Bool)) (r : List W32), z = s.advance t ∧
      z.recs 0x0705 = [r] ∧ fld r 0 31 29 ∉ z.drives.soloLoops ∧ loopPumps r ≠ [] ∧
      ((∀ n ∈ loopPumps r, pumpLost (l.getD n (.off, false)) = true))) ∧
    (∃ (s : State) (z : State) (t : Nat), z = s.advance t ∧ z.recs 0x0705 = []) :=
  ⟨⟨pumpSys {}, _, 4000000000, 0, 5, 1000, rfl, by decide +kernel⟩,
    ⟨pumpSys {}, _, 4000000000, 999, rfl, by decide +kernel⟩,
    ⟨pumpSys { st := .run, hall := 5 }, _, 4000000000, 0, 1, 64000, pumpW, rfl, by decide +kernel⟩,
    ⟨pumpSys { st := .run, hall := 5, hallAt := 4000000000 }, _, 4000000000, 0, 64000, rfl, by decide +kernel⟩,
    ⟨pumpSys { st := .run, hall := 5 }, _, 4000000000, 0, 7999, rfl, by decide +kernel⟩,
    ⟨pumpSys { st := .run, cmd := 0 }, _, 4000000000, 0, pumpW, rfl, by decide +kernel⟩,
    ⟨{ st := .run, hall := 7 }, by decide +kernel⟩,
    ⟨pumpSys { st := .run }, _, 4000000000, 0, pumpW, 159, 10, rfl, by decide +kernel⟩,
    ⟨pumpSys { st := .vmHold }, _, 4000000000, 0, pumpW, 160, 10, rfl, by decide +kernel⟩,
    ⟨pumpSys { st := .diag, diagAt := 3992000000 }, _, 4000000000, 0, pumpW,
      { vm := 20000, sink := (0, 0, 0), fromA := (2000, 2000, 2000), fromB := (2000, 2000) }, rfl, by decide +kernel⟩,
    ⟨pumpSys { st := .diag, diagAt := 3992000000 }, _, 4000000000, 0, pumpW,
      { vm := 20000, sink := (0, 16001, 0), fromA := (2000, 2000, 2000), fromB := (2000, 2000) }, rfl, by decide +kernel⟩,
    ⟨pumpW, { vm := 20000, sink := (0, 16001, 0), fromA := (2000, 2000, 2000), fromB := (2000, 2000) }, by decide +kernel⟩,
    ⟨pumpW, { vm := 20000, sink := (0, 0, 0), fromA := (999, 2000, 2000), fromB := (2000, 2000) }, by decide +kernel⟩,
    ⟨pumpSys { st := .diag, diagFailed := some 0 }, _, 4000000001, 0, 0, rfl, by decide +kernel⟩,
    ⟨pumpSys {}, _, 4000000000, [(.latched, false)], words 3 [(0, 29, 1), (0, 21, 1)], rfl, by decide +kernel⟩,
    ⟨sys [], _, 4000000000, rfl, by decide +kernel⟩⟩

/-- Its hypotheses are met, clause by clause. -/
theorem witness_PumpFaults :
    (∃ (s : State) (z : State) (t : Nat) (p : PumpNo) (w : List W32), z = s.advance t ∧ z.pumpRec p.val = some w ∧
      (z.pump p.val).st = .run ∧ commutation false (z.pump p.val).hall.val = none ∧
      max (z.pump p.val).hallAt (z.pump p.val).runAt + 10 * ticksPerMs < z.time.clock ∧
      0 < (z.pump p.val).dutyNow w z.time.clock ∧ (z.pump p.val).retries < pumpRetries w) ∧
    (∃ (s : State) (z : State) (t : Nat) (p : PumpNo) (w : List W32) (obs : List SenseObs), z = s.advance t ∧
      z.pumpRec p.val = some w ∧ (z.pump p.val).st = .run ∧
      ((∃ x ∈ obs, 3 * fld w 1 26 16 ≤ x.ua10 ∨ (fld w 1 26 16 ≤ x.ua10 ∧ 250 * fld w 1 31 27 ≤ x.onNs))) ∧
      (z.pump p.val).retries < pumpRetries w) ∧
    (∃ (s : State) (z : State) (t : Nat) (p : PumpNo) (w : List W32) (obs : List SenseObs), z = s.advance t ∧
      z.pumpRec p.val = some w ∧ (z.pump p.val).st = .run ∧
      ((∃ x ∈ obs, 3 * fld w 1 26 16 ≤ x.ua10 ∨ (fld w 1 26 16 ≤ x.ua10 ∧ 250 * fld w 1 31 27 ≤ x.onNs))) ∧
      pumpRetries w ≤ (z.pump p.val).retries) ∧
    (∃ (s : State) (z : State) (t : Nat) (p : PumpNo) (w : List W32) (obs : List SenseObs), z = s.advance t ∧
      z.pumpRec p.val = some w ∧ ((∀ x ∈ obs, x.ua10 < fld w 1 26 16 ∨ (x.ua10 < 3 * fld w 1 26 16 ∧
      x.onNs < 250 * fld w 1 31 27)))) ∧
    (∃ (s : State) (z : State) (t : Nat) (p : PumpNo) (w : List W32), z = s.advance t ∧ z.pumpRec p.val = some w ∧
      (z.pump p.val).st = .retryWait ∧ (z.pump p.val).waitAt + 200 * ticksPerMs < z.time.clock ∧
      (z.pump p.val).retries ≤ pumpRetries w) ∧
    (∃ (s : State) (z : State) (t : Nat) (p : PumpNo), z = s.advance t ∧ (z.pump p.val).st = .run ∧
      (z.pump p.val).runAt + 60 * ticksPerSec < z.time.clock) ∧
    (∃ (c : ConnNo) (p : PumpNo), Asks c (dev 139 3 p.val) .execute (.pumpClear p) fun z => (z.pump p.val).st = .latched) :=
  ⟨⟨pumpSys { st := .run, hall := 7, cmd := 1/2, duty := 1/2, target := 1/2 }, _, 4000000000, 0, pumpW, rfl,
      by decide +kernel⟩,
    ⟨pumpSys { st := .run }, _, 4000000000, 0, pumpW, [{ sw := 0, ua10 := 0, onNs := 9, atNs := 0 }], rfl,
      by decide +kernel⟩,
    ⟨pumpSys { st := .run, retries := 3 }, _, 4000000000, 0, pumpW, [{ sw := 5, ua10 := 9, onNs := 0, atNs := 0 }], rfl,
      by decide +kernel⟩,
    ⟨pumpSys { st := .run }, _, 4000000000, 0, pumpW, [], rfl, by decide +kernel⟩,
    ⟨pumpSys { st := .retryWait, retries := 1 }, _, 4000000000, 0, pumpW, rfl, by decide +kernel⟩,
    ⟨let s := pumpSys { st := .run, retries := 2 }; { s with time := { s.time with clock := 24000000001 } }, _, 24000000001,
      0, rfl, by decide +kernel⟩,
    ⟨3, 0, asks (pumpSys { st := .latched }) 4000000000 .service (by decide +kernel) (by decide +kernel) (by decide +kernel)⟩⟩

/-- Its hypotheses are met, clause by clause. -/
theorem witness_LoadSwitchesFollow :
    (∃ (s : State) (z : State) (t : Nat) (n : LsNo), z = s.advance t ∧ (z.ls n.val).st = .off ∧ (z.ls n.val).hot = false ∧
      z.lsLive = true ∧ ((lsPaired (z.lsRec n.val) = false ∨ z.ringEnable = true))) ∧
    (∃ (s : State) (z : State) (t : Nat) (n : LsNo), z = s.advance t ∧ (z.ls n.val).conducts = true) ∧
    (∃ (s : State) (z : State) (t : Nat) (n : LsNo) (pct : Nat), z = s.advance t ∧ (z.ls n.val).st = .turnOn ∧
      ((lsMode (z.lsRec n.val) ≠ 2 ∨ 95 ≤ pct))) ∧
    (∃ (s : State) (z : State) (t : Nat) (n : LsNo), z = s.advance t ∧ (z.ls n.val).st = .on ∧
      (z.ls n.val).cleanAt + fld (z.lsRec n.val) 1 8 1 * ticksPerSec < z.time.clock) ∧
    (∃ (c : ConnNo) (n : LsNo), Asks c (dev 140 1 n.val) .execute (.loadSwitchClear n) fun z => (z.ls n.val).st = .latched ∧
      z.lsCommanded n.val = false) ∧
    (∃ (s : State) (z : State) (t : Nat) (n : LsNo) (w : List W32), z = s.advance t ∧ z.timerRec n.val = some w ∧
      z.timerOn w = true ∧ fld w 0 15 0 ≠ 0 ∧
      ((if z.drives.timers[n].1 then 1 - z.timerDuty w else z.timerDuty w) * ticksPerSec ≤ ((z.time.clock - z.drives.timers[n].2) * fld w 0 15 0 : Nat))) ∧
    (∃ (s : State) (z : State) (t : Nat) (n : LsNo), z = s.advance t ∧ z.timerRec n.val = none) ∧
    (∃ (s : State) (z : State) (t : Nat) (n : LsNo) (k : Nat) (uA : Nat) (ms : Nat), z = s.advance t ∧
      olThreshold (z.lsRec n.val) .std = some k ∧ (z.ls n.val).st = .on ∧ 100 ≤ ms ∧ uA < k ∧ (z.ls n.val).olStd = false) ∧
    (∃ (s : State) (z : State) (t : Nat) (n : LsNo) (k : Nat) (uA : Nat) (ms : Nat), z = s.advance t ∧
      olThreshold (z.lsRec n.val) .fine = some k ∧ (z.ls n.val).st = .on ∧ 100 ≤ ms ∧ 11 * k < 10 * uA ∧
      (z.ls n.val).olFine = true) ∧
    (∃ (s : State) (z : State) (t : Nat) (g : VsNo) (mv : Nat) (us : Nat), z = s.advance t ∧ mv < 7000 ∧ 20 ≤ us ∧
      z.drives.groups[g].uv = false) ∧
    (∃ (s : State) (z : State) (t : Nat) (g : VsNo) (mv : Nat) (us : Nat), z = s.advance t ∧ 7600 < mv ∧ 1000 ≤ us ∧
      z.drives.groups[g].uv = true) :=
  ⟨⟨lsSys 2 {}, _, 4000000000, 2, rfl, by decide +kernel⟩,
    ⟨lsSys 2 { st := .on, input := true }, _, 4000000000, 2, rfl, by decide +kernel⟩,
    ⟨lsSys 4 { st := .turnOn, input := true }, _, 4000000000, 4, 95, rfl, by decide +kernel⟩,
    ⟨lsSys 2 { st := .on, input := true, cleanAt := 0, retries := 2 }, _, 4000000001, 2, rfl, by decide +kernel⟩,
    ⟨3, 2, asks (lsSys 2 { st := .latched, retries := 2 }) 4000000000 .service (by decide +kernel) (by decide +kernel) (by decide +kernel)⟩,
    ⟨lsSys 2 {}, _, 4000000000, 0, words 2 [(0, 24, 1), (0, 0, 100), (1, 16, 32768)], rfl, by decide +kernel⟩,
    ⟨lsSys 2 {}, _, 4000000000, 1, rfl, by decide +kernel⟩,
    ⟨lsSys 2 { st := .on, input := true }, _, 4000000000, 2, 50000, 49999, 100, rfl, by decide +kernel⟩,
    ⟨lsSys 3 { st := .on, input := true, olFine := true }, _, 4000000000, 3, 5000, 5501, 100, rfl, by decide +kernel⟩,
    ⟨lsSys 2 { st := .on, input := true }, _, 4000000000, 0, 6999, 20, rfl, by decide +kernel⟩,
    ⟨let s := lsSys 2 { st := .uvHold, input := true }; { s with drives := { s.drives with groups := vput s.drives.groups 0 { uv := true } } },
      _, 4000000000, 0, 7601, 1000, rfl, by decide +kernel⟩⟩

/-- Its hypotheses are met, clause by clause. -/
theorem witness_LoadSwitchFaults :
    (∃ (s : State) (z : State) (t : Nat) (n : LsNo) (x : LsSense) (v : Nat) (us : Nat), z = s.advance t ∧
      (z.ls n.val).conducts = true ∧ ¬((z.ls n.val).st = .turnOn ∧ lsMode (z.lsRec n.val) = 2) ∧ 7000 ≤ x.mA ∧
      2 * x.outMv < v ∧ 10 ≤ us ∧ (z.ls n.val).retries < lsRetries (z.lsRec n.val)) ∧
    (∃ (s : State) (z : State) (t : Nat) (n : LsNo) (x : LsSense) (us : Nat), z = s.advance t ∧ (z.ls n.val).st = .turnOn ∧
      lsMode (z.lsRec n.val) = 2 ∧ 5000 ≤ x.mA ∧ x.outMv < 1000 ∧ 2000 ≤ us ∧
      lsRetries (z.lsRec n.val) ≤ (z.ls n.val).retries) ∧
    (∃ (s : State) (z : State) (t : Nat) (n : LsNo) (mA : Nat) (ms : Nat), z = s.advance t ∧ (z.ls n.val).st = .on ∧
      fld (z.lsRec n.val) 1 25 17 * 10 < mA ∧ fld (z.lsRec n.val) 1 16 9 ≤ ms ∧
      (z.ls n.val).retries < lsRetries (z.lsRec n.val)) ∧
    (∃ (s : State) (z : State) (t : Nat) (n : LsNo) (mA : Nat), z = s.advance t ∧ mA ≤ fld (z.lsRec n.val) 1 25 17 * 10) ∧
    (∃ (s : State) (z : State) (t : Nat) (n : LsNo) (o : Nat) (v : Nat), z = s.advance t ∧ (z.ls n.val).st = .turnOn ∧
      lsMode (z.lsRec n.val) = 2 ∧ 100 * o < 95 * v ∧
      (z.ls n.val).turnAt + (4 * lsSlew (z.lsRec n.val) + 10) * ticksPerMs < z.time.clock ∧
      (z.ls n.val).retries < lsRetries (z.lsRec n.val)) ∧
    (∃ (s : State) (z : State) (t : Nat) (n : LsNo) (mv : Int) (us : Nat), z = s.advance t ∧ lsMode (z.lsRec n.val) = 3 ∧
      (z.ls n.val).conducts = false ∧ mv < -3000 ∧ 2 < us ∧ (z.ls n.val).freewheels = 2 ∧ (z.ls n.val).st ≠ .latched) ∧
    (∃ (s : State) (z : State) (t : Nat) (n : LsNo) (d : Int), z = s.advance t ∧ 175 ≤ d ∧ (z.ls n.val).conducts = true ∧
      (z.ls n.val).retries < lsRetries (z.lsRec n.val)) ∧
    (∃ (s : State) (z : State) (t : Nat) (n : LsNo) (e : Nat), z = s.advance t ∧ (z.ls n.val).st = .retryWait ∧
      (z.ls n.val).waitEnd = some e ∧ e < z.time.clock ∧ (z.ls n.val).hot = false) ∧
    (∃ (s : State) (z : State) (t : Nat) (n : LsNo) (e : Nat), z = s.advance t ∧ (z.ls n.val).waitEnd = some e ∧
      z.time.clock ≤ e) :=
  ⟨⟨lsSys 2 { st := .on, input := true }, _, 4000000000, 2, { mA := 7000, outMv := 100 }, 201, 10, rfl, by decide +kernel⟩,
    ⟨lsSys 4 { st := .turnOn, input := true, retries := 3 }, _, 4000000000, 4, { mA := 5000, outMv := 999 }, 2000, rfl,
      by decide +kernel⟩,
    ⟨lsSys 2 { st := .on, input := true }, _, 4000000000, 2, 1001, 10, rfl, by decide +kernel⟩,
    ⟨lsSys 2 { st := .on, input := true }, _, 4000000000, 2, 1000, rfl, by decide +kernel⟩,
    ⟨lsSys 4 { st := .turnOn, input := true, turnAt := 3979999999 }, _, 4000000000, 4, 189, 199, rfl, by decide +kernel⟩,
    ⟨lsSys 5 { freewheels := 2 }, _, 4000000000, 5, -3001, 3, rfl, by decide +kernel⟩,
    ⟨lsSys 2 { st := .on, input := true }, _, 4000000000, 2, 175, rfl, by decide +kernel⟩,
    ⟨lsSys 2 { st := .retryWait, waitEnd := some 3999999999, input := true }, _, 4000000000, 2, 3999999999, rfl,
      by decide +kernel⟩,
    ⟨lsSys 2 { st := .retryWait, waitEnd := some 4000000000, input := true }, _, 4000000000, 2, 4000000000, rfl,
      by decide +kernel⟩⟩

/-- Its hypotheses are met, clause by clause. -/
theorem witness_RegulatorsRamp :
    (∃ (s : State) (z : State) (t : Nat) (b : BuckNo) (w : List W32) (a : Nat), z = s.advance t ∧ z.regRec b.val = some w ∧
      z.serviceAt = some a ∧ (((z.reg b.val).st = .delay ∨ (z.reg b.val).st = .off)) ∧ z.startup.mode = .service ∧
      a + fld w 3 31 24 * ticksPerMs ≤ z.time.clock) ∧
    (∃ (s : State) (z : State) (t : Nat), z = s.advance t ∧ z.startup.mode ≠ .service) ∧
    (∃ (s : State) (z : State) (t : Nat) (b : BuckNo) (w : List W32) (a : Nat), z = s.advance t ∧ z.regRec b.val = some w ∧
      (z.reg b.val).offAt = some a ∧ (z.reg b.val).switching = true ∧ a + fld w 3 23 16 * ticksPerMs ≤ z.time.clock) ∧
    (∃ (s : State) (z : State) (t : Nat) (b : BuckNo), z = s.advance t ∧ (z.reg b.val).offAt = none) ∧
    (∃ (s : State) (z : State) (t : Nat) (b : BuckNo) (w : List W32), z = s.advance t ∧ z.regRec b.val = some w ∧
      (z.reg b.val).st = .softStart ∧ (z.reg b.val).refNow w z.time.clock = (z.reg b.val).target) ∧
    (∃ (s : State) (z : State) (t : Nat) (b : BuckNo) (w : List W32), z = s.advance t ∧ z.regRec b.val = some w ∧
      (z.reg b.val).st = .rampDown ∧ (z.reg b.val).refNow w z.time.clock = 0) ∧
    (∃ (c : ConnNo) (k : BuckNo), Asks c (dev 141 3 (4 + k.val)) .execute (.regulatorClear k) fun z => (z.reg k.val).st = .latched) ∧
    (∃ (s : State) (z : State) (t : Nat) (b : BuckNo) (w : List W32) (khz : Nat), z = s.advance t ∧ z.regRec b.val = some w ∧
      bit w 0 16 = true ∧ inBand w khz = true) ∧
    (∃ (s : State) (z : State) (t : Nat) (b : BuckNo) (w : List W32) (khz : Nat), z = s.advance t ∧ z.regRec b.val = some w ∧
      inBand w khz = false) ∧
    (∃ (s : State) (z : State) (t : Nat) (b : BuckNo) (w : List W32) (n : Nat) (khz : Nat), z = s.advance t ∧
      z.regRec b.val = some w ∧ (z.reg b.val).sync = true ∧ ((2000000 < n * regKhz w ∨ inBand w khz = false))) ∧
    (∃ (s : State) (z : State) (t : Nat) (b : BuckNo) (w : List W32) (n : Nat) (khz : Nat), z = s.advance t ∧
      z.regRec b.val = some w ∧ n * regKhz w ≤ 2000000 ∧ inBand w khz = true) ∧
    (∃ (x : Reg) (period : Rat), x.switching = true ∧ 80 ≤ period) ∧
    (∃ (x : Reg) (w : List W32), x.emulates w = true ∧ x.switching = true) ∧
    (∃ (s : State) (z : State) (t : Nat) (b : BuckNo) (fb : Nat) (ms : Nat), z = s.advance t ∧
      (z.reg b.val).switching = true ∧ (z.reg b.val).pg = true ∧ ((fb < 920 ∨ 1080 < fb)) ∧ 1 ≤ ms) ∧
    (∃ (s : State) (z : State) (t : Nat) (b : BuckNo) (fb : Nat), z = s.advance t ∧ (z.reg b.val).switching = true ∧
      920 ≤ fb ∧ fb ≤ 1080) :=
  ⟨⟨regSys { st := .delay }, _, 4000000000, 0, regW, 0, rfl, by decide +kernel⟩,
    ⟨let s := regSys {}; { s with startup := { s.startup with mode := .starting } }, _, 4000000000, rfl, by decide +kernel⟩,
    ⟨regSys { st := .run, ref := 1000, target := 1000, offAt := some 0 }, _, 4000000000, 0, regW, 0, rfl, by decide +kernel⟩,
    ⟨regSys {}, _, 4000000000, 0, rfl, by decide +kernel⟩,
    ⟨regSys { st := .softStart, target := 1000 }, _, 4000000000, 0, regW, rfl, by decide +kernel⟩,
    ⟨regSys { st := .rampDown, ref := 1000, target := 1000 }, _, 4000000000, 0, regW, rfl, by decide +kernel⟩,
    ⟨3, 0, asks (regSys { st := .latched }) 4000000000 .service (by decide +kernel) (by decide +kernel) (by decide +kernel)⟩,
    ⟨regSys { st := .run }, _, 4000000000, 0, regW, 320, rfl, by decide +kernel⟩,
    ⟨regSys { st := .run }, _, 4000000000, 0, regW, 319, rfl, by decide +kernel⟩,
    ⟨regSys { st := .run, sync := true, syncKhz := 400 }, _, 4000000000, 0, regW, 5001, 400, rfl, by decide +kernel⟩,
    ⟨regSys { st := .run, sync := true, syncKhz := 480 }, _, 4000000000, 0, regW, 5000, 480, rfl, by decide +kernel⟩,
    ⟨{ st := .run }, 80, by decide +kernel⟩,
    ⟨{ st := .softStart }, regW, by decide +kernel⟩,
    ⟨regSys { st := .run, pg := true }, _, 4000000000, 0, 919, 1, rfl, by decide +kernel⟩,
    ⟨regSys { st := .run, pg := false }, _, 4000000000, 0, 920, rfl, by decide +kernel⟩⟩

/-- Its hypotheses are met, clause by clause. -/
theorem witness_RegulatorFaults :
    (∃ (s : State) (z : State) (t : Nat) (b : BuckNo) (w : List W32) (x : RegSense) (n : Nat), z = s.advance t ∧
      z.regRec b.val = some w ∧ (((z.reg b.val).st = .run ∨ (z.reg b.val).st = .softStart)) ∧ fld w 2 15 8 < x.csMv ∧
      256 ≤ n ∧ x.fbPct < 50 ∧ (z.reg b.val).retries < regRetries w) ∧
    (∃ (s : State) (z : State) (t : Nat) (b : BuckNo) (w : List W32) (x : RegSense) (n : Nat), z = s.advance t ∧
      z.regRec b.val = some w ∧ (((z.reg b.val).st = .run ∨ (z.reg b.val).st = .softStart)) ∧ fld w 2 15 8 < x.csMv ∧
      256 ≤ n ∧ x.fbPct < 50 ∧ regRetries w ≤ (z.reg b.val).retries) ∧
    (∃ (s : State) (z : State) (t : Nat) (b : BuckNo) (w : List W32), z = s.advance t ∧ z.regRec b.val = some w ∧
      (z.reg b.val).st = .hiccup ∧ (z.reg b.val).hot = false ∧
      (z.reg b.val).stAt + fld w 4 31 24 * 10 * ticksPerMs ≤ z.time.clock) ∧
    (∃ (s : State) (z : State) (t : Nat) (b : BuckNo) (fb : Nat) (us : Nat), z = s.advance t ∧
      (((z.reg b.val).st = .run ∨ (z.reg b.val).st = .softStart)) ∧ 115 < fb ∧ 10 ≤ us ∧ (z.reg b.val).ovAt.length < 2 ∧
      (z.reg b.val).ov = false) ∧
    (∃ (s : State) (z : State) (t : Nat) (b : BuckNo) (w : List W32) (fb : Nat) (us : Nat), z = s.advance t ∧
      z.regRec b.val = some w ∧ (z.reg b.val).st = .run ∧ 115 < fb ∧ 10 ≤ us ∧ (z.reg b.val).ov = false ∧
      (2 ≤ ((z.reg b.val).ovAt.filter fun e => z.time.clock ≤ e + ticksPerSec).length) ∧ (z.reg b.val).retries < regRetries w) ∧
    (∃ (s : State) (z : State) (t : Nat) (fb : Nat), z = s.advance t ∧ fb < 105) ∧
    (∃ (s : State) (z : State) (t : Nat) (b : BuckNo) (w : List W32) (d : Int), z = s.advance t ∧ z.regRec b.val = some w ∧
      150 ≤ d ∧ (z.reg b.val).switching = true ∧ (z.reg b.val).retries < regRetries w) ∧
    (∃ (s : State) (z : State) (t : Nat) (b : BuckNo), z = s.advance t ∧ (z.reg b.val).st = .retryWait ∧
      (z.reg b.val).hot = false ∧ (z.reg b.val).stAt + 10 * ticksPerMs ≤ z.time.clock) ∧
    (∃ (s : State) (z : State) (t : Nat) (b : BuckNo), z = s.advance t ∧ (z.reg b.val).hot = true) ∧
    (∃ (s : State) (z : State) (t : Nat) (b : BuckNo) (w : List W32), z = s.advance t ∧ z.regRec b.val = some w ∧
      (z.reg b.val).st = .run ∧ (z.reg b.val).cleanAt + fld w 4 23 16 * ticksPerSec ≤ z.time.clock) :=
  ⟨⟨regSys { st := .run }, _, 4000000000, 0, regW, { csMv := 1, fbPct := 49 }, 256, rfl, by decide +kernel⟩,
    ⟨regSys { st := .softStart, retries := 3 }, _, 4000000000, 0, regW, { csMv := 1, fbPct := 49 }, 256, rfl,
      by decide +kernel⟩,
    ⟨regSys { st := .hiccup }, _, 4000000000, 0, regW, rfl, by decide +kernel⟩,
    ⟨regSys { st := .run }, _, 4000000000, 0, 116, 10, rfl, by decide +kernel⟩,
    ⟨regSys { st := .run, ovAt := [4000000000, 3999000000] }, _, 4000000000, 0, regW, 116, 10, rfl, by decide +kernel⟩,
    ⟨regSys { st := .run, ov := true }, _, 4000000000, 104, rfl, by decide +kernel⟩,
    ⟨regSys { st := .run }, _, 4000000000, 0, regW, 150, rfl, by decide +kernel⟩,
    ⟨regSys { st := .retryWait }, _, 4000000000, 0, rfl, by decide +kernel⟩,
    ⟨regSys { st := .retryWait, hot := true }, _, 4000000000, 0, rfl, by decide +kernel⟩,
    ⟨regSys { st := .run, retries := 2 }, _, 4000000000, 0, regW, rfl, by decide +kernel⟩⟩

/-- Its hypotheses are met, clause by clause. -/
theorem witness_JournalAndLinks :
    (∃ (s : State) (z : State) (t : Nat) (e : JEntry) (i : JInput), z = s.advance t ∧ z.pair.st = .standby ∧
      e.inline_ = true ∧ inputSource i = e.source ∧ e.source ≠ 2 ∧ e.source ≠ 10 ∧ z.stamp ≤ e.effect) ∧
    (∃ (s : State) (z : State) (t : Nat) (e : JEntry) (x : InputCopy) (l : List InputCopy), z = s.advance t ∧
      z.pair.st = .standby ∧ e.inline_ = false ∧ e.source ≠ 10 ∧ z.pair.copies = x :: l ∧ x.source = e.source ∧
      x.digest = e.digest ∧ z.stamp ≤ e.effect) ∧
    (∃ (s : State) (z : State) (t : Nat) (e : JEntry), z = s.advance t ∧ z.pair.st = .standby ∧ e.inline_ = false ∧
      e.source ≠ 10 ∧ z.stamp ≤ e.effect ∧ ((∀ x ∈ z.pair.copies, ¬(x.source = e.source ∧ x.digest = e.digest)))) ∧
    (∃ (s : State) (z : State) (t : Nat) (e : JEntry), z = s.advance t ∧ z.pair.st = .standby ∧ e.source ≠ 10 ∧
      e.effect < z.stamp) ∧
    (∃ (s : State) (z : State) (t : Nat) (e : JEntry) (i : Option JInput), z = s.advance t ∧ z.pair.st = .resync ∧
      e.inline_ = true ∧ ((∀ x, i = some x → inputSource x = e.source)) ∧ e.source ≠ 10) ∧
    (∃ (s : State) (z : State) (t : Nat), z = s.advance t ∧ z.pair.st ≠ .standby ∧ z.pair.st ≠ .resync) ∧
    (∃ (s : State) (z : State) (t : Nat) (q : Nat) (i : JInput) (x : JPending), z = s.advance t ∧ z.pair.st = .standby ∧
      z.pair.journal = [x] ∧ x.entry.jseq = q ∧ x.input = none ∧ inputSource i = x.entry.source ∧ x.entry.source ≠ 2 ∧
      z.pair.canFetches.length < 16 ∧ z.stamp ≤ x.entry.effect) ∧
    (∃ (s : State) (z : State) (t : Nat) (q : Nat) (i : JInput) (x : JPending), z = s.advance t ∧ z.pair.st = .standby ∧
      z.pair.journal = [x] ∧ x.entry.jseq = q ∧ x.input = none ∧ inputSource i = x.entry.source ∧ x.entry.effect < z.stamp) ∧
    (∃ (s : State) (z : State) (t : Nat) (src : Nat) (dg : Nat) (x : InputCopy), z = s.advance t ∧ z.pair.copies = [x] ∧
      x.source = src ∧ x.digest = dg ∧ x.phase + 4 * turnUnits ≤ z.carousel.phase) ∧
    (∃ (s : State) (z : State) (t : Nat) (r : StrokeRec), z = s.advance t ∧ z.pair.st = .standby ∧
      ((∀ x ∈ r.committed, x.2 ∈ (z.law x.1.val).committed))) ∧
    (∃ (s : State) (z : State) (t : Nat) (r : StrokeRec) (x : LawNo × Nat), z = s.advance t ∧ z.pair.st = .standby ∧
      x ∈ r.committed ∧ x.2 ∉ (z.law x.1.val).committed ∧ ((∀ j ∈ z.array.jobs, ¬(j.law = some x.1.val ∧ j.seq = x.2)))) ∧
    (∃ (s : State) (z : State) (t : Nat) (x : JPending) (l : List JPending) (i : JInput), z = s.advance t ∧
      z.pair.journal = x :: l ∧ x.input = some i ∧ x.entry.effect ≤ z.stamp ∧ z.pair.st ≠ .resync ∧
      ((z.pair.st = .standby → z.followsOn x.entry.jseq = true))) ∧
    (∃ (s : State) (z : State) (t : Nat) (x : JPending) (l : List JPending), z = s.advance t ∧ z.pair.journal = x :: l ∧
      z.stamp < x.entry.effect ∧ z.followsOn x.entry.jseq = true) ∧
    (∃ (s : State) (z : State) (t : Nat) (x : JPending) (l : List JPending), z = s.advance t ∧ z.pair.journal = x :: l ∧
      x.input = none ∧ x.entry.effect = z.stamp ∧ z.pair.st = .standby ∧ z.followsOn x.entry.jseq = true) ∧
    (∃ (s : State) (z : State) (t : Nat) (x : JPending) (l : List JPending), z = s.advance t ∧ z.pair.journal = x :: l ∧
      x.input = none ∧ x.entry.effect < z.stamp ∧ z.pair.st = .standby ∧ z.followsOn x.entry.jseq = true) ∧
    (∃ (s : State) (z : State) (t : Nat) (q : Nat) (a : Nat) (x : JPending) (l : List JPending), z = s.advance t ∧
      z.pair.st = .standby ∧ z.pair.journal = x :: l ∧ z.pair.applied = some a ∧ x.entry.jseq ≠ (a + 1) % 2 ^ 32 ∧
      ((q < x.entry.jseq ∨ x.entry.effect ≤ z.stamp))) ∧
    (∃ (s : State) (z : State) (t : Nat) (q : Nat) (a : Nat), z = s.advance t ∧ z.pair.st = .standby ∧ z.pair.journal = [] ∧
      z.pair.applied = some a ∧ q = (a + 1) % 2 ^ 32) ∧
    (∃ (s : State) (z : State) (t : Nat) (x : JPending) (l : List JPending), z = s.advance t ∧ z.pair.st = .resync ∧
      z.pair.journal = x :: l ∧ x.entry.effect ≤ z.stamp) ∧
    (∃ (s : State) (z : State) (t : Nat), z = s.advance t ∧ z.pair.st = .standby) ∧
    (∃ (s : State) (z : State) (t : Nat) (k : Fin 2), z = s.advance t ∧ z.pair.st = .holder ∧ z.tzEn k.val = true) ∧
    (∃ (s : State) (z : State) (t : Nat) (k : Fin 2), z = s.advance t ∧ z.pair.st = .holder ∧ z.tzEn k.val = true) ∧
    (∃ (s : State) (z : State) (t : Nat) (k : Fin 2), z = s.advance t ∧ z.tzEn k.val = true ∧ z.pair.links[k].up = true ∧
      ((z.pair.st = .standby ∨ z.pair.st = .resync)) ∧
      ((∀ m : Fin 2, m ≠ k → z.tzEn m.val = false ∨ z.pair.links[m].up = false))) ∧
    (∃ (s : State) (z : State) (t : Nat) (k : Fin 2), z = s.advance t ∧ z.tzEn k.val = true ∧ z.pair.links[k].up = false ∧
      z.pair.st = .holder) ∧
    (∃ (s : State) (z : State) (t : Nat) (k : Fin 2), z = s.advance t ∧ z.tzEn k.val = true ∧ z.pair.links[k].up = false ∧
      z.pair.st = .detached) :=
  ⟨⟨pairSys fun p => { p with st := .standby }, _, 4000000000, entry0 1 5 true, .op true 3 .service 7 .yield_, rfl,
      by decide +kernel⟩,
    ⟨pairSys fun p => { p with st := .standby, copies := [{ source := 2, digest := 11, phase := 0, input := .gridCommand 0 0 }, { source := 2, digest := 11, phase := 1, input := .gridCommand 0 1 }] },
      _, 4000000000, { entry0 1 5 false with source := 2 },
      { source := 2, digest := 11, phase := 0, input := .gridCommand 0 0 },
      [{ source := 2, digest := 11, phase := 1, input := .gridCommand 0 1 }], rfl, by decide +kernel⟩,
    ⟨pairSys fun p => { p with st := .standby }, _, 4000000000, { entry0 1 5 false with source := 1 }, rfl,
      by decide +kernel⟩,
    ⟨let s := pairSys fun p => { p with st := .standby }; { s with carousel := { s.carousel with phase := 6 * arcUnits } },
      _, 4000000000, entry0 1 5 true, rfl, by decide +kernel⟩,
    ⟨pairSys fun p => { p with st := .resync }, _, 4000000000, entry0 1 5 true, some (.op true 3 .service 7 .yield_), rfl,
      by decide +kernel, by decide +kernel, by decide, by decide +kernel⟩,
    ⟨pairSys fun p => { p with st := .holder }, _, 4000000000, rfl, by decide +kernel⟩,
    ⟨pairSys fun p => { p with st := .standby, journal := [{ entry := entry0 1 5 false, input := none }] }, _, 4000000000,
      1, .op true 3 .service 7 .yield_, { entry := entry0 1 5 false, input := none }, rfl, by decide +kernel⟩,
    ⟨let s := pairSys fun p => { p with st := .standby, journal := [{ entry := entry0 1 5 false, input := none }] }; { s with carousel := { s.carousel with phase := 6 * arcUnits } },
      _, 4000000000, 1, .op true 3 .service 7 .yield_, { entry := entry0 1 5 false, input := none }, rfl, by decide +kernel⟩,
    ⟨let s := pairSys fun p => { p with st := .standby, copies := [{ source := 1, digest := 11, phase := 0, input := .gridCommand 0 0 }] }; { s with carousel := { s.carousel with phase := 4 * turnUnits } },
      _, 4000000000, 1, 11, { source := 1, digest := 11, phase := 0, input := .gridCommand 0 0 }, rfl, by decide +kernel⟩,
    ⟨let s := pairSys fun p => { p with st := .standby }; s.modLaw 0 fun x => { x with committed := [4] }, _, 4000000000,
      { stroke := 3, laws := [], words := [(3, true)], committed := [(0, 4)] }, rfl, by decide +kernel⟩,
    ⟨pairSys fun p => { p with st := .standby }, _, 4000000000,
      { stroke := 3, laws := [], words := [], committed := [(0, 4)] }, (0, 4), rfl, by decide +kernel⟩,
    ⟨pairSys fun p => { p with st := .standby, journal := [{ entry := entry0 1 0 true, input := some .activationDeadline }] },
      _, 4000000000, { entry := entry0 1 0 true, input := some .activationDeadline }, [], .activationDeadline, rfl,
      by decide +kernel⟩,
    ⟨pairSys fun p => { p with st := .standby, journal := [{ entry := entry0 1 5 true, input := some .activationDeadline }] },
      _, 4000000000, { entry := entry0 1 5 true, input := some .activationDeadline }, [], rfl, by decide +kernel⟩,
    ⟨pairSys fun p => { p with st := .standby, journal := [{ entry := entry0 1 0 false, input := none }] }, _, 4000000000,
      { entry := entry0 1 0 false, input := none }, [], rfl, by decide +kernel⟩,
    ⟨let s := pairSys fun p => { p with st := .standby, journal := [{ entry := entry0 1 5 false, input := none }] }; { s with carousel := { s.carousel with phase := 6 * arcUnits } },
      _, 4000000000, { entry := entry0 1 5 false, input := none }, [], rfl, by decide +kernel⟩,
    ⟨pairSys fun p => { p with st := .standby, applied := some 1, journal := [{ entry := entry0 3 0 true, input := none }] },
      _, 4000000000, 2, 1, { entry := entry0 3 0 true, input := none }, [], rfl, by decide +kernel⟩,
    ⟨pairSys fun p => { p with st := .standby, applied := some 1 }, _, 4000000000, 2, 1, rfl, by decide +kernel⟩,
    ⟨pairSys fun p => { p with st := .resync, journal := [{ entry := entry0 3 0 true, input := none }] }, _, 4000000000,
      { entry := entry0 3 0 true, input := none }, [], rfl, by decide +kernel⟩,
    ⟨pairSys fun p => { p with st := .standby, links := p.links.set 0 { up := true } }, _, 4000000000, rfl,
      by decide +kernel⟩,
    ⟨pairSys fun p => { p with st := .holder }, _, 4000000000, 0, rfl, by decide +kernel⟩,
    ⟨pairSys fun p => { p with st := .holder }, _, 4000000000, 0, rfl, by decide +kernel⟩,
    ⟨pairSys fun p => { p with st := .standby, links := p.links.set 1 { up := true } }, _, 4000000000, 1, rfl,
      by decide +kernel⟩,
    ⟨pairSys fun p => { p with st := .holder }, _, 4000000000, 1, rfl, by decide +kernel⟩,
    ⟨pairSys fun p => { p with st := .detached }, _, 4000000000, 1, rfl, by decide +kernel⟩⟩

/-- Its hypotheses are met, clause by clause. -/
theorem witness_RingChangesHands :
    (∃ (s : State) (z : State) (t : Nat) (n : Nat), z = s.advance t ∧ 4 * ticksPerUs < n ∧ z.pair.st = .standby ∧
      z.pair.ringLost = false ∧ z.pair.beatLost = true ∧ z.startup.mode = .service) ∧
    (∃ (s : State) (z : State) (t : Nat) (n : Nat), z = s.advance t ∧ 4 * ticksPerUs < n ∧ z.pair.st = .standby ∧
      z.pair.ringLost = false ∧ z.pair.beatLost = false ∧ z.pair.yieldSeen = true ∧ z.pair.degraded = [] ∧
      z.startup.mode = .service) ∧
    (∃ (s : State) (z : State) (t : Nat) (n : Nat), z = s.advance t ∧ 4 * ticksPerUs < n ∧ z.pair.st = .standby ∧
      z.pair.ringLost = false ∧ z.pair.beatLost = false ∧ z.pair.yieldSeen = false) ∧
    (∃ (s : State) (z : State) (t : Nat) (n : Nat), z = s.advance t ∧ 4 * ticksPerUs < n ∧ z.pair.st = .detached ∧
      z.pair.ringLost = false ∧ z.pair.beatLost = true ∧ z.startup.mode = .service) ∧
    (∃ (s : State) (z : State) (t : Nat) (n : Nat), z = s.advance t ∧ n ≤ 4 * ticksPerUs) ∧
    (∃ (s : State) (z : State) (t : Nat) (b : Beat × Nat), z = s.advance t ∧ z.pair.beat = some b ∧
      b.2 + 8 * ticksPerUs < z.time.clock ∧ z.pair.beatLost = false ∧ z.pair.st = .holder) ∧
    (∃ (s : State) (z : State) (t : Nat) (b : Beat × Nat), z = s.advance t ∧ z.pair.beat = some b ∧
      b.2 + 8 * ticksPerUs < z.time.clock ∧ z.pair.beatLost = false ∧ z.pair.st = .standby ∧ z.pair.ringLost = false) ∧
    (∃ (s : State) (z : State) (t : Nat) (b : Beat × Nat), z = s.advance t ∧ z.pair.beat = some b ∧
      z.time.clock ≤ b.2 + 8 * ticksPerUs) ∧
    (∃ (s : State) (z : State) (t : Nat) (n : Nat), z = s.advance t ∧ 2 * ticksPerUs < n ∧ z.holds = true) ∧
    (∃ (s : State) (z : State) (t : Nat) (n : Nat), z = s.advance t ∧ n ≤ 2 * ticksPerUs) ∧
    (∃ (s : State) (z : State) (t : Nat) (d : Nat), z = s.advance t ∧ z.pair.decided = some d ∧ z.holds = true ∧
      z.startup.mode = .service ∧ z.carousel.running = true ∧ z.pair.cold = false ∧
      d + 4 * ticksPerUs ≤ z.carousel.strokeTick + z.time.tick0) ∧
    (∃ (s : State) (z : State) (t : Nat) (d : Nat), z = s.advance t ∧ z.pair.decided = some d ∧ z.holds = true ∧
      z.startup.mode = .service ∧ z.carousel.running = true ∧ z.pair.cold = true ∧ d ≤ z.carousel.strokeTick + z.time.tick0) ∧
    (∃ (s : State) (z : State) (t : Nat) (d : Nat), z = s.advance t ∧ z.pair.decided = some d ∧ z.pair.cold = false ∧
      z.carousel.strokeTick + z.time.tick0 < d + 4 * ticksPerUs) :=
  ⟨⟨pairSys fun p => { p with st := .standby, beatLost := true }, _, 4000000000, 1601, rfl, by decide +kernel⟩,
    ⟨pairSys fun p => { p with st := .standby, yieldSeen := true }, _, 4000000000, 1601, rfl, by decide +kernel⟩,
    ⟨pairSys fun p => { p with st := .standby }, _, 4000000000, 1601, rfl, by decide +kernel⟩,
    ⟨pairSys fun p => { p with st := .detached, beatLost := true }, _, 4000000000, 1601, rfl, by decide +kernel⟩,
    ⟨pairSys fun p => { p with st := .standby, beatLost := true }, _, 4000000000, 1600, rfl, by decide +kernel⟩,
    ⟨pairSys fun p => { p with st := .holder, beat := some (beat0 .standby, 3999996799) }, _, 4000000000,
      (beat0 .standby, 3999996799), rfl, by decide +kernel⟩,
    ⟨pairSys fun p => { p with st := .standby, beat := some (beat0 .holder, 3999996799) }, _, 4000000000,
      (beat0 .holder, 3999996799), rfl, by decide +kernel⟩,
    ⟨pairSys fun p => { p with st := .standby, beat := some (beat0 .holder, 3999996800) }, _, 4000000000,
      (beat0 .holder, 3999996800), rfl, by decide +kernel⟩,
    ⟨pairSys fun p => { p with st := .solo, driving := true, ringOut := true }, _, 4000000000, 801, rfl, by decide +kernel⟩,
    ⟨pairSys fun p => { p with st := .solo, driving := true, ringOut := true }, _, 4000000000, 800, rfl, by decide +kernel⟩,
    ⟨let s := pairSys fun p => { p with st := .solo, decided := some 0 }; { s with carousel := { s.carousel with st := .locked, running := true, strokeTick := 1600 } },
      _, 4000000000, 0, rfl, by decide +kernel⟩,
    ⟨let s := pairSys fun p => { p with st := .solo, decided := some 5, cold := true }; { s with carousel := { s.carousel with st := .locked, running := true, strokeTick := 5 } },
      _, 4000000000, 5, rfl, by decide +kernel⟩,
    ⟨let s := pairSys fun p => { p with st := .solo, decided := some 0 }; { s with carousel := { s.carousel with st := .locked, running := true, strokeTick := 1599 } },
      _, 4000000000, 0, rfl, by decide +kernel⟩⟩

/-- Its hypotheses are met, clause by clause. -/
theorem witness_Yielding :
    (∃ (s : State) (z : State) (t : Nat) (p : YieldPlan), z = s.advance t ∧ z.pair.plan = some p ∧ z.pair.st = .holder ∧
      p.half ≤ z.carousel.half ∧ 10 ≤ p.cause ∧ p.cause ≠ 12) ∧
    (∃ (s : State) (z : State) (t : Nat) (p : YieldPlan), z = s.advance t ∧ z.pair.plan = some p ∧ z.pair.st = .holder ∧
      p.half ≤ z.carousel.half ∧ p.cause = 12) ∧
    (∃ (s : State) (z : State) (t : Nat) (p : YieldPlan), z = s.advance t ∧ z.pair.plan = some p ∧ z.pair.st = .holder ∧
      p.half ≤ z.carousel.half ∧ p.cause < 10 ∧ z.standbyFit = false) ∧
    (∃ (s : State) (z : State) (t : Nat), z = s.advance t ∧ z.pair.plan = none) ∧
    (∃ (s : State) (z : State) (t : Nat), z = s.advance t ∧ z.pair.st = .standby ∧ z.pair.ringLost = true ∧
      z.pair.degraded = [] ∧ z.pair.beatLost = false ∧ z.startup.mode = .service) ∧
    (∃ (s : State) (z : State) (t : Nat), z = s.advance t ∧ z.pair.st = .standby ∧ z.pair.ringLost = false) ∧
    (∃ (c : ConnNo) (role : Role) (addr : Nat), Takes (.op true c role addr .yield_) fun z => z.pair.st = .holder ∧
      z.standbyFit = true ∧ z.pair.plan = none ∧ z.waits c = [.pending]) ∧
    (∃ (c : ConnNo), Asks c (dev 142 6 0) .execute .yield_ fun z => z.standbyFit = false) ∧
    (∃ (c : ConnNo) (p : PartnerInfo), Asks c (dev 142 5 0) .execute (.recommission p) fun z => p.attestOk = true ∧
      p.orderN = z.ident.orderN ∧ p.recordsHash = z.startup.hdr.recordsHash) ∧
    (∃ (c : ConnNo) (p : PartnerInfo), Asks c (dev 142 5 0) .execute (.recommission p) fun z => p.attestOk = false) :=
  ⟨⟨pairSys fun p => { p with st := .holder, driving := true, ringOut := true, plan := some { cause := 10, half := 0 } },
      _, 4000000000, { cause := 10, half := 0 }, rfl, by decide +kernel⟩,
    ⟨pairSys fun p => { p with st := .holder, driving := true, ringOut := true, plan := some { cause := 12, half := 0 } },
      _, 4000000000, { cause := 12, half := 0 }, rfl, by decide +kernel⟩,
    ⟨pairSys fun p => { p with st := .holder, driving := true, ringOut := true, plan := some { cause := 9, half := 0 } }, _,
      4000000000, { cause := 9, half := 0 }, rfl, by decide +kernel⟩,
    ⟨pairSys fun p => { p with st := .holder }, _, 4000000000, rfl, by decide +kernel⟩,
    ⟨pairSys fun p => { p with st := .standby, ringLost := true }, _, 4000000000, rfl, by decide +kernel⟩,
    ⟨pairSys fun p => { p with st := .standby }, _, 4000000000, rfl, by decide +kernel⟩,
    ⟨3, .service, 7, takes ((pairSys fitBeat).asked 3) 4000000000 (by decide +kernel)⟩,
    ⟨3, asks (pairSys fun p => { p with st := .none }) 4000000000 .service (by decide +kernel) (by decide +kernel) (by decide +kernel)⟩,
    ⟨3, partner0 true, asks (pairSys fun p => { p with st := .none }) 4000000000 .service (by decide +kernel) (by decide +kernel) (by decide +kernel)⟩,
    ⟨3, partner0 false, asks (pairSys fun p => { p with st := .none }) 4000000000 .service (by decide +kernel) (by decide +kernel) (by decide +kernel)⟩⟩

/-- Its hypotheses are met, clause by clause. -/
theorem witness_DigestsAndHealth :
    (∃ (s : State) (z : State) (t : Nat) (b : Nat) (d : Nat), z = s.advance t ∧
      (z.pair.digests.find? (fun x => x.1 = b && x.2.2.isNone) = some (b, d, none))) ∧
    (∃ (s : State) (z : State) (t : Nat) (b : Nat) (d : Nat) (e : Nat), z = s.advance t ∧
      (z.pair.digests.find? (fun x => x.1 = b && x.2.2.isNone) = some (b, d, none)) ∧ d ≠ e ∧ z.pair.diverge = none) ∧
    (∃ (s : State) (z : State) (t : Nat) (failed : List NibNo) (ok : Bool), z = s.advance t ∧ z.pair.diverge ≠ none ∧
      z.pair.st = .holder ∧ (failed ≠ [] ∨ ok = false)) ∧
    (∃ (s : State) (z : State) (t : Nat), z = s.advance t ∧ z.pair.diverge ≠ none ∧ z.pair.st = .standby) ∧
    (∃ (s : State) (z : State) (t : Nat), z = s.advance t ∧ z.pair.diverge = none) ∧
    (∃ (s : State) (z : State) (t : Nat), z = s.advance t ∧ z.pair.st = .resync ∧ z.scribe.open_ = true) ∧
    (∃ (s : State) (z : State) (t : Nat) (n : Nat), z = s.advance t ∧ n ≠ 0) ∧
    (∃ (s : State) (z : State) (t : Nat), z = s.advance t ∧ z.pair.st = .holder) ∧
    (∃ (s : State) (z : State) (t : Nat), z = s.advance t ∧ z.pair.st = .standby ∧ z.startup.mode = .service) ∧
    (∃ (s : State) (z : State) (t : Nat), z = s.advance t ∧ z.pair.st ≠ .holder) ∧
    (∃ (s : State) (z : State) (t : Nat), z = s.advance t ∧ z.pair.st = .standby ∧ z.startup.mode = .service) ∧
    (∃ (s : State) (z : State) (t : Nat), z = s.advance t) :=
  ⟨⟨pairSys fun p => { p with st := .holder, digests := [(4, 5, none)] }, _, 4000000000, 4, 5, rfl, by decide +kernel⟩,
    ⟨pairSys fun p => { p with st := .holder, digests := [(4, 5, none)] }, _, 4000000000, 4, 5, 6, rfl, by decide +kernel⟩,
    ⟨pairSys fun p => { fitBeat p with diverge := some { started := 0, inked := false, more := 0 } }, _, 4000000000,
      [7, 7, 3], true, rfl, by decide +kernel⟩,
    ⟨pairSys fun p => { p with st := .standby, diverge := some { started := 0, inked := false, more := 0 } }, _, 4000000000,
      rfl, by decide +kernel⟩,
    ⟨pairSys fun p => { p with st := .standby }, _, 4000000000, rfl, by decide +kernel⟩,
    ⟨let s := pairSys fun p => { p with st := .resync }; { s with scribe := { s.scribe with open_ := true } }, _,
      4000000000, rfl, by decide +kernel⟩,
    ⟨pairSys fun p => { p with st := .resync }, _, 4000000000, 1, rfl, by decide +kernel⟩,
    ⟨pairSys fun p => { p with st := .holder }, _, 4000000000, rfl, by decide +kernel⟩,
    ⟨pairSys fun p => { p with st := .standby }, _, 4000000000, rfl, by decide +kernel⟩,
    ⟨pairSys fun p => { p with st := .standby }, _, 4000000000, rfl, by decide +kernel⟩,
    ⟨pairSys fun p => { p with st := .standby }, _, 4000000000, rfl, by decide +kernel⟩,
    ⟨pairSys fun p => { p with st := .standby }, _, 4000000000, rfl⟩⟩

/-- Its hypotheses are met, clause by clause. -/
theorem witness_StallFaults :
    (∃ (s : State) (z : State) (t : Nat) (p : PumpNo) (w : List W32), z = s.advance t ∧ z.pumpRec p.val = some w ∧
      (z.pump p.val).st = .run ∧ 5 / 100 ≤ (z.pump p.val).dutyNow w z.time.clock ∧
      max (z.pump p.val).hallAt (z.pump p.val).runAt + fld w 1 15 0 * ticksPerMs < z.time.clock) ∧
    (∃ (s : State) (z : State) (t : Nat) (p : PumpNo) (w : List W32), z = s.advance t ∧ z.pumpRec p.val = some w ∧
      ((z.pump p.val).dutyNow w z.time.clock < 5 / 100 ∨ z.time.clock ≤ max (z.pump p.val).hallAt (z.pump p.val).runAt + fld w 1 15 0 * ticksPerMs)) :=
  ⟨⟨pumpSys { st := .run, duty := 5/100, target := 5/100 }, _, 4000000000, 0, pumpW, rfl, by decide +kernel⟩,
    ⟨pumpSys { st := .run, duty := 4/100, target := 4/100 }, _, 4000000000, 0, pumpW, rfl, by decide +kernel⟩⟩

/-- Its hypotheses are met, clause by clause. -/
theorem witness_MisalignedStandbyIsOutOfStep :
    (∃ (s : State) (z : State) (t : Nat) (a : Nat) (e : Int), z = s.advance t ∧ z.pair.st = .standby ∧ 50 < e.natAbs ∧
      z.pair.misFrom = some a ∧ a + turnUnits / 2 ≤ z.carousel.phase) ∧
    (∃ (s : State) (z : State) (t : Nat) (e : Int), z = s.advance t ∧
      (z.pair.st ≠ .standby ∨ e.natAbs ≤ 50 ∨ (∀ a, z.pair.misFrom = some a → z.carousel.phase < a + turnUnits / 2))) :=
  ⟨⟨let s := pairSys fun p => { p with st := .standby, misFrom := some 5 }; { s with carousel := { s.carousel with phase := turnUnits / 2 + 5 } },
      _, 4000000000, 5, -51, rfl, by decide +kernel⟩,
    ⟨let s := pairSys fun p => { p with st := .standby, misFrom := some 5 }; { s with carousel := { s.carousel with phase := turnUnits / 2 + 4 } },
      _, 4000000000, 51, rfl, by exact .inr (.inr (by intro a h; cases (Option.some.inj h); decide +kernel))⟩⟩

end Sys2Proof.Tests
end

section
/-!
Proofs of the family of pump drives (R502 to R524): what the shared pump operations leave in each driver, and STALL.
-/
namespace Sys2Proof.Machine
open Sys2Proof Sys2Proof.Config

theorem State.expired_iff (s : State) (start dur : Nat) : s.expired start dur = true ↔ start + dur < s.time.clock := by
  simp [State.expired]

/-! Reading a driver and its record after the operations on drivers. -/

@[simp] theorem State.pump_pumpEvent (s : State) (n cause mask m : Nat) : (s.pumpEvent n cause mask).pump m = s.pump m := rfl

@[simp] theorem State.pumpRec_pumpEvent (s : State) (n cause mask m : Nat) :
    (s.pumpEvent n cause mask).pumpRec m = s.pumpRec m := rfl

@[simp] theorem State.pump_raise (s : State) (e : Ev) (val : List Int) (m : Nat) : (s.raise e val).pump m = s.pump m := rfl

theorem State.pump_modPump (s : State) (n : Nat) (f : Pump → Pump) (m : PumpNo) :
    (s.modPump n f).pump m.val = if m.val = n then f (s.pump m.val) else s.pump m.val :=
  vget_vmapIdx _ _ _ _ m.isLt

/-- The driver `x` after a fault at `now` (R520): one retry used, or LATCHED where none is left. -/
def Pump.faulted (x : Pump) (w : List W32) (now cause : Nat) : Pump :=
  let y : Pump := { x with duty := 0, target := 0, faults := x.faults.modify cause (· + 1), bstAt := [] }
  if pumpRetries w ≤ x.retries then { y with st := .latched }
  else { y with st := .retryWait, retries := x.retries + 1, waitAt := now }

@[simp] theorem Pump.faulted_faults (x : Pump) (w : List W32) (now cause : Nat) :
    (x.faulted w now cause).faults = x.faults.modify cause (· + 1) := by
  unfold Pump.faulted; split <;> rfl

@[simp] theorem Pump.faulted_duty (x : Pump) (w : List W32) (now cause : Nat) : (x.faulted w now cause).duty = 0 := by
  unfold Pump.faulted; split <;> rfl

theorem Pump.faulted_retryWait_or_latched (x : Pump) (w : List W32) (now cause : Nat) :
    (x.faulted w now cause).st = .retryWait ∧ (x.faulted w now cause).retries = x.retries + 1 ∨
      (x.faulted w now cause).st = .latched := by
  unfold Pump.faulted
  split
  · exact .inr rfl
  · exact .inl ⟨rfl, rfl⟩

/-- A fault of driver `n` reaches no other driver. -/
theorem State.pump_faultPump {s : State} {n : Nat} {w : List W32} (hrec : s.pumpRec n = some w) (cause : Nat) (m : PumpNo) :
    (s.faultPump n cause).pump m.val =
      if m.val = n then (s.pump n).faulted w s.time.clock cause else s.pump m.val := by
  simp only [State.faultPump, Pump.faulted, hrec]
  split <;> simp [State.pump_modPump]

/-! STALL (R507). -/

theorem exec_stall (t : Nat) (p : PumpNo) (s : State) : exec (.stall t p) s = execStall t p s := rfl

/-- STALL at the instant `z`: the guard decides between the fault of the driver, with its event, and no change. -/
theorem exec_stall_eq {s z : State} {t : Nat} {p : PumpNo} {w : List W32} (hz : z = s.advance t)
    (hrec : z.pumpRec p.val = some w) :
    exec (.stall t p) s = .next (
      if (z.pump p.val).st = .run ∧ 5 / 100 ≤ (z.pump p.val).dutyNow w z.time.clock ∧
          max (z.pump p.val).hallAt (z.pump p.val).runAt + fld w 1 15 0 * ticksPerMs < z.time.clock then
        (z.pumpEvent p.val 1 0).faultPump p.val 1
      else z) := by
  simp only [exec_stall, execStall, ← hz, hrec, Option.getD_some, Bool.and_eq_true, decide_eq_true_eq, and_assoc,
    State.expired_iff]

/-- A fault raised with its event changes the drives and the port alone. -/
theorem State.faultPump_pumpEvent_chg (s : State) (n cause mask : Nat) :
    Chg [.port, .drives] s ((s.pumpEvent n cause mask).faultPump n cause) :=
  have hevent : Chg [.port, .drives] s (s.pumpEvent n cause mask) :=
    (Chg.refl _ s).step (State.pumpEvent_chg ..) (by decide)
  hevent.step (State.faultPump_chg ..) (by decide)

/-- Settles O59: where the guard holds the driver faults with cause 1, and where its duty or its time fails nothing happens. -/
theorem stallFaults : Obligations.StallFaults := by
  unfold Obligations.StallFaults
  constructor
  · intro s z t p w hz hrec hrun hduty hlate
    have hexec : exec (.stall t p) s = .next ((z.pumpEvent p.val 1 0).faultPump p.val 1) := by
      rw [exec_stall_eq hz hrec, if_pos ⟨hrun, hduty, hlate⟩]
    have hpump := State.pump_faultPump ((z.pumpRec_pumpEvent p.val 1 0 p.val).trans hrec) 1
    have hsame := hpump p
    rw [if_pos rfl] at hsame
    refine ⟨_, hexec, ?_, ?_, ?_, ?_, Only.of_chg (State.faultPump_pumpEvent_chg ..) (by decide)⟩
    · rw [hsame, Pump.faulted_faults, State.pump_pumpEvent]
    · rw [hsame, Pump.faulted_duty]
    · rw [hsame]
      exact Pump.faulted_retryWait_or_latched ..
    · intro m hm
      rw [hpump, if_neg (Fin.val_ne_of_ne hm), State.pump_pumpEvent]
  · intro s z t p w hz hrec hout
    refine ⟨z, ?_, rfl⟩
    rw [exec_stall_eq hz hrec, if_neg]
    rintro ⟨-, hduty, hlate⟩
    cases hout with
    | inl hlow => exact hduty.not_gt hlow
    | inr hearly => exact hlate.not_ge hearly

end Sys2Proof.Machine
end

section
/-!
Proofs of the family of the pair (chapter 15): what the entry to RESYNC leaves in the pair's record, and MISALIGNMENT.
-/
namespace Sys2Proof.Machine
open Sys2Proof Sys2Proof.Config

/-! Entry to RESYNC (Table 15.1). -/

/-- The record of a module that has entered RESYNC at `now`, whatever its health: the ring is let go and nothing of what the
journal built is left. -/
def Pair.resynced (p : Pair) (now : Nat) : Pair :=
  { p with
    st := .resync, resyncAt := now, misFrom := none, plan := none, diverge := none, journal := [], copies := [], applied := none
    resyncs := now :: p.resyncs.filter fun x => now < x + 3600 * ticksPerSec
    driving := false, ringOut := false, decided := none, cold := false }

/-- Letting the ring go is four fields of the record; the load switches that follow are none of it. -/
theorem State.quiet_pair (s : State) :
    s.quiet.pair = { s.pair with driving := false, ringOut := false, decided := none, cold := false } :=
  (State.refreshLs_chg _).pair rfl

/-- A module that does not hold the ring plans no yield when its health fails: only the causes noted against it change. -/
theorem State.degrade_pair_of_not_holder {s : State} (hst : s.pair.st ≠ .holder) (cause : Nat) :
    ∃ causes, (s.degrade cause).pair = { s.pair with degraded := causes } := by
  unfold State.degrade
  split
  · exact ⟨s.pair.degraded, rfl⟩
  · refine ⟨s.pair.degraded ++ [cause], ?_⟩
    rw [if_neg (by simp [hst]), State.raise_pair]

/-- The RESYNC_MAX check at the end of the entry (R607) touches the module's health alone. -/
theorem State.enterResync_pair (s : State) :
    ∃ causes, s.enterResync.pair = { s.pair.resynced s.time.clock with degraded := causes } := by
  unfold State.enterResync
  extract_lets now entered
  have hentered : entered.pair = s.pair.resynced s.time.clock := State.quiet_pair _
  split
  · have hst : entered.pair.st ≠ .holder := by rw [hentered]; exact PairState.noConfusion
    obtain ⟨causes, hcauses⟩ := State.degrade_pair_of_not_holder hst 8
    rw [hentered] at hcauses
    exact ⟨causes, hcauses⟩
  · exact ⟨s.pair.degraded, hentered⟩

/-! Falling out of step. -/

theorem State.outOfStep_of_standby {s : State} (hst : s.pair.st = .standby) (cause jseq : Nat) :
    s.outOfStep cause jseq = (s.raise .outOfStep [cause, jseq]).enterResync := if_pos hst

theorem State.outOfStep_of_not_standby {s : State} (hst : s.pair.st ≠ .standby) (cause jseq : Nat) :
    s.outOfStep cause jseq = s := if_neg hst

theorem State.outOfStep_pair {s : State} (hst : s.pair.st = .standby) (cause jseq : Nat) :
    ∃ causes, (s.outOfStep cause jseq).pair = { s.pair.resynced s.time.clock with degraded := causes } := by
  rw [State.outOfStep_of_standby hst]
  exact State.enterResync_pair (s.raise .outOfStep [cause, jseq])

/-! MISALIGNMENT (R590). -/

theorem exec_misalignment (t : Nat) (e : Int) (s : State) : exec (.misalignment t e) s = execMisalignment t e s := rfl

/-- MISALIGNMENT at the instant `z` where no misalignment runs. -/
theorem exec_misalignment_of_none {s z : State} {t : Nat} {e : Int} (hz : z = s.advance t) (hmis : z.pair.misFrom = none) :
    exec (.misalignment t e) s = .next z := by
  simp only [exec_misalignment, execMisalignment, ← hz, hmis]

/-- MISALIGNMENT at the instant `z` where one runs from the phase `a`: the error and the time decide. -/
theorem exec_misalignment_of_some {s z : State} {t a : Nat} {e : Int} (hz : z = s.advance t) (hmis : z.pair.misFrom = some a) :
    exec (.misalignment t e) s = .next (
      if 50 < e.natAbs ∧ a + turnUnits / 2 ≤ z.carousel.phase then z.outOfStep 2 z.pair.jseq else z) := by
  simp only [exec_misalignment, execMisalignment, ← hz, hmis, Bool.and_eq_true, decide_eq_true_eq]

/-- Settles O60: where the guard holds a standby enters RESYNC, and the error, the time or the module's state stops it. -/
theorem misalignedStandbyIsOutOfStep : Obligations.MisalignedStandbyIsOutOfStep := by
  unfold Obligations.MisalignedStandbyIsOutOfStep
  constructor
  · intro s z t a e hz hst herr hmis hlasted
    have hexec : exec (.misalignment t e) s = .next (z.outOfStep 2 z.pair.jseq) := by
      rw [exec_misalignment_of_some hz hmis, if_pos ⟨herr, hlasted⟩]
    obtain ⟨causes, hpair⟩ := State.outOfStep_pair hst 2 z.pair.jseq
    refine ⟨_, hexec, ?_⟩
    beta_reduce
    rw [hpair]
    exact ⟨rfl, rfl, rfl, rfl, rfl, Only.of_chg (State.outOfStep_chg ..) (by decide)⟩
  · intro s z t e hz hout
    refine ⟨z, ?_, rfl⟩
    cases hmis : z.pair.misFrom with
    | none => exact exec_misalignment_of_none hz hmis
    | some a =>
      rw [exec_misalignment_of_some hz hmis]
      split
      next hguard =>
        obtain ⟨herr, hlasted⟩ := hguard
        have hst : z.pair.st ≠ .standby := by
          obtain hst | hsmall | hshort := hout
          · exact hst
          · exact absurd herr hsmall.not_gt
          · exact absurd hlasted (hshort a hmis).not_ge
        rw [State.outOfStep_of_not_standby hst]
      next => rfl

end Sys2Proof.Machine
end

section
/-!
Proofs about every command and every step: that each command answers a next state and what parts it may change, what the
few commands that write the flashes or the identity keep, and the state after reset.
-/
namespace Sys2Proof.Machine
open Sys2Proof Sys2Proof.Config

/-! A command's next state and its frame. -/

/-- The next state of a command is the one that its frame lemma speaks of. -/
theorem Chg.of_exec {L : List Part} {z u : State} {o : Out} (h : ∃ v, o = .next v ∧ Chg L z v) (e : o = .next u) :
    Chg L z u := by
  obtain ⟨v, hv, hc⟩ := h
  cases hv.symm.trans e
  exact hc

theorem Chg.widen {L M : List Part} {z u : State} (h : Chg L z u) (hs : L.all (fun p => M.contains p) = true) : Chg M z u :=
  (Chg.refl M z).step h hs

theorem Chg.trans {L : List Part} {a b c : State} (h : Chg L a b) (k : Chg L b c) : Chg L a c := h.step k (by simp)

theorem frame_widen {L M : List Part} {z : State} {o : Out} (h : ∃ u, o = .next u ∧ Chg L z u)
    (hs : L.all (fun p => M.contains p) = true := by rfl) : ∃ u, o = .next u ∧ Chg M z u := by
  obtain ⟨u, hu, hc⟩ := h
  exact ⟨u, hu, hc.widen hs⟩

/-- The parts that some command changes beside the flashes and the identity: all but the queue. -/
def workParts : List Part :=
  [.time, .free, .carousel, .wall, .startup, .array, .legs, .laws, .juggler, .thermal, .barker, .scribe, .keys, .update, .ptp,
    .pair, .port, .tokens, .tamper, .safety, .drives, .supply, .buses]

/-- The parts that a command may change: only three commands write the flashes, and seven the identity. -/
def instrParts : Instr → List Part
  | .armPrepareDone .. | .updatePiece .. => .flash :: workParts
  | .commission .. | .retire .. | .pairing .. | .recommission .. | .seal .. | .sealBreak .. => .ident :: workParts
  | .journalEffect .. => .flash :: .ident :: workParts
  | _ => workParts

/-- Every command answers a next state, and changes no part beyond its own. -/
theorem exec_chg (i : Instr) (s : State) : ∃ t u, exec i s = .next u ∧ Chg (instrParts i) (s.advance t) u := by
  cases i with
  | powerUp => exact ⟨_, frame_widen (execPowerUp_chg ..)⟩
  | startStepTimeout => exact ⟨_, frame_widen (execStartStepTimeout_chg ..)⟩
  | pairing => exact ⟨_, frame_widen (execPairing_chg ..)⟩
  | pairWinExpiry => exact ⟨_, frame_widen (execPairWinExpiry_chg ..)⟩
  | refFail => exact ⟨_, frame_widen (execRefFail_chg ..)⟩
  | refValid => exact ⟨_, frame_widen (execRefValid_chg ..)⟩
  | locked => exact ⟨_, frame_widen (execLocked_chg ..)⟩
  | relock => exact ⟨_, frame_widen (execRelock_chg ..)⟩
  | startWinExpiry => exact ⟨_, frame_widen (execStartWinExpiry_chg ..)⟩
  | glide => exact ⟨_, frame_widen (execGlide_chg ..)⟩
  | nominal => exact ⟨_, frame_widen (execNominal_chg ..)⟩
  | revert => exact ⟨_, frame_widen (execRevert_chg ..)⟩
  | strokeBoundary => exact ⟨_, frame_widen (execStrokeBoundary_chg ..)⟩
  | halfTurnBoundary => exact ⟨_, frame_widen (execHalfTurnBoundary_chg ..)⟩
  | ptpAnnounce => exact ⟨_, frame_widen (execPtpAnnounce_chg ..)⟩
  | ptpSync => exact ⟨_, frame_widen (execPtpSync_chg ..)⟩
  | ptpTimeout => exact ⟨_, frame_widen (execPtpTimeout_chg ..)⟩
  | wallTimeSet => exact ⟨_, frame_widen (execWallTimeSet_chg ..)⟩
  | scribeTimeCount => exact ⟨_, frame_widen (execScribeTimeCount_chg ..)⟩
  | get => exact ⟨_, frame_widen (execGet_chg ..)⟩
  | set => exact ⟨_, frame_widen (execSet_chg ..)⟩
  | setStage => exact ⟨_, frame_widen (execSetStage_chg ..)⟩
  | check => exact ⟨_, frame_widen (execCheck_chg ..)⟩
  | commit => exact ⟨_, frame_widen (execCommit_chg ..)⟩
  | revisionAck => exact ⟨_, frame_widen (execRevisionAck_chg ..)⟩
  | revisionCancelled => exact ⟨_, frame_widen (execRevisionCancelled_chg ..)⟩
  | subscribe => exact ⟨_, frame_widen (execSubscribe_chg ..)⟩
  | event => exact ⟨_, frame_widen (execEvent_chg ..)⟩
  | attest => exact ⟨_, frame_widen (execAttest_chg ..)⟩
  | updatePiece => exact ⟨_, frame_widen (execUpdatePiece_chg ..)⟩
  | portReset => exact ⟨_, frame_widen (execPortReset_chg ..)⟩
  | connectionOpen => exact ⟨_, frame_widen (execConnectionOpen_chg ..)⟩
  | connectionLost => exact ⟨_, frame_widen (execConnectionLost_chg ..)⟩
  | malformedMessage t c why => exact ⟨_, frame_widen (execMalformedMessage_chg t c why s)⟩
  | bankRevert => exact ⟨_, frame_widen (execBankRevert_chg ..)⟩
  | taskRelease => exact ⟨_, frame_widen (execTaskRelease_chg ..)⟩
  | taskTake => exact ⟨_, frame_widen (execTaskTake_chg ..)⟩
  | park => exact ⟨_, frame_widen (execPark_chg ..)⟩
  | taskComplete => exact ⟨_, frame_widen (execTaskComplete_chg ..)⟩
  | thirdCopyTimeout => exact ⟨_, frame_widen (execThirdCopyTimeout_chg ..)⟩
  | deadlineMiss => exact ⟨_, frame_widen (execDeadlineMiss_chg ..)⟩
  | inkwellScrub => exact ⟨_, frame_widen (execInkwellScrub_chg ..)⟩
  | dramScrub => exact ⟨_, frame_widen (execDramScrub_chg ..)⟩
  | nibBistStart => exact ⟨_, frame_widen (execNibBistStart_chg ..)⟩
  | nibBistDone => exact ⟨_, frame_widen (execNibBistDone_chg ..)⟩
  | legFault => exact ⟨_, frame_widen (execLegFault_chg ..)⟩
  | readbackFault => exact ⟨_, frame_widen (execReadbackFault_chg ..)⟩
  | driveContention => exact ⟨_, frame_widen (execDriveContention_chg ..)⟩
  | contentionResolved => exact ⟨_, frame_widen (execContentionResolved_chg ..)⟩
  | legsOffAsserted => exact ⟨_, frame_widen (execLegsOffAsserted_chg ..)⟩
  | legsOffReleased => exact ⟨_, frame_widen (execLegsOffReleased_chg ..)⟩
  | legClear => exact ⟨_, frame_widen (execLegClear_chg ..)⟩
  | feedbackLost => exact ⟨_, frame_widen (execFeedbackLost_chg ..)⟩
  | sdckLost => exact ⟨_, frame_widen (execSdckLost_chg ..)⟩
  | sdckValid => exact ⟨_, frame_widen (execSdckValid_chg ..)⟩
  | lawClear => exact ⟨_, frame_widen (execLawClear_chg ..)⟩
  | inkPoint => exact ⟨_, frame_widen (execInkPoint_chg ..)⟩
  | curtailmentWrite => exact ⟨_, frame_widen (execCurtailmentWrite_chg ..)⟩
  | gridCommand => exact ⟨_, frame_widen (execGridCommand_chg ..)⟩
  | curtSilent => exact ⟨_, frame_widen (execCurtSilent_chg ..)⟩
  | contactorStatus => exact ⟨_, frame_widen (execContactorStatus_chg ..)⟩
  | matrixTimeout => exact ⟨_, frame_widen (execMatrixTimeout_chg ..)⟩
  | matrixClear => exact ⟨_, frame_widen (execMatrixClear_chg ..)⟩
  | aiSample => exact ⟨_, frame_widen (execAiSample_chg ..)⟩
  | sensorValid => exact ⟨_, frame_widen (execSensorValid_chg ..)⟩
  | dispTempStale => exact ⟨_, frame_widen (execDispTempStale_chg ..)⟩
  | thermalDisagree => exact ⟨_, frame_widen (execThermalDisagree_chg ..)⟩
  | dcuStatus => exact ⟨_, frame_widen (execDcuStatus_chg ..)⟩
  | dcuSilent => exact ⟨_, frame_widen (execDcuSilent_chg ..)⟩
  | nodeViewSet => exact ⟨_, frame_widen (execNodeViewSet_chg ..)⟩
  | vlink => exact ⟨_, frame_widen (execVlink_chg ..)⟩
  | sdpRequest => exact ⟨_, frame_widen (execSdpRequest_chg ..)⟩
  | v2gMessage => exact ⟨_, frame_widen (execV2gMessage_chg ..)⟩
  | seccTimeout => exact ⟨_, frame_widen (execSeccTimeout_chg ..)⟩
  | authWait => exact ⟨_, frame_widen (execAuthWait_chg ..)⟩
  | cableCheck => exact ⟨_, frame_widen (execCableCheck_chg ..)⟩
  | deliveringFlagClear => exact ⟨_, frame_widen (execDeliveringFlagClear_chg ..)⟩
  | dio => exact ⟨_, frame_widen (execDio_chg ..)⟩
  | entryTimeout => exact ⟨_, frame_widen (execEntryTimeout_chg ..)⟩
  | dioSend => exact ⟨_, frame_widen (execDioSend_chg ..)⟩
  | dioPause => exact ⟨_, frame_widen (execDioPause_chg ..)⟩
  | dioEnd => exact ⟨_, frame_widen (execDioEnd_chg ..)⟩
  | pauseMax => exact ⟨_, frame_widen (execPauseMax_chg ..)⟩
  | hello => exact ⟨_, frame_widen (execHello_chg ..)⟩
  | timeSend => exact ⟨_, frame_widen (execTimeSend_chg ..)⟩
  | certExpiring => exact ⟨_, frame_widen (execCertExpiring_chg ..)⟩
  | periodMark => exact ⟨_, frame_widen (execPeriodMark_chg ..)⟩
  | meterInputFault => exact ⟨_, frame_widen (execMeterInputFault_chg ..)⟩
  | sealBreak => exact ⟨_, frame_widen (execSealBreak_chg ..)⟩
  | receiptSelect => exact ⟨_, frame_widen (execReceiptSelect_chg ..)⟩
  | counterSignature => exact ⟨_, frame_widen (execCounterSignature_chg ..)⟩
  | noCounter => exact ⟨_, frame_widen (execNoCounter_chg ..)⟩
  | sessionReceipt => exact ⟨_, frame_widen (execSessionReceipt_chg ..)⟩
  | changeDisplayTimeout => exact ⟨_, frame_widen (execChangeDisplayTimeout_chg ..)⟩
  | changeTokenLookup => exact ⟨_, frame_widen (execChangeTokenLookup_chg ..)⟩
  | openingReading => exact ⟨_, frame_widen (execOpeningReading_chg ..)⟩
  | tamperInput => exact ⟨_, frame_widen (execTamperInput_chg ..)⟩
  | safetyCycle => exact ⟨_, frame_widen (execSafetyCycle_chg ..)⟩
  | safetyDemand => exact ⟨_, frame_widen (execSafetyDemand_chg ..)⟩
  | safetyClear => exact ⟨_, frame_widen (execSafetyClear_chg ..)⟩
  | pulseFault => exact ⟨_, frame_widen (execPulseFault_chg ..)⟩
  | discrepancyTimeout => exact ⟨_, frame_widen (execDiscrepancyTimeout_chg ..)⟩
  | resetPress => exact ⟨_, frame_widen (execResetPress_chg ..)⟩
  | weldDemand => exact ⟨_, frame_widen (execWeldDemand_chg ..)⟩
  | degradedExpired => exact ⟨_, frame_widen (execDegradedExpired_chg ..)⟩
  | channelRepaired => exact ⟨_, frame_widen (execChannelRepaired_chg ..)⟩
  | safetyAcknowledge => exact ⟨_, frame_widen (execSafetyAcknowledge_chg ..)⟩
  | safetyCrossCheck => exact ⟨_, frame_widen (execSafetyCrossCheck_chg ..)⟩
  | darkTest => exact ⟨_, frame_widen (execDarkTest_chg ..)⟩
  | soOvercurrent => exact ⟨_, frame_widen (execSoOvercurrent_chg ..)⟩
  | heartbeat => exact ⟨_, frame_widen (execHeartbeat_chg ..)⟩
  | orphanEnter => exact ⟨_, frame_widen (execOrphanEnter_chg ..)⟩
  | orphanTimeout => exact ⟨_, frame_widen (execOrphanTimeout_chg ..)⟩
  | safetyChange => exact ⟨_, frame_widen (execSafetyChange_chg ..)⟩
  | safetyChangeUnlock => exact ⟨_, frame_widen (execSafetyChangeUnlock_chg ..)⟩
  | hallChange => exact ⟨_, frame_widen (execHallChange_chg ..)⟩
  | hallFault => exact ⟨_, frame_widen (execHallFault_chg ..)⟩
  | stall => exact ⟨_, frame_widen (execStall_chg ..)⟩
  | bootstrapRefresh => exact ⟨_, frame_widen (execBootstrapRefresh_chg ..)⟩
  | bstUv => exact ⟨_, frame_widen (execBstUv_chg ..)⟩
  | pumpShort => exact ⟨_, frame_widen (execPumpShort_chg ..)⟩
  | vmHold => exact ⟨_, frame_widen (execVmHold_chg ..)⟩
  | vmRecovered => exact ⟨_, frame_widen (execVmRecovered_chg ..)⟩
  | pumpDiag => exact ⟨_, frame_widen (execPumpDiag_chg ..)⟩
  | pumpDiagRepeat => exact ⟨_, frame_widen (execPumpDiagRepeat_chg ..)⟩
  | pumpRetry => exact ⟨_, frame_widen (execPumpRetry_chg ..)⟩
  | pumpRetryReset => exact ⟨_, frame_widen (execPumpRetryReset_chg ..)⟩
  | pumpClear => exact ⟨_, frame_widen (execPumpClear_chg ..)⟩
  | partnerPumpState => exact ⟨_, frame_widen (execPartnerPumpState_chg ..)⟩
  | lsInChange => exact ⟨_, frame_widen (execLsInChange_chg ..)⟩
  | lsTurnOnComplete => exact ⟨_, frame_widen (execLsTurnOnComplete_chg ..)⟩
  | lsShort => exact ⟨_, frame_widen (execLsShort_chg ..)⟩
  | lsOverload => exact ⟨_, frame_widen (execLsOverload_chg ..)⟩
  | lsSlewFault => exact ⟨_, frame_widen (execLsSlewFault_chg ..)⟩
  | lsOpenLoad => exact ⟨_, frame_widen (execLsOpenLoad_chg ..)⟩
  | lsFreewheel => exact ⟨_, frame_widen (execLsFreewheel_chg ..)⟩
  | lsThermal => exact ⟨_, frame_widen (execLsThermal_chg ..)⟩
  | lsRetry => exact ⟨_, frame_widen (execLsRetry_chg ..)⟩
  | lsRetryReset => exact ⟨_, frame_widen (execLsRetryReset_chg ..)⟩
  | lsSupplyUv => exact ⟨_, frame_widen (execLsSupplyUv_chg ..)⟩
  | lsSupplyRecovered => exact ⟨_, frame_widen (execLsSupplyRecovered_chg ..)⟩
  | loadSwitchClear => exact ⟨_, frame_widen (execLoadSwitchClear_chg ..)⟩
  | regTurnOn => exact ⟨_, frame_widen (execRegTurnOn_chg ..)⟩
  | regTurnOff => exact ⟨_, frame_widen (execRegTurnOff_chg ..)⟩
  | regRampDone => exact ⟨_, frame_widen (execRegRampDone_chg ..)⟩
  | regSyncLock => exact ⟨_, frame_widen (execRegSyncLock_chg ..)⟩
  | syncLost => exact ⟨_, frame_widen (execSyncLost_chg ..)⟩
  | regHiccup => exact ⟨_, frame_widen (execRegHiccup_chg ..)⟩
  | regHiccupEnd => exact ⟨_, frame_widen (execRegHiccupEnd_chg ..)⟩
  | regFault => exact ⟨_, frame_widen (execRegFault_chg ..)⟩
  | regThermal => exact ⟨_, frame_widen (execRegThermal_chg ..)⟩
  | regRetryWaitEnd => exact ⟨_, frame_widen (execRegRetryWaitEnd_chg ..)⟩
  | regPg => exact ⟨_, frame_widen (execRegPg_chg ..)⟩
  | regRetryReset => exact ⟨_, frame_widen (execRegRetryReset_chg ..)⟩
  | regulatorClear => exact ⟨_, frame_widen (execRegulatorClear_chg ..)⟩
  | railFault => exact ⟨_, frame_widen (execRailFault_chg ..)⟩
  | railRestart => exact ⟨_, frame_widen (execRailRestart_chg ..)⟩
  | auxInLow => exact ⟨_, frame_widen (execAuxInLow_chg ..)⟩
  | pfail => exact ⟨_, frame_widen (execPfail_chg ..)⟩
  | pfailPowerDown => exact ⟨_, frame_widen (execPfailPowerDown_chg ..)⟩
  | dieTempMonitor => exact ⟨_, frame_widen (execDieTempMonitor_chg ..)⟩
  | journalEntryReceived => exact ⟨_, frame_widen (execJournalEntryReceived_chg ..)⟩
  | payloadFetch => exact ⟨_, frame_widen (execPayloadFetch_chg ..)⟩
  | journalEffect => exact ⟨_, frame_widen (execJournalEffect_chg ..)⟩
  | unmatchedCopyDiscard => exact ⟨_, frame_widen (execUnmatchedCopyDiscard_chg ..)⟩
  | strokeRecord => exact ⟨_, frame_widen (execStrokeRecord_chg ..)⟩
  | carouselAlignment => exact ⟨_, frame_widen (execCarouselAlignment_chg ..)⟩
  | misalignment => exact ⟨_, frame_widen (execMisalignment_chg ..)⟩
  | pairHeartbeat => exact ⟨_, frame_widen (execPairHeartbeat_chg ..)⟩
  | ringWatchdogLapse => exact ⟨_, frame_widen (execRingWatchdogLapse_chg ..)⟩
  | ringLost => exact ⟨_, frame_widen (execRingLost_chg ..)⟩
  | heartbeatLost => exact ⟨_, frame_widen (execHeartbeatLost_chg ..)⟩
  | newHolderDrive => exact ⟨_, frame_widen (execNewHolderDrive_chg ..)⟩
  | yield_ => exact ⟨_, frame_widen (execYield_chg ..)⟩
  | yieldMessage => exact ⟨_, frame_widen (execYieldMessage_chg ..)⟩
  | yieldExecute => exact ⟨_, frame_widen (execYieldExecute_chg ..)⟩
  | partnerDigest => exact ⟨_, frame_widen (execPartnerDigest_chg ..)⟩
  | divergenceResult => exact ⟨_, frame_widen (execDivergenceResult_chg ..)⟩
  | resyncDone => exact ⟨_, frame_widen (execResyncDone_chg ..)⟩
  | agreeingDriveTest => exact ⟨_, frame_widen (execAgreeingDriveTest_chg ..)⟩
  | ringBurst => exact ⟨_, frame_widen (execRingBurst_chg ..)⟩
  | healthReport => exact ⟨_, frame_widen (execHealthReport_chg ..)⟩
  | linkState => exact ⟨_, frame_widen (execLinkState_chg ..)⟩
  | recommission => exact ⟨_, frame_widen (execRecommission_chg ..)⟩
  | canFrameReceived => exact ⟨_, frame_widen (execCanFrameReceived_chg ..)⟩
  | canWindow => exact ⟨_, frame_widen (execCanWindow_chg ..)⟩
  | canTxDone => exact ⟨_, frame_widen (execCanTxDone_chg ..)⟩
  | canBusOffRecovery => exact ⟨_, frame_widen (execCanBusOffRecovery_chg ..)⟩
  | canRefLost => exact ⟨_, frame_widen (execCanRefLost_chg ..)⟩
  | ethFrameReceived => exact ⟨_, frame_widen (execEthFrameReceived_chg ..)⟩
  | ethLink => exact ⟨_, frame_widen (execEthLink_chg ..)⟩
  | ethAddrDup => exact ⟨_, frame_widen (execEthAddrDup_chg ..)⟩
  | telemetrySend => exact ⟨_, frame_widen (execTelemetrySend_chg ..)⟩
  | keyImport => exact ⟨_, frame_widen (execKeyImport_chg ..)⟩
  | keyDestroy => exact ⟨_, frame_widen (execKeyDestroy_chg ..)⟩
  | commission => exact ⟨_, frame_widen (execCommission_chg ..)⟩
  | retire => exact ⟨_, frame_widen (execRetire_chg ..)⟩
  | updateCheckDone => exact ⟨_, frame_widen (execUpdateCheckDone_chg ..)⟩
  | updateAbort => exact ⟨_, frame_widen (execUpdateAbort_chg ..)⟩
  | arm => exact ⟨_, frame_widen (execArm_chg ..)⟩
  | disarm => exact ⟨_, frame_widen (execDisarm_chg ..)⟩
  | armPrepareDone => exact ⟨_, frame_widen (execArmPrepareDone_chg ..)⟩
  | activationDeadline => exact ⟨_, frame_widen (execActivationDeadline_chg ..)⟩
  | activationDone => exact ⟨_, frame_widen (execActivationDone_chg ..)⟩
  | activationReverted => exact ⟨_, frame_widen (execActivationReverted_chg ..)⟩
  | rollbackAdvanced => exact ⟨_, frame_widen (execRollbackAdvanced_chg ..)⟩
  | rollbackCommit => exact ⟨_, frame_widen (execRollbackCommit_chg ..)⟩
  | legalRelease => exact ⟨_, frame_widen (execLegalRelease_chg ..)⟩
  | startStepComplete => exact ⟨_, frame_widen (execStartStepComplete_chg ..)⟩
  | logicDieRestart => exact ⟨_, frame_widen (execLogicDieRestart_chg ..)⟩
  | legEdge => exact ⟨_, frame_widen (execLegEdge_chg ..)⟩
  | legSample => exact ⟨_, frame_widen (execLegSample_chg ..)⟩
  | modulatorClock => exact ⟨_, frame_widen (execModulatorClock_chg ..)⟩
  | outcomeTextExpiry => exact ⟨_, frame_widen (execOutcomeTextExpiry_chg ..)⟩
  | dutyRampedToZero => exact ⟨_, frame_widen (execDutyRampedToZero_chg ..)⟩
  | timerOutputPulse => exact ⟨_, frame_widen (execTimerOutputPulse_chg ..)⟩
  | canReceiveError => exact ⟨_, frame_widen (execCanReceiveError_chg ..)⟩
  -- The one left is the seal, whose name Lean reserves.
  | _ => exact ⟨_, frame_widen (execSeal_chg ..)⟩

/-! What a shared operation can do: the change it is given, or nothing beyond the journal and the port. -/

theorem State.submit_cases (s : State) (j : JInput) (f : State → State) :
    s.submit j f = f s ∨ Chg [.pair] s (s.submit j f) := by
  unfold State.submit
  split
  · exact .inr (Chg.setPair ..)
  · exact .inr (Chg.setPair ..)
  · exact .inr (Chg.ite (Chg.refl ..) (Chg.setPair ..))
  · exact .inr (Chg.ite (Chg.refl ..) (Chg.setPair ..))
  all_goals exact .inl rfl

theorem State.op_cases (s : State) (c : ConnNo) (m : Mode → Bool) (f : Conn → State → State) :
    (∃ k, s.op c m f = f k s) ∨ Chg [.port] s (s.op c m f) := by
  unfold State.op
  split
  next => exact .inr (Chg.refl ..)
  next k _ =>
    split
    · exact .inr (Chg.setPort ..)
    · split
      · exact .inl ⟨k, rfl⟩
      · exact .inr (State.answer_chg ..)

theorem State.guarded_cases (s : State) (c : ConnNo) (o : Obis) (r : Right) (f : Conn → State → State) :
    (∃ k, s.guarded c o r f = f k s) ∨ Chg [.port] s (s.guarded c o r f) := by
  unfold State.guarded
  obtain ⟨k, hk⟩ | h := s.op_cases c inService fun conn s =>
    if s.absent o then s.answer c 2 else if s.hasRight conn.role r o then f conn s else s.answer c 1
  · rw [hk]
    split
    · exact .inr (State.answer_chg ..)
    · split
      · exact .inl ⟨k, rfl⟩
      · exact .inr (State.answer_chg ..)
  · exact .inr h

theorem State.request_cases (s : State) (c : ConnNo) (k : Conn) (r : OpReq) (f : Caller → State → State) :
    (∃ x z, Chg [.pair, .port] s z ∧ s.request c k r f = f x z) ∨ Chg [.pair, .port] s (s.request c k r f) := by
  have hasked := (State.modConn_chg s c fun k => { k with slots := k.slots ++ [.pending] }).widen
    (M := [.pair, .port]) rfl
  obtain h | h := (s.modConn c fun k => { k with slots := k.slots ++ [.pending] }).submit_cases
    (.op true c k.role k.addr r) (f (callerOf true c k.role k.addr))
  · exact .inl ⟨_, _, hasked, h⟩
  · exact .inr (hasked.step h rfl)

theorem State.change_cases (s : State) (c : ConnNo) (o : Obis) (r : Right) (q : OpReq) (f : Caller → State → State) :
    (∃ x z, Chg [.pair, .port] s z ∧ s.change c o r q f = f x z) ∨ Chg [.pair, .port] s (s.change c o r q f) := by
  unfold State.change
  obtain ⟨k, hk⟩ | h := s.op_cases c inService fun conn s =>
    if s.absent o then s.answer c 2 else if s.hasRight conn.role r o then s.request c conn q f else s.answer c 1
  · rw [hk]
    split
    · exact .inr ((State.answer_chg ..).widen rfl)
    · split
      · exact s.request_cases c k q f
      · exact .inr ((State.answer_chg ..).widen rfl)
  · exact .inr (h.widen rfl)

/-! The fixed identity: fuses, one-time programmable values and the strap pin (R1, R579, R669). -/

/-- The serial number, the ordering code and the pair position are the same. -/
structure IdKept (s u : State) : Prop where
  serial : u.ident.serial = s.ident.serial
  orderN : u.ident.orderN = s.ident.orderN
  pairPos : u.ident.pairPos = s.ident.pairPos

theorem IdKept.trans {a b c : State} (h : IdKept a b) (k : IdKept b c) : IdKept a c :=
  ⟨k.serial.trans h.serial, k.orderN.trans h.orderN, k.pairPos.trans h.pairPos⟩

theorem IdKept.of_chg {L : List Part} {s u : State} (h : Chg L s u) (hL : L.contains .ident = false) : IdKept s u := by
  have hident := h.ident hL
  exact ⟨by rw [hident], by rw [hident], by rw [hident]⟩

theorem State.setLife_idKept (s : State) (l : Life) : IdKept s (s.setLife l) := by
  unfold State.setLife
  split
  · exact ⟨rfl, rfl, rfl⟩
  · exact ⟨rfl, rfl, rfl⟩

theorem State.opSeal_idKept (s : State) (c : Caller) : IdKept s (s.opSeal c) := by
  unfold State.opSeal
  split
  · exact .of_chg (State.reply_chg ..) rfl
  · extract_lets h ended sealed logged
    have hended : Chg [.scribe, .port] s ended := Chg.ite (State.endPeriod_chg s) (Chg.refl ..)
    have hsealed : Chg [.scribe, .port] s sealed := hended.step (State.modScribe_chg ..) rfl
    have hlogged : Chg [.scribe, .port] s logged :=
      (hsealed.step (State.metLogAdd_chg ..) rfl).step (State.raiseS_chg ..) rfl
    exact ((IdKept.of_chg hlogged rfl).trans (State.setLife_idKept ..)).trans (.of_chg (State.reply_chg ..) rfl)

theorem State.opSealBreak_idKept (s : State) (c : Caller) : IdKept s (s.opSealBreak c) := by
  unfold State.opSealBreak
  split
  · exact .of_chg (State.reply_chg ..) rfl
  · extract_lets ended h broken logged flagged
    have hended : Chg [.scribe, .port, .tamper] s ended := Chg.ite ((State.endPeriod_chg s).widen rfl) (Chg.refl ..)
    have hbroken : Chg [.scribe, .port, .tamper] s broken := hended.step (State.modScribe_chg ..) rfl
    have hlogged : Chg [.scribe, .port, .tamper] s logged :=
      (hbroken.step (State.metLogAdd_chg ..) rfl).step (State.raiseS_chg ..) rfl
    have hflagged : Chg [.scribe, .port, .tamper] s flagged := hlogged.step (State.modSessions_chg ..) rfl
    have hcounted := hflagged.step (State.countTamper_chg flagged 13) rfl
    exact ((IdKept.of_chg hcounted rfl).trans (State.setLife_idKept ..)).trans (.of_chg (State.reply_chg ..) rfl)

theorem State.opRecommission_idKept (s : State) (c : Caller) (p : PartnerInfo) : IdKept s (s.opRecommission c p) := by
  unfold State.opRecommission
  split
  · exact .of_chg (State.reply_chg ..) rfl
  · extract_lets _ bound opened
    have hbound : IdKept s bound := ⟨rfl, rfl, rfl⟩
    have hopened : IdKept bound opened := .of_chg (State.modScribe_chg ..) rfl
    exact ((hbound.trans hopened).trans (.of_chg (State.raise_chg ..) rfl)).trans (.of_chg (State.reply_chg ..) rfl)

/-- Pairing and the binding of a partner (R580, R612) write the partner's fields alone. -/
theorem State.pairOutcome_idKept (s : State) (p : PartnerInfo) : IdKept s (s.pairOutcome p) := by
  unfold State.pairOutcome
  extract_lets service replacedTold _ named kept st told adopted
  split
  case h_1 => exact ⟨rfl, rfl, rfl⟩
  case h_2 cause held _ =>
    extract_lets told
    have htold : IdKept s told := .of_chg (State.raise_chg ..) rfl
    split
    · exact htold.trans (.of_chg (State.hold__chg ..) rfl)
    · split
      · exact htold
      · exact htold.trans (.of_chg (State.settle_chg ..) rfl)
  case h_3 => exact .of_chg (State.hold__chg ..) rfl
  case h_4 =>
    have htold : IdKept s replacedTold := by
      unfold replacedTold
      split
      · exact ⟨rfl, rfl, rfl⟩
      · exact ((IdKept.of_chg (State.modPair_chg ..) rfl).trans (.of_chg (State.raise_chg ..) rfl)).trans
          (.of_chg (State.countTamper_chg ..) rfl)
    split
    · exact htold
    · exact htold.trans (.of_chg (State.settle_chg ..) rfl)
  case h_5 =>
    have hnamed : IdKept s named := ⟨rfl, rfl, rfl⟩
    have htold : IdKept s told :=
      (hnamed.trans (.of_chg (State.modPair_chg ..) rfl)).trans (.of_chg (State.raise_chg ..) rfl)
    split
    · exact htold.trans (.of_chg (State.modPair_chg ..) rfl)
    · have hadopted : IdKept s adopted := by
        unfold adopted
        split
        · exact htold
        · exact htold.trans (.of_chg (State.modCar_chg ..) rfl)
      split
      · exact (hadopted.trans (.of_chg (State.settle_chg ..) rfl)).trans (.of_chg (State.enterResync_chg ..) rfl)
      · exact hadopted.trans (.of_chg (State.settle_chg ..) rfl)

theorem State.rebind_idKept (s : State) (p : PartnerInfo) : IdKept s (s.rebind p) := by
  unfold State.rebind
  split
  · exact IdKept.trans (b := { s with ident := { s.ident with partnerSerial := p.serial, partnerHash := some p.idHash } })
      ⟨rfl, rfl, rfl⟩ (.of_chg (State.restart_chg ..) rfl)
  · exact ⟨rfl, rfl, rfl⟩

/-- The operations of a client that write the identity or a flash. -/
def opLasting : OpReq → Bool
  | OpReq.seal | .sealBreak | .recommission _ | .updatePiece .. => true
  | _ => false

/-- Every other operation leaves the flashes and the identity alone. -/
theorem State.applyOp_chg_work (s : State) (c : Caller) (arrival : Nat) (q : OpReq) (h : opLasting q = false) :
    Chg workParts s (s.applyOp c arrival q) := by
  cases q with
  | sealBreak => cases h
  | recommission p => cases h
  | wall sec nsec => exact (State.opWall_chg ..).widen rfl
  | curtailment limitKw validS => exact (State.opCurt_chg ..).widen rfl
  | matrixClear g => exact (State.opMatrixClear_chg ..).widen rfl
  | legClear leg => exact (State.opLegClear_chg ..).widen rfl
  | lawClear l => exact (State.opLawClear_chg ..).widen rfl
  | keyImport slot k => exact (State.opKeyImport_chg ..).widen rfl
  | keyDestroy slot => exact (State.opKeyDestroy_chg ..).widen rfl
  | loadSwitchClear ls => exact (State.opLsClear_chg ..).widen rfl
  | pumpClear pump => exact (State.opPumpClear_chg ..).widen rfl
  | regulatorClear buck => exact (State.opRegClear_chg ..).widen rfl
  | yield_ => exact (State.opYield_chg ..).widen rfl
  | commit code boundary base recs => exact (State.opCommit_chg ..).widen rfl
  | acknowledge fn => exact (State.opAcknowledge_chg ..).widen rfl
  | safetyChange pw ch => exact (State.opSafetyChange_chg ..).widen rfl
  | updatePiece piece data sigOk => cases h
  | updateAbort kind2 => exact (State.opAbort_chg ..).widen rfl
  | arm deadlineMin drain => exact (State.opArm_chg ..).widen rfl
  | disarm => exact (State.opDisarm_chg ..).widen rfl
  | rollbackCommit => exact (State.opRollback_chg ..).widen rfl
  | legalRelease partHash legalVer => exact (State.opLegal_chg ..).widen rfl
  -- The one left is the seal, whose name Lean reserves.
  | _ => cases h

theorem State.applyOp_idKept (s : State) (c : Caller) (arrival : Nat) (q : OpReq) : IdKept s (s.applyOp c arrival q) := by
  cases h : opLasting q with
  | false => exact .of_chg (s.applyOp_chg_work c arrival q h) rfl
  | true =>
    unfold opLasting at h
    split at h
    case h_1 => exact State.opSeal_idKept ..
    case h_2 => exact State.opSealBreak_idKept ..
    case h_3 => exact State.opRecommission_idKept ..
    case h_4 => exact .of_chg (State.opPiece_chg ..) rfl
    case h_5 => cases h

/-- Every input but an operation of a client leaves the flashes and the identity alone. -/
theorem State.applyInput_chg_work (s : State) (tick stamp : Nat) (j : JInput) (hop : ∀ here c role addr q, j ≠ .op here c role addr q) :
    Chg workParts s (s.applyInput tick stamp j) := by
  unfold State.applyInput
  cases j with
  | vlink => exact (State.takeVlink_chg ..).widen rfl
  | dio => exact (State.takeDio_chg ..).widen rfl
  | hello => exact (State.takeHello_chg ..).widen rfl
  | canFrame => exact (State.canDeliver_chg ..).widen rfl
  | gridCommand => exact (State.takeGrid_chg ..).widen rfl
  | contactorStatus => exact (State.takeContactor_chg ..).widen rfl
  | dcuStatus => exact (State.takeDcu_chg ..).widen rfl
  | op here c role addr q => exact absurd rfl (hop here c role addr q)
  | aiSample => exact (State.takeSamples_chg ..).widen rfl
  | random => exact (State.takeRandom_chg ..).widen rfl
  | ink => exact (State.takeInk_chg ..).widen rfl
  | legFault => exact (State.takeFault_chg ..).widen rfl
  | lawChange l k =>
    cases k with
    | overruns8 => exact (State.stopLaw_chg ..).widen rfl
    | overrun => exact (State.coastLaw_chg ..).widen rfl
  | feedbackLost => exact (State.loseChannel_chg ..).widen rfl
  | clockLost => exact (State.loseClock_chg ..).widen rfl
  | release => exact (State.releaseTask_chg ..).widen rfl
  | carousel c => exact Chg.ite ((State.applyCar_chg ..).widen rfl) (Chg.refl ..)
  | curtSilent => exact (State.fallSilent_chg ..).widen rfl
  | matrixTimeout => exact (State.matrixExpired_chg ..).widen rfl
  | dispTempStale => exact (State.staleTemp_chg ..).widen rfl
  | dcuSilent => exact (State.dcuLost_chg ..).widen rfl
  | seccTimeout => exact (State.seccExpired_chg ..).widen rfl
  | authWait => exact (State.authExpired_chg ..).widen rfl
  | pauseMax => exact (State.pauseExpired_chg ..).widen rfl
  | entryTimeout => exact (State.dropEntryBuffer_chg ..).widen rfl
  | outcomeTextExpiry => exact (State.dropText_chg ..).widen rfl
  | changeDisplayTimeout => exact (State.dropChange_chg ..).widen rfl
  | dioPause => exact (State.dioSilent_chg ..).widen rfl
  | dioEnd => exact (State.dioEnded_chg ..).widen rfl
  | noCounter => exact (State.goNoCounter_chg ..).widen rfl
  | canRefLost => exact (State.loseCanRef_chg ..).widen rfl
  | revisionCancelled => exact (State.revisionCancel_chg ..).widen rfl
  | activationBoundary => exact (State.nameBoundary_chg ..).widen rfl
  | activationDeadline => exact (State.passDeadline_chg ..).widen rfl
  | mark => exact (State.markHolds_chg ..).widen rfl
  | wallStep => exact (State.ptpStep_chg ..).widen rfl
  | wallSlew => exact (State.ptpSlew_chg ..).widen rfl
  | ptpState => exact (State.wallPtp_chg ..).widen rfl
  | legsOff => exact (State.takeLegsOff_chg ..).widen rfl
  | tamperInput => exact (State.takeTamper_chg ..).widen rfl

theorem State.applyInput_idKept (s : State) (tick stamp : Nat) (j : JInput) : IdKept s (s.applyInput tick stamp j) := by
  by_cases hop : ∃ here c role addr q, j = .op here c role addr q
  · obtain ⟨here, c, role, addr, q, rfl⟩ := hop
    exact State.applyOp_idKept ..
  · exact .of_chg (s.applyInput_chg_work tick stamp j fun here c role addr q h => hop ⟨here, c, role, addr, q, h⟩) rfl

/-- JOURNAL_EFFECT applies the input of an entry, or touches the pair, the port and the drives alone. -/
theorem exec_journalEffect_cases (t jseq : Nat) (s : State) :
    ∃ u, exec (.journalEffect t jseq) s = .next u ∧
      ((∃ z tick stamp j, Chg [.keys, .pair, .port, .tokens] (s.advance t) z ∧ u = z.applyInput tick stamp j) ∨
        Chg [.pair, .port, .drives] (s.advance t) u) := by
  refine ⟨_, rfl, ?_⟩
  generalize s.advance t = z
  split
  next x _ _ =>
    split
    · split
      · exact .inr (State.missEntry_chg ..)
      · exact .inr (Chg.refl ..)
    · split
      · unfold State.applyEntry
        extract_lets q
        split
        · exact .inr ((State.popEntry_chg ..).widen rfl)
        · split
          next i _ =>
            have hpopped : Chg [.keys, .pair, .port, .tokens] z (z.settleHolds.popEntry q) :=
              ((State.settleHolds_chg z).widen rfl).step (State.popEntry_chg ..) rfl
            exact .inl ⟨_, _, _, i, hpopped, rfl⟩
          next =>
            split
            · exact .inr (Chg.refl ..)
            · exact .inr (((State.popEntry_chg z q).widen rfl).step (State.missEntry_chg ..) rfl)
      · exact .inr (Chg.refl ..)
  next => exact .inr (Chg.ite (State.missEntry_chg ..) (Chg.refl ..))

theorem exec_commission_idKept (t : Nat) (c : ConnNo) (hubId partner : Nat) (s : State) :
    ∃ u, exec (.commission t c hubId partner) s = .next u ∧ IdKept (s.advance t) u := by
  refine ⟨_, rfl, ?_⟩
  generalize s.advance t = z
  obtain ⟨k, h⟩ | h := z.guarded_cases c (dev 145 6 0) .execute _
  · rw [h]
    split
    · exact .of_chg (State.answer_chg ..) rfl
    · split
      · exact .of_chg (State.answer_chg ..) rfl
      · extract_lets keyed _ bound
        have hkeyed : IdKept z keyed := .of_chg (State.modSlot_chg ..) rfl
        have hbound : IdKept keyed bound := ⟨rfl, rfl, rfl⟩
        exact (((hkeyed.trans hbound).trans (.of_chg (State.firstOpen_chg ..) rfl)).trans (State.setLife_idKept ..)).trans
          (.of_chg (State.answer_chg ..) rfl)
  · exact .of_chg h rfl

theorem exec_retire_idKept (t : Nat) (c : ConnNo) (serial : Nat) (s : State) :
    ∃ u, exec (.retire t c serial) s = .next u ∧ IdKept (s.advance t) u := by
  refine ⟨_, rfl, ?_⟩
  generalize s.advance t = z
  obtain ⟨k, h⟩ | h := z.guarded_cases c (dev 145 7 0) .execute _
  · rw [h]
    split
    · exact .of_chg (State.answer_chg ..) rfl
    · split
      · exact .of_chg (State.answer_chg ..) rfl
      · extract_lets _ wiped
        have hwiped : IdKept z wiped := ⟨rfl, rfl, rfl⟩
        exact ((hwiped.trans (State.setLife_idKept ..)).trans (.of_chg (State.answer_chg ..) rfl)).trans
          (.of_chg (State.restart_chg ..) rfl)
  · exact .of_chg h rfl

theorem exec_pairing_idKept (t : Nat) (p : PartnerInfo) (s : State) :
    ∃ u, exec (.pairing t p) s = .next u ∧ IdKept (s.advance t) u := by
  refine ⟨_, rfl, ?_⟩
  split
  · exact State.rebind_idKept ..
  · split
    · exact State.pairOutcome_idKept ..
    · exact ⟨rfl, rfl, rfl⟩

theorem State.change_idKept {s : State} {c : ConnNo} {o : Obis} {r : Right} {q : OpReq} {f : Caller → State → State}
    (hf : ∀ x z, IdKept z (f x z)) : IdKept s (s.change c o r q f) := by
  obtain ⟨x, z, hz, h⟩ | h := s.change_cases c o r q f
  · rw [h]
    exact (IdKept.of_chg hz rfl).trans (hf x z)
  · exact .of_chg h rfl

theorem exec_journalEffect_idKept (t jseq : Nat) (s : State) :
    ∃ u, exec (.journalEffect t jseq) s = .next u ∧ IdKept (s.advance t) u := by
  obtain ⟨u, hu, ⟨z, tick, stamp, j, hz, rfl⟩ | hc⟩ := exec_journalEffect_cases t jseq s
  · exact ⟨_, hu, (IdKept.of_chg hz rfl).trans (State.applyInput_idKept ..)⟩
  · exact ⟨_, hu, .of_chg hc rfl⟩

/-- No command touches the fixed identity. -/
theorem exec_idKept (i : Instr) (s : State) : ∃ t u, exec i s = .next u ∧ IdKept (s.advance t) u := by
  obtain ⟨t, u, hu, hc⟩ := exec_chg i s
  by_cases hp : (instrParts i).contains .ident = false
  · exact ⟨t, u, hu, .of_chg hc hp⟩
  · unfold instrParts at hp
    split at hp
    case h_1 => exact absurd rfl hp
    case h_2 => exact absurd rfl hp
    case h_3 => exact ⟨_, exec_commission_idKept ..⟩
    case h_4 => exact ⟨_, exec_retire_idKept ..⟩
    case h_5 => exact ⟨_, exec_pairing_idKept ..⟩
    case h_6 => exact ⟨_, _, rfl, State.change_idKept fun x z => State.opRecommission_idKept ..⟩
    case h_7 => exact ⟨_, _, rfl, State.change_idKept fun x z => State.opSeal_idKept ..⟩
    case h_8 => exact ⟨_, _, rfl, State.change_idKept fun x z => State.opSealBreak_idKept ..⟩
    case h_9 => exact ⟨_, exec_journalEffect_idKept ..⟩
    case h_10 => exact absurd rfl hp

/-- Settles O2: every command has a frame without the queue, and the seven that write the identity keep its fixed fields. -/
theorem everyCommandCompletes : Obligations.EveryCommandCompletes := by
  unfold Obligations.EveryCommandCompletes
  intro i s
  obtain ⟨t, u, hu, hc⟩ := exec_chg i s
  obtain ⟨t', v, hv, hid⟩ := exec_idKept i s
  cases hu.symm.trans hv
  have hqueue : (instrParts i).contains .pending = false := by
    unfold instrParts
    split <;> rfl
  have hadv : (s.advance t').ident = s.ident := rfl
  exact ⟨u, hu, hc.pending hqueue, hid.serial, hid.orderN, hid.pairPos⟩

/-- Settles O1: both branches of a step, by its definition. -/
theorem stepRunsFrontCommand : Obligations.StepRunsFrontCommand := by
  unfold Obligations.StepRunsFrontCommand
  constructor
  · intro s c rest hqueue
    rw [step, hqueue]
  · intro s hqueue
    rw [step, hqueue]

/-! The flashes: what is written goes to the other bank, and keeps the form of both (R66, R67). -/

/-- The flash of bank `k` is the same, and both flashes keep their form. -/
structure FlashKept (k : BankId) (s u : State) : Prop where
  bank : u.flash.bank k = s.flash.bank k
  form : FlashOk s → FlashOk u

theorem FlashKept.trans {k : BankId} {a b c : State} (h : FlashKept k a b) (g : FlashKept k b c) : FlashKept k a c :=
  ⟨g.bank.trans h.bank, fun ha => g.form (h.form ha)⟩

theorem FlashKept.of_chg {k : BankId} {L : List Part} {s u : State} (h : Chg L s u) (hL : L.contains .flash = false) :
    FlashKept k s u := ⟨by rw [h.flash hL], fun hs => hs.of_chg h hL⟩

theorem otherBank_ne (k : BankId) : otherBank k ≠ k := by cases k <;> decide

theorem State.writePage_bank_ne (s : State) {j k : BankId} (h : j ≠ k) (p : Nat) (d : List W32) :
    (s.writePage j p d).flash.bank k = s.flash.bank k := by
  cases j <;> cases k <;> first | rfl | exact absurd rfl h

theorem State.putBank_bank_ne (s : State) {j k : BankId} (h : j ≠ k) (f : Flash) :
    (s.putBank j f).flash.bank k = s.flash.bank k := by
  cases j <;> cases k <;> first | rfl | exact absurd rfl h

theorem State.spare_ne (s : State) : s.spare ≠ s.startup.bank := otherBank_ne _

theorem State.writePage_flashKept (s : State) {j k : BankId} (h : j ≠ k) (p : Nat) (d : List W32) :
    FlashKept k s (s.writePage j p d) :=
  ⟨s.writePage_bank_ne h p d, fun hs => State.writePage_flashOk hs ..⟩

theorem State.writePages_flashKept (s : State) {j k : BankId} (h : j ≠ k) (p : Nat) (w : List W32) (n : Nat) :
    FlashKept k s (s.writePages j p w n) := by
  refine ⟨?_, fun hs => State.writePages_flashOk hs ..⟩
  unfold State.writePages
  induction List.range n generalizing s with
  | nil => rfl
  | cons a l ih => exact (ih _).trans (s.writePage_bank_ne h _ _)

theorem State.prepare_flashKept (s : State) : FlashKept s.startup.bank s s.prepare :=
  ⟨State.putBank_bank_ne _ s.spare_ne _, State.prepare_flashOk⟩

theorem State.takePiece_flashKept (s : State) (c : Caller) (k2 : Bool) (i : Nat) (data : List W32) :
    FlashKept s.startup.bank s (s.takePiece c k2 i data) := by
  unfold State.takePiece
  extract_lets x hl all counted told written grown
  have hreply (n : Nat) (v : List Int) : FlashKept s.startup.bank s (s.reply c n v) := .of_chg (State.reply_chg ..) rfl
  split
  · exact hreply ..
  split
  · exact hreply ..
  split
  · exact hreply ..
  split
  · exact hreply ..
  split
  · have htold : Chg [.update, .port] s told :=
      Chg.ite (((State.modStaging_chg ..).widen rfl).step (State.raise_chg ..) rfl) ((State.modStaging_chg ..).widen rfl)
    exact .of_chg (htold.step (State.reply_chg ..) rfl) rfl
  · have hwritten : FlashKept s.startup.bank s written := s.writePage_flashKept s.spare_ne ..
    exact (hwritten.trans (.of_chg (State.modStaging_chg ..) rfl)).trans (.of_chg (State.reply_chg ..) rfl)

theorem State.beginStaging_flashKept (s : State) (k2 : Bool) (h : List W32) :
    FlashKept s.startup.bank s (s.beginStaging k2 h) := by
  unfold State.beginStaging
  extract_lets dropped staged written
  have hstaged : Chg [.juggler, .barker, .scribe, .update, .port, .tokens] s staged :=
    (((State.abandon_chg ..).widen rfl).step (State.disarm_chg ..) rfl).step (State.modStaging_chg ..) rfl
  have hbank : staged.startup.bank = s.startup.bank := by rw [hstaged.startup rfl]
  have hwritten : FlashKept s.startup.bank s written := by
    unfold written
    split
    · exact .of_chg hstaged rfl
    · exact (FlashKept.of_chg hstaged rfl).trans (staged.writePages_flashKept (hbank ▸ staged.spare_ne) ..)
  exact (hwritten.trans (.of_chg (State.modUpdate_chg ..) rfl)).trans (.of_chg (State.raise_chg ..) rfl)

theorem State.takeHeader_flashKept (s : State) (c : Caller) (k2 ok : Bool) :
    FlashKept s.startup.bank s (s.takeHeader c k2 ok) := by
  unfold State.takeHeader
  extract_lets x h emptied form v
  have hemptied : Chg [.update, .keys, .port] s emptied := (State.modStaging_chg ..).widen rfl
  have hv : Chg [.update, .keys, .port] s v.2 := by
    unfold v
    split
    · exact hemptied.step (State.pkgSigned_chg ..) rfl
    · exact hemptied
  have hbank : v.2.startup.bank = s.startup.bank := by rw [hv.startup rfl]
  clear_value v
  split
  · exact .of_chg (hemptied.step (State.reply_chg ..) rfl) rfl
  · split
    · exact .of_chg (((hv.step (State.modStaging_chg ..) rfl).step (State.raise_chg ..) rfl).step (State.reply_chg ..) rfl) rfl
    · exact ((FlashKept.of_chg hv rfl).trans (hbank ▸ v.2.beginStaging_flashKept ..)).trans
        (.of_chg (State.reply_chg ..) rfl)

theorem State.opPiece_flashKept (s : State) (c : Caller) (piece : Nat) (data : List W32) (sigOk : Bool) :
    FlashKept s.startup.bank s (s.opPiece c piece data sigOk) := by
  unfold State.opPiece
  extract_lets k2 i held n
  split
  · exact State.takePiece_flashKept ..
  · have hheld : Chg [.update] s held := State.modStaging_chg ..
    have hbank : held.startup.bank = s.startup.bank := rfl
    split
    · exact (FlashKept.of_chg hheld rfl).trans (hbank ▸ held.takeHeader_flashKept ..)
    · exact (FlashKept.of_chg hheld rfl).trans (.of_chg (State.reply_chg ..) rfl)

theorem exec_updatePiece_flashKept (t : Nat) (c : ConnNo) (piece : Nat) (data : List W32) (sigOk : Bool) (s : State) :
    ∃ u, exec (.updatePiece t c piece data sigOk) s = .next u ∧ FlashKept s.startup.bank (s.advance t) u := by
  refine ⟨_, rfl, ?_⟩
  have hadv : (s.advance t).startup.bank = s.startup.bank := rfl
  rw [← hadv]
  generalize s.advance t = z
  obtain ⟨k, h⟩ | h := z.op_cases c (fun m => m = .refused || m = .held || m = .service) _
  · rw [h]
    split
    · exact .of_chg (State.answer_chg ..) rfl
    · split
      · exact .of_chg (State.answer_chg ..) rfl
      · obtain ⟨x, y, hy, h⟩ | h := z.request_cases c k (.updatePiece piece data sigOk) fun c s => s.opPiece c piece data sigOk
        · rw [h]
          have hbank : y.startup.bank = z.startup.bank := by rw [hy.startup rfl]
          exact (FlashKept.of_chg hy rfl).trans (hbank ▸ y.opPiece_flashKept ..)
        · exact .of_chg h rfl
  · exact .of_chg h rfl

theorem exec_armPrepareDone_flashKept (t : Nat) (partner : Option Bool) (obs : ImageObs) (s : State) :
    ∃ u, exec (.armPrepareDone t partner obs) s = .next u ∧ FlashKept s.startup.bank (s.advance t) u := by
  refine ⟨_, rfl, ?_⟩
  have hadv : (s.advance t).startup.bank = s.startup.bank := rfl
  rw [← hadv]
  generalize s.advance t = z
  have hprepare := z.prepare_flashKept
  split
  · exact .of_chg (Chg.refl [] z) rfl
  · split
    · extract_lets prepared
      split
      · exact hprepare.trans (.of_chg (State.modUpdate_chg ..) rfl)
      · exact hprepare.trans (.of_chg (State.disarm_chg ..) rfl)
    · split
      · exact .of_chg (State.modUpdate_chg ..) rfl
      · exact .of_chg (State.disarm_chg ..) rfl

theorem State.applyInput_flashKept (s : State) (tick stamp : Nat) (j : JInput) :
    FlashKept s.startup.bank s (s.applyInput tick stamp j) := by
  by_cases hop : ∃ here c role addr q, j = .op here c role addr q
  · obtain ⟨here, c, role, addr, q, rfl⟩ := hop
    have happly : s.applyInput tick stamp (.op here c role addr q) = s.applyOp (callerOf here c role addr) stamp q := rfl
    rw [happly]
    cases h : opLasting q with
    | false => exact .of_chg (State.applyOp_chg_work _ _ _ q h) rfl
    | true =>
      unfold opLasting at h
      split at h
      case h_1 => exact .of_chg (State.opSeal_chg ..) rfl
      case h_2 => exact .of_chg (State.opSealBreak_chg ..) rfl
      case h_3 => exact .of_chg (State.opRecommission_chg ..) rfl
      case h_4 => exact State.opPiece_flashKept ..
      case h_5 => cases h
  · exact .of_chg (s.applyInput_chg_work tick stamp j fun here c role addr q h => hop ⟨here, c, role, addr, q, h⟩) rfl

theorem exec_journalEffect_flashKept (t jseq : Nat) (s : State) :
    ∃ u, exec (.journalEffect t jseq) s = .next u ∧ FlashKept s.startup.bank (s.advance t) u := by
  obtain ⟨u, hu, ⟨z, tick, stamp, j, hz, rfl⟩ | hc⟩ := exec_journalEffect_cases t jseq s
  · have hbank : z.startup.bank = s.startup.bank := by rw [hz.startup rfl]; rfl
    exact ⟨_, hu, (FlashKept.of_chg hz rfl).trans (hbank ▸ z.applyInput_flashKept ..)⟩
  · exact ⟨_, hu, .of_chg hc rfl⟩

/-- No command writes the flash of the bank in use, and each keeps the form of both. -/
theorem exec_flashKept (i : Instr) (s : State) : ∃ u, exec i s = .next u ∧ FlashKept s.startup.bank s u := by
  have hadv (t : Nat) : FlashKept s.startup.bank s (s.advance t) := .of_chg (State.advance_chg ..) rfl
  have hrun {t : Nat} (h : ∃ u, exec i s = .next u ∧ FlashKept s.startup.bank (s.advance t) u) :
      ∃ u, exec i s = .next u ∧ FlashKept s.startup.bank s u := by
    obtain ⟨u, hu, hk⟩ := h
    exact ⟨u, hu, (hadv t).trans hk⟩
  obtain ⟨t, u, hu, hc⟩ := exec_chg i s
  by_cases hp : (instrParts i).contains .flash = false
  · exact hrun ⟨u, hu, .of_chg hc hp⟩
  · clear hu hc
    unfold instrParts at hp
    split at hp
    case h_1 => exact hrun (exec_armPrepareDone_flashKept ..)
    case h_2 => exact hrun (exec_updatePiece_flashKept ..)
    case h_9 => exact hrun (exec_journalEffect_flashKept ..)
    all_goals exact absurd rfl hp

theorem step_flashKept {s u : State} (h : step s = .next u) : FlashKept s.startup.bank s u := by
  unfold step at h
  split at h
  · cases h
    exact .of_chg (Chg.refl [] s) rfl
  next i rest _ =>
    obtain ⟨v, hv, hk⟩ := exec_flashKept i { s with pending := rest }
    cases hv.symm.trans h
    exact (FlashKept.of_chg (Chg.setPending s rest) rfl).trans hk

/-- Settles O3: pieces, headers and the preparation write whole pages at their places, and no other command writes a flash. -/
theorem stepKeepsFlashes : Obligations.StepKeepsFlashes := by
  unfold Obligations.StepKeepsFlashes
  intro s u hform hstep
  exact (step_flashKept hstep).form hform

/-- Settles O4: what writes a flash writes that of the spare bank. -/
theorem stepKeepsTheActiveBank : Obligations.StepKeepsTheActiveBank := by
  unfold Obligations.StepKeepsTheActiveBank
  intro s u hstep
  exact (step_flashKept hstep).bank

/-! The state after reset. -/

theorem vget_replicate {α : Type} (n i : Nat) (x : α) : vget (Vector.replicate n x) i x = x := by
  by_cases h : i < n
  · rw [vget_of_lt _ _ _ h, Vector.getElem_replicate]
  · exact vget_of_ge _ _ _ (not_lt.mp h)

theorem State.reset_leg (n : Nat) : State.reset.leg n = {} := vget_replicate ..
theorem State.reset_out (n : Nat) : vget State.reset.safety.outs n {} = {} := vget_replicate ..
theorem State.reset_pump (n : Nat) : State.reset.pump n = {} := vget_replicate ..
theorem State.reset_ls (n : Nat) : State.reset.ls n = {} := vget_replicate ..

theorem State.reset_safe : Safe State.reset := by
  constructor
  · intro n _ h
    rw [State.reset_leg] at h
    cases h.1
  · intro n _ _
    rw [State.reset_out]

theorem State.reset_flashOk : FlashOk State.reset := ⟨Flash.empty_wf, Flash.empty_wf⟩

/-- Settles O5: every field at its default. -/
theorem resetState : Obligations.ResetState := by
  unfold Obligations.ResetState
  refine ⟨rfl, rfl, rfl, rfl, rfl, ?_, ?_, ?_, ?_, ?_, ?_, rfl, ?_, rfl, State.reset_flashOk, ?_, State.reset_safe⟩
  · decide
  · intro n _
    rw [State.reset_leg]
    exact ⟨rfl, rfl⟩
  · intro n _
    rw [State.reset_out]
  · intro n _
    rw [State.reset_pump]
  · intro n _
    rw [State.reset_ls]
  · intro n
    exact Vector.getElem_replicate n.isLt
  · intro c
    exact Vector.getElem_replicate c.isLt
  · exact Nat.zero_le _

end Sys2Proof.Machine
end

section
/-!
Proofs of the family of the Carousel (chapter 2): what a change of a reference set and a transition of Table 2.1 leave, the
references, the states, and the boundaries of strokes and half-turns.
-/
namespace Sys2Proof.Machine
open Sys2Proof Sys2Proof.Config

/-! Reading the Carousel after the operations on it. -/

@[simp] theorem Carousel.set_modSet_same (c : Carousel) (i : SetId) (f : RefSet → RefSet) :
    (c.modSet i f).set i = f (c.set i) := by cases i <;> rfl

@[simp] theorem Carousel.set_modSet_other (c : Carousel) (i : SetId) (f : RefSet → RefSet) :
    (c.modSet i f).set (otherSet i) = c.set (otherSet i) := by cases i <;> rfl

@[simp] theorem Carousel.modSet_st (c : Carousel) (i : SetId) (f : RefSet → RefSet) : (c.modSet i f).st = c.st := by
  cases i <;> rfl

@[simp] theorem Carousel.modSet_followed (c : Carousel) (i : SetId) (f : RefSet → RefSet) :
    (c.modSet i f).followed = c.followed := by cases i <;> rfl

@[simp] theorem Carousel.modSet_phase (c : Carousel) (i : SetId) (f : RefSet → RefSet) :
    (c.modSet i f).phase = c.phase := by cases i <;> rfl

@[simp] theorem Carousel.modSet_holdCount (c : Carousel) (i : SetId) (f : RefSet → RefSet) :
    (c.modSet i f).holdCount = c.holdCount := by cases i <;> rfl

theorem otherSet_ne (i : SetId) : otherSet i ≠ i := by cases i <;> decide

theorem eq_or_eq_otherSet (i j : SetId) : i = j ∨ i = otherSet j := by cases i <;> cases j <;> decide

/-- The decision of the holder enters the journal alone. -/
theorem State.decideCar_chg_pair (s : State) (c : CarChange) : Chg [.pair] s (s.decideCar c) :=
  Chg.ite (State.journal_chg ..) (Chg.refl ..)

@[simp] theorem State.decideCar_carousel (s : State) (c : CarChange) : (s.decideCar c).carousel = s.carousel :=
  (s.decideCar_chg_pair c).carousel rfl

@[simp] theorem State.enterHoldover_st (s : State) : s.enterHoldover.carousel.st = .holdover := by simp [State.enterHoldover, State.toHoldover]

@[simp] theorem State.enterHoldover_holdFrom (s : State) : s.enterHoldover.carousel.holdFrom = s.carousel.phase := by
  simp [State.enterHoldover, State.toHoldover]

@[simp] theorem State.enterHoldover_holdCount (s : State) :
    s.enterHoldover.carousel.holdCount = s.carousel.holdCount + 1 := by
  simp [State.enterHoldover, State.toHoldover, Carousel.mark]

@[simp] theorem State.enterHoldover_phase (s : State) : s.enterHoldover.carousel.phase = s.carousel.phase := by
  simp [State.enterHoldover, State.toHoldover, Carousel.mark]

@[simp] theorem State.enterHoldover_set (s : State) (j : SetId) : s.enterHoldover.carousel.set j = s.carousel.set j := by
  cases j <;> simp [State.enterHoldover, State.toHoldover, Carousel.mark, Carousel.set]

@[simp] theorem State.switchSet_carousel (s : State) (i : SetId) :
    (s.switchSet i).carousel = { s.carousel with followed := i, revertDue := false } := by
  simp [State.switchSet, State.toSet]

@[simp] theorem State.relockOn_carousel (s : State) (i : SetId) :
    (s.relockOn i).carousel = { s.carousel with followed := i } := by simp [State.relockOn]

@[simp] theorem State.enterRelock_carousel (s : State) (i : SetId) :
    (s.enterRelock i).carousel = { s.carousel.mark s.tick with
      st := .relock, followed := i, relockFrom := s.carousel.phase, relockCount := s.carousel.relockCount + 1
      revertDue := false } := by
  simp [State.enterRelock, State.toRelock]

/-! REF_FAIL (R25). -/

/-- What follows the failure of the followed set changes no set's validity and no phase. -/
theorem State.followedFailed_keeps (s : State) :
    (∀ j, s.followedFailed.carousel.set j = s.carousel.set j) ∧ s.followedFailed.carousel.phase = s.carousel.phase := by
  unfold State.followedFailed
  extract_lets o
  split
  · exact ⟨fun _ => rfl, rfl⟩
  · split
    · split
      · simp [Carousel.set]
      · simp
    · split
      · simp [Carousel.set]
      · simp
    · split
      · exact ⟨fun j => by cases j <;> rfl, rfl⟩
      · exact ⟨fun _ => rfl, rfl⟩
    · exact ⟨fun _ => rfl, rfl⟩

theorem State.followedFailed_of_follower {s : State} (h : s.decides = false) : s.followedFailed = s := by
  simp [State.followedFailed, h]

theorem State.followedFailed_of_locked {s : State} (h : s.decides = true) (hst : s.carousel.st = .locked) :
    s.followedFailed = if (s.carousel.set (otherSet s.carousel.followed)).valid then s.switchSet (otherSet s.carousel.followed)
      else s.enterHoldover := by
  simp [State.followedFailed, h, hst]

/-- The state in which set `i` has its failure recorded, and nothing has followed from it. -/
def State.setFailed (s : State) (i : SetId) (cause : RefCause) : State :=
  (s.modCar (·.modSet i fun r =>
    { r with valid := false, failCount := r.failCount + 1
             lastFail := some { cause, tick := s.tick, stamp := s.stamp } })).raise .refFail [setNum i, cause.num]

theorem State.setFailed_carousel (s : State) (i : SetId) (cause : RefCause) :
    (s.setFailed i cause).carousel = s.carousel.modSet i fun r =>
      { r with valid := false, failCount := r.failCount + 1
               lastFail := some { cause, tick := s.tick, stamp := s.stamp } } := rfl

theorem State.setFailed_decides (s : State) (i : SetId) (cause : RefCause) : (s.setFailed i cause).decides = s.decides := rfl

theorem exec_refFail_eq {s z : State} {t : Nat} {i : SetId} {obs : RefObs} (hz : z = s.advance t)
    (hstarted : z.carousel.started = true) (hwired : z.wired i = true) (hvalid : (z.carousel.set i).valid = true)
    (hobs : z.meetsR25 obs = true) :
    exec (.refFail t i obs) s = .next (
      if z.carousel.followed = i then (z.setFailed i (refCause obs)).followedFailed else z.setFailed i (refCause obs)) := by
  have hfollowed : (z.setFailed i (refCause obs)).carousel.followed = z.carousel.followed := by
    simp [State.setFailed_carousel]
  have hfail : z.failSet i (refCause obs) =
      if (z.setFailed i (refCause obs)).carousel.followed = i then (z.setFailed i (refCause obs)).followedFailed
      else z.setFailed i (refCause obs) := by
    simp only [State.failSet, hstarted, hwired, hvalid, Bool.and_self, if_true]
    rfl
  show execRefFail t i obs s = _
  simp only [execRefFail, ← hz, hobs, if_true, hfail, hfollowed]

theorem State.meetsR25_of_limit {z : State} {obs : RefObs}
    (h : (∃ n, obs = .noTransition n ∧ 64 ≤ n) ∨ obs = .clockLost ∨
      (∃ m a, obs = .magnitude m a ∧ 2048 ≤ a ∧ (m < z.vMin ∨ z.vMax < m)) ∨
      (∃ f a, obs = .frequency f a ∧ 32768 ≤ a ∧ (f < z.fLo ∨ z.fHi < f))) : z.meetsR25 obs = true := by
  obtain ⟨n, rfl, hn⟩ | rfl | ⟨m, a, rfl, ha, hm⟩ | ⟨f, a, rfl, ha, hf⟩ := h
  · simpa [State.meetsR25]
  · rfl
  · simpa [State.meetsR25] using ⟨ha, hm⟩
  · simpa [State.meetsR25] using ⟨ha, hf⟩

/-! REF_VALID (R26). -/

/-- The state in which set `i` has become valid, and nothing has followed from it. -/
def State.setValid (s : State) (i : SetId) (m : LineMeas) : State :=
  let x := s.modCar (·.modSet i fun r =>
    { r with valid := true, everValid := true, validAt := s.carousel.phase, mag := m.mag, freq := m.freq, phase := m.phase })
  if (s.carousel.set i).everValid then x.raise .refValid [setNum i] else x

theorem State.setValid_carousel (s : State) (i : SetId) (m : LineMeas) :
    (s.setValid i m).carousel = s.carousel.modSet i fun r =>
      { r with valid := true, everValid := true, validAt := s.carousel.phase, mag := m.mag, freq := m.freq
               phase := m.phase } := by
  unfold State.setValid
  extract_lets x
  split <;> rfl

theorem State.setValid_decides (s : State) (i : SetId) (m : LineMeas) : (s.setValid i m).decides = s.decides := by
  unfold State.setValid
  extract_lets x
  split <;> rfl

theorem exec_refValid_eq {s z : State} {t : Nat} {i : SetId} {m : LineMeas} {arcs : Nat} (hz : z = s.advance t)
    (hstarted : z.carousel.started = true) (hwired : z.wired i = true) (hvalid : (z.carousel.set i).valid = false)
    (hmeas : z.meetsR24 m = true) (harcs : (if (z.carousel.set i).everValid then 262144 else 65536) ≤ arcs) :
    exec (.refValid t i m arcs) s = .next (z.setValid i m).afterValid := by
  show execRefValid t i m arcs s = _
  simp only [execRefValid, ← hz, hstarted, hwired, hvalid, hmeas, Bool.not_false, Bool.and_self, harcs, decide_true, if_true]
  rfl

/-- A set that is valid gives one to follow. -/
theorem State.validSet_of_valid {s : State} {i : SetId} (h : (s.carousel.set i).valid = true) :
    ∃ j, s.validSet = some j ∧ (s.carousel.set j).valid = true := by
  unfold State.validSet
  split
  next hpref => exact ⟨_, rfl, hpref⟩
  next hpref =>
    have hother : i = otherSet s.pref := (eq_or_eq_otherSet i s.pref).resolve_left fun hi => hpref (hi ▸ h)
    rw [if_pos (hother ▸ h)]
    exact ⟨_, rfl, hother ▸ h⟩

theorem State.afterValid_of_follower {s : State} (h : s.decides = false) : s.afterValid = s := by
  simp [State.afterValid, h]

/-- What follows a set's becoming valid changes no set. -/
theorem State.afterValid_set (s : State) (j : SetId) : s.afterValid.carousel.set j = s.carousel.set j := by
  unfold State.afterValid
  split
  · rfl
  · split
    · cases j <;> rfl
    · cases j <;> simp [Carousel.mark, Carousel.set]
    · cases j <;> simp [Carousel.mark, Carousel.set]
    · cases j <;> simp [Carousel.mark, Carousel.set]
    · split
      · cases j <;> simp [Carousel.set]
      · rfl
    · rfl

theorem State.afterValid_of_locked {s : State} (h : s.carousel.st = .locked) : s.afterValid = s := by
  simp [State.afterValid, h]

theorem State.afterValid_of_acquire {s : State} {i : SetId} (h : s.decides = true) (hst : s.carousel.st = .acquire)
    (hi : s.validSet = some i) : s.afterValid.carousel = { s.carousel with followed := i } := by
  simp [State.afterValid, h, hst, hi]

/-- In HOLDOVER, GLIDE and NOMINAL the Carousel enters RELOCK on the valid set. -/
theorem State.afterValid_of_free {s : State} {i : SetId} (h : s.decides = true)
    (hst : s.carousel.st = .holdover ∨ s.carousel.st = .glide ∨ s.carousel.st = .nominal) (hi : s.validSet = some i) :
    s.afterValid = s.enterRelock i := by
  obtain hst | hst | hst := hst <;> simp [State.afterValid, h, hst, hi]

/-- Settles O6: the failure and the validity of a set are its own record, and Table 2.1 decides what follows. -/
theorem referencesFailAndBecomeValid : Obligations.ReferencesFailAndBecomeValid := by
  unfold Obligations.ReferencesFailAndBecomeValid
  constructor
  · intro s z t i obs hz hstarted hwired hvalid hlimit
    have hexec := exec_refFail_eq hz hstarted hwired hvalid (State.meetsR25_of_limit hlimit)
    have hframe := Chg.of_exec (hz ▸ execRefFail_chg t i obs s) hexec
    refine ⟨_, hexec, ?_⟩
    generalize hu : (if z.carousel.followed = i then (z.setFailed i (refCause obs)).followedFailed
      else z.setFailed i (refCause obs)) = u at hexec hframe ⊢
    have hcar := State.setFailed_carousel z i (refCause obs)
    have hset (j : SetId) : u.carousel.set j = (z.setFailed i (refCause obs)).carousel.set j := by
      rw [← hu]
      split
      · exact (State.followedFailed_keeps _).1 j
      · rfl
    have hphase : u.carousel.phase = z.carousel.phase := by
      rw [← hu]
      split
      · simp [(State.followedFailed_keeps _).2, hcar]
      · simp [hcar]
    refine ⟨?_, ?_, ?_, ?_, ?_, ?_, ?_, hphase, Only.of_chg hframe (by decide)⟩
    · simp [hset, hcar]
    · simp [hset, hcar]
    · simp [hset, hcar]
    · simp [hset, hcar]
    · intro hother
      rw [← hu, if_neg hother]
      simp [hcar]
    · intro hfollower
      rw [State.followedFailed_of_follower ((z.setFailed_decides i _).trans hfollower), ite_self] at hu
      simp [← hu, hcar]
    · intro hdecides hfollowed hst
      rw [if_pos hfollowed, State.followedFailed_of_locked ((z.setFailed_decides i _).trans hdecides) (by simp [hcar, hst])] at hu
      have hother : (z.setFailed i (refCause obs)).carousel.set (otherSet (z.setFailed i (refCause obs)).carousel.followed) =
          z.carousel.set (otherSet i) := by simp [hcar, hfollowed]
      rw [hother] at hu
      subst hu
      split
      · simp [hcar, hst, hfollowed]
      · simp [hcar]
  · intro s z t i m arcs hz hstarted hwired hvalid htrans hmin hmax hlo hhi harcs
    have hmeas : z.meetsR24 m = true := by simp [State.meetsR24, htrans, hmin, hmax, hlo, hhi]
    have hexec := exec_refValid_eq hz hstarted hwired hvalid hmeas harcs
    have hframe := Chg.of_exec (hz ▸ execRefValid_chg t i m arcs s) hexec
    have hcar := State.setValid_carousel z i m
    have hdec := State.setValid_decides z i m
    have hnow : ((z.setValid i m).carousel.set i).valid = true := by simp [hcar]
    obtain ⟨j, hj, hjvalid⟩ := State.validSet_of_valid hnow
    refine ⟨_, hexec, ?_, ?_, ?_, ?_, ?_, ?_, ?_, ?_, Only.of_chg hframe (by decide)⟩
    · simp [State.afterValid_set, hcar]
    · simp [State.afterValid_set, hcar]
    · simp [State.afterValid_set, hcar]
    · simp [State.afterValid_set, hcar]
    · intro hst
      rw [State.afterValid_of_locked (by simp [hcar, hst])]
      simp [hcar, hst]
    · intro hfollower
      rw [State.afterValid_of_follower (hdec.trans hfollower)]
      simp [hcar]
    · intro hdecides hst
      have hrelock := State.afterValid_of_free (hdec.trans hdecides) (by simpa [hcar] using hst) hj
      refine ⟨by simp [hrelock], ?_⟩
      have hfollowed : (z.setValid i m).afterValid.carousel.followed = j := by simp [hrelock]
      rw [hfollowed, State.afterValid_set, hjvalid]
    · intro hdecides hst
      have hacq := State.afterValid_of_acquire (hdec.trans hdecides) (by simp [hcar, hst]) hj
      have hfollowed : (z.setValid i m).afterValid.carousel.followed = j := by rw [hacq]
      refine ⟨by rw [hacq]; simp [hcar, hst], ?_⟩
      rw [hfollowed, State.afterValid_set, hjvalid]

/-! The states of the Carousel (R30 to R36, Table 2.1). -/

theorem stamp_of_turn (turn : Nat) : turn * turnUnits / arcUnits = turn * 65536 := by
  have harc : turnUnits = 65536 * arcUnits := by decide
  rw [harc, ← Nat.mul_assoc, Nat.mul_div_cancel _ (by decide)]

theorem State.firstLock_stamp (s : State) (st : CarState) (f : Nat) :
    (s.firstLock st f).stamp = s.carousel.firstTurn f s.tick * 65536 := stamp_of_turn _

theorem Carousel.firstTurn_of_none {c : Carousel} (h : c.adopted = none) (f tick : Nat) : c.firstTurn f tick = 0 := by
  simp [Carousel.firstTurn, h]

theorem Carousel.le_firstTurn {c : Carousel} {turn at_ : Nat} (h : c.adopted = some (turn, at_)) (f tick : Nat) :
    turn ≤ c.firstTurn f tick := by simp [Carousel.firstTurn, h]

theorem exec_locked_eq {s z : State} {t : Nat} {o : LockObs} (hz : z = s.advance t) (hstarted : z.carousel.started = true)
    (hvalid : (z.carousel.set z.carousel.followed).valid = true) (hphase : o.phaseErr ≤ 64) (hfreq : o.freqErr ≤ 50)
    (hhalf : 2 ≤ o.halfTurns) (hst : z.carousel.st = .acquire ∨ z.carousel.st = .relock ∧ z.decides = true) :
    exec (.locked t o) s = .next (z.toLocked.decideCar .locked) := by
  show execLocked t o s = _
  simp only [execLocked, ← hz, hstarted, hvalid, hphase, hfreq, hhalf, decide_true, Bool.and_self, Bool.true_and]
  rw [if_pos (by simpa using hst)]

theorem exec_startWinExpiry_eq {s z : State} {t : Nat} (hz : z = s.advance t) (hstarted : z.carousel.started = true)
    (hrun : z.carousel.running = false) (hlate : z.time.tick0 + z.startWin < z.time.clock) :
    exec (.startWinExpiry t) s = .next
      (((z.firstLock .nominal (z.fNom * freqUnit)).raise .nominal [1]).decideCar .nominal).afterValid := by
  show execStartWinExpiry t s = _
  simp only [execStartWinExpiry, ← hz, hstarted, hrun, State.expired, hlate, decide_true, Bool.not_false, Bool.and_self, if_true]

theorem exec_relock_of_locked {s z : State} {t : Nat} {o : LockObs} (hz : z = s.advance t) (hst : z.carousel.st = .locked)
    (hdecides : z.decides = true) (hvalid : (z.carousel.set z.carousel.followed).valid = true) (hhalf : 1 ≤ o.halfTurns)
    (hlost : 64 < o.phaseErr ∨ 50 < o.freqErr) :
    exec (.relock t o) s = .next (z.enterRelock z.carousel.followed) := by
  show execRelock t o s = _
  simp [execRelock, ← hz, hst, hdecides, hvalid, hhalf, hlost]

/-- No set to follow: what would follow a valid one does not happen. -/
theorem State.afterValid_of_no_valid {s : State} (ha : s.carousel.setA.valid = false) (hb : s.carousel.setB.valid = false)
    (hst : s.carousel.st = .nominal) : s.afterValid = s := by
  have hnone : s.validSet = none := by
    unfold State.validSet
    cases s.pref <;> simp [Carousel.set, otherSet, ha, hb]
  simp [State.afterValid, hst, hnone]

/-- Settles O7: each row of Table 2.1 that the clauses name, by its own transition. -/
theorem carouselStates : Obligations.CarouselStates := by
  unfold Obligations.CarouselStates
  refine ⟨?_, ?_, ?_, ?_, ?_, ?_, ?_⟩
  · intro s z t o hz hstarted hvalid hphase hfreq hhalf hst
    have hexec := exec_locked_eq hz hstarted hvalid hphase hfreq hhalf (.inl hst)
    have hframe := Chg.of_exec (hz ▸ execLocked_chg t o s) hexec
    let f := (z.carousel.set z.carousel.followed).freq * freqUnit
    have hcar : (z.toLocked.decideCar .locked).carousel = (z.firstLock .locked f).carousel := by
      simp [State.toLocked, hst, f]
    have hstamp : (z.toLocked.decideCar .locked).stamp = z.carousel.firstTurn f z.tick * 65536 := by
      rw [State.stamp, hcar]
      exact State.firstLock_stamp z .locked f
    refine ⟨_, hexec, ?_, ?_, ?_, ?_, ?_, ?_, Only.of_chg hframe (by decide)⟩
    · rw [hcar]; rfl
    · rw [hcar]; rfl
    · rw [hstamp, Nat.mul_mod_left]
    · intro hnone
      have hturn := Carousel.firstTurn_of_none hnone f z.tick
      rw [hstamp, hcar]
      simp [State.firstLock, State.modCar, hturn]
    · intro turn at_ hsome
      rw [hstamp, Nat.mul_div_cancel _ (by decide)]
      exact Carousel.le_firstTurn hsome f z.tick
    · rw [hcar]; rfl
  · intro s z t o hz hstarted hvalid hphase hfreq hhalf hst hdecides
    have hexec := exec_locked_eq hz hstarted hvalid hphase hfreq hhalf (.inr ⟨hst, hdecides⟩)
    refine ⟨_, hexec, ?_, Only.of_chg (Chg.of_exec (hz ▸ execLocked_chg t o s) hexec) (by decide)⟩
    simp [State.toLocked, hst]
  · intro s z t hz hstarted hrun hlate ha hb
    have hexec := exec_startWinExpiry_eq hz hstarted hrun hlate
    have hcar : (((z.firstLock .nominal (z.fNom * freqUnit)).raise .nominal [1]).decideCar .nominal).carousel =
        (z.firstLock .nominal (z.fNom * freqUnit)).carousel := by simp
    have hstay := State.afterValid_of_no_valid (by rw [hcar]; exact ha) (by rw [hcar]; exact hb) (by rw [hcar]; rfl)
    rw [hstay] at hexec
    refine ⟨_, hexec, ?_, ?_, ?_, ?_, Only.of_chg (Chg.of_exec (hz ▸ execStartWinExpiry_chg t s) hexec) (by decide)⟩
    · rw [hcar]; rfl
    · rw [hcar]; rfl
    · intro hnone
      rw [State.stamp, hcar]
      refine (State.firstLock_stamp z .nominal _).trans ?_
      rw [Carousel.firstTurn_of_none hnone]
    · rw [hcar]; rfl
  · intro s z t o hz hst hdecides hvalid hhalf hlost
    have hexec := exec_relock_of_locked hz hst hdecides hvalid hhalf hlost
    refine ⟨_, hexec, ?_, ?_, ?_, ?_, Only.of_chg (Chg.of_exec (hz ▸ execRelock_chg t o s) hexec) (by decide)⟩
    all_goals simp [Carousel.mark]
  · intro s z t hz hst hdecides hheld
    have hexec : exec (.glide t) s = .next (z.toGlide.decideCar .glide) := by
      show execGlide t s = _
      simp only [execGlide, ← hz, hdecides, hst, decide_true, Bool.and_self, Bool.true_and]
      exact congrArg _ (if_pos (decide_eq_true hheld))
    refine ⟨_, hexec, ?_, Only.of_chg (Chg.of_exec (hz ▸ execGlide_chg t s) hexec) (by decide)⟩
    simp [State.toGlide]
  · intro s z t hz hst hdecides hfreq
    have hexec : exec (.nominal t) s = .next (z.toNominal.decideCar .nominal) := by
      show execNominal t s = _
      simp only [execNominal, ← hz, hdecides, hst, decide_true, Bool.and_self, Bool.true_and]
      exact congrArg _ (if_pos (decide_eq_true hfreq))
    refine ⟨_, hexec, ?_, ?_, ?_, Only.of_chg (Chg.of_exec (hz ▸ execNominal_chg t s) hexec) (by decide)⟩
    · simp [State.toNominal]
    · simp [State.toNominal, freqUnit]
    · simp [State.toNominal, Carousel.mark]
  · intro s z t hz hst hdecides hother hvalid hlong
    have hexec : exec (.revert t) s = .next (z.modCar fun c => { c with revertDue := true }) := by
      show execRevert t s = _
      simp only [execRevert, ← hz, hdecides, hst, hother, hvalid, ne_eq, not_false_eq_true, decide_true, Bool.and_self,
        Bool.true_and]
      exact congrArg _ (if_pos (decide_eq_true hlong))
    exact ⟨_, hexec, rfl, Only.of_chg (Chg.of_exec (hz ▸ execRevert_chg t s) hexec) (by decide)⟩

/-! Stroke boundaries (R40 to R42, R44). -/

/-- What the wired sets show, the offset of the turn and the loop leave the count, the phase and the instant of the stroke. -/
theorem Carousel.onStroke_eq (c : Carousel) (n tick : Nat) (wa wb : Bool) (ma mb : LineMeas) (ab : List Int) :
    (c.onStroke n tick wa wb ma mb ab).stroke = strokeAt n c.phase ∧ (c.onStroke n tick wa wb ma mb ab).phase = c.phase ∧
      (c.onStroke n tick wa wb ma mb ab).tap = c.tapOf tick (strokePhase n (strokeAt n c.phase)) ∧
      (c.onStroke n tick wa wb ma mb ab).strokeTick = tick := by
  unfold Carousel.onStroke
  extract_lets dt turn begun a b offset ended
  let Stands (x : Carousel) : Prop := x.stroke = strokeAt n c.phase ∧ x.phase = c.phase ∧
    x.tap = c.tapOf tick (strokePhase n (strokeAt n c.phase)) ∧ x.strokeTick = tick
  have hbegun : Stands begun := ⟨rfl, rfl, rfl, rfl⟩
  have ha : Stands a := by
    unfold a
    split
    · exact hbegun
    · exact hbegun
  have hb : Stands b := by
    unfold b
    split
    · exact ha
    · exact ha
  have hoffset : Stands offset := by
    unfold offset Carousel.sampleOffset
    split
    · exact hb
    · exact hb
  have hended : Stands ended := by
    unfold ended
    split
    · exact hoffset
    · exact hoffset
  show Stands (ended.track n dt)
  unfold Carousel.track
  split
  · exact hended
  · exact hended

/-- A revision that comes late counts itself in the Carousel, and touches nothing else of it. -/
theorem State.revisionLate_carousel (s : State) :
    ∃ n, s.revisionLate.carousel = { s.carousel with lateCount := n } := by
  unfold State.revisionLate
  split
  · split
    · refine ⟨s.carousel.lateCount + 1, ?_⟩
      rw [(State.applyRevision_chg ..).carousel rfl]
      rfl
    · exact ⟨s.carousel.lateCount, rfl⟩
  · exact ⟨s.carousel.lateCount, rfl⟩

theorem State.nStrokes_of_startup {s u : State} (h : u.startup = s.startup) : u.nStrokes = s.nStrokes := by
  simp only [State.nStrokes, State.carRec, State.rec1, State.recs, h]

/-- STROKE_BOUNDARY once the phase has reached the next stroke: the Carousel's own part, and a count of what came late. -/
theorem exec_strokeBoundary_of_due {s z : State} {t : Nat} {ma mb : LineMeas} {x : StrokeObs} (hz : z = s.advance t)
    (hrun : z.carousel.running = true) (hdue : z.carousel.stroke < strokeAt z.nStrokes z.carousel.phase) :
    ∃ u, exec (.strokeBoundary t ma mb x) s = .next u ∧
      ∃ n wa wb, u.carousel = { z.carousel.onStroke z.nStrokes z.tick wa wb ma mb x.ab with lateCount := n } := by
  have hskip : (!z.carousel.running || !z.carousel.strokeDue z.nStrokes) = false := by
    simp [hrun, Carousel.strokeDue, hdue]
  refine ⟨_, rfl, ?_⟩
  rw [← hz, if_neg (by simp [hskip])]
  extract_lets was compared sampled begun
  have hcompared : Chg [.legs] z compared := Chg.foldl _ _ (Chg.refl ..) fun s x => State.compareNets_chg ..
  have hsampled : Chg [.legs, .thermal, .pair] z sampled :=
    ((hcompared.widen rfl).step (State.thermStroke_chg ..) rfl).step (State.readbackTest_chg ..) rfl
  have hbegun : begun.carousel = z.carousel.onStroke z.nStrokes z.tick (sampled.wired .a) (sampled.wired .b) ma mb x.ab := by
    show sampled.carousel.onStroke sampled.nStrokes sampled.tick _ _ ma mb x.ab = _
    rw [hsampled.carousel rfl, State.nStrokes_of_startup (hsampled.startup rfl), State.tick, hsampled.time rfl]
    rfl
  have hturn : (begun.turnEnd was).carousel = begun.carousel := (State.turnEnd_chg ..).carousel rfl
  obtain ⟨n, hn⟩ := (begun.turnEnd was).revisionLate_carousel
  refine ⟨n, sampled.wired .a, sampled.wired .b, ?_⟩
  rw [(State.strokeRecord_chg _).carousel rfl, (State.lawsStroke_chg _).carousel rfl, (State.legsStroke_chg _).carousel rfl, hn,
    hturn, hbegun]

theorem exec_strokeBoundary_of_early {s z : State} {t : Nat} {ma mb : LineMeas} {x : StrokeObs} (hz : z = s.advance t)
    (h : z.carousel.running = false ∨ strokeAt z.nStrokes z.carousel.phase ≤ z.carousel.stroke) :
    exec (.strokeBoundary t ma mb x) s = .next z := by
  have hskip : (!z.carousel.running || !z.carousel.strokeDue z.nStrokes) = true := by
    obtain h | h := h
    · simp [h]
    · simp [Carousel.strokeDue, h]
  show execStrokeBoundary t ma mb x s = _
  simp only [execStrokeBoundary, ← hz, hskip, if_true]

/-! Half-turn boundaries (R44, R265). No package is armed where none was: a plug-in can only take a boundary away (R697). -/

theorem State.notQuiet_armed {s : State} (h : s.update.armed = none) : s.notQuiet.update.armed = none := by
  simp [State.notQuiet, h]

theorem Chg.armed {L : List Part} {s u : State} (h : Chg L s u) (hL : L.contains .update = false)
    (hs : s.update.armed = none) : u.update.armed = none := by rw [h.update hL, hs]

theorem State.plugIn_armed {s : State} (h : s.update.armed = none) (o : Nat) : (s.plugIn o).update.armed = none := by
  unfold State.plugIn
  split
  · exact h
  · split
    · split
      · split
        · exact h
        · exact h
      · extract_lets taken credited raised
        have htaken : taken.update.armed = none := h
        have hcredited : credited.update.armed = none := by
          unfold credited
          split
          · exact (State.plugCredit_chg ..).armed rfl htaken
          · exact htaken
        exact State.notQuiet_armed (s := raised) hcredited
    · split
      · exact h
      · exact h

theorem State.freeCtx_armed {s : State} (h : s.update.armed = none) (c n : Nat) : (s.freeCtx c n).update.armed = none := by
  unfold State.freeCtx
  extract_lets freed
  have hfreed : freed.update.armed = none := (State.rechoose_chg ..).armed rfl h
  split
  · exact State.plugIn_armed hfreed _
  · exact hfreed

theorem State.closeCtx_armed {s : State} (h : s.update.armed = none) (c n : Nat) :
    (s.closeCtx c n).update.armed = none := by
  unfold State.closeCtx
  extract_lets o closing ended r cleared
  have hclosing : closing.update.armed = none := h
  split
  · exact (((State.endPeriod_chg closing).widen (M := [.scribe, .keys, .port, .tokens]) rfl).step
      (State.closeSession_chg ..) rfl).armed rfl hclosing
  · have hr : r.2.update.armed = none := by
      unfold r
      split
      · exact (State.returnCredit_chg ..).armed rfl hclosing
      · exact hclosing
    have hcleared : cleared.update.armed = none := (State.modCore_chg ..).armed rfl hr
    exact State.freeCtx_armed ((State.issueChange_chg cleared o r.1).armed rfl hcleared) c 0

theorem State.endCtx_armed {s : State} (h : s.update.armed = none) (c n : Nat) : (s.endCtx c n).update.armed = none := by
  unfold State.endCtx
  extract_lets x ending idle
  split
  · exact h
  · have hidle : idle.update.armed = none := by
      unfold idle
      split
      · exact (State.sessionIdle_chg ..).armed rfl h
      · exact h
    unfold State.tryClose
    extract_lets y
    split
    · exact State.closeCtx_armed hidle _ _
    · exact hidle

theorem State.pauseCtx_armed {s : State} (h : s.update.armed = none) (c : Nat) : (s.pauseCtx c).update.armed = none := by
  unfold State.pauseCtx
  extract_lets x l val held
  split
  · split
    · exact h
    · exact h
  · split
    · exact ((State.refreshReq_chg ..).widen (M := [.barker, .port]) rfl).armed rfl h
    · split
      · exact h
      · exact h
  · split
    · exact State.endCtx_armed h _ _
    · exact h
  · exact h

theorem State.pauseScan_armed {s : State} (h : s.update.armed = none) : s.pauseScan.update.armed = none := by
  unfold State.pauseScan
  induction List.range 128 generalizing s with
  | nil => exact h
  | cons c l ih => exact ih (State.pauseCtx_armed h c)

theorem State.activationHalf_of_unarmed {s : State} (h : s.update.armed = none) : s.activationHalf = s := by
  simp [State.activationHalf, h]

/-- The return to the preferred set changes no count and no phase. -/
theorem State.revertHalf_counts (s : State) :
    s.revertHalf.carousel.half = s.carousel.half ∧ s.revertHalf.carousel.phase = s.carousel.phase ∧
      s.revertHalf.carousel.lastHalf = s.carousel.lastHalf := by
  unfold State.revertHalf
  split
  · simp
  · exact ⟨rfl, rfl, rfl⟩

theorem exec_halfTurnBoundary_of_early {s z : State} {t h : Nat} (hz : z = s.advance t)
    (hearly : z.carousel.running = false ∨ h ≤ z.carousel.half ∨ z.carousel.phase < h * halfUnits) :
    exec (.halfTurnBoundary t h) s = .next z := by
  have hskip : (!z.carousel.running || !z.carousel.halfDue h) = true := by
    obtain hstop | hbegun | hphase := hearly
    · simp [hstop]
    · simp [Carousel.halfDue, hbegun]
    · simp [Carousel.halfDue, hphase]
  show execHalfTurnBoundary t h s = _
  simp only [execHalfTurnBoundary, ← hz, hskip, if_true]

/-- HALF_TURN_BOUNDARY that begins its half-turn out of service: the count and the return to the preferred set. -/
theorem exec_halfTurnBoundary_out {s z : State} {t h : Nat} (hz : z = s.advance t) (hrun : z.carousel.running = true)
    (hnext : z.carousel.half < h) (hphase : h * halfUnits ≤ z.carousel.phase) (hmode : z.startup.mode ≠ .service) :
    exec (.halfTurnBoundary t h) s = .next (z.modCar (·.beginHalf h z.tick)).revertHalf := by
  have hskip : (!z.carousel.running || !z.carousel.halfDue h) = false := by simp [hrun, Carousel.halfDue, hnext, hphase]
  show execHalfTurnBoundary t h s = _
  simp only [execHalfTurnBoundary, ← hz, hskip, Bool.false_eq_true, if_false]
  exact congrArg _ (if_pos hmode)

/-- HALF_TURN_BOUNDARY in service with no package armed: the events of its arc, the Juggler's first. -/
theorem exec_halfTurnBoundary_in {s z : State} {t h : Nat} (hz : z = s.advance t) (hrun : z.carousel.running = true)
    (hnext : z.carousel.half < h) (hphase : h * halfUnits ≤ z.carousel.phase) (hmode : z.startup.mode = .service)
    (harmed : z.update.armed = none) :
    ∃ u, exec (.halfTurnBoundary t h) s = .next u ∧ u.carousel.half = h ∧ u.carousel.phase = z.carousel.phase ∧
      u.array.jugglerCount = 0 ∧ u.array.jugglerLost = false := by
  have hskip : (!z.carousel.running || !z.carousel.halfDue h) = false := by simp [hrun, Carousel.halfDue, hnext, hphase]
  refine ⟨_, rfl, ?_⟩
  rw [← hz, if_neg (by simp [hskip])]
  extract_lets begun applied lawed
  rw [if_neg (show ¬begun.startup.mode ≠ .service from not_not.mpr hmode)]
  have hinked : Chg [.startup, .array, .legs, .juggler, .scribe, .port, .tamper] begun begun.inkHalf.revisionHalf :=
    ((State.inkHalf_chg begun).widen rfl).step (State.revisionHalf_chg ..) rfl
  have hcar : begun.inkHalf.revisionHalf.carousel = begun.carousel := hinked.carousel rfl
  obtain ⟨hhalf, hphase', -⟩ := begun.inkHalf.revisionHalf.revertHalf_counts
  have hscanned : Chg [.juggler, .barker, .scribe, .keys, .update, .port, .tokens, .legs, .laws, .pair] applied lawed.pairHalf.pauseScan :=
    (((State.lawsHalf_chg ..).widen rfl).step (State.pairHalf_chg ..) rfl).step (State.pauseScan_chg ..) rfl
  have happlied : Chg [.startup, .array, .legs, .juggler, .scribe, .port, .tamper, .carousel, .pair] begun applied :=
    (hinked.widen rfl).step (State.revertHalf_chg ..) rfl
  have hunarmed : lawed.pairHalf.pauseScan.update.armed = none := by
    have hlawed : Chg [.startup, .array, .legs, .juggler, .scribe, .port, .tamper, .carousel, .pair, .laws] begun lawed.pairHalf :=
      ((happlied.widen rfl).step (State.lawsHalf_chg ..) rfl).step (State.pairHalf_chg ..) rfl
    exact State.pauseScan_armed (hlawed.armed rfl harmed)
  have hreturn : applied = begun.inkHalf.revisionHalf.revertHalf := rfl
  have hink : begun.inkHalf.array.jugglerCount = 0 ∧ begun.inkHalf.array.jugglerLost = false := by simp [State.inkHalf]
  have harray : applied.array = begun.inkHalf.array :=
    ((State.revertHalf_chg begun.inkHalf.revisionHalf).array rfl).trans ((State.revisionHalf_chg begun.inkHalf).array rfl)
  rw [State.activationHalf_of_unarmed hunarmed, hscanned.carousel rfl, hscanned.array rfl, harray]
  refine ⟨?_, ?_, hink⟩
  · rw [hreturn, hhalf, hcar]
    rfl
  · rw [hreturn, hphase', hcar]
    rfl

/-- Settles O8: a boundary is taken once the phase has reached it, and its count is the Carousel's own. -/
theorem boundaries : Obligations.Boundaries := by
  unfold Obligations.Boundaries
  refine ⟨?_, ?_, ?_, ?_, ?_⟩
  · intro s z t ma mb x hz hrun hdue
    obtain ⟨u, hexec, n, wa, wb, hcar⟩ := exec_strokeBoundary_of_due (ma := ma) (mb := mb) (x := x) hz hrun hdue
    obtain ⟨hstroke, hphase, htap, htick⟩ := z.carousel.onStroke_eq z.nStrokes z.tick wa wb ma mb x.ab
    refine ⟨u, hexec, ?_, ?_, ?_, ?_, Only.of_chg (Chg.of_exec (hz ▸ execStrokeBoundary_chg t ma mb x s) hexec) (by decide)⟩
    · rw [hcar, ← hstroke]
    · rw [hcar, ← hphase]
    · rw [hcar]
      exact htap
    · rw [hcar]
      exact htick
  · intro s z t ma mb x hz hearly
    exact ⟨z, exec_strokeBoundary_of_early hz hearly, rfl⟩
  · intro s z t h hz hrun hnext hphase hmode
    have hexec := exec_halfTurnBoundary_out hz hrun hnext hphase hmode
    obtain ⟨hhalf, hsame, hlast⟩ := (z.modCar (·.beginHalf h z.tick)).revertHalf_counts
    have hframe : Chg [.carousel, .pair, .port] z (z.modCar (·.beginHalf h z.tick)).revertHalf :=
      ((State.modCar_chg ..).widen rfl).step (State.revertHalf_chg ..) rfl
    exact ⟨_, hexec, hhalf, hsame, hlast, Only.of_chg hframe (by decide)⟩
  · intro s z t h hz hrun hnext hphase hmode harmed
    obtain ⟨u, hexec, hhalf, hsame, hcount, hlost⟩ := exec_halfTurnBoundary_in hz hrun hnext hphase hmode harmed
    exact ⟨u, hexec, hhalf, hsame, hcount, hlost,
      Only.of_chg (Chg.of_exec (hz ▸ execHalfTurnBoundary_chg t h s) hexec) (by decide)⟩
  · intro s z t h hz hearly
    exact ⟨z, exec_halfTurnBoundary_of_early hz hearly, rfl⟩

end Sys2Proof.Machine
end

section
/-!
Proofs shared by all families: how a command that brings an input of the pair, or an operation of a client, meets the forms
`Input`, `Effect` and `Request` of the statements, and the answer that the client finds.
-/
namespace Sys2Proof.Machine
open Sys2Proof Sys2Proof.Config

/-! An input at its EFFECT stamp (R585). -/

theorem exec_journalEffect_of_head {s z : State} {t : Nat} {x : JPending} {j : JInput} (hz : z = s.advance t)
    (hhead : z.pair.journal.head? = some x) (hinput : x.input = some j) (hstamp : x.entry.effect ≤ z.stamp)
    (hst : z.pair.st ≠ .resync) (hseq : z.followsOn x.entry.jseq = true ∨ z.pair.st ≠ .standby) :
    exec (.journalEffect t x.entry.jseq) s =
      .next ((z.popped x.entry.jseq).applyInput x.entry.arrival (x.entry.effect - z.journalLead) j) := by
  obtain ⟨rest, hjournal⟩ := List.head?_eq_some_iff.mp hhead
  have hinstep : (!z.followsOn x.entry.jseq && decide (z.pair.st = .standby)) = false := by
    obtain h | h := hseq <;> simp [h]
  show execJournalEffect t x.entry.jseq s = _
  simp only [execJournalEffect, ← hz, hjournal, hinstep, Bool.false_eq_true, if_false, decide_true, Bool.true_and, hstamp,
    if_true, State.applyEntry, hst, hinput, State.popped]

theorem Effect.of_apply {j : JInput} {H : State → Prop} {P : State → State → Prop}
    (h : ∀ z tick stamp, H z → P z (z.applyInput tick stamp j)) : Effect j H P := by
  intro s z t x hz hhead hinput hstamp hst hseq hH
  exact ⟨_, exec_journalEffect_of_head hz hhead hinput hstamp hst hseq, h _ _ _ hH⟩

/-! A command that submits an input (R583 to R587). -/

theorem State.submit_follower_chg {s : State} (h : s.decides = false) {j : JInput} (hj : inputInline j = false)
    (f : State → State) : s.submit j f = { s with pair := { s.pair with copies := s.pair.copies ++
      [{ source := inputSource j, digest := (inputSum j).2, phase := s.carousel.phase, input := j }] } } := by
  unfold State.submit
  unfold State.decides at h
  split <;> simp_all

theorem Enters.of_submit {i : Instr} {j : JInput} {f : State → State} {s z : State} (h : exec i s = .next (z.submit j f)) :
    Enters i j s z := by
  refine ⟨fun hst => ⟨_, h, State.submit_holds hst j f⟩, fun hd hj => ⟨_, h, State.submit_follows hd hj f⟩, fun hd hj => ?_⟩
  refine ⟨_, h, ?_⟩
  rw [State.submit_follower_chg hd hj f]
  exact ⟨rfl, Only.of_chg (Chg.setPair ..) (by decide)⟩

theorem Input.of_submit {i : Nat → Instr} {j : JInput} {G H : State → Prop} {P : State → State → Prop} (f : State → State)
    (hexec : ∀ s z t, z = s.advance t → G z → exec (i t) s = .next (z.submit j f))
    (happly : ∀ z tick stamp, z.applyInput tick stamp j = f z) (heff : ∀ z, H z → P z (f z)) : Input i j G H P := by
  refine ⟨fun s z t hz hG => ⟨.of_submit (hexec s z t hz hG), fun halone hH => ?_⟩, .of_apply fun z tick stamp hH => ?_⟩
  · exact ⟨_, hexec s z t hz hG, by rw [State.submit_alone halone]; exact heff z hH⟩
  · rw [happly]
    exact heff z hH

/-! An operation of a client (R451). -/

/-- The state with other connections of the object port. -/
def State.withConns (s : State) (v : Vector (Option Conn) 256) : State := { s with port := { s.port with conns := v } }

theorem State.withConns_chg (s : State) (v : Vector (Option Conn) 256) : Chg [.port] s (s.withConns v) := Chg.setPort ..

theorem State.asked_eq_withConns (s : State) (c : ConnNo) : ∃ v, s.asked c = s.withConns v := ⟨_, rfl⟩

theorem State.conns_modConn (s : State) (c : ConnNo) (f : Conn → Conn) :
    (s.modConn c f).port.conns[c] = (s.port.conns[c]).map f := by
  show (vmod s.port.conns c (Option.map f))[c.val] = _
  rw [vmod_get _ _ _ _ c.isLt, if_pos rfl]

theorem State.waits_of_conn {s : State} {c : ConnNo} {k : Conn} (h : s.port.conns[c] = some k) : s.waits c = k.slots := by
  simp [State.waits, h]

theorem State.waits_asked {s : State} {c : ConnNo} {k : Conn} (h : s.port.conns[c] = some k) (hw : s.waits c = []) :
    (s.asked c).waits c = [.pending] := by
  have hslots : k.slots = [] := (State.waits_of_conn h).symm.trans hw
  have hconn := s.conns_modConn c fun k => { k with slots := k.slots ++ [.pending] }
  rw [h] at hconn
  rw [State.asked, State.waits_of_conn hconn]
  show k.slots ++ [.pending] = [.pending]
  rw [hslots]
  rfl

theorem State.change_of_allowed {z : State} {c : ConnNo} {o : Obis} {r : Right} {k : Conn} (hallowed : Allowed z c r o)
    (hconn : z.port.conns[c] = some k) (q : OpReq) (f : Caller → State → State) :
    z.change c o r q f = (z.asked c).submit (.op true c k.role k.addr q) (f (callerOf true c k.role k.addr)) := by
  obtain ⟨hmode, habsent, hwaits, k', hk', hright⟩ := hallowed
  cases hk'.symm.trans hconn
  rw [State.waits_of_conn hconn] at hwaits
  have hmodes : inService z.startup.mode = true := by rw [hmode]; rfl
  simp only [State.change, State.op, hconn, hmodes, habsent, hright, not_le.mpr hwaits, if_false, if_true,
    Bool.false_eq_true]
  rfl

/-- The caller of an operation whose answer this module's connection `c` waits for. -/
theorem Request.of_change {i : Nat → Instr} {c : ConnNo} {o : Obis} {r : Right} {q : OpReq} {res : Nat} {H : State → Prop}
    {P : State → State → Prop} (f : Caller → State → State)
    (hexec : ∀ s t, exec (i t) s = .next ((s.advance t).change c o r q f))
    (happly : ∀ x arrival z, State.applyOp z x arrival q = f x z)
    (heff : ∀ z v x, H z → P z (f x (z.withConns v)) ∧
      (x.conn = some c → (z.withConns v).waits c = [.pending] → (f x (z.withConns v)).res c = some res)) :
    Request i c o r q res H P := by
  constructor
  · intro s z t k hz hallowed hconn
    have hrun : exec (i t) s = .next ((z.asked c).submit (.op true c k.role k.addr q) (f (callerOf true c k.role k.addr))) := by
      rw [hexec, ← hz, State.change_of_allowed hallowed hconn]
    refine ⟨fun hst => ⟨_, hrun, State.submit_holds (s := z.asked c) hst _ _⟩,
      fun hd => ⟨_, hrun, State.submit_follows (s := z.asked c) hd rfl _⟩, ?_⟩
    intro halone hw hH
    refine ⟨_, hrun, ?_⟩
    rw [State.submit_alone (s := z.asked c) halone]
    have hasked := State.waits_asked hconn hw
    obtain ⟨v, hv⟩ := z.asked_eq_withConns c
    rw [hv] at hasked ⊢
    obtain ⟨hP, hres⟩ := heff z v (callerOf true c k.role k.addr) hH
    exact ⟨hP, hres rfl hasked⟩
  · intro here role addr
    refine .of_apply fun z tick stamp hH => ?_
    have happlied : z.applyInput tick stamp (.op here c role addr q) = f (callerOf here c role addr) z := happly ..
    rw [happlied]
    obtain ⟨hP, hres⟩ := heff z z.port.conns (callerOf here c role addr) hH
    exact ⟨hP, fun hhere hw => hres (by rw [hhere]; rfl) hw⟩

/-! The answer. -/

theorem Conn.drain_of_none (next : Nat) (a : Answer) (k : Conn) : Conn.drain next a [] k = { k with slots := [] } := rfl

theorem State.res_of_conn {s : State} {c : ConnNo} {k : Conn} (h : s.port.conns[c] = some k) (hk : k.slots = []) :
    s.res c = k.answer.map (·.res) := by
  simp [State.res, h, hk]

theorem State.waits_eq_pending {s : State} {c : ConnNo} (h : s.waits c = [.pending]) :
    ∃ k, s.port.conns[c] = some k ∧ k.slots = [.pending] := by
  unfold State.waits at h
  cases hk : s.port.conns[c] with
  | none => simp [hk] at h
  | some k => exact ⟨k, rfl, by simpa [hk] using h⟩

theorem State.reply_eq_modConn {s : State} {x : Caller} {c : ConnNo} (hx : x.conn = some c) (res : Nat) (val : List Int) :
    ∃ g, s.reply x res val = s.modConn c g ∧
      ∀ k : Conn, k.slots = [.pending] → g k = { k with answer := some { res, val }, slots := [] } := by
  unfold State.reply
  rw [hx]
  refine ⟨_, rfl, fun k hk => ?_⟩
  simp only [hk]
  rfl

/-- The one request that waits is answered with the reply. -/
theorem State.res_reply {s : State} {x : Caller} {c : ConnNo} (hx : x.conn = some c) (hw : s.waits c = [.pending]) (res : Nat)
    (val : List Int) : (s.reply x res val).res c = some res := by
  obtain ⟨k, hk, hslots⟩ := State.waits_eq_pending hw
  obtain ⟨g, hreply, hg⟩ := State.reply_eq_modConn (s := s) hx res val
  have hconn := s.conns_modConn c g
  rw [← hreply, hk, Option.map_some, hg k hslots] at hconn
  rw [State.res_of_conn hconn rfl]
  rfl

@[simp] theorem Conn.deliver_slots (k : Conn) (r : EvRec) : (k.deliver r).slots = k.slots := by
  unfold Conn.deliver
  split
  · rfl
  · split
    · split <;> rfl
    · rfl

/-- An event leaves the requests that wait. -/
@[simp] theorem State.waits_raise (s : State) (e : Ev) (val : List Int) (c : ConnNo) : (s.raise e val).waits c = s.waits c := by
  have hconn : (s.raise e val).port.conns[c] = (s.port.conns[c]).map (Conn.deliver ·
      { seq := s.port.seqOf (s.port.raised + 1), ev := e, tick := s.tick, stamp := s.stamp, val }) :=
    vmap_get _ _ c.val c.isLt
  unfold State.waits
  rw [hconn]
  cases s.port.conns[c] with
  | none => rfl
  | some k => simp

/-- What leaves the object port leaves the requests that wait. -/
theorem State.waits_of_port {s u : State} (h : u.port = s.port) (c : ConnNo) : u.waits c = s.waits c := by
  simp only [State.waits, h]

theorem Chg.waits {L : List Part} {s u : State} (h : Chg L s u) (hL : L.contains .port = false) (c : ConnNo) :
    u.waits c = s.waits c := State.waits_of_port (h.port hL) c

/-! The event raised last. -/

@[simp] theorem State.lastEv_raise (s : State) (e : Ev) (val : List Int) : (s.raise e val).lastEv = some e := rfl

theorem State.lastEv_of_events {s u : State} (h : u.port.events = s.port.events) : u.lastEv = s.lastEv := by
  simp only [State.lastEv, h]

theorem Chg.lastEv {L : List Part} {s u : State} (h : Chg L s u) (hL : L.contains .port = false) : u.lastEv = s.lastEv :=
  State.lastEv_of_events (by rw [h.port hL])

@[simp] theorem State.events_reply (s : State) (x : Caller) (res : Nat) (val : List Int) :
    (s.reply x res val).port.events = s.port.events := by
  unfold State.reply
  split <;> rfl

@[simp] theorem State.lastEv_reply (s : State) (x : Caller) (res : Nat) (val : List Int) :
    (s.reply x res val).lastEv = s.lastEv := State.lastEv_of_events (s.events_reply x res val)

end Sys2Proof.Machine
end

section
/-!
Proofs of the family of the supplies (chapter 14).
-/
namespace Sys2Proof.Machine
open Sys2Proof Sys2Proof.Config

/-! PFAIL with an open Scribe commits it, and the commit is read back as a continuous self-test of the pair (R409, R605). -/

theorem State.scribeCommit_tests (s : State) :
    s.scribeCommit.pair.tests = aput s.pair.tests 10 { tick := s.tick, pass := true } := rfl

theorem State.scribePfail_tests {s : State} (h : s.scribe.open_ = true) :
    ∃ l x, s.scribePfail.pair.tests = aput l 10 x := by
  unfold State.scribePfail
  rw [if_neg (by simp [h])]
  exact ⟨_, _, State.scribeCommit_tests _⟩

theorem aput_ne_nil {α : Type} (l : List (Nat × α)) (n : Nat) (x : α) : aput l n x ≠ [] :=
  fun h => List.cons_ne_nil _ _ h

theorem State.disarm_of_unarmed {s : State} (h : s.update.armed = none) (cause : Nat) : s.disarm cause = s := by
  simp [State.disarm, h]

/-- PFAIL is noted by the power die. -/
def State.withPfail (s : State) : State := s.modSupply fun x => { x with pfail := some s.time.clock }

theorem exec_pfail_eq {s z : State} {t ball aux : Nat} (hz : z = s.advance t) (hlong : 50 ≤ ball ∨ 50 ≤ aux)
    (hsupply : 165 ≤ z.supply.auxIn) (hnone : z.supply.pfail = none) :
    exec (.pfail t ball aux) s = .next (z.withPfail.scribePfail.disarm 5) := by
  show execPfail t ball aux s = _
  rw [execPfail, ← hz]
  exact congrArg _ (if_pos (by simpa [State.powerDie, hsupply, hnone] using hlong))

/-- A module after reset whose supply is there and whose Scribe is open. -/
def openScribe : State :=
  { State.reset with
    scribe := { State.reset.scribe with open_ := true }
    supply := { State.reset.supply with auxIn := 170 } }

/-- Refutes O9: PFAIL with an open Scribe and no package armed commits the Scribe, and the read-back of the commit is recorded
among the self-tests of the pair, a part that the clause says does not change. -/
theorem not_suppliesAndDieTemperatures : ¬ Obligations.SuppliesAndDieTemperatures := by
  unfold Obligations.SuppliesAndDieTemperatures
  rintro ⟨-, hpfail, -⟩
  have hlong : 50 ≤ 50 ∨ 50 ≤ 0 := .inl le_rfl
  have hsupply : 165 ≤ (openScribe.advance 0).supply.auxIn := by decide
  obtain ⟨u, hexec, -, -, hunarmed, -⟩ := hpfail openScribe (openScribe.advance 0) 0 50 0 rfl hlong hsupply rfl
  obtain ⟨-, honly⟩ := hunarmed rfl
  have hsame : u.pair.tests = [] := congrArg Pair.tests (honly .pair (by decide))
  have hrun := exec_pfail_eq (s := openScribe) (t := 0) rfl hlong hsupply rfl
  have hu := Host.Outcome.next.inj (hexec.symm.trans hrun)
  rw [State.disarm_of_unarmed (by rw [(State.scribePfail_chg _).update rfl]; rfl)] at hu
  obtain ⟨l, y, htests⟩ := State.scribePfail_tests (s := (openScribe.advance 0).withPfail) rfl
  exact aput_ne_nil l 10 y (by rw [← htests, ← hu, hsame])

end Sys2Proof.Machine
end

section
/-!
Proofs about start and restart (chapters 3 and 14): what a commanded restart leaves, and revisions and banks.
-/
namespace Sys2Proof.Machine
open Sys2Proof Sys2Proof.Config

/-! A commanded restart (R99). -/

/-- The logic die as it enters reset at a commanded restart: its requests ended, drives and regulators stopped. -/
theorem State.restart_eq (s : State) : ∃ x : State, Chg [.legs, .laws, .pair, .port, .safety, .drives, .supply] s x ∧
    s.restart = ((x.logicReset.modSafety fun y => { y with resetUntil := some s.time.clock }).react).refreshLs := by
  let x := ((s.requestSo false).restartDrives false).regsOff false
  have hx : Chg [.legs, .laws, .pair, .port, .safety, .drives, .supply] s x :=
    (((State.requestSo_chg s false).widen rfl).step (State.restartDrives_chg ..) rfl).step (State.regsOff_chg ..) rfl
  refine ⟨x, hx, ?_⟩
  have hclock : x.logicReset.time.clock = s.time.clock := by
    rw [State.logicReset_time, hx.time rfl]
  rw [← hclock]
  rfl

@[simp] theorem State.restart_mode (s : State) : s.restart.startup.mode = .off := by
  obtain ⟨x, -, h⟩ := s.restart_eq
  rw [h, (State.refreshLs_chg _).startup rfl, (State.react_chg _).startup rfl]
  rfl

@[simp] theorem State.restart_bank (s : State) : s.restart.startup.bank = s.startup.bank := by
  obtain ⟨x, hx, h⟩ := s.restart_eq
  rw [h, (State.refreshLs_chg _).startup rfl, (State.react_chg _).startup rfl, ← hx.startup rfl]
  rfl

@[simp] theorem State.restart_carousel (s : State) : s.restart.carousel = {} := by
  obtain ⟨x, -, h⟩ := s.restart_eq
  rw [h, (State.refreshLs_chg _).carousel rfl, (State.react_chg _).carousel rfl]
  rfl

@[simp] theorem State.restart_resetUntil (s : State) : s.restart.safety.resetUntil = some s.time.clock := by
  obtain ⟨x, -, h⟩ := s.restart_eq
  rw [h, (State.refreshLs_chg _).safety rfl, State.react_resetUntil]
  rfl

/-! Guards of the object port in the modes that serve them. -/

/-- An operation that its connection's mode serves runs. -/
theorem State.op_of_served {s : State} {c : ConnNo} {k : Conn} (hconn : s.port.conns[c] = some k) (hslots : k.slots.length < 16)
    {serves : Mode → Bool} (hserves : serves s.startup.mode = true) (f : Conn → State → State) : s.op c serves f = f k s := by
  simp only [State.op, hconn, not_le.mpr hslots, if_false, hserves, if_true]

/-! Revisions (R85). -/

theorem exec_revisionAck_eq {s z : State} {t hash : Nat} {r : PendingRev} (hz : z = s.advance t)
    (hpending : z.startup.pendingRev = some r) :
    exec (.revisionAck t hash) s = .next (
      if r.hash.toNat = hash ∧ z.stamp + 32768 ≤ r.boundary then
        { z with startup := { z.startup with pendingRev := some { r with acked := true } } } else z) := by
  show execRevisionAck t hash s = _
  simp only [execRevisionAck, ← hz, hpending, Bool.and_eq_true, decide_eq_true_eq]

/-- The state of an accepted BANK_REVERT before its restart: the marker names the other bank, and the client is answered. -/
def State.markerMoved (z : State) (c : ConnNo) : State :=
  (({ z with
      startup := { z.startup with bank := otherBank z.startup.bank }
      update := { z.update with served := if z.manifest (otherBank z.startup.bank) = z.activeManifest then z.update.served else (0, none) } }
    : State).raise .bankRevert [match otherBank z.startup.bank with | .a => 0 | .b => 1]).answer c 0

theorem State.markerMoved_bank (z : State) (c : ConnNo) : (z.markerMoved c).startup.bank = otherBank z.startup.bank := by
  unfold State.markerMoved
  rw [State.answer_startup, State.raise_startup]

theorem State.markerMoved_time (z : State) (c : ConnNo) : (z.markerMoved c).time = z.time := by
  unfold State.markerMoved
  rw [State.answer_time, State.raise_time]

/-- BANK_REVERT of a SERVICE client where the other bank passes: the marker moves, and the module restarts. -/
theorem exec_bankRevert_eq {s z : State} {t : Nat} {c : ConnNo} {k : Conn} {obs : ImageObs} {x : ImageHdr × List Rec}
    (hz : z = s.advance t) (hconn : z.port.conns[c] = some k) (hslots : k.slots.length < 16)
    (hmode : z.startup.mode = .refused ∨ z.startup.mode = .held ∨ z.startup.mode = .service) (hrole : k.role = .service)
    (hvalid : z.update.inactiveValid = true) (htrial : z.update.trial = none)
    (hgood : z.bankGood (otherBank z.startup.bank) obs .ring = true)
    (hcheck : z.checkBank (otherBank z.startup.bank) obs = .ok x) :
    exec (.bankRevert t c obs) s = .next (z.markerMoved c).restart := by
  have hserved : (fun m : Mode => m = .refused || m = .held || m = .service : Mode → Bool) z.startup.mode = true := by
    obtain h | h | h := hmode <;> simp [h]
  show execBankRevert t c obs s = _
  simp only [execBankRevert, ← hz]
  rw [State.op_of_served hconn hslots hserved]
  simp only [hrole, ne_eq, not_true_eq_false, if_false, hvalid, htrial, Option.isSome_none, Bool.not_true, Bool.or_self,
    Bool.false_eq_true, hgood, hcheck, State.markerMoved] <;> rfl

/-- The cancellation of the pending revision, as both modules carry it out. -/
theorem State.revisionCancel_of_pending {s : State} {r : PendingRev} (h : s.startup.pendingRev = some r) :
    s.revisionCancel.startup = { s.startup with pendingRev := none, ahead := none } ∧
      s.revisionCancel.lastEv = some .revisionCancelled := by
  simp only [State.revisionCancel, h, State.cancelRevision]
  exact ⟨State.raise_startup .., State.lastEv_raise ..⟩

/-- Settles O12: the acknowledgement up to its arc, the cancellation on both modules, and the restart on the other bank. -/
theorem revisionsAndBanks : Obligations.RevisionsAndBanks := by
  unfold Obligations.RevisionsAndBanks
  refine ⟨?_, ?_, ?_, ?_, ?_⟩
  · intro s z t r hz hpending htime
    refine ⟨_, exec_revisionAck_eq hz hpending, ?_⟩
    rw [if_pos ⟨rfl, htime⟩]
    exact ⟨rfl, Only.of_chg (Chg.setStartup ..) (by decide)⟩
  · intro s z t r hz hpending hlate
    refine ⟨_, exec_revisionAck_eq hz hpending, ?_⟩
    exact if_neg fun h => h.2.not_gt hlate
  · intro s z t r hz hpending hst hacked hlate
    refine ⟨z.journal .revisionCancelled, ?_, rfl⟩
    show execRevisionCancelled t s = _
    simp only [execRevisionCancelled, ← hz, hpending, State.ackMissing, hst, hacked, hlate, decide_true, Bool.not_false,
      Bool.and_self, if_true]
    rw [State.submit_holds (.inl hst)]
  · intro s z t x r hz hhead hinput hstamp hst hpending
    have hresync : z.pair.st ≠ .resync := by
      obtain h | ⟨h, -⟩ := hst <;> simp [h]
    have hseq : z.followsOn x.entry.jseq = true ∨ z.pair.st ≠ .standby := by
      obtain h | ⟨-, h⟩ := hst
      · exact .inr (by simp [h])
      · exact .inl (by simp [State.followsOn, h])
    refine ⟨_, exec_journalEffect_of_head hz hhead hinput hstamp hresync hseq, ?_⟩
    have hpopped : (z.popped x.entry.jseq).startup = z.startup :=
      (((State.settleHolds_chg z).widen (M := [.keys, .port, .tokens, .pair]) rfl).step (State.popEntry_chg ..) rfl).startup rfl
    rw [← hpopped] at hpending
    generalize z.popped x.entry.jseq = y at hpopped hpending ⊢
    rw [← hpopped]
    exact State.revisionCancel_of_pending hpending
  · intro s z t c k obs x hz hconn hslots hmode hrole hvalid htrial hgood hcheck
    have hexec := exec_bankRevert_eq hz hconn hslots hmode hrole hvalid htrial hgood hcheck
    refine ⟨_, hexec, ?_, State.restart_mode _, ?_, State.restart_carousel _,
      Only.of_chg (Chg.of_exec (hz ▸ execBankRevert_chg t c obs s) hexec) (by decide)⟩
    · rw [State.restart_bank, State.markerMoved_bank]
    · rw [State.restart_resetUntil, State.markerMoved_time]

end Sys2Proof.Machine
end

section
/-!
Proofs about wall time and PTP (chapters 2 and 16): the masters heard, the offsets of a Sync message, and the times they move.
-/
namespace Sys2Proof.Machine
open Sys2Proof Sys2Proof.Config

/-! Operations that leave the requests that wait. -/

/-- The requests that wait on each connection are the same in two states. -/
structure WaitsKept (s u : State) : Prop where
  waits : ∀ c, u.waits c = s.waits c

theorem WaitsKept.refl (s : State) : WaitsKept s s := ⟨fun _ => rfl⟩

theorem WaitsKept.trans {a b c : State} (h : WaitsKept a b) (k : WaitsKept b c) : WaitsKept a c :=
  ⟨fun n => (k.waits n).trans (h.waits n)⟩

theorem WaitsKept.of_chg {L : List Part} {s u : State} (h : Chg L s u) (hL : L.contains .port = false) : WaitsKept s u :=
  ⟨fun c => h.waits hL c⟩

theorem WaitsKept.raise (s : State) (e : Ev) (val : List Int) : WaitsKept s (s.raise e val) := ⟨s.waits_raise e val⟩

theorem WaitsKept.raiseS (s : State) (e : Ev) (val : List Int) : WaitsKept s (s.raiseS e val) := WaitsKept.raise ..

theorem WaitsKept.ite {c : Prop} [Decidable c] {s a b : State} (h : WaitsKept s a) (k : WaitsKept s b) :
    WaitsKept s (if c then a else b) := by
  split
  · exact h
  · exact k

theorem WaitsKept.foldl {α : Type} (f : State → α → State) (hf : ∀ s x, WaitsKept s (f s x)) (l : List α) (s : State) :
    WaitsKept s (l.foldl f s) := by
  induction l generalizing s with
  | nil => exact .refl s
  | cons x l ih => exact (hf s x).trans (ih (f s x))

theorem WaitsKept.countTamper (s : State) (typ : Nat) : WaitsKept s (s.countTamper typ) :=
  (WaitsKept.of_chg (Chg.setTamper ..) rfl).trans (.raiseS ..)

theorem WaitsKept.endPeriodOutlet (s : State) (o : Nat) : WaitsKept s (s.endPeriodOutlet o) := by
  unfold State.endPeriodOutlet
  split
  · exact .refl s
  · extract_lets p x1 k e q2 x2 comp t l eU add x3 was x4 x5
    have h1 : WaitsKept s x1 := .of_chg (State.modScribe_chg ..) rfl
    have h2 : WaitsKept s x2 := h1.trans (.of_chg (State.modSessions_chg ..) rfl)
    have h4 : WaitsKept s x4 := (h2.trans (.of_chg (State.modRegs_chg ..) rfl)).trans (.of_chg (State.modScribe_chg ..) rfl)
    have h5 : WaitsKept s x5 := h4.trans (.of_chg (State.flagOutlet_chg ..) rfl)
    refine .ite h1 (.ite (.ite (h1.trans (.of_chg (State.modRegs_chg ..) rfl)) h1) ?_)
    exact .ite (h2.trans (.of_chg (State.modRegs_chg ..) rfl)) (.ite h2 (.ite h4 (.ite h5 (h5.trans (.raiseS ..)))))

theorem WaitsKept.endPeriod (s : State) : WaitsKept s s.endPeriod := by
  unfold State.endPeriod
  extract_lets sec x1 x2 x3
  have h2 : WaitsKept s x2 :=
    (WaitsKept.of_chg (State.modCore_chg ..) rfl).trans (.foldl _ (fun y i => WaitsKept.endPeriodOutlet y (i + 1)) _ _)
  have h3 : WaitsKept s x3 := .ite h2 (h2.trans (.of_chg (State.modSessions_chg ..) rfl))
  exact .ite (.refl s) (.ite ((h3.trans (.of_chg (State.modSessions_chg ..) rfl)).trans (.of_chg (State.modCore_chg ..) rfl)) h3)

theorem WaitsKept.closeInterval (s : State) (more : List MFlag) (at_ : Option Nat) :
    WaitsKept s (s.closeInterval more at_) := by
  unfold State.closeInterval
  extract_lets iv flags outs energy rec_ x1 whole x2 x3
  have h1 : WaitsKept s x1 := .of_chg (State.modScribe_chg ..) rfl
  have h2 : WaitsKept s x2 :=
    .ite (h1.trans (.foldl _ (fun y o => WaitsKept.of_chg (State.demandMax_chg ..) rfl) _ _)) h1
  have h3 : WaitsKept s x3 := h2.trans (.foldl _ (fun y o => .ite (.countTamper ..) (.refl y)) _ _)
  exact h3.trans (.raiseS ..)

theorem WaitsKept.scribeWallStep (s : State) (old new : Nat) (back : Bool) : WaitsKept s (s.scribeWallStep old new back) := by
  unfold State.scribeWallStep
  extract_lets x1 x2 x3 x4 y1 y2
  have h1 : WaitsKept s x1 := (WaitsKept.endPeriod s).trans (.closeInterval ..)
  have h4 : WaitsKept s x4 := ((h1.trans (.of_chg (State.modCore_chg ..) rfl)).trans (.of_chg (State.startInterval_chg ..) rfl)).trans
    (.of_chg (State.modSessions_chg ..) rfl)
  have g1 : WaitsKept s y1 := h1.trans (by
    unfold y1
    split
    · exact .ite (.of_chg (State.modCore_chg ..) rfl) (.refl _)
    · exact .refl _)
  have g2 : WaitsKept s y2 := g1.trans (.of_chg (State.startInterval_chg ..) rfl)
  refine .ite (.refl s) (.ite ?_ ?_)
  · exact ((h4.trans (.of_chg (State.switchTariff_chg ..) rfl)).trans (.raiseS ..)).trans (.countTamper ..)
  · exact (g2.trans (.of_chg (State.monthStart_chg ..) rfl)).trans (.of_chg (State.switchTariff_chg ..) rfl)

theorem WaitsKept.scribeWallValid (s : State) : WaitsKept s s.scribeWallValid := by
  unfold State.scribeWallValid
  extract_lets x
  have h : WaitsKept s x :=
    ((WaitsKept.endPeriod s).trans (.closeInterval ..)).trans (.of_chg (State.startInterval_chg ..) rfl)
  refine .ite (.refl s) ?_
  split
  · exact (h.trans (.of_chg (State.monthStart_chg ..) rfl)).trans (.of_chg (State.switchTariff_chg ..) rfl)
  · exact h

/-! Wall time. -/

theorem State.stepWall_wall (s : State) (half : Nat) (source : WallSource) (role : Int) : (s.stepWall half source role).wall =
    { half, valid := s.wall.valid || source = WallSource.manual, source, slew := 0, steps := s.wall.steps + 1 } := by
  unfold State.stepWall
  extract_lets old was src x
  split
  · exact (State.scribeWallStep_chg ..).wall rfl
  · split
    · exact (State.scribeWallValid_chg ..).wall rfl
    · rfl

theorem WaitsKept.stepWall (s : State) (half : Nat) (source : WallSource) (role : Int) :
    WaitsKept s (s.stepWall half source role) := by
  unfold State.stepWall
  extract_lets old was src x
  have h : WaitsKept s x := (WaitsKept.of_chg (Chg.setWall ..) rfl).trans (.raise ..)
  exact .ite (h.trans (.scribeWallStep ..)) (.ite (h.trans (.scribeWallValid ..)) h)

theorem State.ptpStep_wall (s : State) (d : Int) : (s.ptpStep d).wall =
    { half := (s.wall.half + d).toNat, valid := s.wall.valid, source := .ptp, slew := 0, steps := s.wall.steps + 1 } := by
  rw [State.ptpStep, State.stepWall_wall]
  simp

theorem State.wallPtp_wall (s : State) : (s.wallPtp true).wall = { s.wall with valid := true, source := .ptp } := by
  unfold State.wallPtp
  split
  case isTrue h => cases h
  case isFalse =>
    extract_lets was x
    split
    · rfl
    · exact (State.scribeWallValid_chg ..).wall rfl

/-! The best master (R648). -/

theorem rankLt_irrefl (a : List Nat) : rankLt a a = false := by
  induction a with
  | nil => rfl
  | cons x a ih => simp [rankLt, ih]

/-- A ranking is not below what is not below it, nor below what precedes it. -/
theorem rankLt_cut {a b c : List Nat} (hac : a.length = b.length) (hbc : b.length = c.length) (hab : rankLt a b = false)
    (hcb : rankLt c b = true) : rankLt a c = false := by
  induction a generalizing b c with
  | nil => rfl
  | cons x a ih =>
    obtain _ | ⟨y, b⟩ := b
    · cases hac
    obtain _ | ⟨w, c⟩ := c
    · cases hbc
    simp only [List.length_cons, Nat.add_right_cancel_iff] at hac hbc
    simp only [rankLt, Bool.or_eq_false_iff, Bool.and_eq_false_iff, decide_eq_false_iff_not, Bool.or_eq_true, Bool.and_eq_true,
      decide_eq_true_eq] at hab hcb ⊢
    obtain ⟨hxy, htail⟩ := hab
    refine ⟨by omega, ?_⟩
    by_cases hxw : x = w
    · refine .inr ?_
      have hyw : w = y := by omega
      subst hxw
      have hxy' : ¬ x < y := hxy
      obtain hlt | ⟨-, hlt⟩ := hcb
      · omega
      · exact ih hac hbc (htail.resolve_left (fun h => h hyw)) hlt
    · exact .inl hxw

theorem bestMaster_concat (l : List (Nat × PtpMaster × Nat)) (x : Nat × PtpMaster × Nat) : bestMaster (l ++ [x]) =
    match bestMaster l with
    | some b => if rankLt (ptpRank x) (ptpRank b) then some x else some b
    | none => some x := by
  unfold bestMaster
  rw [List.foldl_append, List.foldl_cons, List.foldl_nil]
  cases l.foldl _ none with
  | none => rfl
  | some b => rfl

/-- The best master among those heard is one of them, and none is below it. -/
theorem bestMaster_spec (l : List (Nat × PtpMaster × Nat)) (h : l ≠ []) :
    ∃ b ∈ l, bestMaster l = some b ∧ ∀ x ∈ l, rankLt (ptpRank x) (ptpRank b) = false := by
  induction l using List.reverseRecOn with
  | nil => exact absurd rfl h
  | append_singleton l x ih =>
    by_cases hl : l = []
    · subst hl
      exact ⟨x, by simp, rfl, by simp [rankLt_irrefl]⟩
    · obtain ⟨b, hb, hbest, hmin⟩ := ih hl
      rw [bestMaster_concat, hbest]
      by_cases hx : rankLt (ptpRank x) (ptpRank b) = true
      · refine ⟨x, by simp, by simp [hx], fun y hy => ?_⟩
        obtain hy | hy := List.mem_append.mp hy
        · exact rankLt_cut (a := ptpRank y) (b := ptpRank b) (c := ptpRank x) rfl rfl (hmin y hy) hx
        · rw [List.mem_singleton.mp hy, rankLt_irrefl]
      · refine ⟨b, by simp [hb], by simp [hx], fun y hy => ?_⟩
        obtain hy | hy := List.mem_append.mp hy
        · exact hmin y hy
        · rw [List.mem_singleton.mp hy]
          exact Bool.eq_false_iff.mpr hx

theorem State.selectMaster_ptp (s : State) : s.selectMaster.ptp.heard = s.ptp.heard ∧
    s.selectMaster.ptp.selected = (bestMaster s.ptp.heard).map fun b => (b.1, b.2.1) := by
  unfold State.selectMaster
  extract_lets best same x y
  have hx : x.ptp.heard = s.ptp.heard := by
    unfold x
    split
    · split <;> rfl
    · rfl
  have hy : y.ptp.heard = s.ptp.heard := by
    unfold y
    split
    · rfl
    · exact hx
  exact ⟨hy, rfl⟩

/-- Another selection does not synchronise, nor count a good Sync message. -/
theorem State.selectMaster_unsynced {s : State} (hsync : s.ptp.sync = false) (hgood : s.ptp.good = 0) :
    s.selectMaster.ptp.sync = false ∧ s.selectMaster.ptp.good = 0 := by
  unfold State.selectMaster
  extract_lets best same x y
  have hx : x.ptp.sync = false ∧ x.ptp.good = 0 := by
    unfold x
    split
    · rw [hsync]
      exact ⟨hsync, hgood⟩
    · exact ⟨hsync, hgood⟩
  have hy : y.ptp.sync = false ∧ y.ptp.good = 0 := by
    unfold y
    split
    · exact ⟨hsync, hgood⟩
    · exact ⟨hx.1, rfl⟩
  exact hy

/-! A Sync message (R648). -/

/-- The state after the values of a Sync message of the selected master. -/
def State.synced (z : State) (off : Int) (delay : Nat) : State := z.modPtp fun p =>
  { p with offset := off, delay, lastSync := z.time.clock, good := if off.natAbs < 10000 then p.good + 1 else 0 }

/-- The state after its offset is slewed or stepped, by way of the journal in a pair. -/
def State.syncMoved (z : State) (off : Int) : State :=
  if off.natAbs ≤ 100000000 then z.submit (.wallSlew (-2 * off)) (·.ptpSlew (-2 * off))
  else z.submit (.wallStep (-2 * off)) (·.ptpStep (-2 * off))

theorem State.syncMoved_chg (z : State) (off : Int) : Chg [.wall, .scribe, .pair, .port, .tamper] z (z.syncMoved off) := by
  unfold State.syncMoved
  split
  · exact State.submit_chg (fun y => (State.ptpSlew_chg ..).widen rfl) rfl
  · exact State.submit_chg (fun y => (State.ptpStep_chg ..).widen rfl) rfl

theorem exec_ptpSync_eq {s z : State} {t : Nat} {port : EthNo} {m : PtpMaster} {off : Int} {delay : Nat} (hz : z = s.advance t)
    (hsel : z.ptp.selected = some (port.val, m)) : exec (.ptpSync t port m.identity off delay) s = .next (
      if !z.ptp.sync && 8 ≤ (z.synced off delay).ptp.good then
        (((z.synced off delay).syncMoved off).ptpState true port.val m.identity).submit (.ptpState true) (·.wallPtp true)
      else (z.synced off delay).syncMoved off) := by
  have hmoved := (z.synced off delay).syncMoved_chg off
  show execPtpSync t port m.identity off delay s = _
  simp only [execPtpSync, ← hz, hsel, ne_eq, not_true_eq_false]
  show Host.Outcome.next (if !((z.synced off delay).syncMoved off).ptp.sync && 8 ≤ ((z.synced off delay).syncMoved off).ptp.good
    then _ else _) = _
  rw [hmoved.ptp rfl]
  rfl

/-- The pair after an input is submitted is the same whatever its effect, where the module has a journal. -/
theorem State.submit_pair {s : State} (h : journals s.pair.st = true) (j : JInput) (f g : State → State) :
    (s.submit j f).pair = (s.submit j g).pair := by
  unfold State.submit
  unfold journals at h
  split <;> simp_all

/-- An input that is submitted changes the pair alone, where the module has a journal. -/
theorem State.submit_chg_pair {s : State} (h : journals s.pair.st = true) (j : JInput) (f : State → State) :
    Chg [.pair] s (s.submit j f) := by
  unfold State.submit
  unfold journals at h
  split
  · exact State.journal_chg ..
  · exact State.journal_chg ..
  · exact .ite (.refl ..) (Chg.setPair ..)
  · exact .ite (.refl ..) (Chg.setPair ..)
  all_goals simp_all

theorem State.submit_st {s : State} {j : JInput} {f : State → State} (hf : ∀ y, (f y).pair = y.pair) :
    (s.submit j f).pair.st = s.pair.st := by
  unfold State.submit
  split
  case h_3 => split <;> rfl
  case h_4 => split <;> rfl
  case h_1 | h_2 => rfl
  all_goals rw [hf]

theorem State.submit_synced_pair (z : State) (off : Int) (delay : Nat) (j : JInput) :
    ((z.synced off delay).submit j id).pair = (z.submit j id).pair := by
  unfold State.submit
  have hst : (z.synced off delay).pair.st = z.pair.st := rfl
  rw [hst]
  split
  case h_3 => split <;> rfl
  case h_4 => split <;> rfl
  all_goals rfl

theorem exec_ptpTimeout_unsynced {s z : State} {t : Nat} {x : Nat × PtpMaster} (hz : z = s.advance t)
    (hsel : z.ptp.selected = some x) (hquiet : z.expired z.ptp.lastSync (4 * ticksPerSec) = true) :
    ∃ u, exec (.ptpTimeout t) s = .next u ∧ u.ptp.sync = false ∧ u.ptp.good = 0 := by
  let y := if z.ptp.sync then (z.ptpState false x.1 x.2.identity).submit (.ptpState false) (·.wallPtp false) else z
  have hy : y.ptp.sync = false := by
    unfold y
    split
    case isTrue =>
      rw [(State.submit_chg (L := [.wall, .scribe, .port, .tamper, .pair]) (fun y => (State.wallPtp_chg ..).widen rfl) rfl).ptp rfl]
      rfl
    case isFalse h => exact Bool.eq_false_iff.mpr h
  let w := y.modPtp fun p => { p with good := 0 }
  have hexec : ∃ gone : Bool, exec (.ptpTimeout t) s = .next (
      if gone then (w.modPtp fun p => { p with heard := p.heard.filter fun x => !w.announceLost x }).selectMaster else w) := by
    refine ⟨z.ptp.heard.any fun y => y.1 = x.1 && y.2.1.identity = x.2.identity && z.announceLost y, ?_⟩
    show execPtpTimeout t s = _
    simp only [execPtpTimeout, ← hz, hsel, hquiet, Bool.not_true, Bool.and_false, Bool.false_eq_true, if_false]
    rfl
  obtain ⟨gone, hexec⟩ := hexec
  refine ⟨_, hexec, ?_⟩
  split
  · exact State.selectMaster_unsynced hy rfl
  · exact ⟨hy, rfl⟩

/-- Settles O13: the best master, the offset slewed or stepped, and the times that a client, PTP and the Scribe set. -/
theorem wallAndScribeTime : Obligations.WallAndScribeTime := by
  unfold Obligations.WallAndScribeTime
  refine ⟨?_, ?_, ?_, ?_, ?_, ?_, ?_, ?_, ?_, ?_, ?_, ?_⟩
  · intro s z t port m hz hdone hport
    have hexec : ∃ l, exec (.ptpAnnounce t port m) s =
        .next (z.modPtp fun x => { x with heard := l ++ [(port.val, m, z.time.clock)] }).selectMaster := by
      refine ⟨z.ptp.heard.filter fun x => !(x.1 = port.val && x.2.1.identity = m.identity) && !z.announceLost x, ?_⟩
      show execPtpAnnounce t port m s = _
      simp only [execPtpAnnounce, ← hz, hdone, hport, Bool.and_self, if_true]
    obtain ⟨l, hexec⟩ := hexec
    obtain ⟨hheard, hselected⟩ := State.selectMaster_ptp (z.modPtp fun x => { x with heard := l ++ [(port.val, m, z.time.clock)] })
    refine ⟨_, hexec, ?_, ?_, Only.of_chg (Chg.of_exec (hz ▸ execPtpAnnounce_chg t port m s) hexec) (by decide)⟩
    · rw [hheard]
      exact List.mem_append_right _ (List.mem_singleton_self _)
    · rw [hheard, hselected]
      obtain ⟨b, hb, hbest, hmin⟩ := bestMaster_spec (l ++ [(port.val, m, z.time.clock)]) (by simp)
      refine ⟨b, hb, ?_, hmin⟩
      show (bestMaster (l ++ [(port.val, m, z.time.clock)])).map _ = _
      rw [hbest]
      rfl
  · intro s z t port m off delay hz hsel hoff hfew
    have hexec := exec_ptpSync_eq (off := off) (delay := delay) hz hsel
    have hnot : (!z.ptp.sync && decide (8 ≤ (z.synced off delay).ptp.good)) = false := by
      have hgood : (z.synced off delay).ptp.good = if off.natAbs < 10000 then z.ptp.good + 1 else 0 := rfl
      rw [hgood]
      obtain h | h | h := hfew
      · simp [h]
      · simp [not_lt.mpr h]
      · split
        · simp only [Bool.and_eq_false_iff, decide_eq_false_iff_not]
          omega
        · simp
    rw [hnot, if_neg Bool.false_ne_true, State.syncMoved, if_pos hoff] at hexec
    have hptp : ((z.synced off delay).submit (.wallSlew (-2 * off)) (·.ptpSlew (-2 * off))).ptp = (z.synced off delay).ptp :=
      (State.submit_chg (L := [.wall, .pair]) (fun y => (State.ptpSlew_chg ..).widen rfl) rfl).ptp rfl
    have hframe : Chg [.ptp, .wall, .pair] z ((z.synced off delay).submit (.wallSlew (-2 * off)) (·.ptpSlew (-2 * off))) :=
      ((State.modPtp_chg ..).widen rfl).trans (State.submit_chg (fun y => (State.ptpSlew_chg ..).widen rfl) rfl)
    refine ⟨_, hexec, hptp, ?_, ?_, Only.of_chg hframe (by decide)⟩
    · rw [← State.submit_synced_pair z off delay]
      by_cases hj : journals z.pair.st = true
      · exact State.submit_pair (s := z.synced off delay) hj ..
      · rw [State.submit_alone (s := z.synced off delay) (Bool.eq_false_iff.mpr hj),
          State.submit_alone (s := z.synced off delay) (Bool.eq_false_iff.mpr hj)]
        rfl
    · split
      case isTrue hj => exact (State.submit_chg_pair (s := z.synced off delay) hj ..).wall rfl
      case isFalse hj =>
        rw [State.submit_alone (s := z.synced off delay) (Bool.eq_false_iff.mpr hj)]
        rfl
  · intro s z t port m off delay hz hsel hoff
    have hexec := exec_ptpSync_eq (off := off) (delay := delay) hz hsel
    have hgood : (z.synced off delay).ptp.good = 0 := if_neg (by omega)
    rw [hgood, if_neg (by simp), State.syncMoved, if_neg (by omega)] at hexec
    have hptp : ((z.synced off delay).submit (.wallStep (-2 * off)) (·.ptpStep (-2 * off))).ptp = (z.synced off delay).ptp :=
      (State.submit_chg (L := [.wall, .scribe, .port, .tamper, .pair]) (fun y => (State.ptpStep_chg ..).widen rfl) rfl).ptp rfl
    refine ⟨_, hexec, ?_, ?_, fun hj => ⟨?_, ?_⟩, fun hj => ?_,
      Only.of_chg (Chg.of_exec (hz ▸ execPtpSync_chg t port m.identity off delay s) hexec) (by decide)⟩
    · rw [hptp, hgood]
    · rw [hptp]
      rfl
    · rw [← State.submit_synced_pair z off delay]
      exact State.submit_pair (s := z.synced off delay) hj ..
    · exact (State.submit_chg_pair (s := z.synced off delay) hj ..).wall rfl
    · have hhalf : (z.wall.half : Int) - 2 * off = z.wall.half + -2 * off := by omega
      rw [State.submit_alone (s := z.synced off delay) hj, State.ptpStep_wall, hhalf]
      rfl
  · intro s z t port m off delay hz hsel hoff hsync hgood
    have hexec := exec_ptpSync_eq (off := off) (delay := delay) hz hsel
    have hgood' : (z.synced off delay).ptp.good = z.ptp.good + 1 := if_pos hoff
    rw [hgood', hsync, if_pos (by simp; omega), State.syncMoved, if_pos (by omega)] at hexec
    have hslew : Chg [.wall, .pair] (z.synced off delay) ((z.synced off delay).submit (.wallSlew (-2 * off)) (·.ptpSlew (-2 * off))) :=
      State.submit_chg (fun y => (State.ptpSlew_chg ..).widen rfl) rfl
    have hst := State.submit_st (s := z.synced off delay) (j := .wallSlew (-2 * off)) fun y => (State.ptpSlew_chg y (-2 * off)).pair rfl
    have hpaired := fun hj => State.submit_chg_pair (s := z.synced off delay) hj (.wallSlew (-2 * off)) (·.ptpSlew (-2 * off))
    have hheld := fun hst => State.submit_holds (s := z.synced off delay) hst (.wallSlew (-2 * off)) (·.ptpSlew (-2 * off))
    have halone := fun hj => State.submit_alone (s := z.synced off delay) hj (.wallSlew (-2 * off)) (·.ptpSlew (-2 * off))
    generalize (z.synced off delay).submit (.wallSlew (-2 * off)) (·.ptpSlew (-2 * off)) = y at hexec hslew hst hpaired hheld halone
    have hout := State.ptpState_chg y true port.val m.identity
    have hoffer : Chg [.wall, .scribe, .port, .tamper, .pair] (y.ptpState true port.val m.identity)
        ((y.ptpState true port.val m.identity).submit (.ptpState true) (·.wallPtp true)) :=
      State.submit_chg (fun y => (State.wallPtp_chg ..).widen rfl) rfl
    have hst' : (y.ptpState true port.val m.identity).pair.st = z.pair.st := by
      rw [hout.pair rfl, hst]
      rfl
    refine ⟨_, hexec, ?_, fun hj => ?_, fun hholds => ?_, fun hj => ?_,
      Only.of_chg (Chg.of_exec (hz ▸ execPtpSync_chg t port m.identity off delay s) hexec) (by decide)⟩
    · rw [hoffer.ptp rfl]
      rfl
    · rw [(State.submit_chg_pair (hst' ▸ hj) ..).wall rfl, hout.wall rfl, (hpaired hj).wall rfl]
      rfl
    · rw [State.submit_holds (hst' ▸ hholds), State.journal_journal, hout.pair rfl, hheld hholds, State.journal_journal]
      simp [State.synced]
    · rw [State.submit_alone (hst' ▸ hj), State.wallPtp_wall, hout.wall rfl, halone hj]
      rfl
  · intro s z t x hz hsel hlate
    have hquiet : z.expired z.ptp.lastSync (4 * ticksPerSec) = true := decide_eq_true hlate
    obtain ⟨y, hexec, hsync, hgood⟩ := exec_ptpTimeout_unsynced hz hsel hquiet
    exact ⟨_, hexec, hsync, hgood, Only.of_chg (Chg.of_exec (hz ▸ execPtpTimeout_chg t s) hexec) (by decide)⟩
  · exact fun d => .of_apply fun z tick stamp _ => ⟨rfl, Only.of_chg (State.ptpSlew_chg z d) (by decide)⟩
  · exact fun d => .of_apply fun z tick stamp _ => ⟨State.ptpStep_wall .., Only.of_chg (State.ptpStep_chg z d) (by decide)⟩
  · exact .of_apply fun z tick stamp _ => State.wallPtp_wall z
  · intro c sec nsec
    refine .of_change (fun x s => s.opWall x sec nsec) (fun s t => rfl) (fun x arrival z => rfl) fun z v x hH => ?_
    obtain ⟨hsync, hsec, hnsec⟩ := hH
    have hop : (z.withConns v).opWall x sec nsec =
        ((z.withConns v).stepWall (sec * 2000000000 + 2 * nsec) .manual (roleBit x.role)).reply x 0 := by
      have hsync' : (z.withConns v).ptp.sync = false := hsync
      simp only [State.opWall, hsync', Bool.false_eq_true, if_false, not_le.mpr hsec, not_le.mpr hnsec, decide_false, Bool.or_self]
    have hchg : Chg [.wall, .scribe, .port, .tamper] z ((z.withConns v).opWall x sec nsec) :=
      ((State.withConns_chg z v).widen rfl).trans ((State.opWall_chg ..).widen rfl)
    refine ⟨⟨?_, Only.of_chg hchg (by decide)⟩, fun hx hw => ?_⟩
    · rw [hop, (State.reply_chg ..).wall rfl, State.stepWall_wall]
      simp [State.withConns]
    · rw [hop]
      exact State.res_reply hx (((WaitsKept.stepWall ..).waits c).trans hw) ..
  · intro c sec nsec
    refine .of_change (fun x s => s.opWall x sec nsec) (fun s t => rfl) (fun x arrival z => rfl) fun z v x hH => ?_
    have hop : (z.withConns v).opWall x sec nsec = (z.withConns v).reply x 4 := if_pos hH
    rw [hop]
    exact ⟨Only.of_chg (((State.withConns_chg z v).widen rfl).trans (State.reply_chg ..)) (by decide),
      fun hx hw => State.res_reply hx hw ..⟩
  · intro s z t hz hopen htime
    have hexec : exec (.scribeTimeCount t) s = .next (z.modCore fun c => { c with time := c.time + 1 }) := by
      show execScribeTimeCount t s = _
      simp only [execScribeTimeCount, ← hz, hopen, htime, decide_true, Bool.and_self, if_true]
    exact ⟨_, hexec, rfl, Only.of_chg (State.modCore_chg ..) (by decide)⟩
  · intro s z t hz htime
    refine ⟨z, ?_, rfl⟩
    show execScribeTimeCount t s = _
    simp only [execScribeTimeCount, ← hz, htime, lt_irrefl, decide_false, Bool.and_false, Bool.false_eq_true, if_false]

end Sys2Proof.Machine
end

section
/-!
Proofs about the CAN channels (chapter 16): what becomes of one channel, and of no other, at an error, a window and a frame.
-/
namespace Sys2Proof.Machine
open Sys2Proof Sys2Proof.Config

/-! The records in force are those of the start-up part. -/

theorem State.recs_of_startup {s u : State} (h : u.startup = s.startup) (typ : Nat) : u.recs typ = s.recs typ := by
  simp only [State.recs, h]

theorem State.rec1_of_startup {s u : State} (h : u.startup = s.startup) (typ : Nat) : u.rec1 typ = s.rec1 typ := by
  simp only [State.rec1, State.recs_of_startup h]

theorem State.recAt_of_startup {s u : State} (h : u.startup = s.startup) (typ hi lo i : Nat) :
    u.recAt typ hi lo i = s.recAt typ hi lo i := by
  simp only [State.recAt, State.recs_of_startup h]

theorem State.policy_of_startup {s u : State} (h : u.startup = s.startup) : u.policy = s.policy := by
  simp only [State.policy, State.recs_of_startup h, State.rec1_of_startup h]

/-! What an entry of the journal is made of. -/

theorem State.journal_pair_congr {a b : State} (ht : b.time = a.time) (hc : b.carousel = a.carousel) (hs : b.startup = a.startup)
    (hp : b.pair = a.pair) (j : JInput) : (b.journal j).pair = (a.journal j).pair := by
  have hlead : b.journalLead = a.journalLead := by rw [State.journalLead, State.journalLead, State.rec1_of_startup hs]
  have htick : b.tick = a.tick := by rw [State.tick, State.tick, ht]
  have hstamp : b.stampOf a.tick = a.stampOf a.tick := by rw [State.stampOf, State.stampOf, htick, hc]
  simp only [State.journal, hlead, htick, hstamp, hp]

/-- The pair after an input is submitted does not hang on the other parts of the state. -/
theorem State.submit_pair_congr {a b : State} (ht : b.time = a.time) (hc : b.carousel = a.carousel) (hs : b.startup = a.startup)
    (hp : b.pair = a.pair) (j : JInput) : (b.submit j id).pair = (a.submit j id).pair := by
  unfold State.submit
  rw [hp]
  split
  case h_1 | h_2 => exact State.journal_pair_congr ht hc hs hp j
  case h_3 | h_4 =>
    split
    · exact hp
    · rw [hc]
  all_goals exact hp

/-! One channel of the eight. -/

theorem State.can_modCan (s : State) (k : CanNo) (f : Can → Can) : (s.modCan k.val f).can k.val = f (s.can k.val) := by
  show vget (vmapIdx (fun i x => if i = k.val then f x else x) s.buses.can) k.val {} = _
  rw [vget_vmapIdx _ _ _ _ k.isLt, if_pos rfl]
  rfl

theorem State.can_modCan_other (s : State) {k j : CanNo} (h : j ≠ k) (f : Can → Can) :
    (s.modCan k.val f).can j.val = s.can j.val := by
  show vget (vmapIdx (fun i x => if i = k.val then f x else x) s.buses.can) j.val {} = _
  rw [vget_vmapIdx _ _ _ _ j.isLt, if_neg (fun hval => h (Fin.ext hval))]
  rfl

theorem State.can_of_buses {s u : State} (h : u.buses = s.buses) (k : Nat) : u.can k = s.can k := by
  simp only [State.can, h]

theorem State.can_raise (s : State) (e : Ev) (val : List Int) (k : Nat) : (s.raise e val).can k = s.can k :=
  State.can_of_buses (s.raise_buses e val) k

theorem State.can_canCount (s : State) (k : CanNo) (f : CanCounts → CanCounts) :
    (s.canCount k.val f).can k.val = { s.can k.val with counts := f (s.can k.val).counts } := s.can_modCan k _

/-- No other channel than `k` changes. -/
structure OneCan (k : CanNo) (s u : State) : Prop where
  other : ∀ j : CanNo, j ≠ k → u.can j.val = s.can j.val

theorem OneCan.refl (k : CanNo) (s : State) : OneCan k s s := ⟨fun _ _ => rfl⟩

theorem OneCan.trans {k : CanNo} {a b c : State} (h : OneCan k a b) (g : OneCan k b c) : OneCan k a c :=
  ⟨fun j hj => (g.other j hj).trans (h.other j hj)⟩

theorem OneCan.of_buses {k : CanNo} {s u : State} (h : u.buses = s.buses) : OneCan k s u :=
  ⟨fun j _ => State.can_of_buses h j.val⟩

theorem OneCan.modCan (s : State) (k : CanNo) (f : Can → Can) : OneCan k s (s.modCan k.val f) :=
  ⟨fun _ hj => s.can_modCan_other hj f⟩

theorem OneCan.canCount (s : State) (k : CanNo) (f : CanCounts → CanCounts) : OneCan k s (s.canCount k.val f) :=
  .modCan s k _

theorem OneCan.raise (s : State) (k : CanNo) (e : Ev) (val : List Int) : OneCan k s (s.raise e val) :=
  .of_buses (s.raise_buses e val)

theorem OneCan.ite {k : CanNo} {c : Prop} [Decidable c] {s a b : State} (h : OneCan k s a) (g : OneCan k s b) :
    OneCan k s (if c then a else b) := by
  split
  · exact h
  · exact g

/-! Fault confinement (R622). -/

theorem OneCan.canConfine (s : State) (k : CanNo) : OneCan k s (s.canConfine k.val) := by
  unfold State.canConfine
  extract_lets x st y
  refine .ite (.refl k s) ?_
  have hy : OneCan k s y := .modCan s k _
  clear_value y st
  split
  · exact ((hy.trans (.modCan y k _)).trans (.canCount _ k _)).trans (.raise ..)
  · exact hy.trans (.raise ..)

/-- While the channel is not bus-off, and its transmit error count does not end that, its error state follows both counts. -/
theorem State.canConfine_on {s : State} {k : CanNo} (hon : (s.can k.val).err ≠ .busOff) (htec : (s.can k.val).tec ≤ 255) :
    (s.canConfine k.val).can k.val = { s.can k.val with
      err := if 127 < (s.can k.val).tec ∨ 127 < (s.can k.val).rec_ then .passive else .active } := by
  unfold State.canConfine
  have hst : (if (s.can k.val).err = .busOff || 255 < (s.can k.val).tec then CanErr.busOff
      else if 127 < (s.can k.val).tec || 127 < (s.can k.val).rec_ then .passive else .active) =
      if 127 < (s.can k.val).tec ∨ 127 < (s.can k.val).rec_ then .passive else .active := by
    simp [hon, not_lt.mpr htec]
  extract_lets x st y
  rw [← show st = _ from hst]
  have hy : y.can k.val = { s.can k.val with err := st } := s.can_modCan k _
  split
  case isTrue h =>
    rw [h]
  case isFalse h =>
    have hoff : st ≠ .busOff := by
      rw [show st = _ from hst]
      split <;> simp
    clear_value y st
    split
    · contradiction
    · rw [State.can_raise, hy]

/-- A channel in its error state keeps it while its counts do. -/
theorem State.canConfine_of_active {s : State} {k : CanNo} (hst : (s.can k.val).err = .active) (htec : (s.can k.val).tec ≤ 127)
    (hrec : (s.can k.val).rec_ ≤ 127) : s.canConfine k.val = s := by
  unfold State.canConfine
  have h1 : ¬ 255 < (s.can k.val).tec := by omega
  simp [hst, h1, not_lt.mpr htec, not_lt.mpr hrec]

/-- A transmit error count beyond 255 ends in bus-off. -/
theorem State.canConfine_busOff {s : State} {k : CanNo} (hst : (s.can k.val).err ≠ .busOff) (htec : 255 < (s.can k.val).tec) :
    ((s.canConfine k.val).can k.val).err = .busOff ∧ ((s.canConfine k.val).can k.val).attempt = none ∧
      (s.canConfine k.val).lastEv = some .canBusOff := by
  unfold State.canConfine
  simp only [htec, decide_true, Bool.or_true, if_true, if_neg hst.symm]
  rw [State.can_raise, State.can_canCount, State.can_modCan, State.can_modCan]
  exact ⟨rfl, rfl, State.lastEv_raise ..⟩

/-! Errors, and the reference (R622, R631). -/

/-- What an error adds to the receive error count. -/
def rxWeight : RxErr → Nat
  | .first => 1
  | .dominantAfterFlag => 8

theorem exec_canReceiveError_on {s z : State} {t : Nat} {k : CanNo} {e : RxErr} {w : List W32} (hz : z = s.advance t)
    (hrec : z.canRec k.val = some w) (hlisten : z.listenOnly w = false) (hon : (z.can k.val).err ≠ .busOff) :
    exec (.canReceiveError t k e) s = .next (((z.canCount k.val fun c => { c with errors := c.errors + 1 }).modCan k.val fun x =>
      { x with rec_ := x.rec_ + rxWeight e }).canConfine k.val) := by
  have hon' : ((z.canCount k.val fun c => { c with errors := c.errors + 1 }).can k.val).err ≠ .busOff := by
    rw [State.can_canCount]
    exact hon
  have hskip : ((z.canCount k.val fun c => { c with errors := c.errors + 1 }).listenOnly w ||
      ((z.canCount k.val fun c => { c with errors := c.errors + 1 }).can k.val).err = .busOff) = false := by
    simp only [Bool.or_eq_false_iff, decide_eq_false_iff_not]
    exact ⟨hlisten, hon'⟩
  show execCanReceiveError t k e s = _
  cases e <;> simp only [execCanReceiveError, ← hz, hrec, hskip, Bool.false_eq_true, if_false, rxWeight]

theorem exec_canReceiveError_listen {s z : State} {t : Nat} {k : CanNo} {e : RxErr} {w : List W32} (hz : z = s.advance t)
    (hrec : z.canRec k.val = some w) (hlisten : z.listenOnly w = true) :
    exec (.canReceiveError t k e) s = .next (z.canCount k.val fun c => { c with errors := c.errors + 1 }) := by
  have hlisten' : (z.canCount k.val fun c => { c with errors := c.errors + 1 }).listenOnly w = true := hlisten
  show execCanReceiveError t k e s = _
  simp only [execCanReceiveError, ← hz, hrec, hlisten', Bool.true_or, if_true]

theorem State.refOverdue_of {s : State} {k : CanNo} {w : List W32} {r : Nat × Nat} (hrec : s.canRec k.val = some w)
    (hcycle : (s.can k.val).cycleRef = some r) (hrole : canRole w = 2) (hlost : (s.can k.val).refLost = false)
    (hlate : r.1 + 2 * 2 ^ schedL (s.canSched k.val) < s.stamp) : s.refOverdue k.val = some r.2 := by
  simp only [State.refOverdue, hrec, hcycle, hrole, hlost, hlate, decide_true, Bool.not_false, Bool.and_self, if_true]

theorem OneCan.canMissed (s : State) (k : CanNo) (src index cycle : Nat) : OneCan k s (s.canMissed k.val src index cycle) :=
  ((OneCan.modCan s k _).trans (.canCount _ k _)).trans (.raise ..)

theorem State.canMissed_can (s : State) (k : CanNo) (src index cycle : Nat) :
    ((s.canMissed k.val src index cycle).can k.val).err = (s.can k.val).err ∧
      ((s.canMissed k.val src index cycle).can k.val).tec = (s.can k.val).tec := by
  unfold State.canMissed
  extract_lets y
  rw [State.can_raise, State.can_canCount, State.can_modCan]
  exact ⟨rfl, rfl⟩

/-! The reference message in its window (R626 to R631). -/

theorem State.heardSlot_chg_pair (s : State) {heard : Bool} (h : heard = true ∨ s.pair.st ≠ .holder) :
    Chg [.pair] s (s.heardSlot heard) := by
  unfold State.heardSlot
  split
  · exact .refl ..
  · case isFalse hst =>
    rw [h.resolve_right (fun h => hst h)]
    exact Chg.setPair ..

/-- The first command in a window of the reference message takes the window, and no other channel. -/
theorem State.takeWindow_eq {s : State} {k cycle entry : Nat} {v : CanWin} (hwin : (s.can k).win ≠ some (cycle, entry))
    (hkind : v.kind = 0) :
    s.takeWindow k cycle entry v = s.modCan k fun x => { x with win := some (cycle, entry), tried := false } := by
  simp only [State.takeWindow, if_neg hwin, hkind]
  rfl

/-- The reference message at its window, on an idle bus. -/
theorem exec_canWindow_reference {s z : State} {t e cyc idx off : Nat} {k : CanNo} {heard : Bool} {w : List W32}
    (hz : z = s.advance t) (hrec : z.canRec k.val = some w) (hcycle : z.canCycle k.val = some (cyc, idx, off))
    (hentry : e < fld (z.canSched k.val) 0 21 14) (hkind : (winOf (z.canSched k.val) e).kind = 0)
    (hstart : (winOf (z.canSched k.val) e).start ≤ off)
    (hend : off ≤ (winOf (z.canSched k.val) e).start + (winOf (z.canSched k.val) e).length)
    (hrepeat : idx % 2 ^ (winOf (z.canSched k.val) e).repeat_ = (winOf (z.canSched k.val) e).offset)
    (hbegan : z.winBegan (winOf (z.canSched k.val) e) off = true)
    (hfits : z.fitsWindow w (winOf (z.canSched k.val) e) off 8 = true) (hlisten : z.listenOnly w = false) (hrole : canRole w = 1)
    (hon : (z.can k.val).err ≠ .busOff) (hfree : (z.can k.val).attempt = none)
    (hwin : (z.can k.val).win ≠ some (cyc, e)) :
    exec (.canWindow t k e true heard) s = .next ((((z.modCan k.val fun x =>
      { x with win := some (cyc, e), tried := false }).modCan k.val fun x => { x with tried := true }).startFrame k.val 3 0
        (canRefId w, payloadBytes 8 (z.refMessage idx))).heardSlot heard) := by
  show execCanWindow t k e true heard s = _
  simp only [execCanWindow, ← hz, hrec, hcycle, hentry, hstart, hend, hrepeat, hbegan, hlisten, hon, decide_true, decide_false,
    Bool.and_self, Bool.not_true, Bool.or_self, Bool.false_eq_true, if_false, hkind]
  rw [State.takeWindow_eq hwin hkind]
  generalize hy : (z.modCan k.val fun x => { x with win := some (cyc, e), tried := false }) = y
  have hcan : y.can k.val = { z.can k.val with win := some (cyc, e), tried := false } := by
    rw [← hy]
    exact z.can_modCan k _
  have hpending : y.pendingFrame idx 3 0 w = some (canRefId w, payloadBytes 8 (z.refMessage idx)) := by
    rw [← hy]
    exact if_pos hrole
  have hfits' : y.fitsWindow w (winOf (z.canSched k.val) e) off (payloadBytes 8 (z.refMessage idx)).length = true := by
    rw [← hy, payloadBytes, List.length_map, List.length_range]
    exact hfits
  unfold State.canSlot
  rw [hpending]
  simp only [hcan, hfree, Option.isSome_none, Bool.or_self, Bool.false_eq_true, if_false, hfits', Bool.not_true, if_true]

/-! Reception (R634 to R636). -/

theorem State.canGood_can {s : State} {k : CanNo} (h : (s.can k.val).rec_ ≤ 127) :
    s.canGood k.val = s.modCan k.val fun x => { x with rec_ := x.rec_ - 1 } := if_neg (not_lt.mpr h)

theorem State.canAction_of_startup {s u : State} (h : u.startup = s.startup) (k : Nat) (w : List W32) (f : CanFrame) :
    u.canAction k w f = s.canAction k w f := by
  simp only [State.canAction, State.implicitIds, State.policy_of_startup h, State.recs_of_startup h]

/-- The state after a frame without error has been counted. -/
def State.canHeard (z : State) (k : CanNo) (w : List W32) : State :=
  let y := z.canCount k.val fun c => { c with rx := c.rx + 1 }
  if y.listenOnly w then y else y.canGood k.val

theorem State.canHeard_spec {z : State} {k : CanNo} (h : (z.can k.val).rec_ ≤ 127) (w : List W32) :
    (∃ n, (z.canHeard k w).can k.val = { z.can k.val with
      rec_ := n, counts := { (z.can k.val).counts with rx := (z.can k.val).counts.rx + 1 } }) ∧
    OneCan k z (z.canHeard k w) ∧ Chg [.buses] z (z.canHeard k w) := by
  unfold State.canHeard
  extract_lets y
  have hy : y.can k.val = { z.can k.val with counts := { (z.can k.val).counts with rx := (z.can k.val).counts.rx + 1 } } :=
    z.can_canCount k _
  have hone : OneCan k z y := .canCount z k _
  have hchg : Chg [.buses] z y := State.canCount_chg ..
  split
  · exact ⟨⟨_, hy⟩, hone, hchg⟩
  · have hrec : (y.can k.val).rec_ ≤ 127 := by rw [hy]; exact h
    rw [State.canGood_can hrec]
    refine ⟨⟨(z.can k.val).rec_ - 1, ?_⟩, hone.trans (.modCan y k _), hchg.trans (State.modCan_chg ..)⟩
    rw [State.can_modCan, hy]

theorem exec_canFrameReceived_eq {s z : State} {t : Nat} {k : CanNo} {f : CanFrame} {w : List W32} (hz : z = s.advance t)
    (hrec : z.canRec k.val = some w) (hformat : formatOk (canFormat w) f = true) (hon : (z.can k.val).err ≠ .busOff)
    (hremote : f.remote = false) (hrec127 : (z.can k.val).rec_ ≤ 127) : exec (.canFrameReceived t k f) s = .next (
      match z.canAction k.val w f with
      | .reject => (z.canHeard k w).canCount k.val fun c => { c with rejects := c.rejects + 1 }
      | .deliver => z.canHeard k w
      | _ => (z.canHeard k w).submit (.canFrame k f) fun s => s.canDeliver k.val f s.tick s.stamp) := by
  have haction : (z.canHeard k w).canAction k.val w f = z.canAction k.val w f :=
    State.canAction_of_startup ((State.canHeard_spec hrec127 w).2.2.startup rfl) ..
  rw [← haction]
  show execCanFrameReceived t k f s = _
  simp only [execCanFrameReceived, ← hz, hrec, hformat, hon, decide_false, Bool.not_true, Bool.or_self, Bool.false_eq_true, if_false,
    hremote]
  rfl

/-- A frame enters a FIFO with room, last. -/
theorem State.canDeliver_fifo {s : State} {k : CanNo} {w : List W32} {f : CanFrame} (hrec : s.canRec k.val = some w)
    (haction : s.canAction k.val w f = .fifo 0) (hroom : (s.can k.val).fifo0.length < 64) (tick stamp : Nat) :
    s.canDeliver k.val f tick stamp = s.modCan k.val fun x => { x with fifo0 := (s.can k.val).fifo0 ++ [(f, tick)] } := by
  simp only [State.canDeliver, hrec, haction, State.toFifo, if_true, hroom, State.putFifo]

/-- Settles O14: the counts and states of one channel, its windows, and its frames. -/
theorem canChannels : Obligations.CanChannels := by
  unfold Obligations.CanChannels
  refine ⟨?_, ?_, ?_, ?_, ?_, ?_, ?_, ?_, ?_, ?_⟩
  · intro s z t k e w hz hrec hlisten hst htec
    have hexec := exec_canReceiveError_on (e := e) hz hrec hlisten (by simp [hst])
    generalize hy : ((z.canCount k.val fun c => { c with errors := c.errors + 1 }).modCan k.val fun x =>
      { x with rec_ := x.rec_ + rxWeight e }) = y at hexec
    have hcan : y.can k.val = { z.can k.val with
        rec_ := (z.can k.val).rec_ + rxWeight e
        counts := { (z.can k.val).counts with errors := (z.can k.val).counts.errors + 1 } } := by
      rw [← hy, State.can_modCan, State.can_canCount]
    have hone : OneCan k z y := hy ▸ (OneCan.canCount z k _).trans (.modCan _ k _)
    have hconfined : (y.canConfine k.val).can k.val = _ :=
      State.canConfine_on (by rw [hcan]; simp [hst]) (by rw [hcan]; show (z.can k.val).tec ≤ 255; omega)
    refine ⟨_, hexec, ?_, ?_, ?_, (hone.trans (.canConfine y k)).other,
      Only.of_chg (Chg.of_exec (hz ▸ execCanReceiveError_chg t k e s) hexec) (by decide)⟩
    · rw [hconfined, hcan]
      cases e <;> rfl
    · rw [hconfined, hcan]
      simp only [not_lt.mpr htec, false_or]
    · rw [hconfined, hcan]
  · intro s z t k e w hz hrec hlisten
    exact ⟨_, exec_canReceiveError_listen hz hrec hlisten, z.can_canCount k _, (OneCan.canCount z k _).other,
      Only.of_chg (State.canCount_chg ..) (by decide)⟩
  · intro s z t k n hz hst hn
    have hexec : exec (.canBusOffRecovery t k n) s =
        .next ((z.modCan k.val fun x => { x with err := .active, tec := 0, rec_ := 0 }).raise .canBusOff [k.val]) := by
      show execCanBusOffRecovery t k n s = _
      simp only [execCanBusOffRecovery, ← hz, hst, hn, decide_true, Bool.and_self, if_true]
    refine ⟨_, hexec, ?_, State.lastEv_raise .., ((OneCan.modCan z k _).trans (.raise ..)).other,
      Only.of_chg (Chg.of_exec (hz ▸ execCanBusOffRecovery_chg t k n s) hexec) (by decide)⟩
    rw [State.can_raise, State.can_modCan]
  · intro k w r
    refine .of_submit (·.loseCanRef k.val) (fun s z t hz hG => ?_) (fun z tick stamp => rfl) fun z hH => ?_
    · obtain ⟨hrec, hcycle, hrole, hlost, hlate⟩ := hG
      show execCanRefLost t k s = _
      simp only [execCanRefLost, ← hz, State.refOverdue_of hrec hcycle hrole hlost hlate, Option.isSome_some, if_true]
    · obtain ⟨hrec, hcycle, hrole, hlost, hlate⟩ := hH
      have hlose : z.loseCanRef k.val = (z.modCan k.val fun x => { x with refLost := true }).raise .canRefLost [k.val, r.2] := by
        simp only [State.loseCanRef, State.refOverdue_of hrec hcycle hrole hlost hlate]
      rw [hlose]
      refine ⟨?_, State.lastEv_raise .., ((OneCan.modCan z k _).trans (.raise ..)).other,
        Only.of_chg (((State.modCan_chg ..).widen rfl).step (State.raise_chg ..) rfl) (L := [.buses, .port]) (by decide)⟩
      rw [State.can_raise, State.can_modCan]
  · intro s z t k a hz hattempt hst htec hrec
    generalize hy : ((z.modCan k.val fun x => { x with
      attempt := none, tec := x.tec - 1, missed := x.missed.filter fun m => !(m.1 = a.1 && m.2.1 = a.2) }).canCount k.val
        fun c => { c with tx := c.tx + 1 }) = y
    have hcan : y.can k.val = { z.can k.val with
        attempt := none, tec := (z.can k.val).tec - 1
        missed := (z.can k.val).missed.filter fun m => !(m.1 = a.1 && m.2.1 = a.2)
        counts := { (z.can k.val).counts with tx := (z.can k.val).counts.tx + 1 } } := by
      rw [← hy, State.can_canCount, State.can_modCan]
    have hone : OneCan k z y := hy ▸ (OneCan.modCan z k _).trans (.canCount _ k _)
    have hchg : Chg [.buses] z y := hy ▸ (State.modCan_chg ..).trans (State.canCount_chg ..)
    have hkept : y.canConfine k.val = y := by
      refine State.canConfine_of_active ?_ ?_ ?_ <;> rw [hcan]
      · exact hst
      · show (z.can k.val).tec - 1 ≤ 127
        omega
      · exact hrec
    have hexec : exec (.canTxDone t k .success) s = .next y := by
      rw [← hkept, ← hy]
      show execCanTxDone t k .success s = _
      simp only [execCanTxDone, ← hz, hattempt]
    refine ⟨_, hexec, ?_, ?_, ?_, ?_, hone.other, Only.of_chg hchg (by decide)⟩ <;> rw [hcan]
    exact hst
  · intro s z t k a hz hattempt hst htec
    have hexec : ∃ cycle, exec (.canTxDone t k .error) s = .next ((((z.canMissed k.val a.1 a.2 cycle).canCount k.val fun c =>
        { c with errors := c.errors + 1 }).modCan k.val fun x => { x with tec := x.tec + 8 }).canConfine k.val) := by
      refine ⟨((z.canCycle k.val).getD (0, 0, 0)).1, ?_⟩
      show execCanTxDone t k .error s = _
      simp only [execCanTxDone, ← hz, hattempt]
    obtain ⟨cycle, hexec⟩ := hexec
    obtain ⟨hmissed, htec'⟩ := z.canMissed_can k a.1 a.2 cycle
    have hone := ((OneCan.canMissed z k a.1 a.2 cycle).trans (.canCount _ k fun c => { c with errors := c.errors + 1 })).trans
      (.modCan _ k fun x => { x with tec := x.tec + 8 })
    obtain ⟨herr, hattempt', hev⟩ := State.canConfine_busOff (k := k) (s := ((z.canMissed k.val a.1 a.2 cycle).canCount k.val fun c =>
        { c with errors := c.errors + 1 }).modCan k.val fun x => { x with tec := x.tec + 8 })
      (by rw [State.can_modCan, State.can_canCount]; simp [hmissed, hst])
      (by rw [State.can_modCan, State.can_canCount]; simp [htec', htec])
    exact ⟨_, hexec, herr, hattempt', hev, (hone.trans (.canConfine _ k)).other,
      Only.of_chg (Chg.of_exec (hz ▸ execCanTxDone_chg t k .error s) hexec) (by decide)⟩
  · intro s z t k e heard w cyc idx off hz hrec hcycle hentry hkind hstart hend hrepeat hbegan hfits hlisten hrole hon hfree hwin hheard
    have hexec := exec_canWindow_reference (heard := heard) hz hrec hcycle hentry hkind hstart hend hrepeat hbegan hfits hlisten
      hrole hon hfree hwin
    generalize hy : (((z.modCan k.val fun x => { x with win := some (cyc, e), tried := false }).modCan k.val fun x =>
      { x with tried := true }).startFrame k.val 3 0 (canRefId w, payloadBytes 8 (z.refMessage idx))) = y at hexec
    have hcan : y.can k.val = { z.can k.val with
        win := some (cyc, e), tried := true, attempt := some (3, 0), frame := some (canRefId w, payloadBytes 8 (z.refMessage idx)) } := by
      rw [← hy, State.startFrame, State.can_modCan, State.can_modCan, State.can_modCan]
    have hone : OneCan k z y := hy ▸ ((OneCan.modCan z k _).trans (.modCan _ k _)).trans (.modCan _ k _)
    have hchg : Chg [.buses] z y :=
      hy ▸ ((State.modCan_chg ..).trans (State.modCan_chg ..)).trans (State.startFrame_chg ..)
    have hslot : Chg [.pair] y (y.heardSlot heard) :=
      State.heardSlot_chg_pair y (by rw [hchg.pair rfl]; exact hheard)
    refine ⟨_, hexec, ?_, (hone.trans (.of_buses (hslot.buses rfl))).other,
      Only.of_chg ((hchg.widen rfl).step hslot rfl) (M := [.pair, .buses]) (L := [.pair, .buses]) (by decide)⟩
    rw [State.can_of_buses (hslot.buses rfl), hcan]
  · intro s z t k f w hz hrec hformat hst hrec127 hremote haction hroom
    obtain ⟨⟨n, hcan⟩, hone, hchg⟩ := State.canHeard_spec hrec127 w
    have hexec := exec_canFrameReceived_eq hz hrec hformat (by simp [hst]) hremote hrec127
    simp only [haction] at hexec
    have hdeliver := State.canDeliver_fifo (s := z.canHeard k w) (k := k) (w := w) (f := f)
      ((State.recAt_of_startup (hchg.startup rfl) ..).trans hrec) ((State.canAction_of_startup (hchg.startup rfl) ..).trans haction)
      (by rw [hcan]; exact hroom)
    have hpair : (z.canHeard k w).pair.st = z.pair.st := by rw [hchg.pair rfl]
    have hsame : ((z.canHeard k w).submit (.canFrame k f) id).pair = (z.submit (.canFrame k f) id).pair :=
      State.submit_pair_congr (hchg.time rfl) (hchg.carousel rfl) (hchg.startup rfl) (hchg.pair rfl) _
    by_cases hj : journals z.pair.st = true
    · have hj' : journals (z.canHeard k w).pair.st = true := hpair ▸ hj
      have hjournal := State.submit_chg_pair hj' (.canFrame k f) fun s => s.canDeliver k.val f s.tick s.stamp
      have hbuses := hjournal.buses rfl
      refine ⟨_, hexec, ?_, ?_, ?_, ?_, (hone.trans (.of_buses hbuses)).other,
        Only.of_chg ((hchg.widen rfl).step hjournal rfl) (L := [.buses, .pair]) (by decide)⟩
      · rw [State.can_of_buses hbuses, hcan, if_pos hj]
      · rw [State.can_of_buses hbuses, hcan]
      · rw [State.can_of_buses hbuses, hcan]
      · rw [← hsame]
        exact State.submit_pair hj' ..
    · have hj' : journals (z.canHeard k w).pair.st = false := by
        rw [hpair]
        exact Bool.eq_false_iff.mpr hj
      rw [State.submit_alone hj', hdeliver, State.tick, hchg.time rfl] at hexec
      refine ⟨_, hexec, ?_, ?_, ?_, ?_, (hone.trans (.modCan _ k _)).other,
        Only.of_chg (hchg.trans (State.modCan_chg ..)) (by decide)⟩
      · rw [State.can_modCan, hcan, if_neg hj]
        rfl
      · rw [State.can_modCan, hcan]
      · rw [State.can_modCan, hcan]
      · rw [← hsame, State.submit_alone hj']
        rfl
  · intro k f w
    refine .of_apply fun z tick stamp hH => ?_
    obtain ⟨hrec, haction, hroom⟩ := hH
    have happlied : z.applyInput tick stamp (.canFrame k f) = z.canDeliver k.val f tick stamp := rfl
    rw [happlied, State.canDeliver_fifo hrec haction hroom]
    refine ⟨⟨tick, ?_⟩, ?_, Only.of_chg (State.modCan_chg ..) (by decide)⟩ <;> rw [State.can_modCan]
  · intro s z t k f w hz hrec hformat hst hrec127 hremote haction
    obtain ⟨⟨n, hcan⟩, hone, hchg⟩ := State.canHeard_spec hrec127 w
    have hexec := exec_canFrameReceived_eq hz hrec hformat (by simp [hst]) hremote hrec127
    simp only [haction] at hexec
    refine ⟨_, hexec, ?_, ?_, ?_, Only.of_chg (hchg.trans (State.canCount_chg ..)) (by decide)⟩ <;>
      rw [State.can_canCount, hcan]

end Sys2Proof.Machine
end

section
/-!
Proofs about operational revisions (chapter 3): what a connection stages, what CHECK and COMMIT make of it, and the effect of a
COMMIT at its EFFECT stamp.
-/
namespace Sys2Proof.Machine
open Sys2Proof Sys2Proof.Config

/-! Connections. -/

theorem State.conns_modConn_other (s : State) {c d : ConnNo} (h : d ≠ c) (f : Conn → Conn) :
    (s.modConn c f).port.conns[d] = s.port.conns[d] := by
  show (vmod s.port.conns c (Option.map f))[d.val] = _
  rw [vmod_get _ _ _ _ d.isLt, if_neg (fun hval => h (Fin.ext hval))]
  rfl

theorem State.conns_answer {s : State} {c : ConnNo} {k : Conn} (h : s.port.conns[c] = some k) (res : Nat) (val : List Int) :
    (s.answer c res val).port.conns[c] = some (k.put { res, val }) := by
  rw [State.answer, State.conns_modConn, h]
  rfl

theorem State.conns_answer_other (s : State) {c d : ConnNo} (h : d ≠ c) (res : Nat) (val : List Int) :
    (s.answer c res val).port.conns[d] = s.port.conns[d] := s.conns_modConn_other h _

theorem Conn.put_of_idle {k : Conn} (h : k.slots = []) (a : Answer) : k.put a = { k with answer := some a } := by
  unfold Conn.put
  rw [h]

theorem Conn.put_of_waiting {k : Conn} (h : k.slots ≠ []) (a : Answer) :
    k.put a = { k with slots := k.slots ++ [.ready a] } := by
  unfold Conn.put
  split
  case h_1 hk => exact absurd hk h
  case h_2 => rfl

/-- The response last put on a connection is the one that `State.res` finds. -/
theorem State.res_put {s : State} {c : ConnNo} {k : Conn} {a : Answer} (h : s.port.conns[c] = some (k.put a)) :
    s.res c = some a.res := by
  unfold State.res
  rw [h, Option.bind_some]
  by_cases hk : k.slots = []
  · rw [Conn.put_of_idle hk]
    simp only [hk, List.getLast?_nil]
    rfl
  · rw [Conn.put_of_waiting hk]
    simp only [List.getLast?_concat]

/-! The holds that end before an entry takes effect leave the requests that wait. -/

theorem WaitsKept.denyKey (s : State) (i : Nat) (op : KeyOp) (m : KeyMaster) : WaitsKept s (s.denyKey i op m) := by
  unfold State.denyKey
  extract_lets x due y
  have hy : WaitsKept s y := .of_chg (State.modSlot_chg ..) rfl
  exact .ite (hy.trans (.raise ..)) hy

theorem WaitsKept.useKey (s : State) (i : Nat) (op : KeyOp) (m : KeyMaster) : WaitsKept s (s.useKey i op m).2 := by
  unfold State.useKey
  split
  · exact .refl s
  · exact .denyKey ..

theorem WaitsKept.macOf (s : State) (cls id bits : Nat) : WaitsKept s (s.macOf cls id bits).2 := by
  unfold State.macOf
  split
  · exact .refl s
  · exact .useKey ..

theorem WaitsKept.returnCredit (s : State) (u : Nat) : WaitsKept s (s.returnCredit u).2 := by
  unfold State.returnCredit
  extract_lets rest e m id x
  have hrest (n : Nat) (y : State) : WaitsKept y (rest n y) := .of_chg (Chg.setTokens ..) rfl
  have hx : WaitsKept s x.2 := .macOf ..
  split
  · exact hrest ..
  · split
    · exact hx.trans (hrest ..)
    · extract_lets v
      exact (hx.trans (hrest (u - m * 10 ^ e) x.2)).trans (WaitsKept.of_chg (L := [.tokens]) (Chg.setTokens ..) rfl)

theorem WaitsKept.issueChange (s : State) (o : Nat) (x : Option (Nat × Nat × Nat)) : WaitsKept s (s.issueChange o x) := by
  cases x with
  | none => exact .refl s
  | some x => exact (WaitsKept.of_chg (State.modTok_chg ..) rfl).trans (.raiseS ..)

theorem WaitsKept.settleHold (s : State) (o : Nat) : WaitsKept s (s.settleHold o) := by
  unfold State.settleHold
  extract_lets x
  split
  · refine .ite ?_ (.refl s)
    exact ((WaitsKept.of_chg (State.modTok_chg ..) rfl).trans (.returnCredit ..)).trans (.issueChange ..)
  · exact .refl s

theorem WaitsKept.popped (s : State) (jseq : Nat) : WaitsKept s (s.popped jseq) :=
  (WaitsKept.foldl _ (fun y i => WaitsKept.settleHold y (i + 1)) _ _).trans (.of_chg (State.popEntry_chg ..) rfl)

theorem State.popEntry_st (s : State) (jseq : Nat) : (s.popEntry jseq).pair.st = s.pair.st := rfl

theorem State.popped_st (s : State) (jseq : Nat) : (s.popped jseq).pair.st = s.pair.st := by
  rw [State.popped, State.popEntry_st, s.settleHolds_chg.pair rfl]

/-! Staging (R79, R80). -/

theorem exec_setStage_eq {s z : State} {t base : Nat} {c : ConnNo} {k : Conn} {recs : List Rec} (hz : z = s.advance t)
    (hconn : z.port.conns[c] = some k) (hslots : k.slots.length < 16) (hmode : z.startup.mode = .service) :
    exec (.setStage t c base recs) s = .next (
      if recs.isEmpty || recs.any fun r => !operational r.typ then z.answer c 3
      else if recs.any fun r => stagingRole r.typ ≠ k.role then z.answer c 1
      else (z.modConn c fun k =>
        { k with stage := .staged, stageRecs := recs.foldl (fun l x => putRec x l) k.stageRecs, base, code := 0 }).answer c 0) := by
  show execSetStage t c base recs s = _
  simp only [execSetStage, ← hz]
  rw [State.op_of_served hconn hslots (by rw [hmode]; rfl)]

theorem Conn.mayStage_of {k : Conn} (h : ∀ r ∈ k.stageRecs, stagingRole r.typ = k.role) : k.mayStage = true := by
  simpa [Conn.mayStage] using h

theorem exec_check_pass {s z : State} {t : Nat} {c : ConnNo} {k : Conn} (hz : z = s.advance t)
    (hconn : z.port.conns[c] = some k) (hslots : k.slots.length < 16) (hmode : z.startup.mode = .service)
    (hstage : k.stage ≠ .empty) (hmay : k.mayStage = true) (hpass : z.checkSet (resultingSet z.startup.oper k.stageRecs) = none) :
    exec (.check t c) s = .next ((z.modConn c fun x =>
      { x with stage := .checked, code := checkCode (resultingSet z.startup.oper k.stageRecs) }).answer c 0
        [(checkCode (resultingSet z.startup.oper k.stageRecs)).toNat]) := by
  show execCheck t c s = _
  simp only [execCheck, ← hz]
  rw [State.op_of_served hconn hslots (by rw [hmode]; rfl), if_neg hstage, hmay]
  simp only [Bool.not_true, Bool.false_eq_true, if_false, hpass]

/-! COMMIT (R81 to R85). -/

theorem exec_commit_eq {s z : State} {t boundary : Nat} {c : ConnNo} {k : Conn} (hz : z = s.advance t)
    (hconn : z.port.conns[c] = some k) (hslots : k.slots.length < 16) (hmode : z.startup.mode = .service)
    (hstage : k.stage = .checked) (hmay : k.mayStage = true) :
    exec (.commit t c k.code boundary) s = .next (((z.asked c).submit (.op true c k.role k.addr (.commit k.code boundary k.base k.stageRecs))
      fun s => s.opCommit (callerOf true c k.role k.addr) k.code boundary k.base k.stageRecs (z.stampOf z.tick)).orderCommits) := by
  show execCommit t c k.code boundary s = _
  simp only [execCommit, ← hz]
  rw [State.op_of_served hconn hslots (by rw [hmode]; rfl), hstage, hmay]
  simp only [ne_eq, not_true_eq_false, Bool.not_true, Bool.false_eq_true, if_false, State.request, State.asked]

/-- The state once a revision is pending and the staging copy of its connection is empty, before the client is answered. -/
def State.committed (s : State) (c : Caller) (code : W32) (boundary : Nat) (recs : List Rec) : State :=
  let y := s.scheduleRevision
    { recs := resultingSet s.startup.oper recs, hash := code, boundary, acked := s.pair.st = .standby }
  match c.conn with
  | some n => y.modConn n fun k => { k with stage := .empty, stageRecs := [], code := 0 }
  | none => y

theorem State.opCommit_eq {s : State} {boundary base arrival : Nat} (hbase : base = s.startup.revision)
    (hpending : s.startup.pendingRev = none) (harmed : s.update.armed = none) (hbound : s.boundaryOk arrival boundary = true)
    (c : Caller) (code : W32) (recs : List Rec) :
    s.opCommit c code boundary base recs arrival = (s.committed c code boundary recs).reply c 0 := by
  unfold State.opCommit
  simp only [hbase, hpending, harmed, hbound, Option.isSome_none, ne_eq, not_true_eq_false, decide_false, Bool.or_self,
    Bool.false_eq_true, Bool.not_true, if_false]
  rfl

theorem State.committed_startup (s : State) (c : Caller) (code : W32) (boundary : Nat) (recs : List Rec) :
    (s.committed c code boundary recs).startup = { s.startup with
      pendingRev := some { recs := resultingSet s.startup.oper recs, hash := code, boundary, acked := decide (s.pair.st = .standby)
                           late := decide (boundary < s.stamp) }
      ahead := some { number := (s.startup.revision + 1) % 2 ^ 32, recs := resultingSet s.startup.oper recs, hash := code
                      recordsHash := s.startup.hdr.recordsHash } } := by
  unfold State.committed
  extract_lets y
  have hy : y.startup = _ := State.raise_startup ..
  split
  · rw [State.modConn_startup, hy]
  · rw [hy]

theorem State.committed_lastEv (s : State) (c : Caller) (code : W32) (boundary : Nat) (recs : List Rec) :
    (s.committed c code boundary recs).lastEv = some .commitAccepted := by
  unfold State.committed
  extract_lets y
  have hy : y.lastEv = some .commitAccepted := State.lastEv_raise ..
  split
  · exact hy
  · exact hy

theorem State.committed_waits (s : State) (x : Caller) (code : W32) (boundary : Nat) (recs : List Rec) (c : ConnNo) :
    (s.committed x code boundary recs).waits c = s.waits c := by
  unfold State.committed
  extract_lets y
  have hy : WaitsKept s y := (WaitsKept.of_chg (Chg.setStartup ..) rfl).trans (.raise ..)
  split
  case h_2 => exact hy.waits c
  case h_1 n hn =>
    refine Eq.trans ?_ (hy.waits c)
    by_cases h : c = n
    · subst h
      rw [State.waits, State.conns_modConn, State.waits]
      cases y.port.conns[c] <;> rfl
    · rw [State.waits, State.conns_modConn_other _ h, State.waits]

/-- Once a COMMIT is answered, the staging copy of its connection is empty. -/
theorem State.committed_stage {s : State} {x : Caller} {c : ConnNo} (hx : x.conn = some c) (hw : s.waits c = [.pending]) (code : W32)
    (boundary : Nat) (recs : List Rec) (res : Nat) :
    (((s.committed x code boundary recs).reply x res).port.conns[c].map fun k => (k.stage, k.stageRecs)) = some (.empty, []) := by
  have hw' := (s.committed_waits x code boundary recs c).trans hw
  obtain ⟨k, hk, hslots⟩ := State.waits_eq_pending hw'
  obtain ⟨g, hreply, hg⟩ := State.reply_eq_modConn (s := s.committed x code boundary recs) hx res []
  have hstage : k.stage = .empty ∧ k.stageRecs = [] := by
    unfold State.committed at hk
    simp only [hx, State.conns_modConn, Option.map_eq_some_iff] at hk
    obtain ⟨a, -, rfl⟩ := hk
    exact ⟨rfl, rfl⟩
  rw [hreply, State.conns_modConn, hk, Option.map_some, Option.map_some, hg k hslots, hstage.1, hstage.2]

/-- Settles O18: what is staged and checked, and the one revision that a COMMIT makes pending. -/
theorem revisionsAreStaged : Obligations.RevisionsAreStaged := by
  unfold Obligations.RevisionsAreStaged
  refine ⟨?_, ?_, ?_, ?_, ?_, ?_, ?_⟩
  · intro s z t c k base recs hz hconn hslots hmode hne hall
    have hoper : (recs.isEmpty || recs.any fun r => !operational r.typ) = false := by
      simpa [hne] using fun r hr => (hall r hr).1
    have hrole : (recs.any fun r => decide (stagingRole r.typ ≠ k.role)) = false := by
      simpa using fun r hr => (hall r hr).2
    have hexec := exec_setStage_eq (base := base) (recs := recs) hz hconn hslots hmode
    rw [hoper, hrole, if_neg Bool.false_ne_true, if_neg Bool.false_ne_true] at hexec
    refine ⟨_, hexec, ?_, fun d hd => ?_, Only.of_chg (Chg.of_exec (hz ▸ execSetStage_chg t c base recs s) hexec) (by decide)⟩
    · rw [State.conns_answer ((z.conns_modConn c _).trans (congrArg _ hconn))]
    · rw [State.conns_answer_other _ hd, State.conns_modConn_other _ hd]
  · intro s z t c k base recs hz hconn hslots hmode hbad
    have hany : (recs.isEmpty || recs.any fun r => !operational r.typ) = true := by
      obtain ⟨r, hr, hoper⟩ := hbad
      simp only [Bool.or_eq_true, List.any_eq_true]
      exact .inr ⟨r, hr, by rw [hoper]; rfl⟩
    have hexec := exec_setStage_eq (base := base) (recs := recs) hz hconn hslots hmode
    rw [hany, if_pos rfl] at hexec
    exact ⟨_, hexec, State.conns_answer hconn .., Only.of_chg (State.answer_chg ..) (by decide)⟩
  · intro s z t c k hz hconn hslots hmode hstage hmay hpass
    have hexec := exec_check_pass hz hconn hslots hmode hstage (Conn.mayStage_of hmay) hpass
    have hframe := Chg.of_exec (hz ▸ execCheck_chg t c s) hexec
    have hchecked := State.conns_answer ((z.conns_modConn c fun x =>
      { x with stage := .checked, code := checkCode (resultingSet z.startup.oper k.stageRecs) }).trans (congrArg _ hconn)) 0
        [(checkCode (resultingSet z.startup.oper k.stageRecs)).toNat]
    refine ⟨_, hexec, ?_, State.res_put hchecked, fun d hd => ?_, hframe.startup rfl, Only.of_chg hframe (by decide)⟩
    · rw [hchecked]
      unfold Conn.put
      split <;> rfl
    · rw [State.conns_answer_other _ hd, State.conns_modConn_other _ hd]
  · intro s z t c k boundary hz hconn hslots hmode hstage hmay hbase hpending harmed hbound halone
    have hexec := exec_commit_eq (boundary := boundary) hz hconn (by simp [hslots]) hmode hstage (Conn.mayStage_of hmay)
    obtain ⟨v, hv⟩ := z.asked_eq_withConns c
    have hasked := State.waits_asked hconn (State.waits_of_conn hconn ▸ hslots)
    rw [hv] at hasked hexec
    rw [State.submit_alone (s := z.withConns v) halone, State.opCommit_eq (s := z.withConns v) hbase hpending harmed hbound] at hexec
    have hcommitted := (z.withConns v).committed_startup (callerOf true c k.role k.addr) k.code boundary k.stageRecs
    have hev := (z.withConns v).committed_lastEv (callerOf true c k.role k.addr) k.code boundary k.stageRecs
    have hstaged := State.committed_stage (x := callerOf true c k.role k.addr) rfl hasked k.code boundary k.stageRecs 0
    have hres := State.res_reply (x := callerOf true c k.role k.addr) rfl
      (((z.withConns v).committed_waits (callerOf true c k.role k.addr) k.code boundary k.stageRecs c).trans hasked) 0 []
    generalize hy : (z.withConns v).committed (callerOf true c k.role k.addr) k.code boundary k.stageRecs = y at hexec hcommitted hev hstaged hres
    generalize hw : y.reply (callerOf true c k.role k.addr) 0 = w at hexec hstaged hres
    have horder := w.orderCommits_chg
    have hreply : Chg [.port] y w := hw ▸ State.reply_chg ..
    refine ⟨_, hexec, ?_, ?_, ?_, ?_, Only.of_chg (Chg.of_exec (hz ▸ execCommit_chg t c k.code boundary s) hexec) (by decide)⟩
    · rw [horder.startup rfl, hreply.startup rfl, hcommitted]
      have hst : decide (z.pair.st = .standby) = false := by
        cases hst : z.pair.st <;> simp [journals, hst] at halone ⊢
      rw [show (z.withConns v).pair.st = z.pair.st from rfl, hst]
      rfl
    · rw [horder.port rfl, hstaged]
    · rw [horder.lastEv rfl, ← hw, State.lastEv_reply, hev]
    · rw [← hres, State.res, State.res, horder.port rfl]
  · intro s z t c k boundary hz hconn hslots hmode hstage hmay hst
    have hexec := exec_commit_eq (boundary := boundary) hz hconn hslots hmode hstage (Conn.mayStage_of hmay)
    rw [State.submit_holds (s := z.asked c) hst] at hexec
    exact ⟨_, hexec, rfl⟩
  · intro s z t x here c role addr code boundary base recs hz hhead hinput hstamp hst hbase hpending harmed hbound
    have hexec := exec_journalEffect_of_head hz hhead hinput hstamp (by simp [hst]) (.inr (by simp [hst]))
    have hchg := z.popped_chg x.entry.jseq
    have hkept := WaitsKept.popped z x.entry.jseq
    have happlied : (z.popped x.entry.jseq).applyInput x.entry.arrival (x.entry.effect - z.journalLead)
        (.op here c role addr (.commit code boundary base recs)) = (z.popped x.entry.jseq).opCommit (callerOf here c role addr) code
          boundary base recs (x.entry.effect - z.journalLead) := rfl
    have hst' : (z.popped x.entry.jseq).pair.st = .holder := (State.popped_st z _).trans hst
    have hstamp' : (z.popped x.entry.jseq).stamp = z.stamp := by rw [State.stamp, State.stamp, hchg.carousel rfl]
    rw [happlied] at hexec
    generalize z.popped x.entry.jseq = y at hexec hchg hkept hst' hstamp'
    have hbound' : y.boundaryOk (x.entry.effect - z.journalLead) boundary = true := by
      rw [← hbound, State.boundaryOk, State.boundaryOk, State.commitMin, State.commitMin, State.commitMax, State.commitMax,
        State.rec1_of_startup (hchg.startup rfl)]
    rw [State.opCommit_eq ((hchg.startup rfl).symm ▸ hbase) ((hchg.startup rfl).symm ▸ hpending) ((hchg.update rfl).symm ▸ harmed)
      hbound'] at hexec
    refine ⟨_, hexec, ?_, ?_, fun hhere hw => ?_⟩
    · rw [(State.reply_chg ..).startup rfl, State.committed_startup, hst', hstamp', hchg.startup rfl]
      rfl
    · rw [State.lastEv_reply, State.committed_lastEv]
    · exact State.res_reply (by rw [hhere]; rfl) ((y.committed_waits ..).trans ((hkept.waits c).trans hw)) ..
  · intro here c role addr code boundary base recs
    refine .of_apply fun z tick stamp hH => ?_
    have happlied : z.applyInput tick stamp (.op here c role addr (.commit code boundary base recs)) =
        (callerOf here c role addr |> fun x => z.reply x 6) := if_pos (by simp [hH])
    rw [happlied]
    exact ⟨fun hhere hw => State.res_reply (by rw [hhere]; rfl) hw .., Only.of_chg (State.reply_chg ..) (by decide)⟩

end Sys2Proof.Machine
end

section
/-!
Proofs about the nib array (chapter 4): what the release of a task fixes, in its domain and its queue.
-/
namespace Sys2Proof.Machine
open Sys2Proof Sys2Proof.Config

/-! One law of the 43. -/

theorem State.law_modLaw (s : State) (l : LawNo) (f : Law → Law) : (s.modLaw l.val f).law l.val = f (s.law l.val) := by
  show vget (vmapIdx (fun i x => if i = l.val then f x else x) s.laws.laws) l.val {} = _
  rw [vget_vmapIdx _ _ _ _ l.isLt, if_pos rfl]
  rfl

theorem State.law_modLaw_other (s : State) {l : Nat} {m : LawNo} (h : m.val ≠ l) (f : Law → Law) :
    (s.modLaw l f).law m.val = s.law m.val := by
  show vget (vmapIdx (fun i x => if i = l then f x else x) s.laws.laws) m.val {} = _
  rw [vget_vmapIdx _ _ _ _ m.isLt, if_neg h]
  rfl

theorem State.law_of_laws {s u : State} (h : u.laws = s.laws) (l : Nat) : u.law l = s.law l := by
  simp only [State.law, h]

/-! Sequence numbers (R120). -/

theorem Array_.nextSeq_aput (a : Array_) (dom n : Nat) {b : Array_} (h : b.seqs = aput a.seqs dom n) : b.nextSeq dom = n := by
  simp [Array_.nextSeq, h, aput]

/-! A task is released once (R107). -/

theorem State.release1_eq (s : State) (kind : TaskKind) (home : Nat) (lineDl : Bool) (deadline : Option Nat) :
    ∃ a : Task, (s.release1 kind home lineDl deadline).array.queue = s.array.queue ++ [a] ∧
      (s.release1 kind home lineDl deadline).array.opens = s.array.opens ++ [a] ∧ a.cls = taskClass kind ∧ a.dom = taskDom kind ∧
      a.seq = s.array.nextSeq (taskDom kind) ∧ a.deadline = deadline ∧ a.enq = s.tick ∧
      (s.release1 kind home lineDl deadline).array.nextSeq (taskDom kind) = (s.array.nextSeq (taskDom kind) + 1) % 2 ^ 32 ∧
      (s.release1 kind home lineDl deadline).array.nibs = s.array.nibs :=
  ⟨_, rfl, rfl, rfl, rfl, rfl, rfl, rfl, Array_.nextSeq_aput s.array _ _ rfl, rfl⟩

/-! The task of a stroke of a law (R124, R211). -/

theorem State.releaseP0_eq (s : State) (l : LawNo) (home deadline : Nat) :
    (∃ a b : Task, (s.releaseP0 l home deadline).array.queue = s.array.queue ++ [a, b] ∧ a.copy = 1 ∧ b.copy = 2 ∧ a.cls = 0 ∧
      b.cls = 0 ∧ a.home < 32 ∧ b.home = (a.home + 16) % 32 ∧ a.dom = l.val ∧ b.dom = l.val ∧
      a.seq = s.array.nextSeq l.val ∧ b.seq = a.seq ∧ a.enq = s.tick ∧ b.enq = s.tick ∧ a.deadline = some deadline ∧
      b.deadline = some deadline) ∧
    (s.releaseP0 l home deadline).array.nextSeq l.val = (s.array.nextSeq l.val + 1) % 2 ^ 32 ∧
      (s.releaseP0 l home deadline).array.nibs = s.array.nibs := by
  refine ⟨⟨_, _, rfl, rfl, rfl, rfl, rfl, ?_, ?_, rfl, rfl, rfl, rfl, rfl, rfl, rfl, rfl⟩, Array_.nextSeq_aput s.array _ _ rfl, rfl⟩
  · exact Nat.mod_lt _ (by decide)
  · show (home + 16) % 32 = (home % 32 + 16) % 32
    omega

/-- The state with the snapshot of the stroke kept, and the stroke no longer due, before its task is queued. -/
def State.strokeTaken (s : State) (l : LawNo) (d : LawDue) : State :=
  let y : State := { s with laws := { s.laws with snaps := s.laws.snaps ++ [s.snapLaw l.val (s.array.nextSeq l.val) d none] } }
  (y.modLaw l.val fun x => { x with due := x.due.erase d }).captureWaves l.val d.stroke

theorem State.strokeTaken_laws (s : State) (l : LawNo) (d : LawDue) :
    (s.strokeTaken l d).laws.snaps = s.laws.snaps ++ [s.snapLaw l.val (s.array.nextSeq l.val) d none] ∧
      ((s.strokeTaken l d).law l.val).due = (s.law l.val).due.erase d ∧
      ∀ m : LawNo, m ≠ l → (s.strokeTaken l d).law m.val = s.law m.val := by
  unfold State.strokeTaken
  extract_lets _ y
  have hlaws := (State.captureWaves_chg (y.modLaw l.val fun x => { x with due := x.due.erase d }) l.val d.stroke).laws rfl
  refine ⟨by rw [hlaws]; rfl, ?_, fun m hm => ?_⟩
  · rw [State.law_of_laws hlaws, State.law_modLaw]
    rfl
  · rw [State.law_of_laws hlaws, State.law_modLaw_other _ (fun h => hm (Fin.ext h))]
    rfl

theorem State.strokeTaken_chg (s : State) (l : LawNo) (d : LawDue) : Chg [.laws, .buses] s (s.strokeTaken l d) :=
  (((Chg.setLaws ..).widen rfl).step (State.modLaw_chg ..) rfl).step (State.captureWaves_chg ..) rfl

theorem State.releaseStroke_none (s : State) (l : LawNo) (d : LawDue) : ∃ home,
    s.releaseStroke l d none = (s.strokeTaken l d).releaseP0 l home ((s.strokeTaken l d).lawDeadline d) := ⟨_, rfl⟩

theorem exec_taskRelease_law {s z : State} {t : Nat} {l : LawNo} {d : LawDue} {rest : List LawDue} (hz : z = s.advance t)
    (hmode : z.startup.mode = .service) (hdecides : z.decides = true) (hst : (z.law l.val).st ≠ .idle)
    (hrun : z.carousel.running = true) (hdue : (z.law l.val).due = d :: rest) (hinstant : d.instant < z.nowTap + 32) :
    exec (.taskRelease t (.law l)) s = .next (z.releaseStroke l d none) := by
  have hlaw : z.releaseLaw l = z.releaseStroke l d none := by
    unfold State.releaseLaw
    rw [hdue]
    simp [hst, hrun, hinstant]
  show execTaskRelease t (.law l) s = _
  simp only [execTaskRelease, ← hz, hmode, hdecides, ne_eq, not_true_eq_false, if_false, if_true, State.releaseTask, hlaw]

/-- The cooling task is released once, with its flight opened. -/
theorem State.releaseTask_cooling (s : State) : ∃ (y : State) (home : Nat), Chg [.thermal] s y ∧
    y.thermal.flights.length = s.thermal.flights.length + 1 ∧
    s.releaseTask .cooling = y.release1 .cooling home false (some (s.tick + basePeriod)) := by
  let fl : ThermFlight :=
    { dom := taskDom .cooling, seq := s.array.nextSeq (taskDom .cooling), tick := s.tick, cool := s.coolResults s.headrooms }
  refine ⟨{ s with thermal := { s.thermal with flights := s.thermal.flights ++ [fl] } }, _, Chg.setThermal .., ?_, rfl⟩
  exact List.length_append

/-- Settles O22: the two copies of a law's task, the one of every other, and the decision to release the cooling task. -/
theorem tasksAreReleased : Obligations.TasksAreReleased := by
  unfold Obligations.TasksAreReleased
  refine ⟨?_, ?_, ?_⟩
  · intro s z t l d rest hz hmode hdecides hst hrun hdue hinstant
    have hexec := exec_taskRelease_law hz hmode hdecides hst hrun hdue hinstant
    have hchg := z.strokeTaken_chg l d
    obtain ⟨hsnaps, hlaw, hother⟩ := z.strokeTaken_laws l d
    obtain ⟨home, hrelease⟩ := z.releaseStroke_none l d
    rw [hrelease] at hexec
    have hdeadline : (z.strokeTaken l d).lawDeadline d = z.lawDeadline d := by
      have hstrokes : (z.strokeTaken l d).nStrokes = z.nStrokes := State.nStrokes_of_startup (hchg.startup rfl)
      simp only [State.lawDeadline, State.phaseAt, State.nowTap, hstrokes, hchg.carousel rfl, hchg.time rfl, State.tick]
    rw [hdeadline] at hexec
    have htick : (z.strokeTaken l d).tick = z.tick := by rw [State.tick, State.tick, hchg.time rfl]
    obtain ⟨hcopies, hseq, hnibs⟩ := (z.strokeTaken l d).releaseP0_eq l home (z.lawDeadline d)
    have hp0 := (z.strokeTaken l d).releaseP0_chg l home (z.lawDeadline d)
    rw [hchg.array rfl] at hcopies hseq hnibs
    rw [htick] at hcopies
    refine ⟨_, hexec, hcopies, hseq, hnibs, ?_, ?_, fun m hm => ?_, Only.of_chg ((hchg.widen rfl).step hp0 rfl) (M := [.array, .laws, .buses]) (L := [.array, .laws, .buses]) (by decide)⟩
    · rw [hp0.laws rfl, hsnaps]
    · rw [State.law_of_laws (hp0.laws rfl), hlaw, hdue, List.erase_cons_head]
    · rw [State.law_of_laws (hp0.laws rfl), hother m hm]
  · intro s z t k d hz hmode
    obtain ⟨a, hqueue, hopens, hcls, hdom, hseq, hdeadline, henq, hnext, hnibs⟩ :=
      z.release1_eq (.analytics k d) (taskHome (0x100 + k) (z.array.nextSeq (0x100 + k))).val false d
    have hexec : exec (.taskRelease t (.analytics k d)) s =
        .next (z.release1 (.analytics k d) (taskHome (0x100 + k) (z.array.nextSeq (0x100 + k))).val false d) := by
      show execTaskRelease t (.analytics k d) s = _
      simp only [execTaskRelease, ← hz, hmode, ne_eq, not_true_eq_false, if_false]
      rfl
    exact ⟨_, hexec, ⟨a, hqueue, hopens, hcls, hdom, hseq, hdeadline, henq⟩, hnext, hnibs,
      Only.of_chg (State.release1_chg ..) (by decide)⟩
  · refine .of_submit (·.releaseTask .cooling) (fun s z t hz hmode => ?_) (fun z tick stamp => rfl) fun z _ => ?_
    · show execTaskRelease t .cooling s = _
      simp only [execTaskRelease, ← hz, hmode, ne_eq, not_true_eq_false, if_false]
      rfl
    · obtain ⟨y, home, hchg, hflights, hrelease⟩ := z.releaseTask_cooling
      obtain ⟨a, hqueue, -, hcls, hdom, -, hdeadline, -⟩ := y.release1_eq .cooling home false (some (z.tick + basePeriod))
      have hnib := State.release1_chg y .cooling home false (some (z.tick + basePeriod))
      rw [hrelease]
      rw [hchg.array rfl] at hqueue
      refine ⟨⟨a, hqueue, hcls, hdom, hdeadline⟩, ?_, Only.of_chg ((hchg.widen rfl).step hnib rfl) (M := [.array, .thermal]) (L := [.array, .thermal]) (by decide)⟩
      rw [hnib.thermal rfl, hflights]


end Sys2Proof.Machine
end

section
/-!
Proofs about the nib array (chapter 4): what a nib takes, what it reads, and what it does with the task it parks.
-/
namespace Sys2Proof.Machine
open Sys2Proof Sys2Proof.Config

/-! One place of a vector. -/

theorem vmod_same {α : Type} {n : Nat} (v : Vector α n) (i : Fin n) (f : α → α) : (vmod v i f)[i] = f v[i] := by
  show (vmod v i f)[i.val] = _
  rw [vmod_get _ _ _ _ i.isLt, if_pos rfl]

theorem vmod_other {α : Type} {n : Nat} (v : Vector α n) {i j : Fin n} (h : j ≠ i) (f : α → α) : (vmod v i f)[j] = v[j] := by
  show (vmod v i f)[j.val] = _
  rw [vmod_get _ _ _ _ j.isLt, if_neg (fun hval => h (Fin.ext hval))]
  rfl

theorem vmapIdx_fin {α : Type} {n : Nat} (f : Nat → α → α) (v : Vector α n) (i : Fin n) : (vmapIdx f v)[i] = f i.val v[i] :=
  vmapIdx_get f v i.val i.isLt

/-! The head of a queue (R113). -/

/-- The better of two tasks of one queue, as the head of the queue is found. -/
def betterOf (b : Option Task) (k : Task) : Option Task :=
  match b with
  | none => some k
  | some x => if x.before k then some x else some k

theorem foldl_betterOf_isSome (l : List Task) (b : Option Task) (h : b.isSome = true ∨ l ≠ []) :
    (l.foldl betterOf b).isSome = true := by
  induction l generalizing b with
  | nil => exact h.resolve_right (fun h => h rfl)
  | cons x l ih =>
    refine ih _ (.inl ?_)
    unfold betterOf
    split
    · rfl
    · split <;> rfl

theorem foldl_betterOf_mem {l : List Task} {b : Option Task} {k : Task} (h : l.foldl betterOf b = some k) :
    b = some k ∨ k ∈ l := by
  induction l generalizing b with
  | nil => exact .inl h
  | cons x l ih =>
    obtain hb | hl := ih h
    · unfold betterOf at hb
      split at hb
      · exact .inr (by simp_all)
      · split at hb
        · exact .inl hb
        · exact .inr (by simp_all)
    · exact .inr (List.mem_cons_of_mem x hl)

theorem Array_.head_eq (a : Array_) (troupe cls tick : Nat) : a.head troupe cls tick =
    ((a.waiting tick).filter fun k => k.home % 32 = troupe % 32 && k.cls = cls && k.enq < tick).foldl betterOf none := rfl

theorem Array_.head_cls {a : Array_} {troupe cls tick : Nat} {k : Task} (h : a.head troupe cls tick = some k) : k.cls = cls := by
  rw [Array_.head_eq] at h
  obtain h | h := foldl_betterOf_mem h
  · cases h
  · simp only [List.mem_filter, Bool.and_eq_true, decide_eq_true_eq] at h
    exact h.2.1.2

/-- A queue in which a task could be taken has a head. -/
theorem Array_.head_isSome {a : Array_} {troupe tick : Nat} {y : Task} (hy : y ∈ a.queue) (hhome : y.home % 32 = troupe % 32)
    (henq : y.enq < tick) : (a.head troupe y.cls tick).isSome = true := by
  rw [Array_.head_eq]
  refine foldl_betterOf_isSome _ _ (.inr ?_)
  refine List.ne_nil_of_mem (a := y) ?_
  simp only [List.mem_filter, Bool.and_eq_true, decide_eq_true_eq]
  exact ⟨List.mem_append_right _ hy, ⟨hhome, trivial⟩, henq⟩

/-! What a free nib takes (R114). -/

/-- Of its own troupe a nib finds a task of no lower class than one that could be taken there. -/
theorem State.bestIn_cls {s : State} {troupe : Nat} {x y : Task} (h : s.bestIn troupe [0, 1, 2, 3, 4] = some x)
    (hy : y ∈ s.array.queue) (hhome : y.home % 32 = troupe % 32) (henq : y.enq < s.tick) (hcls : y.cls < 4) : x.cls ≤ y.cls := by
  obtain ⟨l1, c, l2, hl, hc, hnone⟩ := List.findSome?_eq_some_iff.mp h
  have hx : x.cls = c := by
    split at hc
    · cases hc
    · exact Array_.head_cls hc
  have hsome : (if y.cls = 4 && !s.p4Allowed then none else s.array.head troupe y.cls s.tick) ≠ none := by
    have h4 : y.cls ≠ 4 := by omega
    simp only [h4, decide_false, Bool.false_and, Bool.false_eq_true, if_false]
    exact Option.isSome_iff_ne_none.mp (Array_.head_isSome hy hhome henq)
  have hmem : y.cls ∈ c :: l2 := by
    have : y.cls ∈ l1 ++ c :: l2 := by
      rw [← hl]
      simp only [List.mem_cons]
      omega
    exact (List.mem_append.mp this).resolve_left (fun h => hsome (hnone _ h))
  have hsorted : (l1 ++ c :: l2).Pairwise (· < ·) := by
    rw [← hl]
    decide
  obtain hy | hy := List.mem_cons.mp hmem
  · omega
  · have := List.rel_of_pairwise_cons (List.pairwise_append.mp hsorted).2.1 hy
    omega

theorem State.choose_of_own {s : State} {k : Nat} {y : Task} (hy : y ∈ s.array.queue) (hhome : y.home % 32 = k % 32)
    (henq : y.enq < s.tick) (hcls : y.cls < 4) : ∃ x, s.choose k = some x ∧ x.cls ≤ y.cls := by
  have hsome : (s.bestIn k [0, 1, 2, 3, 4]).isSome = true := by
    refine List.findSome?_isSome_iff.mpr ⟨y.cls, by simp only [List.mem_cons]; omega, ?_⟩
    have h4 : y.cls ≠ 4 := by omega
    simp only [h4, decide_false, Bool.false_and, Bool.false_eq_true, if_false]
    exact Array_.head_isSome hy hhome henq
  obtain ⟨x, hx⟩ := Option.isSome_iff_exists.mp hsome
  refine ⟨x, ?_, State.bestIn_cls hx hy hhome henq hcls⟩
  simp only [State.choose, hx]

theorem State.pick_of_free {s : State} {n : NibNo} (hact : s.array.nibs[n].act = .free)
    (hown : ∀ x ∈ s.array.queue, x.parkedBy ≠ some n.val) : s.pick n = s.choose (n.val / 8) := by
  have hnone : (s.array.queue.find? fun x => x.parkedBy = some n.val && x.enq < s.tick) = none := by
    refine List.find?_eq_none.mpr fun x hx => ?_
    simp [hown x hx]
  unfold State.pick
  simp only [hact, hnone]

/-! Taking a task (R114, R115). -/

theorem State.mayClaim_of_unclaimed {s : State} {k : Task} (h : s.claimOf k = none) (n : NibNo) : s.mayClaim n k = true := by
  simp only [State.mayClaim, h]

theorem State.displace_of_unclaimed {s : State} {k : Task} (h : s.claimOf k = none) : s.displace k = s := by
  simp only [State.displace, h]

theorem State.takeTask_array (s : State) (n : NibNo) (k : Task) :
    (s.takeTask n k).array.queue = s.array.queue.erase k ∧
    (s.takeTask n k).array.poisoned = s.array.poisoned ∧
    (s.takeTask n k).array.trace.head? = some { words := s.descriptor k, task := k, nib := n.val, tick := s.tick } ∧
    (s.takeTask n k).array.nibs =
      vmod (vmapIdx (fun i x => if k.parkedBy = some i then { x with parked := false, slot := none } else x) s.array.nibs) n
        fun x => x.start k (s.kernelCode k.kind) s.tick (k.parkedBy.bind fun m => (vget s.array.nibs m {}).slot) := by
  unfold State.takeTask
  simp only [State.modArr_array]
  split <;> exact ⟨rfl, rfl, rfl, rfl⟩

theorem State.takeTask_act (s : State) (n : NibNo) (k : Task) :
    (s.takeTask n k).array.nibs[n].act = .running { k with parkedBy := none } s.tick := by
  obtain ⟨-, -, -, hnibs⟩ := s.takeTask_array n k
  rw [hnibs, vmod_same]
  rfl

theorem State.takeTask_other (s : State) {n m : NibNo} (h : m ≠ n) (k : Task) :
    (s.takeTask n k).array.nibs[m].act = s.array.nibs[m].act ∧ (s.takeTask n k).array.nibs[m].fenced = s.array.nibs[m].fenced := by
  obtain ⟨-, -, -, hnibs⟩ := s.takeTask_array n k
  rw [hnibs, vmod_other _ h, vmapIdx_fin]
  split <;> exact ⟨rfl, rfl⟩

/-- A task that no poisoned word lies in is read without an error. -/
theorem State.readTask_ok {s : State} (n : NibNo) {k : Task} (h : s.array.poisoned.find? k.reads = none) :
    s.readTask n k .ok = s := by
  simp only [State.readTask, h]

theorem State.takeAndRead_ok {s : State} (n : NibNo) {k : Task} (h : s.array.poisoned.find? k.reads = none) :
    s.takeAndRead n k .ok = s.takeTask n k := by
  refine State.readTask_ok n ?_
  rw [(s.takeTask_array n k).2.1]
  exact h

/-! Parking (R115, R117). -/

/-- The state in which a nib has parked the task it ran, before it takes the copy. -/
def State.parked (s : State) (n : NibNo) (x : Task) : State :=
  (s.stopRun n .free).modArr fun a =>
    ({ a with
      queue := a.queue ++ [{ x with parkedBy := some n.val, enq := s.tick }]
      nibs := vmod a.nibs n fun y => { y with parked := true, slot := some y.mem } }).count (n.val / 8) fun l =>
      { l with parks := l.parks + 1 }

theorem State.stopRun_array (s : State) (n : NibNo) (act : NibAct) :
    (s.stopRun n act).array.queue = s.array.queue ∧ (s.stopRun n act).array.poisoned = s.array.poisoned ∧
      (s.stopRun n act).array.jobs = s.array.jobs ∧ (s.stopRun n act).array.opens = s.array.opens ∧
      (s.stopRun n act).array.retire = s.array.retire ∧ (s.stopRun n act).array.nibs[n].act = act ∧
      ∀ m : NibNo, m ≠ n → (s.stopRun n act).array.nibs[m] = s.array.nibs[m] := by
  unfold State.stopRun
  split
  · refine ⟨rfl, rfl, rfl, rfl, rfl, ?_, fun m hm => ?_⟩
    · show (vmod s.array.nibs n _)[n].act = act
      rw [vmod_same]
    · exact vmod_other s.array.nibs hm _
  · refine ⟨rfl, rfl, rfl, rfl, rfl, ?_, fun m hm => ?_⟩
    · show (vmod s.array.nibs n _)[n].act = act
      rw [vmod_same]
    · exact vmod_other s.array.nibs hm _

theorem State.parked_array (s : State) (n : NibNo) (x : Task) :
    (s.parked n x).array.queue = s.array.queue ++ [{ x with parkedBy := some n.val, enq := s.tick }] ∧
      (s.parked n x).array.poisoned = s.array.poisoned ∧ (s.parked n x).array.nibs[n].parked = true ∧
      (s.parked n x).array.nibs[n].slot.isSome = true ∧
      ∀ m : NibNo, m ≠ n → (s.parked n x).array.nibs[m].act = s.array.nibs[m].act := by
  obtain ⟨hqueue, hpoisoned, -, -, -, -, hother⟩ := s.stopRun_array n .free
  unfold State.parked
  generalize s.stopRun n .free = y at hqueue hpoisoned hother
  refine ⟨?_, hpoisoned, ?_, ?_, fun m hm => ?_⟩
  · show y.array.queue ++ [{ x with parkedBy := some n.val, enq := s.tick }] = _
    rw [hqueue]
  · show (vmod y.array.nibs n _)[n].parked = true
    rw [vmod_same]
  · show (vmod y.array.nibs n _)[n].slot.isSome = true
    rw [vmod_same]
    rfl
  · show (vmod y.array.nibs n _)[m].act = _
    rw [vmod_other _ hm, hother m hm]

/-- The start of a task leaves the park slot of its nib. -/
theorem Nib.start_slot (x : Nib) (k : Task) (code tick : Nat) (resume : Option LocalMem) :
    (x.start k code tick resume).parked = x.parked ∧ (x.start k code tick resume).slot = x.slot := by
  unfold Nib.start Nib.fetch
  split
  · exact ⟨rfl, rfl⟩
  · split
    · exact ⟨rfl, rfl⟩
    · split <;> exact ⟨rfl, rfl⟩

theorem State.takeTask_slot (s : State) (n : NibNo) {p : Task} (hp : p.parkedBy = none) :
    (s.takeTask n p).array.nibs[n].parked = s.array.nibs[n].parked ∧ (s.takeTask n p).array.nibs[n].slot = s.array.nibs[n].slot := by
  obtain ⟨-, -, -, hnibs⟩ := s.takeTask_array n p
  rw [hnibs, vmod_same, vmapIdx_fin, hp, if_neg (by simp)]
  exact Nib.start_slot ..

/-- The claim of the copy remembers the nib as it was before it parked its task. -/
def State.parkClaim (s : State) (n : NibNo) (p : Task) (before : Nib) : State :=
  s.modArr fun a => { a with claims := (a.claims.1, a.claims.2.map fun c =>
    if c.task = p && c.nib = n.val then { c with before } else c) }

theorem State.parkFor_eq_readTask (s : State) (n : NibNo) (x p : Task) (obs : ReadObs) : s.parkFor n x p obs =
    (((s.parked n x).takeTask n p).parkClaim n p s.array.nibs[n]).readTask n p obs := rfl

theorem State.parkFor_eq {s : State} {n : NibNo} {x p : Task} (hread : s.array.poisoned.find? p.reads = none) :
    s.parkFor n x p .ok = ((s.parked n x).takeTask n p).parkClaim n p s.array.nibs[n] := by
  obtain ⟨-, hpoisoned, -⟩ := s.parked_array n x
  have htaken := ((s.parked n x).takeTask_array n p).2.1
  rw [State.parkFor_eq_readTask]
  refine State.readTask_ok n ?_
  rw [State.parkClaim, State.modArr_array, htaken, hpoisoned]
  exact hread

theorem exec_park_eq {s z : State} {t : Nat} {n : NibNo} {x p : Task} {since : Nat} (hz : z = s.advance t)
    (hact : z.array.nibs[n].act = .running x since) (hcls : x.cls ≠ 0) (hparked : z.array.nibs[n].parked = false)
    (hp : ([0, 1, 2, 3, 4] : List Nat).findSome? (fun d => z.array.head (n.val / 8 + d) 0 z.tick) = some p)
    (hclaim : z.claimOf p = none)
    (hbusy : ∀ d j, d < 5 → j < 8 → (vget z.array.nibs ((p.home + 32 - d) % 32 * 8 + j) {}).fenced = true ∨
      (vget z.array.nibs ((p.home + 32 - d) % 32 * 8 + j) {}).act ≠ .free) :
    exec (.park t { nib := n, obs := .ok }) s = .next (z.parkFor n x p .ok) := by
  have hnone : ((List.range 5).any fun d => (List.range 8).any fun j =>
      !(vget z.array.nibs ((p.home + 32 - d) % 32 * 8 + j) {}).fenced &&
        decide ((vget z.array.nibs ((p.home + 32 - d) % 32 * 8 + j) {}).act = .free)) = false := by
    refine List.any_eq_false.mpr fun d hd => ?_
    rw [Bool.not_eq_true]
    refine List.any_eq_false.mpr fun j hj => ?_
    obtain h | h := hbusy d j (List.mem_range.mp hd) (List.mem_range.mp hj)
    · simp only [h, Bool.not_true, Bool.false_and, Bool.false_eq_true, not_false_eq_true]
    · simp only [h, decide_false, Bool.and_false, Bool.false_eq_true, not_false_eq_true]
  show execPark t { nib := n, obs := .ok } s = _
  simp only [execPark, ← hz, hact, hp, hparked, hnone, State.mayClaim_of_unclaimed hclaim, State.displace_of_unclaimed hclaim]
  simp [hcls]

/-- Settles O23: what a nib takes of its troupe, that a fenced one takes nothing, and the task that is parked for a P0 copy. -/
theorem tasksAreTaken : Obligations.TasksAreTaken := by
  unfold Obligations.TasksAreTaken
  refine ⟨?_, ?_, ?_⟩
  · intro s z t n k hz hfence hpick hclaim hread
    have hexec : exec (.taskTake t n .ok) s = .next (z.takeTask n k) := by
      rw [← State.takeAndRead_ok n hread]
      show execTaskTake t n .ok s = _
      simp only [execTaskTake, ← hz, hfence, hpick, State.mayClaim_of_unclaimed hclaim, State.displace_of_unclaimed hclaim,
        Bool.false_eq_true, if_false, if_true]
    obtain ⟨hqueue, -, htrace, -⟩ := z.takeTask_array n k
    refine ⟨_, hexec, z.takeTask_act n k, hqueue, htrace, fun m hm => z.takeTask_other hm k, ?_,
      Only.of_chg (State.takeTask_chg ..) (by decide)⟩
    intro hfree hown _ y hy hhome henq hcls
    obtain ⟨x, hx, hle⟩ := State.choose_of_own (k := n.val / 8) hy (by omega) henq hcls
    rw [State.pick_of_free hfree hown, hx] at hpick
    cases hpick
    exact hle
  · intro s z t n obs hz hfence
    refine ⟨z, ?_, rfl⟩
    show execTaskTake t n obs s = _
    simp only [execTaskTake, ← hz, hfence, if_true]
  · intro s z t n x p since hz hact hcls hparked hp hpnone hclaim hread hbusy
    have hexec := exec_park_eq hz hact hcls hparked hp hclaim hbusy
    have hf := State.parkFor_eq (n := n) (x := x) hread
    obtain ⟨hqueue, -, hflag, hslot, hother⟩ := z.parked_array n x
    have htick : (z.parked n x).tick = z.tick := by
      rw [State.tick, State.tick, State.parked, State.modArr_time, (State.stopRun_chg ..).time rfl]
    obtain ⟨hflag', hslot'⟩ := (z.parked n x).takeTask_slot n hpnone
    have hact' := (z.parked n x).takeTask_act n p
    have hother' (m : NibNo) (hm : m ≠ n) := ((z.parked n x).takeTask_other hm p).1
    obtain ⟨hqueue', -⟩ := (z.parked n x).takeTask_array n p
    have hframe := Only.of_chg (M := [.free, .array, .legs, .laws, .juggler, .thermal, .barker, .scribe, .keys, .update, .pair, .port,
      .tokens, .drives, .supply]) (Chg.of_exec (hz ▸ execPark_chg t { nib := n, obs := .ok } s) hexec) (by decide)
    rw [hf] at hexec hframe
    have hp' : ({ p with parkedBy := none } : Task) = p := by
      rw [← hpnone]
    generalize (z.parked n x).takeTask n p = y at hexec hframe hflag' hslot' hact' hother' hqueue'
    have hnibs (b : Nib) : (y.parkClaim n p b).array.nibs = y.array.nibs := rfl
    have hwaits (b : Nib) : (y.parkClaim n p b).array.queue = y.array.queue := rfl
    refine ⟨_, hexec, ?_, ?_, ?_, ?_, fun m hm => ?_, hframe⟩
    · rw [hnibs, hact', hp', htick]
    · rw [hnibs, hflag', hflag]
    · rw [hnibs, hslot', hslot]
    · rw [hwaits, hqueue', hqueue]
      refine (List.mem_erase_of_ne fun h => ?_).mpr (List.mem_append_right _ (List.mem_singleton_self _))
      rw [← h] at hpnone
      cases hpnone
    · rw [hnibs, hother' m hm, hother m hm]

end Sys2Proof.Machine
end

section
/-!
Proofs about the nib array (chapter 4): the comparison of copies, what retires and commits, and the tasks that miss their deadlines.
-/
namespace Sys2Proof.Machine
open Sys2Proof Sys2Proof.Config

/-! Retirement (R120). -/

theorem State.commitJobs_none {s : State} {law : Nat} (h : s.array.p0Ready law = none) (n : Nat) : s.commitJobs law n = s := by
  cases n with
  | zero => rfl
  | succ n =>
    unfold State.commitJobs
    rw [h]

theorem Array_.p0Ready_of_empty {a : Array_} (h : a.jobs = []) (law : Nat) : a.p0Ready law = none := by
  simp [Array_.p0Ready, h]

theorem foldl_of_fixed {α β : Type} (f : β → α → β) (l : List α) (b : β) (h : ∀ x, f b x = b) : l.foldl f b = b := by
  induction l with
  | nil => rfl
  | cons x l ih => rw [List.foldl_cons, h x, ih]

/-- Where no job is agreed on, and no other task is open, nothing retires. -/
theorem State.retireAll_of_waiting {s : State} (hready : ∀ law, s.array.p0Ready law = none) (hopens : s.array.opens = []) :
    s.retireAll = s := by
  unfold State.retireAll
  rw [foldl_of_fixed _ _ s fun l => State.commitJobs_none (hready l) _]
  show State.commitTasks s.array.opens.length s = s
  rw [hopens]
  rfl

/-- The state once the agreed result `e` of a job has committed. -/
def State.jobCommitted (s : State) (j : P0Job) (e : List W32) : State :=
  (((((s.settleJob j).writeResult
    (s.withRefs { (default : Task) with kind := .law (Fin.ofNat 43 j.law), dom := j.law, seq := j.seq }).result).noteCommit
      j.law j.seq e).commitLaw j.law j.seq j.deadline e).checkVoltages)

theorem State.settleJob_array (s : State) (j : P0Job) :
    (s.settleJob j).array.jobs = s.array.jobs.filter (fun x => !(x.law = j.law && x.seq = j.seq)) ∧
      (s.settleJob j).array.opens = s.array.opens ∧ (s.settleJob j).array.nibs = s.array.nibs := by
  unfold State.settleJob
  rw [State.modArr_array]
  extract_lets a
  split <;> exact ⟨rfl, rfl, rfl⟩

theorem State.writeResult_array (s : State) (r : BlockRange) :
    (s.writeResult r).array.jobs = s.array.jobs ∧ (s.writeResult r).array.opens = s.array.opens ∧
      (s.writeResult r).array.retire = s.array.retire ∧ (s.writeResult r).array.nibs = s.array.nibs := by
  unfold State.writeResult
  split <;> exact ⟨rfl, rfl, rfl, rfl⟩

theorem State.jobCommitted_spec (s : State) (j : P0Job) (e : List W32) :
    (s.jobCommitted j e).array.jobs = s.array.jobs.filter (fun x => !(x.law = j.law && x.seq = j.seq)) ∧
      (s.jobCommitted j e).array.opens = s.array.opens ∧ (s.jobCommitted j e).array.nibs = s.array.nibs ∧
      (s.jobCommitted j e).pair.commits = s.pair.commits ++ [(j.law, j.seq, e)] := by
  obtain ⟨hjobs, hopens, hnibs⟩ := s.settleJob_array j
  have hsettle := s.settleJob_chg j
  unfold State.jobCommitted
  generalize s.settleJob j = y at hjobs hopens hnibs hsettle
  generalize (s.withRefs { (default : Task) with kind := .law (Fin.ofNat 43 j.law), dom := j.law, seq := j.seq }).result = r
  obtain ⟨hjobs', hopens', -, hnibs'⟩ := y.writeResult_array r
  have hwrite := y.writeResult_chg r
  generalize y.writeResult r = w at hjobs' hopens' hnibs' hwrite
  have hrest : Chg [.legs, .laws, .port, .barker] (w.noteCommit j.law j.seq e)
      ((w.noteCommit j.law j.seq e).commitLaw j.law j.seq j.deadline e).checkVoltages :=
    ((State.commitLaw_chg ..).widen rfl).step (State.checkVoltages_chg ..) rfl
  have hcommits : (w.noteCommit j.law j.seq e).pair.commits = w.pair.commits ++ [(j.law, j.seq, e)] := rfl
  have harray : (w.noteCommit j.law j.seq e).array = w.array := rfl
  rw [hrest.array rfl, harray, hrest.pair rfl, hcommits, hjobs', hjobs, hopens', hopens, hnibs', hnibs, hwrite.pair rfl,
    hsettle.pair rfl]
  exact ⟨rfl, rfl, rfl, rfl⟩

theorem State.commitJobs_one {s : State} {j : P0Job} {e : List W32} (hjobs : s.array.jobs = [j]) (hagreed : j.agreed = some e) :
    s.commitJobs j.law 1 = s.jobCommitted j e := by
  have hready : s.array.p0Ready j.law = some j := by simp [Array_.p0Ready, hjobs, hagreed]
  have he : j.agreed.getD [] = e := by rw [hagreed]; rfl
  unfold State.commitJobs
  simp only [hready, he]
  rfl

/-- The one job that is agreed on commits, and nothing else. -/
theorem State.retireAll_one {s : State} {j : P0Job} {e : List W32} (hjobs : s.array.jobs = [j]) (hagreed : j.agreed = some e)
    (hlaw : j.law < 43) (hopens : s.array.opens = []) : s.retireAll = s.jobCommitted j e := by
  obtain ⟨hjobs', hopens', -, -⟩ := s.jobCommitted_spec j e
  have hempty : (s.jobCommitted j e).array.jobs = [] := by rw [hjobs', hjobs]; simp
  have hfold (l : List Nat) (h : j.law ∈ l) :
      l.foldl (fun s l => State.commitJobs l s.array.jobs.length s) s = s.jobCommitted j e := by
    induction l with
    | nil => cases h
    | cons x l ih =>
      rw [List.foldl_cons]
      by_cases hx : x = j.law
      · rw [hx, hjobs]
        show l.foldl _ (s.commitJobs j.law 1) = _
        rw [State.commitJobs_one hjobs hagreed]
        exact foldl_of_fixed _ _ _ fun y => State.commitJobs_none (Array_.p0Ready_of_empty hempty y) _
      · have hnone : s.array.p0Ready x = none := by simp [Array_.p0Ready, hjobs, Ne.symm hx]
        rw [State.commitJobs_none hnone]
        exact ih ((List.mem_cons.mp h).resolve_left (Ne.symm hx))
  unfold State.retireAll
  rw [hfold _ (List.mem_range.mpr hlaw)]
  show State.commitTasks (s.jobCommitted j e).array.opens.length (s.jobCommitted j e) = _
  rw [hopens', hopens]
  rfl

/-- The one task that waits to retire commits. -/
theorem State.retireAll_task {s : State} {k o : Task} (hjobs : s.array.jobs = []) (hopens : s.array.opens = [o])
    (hretire : s.array.retire = [k]) (hseq : o.seq = k.seq) : s.retireAll = s.commitTask k := by
  have hready : s.array.ready = some k := by simp [Array_.ready, hretire, hopens, hseq]
  unfold State.retireAll
  rw [foldl_of_fixed _ _ s fun l => State.commitJobs_none (Array_.p0Ready_of_empty hjobs l) _]
  show State.commitTasks s.array.opens.length s = _
  rw [hopens]
  show State.commitTasks 1 s = _
  unfold State.commitTasks
  rw [hready]
  rfl

/-! A copy completes (R126). -/

/-- A nib that completes its task, and runs no test, is free; nothing else of the array changes. -/
theorem State.release_array {s : State} {n : NibNo} {k : Task} {since : Nat} (hact : s.array.nibs[n].act = .running k since)
    (htest : s.array.nibs[n].test = none) :
    (s.release n).array.queue = s.array.queue ∧ (s.release n).array.jobs = s.array.jobs ∧
      (s.release n).array.opens = s.array.opens ∧ (s.release n).array.retire = s.array.retire ∧
      (s.release n).array.nibs[n].act = .free ∧ ∀ m : NibNo, m ≠ n → (s.release n).array.nibs[m] = s.array.nibs[m] := by
  obtain ⟨hqueue, -, hjobs, hopens, hretire, hfree, hother⟩ := s.stopRun_array n .free
  have hrelease : s.release n = (s.stopRun n .free).modNib n fun x => { x with test := none } := by
    simp only [State.release, hact, htest]
  rw [hrelease]
  generalize s.stopRun n .free = y at hqueue hjobs hopens hretire hfree hother
  refine ⟨hqueue, hjobs, hopens, hretire, ?_, fun m hm => ?_⟩
  · show (vmod y.array.nibs n _)[n].act = .free
    rw [vmod_same]
    exact hfree
  · show (vmod y.array.nibs n _)[m] = _
    rw [vmod_other _ hm, hother m hm]

/-- A result of a task comes after its deadline. -/
def State.overdue (s : State) (k : Task) : Bool :=
  match k.deadline with
  | some d => decide (d < s.dlNow k.lineDl)
  | none => false

/-- A completed result waits in the retire buffer. -/
def State.waiting (s : State) (k : Task) : State := s.modArr fun a => { a with retire := a.retire ++ [k] }

theorem exec_taskComplete_eq {s z : State} {t : Nat} {n : NibNo} {k : Task} {since : Nat} (hz : z = s.advance t)
    (hact : z.array.nibs[n].act = .running k since) (e : List W32) : exec (.taskComplete t n e) s = .next (
      if k.cls = 0 then (z.release n).completeP0 n k (trimErr e)
      else if (z.release n).overdue k || !((z.release n).array.opens.any fun o => o.dom = k.dom && o.seq = k.seq) then z.release n
      else ((z.release n).waiting { k with err := trimErr e }).retireAll) := by
  show execTaskComplete t n e s = _
  simp only [execTaskComplete, ← hz, hact] <;> rfl

/-- The job with the result of a copy added. -/
def P0Job.add (j : P0Job) (k : Task) (n : NibNo) (e : List W32) : P0Job :=
  { j with results := j.results ++ [{ copy := k.copy, nib := n.val, err := some e }] }

/-- The state with one job of a law put in place of that of its SEQ. -/
def State.putJob (s : State) (j : P0Job) : State := s.modArr (·.modJob j.law j.seq fun _ => j)

theorem State.putJob_jobs {s : State} {i j : P0Job} (h : s.array.jobs = [i]) (hlaw : i.law = j.law) (hseq : i.seq = j.seq) :
    (s.putJob j).array.jobs = [j] := by
  show s.array.jobs.map _ = _
  rw [h]
  simp [hlaw, hseq]

/-- A second copy that completes in time is compared with the first; then what may retire retires. -/
theorem State.completeP0_second {s : State} {n : NibNo} {k : Task} {j : P0Job} {r : CopyResult} {e e' : List W32}
    (hjobs : s.array.jobs = [j]) (hlaw : k.dom = j.law) (hseq : k.seq = j.seq) (htime : s.stamp ≤ j.deadline)
    (hresults : j.results = [r]) (herr : r.err = some e') :
    s.completeP0 n k e = ((s.putJob (j.add k n e)).compare (j.add k n e)).retireAll := by
  have hjob : s.array.job k.dom k.seq = some j := by simp [Array_.job, hjobs, hlaw, hseq]
  have hcount : ¬ 3 ≤ ((j.add k n e).results.filter fun r => r.err.isSome).length := by simp [P0Job.add, hresults, herr]
  have hfew : (decide (3 ≤ ((j.add k n e).results.filter fun r => r.err.isSome).length) && (majority (j.add k n e).results).isNone) = false := by
    simp only [hcount, decide_false, Bool.false_and]
  unfold State.completeP0
  simp only [hjob, not_lt.mpr htime, if_false]
  show (if (decide (3 ≤ ((j.add k n e).results.filter fun r => r.err.isSome).length) && (majority (j.add k n e).results).isNone) = true
    then _ else _) = _
  rw [if_neg (by rw [hfew]; simp)]
  rfl

/-- Two results that agree are a majority; two that differ are none. -/
theorem majority_pair {r q : CopyResult} {e e' : List W32} (hr : r.err = some e') (hq : q.err = some e) :
    majority [r, q] = if e = e' then some e else none := by
  by_cases h : e = e'
  · subst h
    simp [majority, hr, hq]
  · have h' : e' ≠ e := fun h' => h h'.symm
    simp [majority, hr, hq, h, h']

/-- Copies that agree fix the result of their job. -/
theorem State.compare_agree {s : State} {j : P0Job} {r q : CopyResult} {e : List W32} (hresults : j.results = [r, q])
    (hr : r.err = some e) (hq : q.err = some e) : s.compare j = s.modArr (·.modJob j.law j.seq fun j => { j with agreed := some e }) := by
  have hmaj : majority [r, q] = some e := by rw [majority_pair hr hq, if_pos rfl]
  unfold State.compare
  simp only [hresults, hmaj]
  simp [hr, hq]

/-- Copies that differ bring the third copy and P0_MISMATCH. -/
theorem State.compare_differ {s : State} {j : P0Job} {r q : CopyResult} {e e' : List W32} (hresults : j.results = [r, q])
    (hr : r.err = some e') (hq : q.err = some e) (hne : e ≠ e') :
    s.compare j = (s.releaseThird j).raise .p0Mismatch [j.law, r.nib, q.nib] := by
  have hmaj : majority [r, q] = none := by rw [majority_pair hr hq, if_neg hne]
  unfold State.compare
  simp only [hresults, hmaj]
  simp [hr, hq]

/-- The third copy of a job is queued eight troupes from its home. -/
theorem State.releaseThird_array {s : State} {j i : P0Job} (hthird : j.third = false) (hjobs : s.array.jobs = [i])
    (hlaw : i.law = j.law) (hseq : i.seq = j.seq) :
    (s.releaseThird j).array.jobs = [{ i with third := true }] ∧ (s.releaseThird j).array.opens = s.array.opens ∧
    ∃ x : Task, (s.releaseThird j).array.queue = s.array.queue ++ [x] ∧ x.copy = 3 ∧ x.cls = 0 ∧ x.home = (j.home + 8) % 32 ∧
      x.deadline = some j.deadline ∧ x.seq = j.seq := by
  unfold State.releaseThird
  rw [if_neg (by simp [hthird])]
  refine ⟨?_, rfl, _, rfl, rfl, rfl, rfl, rfl, rfl⟩
  show s.array.jobs.map _ = _
  rw [hjobs]
  simp [hlaw, hseq]

/-! A task of the Ringmaster completes (R120, R145). -/

theorem exec_taskComplete_task {s z : State} {t : Nat} {n : NibNo} {k o : Task} {since : Nat} (hz : z = s.advance t)
    (hact : z.array.nibs[n].act = .running k since) (htest : z.array.nibs[n].test = none) (hjobs : z.array.jobs = [])
    (hopens : z.array.opens = [o]) (hretire : z.array.retire = []) (hdom : o.dom = k.dom) (hseq : o.seq = k.seq) (hcls : k.cls ≠ 0)
    (hdeadline : k.deadline = none) (e : List W32) :
    ∃ y : State, exec (.taskComplete t n e) s = .next (y.commitTask { k with err := trimErr e }) ∧ Chg [.array, .free] z y ∧
      y.array.opens = [o] ∧ y.array.retire = [{ k with err := trimErr e }] ∧ y.array.nibs[n].act = .free := by
  have hexec := exec_taskComplete_eq hz hact e
  obtain ⟨-, hjobs', hopens', hretire', hfree, -⟩ := State.release_array hact htest
  have hany : ((z.release n).array.opens.any fun o => o.dom = k.dom && o.seq = k.seq) = true := by
    rw [hopens', hopens]
    simp [hdom, hseq]
  have hearly : (z.release n).overdue k = false := by
    unfold State.overdue
    rw [hdeadline]
  have hretired : ((z.release n).waiting { k with err := trimErr e }).array.retire = [{ k with err := trimErr e }] := by
    show (z.release n).array.retire ++ _ = _
    rw [hretire', hretire]
    rfl
  have hwaits : Chg [.array, .free] z ((z.release n).waiting { k with err := trimErr e }) :=
    ((State.release_chg ..).widen rfl).trans ((State.modArr_chg ..).widen rfl)
  rw [if_neg hcls, hany, hearly, if_neg (by simp),
    State.retireAll_task (s := (z.release n).waiting { k with err := trimErr e }) (hjobs'.trans hjobs) (hopens'.trans hopens) hretired
      hseq] at hexec
  exact ⟨_, hexec, hwaits, hopens'.trans hopens, hretired, hfree⟩

/-- The state after the result of a task of P4 is in the Inkwell. -/
def State.resultWritten (s : State) (k : Task) : State := (s.modArr (·.closeTask k)).writeResult k.result

theorem State.resultWritten_spec {s : State} {n : NibNo} {k o : Task} (hopens : s.array.opens = [o]) (hretire : s.array.retire = [k])
    (hdom : o.dom = k.dom) (hseq : o.seq = k.seq) : (s.resultWritten k).array.opens = [] ∧ (s.resultWritten k).array.retire = [] ∧
      (s.resultWritten k).array.nibs[n].act = s.array.nibs[n].act ∧ Chg [.array] s (s.resultWritten k) := by
  obtain ⟨-, hopens', hretire', hnibs⟩ := (s.modArr (·.closeTask k)).writeResult_array k.result
  refine ⟨?_, ?_, ?_, (State.modArr_chg ..).trans (State.writeResult_chg ..)⟩
  · rw [State.resultWritten, hopens']
    show s.array.opens.filter _ = []
    rw [hopens]
    simp [hdom, hseq]
  · rw [State.resultWritten, hretire']
    show s.array.retire.filter _ = []
    rw [hretire]
    simp
  · rw [State.resultWritten, hnibs]
    show (vmapIdx _ s.array.nibs)[n].act = _
    rw [vmapIdx_fin]
    split <;> rfl

theorem State.commitTask_analytics {s : State} {k : Task} {kern : Nat} {d : Option Nat} (hkind : k.kind = .analytics kern d)
    (hcls : k.cls = 4) : s.commitTask k = s.resultWritten k := by
  unfold State.commitTask
  simp only [hkind, hcls, State.resultWritten]
  rfl

theorem State.commitTask_calibration {s : State} {k : Task} {which : Fin 26} {good : Bool} (hkind : k.kind = .calibration which good)
    (hcls : k.cls = 4) : s.commitTask k = (s.resultWritten k).selfTest 3 good := by
  unfold State.commitTask
  simp only [hkind, hcls, State.resultWritten]
  rfl

/-! Deadlines (R108, R222). -/

/-- The overrun counts of law `l` are the same in two states, and every other law is. -/
structure OverrunsKept (l : LawNo) (s u : State) : Prop where
  overruns : (u.law l.val).overruns = (s.law l.val).overruns
  run : (u.law l.val).overrunRun = (s.law l.val).overrunRun
  other : ∀ m : LawNo, m ≠ l → u.law m.val = s.law m.val

theorem OverrunsKept.refl (l : LawNo) (s : State) : OverrunsKept l s s := ⟨rfl, rfl, fun _ _ => rfl⟩

theorem OverrunsKept.trans {l : LawNo} {a b c : State} (h : OverrunsKept l a b) (k : OverrunsKept l b c) : OverrunsKept l a c :=
  ⟨k.overruns.trans h.overruns, k.run.trans h.run, fun m hm => (k.other m hm).trans (h.other m hm)⟩

theorem OverrunsKept.of_chg {l : LawNo} {L : List Part} {s u : State} (h : Chg L s u) (hL : L.contains .laws = false) :
    OverrunsKept l s u := by
  have hlaw (m : LawNo) : u.law m.val = s.law m.val := State.law_of_laws (h.laws hL) m.val
  exact ⟨by rw [hlaw], by rw [hlaw], fun m _ => hlaw m⟩

theorem OverrunsKept.modLaw (s : State) (l : LawNo) {f : Law → Law} (h : ∀ x, (f x).overruns = x.overruns ∧ (f x).overrunRun = x.overrunRun) :
    OverrunsKept l s (s.modLaw l.val f) := by
  refine ⟨?_, ?_, fun m hm => s.law_modLaw_other (fun hval => hm (Fin.ext hval)) f⟩ <;> rw [State.law_modLaw]
  · exact (h _).1
  · exact (h _).2

theorem OverrunsKept.coastLaw (s : State) (l : LawNo) (c : LawCause) : OverrunsKept l s (s.coastLaw l.val c) := by
  unfold State.coastLaw
  extract_lets w add enter
  split
  · have hmod := OverrunsKept.modLaw s l (f := fun x => { add x with st := .coasted }) fun x => ⟨rfl, rfl⟩
    exact (hmod.trans (.of_chg (State.decideCoast_chg ..) rfl)).trans (.of_chg (State.raise_chg ..) rfl)
  · split
    · exact .modLaw s l fun x => ⟨rfl, rfl⟩
    · exact .refl l s

theorem OverrunsKept.stopLaw (s : State) (l : LawNo) (c : LawCause) : OverrunsKept l s (s.stopLaw l.val c) := by
  unfold State.stopLaw
  extract_lets was y
  have hmod := OverrunsKept.modLaw s l (f := fun x =>
    { x with st := .stopped, causes := if x.causes.contains c then x.causes else x.causes ++ [c] }) fun x => ⟨rfl, rfl⟩
  have hy : OverrunsKept l s y := hmod.trans (.of_chg (State.decideCoast_chg ..) rfl)
  split
  · exact hy
  · exact hy.trans (.of_chg (State.raise_chg ..) rfl)

theorem OverrunsKept.submit {l : LawNo} {s : State} (j : JInput) {f : State → State} (h : OverrunsKept l s (f s)) :
    OverrunsKept l s (s.submit j f) := by
  by_cases hj : journals s.pair.st = true
  · exact .of_chg (State.submit_chg_pair hj j f) rfl
  · rw [State.submit_alone (Bool.eq_false_iff.mpr hj)]
    exact h

/-- An overrun is counted in its law, and in no other. -/
theorem State.overrunLaw_counts (s : State) (l : LawNo) (seq : Nat) :
    ((s.overrunLaw l.val seq).law l.val).overruns = (s.law l.val).overruns + 1 ∧
      ((s.overrunLaw l.val seq).law l.val).overrunRun = (s.law l.val).overrunRun + 1 ∧
      ∀ m : LawNo, m ≠ l → (s.overrunLaw l.val seq).law m.val = s.law m.val := by
  unfold State.overrunLaw
  extract_lets stroke w at_ run _ s1 s2 n
  have hcount : (s2.law l.val).overruns = (s.law l.val).overruns + 1 ∧ (s2.law l.val).overrunRun = (s.law l.val).overrunRun + 1 ∧
      ∀ m : LawNo, m ≠ l → s2.law m.val = s.law m.val := by
    refine ⟨?_, ?_, fun m hm => s1.law_modLaw_other (fun hval => hm (Fin.ext hval)) _⟩ <;> rw [State.law_modLaw] <;> rfl
  have hkept (u : State) (h : OverrunsKept l s2 u) : (u.law l.val).overruns = (s.law l.val).overruns + 1 ∧
      (u.law l.val).overrunRun = (s.law l.val).overrunRun + 1 ∧ ∀ m : LawNo, m ≠ l → u.law m.val = s.law m.val :=
    ⟨h.overruns.trans hcount.1, h.run.trans hcount.2.1, fun m hm => (h.other m hm).trans (hcount.2.2 m hm)⟩
  split
  · exact hkept _ (.submit _ (.stopLaw s2 l _))
  · split
    · exact hkept _ (.submit _ (.coastLaw s2 l _))
    · exact hcount

/-- A miss is counted in the troupe of the home. -/
theorem Array_.countMiss_load (a : Array_) (home : Nat) (law : Option Nat) :
    (vget (a.countMiss home law).load (home % 32) {}).misses = (vget a.load (home % 32) {}).misses + 1 := by
  show (vget (vmapIdx (fun i x => if i = home % 32 then { x with misses := x.misses + 1 } else x) a.load) (home % 32) {}).misses = _
  rw [vget_vmapIdx _ _ _ _ (Nat.mod_lt _ (by decide)), if_pos rfl]

/-- A miss of a P0 task is counted in its law. -/
theorem Array_.countMiss_law (a : Array_) (home : Nat) {law : Nat} (h : law < 43) :
    (vget (a.countMiss home (some law)).lawCounts law (0, 0)).2 = (vget a.lawCounts law (0, 0)).2 + 1 := by
  show (vget (vmapIdx (fun i x => if i = law then (x.1, x.2 + 1) else x) a.lawCounts) law (0, 0)).2 = _
  rw [vget_vmapIdx _ _ _ _ h, if_pos rfl]

/-- THIRD_COPY_TIMEOUT on the job that has one result: the third copy, once W ticks have passed since its start counts. -/
theorem exec_thirdCopyTimeout_eq {s z : State} {t : Nat} {l : LawNo} {j : P0Job} {r : CopyResult} {w c a : Nat} (hz : z = s.advance t)
    (hfind : (z.array.jobs.find? fun j => j.law = l.val && !j.third && j.results.length = 1 && j.agreed.isNone) = some j)
    (hresults : j.results = [r])
    (hw : z.array.kernelW.getD (((z.recs 0x0501).findIdx? fun r => fld r 0 31 26 = l.val).getD 0) 0 = w)
    (hstart : ((j.starts.find? fun p => p.1 = 3 - r.copy).orElse fun _ => j.starts.find? fun p => p.1 = r.copy) = some (c, a)) :
    exec (.thirdCopyTimeout t l) s = .next (if a + w < z.tick then z.releaseThird j else z) := by
  have hsince : (((j.starts.find? fun p => p.1 = 3 - r.copy).map (·.2)).orElse fun _ =>
      (j.starts.find? fun p => p.1 = r.copy).map (·.2)).getD j.released = a := by
    cases h : j.starts.find? fun p => p.1 = 3 - r.copy with
    | none => simp_all
    | some x => simp_all
  show execThirdCopyTimeout t l s = _
  simp only [execThirdCopyTimeout, ← hz, hfind, hresults, List.headD_cons, hsince, hw]

/-- Settles O24: two copies that agree or differ, the tasks of P4, missed deadlines, and the third copy that is late. -/
theorem resultsRetire : Obligations.ResultsRetire := by
  unfold Obligations.ResultsRetire
  refine ⟨?_, ?_, ?_, ?_, ?_, ?_, ?_, ?_⟩
  · intro s z t n k since j r e hz hact htest hcls hdom hseq hjobs hopens hretire hlaw htime hresults herr hagreed hthird
    have hexec := exec_taskComplete_eq hz hact e
    have hframe := fun u (h : exec (.taskComplete t n e) s = .next u) => Chg.of_exec (hz ▸ execTaskComplete_chg t n e s) h
    obtain ⟨-, hjobs', hopens', -, hfree, hother⟩ := State.release_array hact htest
    have hrelease := State.release_chg z n
    have hstamp : (z.release n).stamp ≤ j.deadline := by rw [State.stamp, hrelease.carousel rfl]; exact htime
    rw [if_pos hcls, State.completeP0_second (hjobs'.trans hjobs) hdom hseq hstamp hresults herr] at hexec
    have hadd : (j.add k n (trimErr e)).results = [r, { copy := k.copy, nib := n.val, err := some (trimErr e) }] := by
      rw [P0Job.add, hresults]; rfl
    rw [State.compare_agree hadd herr rfl] at hexec
    generalize z.release n = y at *
    have hput := State.putJob_jobs (j := j.add k n (trimErr e)) (hjobs'.trans hjobs) rfl rfl
    generalize hw : ((y.putJob (j.add k n (trimErr e))).modArr
      (·.modJob (j.add k n (trimErr e)).law (j.add k n (trimErr e)).seq fun j => { j with agreed := some (trimErr e) })) = w at hexec
    have hone : w.array.jobs = [{ j.add k n (trimErr e) with agreed := some (trimErr e) }] := by
      rw [← hw]
      show (y.putJob (j.add k n (trimErr e))).array.jobs.map _ = _
      rw [hput]
      simp
    have hwopens : w.array.opens = [] := by rw [← hw]; exact hopens'.trans hopens
    have hwnibs : w.array.nibs = y.array.nibs := by rw [← hw]; rfl
    have hwpair : w.pair = z.pair := by rw [← hw, ← hrelease.pair rfl]; rfl
    rw [State.retireAll_one hone rfl hlaw hwopens] at hexec
    obtain ⟨hjobs2, -, hnibs2, hcommits⟩ := w.jobCommitted_spec { j.add k n (trimErr e) with agreed := some (trimErr e) } (trimErr e)
    refine ⟨_, hexec, ?_, ?_, ?_, fun m hm => ?_, Only.of_chg (hframe _ hexec) (by decide)⟩
    · rw [hjobs2, hone]
      simp
    · rw [hcommits, hwpair]
      rfl
    · rw [hnibs2, hwnibs, hfree]
    · rw [hnibs2, hwnibs, hother m hm]
  · intro s z t n k since j r e e' hz hact htest hcls hdom hseq hjobs hopens hretire hlaw htime hresults herr hne hagreed hthird
    have hexec := exec_taskComplete_eq hz hact e
    have hframe := fun u (h : exec (.taskComplete t n e) s = .next u) => Chg.of_exec (hz ▸ execTaskComplete_chg t n e s) h
    obtain ⟨hqueue', hjobs', hopens', -, hfree, hother⟩ := State.release_array hact htest
    have hrelease := State.release_chg z n
    have hstamp : (z.release n).stamp ≤ j.deadline := by rw [State.stamp, hrelease.carousel rfl]; exact htime
    rw [if_pos hcls, State.completeP0_second (hjobs'.trans hjobs) hdom hseq hstamp hresults herr] at hexec
    have hadd : (j.add k n (trimErr e)).results = [r, { copy := k.copy, nib := n.val, err := some (trimErr e) }] := by
      rw [P0Job.add, hresults]; rfl
    rw [State.compare_differ hadd herr rfl hne] at hexec
    have hput := State.putJob_jobs (j := j.add k n (trimErr e)) (hjobs'.trans hjobs) rfl rfl
    obtain ⟨hjobs2, hopens2, x, hx, hcopy, hxcls, hhome, hdeadline, hxseq⟩ := State.releaseThird_array (j := j.add k n (trimErr e))
      (s := (z.release n).putJob (j.add k n (trimErr e))) hthird hput rfl rfl
    have hthirdChg := ((z.release n).putJob (j.add k n (trimErr e))).releaseThird_chg (j.add k n (trimErr e))
    generalize hw : (((z.release n).putJob (j.add k n (trimErr e))).releaseThird (j.add k n (trimErr e))).raise .p0Mismatch
      [(j.add k n (trimErr e)).law, r.nib, n.val] = w at hexec
    have hwarray : w.array = (((z.release n).putJob (j.add k n (trimErr e))).releaseThird (j.add k n (trimErr e))).array := by
      rw [← hw]; rfl
    have hwjobs : w.array.jobs = [{ j.add k n (trimErr e) with third := true }] := by rw [hwarray, hjobs2]
    have hwpair : w.pair = z.pair := by
      rw [← hw, State.raise_pair, hthirdChg.pair rfl, ← hrelease.pair rfl]
      rfl
    have hnone (law : Nat) : w.array.p0Ready law = none := by
      by_cases hl : j.law = law
      · simp [Array_.p0Ready, hwjobs, P0Job.add, hl, hagreed]
      · simp [Array_.p0Ready, hwjobs, P0Job.add, hl]
    have hwopens : w.array.opens = [] := by
      rw [hwarray, hopens2]
      exact hopens'.trans hopens
    rw [State.retireAll_of_waiting hnone hwopens] at hexec
    refine ⟨_, hexec, ?_, ⟨x, ?_, hcopy, hxcls, hhome, hdeadline, hxseq⟩, by rw [hwpair], ?_, Only.of_chg (hframe _ hexec) (by decide)⟩
    · rw [hwjobs, P0Job.add, hresults]
      rfl
    · rw [hwarray, hx]
      show (z.release n).array.queue ++ [x] = _
      rw [hqueue']
    · rw [← hw, State.lastEv_raise]
  · intro s z t n k o since kern d e hz hact htest hkind hcls hdeadline hjobs hopens hretire hdom hseq
    obtain ⟨y, hexec, hchg, hopens', hretire', hfree⟩ :=
      exec_taskComplete_task hz hact htest hjobs hopens hretire hdom hseq (by omega) hdeadline e
    obtain ⟨hopens2, hretire2, hact2, hchg2⟩ := State.resultWritten_spec (n := n) hopens' hretire' hdom hseq
    rw [State.commitTask_analytics (k := { k with err := trimErr e }) hkind hcls] at hexec
    exact ⟨_, hexec, hopens2, hretire2, hact2.trans hfree, Only.of_chg (hchg.trans (hchg2.widen rfl)) (by decide)⟩
  · intro s z t n k o since which good e hz hact htest hkind hcls hdeadline hjobs hopens hretire hdom hseq
    obtain ⟨y, hexec, hchg, hopens', hretire', hfree⟩ :=
      exec_taskComplete_task hz hact htest hjobs hopens hretire hdom hseq (by omega) hdeadline e
    obtain ⟨hopens2, hretire2, hact2, hchg2⟩ := State.resultWritten_spec (n := n) hopens' hretire' hdom hseq
    have hchg3 := hchg.trans (hchg2.widen rfl)
    rw [State.commitTask_calibration (k := { k with err := trimErr e }) hkind hcls] at hexec
    refine ⟨_, hexec, hopens2, ?_, Only.of_chg ((hchg3.widen rfl).step (State.selfTest_chg ..) rfl) (M := [.array, .free, .pair]) (L := [.array, .free, .pair]) (by decide)⟩
    have htest (y : State) : (y.selfTest 3 good).pair = { y.pair with tests := aput y.pair.tests 3 { tick := y.tick, pass := good } } := rfl
    rw [htest, hchg3.pair rfl, State.tick, hchg3.time rfl]
    rfl
  · intro s z t j hz hjobs hopens hretire hlaw hlate
    have hjob : z.array.job j.law j.seq = some j := by simp [Array_.job, hjobs]
    have hexec : exec (.deadlineMiss t j.law j.seq) s =
        .next (((z.lateEvent 0 (.law (Fin.ofNat 43 j.law)) j.seq (z.stamp - j.deadline)).missJob j).retireAll) := by
      show execDeadlineMiss t j.law j.seq s = _
      simp only [execDeadlineMiss, ← hz, hjob, hlate, if_true]
    have hevent := z.lateEvent_chg 0 (.law (Fin.ofNat 43 j.law)) j.seq (z.stamp - j.deadline)
    generalize z.lateEvent 0 (.law (Fin.ofNat 43 j.law)) j.seq (z.stamp - j.deadline) = y at hexec hevent
    have hy : (y.modArr fun a => (a.closeJob j.law j.seq).countMiss j.home (some j.law)).array.jobs = [] ∧
        (y.modArr fun a => (a.closeJob j.law j.seq).countMiss j.home (some j.law)).array.opens = [] := by
      refine ⟨?_, ?_⟩
      · show y.array.jobs.filter _ = []
        rw [hevent.array rfl, hjobs]
        simp
      · show y.array.opens = []
        rw [hevent.array rfl, hopens]
    have hcounts := (y.modArr fun a => (a.closeJob j.law j.seq).countMiss j.home (some j.law)).overrunLaw_counts ⟨j.law, hlaw⟩ j.seq
    have hover := (y.modArr fun a => (a.closeJob j.law j.seq).countMiss j.home (some j.law)).overrunLaw_chg j.law j.seq
    have hmiss : y.missJob j = (y.modArr fun a => (a.closeJob j.law j.seq).countMiss j.home (some j.law)).overrunLaw j.law j.seq := rfl
    have harray : (y.modArr fun a => (a.closeJob j.law j.seq).countMiss j.home (some j.law)).array =
        (y.array.closeJob j.law j.seq).countMiss j.home (some j.law) := rfl
    have hbefore (m : Nat) : (y.modArr fun a => (a.closeJob j.law j.seq).countMiss j.home (some j.law)).law m = z.law m :=
      State.law_of_laws (hevent.laws rfl) m
    have hchg : Chg [.array, .legs, .laws, .pair, .port] z (y.missJob j) :=
      ((hevent.widen rfl).trans ((State.modArr_chg ..).widen rfl)).trans (hover.widen rfl)
    rw [← hmiss] at hcounts hover
    rw [State.retireAll_of_waiting (fun law => Array_.p0Ready_of_empty (by rw [hover.array rfl]; exact hy.1) law)
      (by rw [hover.array rfl]; exact hy.2)] at hexec
    refine ⟨_, hexec, by rw [hover.array rfl]; exact hy.1, ?_, ?_, fun m hm => ?_, ?_, Only.of_chg hchg (by decide)⟩
    · rw [hcounts.1, hbefore]
    · rw [hcounts.2.1, hbefore]
    · rw [hcounts.2.2 m (fun h => hm (congrArg Fin.val h)), hbefore]
    · rw [hover.array rfl, harray, Array_.countMiss_law _ _ hlaw, ← hevent.array rfl]
      rfl
  · intro s z t k kern d e hz hjobs hopens hretire hkind hdeadline hlate
    have hjob : z.array.job k.dom k.seq = none := by simp [Array_.job, hjobs]
    have hfind : (z.array.opens.find? fun o => o.dom = k.dom && o.seq = k.seq) = some k := by simp [hopens]
    have hexec : exec (.deadlineMiss t k.dom k.seq) s =
        .next (((z.lateEvent k.cls k.kind k.seq (z.dlNow k.lineDl - d)).missTask k).retireAll) := by
      show execDeadlineMiss t k.dom k.seq s = _
      simp only [execDeadlineMiss, ← hz, hjob, hfind, hdeadline, hlate, if_true]
    have hevent := z.lateEvent_chg k.cls k.kind k.seq (z.dlNow k.lineDl - d)
    have hlast : (z.lateEvent k.cls k.kind k.seq (z.dlNow k.lineDl - d)).lastEv = some .deadlineMiss := State.lastEv_raise ..
    generalize z.lateEvent k.cls k.kind k.seq (z.dlNow k.lineDl - d) = y at hexec hevent hlast
    have hmiss : y.missTask k = y.modArr fun a => (a.closeTask k).countMiss k.home none := by
      unfold State.missTask
      simp only [hkind]
    have hopens' : (y.modArr fun a => (a.closeTask k).countMiss k.home none).array.opens = [] := by
      show y.array.opens.filter _ = []
      rw [hevent.array rfl, hopens]
      simp
    have hjobs' : (y.modArr fun a => (a.closeTask k).countMiss k.home none).array.jobs = [] := by
      show y.array.jobs = []
      rw [hevent.array rfl, hjobs]
    have hclosed := y.modArr_chg fun a => (a.closeTask k).countMiss k.home none
    rw [hmiss, State.retireAll_of_waiting (fun law => Array_.p0Ready_of_empty hjobs' law) hopens'] at hexec
    refine ⟨_, hexec, hopens', ?_, ?_, Only.of_chg ((hevent.widen rfl).step hclosed rfl) (M := [.array, .port]) (L := [.array, .port]) (by decide)⟩
    · rw [hclosed.lastEv rfl, hlast]
    · rw [State.modArr_array, Array_.countMiss_load, ← hevent.array rfl]
      rfl
  · intro s z t l j r w c a hz hjobs hlaw hthird hresults hagreed hw hstart hlate
    have hfind : (z.array.jobs.find? fun j => j.law = l.val && !j.third && j.results.length = 1 && j.agreed.isNone) = some j := by
      simp [hjobs, hlaw, hthird, hresults, hagreed]
    have hexec := exec_thirdCopyTimeout_eq hz hfind hresults hw hstart
    rw [if_pos hlate] at hexec
    obtain ⟨hjobs', -, x, hx, hcopy, -, hhome, -, hseq⟩ := State.releaseThird_array hthird hjobs rfl rfl
    exact ⟨_, hexec, hjobs', ⟨x, hx, hcopy, hhome, hseq⟩, Only.of_chg (State.releaseThird_chg ..) (by decide)⟩
  · intro s z t l j r w c a hz hjobs hlaw hresults hw hstart hearly
    refine ⟨z, ?_, rfl⟩
    by_cases hfind : (z.array.jobs.find? fun j => j.law = l.val && !j.third && j.results.length = 1 && j.agreed.isNone) = none
    · show execThirdCopyTimeout t l s = _
      simp only [execThirdCopyTimeout, ← hz, hfind]
    · obtain ⟨i, hi⟩ := Option.ne_none_iff_exists'.mp hfind
      have hij : i = j := by
        have := List.mem_of_find?_eq_some hi
        rw [hjobs] at this
        exact List.mem_singleton.mp this
      rw [exec_thirdCopyTimeout_eq hz (hij ▸ hi) hresults hw hstart, if_neg (not_lt.mpr hearly)]

end Sys2Proof.Machine
end

section
/-!
Proofs about the safety outputs (chapter 12): what a cycle does to an output that reads high while it is off.
-/
namespace Sys2Proof.Machine
open Sys2Proof Sys2Proof.Config

theorem State.react_outs (s : State) : s.react.safety.outs = s.refreshSo.safety.outs := by
  unfold State.react
  extract_lets x want
  split
  · rfl
  · rw [(State.submit_chg (L := [.legs, .laws, .port, .pair]) (fun y => (State.takeLegsOff_chg ..).widen rfl) rfl).safety rfl]
    rfl

/-- An output after the reactions is on where its conditions hold; it is faulty where it was. -/
theorem State.react_out (s : State) (n : SoNo) : (vget s.react.safety.outs n.val {}).on = s.soWanted n.val ∧
    (vget s.react.safety.outs n.val {}).faulty = (vget s.safety.outs n.val {}).faulty := by
  have hout : vget s.refreshSo.safety.outs n.val {} = if (vget s.safety.outs n.val {}).on = s.soWanted n.val then
      vget s.safety.outs n.val {} else { vget s.safety.outs n.val {} with on := s.soWanted n.val, at_ := s.time.clock } :=
    vget_vmapIdx _ _ _ _ n.isLt
  rw [State.react_outs, hout]
  split
  · exact ⟨‹_›, rfl⟩
  · exact ⟨rfl, rfl⟩

/-- The outputs whose readback is high while they are off become faulty, the lowest number first. -/
def State.faultHigh (s : State) (hi : BitVec 8) : State :=
  (List.range 8).foldl (fun s n => if s.offHigh n (hi.getLsbD n) then s.faultOut n 1 else s) s

/-- The state after the samples of a cycle in which the evaluations agree. -/
def State.cycled (s : State) (lv : BitVec 32) : State :=
  ((s.sampleInputs lv).modSafety fun x => { x with cycles := x.cycles + 1 }).modSafety fun x => { x with disagreed := false }

theorem exec_safetyCycle_agree {s z : State} {t : Nat} {lv : BitVec 32} {hi : BitVec 8} (hz : z = s.advance t)
    (hdie : z.powerDie = true) : exec (.safetyCycle t lv false hi) s = .next ((z.cycled lv).faultHigh hi).pauseScan := by
  show execSafetyCycle t lv false hi s = _
  simp only [execSafetyCycle, ← hz, hdie, Bool.not_true, Bool.false_eq_true, if_false, Bool.false_and]
  rfl

theorem State.faultHigh_three (s : State) (h0 : s.offHigh 0 true = true) (h1 : (s.faultOut 0 1).offHigh 1 true = false) :
    s.faultHigh 3#8 = s.faultOut 0 1 := by
  have hlow (y : State) (n : Nat) : y.offHigh n false = false := rfl
  have hbits : (3#8).getLsbD 0 = true ∧ (3#8).getLsbD 1 = true ∧ (3#8).getLsbD 2 = false ∧ (3#8).getLsbD 3 = false ∧
      (3#8).getLsbD 4 = false ∧ (3#8).getLsbD 5 = false ∧ (3#8).getLsbD 6 = false ∧ (3#8).getLsbD 7 = false := by decide
  obtain ⟨b0, b1, b2, b3, b4, b5, b6, b7⟩ := hbits
  have hrange : List.range 8 = [0, 1, 2, 3, 4, 5, 6, 7] := rfl
  simp only [State.faultHigh, hrange, List.foldl_cons, List.foldl_nil, b0, b1, b2, b3, b4, b5, b6, b7, h0, h1, hlow, if_true,
    Bool.false_eq_true, if_false]

/-- A module whose outputs 0 and 1 are in use and off; the Ringmaster requests output 1, which no reaction has switched on yet. -/
def outputsOff : State :=
  { State.reset with
    time := { State.reset.time with clock := 200000 }
    supply := { State.reset.supply with auxIn := 170 }
    safety := { State.reset.safety with sect := [0, 0, 0x03000000], outs := vput State.reset.safety.outs 1 { req := true } } }

/-- Refutes O29: outputs 0 and 1 read high while they are off. The fault of output 0 lets the reactions follow, which switches
output 1 on before its readback is judged; it does not become faulty, and stays on. -/
theorem not_demandsAndReactions : ¬ Obligations.DemandsAndReactions := by
  unfold Obligations.DemandsAndReactions
  rintro ⟨hcycle, -⟩
  have hdie : (outputsOff.advance 0).powerDie = true := by decide
  obtain ⟨u, hexec, -, -, -, -, hfaulty, -⟩ := hcycle outputsOff (outputsOff.advance 0) 0 0 3#8 rfl hdie
  have hout := hfaulty 1 (by decide)
  have hu := Host.Outcome.next.inj (hexec.symm.trans (exec_safetyCycle_agree (lv := 0) (hi := 3#8) rfl hdie))
  let x := (((outputsOff.advance 0).cycled 0).modOut 0 fun x => { x with faulty := true }).raise .soFault [0, 1]
  have hfault : ((outputsOff.advance 0).cycled 0).faultOut 0 1 = x.react := if_neg (by decide)
  have hwanted : x.soWanted 1 = true := by decide
  have hsound : (vget x.safety.outs 1 {}).faulty = false := by decide
  obtain ⟨hon, hkept⟩ := x.react_out 1
  have hnot : x.react.offHigh 1 true = false := by
    have hon' : (vget x.react.safety.outs 1 {}).on = true := hon.trans hwanted
    simp only [State.offHigh, hon', Bool.not_true, Bool.and_false, Bool.false_and]
  rw [State.faultHigh_three _ (by decide) (by rw [hfault]; exact hnot), hfault] at hu
  have hsafety : u.safety = x.react.safety := by rw [hu, (State.pauseScan_chg _).safety rfl]
  rw [hsafety, hkept] at hout
  exact Bool.false_ne_true (hsound.symm.trans hout.1)

end Sys2Proof.Machine
end

section
/-!
Proofs about the ink point (chapter 7): the pencil or clamp ink that is written once for the next half-turn, and the ink of a
divergence test.
-/
namespace Sys2Proof.Machine
open Sys2Proof Sys2Proof.Config

/-- The ink and the counts of the ink point are the same in two states. -/
structure InkKept (s u : State) : Prop where
  nextInk : u.juggler.nextInk = s.juggler.nextInk
  pointDone : u.juggler.pointDone = s.juggler.pointDone
  ink : u.juggler.ink = s.juggler.ink
  clampInks : u.juggler.clampInks = s.juggler.clampInks
  pencilLate : u.juggler.pencilLate = s.juggler.pencilLate

theorem InkKept.refl (s : State) : InkKept s s := ⟨rfl, rfl, rfl, rfl, rfl⟩

theorem InkKept.trans {a b c : State} (h : InkKept a b) (k : InkKept b c) : InkKept a c :=
  ⟨k.nextInk.trans h.nextInk, k.pointDone.trans h.pointDone, k.ink.trans h.ink, k.clampInks.trans h.clampInks,
    k.pencilLate.trans h.pencilLate⟩

theorem InkKept.of_chg {L : List Part} {s u : State} (h : Chg L s u) (hL : L.contains .juggler = false) : InkKept s u := by
  have hj := h.juggler hL
  exact ⟨by rw [hj], by rw [hj], by rw [hj], by rw [hj], by rw [hj]⟩

theorem InkKept.logAlloc (s : State) (pencil : Bool) (a : Option Alloc) : InkKept s (s.logAlloc pencil a) := by
  cases a with
  | none => exact .refl s
  | some a => exact ⟨rfl, rfl, rfl, rfl, rfl⟩

theorem InkKept.guaranteeCuts (s : State) (a : Alloc) : InkKept s (s.guaranteeCuts a) := by
  unfold State.guaranteeCuts
  generalize a.shorts = l
  induction l generalizing s with
  | nil => exact .refl s
  | cons x l ih =>
    rw [List.foldl_cons]
    refine InkKept.trans ?_ (ih _)
    split
    · exact .refl s
    · exact ⟨rfl, rfl, rfl, rfl, rfl⟩

/-- The state in which ink `a` is written, before a divergence test journals it. -/
def State.inkSet (s : State) (a : Alloc) : State :=
  ((s.modJug fun j => { j with nextInk := some a, pointDone := true }).logAlloc false (some a)).guaranteeCuts a

theorem State.inkSet_juggler (s : State) (a : Alloc) : (s.inkSet a).juggler.nextInk = some a ∧
    (s.inkSet a).juggler.pointDone = true ∧ (s.inkSet a).juggler.ink = s.juggler.ink ∧
    (s.inkSet a).juggler.clampInks = s.juggler.clampInks ∧ (s.inkSet a).juggler.pencilLate = s.juggler.pencilLate := by
  have h := (InkKept.logAlloc (s.modJug fun j => { j with nextInk := some a, pointDone := true }) false (some a)).trans
    (.guaranteeCuts _ a)
  exact ⟨h.nextInk, h.pointDone, h.ink, h.clampInks, h.pencilLate⟩

theorem State.inkSet_chg (s : State) (a : Alloc) : Chg [.juggler, .port] s (s.inkSet a) :=
  (((State.modJug_chg ..).widen rfl).step (State.logAlloc_chg ..) rfl).step (State.guaranteeCuts_chg ..) rfl

theorem State.writeInk_single {s : State} (h : s.pair.diverge = none) (i : JugIn) (a : Alloc) (other : Option InkVals) :
    s.writeInk i a other = s.inkSet a := by
  have hpair : (s.inkSet a).pair.diverge = none := by rw [(s.inkSet_chg a).pair rfl, h]
  unfold State.writeInk
  simp only [h]
  show (match (s.inkSet a).pair.st, (s.inkSet a).pair.diverge, other with
    | .holder, some _, some _ => (s.inkSet a).journal (.ink { outlets := a.outlets, groups := a.groups, afes := a.afes })
    | _, _, _ => s.inkSet a) = _
  rw [hpair]
  split
  · contradiction
  · rfl

/-- A divergence test notes that its ink is written. -/
def State.inked (s : State) (d : Diverge) : State := { s with pair := { s.pair with diverge := some { d with inked := true } } }

theorem State.writeInk_divergent {s : State} {d : Diverge} (h : s.pair.diverge = some d) (i : JugIn) (a : Alloc) (x : InkVals) :
    ∃ m, m = s.policy.mergeInk i s.juggler.ink a x s.carousel.freq ∧ s.writeInk i a (some x) =
      if s.pair.st = .holder then ((s.inked d).inkSet m).journal (.ink { outlets := m.outlets, groups := m.groups, afes := m.afes })
      else (s.inked d).inkSet m := by
  refine ⟨_, rfl, ?_⟩
  generalize hm : s.policy.mergeInk i s.juggler.ink a x s.carousel.freq = m
  have hchg := (s.inked d).inkSet_chg m
  have hst : ((s.inked d).inkSet m).pair.st = s.pair.st := by rw [hchg.pair rfl]; rfl
  have hdiverge : ((s.inked d).inkSet m).pair.diverge = some { d with inked := true } := by rw [hchg.pair rfl]; rfl
  unfold State.writeInk
  simp only [h, hm]
  show (match ((s.inked d).inkSet m).pair.st, ((s.inked d).inkSet m).pair.diverge, some x with
    | .holder, some _, some _ => ((s.inked d).inkSet m).journal (.ink { outlets := m.outlets, groups := m.groups, afes := m.afes })
    | _, _, _ => (s.inked d).inkSet m) = _
  rw [hdiverge, hst]
  cases s.pair.st <;> rfl

/-- The ink point lies at the phase that the records name, or where it has come to. -/
def State.atInkPoint (s : State) : State := s.modCar fun c => { c with phase := max c.phase s.inkPhase }

theorem exec_inkPoint_eq {s z : State} {t : Nat} {o : Option InkVals} {i : JugIn} (hz : z = s.advance t)
    (hmode : z.startup.mode = .service) (hrun : z.carousel.running = true) (hlatch : z.juggler.latch = some i)
    (hfirst : z.juggler.pointDone = false) {a : Alloc} (hink : (z.inkPoint z.jugInputs o).juggler.nextInk = some a) :
    exec (.inkPoint t o) s = .next ((z.inkPoint z.jugInputs o).addShorts a.shorts) := by
  show execInkPoint t o s = _
  simp only [execInkPoint, ← hz, hmode, hrun, hlatch, hfirst, decide_true, Option.isSome_some, Bool.not_false, Bool.and_self, if_true,
    hink]

theorem State.inkPoint_pencil {s : State} {i : JugIn} {a : Alloc} (hlatch : s.juggler.latch = some i)
    (hfirst : s.juggler.pointDone = false) (hpencil : s.juggler.pencil = some a) (now : JugIn)
    (htight : s.policy.tightened i now = []) (o : Option InkVals) : s.inkPoint now o = s.atInkPoint.writeInk i a o := by
  have hpolicy : s.atInkPoint.policy = s.policy := rfl
  unfold State.inkPoint
  simp only [hlatch, hfirst, Bool.false_eq_true, if_false]
  show (match s.atInkPoint.juggler.pencil with | some a => _ | none => _ : State) = _
  rw [show s.atInkPoint.juggler.pencil = some a from hpencil]
  simp only [show (s.modCar fun c => { c with phase := max c.phase s.inkPhase }).policy = s.policy from rfl, htight]
  rfl

theorem State.inkPoint_clamp {s : State} {i : JugIn} {a : Alloc} (hlatch : s.juggler.latch = some i)
    (hfirst : s.juggler.pointDone = false) (hpencil : s.juggler.pencil = some a) (now : JugIn)
    (htight : s.policy.tightened i now ≠ []) (o : Option InkVals) : ∃ val, s.inkPoint now o =
      ((s.atInkPoint.modJug fun j => { j with clampInks := j.clampInks + 1 }).raise .inkClamp val).writeInk now
        (s.policy.clampInk now s.juggler.ink s.carousel.freq) o := by
  refine ⟨(s.policy.tightened i now).flatMap fun x => [(x.1 : Int), (x.2 : Int)], ?_⟩
  have hempty : (s.policy.tightened i now).isEmpty = false := by simpa using htight
  unfold State.inkPoint
  simp only [hlatch, hfirst, Bool.false_eq_true, if_false]
  show (match s.atInkPoint.juggler.pencil with | some a => _ | none => _ : State) = _
  rw [show s.atInkPoint.juggler.pencil = some a from hpencil]
  simp only [show (s.modCar fun c => { c with phase := max c.phase s.inkPhase }).policy = s.policy from rfl, hempty,
    Bool.false_eq_true, if_false]
  rfl

theorem State.inkPoint_late {s : State} {i : JugIn} (hlatch : s.juggler.latch = some i) (hfirst : s.juggler.pointDone = false)
    (hpencil : s.juggler.pencil = none) (now : JugIn) (o : Option InkVals) : ∃ val, s.inkPoint now o =
      ((s.atInkPoint.modJug fun j => { j with clampInks := j.clampInks + 1, pencilLate := j.pencilLate + 1 }).raise
        .pencilLate val).writeInk now (s.policy.clampInk now s.juggler.ink s.carousel.freq) o := by
  refine ⟨[((s.atInkPoint.stamp % 32768 - s.policy.inkArc : Nat) : Int)], ?_⟩
  unfold State.inkPoint
  simp only [hlatch, hfirst, Bool.false_eq_true, if_false]
  show (match s.atInkPoint.juggler.pencil with | some a => _ | none => _ : State) = _
  rw [show s.atInkPoint.juggler.pencil = none from hpencil]
  rfl

/-- Settles O34: the pencil, the clamp ink and the merged ink at the ink point, and the ink that the journal brings. -/
theorem inkIsWritten : Obligations.InkIsWritten := by
  unfold Obligations.InkIsWritten
  refine ⟨?_, ?_, ?_, ?_, ?_, ?_⟩
  · intro s z t o i a hz hmode hrun hlatch hfirst hsingle hpencil htight
    have hpoint := State.inkPoint_pencil hlatch hfirst hpencil z.jugInputs htight o
    rw [State.writeInk_single (s := z.atInkPoint) hsingle] at hpoint
    obtain ⟨hnext, hdone, hink, hclamp, -⟩ := z.atInkPoint.inkSet_juggler a
    have hexec := exec_inkPoint_eq (o := o) hz hmode hrun hlatch hfirst (by rw [hpoint]; exact hnext)
    have hshorts := (z.inkPoint z.jugInputs o).addShorts_chg a.shorts
    refine ⟨_, hexec, ?_, ?_, ?_, ?_, Only.of_chg (Chg.of_exec (hz ▸ execInkPoint_chg t o s) hexec) (by decide)⟩ <;>
      rw [hshorts.juggler rfl, hpoint]
    · exact hnext
    · exact hdone
    · exact hink
    · exact hclamp
  · intro s z t o i a hz hmode hrun hlatch hfirst hsingle hpencil htight
    obtain ⟨val, hpoint⟩ := State.inkPoint_clamp hlatch hfirst hpencil z.jugInputs htight o
    generalize hy : (z.atInkPoint.modJug fun j => { j with clampInks := j.clampInks + 1 }).raise .inkClamp val = y at hpoint
    have hyjug : y.juggler = { z.juggler with clampInks := z.juggler.clampInks + 1 } := by rw [← hy]; rfl
    rw [State.writeInk_single (by rw [← hy]; exact hsingle)] at hpoint
    obtain ⟨hnext, hdone, -, hclamp, -⟩ := y.inkSet_juggler (z.policy.clampInk z.jugInputs z.juggler.ink z.carousel.freq)
    have hexec := exec_inkPoint_eq (o := o) hz hmode hrun hlatch hfirst (by rw [hpoint]; exact hnext)
    have hshorts := (z.inkPoint z.jugInputs o).addShorts_chg (z.policy.clampInk z.jugInputs z.juggler.ink z.carousel.freq).shorts
    refine ⟨_, hexec, ?_, ?_, ?_, Only.of_chg (Chg.of_exec (hz ▸ execInkPoint_chg t o s) hexec) (by decide)⟩ <;>
      rw [hshorts.juggler rfl, hpoint]
    · exact hnext
    · exact hdone
    · rw [hclamp, hyjug]
  · intro s z t o i hz hmode hrun hlatch hfirst hsingle hpencil
    obtain ⟨val, hpoint⟩ := State.inkPoint_late hlatch hfirst hpencil z.jugInputs o
    generalize hy : (z.atInkPoint.modJug fun j => { j with clampInks := j.clampInks + 1, pencilLate := j.pencilLate + 1 }).raise
      .pencilLate val = y at hpoint
    have hyjug : y.juggler = { z.juggler with
        clampInks := z.juggler.clampInks + 1, pencilLate := z.juggler.pencilLate + 1 } := by rw [← hy]; rfl
    rw [State.writeInk_single (by rw [← hy]; exact hsingle)] at hpoint
    obtain ⟨hnext, hdone, -, -, hlate⟩ := y.inkSet_juggler (z.policy.clampInk z.jugInputs z.juggler.ink z.carousel.freq)
    have hexec := exec_inkPoint_eq (o := o) hz hmode hrun hlatch hfirst (by rw [hpoint]; exact hnext)
    have hshorts := (z.inkPoint z.jugInputs o).addShorts_chg (z.policy.clampInk z.jugInputs z.juggler.ink z.carousel.freq).shorts
    refine ⟨_, hexec, ?_, ?_, ?_, Only.of_chg (Chg.of_exec (hz ▸ execInkPoint_chg t o s) hexec) (by decide)⟩ <;>
      rw [hshorts.juggler rfl, hpoint]
    · exact hnext
    · exact hdone
    · rw [hlate, hyjug]
  · intro s z t o i a d hz hmode hrun hlatch hfirst hdiverge hpencil htight
    have hpoint := State.inkPoint_pencil hlatch hfirst hpencil z.jugInputs htight (some o)
    obtain ⟨m, hm, hwrite⟩ := State.writeInk_divergent (s := z.atInkPoint) hdiverge i a o
    have hm' : m = z.policy.mergeInk i z.juggler.ink a o z.carousel.freq := hm
    rw [hwrite] at hpoint
    obtain ⟨hnext, hdone, -⟩ := (z.atInkPoint.inked d).inkSet_juggler m
    have hchg := (z.atInkPoint.inked d).inkSet_chg m
    have hjug : (z.inkPoint z.jugInputs (some o)).juggler = ((z.atInkPoint.inked d).inkSet m).juggler := by
      rw [hpoint]
      split <;> rfl
    have hexec := exec_inkPoint_eq (o := some o) hz hmode hrun hlatch hfirst (by rw [hjug]; exact hnext)
    have hshorts := (z.inkPoint z.jugInputs (some o)).addShorts_chg m.shorts
    refine ⟨_, hexec, ?_, ?_, fun hst => ?_, Only.of_chg (Chg.of_exec (hz ▸ execInkPoint_chg t (some o) s) hexec) (by decide)⟩
    · rw [hshorts.juggler rfl, hjug, hnext, hm']
    · rw [hshorts.juggler rfl, hjug, hdone]
    · have hst' : z.atInkPoint.pair.st = .holder := hst
      rw [hshorts.pair rfl, hpoint, if_pos hst', State.journal_journal, hchg.pair rfl, List.length_append]
      rfl
  · intro x a
    refine .of_apply fun z tick stamp hH => ?_
    obtain ⟨hnext, hdiverge⟩ := hH
    have happlied : z.applyInput tick stamp (.ink x) = z.takeInk x := rfl
    rw [happlied]
    refine ⟨?_, Only.of_chg (State.takeInk_chg ..) (by decide)⟩
    show ({ z.juggler with nextInk := z.juggler.nextInk.map fun a => if z.pair.diverge.isSome then a.lesser x else a } : Juggler) = _
    rw [hnext, Option.map_some, if_pos hdiverge]
  · intro s z t o hz hdone
    refine ⟨z, ?_, rfl⟩
    show execInkPoint t o s = _
    simp only [execInkPoint, ← hz, hdone, Bool.not_true, Bool.and_false, Bool.false_eq_true, if_false]

end Sys2Proof.Machine
end

section
/-!
Rules about the session contexts and the dispensers of chapter 9: what a context is after an operation on it, and on another.
-/
namespace Sys2Proof.Machine
open Sys2Proof Sys2Proof.Config

@[simp] theorem State.bctx_modCtx_same (s : State) {c : Nat} (h : c < 128) (f : Ctx → Ctx) : (s.modCtx c f).bctx c = f (s.bctx c) := by
  show vget (vmapIdx _ _) c ({} : Ctx) = _
  rw [vget_vmapIdx _ _ _ _ h, if_pos rfl]
  rfl

theorem State.bctx_modCtx_other (s : State) {c d : Nat} (h : d ≠ c) (f : Ctx → Ctx) : (s.modCtx c f).bctx d = s.bctx d := by
  show vget (vmapIdx _ _) d ({} : Ctx) = vget _ d {}
  by_cases hd : d < 128
  · rw [vget_vmapIdx _ _ _ _ hd, if_neg h]
  · simp [vget, hd]

theorem State.outletDisp_modDisp_same (s : State) (o : OutletNo) (f : Disp → Disp) :
    (s.modDisp (o.val + 1) f).outletDisp (o.val + 1) = f (s.outletDisp (o.val + 1)) := by
  show vget (vmapIdx _ _) o.val ({} : Disp) = _
  rw [vget_vmapIdx _ _ _ _ o.isLt, if_pos rfl]
  rfl

theorem State.bctx_of_barker {s u : State} (h : u.barker = s.barker) (c : Nat) : u.bctx c = s.bctx c := by
  simp only [State.bctx, h]

theorem State.outletDisp_of_barker {s u : State} (h : u.barker = s.barker) (o : Nat) : u.outletDisp o = s.outletDisp o := by
  simp only [State.outletDisp, h]

theorem State.bctx_modDisp (s : State) (o : Nat) (f : Disp → Disp) (c : Nat) : (s.modDisp o f).bctx c = s.bctx c := rfl

theorem State.outletDisp_modCtx (s : State) (c : Nat) (f : Ctx → Ctx) (o : Nat) : (s.modCtx c f).outletDisp o = s.outletDisp o := rfl

theorem State.session_of_scribe {s u : State} (h : u.scribe = s.scribe) (c : Nat) : u.session c = s.session c := by
  simp only [State.session, h]

end Sys2Proof.Machine
end

section
/-!
Proofs about dispenser inputs (chapter 9): two contexts of an outlet in SETUP at an unplug.
-/
namespace Sys2Proof.Machine
open Sys2Proof Sys2Proof.Config

/-- A context in SETUP, plugged in at an instant, whose protocol is not yet chosen. -/
def freshSetup (now : Nat) : Ctx := { st := .setup, plugAt := now }

/-- The lower context of an outlet takes over what the upper one has begun, with its credit. -/
def State.takeOver (s : State) (c : Nat) : State :=
  ((s.modCtx c fun _ => s.bctx (c + 1)).modCtx (c + 1) fun _ => {}).modCore fun y =>
    { y with credits := (y.credits.filter fun z => z.1 ≠ c + 1) ++
      (if s.creditOf (c + 1) = 0 then [] else [(c, s.creditOf (c + 1))]) }

theorem State.takeOver_bctx (s : State) {c : Nat} (hc : c < 127) :
    (s.takeOver c).bctx c = s.bctx (c + 1) ∧ (s.takeOver c).bctx (c + 1) = {} :=
  ⟨(State.bctx_modCtx_other _ (by omega) _).trans (State.bctx_modCtx_same _ (by omega) _),
    State.bctx_modCtx_same _ (by omega) _⟩

theorem State.takeOver_outletDisp (s : State) (c o : Nat) : (s.takeOver c).outletDisp o = s.outletDisp o := rfl

theorem State.rechoose_eq_takeOver {s : State} {c : Nat} (heven : c % 2 = 0) (hup : s.bctx (c + 1) = freshSetup s.time.clock) :
    s.rechoose c = s.takeOver c := by
  simp only [State.rechoose, hup, heven, freshSetup, decide_true, Bool.and_self, if_true]
  simp only [State.takeOver, hup, freshSetup]

/-- A session context enters CLOSING, and its end is told. -/
def State.beginClosing (s : State) (c cause : Nat) : State :=
  (s.modCtx c fun x =>
    { x with st := .closing, endCause := cause, closedAt := s.time.clock, deliver := false, welding := false
             stateF := false, phase := .none, req := (0, 0, 0) }).raise .sessionEnd [c, cause]

/-- A context that closes without a session has no credit left. -/
def State.endClosing (s : State) (c cause : Nat) : State :=
  (s.beginClosing c cause).modCore fun y => { y with credits := y.credits.filter fun z => z.1 ≠ c }

/-- Without a session and without prepayment, a context that closes is FREE at once. -/
theorem State.closeCtx_of_none {s : State} {c : Nat} (cause : Nat) (hnone : s.session c = none)
    (hpre : s.startup.hdr.prepay = false) : s.closeCtx c cause = (s.endClosing c cause).freeCtx c 0 := by
  have hs : (s.beginClosing c cause).session c = none := hnone
  have hp : (s.beginClosing c cause).startup.hdr.prepay = false := hpre
  unfold State.closeCtx
  extract_lets o x w r y
  have hx : x = s.beginClosing c cause := rfl
  clear_value x
  subst hx
  have hr : r = (none, s.beginClosing c cause) := by simp [r, hp]
  rw [hs]
  simp only [y, hr, State.issueChange, State.endClosing]

/-- The upper context has been plugged in at this instant, and no plug-in waits: as the lower one becomes FREE, it takes over what
the upper has begun (R355). -/
theorem State.freeCtx_eq_takeOver {s : State} {c : Nat} (heven : c % 2 = 0) (n : Nat)
    (hup : s.bctx (c + 1) = freshSetup s.time.clock) (hwait : (s.outletDisp (ctxOutlet c)).waiting = false) :
    s.freeCtx c n = ((s.modCtx c fun _ => {}).raise .sessionClosed [c, n]).takeOver c := by
  have hx : ((s.modCtx c fun _ => {}).raise .sessionClosed [(c : Int), (n : Int)]).bctx (c + 1) = freshSetup s.time.clock :=
    (State.bctx_modCtx_other s (by omega) _).trans hup
  unfold State.freeCtx
  rw [State.rechoose_eq_takeOver heven hx]
  dsimp only
  rw [State.takeOver_outletDisp, State.outletDisp_of_barker (State.raise_barker ..), State.outletDisp_modCtx, hwait]
  exact if_neg Bool.false_ne_true

/-- So it is where the lower context closes without a session. -/
theorem State.closeCtx_takenOver {s : State} {c : Nat} (hc : c < 127) (heven : c % 2 = 0) (cause : Nat)
    (hnone : s.session c = none) (hpre : s.startup.hdr.prepay = false)
    (hup : s.bctx (c + 1) = freshSetup s.time.clock) (hwait : (s.outletDisp (ctxOutlet c)).waiting = false) :
    (s.closeCtx c cause).bctx c = freshSetup s.time.clock ∧ (s.closeCtx c cause).bctx (c + 1) = {} := by
  have hup' : (s.endClosing c cause).bctx (c + 1) = freshSetup s.time.clock :=
    (State.bctx_modCtx_other s (by omega) _).trans hup
  rw [State.closeCtx_of_none cause hnone hpre, State.freeCtx_eq_takeOver heven 0 hup' hwait]
  obtain ⟨hlow, hhigh⟩ := State.takeOver_bctx
    (((s.endClosing c cause).modCtx c fun _ => {}).raise .sessionClosed [(c : Int), ((0 : Nat) : Int)]) hc
  exact ⟨hlow.trans ((State.bctx_modCtx_other _ (by omega) _).trans hup'), hhigh⟩

/-- An unplug at outlet 1 with both contexts in SETUP leaves the lower one in SETUP. -/
theorem State.dioPlug_takenOver {s : State} {d : Dio} (hd : d.prox = 0) (h0 : (s.bctx 0).st = .setup)
    (h1 : s.bctx 1 = freshSetup s.time.clock) (hnone : s.session 0 = none) (hpre : s.startup.hdr.prepay = false) :
    ((s.dioPlug 1 d).bctx 0).st = .setup ∧ ((s.dioPlug 1 d).bctx 1).st = .free := by
  let x := s.modDisp 1 fun x => { x with waiting := false }
  have hwait : (x.outletDisp 1).waiting = false := by
    rw [show x.outletDisp 1 = _ from State.outletDisp_modDisp_same s (0 : Fin 64) _]
  obtain ⟨hlow, hhigh⟩ := State.closeCtx_takenOver (s := x) (c := 0) (by decide) rfl 1 hnone hpre h1 hwait
  have hplug : s.dioPlug 1 d = x.closeCtx 0 1 := by
    have hx0 : (x.bctx 0).st = .setup := h0
    have hx1 : (x.closeCtx 0 1).bctx 1 = {} := hhigh
    unfold State.dioPlug
    simp only [hd, decide_true, Bool.true_or, if_true]
    show List.foldl _ x [0, 1] = _
    simp [hx0, hx1, CtxState.running]
  rw [hplug]
  exact ⟨congrArg Ctx.st hlow, congrArg Ctx.st hhigh⟩

/-- A frame with a good TAG from a good source, whose SEQ is new, is accepted for its outlet. -/
theorem State.tunnelIn_of_frame {z : State} {f : Tunnel} {typ o : Nat} (h : FrameFor z f typ o) (htyp : typ ≠ 3)
    (hfresh : (z.outletDisp o).fresh f.seq = true) : z.tunnelIn f typ =
      (some o, (z.tagGood o f).2.modDisp o fun d => { d.accept f.seq with addr := some (f.src, z.time.clock) }) := by
  obtain ⟨hcrc, hmagic, hversion, hframe, hlen, hdir, hdisp, -, -, houtlet, htag, hsource⟩ := h
  have hout : f.outlet = o := houtlet.resolve_left htyp
  have hchg : Chg [.keys, .port] z (z.tagGood o f).2 := by
    unfold State.tagGood
    split
    · split
      · exact State.useKey_chg ..
      · exact Chg.refl _ _
    · exact Chg.refl _ _
  have hb : (z.tagGood o f).2.barker = z.barker := hchg.barker rfl
  have ht : (z.tagGood o f).2.time = z.time := hchg.time rfl
  have hs : (z.tagGood o f).2.sourceGood o f.src = true := by
    rw [← hsource]
    simp only [State.sourceGood, State.outletDisp_of_barker hb, ht]
  have hf : ((z.tagGood o f).2.outletDisp o).fresh f.seq = true := by rw [State.outletDisp_of_barker hb]; exact hfresh
  unfold State.tunnelIn
  simp only [hcrc, hmagic, hversion, hframe, hlen, hdir, hdisp, hout, htag, hs, hf, htyp, ht]
  simp

theorem State.dioKey_of_none {d : Dio} (h : d.key = 0) (s : State) (o : Nat) :
    s.dioKey o d = s.modDisp o fun x => { x with keySeq := some d.keySeq } := by
  simp [State.dioKey, h]

/-- What an accepted DIO without a key brings before its pilot and proximity act. -/
def State.dioSeen (s : State) (o : Nat) (d : Dio) : State :=
  let was : Bool := match (s.outletDisp o).dio with | some x => x.1.linkUp | none => false
  let s := s.modDisp o fun x =>
    { x with dio := some (d, s.time.clock), silent := false
             linkDown := if d.linkUp then false else x.linkDown || was }
  (s.reportTemps o ((s.dispRec o).getD []) d.temps).modDisp o fun x => { x with keySeq := some d.keySeq }

theorem State.takeDio_of_frame {z y : State} {f : Tunnel} {d : Dio} {o : Nat} (hin : z.tunnelIn f 2 = (some o, y))
    (hpay : f.dioPay = some d) (hkey : d.key = 0) :
    z.takeDio f = (ctxsOf o).foldl State.pauseCtx ((y.dioSeen o d).dioPlug o d) := by
  unfold State.takeDio
  rw [hin, hpay]
  simp only [State.dioKey_of_none hkey, State.dioSeen] <;> rfl

theorem State.dioSeen_chg (s : State) (o : Nat) (d : Dio) : Chg [.barker, .thermal] s (s.dioSeen o d) :=
  (((State.modDisp_chg ..).widen rfl).step (State.reportTemps_chg ..) rfl).step (State.modDisp_chg ..) rfl

theorem State.dioSeen_bctx (s : State) (o : Nat) (d : Dio) (c : Nat) : (s.dioSeen o d).bctx c = s.bctx c :=
  (State.bctx_modDisp ..).trans ((State.bctx_of_barker ((State.reportTemps_chg ..).barker rfl) c).trans (State.bctx_modDisp ..))

theorem State.pauseCtx_of_idle {s : State} {c : Nat} (h : (s.bctx c).st = .setup ∨ (s.bctx c).st = .free) : s.pauseCtx c = s := by
  unfold State.pauseCtx
  rcases h with h | h <;> simp [h]

/-- A module in service with an outlet, both of whose contexts are in SETUP, the upper one plugged in at this very instant. -/
def twoPlugged : State :=
  { State.reset with
    startup := { State.reset.startup with
      mode := .service, done := [(.s4, 0)]
      image := [{ typ := 0x0801, payload := [0x02000000], crc := 0 }, { typ := 0x1001, payload := [0x08000000], crc := 0 }] }
    barker := { State.reset.barker with
      ctxs := vput (vput State.reset.barker.ctxs 0 { st := .setup }) 1 { st := .setup } } }

theorem twoPlugged_bctx : (twoPlugged.bctx 0).st = .setup ∧ twoPlugged.bctx 1 = freshSetup 0 := by
  constructor
  · show (vget (vput (vput _ 0 _) 1 _) 0 ({} : Ctx)).st = _
    rw [vget_vput _ _ _ _ _ (by decide), if_neg (by decide), vget_vput _ _ _ _ _ (by decide), if_pos rfl]
  · show vget (vput (vput _ 0 _) 1 _) 1 ({} : Ctx) = _
    rw [vget_vput _ _ _ _ _ (by decide), if_pos rfl]
    rfl

/-- The words of a DIO that tells an unplug at outlet 1, without their CRC. -/
def unplugWords : List W32 := [0x48420102, 0x0001000C, 0, 0, 0, 0, 0x80008000, 0x80008000]

/-- The DIO frame of these words. -/
def unplugFrame : Tunnel :=
  { src := 0, port := 0, extra := 0, tagOk := false, words := unplugWords ++ [crc32c unplugWords] }

/-- Its payload. -/
def unplugDio : Dio := { pilot := 0, prox := 0, linkUp := false, key := 0, keySeq := 0, temps := [none, none, none, none] }

theorem unplugFrame_crcOk : unplugFrame.crcOk = true := by
  simp only [Tunnel.crcOk, unplugFrame, List.getLast?_concat, List.dropLast_concat, decide_true]

theorem unplugFrame_dioPay : unplugFrame.dioPay = some unplugDio := by decide

theorem twoPlugged_frame : FrameFor (twoPlugged.advance 0) unplugFrame 2 1 :=
  ⟨unplugFrame_crcOk, by decide, by decide, by decide, by decide, by decide, by decide, by decide, by decide, .inr (by decide),
    by decide, by decide⟩

/-- Refutes O40: both contexts of outlet 1 are in SETUP, the upper one plugged in at the instant of the unplug. The lower one closes
without a session, is FREE at once and takes over what the upper one has begun, so that it is in SETUP again. -/
theorem not_dispenserInputs : ¬ Obligations.DispenserInputs := by
  unfold Obligations.DispenserInputs
  rintro ⟨-, -, hunplug, -⟩
  let z := twoPlugged.advance 0
  have hfresh : (z.outletDisp 1).fresh unplugFrame.seq = true := by decide
  obtain ⟨u, hexec, hclosed, -⟩ := ((hunplug unplugFrame unplugDio 0).1 twoPlugged z 0 rfl (by decide)).2 (by decide)
    ⟨twoPlugged_frame, hfresh, unplugFrame_dioPay, .inl rfl, rfl⟩
  have hu : u = z.takeDio unplugFrame := by
    refine Host.Outcome.next.inj (hexec.symm.trans ?_)
    rw [← State.submit_alone (s := z) (by decide) (.dio unplugFrame) (·.takeDio unplugFrame)]
    exact congrArg Host.Outcome.next (if_neg (by decide))
  rw [State.takeDio_of_frame (State.tunnelIn_of_frame twoPlugged_frame (by decide) hfresh) unplugFrame_dioPay rfl] at hu
  have htag : z.tagGood 1 unplugFrame = (true, z) := if_neg (by decide)
  rw [htag] at hu
  let y := z.modDisp 1 fun d => { d.accept unplugFrame.seq with addr := some (unplugFrame.src, z.time.clock) }
  let x := y.dioSeen 1 unplugDio
  have hx (c : Nat) : x.bctx c = z.bctx c := (State.dioSeen_bctx ..).trans (State.bctx_modDisp ..)
  have hchg : Chg [.barker, .thermal] z x := ((State.modDisp_chg ..).widen rfl).trans (State.dioSeen_chg ..)
  have hclock : x.time.clock = 0 := by rw [hchg.time rfl]; decide
  obtain ⟨hlow, hhigh⟩ := State.dioPlug_takenOver (s := x) (d := unplugDio) rfl ((congrArg Ctx.st (hx 0)).trans twoPlugged_bctx.1)
    ((hx 1).trans (hclock ▸ twoPlugged_bctx.2)) ((State.session_of_scribe (hchg.scribe rfl) 0).trans rfl)
    (by rw [hchg.startup rfl]; decide)
  have hidle : u = x.dioPlug 1 unplugDio := by
    rw [hu, show ctxsOf 1 = [0, 1] from rfl, List.foldl_cons, List.foldl_cons, List.foldl_nil]
    show ((x.dioPlug 1 unplugDio).pauseCtx 0).pauseCtx 1 = _
    rw [State.pauseCtx_of_idle (.inl hlow), State.pauseCtx_of_idle (.inr hhigh)]
  have hsetup : (u.bctx 0).st = .setup := hidle ▸ hlow
  have h0 := hclosed 0 (by decide)
  rw [hsetup] at h0
  exact absurd h0 (by decide)

end Sys2Proof.Machine
end

section
/-!
Rules about the ring (chapter 15): the pair after the ring is left, taken or judged.
-/
namespace Sys2Proof.Machine
open Sys2Proof Sys2Proof.Config

theorem State.refreshLs_pair (s : State) : s.refreshLs.pair = s.pair := (State.refreshLs_chg s).pair rfl

/-- The pair of a module that has taken the ring. -/
def Pair.taken (p : Pair) (inService : Bool) (now stamp : Nat) : Pair :=
  { p with st := .holder, ringOut := inService, decided := some now, yieldSeen := false, ringLost := false
           takeovers := p.takeovers + 1, takeoverStamp := stamp }

/-- The pair of a module that has lost its partner. -/
def Pair.alone (p : Pair) : Pair := { p with st := .solo, plan := none, partnerResync := false }

@[simp] theorem State.loseStandby_pair (s : State) : s.loseStandby.pair = s.pair.alone := rfl

/-- The ring is taken, before the loss of a standby is judged. -/
def State.ringTaken (s : State) : State :=
  let s := (s.modPair fun p => p.taken (s.startup.mode = .service) s.time.clock s.stamp).modJug fun j =>
    { j with matrix := vmap Matrix.resend j.matrix }
  ({ s with legs := { s.legs with legs := vmap Leg.takeHeld s.legs.legs } } : State).refreshLs

theorem State.takeRing_eq (s : State) :
    s.takeRing = if s.ringTaken.pair.beatLost then s.ringTaken.loseStandby else s.ringTaken := rfl

theorem State.ringTaken_pair (s : State) :
    s.ringTaken.pair = s.pair.taken (s.startup.mode = .service) s.time.clock s.stamp := State.refreshLs_pair _

theorem State.ringTaken_port (s : State) : s.ringTaken.port = s.port := (State.refreshLs_chg _).port rfl

theorem State.ringTaken_juggler (s : State) :
    s.ringTaken.juggler = { s.juggler with matrix := vmap Matrix.resend s.juggler.matrix } := (State.refreshLs_chg _).juggler rfl

/-- With the heartbeat, the module holds the ring with its standby (R594). -/
theorem State.takeRing_of_beat {s : State} (h : s.pair.beatLost = false) : s.takeRing = s.ringTaken := by
  rw [State.takeRing_eq, State.ringTaken_pair]
  exact if_neg (by simp [Pair.taken, h])

/-- Without the heartbeat it has no standby, and runs SOLO. -/
theorem State.takeRing_of_lost {s : State} (h : s.pair.beatLost = true) : s.takeRing = s.ringTaken.loseStandby := by
  rw [State.takeRing_eq, State.ringTaken_pair]
  exact if_pos h

theorem State.judgeRing_standby {s : State} (hlost : s.pair.ringLost = true) (hst : s.pair.st = .standby)
    (h : s.pair.beatLost = true ∨ s.pair.yieldSeen = true ∧ s.pair.degraded = []) : s.judgeRing = s.takeover := by
  simp only [State.judgeRing, hlost, hst]
  rcases h with h | ⟨hy, hd⟩
  · simp [h]
  · simp [hy, hd]

theorem State.judgeRing_stays {s : State} (hst : s.pair.st = .standby) (hbeat : s.pair.beatLost = false)
    (hyield : s.pair.yieldSeen = false) : s.judgeRing = s := by
  simp [State.judgeRing, hst, hbeat, hyield]

theorem State.judgeRing_of_ring {s : State} (h : s.pair.ringLost = false) : s.judgeRing = s := by
  simp [State.judgeRing, h]

theorem State.judgeRing_detached {s : State} (hlost : s.pair.ringLost = true) (hst : s.pair.st = .detached) :
    s.judgeRing = s.coldTakeover := by
  simp [State.judgeRing, hlost, hst]

/-! A cold takeover leaves no pencil of the half-turn, whatever becomes of the sessions (R604). -/

/-- The pencil of a half-turn and its latch have not changed. -/
structure PencilKept (s u : State) : Prop where
  pencil : u.juggler.pencil = s.juggler.pencil
  latch : u.juggler.latch = s.juggler.latch

theorem PencilKept.refl (s : State) : PencilKept s s := ⟨rfl, rfl⟩

theorem PencilKept.trans {a b c : State} (h : PencilKept a b) (k : PencilKept b c) : PencilKept a c :=
  ⟨k.pencil.trans h.pencil, k.latch.trans h.latch⟩

theorem PencilKept.of_chg {L : List Part} {s u : State} (h : Chg L s u) (hL : L.contains .juggler = false) : PencilKept s u :=
  ⟨by rw [h.juggler hL], by rw [h.juggler hL]⟩

theorem PencilKept.foldl {α : Type} (f : State → α → State) (hf : ∀ s x, PencilKept s (f s x)) (l : List α) (s : State) :
    PencilKept s (l.foldl f s) := by
  induction l generalizing s with
  | nil => exact .refl s
  | cons x l ih => exact (hf s x).trans (ih _)

theorem PencilKept.waitAt (s : State) (o : Nat) : PencilKept s (if (s.outletDisp o).waiting then s else
    (s.modDisp o fun d => { d with waiting := true }).raise .plugWait [o]) := by
  split
  · exact .refl s
  · exact ⟨rfl, rfl⟩

theorem PencilKept.plugIn (s : State) (o : Nat) : PencilKept s (s.plugIn o) := by
  unfold State.plugIn
  split
  · exact .refl s
  · split
    · next c _ =>
      split
      · exact .waitAt s o
      · extract_lets x y w
        have hx : PencilKept s x := ⟨rfl, rfl⟩
        have hy : PencilKept x y := by
          unfold y
          split
          · exact .of_chg (State.plugCredit_chg ..) rfl
          · exact .of_chg (State.modTok_chg ..) rfl
        have hw : PencilKept y w := ⟨rfl, rfl⟩
        have hq : PencilKept w (w.notQuiet.raise .plugIn [(o : Int), (c : Int)]) :=
          .of_chg (L := [.update, .port]) (((State.notQuiet_chg w).widen rfl).step (State.raise_chg ..) rfl) rfl
        exact ((hx.trans hy).trans hw).trans hq
    · exact .waitAt s o

theorem PencilKept.freeCtx (s : State) (c n : Nat) : PencilKept s (s.freeCtx c n) := by
  unfold State.freeCtx
  extract_lets x
  have hx : PencilKept s x := .of_chg (L := [.barker, .scribe, .port])
    ((((State.modCtx_chg ..).widen rfl).step (State.raise_chg ..) rfl).step (State.rechoose_chg ..) rfl) rfl
  split
  · exact hx.trans (.plugIn ..)
  · exact hx

theorem PencilKept.closeCtx (s : State) (c cause : Nat) : PencilKept s (s.closeCtx c cause) := by
  unfold State.closeCtx
  extract_lets o x w r y
  have hx : PencilKept s x := ⟨rfl, rfl⟩
  split
  · exact hx.trans (.of_chg (L := [.scribe, .keys, .port, .tokens]) (((State.endPeriod_chg ..).widen rfl).step
      (State.closeSession_chg ..) rfl) rfl)
  · have hr : PencilKept x r.2 := by
      unfold r
      split
      · exact .of_chg (State.returnCredit_chg ..) rfl
      · exact .refl x
    have hy : PencilKept r.2 y := ⟨rfl, rfl⟩
    exact ((hx.trans hr).trans hy).trans ((PencilKept.of_chg (State.issueChange_chg ..) rfl).trans (.freeCtx ..))

/-- A session that no context closes ends with its context in CLOSING. -/
theorem PencilKept.closeLost (s : State) (c cause now : Nat) (x : Session) (wall : Option Nat) (scribe : Nat) :
    PencilKept s ((s.modCtx c fun _ => { st := .closing, endCause := cause, closedAt := now }).closeSession x cause wall scribe) :=
  .of_chg (L := [.barker, .scribe, .keys, .port, .tokens])
    (((State.modCtx_chg ..).widen rfl).step (State.closeSession_chg ..) rfl) rfl

theorem State.coldState_pencil (s : State) : s.coldState.juggler.pencil = none ∧ s.coldState.juggler.latch = none := by
  unfold State.coldState
  extract_lets x y a b w v
  have hw : w.juggler.pencil = none ∧ w.juggler.latch = none := ⟨rfl, rfl⟩
  have hv : PencilKept w v := by
    refine PencilKept.foldl _ (fun s c => ?_) _ _
    dsimp only
    split
    · exact .closeCtx ..
    · exact .refl s
  clear_value v w
  have hu := PencilKept.foldl (fun (s : State) (x : Session) =>
    (s.modCtx x.ctx fun _ => { st := .closing, endCause := 3, closedAt := s.time.clock }).closeSession x 3 s.wallSec
      s.scribe.core.time) (fun s x => .closeLost ..) v.scribe.core.sessions v
  exact ⟨(hu.pencil.trans hv.pencil).trans hw.1, (hu.latch.trans hv.latch).trans hw.2⟩

end Sys2Proof.Machine
end

section
/-!
Proofs of the statements about the ring and its holder (chapter 15).
-/
namespace Sys2Proof.Machine
open Sys2Proof Sys2Proof.Config

/-- The ring is noted as lost. -/
def State.ringGone (s : State) : State := s.modPair fun p => { p with ringLost := true }

@[simp] theorem State.ringGone_pair (s : State) : s.ringGone.pair = { s.pair with ringLost := true } := rfl

/-- RING_LOST in time, on a follower of the ring (R593): with heartbeat and yield missing alike, the wire is told. -/
theorem exec_ringLost_eq {s z : State} {t n : Nat} (hz : z = s.advance t) (hlong : 4 * ticksPerUs < n)
    (hring : z.pair.ringLost = false) (hst : z.pair.st = .standby ∨ z.pair.st = .detached) :
    exec (.ringLost t n) s = .next (State.judgeRing
      (if z.pair.beatLost = false ∧ z.pair.yieldSeen = false ∧ z.pair.st ≠ .detached then z.ringGone.raise .ringWire []
        else z.ringGone)) := by
  show execRingLost t n s = _
  have hlate : ¬ n ≤ 4 * ticksPerUs := Nat.not_le.mpr hlong
  have hwire : (!z.ringGone.pair.beatLost && !z.ringGone.pair.yieldSeen && decide (z.ringGone.pair.st ≠ .detached)) =
      decide (z.pair.beatLost = false ∧ z.pair.yieldSeen = false ∧ z.pair.st ≠ .detached) :=
    Bool.eq_iff_iff.mpr (by simp [and_assoc]; exact fun _ _ => decide_eq_true_iff)
  unfold execRingLost
  rw [← hz]
  dsimp only
  rw [if_neg (by rcases hst with h | h <;> simp [hring, hlate, h])]
  show Host.Outcome.next (State.judgeRing (if (!z.ringGone.pair.beatLost && !z.ringGone.pair.yieldSeen &&
    decide (z.ringGone.pair.st ≠ .detached)) = true then z.ringGone.raise .ringWire [] else z.ringGone)) = _
  rw [hwire]
  simp only [decide_eq_true_eq]

theorem exec_ringLost_noWire {s z : State} {t n : Nat} (hz : z = s.advance t) (hlong : 4 * ticksPerUs < n)
    (hring : z.pair.ringLost = false) (hst : z.pair.st = .standby ∨ z.pair.st = .detached)
    (hknown : z.pair.beatLost = true ∨ z.pair.yieldSeen = true ∨ z.pair.st = .detached) :
    exec (.ringLost t n) s = .next z.ringGone.judgeRing := by
  rw [exec_ringLost_eq hz hlong hring hst, if_neg]
  rintro ⟨hb, hy, hd⟩
  rcases hknown with h | h | h
  · rw [hb] at h; exact Bool.false_ne_true h
  · rw [hy] at h; exact Bool.false_ne_true h
  · exact hd h

/-- The takeover by a standby, without the ring's own event. -/
theorem State.takeover_eq (s : State) :
    s.takeover = (s.raise .takeover [if s.pair.beatLost then 0 else 1]).takeRing := rfl

theorem State.coldTakeover_eq (s : State) : s.coldTakeover =
    ((s.raise .coldTakeover [pairNum s.pair.st]).coldState.takeRing).modPair fun p => { p with cold := true } := rfl

/-- A cold takeover without the heartbeat: SOLO, with RING_OUT in service, and no plan of the half-turn (R604). -/
theorem State.coldTakeover_of_lost {s : State} (h : s.pair.beatLost = true) :
    (∃ stamp, s.coldTakeover.pair =
      { (s.pair.taken (s.startup.mode = .service) s.time.clock stamp).alone with cold := true }) ∧
      s.coldTakeover.juggler.pencil = none ∧ s.coldTakeover.juggler.latch = none := by
  rw [State.coldTakeover_eq]
  have hchg := State.coldState_chg (s.raise .coldTakeover [pairNum s.pair.st])
  obtain ⟨hpencil, hlatch⟩ := State.coldState_pencil (s.raise .coldTakeover [pairNum s.pair.st])
  generalize (s.raise .coldTakeover [pairNum s.pair.st]).coldState = y at *
  have hpair : y.pair = s.pair := hchg.pair rfl
  have hstartup : y.startup = s.startup := hchg.startup rfl
  have htime : y.time = s.time := hchg.time rfl
  rw [State.takeRing_of_lost (hpair ▸ h)]
  simp only [State.modPair_pair, State.modPair_juggler, State.loseStandby_pair, State.ringTaken_pair, hpair, hstartup, htime,
    (State.loseStandby_chg y.ringTaken).juggler rfl, State.ringTaken_juggler]
  exact ⟨⟨_, rfl⟩, hpencil, hlatch⟩

theorem exec_heartbeatLost_eq {s z : State} {t : Nat} {b : Beat × Nat} (hz : z = s.advance t) (hbeat : z.pair.beat = some b)
    (hlate : b.2 + 8 * ticksPerUs < z.time.clock) (hlost : z.pair.beatLost = false)
    (hst : z.pair.st = .holder ∨ z.pair.st = .standby) :
    exec (.heartbeatLost t) s = .next (
      let y := z.modPair fun p => { p with beatLost := true }
      if z.pair.st = .holder then y.loseStandby else y.judgeRing) := by
  show execHeartbeatLost t s = _
  unfold execHeartbeatLost
  rw [← hz]
  have hgone : z.expired b.2 (8 * ticksPerUs) = true := (State.expired_iff ..).mpr hlate
  dsimp only
  rw [if_neg (by rcases hst with h | h <;> simp [hbeat, hgone, hlost, h])]
  rfl

/-- NEW_HOLDER_DRIVE at a stroke boundary late enough (R595, R604). -/
theorem exec_newHolderDrive_eq {s z : State} {t d : Nat} (hz : z = s.advance t) (hdecided : z.pair.decided = some d)
    (hholds : z.holds = true) (hservice : z.startup.mode = .service) (hrunning : z.carousel.running = true)
    (hlead : d + (if z.pair.cold then 0 else 4 * ticksPerUs) ≤ z.carousel.strokeTick + z.time.tick0) :
    exec (.newHolderDrive t) s = .next (z.modPair fun p => { p with driving := true, decided := none, cold := false }) := by
  show execNewHolderDrive t s = _
  unfold execNewHolderDrive
  rw [← hz]
  simp only [hdecided, hholds, hservice, hrunning, hlead, decide_true, Bool.and_self, if_true]

/-- Settles O56: the ring is taken where the ring and the heartbeat are lost or a yield was seen; a holder that loses the heartbeat
runs SOLO; the new holder drives from its stroke boundary on. -/
theorem ringChangesHands : Obligations.RingChangesHands := by
  unfold Obligations.RingChangesHands
  refine ⟨?_, ?_, ?_, ?_, ?_, ?_, ?_, ?_, ?_, ?_, ?_, ?_, ?_⟩
  · intro s z t n hz hlong hst hring hbeat hservice
    have hexec := exec_ringLost_noWire hz hlong hring (.inl hst) (.inl hbeat)
    rw [State.judgeRing_standby (s := z.ringGone) rfl hst (.inl hbeat), State.takeover_eq, State.takeRing_of_lost (by exact hbeat)] at hexec
    refine ⟨_, hexec, ?_, ?_, ?_, ?_, ?_, Only.of_chg (Chg.of_exec (hz ▸ execRingLost_chg t n s) hexec) (by decide)⟩ <;>
      simp [State.ringTaken_pair, Pair.taken, Pair.alone, hservice, State.ringGone]
  · intro s z t n hz hlong hst hring hbeat hyield hfit hservice
    have hexec := exec_ringLost_noWire hz hlong hring (.inl hst) (.inr (.inl hyield))
    rw [State.judgeRing_standby (s := z.ringGone) rfl hst (.inr ⟨hyield, hfit⟩), State.takeover_eq, State.takeRing_of_beat (by exact hbeat)] at hexec
    refine ⟨_, hexec, ?_, ?_, ?_, ?_, Only.of_chg (Chg.of_exec (hz ▸ execRingLost_chg t n s) hexec) (by decide)⟩
    · simp [State.ringTaken_pair, Pair.taken]
    · simp [State.ringTaken_pair, Pair.taken, hservice, State.ringGone]
    · simp [State.ringTaken_pair, Pair.taken, State.ringGone]
    · exact State.lastEv_of_events (congrArg Port.events (State.ringTaken_port _))
  · intro s z t n hz hlong hst hring hbeat hyield
    have hexec := exec_ringLost_eq hz hlong hring (.inl hst)
    have hwire : z.pair.beatLost = false ∧ z.pair.yieldSeen = false ∧ z.pair.st ≠ .detached := ⟨hbeat, hyield, by simp [hst]⟩
    rw [if_pos hwire, State.judgeRing_stays (by simpa using hst) (by simpa using hbeat) (by simpa using hyield)] at hexec
    exact ⟨_, hexec, rfl, rfl, Only.of_chg (((State.modPair_chg ..).widen rfl).step (State.raise_chg ..) rfl :
      Chg [.pair, .port] z _) (by decide)⟩
  · intro s z t n hz hlong hst hring hbeat hservice
    have hexec := exec_ringLost_noWire hz hlong hring (.inr hst) (.inl hbeat)
    rw [State.judgeRing_detached (s := z.ringGone) rfl hst] at hexec
    obtain ⟨⟨stamp, hpair⟩, hpencil, hlatch⟩ := State.coldTakeover_of_lost (s := z.ringGone) hbeat
    exact ⟨_, hexec, congrArg Pair.st hpair, (congrArg Pair.ringOut hpair).trans (decide_eq_true hservice),
      congrArg Pair.cold hpair, congrArg Pair.decided hpair, hpencil, hlatch,
      Only.of_chg (Chg.of_exec (hz ▸ execRingLost_chg t n s) hexec) (by decide)⟩
  · intro s z t n hz hshort
    exact ⟨z, by show execRingLost t n s = _; simp [execRingLost, ← hz, hshort], rfl⟩
  · intro s z t b hz hbeat hlate hlost hst
    have hexec := exec_heartbeatLost_eq hz hbeat hlate hlost (.inl hst)
    rw [if_pos hst] at hexec
    exact ⟨_, hexec, rfl, rfl, rfl, rfl, rfl, Only.of_chg (((State.modPair_chg ..).widen rfl).step (State.loseStandby_chg ..) rfl :
      Chg [.pair, .port] z _) (by decide)⟩
  · intro s z t b hz hbeat hlate hlost hst hring
    have hexec := exec_heartbeatLost_eq hz hbeat hlate hlost (.inr hst)
    rw [if_neg (by simp [hst]), State.judgeRing_of_ring (by exact hring)] at hexec
    exact ⟨_, hexec, rfl, Only.of_chg (State.modPair_chg ..) (by decide)⟩
  · intro s z t b hz hbeat hearly
    have hgone : z.expired b.2 (8 * ticksPerUs) = false := by
      rw [← Bool.not_eq_true, State.expired_iff]; omega
    exact ⟨z, by show execHeartbeatLost t s = _; simp [execHeartbeatLost, ← hz, hbeat, hgone], rfl⟩
  · intro s z t n hz hlong hholds
    have hexec : exec (.ringWatchdogLapse t n) s = .next z.quiet := by
      show execRingWatchdogLapse t n s = _
      simp [execRingWatchdogLapse, ← hz, hlong, hholds]
    exact ⟨_, hexec, State.quiet_pair z, Only.of_chg (State.quiet_chg z) (by decide)⟩
  · intro s z t n hz hshort
    have hnot : ¬ 2 * ticksPerUs < n := Nat.not_lt.mpr hshort
    exact ⟨z, by show execRingWatchdogLapse t n s = _; simp [execRingWatchdogLapse, ← hz, hnot], rfl⟩
  · intro s z t d hz hdecided hholds hservice hrunning hwarm hreached
    have hlead : d + (if z.pair.cold then 0 else 4 * ticksPerUs) ≤ z.carousel.strokeTick + z.time.tick0 := by
      rw [hwarm]; exact hreached
    refine ⟨_, exec_newHolderDrive_eq hz hdecided hholds hservice hrunning hlead, ?_, Only.of_chg (State.modPair_chg z _) (by decide)⟩
    rw [State.modPair_pair, ← hwarm]
  · intro s z t d hz hdecided hholds hservice hrunning hcold hreached
    have hlead : d + (if z.pair.cold then 0 else 4 * ticksPerUs) ≤ z.carousel.strokeTick + z.time.tick0 := by
      rw [hcold]; exact hreached
    exact ⟨_, exec_newHolderDrive_eq hz hdecided hholds hservice hrunning hlead, rfl, Only.of_chg (State.modPair_chg z _) (by decide)⟩
  · intro s z t d hz hdecided hwarm hearly
    have hnot : ¬ d + 4 * ticksPerUs ≤ z.carousel.strokeTick + z.time.tick0 := Nat.not_le.mpr hearly
    refine ⟨z, ?_, rfl⟩
    show execNewHolderDrive t s = _
    simp [execNewHolderDrive, ← hz, hdecided, hwarm, hnot]

end Sys2Proof.Machine
end

section
/-!
Rules about the journal at the standby (chapter 15): what becomes of an entry, a payload and a copy.
-/
namespace Sys2Proof.Machine
open Sys2Proof Sys2Proof.Config

/-- The earliest unmatched copy of an entry's input. -/
def State.copyOf (s : State) (e : JEntry) : Option Nat :=
  s.pair.copies.findIdx? fun (x : InputCopy) => x.source = e.source && x.digest = e.digest

/-- The input an entry brings, or finds among the copies. -/
def State.inputFor (s : State) (m : JPending) : Option JInput :=
  if m.entry.inline_ then m.input.filter fun i => inputSource i = m.entry.source
  else (s.copyOf m.entry).bind fun i => (s.pair.copies[i]?).map (·.input)

/-- The copies once an entry has taken its own. -/
def State.copiesLeft (s : State) (e : JEntry) : List InputCopy :=
  if e.inline_ then s.pair.copies else match s.copyOf e with
    | some i => s.pair.copies.eraseIdx i
    | none => s.pair.copies

/-- An entry has been received and matched; it is not in the journal yet. -/
def State.received (s : State) (e : JEntry) : State :=
  let y := s.modPair fun p => { p with jseq := e.jseq, jcounts := (p.jcounts.1 + 1, p.jcounts.2), copies := s.copiesLeft e }
  if e.source = 2 && s.pair.st = .standby then y.selfTest 11 (s.copyOf e).isSome else y

theorem State.received_pair (s : State) (e : JEntry) : ∃ tests, (e.source ≠ 2 → tests = s.pair.tests) ∧
    (s.received e).pair = { s.pair with
      jseq := e.jseq, jcounts := (s.pair.jcounts.1 + 1, s.pair.jcounts.2), copies := s.copiesLeft e, tests := tests } := by
  unfold State.received
  extract_lets y
  split
  · next h => exact ⟨_, fun hne => absurd (by simpa using h : _ ∧ _).1 hne, rfl⟩
  · exact ⟨s.pair.tests, fun _ => rfl, rfl⟩

theorem State.received_chg (s : State) (e : JEntry) : Chg [.pair] s (s.received e) := by
  unfold State.received
  extract_lets y
  have hy : Chg [.pair] s y := State.modPair_chg ..
  split
  · exact hy.trans (State.selfTest_chg ..)
  · exact hy

theorem State.received_stamp (s : State) (e : JEntry) : (s.received e).stamp = s.stamp := by
  simp only [State.stamp, (s.received_chg e).carousel rfl]

/-- An entry that is not a stroke record reaches a follower: late at a standby, or kept with its input. -/
theorem exec_journalEntry_eq {s z : State} {t : Nat} {m : JPending} (hz : z = s.advance t)
    (hst : z.pair.st = .standby ∨ z.pair.st = .resync) (hsource : m.entry.source ≠ 10) :
    exec (.journalEntryReceived t m) s = .next (
      if m.entry.effect < z.stamp ∧ z.pair.st = .standby then (z.received m.entry).countLate.outOfStep 0 m.entry.jseq
      else (z.received m.entry).modPair fun p =>
        { p with journal := p.journal ++ [{ entry := m.entry, input := z.inputFor m }] }) := by
  show execJournalEntryReceived t m s = _
  unfold execJournalEntryReceived
  rw [← hz]
  extract_lets y e a hit held b c
  have hb : b = z.modPair fun p =>
      { p with jseq := e.jseq, jcounts := (p.jcounts.1 + 1, p.jcounts.2), copies := z.copiesLeft e } := by
    have hleft : z.copiesLeft e = if e.inline_ then z.pair.copies else match hit with
      | some i => z.pair.copies.eraseIdx i
      | none => z.pair.copies := rfl
    rw [hleft]
    unfold b
    cases e.inline_ <;> cases hit <;> rfl
  have hc : c = z.received e := by
    unfold c State.received
    rw [hb]
    simp only [Bool.and_eq_true, decide_eq_true_eq] <;> rfl
  have hheld : held = z.inputFor m := rfl
  have hcst : c.pair.st = z.pair.st := by
    obtain ⟨tests, -, hpair⟩ := z.received_pair e
    rw [hc, hpair]
  have hstamp : c.stamp = z.stamp := hc ▸ z.received_stamp e
  rw [if_neg (by rcases hst with h | h <;> simp [y, h]), if_neg hsource, hstamp, hcst, hheld, hc]
  simp only [Bool.and_eq_true, decide_eq_true_eq] <;> rfl

/-! The entry of a follower whose EFFECT stamp has not passed. -/

theorem exec_journalEntry_kept {s z : State} {t : Nat} {m : JPending} (hz : z = s.advance t)
    (hst : z.pair.st = .standby ∨ z.pair.st = .resync) (hsource : m.entry.source ≠ 10)
    (htime : z.stamp ≤ m.entry.effect ∨ z.pair.st = .resync) :
    exec (.journalEntryReceived t m) s = .next ((z.received m.entry).modPair fun p =>
      { p with journal := p.journal ++ [{ entry := m.entry, input := z.inputFor m }] }) := by
  rw [exec_journalEntry_eq hz hst hsource, if_neg]
  rintro ⟨hlate, hstandby⟩
  rcases htime with h | h
  · omega
  · rw [hstandby] at h
    cases h

theorem State.received_journal_chg (s : State) (e : JEntry) (f : Pair → Pair) : Chg [.pair] s ((s.received e).modPair f) :=
  (s.received_chg e).trans (State.modPair_chg ..)

/-- A standby out of step is in RESYNC, its journal and its copies empty, its drivers quiet. -/
structure FellOut (p u : Pair) : Prop where
  st : u.st = .resync
  journal : u.journal = []
  copies : u.copies = []
  driving : u.driving = false
  jcounts : u.jcounts = p.jcounts

theorem FellOut.of_standby {s : State} (hst : s.pair.st = .standby) (cause jseq : Nat) :
    FellOut s.pair (s.outOfStep cause jseq).pair := by
  obtain ⟨causes, hpair⟩ := State.outOfStep_pair hst cause jseq
  rw [hpair]
  exact ⟨rfl, rfl, rfl, rfl, rfl⟩

theorem State.missEntry_fellOut {s : State} (hst : s.pair.st = .standby) (jseq : Nat) :
    FellOut s.countLate.pair (s.missEntry jseq).pair := by
  rw [State.missEntry, if_pos hst]
  exact .of_standby (s := s.countLate) hst 0 jseq


end Sys2Proof.Machine
end

section
/-!
Proofs of the statements about the journal and the links of the pair (chapter 15).
-/
namespace Sys2Proof.Machine
open Sys2Proof Sys2Proof.Config

/-- A payload has come for an entry that lacked it. -/
def State.fetched (s : State) (m : JPayload) (x : JPending) : State :=
  s.modPair fun p =>
    { p with
      jcounts := (p.jcounts.1, p.jcounts.2.1 + 1, p.jcounts.2.2)
      journal := p.journal.map fun y => if y.entry.jseq = m.jseq then { y with input := some m.input } else y
      canFetches := if x.entry.source = 2 then s.time.clock :: p.canFetches.filter (fun z => s.time.clock < z + ticksPerSec)
        else p.canFetches }

/-- PAYLOAD_FETCH of the one entry that lacks its payload, at a standby. -/
theorem exec_payloadFetch_eq {s z : State} {t : Nat} {m : JPayload} {x : JPending} (hz : z = s.advance t)
    (hst : z.pair.st = .standby) (hone : z.pair.journal = [x]) (hjseq : x.entry.jseq = m.jseq) (hnone : x.input = none)
    (hsource : inputSource m.input = x.entry.source) :
    exec (.payloadFetch t m) s = .next (
      let y := if 16 ≤ (z.fetched m x).pair.canFetches.length then (z.fetched m x).degrade 7 else z.fetched m x
      if x.entry.effect < y.stamp && y.pair.st = .standby then (y.countLate.dropEntry m.jseq).outOfStep 0 m.jseq else y) := by
  show execPayloadFetch t m s = _
  have hfind : z.pair.journal.find? (fun x => x.entry.jseq = m.jseq && x.input.isNone) = some x := by
    simp [hone, hjseq, hnone]
  unfold execPayloadFetch
  rw [← hz]
  dsimp only
  rw [hfind]
  dsimp only
  rw [if_neg (by simp [hst, hsource])]
  rfl

/-- A payload that makes a standby DEGRADED leaves it a standby. -/
theorem State.fetched_degraded (z : State) (m : JPayload) (x : JPending) (hst : z.pair.st = .standby) :
    let y := if 16 ≤ (z.fetched m x).pair.canFetches.length then (z.fetched m x).degrade 7 else z.fetched m x
    y.pair.st = .standby ∧ y.stamp = z.stamp := by
  intro y
  have hfetched : (z.fetched m x).pair.st = .standby := hst
  unfold y
  split
  · obtain ⟨causes, hpair⟩ := State.degrade_pair_of_not_holder (s := z.fetched m x) (by simp [hfetched]) 7
    rw [hpair]
    refine ⟨hfetched, ?_⟩
    simp only [State.stamp, (State.degrade_chg (z.fetched m x) 7).carousel rfl]
    rfl
  · exact ⟨hfetched, rfl⟩

theorem State.popEntry_pair (s : State) (q : Nat) :
    (s.popEntry q).pair = { s.pair with journal := s.pair.journal.tail, applied := some q } := rfl

/-- JOURNAL_EFFECT with an entry at the head of the journal. -/
theorem exec_journalEffect_cons {s z : State} {t q : Nat} {x : JPending} {l : List JPending} (hz : z = s.advance t)
    (hhead : z.pair.journal = x :: l) : exec (.journalEffect t q) s = .next (
      if z.followsOn x.entry.jseq = false ∧ z.pair.st = .standby then
        if q < x.entry.jseq ∨ x.entry.effect ≤ z.stamp then z.missEntry q else z
      else if x.entry.jseq = q ∧ x.entry.effect ≤ z.stamp then z.applyEntry x
      else z) := by
  show execJournalEffect t q s = _
  unfold execJournalEffect
  rw [← hz]
  simp only [hhead, Bool.and_eq_true, Bool.not_eq_true', decide_eq_true_eq, Bool.or_eq_true]

/-- The head of the journal whose EFFECT stamp has come, in its order. -/
theorem exec_journalEffect_due {s z : State} {t : Nat} {x : JPending} {l : List JPending} (hz : z = s.advance t)
    (hhead : z.pair.journal = x :: l) (hdue : x.entry.effect ≤ z.stamp)
    (hnext : z.followsOn x.entry.jseq = true ∨ z.pair.st ≠ .standby) :
    exec (.journalEffect t x.entry.jseq) s = .next (z.applyEntry x) := by
  rw [exec_journalEffect_cons hz hhead, if_neg, if_pos ⟨rfl, hdue⟩]
  rintro ⟨hf, hst⟩
  rcases hnext with h | h
  · rw [h] at hf; cases hf
  · exact h hst

/-- A link of the pair has changed its state, and it is told. -/
def State.linkTold (s : State) (k : Fin 2) (up : Bool) : State :=
  (s.modPair fun p => { p with links := vmod p.links k fun l =>
    { l with up, errors := if up then l.errors else l.errors + 1 } }).raise .linkState [k.val, ofBool up]

@[simp] theorem State.linkTold_pair (s : State) (k : Fin 2) (up : Bool) : (s.linkTold k up).pair = { s.pair with
    links := vmod s.pair.links k fun l => { l with up, errors := if up then l.errors else l.errors + 1 } } := rfl

theorem State.linkTold_chg (s : State) (k : Fin 2) (up : Bool) : Chg [.pair, .port] s (s.linkTold k up) :=
  ((State.modPair_chg ..).widen rfl).step (State.raise_chg ..) rfl

/-- No link in use is up. -/
def State.noLink (s : State) : Bool := (List.range 2).all fun k => !(s.tzEn k && (vget s.pair.links k {}).up)

/-- LINK_STATE of a link in use that changes. -/
theorem exec_linkState_eq {s z : State} {t : Nat} {k : Fin 2} {up : Bool} (hz : z = s.advance t) (hen : z.tzEn k.val = true)
    (hup : z.pair.links[k].up = !up) : exec (.linkState t k up) s = .next (
      let y := z.linkTold k up
      if y.noLink && (z.pair.st = .standby || z.pair.st = .resync) then
        y.modPair fun p => { p with st := .detached, journal := [], copies := [], applied := none, plan := none, diverge := none }
      else if up && z.pair.st = .detached then y.enterResync
      else y) := by
  show execLinkState t k up s = _
  unfold execLinkState
  rw [← hz]
  dsimp only
  rw [if_neg (by rw [hup]; simp [hen])]
  rfl

theorem State.linkTold_other (s : State) {k m : Fin 2} (h : m ≠ k) (up : Bool) :
    (s.linkTold k up).pair.links[m] = s.pair.links[m] := vmod_other _ h _

/-- The last link in use is lost. -/
theorem State.linkTold_noLink {s : State} {k : Fin 2} (h : ∀ m : Fin 2, m ≠ k → s.tzEn m.val = false ∨ s.pair.links[m].up = false) :
    (s.linkTold k false).noLink = true := by
  have hlink (m : Fin 2) : (!(s.tzEn m.val && ((s.linkTold k false).pair.links[m]).up)) = true := by
    by_cases hm : m = k
    · subst hm
      rw [State.linkTold_pair, vmod_same]
      simp
    · rw [State.linkTold_other s hm]
      rcases h m hm with h | h
      · simp [h]
      · rw [h, Bool.and_false, Bool.not_false]
  have hget (m : Fin 2) : vget (s.linkTold k false).pair.links m.val {} = (s.linkTold k false).pair.links[m] :=
    vget_of_lt _ _ _ m.isLt
  have h0 := hlink 0
  have h1 := hlink 1
  rw [← hget] at h0 h1
  show (List.range 2).all (fun j => !((s.linkTold k false).tzEn j && (vget (s.linkTold k false).pair.links j {}).up)) = true
  rw [show List.range 2 = [0, 1] from rfl]
  simp only [List.all_cons, List.all_nil, Bool.and_true, Bool.and_eq_true]
  exact ⟨h0, h1⟩

/-- The Carousel's error to the holder has been measured (R589). -/
def State.alignedTo (s : State) (delayNs : Nat) (errNs : Int) : State :=
  s.modPair fun p =>
    { p with align := if p.st = .holder then p.align else errNs
             misFrom := if p.st = .holder || errNs.natAbs ≤ 50 then none else some (p.misFrom.getD s.carousel.phase)
             links := vmap (fun (l : TzLink) => if l.up then { l with delay := delayNs } else l) p.links }

/-- A heartbeat of the partner has been received (R591). -/
def State.beatSeen (s : State) (b : Beat) : State :=
  (s.modPair fun p =>
    { p with beat := some (b, s.time.clock), beatLost := false, partnerResync := b.state = .resync }).selfTest 7 true

/-- PAIR_HEARTBEAT on a link in use: one sent. -/
theorem exec_pairHeartbeat_sent {s z : State} {t : Nat} {k : Fin 2} (hz : z = s.advance t) (hst : z.pair.st = .holder)
    (hen : z.tzEn k.val = true) : exec (.pairHeartbeat t k none) s = .next (z.modPair fun p =>
      { p with links := vmod p.links k fun l => { l with sent := l.sent + 1, lastBeat := some z.ownBeat } }) := by
  show execPairHeartbeat t k none s = _
  unfold execPairHeartbeat
  rw [← hz]
  exact congrArg Host.Outcome.next (if_neg (by simp [hst, hen]))

/-- One received. -/
theorem exec_pairHeartbeat_received {s z : State} {t : Nat} {k : Fin 2} (b : Beat) (hz : z = s.advance t)
    (hst : z.pair.st = .holder) (hen : z.tzEn k.val = true) : exec (.pairHeartbeat t k (some b)) s = .next
      (((z.beatSeen b).modSafety fun x => { x with pausePartner := b.pause }).react).pauseScan := by
  show execPairHeartbeat t k (some b) s = _
  unfold execPairHeartbeat
  rw [← hz]
  exact congrArg Host.Outcome.next (if_neg (by simp [hst, hen]))

/-- The pair state and what the partner's last heartbeat told have not changed. -/
structure BeatKept (s u : State) : Prop where
  st : u.pair.st = s.pair.st
  beat : u.pair.beat = s.pair.beat
  beatLost : u.pair.beatLost = s.pair.beatLost
  partnerResync : u.pair.partnerResync = s.pair.partnerResync

theorem BeatKept.of_pair {s u : State} (h : u.pair = s.pair) : BeatKept s u := ⟨by rw [h], by rw [h], by rw [h], by rw [h]⟩

theorem BeatKept.submit (s : State) (j : JInput) {f : State → State} (hf : BeatKept s (f s)) : BeatKept s (s.submit j f) := by
  unfold State.submit
  split
  case h_1 | h_2 => exact ⟨rfl, rfl, rfl, rfl⟩
  case h_3 | h_4 => split <;> exact ⟨rfl, rfl, rfl, rfl⟩
  case h_5 | h_6 | h_7 => exact hf

theorem BeatKept.react (s : State) : BeatKept s s.react := by
  unfold State.react
  extract_lets x want
  have hx : BeatKept s x := .of_pair rfl
  split
  · exact hx
  · have hsub := BeatKept.submit (x.modSafety fun y => { y with legsOwn := want }) (.legsOff .own want)
      (f := (·.takeLegsOff .own want)) (.of_pair ((State.takeLegsOff_chg ..).pair rfl))
    exact ⟨hsub.st.trans hx.st, hsub.beat.trans hx.beat, hsub.beatLost.trans hx.beatLost, hsub.partnerResync.trans hx.partnerResync⟩

theorem State.copyOf_none {s : State} {e : JEntry} (h : ∀ x ∈ s.pair.copies, ¬(x.source = e.source ∧ x.digest = e.digest)) :
    s.copyOf e = none := by
  rw [State.copyOf, List.findIdx?_eq_none_iff]
  intro x hx
  simpa using h x hx

theorem State.copyOf_head {s : State} {e : JEntry} {x : InputCopy} {l : List InputCopy} (h : s.pair.copies = x :: l)
    (hs : x.source = e.source) (hd : x.digest = e.digest) : s.copyOf e = some 0 := by
  rw [State.copyOf, h, List.findIdx?_cons, if_pos (by simp [hs, hd])]

/-- Settles O55: an entry waits for its EFFECT stamp with its input, one that is late or missing puts the standby out of step, and
the links tell their state. -/
theorem journalAndLinks : Obligations.JournalAndLinks := by
  unfold Obligations.JournalAndLinks
  refine ⟨?_, ?_, ?_, ?_, ?_, ?_, ?_, ?_, ?_, ?_, ?_, ?_, ?_, ?_, ?_, ?_, ?_, ?_, ?_, ?_, ?_, ?_, ?_, ?_⟩
  · intro s z t e i hz hst hinl hsource h2 h10 htime
    have hexec := exec_journalEntry_kept (t := t) (m := { entry := e, input := some i }) hz (.inl hst) h10 (.inl htime)
    obtain ⟨tests, htests, hpair⟩ := z.received_pair e
    refine ⟨_, hexec, ?_, Only.of_chg (z.received_journal_chg e _) (by decide)⟩
    rw [State.modPair_pair, hpair, htests h2]
    simp [State.copiesLeft, State.inputFor, hinl, hsource]
  · intro s z t e i x l hz hst hinl h10 hcopies hs hd htime
    have hexec := exec_journalEntry_kept (t := t) (m := { entry := e, input := i }) hz (.inl hst) h10 (.inl htime)
    obtain ⟨tests, -, hpair⟩ := z.received_pair e
    have hcopy : z.copyOf e = some 0 := State.copyOf_head hcopies hs hd
    refine ⟨_, hexec, ?_, ?_, ?_, ?_, Only.of_chg (z.received_journal_chg e _) (by decide)⟩ <;> rw [State.modPair_pair, hpair]
    · simp [State.inputFor, hinl, hcopy, hcopies]
    · simp [State.copiesLeft, hinl, hcopy, hcopies]
    · exact hst
  · intro s z t e i hz hst hinl h10 htime hnone
    have hexec := exec_journalEntry_kept (t := t) (m := { entry := e, input := i }) hz (.inl hst) h10 (.inl htime)
    obtain ⟨tests, -, hpair⟩ := z.received_pair e
    have hcopy : z.copyOf e = none := State.copyOf_none hnone
    refine ⟨_, hexec, ?_, ?_, ?_, Only.of_chg (z.received_journal_chg e _) (by decide)⟩ <;> rw [State.modPair_pair, hpair]
    · simp [State.inputFor, hinl, hcopy]
    · simp [State.copiesLeft, hinl, hcopy]
    · exact hst
  · intro s z t e i hz hst h10 hlate
    have hexec := exec_journalEntry_eq (t := t) (m := { entry := e, input := i }) hz (.inl hst) h10
    rw [if_pos ⟨hlate, hst⟩] at hexec
    obtain ⟨tests, -, hpair⟩ := z.received_pair e
    have hout := FellOut.of_standby (s := (z.received e).countLate) (by show (z.received e).pair.st = _; rw [hpair]; exact hst) 0 e.jseq
    refine ⟨_, hexec, hout.st, hout.journal, hout.driving, ?_,
      Only.of_chg (Chg.of_exec (hz ▸ execJournalEntryReceived_chg t _ s) hexec) (by decide)⟩
    rw [hout.jcounts]
    show (z.received e).pair.jcounts.2.2.1 + 1 = _
    rw [hpair]
  · intro s z t e i hz hst hinl hsource h10
    have hexec := exec_journalEntry_kept (t := t) (m := { entry := e, input := i }) hz (.inr hst) h10 (.inr hst)
    obtain ⟨tests, -, hpair⟩ := z.received_pair e
    refine ⟨_, hexec, ?_, ?_, Only.of_chg (z.received_journal_chg e _) (by decide)⟩ <;> rw [State.modPair_pair, hpair]
    · exact hst
    · cases i with
      | none => simp [State.inputFor, hinl]
      | some i => simp [State.inputFor, hinl, hsource i rfl]
  · intro s z t e i hz hstandby hresync
    refine ⟨z, ?_, rfl⟩
    show execJournalEntryReceived t _ s = _
    simp [execJournalEntryReceived, ← hz, hstandby, hresync]
  · intro s z t q i x hz hst hone hjseq hnone hsource h2 hfew htime
    have hexec := exec_payloadFetch_eq (t := t) (m := { jseq := q, input := i }) hz hst hone hjseq hnone hsource
    have hfetches : (z.fetched { jseq := q, input := i } x).pair.canFetches = z.pair.canFetches := if_neg h2
    have hstamp : ¬ x.entry.effect < (z.fetched { jseq := q, input := i } x).stamp := Nat.not_lt.mpr htime
    dsimp only at hexec
    rw [hfetches, if_neg (Nat.not_le.mpr hfew), if_neg (by simp [hstamp])] at hexec
    refine ⟨_, hexec, ?_, hst, rfl, Only.of_chg (State.modPair_chg z _) (by decide)⟩
    simp [State.fetched, hone, hjseq]
  · intro s z t q i x hz hst hone hjseq hnone hsource hlate
    have hexec := exec_payloadFetch_eq (t := t) (m := { jseq := q, input := i }) hz hst hone hjseq hnone hsource
    dsimp only at hexec
    obtain ⟨hyst, hystamp⟩ := z.fetched_degraded { jseq := q, input := i } x hst
    rw [if_pos (by rw [hystamp, hyst]; simpa using hlate)] at hexec
    have hout := FellOut.of_standby (s := State.dropEntry (State.countLate _) q) hyst 0 q
    exact ⟨_, hexec, hout.st, hout.journal, Only.of_chg (Chg.of_exec (hz ▸ execPayloadFetch_chg t _ s) hexec) (by decide)⟩
  · intro s z t src dg x hz hcopies hs hd hold
    have hexec : exec (.unmatchedCopyDiscard t src dg) s = .next (z.modPair fun p => { p with
        copies := p.copies.eraseIdx 0
        jcounts := (p.jcounts.1, p.jcounts.2.1, p.jcounts.2.2.1, p.jcounts.2.2.2 + 1) }) := by
      show execUnmatchedCopyDiscard t src dg s = _
      simp [execUnmatchedCopyDiscard, ← hz, hcopies, hs, hd, hold]
    exact ⟨_, hexec, by simp [hcopies], rfl, rfl, Only.of_chg (State.modPair_chg z _) (by decide)⟩
  · intro s z t r hz hst hall
    have hnone : r.committed.any z.commitMissed = false := by
      rw [List.any_eq_false]
      intro x hx
      simp [State.commitMissed, hall x hx]
    have hexec : exec (.strokeRecord t r) s = .next ((r.laws.foldl (fun s x => s.releaseRecorded r.stroke x)
        (z.placeWords r.words)).modPair fun p => { p with strokeRec := r.stroke }) := by
      show execStrokeRecord t r s = _
      simp [execStrokeRecord, ← hz, hst, hnone]
    have hlaws := Chg.foldl (L := [.array, .laws, .buses]) (fun s x => State.releaseRecorded s r.stroke x) r.laws
      (Chg.refl _ (z.placeWords r.words)) fun s x => State.releaseRecorded_chg s r.stroke x
    refine ⟨_, hexec, ?_, ?_, ?_, Only.of_chg (Chg.of_exec (hz ▸ execStrokeRecord_chg t r s) hexec) (by decide)⟩
    · rw [State.modPair_pair, hlaws.pair rfl, (State.placeWords_chg z r.words).pair rfl]
    · rw [State.modPair_legs, hlaws.legs rfl]
    · intro hempty
      rw [hempty]
      exact Only.of_chg (((State.placeWords_chg z r.words).widen rfl).step (State.modPair_chg ..) rfl : Chg [.legs, .pair] z _)
        (by decide)
  · intro s z t r x hz hst hx hmissing hjobs
    have hmissed : z.commitMissed x = true := by
      have hfind : z.array.jobs.find? (fun j => j.law = x.1.val && j.seq = x.2) = none := by
        rw [List.find?_eq_none]
        intro j hj
        simpa using hjobs j hj
      simp [State.commitMissed, hmissing, hfind]
    have hexec : exec (.strokeRecord t r) s = .next (z.outOfStep 1 z.pair.jseq) := by
      show execStrokeRecord t r s = _
      simp only [execStrokeRecord, ← hz, hst, List.any_eq_true.mpr ⟨x, hx, hmissed⟩, ne_eq, not_true_eq_false, if_false, if_true]
    have hout := FellOut.of_standby hst 1 z.pair.jseq
    exact ⟨_, hexec, hout.st, hout.journal, hout.copies, Only.of_chg (State.outOfStep_chg ..) (by decide)⟩
  · intro s z t x l i hz hhead hinput hdue hst hnext
    have hexec := exec_journalEffect_due (t := t) hz hhead hdue (by
      by_cases h : z.pair.st = .standby
      · exact .inl (hnext h)
      · exact .inr h)
    have hpopped := State.popEntry_pair z.settleHolds x.entry.jseq
    refine ⟨_, hexec, ?_, ?_, ?_⟩
    · rw [State.popped, hpopped, (State.settleHolds_chg z).pair rfl, hhead, List.tail_cons]
    · rw [State.popped, hpopped]
    · simp only [State.applyEntry, if_neg hst, hinput, State.popped]
  · intro s z t x l hz hhead hearly hnext
    have hexec := exec_journalEffect_cons (t := t) (q := x.entry.jseq) hz hhead
    rw [if_neg (by simp [hnext]), if_neg (by omega)] at hexec
    exact ⟨z, hexec, rfl⟩
  · intro s z t x l hz hhead hnone htime hst hnext
    have hexec := exec_journalEffect_due (t := t) hz hhead htime.le (.inl hnext)
    refine ⟨z, hexec.trans ?_, rfl⟩
    simp [State.applyEntry, hst, hnone, htime.ge]
  · intro s z t x l hz hhead hnone hlate hst hnext
    have hexec := exec_journalEffect_due (t := t) hz hhead hlate.le (.inl hnext)
    have happly : z.applyEntry x = (z.popEntry x.entry.jseq).missEntry x.entry.jseq := by
      simp [State.applyEntry, hst, hnone, Nat.not_le.mpr hlate]
    rw [happly] at hexec
    have hout := State.missEntry_fellOut (s := z.popEntry x.entry.jseq) hst x.entry.jseq
    exact ⟨_, hexec, hout.st, hout.journal, congrArg (·.2.2.1) hout.jcounts, Only.of_chg
      (((State.modPair_chg z _).widen rfl).trans (State.missEntry_chg ..)) (by decide)⟩
  · intro s z t q a x l hz hst hhead happlied hgap hdue
    have hexec := exec_journalEffect_cons (t := t) (q := q) hz hhead
    have hnot : z.followsOn x.entry.jseq = false := by
      simp only [State.followsOn, happlied, hgap, decide_false]
    rw [if_pos ⟨hnot, hst⟩, if_pos hdue] at hexec
    have hout := State.missEntry_fellOut hst q
    exact ⟨_, hexec, hout.st, hout.journal, hout.copies, Only.of_chg (State.missEntry_chg z q) (by decide)⟩
  · intro s z t q a hz hst hempty happlied hq
    have hexec : exec (.journalEffect t q) s = .next (z.missEntry q) := by
      show execJournalEffect t q s = _
      simp [execJournalEffect, ← hz, hempty, State.followsOn, happlied, hq]
    have hout := State.missEntry_fellOut hst q
    exact ⟨_, hexec, hout.st, congrArg (·.2.2.1) hout.jcounts, Only.of_chg (State.missEntry_chg z q) (by decide)⟩
  · intro s z t x l hz hst hhead hdue
    have hexec := exec_journalEffect_due (t := t) hz hhead hdue (.inr (by simp [hst]))
    rw [State.applyEntry, if_pos hst] at hexec
    refine ⟨_, hexec, ?_, Only.of_chg (State.modPair_chg z _) (by decide)⟩
    simp [State.popEntry, hhead]
  · intro s z t d e hz hst
    have hnot : ¬ z.pair.st = .holder := by simp [hst]
    have hexec : exec (.carouselAlignment t d e) s = .next (z.alignedTo d e) := by
      show execCarouselAlignment t d e s = _
      unfold execCarouselAlignment
      rw [← hz]
      exact congrArg Host.Outcome.next (if_pos (by simp [hst]))
    refine ⟨_, hexec, if_neg hnot, hst, rfl, ?_, fun k => ?_, Only.of_chg (State.modPair_chg z _) (by decide)⟩
    · show (if z.pair.st = .holder || e.natAbs ≤ 50 then none else _) = _
      simp only [hnot, decide_false, Bool.false_or, decide_eq_true_eq]
    · show (vmap _ z.pair.links)[k.val].delay = if (z.pair.links[k.val]).up then d else (z.pair.links[k.val]).delay
      rw [vmap_get]
      split <;> rfl
  · intro s z t k hz hst hen
    have hexec := exec_pairHeartbeat_sent (t := t) hz hst hen
    refine ⟨_, hexec, ?_, ?_, rfl, Only.of_chg (State.modPair_chg z _) (by decide)⟩
    · exact congrArg TzLink.sent (vmod_same z.pair.links k _)
    · exact congrArg TzLink.lastBeat (vmod_same z.pair.links k _)
  · intro s z t k b hz hst hen
    have hexec := exec_pairHeartbeat_received (t := t) b hz hst hen
    have hchg := Chg.of_exec (execPairHeartbeat_chg t k (some b) s) hexec
    rw [← hz] at hchg
    let y := ((z.beatSeen b).modSafety fun x => { x with pausePartner := b.pause })
    have hscan := State.pauseScan_chg y.react
    have hkept := BeatKept.react y
    have hyst : y.pair.st = .holder := hst
    obtain ⟨o, l, hsafety⟩ := y.react_safety
    refine ⟨_, hexec, ?_, ?_, ?_, ?_, ?_, Only.of_chg hchg (by decide)⟩
    · rw [hscan.pair rfl, hkept.beat]; rfl
    · rw [hscan.pair rfl, hkept.beatLost]; rfl
    · rw [hscan.pair rfl, hkept.partnerResync]; rfl
    · rw [hscan.pair rfl, hkept.st, hyst]
    · rw [hscan.safety rfl, hsafety]
      rfl
  · intro s z t k hz hen hup hst hlast
    have hexec := exec_linkState_eq (t := t) (up := false) hz hen (by simpa using hup)
    dsimp only at hexec
    rw [if_pos (by rw [State.linkTold_noLink hlast]; simpa using hst)] at hexec
    refine ⟨_, hexec, rfl, ?_, ?_, rfl, rfl, Only.of_chg (Chg.of_exec (hz ▸ execLinkState_chg t k _ s) hexec) (by decide)⟩
    · exact congrArg TzLink.up (vmod_same z.pair.links k _)
    · exact congrArg TzLink.errors (vmod_same z.pair.links k _)
  · intro s z t k hz hen hup hst
    have hexec := exec_linkState_eq (t := t) (up := true) hz hen (by simpa using hup)
    dsimp only at hexec
    rw [if_neg (by simp [hst]), if_neg (by simp [hst])] at hexec
    refine ⟨_, hexec, hst, ?_, ?_, rfl, Only.of_chg (z.linkTold_chg k true) (by decide)⟩ <;>
      rw [State.linkTold_pair, vmod_same]
    rfl
  · intro s z t k hz hen hup hst
    have hexec := exec_linkState_eq (t := t) (up := true) hz hen (by simpa using hup)
    dsimp only at hexec
    rw [if_neg (by simp [hst]), if_pos (by simp [hst])] at hexec
    obtain ⟨causes, hpair⟩ := State.enterResync_pair (z.linkTold k true)
    refine ⟨_, hexec, ?_, ?_, ?_, ?_, Only.of_chg (Chg.of_exec (hz ▸ execLinkState_chg t k _ s) hexec) (by decide)⟩ <;> rw [hpair]
    · rfl
    · exact congrArg TzLink.up (vmod_same z.pair.links k _)
    · rfl
    · rfl

end Sys2Proof.Machine
end

section
/-!
Rules about metering periods (chapter 10): which operations leave the energy of an outlet, and what the end of a period adds to it.
-/
namespace Sys2Proof.Machine
open Sys2Proof Sys2Proof.Config

theorem State.regs_modRegs_same (s : State) (o : OutletNo) (f : Regs → Regs) :
    (s.modRegs (o.val + 1) f).regs (o.val + 1) = f (s.regs (o.val + 1)) := by
  show vget (vmapIdx _ _) o.val ({} : Regs) = _
  rw [vget_vmapIdx _ _ _ _ o.isLt, if_pos rfl]
  rfl

theorem State.regs_modRegs (s : State) (o : OutletNo) (n : Nat) (f : Regs → Regs) :
    (s.modRegs n f).regs (o.val + 1) = if o.val + 1 = n then f (s.regs (o.val + 1)) else s.regs (o.val + 1) := by
  show vget (vmapIdx _ _) o.val ({} : Regs) = _
  rw [vget_vmapIdx _ _ _ _ o.isLt]
  rfl

/-! What decides the period of one outlet. -/

/-- The registers and samples of an outlet, and what its period is counted with, have not changed. -/
structure Unmetered (o : OutletNo) (s u : State) : Prop where
  regs : u.regs (o.val + 1) = s.regs (o.val + 1)
  sums : vget u.scribe.sums o.val {} = vget s.scribe.sums o.val {}
  mdck : u.scribe.mdck = s.scribe.mdck
  seal_ : u.scribe.seal_ = s.scribe.seal_
  startup : u.startup = s.startup
  thermal : u.thermal = s.thermal

theorem Unmetered.refl (o : OutletNo) (s : State) : Unmetered o s s := ⟨rfl, rfl, rfl, rfl, rfl, rfl⟩

theorem Unmetered.trans {o : OutletNo} {a b c : State} (h : Unmetered o a b) (k : Unmetered o b c) : Unmetered o a c :=
  ⟨k.regs.trans h.regs, k.sums.trans h.sums, k.mdck.trans h.mdck, k.seal_.trans h.seal_, k.startup.trans h.startup,
    k.thermal.trans h.thermal⟩

theorem Unmetered.of_chg {o : OutletNo} {L : List Part} {s u : State} (h : Chg L s u) (hs : L.contains .scribe = false)
    (hst : L.contains .startup = false) (ht : L.contains .thermal = false) : Unmetered o s u := by
  have hscribe := h.scribe hs
  exact ⟨by rw [State.regs, hscribe, ← State.regs], by rw [hscribe], by rw [hscribe], by rw [hscribe], h.startup hst, h.thermal ht⟩

theorem Unmetered.flagOutlet (o : OutletNo) (s : State) (n : Nat) (f : MFlag) : Unmetered o s (s.flagOutlet n f) :=
  ⟨rfl, rfl, rfl, rfl, rfl, rfl⟩

theorem Unmetered.clearSums {o : OutletNo} (s : State) {i : Nat} (hi : i ≠ o.val) (hlt : i < 64) :
    Unmetered o s (s.modScribe fun x => { x with sums := vput x.sums i {} }) := by
  refine ⟨rfl, ?_, rfl, rfl, rfl, rfl⟩
  show vget (vput _ _ _) _ _ = _
  rw [vget_vput _ _ _ _ _ hlt, if_neg (Ne.symm hi)]

theorem Unmetered.modRegs {o : OutletNo} (s : State) {i : Nat} (hi : i ≠ o.val) (f : Regs → Regs) :
    Unmetered o s (s.modRegs (i + 1) f) := by
  refine ⟨?_, rfl, rfl, rfl, rfl, rfl⟩
  rw [State.regs_modRegs, if_neg (by omega)]

/-- The conductor temperature that an outlet is compensated with, and whether it was valid (R389). -/
def State.compTemp (s : State) (o : Nat) : Rat × Bool :=
  match s.recAt 0x0902 31 25 o with
  | some c => s.condTemp o c
  | none => (20, true)

/-- The compensation loss of an outlet for a period (R389). -/
def State.cableLoss (s : State) (o : Nat) (q2 : Rat) : Nat :=
  match s.recAt 0x0902 31 25 o with
  | some c => unitsOf (q2 * cableR c (s.compTemp o).1)
  | none => 0

/-- Forward energy of a period is counted at an outlet (R378, R389). -/
def State.countForward (s : State) (o : Nat) (e q2 : Rat) : State :=
  s.modRegs o fun r =>
    { r with unc := r.unc + unitsOf e, comp := r.comp + (unitsOf e - s.cableLoss o q2), loss := r.loss + s.cableLoss o q2
             tariff := r.tariff.modify (s.scribe.tariff - 1) (· + (unitsOf e - s.cableLoss o q2)) }

/-- An outlet has, or has not, been compensated with the default temperature (R389). -/
def State.noteComp (s : State) (o : Nat) (valid : Bool) : State :=
  let was := vget s.scribe.compDef (o - 1) false
  let s := s.modScribe fun x => { x with compDef := vput x.compDef (o - 1) (!valid) }
  if valid then s
  else
    let s := s.flagOutlet o .compDefault
    if was then s else s.raiseS .compDefault [o]

/-- The samples of an outlet are cleared. -/
def State.clearSums (s : State) (o : Nat) : State := s.modScribe fun x => { x with sums := vput x.sums (o - 1) {} }

/-- The energy of a period, and its current squared, from sums over the samples (R377). -/
def State.periodOf (s : State) (o : Nat) (w : List W32) (sum : Rat) : Rat :=
  sum * (64 / (s.mdFreq ((2 * o - 2) / 16) w : Nat))

/-- The open sessions of an outlet take the current squared of a period. -/
def State.addQ2 (s : State) (o : Nat) (q2 : Rat) : State :=
  s.modSessions (fun x => ctxOutlet x.ctx = o) fun x => { x with q2 := x.q2 + q2 }

/-- The end of a period that counts, at a metered outlet. -/
def State.countPeriod (s : State) (o : Nat) (e q2 : Rat) : State :=
  if s.scribe.seal_ = .broken then
    if 0 < e then s.modRegs o fun r => { r with service := r.service + unitsOf e } else s
  else if e < 0 then (s.addQ2 o q2).modRegs o fun r => { r with rev := r.rev + unitsOf (-e) }
  else if e = 0 then s.addQ2 o q2
  else ((s.addQ2 o q2).countForward o e q2).noteComp o (s.compTemp o).2

theorem State.endPeriodOutlet_none {s : State} {o : Nat} (h : s.meterRec o = none) : s.endPeriodOutlet o = s := by
  simp [State.endPeriodOutlet, h]

theorem State.endPeriodOutlet_some {s : State} {o : Nat} {w : List W32} (h : s.meterRec o = some w) :
    s.endPeriodOutlet o =
      if (vget s.scribe.sums (o - 1) {}).n = 0 ||
          (vget s.scribe.sums (o - 1) {}).absI / (vget s.scribe.sums (o - 1) {}).n < (fld w 5 31 16 : Rat) / 10 then
        s.clearSums o
      else (s.clearSums o).countPeriod o (s.periodOf o w (vget s.scribe.sums (o - 1) {}).vi)
        (s.periodOf o w (vget s.scribe.sums (o - 1) {}).ii) := by
  unfold State.endPeriodOutlet
  rw [h]
  refine if_congr Iff.rfl rfl ?_
  unfold State.countPeriod
  refine if_congr Iff.rfl rfl (if_congr Iff.rfl rfl (if_congr Iff.rfl rfl ?_))
  rfl

theorem Unmetered.noteComp (o : OutletNo) (s : State) (n : Nat) (valid : Bool) : Unmetered o s (s.noteComp n valid) := by
  unfold State.noteComp
  extract_lets was x y
  have hx : Unmetered o s x := ⟨rfl, rfl, rfl, rfl, rfl, rfl⟩
  have hy : Unmetered o s y := hx.trans (.flagOutlet o x n _)
  split
  · exact hx
  · split
    · exact hy
    · exact hy.trans ⟨rfl, rfl, rfl, rfl, rfl, rfl⟩

theorem Unmetered.countPeriod {o : OutletNo} (s : State) {i : Nat} (hi : i ≠ o.val) (e q2 : Rat) :
    Unmetered o s (s.countPeriod (i + 1) e q2) := by
  have hq2 : Unmetered o s (s.addQ2 (i + 1) q2) := ⟨rfl, rfl, rfl, rfl, rfl, rfl⟩
  unfold State.countPeriod
  split
  · split
    · exact .modRegs s hi _
    · exact .refl o s
  · split
    · exact hq2.trans (.modRegs _ hi _)
    · split
      · exact hq2
      · exact (hq2.trans (.modRegs _ hi _)).trans (.noteComp ..)

/-- The period of another outlet. -/
theorem Unmetered.endPeriodOutlet {o : OutletNo} (s : State) {i : Nat} (hi : i ≠ o.val) (hlt : i < 64) :
    Unmetered o s (s.endPeriodOutlet (i + 1)) := by
  cases h : s.meterRec (i + 1) with
  | none => rw [State.endPeriodOutlet_none h]; exact .refl o s
  | some w =>
    have hclear : Unmetered o s (s.clearSums (i + 1)) := .clearSums s hi hlt
    rw [State.endPeriodOutlet_some h]
    split
    · exact hclear
    · exact hclear.trans (.countPeriod _ hi ..)

theorem State.sums_clearSums (s : State) (o : OutletNo) : vget (s.clearSums (o.val + 1)).scribe.sums o.val {} = {} := by
  show vget (vput s.scribe.sums o.val _) _ _ = _
  rw [vget_vput _ _ _ _ _ o.isLt, if_pos rfl]

/-! The energy of an outlet, once its period has ended. -/

/-- The energy registers of an outlet: uncompensated, compensated, reverse, and under a broken seal. -/
def Regs.energy (r : Regs) : Nat × Nat × Nat × Nat := (r.unc, r.comp, r.rev, r.service)

/-- An outlet's energy registers stand at `e`, and no samples of it wait for the end of a period. -/
structure Counted (o : OutletNo) (e : Nat × Nat × Nat × Nat) (s : State) : Prop where
  energy : (s.regs (o.val + 1)).energy = e
  idle : s.meterRec (o.val + 1) = none ∨ (vget s.scribe.sums o.val {}).n = 0

section
variable {o : OutletNo} {e : Nat × Nat × Nat × Nat} {s : State}

theorem State.meterRec_of_startup {u : State} (h : u.startup = s.startup) (n : Nat) : u.meterRec n = s.meterRec n := by
  simp only [State.meterRec, State.recAt, State.recs, h]

theorem Counted.of_unmetered {u : State} (h : Counted o e s) (k : Unmetered o s u) : Counted o e u :=
  ⟨by rw [k.regs]; exact h.energy, by rw [State.meterRec_of_startup k.startup, k.sums]; exact h.idle⟩

theorem Counted.of_scribe {u : State} (h : Counted o e s)
    (hregs : (u.regs (o.val + 1)).energy = (s.regs (o.val + 1)).energy) (hsums : u.scribe.sums = s.scribe.sums)
    (hst : u.startup = s.startup) : Counted o e u :=
  ⟨hregs.trans h.energy, by rw [State.meterRec_of_startup hst, hsums]; exact h.idle⟩

theorem Counted.of_chg {L : List Part} {u : State} (h : Counted o e s) (k : Chg L s u) (hs : L.contains .scribe = false)
    (hst : L.contains .startup = false) : Counted o e u :=
  h.of_scribe (by rw [State.regs, k.scribe hs, ← State.regs]) (by rw [k.scribe hs]) (k.startup hst)

theorem Counted.foldl {α : Type} {f : State → α → State} (hf : ∀ s x, Counted o e s → Counted o e (f s x)) (l : List α)
    (h : Counted o e s) : Counted o e (l.foldl f s) := by
  induction l generalizing s with
  | nil => exact h
  | cons x l ih => exact ih (hf s x h)

theorem Counted.ite {c : Prop} [Decidable c] {a b : State} (h : Counted o e a) (k : Counted o e b) :
    Counted o e (if c then a else b) := by
  split
  · exact h
  · exact k

/-- The core of the Scribe has changed, but not its registers. -/
theorem Counted.modCore (h : Counted o e s) {f : ScribeCore → ScribeCore} (hf : (f s.scribe.core).regs = s.scribe.core.regs) :
    Counted o e (s.modCore f) :=
  h.of_scribe (by show (vget (f s.scribe.core).regs _ _).energy = _; rw [hf]; rfl) rfl rfl

theorem Counted.modSessions (h : Counted o e s) (p : Session → Bool) (f : Session → Session) :
    Counted o e (s.modSessions p f) := h.modCore rfl

theorem Counted.raise (h : Counted o e s) (x : Ev) (val : List Int) : Counted o e (s.raise x val) :=
  h.of_chg (State.raise_chg ..) rfl rfl

theorem Counted.countTamper (h : Counted o e s) (n : Nat) : Counted o e (s.countTamper n) :=
  h.of_chg (State.countTamper_chg ..) rfl rfl

/-- A change of an outlet's registers beside its energy. -/
theorem Counted.modRegs (h : Counted o e s) (n : Nat) {f : Regs → Regs} (hf : ∀ r, (f r).energy = r.energy) :
    Counted o e (s.modRegs n f) := by
  refine h.of_scribe ?_ rfl rfl
  rw [State.regs_modRegs]
  split
  · exact hf _
  · rfl

theorem Counted.flagOutlet (h : Counted o e s) (n : Nat) (f : MFlag) : Counted o e (s.flagOutlet n f) :=
  h.of_unmetered (.flagOutlet ..)

theorem Counted.endPeriodOutlet (h : Counted o e s) {i : Nat} (hlt : i < 64) : Counted o e (s.endPeriodOutlet (i + 1)) := by
  by_cases hi : i = o.val
  · subst hi
    rcases h.idle with hnone | hzero
    · rw [State.endPeriodOutlet_none hnone]; exact h
    · cases hrec : s.meterRec (o.val + 1) with
      | none => rw [State.endPeriodOutlet_none hrec]; exact h
      | some w =>
        rw [State.endPeriodOutlet_some hrec, Nat.add_sub_cancel, if_pos (Bool.or_eq_true_iff.mpr (.inl (decide_eq_true hzero)))]
        exact ⟨h.energy, .inr (by rw [s.sums_clearSums o])⟩
  · exact h.of_unmetered (.endPeriodOutlet s hi hlt)

theorem Counted.periodFlags (h : Counted o e s) (p : Prop) [Decidable p] : Counted o e
    (if p then (s.modSessions (fun _ => true) fun x => { x with flags := addFlag x.flags .nonLegal }).modCore fun c =>
      { c with interval := { c.interval with flags := addFlag c.interval.flags .sealBroken } } else s) :=
  .ite ((h.modSessions ..).modCore rfl) h

theorem Counted.foldRange {f : State → Nat → State} (n : Nat) (hf : ∀ s i, i < n → Counted o e s → Counted o e (f s i))
    (h : Counted o e s) : Counted o e ((List.range n).foldl f s) := by
  have hall (l : List Nat) (hl : ∀ i ∈ l, i < n) (s : State) (hs : Counted o e s) : Counted o e (l.foldl f s) := by
    induction l generalizing s with
    | nil => exact hs
    | cons i l ih =>
      exact ih (fun j hj => hl j (List.mem_cons_of_mem _ hj)) _ (hf s i (hl i (List.mem_cons_self ..)) hs)
  exact hall _ (fun i hi => List.mem_range.mp hi) s h

theorem Counted.endPeriod (h : Counted o e s) : Counted o e s.endPeriod := by
  unfold State.endPeriod
  extract_lets sec x y z
  have hx : Counted o e x := h.modCore rfl
  have hy : Counted o e y := hx.foldRange 64 fun s i hi hs => hs.endPeriodOutlet hi
  have hz : Counted o e z := .ite hy (hy.modSessions ..)
  exact .ite h (hz.periodFlags _)

theorem Counted.idleAll (h : Counted o e s) : Counted o e s.idleAll := h.modSessions ..

theorem Counted.flagFaulty (h : Counted o e s) : Counted o e s.flagFaulty :=
  h.foldl (fun _ _ hs => .ite (hs.flagOutlet ..) hs) _

theorem Counted.switchTariff (h : Counted o e s) (n : Nat) : Counted o e (s.switchTariff n) := by
  unfold State.switchTariff
  refine .ite h ?_
  exact Counted.idleAll (Counted.of_scribe (h.idleAll.modSessions ..) rfl rfl rfl)

theorem Counted.monthStart (h : Counted o e s) (tai : Nat) : Counted o e (s.monthStart tai) := by
  unfold State.monthStart
  dsimp only
  split
  · exact h.modCore rfl
  · refine .ite (h.modCore rfl) (.ite ?_ h)
    refine h.of_scribe ?_ rfl rfl
    show (vget (vmap _ _) o.val ({} : Regs)).energy = _
    rw [vget_vmap _ _ _ _ o.isLt]
    rfl

theorem Counted.closeInterval (h : Counted o e s) (more : List MFlag) (at_ : Option Nat) :
    Counted o e (s.closeInterval more at_) := by
  unfold State.closeInterval
  extract_lets iv flags outs energy rec_ x1 whole x2 x3
  have h1 : Counted o e x1 := h.of_scribe rfl rfl rfl
  have h2 : Counted o e x2 := by
    refine .ite (h1.foldl (fun s n hs => ?_) _) h1
    unfold State.demandMax
    exact .ite hs (.ite (hs.modRegs n fun _ => rfl) hs)
  have h3 : Counted o e x3 := h2.foldl (fun _ _ hs => .ite (hs.countTamper 8) hs) _
  exact h3.raise ..

theorem Counted.startInterval (h : Counted o e s) (flags : List MFlag) (at_ : Option Nat) :
    Counted o e (s.startInterval flags at_) := by
  unfold State.startInterval
  extract_lets
  exact h.modCore rfl

theorem Counted.boundaries (h : Counted o e s) : Counted o e s.boundaries := by
  unfold State.boundaries
  split
  · exact h.switchTariff _
  · extract_lets x y
    have hx : Counted o e x := by
      unfold x
      split
      · exact .ite (h.modCore rfl) h
      · exact h
    have hy : Counted o e y := by
      unfold y
      split
      · refine .ite ?_ hx
        exact (hx.closeInterval ..).startInterval ..
      · exact hx
    exact (hy.monthStart _).switchTariff _

/-! Sessions that end. -/

theorem Counted.closeSession (h : Counted o e s) (x : Session) (cause : Nat) (wall : Option Nat) (scribe : Nat) :
    Counted o e (s.closeSession x cause wall scribe) := by
  unfold State.closeSession
  extract_lets a x0 x1 n total held used prepaid b r c no flags body rec_ d u v rec2
  have ha : Counted o e a := h.idleAll
  have hb : Counted o e b := .ite (ha.of_chg (State.modTokens_chg ..) rfl rfl) ha
  have hc : Counted o e r.2 := by
    unfold r
    split
    · exact hb.of_chg (State.returnCredit_chg ..) rfl rfl
    · exact hb
  have hd : Counted o e d := hc.modRegs n fun _ => rfl
  have hu : Counted o e u.2 := by
    unfold u
    split
    · exact hd.of_chg (State.useKey_chg ..) rfl rfl
    · exact hd
  exact hu.of_scribe rfl rfl rfl

theorem Counted.plugIn (h : Counted o e s) (n : Nat) : Counted o e (s.plugIn n) := by
  have hwait : Counted o e (if (s.outletDisp n).waiting then s else
      (s.modDisp n fun d => { d with waiting := true }).raise .plugWait [n]) :=
    .ite h ((h.of_chg (State.modDisp_chg ..) rfl rfl).raise ..)
  unfold State.plugIn
  refine .ite h ?_
  split
  · refine .ite hwait ?_
    extract_lets x y w
    have hx : Counted o e x :=
      (h.of_chg (State.modDisp_chg ..) rfl rfl).of_chg (State.modCtx_chg ..) rfl rfl
    have hy : Counted o e y := .ite ((hx.modCore rfl).of_chg (State.modTok_chg ..) rfl rfl) (hx.of_chg (State.modTok_chg ..) rfl rfl)
    have hw : Counted o e w := hy.of_chg (State.modJug_chg ..) rfl rfl
    exact (hw.of_chg (State.notQuiet_chg ..) rfl rfl).raise ..
  · exact hwait

theorem Counted.rechoose (h : Counted o e s) (c : Nat) : Counted o e (s.rechoose c) := by
  unfold State.rechoose
  extract_lets x n y
  have hy : Counted o e y := (h.of_chg (State.modCtx_chg ..) rfl rfl).of_chg (State.modCtx_chg ..) rfl rfl
  exact .ite (hy.modCore rfl) h

theorem Counted.freeCtx (h : Counted o e s) (c n : Nat) : Counted o e (s.freeCtx c n) := by
  unfold State.freeCtx
  extract_lets x
  have hx : Counted o e x := ((h.of_chg (State.modCtx_chg ..) rfl rfl).raise ..).rechoose c
  exact .ite (hx.plugIn _) hx

theorem Counted.closeCtx (h : Counted o e s) (c cause : Nat) : Counted o e (s.closeCtx c cause) := by
  unfold State.closeCtx
  extract_lets n x w r y
  have hx : Counted o e x := (h.of_chg (State.modCtx_chg ..) rfl rfl).raise ..
  split
  · exact hx.endPeriod.closeSession ..
  · have hr : Counted o e r.2 := by
      unfold r
      split
      · exact hx.of_chg (State.returnCredit_chg ..) rfl rfl
      · exact hx
    have hy : Counted o e y := hr.modCore rfl
    exact (hy.of_chg (State.issueChange_chg ..) rfl rfl).freeCtx ..

theorem Counted.endCtx (h : Counted o e s) (c cause : Nat) : Counted o e (s.endCtx c cause) := by
  unfold State.endCtx
  extract_lets x y w
  refine .ite h ?_
  have hy : Counted o e y := (h.of_chg (State.modCtx_chg ..) rfl rfl).raise ..
  have hw : Counted o e w := .ite (hy.endPeriod.modSessions ..) hy
  unfold State.tryClose
  exact .ite (hw.closeCtx ..) hw

theorem Counted.creditScan (h : Counted o e s) : Counted o e s.creditScan :=
  h.foldl (fun _ _ hs => .ite (hs.endCtx ..) hs) _

theorem Counted.takeFreqs (h : Counted o e s) (freqs : List Nat) : Counted o e (s.takeFreqs freqs) := by
  unfold State.takeFreqs
  extract_lets x
  have hx : Counted o e x := h.of_scribe rfl rfl rfl
  refine hx.foldl (fun s i hs => ?_) _
  split
  · refine .ite ?_ hs
    unfold State.meterFault
    extract_lets y w
    refine .ite hs ?_
    have hw : Counted o e w := (Counted.of_scribe (u := y) hs rfl rfl rfl).raise ..
    exact .ite ((hw.flagOutlet ..).countTamper 7) hw
  · exact hs

theorem Counted.scribeCommit (h : Counted o e s) : Counted o e s.scribeCommit := h.of_scribe rfl rfl rfl

/-- What follows the end of a period at its mark (R378, R409). -/
theorem Counted.afterPeriod (h : Counted o e s) (m : Mark) : Counted o e (
    let s := (s.idleAll.flagFaulty).boundaries.creditScan
    if m.second then ((List.range 64).foldl (fun s i => s.tokSecond (i + 1)) (s.takeFreqs m.freqs)).scribeCommit else s) := by
  have hscan : Counted o e (s.idleAll.flagFaulty).boundaries.creditScan := h.idleAll.flagFaulty.boundaries.creditScan
  refine .ite (Counted.scribeCommit ?_) hscan
  exact (hscan.takeFreqs _).foldl (fun _ _ hs => hs.of_chg (State.tokSecond_chg ..) rfl rfl) _
end

/-! The outlet whose period ends. -/

/-- One element of a list without repetitions is passed by a fold between others that it leaves alone. -/
theorem foldl_passes {α : Type} {f : State → α → State} {R : State → State → Prop} (hrefl : ∀ s, R s s)
    (htrans : ∀ {a b c}, R a b → R b c → R a c) {x : α} {l : List α} (hl : l.Nodup) (hx : x ∈ l)
    (hf : ∀ s y, y ∈ l → y ≠ x → R s (f s y)) (s : State) : ∃ a, R s a ∧ R (f a x) (l.foldl f s) := by
  have hall (l : List α) (hne : x ∉ l) (hf : ∀ s y, y ∈ l → y ≠ x → R s (f s y)) (s : State) : R s (l.foldl f s) := by
    induction l generalizing s with
    | nil => exact hrefl s
    | cons y l ih =>
      obtain ⟨hyx, hxl⟩ := not_or.mp fun h => hne (List.mem_cons.mpr h)
      exact htrans (hf s y (List.mem_cons_self ..) (Ne.symm hyx))
        (ih hxl (fun s k hk => hf s k (List.mem_cons_of_mem _ hk)) _)
  induction l generalizing s with
  | nil => exact absurd hx List.not_mem_nil
  | cons y l ih =>
    obtain ⟨hyl, hnd⟩ := List.nodup_cons.mp hl
    have htail : ∀ s k, k ∈ l → k ≠ x → R s (f s k) := fun s k hk => hf s k (List.mem_cons_of_mem _ hk)
    by_cases hy : y = x
    · subst hy
      exact ⟨s, hrefl s, hall l hyl htail _⟩
    · obtain ⟨a, ha, hb⟩ := ih hnd ((List.mem_cons.mp hx).resolve_left (Ne.symm hy)) htail (f s y)
      exact ⟨a, htrans (hf s y (List.mem_cons_self ..) hy) ha, hb⟩

/-- What the end of a period makes of an outlet's energy does not depend on the outlets before and after it. -/
theorem Counted.endPeriod_of_outlet {o : OutletNo} {e : Nat × Nat × Nat × Nat} {s : State} (hopen : s.scribe.open_ = true)
    (h : ∀ a, Unmetered o s a → Counted o e (a.endPeriodOutlet (o.val + 1))) : Counted o e s.endPeriod := by
  unfold State.endPeriod
  extract_lets sec x y z
  have hx : Unmetered o s x := ⟨rfl, rfl, rfl, rfl, rfl, rfl⟩
  obtain ⟨a, ha, hy⟩ := foldl_passes (f := fun s i => State.endPeriodOutlet s (i + 1)) (Unmetered.refl o) Unmetered.trans
    (List.nodup_range (n := 64)) (List.mem_range.mpr o.isLt)
    (fun s i hi hne => .endPeriodOutlet s hne (List.mem_range.mp hi)) x
  have hyc : Counted o e y := (h a (hx.trans ha)).of_unmetered hy
  have hz : Counted o e z := .ite hyc (hyc.modSessions ..)
  rw [if_neg (by simp [hopen])]
  exact hz.periodFlags _

end Sys2Proof.Machine
end

section
/-!
Proofs of the statements about metering periods (chapter 10).
-/
namespace Sys2Proof.Machine
open Sys2Proof Sys2Proof.Config

section
variable (s : State) (o : OutletNo) (e q2 : Rat)

theorem State.regs_noteComp (valid : Bool) : (s.noteComp (o.val + 1) valid).regs (o.val + 1) = s.regs (o.val + 1) :=
  (Unmetered.noteComp o s (o.val + 1) valid).regs

theorem State.sums_countPeriod : (s.countPeriod (o.val + 1) e q2).scribe.sums = s.scribe.sums := by
  have hnote (s : State) (valid : Bool) : (s.noteComp (o.val + 1) valid).scribe.sums = s.scribe.sums := by
    unfold State.noteComp
    extract_lets
    split
    · rfl
    · split <;> rfl
  unfold State.countPeriod
  split
  · split <;> rfl
  · split
    · rfl
    · split
      · rfl
      · exact hnote _ _

variable {s e}

/-- Forward energy enters the uncompensated register whole, and the compensated one less the loss of the cable (R378, R389). -/
theorem State.countPeriod_forward (hseal : s.scribe.seal_ ≠ .broken) (he : 0 < e) :
    ((s.countPeriod (o.val + 1) e q2).regs (o.val + 1)).energy =
      ((s.regs (o.val + 1)).unc + unitsOf e,
        (s.regs (o.val + 1)).comp + (unitsOf e - s.cableLoss (o.val + 1) q2),
        (s.regs (o.val + 1)).rev, (s.regs (o.val + 1)).service) := by
  rw [State.countPeriod, if_neg hseal, if_neg (not_lt.mpr he.le), if_neg he.ne', State.regs_noteComp, State.countForward,
    State.regs_modRegs_same]
  rfl

theorem State.countPeriod_reverse (hseal : s.scribe.seal_ ≠ .broken) (he : e < 0) :
    ((s.countPeriod (o.val + 1) e q2).regs (o.val + 1)).energy =
      ((s.regs (o.val + 1)).unc, (s.regs (o.val + 1)).comp, (s.regs (o.val + 1)).rev + unitsOf (-e),
        (s.regs (o.val + 1)).service) := by
  rw [State.countPeriod, if_neg hseal, if_pos he, State.regs_modRegs_same]
  rfl

theorem State.countPeriod_broken (hseal : s.scribe.seal_ = .broken) (he : 0 < e) :
    ((s.countPeriod (o.val + 1) e q2).regs (o.val + 1)).energy =
      ((s.regs (o.val + 1)).unc, (s.regs (o.val + 1)).comp, (s.regs (o.val + 1)).rev,
        (s.regs (o.val + 1)).service + unitsOf e) := by
  rw [State.countPeriod, if_pos hseal, if_pos he, State.regs_modRegs_same]
  rfl
end

section
variable {o : OutletNo} {z a : State}

/-- What a period is counted with is the same where the outlet has been left alone. -/
theorem Unmetered.meterRec (h : Unmetered o z a) (n : Nat) : a.meterRec n = z.meterRec n := State.meterRec_of_startup h.startup n

theorem Unmetered.periodOf (h : Unmetered o z a) (n : Nat) (w : List W32) (x : Rat) : a.periodOf n w x = z.periodOf n w x := by
  simp only [State.periodOf, State.mdFreq, h.mdck]

theorem Unmetered.cableLoss (h : Unmetered o z a) (n : Nat) (q2 : Rat) : a.cableLoss n q2 = z.cableLoss n q2 := by
  simp only [State.cableLoss, State.compTemp, State.condTemp, State.recAt, State.recs, h.startup, h.thermal]

/-- The energy that the period of an outlet counts: the sums over its samples, at the frequency of its clock. -/
def State.energyDue (s : State) (o : OutletNo) (w : List W32) : Rat :=
  s.periodOf (o.val + 1) w (vget s.scribe.sums o.val {}).vi

/-- The current squared over the period of an outlet. -/
def State.q2Due (s : State) (o : OutletNo) (w : List W32) : Rat :=
  s.periodOf (o.val + 1) w (vget s.scribe.sums o.val {}).ii

/-- A period above the starting current counts. -/
theorem Counted.endPeriod_of_count {e : Nat × Nat × Nat × Nat} {w : List W32} (hopen : z.scribe.open_ = true)
    (hrec : z.meterRec (o.val + 1) = some w) (hn : (vget z.scribe.sums o.val {}).n ≠ 0)
    (hstart : (fld w 5 31 16 : Rat) / 10 ≤ (vget z.scribe.sums o.val {}).absI / (vget z.scribe.sums o.val {}).n)
    (h : ∀ a : State, a.regs (o.val + 1) = z.regs (o.val + 1) → a.scribe.seal_ = z.scribe.seal_ →
      (∀ q, a.cableLoss (o.val + 1) q = z.cableLoss (o.val + 1) q) → ((a.countPeriod (o.val + 1) (z.energyDue o w) (z.q2Due o w)).regs (o.val + 1)).energy = e) :
    Counted o e z.endPeriod := by
  refine .endPeriod_of_outlet hopen fun a ha => ?_
  have hcond : ¬ (decide ((vget a.scribe.sums o.val {}).n = 0) || decide ((vget a.scribe.sums o.val {}).absI /
      (vget a.scribe.sums o.val {}).n < (fld w 5 31 16 : Rat) / 10)) = true := by
    rw [ha.sums]
    simp only [Bool.or_eq_true, decide_eq_true_eq, not_or, not_lt]
    exact ⟨hn, hstart⟩
  rw [State.endPeriodOutlet_some ((ha.meterRec _).trans hrec), Nat.add_sub_cancel, if_neg hcond, ha.periodOf, ha.periodOf, ha.sums]
  refine ⟨h _ ha.regs ha.seal_ (ha.cableLoss _), .inr ?_⟩
  rw [State.sums_countPeriod, a.sums_clearSums o]
end

/-- The Scribe after the holder has entered a mark in the journal. -/
def State.marked (s : State) (m : Mark) : State :=
  if s.pair.st = .holder || s.pair.st = .solo then s.journal (.mark m) else s

theorem State.marked_chg (s : State) (m : Mark) : Chg [.pair] s (s.marked m) := by
  unfold State.marked
  split
  · exact State.journal_chg ..
  · exact Chg.refl _ _

/-- PERIOD_MARK of an open Scribe: the period ends, then what follows it. -/
theorem exec_periodMark_open {s z : State} {t : Nat} {m : Mark} (hz : z = s.advance t) (hopen : z.scribe.open_ = true) :
    ∃ u, exec (.periodMark t m) s = .next u ∧ ∀ o e, Counted o e (z.marked m).settleHolds.endPeriod → Counted o e u := by
  refine ⟨_, ?_, fun o e h => h.afterPeriod m⟩
  have hopen' : (z.marked m).scribe.open_ = true := by rw [(z.marked_chg m).scribe rfl]; exact hopen
  show execPeriodMark t m s = _
  unfold execPeriodMark
  rw [← hz]
  exact congrArg Host.Outcome.next (if_neg (show ¬ (!(z.marked m).scribe.open_) = true by simp [hopen']))

theorem Unmetered.beforePeriod (o : OutletNo) (z : State) (m : Mark) : Unmetered o z (z.marked m).settleHolds :=
  .of_chg (((z.marked_chg m).widen rfl).step (State.settleHolds_chg ..) rfl : Chg [.pair, .keys, .port, .tokens] z _) rfl rfl rfl

/-- A period of an open Scribe that counts, at its mark. -/
theorem exec_periodMark_counts {s z : State} {t : Nat} {o : OutletNo} {m : Mark} {w : List W32} (hz : z = s.advance t)
    (hopen : z.scribe.open_ = true) (hrec : z.meterRec (o.val + 1) = some w) (hn : (vget z.scribe.sums o.val {}).n ≠ 0)
    (hstart : (fld w 5 31 16 : Rat) / 10 ≤ (vget z.scribe.sums o.val {}).absI / (vget z.scribe.sums o.val {}).n)
    {e : Nat × Nat × Nat × Nat}
    (h : ∀ a : State, a.regs (o.val + 1) = z.regs (o.val + 1) → a.scribe.seal_ = z.scribe.seal_ →
      (∀ q, a.cableLoss (o.val + 1) q = z.cableLoss (o.val + 1) q) →
      ((a.countPeriod (o.val + 1) (z.energyDue o w) (z.q2Due o w)).regs (o.val + 1)).energy = e) :
    Done (.periodMark t m) s fun u => (u.regs (o.val + 1)).energy = e ∧
      Only [.juggler, .barker, .scribe, .keys, .update, .pair, .port, .tokens, .tamper] z u := by
  obtain ⟨u, hexec, hcounted⟩ := exec_periodMark_open (m := m) hz hopen
  have hb := Unmetered.beforePeriod o z m
  refine ⟨u, hexec, (hcounted o e ?_).energy, Only.of_chg (Chg.of_exec (hz ▸ execPeriodMark_chg t m s) hexec) (by decide)⟩
  have hopen' : (z.marked m).settleHolds.scribe.open_ = true := by
    rw [(State.settleHolds_chg _).scribe rfl, (z.marked_chg m).scribe rfl]; exact hopen
  refine .endPeriod_of_count hopen' ((hb.meterRec _).trans hrec) (by rw [hb.sums]; exact hn) (by rw [hb.sums]; exact hstart) ?_
  intro a hregs hseal hloss
  have hdue : (z.marked m).settleHolds.energyDue o w = z.energyDue o w := by
    rw [State.energyDue, hb.periodOf, hb.sums, State.energyDue]
  have hq2 : (z.marked m).settleHolds.q2Due o w = z.q2Due o w := by
    rw [State.q2Due, hb.periodOf, hb.sums, State.q2Due]
  rw [hdue, hq2]
  exact h a (hregs.trans hb.regs) (hseal.trans hb.seal_) fun q => (hloss q).trans (hb.cableLoss ..)

theorem Regs.energy_eq {r : Regs} {a b c d : Nat} (h : r.energy = (a, b, c, d)) :
    r.unc = a ∧ r.comp = b ∧ r.rev = c ∧ r.service = d := by
  simpa [Regs.energy] using h

/-- Settles O45: the energy of a period enters the registers that its sign and the seal name, and a mark is told by its entry. -/
theorem energyIsCounted : Obligations.EnergyIsCounted := by
  unfold Obligations.EnergyIsCounted
  refine ⟨?_, ?_, ?_, ?_, ?_, ?_, ?_⟩
  · intro s z t m o w e q hz hopen hrec hn hstart he hq hseal hpos
    have hdue : z.energyDue o w = e := he.symm
    have hq2 : z.q2Due o w = q := hq.symm
    obtain ⟨u, hexec, henergy, honly⟩ := exec_periodMark_counts (m := m) hz hopen hrec hn hstart
      (e := ((z.regs (o.val + 1)).unc + unitsOf e, (z.regs (o.val + 1)).comp + (unitsOf e - z.cableLoss (o.val + 1) q),
        (z.regs (o.val + 1)).rev, (z.regs (o.val + 1)).service)) (fun a hregs hs hloss => by
          rw [hdue, hq2, State.countPeriod_forward o q (hs ▸ hseal) hpos, hregs, hloss])
    obtain ⟨hunc, hcomp, hrev, hservice⟩ := Regs.energy_eq henergy
    refine ⟨u, hexec, hunc, fun hnone => ?_, fun c hsome => ?_, hrev, hservice, honly⟩
    · rw [hcomp]
      simp only [State.cableLoss, hnone, Nat.sub_zero]
    · rw [hcomp]
      simp only [State.cableLoss, State.compTemp, hsome]
  · intro s z t m o w e hz hopen hrec hn hstart he hseal hneg
    have hdue : z.energyDue o w = e := he.symm
    obtain ⟨u, hexec, henergy, honly⟩ := exec_periodMark_counts (m := m) hz hopen hrec hn hstart
      (e := ((z.regs (o.val + 1)).unc, (z.regs (o.val + 1)).comp, (z.regs (o.val + 1)).rev + unitsOf (-e),
        (z.regs (o.val + 1)).service)) (fun a hregs hs _ => by
          rw [hdue, State.countPeriod_reverse o _ (hs ▸ hseal) hneg, hregs])
    obtain ⟨hunc, hcomp, hrev, -⟩ := Regs.energy_eq henergy
    exact ⟨u, hexec, hrev, hcomp, hunc, honly⟩
  · intro s z t m o w e hz hopen hrec hn hstart he hseal hpos
    have hdue : z.energyDue o w = e := he.symm
    obtain ⟨u, hexec, henergy, honly⟩ := exec_periodMark_counts (m := m) hz hopen hrec hn hstart
      (e := ((z.regs (o.val + 1)).unc, (z.regs (o.val + 1)).comp, (z.regs (o.val + 1)).rev,
        (z.regs (o.val + 1)).service + unitsOf e)) (fun a hregs hs _ => by
          rw [hdue, State.countPeriod_broken o _ (hs.trans hseal) hpos, hregs])
    obtain ⟨hunc, hcomp, hrev, hservice⟩ := Regs.energy_eq henergy
    exact ⟨u, hexec, hservice, hcomp, hunc, hrev, honly⟩
  · intro s z t m o hz hopen hidle
    obtain ⟨u, hexec, hcounted⟩ := exec_periodMark_open (m := m) hz hopen
    have hz' : Counted o (z.regs (o.val + 1)).energy z := ⟨rfl, hidle⟩
    obtain ⟨hunc, hcomp, hrev, hservice⟩ := Regs.energy_eq
      (hcounted o _ (hz'.of_unmetered (.beforePeriod o z m)).endPeriod).energy
    exact ⟨u, hexec, hcomp, hunc, hrev, hservice, Only.of_chg (Chg.of_exec (hz ▸ execPeriodMark_chg t m s) hexec) (by decide)⟩
  · intro s z t m hz hclosed hholds
    refine ⟨_, ?_, rfl⟩
    show execPeriodMark t m s = _
    unfold execPeriodMark
    rw [← hz]
    dsimp only
    rw [if_pos (show (z.pair.st = .holder || z.pair.st = .solo) = true from hholds)]
    exact congrArg Host.Outcome.next (if_pos (by simp [hclosed]))
  · intro s z t m hz hclosed hholds
    refine ⟨z, ?_, rfl⟩
    show execPeriodMark t m s = _
    unfold execPeriodMark
    rw [← hz]
    dsimp only
    rw [if_neg (show ¬ (z.pair.st = .holder || z.pair.st = .solo) = true from fun h => Bool.false_ne_true (hholds.symm.trans h))]
    exact congrArg Host.Outcome.next (if_pos (by simp [hclosed]))
  · intro m o
    refine Effect.of_apply fun z tick stamp hdue => ⟨⟨tick, ?_⟩, Only.of_chg (State.markHolds_chg z tick) (by decide)⟩
    have htok : (z.markHolds tick).tok (o.val + 1) = if (z.tok (o.val + 1)).holdDue = some none then
        { z.tok (o.val + 1) with holdDue := some (some tick) } else z.tok (o.val + 1) :=
      vget_vmap _ _ _ _ o.isLt
    show ((z.markHolds tick).tok (o.val + 1)).holdDue = _
    rw [htok, if_pos hdue]

end Sys2Proof.Machine
end

section
/-!
Proofs of the statements about tokens and the displays of outlets (chapter 11).
-/
namespace Sys2Proof.Machine
open Sys2Proof Sys2Proof.Config

/-! Token entry of an outlet. -/

theorem State.tok_modTok_same (s : State) (o : OutletNo) (f : TokenOutlet → TokenOutlet) :
    (s.modTok (o.val + 1) f).tok (o.val + 1) = f (s.tok (o.val + 1)) := by
  show vget (vmapIdx _ _) o.val ({} : TokenOutlet) = _
  rw [vget_vmapIdx _ _ _ _ o.isLt, if_pos rfl]
  rfl

theorem State.tok_modTok_other (s : State) {o p : OutletNo} (h : p ≠ o) (f : TokenOutlet → TokenOutlet) :
    (s.modTok (o.val + 1) f).tok (p.val + 1) = s.tok (p.val + 1) := by
  show vget (vmapIdx _ _) p.val ({} : TokenOutlet) = _
  rw [vget_vmapIdx _ _ _ _ p.isLt, if_neg (fun hval => h (Fin.ext (Nat.succ.inj hval)))]
  rfl

theorem State.tok_of_tokens {s u : State} (h : u.tokens = s.tokens) (n : Nat) : u.tok n = s.tok n := by simp only [State.tok, h]

/-- An input that changes the display of one outlet, once it has expired. -/
theorem Input.of_display {i : Nat → Instr} {j : JInput} {G : State → Prop} (o : OutletNo) (g : TokenOutlet → TokenOutlet)
    (hexec : ∀ s z t, z = s.advance t → G z → exec (i t) s = .next (z.submit j (·.modTok (o.val + 1) g)))
    (happly : ∀ (z : State) tick stamp, z.applyInput tick stamp j = z.modTok (o.val + 1) g) :
    Input i j G (fun _ => True) fun z u => u.tok (o.val + 1) = g (z.tok (o.val + 1)) ∧
      (∀ p : OutletNo, p ≠ o → u.tok (p.val + 1) = z.tok (p.val + 1)) ∧ Only [.tokens] z u :=
  .of_submit _ hexec happly fun z _ => ⟨z.tok_modTok_same o g, fun _ hp => z.tok_modTok_other hp g,
    Only.of_chg (State.modTok_chg ..) (by decide)⟩

/-! What a submission leaves of the credit (R430, R431). -/

/-- The credit of the outlets and sessions, and the TOKEN_IDs used up, have not changed. -/
structure CreditKept (o : OutletNo) (s u : State) : Prop where
  credits : u.scribe.core.credits = s.scribe.core.credits
  held : (u.tok (o.val + 1)).held = (s.tok (o.val + 1)).held
  used : u.tokens.used = s.tokens.used
  high : u.tokens.high = s.tokens.high
  barker : u.barker = s.barker

theorem CreditKept.trans {o : OutletNo} {a b c : State} (h : CreditKept o a b) (k : CreditKept o b c) : CreditKept o a c :=
  ⟨k.credits.trans h.credits, k.held.trans h.held, k.used.trans h.used, k.high.trans h.high, k.barker.trans h.barker⟩

theorem CreditKept.of_chg {o : OutletNo} {L : List Part} {s u : State} (h : Chg L s u) (hs : L.contains .scribe = false)
    (ht : L.contains .tokens = false) (hb : L.contains .barker = false) : CreditKept o s u :=
  ⟨by rw [h.scribe hs], by rw [State.tok_of_tokens (h.tokens ht)], by rw [h.tokens ht], by rw [h.tokens ht], h.barker hb⟩

theorem CreditKept.modTok {o : OutletNo} (s : State) {f : TokenOutlet → TokenOutlet} (hf : ∀ x, (f x).held = x.held) :
    CreditKept o s (s.modTok (o.val + 1) f) :=
  ⟨rfl, by rw [s.tok_modTok_same o f, hf], rfl, rfl, rfl⟩

theorem CreditKept.logToken (o : OutletNo) (s : State) (n v : Nat) (b : Bool) (x : TokenText) :
    CreditKept o s (s.logToken n v b x) := ⟨rfl, rfl, rfl, rfl, rfl⟩

theorem CreditKept.tokRefuse (o : OutletNo) (s : State) (v cause : Nat) (x : TokenText) :
    CreditKept o s (s.tokRefuse (o.val + 1) v cause x) := by
  have hshow : CreditKept o s (s.showText (o.val + 1) x) := .modTok s fun _ => rfl
  have hlog (y : State) (b : Bool) : CreditKept o y (y.logToken (o.val + 1) v b x) := .logToken ..
  exact (hshow.trans (hlog _ _)).trans (.of_chg (State.raiseS_chg ..) rfl rfl rfl)

theorem CreditKept.tokFail (o : OutletNo) (s : State) : CreditKept o s (s.tokFail (o.val + 1)) := by
  unfold State.tokFail
  extract_lets now l
  split
  · have hlock : CreditKept o s (s.modTok (o.val + 1) fun y => { y with failures := [], lockEnd := some (now + 600) }) :=
      .modTok s fun _ => rfl
    exact (hlock.trans (.of_chg (State.countTamper_chg ..) rfl rfl rfl)).trans (.of_chg (State.raiseS_chg ..) rfl rfl rfl)
  · exact .modTok s fun _ => rfl

theorem CreditKept.heldNow {o : OutletNo} {s u : State} (h : CreditKept o s u) :
    u.heldNow (o.val + 1) = s.heldNow (o.val + 1) := by
  have hlive : u.liveCtx (o.val + 1) = s.liveCtx (o.val + 1) := by simp only [State.liveCtx, h.barker]
  simp only [State.heldNow, hlive, h.held, State.creditOf, h.credits]

theorem State.macOf_kept (o : OutletNo) (s : State) (cls id bits : Nat) : CreditKept o s (s.macOf cls id bits).2 :=
  .of_chg (State.macOf_chg ..) rfl rfl rfl

theorem State.creditOf_setCredit (s : State) (c n : Nat) : (s.setCredit c n).creditOf c = n := by
  show ((((c, n) :: _).find? fun x => x.1 = c).map (·.2)).getD 0 = n
  simp

/-- An accepted credit token is added to what a session or the outlet holds (R435). -/
theorem State.heldNow_addCredit (s : State) (o : OutletNo) (n : Nat) :
    (s.addCredit (o.val + 1) n).heldNow (o.val + 1) = s.heldNow (o.val + 1) + n := by
  unfold State.addCredit State.heldNow
  cases h : s.liveCtx (o.val + 1) with
  | some c =>
    have hlive : (s.setCredit c (s.creditOf c + n)).liveCtx (o.val + 1) = some c := h
    dsimp only
    rw [hlive]
    exact s.creditOf_setCredit ..
  | none =>
    dsimp only
    rw [show (s.modTok (o.val + 1) _).liveCtx (o.val + 1) = none from h]
    exact congrArg TokenOutlet.held (s.tok_modTok_same o _)

theorem State.addCredit_tokens (s : State) (n m : Nat) :
    (s.addCredit n m).tokens.used = s.tokens.used ∧ (s.addCredit n m).tokens.high = s.tokens.high := by
  unfold State.addCredit
  split <;> exact ⟨rfl, rfl⟩

theorem CreditKept.showText (o : OutletNo) (s : State) (x : TokenText) : CreditKept o s (s.showText (o.val + 1) x) :=
  .modTok s fun _ => rfl

/-- An acceptance is shown, logged and told. -/
theorem CreditKept.accepted (o : OutletNo) (s : State) (v : Nat) :
    CreditKept o s ((((s.showText (o.val + 1) (.accepted (tokAmount v))).logToken (o.val + 1) v true
      (.accepted (tokAmount v))).raiseS .tokenAccepted [o.val + 1, 0, tokId v, tokAmount v])) :=
  ((CreditKept.showText o s _).trans (.logToken ..)).trans (.of_chg (State.raiseS_chg ..) rfl rfl rfl)

/-- An accepted credit token: its amount is added, and its TOKEN_ID used up. -/
theorem State.takeCredit_credit (s : State) (o : OutletNo) (v : Nat) :
    (s.takeCredit (o.val + 1) v).heldNow (o.val + 1) = s.heldNow (o.val + 1) + tokAmount v ∧
      (s.takeCredit (o.val + 1) v).tokens.used = (s.tokens.use (tokId v)).used ∧
      (s.takeCredit (o.val + 1) v).tokens.high = max s.tokens.high (tokId v) := by
  let x := s.modTokens (·.use (tokId v))
  let y := x.addCredit (o.val + 1) (tokAmount v)
  have hkept : CreditKept o y (s.takeCredit (o.val + 1) v) := CreditKept.accepted o y v
  obtain ⟨hused, hhigh⟩ := x.addCredit_tokens (o.val + 1) (tokAmount v)
  exact ⟨hkept.heldNow.trans (x.heldNow_addCredit o _), hkept.used.trans hused, hkept.high.trans hhigh⟩

theorem Tokens.mem_use (k : Tokens) (id : Nat) : id ∈ (k.use id).used := List.mem_cons_self ..

theorem Conn.put_changeSel (k : Conn) (a : Answer) : (k.put a).changeSel = k.changeSel := by
  unfold Conn.put
  split <;> rfl

/-! A request on an object of this module alone. -/

theorem State.guarded_of_allowed {z : State} {c : ConnNo} {r : Right} {o : Obis} (h : Allowed z c r o)
    (f : Conn → State → State) : ∃ k, z.port.conns[c] = some k ∧ z.guarded c o r f = f k z := by
  obtain ⟨hmode, habsent, hwaits, k, hk, hright⟩ := h
  refine ⟨k, hk, ?_⟩
  have hslots : k.slots.length < 16 := by
    have hw : z.waits c = k.slots := by simp [State.waits, hk]
    exact hw ▸ hwaits
  rw [State.guarded, State.op_of_served hk hslots (by rw [hmode]; rfl), habsent, hright]
  rfl

/-! The decision of a submission (R430). -/

/-- The state in which the key unit has derived the MAC of a submission. -/
def State.macDone (s : State) (v : Nat) : State := (s.macOf (tokClass v) (tokId v) (tokBits v)).2

theorem State.submitToken_badMac {z : State} {n v : Nat} {l : List (Fin 10)} (hv : v = decimal l) (hlt : v < 2 ^ 66)
    (hmac : (z.macOf (tokClass v) (tokId v) (tokBits v)).1 ≠ some (tokMac v)) :
    z.submitToken n l = ((z.macDone v).tokRefuse n v 1 .invalid).tokFail n := by
  subst hv
  unfold State.submitToken
  extract_lets v m y
  rw [if_neg (Nat.not_le.mpr hlt), if_pos hmac]
  rfl

/-- A credit token with its MAC: refused where its TOKEN_ID has been used, or the credit would be too great. -/
theorem State.submitToken_credit {z : State} {n v : Nat} {l : List (Fin 10)} (hv : v = decimal l) (hlt : v < 2 ^ 66)
    (hmac : (z.macOf (tokClass v) (tokId v) (tokBits v)).1 = some (tokMac v)) (hclass : tokClass v = 0) :
    z.submitToken n l =
      if tokId v + 4096 < (z.macDone v).tokens.high ||
          (tokId v ≤ (z.macDone v).tokens.high && (z.macDone v).tokens.used.contains (tokId v)) then
        (((z.macDone v).tokRefuse n v 2 .alreadyUsed).countTamper 6).tokFail n
      else if (z.macDone v).creditMax < (z.macDone v).heldNow n + tokAmount v then (z.macDone v).tokRefuse n v 3 .creditLimit
      else (z.macDone v).takeCredit n v := by
  subst hv
  unfold State.submitToken
  extract_lets v m y
  rw [if_neg (Nat.not_le.mpr hlt), if_neg (not_not.mpr hmac), if_neg (by simp [v, hclass]), if_neg (by simp [v, hclass])]
  refine if_congr Iff.rfl rfl ?_
  have h0 : tokClass v = 0 := hclass
  simp only [h0, decide_true, Bool.true_and, decide_eq_true_eq]
  refine if_congr Iff.rfl rfl ?_
  rfl

/-- Settles O48: a submission without its MAC, or used before, brings no credit; an accepted one is added once; and what a display shows
leaves it in time. -/
theorem tokensAndDisplays : Obligations.TokensAndDisplays := by
  unfold Obligations.TokensAndDisplays
  refine ⟨?_, ?_, ?_, ?_, ?_, ?_, ?_, ?_, ?_, ?_⟩
  · intro z o l v hv hlt hmac
    rw [State.submitToken_badMac hv hlt hmac]
    have hkept : CreditKept o z (((z.macDone v).tokRefuse (o.val + 1) v 1 .invalid).tokFail (o.val + 1)) :=
      ((z.macOf_kept o ..).trans (.tokRefuse ..)).trans (.tokFail ..)
    exact ⟨hkept.credits, hkept.held, hkept.used⟩
  · intro z o l v hv hlt hmac hclass hwindow hnew hmax
    have hkept : CreditKept o z (z.macDone v) := z.macOf_kept o ..
    have htokens : (z.macDone v).tokens = z.tokens := (State.macOf_chg ..).tokens rfl
    have hcreditMax : (z.macDone v).creditMax = z.creditMax := by
      simp only [State.creditMax, State.tokenPolicy, State.rec1, State.recs, State.macDone, (State.macOf_chg z ..).startup rfl]
    rw [State.submitToken_credit hv hlt hmac hclass, htokens, hcreditMax, hkept.heldNow, if_neg, if_neg (Nat.not_lt.mpr hmax)]
    · obtain ⟨hheld, hused, hhigh⟩ := (z.macDone v).takeCredit_credit o v
      rw [htokens] at hused hhigh
      exact ⟨hheld.trans (by rw [hkept.heldNow]), hused ▸ Tokens.mem_use .., hhigh⟩
    · simp only [Bool.or_eq_true, decide_eq_true_eq, Bool.and_eq_true, List.contains_iff_mem, not_or, not_and, not_lt]
      exact ⟨hwindow, fun hle => hnew.resolve_left (by omega)⟩
  · intro z o l v hv hlt hmac hclass hle hused
    have htokens : (z.macDone v).tokens = z.tokens := (State.macOf_chg ..).tokens rfl
    rw [State.submitToken_credit hv hlt hmac hclass, htokens, if_pos (by simp [hle, hused])]
    have hkept : CreditKept o z ((((z.macDone v).tokRefuse (o.val + 1) v 2 .alreadyUsed).countTamper 6).tokFail (o.val + 1)) :=
      (((z.macOf_kept o ..).trans (.tokRefuse ..)).trans (.of_chg (State.countTamper_chg ..) rfl rfl rfl)).trans (.tokFail ..)
    exact ⟨hkept.heldNow, hkept.used⟩
  · intro z o hfour
    have hlong : 5 ≤ (z.scribe.core.time :: (z.tok (o.val + 1)).failures.filter fun x => z.scribe.core.time ≤ x + 600).length := by
      rw [List.length_cons]; omega
    have hlock : (z.tokFail (o.val + 1)).tok (o.val + 1) =
        { z.tok (o.val + 1) with failures := [], lockEnd := some (z.scribe.core.time + 600) } := by
      rw [State.tokFail, if_pos hlong, State.tok_of_tokens ((State.raiseS_chg ..).tokens rfl),
        State.tok_of_tokens ((State.countTamper_chg ..).tokens rfl), State.tok_modTok_same]
    rw [hlock]
    exact ⟨rfl, rfl⟩
  · intro o
    refine .of_display (j := .entryTimeout o) o (fun y => { y with buffer := [] }) (fun s z t hz ⟨hfull, hlate⟩ => ?_) fun _ _ _ => rfl
    show execEntryTimeout t o s = _
    rw [execEntryTimeout, ← hz]
    exact congrArg Host.Outcome.next (if_pos (by simpa [State.expired_iff, hlate] using hfull))
  · intro o
    refine .of_display (j := .outcomeTextExpiry o) o (fun y => { y with text := .none }) (fun s z t hz ⟨hshown, hlate⟩ => ?_) fun _ _ _ => rfl
    show execOutcomeTextExpiry t o s = _
    rw [execOutcomeTextExpiry, ← hz]
    exact congrArg Host.Outcome.next (if_pos (by simpa [State.expired_iff, hlate] using hshown))
  · intro o x
    refine .of_display (j := .changeDisplayTimeout o) o (fun y => { y with change := none }) (fun s z t hz ⟨hchange, hlate⟩ => ?_)
      fun _ _ _ => rfl
    show execChangeDisplayTimeout t o s = _
    have hlate' : z.expired x.2 (1800 * ticksPerSec) = true := (State.expired_iff ..).mpr hlate
    simp only [execChangeDisplayTimeout, ← hz, hchange, hlate', if_true]
    rfl
  · intro s z t o hz hnone
    refine ⟨z, ?_, rfl⟩
    show execChangeDisplayTimeout t o s = _
    simp only [execChangeDisplayTimeout, ← hz, hnone]
  · intro s z t c n hz hallowed hn
    obtain ⟨k, hk, hguarded⟩ := State.guarded_of_allowed hallowed fun _ s =>
      if n < 2 ^ 24 then (s.modConn c fun k => { k with changeSel := some n }).answer c 0 else s.answer c 3
    have hexec : exec (.changeTokenLookup t c n) s = .next ((z.modConn c fun k => { k with changeSel := some n }).answer c 0) := by
      show execChangeTokenLookup t c n s = _
      rw [execChangeTokenLookup, ← hz, State.selectChange, hguarded, if_pos hn]
    have hmod : (z.modConn c fun k => { k with changeSel := some n }).port.conns[c] = some { k with changeSel := some n } := by
      rw [State.conns_modConn, hk]; rfl
    have hconn := State.conns_answer hmod 0 []
    refine ⟨_, hexec, ⟨_, hconn, ?_⟩, State.res_put hconn,
      Only.of_chg (((State.modConn_chg ..).widen rfl).trans (State.answer_chg ..) : Chg [.port] z _) (by decide)⟩
    rw [Conn.put_changeSel]
  · intro s z t c n hz hallowed hn
    obtain ⟨k, hk, hguarded⟩ := State.guarded_of_allowed hallowed fun _ s =>
      if n < 2 ^ 24 then (s.modConn c fun k => { k with changeSel := some n }).answer c 0 else s.answer c 3
    have hexec : exec (.changeTokenLookup t c n) s = .next (z.answer c 3) := by
      show execChangeTokenLookup t c n s = _
      rw [execChangeTokenLookup, ← hz, State.selectChange, hguarded, if_neg (Nat.not_lt.mpr hn)]
    exact ⟨_, hexec, State.res_put (State.conns_answer hk 3 []), rfl, Only.of_chg (State.answer_chg ..) (by decide)⟩

end Sys2Proof.Machine
end

section
/-!
Rules about vehicle sessions (chapter 9): what the steps of one context make of it, and that they leave the others.
-/
namespace Sys2Proof.Machine
open Sys2Proof Sys2Proof.Config

theorem CtxNo.val_ne {c d : CtxNo} (h : d ≠ c) : d.val ≠ c.val := fun hval => h (Fin.ext hval)

theorem State.bctx_of_chg {L : List Part} {s u : State} (h : Chg L s u) (hL : L.contains .barker = false) (c : Nat) :
    u.bctx c = s.bctx c := State.bctx_of_barker (h.barker hL) c

theorem State.bctx_raise (s : State) (e : Ev) (val : List Int) (c : Nat) : (s.raise e val).bctx c = s.bctx c := rfl

/-! The end of a context whose session has not been stopped yet. -/

/-- A context in ENDING. -/
def Ctx.ended (x : Ctx) (cause stamp : Nat) : Ctx :=
  { x with st := .ending, endCause := cause, endStamp := stamp, phase := .none, req := (0, 0, 0)
           stateF := badEnd cause && !x.deliver }

/-- A context goes to ENDING, and this is told. -/
def State.beginEnding (s : State) (c cause : Nat) : State :=
  (s.modCtx c fun x => x.ended cause s.stamp).raise .sessionEnd [c, cause]

theorem State.endCtx_of_running {s : State} {c : CtxNo} (cause : Nat) (hrun : (s.bctx c.val).st.running = true)
    (hgoes : (s.bctx c.val).stopped = false) : s.endCtx c.val cause =
      if ((s.beginEnding c.val cause).session c.val).isSome then (s.beginEnding c.val cause).sessionIdle c.val
      else s.beginEnding c.val cause := by
  unfold State.endCtx
  extract_lets x y w
  have hnot : ¬ (!x.st.running) = true := by simp [x, hrun]
  rw [if_neg hnot]
  have hw : w.bctx c.val = (s.bctx c.val).ended cause s.stamp := by
    have hy : y.bctx c.val = (s.bctx c.val).ended cause s.stamp := s.bctx_modCtx_same c.isLt _
    unfold w
    split
    · rw [State.bctx_of_chg (State.sessionIdle_chg ..) rfl, hy]
    · exact hy
  unfold State.tryClose
  exact if_neg (by simp [hw, Ctx.ended, hgoes])

theorem State.endCtx_of_idle {s : State} {c : Nat} (cause : Nat) (h : (s.bctx c).st.running = false) : s.endCtx c cause = s := by
  simp [State.endCtx, h]

theorem State.endCtx_bctx_same {s : State} {c : CtxNo} (cause : Nat) (hrun : (s.bctx c.val).st.running = true)
    (hgoes : (s.bctx c.val).stopped = false) : (s.endCtx c.val cause).bctx c.val = (s.bctx c.val).ended cause s.stamp := by
  have hbegin : (s.beginEnding c.val cause).bctx c.val = (s.bctx c.val).ended cause s.stamp := s.bctx_modCtx_same c.isLt _
  rw [State.endCtx_of_running cause hrun hgoes]
  split
  · rw [State.bctx_of_chg (State.sessionIdle_chg ..) rfl, hbegin]
  · exact hbegin

theorem State.endCtx_bctx_other {s : State} {c d : CtxNo} (hd : d ≠ c) (cause : Nat) (hrun : (s.bctx c.val).st.running = true)
    (hgoes : (s.bctx c.val).stopped = false) : (s.endCtx c.val cause).bctx d.val = s.bctx d.val := by
  have hbegin : (s.beginEnding c.val cause).bctx d.val = s.bctx d.val := s.bctx_modCtx_other (CtxNo.val_ne hd) _
  rw [State.endCtx_of_running cause hrun hgoes]
  split
  · rw [State.bctx_of_chg (State.sessionIdle_chg ..) rfl, hbegin]
  · exact hbegin

/-! A response, and a request formed anew. -/

theorem State.respond_bctx_same (s : State) (c : CtxNo) (code : Nat) (vals : List Int) :
    (s.respond c.val code vals).bctx c.val = { s.bctx c.val with reply := (code : Int) :: vals } := s.bctx_modCtx_same c.isLt _

theorem State.respond_bctx_other (s : State) {c d : CtxNo} (h : d ≠ c) (code : Nat) (vals : List Int) :
    (s.respond c.val code vals).bctx d.val = s.bctx d.val := s.bctx_modCtx_other (CtxNo.val_ne h) _

theorem State.refreshReq_bctx_same {s : State} {c : CtxNo} (h : (s.bctx c.val).st = .checks ∨ (s.bctx c.val).st = .delivering) :
    (s.refreshReq c.val).bctx c.val = { s.bctx c.val with req := s.formReq c.val } := by
  unfold State.refreshReq
  extract_lets st
  have hst : (decide (st = .checks) || decide (st = .delivering)) = true := by simpa [st] using h
  rw [if_pos hst, s.bctx_modCtx_same c.isLt]

theorem State.refreshReq_of_paused {s : State} {c : Nat} (h : (s.bctx c).st = .paused) : s.refreshReq c = s := by
  simp [State.refreshReq, h]

theorem State.refreshReq_bctx_other (s : State) {c d : CtxNo} (h : d ≠ c) : (s.refreshReq c.val).bctx d.val = s.bctx d.val := by
  unfold State.refreshReq
  extract_lets st
  split
  · exact s.bctx_modCtx_other (CtxNo.val_ne h) _
  · rfl

/-- What a context asks the Juggler for does not depend on what it has asked for or been told before. -/
theorem State.formReq_congr {s u : State} {c : Nat} {r : Nat × Nat × Nat} {l : List Int}
    (hctx : u.bctx c = { s.bctx c with req := r, reply := l }) (hst : u.startup = s.startup) : u.formReq c = s.formReq c := by
  have hvolt : u.ccVoltage c = s.ccVoltage c := by
    simp only [State.ccVoltage, State.vRatedOf, State.outletNode, State.policy, State.rec1, State.recs, hctx, hst]
  have hrated (o : Nat) : u.vRatedOf o = s.vRatedOf o := by
    simp only [State.vRatedOf, State.outletNode, State.policy, State.rec1, State.recs, hst]
  have hpol : u.ctxPol c = s.ctxPol c := by simp only [State.ctxPol, State.rec1, State.recs, hctx, hst]
  simp only [State.formReq, hvolt, hrated, hpol, hctx]

/-! A vehicle message of a context that takes them. -/

theorem exec_v2gMessage_eq {s z : State} {t : Nat} {c : CtxNo} (m : V2g) (hz : z = s.advance t) (hservice : z.startup.mode = .service)
    (hst : (z.bctx c.val).st.running = true ∨ (z.bctx c.val).st = .ending) : exec (.v2gMessage t c m) s =
      .next ((if asksRandom m then z.drawRandom c else z).vehicleMsg c.val m) := by
  show execV2gMessage t c m s = _
  unfold execV2gMessage
  rw [← hz]
  exact congrArg Host.Outcome.next (if_pos (by rcases hst with h | h <;> simp [hservice, h]))

/-- One that draws no random value. -/
theorem exec_v2gMessage_plain {s z : State} {t : Nat} {c : CtxNo} {m : V2g} (hm : asksRandom m = false) (hz : z = s.advance t)
    (hservice : z.startup.mode = .service) (hst : (z.bctx c.val).st.running = true ∨ (z.bctx c.val).st = .ending) :
    exec (.v2gMessage t c m) s = .next (z.vehicleMsg c.val m) := by
  rw [exec_v2gMessage_eq m hz hservice hst, hm]
  rfl

/-- The value drawn for a context is the holder's (R338). -/
theorem State.drawRandom_bctx_same (s : State) (c : CtxNo) : (s.drawRandom c).bctx c.val =
    { s.bctx c.val with random := if s.decides then some (randomValue s.free) else (s.bctx c.val).random } := by
  unfold State.drawRandom
  cases h : s.decides with
  | false => rfl
  | true =>
    extract_lets v y
    have hy : y.bctx c.val = { s.bctx c.val with random := some v } :=
      (State.bctx_modCtx_same _ c.isLt _).trans (by rw [State.bctx_of_chg (State.nextFree_chg s) rfl])
    simp only [Bool.not_true, Bool.false_eq_true, if_false, if_true]
    split
    · exact hy
    · exact hy
    · exact hy

theorem State.drawRandom_bctx_other (s : State) {c d : CtxNo} (h : d ≠ c) : (s.drawRandom c).bctx d.val = s.bctx d.val := by
  unfold State.drawRandom
  extract_lets v y
  have hy : y.bctx d.val = s.bctx d.val :=
    (State.bctx_modCtx_other _ (CtxNo.val_ne h) _).trans (State.bctx_of_chg (State.nextFree_chg s) rfl _)
  split
  · rfl
  · split
    · exact hy
    · exact hy
    · exact hy

/-! The other contexts. -/

/-- A context stands as it does, at an instant. -/
structure Aside (d : Nat) (x : Ctx) (now : Nat) (s : State) : Prop where
  ctx : s.bctx d = x
  clock : s.time.clock = now

section
variable {c d : Nat} {x : Ctx} {now : Nat} {s : State}

theorem Aside.of_chg {L : List Part} {u : State} (h : Aside d x now s) (k : Chg L s u) (hb : L.contains .barker = false)
    (ht : L.contains .time = false) : Aside d x now u :=
  ⟨(State.bctx_of_chg k hb d).trans h.ctx, by rw [k.time ht]; exact h.clock⟩

theorem Aside.modCtx (h : Aside d x now s) (hd : d ≠ c) (f : Ctx → Ctx) : Aside d x now (s.modCtx c f) :=
  ⟨(s.bctx_modCtx_other hd f).trans h.ctx, h.clock⟩

theorem Aside.modDisp (h : Aside d x now s) (o : Nat) (f : Disp → Disp) : Aside d x now (s.modDisp o f) := ⟨h.ctx, h.clock⟩

theorem Aside.raise (h : Aside d x now s) (e : Ev) (val : List Int) : Aside d x now (s.raise e val) := ⟨h.ctx, h.clock⟩

theorem Aside.ite {p : Prop} [Decidable p] {a b : State} (h : Aside d x now a) (k : Aside d x now b) :
    Aside d x now (if p then a else b) := by
  split
  · exact h
  · exact k

theorem Aside.respond (h : Aside d x now s) (hd : d ≠ c) (code : Nat) (vals : List Int) : Aside d x now (s.respond c code vals) :=
  h.modCtx hd _

theorem Aside.refreshReq (h : Aside d x now s) (hd : d ≠ c) : Aside d x now (s.refreshReq c) := .ite (h.modCtx hd _) h

theorem Aside.checkVoltage (h : Aside d x now s) (hd : d ≠ c) : Aside d x now (s.checkVoltage c) := by
  unfold State.checkVoltage
  extract_lets y v
  refine .ite h ?_
  split
  · exact h.modCtx hd _
  · exact h.modCtx hd _
  · exact h

theorem Aside.grant (h : Aside d x now s) (hd : d ≠ c) : Aside d x now (s.grant c) := by
  unfold State.grant
  extract_lets y k w
  have hw : Aside d x now w := (h.modCtx hd _).raise ..
  exact hw.of_chg (State.sessionStart_chg ..) rfl rfl

variable (hbusy : x.st ≠ .free)
include hbusy

/-- A plug-in takes a FREE context only. -/
theorem Aside.plugIn (h : Aside d x now s) (o : Nat) : Aside d x now (s.plugIn o) := by
  have hwait : Aside d x now (if (s.outletDisp o).waiting then s else
      (s.modDisp o fun y => { y with waiting := true }).raise .plugWait [o]) := .ite h ((h.modDisp ..).raise ..)
  unfold State.plugIn
  refine .ite h ?_
  split
  · next c hfind =>
    have hd : d ≠ c := by
      intro hdc
      have hfree := List.find?_some hfind
      rw [← hdc, h.ctx] at hfree
      exact hbusy (of_decide_eq_true hfree)
    refine .ite hwait ?_
    extract_lets y w v
    have hy : Aside d x now y := (h.modDisp ..).modCtx hd _
    have hw : Aside d x now w := .ite (hy.of_chg (State.plugCredit_chg ..) rfl rfl) (hy.of_chg (State.modTok_chg ..) rfl rfl)
    have hv : Aside d x now v := hw.of_chg (State.modJug_chg ..) rfl rfl
    exact (hv.of_chg (State.notQuiet_chg ..) rfl rfl).raise ..
  · exact hwait

variable (hearlier : x.st = .setup → x.plugAt ≠ now)
include hearlier

/-- A context gives up what it has begun only in the tick of its plug-in. -/
theorem Aside.rechoose (h : Aside d x now s) (hd : d ≠ c) : Aside d x now (s.rechoose c) := by
  unfold State.rechoose
  extract_lets y n w
  split
  · next hcond =>
    simp only [Bool.and_eq_true, decide_eq_true_eq] at hcond
    obtain ⟨⟨⟨-, hsetup⟩, hplug⟩, -⟩ := hcond
    have hup : d ≠ c + 1 := by
      intro hdc
      have hy : y = x := by rw [← h.ctx, hdc]
      exact hearlier (hy ▸ hsetup) (hy ▸ hplug.trans h.clock)
    have hw : Aside d x now w := (h.modCtx hd _).modCtx hup _
    exact hw.of_chg (State.modCore_chg ..) rfl rfl
  · exact h

theorem Aside.freeCtx (h : Aside d x now s) (hd : d ≠ c) (n : Nat) : Aside d x now (s.freeCtx c n) := by
  unfold State.freeCtx
  extract_lets y
  have hy : Aside d x now y := Aside.rechoose hbusy hearlier ((h.modCtx hd _).raise ..) hd
  exact .ite (Aside.plugIn hbusy hy _) hy

theorem Aside.closeCtx (h : Aside d x now s) (hd : d ≠ c) (cause : Nat) : Aside d x now (s.closeCtx c cause) := by
  unfold State.closeCtx
  extract_lets o y w r v
  have hy : Aside d x now y := (h.modCtx hd _).raise ..
  split
  · exact (hy.of_chg (State.endPeriod_chg ..) rfl rfl).of_chg (State.closeSession_chg ..) rfl rfl
  · have hr : Aside d x now r.2 := by
      unfold r
      split
      · exact hy.of_chg (State.returnCredit_chg ..) rfl rfl
      · exact hy
    have hv : Aside d x now v := hr.of_chg (State.modCore_chg ..) rfl rfl
    exact Aside.freeCtx hbusy hearlier (hv.of_chg (State.issueChange_chg ..) rfl rfl) hd 0

theorem Aside.tryClose (h : Aside d x now s) (hd : d ≠ c) : Aside d x now (s.tryClose c) :=
  .ite (Aside.closeCtx hbusy hearlier h hd _) h

theorem Aside.endCtx (h : Aside d x now s) (hd : d ≠ c) (cause : Nat) : Aside d x now (s.endCtx c cause) := by
  unfold State.endCtx
  extract_lets y w v
  have hw : Aside d x now w := (h.modCtx hd _).raise ..
  have hv : Aside d x now v := .ite (hw.of_chg (State.sessionIdle_chg ..) rfl rfl) hw
  exact .ite h (Aside.tryClose hbusy hearlier hv hd)

theorem Aside.pauseCtx (h : Aside d x now s) (hd : d ≠ c) : Aside d x now (s.pauseCtx c) := by
  unfold State.pauseCtx
  extract_lets y l val a
  have ha : Aside d x now a := h.modCtx hd _
  split
  · exact .ite h ((h.modCtx hd _).raise ..)
  · exact .ite (((h.modCtx hd _).refreshReq hd).raise ..) (.ite ha (ha.raise ..))
  · exact .ite (Aside.endCtx hbusy hearlier h hd 8) h
  · exact h

theorem Aside.sequenceError (h : Aside d x now s) (hd : d ≠ c) : Aside d x now (s.sequenceError c) :=
  Aside.endCtx hbusy hearlier (h.respond hd ..) hd 3

theorem Aside.vehicleStop (h : Aside d x now s) (hd : d ≠ c) : Aside d x now (s.vehicleStop c) :=
  Aside.endCtx hbusy hearlier (h.respond hd ..) hd _

theorem Aside.msgProtocol (h : Aside d x now s) (hd : d ≠ c) (offered : List (Fin 4)) (tls : Bool) :
    Aside d x now (s.msgProtocol c offered tls) := by
  unfold State.msgProtocol
  refine .ite (Aside.sequenceError hbusy hearlier h hd) ?_
  dsimp only
  split
  · exact (h.modCtx hd _).respond hd ..
  · exact Aside.endCtx hbusy hearlier (h.respond hd ..) hd 3

theorem Aside.msgAuthorization (h : Aside d x now s) (hd : d ≠ c) (id : IdKind) (ok : Bool) (emaid : List Byte) :
    Aside d x now (s.msgAuthorization c id ok emaid) := by
  unfold State.msgAuthorization
  extract_lets y a b
  refine .ite (Aside.sequenceError hbusy hearlier h hd) ?_
  have ha : Aside d x now a := .ite (h.modCtx hd _) h
  have hb : Aside d x now b := ha.modCtx hd _
  split
  · exact (hb.grant hd).respond hd ..
  · exact hb.respond hd ..
  · exact Aside.endCtx hbusy hearlier ((hb.respond hd ..).raise ..) hd 3

theorem Aside.msgCableCheck (h : Aside d x now s) (hd : d ≠ c) : Aside d x now (s.msgCableCheck c) := by
  unfold State.msgCableCheck
  extract_lets y a b
  have ha : Aside d x now a := .ite (h.modCtx hd _) h
  have hb : Aside d x now b := (((ha.checkVoltage hd).refreshReq hd).respond hd ..)
  exact .ite (Aside.sequenceError hbusy hearlier h hd) (Aside.pauseCtx hbusy hearlier hb hd)

theorem Aside.msgPowerDelivery (h : Aside d x now s) (hd : d ≠ c) (start : Bool) :
    Aside d x now (s.msgPowerDelivery c start) := by
  unfold State.msgPowerDelivery
  dsimp only
  split
  case h_1 =>
    refine .ite (Aside.sequenceError hbusy hearlier h hd) ?_
    exact Aside.pauseCtx hbusy hearlier ((((h.modCtx hd _).raise ..).refreshReq hd).respond hd ..) hd
  case h_2 | h_3 => exact h.respond hd ..
  case h_4 | h_5 | h_6 => exact Aside.vehicleStop hbusy hearlier h hd
  case h_7 => exact Aside.sequenceError hbusy hearlier h hd

/-- A message of one context leaves another that is neither FREE nor taken in this very tick (R334, log 149). -/
theorem Aside.vehicleMsg (h : Aside d x now s) (hd : d ≠ c) (m : V2g) : Aside d x now (s.vehicleMsg c m) := by
  have herr : Aside d x now (s.sequenceError c) := Aside.sequenceError hbusy hearlier h hd
  cases m with
  | undecodable => exact herr
  | tooLarge len =>
    exact .ite h (Aside.tryClose hbusy hearlier
      (Aside.endCtx hbusy hearlier ((h.modCtx hd _).respond hd ..) hd 3) hd)
  | appProtocol offered tls => exact Aside.msgProtocol hbusy hearlier h hd offered tls
  | sessionSetup => exact .ite (h.respond hd ..) herr
  | serviceSelection ok => exact .ite (h.respond hd ..) herr
  | certificateRequest => exact h.respond hd ..
  | authorization id ok emaid => exact Aside.msgAuthorization hbusy hearlier h hd id ok emaid
  | parameterDiscovery v i p dynamic => exact .ite herr (((h.modCtx hd _).refreshReq hd).respond hd ..)
  | cableCheck => exact Aside.msgCableCheck hbusy hearlier h hd
  | preCharge v i pv => exact .ite herr ((((h.modCtx hd _).checkVoltage hd).refreshReq hd).respond hd ..)
  | powerDelivery start => exact Aside.msgPowerDelivery hbusy hearlier h hd start
  | currentDemand v i mv mi mp pv => exact .ite herr (((h.modCtx hd _).refreshReq hd).respond hd ..)
  | weldingDetection => exact .ite ((h.modCtx hd _).respond hd ..) herr
  | sessionStop => exact Aside.tryClose hbusy hearlier (Aside.vehicleStop hbusy hearlier (h.modCtx hd _) hd) hd
  | tcpClosed =>
    exact Aside.tryClose hbusy hearlier (Aside.endCtx hbusy hearlier (h.modCtx hd _) hd 3) hd
end

end Sys2Proof.Machine
end

section
/-!
Proofs of the statements about the authorisation of vehicles (chapter 9).
-/
namespace Sys2Proof.Machine
open Sys2Proof Sys2Proof.Config

/-- What R337 decides for a context depends on its protocol, transport security and policy, and on the credit. -/
theorem State.authorise_congr {s u : State} {c : Nat} (hprotocol : (u.bctx c).protocol = (s.bctx c).protocol)
    (htls : (u.bctx c).tls = (s.bctx c).tls) (hpol : (u.bctx c).pol = (s.bctx c).pol) (hst : u.startup = s.startup)
    (hscribe : u.scribe = s.scribe) (id : IdKind) (ok : Bool) : u.authorise c id ok = s.authorise c id ok := by
  have hctx : u.ctxPol c = s.ctxPol c := by simp only [State.ctxPol, State.rec1, State.recs, hpol, hst]
  have hmin : u.authMin = s.authMin := by simp only [State.authMin, State.tokenPolicy, State.rec1, State.recs, hst]
  have hcredit : u.creditOf c = s.creditOf c := by simp only [State.creditOf, hscribe]
  simp only [State.authorise, hprotocol, htls, hctx, hst, hmin, hcredit]

/-- A context that asks for an authorisation. -/
def State.asksAuth (s : State) (c : Nat) (id : IdKind) (emaid : List Byte) : State :=
  (s.modCtx c fun x => { x with st := .auth, authAt := s.time.clock }).modCtx c fun x => { x with ident := some id, emaid }

theorem State.asksAuth_bctx_same (s : State) (c : CtxNo) (id : IdKind) (emaid : List Byte) :
    (s.asksAuth c.val id emaid).bctx c.val =
      { s.bctx c.val with st := .auth, authAt := s.time.clock, ident := some id, emaid := emaid } := by
  rw [State.asksAuth, State.bctx_modCtx_same _ c.isLt, s.bctx_modCtx_same c.isLt]

theorem State.asksAuth_bctx_other (s : State) {c d : CtxNo} (h : d ≠ c) (id : IdKind) (emaid : List Byte) :
    (s.asksAuth c.val id emaid).bctx d.val = s.bctx d.val :=
  (State.bctx_modCtx_other _ (CtxNo.val_ne h) _).trans (s.bctx_modCtx_other (CtxNo.val_ne h) _)

/-- The answer to an authorisation request. -/
def State.answerAuth (s : State) (c : Nat) : AuthResult → State
  | .granted => (s.grant c).respond c 0
  | .ongoing => s.respond c 1
  | .refused => ((s.respond c 2).raise .sessionRefused [c, 0]).endCtx c 3

/-- An authorisation request from SETUP, once the protocol is chosen. -/
theorem exec_authorization_eq {s z : State} {t : Nat} {c : CtxNo} {id : IdKind} {ok : Bool} {em : List Byte} {r : AuthResult}
    (hz : z = s.advance t) (hservice : z.startup.mode = .service) (hst : (z.bctx c.val).st = .setup)
    (hprotocol : (z.bctx c.val).protocol ≠ 0) (hr : z.authorise c.val id ok = r) :
    exec (.v2gMessage t c (.authorization id ok em)) s = .next ((z.asksAuth c.val id em).answerAuth c.val r) := by
  have hctx := z.asksAuth_bctx_same c id em
  have hauth : (z.asksAuth c.val id em).authorise c.val id ok = r :=
    (State.authorise_congr (s := z) (u := z.asksAuth c.val id em) (by rw [hctx]) (by rw [hctx]) (by rw [hctx]) rfl rfl id ok).trans hr
  rw [exec_v2gMessage_plain rfl hz hservice (.inl (by rw [hst]; rfl))]
  show Host.Outcome.next (z.msgAuthorization c.val id ok em) = _
  unfold State.msgAuthorization
  extract_lets x a b
  have hb : b = z.asksAuth c.val id em := by
    unfold b a
    rw [if_pos hst]
    rfl
  rw [if_neg (by simp [x, hst, hprotocol]), hb, hauth]
  cases r <;> rfl

theorem State.grant_bctx_same (s : State) (c : CtxNo) :
    (s.grant c.val).bctx c.val = { s.bctx c.val with st := .checks, deliver := true } := by
  unfold State.grant
  extract_lets x k y
  rw [State.bctx_of_chg (State.sessionStart_chg ..) rfl]
  exact s.bctx_modCtx_same c.isLt _

theorem State.grant_bctx_other (s : State) {c d : CtxNo} (h : d ≠ c) : (s.grant c.val).bctx d.val = s.bctx d.val := by
  unfold State.grant
  extract_lets x k y
  rw [State.bctx_of_chg (State.sessionStart_chg ..) rfl]
  exact s.bctx_modCtx_other (CtxNo.val_ne h) _

/-- The protocol of a context's handshake is chosen (R367). -/
theorem State.msgProtocol_some {s : State} {c : CtxNo} {l : List (Fin 4)} {tls : Bool} {q : Nat} (hst : (s.bctx c.val).st = .setup)
    (hprotocol : (s.bctx c.val).protocol = 0) (hq : s.chooseProtocol (ctxOutlet c.val) (s.rec1 0x0803) l tls = some q) :
    s.msgProtocol c.val l tls = (s.modCtx c.val fun x =>
      { x with protocol := q, tls := tls && q ≠ 1, pol := s.rec1 0x0803 }).respond c.val 0 [q] := by
  unfold State.msgProtocol
  rw [if_neg (by simp [hst, hprotocol])]
  dsimp only
  rw [hq]

/-- Settles O42: the handshake fixes the protocol, an authorisation is granted, ongoing or refused, and a message of one context leaves
the others. -/
theorem vehicleAuthorisation : Obligations.VehicleAuthorisation := by
  unfold Obligations.VehicleAuthorisation
  refine ⟨?_, ?_, ?_, ?_, ?_, ?_, ?_⟩
  · intro s z t c l tls q hz hservice hst hprotocol hq
    have hrun : (z.bctx c.val).st.running = true := by rw [hst]; rfl
    have hexec := exec_v2gMessage_eq (t := t) (.appProtocol l tls) hz hservice (.inl hrun)
    let y := if tls then z.drawRandom c else z
    have hchg : Chg [.free, .barker, .pair] z y := by
      unfold y
      split
      · exact State.drawRandom_chg ..
      · exact Chg.refl _ _
    have hy : y.bctx c.val = { z.bctx c.val with
        random := if tls && z.decides then some (randomValue z.free) else (z.bctx c.val).random } := by
      unfold y
      cases tls with
      | true => exact z.drawRandom_bctx_same c
      | false => rfl
    have hother (d : CtxNo) (hd : d ≠ c) : y.bctx d.val = z.bctx d.val := by
      unfold y
      cases tls with
      | true => exact z.drawRandom_bctx_other hd
      | false => rfl
    have hrec : y.rec1 0x0803 = z.rec1 0x0803 := by simp only [State.rec1, State.recs, hchg.startup rfl]
    have hq' : y.chooseProtocol (ctxOutlet c.val) (y.rec1 0x0803) l tls = some q := by
      rw [hrec, ← hq]
      have hdisp (o : Nat) : y.dispRec o = z.dispRec o := by simp only [State.dispRec, State.recAt, State.recs, hchg.startup rfl]
      unfold State.chooseProtocol
      simp only [hdisp]
    have hmsg := State.msgProtocol_some (s := y) (by rw [hy]; exact hst) (by rw [hy]; exact hprotocol) hq'
    have hexec' : exec (.v2gMessage t c (.appProtocol l tls)) s = .next (y.msgProtocol c.val l tls) := hexec
    rw [hmsg, hrec] at hexec'
    have hframe := Chg.of_exec (execV2gMessage_chg t c (.appProtocol l tls) s) hexec'
    rw [← hz] at hframe
    refine ⟨_, hexec', ?_, fun d hd => ?_, hchg.scribe rfl, Only.of_chg hframe (by decide)⟩
    · rw [State.respond_bctx_same, State.bctx_modCtx_same _ c.isLt, hy]
      rfl
    · rw [State.respond_bctx_other _ hd, State.bctx_modCtx_other _ (CtxNo.val_ne hd), hother d hd]
  · intro s z t c id ok em hz hservice hst hprotocol hr
    have hexec := exec_authorization_eq (t := t) (em := em) hz hservice hst hprotocol hr
    have hctx : ((z.asksAuth c.val id em).answerAuth c.val .granted).bctx c.val = _ :=
      (State.respond_bctx_same ..).trans (by rw [State.grant_bctx_same, State.asksAuth_bctx_same])
    refine ⟨_, hexec, by rw [hctx], by rw [hctx], by rw [hctx], by rw [hctx]; rfl, fun d hd => ?_,
      Only.of_chg (Chg.of_exec (hz ▸ execV2gMessage_chg t c _ s) hexec) (by decide)⟩
    exact (State.respond_bctx_other _ hd ..).trans ((State.grant_bctx_other _ hd).trans (z.asksAuth_bctx_other hd ..))
  · intro s z t c id ok em hz hservice hst hprotocol hr
    have hexec := exec_authorization_eq (t := t) (em := em) hz hservice hst hprotocol hr
    have hctx : ((z.asksAuth c.val id em).answerAuth c.val .ongoing).bctx c.val = _ :=
      (State.respond_bctx_same ..).trans (by rw [State.asksAuth_bctx_same])
    refine ⟨_, hexec, by rw [hctx], by rw [hctx], by rw [hctx]; rfl, by rw [hctx], fun d hd => ?_,
      Only.of_chg (Chg.of_exec (hz ▸ execV2gMessage_chg t c _ s) hexec) (by decide)⟩
    exact (State.respond_bctx_other _ hd ..).trans (z.asksAuth_bctx_other hd ..)
  · intro s z t c id ok em hz hservice hst hprotocol hgoes hr
    have hexec := exec_authorization_eq (t := t) (em := em) hz hservice hst hprotocol hr
    let y := ((z.asksAuth c.val id em).respond c.val 2).raise .sessionRefused [(c.val : Int), 0]
    have hy : y.bctx c.val = _ := (State.respond_bctx_same ..).trans (by rw [State.asksAuth_bctx_same])
    have hctx : ((z.asksAuth c.val id em).answerAuth c.val .refused).bctx c.val = _ :=
      State.endCtx_bctx_same (s := y) 3 (by rw [hy]; rfl) (by rw [hy]; exact hgoes)
    rw [hy] at hctx
    exact ⟨_, hexec, by rw [hctx]; rfl, by rw [hctx]; rfl, by rw [hctx]; rfl,
      Only.of_chg (Chg.of_exec (hz ▸ execV2gMessage_chg t c _ s) hexec) (by decide)⟩
  · intro s z t c hz hservice hrun hgoes
    have hexec := exec_v2gMessage_plain (t := t) (m := .undecodable) rfl hz hservice (.inl hrun)
    have hy := z.respond_bctx_same c 3 []
    have hrun' : ((z.respond c.val 3).bctx c.val).st.running = true := by rw [hy]; exact hrun
    have hgoes' : ((z.respond c.val 3).bctx c.val).stopped = false := by rw [hy]; exact hgoes
    have hctx : (z.vehicleMsg c.val .undecodable).bctx c.val = _ := State.endCtx_bctx_same 3 hrun' hgoes'
    rw [hy] at hctx
    refine ⟨_, hexec, by rw [hctx]; rfl, by rw [hctx]; rfl, by rw [hctx]; rfl, by rw [hctx]; rfl, fun d hd => ?_,
      Only.of_chg (Chg.of_exec (hz ▸ execV2gMessage_chg t c _ s) hexec) (by decide)⟩
    exact (State.endCtx_bctx_other hd 3 hrun' hgoes').trans (z.respond_bctx_other hd ..)
  · intro s z t c m hz hidle
    refine ⟨z, ?_, rfl⟩
    show execV2gMessage t c m s = _
    unfold execV2gMessage
    rw [← hz]
    refine congrArg Host.Outcome.next (if_neg ?_)
    rcases hidle with h | h | h <;> simp [h, CtxState.running]
  · intro s z t c d m hz hd hbusy hearlier
    have hz' : Aside d.val (z.bctx d.val) z.time.clock z := ⟨rfl, rfl⟩
    obtain ⟨u, hexec, hu⟩ : ∃ u, exec (.v2gMessage t c m) s = .next u ∧ u.bctx d.val = z.bctx d.val := by
      by_cases hguard : z.startup.mode = .service ∧ ((z.bctx c.val).st.running = true ∨ (z.bctx c.val).st = .ending)
      · refine ⟨_, exec_v2gMessage_eq m hz hguard.1 hguard.2, ?_⟩
        have hy : Aside d.val (z.bctx d.val) z.time.clock (if asksRandom m then z.drawRandom c else z) := by
          refine .ite ⟨z.drawRandom_bctx_other hd, ?_⟩ hz'
          rw [(State.drawRandom_chg z c).time rfl]
        exact (Aside.vehicleMsg hbusy hearlier hy (CtxNo.val_ne hd) m).ctx
      · refine ⟨z, ?_, rfl⟩
        show execV2gMessage t c m s = _
        unfold execV2gMessage
        rw [← hz]
        exact congrArg Host.Outcome.next (if_neg (by simpa using hguard))
    exact ⟨u, hexec, hu, Only.of_chg (Chg.of_exec (hz ▸ execV2gMessage_chg t c m s) hexec) (by decide)⟩

end Sys2Proof.Machine
end

section
/-!
Proofs of the statements about the delivery of a session and its timers (chapter 9).
-/
namespace Sys2Proof.Machine
open Sys2Proof Sys2Proof.Config

/-! What a context makes of a voltage and of the causes of a pause. -/

/-- The voltage of a cable check is within its tolerance (R359). -/
def State.voltageNear (s : State) (c : Nat) : Bool :=
  decide ((max (s.outletVoltage (ctxOutlet c)) (s.ccVoltage c) - min (s.outletVoltage (ctxOutlet c)) (s.ccVoltage c)) * 256 ≤
    s.ccVoltage c * polCcTol (s.ctxPol c))

theorem State.checkVoltage_of_cable {s : State} {c : Nat} (hst : (s.bctx c).st = .checks) (hphase : (s.bctx c).phase = .cable) :
    s.checkVoltage c =
      s.modCtx c fun x => { x with ccSince := if s.voltageNear c then some (x.ccSince.getD s.time.clock) else none } := by
  unfold State.checkVoltage
  simp only [hst, hphase]
  rfl

theorem State.checkVoltage_of_precharge {s : State} {c : Nat} (hst : (s.bctx c).st = .checks)
    (hphase : (s.bctx c).phase = .precharge) : ∃ b, s.checkVoltage c = s.modCtx c fun x => { x with precharged := b } := by
  unfold State.checkVoltage
  simp only [hst, hphase]
  exact ⟨_, rfl⟩

theorem State.pauseCtx_of_delivering {s : State} {c : Nat} (hst : (s.bctx c).st = .delivering)
    (hnone : s.pauseCauses (ctxOutlet c) = []) : s.pauseCtx c = s := by
  unfold State.pauseCtx
  simp only [hst, hnone, if_true]

theorem State.pauseCtx_of_checks {s : State} {c : Nat} (hst : (s.bctx c).st = .checks)
    (hgood : s.insulationAlarm (ctxOutlet c) = false) : s.pauseCtx c = s := by
  unfold State.pauseCtx
  simp [hst, hgood]

/-- A pause whose causes hold goes on, with its causes of now. -/
theorem State.pauseCtx_of_paused {s : State} {c : CtxNo} (hst : (s.bctx c.val).st = .paused)
    (hcauses : s.pauseCauses (ctxOutlet c.val) ≠ []) :
    (s.pauseCtx c.val).bctx c.val = { s.bctx c.val with causes := s.pauseCauses (ctxOutlet c.val) } ∧
      ∀ d : CtxNo, d ≠ c → (s.pauseCtx c.val).bctx d.val = s.bctx d.val := by
  let y := s.modCtx c.val fun x => { x with causes := s.pauseCauses (ctxOutlet c.val) }
  have hbarker : (s.pauseCtx c.val).barker = y.barker := by
    unfold State.pauseCtx
    simp only [hst, if_neg hcauses]
    split
    · rfl
    · rfl
  refine ⟨(State.bctx_of_barker hbarker _).trans (s.bctx_modCtx_same c.isLt _), fun d hd => ?_⟩
  exact (State.bctx_of_barker hbarker _).trans (s.bctx_modCtx_other (CtxNo.val_ne hd) _)

theorem State.insulationAlarm_of_safety {s u : State} (h : u.safety = s.safety) (o : Nat) :
    u.insulationAlarm o = s.insulationAlarm o := by simp only [State.insulationAlarm, State.safeFns, State.safeFn, h]

theorem State.pauseCauses_congr {s u : State} (hsafety : u.safety = s.safety) (hthermal : u.thermal = s.thermal)
    (hst : u.startup = s.startup) (hdisps : u.barker.disps = s.barker.disps) (o : Nat) : u.pauseCauses o = s.pauseCauses o := by
  have hinst (n : Nat) : u.instRec n = s.instRec n := by simp only [State.instRec, State.recAt, State.recs, hst]
  have hheat : u.thermalPause o = s.thermalPause o := by simp only [State.thermalPause, hinst, hthermal]
  have hfn (n : Nat) : u.safeFn n = s.safeFn n := by simp only [State.safeFn, hsafety]
  have hsafe : u.safetyPause o = s.safetyPause o := by
    simp only [State.safetyPause, State.ownPause, State.safeFns, hfn, hsafety]
  have hdisp : u.outletDisp o = s.outletDisp o := by simp only [State.outletDisp, hdisps]
  simp only [State.pauseCauses, hsafe, hheat, hdisp]

theorem State.disps_refreshReq (s : State) (c : Nat) : (s.refreshReq c).barker.disps = s.barker.disps := by
  unfold State.refreshReq
  extract_lets st
  split
  · rfl
  · rfl

/-- A state whose contexts alone differ. -/
theorem State.ccVoltage_of_ctx {s u : State} {c : Nat} (hmax : (u.bctx c).evMax = (s.bctx c).evMax) (hst : u.startup = s.startup) :
    u.ccVoltage c = s.ccVoltage c := by
  simp only [State.ccVoltage, State.vRatedOf, State.outletNode, State.policy, State.rec1, State.recs, hmax, hst]

theorem State.ctxPol_of_ctx {s u : State} {c : Nat} (hpol : (u.bctx c).pol = (s.bctx c).pol) (hst : u.startup = s.startup) :
    u.ctxPol c = s.ctxPol c := by
  simp only [State.ctxPol, State.rec1, State.recs, hpol, hst]

theorem State.retryAuth_of_refused {s : State} {c : Nat}
    (h : ∀ id, (s.bctx c).ident = some id → s.authorise c id true ≠ .granted) : s.retryAuth c = s := by
  unfold State.retryAuth
  extract_lets x
  split
  · next id hauth hid => exact if_neg (h id hid)
  · rfl

/-- The parameters of the vehicle are taken in CHECKS (R358). -/
theorem State.msgDiscovery_of_checks (s : State) {c : CtxNo} (v i : Nat) (p : Option Nat) (dyn : Bool)
    (hst : (s.bctx c.val).st = .checks) : ∃ (y : State) (vals : List Int),
      s.msgDiscovery c.val v i p dyn = (y.refreshReq c.val).respond c.val 0 vals ∧
      y.bctx c.val = { s.bctx c.val with
        evMax := (v, i, p), dynamic := dyn && (s.bctx c.val).protocol = 3, phase := .discovery, ccOk := false, ccSince := none } ∧
      ∀ d : CtxNo, d ≠ c → y.bctx d.val = s.bctx d.val := by
  refine ⟨_, _, if_neg (not_not_intro hst), s.bctx_modCtx_same c.isLt _, fun d hd => s.bctx_modCtx_other (CtxNo.val_ne hd) _⟩

theorem v2gMessage_only {s z u : State} {t : Nat} {c : CtxNo} {m : V2g} (hz : z = s.advance t)
    (hexec : exec (.v2gMessage t c m) s = .next u) :
    Only [.free, .juggler, .barker, .scribe, .keys, .update, .pair, .port, .tokens] z u := by
  have hchg := Chg.of_exec (execV2gMessage_chg t c m s) hexec
  rw [← hz] at hchg
  exact .of_chg hchg (by decide)

theorem cableCheck_only {s z u : State} {t : Nat} {c : CtxNo} (hz : z = s.advance t)
    (hexec : exec (.cableCheck t c) s = .next u) :
    Only [.juggler, .barker, .scribe, .keys, .update, .port, .tokens] z u := by
  have hchg := Chg.of_exec (execCableCheck_chg t c s) hexec
  rw [← hz] at hchg
  exact .of_chg hchg (by decide)

/-- A cable check without an insulation alarm compares the voltage, and passes once it has stood for its time. -/
theorem exec_cableCheck_eq {s z w : State} {t : Nat} {c : CtxNo} (hz : z = s.advance t) (hst : (z.bctx c.val).st = .checks)
    (hphase : (z.bctx c.val).phase = .cable) (hgood : z.insulationAlarm (ctxOutlet c.val) = false)
    (hw : w = z.checkVoltage c.val) (p : Prop) [Decidable p]
    (hheld : p ↔ ∃ a, (w.bctx c.val).ccSince = some a ∧ a + polCcHold (z.ctxPol c.val) ≤ z.time.clock) :
    exec (.cableCheck t c) s = .next (if p then w.modCtx c.val fun x => { x with ccOk := true } else w) := by
  have hbctx : w.bctx c.val = { z.bctx c.val with
      ccSince := if z.voltageNear c.val then some ((z.bctx c.val).ccSince.getD z.time.clock) else none } := by
    rw [hw, State.checkVoltage_of_cable hst hphase, z.bctx_modCtx_same c.isLt]
  have hchg : Chg [.barker] z w := hw ▸ State.checkVoltage_chg ..
  have hwst : (w.bctx c.val).st = .checks := by rw [hbctx]; exact hst
  have hwphase : (w.bctx c.val).phase = .cable := by rw [hbctx]; exact hphase
  have hpol : w.ctxPol c.val = z.ctxPol c.val := State.ctxPol_of_ctx (by rw [hbctx]) (hchg.startup rfl)
  have hpause : w.pauseCtx c.val = w :=
    State.pauseCtx_of_checks hwst ((State.insulationAlarm_of_safety (hchg.safety rfl) _).trans hgood)
  show execCableCheck t c s = _
  unfold execCableCheck
  rw [← hz]
  dsimp only
  rw [← hw, hpause, hpol, hchg.time rfl]
  refine congrArg Host.Outcome.next (if_congr ?_ rfl rfl)
  rw [hheld]
  cases h : (w.bctx c.val).ccSince with
  | none => simp
  | some a => simp [hwst, hwphase]

/-- Settles O44: each timer of a session ends it with its cause, and a cable check passes or starts its time anew. -/
theorem sessionTimers : Obligations.SessionTimers := by
  unfold Obligations.SessionTimers
  refine ⟨fun c => ?_, fun c => ?_, ?_, fun c => ?_, ?_, ?_, ?_⟩
  · refine .of_submit (·.seccExpired c.val) (fun s z t hz hrun => ?_) (fun _ _ _ => rfl) fun z ⟨hrun, hgoes⟩ => ?_
    · show execSeccTimeout t c s = _
      unfold execSeccTimeout
      rw [← hz]
      exact congrArg Host.Outcome.next (if_pos hrun)
    · have hend : z.seccExpired c.val = z.endCtx c.val 4 := if_pos hrun
      have hctx := State.endCtx_bctx_same 4 hrun hgoes
      refine ⟨by rw [hend, hctx]; rfl, by rw [hend, hctx]; rfl, by rw [hend, hctx]; rfl, fun d hd => ?_,
        .of_chg (State.seccExpired_chg ..) (by decide)⟩
      rw [hend, State.endCtx_bctx_other hd 4 hrun hgoes]
  · refine .of_submit (·.authExpired c.val) (fun s z t hz ⟨hst, hlate⟩ => ?_) (fun _ _ _ => rfl) fun z ⟨hst, hgoes, hrefused⟩ => ?_
    · show execAuthWait t c s = _
      unfold execAuthWait
      rw [← hz]
      exact congrArg Host.Outcome.next (if_pos (by simpa [hst, State.expired] using hlate))
    · let y := z.raise .sessionRefused [c.val, 1]
      have hend : z.authExpired c.val = y.endCtx c.val 4 := by
        unfold State.authExpired
        rw [State.retryAuth_of_refused hrefused]
        exact if_pos hst
      have hrun : (y.bctx c.val).st.running = true := (congrArg CtxState.running hst).trans rfl
      have hctx := State.endCtx_bctx_same (s := y) 4 hrun hgoes
      refine ⟨by rw [hend, hctx]; rfl, by rw [hend, hctx]; rfl, fun d hd => ?_, .of_chg (State.authExpired_chg ..) (by decide)⟩
      rw [hend, State.endCtx_bctx_other hd 4 hrun hgoes]
      rfl
  · intro s z t c hz hst hearly
    refine ⟨_, ?_, rfl⟩
    show execAuthWait t c s = _
    unfold execAuthWait
    rw [← hz]
    exact congrArg Host.Outcome.next (if_neg (by simpa [hst, State.expired] using hearly))
  · refine .of_submit (·.pauseExpired c.val) (fun s z t hz ⟨hst, hlate⟩ => ?_) (fun _ _ _ => rfl) fun z ⟨hst, hgoes, hcauses⟩ => ?_
    · show execPauseMax t c s = _
      unfold execPauseMax
      rw [← hz]
      exact congrArg Host.Outcome.next (if_pos (by simpa [hst, State.expired] using hlate))
    · obtain ⟨hsame, hother⟩ := State.pauseCtx_of_paused hst hcauses
      have hpaused : ((z.pauseCtx c.val).bctx c.val).st = .paused := by rw [hsame]; exact hst
      have hend : z.pauseExpired c.val = (z.pauseCtx c.val).endCtx c.val 5 := if_pos hpaused
      have hrun : ((z.pauseCtx c.val).bctx c.val).st.running = true := by rw [hpaused]; rfl
      have hstopped : ((z.pauseCtx c.val).bctx c.val).stopped = false := by rw [hsame]; exact hgoes
      have hctx := State.endCtx_bctx_same 5 hrun hstopped
      refine ⟨by rw [hend, hctx]; rfl, by rw [hend, hctx]; rfl, fun d hd => ?_, .of_chg (State.pauseExpired_chg ..) (by decide)⟩
      rw [hend, State.endCtx_bctx_other hd 5 hrun hstopped, hother d hd]
  · intro s z t c a hz hst hphase hok hgood hsince hheld hnear
    have hv : z.voltageNear c.val = true := decide_eq_true hnear
    have hcheck := State.checkVoltage_of_cable hst hphase
    have hctx : (z.checkVoltage c.val).bctx c.val = z.bctx c.val := by
      rw [hcheck, z.bctx_modCtx_same c.isLt, hv, if_pos rfl, hsince]
      exact congrArg (fun r => { z.bctx c.val with ccSince := r }) hsince.symm
    have hexec := exec_cableCheck_eq (t := t) hz hst hphase hgood rfl True
      (iff_of_true trivial ⟨a, by rw [hctx]; exact hsince, hheld⟩)
    rw [if_pos trivial] at hexec
    refine ⟨_, hexec, ?_, fun d hd => ?_, cableCheck_only hz hexec⟩
    · rw [State.bctx_modCtx_same _ c.isLt, hctx]
    · rw [State.bctx_modCtx_other _ (CtxNo.val_ne hd), hcheck, z.bctx_modCtx_other (CtxNo.val_ne hd)]
  · intro s z t c hz hst hphase hok hgood hfar
    have hv : z.voltageNear c.val = false := decide_eq_false (Nat.not_le.mpr hfar)
    have hctx : (z.checkVoltage c.val).bctx c.val = { z.bctx c.val with ccSince := none } := by
      rw [State.checkVoltage_of_cable hst hphase, z.bctx_modCtx_same c.isLt, hv]
      rfl
    have hexec := exec_cableCheck_eq (t := t) hz hst hphase hgood rfl False
      (iff_of_false id fun ⟨_, hsome, _⟩ => by rw [hctx] at hsome; exact nomatch hsome)
    rw [if_neg id] at hexec
    exact ⟨_, hexec, hctx, cableCheck_only hz hexec⟩
  · intro s z t c hz hst hdeliver hlow
    have hexec : exec (.deliveringFlagClear t c) s =
        .next (z.modCtx c.val fun x => { x with deliver := false, stateF := badEnd x.endCause }) := by
      show execDeliveringFlagClear t c s = _
      unfold execDeliveringFlagClear
      rw [← hz]
      exact congrArg Host.Outcome.next (if_pos (by simp [hst, hdeliver, hlow]))
    have hchg := Chg.of_exec (execDeliveringFlagClear_chg t c s) hexec
    rw [← hz] at hchg
    exact ⟨_, hexec, z.bctx_modCtx_same c.isLt _, fun d hd => z.bctx_modCtx_other (CtxNo.val_ne hd) _, .of_chg hchg (by decide)⟩

/-- A response with the request formed anew. -/
theorem State.answered_bctx {s : State} {c : CtxNo} (h : (s.bctx c.val).st = .checks ∨ (s.bctx c.val).st = .delivering) (code : Nat)
    (vals : List Int) : ((s.refreshReq c.val).respond c.val code vals).bctx c.val =
      { s.bctx c.val with req := s.formReq c.val, reply := (code : Int) :: vals } := by
  rw [State.respond_bctx_same, State.refreshReq_bctx_same h]

theorem State.formReq_of_cable {s : State} {c : Nat} (h : (s.bctx c).phase = .cable) :
    s.formReq c = (polPreI (s.ctxPol c), polPreI (s.ctxPol c) * s.ccVoltage c / 100, s.ccVoltage c) := by simp [State.formReq, h]

theorem State.formReq_of_precharge {s : State} {c : Nat} (h : (s.bctx c).phase = .precharge) :
    s.formReq c = (min (polPreI (s.ctxPol c)) (s.bctx c).target.2, polPreI (s.ctxPol c) * (s.bctx c).target.1 / 100,
      (s.bctx c).target.1) := by simp [State.formReq, h]

theorem Chg.answered {L : List Part} {s u : State} (h : Chg L s u) (c code : Nat) (vals : List Int) (hL : L.contains .barker = true) :
    Chg L s ((u.refreshReq c).respond c code vals) :=
  (h.step (State.refreshReq_chg ..) (by simpa using hL)).step (State.respond_chg ..) (by simpa using hL)

/-- A message that starts the cable check. -/
theorem State.msgCableCheck_of_discovery {s : State} {c : CtxNo} (hst : (s.bctx c.val).st = .checks)
    (hphase : (s.bctx c.val).phase = .discovery) (hgood : s.insulationAlarm (ctxOutlet c.val) = false) :
    ((s.msgCableCheck c.val).bctx c.val).phase = .cable ∧ ((s.msgCableCheck c.val).bctx c.val).st = .checks ∧
      ((s.msgCableCheck c.val).bctx c.val).req =
        (polPreI (s.ctxPol c.val), polPreI (s.ctxPol c.val) * s.ccVoltage c.val / 100, s.ccVoltage c.val) := by
  let y := s.modCtx c.val fun x => { x with phase := .cable }
  have hy : y.bctx c.val = { s.bctx c.val with phase := .cable } := s.bctx_modCtx_same c.isLt _
  have hyst : (y.bctx c.val).st = .checks := by rw [hy]; exact hst
  let w := y.checkVoltage c.val
  have hw : w.bctx c.val = { y.bctx c.val with
      ccSince := if y.voltageNear c.val then some ((y.bctx c.val).ccSince.getD y.time.clock) else none } := by
    unfold w
    rw [State.checkVoltage_of_cable hyst (by rw [hy]), y.bctx_modCtx_same c.isLt]
  have hwst : (w.bctx c.val).st = .checks := by rw [hw]; exact hyst
  have hwphase : (w.bctx c.val).phase = .cable := by rw [hw, hy]
  have hchg : Chg [.barker] s w := (Chg.step (Chg.refl _ _) (State.modCtx_chg ..) rfl).step (State.checkVoltage_chg ..) rfl
  let u := (w.refreshReq c.val).respond c.val (if (s.bctx c.val).ccOk then 0 else 1) (y.presentVals c.val)
  have hu := State.answered_bctx (s := w) (c := c) (.inl hwst) (if (s.bctx c.val).ccOk then 0 else 1)
    (y.presentVals c.val)
  have hpause : u.pauseCtx c.val = u := State.pauseCtx_of_checks (by rw [hu]; exact hwst)
    ((State.insulationAlarm_of_safety ((hchg.answered _ _ _ rfl).safety rfl) _).trans hgood)
  have hmsg : s.msgCableCheck c.val = u := by
    unfold State.msgCableCheck
    simp only [hst, hphase]
    exact hpause
  have hpol : w.ctxPol c.val = s.ctxPol c.val := State.ctxPol_of_ctx (by rw [hw, hy]) (hchg.startup rfl)
  have hvolt : w.ccVoltage c.val = s.ccVoltage c.val := State.ccVoltage_of_ctx (by rw [hw, hy]) (hchg.startup rfl)
  rw [hmsg, hu]
  refine ⟨hwphase, hwst, ?_⟩
  rw [← hpol, ← hvolt]
  exact State.formReq_of_cable hwphase

/-- A message of the precharge, after a passed cable check. -/
theorem State.msgPreCharge_of_passed {s : State} {c : CtxNo} (v i : Nat) (pv : Option Nat) (hst : (s.bctx c.val).st = .checks)
    (hok : (s.bctx c.val).ccOk = true) :
    ((s.msgPreCharge c.val v i pv).bctx c.val).phase = .precharge ∧ ((s.msgPreCharge c.val v i pv).bctx c.val).target = (v, i) ∧
      ((s.msgPreCharge c.val v i pv).bctx c.val).req =
        (min (polPreI (s.ctxPol c.val)) i, polPreI (s.ctxPol c.val) * v / 100, v) := by
  let y := s.modCtx c.val fun x => { x with phase := .precharge, target := (v, i), presentV := pv <|> x.presentV }
  have hy : y.bctx c.val = { s.bctx c.val with
      phase := .precharge, target := (v, i), presentV := pv <|> (s.bctx c.val).presentV } := s.bctx_modCtx_same c.isLt _
  have hyst : (y.bctx c.val).st = .checks := by rw [hy]; exact hst
  obtain ⟨b, hcheck⟩ := State.checkVoltage_of_precharge (s := y) hyst (by rw [hy])
  have hw : (y.checkVoltage c.val).bctx c.val = { y.bctx c.val with precharged := b } := by
    rw [hcheck, y.bctx_modCtx_same c.isLt]
  have hwst : ((y.checkVoltage c.val).bctx c.val).st = .checks := by rw [hw]; exact hyst
  have hwphase : ((y.checkVoltage c.val).bctx c.val).phase = .precharge := by rw [hw, hy]
  have hchg : Chg [.barker] s (y.checkVoltage c.val) :=
    (Chg.step (Chg.refl _ _) (State.modCtx_chg ..) rfl).step (State.checkVoltage_chg ..) rfl
  have hmsg : ∃ code vals, s.msgPreCharge c.val v i pv = ((y.checkVoltage c.val).refreshReq c.val).respond c.val code vals :=
    ⟨_, _, if_neg (by simp [hst, hok])⟩
  obtain ⟨code, vals, hmsg⟩ := hmsg
  have hpol : (y.checkVoltage c.val).ctxPol c.val = s.ctxPol c.val := State.ctxPol_of_ctx (by rw [hw, hy]) (hchg.startup rfl)
  rw [hmsg, State.answered_bctx (.inl hwst)]
  refine ⟨hwphase, by rw [hw, hy], (State.formReq_of_precharge hwphase).trans ?_⟩
  rw [hpol, hw, hy]

/-- Delivery starts after a passed cable check, where nothing asks for a pause (R360). -/
theorem State.msgPowerDelivery_of_passed {s : State} {c : CtxNo} (hst : (s.bctx c.val).st = .checks)
    (hok : (s.bctx c.val).ccOk = true) (hnone : s.pauseCauses (ctxOutlet c.val) = []) :
    ((s.msgPowerDelivery c.val true).bctx c.val).st = .delivering ∧
      ((s.msgPowerDelivery c.val true).bctx c.val).phase = .delivering ∧
      (s.msgPowerDelivery c.val true).lastEv = some .deliveryStart := by
  let y := (s.modCtx c.val fun x => { x with st := .delivering, phase := .delivering }).raise .deliveryStart [c.val]
  have hy : y.bctx c.val = { s.bctx c.val with st := .delivering, phase := .delivering } := s.bctx_modCtx_same c.isLt _
  have hyst : (y.bctx c.val).st = .delivering := by rw [hy]
  have hchg : Chg [.barker, .port] s y := Chg.step (Chg.step (Chg.refl _ _) (State.modCtx_chg ..) rfl) (State.raise_chg ..) rfl
  let u := (y.refreshReq c.val).respond c.val 0 (y.presentVals c.val)
  have hu := State.answered_bctx (s := y) (c := c) (.inr hyst) 0 (y.presentVals c.val)
  have huchg : Chg [.barker, .port] s u := hchg.answered _ _ _ rfl
  have hlast : u.lastEv = some .deliveryStart :=
    (Chg.lastEv (Chg.answered (Chg.refl [.barker] y) _ _ _ rfl) rfl).trans (State.lastEv_raise ..)
  have hdisps : u.barker.disps = s.barker.disps := State.disps_refreshReq y c.val
  have hpause : u.pauseCtx c.val = u := State.pauseCtx_of_delivering (by rw [hu]; exact hyst)
    ((State.pauseCauses_congr (huchg.safety rfl) (huchg.thermal rfl) (huchg.startup rfl) hdisps _).trans hnone)
  have hmsg : s.msgPowerDelivery c.val true = u := by
    unfold State.msgPowerDelivery
    simp only [hst, hok]
    exact hpause
  rw [hmsg, hu, hy]
  exact ⟨rfl, rfl, hlast⟩

/-- A demand while the session delivers or pauses. -/
def State.demanded (s : State) (c v i mv mi : Nat) (mp pv : Option Nat) : State := s.modCtx c fun x =>
  { x with target := (v, i), evMax := (mv, mi, mp <|> x.evMax.2.2), presentV := pv <|> x.presentV }

theorem State.demanded_bctx_same (s : State) (c : CtxNo) (v i mv mi : Nat) (mp pv : Option Nat) :
    (s.demanded c.val v i mv mi mp pv).bctx c.val = { s.bctx c.val with
      target := (v, i), evMax := (mv, mi, mp <|> (s.bctx c.val).evMax.2.2), presentV := pv <|> (s.bctx c.val).presentV } :=
  s.bctx_modCtx_same c.isLt _

theorem State.msgDemand_eq {s : State} {c : CtxNo} (v i mv mi : Nat) (mp pv : Option Nat)
    (h : (s.bctx c.val).st = .delivering ∨ (s.bctx c.val).st = .paused) : s.msgDemand c.val v i mv mi mp pv =
      ((s.demanded c.val v i mv mi mp pv).refreshReq c.val).respond c.val 0
        ((s.demanded c.val v i mv mi mp pv).presentVals c.val) := by
  unfold State.msgDemand
  exact if_neg (by rcases h with h | h <;> simp [h])

/-- Settles O43: requests follow the phase of the session, and a stop ends it with the vehicle's cause. -/
theorem vehicleDelivery : Obligations.VehicleDelivery := by
  unfold Obligations.VehicleDelivery
  refine ⟨?_, ?_, ?_, ?_, ?_, ?_, ?_⟩
  · intro s z t c v i p dyn hz hservice hst
    have hexec := exec_v2gMessage_plain (t := t) (m := .parameterDiscovery v i p dyn) rfl hz hservice (.inl (by rw [hst]; rfl))
    obtain ⟨y, vals, hmsg, hctx, hother⟩ := z.msgDiscovery_of_checks v i p dyn hst
    have hu := State.answered_bctx (s := y) (c := c) (.inl (by rw [hctx]; exact hst)) 0 vals
    have hreq : y.formReq c.val = (0, 0, v) := by simp [State.formReq, hctx]
    rw [show z.vehicleMsg c.val (.parameterDiscovery v i p dyn) = _ from hmsg] at hexec
    refine ⟨_, hexec, by rw [hu, hctx], by rw [hu, hctx], by rw [hu]; exact hreq, by rw [hu, hctx], by rw [hu, hctx]; exact hst,
      fun d hd => ?_, v2gMessage_only hz hexec⟩
    rw [State.respond_bctx_other _ hd, State.refreshReq_bctx_other _ hd, hother d hd]
  · intro s z t c hz hservice hst hphase hgood
    have hexec := exec_v2gMessage_plain (t := t) (m := .cableCheck) rfl hz hservice (.inl (by rw [hst]; rfl))
    obtain ⟨hcable, hstays, hreq⟩ := State.msgCableCheck_of_discovery hst hphase hgood
    exact ⟨_, hexec, hcable, hstays, hreq, v2gMessage_only hz hexec⟩
  · intro s z t c v i pv hz hservice hst hok
    have hexec := exec_v2gMessage_plain (t := t) (m := .preCharge v i pv) rfl hz hservice (.inl (by rw [hst]; rfl))
    obtain ⟨hphase, htarget, hreq⟩ := State.msgPreCharge_of_passed v i pv hst hok
    exact ⟨_, hexec, hphase, htarget, hreq, v2gMessage_only hz hexec⟩
  · intro s z t c hz hservice hst hok hnone
    have hexec := exec_v2gMessage_plain (t := t) (m := .powerDelivery true) rfl hz hservice (.inl (by rw [hst]; rfl))
    obtain ⟨hdelivers, hphase, hlast⟩ := State.msgPowerDelivery_of_passed hst hok hnone
    exact ⟨_, hexec, hdelivers, hphase, hlast, v2gMessage_only hz hexec⟩
  · intro s z t c v i mv mi mp pv hz hservice hst
    have hexec := exec_v2gMessage_plain (t := t) (m := .currentDemand v i mv mi mp pv) rfl hz hservice (.inl (by rw [hst]; rfl))
    let y := z.demanded c.val v i mv mi mp pv
    have hy : y.bctx c.val = _ := z.demanded_bctx_same c v i mv mi mp pv
    have hyst : (y.bctx c.val).st = .delivering := by rw [hy]; exact hst
    let u := (y.refreshReq c.val).respond c.val 0 (y.presentVals c.val)
    have hu : u.bctx c.val = _ := State.answered_bctx (s := y) (.inr hyst) 0 (y.presentVals c.val)
    have hchg : Chg [.barker] y u := Chg.answered (Chg.refl _ _) _ _ _ rfl
    rw [show z.vehicleMsg c.val (.currentDemand v i mv mi mp pv) = u from State.msgDemand_eq v i mv mi mp pv (.inl hst)] at hexec
    refine ⟨_, hexec, by rw [hu, hy], ?_, by rw [hu]; exact hyst, fun d hd => ?_, hchg.scribe rfl, v2gMessage_only hz hexec⟩
    · rw [State.formReq_congr hu (hchg.startup rfl), hu]
    · exact (State.respond_bctx_other _ hd ..).trans ((State.refreshReq_bctx_other _ hd).trans
        (z.bctx_modCtx_other (CtxNo.val_ne hd) _))
  · intro s z t c v i mv mi mp pv hz hservice hst
    have hexec := exec_v2gMessage_plain (t := t) (m := .currentDemand v i mv mi mp pv) rfl hz hservice (.inl (by rw [hst]; rfl))
    let y := z.demanded c.val v i mv mi mp pv
    have hy : y.bctx c.val = _ := z.demanded_bctx_same c v i mv mi mp pv
    have hyst : (y.bctx c.val).st = .paused := by rw [hy]; exact hst
    rw [show z.vehicleMsg c.val (.currentDemand v i mv mi mp pv) = _ from State.msgDemand_eq v i mv mi mp pv (.inr hst),
      State.refreshReq_of_paused hyst] at hexec
    have hu : (y.respond c.val 0 (y.presentVals c.val)).bctx c.val = _ := State.respond_bctx_same ..
    exact ⟨_, hexec, by rw [hu, hy], by rw [hu, hy], by rw [hu]; exact hyst, v2gMessage_only hz hexec⟩
  · intro s z t c hz hservice hst hgoes hcredit
    have hexec := exec_v2gMessage_plain (t := t) (m := .powerDelivery false) rfl hz hservice (.inl (by rw [hst]; rfl))
    have hy : (z.respond c.val 0).bctx c.val = _ := State.respond_bctx_same ..
    have hmsg : z.vehicleMsg c.val (.powerDelivery false) = (z.respond c.val 0).endCtx c.val 0 := by
      show z.msgPowerDelivery c.val false = _
      unfold State.msgPowerDelivery
      simp only [hst]
      unfold State.vehicleStop
      simp only [hcredit, Bool.and_false, Bool.false_eq_true, if_false]
    have hctx := State.endCtx_bctx_same (s := z.respond c.val 0) (c := c) 0 (by rw [hy]; exact congrArg CtxState.running hst)
      (by rw [hy]; exact hgoes)
    rw [hmsg] at hexec
    exact ⟨_, hexec, by rw [hctx]; rfl, by rw [hctx]; rfl, by rw [hctx]; rfl, v2gMessage_only hz hexec⟩

end Sys2Proof.Machine
end

section
/-!
Proofs of the statements about Ethernet frames, links and telemetry (chapter 16).
-/
namespace Sys2Proof.Machine
open Sys2Proof Sys2Proof.Config

theorem vmod_vmod {α : Type} {n : Nat} (v : Vector α n) (i : Fin n) (f g : α → α) :
    vmod (vmod v i f) i g = vmod v i fun x => g (f x) := by
  simp [vmod]

/-- A frame is counted at its port. -/
def State.ethCounted (s : State) (p : EthNo) : State :=
  s.modEth p fun e => { e with rx := e.rx + 1, lastStamp := s.tick }

theorem State.modEth_modEth (s : State) (p : EthNo) (f g : Eth → Eth) : (s.modEth p f).modEth p g = s.modEth p fun e => g (f e) :=
  congrArg (fun v => { s with buses := { s.buses with eth := v } }) (vmod_vmod s.buses.eth p f g)

theorem State.dups_ethCounted (s : State) (p q : EthNo) : (s.ethCounted p).buses.eth[q].dups = s.buses.eth[q].dups := by
  show (vmod s.buses.eth p fun e => { e with rx := e.rx + 1, lastStamp := s.tick })[q].dups = _
  by_cases h : q = p
  · rw [h, vmod_same]
  · rw [vmod_other _ h]

/-- The copies of a tunnel frame that are still remembered (R644). -/
def State.tunnelFresh (s : State) : List (Nat × Nat × EthNo) :=
  s.buses.tunnelSeen.filter fun x => s.time.clock ≤ x.2.1 + 100 * ticksPerMs

/-- A copy is a duplicate, counted at its port. -/
def State.ethDuplicate (s : State) (p : EthNo) : State := s.modEth p fun e => { e with dups := e.dups + 1 }

theorem State.dups_ethDuplicate (s : State) (p : EthNo) : (s.ethDuplicate p).buses.eth[p].dups = s.buses.eth[p].dups + 1 := by
  show (vmod s.buses.eth p fun e => { e with dups := e.dups + 1 })[p].dups = _
  rw [vmod_same]

/-- The copies of a tunnel frame are remembered as those of another port. -/
def State.tunnelMoved (s : State) (seen : List (Nat × Nat × EthNo)) (n : Nat) (p : EthNo) : State :=
  { s with buses := { s.buses with tunnelSeen := seen.map fun y => if y.1 = n then (y.1, y.2.1, p) else y } }

/-- A tunnel frame of a port in service: its first copy within 100 ms is remembered, a later one is a duplicate (R644). -/
def State.tunnelFrame (s : State) (p : EthNo) (n : Nat) : State :=
  match s.tunnelFresh.find? fun x => x.1 = n with
  | some x =>
    let loser := if x.2.1 = s.time.clock && p < x.2.2 then x.2.2 else p
    if loser = p then s.ethDuplicate loser else (s.ethDuplicate loser).tunnelMoved s.tunnelFresh n p
  | none => { s with buses := { s.buses with tunnelSeen := (n, s.time.clock, p) :: s.tunnelFresh } }

theorem State.tunnelFrame_first {s : State} {n : Nat} (p : EthNo) (h : s.tunnelFresh.find? (fun x => x.1 = n) = none) :
    s.tunnelFrame p n = { s with buses := { s.buses with tunnelSeen := (n, s.time.clock, p) :: s.tunnelFresh } } := by
  simp only [State.tunnelFrame, h]

/-- The copy of the lower-numbered port counts. -/
theorem State.tunnelFrame_again {s : State} {n : Nat} {p q : EthNo} {x : Nat × Nat × EthNo}
    (h : s.tunnelFresh.find? (fun x => x.1 = n) = some x)
    (hloser : (if x.2.1 = s.time.clock && p < x.2.2 then x.2.2 else p) = q) :
    s.tunnelFrame p n = if q = p then s.ethDuplicate q else (s.ethDuplicate q).tunnelMoved s.tunnelFresh n p := by
  simp only [State.tunnelFrame, h, hloser]

theorem ethFrameReceived_only {s z u : State} {t : Nat} {p : EthNo} {vid : Nat} {k : EthKind} (hz : z = s.advance t)
    (hexec : exec (.ethFrameReceived t p vid k) s = .next u) : Only [.buses] z u := by
  have hchg := Chg.of_exec (execEthFrameReceived_chg t p vid k s) hexec
  rw [← hz] at hchg
  exact .of_chg hchg (by decide)

section
variable {s z : State} {t : Nat} {p : EthNo} {n : Nat} {r : List W32} (hz : z = s.advance t) (hup : z.isDone .s3c = true)
  (hrec : z.ethRec p.val = some r)
include hz hup hrec

theorem exec_ethFrame_other_vlan {vid : Nat} (hvid : vid ≠ fld r 0 24 13) (k : EthKind) :
    exec (.ethFrameReceived t p vid k) s =
      .next ((z.ethCounted p).modEth p fun e => { e with vlanDrops := e.vlanDrops + 1 }) := by
  show execEthFrameReceived t p vid k s = _
  unfold execEthFrameReceived
  rw [← hz]
  simp only [hup, hrec]
  exact congrArg Host.Outcome.next (if_pos hvid)

theorem exec_tunnelFrame_eq (hservice : z.startup.mode = .service) (htunnel : bit r 0 27 = true) :
    exec (.ethFrameReceived t p (fld r 0 24 13) (.tunnel n)) s = .next ((z.ethCounted p).tunnelFrame p n) := by
  show execEthFrameReceived t p (fld r 0 24 13) (.tunnel n) s = _
  unfold execEthFrameReceived
  rw [← hz]
  simp only [hup, hrec]
  refine congrArg Host.Outcome.next ((if_neg (not_not_intro rfl)).trans (if_neg ?_))
  have hmode : (z.modEth p fun e => { e with rx := e.rx + 1, lastStamp := z.tick }).startup.mode = .service := hservice
  rw [hmode, Option.getD_some, htunnel]
  decide
end

/-- A stream of telemetry: its SEQ counts the frames, and they are sent or, with a full queue, dropped (R656). -/
def Telem.Counts (x y : Telem) (full : Bool) (n : Nat) : Prop :=
  y.seq = (x.seq + n) % 2 ^ 32 ∧
    (y.sent, y.dropped) = if full then (x.sent, x.dropped + n) else (x.sent + n, x.dropped)

/-- A stream of telemetry is put. -/
def State.streamPut (s : State) (n : Fin 16) (y : Telem) : State :=
  { s with buses := { s.buses with streams := s.buses.streams.set n y } }

/-- A drained log, and an event for a full queue, leave the streams and the Ethernet ports. -/
theorem State.streamPut_buses (s : State) (n : Fin 16) (y : Telem) (p q : Prop) [Decidable p] [Decidable q] (k : Nat) (e : Ev)
    (val : List Int) (u : State) (hu : u = (if q then s.drainLog k else s).streamPut n y) :
    (if p then u.raise e val else u).buses.eth = s.buses.eth ∧
      (if p then u.raise e val else u).buses.streams = s.buses.streams.set n y := by
  have hput : u.buses.eth = s.buses.eth ∧ u.buses.streams = s.buses.streams.set n y := by
    rw [hu]
    split
    · exact ⟨rfl, rfl⟩
    · exact ⟨rfl, rfl⟩
  split
  · exact hput
  · exact hput

theorem exec_telemetrySend_buses {s z : State} {t : Nat} {n : Fin 16} {full : Bool} {w : List W32} (hz : z = s.advance t)
    (hrec : z.recAt 0x1002 31 28 n.val = some w) (hservice : z.startup.mode = .service) :
    ∃ u y, exec (.telemetrySend t n full) s = .next u ∧ u.buses.eth = z.buses.eth ∧
      u.buses.streams = z.buses.streams.set n y ∧ Telem.Counts z.buses.streams[n] y full (z.telemFrames w).length := by
  have hexec : exec (.telemetrySend t n full) s = execTelemetrySend t n full s := rfl
  unfold execTelemetrySend at hexec
  rw [← hz] at hexec
  simp only [hrec, hservice, ne_eq, not_true_eq_false, if_false] at hexec
  refine ⟨_, _, hexec, (State.streamPut_buses z n _ _ _ _ _ _ _ rfl).1, (State.streamPut_buses z n _ _ _ _ _ _ _ rfl).2, ?_⟩
  cases full with
  | true => exact ⟨rfl, rfl⟩
  | false => exact ⟨rfl, rfl⟩

/-- Settles O15: frames of another VLAN are dropped, one copy of a tunnel frame counts, and a stream counts its frames. -/
theorem ethernetAndTelemetry : Obligations.EthernetAndTelemetry := by
  unfold Obligations.EthernetAndTelemetry
  refine ⟨?_, ?_, ?_, ?_, ?_, ?_, ?_⟩
  · intro s z t p vid k r hz hup hrec hvid
    have hexec := exec_ethFrame_other_vlan hz hup hrec hvid k
    refine ⟨_, hexec, ?_, ethFrameReceived_only hz hexec⟩
    rw [State.ethCounted, State.modEth_modEth]
    rfl
  · intro s z t p n r hz hup hrec hservice htunnel ⟨x, hx, hn, hfresh⟩ hearlier
    have hmem : x ∈ z.tunnelFresh := List.mem_filter.mpr ⟨hx, decide_eq_true hfresh⟩
    obtain ⟨y, hy⟩ := Option.isSome_iff_exists.mp (List.find?_isSome (p := fun x : Nat × Nat × EthNo => decide (x.1 = n)).mpr
      ⟨x, hmem, decide_eq_true hn⟩)
    have hyn : y.1 = n := by simpa using List.find?_some hy
    have hold : y.2.1 < z.time.clock := hearlier y (List.mem_filter.mp (List.mem_of_find?_eq_some hy)).1 hyn
    have hexec := exec_tunnelFrame_eq hz hup hrec (n := n) hservice htunnel
    have hframe := State.tunnelFrame_again (s := z.ethCounted p) (p := p) hy (if_neg (by simp [State.ethCounted, Nat.ne_of_lt hold]))
    rw [hframe, if_pos rfl] at hexec
    refine ⟨_, hexec, ?_, rfl, ethFrameReceived_only hz hexec⟩
    rw [State.dups_ethDuplicate, State.dups_ethCounted]
  · intro s z t p q n r l hz hup hrec hservice htunnel hseen hlt
    have hfresh : z.tunnelFresh = (n, z.time.clock, q) :: l.filter fun x => z.time.clock ≤ x.2.1 + 100 * ticksPerMs := by
      unfold State.tunnelFresh
      rw [hseen, List.filter_cons_of_pos (by simp)]
    have hfind : z.tunnelFresh.find? (fun x => x.1 = n) = some (n, z.time.clock, q) := by rw [hfresh]; simp
    have hexec := exec_tunnelFrame_eq hz hup hrec (n := n) hservice htunnel
    have hframe := State.tunnelFrame_again (s := z.ethCounted p) (p := p) hfind (if_pos (by simp [State.ethCounted, hlt]))
    have hne : q ≠ p := (Fin.ne_of_lt hlt).symm
    rw [hframe, if_neg hne] at hexec
    refine ⟨_, hexec, ?_, ?_, ethFrameReceived_only hz hexec⟩
    · exact (State.dups_ethDuplicate ..).trans (congrArg (· + 1) (State.dups_ethCounted ..))
    · show (z.tunnelFresh.map _).head? = _
      rw [hfresh]
      simp
  · intro s z t p n r hz hup hrec hservice htunnel hold
    have hnone : z.tunnelFresh.find? (fun x => x.1 = n) = none := by
      refine List.find?_eq_none.mpr fun x hx hn => ?_
      obtain ⟨hmem, hfresh⟩ := List.mem_filter.mp hx
      exact absurd (hold x hmem (of_decide_eq_true hn)) (Nat.not_lt.mpr (of_decide_eq_true hfresh))
    have hexec := exec_tunnelFrame_eq hz hup hrec (n := n) hservice htunnel
    rw [State.tunnelFrame_first (s := z.ethCounted p) p hnone] at hexec
    refine ⟨_, hexec, ?_, List.mem_cons_self, ethFrameReceived_only hz hexec⟩
    exact State.dups_ethCounted ..
  · intro s z t p up hz hlink
    have hexec : exec (.ethLink t p up) s = .next ((z.modEth p fun e => { e with link := up }).raise .ethLink
        [p.val, fld ((z.ethRec p.val).getD []) 0 29 29]) := by
      show execEthLink t p up s = _
      unfold execEthLink
      rw [← hz]
      exact congrArg Host.Outcome.next (if_neg hlink)
    have hchg := Chg.of_exec (execEthLink_chg t p up s) hexec
    rw [← hz] at hchg
    exact ⟨_, hexec, rfl, State.lastEv_raise .., .of_chg hchg (by decide)⟩
  · intro s z t p hz hdup
    have hexec : exec (.ethAddrDup t p) s = .next ((z.modEth p fun e => { e with dup := true }).raise .ethAddrDup
        [p.val, z.ethAddr p.val]) := by
      show execEthAddrDup t p s = _
      unfold execEthAddrDup
      rw [← hz]
      exact congrArg Host.Outcome.next (if_neg fun h => Bool.false_ne_true (hdup.symm.trans h))
    have hchg := Chg.of_exec (execEthAddrDup_chg t p s) hexec
    rw [← hz] at hchg
    exact ⟨_, hexec, rfl, State.lastEv_raise .., .of_chg hchg (by decide)⟩
  · intro s z t n full w hz hrec hservice
    obtain ⟨u, y, hexec, heth, hstreams, hseq, hsent⟩ := exec_telemetrySend_buses (full := full) hz hrec hservice
    have hchg := Chg.of_exec (execTelemetrySend_chg t n full s) hexec
    rw [← hz] at hchg
    have hget : u.buses.streams[n] = y := by rw [hstreams]; exact Vector.getElem_set_self _
    refine ⟨u, hexec, by rw [hget]; exact hseq, by rw [hget]; exact hsent, fun m hm => ?_, heth, .of_chg hchg (by decide)⟩
    rw [hstreams]
    exact Vector.getElem_set_ne _ _ fun hval => hm (Fin.ext hval.symm)

end Sys2Proof.Machine
end

section
/-!
Proofs of the statements about the object port: attestation (chapter 17), GET and SET (chapter 11).
-/
namespace Sys2Proof.Machine
open Sys2Proof Sys2Proof.Config

/-! An attestation without its keys. -/

/-- A client that subscribes to every event, on a module whose key slots are empty. -/
def keylessSubscribed : State :=
  { State.reset with
    keys := { State.reset.keys with slots := Vector.replicate 64 {} }
    port := { State.reset.port with
      conns := vput State.reset.port.conns 0 (some { role := .pub, port := 0, addr := 0, cursor := 0, sub := some { names := [] } }) } }

/-- The nonce of the attestation. -/
def zeroNonce : List Byte := List.replicate 16 0

theorem keylessSubscribed_conn : (keylessSubscribed.advance 0).port.conns[(0 : ConnNo)] =
    some { role := .pub, port := 0, addr := 0, cursor := 0, sub := some { names := [] } } := by
  show (vput State.reset.port.conns 0 _)[(0 : ConnNo).val] = _
  rw [vput_get _ _ _ _ (by decide)]
  rfl

theorem State.conns_raise (s : State) (e : Ev) (val : List Int) (c : ConnNo) : (s.raise e val).port.conns[c] =
    (s.port.conns[c]).map (Conn.deliver · { seq := s.port.seqOf (s.port.raised + 1), ev := e, tick := s.tick, stamp := s.stamp, val }) :=
  vmap_get _ _ c.val c.isLt

/-- A connection without a request that waits, subscribed to every event, with so many of them queued at least. -/
structure Subscribed (c : ConnNo) (n : Nat) (s : State) : Prop where
  conn : ∃ k, s.port.conns[c] = some k ∧ k.sub = some { names := [] } ∧ k.slots = [] ∧ n ≤ k.queue.length

section
variable {c : ConnNo} {n : Nat} {s : State}

theorem Subscribed.of_chg {L : List Part} {u : State} (h : Subscribed c n s) (k : Chg L s u) (hL : L.contains .port = false) :
    Subscribed c n u := by
  obtain ⟨x, hx, hrest⟩ := h.conn
  exact ⟨x, (congrArg (fun p : Port => p.conns[c]) (k.port hL)).trans hx, hrest⟩

/-- An event that is raised is queued. -/
theorem Subscribed.raise (h : Subscribed c n s) (e : Ev) (val : List Int) : Subscribed c (max n 1) (s.raise e val) := by
  obtain ⟨k, hk, hsub, hslots, hqueue⟩ := h.conn
  have hconn := s.conns_raise e val c
  rw [hk, Option.map_some] at hconn
  refine ⟨_, hconn, ?_⟩
  simp only [Conn.deliver, hsub, List.isEmpty_nil, Bool.true_or, if_true]
  by_cases hroom : k.queue.length < 4096
  · simp only [if_pos hroom, hslots, List.length_append, List.length_singleton, true_and]
    omega
  · simp only [if_neg hroom, hslots, true_and]
    omega

/-- A denial is told where none was within a second. -/
theorem Subscribed.denyKey (h : Subscribed c n s) (i : Nat) (op : KeyOp) (m : KeyMaster) : Subscribed c n (s.denyKey i op m) ∧
    ((s.slot i).deniedAt = none → Subscribed c (max n 1) (s.denyKey i op m)) := by
  have hraised {y : State} (k : Chg [.keys] s y) (e : Ev) (val : List Int) : Subscribed c (max n 1) (y.raise e val) :=
    (h.of_chg k rfl).raise ..
  unfold State.denyKey
  extract_lets x due y
  constructor
  · split
    · obtain ⟨k, hk, hsub, hslots, hqueue⟩ := (hraised (State.modSlot_chg ..) .keyDenied [i, m.bit, op.bit]).conn
      exact ⟨k, hk, hsub, hslots, le_trans (le_max_left ..) hqueue⟩
    · exact h.of_chg (State.modSlot_chg ..) rfl
  · intro hfirst
    have hdue : due = true := by simp [due, x, hfirst]
    rw [if_pos hdue]
    exact hraised (State.modSlot_chg ..) ..

theorem Subscribed.useKey (h : Subscribed c n s) (i : Nat) (op : KeyOp) (m : KeyMaster) : Subscribed c n (s.useKey i op m).2 := by
  unfold State.useKey
  split
  · exact h
  · exact (h.denyKey i op m).1

theorem Subscribed.useKey_denied (h : Subscribed c n s) {i : Nat} {op : KeyOp} {m : KeyMaster}
    (hdenied : s.keyAllowed i op m = false) (hfirst : (s.slot i).deniedAt = none) :
    Subscribed c (max n 1) (s.useKey i op m).2 := by
  rw [show s.useKey i op m = (false, s.denyKey i op m) from if_neg (by simp [hdenied])]
  exact (h.denyKey i op m).2 hfirst
end

theorem State.slot_of_empty {s : State} (h : s.keys.slots = Vector.replicate 64 {}) (i : Nat) : s.slot i = {} := by
  unfold State.slot
  rw [h]
  simp only [vget, Vector.toList_replicate, List.getD_eq_getElem?_getD, List.getElem?_replicate]
  split
  · rfl
  · rfl

theorem exec_attest_signed {s z : State} {t : Nat} {c : ConnNo} {k : Conn} {nonce : List Byte} (hz : z = s.advance t)
    (hconn : z.port.conns[c] = some k) (hslots : k.slots.length < 16) (hshort : 16 ≤ nonce.length) (hlong : nonce.length ≤ 64) :
    ∃ val, exec (.attest t c nonce) s = .next (((z.useKey 0 .sign .ring).2.useKey 1 .sign .ring).2.answer c 0 val) := by
  show ∃ val, execAttest t c nonce s = _
  unfold execAttest
  rw [← hz]
  dsimp only
  rw [State.op_of_served hconn hslots rfl]
  exact ⟨_, congrArg Host.Outcome.next (if_neg (by simp [hshort, hlong]))⟩

/-- Refutes O16: the attestation of a module whose key slots are empty is answered all the same, and the use of its keys is denied,
which raises KEY_DENIED: the event is queued for the connection that asks, where it has subscribed. -/
theorem not_connectionsAndPortServices : ¬ Obligations.ConnectionsAndPortServices := by
  unfold Obligations.ConnectionsAndPortServices
  rintro ⟨-, -, -, -, -, -, -, -, hattest, -⟩
  let z := keylessSubscribed.advance 0
  obtain ⟨u, hexec, ⟨l, hconn, -⟩, -⟩ := hattest keylessSubscribed z 0 0 _ zeroNonce rfl keylessSubscribed_conn (by decide)
    (by decide) (by decide)
  have hz : Subscribed 0 0 z := ⟨_, keylessSubscribed_conn, rfl, rfl, Nat.le_refl _⟩
  have hslot (i : Nat) : z.slot i = {} := State.slot_of_empty rfl i
  have hdenied : z.keyAllowed 0 .sign .ring = false := by
    unfold State.keyAllowed
    rw [hslot]
    rfl
  have hfirst := hz.useKey_denied hdenied (by rw [hslot])
  obtain ⟨k, hk, -, hslots, hqueue⟩ := (hfirst.useKey 1 .sign .ring).conn
  obtain ⟨val, hanswer⟩ := exec_attest_signed (t := 0) (z := z) rfl keylessSubscribed_conn (by decide) (nonce := zeroNonce) (by decide)
    (by decide)
  have hu : u = _ := Host.Outcome.next.inj (hexec.symm.trans hanswer)
  have hgot := State.conns_answer hk 0 val
  rw [← hu, hconn, Conn.put_of_idle rfl, Conn.put_of_idle hslots] at hgot
  have hlen : [] = k.queue := congrArg Conn.queue (Option.some.inj hgot)
  rw [← hlen] at hqueue
  exact absurd hqueue (by decide)

/-! GET and SET. -/

theorem exec_get_served {s z : State} {t : Nat} {c : ConnNo} {k : Conn} (hz : z = s.advance t) (hconn : z.port.conns[c] = some k)
    (hslots : k.slots.length < 16) (o : Obis) (attr : Nat) (sel : Option (Nat × Nat)) :
    exec (.get t c o attr sel) s = .next (if z.absent o || !z.objExists k o then z.answer c 2
      else if !z.hasRight k.role .read o then z.answer c 1 else z.readObj c k o attr sel) := by
  show Host.Outcome.next _ = _
  rw [← hz, State.op_of_served hconn hslots rfl]

theorem State.wallObj_exists (s : State) (k : Conn) : s.objExists k (dev 128 5 0) = true := by
  simp [State.objExists, State.objVal, dev, State.obj128]

/-- A SET of the wall-time object does what WALL_TIME_SET does. -/
theorem exec_set_wall (s : State) (t : Nat) (c : ConnNo) (sec nsec : Nat) :
    exec (.set t c (dev 128 5 0) 2 [(sec : Int), (nsec : Int)]) s = .next ((s.advance t).writeWall c sec nsec) := by
  show execSet t c (dev 128 5 0) 2 [(sec : Int), (nsec : Int)] s = _
  unfold execSet
  generalize s.advance t = z
  have hwrite : z.writeObj c (dev 128 5 0) [(sec : Int), (nsec : Int)] = z.writeWall c sec nsec := by
    simp [State.writeObj]
  refine congrArg Host.Outcome.next ?_
  unfold State.op
  cases hconn : z.port.conns[c] with
  | none => simp [State.writeWall, State.change, State.op, hconn]
  | some k =>
    simp only [State.wallObj_exists, hwrite]
    by_cases hslots : 16 ≤ k.slots.length
    · simp [State.writeWall, State.change, State.op, hconn, hslots]
    · cases hserves : inService z.startup.mode with
      | false => simp [State.writeWall, State.change, State.op, hconn, hslots, hserves]
      | true =>
        cases habsent : z.absent (dev 128 5 0) with
        | true => simp [State.writeWall, State.change, State.op, hconn, hslots, hserves, habsent]
        | false =>
          cases hright : z.hasRight k.role .write (dev 128 5 0) with
          | false => simp [State.writeWall, State.change, State.op, hconn, hslots, hserves, habsent, hright]
          | true => simp [hslots]

/-- A GET of the value of an object answers with RES 0. -/
theorem State.readObj_served (s : State) {c : ConnNo} {k : Conn} (hconn : s.port.conns[c] = some k) (o : Obis) :
    ∃ val, (s.readObj c k o 2 none).port.conns[c] = some (k.put { res := 0, val }) ∧
      (s.readObj c k o 2 none).port.events = s.port.events ∧
      (∀ d : ConnNo, d ≠ c → (s.readObj c k o 2 none).port.conns[d] = s.port.conns[d]) ∧
      Chg [.free, .port] s (s.readObj c k o 2 none) := by
  have hanswer (val : List Int) := State.conns_answer hconn 0 val
  have hread : s.readObj c k o 2 none = match s.entries o with
      | some l => s.answer c 0 (selected none l)
      | none => (s.answer c 0 ((s.objVal k o).getD [])).nextFree := by
    unfold State.readObj
    rfl
  rw [hread]
  split
  · exact ⟨_, hanswer _, rfl, fun d hd => State.conns_answer_other _ hd .., (State.answer_chg ..).widen rfl⟩
  · exact ⟨_, hanswer _, rfl, fun d hd => State.conns_answer_other _ hd ..,
      Chg.step ((State.answer_chg ..).widen rfl) (State.nextFree_chg ..) rfl⟩

/-- Settles O17: a GET answers and changes nothing else, a SET of the wall time is WALL_TIME_SET, and the refusals are answered in the
order of Table 11.10. -/
theorem readsAndWrites : Obligations.ReadsAndWrites := by
  unfold Obligations.ReadsAndWrites
  refine ⟨?_, ?_, ?_, ?_, ?_⟩
  · intro s z t c k o hz hconn hslots habsent hexists hright
    have hexec := exec_get_served (t := t) hz hconn hslots o 2 none
    rw [if_neg (by simp [habsent, hexists]), if_neg (by simp [hright])] at hexec
    obtain ⟨val, hres, hevents, hother, hchg⟩ := z.readObj_served hconn o
    exact ⟨_, hexec, State.res_put hres, hother, hevents, .of_chg hchg (by decide)⟩
  · intro s z t c k o attr sel hz hconn hslots hno
    have hexec := exec_get_served (t := t) hz hconn hslots o attr sel
    rw [if_pos (by rcases hno with h | h <;> simp [h])] at hexec
    exact ⟨_, hexec, State.conns_answer hconn .., fun d hd => State.conns_answer_other _ hd .., .of_chg (State.answer_chg ..) (by decide)⟩
  · intro s z t c k o attr sel hz hconn hslots habsent hexists hright
    have hexec := exec_get_served (t := t) hz hconn hslots o attr sel
    rw [if_neg (by simp [habsent, hexists]), if_pos (by simp [hright])] at hexec
    exact ⟨_, hexec, State.conns_answer hconn .., .of_chg (State.answer_chg ..) (by decide)⟩
  · intro c sec nsec
    refine .of_change (fun x s => s.opWall x sec nsec) (fun s t => exec_set_wall s t c sec nsec) (fun x arrival z => rfl)
      fun z v x hH => ?_
    obtain ⟨hsync, hsec, hnsec⟩ := hH
    have hop : (z.withConns v).opWall x sec nsec =
        ((z.withConns v).stepWall (sec * 2000000000 + 2 * nsec) .manual (roleBit x.role)).reply x 0 := by
      have hsync' : (z.withConns v).ptp.sync = false := hsync
      simp only [State.opWall, hsync', Bool.false_eq_true, if_false, not_le.mpr hsec, not_le.mpr hnsec, decide_false, Bool.or_self]
    have hchg : Chg [.wall, .scribe, .port, .tamper] z ((z.withConns v).opWall x sec nsec) :=
      ((State.withConns_chg z v).widen rfl).trans ((State.opWall_chg ..).widen rfl)
    refine ⟨⟨?_, Only.of_chg hchg (by decide)⟩, fun hx hw => ?_⟩
    · rw [hop, (State.reply_chg ..).wall rfl, State.stepWall_wall]
      simp [State.withConns]
    · rw [hop]
      exact State.res_reply hx (((WaitsKept.stepWall ..).waits c).trans hw) ..
  · intro s z t c k o attr val hz hconn hslots hmode
    have hserves : inService z.startup.mode = false := by
      cases hm : z.startup.mode <;> first | rfl | exact absurd hm hmode
    have hexec : exec (.set t c o attr val) s = .next (z.answer c 4) := by
      show Host.Outcome.next _ = _
      rw [← hz]
      simp only [State.op, hconn, not_le.mpr hslots, if_false, hserves, Bool.false_eq_true]
    exact ⟨_, hexec, State.conns_answer hconn .., .of_chg (State.answer_chg ..) (by decide)⟩

end Sys2Proof.Machine
end

section
/-!
Proofs of the statements about pump drives: commutation, diagnosis, faults and retries (chapter 13).
-/
namespace Sys2Proof.Machine
open Sys2Proof Sys2Proof.Config

theorem State.pump_modPump_same (s : State) (p : PumpNo) (f : Pump → Pump) :
    (s.modPump p.val f).pump p.val = f (s.pump p.val) := by
  rw [State.pump_modPump, if_pos rfl]

theorem State.pump_modPump_other (s : State) {p m : PumpNo} (h : m ≠ p) (f : Pump → Pump) :
    (s.modPump p.val f).pump m.val = s.pump m.val := by
  rw [State.pump_modPump, if_neg (Fin.val_ne_of_ne h)]

/-- A change of one driver reaches no other one and nothing else. -/
theorem State.modPump_alone (s : State) (p : PumpNo) (f : Pump → Pump) :
    (∀ m : PumpNo, m ≠ p → (s.modPump p.val f).pump m.val = s.pump m.val) ∧ Only [.drives] s (s.modPump p.val f) :=
  ⟨fun _ hm => s.pump_modPump_other hm f, .of_chg (State.modPump_chg ..) (by decide)⟩

/-- So does one with an event. -/
theorem State.modPump_raise_alone (s : State) (p : PumpNo) (f : Pump → Pump) (e : Ev) (val : List Int) :
    (∀ m : PumpNo, m ≠ p → ((s.modPump p.val f).raise e val).pump m.val = s.pump m.val) ∧
      Only [.port, .drives] s ((s.modPump p.val f).raise e val) :=
  ⟨fun _ hm => s.pump_modPump_other hm f,
    .of_chg (((Chg.refl [.port, .drives] s).step (State.modPump_chg ..) rfl).step (State.raise_chg ..) rfl) (by decide)⟩

/-! The gates (R505). -/

theorem Pump.gates_of_still {x : Pump} (h : x.st ≠ .run ∨ commutation false x.hall.val = none) (w : List W32) (now ph : Nat) :
    x.gates w now ph = (false, false) := by
  unfold Pump.gates
  exact if_pos (by simpa using h)

/-- The dead time parts the high side and the low side. -/
theorem Pump.gates_not_both (x : Pump) (w : List W32) (now ph : Nat) :
    ¬((x.gates w now ph).1 = true ∧ (x.gates w now ph).2 = true) := by
  unfold Pump.gates
  extract_lets part dead r period u on
  split
  · exact fun h => Bool.false_ne_true h.1
  split
  · exact fun h => Bool.false_ne_true h.1
  split
  · exact fun h => Bool.false_ne_true h.1
  clear_value part
  split
  · rintro ⟨hhigh, hlow⟩
    have hon : u < on := of_decide_eq_true (Bool.and_eq_true_iff.mp hhigh).1
    have hoff : on + (dead : Rat) ≤ u := (of_decide_eq_true hlow).1
    have hdead : (0 : Rat) ≤ dead := Nat.cast_nonneg dead
    linarith
  · exact fun h => Bool.false_ne_true h.1
  · exact fun h => Bool.false_ne_true h.1

/-! The diagnosis (R517). -/

/-- The sequence has run once 20 ms have passed, whichever tests it skips. -/
theorem diagTime_le {a b : Nat} (h : a + 20 * ticksPerMs ≤ b) (p : Nat → Bool) :
    a + (List.range 4).countP p * 5 * ticksPerMs ≤ b := by
  have hcount : (List.range 4).countP p ≤ 4 := List.countP_le_length
  have hmul : (List.range 4).countP p * 5 * ticksPerMs ≤ 20 * ticksPerMs := Nat.mul_le_mul_right _ (by omega)
  omega

theorem diagCause_eq_none {r : DiagResult} : diagCause r = none ↔ r = .pass := by
  cases r <;> simp [diagCause]

/-- What test 1 finds ends the sequence. -/
theorem diagResult_of_supply {w : List W32} {o : DiagObs} (hvm : 100 * fld w 3 31 16 ≤ o.vm)
    (h : 8 * o.vm < 10 * max o.sink.1 (max o.sink.2.1 o.sink.2.2)) : diagResult w o = .shortSupply := by
  simp [diagResult, diagRun, not_lt.mpr hvm, h]

theorem diagResult_of_ground {w : List W32} {o : DiagObs} (hvm : 100 * fld w 3 31 16 ≤ o.vm)
    (hsupply : 10 * max o.sink.1 (max o.sink.2.1 o.sink.2.2) ≤ 8 * o.vm) (h : o.fromA.1 < 1000) :
    diagResult w o = .shortGround := by
  simp only [diagResult, diagRun, not_lt.mpr hvm, not_lt.mpr hsupply, h]
  simp

/-- What a sequence has found is noted, test by test. -/
def Pump.diagnosed (x : Pump) (w : List W32) (o : DiagObs) (tick : Nat) : Pump := { x with
  diagLast := some (diagResult w o, tick)
  diagTests := x.diagTests.mapIdx fun i y =>
    if diagRuns w o i then some (decide (((diagRun w o).getD i none).getD .pass = .pass), tick) else y }

section
variable {s z : State} {t : Nat} {p : PumpNo} {w : List W32} {o : DiagObs} (hz : z = s.advance t) (hrec : z.pumpRec p.val = some w)
  (hst : (z.pump p.val).st = .diag) (hfailed : (z.pump p.val).diagFailed = none)
  (htime : (z.pump p.val).diagAt + 20 * ticksPerMs ≤ z.time.clock)
include hz hrec hst hfailed htime

/-- The sequence of a diagnosis ends, and each test has passed. -/
theorem exec_pumpDiag_pass (hpass : diagResult w o = .pass) : exec (.pumpDiag t p o) s = .next
    ((z.modPump p.val fun x => x.diagnosed w o z.tick).modPump p.val fun x => x.enterRun w z.time.clock) := by
  show execPumpDiag t p o s = _
  unfold execPumpDiag
  rw [← hz]
  dsimp only
  have hkept (f : Pump → Pump) : (z.modPump p.val f).pumpRec p.val = some w := hrec
  simp only [hrec, hkept, Option.getD_some, diagCause_eq_none.mpr hpass]
  exact congrArg Host.Outcome.next (if_pos (by simp [hst, hfailed, diagTime_le htime]))

/-- One has failed: the sequence waits for its repetition. -/
theorem exec_pumpDiag_fail {c : Int × Int} (hc : diagCause (diagResult w o) = some c) : exec (.pumpDiag t p o) s = .next
    (((z.modPump p.val fun x => x.diagnosed w o z.tick).modPump p.val fun x =>
      { x with diagFailed := some z.time.clock, diagFails := x.diagFails + 1 }).raise .pumpDiag [p.val, c.1, c.2]) := by
  show execPumpDiag t p o s = _
  unfold execPumpDiag
  rw [← hz]
  dsimp only
  rw [hrec, Option.getD_some, hc]
  exact congrArg Host.Outcome.next (if_pos (by simp [hst, hfailed, diagTime_le htime]))
end

/-! A loop (R522). -/

/-- Every pump of the partner on a loop is lost. -/
theorem State.soloLoop_of_lost {s : State} {r : List W32} (hsolo : fld r 0 31 29 ∉ s.drives.soloLoops) (hpumps : loopPumps r ≠ [])
    (hlost : ∀ n ∈ loopPumps r, pumpLost (s.drives.partnerPumps.getD n (.off, false)) = true) :
    s.soloLoop r = ({ s with drives := { s.drives with soloLoops := s.drives.soloLoops ++ [fld r 0 31 29] } }).raise .pumpSoloLoop
      [fld r 0 31 29, 1] := by
  unfold State.soloLoop
  extract_lets k theirs is
  refine if_pos ?_
  have his : is = false := by simpa [is] using hsolo
  simpa [his, theirs, hpumps] using hlost

/-- Settles O49: a code stable for 1 us is the commutation step, the gates of a phase are never on together, a diagnosis that passes
runs the pump, and a loop whose pumps of the partner are lost runs solo. -/
theorem pumpsAndDiagnosis : Obligations.PumpsAndDiagnosis := by
  unfold Obligations.PumpsAndDiagnosis
  refine ⟨?_, ?_, ?_, ?_, ?_, ?_, Pump.gates_not_both, fun x w now ph h => Pump.gates_of_still h w now ph, ?_, ?_, ?_, ?_,
    fun w o => diagResult_of_supply, fun w o => diagResult_of_ground, ?_, ?_, ?_⟩
  · intro s z t p k ns mv hz hstable hnew
    have hexec : exec (.hallChange t p k ns mv) s = execHallChange t p k ns mv s := rfl
    unfold execHallChange at hexec
    rw [← hz] at hexec
    simp only [hstable, hnew, decide_true, ne_eq, not_false_eq_true, Bool.and_self, if_true] at hexec
    refine ⟨_, hexec, ?_, ?_, ?_, z.modPump_alone p _⟩
    · rw [State.pump_modPump_same]
    · rw [State.pump_modPump_same]
    · rw [State.pump_modPump_same]
  · intro s z t p k ns mv hz hshort
    refine ⟨_, ?_, rfl⟩
    show execHallChange t p k ns mv s = _
    unfold execHallChange
    rw [← hz]
    exact congrArg Host.Outcome.next (if_neg (by simp [hshort]))
  · intro s z t p ph ns w hz hrec hbit hrun hlong hhigh hstep
    have hexec : exec (.bootstrapRefresh t p ph ns) s = .next (z.modPump p.val fun x =>
        { x with refreshes := x.refreshes + 1, refreshAt := x.refreshAt.set ph.val z.time.clock }) := by
      show execBootstrapRefresh t p ph ns s = _
      unfold execBootstrapRefresh
      rw [← hz]
      exact congrArg Host.Outcome.next (if_pos (by simp [hrec, hrun, hbit, hlong, hhigh, hstep]))
    exact ⟨_, hexec, z.pump_modPump_same p _, z.modPump_alone p _⟩
  · intro s z t p ph ns hz hout
    refine ⟨_, ?_, rfl⟩
    show execBootstrapRefresh t p ph ns s = _
    unfold execBootstrapRefresh
    rw [← hz]
    exact congrArg Host.Outcome.next (if_neg (by rcases hout with h | h <;> simp [h]))
  · intro s z t p ph mv hz hrun hlow hfew
    let y := z.modPump p.val fun x => { x with
      hsOff := x.hsOff.set ph.val true, bstEvents := x.bstEvents + 1
      bstAt := z.time.clock :: x.bstAt.filter fun e => z.time.clock ≤ e + ticksPerSec }
    have hy : y.pump p.val = _ := z.pump_modPump_same p _
    have hcount : ¬ 8 ≤ ((y.pumpEvent p.val 3 0).pump p.val).bstAt.length := by
      rw [State.pump_pumpEvent, hy]
      have hle := List.length_filter_le (fun e => decide (z.time.clock ≤ e + ticksPerSec)) (z.pump p.val).bstAt
      simp only [List.length_cons]
      omega
    have hexec : exec (.bstUv t p ph mv) s = .next (y.pumpEvent p.val 3 0) := by
      show execBstUv t p ph mv s = _
      unfold execBstUv
      rw [← hz]
      exact congrArg Host.Outcome.next ((if_pos (by simp [hrun, hlow])).trans (if_neg hcount))
    refine ⟨_, hexec, ?_, ?_, ?_, State.lastEv_raise .., z.modPump_raise_alone p _ _ _⟩
    · rw [State.pump_pumpEvent, hy]
      exact hrun
    · rw [State.pump_pumpEvent, hy]
    · rw [State.pump_pumpEvent, hy]
  · intro s z t p w hz hrec hrun hcmd hhold hduty
    have hexec : exec (.dutyRampedToZero t p) s =
        .next (z.modPump p.val fun x => { x with st := .off, duty := 0, target := 0 }) := by
      show execDutyRampedToZero t p s = _
      unfold execDutyRampedToZero
      rw [← hz]
      exact congrArg Host.Outcome.next (if_pos (by simp [hrec, hrun, hcmd, hhold, hduty]))
    exact ⟨_, hexec, z.pump_modPump_same p _, z.modPump_alone p _⟩
  · intro s z t p w dv us hz hrec hst hlong hband
    have hexec : exec (.vmHold t p dv us) s =
        .next (z.modPump p.val fun x => { x with st := .vmHold, duty := 0, target := 0, diagFailed := none }) := by
      show execVmHold t p dv us s = _
      unfold execVmHold
      rw [← hz]
      exact congrArg Host.Outcome.next (if_pos (by simp [hrec, hst, hlong, hband]))
    exact ⟨_, hexec, z.pump_modPump_same p _, z.modPump_alone p _⟩
  · intro s z t p w dv ms hz hrec hst hlong hlow hhigh
    have hexec : exec (.vmRecovered t p dv ms) s = .next (z.modPump p.val fun x => x.diag z.time.clock) := by
      show execVmRecovered t p dv ms s = _
      unfold execVmRecovered
      rw [← hz]
      exact congrArg Host.Outcome.next (if_pos (by simp [hrec, hst, hlong, hlow, hhigh]))
    exact ⟨_, hexec, z.pump_modPump_same p _, z.modPump_alone p _⟩
  · intro s z t p w o hz hrec hst hfailed htime hpass
    have hexec := exec_pumpDiag_pass hz hrec hst hfailed htime hpass
    have hpump : ((z.modPump p.val fun x => x.diagnosed w o z.tick).modPump p.val fun x => x.enterRun w z.time.clock).pump p.val =
        ((z.pump p.val).diagnosed w o z.tick).enterRun w z.time.clock := by
      rw [State.pump_modPump_same, State.pump_modPump_same]
    refine ⟨_, hexec, ?_, ?_, ?_, ?_, fun m hm => ?_, ?_⟩
    · exact congrArg Pump.st hpump
    · exact congrArg Pump.duty hpump
    · exact congrArg Pump.target hpump
    · exact congrArg Pump.runAt hpump
    · exact (State.pump_modPump_other _ hm _).trans (z.pump_modPump_other hm _)
    · exact .of_chg (Chg.step (State.modPump_chg ..) (State.modPump_chg ..) rfl) (by decide)
  · intro s z t p w o hz hrec hst hfailed htime hfail
    obtain ⟨c, hc⟩ := Option.ne_none_iff_exists'.mp (mt diagCause_eq_none.mp hfail)
    have hexec := exec_pumpDiag_fail hz hrec hst hfailed htime hc
    have hpump : ((z.modPump p.val fun x => x.diagnosed w o z.tick).modPump p.val fun x =>
        { x with diagFailed := some z.time.clock, diagFails := x.diagFails + 1 }).pump p.val =
        { (z.pump p.val).diagnosed w o z.tick with diagFailed := some z.time.clock, diagFails := (z.pump p.val).diagFails + 1 } := by
      rw [State.pump_modPump_same, State.pump_modPump_same]
      rfl
    refine ⟨_, hexec, ?_, ?_, ?_, State.lastEv_raise .., fun m hm => ?_, ?_⟩
    · exact (congrArg Pump.st hpump).trans hst
    · exact congrArg Pump.diagFailed hpump
    · exact congrArg Pump.diagFails hpump
    · exact (State.pump_modPump_other _ hm _).trans (z.pump_modPump_other hm _)
    · exact .of_chg ((((Chg.refl [.port, .drives] z).step (State.modPump_chg ..) rfl).step (State.modPump_chg ..) rfl).step
        (State.raise_chg ..) rfl) (by decide)
  · intro s z t p a hz hst hfailed hlate
    have hexec : exec (.pumpDiagRepeat t p) s = .next (z.modPump p.val fun x => x.diag z.time.clock) := by
      show execPumpDiagRepeat t p s = _
      unfold execPumpDiagRepeat
      rw [← hz]
      exact congrArg Host.Outcome.next (if_pos (by simp [hfailed, hst, State.expired, hlate]))
    exact ⟨_, hexec, z.pump_modPump_same p _, z.modPump_alone p _⟩
  · intro s z t l r hz hrecs hsolo hpumps hlost
    let y : State := { z with drives := { z.drives with partnerPumps := l } }
    have hexec : exec (.partnerPumpState t l) s = .next (y.soloLoop r) := by
      show execPartnerPumpState t l s = _
      unfold execPartnerPumpState
      rw [← hz]
      show Host.Outcome.next ((z.recs 0x0705).foldl State.soloLoop y) = _
      rw [hrecs]
      rfl
    rw [State.soloLoop_of_lost (s := y) hsolo hpumps hlost] at hexec
    refine ⟨_, hexec, rfl, State.lastEv_raise .., ?_⟩
    exact .of_chg (((Chg.refl [.port, .drives] z).step (Chg.setDrives ..) rfl).step (State.raise_chg ..) rfl) (by decide)
  · intro s z t l hz hrecs
    have hexec : exec (.partnerPumpState t l) s = .next { z with drives := { z.drives with partnerPumps := l } } := by
      show execPartnerPumpState t l s = _
      unfold execPartnerPumpState
      rw [← hz]
      show Host.Outcome.next ((z.recs 0x0705).foldl State.soloLoop { z with drives := { z.drives with partnerPumps := l } }) = _
      rw [hrecs]
      rfl
    exact ⟨_, hexec, rfl, .of_chg (Chg.setDrives ..) (by decide)⟩

end Sys2Proof.Machine
end

section
/-!
Proofs of the statement about pump faults and their retries (chapter 13).
-/
namespace Sys2Proof.Machine
open Sys2Proof Sys2Proof.Config

/-! A fault in RUN (R520). -/

theorem Pump.faulted_of_retry {x : Pump} {w : List W32} (h : x.retries < pumpRetries w) (now cause : Nat) :
    x.faulted w now cause = { x with
      duty := 0, target := 0, faults := x.faults.modify cause (· + 1), bstAt := [], st := .retryWait, retries := x.retries + 1
      waitAt := now } := if_neg (not_le.mpr h)

theorem Pump.faulted_of_spent {x : Pump} {w : List W32} (h : pumpRetries w ≤ x.retries) (now cause : Nat) :
    x.faulted w now cause = { x with
      duty := 0, target := 0, faults := x.faults.modify cause (· + 1), bstAt := [], st := .latched } := if_pos h

/-- A fault that uses a retry is told as PUMP_FAULT alone. -/
theorem State.faultPump_lastEv_of_retry {s : State} {n : Nat} {w : List W32} (hrec : s.pumpRec n = some w)
    (h : (s.pump n).retries < pumpRetries w) (cause : Nat) : (s.faultPump n cause).lastEv = s.lastEv := by
  unfold State.faultPump
  simp only [hrec, if_neg (not_le.mpr h)]
  rfl

theorem State.faultPump_lastEv_of_spent {s : State} {n : Nat} {w : List W32} (hrec : s.pumpRec n = some w)
    (h : pumpRetries w ≤ (s.pump n).retries) (cause : Nat) : (s.faultPump n cause).lastEv = some .pumpLatched := by
  unfold State.faultPump
  simp only [hrec, if_pos h]
  rfl

theorem State.pump_of_drives {s u : State} (h : u.drives = s.drives) (n : Nat) : u.pump n = s.pump n := by
  simp only [State.pump, h]

section
variable {z : State} {p : PumpNo} {w : List W32} (hrec : z.pumpRec p.val = some w)
include hrec

theorem State.faulted_same (cause mask : Nat) : ((z.pumpEvent p.val cause mask).faultPump p.val cause).pump p.val =
    (z.pump p.val).faulted w z.time.clock cause := by
  rw [State.pump_faultPump (s := z.pumpEvent p.val cause mask) hrec, if_pos rfl]
  rfl

theorem State.faulted_alone (cause mask : Nat) :
    (∀ m : PumpNo, m ≠ p → ((z.pumpEvent p.val cause mask).faultPump p.val cause).pump m.val = z.pump m.val) ∧
      Only [.port, .drives] z ((z.pumpEvent p.val cause mask).faultPump p.val cause) := by
  refine ⟨fun m hm => ?_, .of_chg (State.faultPump_pumpEvent_chg ..) (by decide)⟩
  rw [State.pump_faultPump (s := z.pumpEvent p.val cause mask) hrec, if_neg (Fin.val_ne_of_ne hm)]
  rfl
end

/-! A short (R513 to R515). -/

theorem shortTrips_iff {w : List W32} {x : SenseObs} : shortTrips w x = true ↔
    3 * fld w 1 26 16 ≤ x.ua10 ∨ (fld w 1 26 16 ≤ x.ua10 ∧ 250 * fld w 1 31 27 ≤ x.onNs) := by
  simp [shortTrips]

/-- The mask of a short that no input has tripped is empty. -/
theorem shortMask_of_none {w : List W32} {obs : List SenseObs} (h : ∀ x ∈ obs, shortTrips w x = false) : shortMask w obs = 0 := by
  have hnone : obs.filter (shortTrips w) = [] := List.filter_eq_nil_iff.mpr fun x hx => by simp [h x hx]
  unfold shortMask
  rw [hnone]
  rfl

/-- A sum of bits is not zero once one of them is set. -/
theorem bits_ne_zero {q : Nat → Bool} {l : List Nat} {b : Nat} (hb : b ∈ l) (hq : q b = true) (a : Nat) :
    l.foldl (fun a b => if q b then a + 2 ^ b else a) a ≠ 0 := by
  have hgrows (l : List Nat) (a : Nat) : a ≤ l.foldl (fun a b => if q b then a + 2 ^ b else a) a := by
    induction l generalizing a with
    | nil => exact Nat.le_refl a
    | cons x xs ih =>
      refine Nat.le_trans ?_ (ih _)
      show a ≤ if q x then a + 2 ^ x else a
      split
      · exact Nat.le_add_right ..
      · exact Nat.le_refl a
  induction l generalizing a with
  | nil => exact absurd hb List.not_mem_nil
  | cons x xs ih =>
    rw [List.foldl_cons]
    obtain rfl | hmem := List.mem_cons.mp hb
    · rw [if_pos hq]
      have hpow := Nat.two_pow_pos b
      have hle := hgrows xs (a + 2 ^ b)
      omega
    · exact ih hmem _

/-- The first of the trips is one of them. -/
theorem foldl_min_mem (l : List SenseObs) (a : Nat) :
    l.foldl (fun a x => min a x.atNs) a = a ∨ ∃ x ∈ l, x.atNs = l.foldl (fun a x => min a x.atNs) a := by
  induction l generalizing a with
  | nil => exact .inl rfl
  | cons x xs ih =>
    rw [List.foldl_cons]
    obtain h | ⟨y, hy, hval⟩ := ih (min a x.atNs)
    · rw [h]
      obtain hmin | hmin := min_choice a x.atNs
      · exact .inl hmin
      · exact .inr ⟨x, List.mem_cons_self, hmin.symm⟩
    · exact .inr ⟨y, List.mem_cons_of_mem _ hy, hval⟩

/-- The switch that tripped first is in the mask. -/
theorem shortMask_of_trip {w : List W32} {obs : List SenseObs} (h : ∃ x ∈ obs, shortTrips w x = true) : shortMask w obs ≠ 0 := by
  obtain ⟨x, hx, htrip⟩ := h
  unfold shortMask
  extract_lets trips first
  have hmem : x ∈ trips := List.mem_filter.mpr ⟨hx, htrip⟩
  obtain ⟨y, ys, hcons⟩ := List.exists_cons_of_ne_nil (List.ne_nil_of_mem hmem)
  have hfirst : ∃ v ∈ trips, v.atNs ≤ first := by
    obtain hhead | ⟨v, hv, hval⟩ := foldl_min_mem trips ((trips.head?.map (·.atNs)).getD 0)
    · refine ⟨y, hcons ▸ List.mem_cons_self, Nat.le_of_eq ?_⟩
      show y.atNs = trips.foldl _ _
      rw [hhead, hcons]
      rfl
    · exact ⟨v, hv, Nat.le_of_eq hval⟩
  obtain ⟨v, hv, hle⟩ := hfirst
  refine bits_ne_zero (q := fun b => trips.any fun x => x.sw.val = b && x.atNs ≤ first + 1000) (b := v.sw.val)
    (List.mem_range.mpr v.sw.isLt) ?_ 0
  exact List.any_eq_true.mpr ⟨v, hv, by simp; omega⟩

/-- A short in RUN faults the driver. -/
theorem exec_pumpShort_run {s z : State} {t : Nat} {p : PumpNo} {w : List W32} {obs : List SenseObs} (hz : z = s.advance t)
    (hrec : z.pumpRec p.val = some w) (hrun : (z.pump p.val).st = .run) (htrip : ∃ x ∈ obs, shortTrips w x = true) :
    exec (.pumpShort t p obs) s = .next ((z.pumpEvent p.val 0 (shortMask w obs)).faultPump p.val 0) := by
  show execPumpShort t p obs s = _
  unfold execPumpShort
  rw [← hz]
  simp only [hrec, Option.getD_some]
  exact congrArg Host.Outcome.next ((if_neg (shortMask_of_trip htrip)).trans (if_pos hrun))

/-- Settles O50: a fault in RUN stops the pump and uses a retry, or latches it where none is left. -/
theorem pumpFaults : Obligations.PumpFaults := by
  unfold Obligations.PumpFaults
  refine ⟨?_, ?_, ?_, ?_, ?_, ?_, ?_⟩
  · intro s z t p w hz hrec hrun hcode hlate hduty hleft
    have hexec : exec (.hallFault t p) s = .next ((z.pumpEvent p.val 2 0).faultPump p.val 2) := by
      show execHallFault t p s = _
      unfold execHallFault
      rw [← hz]
      refine congrArg Host.Outcome.next (if_pos ?_)
      simp [hrec, hrun, hcode, hduty, State.expired, hlate]
    have hpump := State.faulted_same hrec 2 0
    rw [Pump.faulted_of_retry hleft] at hpump
    refine ⟨_, hexec, by rw [hpump], by rw [hpump], by rw [hpump], by rw [hpump], ?_, State.faulted_alone hrec 2 0⟩
    exact State.faultPump_lastEv_of_retry (s := z.pumpEvent p.val 2 0) hrec hleft 2
  · intro s z t p w obs hz hrec hrun hshort hleft
    obtain ⟨x, hx, htrip⟩ := hshort
    have hexec := exec_pumpShort_run (t := t) hz hrec hrun ⟨x, hx, shortTrips_iff.mpr htrip⟩
    have hpump := State.faulted_same hrec 0 (shortMask w obs)
    rw [Pump.faulted_of_retry hleft] at hpump
    refine ⟨_, hexec, by rw [hpump], by rw [hpump], by rw [hpump], ?_, State.faulted_alone hrec 0 _⟩
    exact State.faultPump_lastEv_of_retry (s := z.pumpEvent p.val 0 (shortMask w obs)) hrec hleft 0
  · intro s z t p w obs hz hrec hrun hshort hspent
    obtain ⟨x, hx, htrip⟩ := hshort
    have hexec := exec_pumpShort_run (t := t) hz hrec hrun ⟨x, hx, shortTrips_iff.mpr htrip⟩
    have hpump := State.faulted_same hrec 0 (shortMask w obs)
    rw [Pump.faulted_of_spent hspent] at hpump
    refine ⟨_, hexec, by rw [hpump], by rw [hpump], ?_, State.faulted_alone hrec 0 _⟩
    exact State.faultPump_lastEv_of_spent (s := z.pumpEvent p.val 0 (shortMask w obs)) hrec hspent 0
  · intro s z t p w obs hz hrec hquiet
    have hnone : ∀ x ∈ obs, shortTrips w x = false := by
      intro x hx
      rw [← Bool.not_eq_true, shortTrips_iff]
      have hcase := hquiet x hx
      omega
    refine ⟨_, ?_, rfl⟩
    show execPumpShort t p obs s = _
    unfold execPumpShort
    rw [← hz]
    simp only [hrec, Option.getD_some, shortMask_of_none hnone]
    rfl
  · intro s z t p w hz hrec hst hlate hleft
    have hexec : exec (.pumpRetry t p) s = .next (z.modPump p.val fun x => x.diag z.time.clock) := by
      show execPumpRetry t p s = _
      unfold execPumpRetry
      rw [← hz]
      refine congrArg Host.Outcome.next ((if_pos ?_).trans (if_neg ?_))
      · simp [hst, State.expired, hlate]
      · simpa [hrec] using hleft
    exact ⟨_, hexec, z.pump_modPump_same p _, z.modPump_alone p _⟩
  · intro s z t p hz hrun hlate
    have hexec : exec (.pumpRetryReset t p) s = .next (z.modPump p.val fun x => { x with retries := 0 }) := by
      show execPumpRetryReset t p s = _
      unfold execPumpRetryReset
      rw [← hz]
      exact congrArg Host.Outcome.next (if_pos (by simp [hrun, State.expired, hlate]))
    exact ⟨_, hexec, z.pump_modPump_same p _, z.modPump_alone p _⟩
  · intro c p
    refine .of_change (fun x s => s.opPumpClear x p) (fun s t => rfl) (fun x arrival z => rfl) fun z v x hlatched => ?_
    let y := (z.withConns v).modPump p.val fun x => if x.st = .latched then { x with st := .off } else x
    have hop : (z.withConns v).opPumpClear x p = y.reply x 0 := rfl
    have hpump (m : PumpNo) : (y.reply x 0).pump m.val = y.pump m.val := State.pump_of_drives ((State.reply_chg ..).drives rfl) _
    have hchg : Chg [.port, .drives] z (y.reply x 0) :=
      (((Chg.refl [.port, .drives] z).step (State.withConns_chg z v) rfl).step (State.modPump_chg ..) rfl).step (State.reply_chg ..) rfl
    rw [hop]
    refine ⟨⟨?_, fun m hm => ?_, .of_chg hchg (by decide)⟩, fun hx hw => State.res_reply (s := y) hx hw 0 []⟩
    · rw [hpump, State.pump_modPump_same]
      exact if_pos hlatched
    · rw [hpump, State.pump_modPump_other _ hm]
      rfl

end Sys2Proof.Machine
end

section
/-!
Proofs of the statements about load switches and timer outputs (chapter 13).
-/
namespace Sys2Proof.Machine
open Sys2Proof Sys2Proof.Config

/-! A channel after a change of one, and of all of them. -/

theorem State.ls_modLs_same (s : State) (n : LsNo) (f : LoadSw → LoadSw) : (s.modLs n.val f).ls n.val = f (s.ls n.val) :=
  (vget_vmapIdx _ _ _ _ n.isLt).trans (if_pos rfl)

theorem State.ls_modLs_other (s : State) {n m : LsNo} (h : m ≠ n) (f : LoadSw → LoadSw) :
    (s.modLs n.val f).ls m.val = s.ls m.val :=
  (vget_vmapIdx _ _ _ _ m.isLt).trans (if_neg (Fin.val_ne_of_ne h))

theorem State.modLs_alone (s : State) (n : LsNo) (f : LoadSw → LoadSw) :
    (∀ m : LsNo, m ≠ n → (s.modLs n.val f).ls m.val = s.ls m.val) ∧ Only [.drives] s (s.modLs n.val f) :=
  ⟨fun _ hm => s.ls_modLs_other hm f, .of_chg (State.modLs_chg ..) (by decide)⟩

theorem State.modLs_raise_alone (s : State) (n : LsNo) (f : LoadSw → LoadSw) (e : Ev) (val : List Int) :
    (∀ m : LsNo, m ≠ n → ((s.modLs n.val f).raise e val).ls m.val = s.ls m.val) ∧
      Only [.port, .drives] s ((s.modLs n.val f).raise e val) :=
  ⟨fun _ hm => s.ls_modLs_other hm f,
    .of_chg (((Chg.refl [.port, .drives] s).step (State.modLs_chg ..) rfl).step (State.raise_chg ..) rfl) (by decide)⟩

theorem State.ls_of_drives {s u : State} (h : u.drives = s.drives) (n : Nat) : u.ls n = s.ls n := by
  simp only [State.ls, h]

theorem State.ls_refreshLs (s : State) (n : LsNo) :
    s.refreshLs.ls n.val = (s.ls n.val).follow (s.lsCommanded n.val) s.time.clock := vget_vmapIdx _ _ _ _ n.isLt

/-- What commands a channel besides its input does not change with the channels. -/
theorem State.lsCommanded_modLs (s : State) (n m : LsNo) (f : LoadSw → LoadSw) : (s.modLs n.val f).lsCommanded m.val =
    (((s.modLs n.val f).ls m.val).input && s.lsLive && (!lsPaired (s.lsRec m.val) || s.ringEnable)) := rfl

theorem LoadSw.follow_on {x : LoadSw} (hst : x.st = .off) (hhot : x.hot = false) (now : Nat) :
    x.follow true now = { x with st := .turnOn, turnAt := now } := by
  simp [LoadSw.follow, hst, hhot]

theorem LoadSw.follow_off {x : LoadSw} (h : x.conducts = true) (now : Nat) : x.follow false now = { x with st := .off, offAt := now } := by
  unfold LoadSw.conducts at h
  unfold LoadSw.follow
  cases hst : x.st <;> simp [hst] at h ⊢

theorem LoadSw.follow_still {x : LoadSw} (hst : x.st = .off) (now : Nat) : x.follow false now = x := by
  simp [LoadSw.follow, hst]

/-- A channel is held by an undervoltage no longer (R539). -/
theorem LoadSw.release_st (x : LoadSw) (cmd : Bool) (now : Nat) : (x.release cmd now).st ≠ .uvHold := by
  unfold LoadSw.release
  split
  · assumption
  split
  · exact LsState.noConfusion
  · unfold LoadSw.follow
    dsimp only
    split
    · split
      · exact LsState.noConfusion
      · exact LsState.noConfusion
    · exact LsState.noConfusion

theorem vput_fin {α : Type} {n : Nat} (v : Vector α n) (i : Fin n) (x : α) : vput v i.val x = v.set i x :=
  Vector.ext fun j hj => by simp [vput_get, Vector.getElem_set, eq_comm]

/-- A group is held by an undervoltage: all its channels but the latched ones (R539). -/
def State.holdGroup (s : State) (g : VsNo) : State :=
  { s with drives := { s.drives with
      ls := vmapIdx (fun (n : Nat) (x : LoadSw) =>
        if n / 8 = g.val && decide (x.st ≠ LsState.latched) then
          { x with st := LsState.uvHold, offAt := if x.conducts then s.time.clock else x.offAt }
        else x) s.drives.ls
      groups := vmapIdx (fun k x => if k = g.val then { x with uv := true, count := x.count + 1 } else x) s.drives.groups } }

/-- The channels of a group are held no longer. -/
def State.freeGroup (s : State) (g : VsNo) : State :=
  { s with drives := { s.drives with
      ls := vmapIdx (fun n x => if n / 8 = g.val then x.release (s.lsCommanded n) s.time.clock else x) s.drives.ls } }

theorem exec_lsInChange_eq {s z : State} {t : Nat} {n : LsNo} (hz : z = s.advance t) (level : Bool) :
    exec (.lsInChange t n level) s = .next (z.modLs n.val fun x => { x with input := level }).refreshLs := by
  rw [hz]
  rfl

theorem lsInChange_only (z : State) (n : LsNo) (f : LoadSw → LoadSw) : Only [.drives] z (z.modLs n.val f).refreshLs :=
  .of_chg ((State.modLs_chg ..).trans (State.refreshLs_chg _)) (by decide)

/-- Settles O51: a channel follows its input while its die and its ring enable let it, a ramp that is complete is ON, and a group below
its voltage holds all its channels but the latched ones. -/
theorem loadSwitchesFollow : Obligations.LoadSwitchesFollow := by
  unfold Obligations.LoadSwitchesFollow
  refine ⟨?_, ?_, ?_, ?_, ?_, ?_, ?_, ?_, ?_, ?_, ?_⟩
  · intro s z t n hz hst hhot hlive hring
    have hexec := exec_lsInChange_eq (t := t) (n := n) hz true
    have hsame := z.ls_modLs_same n fun x => { x with input := true }
    refine ⟨_, hexec, ?_, fun m hm => ?_, lsInChange_only z n _⟩
    · have hcmd : (z.modLs n.val fun x => { x with input := true }).lsCommanded n.val = true := by
        rw [State.lsCommanded_modLs, hsame, hlive]
        rcases hring with h | h <;> simp [h]
      rw [State.ls_refreshLs, hcmd, hsame]
      exact LoadSw.follow_on (x := { z.ls n.val with input := true }) hst hhot _
    · rw [State.ls_refreshLs, State.lsCommanded_modLs, z.ls_modLs_other hm]
      rfl
  · intro s z t n hz hconducts
    have hexec := exec_lsInChange_eq (t := t) (n := n) hz false
    have hsame := z.ls_modLs_same n fun x => { x with input := false }
    refine ⟨_, hexec, ?_, lsInChange_only z n _⟩
    have hcmd : (z.modLs n.val fun x => { x with input := false }).lsCommanded n.val = false := by
      rw [State.lsCommanded_modLs, hsame]
      rfl
    rw [State.ls_refreshLs, hcmd, hsame]
    exact LoadSw.follow_off (x := { z.ls n.val with input := false }) hconducts _
  · intro s z t n pct hz hst hdone
    have hexec : exec (.lsTurnOnComplete t n pct) s = .next (z.modLs n.val fun x => { x with st := .on, cleanAt := z.time.clock }) := by
      show execLsTurnOnComplete t n pct s = _
      unfold execLsTurnOnComplete
      rw [← hz]
      exact congrArg Host.Outcome.next (if_pos (by simp [hst, hdone]))
    exact ⟨_, hexec, z.ls_modLs_same n _, z.modLs_alone n _⟩
  · intro s z t n hz hst hclean
    have hexec : exec (.lsRetryReset t n) s = .next (z.modLs n.val fun x => { x with retries := 0 }) := by
      show execLsRetryReset t n s = _
      unfold execLsRetryReset
      rw [← hz]
      exact congrArg Host.Outcome.next (if_pos (by simp [hst, State.expired, hclean]))
    exact ⟨_, hexec, z.ls_modLs_same n _, z.modLs_alone n _⟩
  · intro c n
    refine .of_change (fun x s => s.opLsClear x n) (fun s t => rfl) (fun x arrival z => rfl) fun z v x ⟨hlatched, hoff⟩ => ?_
    let f (x : LoadSw) : LoadSw := { x with st := if x.st = .latched then .off else x.st, retries := 0, freewheels := 0 }
    let y := (z.withConns v).modLs n.val f
    have hop : (z.withConns v).opLsClear x n = y.refreshLs.reply x 0 := rfl
    have hchg : Chg [.port, .drives] z y.refreshLs :=
      ((Chg.refl [.port, .drives] z).step (State.withConns_chg z v) rfl).step ((State.modLs_chg ..).trans (State.refreshLs_chg _)) rfl
    have hsame : y.ls n.val = { z.ls n.val with st := .off, retries := 0, freewheels := 0 } := by
      refine ((z.withConns v).ls_modLs_same n f).trans ?_
      show f (z.ls n.val) = _
      simp only [f, if_pos hlatched]
    have hcmd : y.lsCommanded n.val = false := by
      rw [State.lsCommanded_modLs, hsame]
      exact hoff
    rw [hop]
    refine ⟨⟨?_, .of_chg (hchg.step (State.reply_chg ..) rfl) (by decide)⟩, fun hx hw => State.res_reply (s := y.refreshLs) hx hw 0 []⟩
    rw [State.ls_of_drives ((State.reply_chg ..).drives rfl), State.ls_refreshLs, hcmd, hsame, LoadSw.follow_still rfl]
  · intro s z t n w hz hrec hon hfreq hpart
    have hexec : exec (.timerOutputPulse t n) s = .next { z with
        drives := { z.drives with timers := z.drives.timers.set n (!z.drives.timers[n].1, z.time.clock) } } := by
      show execTimerOutputPulse t n s = _
      unfold execTimerOutputPulse
      rw [← hz]
      simp only [hrec, vget_val, hon, vput_fin]
      exact congrArg Host.Outcome.next (if_pos (by simp only [Bool.true_and, Bool.and_eq_true, decide_eq_true_eq]; exact ⟨hfreq, hpart⟩))
    exact ⟨_, hexec, rfl, .of_chg (Chg.setDrives ..) (by decide)⟩
  · intro s z t n hz hrec
    refine ⟨_, ?_, rfl⟩
    show execTimerOutputPulse t n s = _
    unfold execTimerOutputPulse
    rw [← hz]
    simp only [hrec]
  · intro s z t n k uA ms hz hk hst hlong hlow hflag
    have hexec : exec (.lsOpenLoad t n .std true uA ms) s =
        .next ((z.modLs n.val fun x => { x with olStd := true }).raise .lsOpenLoad [n.val, 0, ofBool true]) := by
      show execLsOpenLoad t n .std true uA ms s = _
      unfold execLsOpenLoad
      rw [← hz]
      simp only [hk]
      exact congrArg Host.Outcome.next ((if_neg (by simp [hst, hlong])).trans (if_pos (by simp [hlow, hflag])))
    exact ⟨_, hexec, z.ls_modLs_same n _, State.lastEv_raise .., z.modLs_raise_alone n _ _ _⟩
  · intro s z t n k uA ms hz hk hst hlong hhigh hflag
    have hexec : exec (.lsOpenLoad t n .fine false uA ms) s =
        .next ((z.modLs n.val fun x => { x with olFine := false }).raise .lsOpenLoad [n.val, 1, ofBool false]) := by
      show execLsOpenLoad t n .fine false uA ms s = _
      unfold execLsOpenLoad
      rw [← hz]
      simp only [hk]
      exact congrArg Host.Outcome.next ((if_neg (by simp [hst, hlong])).trans ((if_neg (by simp)).trans
        (if_pos (by simp [hhigh, hflag]))))
    exact ⟨_, hexec, z.ls_modLs_same n _, State.lastEv_raise .., z.modLs_raise_alone n _ _ _⟩
  · intro s z t g mv us hz hlow hlong huv
    have hexec : exec (.lsSupplyUv t g mv us) s = .next ((z.holdGroup g).raise .lsSupplyUv [g.val, mv, 1]) := by
      show execLsSupplyUv t g mv us s = _
      unfold execLsSupplyUv
      rw [← hz]
      refine congrArg Host.Outcome.next (if_pos ?_)
      simp only [State.supplyGroup, vget_val]
      simp only [hlow, hlong, decide_true, Bool.true_and]
      simpa using huv
    have hgroup : (z.holdGroup g).drives.groups[g] =
        { z.drives.groups[g] with uv := true, count := z.drives.groups[g].count + 1 } :=
      (vmapIdx_fin ..).trans (if_pos rfl)
    have hls (n : LsNo) : (z.holdGroup g).ls n.val = if n.val / 8 = g.val && decide ((z.ls n.val).st ≠ LsState.latched) then
        { z.ls n.val with st := .uvHold, offAt := if (z.ls n.val).conducts then z.time.clock else (z.ls n.val).offAt }
      else z.ls n.val := vget_vmapIdx _ _ _ _ n.isLt
    refine ⟨_, hexec, ?_, ?_, fun n hn hst => ?_, fun n hn => ?_, State.lastEv_raise .., ?_⟩
    · exact congrArg SupplyGroup.uv hgroup
    · exact congrArg SupplyGroup.count hgroup
    · refine (congrArg LoadSw.st (hls n)).trans ?_
      rw [if_pos (by simp [hn, hst])]
    · exact (hls n).trans (if_neg (by rcases hn with h | h <;> simp [h]))
    · exact .of_chg (((Chg.refl [.port, .drives] z).step (Chg.setDrives z _) rfl).step (State.raise_chg ..) rfl) (by decide)
  · intro s z t g mv us hz hhigh hlong huv
    let y := (z.modGroupVs g.val fun x => { x with uv := false }).raise .lsSupplyUv [g.val, mv, 0]
    have hexec : exec (.lsSupplyRecovered t g mv us) s = .next (y.freeGroup g) := by
      show execLsSupplyRecovered t g mv us s = _
      unfold execLsSupplyRecovered
      rw [← hz]
      refine congrArg Host.Outcome.next (if_pos ?_)
      simp only [State.supplyGroup, vget_val]
      simp only [hhigh, hlong, decide_true, Bool.true_and]
      exact huv
    have hgroup : (y.freeGroup g).drives.groups[g] = { z.drives.groups[g] with uv := false } := (vmapIdx_fin ..).trans (if_pos rfl)
    have hls (n : LsNo) : (y.freeGroup g).ls n.val =
        if n.val / 8 = g.val then (z.ls n.val).release (y.lsCommanded n.val) z.time.clock else z.ls n.val :=
      vget_vmapIdx _ _ _ _ n.isLt
    have hchg : Chg [.port, .drives] z y := ((Chg.refl _ z).step (State.modGroupVs_chg ..) rfl).step (State.raise_chg ..) rfl
    refine ⟨_, hexec, ?_, fun n hn => ?_, fun n hn => ?_, State.lastEv_raise .., ?_⟩
    · exact congrArg SupplyGroup.uv hgroup
    · rw [hls, if_pos hn]
      exact (z.ls n.val).release_st _ _
    · rw [hls, if_neg hn]
    · exact .of_chg (hchg.step (Chg.setDrives y _) rfl) (by decide)

end Sys2Proof.Machine
end

section
/-!
Proofs of the statement about load-switch faults and their retries (chapter 13).
-/
namespace Sys2Proof.Machine
open Sys2Proof Sys2Proof.Config

/-- A channel after a fault that turns it off (R536): one retry used, or LATCHED where none is left. -/
def LoadSw.faulted (x : LoadSw) (w : List W32) (now : Nat) : LoadSw :=
  if lsRetries w ≤ x.retries then { x with st := .latched, offAt := now, waitEnd := none }
  else { x with
    st := if x.st = .uvHold then .uvHold else .retryWait, retries := x.retries + 1, offAt := now
    waitEnd := some (now + lsRetryMs w * ticksPerMs) }

theorem LoadSw.faulted_of_retry {x : LoadSw} {w : List W32} (h : x.retries < lsRetries w) (hst : x.st ≠ .uvHold) (now : Nat) :
    x.faulted w now = { x with
      st := .retryWait, retries := x.retries + 1, offAt := now, waitEnd := some (now + lsRetryMs w * ticksPerMs) } := by
  rw [LoadSw.faulted, if_neg (not_le.mpr h), if_neg hst]

theorem LoadSw.faulted_of_spent {x : LoadSw} {w : List W32} (h : lsRetries w ≤ x.retries) (now : Nat) :
    x.faulted w now = { x with st := .latched, offAt := now, waitEnd := none } := if_pos h

theorem LoadSw.ne_uvHold_of_conducts {x : LoadSw} (h : x.conducts = true) : x.st ≠ .uvHold := by
  intro hst
  simp [LoadSw.conducts, hst] at h

theorem State.ls_faultLs_same (s : State) (n : LsNo) (c : LsCause) :
    (s.faultLs n.val c).ls n.val = (s.ls n.val).faulted (s.lsRec n.val) s.time.clock := by
  unfold State.faultLs LoadSw.faulted
  extract_lets x w now y
  split
  · exact (y.ls_modLs_same n _)
  · exact (y.ls_modLs_same n _)

theorem State.ls_faultLs_other (s : State) {n m : LsNo} (h : m ≠ n) (c : LsCause) :
    (s.faultLs n.val c).ls m.val = s.ls m.val := by
  unfold State.faultLs
  extract_lets x w now y
  split
  · exact (y.ls_modLs_other h _)
  · exact (y.ls_modLs_other h _)

theorem State.faultLs_lastEv_of_retry {s : State} {n : Nat} (h : (s.ls n).retries < lsRetries (s.lsRec n)) (c : LsCause) :
    (s.faultLs n c).lastEv = some .lsFault := by
  unfold State.faultLs
  exact (congrArg State.lastEv (if_neg (not_le.mpr h))).trans rfl

theorem State.faultLs_lastEv_of_spent {s : State} {n : Nat} (h : lsRetries (s.lsRec n) ≤ (s.ls n).retries) (c : LsCause) :
    (s.faultLs n c).lastEv = some .lsLatched := by
  unfold State.faultLs
  exact (congrArg State.lastEv (if_pos h)).trans rfl

theorem State.faultLs_alone (s : State) (n : LsNo) (c : LsCause) :
    (∀ m : LsNo, m ≠ n → (s.faultLs n.val c).ls m.val = s.ls m.val) ∧ Only [.port, .drives] s (s.faultLs n.val c) :=
  ⟨fun _ hm => s.ls_faultLs_other hm c, .of_chg (State.faultLs_chg ..) (by decide)⟩

/-- The warning of a channel that is hot (R535). -/
def State.warnLs (s : State) (n : LsNo) (d : Int) : State :=
  if !(s.ls n.val).warn then (s.modLs n.val fun x => { x with warn := true }).raise .lsThermalWarn [n.val, d, 1] else s

theorem State.warnLs_spec (s : State) (n : LsNo) (d : Int) : (s.warnLs n d).ls n.val = { s.ls n.val with warn := true } ∧
    (∀ m : LsNo, m ≠ n → (s.warnLs n d).ls m.val = s.ls m.val) ∧ Chg [.port, .drives] s (s.warnLs n d) ∧
      (s.warnLs n d).lsRec n.val = s.lsRec n.val := by
  unfold State.warnLs
  cases hwarn : (s.ls n.val).warn with
  | true =>
    exact ⟨congrArg (fun b => { s.ls n.val with warn := b }) hwarn, fun _ _ => rfl, Chg.refl _ _, rfl⟩
  | false =>
    exact ⟨s.ls_modLs_same n _, fun m hm => s.ls_modLs_other hm _,
      ((Chg.refl _ s).step (State.modLs_chg ..) rfl).step (State.raise_chg ..) rfl, rfl⟩

/-- Settles O52: a fault of a conducting channel turns it off and uses a retry, or latches it where none is left; the third freewheel
event latches it, and a hot channel waits. -/
theorem loadSwitchFaults : Obligations.LoadSwitchFaults := by
  unfold Obligations.LoadSwitchFaults
  refine ⟨?_, ?_, ?_, ?_, ?_, ?_, ?_, ?_, ?_⟩
  · intro s z t n x v us hz hconducts hramp hlimit hlow hlong hleft
    have hexec : exec (.lsShort t n x v us) s = .next (z.faultLs n.val .short) := by
      show execLsShort t n x v us s = _
      unfold execLsShort
      rw [← hz]
      have hnoramp : ((decide ((z.ls n.val).st = .turnOn) && decide (lsMode (z.lsRec n.val) = 2)) = true) = False :=
        eq_false (by simpa using hramp)
      refine congrArg Host.Outcome.next (if_pos ?_)
      simp only [hconducts, hnoramp, if_false, hlimit, hlow, hlong]
      rfl
    have hpump := z.ls_faultLs_same n .short
    rw [LoadSw.faulted_of_retry hleft (LoadSw.ne_uvHold_of_conducts hconducts)] at hpump
    exact ⟨_, hexec, hpump, State.faultLs_lastEv_of_retry hleft _, z.faultLs_alone n _⟩
  · intro s z t n x v us hz hst hmode hlimit hlow hlong hspent
    have hexec : exec (.lsShort t n x v us) s = .next (z.faultLs n.val .short) := by
      show execLsShort t n x v us s = _
      unfold execLsShort
      rw [← hz]
      refine congrArg Host.Outcome.next (if_pos ?_)
      simp [LoadSw.conducts, hst, hmode, hlimit, hlow, hlong]
    have hls := z.ls_faultLs_same n .short
    rw [LoadSw.faulted_of_spent hspent] at hls
    exact ⟨_, hexec, hls, State.faultLs_lastEv_of_spent hspent _, z.faultLs_alone n _⟩
  · intro s z t n mA ms hz hst hover hlong hleft
    have hexec : exec (.lsOverload t n mA ms) s = .next (z.faultLs n.val .overload) := by
      show execLsOverload t n mA ms s = _
      unfold execLsOverload
      rw [← hz]
      exact congrArg Host.Outcome.next (if_pos (by simp [LoadSw.conducts, hst, hover, hlong]))
    have hls := z.ls_faultLs_same n .overload
    rw [LoadSw.faulted_of_retry hleft (by rw [hst]; exact LsState.noConfusion)] at hls
    exact ⟨_, hexec, by rw [hls], by rw [hls], State.faultLs_lastEv_of_retry hleft _, z.faultLs_alone n _⟩
  · intro s z t n mA ms hz hunder
    refine ⟨_, ?_, rfl⟩
    show execLsOverload t n mA ms s = _
    unfold execLsOverload
    rw [← hz]
    exact congrArg Host.Outcome.next (if_neg (by simp [not_lt.mpr hunder]))
  · intro s z t n o v hz hst hmode hlow hlate hleft
    have hexec : exec (.lsSlewFault t n o v) s = .next (z.faultLs n.val .slew) := by
      show execLsSlewFault t n o v s = _
      unfold execLsSlewFault
      rw [← hz]
      exact congrArg Host.Outcome.next (if_pos (by simp [hst, hmode, hlow, State.expired, hlate]))
    have hls := z.ls_faultLs_same n .slew
    rw [LoadSw.faulted_of_retry hleft (by rw [hst]; exact LsState.noConfusion)] at hls
    exact ⟨_, hexec, by rw [hls], by rw [hls], State.faultLs_lastEv_of_retry hleft _, z.faultLs_alone n _⟩
  · intro s z t n mv us hz hmode hoff hlow hlong htwo hst
    let y := (z.modLs n.val fun x => { x with freewheels := x.freewheels + 1 }).raise .lsFault
      [n.val, LsCause.num .freewheel, (z.ls n.val).retries]
    have hexec : exec (.lsFreewheel t n mv us) s = .next ((y.modLs n.val fun x => { x with st := .latched, waitEnd := none }).raise
        .lsLatched [n.val, LsCause.num .freewheel]) := by
      show execLsFreewheel t n mv us s = _
      unfold execLsFreewheel
      rw [← hz]
      exact congrArg Host.Outcome.next ((if_pos (by simp [hmode, hoff, hlow, hlong])).trans (if_pos (by simp [htwo, hst])))
    have hy : y.ls n.val = _ := z.ls_modLs_same n _
    refine ⟨_, hexec, ?_, State.lastEv_raise .., fun m hm => ?_, ?_⟩
    · refine (y.ls_modLs_same n _).trans ?_
      rw [hy, htwo]
    · exact (y.ls_modLs_other hm _).trans (z.ls_modLs_other hm _)
    · exact .of_chg (((((Chg.refl [.port, .drives] z).step (State.modLs_chg ..) rfl).step (State.raise_chg ..) rfl).step
        (State.modLs_chg ..) rfl).step (State.raise_chg ..) rfl) (by decide)
  · intro s z t n d hz hhot hconducts hleft
    obtain ⟨hwarned, hothers, hchg, hrec⟩ := z.warnLs_spec n d
    let y := (z.warnLs n d).modLs n.val fun x => { x with hot := true }
    have hexec : exec (.lsThermal t n d) s = .next (y.faultLs n.val .thermal) := by
      show execLsThermal t n d s = _
      unfold execLsThermal
      rw [← hz]
      have hwarn : (150 ≤ d && !(z.ls n.val).warn) = !(z.ls n.val).warn := by
        rw [decide_eq_true (by omega : 150 ≤ d), Bool.true_and]
      have hcool : (decide (d < 135) && (z.ls n.val).warn) = false := by
        rw [decide_eq_false (by omega : ¬ d < 135), Bool.false_and]
      simp only [hwarn, hcool, if_pos hhot, if_pos hconducts]
      rfl
    have hy : y.ls n.val = { z.ls n.val with warn := true, hot := true } := by
      rw [(z.warnLs n d).ls_modLs_same n _, hwarned]
    have hyrec : y.lsRec n.val = z.lsRec n.val := hrec
    have hleft' : (y.ls n.val).retries < lsRetries (y.lsRec n.val) := by rw [hy, hyrec]; exact hleft
    have hls := y.ls_faultLs_same n .thermal
    rw [LoadSw.faulted_of_retry hleft' (by rw [hy]; exact LoadSw.ne_uvHold_of_conducts hconducts), hy] at hls
    refine ⟨_, hexec, by rw [hls], by rw [hls], by rw [hls], State.faultLs_lastEv_of_retry hleft' _, fun m hm => ?_, ?_⟩
    · rw [y.ls_faultLs_other hm, (z.warnLs n d).ls_modLs_other hm, hothers m hm]
    · exact .of_chg ((hchg.step (State.modLs_chg ..) rfl).step (State.faultLs_chg ..) rfl) (by decide)
  · intro s z t n e hz hst hwait hover hcool
    have hexec : exec (.lsRetry t n) s = .next (z.modLs n.val fun x =>
        if z.lsCommanded n.val then { x with st := .turnOn, turnAt := z.time.clock, waitEnd := none }
        else { x with st := .off, waitEnd := none }) := by
      show Host.Outcome.next ((s.advance t).retryLs n.val) = _
      rw [← hz]
      unfold State.retryLs
      refine congrArg Host.Outcome.next (if_pos ?_)
      simp [hst, hwait, hover, hcool]
    exact ⟨_, hexec, z.ls_modLs_same n _, z.modLs_alone n _⟩
  · intro s z t n e hz hwait hearly
    refine ⟨_, ?_, rfl⟩
    show Host.Outcome.next ((s.advance t).retryLs n.val) = _
    rw [← hz]
    unfold State.retryLs
    exact congrArg Host.Outcome.next (if_neg (by simp [hwait, not_lt.mpr hearly]))

end Sys2Proof.Machine
end

section
/-!
Proofs of the statement about the ramps, the synchronisation and the gates of the regulators (chapter 14).
-/
namespace Sys2Proof.Machine
open Sys2Proof Sys2Proof.Config

/-! A controller after a change of one. -/

theorem State.reg_modReg_same (s : State) (b : BuckNo) (f : Reg → Reg) : (s.modReg b.val f).reg b.val = f (s.reg b.val) :=
  (vget_vmapIdx _ _ _ _ b.isLt).trans (if_pos rfl)

theorem State.reg_modReg_other (s : State) {b m : BuckNo} (h : m ≠ b) (f : Reg → Reg) :
    (s.modReg b.val f).reg m.val = s.reg m.val :=
  (vget_vmapIdx _ _ _ _ m.isLt).trans (if_neg (Fin.val_ne_of_ne h))

theorem State.modReg_alone (s : State) (b : BuckNo) (f : Reg → Reg) :
    (∀ m : BuckNo, m ≠ b → (s.modReg b.val f).reg m.val = s.reg m.val) ∧ Only [.supply] s (s.modReg b.val f) :=
  ⟨fun _ hm => s.reg_modReg_other hm f, .of_chg (State.modReg_chg ..) (by decide)⟩

theorem State.modReg_raise_chg (s : State) (b : Nat) (f : Reg → Reg) (e : Ev) (val : List Int) :
    Chg [.port, .supply] s ((s.modReg b f).raise e val) :=
  ((Chg.refl _ s).step (State.modReg_chg ..) rfl).step (State.raise_chg ..) rfl

theorem State.reg_of_supply {s u : State} (h : u.supply = s.supply) (n : Nat) : u.reg n = s.reg n := by
  simp only [State.reg, h]

/-! The gates of a period (R549, R550, R554). -/

section
variable {x : Reg} {w : List W32} {period ask : Rat} {zero limit : Option Rat}

/-- The high side leaves the low side its 60 ns. -/
theorem Reg.gates_high_le (hswitch : x.switching = true) (hperiod : 80 ≤ period) :
    (x.gates w period ask zero limit).high ≤ period - 80 := by
  have hfull : (if ask < 40 || x.ov then 0 else min ask (period - 80)) ≤ period - 80 := by
    split
    · linarith
    · exact min_le_right ..
  simp only [Reg.gates, hswitch, Bool.not_true, Bool.false_eq_true, if_false]
  cases limit with
  | none => exact hfull
  | some l => exact (min_le_left ..).trans hfull

theorem Reg.gates_lowFrom (hswitch : x.switching = true) :
    (x.gates w period ask zero limit).lowFrom = (x.gates w period ask zero limit).high + 10 := by
  simp only [Reg.gates, hswitch, Bool.not_true, Bool.false_eq_true, if_false]

/-- The low side is on until the next period, or until the current has reached zero. -/
theorem Reg.gates_lowTo (hswitch : x.switching = true) : (x.gates w period ask zero limit).lowTo = match zero with
    | some y => if x.emulates w then min (period - 10) (max y ((x.gates w period ask zero limit).lowFrom + 60)) else period - 10
    | none => period - 10 := by
  cases zero <;> simp only [Reg.gates, hswitch, Bool.not_true, Bool.false_eq_true, if_false]

theorem Reg.gates_lowTo_le (hswitch : x.switching = true) : (x.gates w period ask zero limit).lowTo ≤ period - 10 := by
  rw [Reg.gates_lowTo hswitch]
  split
  · split
    · exact min_le_left ..
    · exact le_rfl
  · exact le_rfl

theorem Reg.gates_low_width (hswitch : x.switching = true) (hperiod : 80 ≤ period) :
    (x.gates w period ask zero limit).lowFrom + 60 ≤ (x.gates w period ask zero limit).lowTo := by
  have hhigh := Reg.gates_high_le (x := x) (w := w) (ask := ask) (zero := zero) (limit := limit) hswitch hperiod
  have hfrom : (x.gates w period ask zero limit).lowFrom + 60 ≤ period - 10 := by
    rw [Reg.gates_lowFrom hswitch]
    linarith
  rw [Reg.gates_lowTo hswitch]
  split
  · split
    · exact le_min hfrom (le_max_right ..)
    · exact hfrom
  · exact hfrom
end

/-- A turn-off that was commanded takes effect (R556). -/
def Reg.turnOff (w : List W32) (now : Nat) (x : Reg) : Reg :=
  let x : Reg := { x with offAt := none }
  if x.switching then x.enter w now .rampDown else if x.st = .latched then x else x.gatesOff now .off

theorem Reg.turnOff_of_switching {x : Reg} (h : x.switching = true) (w : List W32) (now : Nat) :
    x.turnOff w now = { x with offAt := none, ref := x.refNow w now, refAt := now, st := .rampDown, stAt := now } := if_pos h

/-- Settles O53: a regulator ramps and follows its synchronisation, and its gates keep their times. -/
theorem regulatorsRamp : Obligations.RegulatorsRamp := by
  unfold Obligations.RegulatorsRamp
  refine ⟨?_, ?_, ?_, ?_, ?_, ?_, ?_, ?_, ?_, ?_, ?_, ?_, ?_, ?_, ?_⟩
  · intro s z t b w a hz hrec hservice hst hmode hlate
    let y := z.modReg b.val fun x => { x with ref := x.refNow w z.time.clock, refAt := z.time.clock, target := z.regTarget w }
    have hexec : exec (.regTurnOn t b) s = .next (y.modReg b.val fun x => x.fromZero z.time.clock) := by
      have hretarget : z.retargetReg b.val = y := by simp only [State.retargetReg, hrec, y]
      show execRegTurnOn t b s = _
      unfold execRegTurnOn
      rw [← hz]
      simp only [hrec, hservice]
      refine congrArg Host.Outcome.next ((if_pos ?_).trans (by rw [hretarget]))
      rcases hst with h | h <;> simp [h, hmode, hlate]
    have hreg := (y.reg_modReg_same b fun x => x.fromZero z.time.clock).trans (congrArg (Reg.fromZero · z.time.clock)
      (z.reg_modReg_same b _))
    refine ⟨_, hexec, by rw [hreg]; rfl, by rw [hreg]; rfl, by rw [hreg]; rfl, by rw [hreg]; rfl, fun m hm => ?_, ?_⟩
    · exact (y.reg_modReg_other hm _).trans (z.reg_modReg_other hm _)
    · exact .of_chg ((State.modReg_chg ..).trans (State.modReg_chg ..)) (by decide)
  · intro s z t b hz hmode
    refine ⟨_, ?_, rfl⟩
    show execRegTurnOn t b s = _
    unfold execRegTurnOn
    rw [← hz]
    dsimp only
    split
    · exact congrArg Host.Outcome.next (if_neg (by simp [hmode]))
    · rfl
  · intro s z t b w a hz hrec hoff hswitch hlate
    have hexec : exec (.regTurnOff t b) s = .next (z.modReg b.val (Reg.turnOff w z.time.clock)) := by
      show execRegTurnOff t b s = _
      unfold execRegTurnOff
      rw [← hz]
      simp only [hrec, hoff]
      exact congrArg Host.Outcome.next (if_pos hlate)
    have hreg := (z.reg_modReg_same b (Reg.turnOff w z.time.clock)).trans (Reg.turnOff_of_switching hswitch w _)
    exact ⟨_, hexec, by rw [hreg], by rw [hreg], by rw [hreg], z.modReg_alone b _⟩
  · intro s z t b hz hoff
    refine ⟨_, ?_, rfl⟩
    show execRegTurnOff t b s = _
    unfold execRegTurnOff
    rw [← hz]
    simp only [hoff]
    cases z.regRec b.val with
    | none => rfl
    | some w => rfl
  · intro s z t b w hz hrec hst hdone
    have hexec : exec (.regRampDone t b) s =
        .next (z.modReg b.val fun x => { x.enter w z.time.clock .run with cleanAt := z.time.clock }) := by
      have hgoal : (z.reg b.val).refNow w z.time.clock = (z.reg b.val).goal := by rw [hdone, Reg.goal, if_neg (by rw [hst]; decide)]
      show execRegRampDone t b s = _
      unfold execRegRampDone
      rw [← hz]
      simp only [hst, hrec, Option.getD_some]
      exact congrArg Host.Outcome.next (if_pos hgoal)
    have hreg := z.reg_modReg_same b fun x => { x.enter w z.time.clock .run with cleanAt := z.time.clock }
    exact ⟨_, hexec, by rw [hreg]; rfl, by rw [hreg], by rw [hreg]; exact hdone, z.modReg_alone b _⟩
  · intro s z t b w hz hrec hst hdone
    have hexec : exec (.regRampDone t b) s = .next (z.modReg b.val fun x => x.gatesOff z.time.clock .off) := by
      show execRegRampDone t b s = _
      unfold execRegRampDone
      rw [← hz]
      simp only [hst, hrec, Option.getD_some]
      exact congrArg Host.Outcome.next (if_pos hdone)
    exact ⟨_, hexec, z.reg_modReg_same b _, z.modReg_alone b _⟩
  · intro c k
    refine .of_change (fun x s => s.opRegClear x k) (fun s t => rfl) (fun x arrival z => rfl) fun z v x hlatched => ?_
    let f (x : Reg) : Reg := if x.st = .latched then { x with st := .off } else x
    let y := (z.withConns v).modReg k.val f
    have hop : (z.withConns v).opRegClear x k = y.reply x 0 := rfl
    have hreg (m : BuckNo) : (y.reply x 0).reg m.val = y.reg m.val := State.reg_of_supply ((State.reply_chg ..).supply rfl) _
    have hchg : Chg [.port, .supply] z (y.reply x 0) :=
      (((Chg.refl [.port, .supply] z).step (State.withConns_chg z v) rfl).step (State.modReg_chg ..) rfl).step (State.reply_chg ..) rfl
    rw [hop]
    refine ⟨⟨?_, fun m hm => ?_, .of_chg hchg (by decide)⟩, fun hx hw => State.res_reply (s := y) hx hw 0 []⟩
    · rw [hreg, State.reg_modReg_same]
      exact if_pos hlatched
    · rw [hreg, State.reg_modReg_other _ hm]
      rfl
  · intro s z t b w khz hz hrec hbit hband
    have hexec : exec (.regSyncLock t b khz) s = .next (z.modReg b.val fun x =>
        { x with freq := x.freqNow w z.time.clock, freqAt := z.time.clock, sync := true, syncKhz := khz }) := by
      show execRegSyncLock t b khz s = _
      unfold execRegSyncLock
      rw [← hz]
      simp only [hrec]
      exact congrArg Host.Outcome.next (if_pos (by simp [hbit, hband]))
    exact ⟨_, hexec, z.reg_modReg_same b _, z.modReg_alone b _⟩
  · intro s z t b w khz hz hrec hband
    refine ⟨_, ?_, rfl⟩
    show execRegSyncLock t b khz s = _
    unfold execRegSyncLock
    rw [← hz]
    simp only [hrec]
    exact congrArg Host.Outcome.next (if_neg (by simp [hband]))
  · intro s z t b w n khz hz hrec hsync hlost
    have hexec : exec (.syncLost t b n khz) s = .next ((z.modReg b.val fun x =>
        { x with freq := x.freqNow w z.time.clock, freqAt := z.time.clock, sync := false }).raise .syncLost [4 + b.val]) := by
      show execSyncLost t b n khz s = _
      unfold execSyncLost
      rw [← hz]
      simp only [hrec]
      exact congrArg Host.Outcome.next (if_pos (by rcases hlost with h | h <;> simp [hsync, h]))
    exact ⟨_, hexec, z.reg_modReg_same b _, fun m hm => z.reg_modReg_other hm _, State.lastEv_raise ..,
      .of_chg (z.modReg_raise_chg ..) (by decide)⟩
  · intro s z t b w n khz hz hrec hedge hband
    refine ⟨_, ?_, rfl⟩
    show execSyncLost t b n khz s = _
    unfold execSyncLost
    rw [← hz]
    simp only [hrec]
    exact congrArg Host.Outcome.next (if_neg (by simp [hband, not_lt.mpr hedge]))
  · intro x w period ask zero limit hswitch hperiod
    exact ⟨Reg.gates_lowFrom hswitch, Reg.gates_low_width hswitch hperiod, Reg.gates_lowTo_le hswitch,
      Reg.gates_high_le hswitch hperiod⟩
  · intro x w period ask y limit hemulates hswitch
    rw [Reg.gates_lowTo hswitch]
    simp only [hemulates, if_true, Reg.gates_lowFrom hswitch]
    refine (min_le_right ..).trans (max_le_max le_rfl ?_)
    linarith
  · intro s z t b fb ms hz hswitch hpg hband hlong
    have hexec : ∃ val, exec (.regPg t b fb ms) s = .next ((z.modReg b.val fun x => { x with pg := false }).raise .regPg val) := by
      show ∃ val, execRegPg t b fb ms s = _
      unfold execRegPg
      rw [← hz]
      exact ⟨_, congrArg Host.Outcome.next ((if_neg (by simp [hswitch])).trans ((if_pos (by simpa using hband)).trans
        (if_pos (by simp [hlong, hpg]))))⟩
    obtain ⟨val, hexec⟩ := hexec
    exact ⟨_, hexec, z.reg_modReg_same b _, fun m hm => z.reg_modReg_other hm _, State.lastEv_raise ..,
      .of_chg (z.modReg_raise_chg ..) (by decide)⟩
  · intro s z t b fb ms hz hswitch hlow hhigh
    have hexec : exec (.regPg t b fb ms) s = .next (z.modReg b.val fun x => { x with pg := true }) := by
      show execRegPg t b fb ms s = _
      unfold execRegPg
      rw [← hz]
      exact congrArg Host.Outcome.next ((if_neg (by simp [hswitch])).trans (if_neg (by simp [not_lt.mpr hlow, not_lt.mpr hhigh])))
    exact ⟨_, hexec, z.reg_modReg_same b _, (z.modReg_alone b _).2⟩

end Sys2Proof.Machine
end

section
/-!
Proofs of the statement about regulator faults and their retries (chapter 14).
-/
namespace Sys2Proof.Machine
open Sys2Proof Sys2Proof.Config

theorem State.regRec_of_drives {s u : State} (h : u.drives = s.drives) (n : Nat) : u.regRec n = s.regRec n := by
  simp only [State.regRec, State.powerRec, h]

section
variable {z : State} {b : BuckNo} {w : List W32} (hrec : z.regRec b.val = some w)
include hrec

/-- A fault that uses a retry (R564). -/
theorem State.faultReg_of_retry (h : (z.reg b.val).retries < regRetries w) (cause : Nat) (st : RegState) :
    z.faultReg b.val cause st = z.modReg b.val fun x => { x.gatesOff z.time.clock st with retries := x.retries + 1 } := by
  unfold State.faultReg
  simp only [hrec, Option.getD_some, if_neg (not_le.mpr h)]

theorem State.faultReg_of_spent (h : regRetries w ≤ (z.reg b.val).retries) (cause : Nat) (st : RegState) :
    z.faultReg b.val cause st = (z.modReg b.val fun x => x.gatesOff z.time.clock .latched).raise .regFault [4 + b.val, cause] := by
  unfold State.faultReg
  simp only [hrec, Option.getD_some, if_pos h]
end

/-- A controller that is hot, and warned of (R563). -/
def State.heatReg (s : State) (b : BuckNo) (d : Int) : State :=
  (if !(s.reg b.val).warn then (s.modReg b.val fun x => { x with warn := true }).raise .regThermal [4 + b.val, d, 1] else s).modReg b.val
    fun x => { x with hot := true }

theorem State.heatReg_spec (s : State) (b : BuckNo) (d : Int) :
    (s.heatReg b d).reg b.val = { s.reg b.val with warn := true, hot := true } ∧
    (∀ m : BuckNo, m ≠ b → (s.heatReg b d).reg m.val = s.reg m.val) ∧ Chg [.port, .supply] s (s.heatReg b d) := by
  unfold State.heatReg
  cases hwarn : (s.reg b.val).warn with
  | true =>
    refine ⟨(State.reg_modReg_same s b _).trans (congrArg (fun y => { s.reg b.val with warn := y, hot := true }) hwarn),
      fun m hm => State.reg_modReg_other s hm _, (State.modReg_chg ..).widen rfl⟩
  | false =>
    let y := (s.modReg b.val fun x => { x with warn := true }).raise .regThermal [4 + b.val, d, 1]
    have hy : y.reg b.val = { s.reg b.val with warn := true } := s.reg_modReg_same b _
    refine ⟨(y.reg_modReg_same b _).trans (by rw [hy]), fun m hm => (y.reg_modReg_other hm _).trans (s.reg_modReg_other hm _), ?_⟩
    exact (s.modReg_raise_chg ..).step (State.modReg_chg ..) rfl

theorem exec_regThermal_hot {s z : State} {t : Nat} {b : BuckNo} {d : Int} (hz : z = s.advance t) (hhot : 150 ≤ d)
    (hswitch : (z.reg b.val).switching = true) :
    exec (.regThermal t b d) s = .next ((z.heatReg b d).faultReg b.val 2 .retryWait) := by
  show Host.Outcome.next ((s.advance t).regTemp b.val d) = _
  rw [← hz]
  unfold State.regTemp
  have hwarn : (decide (135 ≤ d) && !(z.reg b.val).warn) = !(z.reg b.val).warn := by
    rw [decide_eq_true (by omega : 135 ≤ d), Bool.true_and]
  have hcool : (decide (d < 120) && (z.reg b.val).warn) = false := by
    rw [decide_eq_false (by omega : ¬ d < 120), Bool.false_and]
  simp only [hwarn, hcool, if_pos hhot, if_pos hswitch]
  rfl

theorem exec_regHiccup_eq {s z : State} {t : Nat} {b : BuckNo} {w : List W32} {x : RegSense} {n : Nat} (hz : z = s.advance t)
    (hrec : z.regRec b.val = some w) (hst : (z.reg b.val).st = .run ∨ (z.reg b.val).st = .softStart) (hlimit : fld w 2 15 8 < x.csMv)
    (hperiods : 256 ≤ n) (hlow : x.fbPct < 50) : exec (.regHiccup t b x n) s = .next (
      let y := z.faultReg b.val 1 .hiccup
      if (y.reg b.val).st = .hiccup then y.raise .regHiccup [4 + b.val, (y.reg b.val).retries] else y) := by
  show execRegHiccup t b x n s = _
  unfold execRegHiccup
  rw [← hz]
  simp only [hrec, Option.getD_some]
  exact congrArg Host.Outcome.next (if_pos (by rcases hst with h | h <;> simp [h, hlimit, hperiods, hlow]))

/-- An overvoltage of a controller in RUN or its soft start is noted (R562). -/
def State.overvoltage (s : State) (b : BuckNo) : State :=
  (s.modReg b.val fun x => { x with
    ov := true, cleanAt := s.time.clock, ovAt := s.time.clock :: x.ovAt.filter fun e => s.time.clock ≤ e + ticksPerSec }).raise
      .regFault [4 + b.val, 0]

theorem State.overvoltage_same (s : State) (b : BuckNo) : (s.overvoltage b).reg b.val = { s.reg b.val with
    ov := true, cleanAt := s.time.clock
    ovAt := s.time.clock :: (s.reg b.val).ovAt.filter fun e => s.time.clock ≤ e + ticksPerSec } := s.reg_modReg_same b _

theorem exec_regFault_over {s z : State} {t : Nat} {b : BuckNo} {fb us : Nat} (hz : z = s.advance t)
    (hst : (z.reg b.val).st = .run ∨ (z.reg b.val).st = .softStart) (hov : (z.reg b.val).ov = false) (hhigh : 115 < fb) (hlong : 10 ≤ us) :
    exec (.regFault t b fb us) s = .next (if 3 ≤ ((z.overvoltage b).reg b.val).ovAt.length then
      ((z.overvoltage b).modReg b.val fun x => { x with ovAt := [] }).faultReg b.val 0 .retryWait else z.overvoltage b) := by
  show execRegFault t b fb us s = _
  unfold execRegFault
  rw [← hz]
  exact congrArg Host.Outcome.next (if_pos (by rcases hst with h | h <;> simp [h, hov, hhigh, hlong]))

/-- Settles O54: a short, the third overvoltage within 1 s and an overtemperature turn the gates off and use a retry, or latch the
controller; the wait ends in a soft start from zero. -/
theorem regulatorFaults : Obligations.RegulatorFaults := by
  unfold Obligations.RegulatorFaults
  refine ⟨?_, ?_, ?_, ?_, ?_, ?_, ?_, ?_, ?_, ?_⟩
  · intro s z t b w x n hz hrec hst hlimit hperiods hlow hleft
    have hexec := exec_regHiccup_eq (t := t) hz hrec hst hlimit hperiods hlow
    rw [State.faultReg_of_retry hrec hleft] at hexec
    have hreg := z.reg_modReg_same b fun x => { x.gatesOff z.time.clock .hiccup with retries := x.retries + 1 }
    rw [if_pos (by rw [hreg]; rfl)] at hexec
    exact ⟨_, hexec, hreg, fun m hm => z.reg_modReg_other hm _, State.lastEv_raise .., .of_chg (z.modReg_raise_chg ..) (by decide)⟩
  · intro s z t b w x n hz hrec hst hlimit hperiods hlow hspent
    have hexec := exec_regHiccup_eq (t := t) hz hrec hst hlimit hperiods hlow
    rw [State.faultReg_of_spent hrec hspent] at hexec
    have hreg := z.reg_modReg_same b fun x => x.gatesOff z.time.clock .latched
    have hnot : ¬ (((z.modReg b.val fun x => x.gatesOff z.time.clock .latched).raise .regFault [4 + b.val, 1]).reg b.val).st = .hiccup :=
      fun h => RegState.noConfusion ((congrArg Reg.st hreg).symm.trans h)
    exact ⟨_, hexec.trans (congrArg Host.Outcome.next (if_neg hnot)), hreg, State.lastEv_raise ..,
      .of_chg (z.modReg_raise_chg ..) (by decide)⟩
  · intro s z t b w hz hrec hst hcool hlate
    have hexec : exec (.regHiccupEnd t b) s = .next (z.modReg b.val fun x => x.fromZero z.time.clock) := by
      show execRegHiccupEnd t b s = _
      unfold execRegHiccupEnd
      rw [← hz]
      exact congrArg Host.Outcome.next (if_pos (by simp [hrec, hst, hcool, hlate]))
    exact ⟨_, hexec, z.reg_modReg_same b _, z.modReg_alone b _⟩
  · intro s z t b fb us hz hst hhigh hlong hfew hov
    have hexec := exec_regFault_over (t := t) hz hst hov hhigh hlong
    have hreg := z.overvoltage_same b
    have hcount : ¬ 3 ≤ ((z.overvoltage b).reg b.val).ovAt.length := by
      have hle := List.length_filter_le (fun e => decide (z.time.clock ≤ e + ticksPerSec)) (z.reg b.val).ovAt
      rw [hreg]
      simp only [List.length_cons]
      omega
    rw [if_neg hcount] at hexec
    exact ⟨_, hexec, by rw [hreg], by rw [hreg], by rw [hreg], fun m hm => z.reg_modReg_other hm _, State.lastEv_raise ..,
      .of_chg (z.modReg_raise_chg ..) (by decide)⟩
  · intro s z t b w fb us hz hrec hst hhigh hlong hov hmany hleft
    have hexec := exec_regFault_over (t := t) hz (.inl hst) hov hhigh hlong
    have hreg := z.overvoltage_same b
    have hcount : 3 ≤ ((z.overvoltage b).reg b.val).ovAt.length := by
      rw [hreg]
      simp only [List.length_cons]
      omega
    let y := (z.overvoltage b).modReg b.val fun x => { x with ovAt := [] }
    have hy : y.reg b.val = { (z.overvoltage b).reg b.val with ovAt := [] } := State.reg_modReg_same _ b _
    have hleft' : (y.reg b.val).retries < regRetries w := by rw [hy, hreg]; exact hleft
    rw [if_pos hcount, State.faultReg_of_retry (z := y) hrec hleft'] at hexec
    have hfault := y.reg_modReg_same b fun x => { x.gatesOff y.time.clock .retryWait with retries := x.retries + 1 }
    refine ⟨_, hexec, by rw [hfault]; rfl, ?_, by rw [hfault]; rfl, ?_, fun m hm => ?_, ?_⟩
    · rw [hfault, hy, hreg]
    · rw [hfault, hy]
      rfl
    · exact (y.reg_modReg_other hm _).trans ((State.reg_modReg_other _ hm _).trans (z.reg_modReg_other hm _))
    · exact .of_chg (((z.modReg_raise_chg ..).step (State.modReg_chg ..) rfl).step (State.modReg_chg ..) rfl) (by decide)
  · intro s z t b fb us hz hlow
    have hexec : exec (.regFault t b fb us) s = .next (z.modReg b.val fun x => { x with ov := false }) := by
      show execRegFault t b fb us s = _
      unfold execRegFault
      rw [← hz]
      refine congrArg Host.Outcome.next ((if_neg ?_).trans (if_pos hlow))
      simp [show ¬ 115 < fb by omega]
    exact ⟨_, hexec, z.reg_modReg_same b _, (z.modReg_alone b _).2⟩
  · intro s z t b w d hz hrec hhot hswitch hleft
    have hexec := exec_regThermal_hot (t := t) hz hhot hswitch
    obtain ⟨hreg, hothers, hchg⟩ := z.heatReg_spec b d
    have hrec' : (z.heatReg b d).regRec b.val = some w :=
      (State.regRec_of_drives (hchg.drives rfl) _).trans hrec
    have hleft' : ((z.heatReg b d).reg b.val).retries < regRetries w := by rw [hreg]; exact hleft
    rw [State.faultReg_of_retry hrec' hleft'] at hexec
    have hfault := (z.heatReg b d).reg_modReg_same b fun x =>
      { x.gatesOff (z.heatReg b d).time.clock .retryWait with retries := x.retries + 1 }
    rw [hreg] at hfault
    refine ⟨_, hexec, by rw [hfault]; rfl, by rw [hfault]; rfl, by rw [hfault]; rfl, by rw [hfault], fun m hm => ?_, ?_⟩
    · exact (State.reg_modReg_other _ hm _).trans (hothers m hm)
    · exact .of_chg (hchg.step (State.modReg_chg ..) rfl) (by decide)
  · intro s z t b hz hst hcool hlate
    have hexec : exec (.regRetryWaitEnd t b) s = .next (z.modReg b.val fun x => x.fromZero z.time.clock) := by
      show execRegRetryWaitEnd t b s = _
      unfold execRegRetryWaitEnd
      rw [← hz]
      exact congrArg Host.Outcome.next (if_pos (by simp [hst, hcool, hlate]))
    exact ⟨_, hexec, z.reg_modReg_same b _, z.modReg_alone b _⟩
  · intro s z t b hz hhot
    refine ⟨_, ?_, rfl⟩
    show execRegRetryWaitEnd t b s = _
    unfold execRegRetryWaitEnd
    rw [← hz]
    exact congrArg Host.Outcome.next (if_neg (by simp [hhot]))
  · intro s z t b w hz hrec hst hclean
    have hexec : exec (.regRetryReset t b) s = .next (z.modReg b.val fun x => { x with retries := 0 }) := by
      show execRegRetryReset t b s = _
      unfold execRegRetryReset
      rw [← hz]
      exact congrArg Host.Outcome.next (if_pos (by simp [hrec, hst, hclean]))
    exact ⟨_, hexec, z.reg_modReg_same b _, z.modReg_alone b _⟩

end Sys2Proof.Machine
end

section
/-!
Proofs of the statements about curtailment sources and the contactor matrix (chapter 7).
-/
namespace Sys2Proof.Machine
open Sys2Proof Sys2Proof.Config

/-! Curtailment (R272, R273). -/

/-- The effective curtailment is the lesser of the two contributions. -/
theorem State.recurtail_juggler (s : State) (src : Int) : (s.recurtail src).juggler = { s.juggler with
    effective := minLimit (s.policy.contribution s.juggler.curtObj) (s.policy.contribution s.juggler.curtCan) } := by
  unfold State.recurtail
  extract_lets p e
  split
  · next h => exact congrArg (fun x => { s.juggler with effective := x }) h.symm
  · rfl

theorem State.writeCurt_juggler (s : State) (kw secs : Nat) : (s.writeCurt kw secs).juggler =
    let src : CurtSrc := {
      st := if kw = 0xFFFFFFFF then .lifted else .active, value := if kw = 0xFFFFFFFF then none else some kw
      expiry := if secs = 0 then none else some (s.time.clock + secs * ticksPerSec) }
    { s.juggler with
      curtObj := src, effective := minLimit (s.policy.contribution src) (s.policy.contribution s.juggler.curtCan) } := by
  unfold State.writeCurt
  rw [State.recurtail_juggler]
  rfl

theorem State.takeGrid_juggler {s : State} {k : CanNo} {v : BitVec 64} (hen : s.policy.curtCanEn = true) (hk : k.val = s.policy.curtCan)
    (hop : v.toNat / 256 % 256 = 1) : (s.takeGrid k v).juggler =
      let src : CurtSrc := {
        st := if v.toNat / 2 ^ 32 = 0xFFFFFFFF then .lifted else .active
        value := if v.toNat / 2 ^ 32 = 0xFFFFFFFF then none else some (v.toNat / 2 ^ 32)
        expiry := some (s.time.clock + s.policy.curtTimeout), seq := v.toNat / 65536 % 65536 }
      { s.juggler with
        curtCan := src, effective := minLimit (s.policy.contribution s.juggler.curtObj) (s.policy.contribution src) } := by
  unfold State.takeGrid
  extract_lets p w limit
  rw [if_pos (by simp [p, w, hen, hk, hop]), State.recurtail_juggler]
  rfl

theorem State.fallSilent_object {s : State} (h : s.juggler.curtObj.st ≠ .silent) :
    (s.fallSilent .object).juggler = { s.juggler with
      curtObj := { s.juggler.curtObj with st := .silent, expiry := none }
      effective := minLimit (s.policy.contribution { s.juggler.curtObj with st := .silent, expiry := none })
        (s.policy.contribution s.juggler.curtCan) } := by
  unfold State.fallSilent
  extract_lets c n
  rw [if_neg (show ¬ (s.curtSrc .object).st = .silent from h), State.recurtail_juggler]
  rfl

theorem State.fallSilent_can {s : State} (h : s.juggler.curtCan.st ≠ .silent) :
    (s.fallSilent .can).juggler = { s.juggler with
      curtCan := { s.juggler.curtCan with st := .silent, expiry := none }
      effective := minLimit (s.policy.contribution s.juggler.curtObj)
        (s.policy.contribution { s.juggler.curtCan with st := .silent, expiry := none }) } := by
  unfold State.fallSilent
  extract_lets c n
  rw [if_neg (show ¬ (s.curtSrc .can).st = .silent from h), State.recurtail_juggler]
  rfl

/-- A write of the curtailment object takes effect. -/
theorem State.opCurt_of_range {s : State} {x : Caller} {kw secs : Nat} (hkw : kw < 2 ^ 32) (hsecs : secs < 2 ^ 32) :
    s.opCurt x kw secs = (s.writeCurt kw secs).reply x 0 := by
  unfold State.opCurt
  exact if_neg (by simp; omega)

theorem Request.of_curtailment {c : ConnNo} {kw secs : Nat} {H : State → Prop} {P : State → State → Prop}
    (hrange : ∀ z, H z → kw < 2 ^ 32 ∧ secs < 2 ^ 32)
    (hP : ∀ z u, H z → Only [.juggler, .port] z u → u.juggler = (z.writeCurt kw secs).juggler → P z u) :
    Request (fun t => .curtailmentWrite t c kw secs) c (dev 133 4 0) .write (.curtailment kw secs) 0 H P := by
  refine .of_change (fun x s => s.opCurt x kw secs) (fun s t => rfl) (fun x arrival z => rfl) fun z v x hH => ?_
  obtain ⟨hkw, hsecs⟩ := hrange z hH
  have hchg : Chg [.juggler, .port] z ((z.withConns v).writeCurt kw secs) :=
    ((Chg.refl _ z).step (State.withConns_chg z v) rfl).step (State.writeCurt_chg ..) rfl
  have hjug : ((z.withConns v).writeCurt kw secs).juggler = (z.writeCurt kw secs).juggler := by
    rw [State.writeCurt_juggler, State.writeCurt_juggler]
    rfl
  have hwaits : WaitsKept (z.withConns v) ((z.withConns v).writeCurt kw secs) := by
    unfold State.writeCurt State.recurtail
    refine .ite (.of_chg (State.modJug_chg ..) rfl) ?_
    exact (WaitsKept.of_chg (State.modJug_chg ..) rfl).trans ((WaitsKept.of_chg (State.modJug_chg ..) rfl).trans (.raise ..))
  rw [State.opCurt_of_range hkw hsecs]
  refine ⟨hP z _ hH (.of_chg (hchg.step (State.reply_chg ..) rfl) (by decide)) ?_, fun hx hw => ?_⟩
  · rw [(State.reply_chg ..).juggler rfl, hjug]
  · exact State.res_reply hx ((hwaits.waits c).trans hw) 0 []

/-- Settles O35: a write or a frame makes its source active or lifted, an expired one is silent, and the effective curtailment is the
lesser of what the two contribute. -/
theorem curtailmentSources : Obligations.CurtailmentSources := by
  unfold Obligations.CurtailmentSources
  refine ⟨fun c kw secs => ?_, fun c secs => ?_, fun k v => ?_, fun k v => ?_, fun e => ?_, fun e => ?_, ?_⟩
  · refine .of_curtailment (fun z ⟨hkw, hsecs⟩ => ⟨by omega, hsecs⟩) fun z u ⟨hkw, _⟩ honly hu => ?_
    have hlift : kw ≠ 0xFFFFFFFF := by omega
    rw [State.writeCurt_juggler] at hu
    simp only [if_neg hlift] at hu
    rw [hu]
    exact ⟨rfl, rfl, rfl, rfl, rfl, honly⟩
  · refine .of_curtailment (fun z hsecs => ⟨by decide, hsecs⟩) fun z u _ honly hu => ?_
    rw [State.writeCurt_juggler] at hu
    rw [hu]
    exact ⟨rfl, rfl, rfl, honly⟩
  · refine .of_submit (·.takeGrid k v) (fun s z t hz _ => by rw [hz]; rfl) (fun _ _ _ => rfl) fun z ⟨hen, hk, hop, hlimit⟩ => ?_
    have hu := State.takeGrid_juggler hen hk hop
    simp only [if_neg (show ¬ v.toNat / 2 ^ 32 = 0xFFFFFFFF from hlimit)] at hu
    rw [hu]
    exact ⟨rfl, rfl, rfl, rfl, rfl, .of_chg (State.takeGrid_chg ..) (by decide)⟩
  · refine .of_apply fun z tick stamp hout => ?_
    show z.takeGrid k v = z
    unfold State.takeGrid
    exact if_neg (by rcases hout with h | h | h <;> simp [h])
  · refine .of_submit (·.fallSilent .object) (fun s z t hz ⟨hmode, hexpiry, hlate, hst⟩ => ?_) (fun _ _ _ => rfl) fun z hst => ?_
    · show execCurtSilent t .object s = _
      unfold execCurtSilent
      rw [← hz]
      exact congrArg Host.Outcome.next (if_pos (by simp [State.curtSrc, hmode, hexpiry, hst, State.expired, hlate]))
    · rw [State.fallSilent_object hst]
      exact ⟨rfl, rfl, rfl, .of_chg (State.fallSilent_chg ..) (by decide)⟩
  · refine .of_submit (·.fallSilent .can) (fun s z t hz ⟨hmode, hen, hexpiry, hlate, hst⟩ => ?_) (fun _ _ _ => rfl) fun z hst => ?_
    · show execCurtSilent t .can s = _
      unfold execCurtSilent
      rw [← hz]
      exact congrArg Host.Outcome.next (if_pos (by simp [State.curtSrc, hmode, hen, hexpiry, hst, State.expired, hlate]))
    · rw [State.fallSilent_can hst]
      exact ⟨rfl, rfl, .of_chg (State.fallSilent_chg ..) (by decide)⟩
  · intro s z t e hz hexpiry hearly
    refine ⟨_, ?_, rfl⟩
    show execCurtSilent t .object s = _
    unfold execCurtSilent
    rw [← hz]
    exact congrArg Host.Outcome.next (if_neg (by simp [State.curtSrc, hexpiry, State.expired, not_lt.mpr hearly]))

end Sys2Proof.Machine
end

section
/-!
Proofs of the statement about the contactor matrix (chapter 7).
-/
namespace Sys2Proof.Machine
open Sys2Proof Sys2Proof.Config

/-! The four bytes of a status (Table 7.9). -/

theorem statusWord_toNat (a b c d : BitVec 8) :
    (a ++ b ++ c ++ d).toNat = a.toNat * 2 ^ 24 + b.toNat * 2 ^ 16 + c.toNat * 2 ^ 8 + d.toNat := by
  have hb := b.isLt
  have hc := c.isLt
  have hd := d.isLt
  simp only [BitVec.toNat_append]
  rw [← Nat.shiftLeft_add_eq_or_of_lt hd, ← Nat.shiftLeft_add_eq_or_of_lt hc, ← Nat.shiftLeft_add_eq_or_of_lt hb]
  simp only [Nat.shiftLeft_eq]
  omega

theorem statusWord_state (a b c d : BitVec 8) : (a ++ b ++ c ++ d).toNat / 2 ^ (8 * 3) % 256 = a.toNat := by
  have hw := statusWord_toNat a b c d
  have ha := a.isLt
  have hb := b.isLt
  have hc := c.isLt
  have hd := d.isLt
  omega

theorem statusWord_outlet (a b c d : BitVec 8) : (a ++ b ++ c ++ d).toNat / 2 ^ (8 * 2) % 256 = b.toNat := by
  have hw := statusWord_toNat a b c d
  have ha := a.isLt
  have hb := b.isLt
  have hc := c.isLt
  have hd := d.isLt
  omega

theorem statusWord_seq (a b c d : BitVec 8) : (a ++ b ++ c ++ d).toNat / 2 ^ (8 * 1) % 256 = c.toNat := by
  have hw := statusWord_toNat a b c d
  have ha := a.isLt
  have hb := b.isLt
  have hc := c.isLt
  have hd := d.isLt
  omega

theorem statusWord_parts (a b c d : BitVec 8) : (a ++ b ++ c ++ d : W32).extractLsb' 24 8 = a ∧
    (a ++ b ++ c ++ d : W32).extractLsb' 16 8 = b ∧ (a ++ b ++ c ++ d : W32).extractLsb' 8 8 = c ∧
    (a ++ b ++ c ++ d : W32).extractLsb' 0 8 = d := by
  have hw := statusWord_toNat a b c d
  have ha := a.isLt
  have hb := b.isLt
  have hc := c.isLt
  have hd := d.isLt
  refine ⟨?_, ?_, ?_, ?_⟩ <;> apply BitVec.eq_of_toNat_eq <;> rw [BitVec.extractLsb'_toNat, Nat.shiftRight_eq_div_pow] <;> omega

/-! A group after a change of one. -/

theorem State.matrix_modMatrix_same (s : State) (g : ConvNo) (f : Matrix → Matrix) :
    (s.modMatrix g.val f).matrix g.val = f (s.matrix g.val) := (vget_vmapIdx _ _ _ _ g.isLt).trans (if_pos rfl)

theorem State.matrix_modMatrix_other (s : State) {g h : ConvNo} (hne : h ≠ g) (f : Matrix → Matrix) :
    (s.modMatrix g.val f).matrix h.val = s.matrix h.val :=
  (vget_vmapIdx _ _ _ _ h.isLt).trans (if_neg (Fin.val_ne_of_ne hne))

theorem State.matrix_of_juggler {s u : State} (h : u.juggler = s.juggler) (g : Nat) : u.matrix g = s.matrix g := by
  simp only [State.matrix, h]

/-- A status that shows a good CHECK is noted. -/
def State.contactorNoted (s : State) (g : ConvNo) (st o q : BitVec 8) : State := s.modMatrix g.val fun m => { m with
  status := some { state := st.toNat, outlet := o.toNat, seq := q.toNat, time := s.time.clock }
  cmd := if q.toNat = m.seq then none else m.cmd }

/-- The word of a status with a good CHECK. -/
def statusWord (st o q : BitVec 8) : W32 := st ++ o ++ q ++ (st ^^^ o ^^^ q ^^^ 0xA5#8)

section
variable {s : State} {g : ConvNo} {st o q : BitVec 8}

theorem State.takeContactor_bad {k : BitVec 8} (h : k ≠ st ^^^ o ^^^ q ^^^ 0xA5#8) :
    s.takeContactor g (st ++ o ++ q ++ k) = s.modMatrix g.val fun m => { m with checkFails := m.checkFails + 1 } := by
  obtain ⟨hst, ho, hq, hk⟩ := statusWord_parts st o q k
  unfold State.takeContactor
  simp only [hst, ho, hq, hk]
  exact if_pos fun heq => h heq.symm

theorem State.takeContactor_closing (hcl : (s.matrix g.val).st = .closing) (hst : st.toNat = 1) (ho : o.toNat = (s.matrix g.val).outlet)
    (hq : q.toNat = (s.matrix g.val).seq) : s.takeContactor g (statusWord st o q) =
      ((s.contactorNoted g st o q).modMatrix g.val fun m => { m with st := .attached, cmd := none }).raise .groupAttached
        [g.val, (s.matrix g.val).outlet] := by
  obtain ⟨h1, h2, h3, h4⟩ := statusWord_parts st o q (st ^^^ o ^^^ q ^^^ 0xA5#8)
  unfold State.takeContactor statusWord
  simp only [h1, h2, h3, h4, statusWord_state, statusWord_outlet, statusWord_seq, hcl]
  rw [if_neg (not_not_intro rfl)]
  exact if_pos (by simp [hst, ho, hq])

theorem State.takeContactor_opening (hop : (s.matrix g.val).st = .opening) (hst : st.toNat = 0) (hq : q.toNat = (s.matrix g.val).seq) :
    s.takeContactor g (statusWord st o q) =
      ((s.contactorNoted g st o q).modMatrix g.val fun m => { m with st := .free, outlet := 0, cmd := none }).raise .groupReleased
        [g.val, (s.matrix g.val).outlet] := by
  obtain ⟨h1, h2, h3, h4⟩ := statusWord_parts st o q (st ^^^ o ^^^ q ^^^ 0xA5#8)
  unfold State.takeContactor statusWord
  simp only [h1, h2, h3, h4, statusWord_state, statusWord_outlet, statusWord_seq, hop]
  rw [if_neg (not_not_intro rfl)]
  exact if_pos (by simp [hst, hq])

/-- A status that an attached group does not expect is a fault. -/
theorem State.takeContactor_lost (hat : (s.matrix g.val).st = .attached ∨ (s.matrix g.val).st = .draining)
    (hst : st.toNat = 0 ∨ st.toNat = 128 ∨ (st.toNat = 1 ∧ o.toNat ≠ (s.matrix g.val).outlet)) :
    ∃ cause, s.takeContactor g (statusWord st o q) = (s.contactorNoted g st o q).matrixFault g.val cause := by
  obtain ⟨h1, h2, h3, h4⟩ := statusWord_parts st o q (st ^^^ o ^^^ q ^^^ 0xA5#8)
  have hnoted : s.takeContactor g (statusWord st o q) = if st.toNat = 0 then (s.contactorNoted g st o q).matrixFault g.val 3
      else if st.toNat = 0x80 then (s.contactorNoted g st o q).matrixFault g.val 1
      else if st.toNat = 1 && o.toNat ≠ (s.matrix g.val).outlet then (s.contactorNoted g st o q).matrixFault g.val 2
      else s.contactorNoted g st o q := by
    unfold State.takeContactor statusWord
    simp only [h1, h2, h3, h4, statusWord_state, statusWord_outlet, statusWord_seq]
    rw [if_neg (not_not_intro rfl)]
    rcases hat with h | h
    · rw [h]
      rfl
    · rw [h]
      rfl
  rw [hnoted]
  rcases hst with h | h | ⟨h, ho⟩
  · exact ⟨3, if_pos h⟩
  · exact ⟨1, by simp [h]⟩
  · exact ⟨2, by simp [h, ho]⟩
end

/-- What a fault makes of a group. -/
theorem State.matrixFault_spec (s : State) (g : ConvNo) (cause : Int) :
    (s.matrixFault g.val cause).matrix g.val = { s.matrix g.val with st := .mfault, cmd := none } ∧
    (∀ h : ConvNo, h ≠ g → (s.matrixFault g.val cause).matrix h.val = s.matrix h.val) ∧
    (s.matrixFault g.val cause).lastEv = some .matrixFault :=
  ⟨s.matrix_modMatrix_same g _, fun _ hne => s.matrix_modMatrix_other hne _, rfl⟩

theorem State.matrixLate_of_wait {s : State} {g : Nat} (hst : (s.matrix g).st = .closing ∨ (s.matrix g).st = .opening) :
    s.matrixLate g = s.expired (s.matrix g).cmdAt s.policy.matrixTo := by
  unfold State.matrixLate
  rcases hst with h | h
  · simp only [h]
  · simp only [h]

theorem exec_matrixTimeout_still {s z : State} {t : Nat} {g : ConvNo} (hz : z = s.advance t) (h : z.matrixLate g.val = false) :
    exec (.matrixTimeout t g) s = .next z := by
  show execMatrixTimeout t g s = _
  unfold execMatrixTimeout
  rw [← hz]
  exact congrArg Host.Outcome.next (if_neg (by simp [h]))

/-- Settles O36: the status a group waits for moves it to ATTACHED or FREE, a wrong one or none in time to MFAULT, which a client
clears. -/
theorem matrixStates : Obligations.MatrixStates := by
  unfold Obligations.MatrixStates
  refine ⟨fun g st o q => ?_, fun g st o q => ?_, fun g st o q => ?_, fun g st o q k => ?_, fun g => ?_, ?_, fun c g x => ?_, fun c g => ?_⟩
  · refine .of_submit (·.takeContactor g (statusWord st o q)) (fun s z t hz _ => by rw [hz]; rfl) (fun _ _ _ => rfl)
      fun z ⟨hcl, hst, ho, hq⟩ => ?_
    have hu := State.takeContactor_closing hcl hst ho hq
    let y := z.contactorNoted g st o q
    have hg : (z.takeContactor g (statusWord st o q)).matrix g.val = { y.matrix g.val with st := .attached, cmd := none } := by
      rw [hu]
      exact y.matrix_modMatrix_same g _
    have hy : y.matrix g.val = _ := z.matrix_modMatrix_same g _
    refine ⟨by rw [hg], by rw [hg, hy], by rw [hg], fun h hne => ?_, by rw [hu]; rfl, .of_chg (State.takeContactor_chg ..) (by decide)⟩
    rw [hu]
    exact (y.matrix_modMatrix_other hne _).trans (z.matrix_modMatrix_other hne _)
  · refine .of_submit (·.takeContactor g (statusWord st o q)) (fun s z t hz _ => by rw [hz]; rfl) (fun _ _ _ => rfl)
      fun z ⟨hop, hst, hq⟩ => ?_
    have hu := State.takeContactor_opening (o := o) hop hst hq
    let y := z.contactorNoted g st o q
    have hg : (z.takeContactor g (statusWord st o q)).matrix g.val = { y.matrix g.val with st := .free, outlet := 0, cmd := none } := by
      rw [hu]
      exact y.matrix_modMatrix_same g _
    refine ⟨by rw [hg], by rw [hg], by rw [hg], fun h hne => ?_, by rw [hu]; rfl, .of_chg (State.takeContactor_chg ..) (by decide)⟩
    rw [hu]
    exact (y.matrix_modMatrix_other hne _).trans (z.matrix_modMatrix_other hne _)
  · refine .of_submit (·.takeContactor g (statusWord st o q)) (fun s z t hz _ => by rw [hz]; rfl) (fun _ _ _ => rfl)
      fun z ⟨hat, hst⟩ => ?_
    obtain ⟨cause, hu⟩ := State.takeContactor_lost (q := q) hat hst
    obtain ⟨hg, hothers, hlast⟩ := (z.contactorNoted g st o q).matrixFault_spec g cause
    refine ⟨?_, ?_, fun h hne => ?_, ?_, .of_chg (State.takeContactor_chg ..) (by decide)⟩
    · rw [hu, hg]
    · rw [hu, hg]
    · rw [hu, hothers h hne]
      exact z.matrix_modMatrix_other hne _
    · rw [hu, hlast]
  · refine .of_submit (·.takeContactor g (st ++ o ++ q ++ k)) (fun s z t hz _ => by rw [hz]; rfl) (fun _ _ _ => rfl) fun z hk => ?_
    rw [State.takeContactor_bad hk]
    exact ⟨z.matrix_modMatrix_same g _, fun h hne => z.matrix_modMatrix_other hne _, .of_chg (State.modMatrix_chg ..) (by decide)⟩
  · refine .of_submit (·.matrixExpired g.val) (fun s z t hz ⟨hst, hlate⟩ => ?_) (fun _ _ _ => rfl) fun z hlate => ?_
    · show execMatrixTimeout t g s = _
      unfold execMatrixTimeout
      rw [← hz]
      refine congrArg Host.Outcome.next (if_pos ?_)
      rw [State.matrixLate_of_wait hst]
      simpa [State.expired] using hlate
    · have hu : z.matrixExpired g.val = z.matrixFault g.val 0 := if_pos hlate
      obtain ⟨hg, hothers, hlast⟩ := z.matrixFault_spec g 0
      rw [hu]
      exact ⟨by rw [hg], hothers, hlast, .of_chg (State.matrixFault_chg ..) (by decide)⟩
  · intro s z t g hz hst
    refine ⟨z, exec_matrixTimeout_still hz ?_, rfl⟩
    rcases hst with h | h | ⟨h, hearly⟩
    · simp [State.matrixLate, h]
    · simp [State.matrixLate, h]
    · rw [State.matrixLate_of_wait (.inl h)]
      simpa [State.expired] using hearly
  · refine .of_change (fun x s => s.opMatrixClear x g) (fun s t => rfl) (fun x arrival z => rfl)
      fun z v y ⟨hst, hstatus, hopen, hfresh⟩ => ?_
    let w := (z.withConns v).modMatrix g.val fun m => { m with st := .free, outlet := 0, cmd := none }
    have hop : (z.withConns v).opMatrixClear y g = w.reply y 0 := by
      unfold State.opMatrixClear
      have hstatus' : ((z.withConns v).matrix g.val).status = some x := hstatus
      have hst' : ((z.withConns v).matrix g.val).st = .mfault := hst
      simp only [hstatus', hst']
      refine if_pos ?_
      simp only [decide_true, Bool.true_and]
      exact decide_eq_true ⟨hopen, hfresh⟩
    have hmat (h : Nat) : (w.reply y 0).matrix h = w.matrix h := State.matrix_of_juggler ((State.reply_chg ..).juggler rfl) h
    have hchg : Chg [.juggler, .port] z w := ((Chg.refl _ z).step (State.withConns_chg z v) rfl).step (State.modMatrix_chg ..) rfl
    rw [hop]
    refine ⟨⟨?_, fun h hne => ?_, .of_chg (hchg.step (State.reply_chg ..) rfl) (by decide)⟩, fun hx hw => State.res_reply (s := w) hx hw 0 []⟩
    · exact (hmat _).trans ((z.withConns v).matrix_modMatrix_same g _)
    · exact (hmat _).trans ((z.withConns v).matrix_modMatrix_other hne _)
  · refine .of_change (fun x s => s.opMatrixClear x g) (fun s t => rfl) (fun x arrival z => rfl) fun z v y hst => ?_
    have hop : (z.withConns v).opMatrixClear y g = (z.withConns v).reply y 4 := by
      unfold State.opMatrixClear
      exact if_neg fun h => hst (of_decide_eq_true (Bool.and_eq_true_iff.mp h).1)
    rw [hop]
    exact ⟨.of_chg ((State.withConns_chg z v).step (State.reply_chg ..) rfl) (by decide), fun hx hw => State.res_reply hx hw 4 []⟩

end Sys2Proof.Machine
end

section
/-!
Proofs of the statements about sensors and cooling units (chapter 8).
-/
namespace Sys2Proof.Machine
open Sys2Proof Sys2Proof.Config

/-! The sensors of the analog inputs. -/

theorem State.sensor_putSensor_same (s : State) {n : Nat} (hn : n < 32) (y : Sensor) : (s.putSensor n y).sensor n = y :=
  (vget_vput _ _ _ _ _ hn).trans (if_pos rfl)

theorem State.sensor_putSensor_other (s : State) {n m : Nat} (hn : n < 32) (hne : m ≠ n) (y : Sensor) :
    (s.putSensor n y).sensor m = s.sensor m := (vget_vput _ _ _ _ _ hn).trans (if_neg hne)

theorem sensorNo_lt (w : List W32) : fld w 0 31 27 < 32 := Nat.mod_lt _ (by decide)

/-- The record's range holds a reading. -/
def inRange (w : List W32) (r : Nat) : Bool := decide (fld w 2 31 16 ≤ r ∧ r ≤ fld w 2 15 0)

/-- A sensor after a reading (R318, R319). -/
def ReadingTaken (w : List W32) (r : Nat) (a b : Sensor) : Prop :=
  b.reading = r ∧ b.sampled = true ∧ b.valid = (inRange w r && (a.valid || !a.sampled))

/-- A reading of the same value on the same sensor takes nothing away. -/
theorem ReadingTaken.again {w : List W32} {r : Nat} {a b c : Sensor} (h : ReadingTaken w r a b) (h' : ReadingTaken w r b c) :
    ReadingTaken w r a c := by
  obtain ⟨-, hs, hv⟩ := h
  obtain ⟨hr', hs', hv'⟩ := h'
  refine ⟨hr', hs', ?_⟩
  rw [hv', hs, hv]
  cases inRange w r <;> simp

theorem State.takeReading_sensor (s : State) (w : List W32) (r : Nat) :
    ReadingTaken w r (s.sensor (fld w 0 31 27)) ((s.takeReading w r).sensor (fld w 0 31 27)) := by
  have hn := sensorNo_lt w
  unfold State.takeReading
  simp only
  split
  next hin =>
    have hrange : inRange w r = true := decide_eq_true (by simpa using hin)
    rw [State.sensor_putSensor_same _ hn]
    exact ⟨rfl, rfl, by rw [hrange]; rfl⟩
  next hout =>
    have hrange : inRange w r = false := decide_eq_false (by simpa using hout)
    have hput (y : Sensor) (b : Bool) (v : List Int) :
        (if b = true then (s.putSensor (fld w 0 31 27) y).raise .sensorFault v else s.putSensor (fld w 0 31 27) y).sensor
          (fld w 0 31 27) = y := by
      split
      · exact State.sensor_putSensor_same _ hn _
      · exact State.sensor_putSensor_same _ hn _
    rw [hput]
    exact ⟨rfl, rfl, by rw [hrange]; rfl⟩

theorem State.takeReading_other (s : State) {w : List W32} {n : Nat} (hne : n ≠ fld w 0 31 27) (r : Nat) :
    (s.takeReading w r).sensor n = s.sensor n := by
  have hput (s : State) (y : Sensor) := State.sensor_putSensor_other s (sensorNo_lt w) hne y
  unfold State.takeReading
  simp only
  split
  · rw [hput, hput]
  · split
    · exact hput _ _
    · exact hput _ _

theorem State.takeReading_folios (s : State) (w : List W32) (r : Nat) :
    (s.takeReading w r).thermal.folios = s.thermal.folios := by
  unfold State.takeReading
  simp only
  split
  · rfl
  · split <;> rfl

/-- One sensor record with the reading of its input. -/
def State.sampleRecord (rs : List Nat) (s : State) (w : List W32) : State :=
  match rs[fld w 0 31 27]? with
  | some r => s.takeReading w (r % 65536)
  | none => s

theorem State.takeSamples_eq (s : State) (rs : List Nat) :
    s.takeSamples rs = (s.recs 0x0704).foldl (State.sampleRecord rs) s := rfl

theorem State.sampleRecord_other (s : State) (rs : List Nat) {w : List W32} {n : Nat} (hne : fld w 0 31 27 ≠ n) :
    (s.sampleRecord rs w).sensor n = s.sensor n := by
  unfold State.sampleRecord
  split
  · exact s.takeReading_other (Ne.symm hne) _
  · rfl

theorem State.sampleRecord_folios (s : State) (rs : List Nat) (w : List W32) :
    (s.sampleRecord rs w).thermal.folios = s.thermal.folios := by
  unfold State.sampleRecord
  split
  · exact s.takeReading_folios w _
  · rfl

theorem State.samples_other (rs : List Nat) {l : List (List W32)} {n : Nat} (hl : ∀ x ∈ l, fld x 0 31 27 ≠ n) (s : State) :
    (l.foldl (State.sampleRecord rs) s).sensor n = s.sensor n := by
  induction l generalizing s with
  | nil => rfl
  | cons x l ih =>
    rw [List.foldl_cons, ih (fun y hy => hl y (List.mem_cons_of_mem _ hy)), s.sampleRecord_other rs (hl x List.mem_cons_self)]

theorem State.samples_folios (rs : List Nat) (l : List (List W32)) (s : State) :
    (l.foldl (State.sampleRecord rs) s).thermal.folios = s.thermal.folios := by
  induction l generalizing s with
  | nil => rfl
  | cons x l ih => rw [List.foldl_cons, ih, s.sampleRecord_folios]

/-- The samples reach a sensor that one record describes, be it listed once or more often. -/
theorem State.samples_sensor {rs : List Nat} {w : List W32} {r : Nat} (hr : rs[fld w 0 31 27]? = some r) (hlt : r < 65536)
    {l : List (List W32)} (hw : w ∈ l) (hl : ∀ x ∈ l, fld x 0 31 27 = fld w 0 31 27 → x = w) (s : State) :
    ReadingTaken w r (s.sensor (fld w 0 31 27)) ((l.foldl (State.sampleRecord rs) s).sensor (fld w 0 31 27)) := by
  have hone (s : State) : s.sampleRecord rs w = s.takeReading w r := by
    unfold State.sampleRecord
    rw [hr]
    exact congrArg (s.takeReading w) (Nat.mod_eq_of_lt hlt)
  induction l generalizing s with
  | nil => exact absurd hw List.not_mem_nil
  | cons x l ih =>
    have hl' : ∀ y ∈ l, fld y 0 31 27 = fld w 0 31 27 → y = w := fun y hy => hl y (List.mem_cons_of_mem _ hy)
    rw [List.foldl_cons]
    by_cases hx : x = w
    · have htaken := s.takeReading_sensor w r
      rw [hx, hone]
      by_cases hmem : w ∈ l
      · exact htaken.again (ih hmem hl' _)
      · rw [State.samples_other rs (fun y hy heq => hmem (hl' y hy heq ▸ hy))]
        exact htaken
    · have hstays := s.sampleRecord_other rs (w := x) (n := fld w 0 31 27) fun heq => hx (hl x List.mem_cons_self heq)
      rw [← hstays]
      exact ih ((List.mem_cons.mp hw).resolve_left (Ne.symm hx)) hl' _

/-! The alarm of a residual (R321). -/

theorem residAlarm_rise {now a : Nat} {c : List W32} (h : a + residTime c ≤ now) (ins : Option Nat) :
    residAlarm now c false (some a) ins = true := decide_eq_true h

theorem residAlarm_fall {now a : Nat} {c : List W32} (h : a + residTime c ≤ now) (out : Option Nat) :
    residAlarm now c true out (some a) = false := by
  unfold residAlarm
  simp [h]

/-- The state once the alarm of a sensor has changed. -/
def State.sensorAlarm (s : State) (n : Nat) (r : Rat) (a : Bool) : State :=
  (s.putSensor n { s.sensor n with alarm := a }).raise .thermalDisagree
    [n, fld ((s.sensorRec n).getD []) 0 22 0, tempEvent r, ofBool a]

theorem exec_thermalDisagree_sensor {s z : State} {t : Nat} {n : Fin 288} {r : Rat} {c : List W32} {a : Bool} (hz : z = s.advance t)
    (hn : n.val < 32) (hvalid : (z.sensor n.val).valid = true)
    (hres : z.residual (fld ((z.sensorRec n.val).getD []) 0 22 0) (z.sensorVal n.val) = some (r, c))
    (ha : residAlarm z.time.clock c (z.sensor n.val).alarm (z.sensor n.val).outSince (z.sensor n.val).inSince = a)
    (hne : a ≠ (z.sensor n.val).alarm) : exec (.thermalDisagree t n) s = .next (z.sensorAlarm n.val r a) := by
  show execThermalDisagree t n s = _
  unfold execThermalDisagree
  rw [← hz]
  simp only [if_pos hn]
  rw [if_pos hvalid]
  simp only [hres, ha]
  exact congrArg Host.Outcome.next (if_pos hne)

theorem State.sensorAlarm_chg (s : State) (n : Nat) (r : Rat) (a : Bool) : Chg [.thermal, .port] s (s.sensorAlarm n r a) :=
  ((State.putSensor_chg ..).widen rfl).trans ((State.raise_chg ..).widen rfl)

/-- The state of a connector channel. -/
def State.chan (s : State) (k : Nat) : DispTemp := vget s.thermal.disp k {}

/-- A connector channel replaced. -/
def State.putChan (s : State) (k : Nat) (d : DispTemp) : State :=
  { s with thermal := { s.thermal with disp := vput s.thermal.disp k d } }

theorem State.chan_putChan_same (s : State) {k : Nat} (hk : k < 256) (d : DispTemp) : (s.putChan k d).chan k = d :=
  (vget_vput _ _ _ _ _ hk).trans (if_pos rfl)

theorem State.chan_putChan_other (s : State) {k m : Nat} (hk : k < 256) (hne : m ≠ k) (d : DispTemp) :
    (s.putChan k d).chan m = s.chan m := (vget_vput _ _ _ _ _ hk).trans (if_neg hne)

/-- Settles O37: readings are kept and judged, connector temperatures go stale, and residuals raise and end their alarms. -/
theorem sensorsAndResiduals : Obligations.SensorsAndResiduals := by
  unfold Obligations.SensorsAndResiduals
  refine ⟨?_, ?_, ?_, ?_, ?_, ?_, ?_⟩
  · intro rs n w r
    refine Input.of_submit (·.takeSamples rs) (fun s z t hz _ => ?_) (fun z tick stamp => rfl) ?_
    · show execAiSample t rs s = _
      rw [execAiSample, ← hz]
    · intro z ⟨hw, hno, hone, hr, hlt⟩
      rw [← hno] at hr hone
      obtain ⟨hreading, hsampled, hvalid⟩ := State.samples_sensor hr hlt hw hone z
      rw [← hno, State.takeSamples_eq]
      exact ⟨hreading, hsampled, hvalid, fun m hm => State.samples_other rs hm z, State.samples_folios rs _ z,
        Only.of_chg (State.takeSamples_chg z rs) (by decide)⟩
  · intro s z t n g hz hgood hvalid hg
    have hexec : exec (.sensorValid t n) s = .next { z with thermal := { z.thermal with
        sensors := z.thermal.sensors.set n { z.sensor n.val with valid := true, fallback := false } } } := by
      show execSensorValid t n s = _
      unfold execSensorValid
      rw [← hz]
      simp only [hgood]
      exact congrArg Host.Outcome.next (if_pos (by simp [hvalid, hg]))
    have hchg := Chg.of_exec (execSensorValid_chg t n s) hexec
    rw [← hz] at hchg
    refine ⟨_, hexec, ?_, fun m hm => ?_, .of_chg hchg (by decide)⟩
    · simp [State.sensor]
    · simp [State.sensor, Fin.val_ne_of_ne (Ne.symm hm)]
  · intro s z t n g hz hgood hlt
    refine ⟨z, ?_, rfl⟩
    show execSensorValid t n s = _
    unfold execSensorValid
    rw [← hz]
    simp only [hgood]
    exact congrArg Host.Outcome.next (if_neg (by simp [Nat.not_le.mpr hlt]))
  · intro o k
    have hk : 4 * o.val + k.val < 256 := by omega
    refine Input.of_submit (·.staleTemp o k) (fun s z t hz hg => ?_) (fun z tick stamp => rfl) ?_
    · show execDispTempStale t o k s = _
      unfold execDispTempStale
      rw [← hz]
      exact congrArg Host.Outcome.next (if_pos (by simp [State.expired, hg.1, hg.2]))
    · intro z hvalid
      have hstale : z.staleTemp o k = (z.putChan (4 * o.val + k.val)
          { z.chan (4 * o.val + k.val) with valid := false, outSince := none, inSince := none }).raise .dispTempStale
            [o.val + 1, k.val] := if_pos hvalid
      rw [hstale]
      exact ⟨congrArg DispTemp.valid (z.chan_putChan_same hk _), fun n hn => z.chan_putChan_other hk hn _, rfl,
        Only.of_chg (hstale ▸ State.staleTemp_chg z o k) (by decide)⟩
  · intro s z t n r c a hz hn hvalid hres halarm hout ha
    have hexec := exec_thermalDisagree_sensor (a := true) hz hn hvalid hres
      (by rw [halarm, hout]; exact residAlarm_rise ha _) (by rw [halarm]; decide)
    exact ⟨_, hexec, z.sensor_putSensor_same hn _, fun m hm => z.sensor_putSensor_other hn hm _, rfl,
      Only.of_chg (z.sensorAlarm_chg n.val r true) (by decide)⟩
  · intro s z t n r c a hz hn hvalid hres halarm hin ha
    have hexec := exec_thermalDisagree_sensor (a := false) hz hn hvalid hres
      (by rw [halarm, hin]; exact residAlarm_fall ha _) (by rw [halarm]; decide)
    exact ⟨_, hexec, z.sensor_putSensor_same hn _, rfl, Only.of_chg (z.sensorAlarm_chg n.val r false) (by decide)⟩
  · intro s z t n k r c a hz hn hvalid hres halarm hout ha
    have hk : k < 256 := by omega
    have hraise : residAlarm z.time.clock c (z.chan k).alarm (z.chan k).outSince (z.chan k).inSince = true := by
      rw [show (z.chan k).alarm = false from halarm, show (z.chan k).outSince = some a from hout]
      exact residAlarm_rise ha _
    have hexec : exec (.thermalDisagree t n) s = .next ((z.putChan k { z.chan k with alarm := true }).raise .thermalDisagree
        [n.val, fld ((z.recAt 0x0801 31 25 (k / 4 + 1)).getD []) (3 + k % 4) 31 9, tempEvent r, ofBool true]) := by
      show execThermalDisagree t n s = _
      unfold execThermalDisagree
      rw [← hz]
      have hsub : n.val - 32 = k := by omega
      simp only [if_neg (show ¬ n.val < 32 by omega), hsub]
      rw [if_pos hvalid]
      simp only [hres]
      rw [show residAlarm z.time.clock c (vget z.thermal.disp k {}).alarm (vget z.thermal.disp k {}).outSince
        (vget z.thermal.disp k {}).inSince = true from hraise]
      have hne : true ≠ (vget z.thermal.disp k {}).alarm := by rw [halarm]; decide
      exact congrArg Host.Outcome.next (if_pos hne)
    have hchg := Chg.of_exec (execThermalDisagree_chg t n s) hexec
    rw [← hz] at hchg
    exact ⟨_, hexec, congrArg DispTemp.alarm (z.chan_putChan_same hk _), rfl, .of_chg hchg (by decide)⟩

/-! The cooling units. -/

/-- The record of a cooling unit replaced, wherever it stands. -/
def State.mapDcu (s : State) (inst : Nat) (f : Dcu → Dcu) : State :=
  { s with thermal := { s.thermal with dcus := s.thermal.dcus.map fun (x : Dcu) => if x.inst = inst then f x else x } }

theorem State.dcu_inst {s : State} {n : Nat} {d : Dcu} (h : s.dcu n = some d) : d.inst = n := by
  simpa using List.find?_some h

/-- The list reads as before, with the unit changed. -/
theorem find_map_dcu {n : Nat} {f : Dcu → Dcu} (hf : ∀ x, x.inst = n → (f x).inst = n) (m : Nat) (l : List Dcu) :
    (l.map fun x => if x.inst = n then f x else x).find? (fun d => d.inst = m) =
      if m = n then (l.find? fun d => d.inst = m).map f else l.find? fun d => d.inst = m := by
  induction l with
  | nil => simp
  | cons x l ih =>
    rw [List.map_cons, List.find?_cons, ih, List.find?_cons]
    by_cases hx : x.inst = n
    · rw [if_pos hx]
      by_cases hm : m = n
      · simp [hm, hx, hf x hx]
      · simp [hm, hx, hf x hx, Ne.symm hm]
    · rw [if_neg hx]
      by_cases hm : m = n
      · simp [hm, hx]
      · simp [hm]

theorem State.dcu_mapDcu_same {s : State} {n : Nat} {d : Dcu} (h : s.dcu n = some d) {f : Dcu → Dcu}
    (hf : ∀ x, x.inst = n → (f x).inst = n) : (s.mapDcu n f).dcu n = some (f d) := by
  refine (find_map_dcu hf n s.thermal.dcus).trans ?_
  rw [if_pos rfl]
  exact congrArg (Option.map f) h

theorem State.dcu_mapDcu_other (s : State) {n m : Nat} (hne : m ≠ n) {f : Dcu → Dcu}
    (hf : ∀ x, x.inst = n → (f x).inst = n) : (s.mapDcu n f).dcu m = s.dcu m :=
  (find_map_dcu hf m s.thermal.dcus).trans (if_neg hne)

theorem State.mapDcu_chg (s : State) (n : Nat) (f : Dcu → Dcu) : Chg [.thermal] s (s.mapDcu n f) :=
  Chg.setThermal ..

theorem Conn.put_nodeSel (k : Conn) (a : Answer) : (k.put a).nodeSel = k.nodeSel := by
  unfold Conn.put
  split <;> rfl

/-- Settles O38: a status of a cooling unit is taken, silence is noted, and a client selects a node. -/
theorem coolingUnits : Obligations.CoolingUnits := by
  unfold Obligations.CoolingUnits
  have hexec (n : Nat) (v : BitVec 64) (s z : State) (t : Nat) (hz : z = s.advance t) :
      exec (.dcuStatus t n v) s = .next (z.submit (.dcuStatus n v) (·.takeDcu n v)) := by
    show execDcuStatus t n v s = _
    rw [execDcuStatus, ← hz]
  refine ⟨?_, ?_, ?_, ?_, ?_, ?_⟩
  · intro n v d
    refine Input.of_submit (·.takeDcu n v) (fun s z t hz _ => hexec n v s z t hz) (fun z tick stamp => rfl) ?_
    rintro z ⟨hd, htyp, hstate⟩
    let d' : Dcu := { d with
      flow := v.toNat / 2 ^ 48, supply := signed 16 (v.toNat / 2 ^ 32 % 65536), seqSeen := v.toNat / 2 ^ 24 % 256
      unitState := v.toNat / 65536 % 256, lastAt := z.time.clock, silent := false, fallback := false }
    have htake : z.takeDcu n v = z.mapDcu n fun _ => d' := by
      unfold State.takeDcu
      simp only [hd]
      rw [if_neg (not_not_intro htyp)]
      simp only [if_neg hstate]
      exact if_neg (by simp [hstate])
    have hinst : ∀ x : Dcu, x.inst = n → d'.inst = n := fun _ _ => (State.dcu_inst hd : d.inst = n)
    rw [htake]
    exact ⟨State.dcu_mapDcu_same hd hinst, fun m hm => z.dcu_mapDcu_other hm hinst, .of_chg (z.mapDcu_chg ..) (by decide)⟩
  · intro n v d
    refine Input.of_submit (·.takeDcu n v) (fun s z t hz _ => hexec n v s z t hz) (fun z tick stamp => rfl) ?_
    rintro z ⟨hd, hloud, htyp, hstate⟩
    let d' : Dcu := { d with
      unitState := v.toNat / 65536 % 256, seqSeen := v.toNat / 2 ^ 24 % 256, lastAt := z.time.clock, silent := true }
    have htake : z.takeDcu n v = (z.mapDcu n fun _ => d').raise .dcuSilent [n, instOutlet (z.instRec n)] := by
      unfold State.takeDcu
      simp only [hd]
      rw [if_neg (not_not_intro htyp)]
      simp only [if_pos hstate]
      exact if_pos (by simp [hstate, hloud])
    have hchg := htake ▸ z.takeDcu_chg n v
    rw [htake]
    exact ⟨⟨d', State.dcu_mapDcu_same hd fun _ _ => (State.dcu_inst hd : d.inst = n), rfl, rfl, rfl⟩, rfl, .of_chg hchg (by decide)⟩
  · intro n d
    refine Input.of_submit (·.dcuLost n) (fun s z t hz hg => ?_) (fun z tick stamp => rfl) ?_
    · obtain ⟨hd, hloud, hlate⟩ := hg
      show execDcuSilent t n s = _
      unfold execDcuSilent
      rw [← hz]
      simp only [hd]
      exact congrArg Host.Outcome.next (if_pos (by simp [State.expired, hloud, hlate]))
    · rintro z ⟨hd, hloud⟩
      have hlost : z.dcuLost n = (z.mapDcu n fun x => { x with silent := true }).raise .dcuSilent
          [n, instOutlet (z.instRec n)] := by
        unfold State.dcuLost
        simp only [hd]
        exact if_neg (by simp [hloud])
      have hchg := hlost ▸ z.dcuLost_chg n
      rw [hlost]
      exact ⟨State.dcu_mapDcu_same hd fun _ h => h, fun m hm => z.dcu_mapDcu_other hm fun _ h => h, rfl, .of_chg hchg (by decide)⟩
  · intro s z t n d hz hd hin
    refine ⟨z, ?_, rfl⟩
    show execDcuSilent t n s = _
    unfold execDcuSilent
    rw [← hz]
    simp only [hd]
    exact congrArg Host.Outcome.next (if_neg (by simp [State.expired, Nat.not_lt.mpr hin]))
  · intro s z t c n hz hallowed hn
    obtain ⟨k, hk, hguarded⟩ := State.guarded_of_allowed hallowed fun _ s =>
      if n < s.thermal.folios.foldl (fun (a : Nat) f => a + f.nodes.length) 0 then
        (s.modConn c fun k => { k with nodeSel := some n }).answer c 0
      else s.answer c 2
    have hexec : exec (.nodeViewSet t c n) s = .next ((z.modConn c fun k => { k with nodeSel := some n }).answer c 0) := by
      show execNodeViewSet t c n s = _
      rw [execNodeViewSet, ← hz, State.selectNode, hguarded, if_pos hn]
    have hmod : (z.modConn c fun k => { k with nodeSel := some n }).port.conns[c] = some { k with nodeSel := some n } := by
      rw [State.conns_modConn, hk]; rfl
    have hconn := State.conns_answer hmod 0 []
    refine ⟨_, hexec, ⟨_, hconn, Conn.put_nodeSel ..⟩, State.res_put hconn,
      Only.of_chg (((State.modConn_chg ..).widen rfl).trans (State.answer_chg ..) : Chg [.port] z _) (by decide)⟩
  · intro s z t c n hz hallowed hn
    obtain ⟨k, hk, hguarded⟩ := State.guarded_of_allowed hallowed fun _ s =>
      if n < s.thermal.folios.foldl (fun (a : Nat) f => a + f.nodes.length) 0 then
        (s.modConn c fun k => { k with nodeSel := some n }).answer c 0
      else s.answer c 2
    have hexec : exec (.nodeViewSet t c n) s = .next (z.answer c 2) := by
      show execNodeViewSet t c n s = _
      rw [execNodeViewSet, ← hz, State.selectNode, hguarded, if_neg (Nat.not_lt.mpr hn)]
    exact ⟨_, hexec, State.res_put (State.conns_answer hk 2 []), Only.of_chg (State.answer_chg ..) (by decide)⟩

end Sys2Proof.Machine
end

section
/-!
Proofs of the statements about the start sequence and pairing (chapters 3 and 15).
-/
namespace Sys2Proof.Machine
open Sys2Proof Sys2Proof.Config

/-! The steps that are complete. -/

theorem State.isDone_of_startup {s u : State} (h : u.startup = s.startup) (x : Step) : u.isDone x = s.isDone x := by
  simp only [State.isDone, h]

@[simp] theorem State.isDone_stepDone (s : State) (x : Step) : (s.stepDone x).isDone x = true := by
  simp [State.isDone, State.stepDone]

@[simp] theorem State.mode_stepDone (s : State) (x : Step) : (s.stepDone x).startup.mode = s.startup.mode := rfl

theorem State.stepLate_of_rise {s u : State} (ht : u.time = s.time) (hr : u.startup.auxRise = s.startup.auxRise) :
    u.stepLate .s6 = s.stepLate .s6 := by
  simp [State.stepLate, State.stepLimit, State.expired, ht, hr]

theorem State.late_of_limit {s : State} {step : Step} {ms code : Nat} (h : s.stepLimit step = some (ms, code))
    (hlate : s.startup.auxRise + ms * 400000 < s.time.clock) : s.stepLate step = true := by
  unfold State.stepLate
  simp only [h]
  rw [Bool.or_eq_true]
  exact .inl (decide_eq_true hlate)

theorem State.refuseStep_of_limit {s : State} {step : Step} {ms code : Nat} (h : s.stepLimit step = some (ms, code)) :
    s.refuseStep step = s.refuse code noIndex := by
  unfold State.refuseStep
  rw [h]

theorem exec_startStepComplete {s z : State} {t : Nat} {step : Step} {obs : ImageObs} (hz : z = s.advance t)
    (hmode : z.startup.mode = .starting) (hdone : z.isDone step = false) (hneeds : ∀ k ∈ stepNeeds step, z.isDone k = true) :
    exec (.startStepComplete t step obs) s = .next (if z.stepLate step then z.refuseStep step else z.takeStep obs step) := by
  show execStartStepComplete t step obs s = _
  unfold execStartStepComplete
  rw [← hz]
  exact congrArg Host.Outcome.next (if_pos (by simpa [hmode, hdone] using hneeds))

/-- The Scribe opens within the start sequence. -/
theorem State.scribeOpen_mode (s : State) : s.scribeOpen.startup.mode = s.startup.mode := by
  unfold State.scribeOpen
  extract_lets a b ctxs c d e f
  have ha : a.startup = s.startup := by
    rw [(State.modScribe_chg ..).startup rfl, (State.scribeRestore_chg ..).startup rfl]
  have hc : c.startup = a.startup := by
    unfold c
    split
    · exact (State.modScribe_chg ..).startup rfl
    · split
      next fl _ =>
        extract_lets p q r
        have hb : b.startup = a.startup := (State.modCore_chg ..).startup rfl
        have hp : p.startup = b.startup := (State.closeAtFail_chg ..).startup rfl
        have hq : q.startup = p.startup := (State.powerRecord_chg ..).startup rfl
        have hr : r.startup = q.startup := (State.modScribe_chg ..).startup rfl
        have hrest : r.startup = a.startup := by rw [hr, hq, hp, hb]
        split
        · exact ((State.boundaries_chg ..).startup rfl).trans hrest
        · exact hrest
      · exact (State.closeAtFail_chg ..).startup rfl
  have he : e.startup = s.startup := by
    have hd : d.startup = c.startup := (State.reopenBuilding_chg ..).startup rfl
    have hfold : Chg [.port, .tamper] d e := Chg.foldl _ _ (.refl ..) fun y i => .ite (State.countTamper_chg ..) (.refl ..)
    rw [hfold.startup rfl, hd, hc, ha]
  have hf : f.startup = s.startup := by
    unfold f
    split
    · split
      · split
        · exact ((State.countTamper_chg ..).startup rfl).trans he
        · exact he
      · exact he
    · rfl
  show f.startup.mode = _
  rw [hf]

/-! The count of starts, which events leave. -/

/-- The count of starts is the same in two states. -/
structure StartsKept (s u : State) : Prop where
  count : u.port.startCount = s.port.startCount

theorem StartsKept.refl (s : State) : StartsKept s s := ⟨rfl⟩

theorem StartsKept.trans {a b c : State} (h : StartsKept a b) (k : StartsKept b c) : StartsKept a c := ⟨k.count.trans h.count⟩

theorem StartsKept.of_chg {L : List Part} {s u : State} (h : Chg L s u) (hL : L.contains .port = false) : StartsKept s u :=
  ⟨by rw [h.port hL]⟩

theorem StartsKept.raise (s : State) (e : Ev) (val : List Int) : StartsKept s (s.raise e val) := ⟨rfl⟩

theorem StartsKept.ite {c : Prop} [Decidable c] {s a b : State} (h : StartsKept s a) (k : StartsKept s b) :
    StartsKept s (if c then a else b) := by
  split
  · exact h
  · exact k

theorem StartsKept.foldl {α : Type} (f : State → α → State) (hf : ∀ s x, StartsKept s (f s x)) (l : List α) (s : State) :
    StartsKept s (l.foldl f s) := by
  induction l generalizing s with
  | nil => exact .refl s
  | cons x l ih => exact (hf s x).trans (ih (f s x))

theorem StartsKept.coastLaw (s : State) (l : Nat) (c : LawCause) : StartsKept s (s.coastLaw l c) := by
  unfold State.coastLaw
  extract_lets w add enter
  have hmod (f : Law → Law) : StartsKept s (s.modLaw l f) := .of_chg (State.modLaw_chg ..) rfl
  exact .ite (((hmod _).trans (.of_chg (State.decideCoast_chg ..) rfl)).trans (.raise ..)) (.ite (hmod _) (.refl s))

theorem StartsKept.inhibit (s : State) : StartsKept s s.inhibit := by
  unfold State.inhibit
  extract_lets old x
  exact (StartsKept.of_chg (Chg.setLegs ..) rfl : StartsKept s x).trans (.foldl _ (fun y l => .coastLaw y l .legsOff) _ _)

theorem StartsKept.takeLegsOff (s : State) (side : Side) (on : Bool) : StartsKept s (s.takeLegsOff side on) := by
  unfold State.takeLegsOff State.assertLegsOff State.releaseLegsOff
  extract_lets sides old x count
  have hx : StartsKept s x := ⟨rfl⟩
  refine .ite (.ite hx ?_) (.ite (hx.trans ⟨rfl⟩) hx)
  exact (hx.trans (.inhibit x)).trans ((StartsKept.of_chg (Chg.setLegs x.inhibit _) rfl).trans (.raise _ .legsOffAsserted [count]))

theorem StartsKept.submit {s : State} (j : JInput) {f : State → State} (h : StartsKept s (f s)) : StartsKept s (s.submit j f) := by
  by_cases hj : journals s.pair.st = true
  · exact .of_chg (State.submit_chg_pair hj j f) rfl
  · rw [State.submit_alone (Bool.eq_false_iff.mpr hj)]
    exact h

theorem StartsKept.react (s : State) : StartsKept s s.react := by
  unfold State.react
  extract_lets x want
  have hx : StartsKept s x := ⟨rfl⟩
  refine .ite hx (hx.trans ?_)
  exact (StartsKept.of_chg (State.modSafety_chg x fun y => { y with legsOwn := want }) rfl).trans
    (.submit _ (.takeLegsOff _ .own want))

/-! The steps of Table 3.8. -/

/-- What step 2 leaves as it is once the logic die has left reset. -/
structure WokenKept (s u : State) : Prop where
  startup : u.startup = s.startup
  time : u.time = s.time
  ident : u.ident = s.ident
  starts : StartsKept s u
  netFault : u.safety.netFault = s.safety.netFault

theorem WokenKept.refl (s : State) : WokenKept s s := ⟨rfl, rfl, rfl, .refl s, rfl⟩

theorem WokenKept.trans {a b c : State} (h : WokenKept a b) (k : WokenKept b c) : WokenKept a c :=
  ⟨k.startup.trans h.startup, k.time.trans h.time, k.ident.trans h.ident, h.starts.trans k.starts, k.netFault.trans h.netFault⟩

theorem WokenKept.raise (s : State) (e : Ev) (val : List Int) : WokenKept s (s.raise e val) := ⟨rfl, rfl, rfl, .raise .., rfl⟩

theorem WokenKept.react (s : State) : WokenKept s s.react := by
  have h := State.react_chg s
  exact ⟨h.startup rfl, h.time rfl, h.ident rfl, .react s, State.react_netFault s⟩

theorem WokenKept.corruptSlot (s : State) (i : Fin 64) : WokenKept s (s.corruptSlot i) := by
  unfold State.corruptSlot
  have h := State.modSlot_chg s i.val fun x => { x with attr := 0, kcv := 0 }
  split
  · exact .refl s
  · exact WokenKept.trans ⟨h.startup rfl, h.time rfl, h.ident rfl, .of_chg h rfl, by rw [h.safety rfl]⟩ (.raise ..)

theorem WokenKept.foldl {α : Type} (f : State → α → State) (hf : ∀ s x, WokenKept s (f s x)) (l : List α) (s : State) :
    WokenKept s (l.foldl f s) := by
  induction l generalizing s with
  | nil => exact .refl s
  | cons x l ih => exact (hf s x).trans (ih (f s x))

/-- Step 2 (R52, R455). -/
theorem State.leaveReset_spec {s : State} {obs : ImageObs} (hlife : s.ident.life ≠ .retired) (hpuf : obs.pufOk = true) :
    (s.leaveReset obs).isDone .s2 = true ∧ (s.leaveReset obs).startup.mode = s.startup.mode ∧ (s.leaveReset obs).tick = 0 ∧
    (s.leaveReset obs).port.startCount = (s.port.startCount + 1) % 2 ^ 32 ∧ (s.leaveReset obs).safety.netFault = false := by
  have hall : ∃ b c : State, b = { s with
        time := { s.time with tick0 := s.time.clock }, port := { startCount := (s.port.startCount + 1) % 2 ^ 32 } } ∧
      WokenKept (b.stepDone .s2) c ∧ WokenKept (c.modSafety fun x => { x with
        netFault := false, disagreed := false, outs := vmap (fun (o : SafeOut) => { o with faulty := false }) x.outs })
          (s.leaveReset obs) := by
    unfold State.leaveReset
    extract_lets cells since t0 a b c d e f g h k m
    have hc : WokenKept b c := .foldl _ (fun y x => .raise ..) _ _
    refine ⟨a, c, rfl, hc, ?_⟩
    have he : WokenKept d e := by
      unfold e
      split
      · split
        · exact .raise ..
        · exact .refl d
      · exact .refl d
    have hg : WokenKept e g := ⟨rfl, rfl, rfl, ⟨rfl⟩, rfl⟩
    have hk : WokenKept g k := by
      unfold k
      split
      · exact ⟨rfl, rfl, rfl, ⟨rfl⟩, rfl⟩
      · exact .refl g
    have hm : WokenKept k m := .foldl _ (fun y i => .corruptSlot y i) _ _
    have hd := WokenKept.react (c.modSafety fun x => { x with
      netFault := false, disagreed := false, outs := vmap (fun (o : SafeOut) => { o with faulty := false }) x.outs })
    have hrest := (((hd.trans he).trans hg).trans hk).trans hm
    have hident : m.ident = s.ident := hrest.ident.trans hc.ident
    rw [if_neg (hident ▸ hlife), if_neg (by simp [hpuf])]
    exact hrest
  obtain ⟨b, c, hb, hc, hrest⟩ := hall
  have hstartup : (s.leaveReset obs).startup = (b.stepDone .s2).startup := hrest.startup.trans hc.startup
  have htime : (s.leaveReset obs).time = b.time := hrest.time.trans hc.time
  refine ⟨?_, ?_, ?_, ?_, hrest.netFault⟩
  · rw [State.isDone_of_startup hstartup, State.isDone_stepDone]
  · rw [hstartup, hb]
    rfl
  · rw [State.tick, htime, hb]
    exact Nat.sub_self _
  · rw [hrest.starts.count, show (c.modSafety _).port = c.port from rfl, hc.starts.count, hb]
    rfl

/-- Step 9 (R91, R693). -/
theorem State.beginService_spec (s : State) : s.beginService.isDone .s9 = true ∧ s.beginService.startup.mode = .service ∧
    s.beginService.update.served.2 = some s.time.clock := by
  let a : State := ({ s with startup := { s.startup with mode := .service } }).stepDone .s9
  have hchg : ∃ b : State, b.startup = a.startup ∧ b.update.served.2 = some s.time.clock ∧
      s.beginService.startup = b.startup ∧ s.beginService.update = b.update := by
    unfold State.beginService
    extract_lets old c x d e u v f g h k
    have hg : g.startup = f.startup ∧ g.update = f.update := by
      unfold g
      split
      · exact ⟨rfl, rfl⟩
      · exact ⟨rfl, rfl⟩
    have hk : Chg [.legs, .laws, .port, .pair] g k := by
      have hh : Chg [.legs, .laws, .port, .pair] g h :=
        ((State.lawsService_chg g).widen rfl).trans ((State.lostAtService_chg ..).widen rfl)
      exact .ite (hh.trans ((State.inhibit_chg h).widen rfl)) hh
    have hlast := ((((State.pumpsService_chg k).widen rfl :
      Chg [.drives, .supply, .juggler, .port, .legs, .laws, .pair, .safety] k _).trans ((State.regsService_chg _).widen rfl)).trans
      ((State.curtService_chg _).widen rfl)).trans (((State.requestSo_chg _ true).widen rfl).trans ((State.refreshLs_chg _).widen rfl))
    exact ⟨f, rfl, rfl, by rw [hlast.startup rfl, hk.startup rfl, hg.1], by rw [hlast.update rfl, hk.update rfl, hg.2]⟩
  obtain ⟨b, hb, hserved, hstart, hupd⟩ := hchg
  refine ⟨?_, ?_, by rw [hupd, hserved]⟩
  · rw [State.isDone_of_startup (hstart.trans hb)]
    exact State.isDone_stepDone ..
  · rw [hstart, hb]
    rfl

/-- Step 4 of an image that passes (R89, R98, R101). -/
theorem State.acceptImage_spec (s : State) (h : ImageHdr) (rs : List Rec) (obs : ImageObs) :
    (s.acceptImage h rs obs).startup.hdr = h ∧ (s.acceptImage h rs obs).startup.mode = s.startup.mode ∧
    (s.acceptImage h rs obs).startup.refusal = none := by
  unfold State.acceptImage
  extract_lets a ws kept drives laws homes x y z b c d
  have hd : d.startup = b.startup := by
    rw [show d.startup = c.startup from rfl, (State.idleLegs_chg ..).startup rfl, (State.pinKernels_chg ..).startup rfl]
  have hb : b.startup.hdr = h ∧ b.startup.mode = s.startup.mode ∧ b.startup.refusal = none := ⟨rfl, rfl, rfl⟩
  split
  · rw [hd]
    exact hb
  next r _ =>
    extract_lets e f
    have he : e.startup = b.startup := ((State.modSafety_chg ..).startup rfl).trans hd
    split
    · rw [he]
      exact hb
    · have hf : f.startup = e.startup := (State.modSafety_chg ..).startup rfl
      rw [(State.raise_chg ..).startup rfl, (State.logChange_chg ..).startup rfl, hf, he]
      exact hb

theorem State.takeStored_spec (s : State) : s.takeStored.startup.hdr = s.startup.hdr ∧
    s.takeStored.startup.mode = s.startup.mode ∧ s.takeStored.startup.refusal = s.startup.refusal := by
  unfold State.takeStored
  split
  · exact ⟨rfl, rfl, rfl⟩
  · split
    · exact ⟨rfl, rfl, rfl⟩
    · exact ⟨rfl, rfl, rfl⟩

/-- Settles O10: the start sequence begins, its steps complete in time, and a late one refuses the image. -/
theorem startSequence : Obligations.StartSequence := by
  unfold Obligations.StartSequence
  refine ⟨?_, ?_, ?_, ?_, ?_, ?_, ?_, ?_⟩
  · intro s z t v hz hv hmode hrails hshut hreset
    obtain ⟨u, hu, hchg⟩ := execPowerUp_chg t v s
    have hexec : exec (.powerUp t v) s = .next u := hu
    have hcond : (180 < v && z.startup.mode = .off && z.supply.rails = .off && !z.supply.hotShut && z.safety.resetUntil.isNone) = true := by
      simp [hv, hmode, hrails, hshut, hreset]
    have hu' : ∃ x : State, Chg [.safety] z x ∧ u = ((x.modSupply fun y => { y with auxIn := v }).startPower).react := by
      unfold execPowerUp at hu
      rw [← hz] at hu
      refine ⟨_, ?_, (Host.Outcome.next.inj (hu.symm.trans (congrArg Host.Outcome.next (if_pos hcond))))⟩
      exact .ite (.refl ..) (State.modSafety_chg ..)
    obtain ⟨x, hx, rfl⟩ := hu'
    rw [← hz] at hchg
    have hreact := State.react_chg ((x.modSupply fun y => { y with auxIn := v }).startPower)
    refine ⟨_, hexec, ?_, ?_, ?_, .of_chg hchg (by decide)⟩
    · rw [hreact.startup rfl, ← hx.startup rfl, ← hx.time rfl]
      rfl
    · rw [hreact.supply rfl]
      rfl
    · rw [hreact.supply rfl]
      rfl
  · intro s z t a l hz hfaults hrails hcool ha
    have hexec : exec (.railRestart t) s = .next z.startPower := by
      show execRailRestart t s = _
      unfold execRailRestart
      rw [← hz]
      simp only [hfaults]
      have ha' : a + 100 * ticksPerMs ≤ z.time.clock := ha
      exact congrArg Host.Outcome.next (if_pos (by simp [hrails, hcool, ha']))
    exact ⟨_, hexec, rfl, rfl, rfl, .of_chg (State.startPower_chg z) (by decide)⟩
  · intro s z t e hz hreset he hrails hmode
    have hexec : exec (.logicDieRestart t) s = .next { z.modSafety fun x => { x with resetUntil := none } with
        startup := { z.startup with mode := .starting, auxRise := z.time.clock - 30 * ticksPerMs, done := [(.s1, z.tick)] } } := by
      show execLogicDieRestart t s = _
      unfold execLogicDieRestart
      rw [← hz]
      simp only [hreset]
      exact congrArg Host.Outcome.next (if_pos (by simp [he, hrails, hmode]))
    have hchg := Chg.of_exec (execLogicDieRestart_chg t s) hexec
    rw [← hz] at hchg
    exact ⟨_, hexec, rfl, rfl, rfl, rfl, .of_chg hchg (by decide)⟩
  · exact fun s => ⟨rfl, rfl, rfl, rfl, rfl, rfl, rfl, rfl, rfl, rfl, rfl⟩
  · intro s z t step ms code hz hlimit hmode hdone hlate
    have hexec : exec (.startStepTimeout t step) s = .next (z.refuse code noIndex) := by
      show execStartStepTimeout t step s = _
      unfold execStartStepTimeout
      rw [← hz, ← State.refuseStep_of_limit hlimit]
      exact congrArg Host.Outcome.next (if_pos (by simp [hmode, hdone, State.late_of_limit hlimit hlate]))
    exact ⟨_, hexec, rfl, rfl, rfl, rfl, rfl, rfl, .of_chg (State.refuse_chg ..) (by decide)⟩
  · intro s z t step obs ms code hz hlimit hmode hdone hneeds hlate
    have hexec : exec (.startStepComplete t step obs) s = .next (z.refuse code noIndex) := by
      rw [exec_startStepComplete hz hmode hdone hneeds, if_pos (State.late_of_limit hlimit hlate), State.refuseStep_of_limit hlimit]
    exact ⟨_, hexec, rfl, rfl, rfl, .of_chg (State.refuse_chg ..) (by decide)⟩
  · intro s z t obs step hz hmode hdone hneeds hlate hstep
    have hexec : exec (.startStepComplete t step obs) s = .next (z.takeStep obs step) := by
      rw [exec_startStepComplete hz hmode hdone hneeds, hlate]
      rfl
    have hchg := Chg.of_exec (execStartStepComplete_chg t step obs s) hexec
    rw [← hz] at hchg
    suffices h : (z.takeStep obs step).isDone step = true ∧ (step = .s1 → (z.takeStep obs step).supply.rails = .up) ∧
        (step = .s6 → (z.takeStep obs step).pair.st = .solo) ∧
        (step = .s2 → (z.takeStep obs step).tick = 0 ∧
          (z.takeStep obs step).port.startCount = (z.port.startCount + 1) % 2 ^ 32 ∧ (z.takeStep obs step).safety.netFault = false) ∧
        (step = .s9 → (z.takeStep obs step).startup.mode = .service ∧ (z.takeStep obs step).update.served.2 = some z.time.clock) ∧
        (step ≠ .s9 → (z.takeStep obs step).startup.mode = .starting) by
      obtain ⟨hd, h1, h6, h2, h9, hm⟩ := h
      exact ⟨_, hexec, hd, h1, h6, h2, h9, hm, .of_chg hchg (by decide)⟩
    rcases hstep with rfl | rfl | rfl | rfl | rfl | ⟨rfl, hgood⟩ | ⟨rfl, hgood⟩ | ⟨rfl, halone⟩ | ⟨rfl, hrun⟩ | ⟨rfl, hlife, hpuf⟩
    · exact ⟨State.isDone_stepDone .., fun _ => rfl, nofun, nofun, nofun, fun _ => hmode⟩
    · have hm : z.startCarousel.startup.mode = z.startup.mode := by
        unfold State.startCarousel
        split <;> rfl
      exact ⟨State.isDone_stepDone .., nofun, nofun, nofun, nofun, fun _ => hm.trans hmode⟩
    · have hm : z.expandStep.startup = (z.expandThermal.stepDone .s5).startup := by
        unfold State.expandStep
        extract_lets x
        split
        · exact (State.modPair_chg ..).startup rfl
        · rfl
      refine ⟨(State.isDone_of_startup hm _).trans (State.isDone_stepDone ..), nofun, nofun, nofun, nofun, fun _ => ?_⟩
      show z.expandStep.startup.mode = _
      rw [hm, State.mode_stepDone, (State.expandThermal_chg z).startup rfl, hmode]
    · exact ⟨State.isDone_stepDone .., nofun, nofun, nofun, nofun, fun _ => (State.scribeOpen_mode z).trans hmode⟩
    · have htake : z.takeStep obs .s9 = z.beginService := rfl
      rw [htake]
      obtain ⟨hd, hm, hserved⟩ := z.beginService_spec
      exact ⟨hd, nofun, nofun, nofun, fun _ => ⟨hm, hserved⟩, fun h => absurd rfl h⟩
    · have htake : z.takeStep obs .s3a = z.stepDone .s3a := if_pos hgood
      rw [htake]
      exact ⟨State.isDone_stepDone .., nofun, nofun, nofun, nofun, fun _ => hmode⟩
    · have htake : z.takeStep obs .s3c = z.stepDone .s3c := if_pos hgood
      rw [htake]
      exact ⟨State.isDone_stepDone .., nofun, nofun, nofun, nofun, fun _ => hmode⟩
    · have htake : z.takeStep obs .s6 = (z.modPair fun p => { p with st := .solo }).stepDone .s6 := by
        unfold State.takeStep State.settle
        simp [halone, hlate]
      rw [htake]
      exact ⟨State.isDone_stepDone .., nofun, fun _ => rfl, nofun, nofun, fun _ => hmode⟩
    · have htake : z.takeStep obs .s7 = z.stepDone .s7 := if_pos hrun
      rw [htake]
      exact ⟨State.isDone_stepDone .., nofun, nofun, nofun, nofun, fun _ => hmode⟩
    · have htake : z.takeStep obs .s2 = z.leaveReset obs := rfl
      rw [htake]
      obtain ⟨hd, hm, htick, hstarts, hnet⟩ := State.leaveReset_spec (s := z) hlife hpuf
      exact ⟨hd, nofun, nofun, fun _ => ⟨htick, hstarts, hnet⟩, nofun, fun _ => hm.trans hmode⟩
  · intro s z t obs hz hmode hdone hneed hlate
    have hexec : exec (.startStepComplete t .s4 obs) s = .next (z.readImage obs) := by
      rw [exec_startStepComplete hz hmode hdone (by simpa [stepNeeds] using hneed), hlate]
      rfl
    refine ⟨_, hexec, ?_⟩
    unfold State.readImage
    cases z.checkBank z.startup.bank obs with
    | error e => exact ⟨rfl, rfl, rfl⟩
    | ok x =>
      obtain ⟨hhdr, hm, href⟩ := z.acceptImage_spec x.1 x.2 obs
      obtain ⟨hhdr', hm', href'⟩ := (z.acceptImage x.1 x.2 obs).takeStored_spec
      exact ⟨State.isDone_stepDone .., (hm'.trans hm).trans hmode, hhdr'.trans hhdr, href'.trans href⟩

/-! Pairing. -/

theorem exec_pairing_starting {s z : State} {t : Nat} {p : PartnerInfo} (hz : z = s.advance t) (hmode : z.startup.mode = .starting)
    (hst : z.pair.st = .pairing) : exec (.pairing t p) s = .next (z.pairOutcome p) := by
  show execPairing t p s = _
  unfold execPairing
  rw [← hz]
  exact congrArg Host.Outcome.next ((if_neg (by simp [hmode])).trans (if_pos (by simp [hmode, hst])))

/-- Step 6 settles in time. -/
theorem State.settle_of_rise {s : State} (h : s.stepLate .s6 = false) (st : PairState) :
    s.settle st = (s.modPair fun p => { p with st }).stepDone .s6 := if_neg (by simp [h])

theorem State.hold_of_starting {s : State} (h : s.startup.mode = .starting) : s.hold_.startup.mode = .held ∧ s.hold_.pair.st = .none ∧
    s.hold_.pair.ringOut = false ∧ s.hold_.ident = s.ident := by
  have hhold : s.hold_ = (({ s with startup := { s.startup with mode := .held } }).quiet).modPair fun p =>
      { p with st := .none, journal := [], copies := [], applied := none } := by
    unfold State.hold_
    rw [if_neg (by simp [h])]
  have hq := State.refreshLs_chg (({ s with startup := { s.startup with mode := .held } }).modPair fun p =>
    { p with driving := false, ringOut := false, decided := none, cold := false })
  rw [hhold]
  refine ⟨?_, rfl, ?_, ?_⟩
  · exact congrArg Startup.mode (hq.startup rfl)
  · exact congrArg Pair.ringOut (hq.pair rfl)
  · exact hq.ident rfl

/-- The partner that passes is remembered. -/
def State.partnerBound (s : State) (p : PartnerInfo) : State :=
  ({ s with ident := { s.ident with partnerHash := some p.idHash } }).modPair fun x =>
    { x with partner := some p, beatLost := false, ringLost := false, yieldSeen := false }

/-- The partner is told, and a standby adopts its TURN. -/
def State.partnerTaken (s : State) (p : PartnerInfo) : State :=
  let st : PairState := if s.ident.pairPos then .holder else .standby
  let x := (s.partnerBound p).raise .paired [pairNum st, p.serial]
  if st = .holder then x else x.modCar (·.adopt x.nStrokes p.turn x.tick)

theorem State.partnerTaken_spec (s : State) (p : PartnerInfo) : (s.partnerTaken p).time = s.time ∧
    (s.partnerTaken p).startup.auxRise = s.startup.auxRise ∧
    (s.partnerTaken p).ident = { s.ident with partnerHash := some p.idHash } ∧ (s.partnerTaken p).pair.partner = some p := by
  unfold State.partnerTaken
  extract_lets st x
  split <;> exact ⟨rfl, rfl, rfl, rfl⟩

theorem State.pairOutcome_accepted {s : State} {p : PartnerInfo} (hfind : s.pairFind p = .accepted)
    (hmode : s.startup.mode = .starting) (hin : p.inService = false) :
    s.pairOutcome p = (s.partnerTaken p).settle (if s.ident.pairPos then .holder else .standby) := by
  unfold State.pairOutcome
  rw [hfind]
  extract_lets service r old a b st e x
  have hservice : ¬ service := by
    show ¬ s.startup.mode = .service
    rw [hmode]
    decide
  have hst : st = if s.ident.pairPos then .holder else .standby := (if_neg hservice).trans (if_neg (by simp [hin]))
  have hx : x = s.partnerTaken p := by
    unfold State.partnerTaken
    rw [← hst]
    rfl
  have hne : st ≠ .resync := by
    rw [hst]
    split <;> decide
  dsimp only
  rw [if_neg hservice, if_neg (by simp [hne]), hx, hst]

/-- Settles O11: a partner that passes makes the pair, another leaves this module SOLO or HELD, and HELD takes a new binding. -/
theorem pairing : Obligations.Pairing := by
  unfold Obligations.Pairing
  refine ⟨?_, ?_, ?_, ?_, ?_⟩
  · intro s z t p hz hmode hst hp hhdr hattest horder hpos hhash hserial hbound hid hin hrise
    have hexec := exec_pairing_starting (p := p) hz hmode hst
    have hchg := Chg.of_exec (execPairing_chg t p s) hexec
    rw [← hz] at hchg
    have hfind : z.pairFind p = .accepted := by
      have hid' : z.ident.partnerHash.getD p.idHash = p.idHash := by
        rcases hid with h | h <;> rw [h] <;> rfl
      unfold State.pairFind
      simp [hp, hhdr, hattest, horder, hpos, hhash, hserial, hbound, hid']
    obtain ⟨htime, hrise', hident, hpartner⟩ := z.partnerTaken_spec p
    have hsettle := State.settle_of_rise ((State.stepLate_of_rise htime hrise').trans hrise) (if z.ident.pairPos then .holder else .standby)
    rw [State.pairOutcome_accepted hfind hmode hin, hsettle] at hexec hchg
    exact ⟨_, hexec, rfl, hpartner, hident, State.isDone_stepDone .., .of_chg hchg (by decide)⟩
  · intro s z t p hz hmode hst hp hhdr hattest horder hrise
    have hexec := exec_pairing_starting (p := p) hz hmode hst
    have hchg := Chg.of_exec (execPairing_chg t p s) hexec
    rw [← hz] at hchg
    have hfind : z.pairFind p = .fault 0 false := by
      unfold State.pairFind
      simp [hp, hhdr, hattest, horder]
    have hout : z.pairOutcome p = ((z.raise .pairingFault [0]).modPair fun y => { y with st := .solo }).stepDone .s6 := by
      unfold State.pairOutcome
      simp only [hfind, hmode]
      rw [if_neg Bool.false_ne_true, if_neg (by decide)]
      exact State.settle_of_rise (s := z.raise .pairingFault [0]) ((State.stepLate_of_rise rfl rfl).trans hrise) .solo
    rw [hout] at hexec hchg
    exact ⟨_, hexec, rfl, State.isDone_stepDone .., rfl, rfl, .of_chg hchg (by decide)⟩
  · intro s z t p hz hmode hst hp hhdr hattest horder hcase
    have hexec := exec_pairing_starting (p := p) hz hmode hst
    have hchg := Chg.of_exec (execPairing_chg t p s) hexec
    rw [← hz] at hchg
    have hout : ∃ x : State, z.pairOutcome p = x.hold_ ∧ x.startup = z.startup ∧ x.ident = z.ident := by
      by_cases hpos : p.pairPos = z.ident.pairPos
      · have hfind : z.pairFind p = .fault 1 true := by
          unfold State.pairFind
          simp [hp, hhdr, hattest, horder, hpos]
        refine ⟨z.raise .pairingFault [1], ?_, rfl, rfl⟩
        unfold State.pairOutcome
        simp only [hfind]
        rfl
      · obtain ⟨hhash, hserial, hne⟩ := hcase.resolve_left hpos
        have hfind : z.pairFind p = .unbound := by
          unfold State.pairFind
          simp [hp, hhdr, hattest, horder, hpos, hhash, hserial, hne]
        refine ⟨z, ?_, rfl, rfl⟩
        unfold State.pairOutcome
        simp only [hfind]
    obtain ⟨x, hx, hstart, hident⟩ := hout
    obtain ⟨hm, hs, hr, hi⟩ := State.hold_of_starting (s := x) (by rw [hstart, hmode])
    rw [hx] at hexec hchg
    exact ⟨_, hexec, hm, hs, hr, hi.trans hident, .of_chg hchg (by decide)⟩
  · intro s z t p hz hmode hp hhdr hattest horder hhash hbound hserial
    let x : State := { z with ident := { z.ident with partnerSerial := p.serial, partnerHash := some p.idHash } }
    have hexec : exec (.pairing t p) s = .next x.restart := by
      show execPairing t p s = _
      unfold execPairing
      rw [← hz]
      refine congrArg Host.Outcome.next ((if_pos hmode).trans ?_)
      exact if_pos (by simp [hp, hhdr, hattest, horder, hhash, hbound, hserial])
    have hx : Chg [.ident] z x := Chg.setIdent ..
    have hchg := Chg.step (L := [.time, .carousel, .wall, .startup, .array, .legs, .laws, .juggler, .thermal, .barker, .scribe,
      .ident, .update, .ptp, .pair, .port, .tokens, .tamper, .safety, .drives, .supply, .buses]) (hx.widen rfl)
      (State.restart_chg x) rfl
    have hident : x.restart.ident = { z.ident with partnerSerial := p.serial, partnerHash := some p.idHash } :=
      (State.restart_chg x).ident rfl
    have hreset : x.restart.safety.resetUntil = some z.time.clock := x.restart_resetUntil
    exact ⟨_, hexec, hident, x.restart_mode, hreset, .of_chg hchg (by decide)⟩
  · intro s z t k hz hdone hmode hst hwin hrise
    have hexec : exec (.pairWinExpiry t) s = .next (z.settle .solo) := by
      show execPairWinExpiry t s = _
      unfold execPairWinExpiry
      rw [← hz]
      simp only [hdone]
      have hlate : k + z.pairWin < z.tick := by
        rw [State.pairWin, ticksPerMs, Nat.mul_assoc]
        exact hwin
      rw [if_pos]
      simp [hmode, hst, hlate]
    rw [State.settle_of_rise hrise] at hexec
    have hchg := Chg.of_exec (execPairWinExpiry_chg t s) hexec
    rw [← hz] at hchg
    exact ⟨_, hexec, rfl, State.isDone_stepDone .., .of_chg hchg (by decide)⟩

end Sys2Proof.Machine
end

section
/-!
Proofs of the statement about customer keys, commissioning and retirement (chapter 17).
-/
namespace Sys2Proof.Machine
open Sys2Proof Sys2Proof.Config

/-! The property word of a key with its reserved bits as zero (R8). -/

/-- The property word as it is kept. -/
def keptAttr (a : W32) : W32 := a &&& 0xFFFFFFE0#32

theorem keptAttr_type (a : W32) : attrType (keptAttr a) = attrType a := by
  have ha : a.toNat / 2 ^ 28 < 2 ^ 4 := by omega
  rw [attrType, keptAttr, BitVec.toNat_and, Nat.and_div_two_pow]
  exact Nat.and_two_pow_sub_one_of_lt_two_pow ha

theorem keptAttr_purpose (a : W32) : attrPurpose (keptAttr a) = attrPurpose a := by
  have ha : a.toNat / 2 ^ 7 < 2 ^ 25 := by omega
  rw [attrPurpose, keptAttr, BitVec.toNat_and, show (128 : Nat) = 2 ^ 7 from rfl, Nat.and_div_two_pow]
  exact congrArg (· % 16) (Nat.and_two_pow_sub_one_of_lt_two_pow ha)

/-! One slot changed. -/

theorem State.slots_modSlot_same (s : State) (n : SlotNo) (f : KeySlot → KeySlot) :
    (s.modSlot n.val f).keys.slots[n] = f s.keys.slots[n] := by
  show (vmapIdx _ s.keys.slots)[n.val] = _
  rw [vmapIdx_get]
  exact if_pos rfl

theorem State.slots_modSlot_other (s : State) {n m : SlotNo} (hne : m ≠ n) (f : KeySlot → KeySlot) :
    (s.modSlot n.val f).keys.slots[m] = s.keys.slots[m] := by
  show (vmapIdx _ s.keys.slots)[m.val] = _
  rw [vmapIdx_get]
  exact if_neg (Fin.val_ne_of_ne hne)

/-- A slot written, and the write logged (R665, R666). -/
def State.slotWritten (s : State) (x : Caller) (n : SlotNo) (destroy : Bool) (attr : W32) (k : KeySlot) : State :=
  ((s.modSlot n.val fun _ => k).logKey x n.val destroy attr).reply x 0

theorem State.slotWritten_spec (s : State) (x : Caller) (n : SlotNo) (destroy : Bool) (attr : W32) (k : KeySlot) :
    (s.slotWritten x n destroy attr k).keys.slots[n] = k ∧
    (∀ m : SlotNo, m ≠ n → (s.slotWritten x n destroy attr k).keys.slots[m] = s.keys.slots[m]) ∧
    (∃ e, (s.slotWritten x n destroy attr k).keys.log = (e :: s.keys.log).take 256 ∧ e.slot = n.val ∧ e.destroy = destroy ∧
      e.attr = attr) ∧ (s.slotWritten x n destroy attr k).lastEv = some .keyChanged := by
  have hkeys : (s.slotWritten x n destroy attr k).keys = ((s.modSlot n.val fun _ => k).logKey x n.val destroy attr).keys :=
    (State.reply_chg ..).keys rfl
  refine ⟨?_, fun m hm => ?_, ⟨_, by rw [hkeys]; rfl, rfl, rfl, rfl⟩, (State.lastEv_reply ..).trans rfl⟩
  · rw [hkeys]
    exact s.slots_modSlot_same n fun _ => k
  · rw [hkeys]
    exact s.slots_modSlot_other hm fun _ => k

section
variable {s : State} {x : Caller} {n : SlotNo} {k : KeyImport}

/-- An import that no earlier check refuses comes down to its key field and its signature. -/
theorem State.opKeyImport_of_slot (hn : 16 ≤ n.val) (hm : s.ident.life ≠ .manufacture) (hr : s.ident.life ≠ .retired)
    (hnamed : s.slotNamed n.val = false) (hbad : badAttr (k.attr &&& 0xFFFFFFE0#32) = false)
    (hkey : 7 < attrType k.attr ∨ s.keyAllowed 5 .derive .update = true) : s.opKeyImport x n k =
      if !k.keyOk then s.reply x 3
      else if attrPurpose (keptAttr k.attr) = 3 && s.ident.life ≠ .provisioned && !(k.sigPresent && k.sigOk) then s.reply x 1
      else s.slotWritten x n false (keptAttr k.attr) { attr := keptAttr k.attr, kcv := k.kcv } := by
  have huse : (if attrType (keptAttr k.attr) ≤ 7 then s.useKey 5 .derive .update else (true, s)) = (true, s) := by
    rw [keptAttr_type]
    rcases hkey with h | h
    · exact if_neg (Nat.not_le.mpr h)
    · simp [State.useKey, h]
  unfold State.opKeyImport
  rw [if_neg (Nat.not_lt.mpr hn), if_neg (by simp [hm, hr, hnamed]), if_neg (by simp [hbad])]
  unfold keptAttr at huse
  simp only [huse]
  rfl
end

/-! The Scribe opens for the first time (R670). -/

/-- The Scribe stays open, or closed. -/
structure OpenKept (s u : State) : Prop where
  open_ : u.scribe.open_ = s.scribe.open_

theorem OpenKept.refl (s : State) : OpenKept s s := ⟨rfl⟩

theorem OpenKept.trans {a b c : State} (h : OpenKept a b) (k : OpenKept b c) : OpenKept a c := ⟨k.open_.trans h.open_⟩

theorem OpenKept.of_chg {L : List Part} {s u : State} (h : Chg L s u) (hL : L.contains .scribe = false) : OpenKept s u :=
  ⟨by rw [h.scribe hL]⟩

theorem OpenKept.ite {c : Prop} [Decidable c] {s a b : State} (h : OpenKept s a) (k : OpenKept s b) :
    OpenKept s (if c then a else b) := by
  split
  · exact h
  · exact k

theorem OpenKept.foldl {α : Type} (f : State → α → State) (hf : ∀ s x, OpenKept s (f s x)) (l : List α) (s : State) :
    OpenKept s (l.foldl f s) := by
  induction l generalizing s with
  | nil => exact .refl s
  | cons x l ih => exact (hf s x).trans (ih (f s x))

theorem OpenKept.modCore (s : State) (f : ScribeCore → ScribeCore) : OpenKept s (s.modCore f) := ⟨rfl⟩

theorem OpenKept.demandMax (s : State) (o energy : Nat) (sec : Rat) (at_ : Nat) : OpenKept s (s.demandMax o energy sec at_) := by
  unfold State.demandMax
  extract_lets d
  exact .ite (.refl s) (.ite (.modCore ..) (.refl s))

theorem OpenKept.closeInterval (s : State) (more : List MFlag) (at_ : Option Nat) : OpenKept s (s.closeInterval more at_) := by
  unfold State.closeInterval
  extract_lets iv flags outs energy rec_ a whole b c
  have ha : OpenKept s a := ⟨rfl⟩
  have hb : OpenKept a b := .ite (.foldl _ (fun y o => .demandMax ..) _ _) (.refl a)
  have hc : OpenKept b c :=
    .foldl _ (fun y o => .ite (.of_chg (State.countTamper_chg ..) rfl) (.refl y)) _ _
  exact ((ha.trans hb).trans hc).trans (.of_chg (State.raiseS_chg ..) rfl)

theorem OpenKept.startInterval (s : State) (flags : List MFlag) (at_ : Option Nat) : OpenKept s (s.startInterval flags at_) := ⟨rfl⟩

theorem OpenKept.monthStart (s : State) (tai : Nat) : OpenKept s (s.monthStart tai) := by
  unfold State.monthStart
  extract_lets m
  split
  · exact .modCore ..
  · exact .ite (.modCore ..) (.ite (.modCore ..) (.refl s))

theorem OpenKept.switchTariff (s : State) (t : Nat) : OpenKept s (s.switchTariff t) := .ite (.refl s) ⟨rfl⟩

theorem OpenKept.boundaries (s : State) : OpenKept s s.boundaries := by
  unfold State.boundaries
  split
  · exact .switchTariff ..
  next now _ =>
    extract_lets a b
    have ha : OpenKept s a := by
      unfold a
      split
      · exact .ite (.modCore ..) (.refl s)
      · exact .refl s
    have hb : OpenKept a b := by
      unfold b
      split
      · exact .ite ((OpenKept.closeInterval ..).trans (.startInterval ..)) (.refl a)
      · exact .refl a
    exact ((ha.trans hb).trans (.monthStart ..)).trans (.switchTariff ..)

/-- The token unit at commissioning, and the Scribe open. -/
theorem State.firstOpen_spec (s : State) : s.firstOpen.scribe.open_ = true ∧ s.firstOpen.tokens = {} := by
  unfold State.firstOpen
  extract_lets a b
  have hopen : OpenKept b ((b.startInterval [] b.wallSec).boundaries).scribeCommit :=
    ((OpenKept.startInterval ..).trans (.boundaries ..)).trans ⟨rfl⟩
  have htok : ((b.startInterval [] b.wallSec).boundaries).scribeCommit.tokens = b.tokens := by
    rw [(State.scribeCommit_chg ..).tokens rfl, (State.boundaries_chg ..).tokens rfl, (State.startInterval_chg ..).tokens rfl]
  exact ⟨hopen.open_, htok⟩

theorem State.setLife_ident (s : State) (l : Life) : (s.setLife l).ident = { s.ident with life := l } := by
  unfold State.setLife
  split
  next h => rw [← h]
  · rfl

/-- The state of a module that is bound to its hub and partner and has its metering key. -/
def State.keyed (s : State) (hubId partner : Nat) : State :=
  let x := s.modSlot 4 fun _ => { attr := meteringAttr, kcv := meteringKcv s.ident.serial }
  { x with ident := { x.ident with hubId, partnerSerial := partner, partnerHash := none } }

/-- COMMISSION on an object that serves it (R670). -/
def State.commissioned (s : State) (c : ConnNo) (hubId partner : Nat) : State :=
  if s.ident.life ≠ .provisioned then s.answer c 4
  else if hubId ≠ s.startup.hdr.hubId || ((partner = 0) == s.startup.hdr.paired) then s.answer c 3
  else ((s.keyed hubId partner).firstOpen.setLife .commissioned).answer c 0

/-- RETIRE on an object that serves it (R672). -/
def State.retired (s : State) (c : ConnNo) (serial : Nat) : State :=
  if serial ≠ s.ident.serial then s.answer c 3
  else if s.ident.life = .manufacture || s.ident.life = .retired then s.answer c 4
  else ((({ s with keys := { s.keys with slots := Vector.replicate 64 {} } } : State).setLife .retired).answer c 0).restart

/-- Settles O19: keys are imported and destroyed, a module is commissioned and retired. -/
theorem keysAndLifeCycle : Obligations.KeysAndLifeCycle := by
  unfold Obligations.KeysAndLifeCycle
  refine ⟨?_, ?_, ?_, ?_, ?_, ?_, ?_⟩
  · intro c n k
    refine .of_change (fun x s => s.opKeyImport x n k) (fun s t => rfl) (fun x arrival z => rfl) fun z v x hH => ?_
    obtain ⟨hn, hm, hr, hnamed, hbad, hkey, hok, hsig⟩ := hH
    have hop : (z.withConns v).opKeyImport x n k =
        (z.withConns v).slotWritten x n false (keptAttr k.attr) { attr := keptAttr k.attr, kcv := k.kcv } := by
      rw [State.opKeyImport_of_slot (s := z.withConns v) hn hm hr hnamed hbad hkey, if_neg (by simp [hok]), if_neg]
      have hlife : (z.withConns v).ident.life = z.ident.life := rfl
      rw [keptAttr_purpose, hlife]
      rcases hsig with h | h | ⟨h, h'⟩
      · simp [h]
      · simp [h]
      · simp [h, h']
    have hchg : Chg [.port, .keys] z _ := ((State.withConns_chg z v).widen rfl).trans
      ((State.opKeyImport_chg (z.withConns v) x n k).widen rfl)
    rw [hop] at hchg ⊢
    obtain ⟨hslot, hothers, ⟨e, hlog, hslotno, hdestroy, hattr⟩, hlast⟩ :=
      (z.withConns v).slotWritten_spec x n false (keptAttr k.attr) { attr := keptAttr k.attr, kcv := k.kcv }
    exact ⟨⟨hslot, hothers, ⟨e, hlog, hslotno, hdestroy, hattr⟩, hlast, .of_chg hchg (by decide)⟩, fun hx hw =>
      State.res_reply hx (by
        rw [State.logKey, State.waits_raise, (Chg.setKeys ..).waits rfl, (State.modSlot_chg ..).waits rfl]
        exact hw) 0 []⟩
  · intro c n k
    refine .of_change (fun x s => s.opKeyImport x n k) (fun s t => rfl) (fun x arrival z => rfl) fun z v x hH => ?_
    obtain ⟨hn, hm, hr, hnamed, hbad, hkey, hok⟩ := hH
    have hop : (z.withConns v).opKeyImport x n k = (z.withConns v).reply x 3 := by
      rw [State.opKeyImport_of_slot (s := z.withConns v) hn hm hr hnamed hbad (.inl hkey), if_pos (by simp [hok])]
    have hchg : Chg [.port] z ((z.withConns v).reply x 3) := (State.withConns_chg z v).trans (State.reply_chg ..)
    rw [hop]
    exact ⟨⟨hchg.keys rfl, .of_chg hchg (by decide)⟩, fun hx hw => State.res_reply hx hw 3 []⟩
  · intro c n
    refine .of_change (fun x s => s.opKeyDestroy x n) (fun s t => rfl) (fun x arrival z => rfl) fun z v x hH => ?_
    obtain ⟨hn, hnamed⟩ := hH
    have hop : (z.withConns v).opKeyDestroy x n =
        (z.withConns v).slotWritten x n true ((z.withConns v).slot n.val).attr {} := by
      unfold State.opKeyDestroy
      rw [if_neg (Nat.not_lt.mpr hn), if_neg (by rw [show (z.withConns v).slotNamed n.val = false from hnamed]; decide)]
      rfl
    have hchg : Chg [.port, .keys] z _ := ((State.withConns_chg z v).widen rfl).trans
      ((State.opKeyDestroy_chg (z.withConns v) x n).widen rfl)
    rw [hop] at hchg ⊢
    obtain ⟨hslot, hothers, ⟨e, hlog, hslotno, hdestroy, -⟩, hlast⟩ :=
      (z.withConns v).slotWritten_spec x n true ((z.withConns v).slot n.val).attr {}
    exact ⟨⟨hslot, hothers, ⟨e, hlog, hslotno, hdestroy⟩, hlast, .of_chg hchg (by decide)⟩, fun hx hw =>
      State.res_reply hx (by
        rw [State.logKey, State.waits_raise, (Chg.setKeys ..).waits rfl, (State.modSlot_chg ..).waits rfl]
        exact hw) 0 []⟩
  · intro c n
    refine .of_change (fun x s => s.opKeyDestroy x n) (fun s t => rfl) (fun x arrival z => rfl) fun z v x hn => ?_
    have hop : (z.withConns v).opKeyDestroy x n = (z.withConns v).reply x 2 := if_pos hn
    have hchg : Chg [.port] z ((z.withConns v).reply x 2) := (State.withConns_chg z v).trans (State.reply_chg ..)
    rw [hop]
    exact ⟨⟨hchg.keys rfl, .of_chg hchg (by decide)⟩, fun hx hw => State.res_reply hx hw 2 []⟩
  · intro s z t c partner hz hallowed hlife hpartner
    obtain ⟨k, hk, hguarded⟩ := State.guarded_of_allowed hallowed fun _ s => s.commissioned c z.startup.hdr.hubId partner
    have hval : ¬ (z.startup.hdr.hubId ≠ z.startup.hdr.hubId || ((partner = 0) == z.startup.hdr.paired)) = true := by
      cases hpaired : z.startup.hdr.paired <;> simp_all
    have hexec : exec (.commission t c z.startup.hdr.hubId partner) s = .next
        (((z.keyed z.startup.hdr.hubId partner).firstOpen.setLife .commissioned).answer c 0) := by
      show execCommission t c z.startup.hdr.hubId partner s = _
      rw [execCommission, ← hz]
      refine congrArg Host.Outcome.next (hguarded.trans ((if_neg (by simp [hlife])).trans (if_neg hval)))
    have hchg := Chg.of_exec (execCommission_chg t c z.startup.hdr.hubId partner s) hexec
    rw [← hz] at hchg
    let y := z.keyed z.startup.hdr.hubId partner
    have hfirst := State.firstOpen_chg y
    obtain ⟨hopen, htokens⟩ := y.firstOpen_spec
    have hlast : Chg [.port, .ident] y.firstOpen ((y.firstOpen.setLife .commissioned).answer c 0) :=
      ((State.setLife_chg ..).widen rfl).trans ((State.answer_chg ..).widen rfl)
    have hkeys := (hlast.keys rfl).trans (hfirst.keys rfl)
    refine ⟨_, hexec, ?_, ?_, fun m hne => ?_, ?_, ?_, ?_, .of_chg hchg (by decide)⟩
    · rw [(State.answer_chg ..).ident rfl, State.setLife_ident, hfirst.ident rfl]
      rfl
    · have hslot := z.slots_modSlot_same 4 fun _ => { attr := meteringAttr, kcv := meteringKcv z.ident.serial }
      rw [State.slot, hkeys]
      exact congrArg KeySlot.attr ((vget_val _ (4 : SlotNo) _).trans hslot)
    · rw [hkeys]
      exact z.slots_modSlot_other (n := 4) (fun h => hne (congrArg Fin.val h)) _
    · rw [hlast.scribe rfl, hopen]
    · rw [hlast.tokens rfl, htokens]
    · rw [hlast.tokens rfl, htokens]
  · intro s z t c hz hallowed hlife
    obtain ⟨k, hk, hguarded⟩ := State.guarded_of_allowed hallowed fun _ s => s.commissioned c z.startup.hdr.hubId 0
    have hexec : exec (.commission t c z.startup.hdr.hubId 0) s = .next (z.answer c 4) := by
      show execCommission t c z.startup.hdr.hubId 0 s = _
      rw [execCommission, ← hz]
      exact congrArg Host.Outcome.next (hguarded.trans (if_pos hlife))
    exact ⟨_, hexec, State.res_put (State.conns_answer hk 4 []), .of_chg (State.answer_chg ..) (by decide)⟩
  · intro s z t c hz hallowed hm hr
    obtain ⟨k, hk, hguarded⟩ := State.guarded_of_allowed hallowed fun _ s => s.retired c z.ident.serial
    let x : State := { z with keys := { z.keys with slots := Vector.replicate 64 {} } }
    have hexec : exec (.retire t c z.ident.serial) s = .next ((x.setLife .retired).answer c 0).restart := by
      show execRetire t c z.ident.serial s = _
      rw [execRetire, ← hz]
      exact congrArg Host.Outcome.next (hguarded.trans ((if_neg (by simp)).trans (if_neg (by simp [hm, hr]))))
    have hchg := Chg.of_exec (execRetire_chg t c z.ident.serial s) hexec
    rw [← hz] at hchg
    let y := (x.setLife .retired).answer c 0
    have hy : Chg [.port, .ident] x y := ((State.setLife_chg ..).widen rfl).trans ((State.answer_chg ..).widen rfl)
    have hident : y.ident = { z.ident with life := .retired } := ((State.answer_chg ..).ident rfl).trans (x.setLife_ident .retired)
    have hkeys : y.keys = x.keys := hy.keys rfl
    have htime : y.time = z.time := hy.time rfl
    refine ⟨_, hexec, ?_, fun m => ?_, y.restart_mode, y.restart_carousel, ?_, .of_chg hchg (by decide)⟩
    · exact ((State.restart_chg y).ident rfl).trans hident
    · rw [(State.restart_chg y).keys rfl, hkeys]
      exact Vector.getElem_replicate ..
    · rw [y.restart_resetUntil, htime]

end Sys2Proof.Machine
end

section
/-!
Proofs of the statements about firmware update (chapter 17).
-/
namespace Sys2Proof.Machine
open Sys2Proof Sys2Proof.Config

/-! A page of a flash after a write. -/

theorem wholePage_of_length {d : List W32} (h : d.length = 1024) : wholePage d = d := by
  rw [wholePage, h, Nat.sub_self, List.replicate_zero, List.append_nil, ← h, List.take_length]

theorem State.bank_writePage (s : State) (k : BankId) (p : Nat) (d : List W32) :
    (s.writePage k p d).flash.bank k = (s.flash.bank k).write p d := by
  cases k <;> rfl

/-! The stagings. -/

theorem State.staging_modStaging_same (s : State) (k2 : Bool) (f : Staging → Staging) :
    (s.modStaging k2 f).staging k2 = f (s.staging k2) := by
  cases k2 <;> rfl

theorem State.staging_modStaging_other (s : State) (k2 : Bool) (f : Staging → Staging) :
    (s.modStaging k2 f).staging (!k2) = s.staging (!k2) := by
  cases k2 <;> rfl

theorem State.staging_raise (s : State) (e : Ev) (val : List Int) (k2 : Bool) : (s.raise e val).staging k2 = s.staging k2 := rfl

theorem State.staging_of_update {s u : State} (h : u.update = s.update) (k2 : Bool) : u.staging k2 = s.staging k2 := by
  simp only [State.staging, h]

/-- What a piece beyond the header must meet before its hash is judged (R682, R683). -/
def PieceDue (s : State) (k2 : Bool) (i : Nat) : Prop :=
  (s.staging k2).st = .receiving ∧ i < 8 + hdrHl (s.staging k2).header + hdrPieces (s.staging k2).header ∧
    i ∉ (s.staging k2).got ∧ ∀ h, hashPiece (hdrHl (s.staging k2).header) i = some h → h ∈ (s.staging k2).got

/-- A piece with its hash is written, and noted. -/
def State.pieceTaken (s : State) (k2 : Bool) (i : Nat) (data : List W32) : State :=
  (s.writePage s.spare (piecePage k2 (hdrHl (s.staging k2).header) i) data).modStaging k2 fun x =>
    { x with got := x.got ++ [i]
             st := if x.got.length + 1 = 8 + hdrHl (s.staging k2).header + hdrPieces (s.staging k2).header then .checking else x.st }

/-- A piece without its hash is counted, and told the 64th time. -/
def State.pieceRefused (s : State) (k2 : Bool) : State :=
  let x := s.modStaging k2 fun x => { x with bad := x.bad + 1 }
  if (s.staging k2).bad + 1 = 64 then x.raise .updatePieceBad [kindNum k2, 64] else x

theorem State.takePiece_due {s : State} {k2 : Bool} {i : Nat} (h : PieceDue s k2 i) (c : Caller) (data : List W32) :
    s.takePiece c k2 i data = if sha384 data ≠ s.pieceHash k2 i then (s.pieceRefused k2).reply c 3
      else (s.pieceTaken k2 i data).reply c 0 [(s.staging k2).got.length + 1] := by
  obtain ⟨hst, hlt, hnew, hhash⟩ := h
  have hany : ((hashPiece (hdrHl (s.staging k2).header) i).any fun k => !(s.staging k2).got.contains k) = false := by
    cases hp : hashPiece (hdrHl (s.staging k2).header) i with
    | none => rfl
    | some k => simpa using hhash k hp
  unfold State.takePiece
  extract_lets x hl all
  rw [if_neg (by simp [x, hst]), if_neg (Nat.not_le.mpr hlt), if_neg (by simpa [x] using hnew), if_neg (by rw [hany]; decide)]
  rfl

theorem State.opPiece_beyond {s : State} {k2 : Bool} {piece : Nat} (hk : k2 = decide (32768 ≤ piece)) (hi : 8 ≤ piece % 32768)
    (c : Caller) (data : List W32) (ok : Bool) : s.opPiece c piece data ok = s.takePiece c k2 (piece % 32768) data := by
  subst hk
  exact if_pos hi

theorem State.pieceTaken_spec (s : State) (k2 : Bool) (i : Nat) {data : List W32} (hd : data.length = 1024) :
    ((s.pieceTaken k2 i data).flash.bank (otherBank s.startup.bank)).page (piecePage k2 (hdrHl (s.staging k2).header) i) = data ∧
    (∀ p, p ≠ piecePage k2 (hdrHl (s.staging k2).header) i →
      ((s.pieceTaken k2 i data).flash.bank (otherBank s.startup.bank)).page p = (s.flash.bank (otherBank s.startup.bank)).page p) ∧
    (s.pieceTaken k2 i data).flash.bank s.startup.bank = s.flash.bank s.startup.bank ∧
    ((s.pieceTaken k2 i data).staging k2).got = (s.staging k2).got ++ [i] := by
  have hflash : (s.pieceTaken k2 i data).flash =
      (s.writePage s.spare (piecePage k2 (hdrHl (s.staging k2).header) i) data).flash := (State.modStaging_chg ..).flash rfl
  have hbank := s.bank_writePage (otherBank s.startup.bank) (piecePage k2 (hdrHl (s.staging k2).header) i) data
  have hspare : s.spare = otherBank s.startup.bank := rfl
  rw [hflash, hspare, hbank]
  refine ⟨?_, fun p hp => ?_, s.writePage_bank_ne (otherBank_ne _) .., ?_⟩
  · rw [Flash.page_write, if_pos rfl, wholePage_of_length hd]
  · rw [Flash.page_write, if_neg hp]
  · rw [State.pieceTaken, State.staging_modStaging_same]
    rfl

theorem State.pieceTaken_chg (s : State) (k2 : Bool) (i : Nat) (data : List W32) :
    Chg [.flash, .update] s (s.pieceTaken k2 i data) :=
  ((State.writePage_chg ..).widen rfl).trans ((State.modStaging_chg ..).widen rfl)

theorem State.pieceRefused_chg (s : State) (k2 : Bool) : Chg [.update, .port] s (s.pieceRefused k2) :=
  .ite (((State.modStaging_chg ..).widen rfl).trans ((State.raise_chg ..).widen rfl)) ((State.modStaging_chg ..).widen rfl)

/-! Disarming. -/

theorem State.plugIn_update {s : State} (h : s.update.armed = none) (o : Nat) : (s.plugIn o).update = s.update := by
  have hnotQuiet {x : State} (hx : x.update = s.update) : x.notQuiet.update = s.update := by
    simp [State.notQuiet, hx, h]
  unfold State.plugIn
  split
  · rfl
  · split
    · split
      · split <;> rfl
      · extract_lets taken credited raised
        have hcredited : credited.update = s.update := by
          unfold credited
          split
          · exact (State.plugCredit_chg ..).update rfl
          · rfl
        exact hnotQuiet (x := raised) hcredited
    · split <;> rfl

theorem State.disarm_update {s : State} (h : s.update.armed.isSome = true) (cause : Nat) :
    (s.disarm cause).update = { s.update with armed := none } := by
  have hfold (l : List Nat) (x : State) (hx : x.update.armed = none) : (l.foldl (fun s i =>
      if (s.outletDisp (i + 1)).waiting then s.plugIn (i + 1) else s) x).update = x.update := by
    induction l generalizing x with
    | nil => rfl
    | cons i l ih =>
      rw [List.foldl_cons]
      split
      · rw [ih _ (x.plugIn_armed hx _), x.plugIn_update hx]
      · exact ih x hx
  unfold State.disarm
  rw [if_neg (by cases ha : s.update.armed <;> simp_all)]
  exact hfold _ _ rfl

theorem State.disarm_none {s : State} (h : s.update.armed = none) (cause : Nat) : s.disarm cause = s := by
  unfold State.disarm
  rw [if_pos (by rw [h]; rfl)]

/-- What an UPDATE_PIECE that is served submits (R97, R98). -/
theorem exec_updatePiece {s z : State} {t piece : Nat} {c : ConnNo} {k : Conn} {data : List W32} {ok : Bool} (hz : z = s.advance t)
    (hk : z.port.conns[c] = some k) (hslots : k.slots.length < 16) (hmode : z.startup.mode = .service)
    (hrole : k.role = .operator ∨ k.role = .service ∨ k.role = .vendor) (hlen : data.length = 1024) (hpiece : piece < 65536) :
    exec (.updatePiece t c piece data ok) s = .next ((z.asked c).submit (.op true c k.role k.addr (.updatePiece piece data ok))
      fun y => y.opPiece (callerOf true c k.role k.addr) piece data ok) := by
  have hright : ¬ (z.rightsRec.isSome && !(k.role = .operator || k.role = .service || k.role = .vendor)) = true := by
    rcases hrole with h | h | h <;> simp [h]
  show execUpdatePiece t c piece data ok s = _
  unfold execUpdatePiece
  rw [← hz]
  simp only [State.op_of_served hk hslots (serves := fun m => m = .refused || m = .held || m = .service) (by rw [hmode]; rfl)]
  rw [if_neg hright, if_neg (by simp [hlen]; omega)]
  rfl

/-- Settles O20: packages are staged piece by piece, checked and aborted. -/
theorem packagesAreStaged : Obligations.PackagesAreStaged := by
  unfold Obligations.PackagesAreStaged
  refine ⟨?_, ?_, ?_, ?_, ?_, ?_⟩
  · intro s z t c k piece data k2 ok hz hk hslots hmode hrole hlen hpiece halone hk2 hi hst hlt hnew hhash hsha
    have hexec := exec_updatePiece (ok := ok) hz hk (by simp [hslots]) hmode hrole hlen hpiece
    have hsha' : sha384 data = (z.asked c).pieceHash k2 (piece % 32768) := hsha
    rw [State.submit_alone (s := z.asked c) halone, State.opPiece_beyond hk2 hi,
      State.takePiece_due (s := z.asked c) ⟨hst, hlt, hnew, hhash⟩, if_neg (not_not_intro hsha')] at hexec
    have hchg := Chg.of_exec (execUpdatePiece_chg t c piece data ok s) hexec
    rw [← hz] at hchg
    obtain ⟨hpage, hpages, hbank, hgot⟩ := (z.asked c).pieceTaken_spec k2 (piece % 32768) hlen
    have hreply := State.reply_chg ((z.asked c).pieceTaken k2 (piece % 32768) data) (callerOf true c k.role k.addr) 0
      [((z.asked c).staging k2).got.length + 1]
    have hwaits : ((z.asked c).pieceTaken k2 (piece % 32768) data).waits c = [.pending] := by
      rw [((z.asked c).pieceTaken_chg ..).waits rfl]
      exact State.waits_asked hk (by rw [State.waits_of_conn hk, hslots])
    refine ⟨_, hexec, ?_, fun p hp => ?_, ?_, ?_, State.res_reply rfl hwaits _ _, .of_chg hchg (by decide)⟩
    · rw [hreply.flash rfl]
      exact hpage
    · rw [hreply.flash rfl]
      exact hpages p hp
    · rw [hreply.flash rfl]
      exact hbank
    · rw [State.staging_of_update (hreply.update rfl)]
      exact hgot
  · intro s z t c k piece data ok hz hk hslots hmode hrole hlen hpiece hholds
    have hexec := exec_updatePiece (ok := ok) hz hk hslots hmode hrole hlen hpiece
    exact ⟨_, hexec, State.submit_holds (s := z.asked c) hholds _ _⟩
  · intro here c role addr piece data k2 ok
    refine .of_apply fun z tick stamp hH => ?_
    obtain ⟨hk2, hi, hst, hlt, hnew, hhash, hlen, hsha⟩ := hH
    have happly : z.applyInput tick stamp (.op here c role addr (.updatePiece piece data ok)) =
        (z.pieceTaken k2 (piece % 32768) data).reply (callerOf here c role addr) 0 [(z.staging k2).got.length + 1] := by
      show z.opPiece (callerOf here c role addr) piece data ok = _
      rw [State.opPiece_beyond hk2 hi, State.takePiece_due ⟨hst, hlt, hnew, hhash⟩, if_neg (not_not_intro hsha)]
    rw [happly]
    obtain ⟨hpage, hpages, hbank, hgot⟩ := z.pieceTaken_spec k2 (piece % 32768) hlen
    have htaken := z.pieceTaken_chg k2 (piece % 32768) data
    have hreply := State.reply_chg (z.pieceTaken k2 (piece % 32768) data) (callerOf here c role addr) 0 [(z.staging k2).got.length + 1]
    have hchg : Chg [.flash, .update, .port] z _ := (htaken.widen rfl).trans (hreply.widen rfl)
    refine ⟨?_, fun p hp => ?_, ?_, ?_, fun hhere hw => ?_, .of_chg hchg (by decide)⟩
    · rw [hreply.flash rfl, hpage]
    · rw [hreply.flash rfl, hpages p hp]
    · rw [hreply.flash rfl, hbank]
    · rw [State.staging_of_update (hreply.update rfl), hgot]
    · exact State.res_reply (by rw [hhere]; rfl) ((htaken.waits rfl c).trans hw) _ _
  · intro here c role addr piece data k2 ok
    refine .of_apply fun z tick stamp hH => ?_
    obtain ⟨hk2, hi, hst, hlt, hnew, hhash, hsha⟩ := hH
    have happly : z.applyInput tick stamp (.op here c role addr (.updatePiece piece data ok)) =
        (z.pieceRefused k2).reply (callerOf here c role addr) 3 := by
      show z.opPiece (callerOf here c role addr) piece data ok = _
      rw [State.opPiece_beyond hk2 hi, State.takePiece_due ⟨hst, hlt, hnew, hhash⟩, if_pos hsha]
    rw [happly]
    have hreply := State.reply_chg (z.pieceRefused k2) (callerOf here c role addr) 3 []
    have hchg : Chg [.update, .port] z _ := (z.pieceRefused_chg k2).trans (hreply.widen rfl)
    have hstaging : ((z.pieceRefused k2).reply (callerOf here c role addr) 3).staging k2 =
        { z.staging k2 with bad := (z.staging k2).bad + 1 } := by
      rw [State.staging_of_update (hreply.update rfl), ← z.staging_modStaging_same k2 fun x => { x with bad := x.bad + 1 }]
      unfold State.pieceRefused
      extract_lets x
      split <;> rfl
    have hwaits : (z.pieceRefused k2).waits c = z.waits c := by
      have hmod := (State.modStaging_chg z k2 fun x => { x with bad := x.bad + 1 }).waits rfl c
      unfold State.pieceRefused
      extract_lets x
      split
      · rw [State.waits_raise]
        exact hmod
      · exact hmod
    exact ⟨by rw [hstaging], by rw [hstaging], fun hhere hw => State.res_reply (by rw [hhere]; rfl) (hwaits.trans hw) 3 [],
      .of_chg hchg (by decide)⟩
  · intro s z t k2 obs hz hst
    obtain ⟨u, hu, hchg⟩ := execUpdateCheckDone_chg t k2 obs s
    have hexec : exec (.updateCheckDone t k2 obs) s = .next u := hu
    unfold execUpdateCheckDone at hu
    rw [← hz] at hu hchg
    dsimp only at hu
    rw [if_neg (not_not_intro hst)] at hu
    cases hcode : z.stagedCode k2 obs with
    | none =>
      rw [hcode] at hu
      dsimp only at hu
      obtain rfl := Host.Outcome.next.inj hu
      exact ⟨_, hexec, fun _ => ⟨by rw [State.staging_raise, State.staging_modStaging_same], rfl⟩, fun h => absurd rfl h,
        by rw [State.staging_raise, State.staging_modStaging_other],
        .of_chg hchg (by decide)⟩
    | some code =>
      rw [hcode] at hu
      dsimp only at hu
      obtain rfl := Host.Outcome.next.inj hu
      exact ⟨_, hexec, nofun, fun _ => ⟨by rw [State.staging_raise, State.staging_modStaging_same], rfl⟩,
        by rw [State.staging_raise, State.staging_modStaging_other],
        .of_chg hchg (by decide)⟩
  · intro c k2
    refine .of_change (fun x s => s.opAbort x k2) (fun s t => rfl) (fun x arrival z => rfl) fun z v x hH => ?_
    obtain ⟨hst, harmed⟩ := hH
    let y := (z.withConns v).modStaging k2 fun x => { hdrPieces := x.hdrPieces }
    let w := y.raise .updateAbandoned [kindNum k2, hdrPkg (z.staging k2).header]
    have hlapse : (z.withConns v).lapse k2 = z.withConns v := by
      unfold State.lapse
      rw [show ((z.withConns v).staging k2).st = .receiving from hst]
      exact if_neg (by simp)
    have hdrop : (z.withConns v).abandon k2 = w := by
      unfold State.abandon
      rw [hlapse]
      exact if_neg (by simp [show ((z.withConns v).staging k2).st = .receiving from hst])
    have hop : (z.withConns v).opAbort x k2 = w.reply x 0 := by
      unfold State.opAbort
      rw [show ((z.withConns v).staging k2).st = .receiving from hst]
      show (((z.withConns v).abandon k2).disarm 4).reply x 0 = _
      rw [hdrop, State.disarm_none]
      show y.update.armed = none
      have harm : y.update.armed = z.update.armed := by cases k2 <;> rfl
      rw [harm, harmed]
    have hchg : Chg [.update, .port] z (w.reply x 0) := (((State.withConns_chg z v).widen rfl).trans
      ((State.modStaging_chg ..).widen rfl)).trans (((State.raise_chg ..).widen rfl).trans ((State.reply_chg ..).widen rfl))
    have hstaging (b : Bool) : (w.reply x 0).staging b = y.staging b := State.staging_of_update ((State.reply_chg ..).update rfl) b
    rw [hop]
    refine ⟨⟨?_, ?_, ?_, State.lastEv_reply .., .of_chg hchg (by decide)⟩, fun hx hw => State.res_reply (s := w) hx ?_ 0 []⟩
    · rw [hstaging, State.staging_modStaging_same]
    · rw [hstaging, State.staging_modStaging_same]
    · rw [hstaging, State.staging_modStaging_other]
      rfl
    · rw [State.waits_raise, (State.modStaging_chg ..).waits rfl]
      exact hw

/-! Arming and activation. -/

/-- A module armed anew, and told. -/
def State.armedNow (s : State) (m d : Nat) : State :=
  (s.modUpdate fun u => { u with armed := some { deadline := s.time.clock + m * 60 * ticksPerSec, drain := d = 1 } }).raise
    .activationArmed [m, d]

theorem State.opArm_in_range {s : State} {m d : Nat} (h1 : 1 ≤ m) (h2 : m ≤ 10080) (hd : d ≤ 1) (c : Caller) :
    s.opArm c m d = if s.armRefused then s.reply c 4 else (s.armedNow m d).reply c 0 :=
  if_neg (by simp; omega)

theorem State.blowFuse_update (s : State) :
    s.blowFuse.update = { s.update with fuse := max s.update.fuse (hdrRollback s.activeManifest) } := by
  unfold State.blowFuse
  extract_lets r
  split
  next h =>
    rw [Nat.max_eq_right (Nat.le_of_lt h)]
    rfl
  next h => rw [Nat.max_eq_left (Nat.not_lt.mp h)]

/-- The logic die starts again from `x` (R483, R692). -/
def State.startsAgain (x : State) (now : Nat) : State :=
  ((x.logicReset.modSafety fun y => { y with resetUntil := some now }).react).refreshLs

theorem State.startsAgain_spec (x : State) (now : Nat) : (x.startsAgain now).startup.bank = x.startup.bank ∧
    (x.startsAgain now).startup.mode = .off ∧ (x.startsAgain now).update = x.update.reset x.time.clock ∧
    (x.startsAgain now).carousel = {} ∧ (x.startsAgain now).safety.resetUntil = some now := by
  have hl := State.refreshLs_chg ((x.logicReset.modSafety fun y => { y with resetUntil := some now }).react)
  have hr := State.react_chg (x.logicReset.modSafety fun y => { y with resetUntil := some now })
  unfold State.startsAgain
  rw [hl.startup rfl, hr.startup rfl, hl.update rfl, hr.update rfl, hl.carousel rfl, hr.carousel rfl, hl.safety rfl,
    State.react_resetUntil]
  exact ⟨rfl, rfl, rfl, rfl, rfl⟩

/-- The restart at the end of a trial. -/
theorem State.restartHeld_spec (s : State) : s.restartHeld.startup.bank = s.startup.bank ∧ s.restartHeld.startup.mode = .off ∧
    s.restartHeld.update = s.update.reset s.time.clock ∧ s.restartHeld.carousel = {} ∧
    s.restartHeld.safety.resetUntil = some s.time.clock := by
  have hx : ∃ (x : State) (L : List Part), Chg L s x ∧ L.contains .startup = false ∧ L.contains .update = false ∧
      L.contains .time = false ∧ s.restartHeld = x.startsAgain x.time.clock := by
    unfold State.restartHeld
    split
    · obtain ⟨x, hx, heq⟩ := s.restart_eq
      refine ⟨x, _, hx, rfl, rfl, rfl, ?_⟩
      rw [heq, hx.time rfl]
      rfl
    · have hdrives : Chg [.drives, .supply] s ((s.restartDrives true).regsOff true) :=
        ((State.restartDrives_chg ..).widen rfl).trans ((State.regsOff_chg ..).widen rfl)
      exact ⟨_, _, hdrives, rfl, rfl, rfl, rfl⟩
  obtain ⟨x, L, hchg, hstart, hupd, htime, heq⟩ := hx
  obtain ⟨hbank, hmode, hupdate, hcar, hreset⟩ := x.startsAgain_spec x.time.clock
  rw [heq, hbank, hmode, hupdate, hcar, hreset, hchg.startup hstart, hchg.update hupd, hchg.time htime]
  exact ⟨rfl, rfl, rfl, rfl, rfl⟩

/-- LEGAL_RELEASE is an operation on an object that an FP-6400-N does not have (R386). -/
theorem exec_legalRelease (s : State) (t : Nat) (c : ConnNo) (h v : Nat) : exec (.legalRelease t c h v) s =
    .next ((s.advance t).change c (dev 146 4 0) .execute (.legalRelease h v) fun x s => s.opLegal x h v) := by
  show execLegalRelease t c h v s = _
  unfold execLegalRelease
  simp only
  split
  next hn =>
    have habsent : (s.advance t).absent (dev 146 4 0) = true := by
      unfold State.absent
      rw [hn]
      rfl
    refine congrArg Host.Outcome.next ?_
    unfold State.guarded State.change State.op
    simp only [habsent, if_true]
  · rfl

theorem WaitsKept.waitAt (s : State) (o : Nat) : WaitsKept s (if (s.outletDisp o).waiting then s else
    (s.modDisp o fun d => { d with waiting := true }).raise .plugWait [o]) :=
  .ite (.refl s) ((WaitsKept.of_chg (State.modDisp_chg ..) rfl).trans (.raise ..))

theorem WaitsKept.plugIn (s : State) (o : Nat) : WaitsKept s (s.plugIn o) := by
  unfold State.plugIn
  split
  · exact .refl s
  · split
    next c _ =>
      split
      · exact .waitAt s o
      · extract_lets x y w
        have hx : WaitsKept s x := (WaitsKept.of_chg (State.modDisp_chg ..) rfl).trans (.of_chg (State.modCtx_chg ..) rfl)
        have hy : WaitsKept x y := .ite (.of_chg (State.plugCredit_chg ..) rfl) (.of_chg (State.modTok_chg ..) rfl)
        have hw : WaitsKept y w := .of_chg (State.modJug_chg ..) rfl
        exact ((hx.trans hy).trans hw).trans ((WaitsKept.of_chg (State.notQuiet_chg w) rfl).trans (.raise ..))
    · exact .waitAt s o

theorem WaitsKept.disarm (s : State) (cause : Nat) : WaitsKept s (s.disarm cause) := by
  unfold State.disarm
  extract_lets x
  have hx : WaitsKept s x := (WaitsKept.of_chg (State.modUpdate_chg ..) rfl).trans (.raise ..)
  exact .ite (.refl s) (hx.trans (.foldl _ (fun y i => .ite (.plugIn ..) (.refl y)) _ _))

theorem WaitsKept.blowFuse (s : State) : WaitsKept s s.blowFuse :=
  .ite ((WaitsKept.of_chg (State.modUpdate_chg ..) rfl).trans (.raise ..)) (.refl s)

/-- The end of a trial (R691). -/
theorem State.finishTrial_spec (s : State) (old : BankId) : (s.finishTrial old).update.trial = none ∧
    (s.finishTrial old).update.fw = {} ∧ (s.finishTrial old).update.img = {} ∧ (s.finishTrial old).update.inactiveValid = true ∧
    (s.finishTrial old).update.release = none ∧ ((s.finishTrial old).update.log.head?.map (·.result)) = some 0 := by
  unfold State.finishTrial
  extract_lets mOld mNew a b c d p6 h e
  have hlog : e.update = a.update := by
    have hc : Chg [.port] b c := .foldl _ _ (.refl ..) fun y n => State.raise_chg ..
    have hd : Chg [.port, .tamper] c d := .ite (State.countTamper_chg ..) (.refl ..)
    have he : Chg [.scribe] d e := by
      unfold e
      split
      · exact .ite ((State.modScribe_chg ..).trans (State.metLogAdd_chg ..)) (.refl ..)
      · exact .refl ..
    rw [he.update rfl, hd.update rfl, hc.update rfl]
    rfl
  refine ⟨rfl, rfl, rfl, rfl, rfl, ?_⟩
  show e.update.log.head?.map (·.result) = _
  rw [hlog]
  rfl

/-- What a reverted trial restarts from (R692). -/
def State.trialReverted (s : State) (old : BankId) (module_ : Nat) : State :=
  let x := s.logActivation 1
  let y := x.modUpdate fun u =>
    { u with
      trial := none, trialPartner := none, trialKinds := (false, false), revertDue := some (module_, x.stepReached), release := none
      fw := if u.fw.st = .ready then {} else u.fw, img := if u.img.st = .ready then {} else u.img }
  { y with startup := { y.startup with bank := old } }

/-- Settles O21: a package is armed and activated, its trial ends, and fuse and release follow. -/
theorem armingAndActivation : Obligations.ArmingAndActivation := by
  unfold Obligations.ArmingAndActivation
  refine ⟨?_, ?_, ?_, ?_, ?_, ?_, ?_, ?_, ?_, ?_, ?_, ?_⟩
  · intro c m d
    refine .of_change (fun x s => s.opArm x m d) (fun s t => rfl) (fun x arrival z => rfl) fun z v x hH => ?_
    obtain ⟨h1, h2, hd, href⟩ := hH
    have hop : (z.withConns v).opArm x m d = ((z.withConns v).armedNow m d).reply x 0 := by
      rw [State.opArm_in_range h1 h2 hd, show (z.withConns v).armRefused = false from href]
      rfl
    have hchg : Chg [.port, .update] z _ := ((State.withConns_chg z v).widen rfl).trans
      ((State.opArm_chg (z.withConns v) x m d).widen rfl)
    rw [hop] at hchg ⊢
    refine ⟨⟨?_, State.lastEv_reply .., .of_chg hchg (by decide)⟩, fun hx hw => State.res_reply hx ?_ 0 []⟩
    · rw [(State.reply_chg ..).update rfl]
      have hdeadline : m * 60 * ticksPerSec = m * 24000000000 := by
        rw [ticksPerSec, Nat.mul_assoc]
      show { z.update with armed := some { deadline := z.time.clock + m * 60 * ticksPerSec, drain := decide (d = 1) } } = _
      rw [hdeadline]
    · rw [State.armedNow, State.waits_raise, (State.modUpdate_chg ..).waits rfl]
      exact hw
  · intro c m d
    refine .of_change (fun x s => s.opArm x m d) (fun s t => rfl) (fun x arrival z => rfl) fun z v x hH => ?_
    obtain ⟨h1, h2, hd, href⟩ := hH
    have hop : (z.withConns v).opArm x m d = (z.withConns v).reply x 4 := by
      rw [State.opArm_in_range h1 h2 hd, show (z.withConns v).armRefused = true from href]
      rfl
    have hchg : Chg [.port] z ((z.withConns v).reply x 4) := (State.withConns_chg z v).trans (State.reply_chg ..)
    rw [hop]
    exact ⟨⟨hchg.update rfl, .of_chg hchg (by decide)⟩, fun hx hw => State.res_reply hx hw 4 []⟩
  · intro c
    refine .of_change (fun x s => s.opDisarm x) (fun s t => rfl) (fun x arrival z => rfl) fun z v x harmed => ?_
    have hop : (z.withConns v).opDisarm x = ((z.withConns v).disarm 0).reply x 0 := by
      unfold State.opDisarm
      have hsome : (z.withConns v).update.armed.isNone = false := by
        rw [← Option.not_isSome, show (z.withConns v).update.armed = z.update.armed from rfl, harmed]
        rfl
      exact if_neg (by rw [hsome]; decide)
    have hchg : Chg [.juggler, .barker, .scribe, .update, .port, .tokens] z _ := ((State.withConns_chg z v).widen rfl).trans
      (State.opDisarm_chg (z.withConns v) x)
    rw [hop] at hchg ⊢
    refine ⟨⟨?_, .of_chg hchg (by decide)⟩, fun hx hw => State.res_reply hx ?_ 0 []⟩
    · rw [(State.reply_chg ..).update rfl]
      exact (z.withConns v).disarm_update harmed 0
    · exact ((WaitsKept.disarm (z.withConns v) 0).waits c).trans hw
  · intro s z t a obs hz harmed
    obtain ⟨u, hu, hchg⟩ := execArmPrepareDone_chg t none obs s
    have hexec : exec (.armPrepareDone t none obs) s = .next u := hu
    unfold execArmPrepareDone at hu
    rw [← hz] at hu hchg
    dsimp only at hu
    simp only [harmed] at hu
    have hspare : z.prepare.spare = otherBank z.startup.bank := rfl
    have hbank := z.prepare_flashKept.bank
    have harm : z.prepare.update = z.update := z.prepare_chg.update rfl
    rw [hspare] at hu
    by_cases hpass : (z.prepare.bankGood (otherBank z.startup.bank) obs .ring &&
        (z.prepare.checkBank (otherBank z.startup.bank) obs).isOk) = true
    · rw [if_pos hpass] at hu
      obtain rfl := Host.Outcome.next.inj hu
      exact ⟨_, hexec, (if_pos hpass).symm, hbank, .of_chg hchg (by decide)⟩
    · rw [if_neg hpass] at hu
      obtain rfl := Host.Outcome.next.inj hu
      refine ⟨_, hexec, ?_, ?_, .of_chg hchg (by decide)⟩
      · rw [if_neg hpass, State.disarm_update (by rw [harm, harmed]; rfl)]
      · rw [(State.disarm_chg ..).flash rfl, hbank]
  · intro s z t a pass obs hz harmed
    obtain ⟨u, hu, hchg⟩ := execArmPrepareDone_chg t (some pass) obs s
    have hexec : exec (.armPrepareDone t (some pass) obs) s = .next u := hu
    unfold execArmPrepareDone at hu
    rw [← hz] at hu hchg
    dsimp only at hu
    simp only [harmed] at hu
    cases pass with
    | true =>
      obtain rfl := Host.Outcome.next.inj hu
      exact ⟨_, hexec, rfl, rfl, .of_chg hchg (by decide)⟩
    | false =>
      obtain rfl := Host.Outcome.next.inj hu
      exact ⟨_, hexec, congrArg Update.armed (z.disarm_update (by rw [harmed]; rfl) 2), (z.disarm_chg 2).flash rfl,
        .of_chg hchg (by decide)⟩
  · intro a
    refine Input.of_submit (·.passDeadline) (fun s z t hz hg => ?_) (fun z tick stamp => rfl) ?_
    · obtain ⟨harmed, hlate, hnone, hcoming, harc⟩ := hg
      show execActivationDeadline t s = _
      unfold execActivationDeadline
      rw [← hz]
      simp only [harmed]
      exact congrArg Host.Outcome.next (if_pos (by simp [hlate, hnone, hcoming, harc]))
    · intro z ⟨harmed, hnone⟩
      have hpass : z.passDeadline = z.disarm 3 := by
        unfold State.passDeadline
        simp only [harmed]
        exact if_pos (by rw [hnone]; rfl)
      rw [hpass]
      exact ⟨z.disarm_update (by rw [harmed]; rfl) 3, .of_chg (z.disarm_chg 3) (by decide)⟩
  · intro s z t old hz htrial hdone hpaired
    have hexec : exec (.activationDone t false) s = .next (z.finishTrial old) := by
      show execActivationDone t false s = _
      unfold execActivationDone
      rw [← hz]
      simp only [htrial, Bool.false_eq_true, if_false]
      exact congrArg Host.Outcome.next (if_pos (by simp [hdone, hpaired]))
    have hchg := Chg.of_exec (execActivationDone_chg t false s) hexec
    rw [← hz] at hchg
    obtain ⟨h1, h2, h3, h4, h5, h6⟩ := z.finishTrial_spec old
    exact ⟨_, hexec, h1, h2, h3, h4, h5, h6, .of_chg hchg (by decide)⟩
  · intro s z t old hz htrial
    have hexec : exec (.activationReverted t true) s = .next (z.revertTrial old 1) := by
      show execActivationReverted t true s = _
      unfold execActivationReverted
      rw [← hz]
      simp only [htrial]
      rfl
    have hchg := Chg.of_exec (execActivationReverted_chg t true s) hexec
    rw [← hz] at hchg
    obtain ⟨hbank, hmode, hupdate, hcar, hreset⟩ := (z.trialReverted old 1).restartHeld_spec
    exact ⟨_, hexec, hbank, hmode, congrArg Update.trial hupdate, hcar, hreset, congrArg (fun u => u.log.head?.map (·.result)) hupdate,
      .of_chg hchg (by decide)⟩
  · intro s z t hz hmode hserved hfuse
    have hexec : exec (.rollbackAdvanced t) s = .next z.blowFuse := by
      show execRollbackAdvanced t s = _
      unfold execRollbackAdvanced
      rw [← hz]
      have hserved' : 7 * 86400 * ticksPerSec ≤ z.servedTicks := hserved
      exact congrArg Host.Outcome.next (if_pos (by simp [hmode, hserved']))
    have hblow : z.blowFuse = (z.modUpdate fun u => { u with fuse := hdrRollback z.activeManifest }).raise .rollbackAdvanced
        [hdrRollback z.activeManifest] := if_pos hfuse
    have hchg := hblow ▸ z.blowFuse_chg
    rw [hblow] at hexec
    exact ⟨_, hexec, rfl, rfl, .of_chg hchg (by decide)⟩
  · intro c
    refine .of_change (fun x s => s.opRollback x) (fun s t => rfl) (fun x arrival z => rfl) fun z v x _ => ?_
    have hchg : Chg [.update, .port] z ((z.withConns v).opRollback x) := ((State.withConns_chg z v).widen rfl).trans
      (State.opRollback_chg (z.withConns v) x)
    refine ⟨⟨?_, .of_chg hchg (by decide)⟩, fun hx hw => State.res_reply hx ?_ 0 []⟩
    · rw [State.opRollback, (State.reply_chg ..).update rfl]
      exact (z.withConns v).blowFuse_update
    · exact ((WaitsKept.blowFuse (z.withConns v)).waits c).trans hw
  · intro c h v
    refine .of_change (fun x s => s.opLegal x h v) (fun s t => exec_legalRelease s t c h v) (fun x arrival z => rfl)
      fun z w x hH => ?_
    obtain ⟨hst, hhash, hver⟩ := hH
    let y := ((z.withConns w).modUpdate fun u => { u with release := some (h, v) }).metLogAdd .scribePart (some x.role) h v
    let r := y.raise .legalRelease [v, (h / 2 ^ 320 : Nat)]
    have hop : (z.withConns w).opLegal x h v = r.reply x 0 := by
      unfold State.opLegal
      have hst' : (z.withConns w).update.fw.st = .ready := hst
      have hvals : ¬ (h ≠ hdrPartHash (z.withConns w).update.fw.header 6 || v ≠ hdrLegal (z.withConns w).update.fw.header) = true := by
        rw [show (z.withConns w).update = z.update from rfl]
        simp [hhash, hver]
      exact (if_neg (not_not_intro hst')).trans (if_neg hvals)
    have hlog : Chg [.scribe] ((z.withConns w).modUpdate fun u => { u with release := some (h, v) }) y := State.metLogAdd_chg ..
    have hchg : Chg [.port, .scribe, .update] z _ := ((State.withConns_chg z w).widen rfl).trans
      ((State.opLegal_chg (z.withConns w) x h v).widen rfl)
    rw [hop] at hchg ⊢
    refine ⟨⟨?_, State.lastEv_reply .., .of_chg hchg (by decide)⟩, fun hx hw => State.res_reply (s := r) hx ?_ 0 []⟩
    · rw [(State.reply_chg ..).update rfl, show r.update = y.update from rfl, hlog.update rfl]
      rfl
    · rw [State.waits_raise, hlog.waits rfl, (State.modUpdate_chg ..).waits rfl]
      exact hw
  · intro s z t c k h v hz hk hslots hmode hn
    have habsent : z.absent (dev 146 4 0) = true := by
      unfold State.absent
      rw [hn]
      rfl
    have hexec : exec (.legalRelease t c h v) s = .next (z.answer c 2) := by
      rw [exec_legalRelease, ← hz]
      unfold State.change
      rw [State.op_of_served hk hslots (by rw [hmode]; rfl), if_pos habsent]
    exact ⟨_, hexec, State.conns_answer hk 2 [], .of_chg (State.answer_chg ..) (by decide)⟩

end Sys2Proof.Machine
end

section
/-!
Proofs of the statement about memory scrubs and nib self-tests (chapter 4).
-/
namespace Sys2Proof.Machine
open Sys2Proof Sys2Proof.Config

/-! The Inkwell (R138 to R141). -/

/-- The scrubber's pass over the lines changes neither the counts nor the marks. -/
theorem State.scrubbed_spec (s : State) (addr : Nat) : (s.scrubbed addr).array.corrections = s.array.corrections ∧
    (s.scrubbed addr).array.poisoned = s.array.poisoned ∧ (s.scrubbed addr).lastEv = s.lastEv := by
  unfold State.scrubbed
  extract_lets bank line lines
  split
  · exact ⟨rfl, rfl, rfl⟩
  · split <;> exact ⟨rfl, rfl, rfl⟩

/-- A word read by the scrubber, before what it finds is acted on. -/
def State.wordRead (s : State) (addr : Nat) : State := s.modArr fun a => { a with reread := a.reread.erase addr }

/-- What the scrubber does with a word that no task writes in this tick (R138, R140). -/
def State.wordScrubbed (s : State) (addr : Nat) (obs : ScrubObs) : State :=
  match obs, s.array.poisoned.contains (addr / 8 * 8) with
  | .double, _ | _, true => s.poisonWord addr true
  | .single, false => s.correct addr
  | .clean, false => s

theorem exec_inkwellScrub {s z : State} {t a : Nat} {obs : ScrubObs} (hz : z = s.advance t) (ha : a < 0x1800000)
    (hw : z.array.written.1 ≠ z.tick) :
    exec (.inkwellScrub t a obs) s = .next (((z.wordRead a).wordScrubbed a obs).scrubbed a) := by
  show execInkwellScrub t a obs s = _
  unfold execInkwellScrub
  rw [← hz]
  have hin : ¬ inkwellBytes ≤ a := Nat.not_le.mpr ha
  exact congrArg Host.Outcome.next ((if_neg hin).trans (if_neg (by simp [hw])))

/-! The LPDDR5X memory (R143). -/

/-- What the scrubber does with a block. -/
def State.blockRead (s : State) (c : Fin 2) (b : Nat) (obs : ScrubObs) : State :=
  match obs, s.array.dramPoisoned.contains (c.val, b) with
  | .double, _ => (s.poisonBlock c b).poisonNodes
  | .single, false => s.correctBlock
  | _, _ => s

/-- The pass goes on past block `n`, or ends with it. -/
def State.passedBlock (s : State) (n : Nat) : State :=
  if s.array.dramNext ≠ n then s
  else if n + 1 = 2 * dramBlocks then (s.modArr fun a => { a with dramNext := 0, dramPass := s.tick }).selfTest 2 true
  else s.modArr fun a => { a with dramNext := n + 1 }

theorem State.passedBlock_spec (s : State) (n : Nat) : (s.passedBlock n).array.dramCorrections = s.array.dramCorrections ∧
    (s.passedBlock n).array.dramPoisoned = s.array.dramPoisoned := by
  unfold State.passedBlock
  split
  · exact ⟨rfl, rfl⟩
  · split <;> exact ⟨rfl, rfl⟩

theorem exec_dramScrub {s z : State} {t b : Nat} {c : Fin 2} {obs : ScrubObs} (hz : z = s.advance t) (hb : b < dramBlocks) :
    exec (.dramScrub t c b obs) s = .next ((z.blockRead c b obs).passedBlock (c.val * dramBlocks + b)) := by
  show execDramScrub t c b obs s = _
  unfold execDramScrub
  rw [← hz]
  exact congrArg Host.Outcome.next (if_neg (Nat.not_le.mpr hb))

/-! The nibs under test (R146). -/

theorem Array_.nextTest_of_fresh {a : Array_} (hfresh : ∀ m : NibNo, a.nibs[m] = {}) {n : NibNo} (hn : a.bistNext = n.val) :
    a.nextTest = some n.val := by
  have hnib (i : Nat) : vget a.nibs i {} = {} := by
    by_cases hi : i < 256
    · exact (vget_of_lt _ _ _ hi).trans (hfresh ⟨i, hi⟩)
    · exact vget_of_ge _ _ _ (Nat.le_of_not_lt hi)
  unfold Array_.nextTest
  simp only [hnib, hn]
  have hnone : (List.range 256).find? (fun _ => !(({} : Nib).fenced) && ({} : Nib).testDue) = none := List.find?_eq_none.mpr (by simp)
  rw [hnone]
  have hrange : List.range 256 = 0 :: (List.range 255).map Nat.succ := List.range_succ_eq_map
  rw [Option.orElse_none, hrange, List.map_cons, List.find?_cons_of_pos (by rfl), Nat.add_zero, Nat.mod_eq_of_lt n.isLt]

theorem Array_.any_of_fresh {a : Array_} (hfresh : ∀ m : NibNo, a.nibs[m] = {}) {p : Nib → Bool} (hp : p {} = false) :
    a.nibs.toList.any p = false := by
  rw [List.any_eq_false]
  intro x hx
  obtain ⟨i, hi, rfl⟩ := Vector.mem_iff_getElem.mp (Vector.mem_toList_iff.mp hx)
  rw [show a.nibs[i] = {} from hfresh ⟨i, hi⟩, hp]
  decide

/-- A nib that fails its test is fenced. -/
theorem State.fence_of_free {s : State} {n : NibNo} (h : (s.array.nibs[n]).act = .free) (cause : Int) :
    ((s.fence n cause).array.nibs[n]).fenced = true ∧ ((s.fence n cause).array.nibs[n]).act = .free ∧
    ((s.fence n cause).array.nibs[n]).lastTest = (s.array.nibs[n]).lastTest ∧
    ∀ m : NibNo, m ≠ n → (s.fence n cause).array.nibs[m] = s.array.nibs[m] := by
  unfold State.fence
  extract_lets act x count y
  have hstop : s.stopRun n .free = s.modNib n fun x => { x with act := .free } := by
    unfold State.stopRun
    rw [h]
  have hy : y.array = x.array := by
    unfold y
    split
    · rfl
    · split
      · exact (State.degrade_chg ..).array rfl
      · rfl
  have hx : x.array.nibs = vmod (vmod s.array.nibs n fun x => { x with act := .free }) n fun x =>
      { x with fenced := true, test := none, testDue := false } := by
    unfold x
    rw [hstop]
    rfl
  have hact : act = .free := h
  rw [hact]
  show (y.array.nibs[n]).fenced = true ∧ (y.array.nibs[n]).act = .free ∧ (y.array.nibs[n]).lastTest = _ ∧
    ∀ m : NibNo, m ≠ n → y.array.nibs[m] = _
  rw [hy, hx]
  refine ⟨?_, ?_, ?_, fun m hm => by rw [vmod_other _ hm, vmod_other _ hm]⟩
  · rw [vmod_same]
  · rw [vmod_same, vmod_same]
  · rw [vmod_same, vmod_same]

/-- A nib whose test has ended, with its result. -/
def State.nibTested (s : State) (n : NibNo) (pass : Bool) : State :=
  (s.modNib n fun x => { x with act := .free, lastTest := some (s.tick, pass) }).selfTest 0 pass

theorem State.nibTested_spec (s : State) (n : NibNo) (pass : Bool) :
    (s.nibTested n pass).array.nibs[n] = { s.array.nibs[n] with act := .free, lastTest := some (s.tick, pass) } ∧
    ∀ m : NibNo, m ≠ n → (s.nibTested n pass).array.nibs[m] = s.array.nibs[m] :=
  ⟨vmod_same .., fun _ hm => vmod_other _ hm _⟩

theorem exec_nibBistDone {s z : State} {t a : Nat} {n : NibNo} {pass : Bool} (hz : z = s.advance t)
    (hact : (z.array.nibs[n]).act = .testing a) : exec (.nibBistDone t n pass) s =
      .next (if pass then z.nibTested n pass else (z.nibTested n pass).fence n 0) := by
  show execNibBistDone t n pass s = _
  unfold execNibBistDone
  rw [← hz]
  simp only [hact]
  rfl

/-- Settles O25: the scrubbers count and poison, a write wins, and nibs are tested in turn. -/
theorem scrubsAndTests : Obligations.ScrubsAndTests := by
  unfold Obligations.ScrubsAndTests
  refine ⟨?_, ?_, ?_, ?_, ?_, ?_, ?_, ?_, ?_, ?_⟩
  · intro s z t a hz ha hw hclean
    have hexec := exec_inkwellScrub (obs := .single) hz ha hw
    have hchg := Chg.of_exec (execInkwellScrub_chg t a .single s) hexec
    rw [← hz] at hchg
    have hscrub : (z.wordRead a).wordScrubbed a .single = (z.wordRead a).correct a := by
      unfold State.wordScrubbed
      rw [show (z.wordRead a).array.poisoned.contains (a / 8 * 8) = false from hclean]
    obtain ⟨hcorr, hpois, -⟩ := ((z.wordRead a).wordScrubbed a .single).scrubbed_spec a
    refine ⟨_, hexec, ?_, ?_, .of_chg hchg (by decide)⟩
    · rw [hcorr, hscrub]
      have hbank : a / 393216 < 64 := by omega
      exact (vget_vmapIdx _ _ _ _ hbank).trans (if_pos rfl)
    · rw [hpois, hscrub]
      rfl
  · intro s z t a hz ha hw
    have hexec := exec_inkwellScrub (obs := .double) hz ha hw
    have hchg := Chg.of_exec (execInkwellScrub_chg t a .double s) hexec
    rw [← hz] at hchg
    obtain ⟨-, hpois, hlast⟩ := ((z.wordRead a).wordScrubbed a .double).scrubbed_spec a
    refine ⟨_, hexec, ?_, hlast, .of_chg hchg (by decide)⟩
    rw [hpois]
    exact List.mem_cons_self
  · intro s z t a obs r hz ha hw hlo hhi
    have hexec : exec (.inkwellScrub t a obs) s = .next (z.modArr fun x => { x with reread := x.reread ++ [a] }) := by
      show execInkwellScrub t a obs s = _
      unfold execInkwellScrub
      rw [← hz]
      have hin : ¬ inkwellBytes ≤ a := Nat.not_le.mpr ha
      exact congrArg Host.Outcome.next ((if_neg hin).trans (if_pos (by simp [hw, hlo, hhi])))
    exact ⟨_, hexec, rfl, .of_chg (State.modArr_chg ..) (by decide)⟩
  · intro s z t c b hz hb hclean
    have hexec := exec_dramScrub (c := c) (obs := .single) hz hb
    have hchg := Chg.of_exec (execDramScrub_chg t c b .single s) hexec
    rw [← hz] at hchg
    have hread : z.blockRead c b .single = z.correctBlock := by
      unfold State.blockRead
      rw [hclean]
    refine ⟨_, hexec, ?_, .of_chg hchg (by decide)⟩
    rw [(State.passedBlock_spec ..).1, hread]
    rfl
  · intro s z t c b hz hb
    have hexec := exec_dramScrub (c := c) (obs := .double) hz hb
    have hchg := Chg.of_exec (execDramScrub_chg t c b .double s) hexec
    rw [← hz] at hchg
    refine ⟨_, hexec, ?_, .of_chg hchg (by decide)⟩
    rw [(State.passedBlock_spec ..).2]
    show (c.val, b) ∈ ((z.poisonBlock c b).poisonNodes).array.dramPoisoned
    rw [(State.poisonNodes_chg ..).array rfl]
    exact List.mem_cons_self
  · intro s z t c b hz hb hnext
    have hexec := exec_dramScrub (c := c) (obs := .clean) hz hb
    have hread : z.blockRead c b .clean = z := by
      unfold State.blockRead
      split <;> simp_all
    rw [hread, State.passedBlock, if_neg (not_not_intro hnext)] at hexec
    by_cases hend : c.val * dramBlocks + b + 1 = 2 * dramBlocks
    · rw [if_pos hend] at hexec
      refine ⟨_, hexec, ?_, .of_chg (((State.modArr_chg ..).widen rfl).trans ((State.selfTest_chg ..).widen rfl) :
        Chg [.array, .pair] z _) (by decide)⟩
      rw [if_pos hend]
      exact ⟨rfl, rfl⟩
    · rw [if_neg hend] at hexec
      refine ⟨_, hexec, ?_, .of_chg (State.modArr_chg ..) (by decide)⟩
      rw [if_neg hend]
      exact ⟨rfl, rfl⟩
  · intro s z t n hz hnone hfresh hn
    have hexec : exec (.nibBistStart t) s = .next (z.modArr fun a => { a with
        bistAt := some z.time.clock
        bistNext := if (vget z.array.nibs n.val {}).testDue then a.bistNext else (n.val + 1) % 256
        nibs := vmapIdx (fun k x => if k = n.val then { x with act := .testing z.tick, testDue := false } else x) a.nibs }) := by
      show execNibBistStart t s = _
      unfold execNibBistStart
      rw [← hz]
      dsimp only
      rw [hnone, Array_.any_of_fresh hfresh, Array_.nextTest_of_fresh hfresh hn]
      · exact congrArg Host.Outcome.next (if_neg (by rw [vget_val, hfresh]; decide))
      · rfl
    have hnibs : vmapIdx (fun k (x : Nib) => if k = n.val then { x with act := .testing z.tick, testDue := false } else x)
        z.array.nibs = z.array.nibs.set n { act := .testing z.tick } := by
      refine Vector.ext fun i hi => ?_
      rw [vmapIdx_get, Vector.getElem_set, show z.array.nibs[i] = {} from hfresh ⟨i, hi⟩]
      by_cases hin : i = n.val
      · rw [if_pos hin, if_pos hin.symm]
      · rw [if_neg hin, if_neg (Ne.symm hin)]
    have hdue : (vget z.array.nibs n.val {}).testDue = false := by rw [vget_val, hfresh]
    rw [hdue] at hexec
    refine ⟨_, hexec, ?_, .of_chg (State.modArr_chg ..) (by decide)⟩
    rw [← hnibs]
    rfl
  · intro s z t b hz hbist hearly
    have hexec : exec (.nibBistStart t) s = .next z := by
      show execNibBistStart t s = _
      unfold execNibBistStart
      rw [← hz]
      have hdue : ¬ b + 39 * ticksPerMs ≤ z.time.clock := Nat.not_le.mpr hearly
      simp [hbist, hdue]
    exact ⟨z, hexec, rfl⟩
  · intro s z t n a hz hact
    have hexec := exec_nibBistDone (pass := true) hz hact
    obtain ⟨hnib, hothers⟩ := z.nibTested_spec n true
    have hchg : Chg [.array, .pair] z (z.nibTested n true) :=
      ((State.modNib_chg ..).widen rfl).trans ((State.selfTest_chg ..).widen rfl)
    exact ⟨_, hexec, hnib, hothers, .of_chg hchg (by decide)⟩
  · intro s z t n a hz hact
    have hexec := exec_nibBistDone (pass := false) hz hact
    have hchg := Chg.of_exec (execNibBistDone_chg t n false s) hexec
    rw [← hz] at hchg
    obtain ⟨hnib, hothers⟩ := z.nibTested_spec n false
    obtain ⟨hfenced, hfree, hlast, hfar⟩ := (z.nibTested n false).fence_of_free (n := n) (by rw [hnib]) 0
    exact ⟨_, hexec, hfenced, hfree, hlast.trans (by rw [hnib]), fun m hm => (hfar m hm).trans (hothers m hm), .of_chg hchg (by decide)⟩

end Sys2Proof.Machine
end

section
/-!
Proofs of the statement about leg faults and LEGS_OFF (chapters 5 and 12).
-/
namespace Sys2Proof.Machine
open Sys2Proof Sys2Proof.Config

/-! Legs and groups after a change of one. -/

theorem State.leg_modLeg_same (s : State) (n : LegNo) (f : Leg → Leg) : (s.modLeg n.val f).leg n.val = f (s.leg n.val) :=
  (vget_vmapIdx _ _ _ _ n.isLt).trans (if_pos rfl)

theorem State.leg_modLeg_other (s : State) {n m : LegNo} (hne : m ≠ n) (f : Leg → Leg) :
    (s.modLeg n.val f).leg m.val = s.leg m.val := (vget_vmapIdx _ _ _ _ m.isLt).trans (if_neg (Fin.val_ne_of_ne hne))

theorem State.leg_of_legs {s u : State} (h : u.legs.legs = s.legs.legs) (n : Nat) : u.leg n = s.leg n := by
  simp only [State.leg, h]

theorem State.legGroup_of_startup {s u : State} (h : u.startup = s.startup) (n : Nat) : u.legGroup n = s.legGroup n := by
  simp only [State.legGroup, State.legRec, State.recAt_of_startup h]

/-- A coast of a group is decided, or it coasts already. -/
def CoastAsked (s : State) (g : Nat) : Prop := (s.group g).coastDue = true ∨ (s.group g).coasting = true

theorem CoastAsked.of_group {s u : State} {g : Nat} (h : CoastAsked s g) (hu : u.legs.groups = s.legs.groups) : CoastAsked u g := by
  unfold CoastAsked State.group at *
  rw [hu]
  exact h

theorem CoastAsked.decideCoast (s : State) {g : Nat} (hg : g < 43) : CoastAsked (s.decideCoast g) g := by
  have hgroup : (s.decideCoast g).group g = { s.group g with coastDue := !(s.group g).coasting } :=
    (vget_vmapIdx _ _ _ _ hg).trans (if_pos rfl)
  unfold CoastAsked
  rw [hgroup]
  cases (s.group g).coasting
  · exact .inl rfl
  · exact .inr rfl

theorem CoastAsked.also {s : State} {g : Nat} (h : CoastAsked s g) (hg : g < 43) (k : Nat) : CoastAsked (s.decideCoast k) g := by
  by_cases hk : g = k
  · subst hk
    exact .decideCoast s hg
  · have hgroup : (s.decideCoast k).group g = s.group g := (vget_vmapIdx _ _ _ _ hg).trans (if_neg hk)
    unfold CoastAsked
    rw [hgroup]
    exact h

/-- What a law's coast or stop leaves of the legs, and that it takes no group's coast back. -/
structure LegsStay (s u : State) : Prop where
  legs : u.legs.legs = s.legs.legs
  coast : ∀ g < 43, CoastAsked s g → CoastAsked u g

theorem LegsStay.refl (s : State) : LegsStay s s := ⟨rfl, fun _ _ h => h⟩

theorem LegsStay.trans {a b c : State} (h : LegsStay a b) (k : LegsStay b c) : LegsStay a c :=
  ⟨k.legs.trans h.legs, fun g hg ha => k.coast g hg (h.coast g hg ha)⟩

theorem LegsStay.of_legs {s u : State} (h : u.legs = s.legs) : LegsStay s u := ⟨by rw [h], fun _ _ hg => hg.of_group (by rw [h])⟩

theorem LegsStay.decideCoast (s : State) (g : Nat) : LegsStay s (s.decideCoast g) := ⟨rfl, fun _ hk h => h.also hk g⟩

theorem LegsStay.coastLaw (s : State) (l : Nat) (c : LawCause) : LegsStay s (s.coastLaw l c) := by
  unfold State.coastLaw
  extract_lets w add enter
  have hmod (f : Law → Law) : LegsStay s (s.modLaw l f) := .of_legs rfl
  split
  · exact (hmod _).trans ((LegsStay.decideCoast ..).trans (.of_legs rfl))
  · split
    · exact .of_legs rfl
    · exact .refl s

theorem LegsStay.stopLaw (s : State) (l : Nat) (c : LawCause) : LegsStay s (s.stopLaw l c) := by
  unfold State.stopLaw
  extract_lets was x
  have hmod (f : Law → Law) : LegsStay s (s.modLaw l f) := .of_legs rfl
  have hx : LegsStay s x := (hmod _).trans (.decideCoast ..)
  split
  · exact hx
  · exact hx.trans (.of_legs rfl)

/-! A leg fault (R175 to R180). -/

/-- A leg in which a fault can be found. -/
def Faultable (l : Leg) : Prop := l.st = .off ∨ l.st = .switching ∨ l.st = .inhibited

/-- A faulted leg. -/
def Leg.faultedBy (l : Leg) (c : LegCause) : Leg :=
  { l with st := .faulted, killed := false, hi := false, lo := false, cycle := none, upcoming := [], next := [], word := {}
           sample := none, faults := l.faults + 1, cause := some c, cleared := false, disagreeRun := 0 }

theorem State.takeFault_spec {s : State} {n : LegNo} (h : Faultable (s.leg n.val)) (c : LegCause) :
    (s.takeFault n.val c).leg n.val = (s.leg n.val).faultedBy c ∧
    (∀ m : LegNo, m ≠ n → (s.takeFault n.val c).leg m.val = s.leg m.val) ∧
    (s.legGroup n.val < 43 → CoastAsked (s.takeFault n.val c) (s.legGroup n.val)) := by
  unfold State.takeFault
  extract_lets g st x y
  have hcond : (st = .off || st = .switching || st = .inhibited) = true := by
    rcases h with h | h | h <;> simp [st, h]
  rw [if_pos hcond]
  have hx : x.legs.legs = (s.modLeg n.val (Leg.faultedBy · c)).legs.legs := rfl
  have hrest : LegsStay y (match y.lawOf g with
      | some l => if (y.law l).st = .running && !y.enoughLegs g then y.stopLaw l .groupStopped else y.coastLaw l .legFault
      | none => y) := by
    split
    · split
      · exact .stopLaw ..
      · exact .coastLaw ..
    · exact .refl y
  have hlegs := hrest.legs.trans hx
  refine ⟨?_, fun m hm => ?_, fun hg => hrest.coast g hg (.decideCoast x hg)⟩
  · exact (State.leg_of_legs hlegs _).trans (s.leg_modLeg_same n _)
  · exact (State.leg_of_legs hlegs _).trans (s.leg_modLeg_other hm _)

/-- The holder drives a faulty leg off at once (R175). -/
def State.legKilled (s : State) (n : LegNo) : State :=
  (s.modLeg n.val fun l => { l with hi := false, lo := false, killed := true }).decideCoast (s.legGroup n.val)

theorem State.legKilled_spec (s : State) (n : LegNo) :
    (s.legKilled n).leg n.val = { s.leg n.val with hi := false, lo := false, killed := true } ∧
    (∀ m : LegNo, m ≠ n → (s.legKilled n).leg m.val = s.leg m.val) ∧
    (s.legGroup n.val < 43 → CoastAsked (s.legKilled n) (s.legGroup n.val)) :=
  ⟨s.leg_modLeg_same n _, fun _ hm => s.leg_modLeg_other hm _, fun hg => .decideCoast _ hg⟩

theorem State.legKilled_chg (s : State) (n : LegNo) : Chg [.legs] s (s.legKilled n) :=
  (State.modLeg_chg ..).trans (State.decideCoast_chg ..)

theorem State.findFault_of_faultable {s : State} {n : LegNo} (hkilled : (s.leg n.val).killed = false) (h : Faultable (s.leg n.val))
    (c : LegCause) : s.findFault n c = (if s.holds then s.legKilled n else s).submit (.legFault n (c = .readback))
      (·.takeFault n.val c) := by
  unfold State.findFault
  refine if_neg ?_
  rcases h with h | h | h <;> simp [h, hkilled]

theorem State.holds_of_alone {s : State} (h : journals s.pair.st = false) : s.holds = false := by
  unfold State.holds
  unfold journals at h
  cases hst : s.pair.st <;> simp_all

theorem State.holds_iff {s : State} : s.holds = true ↔ s.pair.st = .holder ∨ s.pair.st = .solo := by
  simp [State.holds]

theorem State.holds_of_follows {s : State} (h : s.decides = false) : s.holds = false := by
  unfold State.holds
  unfold State.decides at h
  cases hst : s.pair.st <;> simp_all

theorem State.findFault_still {s : State} {n : LegNo} (h : ¬ Faultable (s.leg n.val)) (c : LegCause) : s.findFault n c = s := by
  unfold State.findFault
  refine if_pos ?_
  unfold Faultable at h
  push Not at h
  obtain ⟨h1, h2, h3⟩ := h
  simp [h1, h2, h3]

/-- A follower leaves a fault to the holder. -/
theorem State.findFault_follows {s : State} (h : s.decides = false) (n : LegNo) (c : LegCause) : s.findFault n c = s := by
  unfold State.findFault
  extract_lets k l x
  have hx : x = s := if_neg (by rw [State.holds_of_follows h]; decide)
  rw [hx, State.submit_follows h rfl, ite_self]

/-- FLT of a leg has been read. -/
def State.fltRead (s : State) (n : LegNo) (k : Nat) : State :=
  s.modLeg n.val fun l => { l with fltLow := decide (k ≠ 0), fltHighSince := s.time.clock }

theorem exec_legFault {s z : State} {t k : Nat} {n : LegNo} (hz : z = s.advance t) :
    exec (.legFault t n k) s = .next (if 10 ≤ k then (z.fltRead n k).findFault n .flt else z.fltRead n k) := by
  show execLegFault t n k s = _
  unfold execLegFault
  rw [← hz]
  rfl

theorem State.fltRead_spec (s : State) (n : LegNo) (k : Nat) :
    (s.fltRead n k).leg n.val = { s.leg n.val with fltLow := decide (k ≠ 0), fltHighSince := s.time.clock } ∧
    ∀ m : LegNo, m ≠ n → (s.fltRead n k).leg m.val = s.leg m.val :=
  ⟨s.leg_modLeg_same n _, fun _ hm => s.leg_modLeg_other hm _⟩

theorem State.fltRead_chg (s : State) (n : LegNo) (k : Nat) : Chg [.legs] s (s.fltRead n k) := State.modLeg_chg ..

/-! LEGS_OFF (R186 to R188). -/

/-- Every leg is off and every group coasts. -/
structure AllOff (s u : State) : Prop where
  off : ∀ n : LegNo, (u.leg n.val).hi = false ∧ (u.leg n.val).lo = false
  inhibited : ∀ n : LegNo, (s.leg n.val).st = .off ∨ (s.leg n.val).st = .switching → (u.leg n.val).st = .inhibited
  coasting : ∀ g : GroupNo, (u.group g.val).coasting = true

theorem AllOff.of_legs {s x u : State} (h : AllOff s x) (hl : u.legs.legs = x.legs.legs) (hg : u.legs.groups = x.legs.groups) :
    AllOff s u := by
  have hleg (n : LegNo) : u.leg n.val = x.leg n.val := State.leg_of_legs hl _
  have hgroup (g : GroupNo) : u.group g.val = x.group g.val := by simp only [State.group, hg]
  exact ⟨fun n => by rw [hleg]; exact h.off n, fun n hn => by rw [hleg]; exact h.inhibited n hn,
    fun g => by rw [hgroup]; exact h.coasting g⟩

/-- What the laws' coasts leave of it. -/
structure CoastingStays (s u : State) : Prop where
  legs : u.legs.legs = s.legs.legs
  coasting : ∀ g < 43, (s.group g).coasting = true → (u.group g).coasting = true

theorem CoastingStays.coastLaw (s : State) (l : Nat) (c : LawCause) : CoastingStays s (s.coastLaw l c) := by
  unfold State.coastLaw
  extract_lets w add enter
  split
  · refine ⟨rfl, fun g hg h => ?_⟩
    have hgroup := vget_vmapIdx (fun i (x : LegGroup) => if i = s.lawGroup l then { x with coastDue := !x.coasting } else x)
      s.legs.groups g {} hg
    refine (congrArg LegGroup.coasting hgroup).trans ?_
    split
    · exact h
    · exact h
  · split
    · exact ⟨rfl, fun g hg h => h⟩
    · exact ⟨rfl, fun g hg h => h⟩

theorem State.inhibit_allOff (s : State) : AllOff s s.inhibit := by
  unfold State.inhibit
  extract_lets old x
  have hfold (l : List Nat) (y : State) : CoastingStays y (l.foldl (fun s k => s.coastLaw k .legsOff) y) := by
    induction l generalizing y with
    | nil => exact ⟨rfl, fun g hg h => h⟩
    | cons k l ih =>
      have hk := CoastingStays.coastLaw y k .legsOff
      have hl := ih (y.coastLaw k .legsOff)
      exact ⟨hl.legs.trans hk.legs, fun g hg h => hl.coasting g hg (hk.coasting g hg h)⟩
  have hx := hfold (List.range 43) x
  have hleg (n : LegNo) : x.leg n.val = if (s.leg n.val).st = .off || (s.leg n.val).st = .switching || (s.leg n.val).st = .inhibited
      then { (s.leg n.val).coast with st := .inhibited } else { (s.leg n.val).coast with st := (s.leg n.val).st } :=
    vget_vmap _ _ _ _ n.isLt
  refine ⟨fun n => ?_, fun n h => ?_, fun g => hx.coasting g.val g.isLt ?_⟩
  · rw [State.leg_of_legs hx.legs, hleg]
    split <;> exact ⟨rfl, rfl⟩
  · rw [State.leg_of_legs hx.legs, hleg]
    rw [if_pos (by rcases h with h | h <;> simp [h])]
  · exact congrArg LegGroup.coasting (vget_vmap _ _ _ _ g.isLt)

/-- LEGS_OFF comes into force. -/
structure OffAsserted (s u : State) : Prop where
  legsOff : u.legs.legsOff = true
  all : AllOff s u
  count : u.legs.offCount = s.legs.offCount + 1
  last : u.lastEv = some .legsOffAsserted

theorem State.takeLegsOff_on {s : State} (h : s.legs.legsOff = false) (side : Side) : OffAsserted s (s.takeLegsOff side true) := by
  unfold State.takeLegsOff
  extract_lets sides old x
  have hsides : (sides.1 || sides.2) = true := by cases side <;> simp [sides]
  rw [if_pos hsides]
  unfold State.assertLegsOff
  have hx : ¬ x.legs.legsOff = true := by
    show ¬ s.legs.legsOff = true
    rw [h]
    decide
  rw [if_neg hx]
  have hx := x.inhibit_allOff
  have hall : AllOff s x.inhibit := ⟨hx.off, fun n hn => hx.inhibited n hn, hx.coasting⟩
  generalize x.inhibit = w at hall
  exact ⟨rfl, hall.of_legs rfl rfl, rfl, rfl⟩

theorem State.takeLegsOff_on_again {s : State} (h : s.legs.legsOff = true) (side : Side) :
    (s.takeLegsOff side true).legs.legsOff = true := by
  unfold State.takeLegsOff
  extract_lets sides old x
  have hsides : (sides.1 || sides.2) = true := by cases side <;> simp [sides]
  rw [if_pos hsides]
  unfold State.assertLegsOff
  rw [if_pos (show x.legs.legsOff = true from h)]
  exact h

/-- The legs once LEGS_OFF has been released. -/
def Legs.released (x : Legs) (tick : Nat) : Legs :=
  { x with legsOff := false, offSides := (false, false), releaseDue := true, releaseTick := tick }

theorem State.takeLegsOff_released {s : State} {side : Side} (h : s.legs.legsOff = true)
    (hother : side = .own ∧ s.legs.offSides.2 = false ∨ side = .partner ∧ s.legs.offSides.1 = false) :
    (s.takeLegsOff side false).legs = s.legs.released s.tick ∧ (s.takeLegsOff side false).lastEv = some .legsOffReleased ∧
    Chg [.legs, .port] s (s.takeLegsOff side false) := by
  unfold State.takeLegsOff
  extract_lets sides old x
  have hsides : sides = (false, false) := by
    rcases hother with ⟨rfl, ho⟩ | ⟨rfl, ho⟩ <;> simp [sides, ho]
  have hx : x.releaseLegsOff = ({ x with legs := { x.legs with
      legsOff := false, releaseDue := true, releaseTick := x.tick } }).raise .legsOffReleased
        [((x.tick - x.legs.offTick) / ticksPerUs : Nat)] := if_pos h
  rw [if_neg (by rw [hsides]; decide), hx]
  have hchg : Chg [.legs] s x := Chg.setLegs ..
  refine ⟨?_, rfl, ((hchg.trans (Chg.setLegs ..)).widen rfl).trans ((State.raise_chg ..).widen rfl)⟩
  show ({ x.legs with legsOff := false, releaseDue := true, releaseTick := x.tick } : Legs) = _
  show ({ s.legs with offSides := sides, legsOff := false, releaseDue := true, releaseTick := s.tick } : Legs) = _
  rw [hsides]
  rfl

theorem State.takeLegsOff_other_stays {s : State} (h : s.legs.legsOff = true) (hown : s.legs.offSides.1 = true) :
    (s.takeLegsOff .partner false).legs = { s.legs with offSides := (true, false) } ∧
    Chg [.legs] s (s.takeLegsOff .partner false) := by
  unfold State.takeLegsOff
  extract_lets sides old x
  have hsides : sides = (true, false) := by simp [sides, hown]
  have hx : x.assertLegsOff = x := if_pos h
  rw [if_pos (by rw [hsides]; decide), hx]
  refine ⟨?_, Chg.setLegs ..⟩
  show ({ s.legs with offSides := sides } : Legs) = _
  rw [hsides]

/-- The partner's LEGS_OFF line as this module reads it. -/
def State.partnerOff (s : State) (on : Bool) : State := s.modSafety fun x => { x with legsPartner := on }

theorem exec_legsOffAsserted_partner {s z : State} {t : Nat} (hz : z = s.advance t) (h : z.safety.legsPartner = false) :
    exec (.legsOffAsserted t .partner) s = .next ((z.partnerOff true).submit (.legsOff .partner true) (·.takeLegsOff .partner true)) := by
  show execLegsOffAsserted t .partner s = _
  unfold execLegsOffAsserted
  rw [← hz]
  exact congrArg Host.Outcome.next (if_neg (by rw [h]; decide))

/-- This module asserts LEGS_OFF. -/
def State.ownOff (s : State) : State := s.refreshSo.modSafety fun x => { x with legsOwn := true }

theorem State.react_asserts {s : State} (hown : s.safety.legsOwn = false) (hwant : s.legsWanted = true) :
    s.react = s.ownOff.submit (.legsOff .own true) (·.takeLegsOff .own true) := by
  have hwant' : s.refreshSo.legsWanted = true := hwant
  have hown' : s.refreshSo.safety.legsOwn = false := hown
  unfold State.react
  extract_lets x want
  have hw : want = true := hwant'
  rw [hw, if_neg (by rw [show x.safety.legsOwn = false from hown']; decide)]
  rfl

/-- Settles O26: leg faults drive legs off and coast their groups, and LEGS_OFF comes into force and is released. -/
theorem legsAreOff : Obligations.LegsAreOff := by
  unfold Obligations.LegsAreOff
  refine ⟨?_, ?_, ?_, ?_, ?_, ?_, ?_, ?_, ?_, ?_, ?_, ?_, ?_, ?_⟩
  · intro s z t n k hz hk halone hkilled hst
    have hexec := exec_legFault (k := k) (n := n) hz
    have hread := z.fltRead_chg n k
    obtain ⟨hleg, hothers⟩ := z.fltRead_spec n k
    have halone' : journals (z.fltRead n k).pair.st = false := halone
    have hfault : Faultable ((z.fltRead n k).leg n.val) := by rw [hleg]; exact hst
    rw [if_pos hk, State.findFault_of_faultable (by rw [hleg]; exact hkilled) hfault, State.holds_of_alone halone',
      if_neg Bool.false_ne_true, State.submit_alone halone'] at hexec
    obtain ⟨hfaulted, hfar, hcoast⟩ := State.takeFault_spec hfault .flt
    have hgroup : (z.fltRead n k).legGroup n.val = z.legGroup n.val := State.legGroup_of_startup rfl _
    rw [hleg] at hfaulted
    rw [hgroup] at hcoast
    have hchg : Chg [.legs, .laws, .port] z _ := (hread.widen rfl).trans (State.takeFault_chg (z.fltRead n k) n.val .flt)
    refine ⟨_, hexec, ?_, ?_, ?_, ?_, ?_, ?_, ?_, fun m hm => (hfar m hm).trans (hothers m hm), hcoast, .of_chg hchg (by decide)⟩
      <;> rw [hfaulted]
    case refine_6 => exact decide_eq_true (by omega)
    all_goals rfl
  · intro s z t n k hz hk hholds hkilled hst
    have hexec := exec_legFault (k := k) (n := n) hz
    obtain ⟨hleg, hothers⟩ := z.fltRead_spec n k
    obtain ⟨hkill, hfar, hcoast⟩ := (z.fltRead n k).legKilled_spec n
    have hchg : Chg [.legs] z ((z.fltRead n k).legKilled n) := (z.fltRead_chg n k).trans (State.legKilled_chg ..)
    have hgroup : (z.fltRead n k).legGroup n.val = z.legGroup n.val := State.legGroup_of_startup rfl _
    have hst' : ((z.fltRead n k).legKilled n).pair.st = .holder ∨ ((z.fltRead n k).legKilled n).pair.st = .solo := by
      rw [hchg.pair rfl]
      exact State.holds_iff.mp hholds
    rw [if_pos hk, State.findFault_of_faultable (by rw [hleg]; exact hkilled) (by rw [hleg]; exact hst),
      show (z.fltRead n k).holds = true from hholds, if_pos rfl] at hexec
    have hsub := State.submit_holds hst' (.legFault n (LegCause.flt = .readback)) (·.takeFault n.val .flt)
    have hpair := State.submit_pair_congr (hchg.time rfl) (hchg.carousel rfl) (hchg.startup rfl) (hchg.pair rfl) (.legFault n false)
    rw [State.submit_holds hst'] at hpair
    rw [hsub] at hexec
    refine ⟨_, hexec, ?_, fun m hm => (hfar m hm).trans (hothers m hm), hpair, ?_,
      .of_chg ((hchg.widen rfl).trans ((State.journal_chg ..).widen rfl) : Chg [.legs, .pair] z _) (by decide)⟩
    · refine hkill.trans ?_
      rw [hleg, decide_eq_true (show k ≠ 0 by omega)]
    · rw [← hgroup]
      exact hcoast
  · intro s z t n k hz hcase
    have hexec := exec_legFault (k := k) (n := n) hz
    obtain ⟨hleg, hothers⟩ := z.fltRead_spec n k
    have hstill : (if 10 ≤ k then (z.fltRead n k).findFault n .flt else z.fltRead n k) = z.fltRead n k := by
      split
      next hk =>
        rcases hcase with h | h | h
        · omega
        · exact State.findFault_follows (s := z.fltRead n k) h n .flt
        · refine State.findFault_still (fun hf => ?_) .flt
          rw [hleg] at hf
          rcases hf with hf | hf | hf <;> rcases h with h | h | h <;> exact nomatch hf.symm.trans h
      · rfl
    rw [hstill] at hexec
    exact ⟨_, hexec, hleg, hothers, .of_chg (z.fltRead_chg n k) (by decide)⟩
  · intro n rb
    refine .of_apply fun z tick stamp hst => ?_
    obtain ⟨hfaulted, hfar, hcoast⟩ := State.takeFault_spec hst (if rb then .readback else .flt)
    have hchg := State.takeFault_chg z n.val (if rb then .readback else .flt)
    show _ ∧ _
    refine ⟨?_, ?_, ?_, ?_, ?_, ?_, hfar, hcoast, .of_chg hchg (by decide)⟩ <;> exact (congrArg _ hfaulted).trans rfl
  · intro s z t n hz hholds hthird hkilled hst
    have hst' : (z.legKilled n).pair.st = .holder ∨ (z.legKilled n).pair.st = .solo := by
      rw [(z.legKilled_chg n).pair rfl]
      exact State.holds_iff.mp hholds
    have hexec : exec (.readbackFault t n) s = .next ((z.legKilled n).journal (.legFault n true)) := by
      show execReadbackFault t n s = _
      unfold execReadbackFault
      rw [← hz]
      have hcond : (z.holds && (z.legs.legs[n]).thirdDisagreement) = true := by
        have hthird' : (z.legs.legs[n]).thirdDisagreement = true := by simpa [State.leg] using hthird
        rw [hholds, hthird']
        rfl
      refine congrArg Host.Outcome.next ((if_pos hcond).trans ?_)
      rw [State.findFault_of_faultable hkilled hst, hholds, if_pos rfl, State.submit_holds hst']
      rfl
    have hchg := z.legKilled_chg n
    obtain ⟨hkill, hfar, -⟩ := z.legKilled_spec n
    have hpair := State.submit_pair_congr (hchg.time rfl) (hchg.carousel rfl) (hchg.startup rfl) (hchg.pair rfl) (.legFault n true)
    rw [State.submit_holds hst'] at hpair
    exact ⟨_, hexec, hkill, hfar, hpair,
      .of_chg ((hchg.widen rfl).trans ((State.journal_chg ..).widen rfl) : Chg [.legs, .pair] z _) (by decide)⟩
  · intro s z t n hz hcase
    have hexec : exec (.readbackFault t n) s = .next z := by
      show execReadbackFault t n s = _
      unfold execReadbackFault
      rw [← hz]
      refine congrArg Host.Outcome.next (if_neg ?_)
      rcases hcase with h | h
      · simp [h]
      · have hthird : (z.legs.legs[n]).thirdDisagreement = false := by simpa [State.leg] using h
        simpa using fun _ => hthird
    exact ⟨z, hexec, rfl⟩
  · intro c n
    refine .of_change (fun x s => s.opLegClear x n) (fun s t => rfl) (fun x arrival z => rfl) fun z v x _ => ?_
    let y := (z.withConns v).modLeg n.val fun l => { l with cleared := true }
    have hop : (z.withConns v).opLegClear x n = y.reply x 0 := rfl
    have hreply := State.reply_chg y x 0 []
    have hlegs : (y.reply x 0).legs = y.legs := hreply.legs rfl
    have hchg : Chg [.port, .legs] z _ := ((State.withConns_chg z v).widen rfl).trans
      ((State.opLegClear_chg (z.withConns v) x n).widen rfl)
    rw [hop] at hchg ⊢
    refine ⟨⟨?_, fun m hm => ?_, by rw [hlegs]; rfl, .of_chg hchg (by decide)⟩, fun hx hw => State.res_reply (s := y) hx hw 0 []⟩
    · exact (State.leg_of_legs (s := y) (by rw [hlegs]) _).trans ((z.withConns v).leg_modLeg_same n _)
    · exact (State.leg_of_legs (s := y) (by rw [hlegs]) _).trans ((z.withConns v).leg_modLeg_other hm _)
  · intro s z t hz hpartner hoff halone
    have hexec := exec_legsOffAsserted_partner hz hpartner
    have hchg := Chg.of_exec (execLegsOffAsserted_chg t .partner s) hexec
    rw [← hz] at hchg
    rw [State.submit_alone (s := z.partnerOff true) halone] at hexec hchg
    have htake := (z.partnerOff true).takeLegsOff_chg .partner true
    obtain ⟨hon, hall, hcount, hlast⟩ := State.takeLegsOff_on (s := z.partnerOff true) hoff .partner
    exact ⟨_, hexec, hon, htake.safety rfl, hall.off, hall.inhibited, hall.coasting, hcount, hlast, .of_chg hchg (by decide)⟩
  · intro s z t hz hpartner hholds
    have hexec := exec_legsOffAsserted_partner hz hpartner
    have hst : (z.partnerOff true).pair.st = .holder ∨ (z.partnerOff true).pair.st = .solo := State.holds_iff.mp hholds
    have hchg : Chg [.safety] z (z.partnerOff true) := State.modSafety_chg ..
    have hpair := State.submit_pair_congr (a := z) (b := z.partnerOff true) rfl rfl rfl rfl (.legsOff .partner true)
    rw [State.submit_holds hst] at hexec hpair
    exact ⟨_, hexec, rfl, hpair,
      .of_chg ((hchg.widen rfl).trans ((State.journal_chg ..).widen rfl) : Chg [.safety, .pair] z _) (by decide)⟩
  · intro side
    refine .of_apply fun z tick stamp hoff => ?_
    obtain ⟨hon, hall, hcount, hlast⟩ := State.takeLegsOff_on hoff side
    exact ⟨hon, hall.off, hall.inhibited, hall.coasting, hcount, hlast, .of_chg (z.takeLegsOff_chg side true) (by decide)⟩
  · intro s z t hz hown hwant
    have hexec : exec (.legsOffAsserted t .own) s = .next (z.ownOff.submit (.legsOff .own true) (·.takeLegsOff .own true)) := by
      show execLegsOffAsserted t .own s = _
      unfold execLegsOffAsserted
      rw [← hz]
      refine congrArg Host.Outcome.next ((if_pos (by simp [hwant, hown])).trans ?_)
      exact State.react_asserts hown hwant
    have hchg := Chg.of_exec (execLegsOffAsserted_chg t .own s) hexec
    rw [← hz] at hchg
    refine ⟨_, hexec, ?_, fun halone => ?_, fun hholds => ?_, .of_chg hchg (by decide)⟩
    · exact congrArg Safety.legsOwn ((State.submit_chg (s := z.ownOff) (i := .legsOff .own true) (L := [.legs, .laws, .port, .pair])
        (f := (·.takeLegsOff .own true)) (fun y => (State.takeLegsOff_chg ..).widen rfl) rfl).safety rfl)
    · rw [State.submit_alone (s := z.ownOff) halone]
      by_cases hoff : z.legs.legsOff = true
      · exact State.takeLegsOff_on_again (s := z.ownOff) hoff .own
      · exact (State.takeLegsOff_on (s := z.ownOff) (Bool.eq_false_iff.mpr hoff) .own).legsOff
    · have hst : z.ownOff.pair.st = .holder ∨ z.ownOff.pair.st = .solo := State.holds_iff.mp hholds
      have hpair := State.submit_pair_congr (a := z) (b := z.ownOff) rfl rfl rfl rfl (.legsOff .own true)
      rw [State.submit_holds hst] at hpair ⊢
      exact ⟨rfl, hpair⟩
  · intro s z t hz hpartner hsides hoff halone
    have hexec : exec (.legsOffReleased t .partner) s = .next ((z.partnerOff false).submit (.legsOff .partner false)
        (·.takeLegsOff .partner false)) := by
      show execLegsOffReleased t .partner s = _
      unfold execLegsOffReleased
      rw [← hz]
      exact congrArg Host.Outcome.next (if_pos hpartner)
    have hchg := Chg.of_exec (execLegsOffReleased_chg t .partner s) hexec
    rw [← hz] at hchg
    rw [State.submit_alone (s := z.partnerOff false) halone] at hexec hchg
    obtain ⟨hlegs, hlast, htake⟩ := State.takeLegsOff_released (s := z.partnerOff false) (side := .partner) hoff
      (.inr ⟨rfl, congrArg Prod.fst hsides⟩)
    exact ⟨_, hexec, hlegs, htake.safety rfl, hlast, .of_chg hchg (by decide)⟩
  · refine .of_apply fun z tick stamp ⟨hown, hoff⟩ => ?_
    obtain ⟨hlegs, hchg⟩ := State.takeLegsOff_other_stays hoff hown
    exact ⟨hlegs, .of_chg hchg (by decide)⟩
  · intro side
    refine .of_apply fun z tick stamp ⟨hother, hoff⟩ => ?_
    obtain ⟨hlegs, hlast, hchg⟩ := State.takeLegsOff_released hoff hother
    exact ⟨hlegs, hlast, .of_chg hchg (by decide)⟩

end Sys2Proof.Machine
end

section
/-!
Proofs of the statement about contention, edges and samples of legs (chapters 5, 6 and 10).
-/
namespace Sys2Proof.Machine
open Sys2Proof Sys2Proof.Config

/-! Contention of a net. -/

/-- The entry that DRIVE_CONTENTION makes for a net (R181, R599). -/
def State.contention (s : State) (n : LegNo) (net : Net) : Contention :=
  { leg := n.val, net, yieldStroke := some (s.pair.contYield.getD s.carousel.stroke) }

/-- The net is in contention; the first one is an event. -/
def State.contend (s : State) (n : LegNo) (net : Net) : State :=
  let y : State := { s with legs := { s.legs with contended := s.legs.contended ++ [s.contention n net] } }
  if s.legs.contended.isEmpty then y.raise .driveContention [n.val, if net = Net.hi then 0 else 1] else y

/-- The stroke at which the contention began is kept for the yield. -/
def State.stampYield (s : State) (stroke : Nat) : State :=
  s.modPair fun p => { p with contYield := some (p.contYield.getD stroke) }

theorem State.contend_chg (s : State) (n : LegNo) (net : Net) : Chg [.legs, .port] s (s.contend n net) := by
  unfold State.contend
  have hput := (Chg.setLegs s { s.legs with contended := s.legs.contended ++ [s.contention n net] }).widen (M := [.legs, .port]) rfl
  dsimp only
  split
  · exact hput.step (State.raise_chg _ _ _) rfl
  · exact hput

theorem State.contend_contended (s : State) (n : LegNo) (net : Net) :
    (s.contend n net).legs.contended = s.legs.contended ++ [s.contention n net] := by
  unfold State.contend
  dsimp only
  split
  · rw [(State.raise_chg _ _ _).legs rfl]
  · rfl

/-- The holder that yields is STANDBY, with its drivers and RING_OUT quiet (R598, R599). -/
theorem yieldRing_quiet (s : State) (cause : Nat) :
    ((s.yieldRing cause false).pair.st = .standby ∧ (s.yieldRing cause false).pair.driving = false ∧
      (s.yieldRing cause false).pair.ringOut = false) ∧ (s.yieldRing cause false).lastEv = some .yield := by
  refine ⟨?_, ?_⟩
  · show (((((s.raise .yield [cause]).modPair _).modPair _).refreshLs).pair.st = _ ∧
      ((((s.raise .yield [cause]).modPair _).modPair _).refreshLs).pair.driving = _ ∧
      ((((s.raise .yield [cause]).modPair _).modPair _).refreshLs).pair.ringOut = _)
    rw [State.refreshLs_pair]
    exact ⟨rfl, rfl, rfl⟩
  · exact (Chg.lastEv (State.quiet_chg _) rfl).trans (State.lastEv_raise s .yield [cause])

theorem exec_driveContention {s z : State} {t mV : Nat} {n : LegNo} {net : Net} (hz : z = s.advance t) (hmV : 850 < mV)
    (hdriving : z.pair.driving = true) (hoff : z.legs.legsOff = false) (hown : z.safety.legsOwn = false)
    (hrole : z.legRole n.val ≠ 0) (hresolved : z.legs.resolved.contains (n.val, net) = false)
    (hnew : (z.legs.contended.any fun x => x.leg = n.val && x.net = net) = false) (hagree : z.pair.agree = none)
    (hkeeps : z.ident.pairPos = true ∨ z.startup.hdr.paired = true) :
    exec (.driveContention t n net mV) s = .next (if z.ident.pairPos = true then (z.contend n net).stampYield z.carousel.stroke
      else ((z.contend n net).stampYield z.carousel.stroke).yieldRing 11 (z.pair.st ≠ .holder)) := by
  have hy := (z.contend_chg n net).widen (M := [.legs, .port, .pair]) rfl
  have hstamp := hy.step (State.modPair_chg _ fun p => { p with contYield := some (p.contYield.getD z.carousel.stroke) }) rfl
  show execDriveContention t n net mV s = _
  unfold execDriveContention
  rw [← hz]
  dsimp only
  rw [hagree]
  dsimp only
  rw [if_neg (by rw [hresolved, hnew, hdriving, hown, hoff]; simp [hmV, hrole])]
  refine congrArg Host.Outcome.next ?_
  show (if (((z.contend n net).stampYield z.carousel.stroke).ident.pairPos ||
      !((z.contend n net).stampYield z.carousel.stroke).startup.hdr.paired) = true
    then (z.contend n net).stampYield z.carousel.stroke
    else ((z.contend n net).stampYield z.carousel.stroke).yieldRing 11
      (((z.contend n net).stampYield z.carousel.stroke).pair.st ≠ .holder)) = _
  have hpair : (z.contend n net).pair.st = z.pair.st := congrArg Pair.st ((z.contend_chg n net).pair rfl)
  have hst : ((z.contend n net).stampYield z.carousel.stroke).pair.st = z.pair.st := hpair
  have hident : ((z.contend n net).stampYield z.carousel.stroke).ident = z.ident := hstamp.ident rfl
  have hstartup : ((z.contend n net).stampYield z.carousel.stroke).startup = z.startup := hstamp.startup rfl
  rw [hst, hident, hstartup]
  by_cases hpos : z.ident.pairPos = true
  · rw [if_pos hpos, if_pos (by simp [hpos])]
  · rw [if_neg hpos, if_neg (by simp [hpos, hkeeps.resolve_left hpos])]

theorem contended_unknown {l : List Contention} {n : LegNo} {net : Net} (h : ∀ x ∈ l, x.leg ≠ n.val ∨ x.net ≠ net) :
    (l.any fun x => x.leg = n.val && x.net = net) = false :=
  List.any_eq_false.mpr fun x hx hboth => by
    obtain ⟨hleg, hnet⟩ := (Bool.and_eq_true ..).mp hboth
    exact (h x hx).elim (· (of_decide_eq_true hleg)) (· (of_decide_eq_true hnet))

/-- The state after a clean stroke on the only net in contention (R181). -/
def State.settled (s : State) (n : LegNo) (net : Net) : State :=
  State.modPair { s with legs := { s.legs with contended := [], resolved := s.legs.resolved ++ [(n.val, net)] } }
    fun p => { p with contYield := none }

/-! The edge generator changes neither the leg's state nor its mismatch. -/

/-- What an edge leaves of a leg. -/
structure Leg.Steady (l m : Leg) : Prop where
  st : m.st = l.st
  mismatch : m.mismatch = l.mismatch

theorem Leg.Steady.refl (l : Leg) : l.Steady l := ⟨rfl, rfl⟩

theorem Leg.Steady.trans {a b c : Leg} (h : a.Steady b) (k : b.Steady c) : a.Steady c :=
  ⟨k.st.trans h.st, k.mismatch.trans h.mismatch⟩

theorem Leg.Steady.emit (l : Leg) (c : LegCycle) (e : EdgeNo × Nat) : l.Steady (l.emit c e) := by
  unfold Leg.emit
  cases he : e.1 <;> exact ⟨rfl, rfl⟩

theorem Leg.Steady.roll {l m : Leg} {td now tick : Nat} (h : l.roll td now tick = some m) : l.Steady m := by
  unfold Leg.roll at h
  split at h
  · extract_lets first done due x y at h
    have hx : l.Steady x := ⟨rfl, rfl⟩
    have hy : x.Steady y := by
      unfold y
      split
      · exact ⟨rfl, rfl⟩
      · exact .refl x
    split at h
    · exact (hx.trans hy).trans (Option.some.inj h ▸ ⟨rfl, rfl⟩)
    · exact nomatch h
  · exact nomatch h

theorem Leg.Steady.settle (td now tick k : Nat) (l : Leg) : l.Steady (Leg.settle td now tick k l) := by
  induction k generalizing l with
  | zero => exact .refl l
  | succ k ih =>
    unfold Leg.settle
    split
    · exact .refl l
    · split
      next hroll => exact (Leg.Steady.roll hroll).trans (ih _)
      · exact .refl l

theorem Leg.Steady.step (td now tick : Nat) (l : Leg) : l.Steady (l.step td now tick) := by
  have hat : l.Steady (l.at_ td now tick) := .settle ..
  unfold Leg.step
  generalize l.at_ td now tick = m at hat ⊢
  dsimp only
  split
  next l' hroll =>
    have hnext : m.Steady l' := by
      split at hroll
      · exact Leg.Steady.roll hroll
      · exact nomatch hroll
    split
    · exact (hat.trans hnext).trans (.emit ..)
    · exact hat.trans hnext
  next =>
    split
    · exact hat
    · split
      · split
        · exact hat.trans (.emit ..)
        · exact hat
      · exact hat

theorem netBad_iff (s : State) (n : Nat) (net : Net) (level driven : Bool) (mv : Nat) :
    s.netBad n net level driven mv = true ↔
      if 850 < mv then s.pair.driving = true ∧ (n, net) ∈ s.legs.resolved else level ≠ driven := by
  unfold State.netBad
  split <;> simp

/-- A comparison marks the stroke of its leg where a net disagrees, and does nothing else. -/
theorem compareNets_spec (s : State) (n : LegNo) (x : NetSample) (hst : (s.leg n.val).st = .switching) :
    ((s.compareNets n.val x).leg n.val).hi = (s.leg n.val).hi ∧ ((s.compareNets n.val x).leg n.val).lo = (s.leg n.val).lo ∧
      (((s.compareNets n.val x).leg n.val).mismatch = true ↔ (s.leg n.val).mismatch = true ∨ (s.compares = true ∧
        (s.netBad n.val .hi x.hi (s.leg n.val).hi x.mvHi = true ∨ s.netBad n.val .lo x.lo (s.leg n.val).lo x.mvLo = true))) ∧
      ∀ m : LegNo, m ≠ n → (s.compareNets n.val x).leg m.val = s.leg m.val := by
  unfold State.compareNets
  dsimp only
  split
  next h =>
    simp only [hst, Bool.and_eq_true, Bool.or_eq_true] at h
    rw [State.leg_modLeg_same]
    exact ⟨rfl, rfl, ⟨fun _ => .inr ⟨h.1.1, h.2⟩, fun _ => rfl⟩, fun m hm => State.leg_modLeg_other s hm _⟩
  next h =>
    simp only [hst, LegState.driven, Bool.and_eq_true, Bool.or_eq_true, and_true] at h
    exact ⟨rfl, rfl, ⟨.inl, fun hm => hm.resolve_right h⟩, fun _ _ => rfl⟩

/-! The clocks of the modulators. -/

theorem foldl_mdck_bits {α : Type} (f : State → α → State) (l : List α) (s : State)
    (h : ∀ y a, (f y a).scribe.bits = y.scribe.bits ∧ (f y a).scribe.core = y.scribe.core) :
    (l.foldl f s).scribe.bits = s.scribe.bits ∧ (l.foldl f s).scribe.core = s.scribe.core := by
  induction l generalizing s with
  | nil => exact ⟨rfl, rfl⟩
  | cons a l ih =>
    obtain ⟨hbits, hcore⟩ := ih (f s a)
    exact ⟨hbits.trans (h s a).1, hcore.trans (h s a).2⟩

theorem mdEdge_spec (s : State) (g : Nat) (bits : BitVec 16) :
    (s.mdEdge g bits).scribe.bits =
      vmapIdx (fun c l => if c / 16 = g then (bits.getLsbD (c % 16) :: l).take 190 else l) s.scribe.bits ∧
    (s.mdEdge g bits).scribe.core = s.scribe.core := by
  unfold State.mdEdge
  extract_lets k y
  split
  · exact ⟨rfl, rfl⟩
  · refine foldl_mdck_bits _ _ y fun x j => ?_
    extract_lets o
    split
    · exact ⟨rfl, rfl⟩
    · split <;> exact ⟨rfl, rfl⟩

theorem legs_get_eq_leg (s : State) (n : LegNo) : s.legs.legs[n] = s.leg n.val := (vget_val _ _ _).symm

/-- The edge generator of a leg takes its next edge. -/
def State.edge (s : State) (n : LegNo) : State := s.modLeg n.val fun l => l.step (s.legDead n.val) s.nowTap s.tick

/-- What LEG_SAMPLE makes of its leg. -/
def State.latched (s : State) (n m : Nat) (l : Leg) : Leg :=
  match l.cycle with
  | some c =>
    if l.st = .switching && l.hi then
      { l with sample := some (sinc3 m (vget s.laws.bits (s.legChan n) []), m, limitOn (s.legDead n) c.period l.word.on) }
    else l
  | none => l

/-- Settles O27: an entry of contention, the edge of one leg, and the bits of one clock, each with the frame of its command. -/
theorem netsAndEdges : Obligations.NetsAndEdges := by
  unfold Obligations.NetsAndEdges
  refine ⟨?_, ?_, ?_, ?_, ?_, ?_, ?_, ?_, ?_, ?_, ?_⟩
  · intro s z t n net mV hz hmV hdriving hoff hown hrole hresolved hcontended hagree hpos
    have hexec := exec_driveContention hz hmV hdriving hoff hown hrole hresolved (by rw [hcontended]; rfl) hagree (.inl hpos)
    rw [if_pos hpos] at hexec
    have hst : (z.contend n net).pair.st = z.pair.st := congrArg Pair.st ((z.contend_chg n net).pair rfl)
    have hdrives : (z.contend n net).pair.driving = z.pair.driving := congrArg Pair.driving ((z.contend_chg n net).pair rfl)
    have hput : (z.contend n net).legs.contended = [z.contention n net] := by rw [State.contend_contended, hcontended]; rfl
    have hlast : (z.contend n net).lastEv = some .driveContention := by
      unfold State.contend
      dsimp only
      rw [if_pos (by rw [hcontended]; rfl)]
      exact State.lastEv_raise ..
    have hchg := (z.contend_chg n net).widen (M := [.legs, .pair, .port]) rfl
    exact ⟨_, hexec, ⟨_, hput, rfl, rfl⟩, hst, hdrives.trans hdriving, hlast,
      .of_chg (hchg.step (State.modPair_chg _ _) rfl) (by decide)⟩
  · intro s z t n net mV hz hmV hdriving hoff hown hrole hresolved hcontended hnew hagree hpos
    have hexec := exec_driveContention hz hmV hdriving hoff hown hrole hresolved (contended_unknown hnew) hagree (.inl hpos)
    rw [if_pos hpos] at hexec
    have hst : (z.contend n net).pair.st = z.pair.st := congrArg Pair.st ((z.contend_chg n net).pair rfl)
    have hchg : Chg [.legs, .pair] z (z.contend n net) := by
      unfold State.contend
      dsimp only
      rw [if_neg (by simpa using hcontended)]
      exact (Chg.setLegs z _).widen rfl
    exact ⟨_, hexec, ⟨_, State.contend_contended .., rfl, rfl⟩, hst,
      .of_chg (hchg.step (State.modPair_chg _ _) rfl) (by decide)⟩
  · intro s z t n net mV hz hmV hdriving hoff hown hrole hresolved hcontended hagree hpos hpaired hst
    have hexec := exec_driveContention hz hmV hdriving hoff hown hrole hresolved (by rw [hcontended]; rfl) hagree (.inr hpaired)
    rw [if_neg (by rw [hpos]; decide), decide_eq_false (not_not.mpr hst)] at hexec
    have hchg := Chg.of_exec (execDriveContention_chg t n net mV s) hexec
    rw [← hz] at hchg
    have hput : (z.contend n net).legs.contended = [z.contention n net] := by rw [State.contend_contended, hcontended]; rfl
    have hlegs := (State.yieldRing_chg ((z.contend n net).stampYield z.carousel.stroke) 11 false).legs rfl
    obtain ⟨⟨hyield, hquiet, hring⟩, hlast⟩ := yieldRing_quiet ((z.contend n net).stampYield z.carousel.stroke) 11
    exact ⟨_, hexec, ⟨_, (congrArg Legs.contended hlegs).trans hput, rfl, rfl⟩, hyield, hquiet, hring, hlast,
      .of_chg hchg (by decide)⟩
  · intro s z t n net mV start hz hagree hstart hend
    refine ⟨z, ?_, rfl⟩
    show execDriveContention t n net mV s = _
    unfold execDriveContention
    rw [← hz]
    dsimp only
    rw [hagree]
    exact congrArg Host.Outcome.next (if_pos (by simp [hstart, show z.time.clock < start + ticksPerUs from hend]))
  · intro s z t n net mV hz hmV
    refine ⟨z, ?_, rfl⟩
    show execDriveContention t n net mV s = _
    unfold execDriveContention
    rw [← hz]
    exact congrArg Host.Outcome.next (if_pos (by simp [hmV]))
  · intro s z t n net x hz hcontended hleg hnet
    have hexec : exec (.contentionResolved t n net true) s = .next (z.settled n net) := by
      show execContentionResolved t n net true s = _
      unfold execContentionResolved
      rw [← hz]
      dsimp only
      rw [hcontended]
      simp [hleg, hnet, State.settled]
    exact ⟨_, hexec, rfl, List.mem_append_right _ (List.mem_singleton.mpr rfl), rfl, rfl,
      .of_chg (((Chg.setLegs z _).widen (M := [.legs, .pair]) rfl).step (State.modPair_chg _ _) rfl) (by decide)⟩
  · intro s z t n x hz hst hkilled
    have hexec : exec (.legEdge t n x.hi x.lo (x.mvHi, x.mvLo)) s = .next ((z.edge n).compareNets n.val x) := by
      show execLegEdge t n x.hi x.lo (x.mvHi, x.mvLo) s = _
      unfold execLegEdge
      rw [← hz]
      exact congrArg Host.Outcome.next (if_pos (by rw [legs_get_eq_leg, hst, hkilled]; rfl))
    have hedge : (z.edge n).leg n.val = (z.leg n.val).step (z.legDead n.val) z.nowTap z.tick := State.leg_modLeg_same ..
    have hsteady : (z.leg n.val).Steady ((z.edge n).leg n.val) := hedge ▸ .step ..
    obtain ⟨hhi, hlo, hmis, hothers⟩ := compareNets_spec (z.edge n) n x (hsteady.st.trans hst)
    refine ⟨_, hexec, hhi.trans (by rw [hedge]), hlo.trans (by rw [hedge]), ?_,
      fun m hm => (hothers m hm).trans (State.leg_modLeg_other z hm _),
      .of_chg ((z.modLeg_chg n.val _).step (State.compareNets_chg (z.edge n) n.val x) rfl) (by decide)⟩
    rw [hmis, netBad_iff, netBad_iff, hsteady.mismatch, hhi, hlo]
    exact Iff.rfl
  · intro s z t n x hz hcase
    refine ⟨z, ?_, rfl⟩
    show execLegEdge t n x.hi x.lo (x.mvHi, x.mvLo) s = _
    unfold execLegEdge
    rw [← hz]
    refine congrArg Host.Outcome.next (if_neg ?_)
    rw [legs_get_eq_leg]
    rcases hcase with h | h <;> simp [h]
  · intro s z t n c hz hde hcycle hst hhi
    have hexec : exec (.legSample t n) s = .next (z.latchSample n.val (z.window (z.legChan n.val))) := by
      show execLegSample t n s = _
      unfold execLegSample
      rw [← hz]
      exact congrArg Host.Outcome.next (if_pos hde)
    refine ⟨_, hexec, ?_, fun m hm => State.leg_modLeg_other z hm _, .of_chg (State.latchSample_chg ..) (by decide)⟩
    have hsame := State.leg_modLeg_same z n (z.latched n.val (z.window (z.legChan n.val)))
    refine (congrArg (·.sample.isSome) hsame).trans ?_
    simp [State.latched, hcycle, hst, hhi]
  · intro s z t k bits hz
    have hexec : exec (.modulatorClock t false k bits) s = .next (z.sdEdge k bits) := by
      show execModulatorClock t false k bits s = _
      unfold execModulatorClock
      rw [← hz]
      rfl
    refine ⟨_, hexec, fun c => (vmapIdx_fin _ _ c).trans ?_, rfl, .of_chg (State.sdEdge_chg ..) (by decide)⟩
    simp
  · intro s z t k bits hz hk
    have hexec : exec (.modulatorClock t true k bits) s = .next (z.mdEdge k.val bits) := by
      show execModulatorClock t true k bits s = _
      unfold execModulatorClock
      rw [← hz]
      exact congrArg Host.Outcome.next ((if_pos rfl).trans (if_pos hk))
    obtain ⟨hbits, hcore⟩ := mdEdge_spec z k.val bits
    refine ⟨_, hexec, fun c => ?_, hcore, .of_chg (State.mdEdge_chg ..) (by decide)⟩
    rw [hbits]
    exact vmapIdx_fin _ _ c

end Sys2Proof.Machine
end

section
/-!
Proofs of the statement about lost feedback, lost clocks and the clearing of laws (chapter 6).
-/
namespace Sys2Proof.Machine
open Sys2Proof Sys2Proof.Config

/-! A fold keeps what each of its steps keeps, and what it reaches at one of its elements. -/

theorem foldl_keeps {α : Type} {f : State → α → State} {I : State → Prop} {l : List α} (h : ∀ y, ∀ b ∈ l, I y → I (f y b))
    {s : State} (hs : I s) : I (l.foldl f s) := by
  induction l generalizing s with
  | nil => exact hs
  | cons b l ih => exact ih (fun y c hc => h y c (List.mem_cons_of_mem b hc)) (h s b List.mem_cons_self hs)

theorem foldl_reaches {α : Type} {f : State → α → State} {I J : State → Prop} {a : α} {l : List α}
    (hbefore : ∀ y, ∀ b ∈ l, I y → I (f y b)) (hafter : ∀ y, ∀ b ∈ l, J y → J (f y b)) (hreach : ∀ y, I y → J (f y a))
    (ha : a ∈ l) {s : State} (hs : I s) : J (l.foldl f s) := by
  obtain ⟨l₁, l₂, rfl⟩ := List.append_of_mem ha
  rw [List.foldl_append, List.foldl_cons]
  exact foldl_keeps (fun y b hb => hafter y b (List.mem_append_right _ (List.mem_cons_of_mem _ hb)))
    (hreach _ (foldl_keeps (fun y b hb => hbefore y b (List.mem_append_left _ hb)) hs))

/-! The records that say which law reads which channel. -/

theorem State.hasLaw_of_startup {s u : State} (h : u.startup = s.startup) (l : Nat) : u.hasLaw l = s.hasLaw l := by
  simp only [State.hasLaw, State.recAt_of_startup h]

theorem State.reads_of_startup {s u : State} (h : u.startup = s.startup) (l chan : Nat) : u.reads l chan = s.reads l chan := by
  have hleg (n : Nat) : u.legRec n = s.legRec n := by rw [State.legRec, State.recAt_of_startup h, State.legRec]
  have hin : u.inputs l = s.inputs l := by
    simp only [State.inputs, State.stage, State.recs_of_startup h]
  have hgroup : u.lawGroup l = s.lawGroup l := by simp only [State.lawGroup, State.lawRec, State.recAt_of_startup h]
  have hmembers (g : Nat) : u.members g = s.members g := by rw [State.members, State.recs_of_startup h, State.members]
  have hde : u.legDe = s.legDe := funext fun n => by simp only [State.legDe, hleg]
  have hchan : u.legChan = s.legChan := funext fun n => by simp only [State.legChan, hleg]
  rw [State.reads, hin, hgroup, hmembers, hde, hchan, State.reads]

theorem State.wired_of_startup {s u : State} (h : u.startup = s.startup) (i : SetId) : u.wired i = s.wired i := by
  have hrec : u.carRec = s.carRec := by simp only [State.carRec, State.rec1_of_startup h]
  cases i
  · exact congrArg (bit · 0 18) hrec
  · exact congrArg (bit · 0 19) hrec

/-! What a coast of one law leaves. -/

/-- What the coasts of laws leave of the channels, and of a law that runs or has coasted. -/
structure LawCoasts (l : LawNo) (s u : State) : Prop where
  startup : u.startup = s.startup
  lost : u.laws.lost = s.laws.lost
  clocks : u.laws.clocks = s.laws.clocks
  coasted : (s.law l.val).st = .coasted → (u.law l.val).st = .coasted
  flowing : (s.law l.val).st = .running → (u.law l.val).st = .running ∨ (u.law l.val).st = .coasted

theorem LawCoasts.of_laws {l : LawNo} {s u : State} (hstartup : u.startup = s.startup) (hlaws : u.laws = s.laws) :
    LawCoasts l s u := by
  have hlaw : u.law l.val = s.law l.val := congrArg (fun x : Laws => vget x.laws l.val {}) hlaws
  exact ⟨hstartup, by rw [hlaws], by rw [hlaws], fun h => hlaw ▸ h, fun h => .inl (hlaw ▸ h)⟩

theorem LawCoasts.trans {l : LawNo} {a b c : State} (h : LawCoasts l a b) (k : LawCoasts l b c) : LawCoasts l a c :=
  ⟨k.startup.trans h.startup, k.lost.trans h.lost, k.clocks.trans h.clocks, fun ha => k.coasted (h.coasted ha),
    fun ha => (h.flowing ha).elim k.flowing fun hb => .inr (k.coasted hb)⟩

theorem LawCoasts.modLaw (s : State) (l : LawNo) (k : Nat) {f : Law → Law} (hf : ∀ x, (f x).st = .coasted ∨ (f x).st = x.st) :
    LawCoasts l s (s.modLaw k f) := by
  by_cases hk : l.val = k
  · subst hk
    have hsame := s.law_modLaw l f
    refine ⟨rfl, rfl, rfl, fun h => ?_, fun h => ?_⟩ <;> rw [hsame] <;> rcases hf (s.law l.val) with hx | hx
    · exact hx
    · exact hx.trans h
    · exact .inr hx
    · exact .inl (hx.trans h)
  · have hother := s.law_modLaw_other hk f
    exact ⟨rfl, rfl, rfl, fun h => hother ▸ h, fun h => .inl (hother ▸ h)⟩

theorem LawCoasts.coastLaw (s : State) (l : LawNo) (k : Nat) (c : LawCause) : LawCoasts l s (s.coastLaw k c) := by
  unfold State.coastLaw
  extract_lets w add enter
  split
  · exact (LawCoasts.modLaw s l k fun _ => .inl rfl).trans (.of_laws rfl rfl)
  · split
    · exact .modLaw s l k fun _ => .inr rfl
    · exact .of_laws rfl rfl

theorem coastLaw_same {s : State} {l : LawNo} (h : (s.law l.val).st = .running ∨ (s.law l.val).st = .coasted) (c : LawCause) :
    ((s.coastLaw l.val c).law l.val).st = .coasted := by
  rcases h with h | h
  · unfold State.coastLaw
    simp only [h, decide_true, Bool.true_or, if_true]
    exact congrArg Law.st (s.law_modLaw l _)
  · exact (LawCoasts.coastLaw s l l.val c).coasted h

theorem coastLaw_other (s : State) {l : LawNo} {k : Nat} (hk : l.val ≠ k) (c : LawCause) :
    (s.coastLaw k c).law l.val = s.law l.val := by
  unfold State.coastLaw
  extract_lets w add enter
  split
  · exact s.law_modLaw_other hk _
  · split
    · exact s.law_modLaw_other hk _
    · rfl

/-! The loss of a channel (R227). -/

/-- The loss of a channel for one law. -/
def State.loseFor (chan : Nat) (s : State) (l : Nat) : State :=
  if s.hasLaw l && (s.law l).st ≠ .idle && s.reads l chan then (s.coastLaw l (.feedback chan)).raise .feedbackLost [l, chan] else s

theorem LawCoasts.loseFor (s : State) (l : LawNo) (chan k : Nat) : LawCoasts l s (State.loseFor chan s k) := by
  unfold State.loseFor
  split
  · exact (LawCoasts.coastLaw s l k _).trans (.of_laws rfl rfl)
  · exact .of_laws rfl rfl

theorem loseFor_same {s : State} {l : LawNo} {chan : Nat} (hlaw : s.hasLaw l.val = true) (hreads : s.reads l.val chan = true)
    (h : (s.law l.val).st = .running ∨ (s.law l.val).st = .coasted) : ((State.loseFor chan s l.val).law l.val).st = .coasted := by
  unfold State.loseFor
  rw [if_pos (by rcases h with h | h <;> simp [hlaw, hreads, h])]
  exact coastLaw_same h _

theorem loseFor_unread {s : State} {l : LawNo} {chan : Nat} (hreads : s.reads l.val chan = false) (k : Nat) :
    (State.loseFor chan s k).law l.val = s.law l.val := by
  unfold State.loseFor
  by_cases hk : l.val = k
  · rw [if_neg (by simp [← hk, hreads])]
  · split
    · exact coastLaw_other s hk _
    · rfl

theorem LawCoasts.foldl {α : Type} {l : LawNo} {f : State → α → State} (h : ∀ y b, LawCoasts l y (f y b)) (m : List α) (s : State) :
    LawCoasts l s (m.foldl f s) :=
  foldl_keeps (I := LawCoasts l s) (f := f) (l := m) (fun y b _ hy => hy.trans (h y b)) (.of_laws rfl rfl)

theorem LawCoasts.loseChannel (s : State) (l : LawNo) (chan : Nat) : LawCoasts l (s.markLost chan) (s.loseChannel chan) :=
  .foldl (fun y b => .loseFor y l chan b) (List.range 43) (s.markLost chan)

theorem loseChannel_lost (s : State) (chan : Nat) :
    (s.loseChannel chan).laws.lost = vput s.laws.lost chan true ∧ (s.loseChannel chan).laws.clocks = s.laws.clocks :=
  have h := LawCoasts.loseChannel s ⟨0, by decide⟩ chan
  ⟨h.lost, h.clocks⟩

/-- What a loss of a channel leaves of a law. -/
theorem loseChannel_law (s : State) (l : LawNo) (chan : Nat) :
    ((s.law l.val).st = .coasted → ((s.loseChannel chan).law l.val).st = .coasted) ∧
      ((s.law l.val).st = .running → ((s.loseChannel chan).law l.val).st = .running ∨ ((s.loseChannel chan).law l.val).st = .coasted) :=
  have h := LawCoasts.loseChannel s l chan
  ⟨h.coasted, h.flowing⟩

theorem loseChannel_reader {s : State} {l : LawNo} {chan : Nat} (hlaw : s.hasLaw l.val = true) (hreads : s.reads l.val chan = true)
    (h : (s.law l.val).st = .running ∨ (s.law l.val).st = .coasted) : ((s.loseChannel chan).law l.val).st = .coasted :=
  foldl_reaches (I := fun y => y.startup = s.startup ∧ ((y.law l.val).st = .running ∨ (y.law l.val).st = .coasted))
    (J := fun y => (y.law l.val).st = .coasted) (a := l.val)
    (fun y b _ ⟨hst, hy⟩ =>
      have hb := LawCoasts.loseFor y l chan b
      ⟨hb.startup.trans hst, hy.elim hb.flowing fun hc => .inr (hb.coasted hc)⟩)
    (fun y b _ hy => (LawCoasts.loseFor y l chan b).coasted hy)
    (fun _ ⟨hst, hy⟩ => loseFor_same ((State.hasLaw_of_startup hst _).trans hlaw) ((State.reads_of_startup hst _ _).trans hreads) hy)
    (List.mem_range.mpr l.isLt) (s := s.markLost chan) ⟨rfl, h⟩

theorem loseChannel_unread {s : State} {l : LawNo} {chan : Nat} (hreads : s.reads l.val chan = false) :
    (s.loseChannel chan).law l.val = s.law l.val :=
  (foldl_keeps (I := fun y => y.startup = s.startup ∧ y.law l.val = s.law l.val) (f := State.loseFor chan) (l := List.range 43)
    (fun y b _ ⟨hst, hy⟩ => ⟨(LawCoasts.loseFor y l chan b).startup.trans hst,
      (loseFor_unread ((State.reads_of_startup hst _ _).trans hreads) b).trans hy⟩)
    (s := s.markLost chan) ⟨rfl, rfl⟩).2

/-! The loss of a clock (R228). -/

/-- What the loss of a clock leaves of the channels. -/
structure ClockLoses (k : SdckNo) (s u : State) : Prop where
  clocks : u.laws.clocks = s.laws.clocks
  other : ∀ c : SdChan, c.val / 16 ≠ k.val → u.laws.lost[c] = s.laws.lost[c]
  lost : ∀ c : SdChan, s.laws.lost[c] = true → u.laws.lost[c] = true

theorem ClockLoses.refl (k : SdckNo) (s : State) : ClockLoses k s s := ⟨rfl, fun _ _ => rfl, fun _ h => h⟩

theorem ClockLoses.trans {k : SdckNo} {a b c : State} (h : ClockLoses k a b) (j : ClockLoses k b c) : ClockLoses k a c :=
  ⟨j.clocks.trans h.clocks, fun x hx => (j.other x hx).trans (h.other x hx), fun x hx => j.lost x (h.lost x hx)⟩

theorem ClockLoses.of_put {k : SdckNo} {s u : State} {i : Nat} (hi : i < 16)
    (hlost : u.laws.lost = vput s.laws.lost (16 * k.val + i) true) (hclocks : u.laws.clocks = s.laws.clocks) : ClockLoses k s u := by
  have hget (c : SdChan) : u.laws.lost[c] = if c.val = 16 * k.val + i then true else s.laws.lost[c] := by
    rw [hlost]
    exact vput_get _ _ _ c.val c.isLt
  refine ⟨hclocks, fun c hc => (hget c).trans (if_neg (by omega)), fun c hc => ?_⟩
  rw [hget, hc, ite_self]

theorem ClockLoses.markLost (k : SdckNo) (s : State) {i : Nat} (hi : i < 16) : ClockLoses k s (s.markLost (16 * k.val + i)) :=
  .of_put hi rfl rfl

theorem ClockLoses.loseClock (k : SdckNo) (s : State) : ClockLoses k s (s.loseClock k.val) :=
  foldl_keeps (I := ClockLoses k s) (fun y _ hi hy => hy.trans
    (.of_put (List.mem_range.mp hi) (loseChannel_lost y _).1 (loseChannel_lost y _).2)) (.refl k s)

theorem loseClock_reader {s : State} {l : LawNo} {k : SdckNo} {c : SdChan} (hc : c.val / 16 = k.val) (hlaw : s.hasLaw l.val = true)
    (hreads : s.reads l.val c.val = true) (h : (s.law l.val).st = .running) : ((s.loseClock k.val).law l.val).st = .coasted :=
  foldl_reaches (I := fun y => y.startup = s.startup ∧ ((y.law l.val).st = .running ∨ (y.law l.val).st = .coasted))
    (J := fun y => (y.law l.val).st = .coasted) (a := c.val % 16)
    (fun y b _ ⟨hst, hy⟩ =>
      have hb := loseChannel_law y l (16 * k.val + b)
      ⟨((State.loseChannel_chg ..).startup rfl).trans hst, hy.elim hb.2 fun hc => .inr (hb.1 hc)⟩)
    (fun y b _ hy => (loseChannel_law y l (16 * k.val + b)).1 hy)
    (fun y ⟨hst, hy⟩ => by
      have hchan : 16 * k.val + c.val % 16 = c.val := by omega
      rw [hchan]
      exact loseChannel_reader ((State.hasLaw_of_startup hst _).trans hlaw) ((State.reads_of_startup hst _ _).trans hreads) hy)
    (List.mem_range.mpr (Nat.mod_lt _ (by decide))) ⟨rfl, .inl h⟩

theorem journals_of_holds {s : State} (h : s.holds = true) : journals s.pair.st = true := by
  rcases State.holds_iff.mp h with h | h <;> rw [h] <;> rfl

/-- Where the holder submits an input, the pair is what it would be without the change that stands before it. -/
theorem submit_pair_of_holds {z y : State} {L : List Part} (hchg : Chg L z y) (hL : [Part.time, .carousel, .startup, .pair].all
    (fun p => !L.contains p) = true) (h : z.holds = true) (i : JInput) (f : State → State) :
    (y.submit i f).pair = (z.submit i id).pair := by
  simp only [List.all_cons, List.all_nil, Bool.and_eq_true, Bool.not_eq_true', and_true] at hL
  obtain ⟨htime, hcarousel, hstartup, hpair⟩ := hL
  have hst := State.holds_iff.mp h
  have hcongr := State.submit_pair_congr (hchg.time htime) (hchg.carousel hcarousel) (hchg.startup hstartup) (hchg.pair hpair) i
  rw [State.submit_holds (by rw [hchg.pair hpair]; exact hst)] at hcongr ⊢
  exact hcongr

/-- A clock is found lost or good again, and told (R228). -/
def State.clockTold (s : State) (k : SdckNo) (lost : Bool) (told : Int) : State :=
  State.raise { s with laws := { s.laws with clocks := s.laws.clocks.set k { lost } } } .sdckLost [k.val, told, 16]

theorem State.clockTold_chg (s : State) (k : SdckNo) (lost : Bool) (told : Int) : Chg [.laws, .port] s (s.clockTold k lost told) :=
  ((Chg.setLaws s _).widen rfl).step (State.raise_chg ..) rfl

theorem State.clockTold_laws (s : State) (k : SdckNo) (lost : Bool) (told : Int) :
    (s.clockTold k lost told).laws = { s.laws with clocks := s.laws.clocks.set k { lost } } := (State.raise_chg ..).laws rfl

/-- The channels of a clock are lost. -/
def State.markClock (s : State) (k : Nat) : State := (List.range 16).foldl (fun s i => s.markLost (16 * k + i)) s

theorem State.markClock_chg (s : State) (k : Nat) : Chg [.laws] s (s.markClock k) := by
  unfold State.markClock
  exact foldl_keeps (I := Chg [.laws] s) (fun _ _ _ hy => hy.step (State.markLost_chg ..) rfl) (.refl _ s)

theorem State.markClock_laws (s : State) (k : Nat) : (s.markClock k).laws.laws = s.laws.laws := by
  unfold State.markClock
  exact foldl_keeps (I := fun y => y.laws.laws = s.laws.laws) (f := fun s i => s.markLost (16 * k + i)) (l := List.range 16)
    (fun _ _ _ hy => hy) rfl

theorem ClockLoses.markClock (k : SdckNo) (s : State) : ClockLoses k s (s.markClock k.val) := by
  unfold State.markClock
  exact foldl_keeps (I := ClockLoses k s) (fun y _ hi hy => hy.trans (.markLost k y (List.mem_range.mp hi))) (.refl k s)

theorem markClock_lost (s : State) {k : SdckNo} {c : SdChan} (hc : c.val / 16 = k.val) : (s.markClock k.val).laws.lost[c] = true := by
  unfold State.markClock
  refine foldl_reaches (I := fun _ => True) (J := fun y => y.laws.lost[c] = true) (a := c.val % 16) (fun _ _ _ _ => trivial)
    (fun y i hi hy => (ClockLoses.markLost k y (List.mem_range.mp hi)).lost c hy) (fun y _ => ?_)
    (List.mem_range.mpr (Nat.mod_lt _ (by decide))) trivial
  exact (vput_get _ _ _ c.val c.isLt).trans (if_pos (by omega))

/-- The state in which a clock and its channels are lost, and nothing follows from it yet (R228). -/
def State.clockMarked (s : State) (k : SdckNo) : State := (s.clockTold k true 1).markClock k.val

theorem State.clockMarked_chg (s : State) (k : SdckNo) : Chg [.laws, .port] s (s.clockMarked k) :=
  (s.clockTold_chg k true 1).step ((s.clockTold k true 1).markClock_chg k.val) rfl

theorem clockMarked_spec (s : State) (k : SdckNo) :
    (s.clockMarked k).laws.clocks = s.laws.clocks.set k { lost := true } ∧ (s.clockMarked k).laws.laws = s.laws.laws ∧
      (∀ c : SdChan, c.val / 16 = k.val → (s.clockMarked k).laws.lost[c] = true) ∧
      ∀ c : SdChan, c.val / 16 ≠ k.val → (s.clockMarked k).laws.lost[c] = s.laws.lost[c] := by
  have hall := ClockLoses.markClock k (s.clockTold k true 1)
  have htold := s.clockTold_laws k true 1
  exact ⟨hall.clocks.trans (congrArg Laws.clocks htold), ((s.clockTold k true 1).markClock_laws k.val).trans (congrArg Laws.laws htold :),
    fun c hc => markClock_lost _ hc, fun c hc => (hall.other c hc).trans (congrArg (fun x : Laws => x.lost[c]) htold :)⟩

theorem failSet_invalid {s : State} {i : SetId} (hstarted : s.carousel.started = true) (hwired : s.wired i = true)
    (hvalid : (s.carousel.set i).valid = true) (cause : RefCause) : ((s.failSet i cause).carousel.set i).valid = false := by
  have hfail : s.failSet i cause =
      if (s.setFailed i cause).carousel.followed = i then (s.setFailed i cause).followedFailed else s.setFailed i cause := by
    simp only [State.failSet, hstarted, hwired, hvalid, Bool.and_self, if_true]
    rfl
  have hset : ((s.setFailed i cause).carousel.set i).valid = false := by simp [State.setFailed_carousel]
  rw [hfail]
  split
  · rw [(s.setFailed i cause).followedFailed_keeps.1]
    exact hset
  · exact hset

/-- What SDCK_LOST makes of the reference set that its clock serves. -/
def State.failClocked (s : State) (k : SdckNo) : State :=
  if k.val = 14 then s.failSet .a .clockLost else if k.val = 15 then s.failSet .b .clockLost else s

theorem State.failClocked_chg (s : State) (k : SdckNo) : Chg [.carousel, .pair, .port] s (s.failClocked k) := by
  unfold State.failClocked
  split
  · exact State.failSet_chg ..
  · split
    · exact State.failSet_chg ..
    · exact .refl _ _

theorem exec_sdckLost {s z : State} {t : Nat} {k : SdckNo} {o : ClockObs} (hz : z = s.advance t) (hgone : clockGone o = true)
    (hlost : z.laws.clocks[k].lost = false) :
    exec (.sdckLost t k o) s = .next (((z.clockMarked k).submit (.clockLost k) (·.loseClock k.val)).failClocked k) := by
  show execSdckLost t k o s = _
  unfold execSdckLost
  rw [← hz]
  exact congrArg Host.Outcome.next (if_pos (by rw [hgone, hlost]; rfl))

/-- A stopped law is READY again (R233). -/
def State.cleared (s : State) (l : LawNo) : State :=
  s.modLaw l.val fun x => { x with st := .ready, causes := [], trips := 0, x := [] }

/-- Settles O28: the channels are lost at once, and the laws that read them coast when the input takes effect. -/
theorem feedbackAndLawClear : Obligations.FeedbackAndLawClear := by
  unfold Obligations.FeedbackAndLawClear
  refine ⟨?_, ?_, ?_, ?_, ?_, ?_, ?_⟩
  · intro s z t c n hz hn hlost
    have hexec : exec (.feedbackLost t c n) s = .next ((z.markLost c.val).submit (.feedbackLost c) (·.loseChannel c.val)) := by
      show execFeedbackLost t c n s = _
      unfold execFeedbackLost
      rw [← hz]
      exact congrArg Host.Outcome.next (if_pos (by rw [hlost]; simp [hn]))
    have hchg := Chg.of_exec (execFeedbackLost_chg t c n s) hexec
    rw [← hz] at hchg
    have hmark : (z.markLost c.val).laws.lost = z.laws.lost.set c true := vput_fin ..
    refine ⟨_, hexec, ?_, fun hholds => ?_, fun hfollows => ?_, .of_chg hchg (by decide)⟩
    · by_cases hj : journals z.pair.st = true
      · rw [(State.submit_chg_pair (s := z.markLost c.val) hj _ _).laws rfl, hmark]
      · rw [State.submit_alone (s := z.markLost c.val) (Bool.eq_false_iff.mpr hj), (loseChannel_lost _ _).1, hmark, vput_fin]
        exact Vector.set_set ..
    · have hsub := State.submit_chg_pair (s := z.markLost c.val) (journals_of_holds hholds) (.feedbackLost c)
        (·.loseChannel c.val)
      have hlaws := congrArg Laws.laws (hsub.laws rfl)
      exact ⟨hlaws, hsub.legs rfl, submit_pair_of_holds (State.markLost_chg ..) rfl hholds _ _⟩
    · rw [State.submit_follows (s := z.markLost c.val) hfollows rfl]
      exact ⟨rfl, rfl, rfl⟩
  · intro c
    refine .of_apply fun z tick stamp _ => ?_
    have happly : z.applyInput tick stamp (.feedbackLost c) = z.loseChannel c.val := rfl
    rw [happly]
    exact ⟨fun l hlaw hrun hreads => loseChannel_reader hlaw hreads (.inl hrun), fun l hreads => loseChannel_unread hreads,
      .of_chg (State.loseChannel_chg ..) (by decide)⟩
  · intro s z t k o hz hgone hlost
    have hexec := exec_sdckLost hz hgone hlost
    have hchg := Chg.of_exec (execSdckLost_chg t k o s) hexec
    rw [← hz] at hchg
    obtain ⟨hclocks, hlaws, hmine, hothers⟩ := clockMarked_spec z k
    have hmarked := z.clockMarked_chg k
    have hsub : Chg [.legs, .laws, .port, .pair] (z.clockMarked k) ((z.clockMarked k).submit (.clockLost k) (·.loseClock k.val)) :=
      State.submit_chg (fun y => (State.loseClock_chg y k.val).widen rfl) rfl
    have hloses : ClockLoses k (z.clockMarked k) ((z.clockMarked k).submit (.clockLost k) (·.loseClock k.val)) := by
      by_cases hj : journals (z.clockMarked k).pair.st = true
      · have hlaws := (State.submit_chg_pair hj (.clockLost k) (·.loseClock k.val)).laws rfl
        exact ⟨by rw [hlaws], fun _ _ => by rw [hlaws], fun _ h => by rw [hlaws]; exact h⟩
      · rw [State.submit_alone (Bool.eq_false_iff.mpr hj)]
        exact .loseClock k _
    have hcar := (hsub.carousel rfl).trans (hmarked.carousel rfl)
    have hstart := (hsub.startup rfl).trans (hmarked.startup rfl)
    have hsame (hk : k.val < 14) (y : State) : y.failClocked k = y := by
      unfold State.failClocked
      rw [if_neg (by omega), if_neg (by omega)]
    have hfinal := (State.failClocked_chg ((z.clockMarked k).submit (.clockLost k) (·.loseClock k.val)) k).laws rfl
    refine ⟨_, hexec, ?_, fun c hc => ?_, fun c hc => ?_, fun hk hstarted hwired hvalid => ?_, fun hk => ?_, fun hk hholds => ?_,
      .of_chg hchg (by decide)⟩
    · rw [hfinal, hloses.clocks, hclocks]
      simp
    · rw [hfinal]
      exact hloses.lost c (hmine c hc)
    · rw [hfinal, hloses.other c hc, hothers c hc]
    · unfold State.failClocked
      rw [if_pos hk]
      have hwired' := (State.wired_of_startup hstart .a).trans hwired
      exact failSet_invalid (i := .a) (by rw [hcar]; exact hstarted) hwired' (by rw [hcar]; exact hvalid) .clockLost
    · rw [hsame hk, hcar]
    · rw [hsame hk]
      have hj : journals (z.clockMarked k).pair.st = true := by
        rw [hmarked.pair rfl]
        exact journals_of_holds hholds
      have hkept := (State.submit_chg_pair hj (.clockLost k) (·.loseClock k.val)).laws rfl
      exact ⟨(congrArg Laws.laws hkept).trans hlaws, submit_pair_of_holds hmarked rfl hholds _ _⟩
  · intro k
    refine .of_apply fun z tick stamp _ => ?_
    have happly : z.applyInput tick stamp (.clockLost k) = z.loseClock k.val := rfl
    rw [happly]
    exact ⟨fun l c hc hlaw hrun hreads => loseClock_reader hc hlaw hreads hrun, .of_chg (State.loseClock_chg ..) (by decide)⟩
  · intro s z t k n hz hn hlost
    have hexec : exec (.sdckValid t k n) s = .next (z.clockTold k false 0) := by
      show execSdckValid t k n s = _
      unfold execSdckValid
      rw [← hz]
      exact congrArg Host.Outcome.next (if_pos (by rw [hlost]; simp [hn]))
    exact ⟨_, hexec, z.clockTold_laws k false 0, State.lastEv_raise .., .of_chg (z.clockTold_chg k false 0) (by decide)⟩
  · intro c l
    refine .of_change (fun x s => s.opLawClear x l) (fun s t => rfl) (fun x arrival z => rfl) fun z v x ⟨hst, hcauses⟩ => ?_
    let y := ((z.withConns v).cleared l).raise .lawCleared [l.val, (roleBit x.role : Int)]
    have hop : (z.withConns v).opLawClear x l = y.reply x 0 := by
      refine if_neg ?_
      rw [Bool.or_eq_true, not_or]
      refine ⟨fun h => of_decide_eq_true h hst, fun hany => ?_⟩
      obtain ⟨cause, hmem, hholds⟩ := List.any_eq_true.mp hany
      exact absurd (hcauses cause hmem) (by rw [Bool.not_eq_false]; exact hholds)
    have hlaw (m : LawNo) : (y.reply x 0).law m.val = ((z.withConns v).cleared l).law m.val :=
      congrArg (fun k : Laws => vget k.laws m.val {}) ((State.reply_chg ..).laws rfl)
    have hchg : Chg [.laws, .port] z (y.reply x 0) :=
      ((((z.withConns_chg v).widen rfl).step (State.modLaw_chg ..) rfl).step (State.raise_chg ..) rfl).step (State.reply_chg ..) rfl
    rw [hop]
    refine ⟨⟨(hlaw l).trans (State.law_modLaw ..), fun m hm => ?_, ?_, .of_chg hchg (by decide)⟩,
      fun hx hw => State.res_reply (s := y) hx ((State.waits_raise ..).trans hw) 0 []⟩
    · exact (hlaw m).trans (State.law_modLaw_other _ (fun h => hm (Fin.ext h)) _)
    · exact (State.lastEv_reply ..).trans (State.lastEv_raise ..)
  · intro c l
    refine .of_change (fun x s => s.opLawClear x l) (fun s t => rfl) (fun x arrival z => rfl) fun z v x hst => ?_
    have hop : (z.withConns v).opLawClear x l = (z.withConns v).reply x 4 :=
      if_pos (Bool.or_eq_true _ _ |>.mpr (.inl (decide_eq_true hst)))
    rw [hop]
    exact ⟨.of_chg ((z.withConns_chg v).trans (State.reply_chg ..)) (by decide), fun hx hw => State.res_reply hx hw 4 []⟩

end Sys2Proof.Machine
end

section
/-!
Proofs of the statements about faulty safety channels, the safety reset and weld checks (chapter 12).
-/
namespace Sys2Proof.Machine
open Sys2Proof Sys2Proof.Config

/-! Inputs and functions after a change of one. -/

theorem State.safeIn_modIn_same (s : State) {i : Nat} (hi : i < 32) (f : SafeIn → SafeIn) :
    (s.modIn i f).safeIn i = f (s.safeIn i) := (vget_vmapIdx _ _ _ _ hi).trans (if_pos rfl)

theorem State.safeIn_modIn_other (s : State) {i j : Nat} (hj : j ≠ i) (f : SafeIn → SafeIn) :
    (s.modIn i f).safeIn j = s.safeIn j := by
  by_cases hlt : j < 32
  · exact (vget_vmapIdx _ _ _ _ hlt).trans (if_neg hj)
  · exact (vget_of_ge _ _ _ (not_lt.mp hlt)).trans (vget_of_ge _ _ _ (not_lt.mp hlt)).symm

theorem State.safeFn_modFn_same (s : State) {n : Nat} (hn : n < 32) (f : SafeFn → SafeFn) :
    (s.modFn n f).safeFn n = f (s.safeFn n) := (vget_vmapIdx _ _ _ _ hn).trans (if_pos rfl)

theorem State.safeFn_modFn_other (s : State) {n m : Nat} (hm : m ≠ n) (f : SafeFn → SafeFn) :
    (s.modFn n f).safeFn m = s.safeFn m := by
  by_cases hlt : m < 32
  · exact (vget_vmapIdx _ _ _ _ hlt).trans (if_neg hm)
  · exact (vget_of_ge _ _ _ (not_lt.mp hlt)).trans (vget_of_ge _ _ _ (not_lt.mp hlt)).symm

theorem State.num_lt {s : State} {f : FnRec} (h : f ∈ s.safeFns) : f.num < 32 := by
  obtain ⟨i, -, rfl⟩ := List.mem_map.mp h
  exact Nat.mod_lt _ (by decide)

theorem State.safeFn_raise (s : State) (e : Ev) (val : List Int) (n : Nat) : (s.raise e val).safeFn n = s.safeFn n :=
  congrArg (fun x : Safety => vget x.fns n {}) ((State.raise_chg s e val).safety rfl)

theorem State.mem_of_fnRec {s : State} {n : Nat} {f : FnRec} (h : s.fnRec n = some f) : f ∈ s.safeFns ∧ f.num = n :=
  by
  unfold State.fnRec at h
  exact ⟨List.mem_of_find?_eq_some h, by simpa using List.find?_some h⟩

theorem State.mem_of_fnOfInput {s : State} {i : Nat} {f : FnRec} (h : s.fnOfInput i = some f) : f ∈ s.safeFns ∧ i ∈ f.chans :=
  by
  unfold State.fnOfInput at h
  exact ⟨List.mem_of_find?_eq_some h, by simpa using List.find?_some h⟩

/-! What an evaluation leaves. -/

/-- The evaluation changes demands, their causes and their instants, and nothing else of the section's state. -/
structure Evaluates (s u : State) : Prop where
  ins : u.safety.ins = s.safety.ins
  sect : u.safety.sect = s.safety.sect
  fns : ∀ n, ∃ d c t, u.safeFn n = { s.safeFn n with demand := d, cause := c, since := t }

theorem Evaluates.of_safety {s u : State} (h : u.safety = s.safety) : Evaluates s u :=
  ⟨by rw [h], by rw [h], fun n => ⟨_, _, _, congrArg (fun x : Safety => vget x.fns n {}) h⟩⟩

theorem Evaluates.trans {a b c : State} (h : Evaluates a b) (k : Evaluates b c) : Evaluates a c := by
  refine ⟨k.ins.trans h.ins, k.sect.trans h.sect, fun n => ?_⟩
  obtain ⟨_, _, _, hb⟩ := h.fns n
  obtain ⟨d, x, t, hc⟩ := k.fns n
  exact ⟨d, x, t, by rw [hc, hb]⟩

theorem Evaluates.modFn (s : State) (n : Nat) (d : SafeFn → Bool) (c : SafeFn → Nat) (t : SafeFn → Nat) :
    Evaluates s (s.modFn n fun x => { x with demand := d x, cause := c x, since := t x }) := by
  refine ⟨rfl, rfl, fun m => ?_⟩
  by_cases hm : m = n
  · subst hm
    by_cases hlt : m < 32
    · exact ⟨_, _, _, s.safeFn_modFn_same hlt _⟩
    · exact ⟨_, _, _, (vget_of_ge _ _ _ (not_lt.mp hlt)).trans (vget_of_ge _ _ _ (not_lt.mp hlt)).symm⟩
  · exact ⟨_, _, _, s.safeFn_modFn_other hm _⟩

theorem Evaluates.endDemand (s : State) (f : FnRec) : Evaluates s (s.endDemand f) :=
  (Evaluates.modFn s f.num (fun _ => false) (·.cause) (·.since)).trans (.of_safety ((State.raise_chg ..).safety rfl))

theorem Evaluates.evalFn (s : State) (f : FnRec) : Evaluates s (s.evalFn f) := by
  unfold State.evalFn
  extract_lets x want
  split
  · exact (Evaluates.modFn s f.num (fun _ => true) (fun _ => s.fnCause f) (fun _ => s.time.clock)).trans
      (.of_safety ((State.raise_chg ..).safety rfl))
  · split
    · exact .endDemand s f
    · exact .of_safety rfl

theorem Evaluates.react (s : State) : Evaluates s s.react :=
  ⟨s.react_ins, s.react_sect, fun n => ⟨_, _, _, congrArg (fun x : Vector SafeFn 32 => vget x n {}) s.react_fns⟩⟩

theorem Evaluates.fnWanted {s u : State} (h : Evaluates s u) (f : FnRec) : u.fnWanted f = s.fnWanted f := by
  obtain ⟨_, _, _, hf⟩ := h.fns f.num
  unfold State.fnWanted State.chanDemand State.safeIn
  rw [hf, h.ins]

theorem Evaluates.evalFns (s : State) : Evaluates s s.evalFns := by
  unfold State.evalFns
  exact (foldl_keeps (I := Evaluates s) (f := State.evalFn) (fun y g _ hy => hy.trans (.evalFn y g)) (.of_safety rfl)).trans (.react _)

/-! The demand of a function after an evaluation. -/

theorem endDemand_demand (s : State) {f : FnRec} (hf : f.num < 32) (n : Nat) :
    ((s.endDemand f).safeFn n).demand = if n = f.num then false else (s.safeFn n).demand := by
  unfold State.endDemand
  extract_lets since
  rw [State.safeFn_raise]
  split
  next hn => rw [hn, s.safeFn_modFn_same hf]
  next hn => rw [s.safeFn_modFn_other hn]

theorem evalFn_demand (s : State) {f : FnRec} (hf : f.num < 32) (n : Nat) :
    ((s.evalFn f).safeFn n).demand = if n = f.num then
      (if s.fnWanted f = true then true else if f.manual = true then (s.safeFn n).demand else false) else (s.safeFn n).demand := by
  have hset (d : Bool) (c t : Nat) (e : Ev) (val : List Int) :
      (((s.modFn f.num fun x => { x with demand := d, cause := c, since := t }).raise e val).safeFn n).demand =
        if n = f.num then d else (s.safeFn n).demand := by
    rw [State.safeFn_raise]
    split
    next hn => rw [hn, s.safeFn_modFn_same hf]
    next hn => rw [s.safeFn_modFn_other hn]
  have hend := endDemand_demand s hf n
  unfold State.evalFn
  dsimp only
  by_cases hn : n = f.num
  · subst hn
    cases hwant : s.fnWanted f <;> cases hdemand : (s.safeFn f.num).demand <;> cases hmanual : f.manual <;>
      simp [hset, hend, hdemand]
  · split
    · rw [hset, if_neg hn]
    · split
      · rw [hend, if_neg hn]
      · rfl

theorem evalFns_eq (s : State) : s.evalFns = (s.safeFns.foldl State.evalFn s).react := rfl

/-- A function whose condition holds is in demand after the evaluation, and its outputs are off (R475, R480, R483). -/
theorem evalFns_demand {s : State} {f : FnRec} (hf : f ∈ s.safeFns) (hwant : ∀ g ∈ s.safeFns, g.num = f.num → s.fnWanted g = true) :
    (s.evalFns.safeFn f.num).demand = true ∧
      ∀ n : SoNo, f.so / 2 ^ n.val % 2 = 1 → (vget s.evalFns.safety.outs n.val {}).on = false := by
  let y := s.safeFns.foldl State.evalFn s
  have hkeeps : Evaluates s y := foldl_keeps (I := Evaluates s) (f := State.evalFn) (fun x g _ hx => hx.trans (.evalFn x g)) (.of_safety rfl)
  have hdemand : (y.safeFn f.num).demand = true := by
    refine (foldl_reaches (I := fun x => Evaluates s x) (J := fun x => Evaluates s x ∧ (x.safeFn f.num).demand = true)
      (f := State.evalFn) (l := s.safeFns) (fun x g _ hx => hx.trans (.evalFn x g)) (fun x g hg ⟨hx, hd⟩ => ?_) (fun x hx => ?_)
      hf (.of_safety rfl)).2
    · refine ⟨hx.trans (.evalFn x g), ?_⟩
      rw [evalFn_demand x (State.num_lt hg)]
      split
      next hn => rw [if_pos ((hx.fnWanted g).trans (hwant g hg hn.symm))]
      next => exact hd
    · refine ⟨hx.trans (.evalFn x f), ?_⟩
      rw [evalFn_demand x (State.num_lt hf), if_pos rfl, if_pos ((hx.fnWanted f).trans (hwant f hf rfl))]
  have hfns : s.evalFns.safeFn f.num = y.safeFn f.num := congrArg (fun x : Vector SafeFn 32 => vget x f.num {}) y.react_fns
  refine ⟨by rw [hfns]; exact hdemand, fun n hn => ?_⟩
  obtain ⟨hon, -⟩ := y.react_out n
  refine hon.trans ?_
  have hso : y.soDemand n.val = true := by
    refine List.any_eq_true.mpr ⟨f, ?_, by simp [hdemand, hn]⟩
    unfold State.safeFns
    rw [hkeeps.sect]
    exact hf
  simp [State.soWanted, hso]

/-- A function whose condition does not hold, and that is not in demand, is in none after the evaluation. -/
theorem evalFns_free {s : State} {n : Nat} (hwant : ∀ g ∈ s.safeFns, g.num = n → s.fnWanted g = false)
    (hd : (s.safeFn n).demand = false) : (s.evalFns.safeFn n).demand = false := by
  let y := s.safeFns.foldl State.evalFn s
  have hfns : s.evalFns.safeFn n = y.safeFn n := congrArg (fun x : Vector SafeFn 32 => vget x n {}) y.react_fns
  rw [hfns]
  refine (foldl_keeps (I := fun x => Evaluates s x ∧ (x.safeFn n).demand = false) (f := State.evalFn) (l := s.safeFns)
    (fun x g hg ⟨hx, hfree⟩ => ⟨hx.trans (.evalFn x g), ?_⟩) ⟨.of_safety rfl, hd⟩).2
  rw [evalFn_demand x (State.num_lt hg)]
  split
  next hn =>
    rw [hx.fnWanted g, hwant g hg hn.symm, if_neg Bool.false_ne_true, hfree, ite_self]
  next => exact hfree

/-! A channel becomes faulty (R472, R476, R487). -/

/-- The channel is faulty and told; nothing has followed for its function. -/
def State.channelFaulted (s : State) (i cause : Nat) (f : FnRec) : State :=
  (s.modIn i fun x => { x with fault := some cause, repaired := false }).raise .channelFault [f.num, i, cause]

/-- The other channel of a function, where it is good. -/
def State.goodChan (s : State) (f : FnRec) (i : Nat) : Option Nat := f.chans.find? fun j => j ≠ i && (s.safeIn j).fault.isNone

/-- The function goes on in degraded mode (R487). -/
def State.degradeFn (s : State) (f : FnRec) (j : Nat) : State :=
  (s.modFn f.num fun x => { x with degraded := true, minuteAt := s.time.clock }).raise .degradedStart [f.num, j]

/-- The function is forced into demand (R488). -/
def State.forceFn (s : State) (f : FnRec) : State := s.modFn f.num fun x => { x with forced := true }

theorem State.safeIn_channelFaulted_same (s : State) {i : Nat} (hi : i < 32) (cause : Nat) (f : FnRec) :
    (s.channelFaulted i cause f).safeIn i = { s.safeIn i with fault := some cause, repaired := false } :=
  s.safeIn_modIn_same hi _

theorem State.goodChan_channelFaulted (s : State) (i cause : Nat) (f g : FnRec) :
    (s.channelFaulted i cause f).goodChan g i = s.goodChan g i := by
  unfold State.goodChan
  congr 1
  funext j
  by_cases hj : j = i
  · simp [hj]
  · have hsame : (s.channelFaulted i cause f).safeIn j = s.safeIn j := s.safeIn_modIn_other hj _
    rw [hsame]

section
variable {s : State} {i cause : Nat} {f : FnRec} (hfault : (s.safeIn i).fault = none) (hf : s.fnOfInput i = some f)
include hfault hf

theorem faultChannel_forced (h : s.goodChan f i = none ∨ s.degradeMin = 0) :
    s.faultChannel i cause = ((s.channelFaulted i cause f).forceFn f).evalFns := by
  unfold State.faultChannel
  rw [if_neg (by simp [hfault]), hf]
  have hgood := s.goodChan_channelFaulted i cause f f
  unfold State.goodChan at hgood
  have hmin : (s.channelFaulted i cause f).degradeMin = s.degradeMin := rfl
  dsimp only
  rw [show (s.modIn i fun x => { x with fault := some cause, repaired := false }).raise .channelFault [f.num, i, cause] =
    s.channelFaulted i cause f from rfl, hgood]
  split
  next hj =>
    rw [hmin]
    have hzero : s.degradeMin = 0 := h.resolve_left fun hnone => nomatch hj.symm.trans hnone
    rw [if_pos hzero]
    rfl
  next => rfl

theorem faultChannel_good {j : Nat} (h : s.goodChan f i = some j) (hmin : s.degradeMin ≠ 0) :
    s.faultChannel i cause = if (s.safeFn f.num).degraded = true then (s.channelFaulted i cause f).evalFns
      else ((s.channelFaulted i cause f).degradeFn f j).evalFns := by
  unfold State.faultChannel
  rw [if_neg (by simp [hfault]), hf]
  have hgood := s.goodChan_channelFaulted i cause f f
  unfold State.goodChan at hgood h
  dsimp only
  rw [show (s.modIn i fun x => { x with fault := some cause, repaired := false }).raise .channelFault [f.num, i, cause] =
    s.channelFaulted i cause f from rfl, hgood, h]
  exact if_neg hmin

end

/-! What has become of the channel and its function once the reactions have followed. -/

theorem State.safeIn_of_ins {s u : State} (h : u.safety.ins = s.safety.ins) (i : Nat) : u.safeIn i = s.safeIn i :=
  congrArg (fun x : Vector SafeIn 32 => vget x i {}) h

theorem State.safeFn_of_safety {s u : State} (h : u.safety = s.safety) (n : Nat) : u.safeFn n = s.safeFn n :=
  congrArg (fun x : Safety => vget x.fns n {}) h

theorem State.pauseScan_safety (s : State) : s.pauseScan.safety = s.safety := (State.pauseScan_chg s).safety rfl

theorem Evaluates.scanned (s : State) : Evaluates s s.evalFns.pauseScan :=
  (Evaluates.evalFns s).trans (.of_safety (State.pauseScan_safety _))

theorem Evaluates.forced {s u : State} (h : Evaluates s u) (n : Nat) : (u.safeFn n).forced = (s.safeFn n).forced := by
  obtain ⟨_, _, _, hn⟩ := h.fns n
  rw [hn]

theorem Evaluates.degraded {s u : State} (h : Evaluates s u) (n : Nat) : (u.safeFn n).degraded = (s.safeFn n).degraded := by
  obtain ⟨_, _, _, hn⟩ := h.fns n
  rw [hn]

theorem Evaluates.safeIn {s u : State} (h : Evaluates s u) (i : Nat) : u.safeIn i = s.safeIn i := State.safeIn_of_ins h.ins i

/-- A forced function is in demand with its outputs off (R475, R480, R483). -/
theorem forced_scanned {s : State} {f : FnRec} (hf : f ∈ s.safeFns) (hforced : (s.safeFn f.num).forced = true) :
    (s.evalFns.pauseScan.safeFn f.num).forced = true ∧ (s.evalFns.pauseScan.safeFn f.num).demand = true ∧
      ∀ n : SoNo, f.so / 2 ^ n.val % 2 = 1 → (vget s.evalFns.pauseScan.safety.outs n.val {}).on = false := by
  obtain ⟨hdemand, houts⟩ := evalFns_demand hf fun g _ hnum => by simp [State.fnWanted, hnum, hforced]
  refine ⟨((Evaluates.scanned s).forced _).trans hforced, ?_, fun n hn => ?_⟩
  · rw [State.safeFn_of_safety (State.pauseScan_safety _), hdemand]
  · rw [State.pauseScan_safety, houts n hn]

theorem State.forceFn_forced (s : State) {f : FnRec} (hf : f.num < 32) : ((s.forceFn f).safeFn f.num).forced = true := by
  unfold State.forceFn
  rw [s.safeFn_modFn_same hf]

/-- The faulty channel, and its function forced into demand. -/
theorem faultChannel_forces {s : State} {i cause : Nat} {f : FnRec} (hi : i < 32) (hfault : (s.safeIn i).fault = none)
    (hf : s.fnOfInput i = some f) (h : s.goodChan f i = none ∨ s.degradeMin = 0) :
    ((s.faultChannel i cause).pauseScan.safeIn i).fault = some cause ∧
      ((s.faultChannel i cause).pauseScan.safeFn f.num).forced = true ∧
      ((s.faultChannel i cause).pauseScan.safeFn f.num).demand = true ∧
      ∀ n : SoNo, f.so / 2 ^ n.val % 2 = 1 → (vget (s.faultChannel i cause).pauseScan.safety.outs n.val {}).on = false := by
  rw [faultChannel_forced hfault hf h]
  obtain ⟨hmem, -⟩ := State.mem_of_fnOfInput hf
  refine ⟨?_, forced_scanned (s := (s.channelFaulted i cause f).forceFn f) hmem (State.forceFn_forced _ (State.num_lt hmem))⟩
  rw [(Evaluates.scanned _).safeIn]
  exact congrArg SafeIn.fault (s.safeIn_channelFaulted_same hi cause f)

/-- The faulty channel, and its function in degraded mode. -/
theorem faultChannel_degrades {s : State} {i cause j : Nat} {f : FnRec} (hi : i < 32) (hfault : (s.safeIn i).fault = none)
    (hf : s.fnOfInput i = some f) (h : s.goodChan f i = some j) (hmin : s.degradeMin ≠ 0) :
    ((s.faultChannel i cause).pauseScan.safeIn i).fault = some cause ∧
      ((s.faultChannel i cause).pauseScan.safeFn f.num).degraded = true ∧
      ((s.faultChannel i cause).pauseScan.safeFn f.num).forced = (s.safeFn f.num).forced := by
  rw [faultChannel_good hfault hf h hmin]
  obtain ⟨hmem, -⟩ := State.mem_of_fnOfInput hf
  have hfaulted := congrArg SafeIn.fault (s.safeIn_channelFaulted_same hi cause f)
  split
  next hdegraded =>
    have hscan := Evaluates.scanned (s.channelFaulted i cause f)
    exact ⟨(congrArg SafeIn.fault (hscan.safeIn i)).trans hfaulted, (hscan.degraded f.num).trans hdegraded, hscan.forced f.num⟩
  next =>
    have hscan := Evaluates.scanned ((s.channelFaulted i cause f).degradeFn f j)
    have hfn : ((s.channelFaulted i cause f).degradeFn f j).safeFn f.num = { s.safeFn f.num with degraded := true, minuteAt := s.time.clock } :=
      ((s.channelFaulted i cause f).safeFn_modFn_same (State.num_lt hmem) _)
    refine ⟨(congrArg SafeIn.fault (hscan.safeIn i)).trans hfaulted, (hscan.degraded f.num).trans ?_, (hscan.forced f.num).trans ?_⟩ <;>
      rw [hfn]

theorem faultChannel_safeIn {s : State} {i cause j : Nat} (hj : j ≠ i) : (s.faultChannel i cause).pauseScan.safeIn j = s.safeIn j := by
  have hput (f : FnRec) : (s.channelFaulted i cause f).safeIn j = s.safeIn j := s.safeIn_modIn_other hj _
  rw [State.safeIn_of_ins (congrArg Safety.ins (State.pauseScan_safety _))]
  unfold State.faultChannel
  split
  · rfl
  · split
    · rfl
    next f _ =>
      dsimp only
      have hkeep {y : State} (hy : y.safety.ins = (s.channelFaulted i cause f).safety.ins) : y.evalFns.safeIn j = s.safeIn j :=
        ((Evaluates.evalFns y).safeIn j).trans ((State.safeIn_of_ins hy j).trans (hput f))
      split
      · split
        · exact hkeep rfl
        · split
          · exact hkeep rfl
          · exact hkeep rfl
      · exact hkeep rfl

/-- Settles O30: a faulty channel brings degraded mode where the section permits it and the other channel is good, forced demand otherwise. -/
theorem faultyChannels : Obligations.FaultyChannels := by
  unfold Obligations.FaultyChannels
  refine ⟨?_, ?_, ?_, ?_, ?_, ?_⟩
  · intro s z t i f hz hdie hf hdemand hfault _ ⟨j, hj, hne, hgood⟩ hmin _ hmiss
    have hexec : exec (.pulseFault t i .missing) s = .next (z.faultChannel i.val 0).pauseScan := by
      show execPulseFault t i .missing s = _
      unfold execPulseFault
      rw [← hz]
      exact congrArg Host.Outcome.next ((if_pos (by rw [hdie, hf, hdemand]; rfl)).trans (if_pos hmiss))
    have hchg := Chg.of_exec (execPulseFault_chg t i .missing s) hexec
    rw [← hz] at hchg
    obtain ⟨k, hk⟩ : ∃ k, z.goodChan f i.val = some k :=
      Option.isSome_iff_exists.mp (List.find?_isSome.mpr ⟨j, hj, by simp [hne, hgood]⟩)
    obtain ⟨hin, hdegraded, hforced⟩ := faultChannel_degrades (cause := 0) i.isLt hfault hf hk hmin
    exact ⟨_, hexec, hin, hdegraded, hforced, .of_chg hchg (by decide)⟩
  · intro s z t i f hz hdie hf hdemand hfault hcase hforeign
    have hexec : exec (.pulseFault t i .foreign) s = .next (z.faultChannel i.val 1).pauseScan := by
      show execPulseFault t i .foreign s = _
      unfold execPulseFault
      rw [← hz]
      exact congrArg Host.Outcome.next ((if_pos (by rw [hdie, hf, hdemand]; rfl)).trans (if_pos hforeign))
    have hchg := Chg.of_exec (execPulseFault_chg t i .foreign s) hexec
    rw [← hz] at hchg
    have hgood : z.goodChan f i.val = none ∨ z.degradeMin = 0 := by
      refine hcase.imp_left fun hone => ?_
      obtain ⟨-, hmem⟩ := State.mem_of_fnOfInput hf
      have hchans : f.chans = [f.siA] := by simp [FnRec.chans, hone]
      have hi : i.val = f.siA := List.mem_singleton.mp (hchans ▸ hmem)
      simp [State.goodChan, hchans, hi]
    obtain ⟨hin, hforced, hdemanded, houts⟩ := faultChannel_forces (cause := 1) i.isLt hfault hf hgood
    exact ⟨_, hexec, hin, hforced, hdemanded, houts, .of_chg hchg (by decide)⟩
  · intro s z t fn f hz hdie hf htwo hlt hinput hdemA hfaultA hdemB hfaultB hdue
    have hexec : exec (.discrepancyTimeout t fn) s = .next (z.faultChannel f.siB 2).pauseScan := by
      show execDiscrepancyTimeout t fn s = _
      unfold execDiscrepancyTimeout
      rw [← hz]
      dsimp only
      rw [hf]
      refine congrArg Host.Outcome.next ((if_neg (by simp [hdie, htwo])).trans (if_pos ?_))
      simp [hdemA, hdemB, hfaultA, State.expired, hdue]
    have hchg := Chg.of_exec (execDiscrepancyTimeout_chg t fn s) hexec
    rw [← hz] at hchg
    obtain ⟨-, hnum⟩ := State.mem_of_fnRec hf
    have hne : f.siA ≠ f.siB := fun h => Bool.false_ne_true (hdemB.symm.trans (h ▸ hdemA))
    obtain ⟨k, hk⟩ : ∃ k, z.goodChan f f.siB = some k :=
      Option.isSome_iff_exists.mp (List.find?_isSome.mpr ⟨f.siA, by simp [FnRec.chans, htwo], by simp [hne, hfaultA]⟩)
    refine ⟨_, hexec, ?_, faultChannel_safeIn hne, ?_, .of_chg hchg (by decide)⟩ <;> by_cases hmin : z.degradeMin = 0
    · exact (faultChannel_forces (cause := 2) hlt hfaultB hinput (.inr hmin)).1
    · exact (faultChannel_degrades (cause := 2) hlt hfaultB hinput hk hmin).1
    · exact .inr (hnum ▸ (faultChannel_forces (cause := 2) hlt hfaultB hinput (.inr hmin)).2.1)
    · exact .inl (hnum ▸ (faultChannel_degrades (cause := 2) hlt hfaultB hinput hk hmin).2.1)
  · intro s z t fn f hz hf hone
    refine ⟨z, ?_, rfl⟩
    show execDiscrepancyTimeout t fn s = _
    unfold execDiscrepancyTimeout
    rw [← hz]
    dsimp only
    rw [hf]
    exact congrArg Host.Outcome.next (if_pos (by simp [hone]))
  · intro s z t i hz hdie hfault hdemand hpass
    have hexec : exec (.channelRepaired t i) s = .next (z.modIn i.val fun x => { x with repaired := true }) := by
      show execChannelRepaired t i s = _
      unfold execChannelRepaired
      rw [← hz]
      exact congrArg Host.Outcome.next (if_pos (by simp [hdie, hdemand, hpass, Option.isSome_iff_ne_none.mpr hfault]))
    exact ⟨_, hexec, z.safeIn_modIn_same i.isLt _, fun m hm => z.safeIn_modIn_other (Fin.val_ne_of_ne hm) _, rfl,
      .of_chg (State.modIn_chg ..) (by decide)⟩
  · intro s z t fn f hz hdie hf hdegraded hforced hbad hexpired
    let y := (z.forceFn f).raise .degradedExpired [fn.val]
    obtain ⟨hmem, hnum⟩ := State.mem_of_fnRec hf
    have hexec : exec (.degradedExpired t fn) s = .next y.evalFns.pauseScan := by
      show execDegradedExpired t fn s = _
      unfold execDegradedExpired
      rw [← hz]
      dsimp only
      rw [hf]
      obtain ⟨j, hj, hjfault, hjrep⟩ := hbad
      have hany : (f.chans.any fun i => (z.safeIn i).fault.isSome && !(z.safeIn i).repaired) = true :=
        List.any_eq_true.mpr ⟨j, hj, by simp [hjrep, Option.isSome_iff_ne_none.mpr hjfault]⟩
      refine congrArg Host.Outcome.next ((if_pos (by simp [hdie, hdegraded, hforced, hany, hexpired])).trans ?_)
      simp only [y, State.forceFn, hnum]
    have hchg := Chg.of_exec (execDegradedExpired_chg t fn s) hexec
    rw [← hz] at hchg
    have hset : (y.safeFn f.num).forced = true :=
      (congrArg SafeFn.forced (State.safeFn_raise ..)).trans (State.forceFn_forced z (State.num_lt hmem))
    obtain ⟨hforced', hdemand, -⟩ := forced_scanned (s := y) hmem hset
    exact ⟨_, hexec, hnum ▸ hforced', hnum ▸ hdemand, (Evaluates.scanned y).ins, .of_chg hchg (by decide)⟩

end Sys2Proof.Machine
end

section
/-!
Proofs of the statement about the safety reset and weld checks (chapter 12).
-/
namespace Sys2Proof.Machine
open Sys2Proof Sys2Proof.Config

/-! The requests that wait, under the reactions of the safety net. -/

theorem WaitsKept.coastLaw (s : State) (l : Nat) (c : LawCause) : WaitsKept s (s.coastLaw l c) := by
  unfold State.coastLaw
  extract_lets w add enter
  have hmod (f : Law → Law) : WaitsKept s (s.modLaw l f) := .of_chg (State.modLaw_chg ..) rfl
  exact .ite (((hmod _).trans (.of_chg (State.decideCoast_chg ..) rfl)).trans (.raise ..)) (.ite (hmod _) (.refl s))

theorem WaitsKept.inhibit (s : State) : WaitsKept s s.inhibit := by
  unfold State.inhibit
  exact (WaitsKept.of_chg (Chg.setLegs s _) rfl).trans (.foldl _ (fun y l => .coastLaw y l _) _ _)

theorem WaitsKept.takeLegsOff (s : State) (side : Side) (on : Bool) : WaitsKept s (s.takeLegsOff side on) := by
  unfold State.takeLegsOff
  extract_lets sides old x
  have hx : WaitsKept s x := .of_chg (Chg.setLegs s _) rfl
  have hassert (y : State) : WaitsKept y y.assertLegsOff := by
    unfold State.assertLegsOff
    extract_lets count z
    exact .ite (.refl y) (((WaitsKept.inhibit y).trans (.of_chg (Chg.setLegs ..) rfl)).trans (.raise ..))
  have hrelease (y : State) : WaitsKept y y.releaseLegsOff := by
    unfold State.releaseLegsOff
    exact .ite ((WaitsKept.of_chg (Chg.setLegs ..) rfl).trans (.raise ..)) (.refl y)
  exact hx.trans (.ite (hassert x) (hrelease x))

theorem WaitsKept.submit {s : State} {i : JInput} {f : State → State} (h : WaitsKept s (f s)) : WaitsKept s (s.submit i f) := by
  by_cases hj : journals s.pair.st = true
  · exact .of_chg (State.submit_chg_pair hj i f) rfl
  · rw [State.submit_alone (Bool.eq_false_iff.mpr hj)]
    exact h

theorem WaitsKept.react (s : State) : WaitsKept s s.react := by
  unfold State.react
  extract_lets x want
  have hx : WaitsKept s x := .of_chg (State.refreshSo_chg ..) rfl
  exact hx.trans (.ite (.refl x) ((WaitsKept.of_chg (State.modSafety_chg ..) rfl).trans (.submit (.takeLegsOff ..))))

theorem WaitsKept.evalFn (s : State) (f : FnRec) : WaitsKept s (s.evalFn f) := by
  unfold State.evalFn
  extract_lets x want
  have hend : WaitsKept s (s.endDemand f) := (WaitsKept.of_chg (State.modFn_chg ..) rfl).trans (.raise ..)
  exact .ite ((WaitsKept.of_chg (State.modFn_chg ..) rfl).trans (.raise ..)) (.ite hend (.refl s))

theorem WaitsKept.evalFns (s : State) : WaitsKept s s.evalFns := by
  unfold State.evalFns
  exact (WaitsKept.foldl State.evalFn .evalFn _ s).trans (.react _)

/-! The requests that wait, under the pauses of the sessions. -/

theorem WaitsKept.closeSession (s : State) (x : Session) (cause : Nat) (wall : Option Nat) (scribe : Nat) :
    WaitsKept s (s.closeSession x cause wall scribe) := by
  unfold State.closeSession
  extract_lets a y w o total held used prepaid b r d no flags body rec_ g u k rec'
  have ha : WaitsKept s a := .of_chg (State.idleAll_chg s) rfl
  have hb : WaitsKept a b := .ite (.of_chg (State.modTokens_chg ..) rfl) (.refl a)
  have hd : WaitsKept b d := by
    unfold d r
    split
    · exact .returnCredit ..
    · exact .refl b
  have hg : WaitsKept d g := .of_chg (State.modRegs_chg ..) rfl
  have hk : WaitsKept g k := by
    unfold k u
    split
    · exact .useKey ..
    · exact .refl g
  exact ((((ha.trans hb).trans hd).trans hg).trans hk).trans (.of_chg (State.modScribe_chg ..) rfl)

theorem WaitsKept.freeCtx (s : State) (c n : Nat) : WaitsKept s (s.freeCtx c n) := by
  unfold State.freeCtx
  extract_lets y
  have hy : WaitsKept s y :=
    ((WaitsKept.of_chg (State.modCtx_chg ..) rfl).trans (.raise ..)).trans (.of_chg (State.rechoose_chg ..) rfl)
  exact hy.trans (.ite (.plugIn ..) (.refl y))

theorem WaitsKept.closeCtx (s : State) (c cause : Nat) : WaitsKept s (s.closeCtx c cause) := by
  unfold State.closeCtx
  extract_lets o y w r v
  have hy : WaitsKept s y := (WaitsKept.of_chg (State.modCtx_chg ..) rfl).trans (.raise ..)
  split
  · exact (hy.trans (.endPeriod y)).trans (.closeSession ..)
  · have hr : WaitsKept y r.2 := by
      unfold r
      split
      · exact .returnCredit ..
      · exact .refl y
    exact (((hy.trans hr).trans (.of_chg (State.modCore_chg ..) rfl)).trans (.issueChange ..)).trans (.freeCtx ..)

theorem WaitsKept.sessionIdle (s : State) (c : Nat) : WaitsKept s (s.sessionIdle c) := by
  unfold State.sessionIdle
  exact (WaitsKept.endPeriod s).trans (.of_chg (State.modSessions_chg ..) rfl)

theorem WaitsKept.endCtx (s : State) (c cause : Nat) : WaitsKept s (s.endCtx c cause) := by
  unfold State.endCtx
  extract_lets y w v
  have hw : WaitsKept s w := (WaitsKept.of_chg (State.modCtx_chg ..) rfl).trans (.raise ..)
  have hv : WaitsKept w v := .ite (.sessionIdle w c) (.refl w)
  have hclose : WaitsKept v (v.tryClose c) := .ite (.closeCtx ..) (.refl v)
  exact .ite (.refl s) ((hw.trans hv).trans hclose)

theorem WaitsKept.pauseCtx (s : State) (c : Nat) : WaitsKept s (s.pauseCtx c) := by
  unfold State.pauseCtx
  extract_lets x l val y
  have hmod (f : Ctx → Ctx) : WaitsKept s (s.modCtx c f) := .of_chg (State.modCtx_chg ..) rfl
  split
  · exact .ite (.refl s) ((hmod _).trans (.raise ..))
  · exact .ite (((hmod _).trans (.of_chg (State.refreshReq_chg ..) rfl)).trans (.raise ..)) (.ite (hmod _) ((hmod _).trans (.raise ..)))
  · exact .ite (.endCtx ..) (.refl s)
  · exact .refl s

theorem WaitsKept.pauseScan (s : State) : WaitsKept s s.pauseScan := by
  unfold State.pauseScan
  exact .foldl State.pauseCtx .pauseCtx _ s

/-! An acknowledgement (R478, R489). -/

/-- What an acknowledgement leaves: of the inputs all but their faults, of the functions all but forced demand, degraded mode and weld. -/
structure Acknowledges (s u : State) : Prop where
  sect : u.safety.sect = s.safety.sect
  ins : ∀ i, ∃ f r, u.safeIn i = { s.safeIn i with fault := f, repaired := r } ∧ ((s.safeIn i).fault = none → f = none)
  fns : ∀ n, ∃ a d m w, u.safeFn n = { s.safeFn n with forced := a, degraded := d, minutes := m, weld := w } ∧
    ((s.safeFn n).forced = false → a = false) ∧ ((s.safeFn n).weld = false → w = false)

theorem Acknowledges.refl (s : State) : Acknowledges s s :=
  ⟨rfl, fun _ => ⟨_, _, rfl, id⟩, fun _ => ⟨_, _, _, _, rfl, id, id⟩⟩

theorem Acknowledges.trans {a b c : State} (h : Acknowledges a b) (k : Acknowledges b c) : Acknowledges a c := by
  refine ⟨k.sect.trans h.sect, fun i => ?_, fun n => ?_⟩
  · obtain ⟨_, _, hb, hnone⟩ := h.ins i
    obtain ⟨f, r, hc, hcnone⟩ := k.ins i
    exact ⟨f, r, by rw [hc, hb], fun hi => hcnone (by rw [hb]; exact hnone hi)⟩
  · obtain ⟨_, _, _, _, hb, hforced, hweld⟩ := h.fns n
    obtain ⟨a, d, m, w, hc, hcforced, hcweld⟩ := k.fns n
    exact ⟨a, d, m, w, by rw [hc, hb], fun hn => hcforced (by rw [hb]; exact hforced hn), fun hn => hcweld (by rw [hb]; exact hweld hn)⟩

theorem Acknowledges.freeIn (s : State) (i : Nat) :
    Acknowledges s (s.modIn i fun x => { x with fault := none, repaired := false }) := by
  refine ⟨rfl, fun j => ?_, fun _ => ⟨_, _, _, _, rfl, id, id⟩⟩
  by_cases hj : j = i
  · subst hj
    by_cases hlt : j < 32
    · exact ⟨_, _, s.safeIn_modIn_same hlt _, fun _ => rfl⟩
    · exact ⟨_, _, (vget_of_ge _ _ _ (not_lt.mp hlt)).trans (vget_of_ge _ _ _ (not_lt.mp hlt)).symm, id⟩
  · exact ⟨_, _, s.safeIn_modIn_other hj _, id⟩

theorem Acknowledges.modFn (s : State) (n : Nat) (g : SafeFn → SafeFn) (hg : ∀ x, ∃ a d m w, g x =
    { x with forced := a, degraded := d, minutes := m, weld := w } ∧ (x.forced = false → a = false) ∧ (x.weld = false → w = false)) :
    Acknowledges s (s.modFn n g) := by
  refine ⟨rfl, fun _ => ⟨_, _, rfl, id⟩, fun m => ?_⟩
  by_cases hm : m = n
  · subst hm
    by_cases hlt : m < 32
    · rw [s.safeFn_modFn_same hlt]
      exact hg _
    · exact ⟨_, _, _, _, (vget_of_ge _ _ _ (not_lt.mp hlt)).trans (vget_of_ge _ _ _ (not_lt.mp hlt)).symm, id, id⟩
  · exact ⟨_, _, _, _, s.safeFn_modFn_other hm _, id, id⟩

/-- The faults of a function's channels are taken away, and it is let go on (R489). -/
def State.restoreFn (s : State) (f : FnRec) : State :=
  (f.chans.foldl (fun s i => s.modIn i fun x => { x with fault := none, repaired := false }) s).modFn f.num fun x =>
    { x with forced := false, degraded := false, minutes := 0 }

theorem Acknowledges.restoreFn (s : State) (f : FnRec) : Acknowledges s (s.restoreFn f) :=
  (foldl_keeps (I := Acknowledges s) (f := fun s i => s.modIn i fun x => { x with fault := none, repaired := false }) (l := f.chans)
    (fun y i _ hy => hy.trans (.freeIn y i)) (.refl s)).trans
    (.modFn _ _ _ fun x => ⟨false, false, 0, x.weld, rfl, fun _ => rfl, id⟩)

/-- Every faulty channel of a function has been repaired. -/
def State.allRepaired (s : State) (f : FnRec) : Bool := f.chans.all fun i => (s.safeIn i).fault.isNone || (s.safeIn i).repaired

theorem Acknowledges.acknowledge (s : State) (f : FnRec) : Acknowledges s (s.acknowledge f) := by
  unfold State.acknowledge
  extract_lets repaired x i
  have hx : Acknowledges s x := by
    unfold x
    split
    · exact .restoreFn s f
    · exact .refl s
  split
  · exact hx.trans (.modFn x _ _ fun y => ⟨y.forced, y.degraded, y.minutes, false, rfl, id, fun _ => rfl⟩)
  · exact hx

/-- A function whose faulty channels have all been repaired is let go on, and its channels are good (R489). -/
theorem acknowledge_repaired {s : State} {f : FnRec} (hf : f.num < 32) (h : s.allRepaired f = true) :
    (((s.acknowledge f).safeFn f.num).forced = false ∧ ((s.acknowledge f).safeFn f.num).degraded = false ∧
      ((s.acknowledge f).safeFn f.num).minutes = 0) ∧
      ∀ j ∈ f.chans, j < 32 → ((s.acknowledge f).safeIn j).fault = none ∧ ((s.acknowledge f).safeIn j).repaired = false := by
  have hfn : (s.restoreFn f).safeFn f.num = { s.restoreFn f |>.safeFn f.num with forced := false, degraded := false, minutes := 0 } := by
    have hsame := State.safeFn_modFn_same (f.chans.foldl (fun s i => s.modIn i fun x => { x with fault := none, repaired := false }) s)
      hf fun x => { x with forced := false, degraded := false, minutes := 0 }
    exact hsame.trans (by rw [State.restoreFn, hsame])
  have hin (j : Nat) (hj : j ∈ f.chans) (hlt : j < 32) :
      ((s.restoreFn f).safeIn j).fault = none ∧ ((s.restoreFn f).safeIn j).repaired = false := by
    refine foldl_reaches (I := fun _ => True) (J := fun y => (y.safeIn j).fault = none ∧ (y.safeIn j).repaired = false)
      (f := fun s i => s.modIn i fun x => { x with fault := none, repaired := false }) (l := f.chans) (fun _ _ _ _ => trivial)
      (fun y i _ hy => ?_) (fun y _ => ?_) hj trivial
    · by_cases hi : j = i
      · rw [← hi, y.safeIn_modIn_same hlt]
        exact ⟨rfl, rfl⟩
      · rw [y.safeIn_modIn_other hi]
        exact hy
    · rw [y.safeIn_modIn_same hlt]
      exact ⟨rfl, rfl⟩
  have heq : s.acknowledge f = if ((s.restoreFn f).safeFn f.num).weld && ((s.restoreFn f).safeIn f.siA).level &&
      ((s.restoreFn f).safeIn f.siA).levelAt + ticksPerSec ≤ (s.restoreFn f).time.clock then
        (s.restoreFn f).modFn f.num fun x => { x with weld := false } else s.restoreFn f := by
    unfold State.acknowledge
    unfold State.allRepaired at h
    rw [h]
    rfl
  rw [heq]
  split
  · refine ⟨?_, hin⟩
    rw [State.safeFn_modFn_same _ hf, hfn]
    exact ⟨rfl, rfl, rfl⟩
  · refine ⟨?_, hin⟩
    rw [hfn]
    exact ⟨rfl, rfl, rfl⟩

/-! A press of the reset input (R477). -/

theorem Evaluates.pressFn (s : State) (f : FnRec) (rise : Nat) : Evaluates s (s.pressFn f rise) := by
  unfold State.pressFn
  extract_lets late
  split
  · exact .endDemand s f
  · exact .of_safety rfl

theorem pressFn_keeps {s : State} {f : FnRec} (hf : f.num < 32) (rise : Nat) {n : Nat} (h : (s.safeFn n).demand = false) :
    ((s.pressFn f rise).safeFn n).demand = false := by
  unfold State.pressFn
  extract_lets late
  split
  · rw [endDemand_demand s hf, h, ite_self]
  · exact h

theorem pressFn_ends {s : State} {f : FnRec} {rise : Nat} (hf : f.num < 32) (hmanual : f.manual = true) (hwant : s.fnWanted f = false)
    (hlate : ∀ j ∈ f.chans, (s.safeIn j).since < rise) : ((s.pressFn f rise).safeFn f.num).demand = false := by
  cases hdemand : (s.safeFn f.num).demand
  · exact pressFn_keeps hf rise hdemand
  · have hall : (f.chans.all fun i => (s.safeIn i).fault.isSome || decide ((s.safeIn i).since < rise)) = true :=
      List.all_eq_true.mpr fun j hj => by simp [hlate j hj]
    unfold State.pressFn
    dsimp only
    rw [if_pos (by simp only [hmanual, hdemand, hwant, hall]; simp), endDemand_demand s hf, if_pos rfl]

/-- The press of a reset input has been taken. -/
def State.pressTaken (s : State) (i : Nat) : State := s.modIn i fun x => { x with press := none }

theorem exec_resetPress {s z : State} {t : Nat} {i : SiNo} {rise fall : Nat} (hz : z = s.advance t)
    (hpress : (z.safeIn i.val).press = some (rise, fall)) :
    exec (.resetPress t i rise) s = .next (if z.powerDie && rise + 100 * ticksPerMs ≤ fall && fall ≤ rise + 3000 * ticksPerMs then
      (((z.safeFns.filter fun f => f.reset = i.val).foldl (fun s f => s.pressFn f rise)
        ((z.safeFns.filter fun f => f.reset = i.val).foldl State.acknowledge (z.pressTaken i.val))).evalFns).pauseScan
      else z.pressTaken i.val) := by
  show execResetPress t i rise s = _
  unfold execResetPress
  rw [← hz]
  dsimp only
  rw [hpress]
  exact congrArg Host.Outcome.next (if_neg (not_not.mpr rfl))

theorem pressTaken_safeIn (s : State) (i : SiNo) (j : Nat) : ∃ p, (s.pressTaken i.val).safeIn j = { s.safeIn j with press := p } := by
  by_cases hj : j = i.val
  · exact ⟨none, hj ▸ s.safeIn_modIn_same i.isLt _⟩
  · exact ⟨_, s.safeIn_modIn_other hj _⟩

/-- Settles O31: an acknowledgement repairs, a press that began after the channels left demand ends it, a weld check latches it. -/
theorem resetAndWeld : Obligations.ResetAndWeld := by
  unfold Obligations.ResetAndWeld
  refine ⟨?_, ?_, ?_, ?_, ?_, ?_⟩
  · intro s z t i rise fall f hz hdie hpress hlo hhi hf hreset honly hmanual hkind _ hforced hweld hasked hchans
    have hexec := exec_resetPress (t := t) hz hpress
    rw [if_pos (by simp [hdie, hlo, hhi])] at hexec
    have hchg := Chg.of_exec (execResetPress_chg t i rise s) hexec
    rw [← hz] at hchg
    let fs := z.safeFns.filter fun f => f.reset = i.val
    let y := fs.foldl State.acknowledge (z.pressTaken i.val)
    let w := fs.foldl (fun s f => s.pressFn f rise) y
    have hmem : f ∈ fs := List.mem_filter.mpr ⟨hf, decide_eq_true hreset⟩
    have hnum {g : FnRec} (hg : g ∈ fs) : g.num < 32 := State.num_lt (List.mem_filter.mp hg).1
    have hack : Acknowledges (z.pressTaken i.val) y :=
      foldl_keeps (I := Acknowledges (z.pressTaken i.val)) (f := State.acknowledge) (fun x g _ hx => hx.trans (.acknowledge x g)) (.refl _)
    have hchan (j : Nat) (hj : j ∈ f.chans) : (y.safeIn j).demand = false ∧ (y.safeIn j).since < rise := by
      obtain ⟨_, _, hy, -⟩ := hack.ins j
      obtain ⟨_, hput⟩ := pressTaken_safeIn z i j
      obtain ⟨hdemand, -, hsince⟩ := hchans j hj
      rw [hy, hput]
      exact ⟨hdemand, hsince⟩
    have hwant : y.fnWanted f = false := by
      obtain ⟨_, _, _, _, hy, hforce, hwelds⟩ := hack.fns f.num
      have hcount : y.chanDemand f = false := by
        have hany : (f.chans.any fun i => (y.safeIn i).demand && (y.safeIn i).fault.isNone) = false :=
          List.any_eq_false.mpr fun j hj => by simp [(hchan j hj).1]
        simp [State.chanDemand, hany]
      unfold State.fnWanted
      rw [hcount, hy]
      simp [hforce hforced, hwelds hweld, show ((z.pressTaken i.val).safeFn f.num).asked = false from hasked]
    have hpressed : Evaluates y w ∧ (w.safeFn f.num).demand = false :=
      foldl_reaches (I := Evaluates y) (J := fun x => Evaluates y x ∧ (x.safeFn f.num).demand = false)
        (f := fun s f => s.pressFn f rise) (fun x g _ hx => hx.trans (.pressFn x g rise))
        (fun x g hg ⟨hx, hd⟩ => ⟨hx.trans (.pressFn x g rise), pressFn_keeps (hnum hg) rise hd⟩)
        (fun x hx => ⟨hx.trans (.pressFn x f rise), pressFn_ends (hnum hmem) hmanual ((hx.fnWanted f).trans hwant)
          fun j hj => by rw [hx.safeIn]; exact (hchan j hj).2⟩) hmem (.of_safety rfl)
    obtain ⟨hev, hfree⟩ := hpressed
    have hsect : w.safety.sect = z.safety.sect := hev.sect.trans hack.sect
    refine ⟨_, hexec, ?_, ?_, .of_chg hchg (by decide)⟩
    · rw [State.safeFn_of_safety (State.pauseScan_safety _)]
      refine evalFns_free (s := w) (fun g hg hn => ?_) hfree
      have hg' : g ∈ z.safeFns := by
        unfold State.safeFns at hg ⊢
        rwa [hsect] at hg
      rw [honly g hg' hn, hev.fnWanted, hwant]
    · rw [(Evaluates.scanned w).safeIn, hev.safeIn]
      obtain ⟨_, _, hy, -⟩ := hack.ins i.val
      rw [hy]
      exact congrArg SafeIn.press (z.safeIn_modIn_same i.isLt _)
  · intro s z t i rise fall hz hpress hout
    have hexec := exec_resetPress (t := t) hz hpress
    rw [if_neg (by simp only [Bool.and_eq_true, decide_eq_true_eq]; omega)] at hexec
    exact ⟨_, hexec, z.safeIn_modIn_same i.isLt _, rfl, .of_chg (State.modIn_chg ..) (by decide)⟩
  · intro s z t i rise hz hpress
    refine ⟨z, ?_, rfl⟩
    show execResetPress t i rise s = _
    unfold execResetPress
    rw [← hz]
    dsimp only
    split
    next hp => exact congrArg Host.Outcome.next (if_pos fun h => hpress (by rw [hp, Option.map_some, h]))
    next => rfl
  · intro c fn f
    refine .of_change (fun x s => s.opAcknowledge x fn) (fun s t => rfl) (fun x arrival z => rfl) fun z v x ⟨hf, hreset, hrep⟩ => ?_
    have hrec : (z.withConns v).fnRec fn.val = some f := hf
    let y := ((z.withConns v).acknowledge f).evalFns.pauseScan
    have hop : (z.withConns v).opAcknowledge x fn = y.reply x 0 := by
      unfold State.opAcknowledge
      rw [hrec]
      exact if_neg (not_not.mpr hreset)
    obtain ⟨hmem, hnum⟩ := State.mem_of_fnRec hf
    have hall : (z.withConns v).allRepaired f = true :=
      List.all_eq_true.mpr fun j hj => (hrep j hj).elim (fun h => by rw [Bool.or_eq_true]; exact .inl (Option.isNone_iff_eq_none.mpr h))
        fun h => by rw [Bool.or_eq_true]; exact .inr h
    obtain ⟨⟨hforced, hdegraded, hminutes⟩, hins⟩ := acknowledge_repaired (State.num_lt hmem) hall
    rw [hnum] at hforced hdegraded hminutes
    have hev := (Evaluates.scanned ((z.withConns v).acknowledge f)).trans (.of_safety ((State.reply_chg y x 0 []).safety rfl))
    obtain ⟨_, _, _, hfn⟩ := hev.fns fn.val
    have hchg : Chg [.legs, .laws, .juggler, .barker, .scribe, .keys, .update, .pair, .port, .tokens, .safety] z (y.reply x 0) :=
      (((((z.withConns_chg v).widen rfl).step (State.acknowledge_chg ..) rfl).step (State.evalFns_chg _) rfl).step
        (State.pauseScan_chg _) rfl).step (State.reply_chg ..) rfl
    have hwaits : WaitsKept (z.withConns v) y :=
      ((WaitsKept.of_chg (State.acknowledge_chg ..) rfl).trans (.evalFns _)).trans (.pauseScan _)
    rw [hop]
    refine ⟨⟨?_, ?_, ?_, fun j hj hlt => ?_, .of_chg hchg (by decide)⟩,
      fun hx hw => State.res_reply (s := y) hx ((hwaits.waits c).trans hw) 0 []⟩
    · rw [hfn]
      exact hforced
    · rw [hfn]
      exact hdegraded
    · rw [hfn]
      exact hminutes
    · rw [hev.safeIn]
      exact hins j hj hlt
  · intro c fn f
    refine .of_change (fun x s => s.opAcknowledge x fn) (fun s t => rfl) (fun x arrival z => rfl) fun z v x ⟨hf, hreset⟩ => ?_
    have hrec : (z.withConns v).fnRec fn.val = some f := hf
    have hop : (z.withConns v).opAcknowledge x fn = (z.withConns v).reply x 4 := by
      unfold State.opAcknowledge
      rw [hrec]
      exact if_pos hreset
    rw [hop]
    exact ⟨.of_chg ((z.withConns_chg v).trans (State.reply_chg ..)) (by decide), fun hx hw => State.res_reply hx hw 4 []⟩
  · intro s z t fn f hz hdie hf hkind hlevel hsince hoff hoffSince
    let y := z.modFn fn.val fun x => { x with weld := true }
    have hexec : exec (.weldDemand t fn) s = .next y.evalFns.pauseScan := by
      show execWeldDemand t fn s = _
      unfold execWeldDemand
      rw [← hz]
      dsimp only
      rw [hf]
      exact congrArg Host.Outcome.next (if_pos (by simp [hdie, hkind, hlevel, hsince, hoff, hoffSince]))
    have hchg := Chg.of_exec (execWeldDemand_chg t fn s) hexec
    rw [← hz] at hchg
    obtain ⟨hmem, hnum⟩ := State.mem_of_fnRec hf
    have hweld : y.safeFn fn.val = { z.safeFn fn.val with weld := true } := z.safeFn_modFn_same fn.isLt _
    obtain ⟨hdemand, houts⟩ := evalFns_demand (s := y) (f := f) hmem fun g _ hg => by
      simp [State.fnWanted, hg, hnum, hweld]
    obtain ⟨_, _, _, hfn⟩ := (Evaluates.scanned y).fns fn.val
    refine ⟨_, hexec, by rw [hfn, hweld], ?_, (Evaluates.scanned y).ins, fun n hn => ?_, .of_chg hchg (by decide)⟩
    · rw [State.safeFn_of_safety (State.pauseScan_safety _), ← hnum, hdemand]
    · rw [State.pauseScan_safety, houts n hn]

end Sys2Proof.Machine
end

section
/-!
Proofs of the statement about safety outputs, the cross-check and orphan mode (chapter 12).
-/
namespace Sys2Proof.Machine
open Sys2Proof Sys2Proof.Config

/-! What the reactions leave of the pair's record of degradation, and an evaluation of the divergences. -/

theorem submit_degraded (s : State) (i : JInput) {f : State → State} (hf : (f s).pair = s.pair) :
    (s.submit i f).pair.degraded = s.pair.degraded := by
  by_cases hj : s.pair.st = .holder ∨ s.pair.st = .solo
  · rw [State.submit_holds hj]
    rfl
  · unfold State.submit
    split
    case h_1 | h_2 => rfl
    case h_3 | h_4 => split <;> rfl
    case h_5 | h_6 | h_7 => rw [hf]

theorem State.react_degraded (s : State) : s.react.pair.degraded = s.pair.degraded := by
  unfold State.react
  extract_lets x want
  have hx : x.pair = s.pair := (State.refreshSo_chg s).pair rfl
  split
  · rw [hx]
  · rw [submit_degraded _ _ ((State.takeLegsOff_chg ..).pair rfl)]
    exact congrArg Pair.degraded hx

theorem State.evalFns_degraded (s : State) : s.evalFns.pair.degraded = s.pair.degraded := by
  rw [evalFns_eq, State.react_degraded]
  exact congrArg Pair.degraded (foldl_keeps (I := fun y => y.pair = s.pair) (f := State.evalFn)
    (fun y g _ hy => ((State.evalFn_chg y g).pair rfl).trans hy) rfl)

theorem evalFn_divergences (s : State) (f : FnRec) : (s.evalFn f).safety.divergences = s.safety.divergences := by
  unfold State.evalFn
  extract_lets x want
  split
  · rfl
  · split
    · rfl
    · rfl

theorem State.evalFns_divergences (s : State) : s.evalFns.safety.divergences = s.safety.divergences := by
  have hfold : (s.safeFns.foldl State.evalFn s).safety.divergences = s.safety.divergences :=
    foldl_keeps (I := fun y => y.safety.divergences = s.safety.divergences) (f := State.evalFn)
      (fun y g _ hy => (evalFn_divergences y g).trans hy) rfl
  obtain ⟨o, l, hreact⟩ := (s.safeFns.foldl State.evalFn s).react_safety
  rw [evalFns_eq, hreact]
  exact hfold

theorem Evaluates.asked {s u : State} (h : Evaluates s u) (n : Nat) : (u.safeFn n).asked = (s.safeFn n).asked := by
  obtain ⟨_, _, _, hn⟩ := h.fns n
  rw [hn]

/-! The Ringmaster's cross-check (R464, R465). -/

/-- The check of one function: a request is made where the power die has not found the demand. -/
def State.crossCheck (ns : List FuncNo) (s : State) (f : FnRec) : State :=
  let hit := ns.any fun n => n.val = f.num
  if hit && !(s.safeFn f.num).demand then
    (((s.modFn f.num fun x => { x with asked := true }).modSafety fun x =>
      { x with divergences := x.divergences + 1 })).raise .safetyDiverge [f.num, s.safety.divergences + 1]
  else s.modFn f.num fun x => { x with asked := x.asked && hit }

/-- What a check leaves. -/
structure Checks (s u : State) : Prop where
  sect : u.safety.sect = s.safety.sect
  demand : ∀ n, (u.safeFn n).demand = (s.safeFn n).demand
  divergences : s.safety.divergences ≤ u.safety.divergences

theorem Checks.trans {a b c : State} (h : Checks a b) (k : Checks b c) : Checks a c :=
  ⟨k.sect.trans h.sect, fun n => (k.demand n).trans (h.demand n), h.divergences.trans k.divergences⟩

theorem demand_modFn (s : State) (n m : Nat) (g : SafeFn → Bool) :
    ((s.modFn n fun x => { x with asked := g x }).safeFn m).demand = (s.safeFn m).demand := by
  by_cases hm : m = n
  · subst hm
    by_cases hlt : m < 32
    · rw [s.safeFn_modFn_same hlt]
    · exact congrArg SafeFn.demand ((vget_of_ge _ _ _ (not_lt.mp hlt)).trans (vget_of_ge _ _ _ (not_lt.mp hlt)).symm)
  · rw [s.safeFn_modFn_other hm]

theorem Checks.crossCheck (ns : List FuncNo) (s : State) (f : FnRec) : Checks s (s.crossCheck ns f) := by
  unfold State.crossCheck
  extract_lets hit
  split
  · exact ⟨rfl, fun m => demand_modFn s f.num m fun _ => true, Nat.le_succ _⟩
  · exact ⟨rfl, fun m => demand_modFn s f.num m fun x => x.asked && hit, le_refl _⟩

theorem crossCheck_hit {ns : List FuncNo} {s : State} {f : FnRec} (hf : f.num < 32) (hit : (ns.any fun n => n.val = f.num) = true)
    (hdemand : (s.safeFn f.num).demand = false) : ((s.crossCheck ns f).safeFn f.num).asked = true ∧
      (s.crossCheck ns f).safety.divergences = s.safety.divergences + 1 := by
  unfold State.crossCheck
  dsimp only
  rw [if_pos (by rw [hit, hdemand]; rfl)]
  exact ⟨congrArg SafeFn.asked (s.safeFn_modFn_same hf _), rfl⟩

theorem crossCheck_other (ns : List FuncNo) (s : State) {f : FnRec} {n : Nat} (hn : n ≠ f.num) :
    (s.crossCheck ns f).safeFn n = s.safeFn n := by
  unfold State.crossCheck
  extract_lets hit
  split
  · exact s.safeFn_modFn_other hn _
  · exact s.safeFn_modFn_other hn _

theorem crossCheck_none (s : State) (f : FnRec) :
    s.crossCheck [] f = s.modFn f.num fun x => { x with asked := x.asked && false } := rfl

/-- The self-test of the safety net, failed at the third divergence (R465). -/
def State.judgeNet (s : State) : State :=
  let fail : Bool := decide (3 ≤ s.safety.divergences)
  let s := s.selfTest 9 (!fail)
  if fail then s.degrade 1 else s

theorem State.judgeNet_chg (s : State) : Chg [.pair, .port] s s.judgeNet := by
  unfold State.judgeNet
  extract_lets fail x
  have hx : Chg [.pair, .port] s x := (State.selfTest_chg ..).widen rfl
  split
  · exact hx.trans (State.degrade_chg x 1)
  · exact hx

theorem State.degrade_mem (s : State) (cause : Nat) : cause ∈ (s.degrade cause).pair.degraded := by
  unfold State.degrade
  split
  next h => exact List.contains_iff_mem.mp h
  next =>
    dsimp only
    split <;> exact List.mem_append_right _ (List.mem_singleton.mpr rfl)

theorem exec_safetyCrossCheck {s z : State} {t : Nat} {ns : List FuncNo} (hz : z = s.advance t) (hmode : z.startup.mode = .service)
    (hdie : z.powerDie = true) :
    exec (.safetyCrossCheck t ns) s = .next (z.safeFns.foldl (State.crossCheck ns) z).judgeNet.evalFns.pauseScan := by
  show execSafetyCrossCheck t ns s = _
  unfold execSafetyCrossCheck
  rw [← hz]
  exact congrArg Host.Outcome.next (if_neg (by simp [hmode, hdie]))

/-! An output found faulty (R484, R485). -/

theorem out_eq (s : State) (n : SoNo) : s.safety.outs[n] = vget s.safety.outs n.val {} := (vget_val _ _ _).symm

theorem out_modOut_same (s : State) (n : SoNo) (f : SafeOut → SafeOut) :
    vget (s.modOut n.val f).safety.outs n.val {} = f (vget s.safety.outs n.val {}) :=
  (vget_vmapIdx _ _ _ _ n.isLt).trans (if_pos rfl)

theorem out_modOut_other (s : State) {n m : SoNo} (hm : m ≠ n) (f : SafeOut → SafeOut) :
    vget (s.modOut n.val f).safety.outs m.val {} = vget s.safety.outs m.val {} :=
  (vget_vmapIdx _ _ _ _ m.isLt).trans (if_neg (Fin.val_ne_of_ne hm))

/-- The reactions change an output's level and its instant only. -/
theorem react_out_kept (s : State) (n : SoNo) : ∃ on at_, vget s.react.safety.outs n.val {} =
    { vget s.safety.outs n.val {} with on, at_ } := by
  have hout : vget s.refreshSo.safety.outs n.val {} = if (vget s.safety.outs n.val {}).on = s.soWanted n.val then
      vget s.safety.outs n.val {} else { vget s.safety.outs n.val {} with on := s.soWanted n.val, at_ := s.time.clock } :=
    vget_vmapIdx _ _ _ _ n.isLt
  rw [State.react_outs, hout]
  split
  · exact ⟨_, _, rfl⟩
  · exact ⟨_, _, rfl⟩

theorem faultOut_spec {s : State} {n : SoNo} (hsound : (vget s.safety.outs n.val {}).faulty = false) (cause : Nat) :
    ((vget (s.faultOut n.val cause).safety.outs n.val {}).faulty = true ∧ (vget (s.faultOut n.val cause).safety.outs n.val {}).on = false ∧
      (vget (s.faultOut n.val cause).safety.outs n.val {}).dark = (vget s.safety.outs n.val {}).dark) ∧
      ∀ m : SoNo, m ≠ n → (vget (s.faultOut n.val cause).safety.outs m.val {}).faulty = (vget s.safety.outs m.val {}).faulty := by
  let y := (s.modOut n.val fun x => { x with faulty := true }).raise .soFault [n.val, cause]
  have hfault : s.faultOut n.val cause = y.react := if_neg (by rw [hsound]; exact Bool.false_ne_true)
  have hy : vget y.safety.outs n.val {} = { vget s.safety.outs n.val {} with faulty := true } := out_modOut_same s n _
  obtain ⟨on, at_, hkept⟩ := react_out_kept y n
  obtain ⟨hon, hfaulty⟩ := y.react_out n
  rw [hfault]
  refine ⟨⟨hfaulty.trans (by rw [hy]), hon.trans ?_, by rw [hkept, hy]⟩, fun m hm => ?_⟩
  · simp [State.soWanted, hy]
  · rw [(y.react_out m).2]
    exact congrArg SafeOut.faulty (out_modOut_other s hm _)

/-! Orphan mode (R490 to R492). -/

theorem State.react_legsOwn (s : State) : s.react.safety.legsOwn = s.legsWanted := by
  have hwant : s.refreshSo.legsWanted = s.legsWanted := rfl
  unfold State.react
  dsimp only
  rw [hwant]
  split
  next h => exact h.symm
  next =>
    rw [(State.submit_chg (L := [.legs, .laws, .port, .pair]) (fun y => (State.takeLegsOff_chg ..).widen rfl) rfl).safety rfl]
    rfl

theorem exitOrphan_none {s : State} (h : s.safety.orphan = none) : s.exitOrphan = s := by
  unfold State.exitOrphan
  rw [h]

/-- Orphan mode ends: the requests govern again (R492). -/
theorem exitOrphan_some {s : State} {a : Nat} (h : s.safety.orphan = some a) :
    s.exitOrphan.safety.orphan = none ∧ s.exitOrphan.safety.orphanOut = false ∧ s.exitOrphan.safety.beatAt = s.safety.beatAt ∧
      ∀ n : SoNo, (vget s.exitOrphan.safety.outs n.val {}).req = s.soEn n.val := by
  let w := s.modSafety fun x => { x with orphan := none, orphanAct := false, orphanOut := false }
  let y := w.modSafety fun x => { x with outs := vmapIdx (fun n y => { y with req := true && w.soEn n }) x.outs }
  have hsafety : s.exitOrphan.safety = y.react.safety := by
    have hls : (w.requestSo true).refreshLs.safety = y.react.safety := (State.refreshLs_chg _).safety rfl
    unfold State.exitOrphan
    rw [h]
    dsimp only
    split
    · exact hls
    · exact ((State.raise_chg ..).safety rfl).trans hls
  obtain ⟨o, l, hreact⟩ := y.react_safety
  refine ⟨?_, ?_, ?_, fun n => ?_⟩
  · rw [hsafety, hreact]
    rfl
  · rw [hsafety, hreact]
    rfl
  · rw [hsafety, hreact]
    rfl
  · obtain ⟨on, at_, hout⟩ := react_out_kept y n
    rw [hsafety, hout]
    exact (congrArg SafeOut.req (vget_vmapIdx _ w.safety.outs n.val {} n.isLt)).trans (Bool.true_and _)

/-- The power die without its logic die (R490): what orphan mode makes of the safety net. -/
theorem enterOrphan_spec {s : State} (h : s.safety.orphan = none) :
    s.enterOrphan.safety.orphan = some s.time.clock ∧ s.enterOrphan.safety.orphanAct = false ∧
      s.enterOrphan.safety.resetUntil = some (s.time.clock + 10 * ticksPerMs) ∧ s.enterOrphan.safety.fns = s.safety.fns ∧
      s.enterOrphan.safety.legsOwn = true ∧ s.enterOrphan.startup.mode = .off := by
  unfold State.enterOrphan
  extract_lets now req again x d r
  have hagain : again = false := by simp [again, h]
  have hd : d.safety = { x.safety with beatAt := none, divergences := 0 } := by
    have hdrives : ((x.orphanPumps.restartDrives true).regsOff true).safety = x.safety :=
      ((State.regsOff_chg ..).safety rfl).trans (((State.restartDrives_chg ..).safety rfl).trans ((State.orphanPumps_chg _).safety rfl))
    exact (State.logicReset_safety _).trans (by rw [hdrives])
  have hx : x.safety = { s.safety with orphan := some now, orphanAct := false, resetUntil := some (now + 10 * ticksPerMs) } := by
    simp only [x, hagain]
    rfl
  have hmode : d.startup.mode = .off := rfl
  have hr : r.safety = d.safety ∧ r.startup = d.startup := by
    unfold r
    split
    · exact ⟨rfl, rfl⟩
    · exact ⟨(State.raise_chg ..).safety rfl, (State.raise_chg ..).startup rfl⟩
  clear_value x d r
  have hls := (State.refreshLs_chg r.react).safety rfl
  have hwanted : r.legsWanted = true := by
    simp [State.legsWanted, hr.1, hd, hx]
  have hown := r.react_legsOwn.trans hwanted
  obtain ⟨o, l, hreact⟩ := r.react_safety
  refine ⟨?_, ?_, ?_, ?_, ?_, ?_⟩
  · rw [hls, hreact, hr.1, hd, hx]
  · rw [hls, hreact, hr.1, hd, hx]
  · rw [hls, hreact, hr.1, hd, hx]
  · rw [hls, hreact, hr.1, hd, hx]
  · rw [hls, hown]
  · rw [(State.refreshLs_chg _).startup rfl, (State.react_chg _).startup rfl, hr.2, hmode]

/-- Settles O32: the cross-check asks for a demand, a faulty output stays off, and orphan mode ends with the heartbeat. -/
theorem outputsAndOrphanMode : Obligations.OutputsAndOrphanMode := by
  unfold Obligations.OutputsAndOrphanMode
  refine ⟨?_, ?_, ?_, ?_, ?_, ?_, ?_, ?_, ?_, ?_, ?_⟩
  · intro s z t ns f n hz hmode hdie hf hn hnum honly hdemand
    have hexec := exec_safetyCrossCheck (t := t) (ns := ns) hz hmode hdie
    have hchg := Chg.of_exec (execSafetyCrossCheck_chg t ns s) hexec
    rw [← hz] at hchg
    obtain ⟨y, hy⟩ : ∃ y, y = z.safeFns.foldl (State.crossCheck ns) z := ⟨_, rfl⟩
    rw [← hy] at hexec hchg
    have hit : (ns.any fun n => n.val = f.num) = true := List.any_eq_true.mpr ⟨n, hn, decide_eq_true hnum⟩
    have hchecked : Checks z y ∧ (y.safeFn f.num).asked = true ∧ z.safety.divergences < y.safety.divergences := by
      rw [hy]
      refine foldl_reaches (I := Checks z)
        (J := fun x => Checks z x ∧ (x.safeFn f.num).asked = true ∧ z.safety.divergences < x.safety.divergences)
        (f := State.crossCheck ns) (fun x g _ hx => hx.trans (.crossCheck ns x g)) (fun x g hg ⟨hx, hask, hmore⟩ => ?_)
        (fun x hx => ?_) hf ⟨rfl, fun _ => rfl, le_refl _⟩
      · have hstep := Checks.crossCheck ns x g
        refine ⟨hx.trans hstep, ?_, hmore.trans_le hstep.divergences⟩
        by_cases hgf : f.num = g.num
        · have : g = f := honly g hg hgf.symm
          subst this
          exact (crossCheck_hit (State.num_lt hf) hit ((hx.demand _).trans hdemand)).1
        · rw [crossCheck_other ns x hgf, hask]
      · obtain ⟨hask, hcount⟩ := crossCheck_hit (State.num_lt hf) hit ((hx.demand _).trans hdemand)
        exact ⟨hx.trans (.crossCheck ns x f), hask, hcount ▸ Nat.lt_succ_of_le hx.divergences⟩
    obtain ⟨hkept, hask, hmore⟩ := hchecked
    have hjudged : y.judgeNet.safety = y.safety := y.judgeNet_chg.safety rfl
    have hfn (m : Nat) : y.judgeNet.safeFn m = y.safeFn m := State.safeFn_of_safety hjudged m
    have hsect : y.judgeNet.safeFns = z.safeFns := by
      unfold State.safeFns
      rw [hjudged, hkept.sect]
    have hscan : y.judgeNet.evalFns.pauseScan.safety = y.judgeNet.evalFns.safety := State.pauseScan_safety _
    have hdiv : y.judgeNet.evalFns.pauseScan.safety.divergences = y.safety.divergences := by
      rw [hscan, State.evalFns_divergences, hjudged]
    refine ⟨_, hexec, ?_, ?_, ?_, fun hthree => ?_, .of_chg hchg (by decide)⟩
    · exact ((Evaluates.scanned y.judgeNet).asked f.num).trans ((congrArg SafeFn.asked (hfn f.num)).trans hask)
    · rw [State.safeFn_of_safety hscan]
      refine (evalFns_demand (hsect ▸ hf) fun g hg hgf => ?_).1
      have : g = f := honly g (hsect ▸ hg) hgf
      subst this
      simp [State.fnWanted, hfn, hask]
    · exact hmore.trans_eq hdiv.symm
    · rw [(State.pauseScan_chg _).pair rfl, State.evalFns_degraded]
      have hthree' : 3 ≤ y.safety.divergences := hthree.trans_eq hdiv
      unfold State.judgeNet
      dsimp only
      rw [if_pos (decide_eq_true hthree')]
      exact State.degrade_mem _ 1
  · intro s z t hz hmode hdie
    have hexec := exec_safetyCrossCheck (t := t) (ns := []) hz hmode hdie
    have hchg := Chg.of_exec (execSafetyCrossCheck_chg t [] s) hexec
    rw [← hz] at hchg
    let y := z.safeFns.foldl (State.crossCheck []) z
    have hjudged : y.judgeNet.safety = y.safety := y.judgeNet_chg.safety rfl
    have hstep (x : State) (g : FnRec) : (x.crossCheck [] g).safety.divergences = x.safety.divergences := by rw [crossCheck_none]; rfl
    have hdiv : y.safety.divergences = z.safety.divergences :=
      foldl_keeps (I := fun x => x.safety.divergences = z.safety.divergences) (f := State.crossCheck [])
        (fun x g _ hx => (hstep x g).trans hx) rfl
    refine ⟨_, hexec, fun f hf => ?_, ?_, .of_chg hchg (by decide)⟩
    · have hask : (y.safeFn f.num).asked = false := by
        refine foldl_reaches (I := fun _ => True) (J := fun x => (x.safeFn f.num).asked = false) (f := State.crossCheck [])
          (fun _ _ _ _ => trivial) (fun x g hg hx => ?_) (fun x _ => ?_) hf trivial
        · by_cases hgf : f.num = g.num
          · rw [hgf, crossCheck_none, x.safeFn_modFn_same (State.num_lt hg)]
            exact Bool.and_false _
          · rw [crossCheck_other [] x hgf, hx]
        · rw [crossCheck_none, x.safeFn_modFn_same (State.num_lt hf)]
          exact Bool.and_false _
      exact ((Evaluates.scanned y.judgeNet).asked f.num).trans ((congrArg SafeFn.asked (State.safeFn_of_safety hjudged f.num)).trans hask)
    · rw [State.pauseScan_safety, State.evalFns_divergences, hjudged, hdiv]
  · intro s z t n hz hdie hdark
    have hexec : exec (.darkTest t n true) s = .next (z.modOut n.val fun x => { x with dark := some true }) := by
      show execDarkTest t n true s = _
      unfold execDarkTest
      rw [← hz]
      exact congrArg Host.Outcome.next ((if_pos (by rw [hdie, hdark]; rfl)).trans (if_pos rfl))
    refine ⟨_, hexec, ?_, fun m hm => ?_, .of_chg (State.modOut_chg ..) (by decide)⟩
    · rw [out_eq, out_eq, out_modOut_same]
    · rw [out_eq, out_eq, out_modOut_other _ hm]
  · intro s z t n hz hdie hdark
    refine ⟨z, ?_, rfl⟩
    show execDarkTest t n false s = _
    unfold execDarkTest
    rw [← hz]
    exact congrArg Host.Outcome.next (if_neg (by simp [hdark]))
  · intro s z t n hz hdie hdark hsound
    have hexec : exec (.darkTest t n false) s = .next ((z.modOut n.val fun x => { x with dark := some false }).faultOut n.val 0) := by
      show execDarkTest t n false s = _
      unfold execDarkTest
      rw [← hz]
      exact congrArg Host.Outcome.next ((if_pos (by rw [hdie, hdark]; rfl)).trans (if_neg Bool.false_ne_true))
    have hchg := Chg.of_exec (execDarkTest_chg t n false s) hexec
    rw [← hz] at hchg
    have hput := out_modOut_same z n fun x => { x with dark := some false }
    rw [out_eq] at hsound
    obtain ⟨⟨hfaulty, hon, hkept⟩, hothers⟩ := faultOut_spec (by rw [hput]; exact hsound) 0
    refine ⟨_, hexec, ?_, ?_, ?_, fun m hm => ?_, .of_chg hchg (by decide)⟩
    · rw [out_eq, hfaulty]
    · rw [out_eq, hon]
    · rw [out_eq, hkept, hput]
    · rw [out_eq, out_eq, hothers m hm, out_modOut_other z hm]
  · intro s z t n mA hz hdie hon hsound hover
    rw [out_eq] at hsound
    have hexec : exec (.soOvercurrent t n mA) s = .next (z.faultOut n.val 2) := by
      show execSoOvercurrent t n mA s = _
      unfold execSoOvercurrent
      rw [← hz]
      exact congrArg Host.Outcome.next (if_pos (by rw [← out_eq, hdie, hon, decide_eq_true hover]; rfl))
    obtain ⟨⟨hfaulty, hoff, -⟩, hothers⟩ := faultOut_spec hsound 2
    refine ⟨_, hexec, ?_, ?_, fun m hm => ?_, .of_chg (State.faultOut_chg ..) (by decide)⟩
    · rw [out_eq, hfaulty]
    · rw [out_eq, hoff]
    · rw [out_eq, out_eq, hothers m hm]
  · intro s z t n mA hz hlow
    refine ⟨z, ?_, rfl⟩
    show execSoOvercurrent t n mA s = _
    unfold execSoOvercurrent
    rw [← hz]
    exact congrArg Host.Outcome.next (if_neg (by simp [not_lt.mpr hlow]))
  · intro s z t hz hmode hdie
    let y := z.modSafety fun x => { x with beatAt := some z.time.clock }
    have hexec : exec (.heartbeat t) s = .next y.exitOrphan.pauseScan := by
      show execHeartbeat t s = _
      unfold execHeartbeat
      rw [← hz]
      exact congrArg Host.Outcome.next ((if_neg (by simp [hmode, hdie])).trans (if_pos hmode))
    have hchg := Chg.of_exec (execHeartbeat_chg t s) hexec
    rw [← hz] at hchg
    refine ⟨_, hexec, ?_, ?_, fun horphan => ?_, .of_chg hchg (by decide)⟩ <;> rw [State.pauseScan_safety]
    · cases ho : z.safety.orphan with
      | none =>
        rw [exitOrphan_none (s := y) ho]
        rfl
      | some a => exact (exitOrphan_some (s := y) ho).2.2.1
    · cases ho : z.safety.orphan with
      | none =>
        rw [exitOrphan_none (s := y) ho]
        exact ho
      | some a => exact (exitOrphan_some (s := y) ho).1
    · obtain ⟨a, ho⟩ := Option.ne_none_iff_exists'.mp horphan
      obtain ⟨-, hout, -, hreq⟩ := exitOrphan_some (s := y) ho
      refine ⟨hout, fun n => ?_⟩
      exact (congrArg SafeOut.req (vget_val _ _ _).symm).trans (hreq n)
  · intro s z t a hz hbeat hdie horphan hexpired
    have hexec : exec (.orphanEnter t) s = .next z.enterOrphan := by
      show execOrphanEnter t s = _
      unfold execOrphanEnter
      rw [← hz]
      dsimp only
      rw [hbeat]
      exact congrArg Host.Outcome.next (if_pos (by rw [hdie, horphan, State.expired, decide_eq_true hexpired]; rfl))
    obtain ⟨horph, hact, huntil, hfns, hown, hmode⟩ := enterOrphan_spec horphan
    exact ⟨_, hexec, horph, hact, hown, huntil, hmode, hfns, .of_chg (State.enterOrphan_chg z) (by decide)⟩
  · intro s z t a hz hbeat hearly
    refine ⟨z, ?_, rfl⟩
    show execOrphanEnter t s = _
    unfold execOrphanEnter
    rw [← hz]
    dsimp only
    rw [hbeat]
    exact congrArg Host.Outcome.next (if_neg (by simp [State.expired, not_lt.mpr hearly]))
  · intro s z t a hz horphan hact hout hdie hexpired
    let y := z.modSafety fun x => { x with orphanOut := true }
    have hexec : exec (.orphanTimeout t) s = .next (y.react.regsOff false) := by
      show execOrphanTimeout t s = _
      unfold execOrphanTimeout
      rw [← hz]
      dsimp only
      rw [horphan]
      refine congrArg Host.Outcome.next (if_pos ?_)
      rw [hdie, hout, hact, State.expired, if_neg Bool.false_ne_true, decide_eq_true hexpired]
      rfl
    have hchg := Chg.of_exec (execOrphanTimeout_chg t s) hexec
    rw [← hz] at hchg
    have hregs : (y.react.regsOff false).safety = y.react.safety := (State.regsOff_chg ..).safety rfl
    refine ⟨_, hexec, ?_, ?_, fun n => ?_, .of_chg hchg (by decide)⟩ <;> rw [hregs]
    · rw [State.react_orphanOut]
      rfl
    · rw [State.react_orphan]
      exact horphan
    · rw [(vget_val y.react.safety.outs n {}).symm, (y.react_out n).1]
      simp [State.soWanted, y]

end Sys2Proof.Machine
end

section
/-!
Proofs of the statement about safety changes under the password (chapter 12).
-/
namespace Sys2Proof.Machine
open Sys2Proof Sys2Proof.Config

/-! A change logged (R498). -/

theorem logChange_safety (s : State) (kind role subject : Nat) (crc : W32) (hash : Nat) :
    ∃ e, (s.logChange kind role subject crc hash).safety =
        { s.safety with log := (e :: s.safety.log).take 1024, entryNo := s.safety.entryNo + 1 } ∧
      e.no = s.safety.entryNo + 1 ∧ e.kind = kind ∧ e.crc = crc ∧ e.hash = hash := by
  unfold State.logChange
  extract_lets e
  exact ⟨e, (State.countTamper_chg ..).safety rfl, rfl, rfl, rfl, rfl⟩

theorem WaitsKept.logChange (s : State) (kind role subject : Nat) (crc : W32) (hash : Nat) :
    WaitsKept s (s.logChange kind role subject crc hash) := by
  unfold State.logChange
  exact (WaitsKept.of_chg (State.modSafety_chg ..) rfl).trans (.countTamper ..)

/-- The change has been logged and told. -/
def State.changed (s : State) (x : Caller) (kind : Nat) (crc : W32) (hash : Nat) (no : Nat) (told : Int) : State :=
  (s.logChange kind (roleBit x.role) (subjectHash (roleBit x.role) x.addr) crc hash).raise .safetyChange [kind, no, told]

theorem State.changed_chg (s : State) (x : Caller) (kind : Nat) (crc : W32) (hash no : Nat) (told : Int) :
    Chg [.port, .tamper, .safety] s (s.changed x kind crc hash no told) :=
  (State.logChange_chg ..).step (State.raise_chg ..) rfl

theorem changed_reply_safety (s : State) (x : Caller) (kind : Nat) (crc : W32) (hash no : Nat) (told : Int) :
    ((s.changed x kind crc hash no told).reply x 0).safety =
      (s.logChange kind (roleBit x.role) (subjectHash (roleBit x.role) x.addr) crc hash).safety :=
  ((State.reply_chg ..).safety rfl).trans ((State.raise_chg ..).safety rfl)

theorem WaitsKept.changed (s : State) (x : Caller) (kind : Nat) (crc : W32) (hash no : Nat) (told : Int) :
    WaitsKept s (s.changed x kind crc hash no told) := (WaitsKept.logChange ..).trans (.raise ..)

/-- A wrong password is counted; the fifth within 10 min locks the object (R496). -/
theorem wrongPassword_spec (s : State) : s.wrongPassword.safety.log = s.safety.log ∧
    s.wrongPassword.safety.password = s.safety.password ∧
    (4 ≤ (s.safety.wrong.filter fun x => s.time.clock ≤ x + 600 * ticksPerSec).length →
      s.wrongPassword.safety.refusedUntil = some (s.time.clock + 600 * ticksPerSec)) := by
  unfold State.wrongPassword
  dsimp only
  split
  · exact ⟨rfl, rfl, fun _ => rfl⟩
  next h => exact ⟨rfl, rfl, fun hfour => absurd (Nat.succ_le_succ hfour) h⟩

/-! The operation, by what it finds about the password (R495, R496). -/

section
variable {s : State} {x : Caller} {pw : List Byte}

theorem opSafetyChange_refused (h : s.changeRefused = true) (ch : SafetyChange) : s.opSafetyChange x pw ch = s.reply x 4 := if_pos h

theorem opSafetyChange_section (h : s.changeRefused = false) (hpw : s.safety.password = some (passwordHash pw)) (crc : W32) (hash : Nat) :
    s.opSafetyChange x pw (.newSection crc hash) = (s.changed x 1 crc hash (s.safety.entryNo + 1) crc.toNat).reply x 0 := by
  unfold State.opSafetyChange
  rw [h, hpw]
  exact (if_neg Bool.false_ne_true).trans (if_neg (by simp))

theorem opSafetyChange_wrong {k : Nat} (h : s.changeRefused = false) (hk : s.safety.password = some k) (hpw : passwordHash pw ≠ k)
    (ch : SafetyChange) : s.opSafetyChange x pw ch = s.wrongPassword.reply x 1 := by
  unfold State.opSafetyChange
  rw [h, hk]
  simp [hpw]

theorem opSafetyChange_password {p : List Byte} (h : s.changeRefused = false)
    (hpw : s.safety.password = none ∨ s.safety.password = some (passwordHash pw)) (hp : goodPassword p = true) :
    s.opSafetyChange x pw (.password p) = ((s.modSafety fun y => { y with password := some (passwordHash p) }).changed x 2
      s.safety.sealedCrc 0 (s.safety.entryNo + 1) s.safety.sealedCrc.toNat).reply x 0 := by
  unfold State.opSafetyChange
  rcases hpw with hpw | hpw <;> rw [h, hpw] <;> simp [hp] <;> rfl

end

/-- Settles O33: the right password logs its change, a wrong one is counted, and five of them lock the object. -/
theorem safetyChanges : Obligations.SafetyChanges := by
  unfold Obligations.SafetyChanges
  refine ⟨?_, ?_, ?_, ?_, ?_⟩
  · intro c pw crc h
    refine .of_change (fun x s => s.opSafetyChange x pw (.newSection crc h)) (fun s t => rfl) (fun x arrival z => rfl)
      fun z v x ⟨hopen, hpw⟩ => ?_
    rw [opSafetyChange_section (s := z.withConns v) hopen hpw]
    have hsafety := changed_reply_safety (z.withConns v) x 1 crc h ((z.withConns v).safety.entryNo + 1) crc.toNat
    obtain ⟨e, hlog, hno, hkind, hcrc, hhash⟩ :=
      logChange_safety (z.withConns v) 1 (roleBit x.role) (subjectHash (roleBit x.role) x.addr) crc h
    rw [hlog] at hsafety
    have hkept := WaitsKept.changed (z.withConns v) x 1 crc h ((z.withConns v).safety.entryNo + 1) crc.toNat
    have hchg := ((z.withConns_chg v).widen (M := [.port, .tamper, .safety]) rfl).trans
      (State.changed_chg (z.withConns v) x 1 crc h ((z.withConns v).safety.entryNo + 1) crc.toNat)
    refine ⟨⟨⟨e, by rw [hsafety]; rfl, hno, hkind, hcrc, hhash⟩, by rw [hsafety]; rfl, by rw [hsafety]; rfl, by rw [hsafety]; rfl, ?_,
      .of_chg (hchg.step (State.reply_chg ..) rfl) (by decide)⟩, fun hx hw => State.res_reply hx ((hkept.waits c).trans hw) 0 []⟩
    exact (State.lastEv_reply ..).trans (State.lastEv_raise ..)
  · intro c pw p
    refine .of_change (fun x s => s.opSafetyChange x pw (.password p)) (fun s t => rfl) (fun x arrival z => rfl)
      fun z v x ⟨hopen, hpw, hgood⟩ => ?_
    rw [opSafetyChange_password (s := z.withConns v) hopen hpw hgood]
    let y := (z.withConns v).modSafety fun y => { y with password := some (passwordHash p) }
    have hsafety := changed_reply_safety y x 2 z.safety.sealedCrc 0 (z.safety.entryNo + 1) z.safety.sealedCrc.toNat
    obtain ⟨e, hlog, -⟩ := logChange_safety y 2 (roleBit x.role) (subjectHash (roleBit x.role) x.addr) z.safety.sealedCrc 0
    rw [hlog] at hsafety
    have hkept : WaitsKept (z.withConns v) (y.changed x 2 z.safety.sealedCrc 0 (z.safety.entryNo + 1) z.safety.sealedCrc.toNat) :=
      (WaitsKept.of_chg (State.modSafety_chg ..) rfl).trans (.changed ..)
    have hchg : Chg [.port, .tamper, .safety] z y :=
      ((z.withConns_chg v).widen rfl).step (State.modSafety_chg ..) rfl
    exact ⟨⟨congrArg Safety.password hsafety, congrArg Safety.entryNo hsafety,
      .of_chg ((hchg.trans (State.changed_chg ..)).step (State.reply_chg ..) rfl) (by decide)⟩,
      fun hx hw => State.res_reply hx ((hkept.waits c).trans hw) 0 []⟩
  · intro c pw h ch
    refine .of_change (fun x s => s.opSafetyChange x pw ch) (fun s t => rfl) (fun x arrival z => rfl)
      fun z v x ⟨hopen, hk, hpw⟩ => ?_
    rw [opSafetyChange_wrong (s := z.withConns v) hopen hk hpw]
    have hreply : ((z.withConns v).wrongPassword.reply x 1).safety = (z.withConns v).wrongPassword.safety := (State.reply_chg ..).safety rfl
    have hchg : Chg [.port, .safety] z ((z.withConns v).wrongPassword.reply x 1) :=
      (((z.withConns_chg v).widen rfl).step (State.wrongPassword_chg _) rfl).step (State.reply_chg ..) rfl
    have hkept : WaitsKept (z.withConns v) (z.withConns v).wrongPassword := .of_chg (State.wrongPassword_chg _) rfl
    obtain ⟨hlog, hpassword, hlocked⟩ := wrongPassword_spec (z.withConns v)
    rw [hreply]
    exact ⟨⟨hlog, hpassword, hlocked, .of_chg hchg (by decide)⟩, fun hx hw => State.res_reply hx ((hkept.waits c).trans hw) 1 []⟩
  · intro c pw ch
    refine .of_change (fun x s => s.opSafetyChange x pw ch) (fun s t => rfl) (fun x arrival z => rfl) fun z v x hrefused => ?_
    rw [opSafetyChange_refused (s := z.withConns v) hrefused]
    exact ⟨.of_chg ((z.withConns_chg v).trans (State.reply_chg ..)) (by decide), fun hx hw => State.res_reply hx hw 4 []⟩
  · intro s z t e hz huntil hdue
    have hexec : exec (.safetyChangeUnlock t) s = .next (z.modSafety fun x => { x with refusedUntil := none }) := by
      show execSafetyChangeUnlock t s = _
      unfold execSafetyChangeUnlock
      rw [← hz]
      dsimp only
      rw [huntil]
      exact congrArg Host.Outcome.next (if_pos hdue)
    exact ⟨_, hexec, rfl, .of_chg (State.modSafety_chg ..) (by decide)⟩

end Sys2Proof.Machine
end

section
/-!
Proofs of the statement about tunnel frames and HELLO (chapter 9).
-/
namespace Sys2Proof.Machine
open Sys2Proof Sys2Proof.Config

theorem State.outletDisp_modDisp_other (s : State) {o p : OutletNo} (hp : p ≠ o) (f : Disp → Disp) :
    (s.modDisp (o.val + 1) f).outletDisp (p.val + 1) = s.outletDisp (p.val + 1) := by
  show vget (vmapIdx _ _) p.val ({} : Disp) = _
  rw [vget_vmapIdx _ _ _ _ p.isLt, if_neg (by have := Fin.val_ne_of_ne hp; omega)]
  rfl

/-- What the check of a TAG leaves. -/
theorem tagGood_spec (s : State) (o : Nat) (f : Tunnel) :
    (s.tagGood o f).2.barker = s.barker ∧ (s.tagGood o f).2.time = s.time ∧ (s.tagGood o f).2.startup = s.startup :=
  have h := State.tagGood_chg s o f
  ⟨h.barker rfl, h.time rfl, h.startup rfl⟩

section
variable {z : State} {f : Tunnel}

/-! A frame discarded before its outlet is known (R341). -/

theorem tunnelIn_of_crc (h : f.crcOk = false) (typ : Nat) :
    z.tunnelIn f typ = (none, z.discard fun d => { d with crc := d.crc + 1 }) := by
  unfold State.tunnelIn
  exact if_pos (by rw [h]; rfl)

theorem tunnelIn_of_length {typ : Nat} (hcrc : f.crcOk = true) (hmagic : f.magic = 0x4842) (hversion : f.version = 1) (htyp : f.typ = typ)
    (hlen : f.lenOk = false) : z.tunnelIn f typ = (none, z.discard fun d => { d with length := d.length + 1 }) := by
  unfold State.tunnelIn
  rw [if_neg (by simp [hcrc]), if_neg (by simp [hmagic, hversion, htyp]), if_pos (by simp [hlen])]

theorem tunnelIn_of_unknown (hcrc : f.crcOk = true) (hmagic : f.magic = 0x4842) (hversion : f.version = 1) (htyp : f.typ = 3)
    (hlen : f.lenOk = true) (hdir : f.dir = false) (hdisp : z.outletOfDisp f.dispId = none) :
    z.tunnelIn f 3 = (none, z.unknownDisp f.dispId f.src) := by
  unfold State.tunnelIn
  rw [if_neg (by simp [hcrc]), if_neg (by simp [hmagic, hversion, htyp]), if_neg (by simp [hlen]), if_neg (by simp [hdir]), hdisp]
  exact if_pos rfl

/-! A frame that reaches the replay window (R342, R343, R350). -/

/-- A frame of an outlet with a good TAG from a good source is judged by its SEQ. -/
theorem tunnelIn_of_source {typ o : Nat} (h : FrameFor z f typ o) : z.tunnelIn f typ =
    if typ = 3 ∧ f.seq = 0 then
      if z.allFree o = true then
        (some o, (z.tagGood o f).2.modDisp o fun d => { d.resetWindow with addr := some (f.src, z.time.clock) })
      else (none, (z.tagGood o f).2.discard fun d => { d with replay := d.replay + 1 })
    else if (z.outletDisp o).fresh f.seq = true then
      (some o, (z.tagGood o f).2.modDisp o fun d => { d.accept f.seq with addr := some (f.src, z.time.clock) })
    else (none, (z.tagGood o f).2.discard fun d => { d with replay := d.replay + 1 }) := by
  obtain ⟨hcrc, hmagic, hversion, hframe, hlen, hdir, hdisp, -, -, houtlet, htag, hsource⟩ := h
  obtain ⟨hb, ht, -⟩ := tagGood_spec z o f
  have hs : (z.tagGood o f).2.sourceGood o f.src = true := by
    rw [← hsource]
    simp only [State.sourceGood, State.outletDisp_of_barker hb, ht]
  have hfree : (z.tagGood o f).2.allFree o = z.allFree o := by
    simp only [State.allFree, State.bctx_of_barker hb]
  have hout : ¬ (typ ≠ 3 && f.outlet ≠ o) = true := by
    rcases houtlet with h | h <;> simp [h]
  unfold State.tunnelIn
  rw [if_neg (by simp [hcrc]), if_neg (by simp [hmagic, hversion, hframe]), if_neg (by simp [hlen]), if_neg (by simp [hdir]), hdisp]
  dsimp only
  rw [if_neg hout, if_neg (by simp [htag]), if_neg (by simp [hs]), ht, hfree, State.outletDisp_of_barker hb]
  simp

end

/-! VLINK and HELLO. -/

theorem exec_vlink {s z : State} {t : Nat} {f : Tunnel} (hz : z = s.advance t) (hon : z.tunnelOn f.port = true) :
    exec (.vlink t f.src f.port f.toDatagram) s = .next (z.submit (.vlink f) (·.takeVlink f)) := by
  show execVlink t f.src f.port f.toDatagram s = _
  unfold execVlink
  rw [← hz]
  exact congrArg Host.Outcome.next (if_neg (by rw [hon]; exact Bool.false_ne_true))

theorem exec_hello {s z : State} {t : Nat} {f : Tunnel} (hz : z = s.advance t) (hon : z.tunnelOn f.port = true) :
    exec (.hello t f.toSender f.toDatagram) s = .next (z.submit (.hello f) (·.takeHello f)) := by
  show execHello t f.toSender f.toDatagram s = _
  unfold execHello
  rw [← hz]
  exact congrArg Host.Outcome.next (if_neg (by rw [show f.toSender.port = f.port from rfl, hon]; exact Bool.false_ne_true))

theorem takeVlink_discarded {z y : State} {f : Tunnel} (h : z.tunnelIn f 1 = (none, y)) : z.takeVlink f = y := by
  unfold State.takeVlink
  rw [h]

theorem takeVlink_accepted {z y : State} {f : Tunnel} {o : Nat} {x : Nat × Nat} (h : z.tunnelIn f 1 = (some o, y))
    (hpay : f.vlinkPay = some x) : z.takeVlink f = y.modDisp o fun d => { d with vlink := (x.2, d.vlink.2 + 1) } := by
  unfold State.takeVlink
  rw [h, hpay]

theorem takeHello_discarded {z y : State} {f : Tunnel} (h : z.tunnelIn f 3 = (none, y)) : z.takeHello f = y := by
  unfold State.takeHello
  rw [h]

theorem takeHello_accepted {z y : State} {f : Tunnel} {o : Nat} {x : HelloPay} (h : z.tunnelIn f 3 = (some o, y))
    (hpay : f.helloPay = some x) : z.takeHello f = (y.modDisp o fun d =>
      { d with hello := some x, admitted := true, helloSent := d.helloSent + 1 }).sendFrame 3 o
        (u32 (2 ^ 31 + o * 2 ^ 16) :: u64 y.startup.hdr.hubId) := by
  unfold State.takeHello
  rw [h, hpay]

/-- A DISP_ID that no record holds, and that has not been told, is told (R350). -/
theorem unknownDisp_spec {s : State} {d : Nat} (h : ∀ x ∈ s.barker.unknown, x.1 ≠ d) (addr : Nat) :
    (s.unknownDisp d addr).barker.disps = s.barker.disps ∧ (s.unknownDisp d addr).lastEv = some .dispUnknown := by
  have hfresh : (s.barker.unknown.any fun (x : Nat × Nat × Nat) => x.1 = d && s.tick < x.2.2 + 60 * ticksPerSec) = false :=
    List.any_eq_false.mpr fun x hx => by simp [h x hx]
  unfold State.unknownDisp
  dsimp only
  rw [if_neg (by rw [hfresh]; exact Bool.false_ne_true)]
  exact ⟨rfl, State.lastEv_raise ..⟩

/-- Settles O39: a frame is accepted or discarded by its checks, and only its outlet's dispenser changes. -/
theorem tunnelFrames : Obligations.TunnelFrames := by
  unfold Obligations.TunnelFrames
  refine ⟨?_, ?_, ?_, ?_, ?_, ?_, ?_⟩
  · intro f o k n
    refine .of_submit (·.takeVlink f) (fun s z t hz hon => exec_vlink hz hon) (fun _ _ _ => rfl) fun z ⟨hframe, hfresh, hpay⟩ => ?_
    have hin := State.tunnelIn_of_frame hframe (by decide) hfresh
    obtain ⟨hb, -, -⟩ := tagGood_spec z (o.val + 1) f
    have hdisp (p : Nat) : (z.tagGood (o.val + 1) f).2.outletDisp p = z.outletDisp p := State.outletDisp_of_barker hb p
    have hchg : Chg [.barker, .keys, .port] z (z.takeVlink f) := by
      rw [takeVlink_accepted hin hpay]
      exact (((State.tagGood_chg ..).widen rfl).step (State.modDisp_chg ..) rfl).step (State.modDisp_chg ..) rfl
    refine ⟨?_, fun p hp => ?_, ?_, ?_, .of_chg hchg (by decide)⟩ <;> rw [takeVlink_accepted hin hpay]
    · rw [State.outletDisp_modDisp_same, State.outletDisp_modDisp_same, hdisp]
      rfl
    · rw [State.outletDisp_modDisp_other _ hp, State.outletDisp_modDisp_other _ hp, hdisp]
    · exact (congrArg Barker.discards hb :)
    · exact (congrArg Barker.ctxs hb :)
  · intro f
    refine .of_submit (·.takeVlink f) (fun s z t hz hon => exec_vlink hz hon) (fun _ _ _ => rfl) fun z hcrc => ?_
    rw [takeVlink_discarded (tunnelIn_of_crc hcrc 1)]
    exact ⟨rfl, .of_chg (State.discard_chg ..) (by decide)⟩
  · intro f
    refine .of_submit (·.takeVlink f) (fun s z t hz hon => exec_vlink hz hon) (fun _ _ _ => rfl)
      fun z ⟨hcrc, hmagic, hversion, htyp, hlen⟩ => ?_
    rw [takeVlink_discarded (tunnelIn_of_length hcrc hmagic hversion htyp hlen)]
    exact ⟨rfl, .of_chg (State.discard_chg ..) (by decide)⟩
  · intro f o
    refine .of_submit (·.takeVlink f) (fun s z t hz hon => exec_vlink hz hon) (fun _ _ _ => rfl) fun z ⟨hframe, hold⟩ => ?_
    have hin := tunnelIn_of_source hframe
    rw [if_neg (fun h => absurd h.1 (by decide)), if_neg (by rw [hold]; exact Bool.false_ne_true)] at hin
    rw [takeVlink_discarded hin]
    obtain ⟨hb, -, -⟩ := tagGood_spec z (o.val + 1) f
    have hchg : Chg [.barker, .keys, .port] z ((z.tagGood (o.val + 1) f).2.discard fun d => { d with replay := d.replay + 1 }) :=
      ((State.tagGood_chg ..).widen rfl).step (State.discard_chg ..) rfl
    exact ⟨(congrArg (fun b : Barker => { b.discards with replay := b.discards.replay + 1 }) hb :), (congrArg Barker.disps hb :),
      .of_chg hchg (by decide)⟩
  · intro s z t f hz hoff
    refine ⟨z, ?_, rfl⟩
    show execVlink t f.src f.port f.toDatagram s = _
    unfold execVlink
    rw [← hz]
    exact congrArg Host.Outcome.next (if_pos (by rw [hoff]; rfl))
  · intro f o h
    refine .of_submit (·.takeHello f) (fun s z t hz hon => exec_hello hz hon) (fun _ _ _ => rfl)
      fun z ⟨hframe, hseq, hfree, hpay⟩ => ?_
    have hin := tunnelIn_of_source hframe
    rw [if_pos ⟨rfl, hseq⟩, if_pos hfree] at hin
    obtain ⟨hb, -, -⟩ := tagGood_spec z (o.val + 1) f
    have hdisp (p : Nat) : (z.tagGood (o.val + 1) f).2.outletDisp p = z.outletDisp p := State.outletDisp_of_barker hb p
    have hsent (y : State) (typ i : Nat) (w : List W32) (p : Nat) : (y.sendFrame typ i w).outletDisp p = y.outletDisp p := rfl
    have hchg : Chg [.barker, .keys, .port] z (z.takeHello f) := by
      rw [takeHello_accepted hin hpay]
      exact ((((State.tagGood_chg ..).widen rfl).step (State.modDisp_chg ..) rfl).step (State.modDisp_chg ..) rfl).step
        (State.sendFrame_chg ..) rfl
    refine ⟨?_, fun p hp => ?_, ?_, ?_, .of_chg hchg (by decide)⟩ <;> rw [takeHello_accepted hin hpay]
    · rw [hsent, State.outletDisp_modDisp_same, State.outletDisp_modDisp_same, hdisp]
      rfl
    · rw [hsent, State.outletDisp_modDisp_other _ hp, State.outletDisp_modDisp_other _ hp, hdisp]
    · rfl
    · exact (congrArg (fun b : Barker => (b.txSeq + 1) % 2 ^ 32) hb :)
  · intro f
    refine .of_submit (·.takeHello f) (fun s z t hz hon => exec_hello hz hon) (fun _ _ _ => rfl)
      fun z ⟨hcrc, hmagic, hversion, htyp, hlen, hdir, hdisp, hunknown⟩ => ?_
    rw [takeHello_discarded (tunnelIn_of_unknown hcrc hmagic hversion htyp hlen hdir hdisp)]
    obtain ⟨hdisps, hlast⟩ := unknownDisp_spec hunknown f.src
    exact ⟨hdisps, hlast, .of_chg (State.unknownDisp_chg ..) (by decide)⟩

end Sys2Proof.Machine
end

section
/-!
Proofs of the statement about dispenser outputs, time and certificates (chapter 9).
-/
namespace Sys2Proof.Machine
open Sys2Proof Sys2Proof.Config

/-! DIO_SEND (R346). -/

/-- A DIO is sent to an outlet's dispenser. -/
def State.sendDio (s : State) (o : Nat) (x : DioOut) : State :=
  (s.modDisp o fun d => { d with sent := some (x, s.time.clock), textSeq := x.textSeq }).sendFrame 2 o x.words

theorem State.sendDio_chg (s : State) (o : Nat) (x : DioOut) : Chg [.barker] s (s.sendDio o x) :=
  (State.modDisp_chg ..).trans (State.sendFrame_chg ..)

theorem exec_dioSend_first {s z : State} {t : Nat} {o : OutletNo} (hz : z = s.advance t) (hmode : z.startup.mode = .service)
    (hadmitted : (z.outletDisp (o.val + 1)).admitted = true) (hsent : (z.outletDisp (o.val + 1)).sent = none) :
    exec (.dioSend t o) s = .next (z.sendDio (o.val + 1)
      { z.dioOut (o.val + 1) with textSeq := ((z.outletDisp (o.val + 1)).textSeq + 1) % 65536 }) := by
  show execDioSend t o s = _
  unfold execDioSend
  rw [← hz]
  dsimp only
  rw [hsent]
  exact congrArg Host.Outcome.next (if_pos (by simp [hmode, hadmitted]))

theorem exec_dioSend_again {s z : State} {t : Nat} {o : OutletNo} {a : Nat} (hz : z = s.advance t)
    (hsent : (z.outletDisp (o.val + 1)).sent = some (z.dioOut (o.val + 1), a)) :
    exec (.dioSend t o) s = .next (if z.startup.mode = .service ∧ (z.outletDisp (o.val + 1)).admitted = true ∧
      a + 100 * ticksPerMs ≤ z.time.clock then z.sendDio (o.val + 1) (z.dioOut (o.val + 1)) else z) := by
  show execDioSend t o s = _
  unfold execDioSend
  rw [← hz]
  dsimp only
  rw [hsent]
  simp [State.sendDio, and_assoc]

/-! TIME_SEND (R351). -/

/-- What the dispensers are told of the time. -/
def State.timed (s : State) : State :=
  { s with barker := { s.barker with timeSent := some (s.wallRaw, s.wall.valid, s.wall.half % 2000000000 / 2, s.stamp) } }

/-- The certificates have been checked on this day of wall time (R365). -/
def State.certsChecked (s : State) (now : Nat) : State := { s with barker := { s.barker with certDay := some (now / 86400) } }

/-! SDP_REQUEST (R332). -/

/-- The protocols of an outlet that runs one of them without TLS, by the bits of its record. -/
theorem plain_of_bits (r : List W32) (tls : Bool) :
    (fld r 0 21 19 % 2 = 1 || (fld r 0 21 19 / 2 % 2 = 1 && !tls)) = (bit r 0 19 || (bit r 0 20 && !tls)) := by
  have hlow : fld r 0 21 19 % 2 = fld r 0 19 19 := by
    unfold fld
    omega
  have hmid : fld r 0 21 19 / 2 % 2 = fld r 0 20 20 := by
    unfold fld
    simp only [Nat.shiftRight_eq_div_pow]
    omega
  rw [hlow, hmid]
  rfl

theorem drawRandom_kept (s : State) (c : CtxNo) (o : Nat) :
    (∀ d : CtxNo, ((s.drawRandom c).bctx d.val).st = (s.bctx d.val).st) ∧ (s.drawRandom c).outletDisp o = s.outletDisp o := by
  refine ⟨fun d => ?_, ?_⟩
  · by_cases hd : d = c
    · rw [hd, State.drawRandom_bctx_same]
    · rw [State.drawRandom_bctx_other s hd]
  · have hfree : s.nextFree.outletDisp o = s.outletDisp o := State.outletDisp_of_barker ((State.nextFree_chg s).barker rfl) o
    unfold State.drawRandom
    extract_lets v y
    have hy : y.outletDisp o = s.outletDisp o := (State.outletDisp_modCtx ..).trans hfree
    split
    · rfl
    · split
      · exact hy
      · exact hy
      · exact hy

/-- Settles O41: a change is sent at once and the state every 100 ms; what a dispenser asks is answered from its own record. -/
theorem dispenserOutputs : Obligations.DispenserOutputs := by
  unfold Obligations.DispenserOutputs
  refine ⟨?_, ?_, ?_, ?_, ?_, ?_, ?_⟩
  · intro s z t o hz hmode hadmitted hsent
    have hexec := exec_dioSend_first hz hmode hadmitted hsent
    have hput := State.outletDisp_modDisp_same z o fun d => { d with
      sent := some ({ z.dioOut (o.val + 1) with textSeq := ((z.outletDisp (o.val + 1)).textSeq + 1) % 65536 }, z.time.clock)
      textSeq := ((z.outletDisp (o.val + 1)).textSeq + 1) % 65536 }
    exact ⟨_, hexec, ⟨{ z.dioOut (o.val + 1) with textSeq := ((z.outletDisp (o.val + 1)).textSeq + 1) % 65536 },
      congrArg Disp.sent hput, rfl, rfl, rfl⟩, rfl, rfl, .of_chg (State.sendDio_chg ..) (by decide)⟩
  · intro s z t o a hz hmode hadmitted hsent hdue
    have hexec := exec_dioSend_again (t := t) hz hsent
    rw [if_pos ⟨hmode, hadmitted, hdue⟩] at hexec
    refine ⟨_, hexec, ?_, fun p hp => ?_, .of_chg (State.sendDio_chg ..) (by decide)⟩
    · exact State.outletDisp_modDisp_same z o _
    · exact State.outletDisp_modDisp_other z hp _
  · intro s z t o a hz hsent hearly
    have hexec := exec_dioSend_again (t := t) hz hsent
    rw [if_neg fun h => absurd h.2.2 (not_le.mpr hearly)] at hexec
    exact ⟨z, hexec, rfl⟩
  · intro s z t hz hmode
    have hexec : exec (.timeSend t) s = .next (z.timed.sendFrame 4 0 z.timeWords) := by
      show execTimeSend t s = _
      unfold execTimeSend
      rw [← hz]
      exact congrArg Host.Outcome.next (if_pos hmode)
    exact ⟨_, hexec, rfl, .of_chg ((Chg.setBarker z _).trans (State.sendFrame_chg ..)) (by decide)⟩
  · intro s z t o tls r hz hmode hrec hsetup
    let y := z.modDisp (o.val + 1) fun d =>
      { d with sdp := some (tls || !(bit r 0 19 || (bit r 0 20 && !polTls (z.rec1 0x0803))), z.seccAddr (o.val + 1)) }
    have hrun : exec (.sdpRequest t o tls) s = .next
        (((List.finRange 128).find? fun c => (ctxsOf (o.val + 1)).contains c.val && (y.bctx c.val).st = .setup).elim y y.drawRandom) := by
      obtain ⟨c, hc, hst⟩ := hsetup
      have hany : ((ctxsOf (o.val + 1)).any fun c => (z.bctx c).st = .setup) = true := List.any_eq_true.mpr ⟨c, hc, decide_eq_true hst⟩
      show execSdpRequest t o tls s = _
      unfold execSdpRequest
      rw [← hz]
      dsimp only
      rw [hrec, Option.getD_some, plain_of_bits, if_pos (by simp [hmode, hany])]
      split
      next h => rw [h]; rfl
      next h => rw [h]; rfl
    have hput : y.outletDisp (o.val + 1) = { z.outletDisp (o.val + 1) with
        sdp := some (tls || !(bit r 0 19 || (bit r 0 20 && !polTls (z.rec1 0x0803))), z.seccAddr (o.val + 1)) } :=
      State.outletDisp_modDisp_same z o _
    have hchg := Chg.of_exec (execSdpRequest_chg t o tls s) hrun
    rw [← hz] at hchg
    refine ⟨_, hrun, ?_, ?_, .of_chg hchg (by decide)⟩ <;>
      cases (List.finRange 128).find? fun c => (ctxsOf (o.val + 1)).contains c.val && (y.bctx c.val).st = .setup
    case refine_1.none => exact hput
    case refine_1.some c => exact (drawRandom_kept y c (o.val + 1)).2.trans hput
    case refine_2.none => exact fun c => rfl
    case refine_2.some c => exact (drawRandom_kept y c (o.val + 1)).1
  · intro s z t now x k hz hwall hmode hday hcert htype hexpiry
    have hexec : exec (.certExpiring t [x]) s = .next ((z.certsChecked now).raise .certExpiring [x.entry, x.expiry]) := by
      show execCertExpiring t [x] s = _
      unfold execCertExpiring
      rw [← hz]
      dsimp only
      rw [hwall]
      refine congrArg Host.Outcome.next ((if_neg (by simp [hmode, hday])).trans ?_)
      rw [List.foldl_cons, List.foldl_nil]
      have hcert' : (z.certsChecked now).certs[x.entry]? = some k := hcert
      rw [show ({ z with barker := { z.barker with certDay := some (now / 86400) } } : State) = z.certsChecked now from rfl, hcert']
      have htype' : fld ((z.certsChecked now).rec1 0x0802) k 31 28 ≤ 1 := htype
      exact if_pos (by rw [decide_eq_true htype', decide_eq_true hexpiry]; rfl)
    exact ⟨_, hexec, rfl, State.lastEv_raise .., .of_chg (((Chg.setBarker z _).widen (M := [.barker, .port]) rfl).step (State.raise_chg ..) rfl)
      (by decide)⟩
  · intro s z t now xs hz hwall hday
    refine ⟨z, ?_, rfl⟩
    show execCertExpiring t xs s = _
    unfold execCertExpiring
    rw [← hz]
    dsimp only
    rw [hwall]
    exact congrArg Host.Outcome.next (if_pos (by simp [hday]))

end Sys2Proof.Machine
end

section
/-!
Proofs of the statement about the seal, metering faults and tamper inputs (chapters 10 and 11).
-/
namespace Sys2Proof.Machine
open Sys2Proof Sys2Proof.Config

/-! Tamper counters (R444). -/

theorem countTamper_count (s : State) {typ i : Nat} (ht : typ - 1 = i) (hi : i < 16) :
    (vget (s.countTamper typ).tamper.recs i {}).count = min ((vget s.tamper.recs i {}).count + 1) 0xFFFFFFFF := by
  subst ht
  have hput (r : TamperRec) : vget (vput s.tamper.recs (typ - 1) r) (typ - 1) {} = r :=
    (vget_vput s.tamper.recs _ _ r {} hi).trans (if_pos rfl)
  exact congrArg TamperRec.count (hput _)

theorem WaitsKept.setLife (s : State) (l : Life) : WaitsKept s (s.setLife l) := by
  unfold State.setLife
  exact .ite (.refl s) (.trans (.of_chg (Chg.setIdent s _) rfl) (.raise ..))

/-! The seal (R384, R385). -/

/-- The metering period ends first, where the Scribe is open. -/
def State.ended (s : State) : State := if s.scribe.open_ then s.endPeriod else s

theorem State.ended_chg (s : State) : Chg [.scribe, .port] s s.ended := .ite (State.endPeriod_chg s) (.refl ..)

theorem WaitsKept.ended (s : State) : WaitsKept s s.ended := .ite (.endPeriod s) (.refl s)

/-- The metrology is sealed with its hash. -/
def State.sealed (s : State) (x : Caller) (h : Nat) : State :=
  (((s.modScribe fun y => { y with seal_ := .sealed, sealHash := some h }).metLogAdd .sealSet (some x.role) h).raiseS .sealSet
    [roleBit x.role, h]).setLife .commissioned

theorem sealed_spec (s : State) (x : Caller) (h : Nat) : ((s.sealed x h).scribe.seal_ = .sealed ∧ (s.sealed x h).scribe.sealHash = some h) ∧
    (s.sealed x h).ident = { s.ident with life := .commissioned } ∧ WaitsKept s (s.sealed x h) := by
  have hscribe := (State.setLife_chg (((s.modScribe fun y => { y with seal_ := .sealed, sealHash := some h }).metLogAdd .sealSet
    (some x.role) h).raiseS .sealSet [roleBit x.role, h]) .commissioned).scribe rfl
  refine ⟨⟨congrArg Scribe.seal_ hscribe, congrArg Scribe.sealHash hscribe⟩, State.setLife_ident .., ?_⟩
  exact (((WaitsKept.of_chg (State.modScribe_chg ..) rfl).trans (.of_chg (State.metLogAdd_chg ..) rfl)).trans (.raiseS ..)).trans
    (.setLife ..)

theorem opSeal_of_permitted {s : State} (x : Caller) (horder : s.ident.orderN = false) (hreq : s.startup.hdr.sealReq = true)
    (hseal : s.scribe.seal_ ≠ .sealed) (hlife : s.ident.life = .commissioned ∨ s.ident.life = .service) :
    s.opSeal x = (s.ended.sealed x (s.metroHash (hdrPartHash s.activeManifest 6))).reply x 0 := by
  unfold State.opSeal
  rw [if_neg (by rcases hlife with h | h <;> simp [horder, hreq, hseal, h])]
  rfl

theorem opSeal_of_refused {s : State} (x : Caller)
    (h : s.ident.orderN = true ∨ s.startup.hdr.sealReq = false ∨ s.scribe.seal_ = .sealed) : s.opSeal x = s.reply x 4 :=
  if_pos (by rcases h with h | h | h <;> simp [h])

/-- The seal is broken, and every open session is flagged. -/
def State.sealBroken (s : State) (x : Caller) : State :=
  ((((s.modScribe fun y => { y with seal_ := .broken }).metLogAdd .sealBroken (some x.role) (s.scribe.sealHash.getD 0)).raiseS .sealBroken
    [roleBit x.role]).modSessions (fun _ => true) fun y => { y with flags := addFlag y.flags .nonLegal })

theorem mem_addFlag (l : List MFlag) (f : MFlag) : f ∈ addFlag l f := by
  unfold addFlag
  split
  next h => exact List.contains_iff_mem.mp h
  next => exact List.mem_append_right _ (List.mem_singleton.mpr rfl)

theorem sealBroken_spec (s : State) (x : Caller) : (s.sealBroken x).scribe.seal_ = .broken ∧
    (∀ y ∈ (s.sealBroken x).scribe.core.sessions, MFlag.nonLegal ∈ y.flags) ∧ Chg [.scribe, .port] s (s.sealBroken x) ∧
    WaitsKept s (s.sealBroken x) := by
  refine ⟨rfl, fun y hy => ?_, ?_, ?_⟩
  · obtain ⟨w, -, rfl⟩ := List.mem_map.mp hy
    exact mem_addFlag w.flags .nonLegal
  · exact ((((State.modScribe_chg ..).widen rfl).step (State.metLogAdd_chg ..) rfl).step (State.raiseS_chg ..) rfl).step
      (State.modSessions_chg ..) rfl
  · exact (((WaitsKept.of_chg (State.modScribe_chg ..) rfl).trans (.of_chg (State.metLogAdd_chg ..) rfl)).trans (.raiseS ..)).trans
      (.of_chg (State.modSessions_chg ..) rfl)

theorem opSealBreak_of_sealed {s : State} (x : Caller) (hseal : s.scribe.seal_ = .sealed) (hlife : s.ident.life = .commissioned) :
    s.opSealBreak x = (((s.ended.sealBroken x).countTamper 13).setLife .service).reply x 0 := by
  unfold State.opSealBreak
  rw [if_neg (by simp [hseal, hlife])]
  rfl

/-! Metering faults (R379). -/

/-- An outlet's input is marked faulty or recovered, and told. -/
def State.meterMarked (s : State) (n : Nat) (on : Bool) (cause : Int) : State :=
  (s.modScribe fun x => { x with faulty := vput x.faulty (n - 1) on }).raiseS .meterInputFault [n, cause]

theorem meterMarked_scribe (s : State) (o : OutletNo) (on : Bool) (cause : Int) :
    (s.meterMarked (o.val + 1) on cause).scribe = { s.scribe with faulty := s.scribe.faulty.set o on } := by
  have hput : vput s.scribe.faulty (o.val + 1 - 1) on = s.scribe.faulty.set o on := vput_fin ..
  unfold State.meterMarked
  rw [(State.raiseS_chg ..).scribe rfl, ← hput]
  rfl

theorem meterMarked_tamper (s : State) (n : Nat) (on : Bool) (cause : Int) : (s.meterMarked n on cause).tamper = s.tamper :=
  (((State.modScribe_chg s _).widen (M := [.scribe, .port]) rfl).step (State.raiseS_chg ..) rfl).tamper rfl

theorem flagOutlet_scribe (s : State) (n : Nat) (f : MFlag) :
    (s.flagOutlet n f).scribe.faulty = s.scribe.faulty ∧ (s.flagOutlet n f).scribe.core.regs = s.scribe.core.regs := ⟨rfl, rfl⟩

theorem meterFault_eq {s : State} {o : OutletNo} {on : Bool} (h : s.scribe.faulty[o] ≠ on) (cause : Int) :
    s.meterFault (o.val + 1) on cause = if on = true then
      ((s.meterMarked (o.val + 1) on cause).flagOutlet (o.val + 1) .inputFault).countTamper 7 else s.meterMarked (o.val + 1) on cause := by
  have hget : ¬ vget s.scribe.faulty (o.val + 1 - 1) false = on := by
    rw [Nat.add_sub_cancel, vget_val]
    exact h
  exact if_neg hget

theorem meterFault_found {s : State} {o : OutletNo} (h : s.scribe.faulty[o] = false) (cause : Int) :
    (s.meterFault (o.val + 1) true cause).scribe.faulty = s.scribe.faulty.set o true ∧
      (vget (s.meterFault (o.val + 1) true cause).tamper.recs 6 {}).count = min ((vget s.tamper.recs 6 {}).count + 1) 0xFFFFFFFF ∧
      (s.meterFault (o.val + 1) true cause).scribe.core.regs = s.scribe.core.regs := by
  rw [meterFault_eq (by rw [h]; exact Bool.false_ne_true), if_pos rfl]
  obtain ⟨y, hy⟩ : ∃ y, y = s.meterMarked (o.val + 1) true cause := ⟨_, rfl⟩
  have hscribe := meterMarked_scribe s o true cause
  have htamper := meterMarked_tamper s (o.val + 1) true cause
  rw [← hy] at hscribe htamper ⊢
  obtain ⟨hfaulty, hregs⟩ := flagOutlet_scribe y (o.val + 1) .inputFault
  have hflag : (y.flagOutlet (o.val + 1) .inputFault).tamper = y.tamper := (State.flagOutlet_chg ..).tamper rfl
  rw [(State.countTamper_chg ..).scribe rfl, hfaulty, hregs, countTamper_count _ rfl (by decide), hflag, htamper, hscribe]
  exact ⟨rfl, rfl, rfl⟩

theorem meterFault_recovered {s : State} {o : OutletNo} (h : s.scribe.faulty[o] = true) (cause : Int) :
    (s.meterFault (o.val + 1) false cause).scribe = { s.scribe with faulty := s.scribe.faulty.set o false } ∧
      (s.meterFault (o.val + 1) false cause).tamper = s.tamper := by
  rw [meterFault_eq (by rw [h]; decide), if_neg Bool.false_ne_true]
  exact ⟨meterMarked_scribe s o false cause, meterMarked_tamper s (o.val + 1) false cause⟩

/-- Settles O46: sealing keeps the hash, breaking the seal makes open sessions NON_LEGAL, and faults and tampers are counted. -/
theorem sealAndTamper : Obligations.SealAndTamper := by
  unfold Obligations.SealAndTamper
  refine ⟨?_, ?_, ?_, ?_, ?_, ?_, ?_, ?_, ?_⟩
  · intro c
    refine .of_change (fun x s => s.opSeal x) (fun s t => rfl) (fun x arrival z => rfl) fun z v x ⟨horder, hreq, hseal, hlife⟩ => ?_
    have hchg := ((z.withConns_chg v).widen (M := [.scribe, .ident, .port]) rfl).step (State.opSeal_chg (z.withConns v) x) rfl
    rw [opSeal_of_permitted (s := z.withConns v) x horder hreq hseal hlife] at hchg ⊢
    let y := (z.withConns v).ended
    let h := (z.withConns v).metroHash (hdrPartHash (z.withConns v).activeManifest 6)
    obtain ⟨⟨hset, hhash⟩, hident, hkept⟩ := sealed_spec y x h
    have hreply := State.reply_chg (y.sealed x h) x 0 []
    have hended : y.ident = z.ident := (State.ended_chg (z.withConns v)).ident rfl
    refine ⟨⟨?_, ?_, ?_, .of_chg hchg (by decide)⟩,
      fun hx hw => State.res_reply hx ((((WaitsKept.ended _).trans hkept).waits c).trans hw) 0 []⟩
    · exact (congrArg Scribe.seal_ (hreply.scribe rfl)).trans hset
    · exact (congrArg Scribe.sealHash (hreply.scribe rfl)).trans hhash
    · rw [hreply.ident rfl, hident, hended]
  · intro c
    refine .of_change (fun x s => s.opSeal x) (fun s t => rfl) (fun x arrival z => rfl) fun z v x hcase => ?_
    rw [opSeal_of_refused (s := z.withConns v) x hcase]
    exact ⟨.of_chg ((z.withConns_chg v).trans (State.reply_chg ..)) (by decide), fun hx hw => State.res_reply hx hw 4 []⟩
  · intro c
    refine .of_change (fun x s => s.opSealBreak x) (fun s t => rfl) (fun x arrival z => rfl) fun z v x ⟨hseal, hlife⟩ => ?_
    have hchg := ((z.withConns_chg v).widen (M := [.scribe, .ident, .port, .tamper]) rfl).step (State.opSealBreak_chg (z.withConns v) x) rfl
    rw [opSealBreak_of_sealed (s := z.withConns v) x hseal hlife] at hchg ⊢
    let y := (z.withConns v).ended
    obtain ⟨hbroken, hlegal, hbreak, hkept⟩ := sealBroken_spec y x
    have hbefore : Chg [.scribe, .port] z (y.sealBroken x) :=
      (((z.withConns_chg v).widen rfl).step (State.ended_chg _) rfl).step hbreak rfl
    have hafter : Chg [.port, .tamper, .ident] (y.sealBroken x) ((((y.sealBroken x).countTamper 13).setLife .service).reply x 0) :=
      (((State.countTamper_chg ..).widen rfl).step (State.setLife_chg ..) rfl).step (State.reply_chg ..) rfl
    have hreply := State.reply_chg (((y.sealBroken x).countTamper 13).setLife .service) x 0 []
    have hwaits : WaitsKept (z.withConns v) (((y.sealBroken x).countTamper 13).setLife .service) :=
      (((WaitsKept.ended _).trans hkept).trans (.countTamper ..)).trans (.setLife ..)
    refine ⟨⟨?_, ?_, fun w hw => ?_, ?_, .of_chg hchg (by decide)⟩, fun hx hw => State.res_reply hx ((hwaits.waits c).trans hw) 0 []⟩
    · rw [hafter.scribe rfl, hbroken]
    · rw [hreply.ident rfl, State.setLife_ident, (State.countTamper_chg ..).ident rfl, hbefore.ident rfl]
    · rw [hafter.scribe rfl] at hw
      exact hlegal w hw
    · rw [hreply.tamper rfl, (State.setLife_chg ..).tamper rfl, countTamper_count _ rfl (by decide), hbefore.tamper rfl]
  · intro c
    refine .of_change (fun x s => s.opSealBreak x) (fun s t => rfl) (fun x arrival z => rfl) fun z v x hseal => ?_
    have hop : (z.withConns v).opSealBreak x = (z.withConns v).reply x 4 :=
      if_pos (by rw [Bool.or_eq_true]; exact .inl (decide_eq_true hseal))
    rw [hop]
    exact ⟨.of_chg ((z.withConns_chg v).trans (State.reply_chg ..)) (by decide), fun hx hw => State.res_reply hx hw 4 []⟩
  · intro s z t o w x hz hopen hrec hsound hobs
    obtain ⟨cause, hexec⟩ : ∃ cause, exec (.meterInputFault t o x) s = .next (z.meterFault (o.val + 1) true cause) := by
      show ∃ cause, execMeterInputFault t o x s = _
      unfold execMeterInputFault
      rw [← hz]
      dsimp only
      rw [if_neg (by simp [hopen, hrec]), hrec]
      obtain ⟨n, rfl, hn⟩ | ⟨n, rfl, hn⟩ | ⟨n, rfl, hn⟩ | ⟨n, rfl, hn⟩ := hobs
      · exact ⟨_, congrArg Host.Outcome.next (if_pos hn)⟩
      · exact ⟨_, congrArg Host.Outcome.next (if_pos hn)⟩
      · exact ⟨_, congrArg Host.Outcome.next (if_pos hn)⟩
      · exact ⟨_, congrArg Host.Outcome.next (if_pos hn)⟩
    obtain ⟨hfaulty, hcount, hregs⟩ := meterFault_found hsound cause
    exact ⟨_, hexec, hfaulty, hcount, hregs, .of_chg (State.meterFault_chg ..) (by decide)⟩
  · intro s z t o w hz hopen hrec hfault
    have hexec : exec (.meterInputFault t o .recovered) s = .next (z.meterFault (o.val + 1) false 4) := by
      show execMeterInputFault t o .recovered s = _
      unfold execMeterInputFault
      rw [← hz]
      exact congrArg Host.Outcome.next (if_neg (by simp [hopen, hrec]))
    obtain ⟨hscribe, htamper⟩ := meterFault_recovered hfault 4
    exact ⟨_, hexec, congrArg Scribe.faulty hscribe, htamper, (congrArg Scribe.core hscribe :), .of_chg (State.meterFault_chg ..) (by decide)⟩
  · intro i ms
    refine .of_submit (·.takeTamper i true) (fun s z t hz ⟨hms, hlow⟩ => ?_) (fun _ _ _ => rfl) fun z ⟨hlow, hopen⟩ => ?_
    · show execTamperInput t i ms true s = _
      unfold execTamperInput
      rw [← hz]
      exact congrArg Host.Outcome.next (if_neg (by rw [hlow]; simp [not_lt.mpr hms]))
    · let y : State := { z with tamper := { z.tamper with inputs := z.tamper.inputs.set i true } }
      have htake : z.takeTamper i true = y.countTamper (tamperType i.val) := by
        unfold State.takeTamper
        exact if_pos (by rw [hlow, hopen]; rfl)
      have hlt : tamperType i.val - 1 < 16 := by
        unfold tamperType
        split <;> decide
      have hchg := State.takeTamper_chg z i true
      rw [htake] at hchg ⊢
      exact ⟨rfl, countTamper_count y rfl hlt, State.lastEv_raise .., .of_chg hchg (by decide)⟩
  · intro i ms
    refine .of_submit (·.takeTamper i false) (fun s z t hz ⟨hms, hhigh⟩ => ?_) (fun _ _ _ => rfl) fun z _ => ?_
    · show execTamperInput t i ms false s = _
      unfold execTamperInput
      rw [← hz]
      exact congrArg Host.Outcome.next (if_neg (by rw [hhigh]; simp [not_lt.mpr hms]))
    · exact ⟨rfl, .of_chg (Chg.setTamper z { z.tamper with inputs := z.tamper.inputs.set i false }) (by decide)⟩
  · intro s z t i ms b hz hms
    refine ⟨z, ?_, rfl⟩
    show execTamperInput t i ms b s = _
    unfold execTamperInput
    rw [← hz]
    exact congrArg Host.Outcome.next (if_pos (by simp [hms]))

end Sys2Proof.Machine
end

section
/-!
Proofs of the statement about receipts and opening readings (chapters 10 and 11).
-/
namespace Sys2Proof.Machine
open Sys2Proof Sys2Proof.Config

/-! The receipts that wait for their signatures. -/

theorem buildingOf_modBuilding {s : State} {c : Nat} {r : Receipt} (h : s.buildingOf c = some r) {f : Receipt → Receipt}
    (hf : ∀ x, (f x).ctx = x.ctx) : (s.modBuilding c f).buildingOf c = some (f r) := by
  have hctx : r.ctx = c := by
    unfold State.buildingOf at h
    simpa using List.find?_some h
  have hmap (l : List Receipt) (hl : (l.find? fun r => r.ctx = c) = some r) :
      ((l.map fun r => if r.ctx = c then f r else r).find? fun r => r.ctx = c) = some (f r) := by
    induction l with
    | nil => exact nomatch hl
    | cons x l ih =>
      by_cases hx : x.ctx = c
      · rw [List.find?_cons_of_pos (by simpa using hx)] at hl
        obtain rfl := Option.some.inj hl
        rw [List.map_cons, if_pos hx, List.find?_cons_of_pos (by simpa [hf] using hx)]
      · rw [List.find?_cons_of_neg (by simpa using hx)] at hl
        rw [List.map_cons, if_neg hx, List.find?_cons_of_neg (by simpa using hx)]
        exact ih hl
  exact hmap _ h

/-- What a plug-in or a freed context leaves of the receipts. -/
structure ReceiptsKept (s u : State) : Prop where
  receipts : u.scribe.receipts = s.scribe.receipts
  building : u.scribe.building = s.scribe.building

theorem ReceiptsKept.refl (s : State) : ReceiptsKept s s := ⟨rfl, rfl⟩

theorem ReceiptsKept.trans {a b c : State} (h : ReceiptsKept a b) (k : ReceiptsKept b c) : ReceiptsKept a c :=
  ⟨k.receipts.trans h.receipts, k.building.trans h.building⟩

theorem ReceiptsKept.of_chg {L : List Part} {s u : State} (h : Chg L s u) (hL : L.contains .scribe = false) : ReceiptsKept s u :=
  ⟨by rw [h.scribe hL], by rw [h.scribe hL]⟩

theorem ReceiptsKept.ite {p : Prop} [Decidable p] {s a b : State} (h : ReceiptsKept s a) (k : ReceiptsKept s b) :
    ReceiptsKept s (if p then a else b) := by
  split
  · exact h
  · exact k

theorem ReceiptsKept.modCore (s : State) (f : ScribeCore → ScribeCore) : ReceiptsKept s (s.modCore f) := ⟨rfl, rfl⟩

theorem ReceiptsKept.plugCredit (s : State) (o c : Nat) : ReceiptsKept s (s.plugCredit o c) := by
  unfold State.plugCredit State.setCredit
  exact (ReceiptsKept.modCore s _).trans (.of_chg (State.modTok_chg ..) rfl)

theorem ReceiptsKept.plugIn (s : State) (o : Nat) : ReceiptsKept s (s.plugIn o) := by
  have hwait : ReceiptsKept s (if (s.outletDisp o).waiting then s else
      (s.modDisp o fun d => { d with waiting := true }).raise .plugWait [o]) :=
    .ite (.refl s) ((ReceiptsKept.of_chg (State.modDisp_chg ..) rfl).trans (.of_chg (State.raise_chg ..) rfl))
  unfold State.plugIn
  split
  · exact .refl s
  · split
    next c _ =>
      split
      · exact hwait
      · extract_lets x y w
        have hx : ReceiptsKept s x := (ReceiptsKept.of_chg (State.modDisp_chg ..) rfl).trans (.of_chg (State.modCtx_chg ..) rfl)
        have hy : ReceiptsKept x y := .ite (.plugCredit ..) (.of_chg (State.modTok_chg ..) rfl)
        have hw : ReceiptsKept y w := .of_chg (State.modJug_chg ..) rfl
        exact ((hx.trans hy).trans hw).trans
          ((ReceiptsKept.of_chg (State.notQuiet_chg w) rfl).trans (.of_chg (State.raise_chg ..) rfl))
    · exact hwait

theorem ReceiptsKept.rechoose (s : State) (c : Nat) : ReceiptsKept s (s.rechoose c) := by
  unfold State.rechoose
  extract_lets x n y
  have hy : ReceiptsKept s y := (ReceiptsKept.of_chg (State.modCtx_chg ..) rfl).trans (.of_chg (State.modCtx_chg ..) rfl)
  exact .ite (hy.trans (.modCore ..)) (.refl s)

theorem ReceiptsKept.freeCtx (s : State) (c n : Nat) : ReceiptsKept s (s.freeCtx c n) := by
  unfold State.freeCtx
  extract_lets y
  have hy : ReceiptsKept s y := ((ReceiptsKept.of_chg (State.modCtx_chg ..) rfl).trans (.of_chg (State.raise_chg ..) rfl)).trans
    (.rechoose ..)
  exact hy.trans (.ite (.plugIn ..) (.refl y))

/-- A context that no plug-in takes over is FREE (R355). -/
theorem freeCtx_free {s : State} {c : CtxNo} {n : Nat} (hwait : (s.outletDisp (ctxOutlet c.val)).waiting = false)
    (hplug : (s.bctx (c.val + 1)).plugAt ≠ s.time.clock) : (s.freeCtx c.val n).bctx c.val = {} := by
  let y := (s.modCtx c.val fun _ => {}).raise .sessionClosed [c.val, n]
  have hother : y.bctx (c.val + 1) = s.bctx (c.val + 1) := State.bctx_modCtx_other s (by omega) _
  have hre : y.rechoose c.val = y := by
    unfold State.rechoose
    rw [if_neg]
    intro h
    simp only [Bool.and_eq_true, decide_eq_true_eq] at h
    obtain ⟨⟨⟨-, -⟩, hat⟩, -⟩ := h
    exact hplug (by rw [← hother]; exact hat)
  have hfree : s.freeCtx c.val n = y := by
    unfold State.freeCtx
    rw [show (s.modCtx c.val fun _ => {}).raise .sessionClosed [(c.val : Int), (n : Int)] = y from rfl, hre]
    have hw : (y.outletDisp (ctxOutlet c.val)).waiting = false := hwait
    exact if_neg (by rw [hw]; exact Bool.false_ne_true)
  rw [hfree]
  exact State.bctx_modCtx_same s c.isLt _

/-! The signature of a receipt (R417). -/

/-- A receipt is signed with the metering key, stored, and no longer waits. -/
theorem signReceipt_spec {s : State} (c : Nat) (r : Receipt) (hsolo : s.solo = false) (hst : s.pair.st ≠ .standby)
    (hkey : (s.useKey 4 .sign .scribe).1 = true) :
    (s.signReceipt c r).scribe.receipts = ({ r with signature := some (signature 4 r.unsigned) } :: s.scribe.receipts).take 1024 ∧
      (s.signReceipt c r).buildingOf c = none := by
  unfold State.signReceipt
  rw [hsolo, if_neg Bool.false_ne_true, if_neg hst]
  dsimp only
  rw [if_neg (by rw [hkey]; decide), if_neg hst]
  have hused : (s.useKey 4 .sign .scribe).2.scribe = s.scribe := (State.useKey_chg ..).scribe rfl
  have hlast (y : State) (e : Ev) (val : List Int) (o : Nat) (x : Option (Nat × Nat × Nat)) :
      ((y.raiseS e val).issueChange o x).scribe = y.scribe :=
    ((State.issueChange_chg ..).scribe rfl).trans ((State.raiseS_chg ..).scribe rfl)
  refine ⟨?_, ?_⟩
  · rw [hlast]
    exact congrArg (fun y : Scribe => ({ r with signature := some (signature 4 r.unsigned) } :: y.receipts).take 1024) hused
  · unfold State.buildingOf
    rw [hlast]
    exact List.find?_eq_none.mpr fun x hx => by simpa using (List.mem_filter.mp hx).2

theorem waitsCounter_of {s : State} {r : Receipt} (hsolo : s.solo = false) (hcounter : r.counter = none) (hflag : MFlag.noCounter ∉ r.flags) :
    s.waitsCounter r = true := by
  simp [State.waitsCounter, hsolo, hcounter, hflag]

theorem Conn.put_receiptSel (k : Conn) (a : Answer) : (k.put a).receiptSel = k.receiptSel := by
  unfold Conn.put
  split <;> rfl

/-! Opening readings (R418, R419). -/

/-- An opening reading is kept, logged and told. -/
def State.opened (s : State) (r : OpeningRec) : State :=
  ((s.modScribe fun x => { x with opening := some r }).metLogAdd .openingReading none r.sealedHash).raiseS .openingReading
    [r.survivor, r.replacement]

theorem State.opened_chg (s : State) (r : OpeningRec) : Chg [.scribe, .port] s (s.opened r) :=
  (((State.modScribe_chg ..).widen rfl).step (State.metLogAdd_chg ..) rfl).step (State.raiseS_chg ..) rfl

/-- Settles O47: a receipt waits for its counter-signature or a second, is signed and stored, and its context is free. -/
theorem receiptsAndReadings : Obligations.ReceiptsAndReadings := by
  unfold Obligations.ReceiptsAndReadings
  refine ⟨?_, ?_, ?_, ?_, ?_, ?_, ?_, ?_⟩
  · intro s z t c r serial sig hz hr hst hcounter hflag
    have hexec : exec (.counterSignature t c serial sig) s = .next (z.modBuilding c.val fun r => { r with counter := some (serial, sig) }) := by
      show execCounterSignature t c serial sig s = _
      unfold execCounterSignature
      rw [← hz]
      dsimp only
      rw [hr]
      exact congrArg Host.Outcome.next (if_pos (by simp [hst, hcounter, hflag]))
    exact ⟨_, hexec, buildingOf_modBuilding hr fun _ => rfl, rfl, rfl, .of_chg (State.modScribe_chg ..) (by decide)⟩
  · intro c r
    refine .of_submit (·.goNoCounter c.val) (fun s z t hz ⟨hr, hsolo, hcounter, hflag, hlate⟩ => ?_) (fun _ _ _ => rfl)
      fun z ⟨hr, hsolo, hcounter, hflag⟩ => ?_
    · show execNoCounter t c s = _
      unfold execNoCounter
      rw [← hz]
      dsimp only
      rw [hr]
      refine congrArg Host.Outcome.next (if_pos ?_)
      rw [waitsCounter_of hsolo hcounter hflag, State.expired, decide_eq_true hlate]
      rfl
    · let y := z.modBuilding c.val fun r => { r with flags := addFlag r.flags .noCounter }
      have hgo : z.goNoCounter c.val = y.raiseS .noCounter [r.no] := by
        unfold State.goNoCounter
        rw [hr]
        exact if_pos (waitsCounter_of hsolo hcounter hflag)
      have hput : y.buildingOf c.val = some { r with flags := r.flags ++ [.noCounter] } := by
        have hput := buildingOf_modBuilding hr (f := fun r => { r with flags := addFlag r.flags .noCounter }) fun _ => rfl
        rwa [addFlag, if_neg (by simpa using hflag)] at hput
      have hscribe : (y.raiseS .noCounter [r.no]).scribe = y.scribe := (State.raiseS_chg ..).scribe rfl
      have hchg := State.goNoCounter_chg z c.val
      rw [hgo] at hchg ⊢
      refine ⟨?_, ?_, State.lastEv_raise .., .of_chg hchg (by decide)⟩
      · unfold State.buildingOf at hput ⊢
        rw [hscribe, hput]
      · rw [hscribe]
        rfl
  · intro s z t c r hz hr hsolo hst hsign hkey
    obtain ⟨hreceipts, hnone⟩ := signReceipt_spec c.val r hsolo hst hkey
    have hsigned := State.signReceipt_chg z c.val r
    have hexec : exec (.sessionReceipt t c) s = .next (if (z.bctx c.val).st = .closing then (z.signReceipt c.val r).freeCtx c.val r.no
        else z.signReceipt c.val r) := by
      show execSessionReceipt t c s = _
      unfold execSessionReceipt
      rw [← hz]
      dsimp only
      rw [hr]
      refine congrArg Host.Outcome.next ((if_neg (by rw [hsign]; decide)).trans ?_)
      rw [hnone, State.bctx_of_barker (hsigned.barker rfl)]
      simp
    have hchg := Chg.of_exec (execSessionReceipt_chg t c s) hexec
    rw [← hz] at hchg
    refine ⟨_, hexec, ?_, ?_, fun hclosing hwait hplug => ?_, .of_chg hchg (by decide)⟩
    · split
      · rw [(ReceiptsKept.freeCtx ..).receipts, hreceipts]
      · exact hreceipts
    · unfold State.buildingOf at hnone ⊢
      split
      · rw [(ReceiptsKept.freeCtx ..).building, hnone]
      · exact hnone
    · rw [if_pos hclosing]
      refine freeCtx_free (s := z.signReceipt c.val r) ?_ ?_
      · rw [State.outletDisp_of_barker (hsigned.barker rfl)]
        exact hwait
      · rw [State.bctx_of_barker (hsigned.barker rfl), hsigned.time rfl]
        exact hplug
  · intro s z t c r hz hr hsign
    refine ⟨z, ?_, rfl⟩
    show execSessionReceipt t c s = _
    unfold execSessionReceipt
    rw [← hz]
    dsimp only
    rw [hr]
    exact congrArg Host.Outcome.next (if_pos (by rw [hsign]; rfl))
  · intro s z t c n hz hallowed
    obtain ⟨k, hk, hguarded⟩ := State.guarded_of_allowed hallowed fun _ s =>
      (s.modConn c fun k => { k with receiptSel := some n }).answer c 0
    have hexec : exec (.receiptSelect t c n) s = .next ((z.modConn c fun k => { k with receiptSel := some n }).answer c 0) := by
      show execReceiptSelect t c n s = _
      rw [execReceiptSelect, ← hz, State.selectReceipt, hguarded]
    have hmod := z.conns_modConn c fun k => { k with receiptSel := some n }
    rw [hk] at hmod
    have hconn := State.conns_answer hmod 0 []
    refine ⟨_, hexec, ⟨_, hconn, ?_⟩, State.res_put hconn, .of_chg ((State.modConn_chg ..).trans (State.answer_chg ..)) (by decide)⟩
    rw [Conn.put_receiptSel]
  · intro s z t r hz hver hhub hsurv
    have hexec : exec (.openingReading t r) s = .next (z.opened r) := by
      show execOpeningReading t r s = _
      unfold execOpeningReading
      rw [← hz]
      exact congrArg Host.Outcome.next ((if_neg (by simp [hver, hhub])).trans (if_pos hsurv))
    have hchg := z.opened_chg r
    exact ⟨_, hexec, rfl, rfl, hchg.tokens rfl, State.lastEv_raise .., .of_chg hchg (by decide)⟩
  · intro s z t r hz hver hhub hsurv hrep hclosed htime
    have hexec : exec (.openingReading t r) s = .next ((z.adoptScribe r).opened r).scribeCommit := by
      show execOpeningReading t r s = _
      unfold execOpeningReading
      rw [← hz]
      exact congrArg Host.Outcome.next ((if_neg (by simp [hver, hhub])).trans ((if_neg hsurv).trans
        (if_neg (by simp [hrep, hclosed, not_lt.mpr htime]))))
    have hchg := Chg.of_exec (execOpeningReading_chg t r s) hexec
    rw [← hz] at hchg
    refine ⟨_, hexec, fun o => ?_, max_eq_right htime, rfl, rfl, rfl, rfl, .of_chg hchg (by decide)⟩
    exact vget_vmapIdx _ z.scribe.core.regs o.val {} o.isLt
  · intro s z t r hz hver
    refine ⟨z, ?_, rfl⟩
    show execOpeningReading t r s = _
    unfold execOpeningReading
    rw [← hz]
    exact congrArg Host.Outcome.next (if_pos (by simp [hver]))

end Sys2Proof.Machine
end

section
/-!
Proofs of the statement about yields and recommissioning (chapter 15).
-/
namespace Sys2Proof.Machine
open Sys2Proof Sys2Proof.Config

/-! The ring is given away (R598, R599). -/

/-- The pair of a module that has yielded the ring. -/
def Pair.yielded (p : Pair) : Pair := { p with st := .standby, plan := none, ringLost := false, yieldSeen := false, partnerResync := false }

theorem yieldRing_pair (s : State) (cause : Nat) : (s.yieldRing cause false).pair =
    { s.pair.yielded with driving := false, ringOut := false, decided := none, cold := false } :=
  State.quiet_pair ((s.raise .yield [cause]).modPair Pair.yielded)

theorem yieldRing_lastEv (s : State) (cause : Nat) : (s.yieldRing cause false).lastEv = some .yield := (yieldRing_quiet s cause).2

/-- A yield for a failed divergence test ends in RESYNC (R601). -/
theorem yieldRing_resync (s : State) (cause : Nat) :
    ∃ causes, (s.yieldRing cause true).pair = { s.pair.yielded.resynced s.time.clock with degraded := causes } :=
  State.enterResync_pair ((s.raise .yield [cause]).modPair Pair.yielded)

theorem exec_yield {s z : State} {t : Nat} {p : YieldPlan} (hz : z = s.advance t) (hplan : z.pair.plan = some p)
    (hst : z.pair.st = .holder) (hhalf : p.half ≤ z.carousel.half) :
    exec (.yield_ t) s = .next (if p.cause < 10 ∧ z.standbyFit = false then z.modPair fun x => { x with plan := none }
      else z.yieldRing p.cause (p.cause = 12)) := by
  show execYield t s = _
  unfold execYield
  rw [← hz]
  dsimp only
  rw [hplan]
  refine congrArg Host.Outcome.next ((if_neg (by simp [hst, not_lt.mpr hhalf])).trans ?_)
  simp only [Bool.and_eq_true, decide_eq_true_eq, Bool.not_eq_true']

/-! A yield is planned, and a new partner bound (R598, R612). -/

theorem opYield_of_fit {s : State} (x : Caller) (hst : s.pair.st = .holder) (hfit : s.standbyFit = true) (hplan : s.pair.plan = none) :
    s.opYield x = (s.planYield 10).reply x 0 := if_pos (by simp [hst, hfit, hplan])

theorem opYield_of_unfit {s : State} (x : Caller) (hfit : s.standbyFit = false) : s.opYield x = s.reply x 4 :=
  if_neg (by simp [hfit])

/-- The binding to a new partner. -/
def State.partnered (s : State) (p : PartnerInfo) : State :=
  { s with ident := { s.ident with partnerSerial := p.serial, partnerHash := some p.idHash } }

theorem State.partnered_chg (s : State) (p : PartnerInfo) : Chg [.ident] s (s.partnered p) := Chg.setIdent s _

/-- A new partner is bound, with the opening reading for it. -/
def State.bindsPartner (s : State) (p : PartnerInfo) : State :=
  (s.partnered p).modScribe fun x => { x with opening := some ((s.partnered p).openingNow p.serial) }

theorem State.bindsPartner_chg (s : State) (p : PartnerInfo) : Chg [.ident, .scribe] s (s.bindsPartner p) :=
  have hopening := State.modScribe_chg (s.partnered p) fun x => { x with opening := some ((s.partnered p).openingNow p.serial) }
  ((s.partnered_chg p).widen (M := [.ident, .scribe]) rfl).step hopening rfl

theorem opRecommission_of_fit {s : State} {p : PartnerInfo} (x : Caller) (hattest : p.attestOk = true) (horder : p.orderN = s.ident.orderN)
    (hhash : p.recordsHash = s.startup.hdr.recordsHash) :
    s.opRecommission x p = ((s.bindsPartner p).raise .recommissioned [p.serial, roleBit x.role]).reply x 0 :=
  if_neg (by simp [hattest, horder, hhash])

/-- Settles O57: the holder yields at its boundary, to a fit standby where it is degraded, and a client binds a new partner. -/
theorem yielding : Obligations.Yielding := by
  unfold Obligations.Yielding
  refine ⟨?_, ?_, ?_, ?_, ?_, ?_, ?_, ?_, ?_, ?_⟩
  · intro s z t p hz hplan hst hhalf hcause hnot
    have hexec := exec_yield hz hplan hst hhalf
    rw [if_neg (fun h => absurd h.1 (not_lt.mpr hcause)), decide_eq_false hnot] at hexec
    have hpair := yieldRing_pair z p.cause
    exact ⟨_, hexec, congrArg Pair.st hpair, congrArg Pair.driving hpair, congrArg Pair.ringOut hpair, congrArg Pair.plan hpair,
      yieldRing_lastEv z p.cause, .of_chg (State.yieldRing_chg ..) (by decide)⟩
  · intro s z t p hz hplan hst hhalf hcause
    have hexec := exec_yield hz hplan hst hhalf
    rw [if_neg (fun h => absurd h.1 (by omega)), decide_eq_true hcause] at hexec
    obtain ⟨causes, hpair⟩ := yieldRing_resync z p.cause
    exact ⟨_, hexec, congrArg Pair.st hpair, congrArg Pair.driving hpair, congrArg Pair.ringOut hpair, congrArg Pair.plan hpair,
      .of_chg (State.yieldRing_chg ..) (by decide)⟩
  · intro s z t p hz hplan hst hhalf hcause hfit
    have hexec := exec_yield hz hplan hst hhalf
    rw [if_pos ⟨hcause, hfit⟩] at hexec
    exact ⟨_, hexec, rfl, .of_chg (State.modPair_chg ..) (by decide)⟩
  · intro s z t hz hplan
    refine ⟨z, ?_, rfl⟩
    show execYield t s = _
    unfold execYield
    rw [← hz]
    dsimp only
    rw [hplan]
  · intro s z t hz hst hring hfit hbeat hservice
    let y := z.modPair fun p => { p with yieldSeen := true }
    have hexec : exec (.yieldMessage t) s = .next y.judgeRing := by
      show execYieldMessage t s = _
      unfold execYieldMessage
      rw [← hz]
      exact congrArg Host.Outcome.next (if_pos hst)
    have hchg := Chg.of_exec (execYieldMessage_chg t s) hexec
    rw [← hz] at hchg
    rw [State.judgeRing_standby (s := y) hring hst (.inr ⟨rfl, hfit⟩), State.takeover_eq, State.takeRing_of_beat (by exact hbeat)]
      at hexec hchg
    have hpair := (y.raise .takeover [if y.pair.beatLost then 0 else 1]).ringTaken_pair
    refine ⟨_, hexec, ?_, ?_, ?_, ?_, .of_chg hchg (by decide)⟩
    · exact congrArg Pair.st hpair
    · exact (congrArg Pair.ringOut hpair).trans (decide_eq_true hservice)
    · exact congrArg Pair.decided hpair
    · exact State.lastEv_of_events (congrArg Port.events (State.ringTaken_port _))
  · intro s z t hz hst hring
    let y := z.modPair fun p => { p with yieldSeen := true }
    have hexec : exec (.yieldMessage t) s = .next y := by
      show execYieldMessage t s = _
      unfold execYieldMessage
      rw [← hz]
      exact congrArg Host.Outcome.next ((if_pos hst).trans (State.judgeRing_of_ring (s := y) hring))
    exact ⟨_, hexec, rfl, .of_chg (State.modPair_chg ..) (by decide)⟩
  · intro c role addr
    refine .of_apply fun z tick stamp ⟨hst, hfit, hplan, hwaits⟩ => ?_
    have happly : z.applyInput tick stamp (.op true c role addr .yield_) = z.opYield (callerOf true c role addr) := rfl
    have hreply := State.reply_chg (z.planYield 10) (callerOf true c role addr) 0 []
    rw [happly, opYield_of_fit _ hst hfit hplan]
    refine ⟨?_, ?_, State.res_reply (s := z.planYield 10) rfl hwaits 0 [],
      .of_chg (((State.planYield_chg z 10).widen (M := [.pair, .port]) rfl).step hreply rfl) (by decide)⟩
    · exact congrArg Pair.plan (hreply.pair rfl)
    · exact (congrArg Pair.st (hreply.pair rfl)).trans hst
  · intro c
    refine .of_change (fun x s => s.opYield x) (fun s t => rfl) (fun x arrival z => rfl) fun z v x hfit => ?_
    rw [opYield_of_unfit (s := z.withConns v) x hfit]
    have hchg : Chg [.port] z ((z.withConns v).reply x 4) := (z.withConns_chg v).trans (State.reply_chg ..)
    exact ⟨⟨hchg.pair rfl, .of_chg hchg (by decide)⟩, fun hx hw => State.res_reply hx hw 4 []⟩
  · intro c p
    refine .of_change (fun x s => s.opRecommission x p) (fun s t => rfl) (fun x arrival z => rfl) fun z v x ⟨hattest, horder, hhash⟩ => ?_
    rw [opRecommission_of_fit (s := z.withConns v) x hattest horder hhash]
    have hbound := (z.withConns v).bindsPartner_chg p
    have hreply : Chg [.port] ((z.withConns v).bindsPartner p)
        ((((z.withConns v).bindsPartner p).raise .recommissioned [p.serial, roleBit x.role]).reply x 0) :=
      (State.raise_chg ..).trans (State.reply_chg ..)
    have hkept : WaitsKept (z.withConns v) (((z.withConns v).bindsPartner p).raise .recommissioned [p.serial, roleBit x.role]) :=
      (WaitsKept.of_chg hbound rfl).trans (.raise ..)
    refine ⟨⟨?_, ?_, ⟨_, congrArg Scribe.opening (hreply.scribe rfl), rfl, rfl⟩, ?_,
      .of_chg (((((z.withConns_chg v).widen (M := [.scribe, .ident, .port]) rfl).step hbound rfl).step hreply rfl)) (by decide)⟩,
      fun hx hw => State.res_reply hx ((hkept.waits c).trans hw) 0 []⟩
    · exact hreply.ident rfl
    · exact (congrArg Scribe.core (hreply.scribe rfl)).trans rfl
    · exact (State.lastEv_reply ..).trans (State.lastEv_raise ..)
  · intro c p
    refine .of_change (fun x s => s.opRecommission x p) (fun s t => rfl) (fun x arrival z => rfl) fun z v x hattest => ?_
    have hop : (z.withConns v).opRecommission x p = (z.withConns v).reply x 4 := if_pos (by simp [hattest])
    have hchg : Chg [.port] z ((z.withConns v).reply x 4) := (z.withConns_chg v).trans (State.reply_chg ..)
    rw [hop]
    exact ⟨⟨hchg.ident rfl, .of_chg hchg (by decide)⟩, fun hx hw => State.res_reply hx hw 4 []⟩

end Sys2Proof.Machine
end

section
/-!
Proofs of the statement about digests, the divergence test and the module's health (chapter 15).
-/
namespace Sys2Proof.Machine
open Sys2Proof Sys2Proof.Config

/-! What a change of the module's health leaves of its pair (R607). -/

/-- The module's state and its divergence test stand, and no cause noted against it goes. -/
structure HealthKept (s u : State) : Prop where
  st : u.pair.st = s.pair.st
  diverge : u.pair.diverge = s.pair.diverge
  causes : ∀ c ∈ s.pair.degraded, c ∈ u.pair.degraded

theorem HealthKept.trans {s y u : State} (h : HealthKept s y) (k : HealthKept y u) : HealthKept s u :=
  ⟨k.st.trans h.st, k.diverge.trans h.diverge, fun c hc => k.causes c (h.causes c hc)⟩

theorem HealthKept.of_pair {s u : State} (h : u.pair = s.pair) : HealthKept s u :=
  ⟨congrArg Pair.st h, congrArg Pair.diverge h, fun c hc => by rwa [h]⟩

theorem HealthKept.degrade (s : State) (cause : Nat) : HealthKept s (s.degrade cause) := by
  unfold State.degrade
  split
  · exact .of_pair rfl
  · dsimp only
    split <;> exact ⟨rfl, rfl, fun c hc => List.mem_append_left _ hc⟩

theorem State.enterResync_cause {s : State} {c : Nat} (h : c ∈ s.pair.degraded) : c ∈ s.enterResync.pair.degraded := by
  unfold State.enterResync
  extract_lets now y
  have hy : c ∈ y.pair.degraded := by
    rw [show y.pair = s.pair.resynced s.time.clock from State.quiet_pair _]
    exact h
  split
  · exact (HealthKept.degrade y 8).causes c hy
  · exact hy

/-! Nibs fenced (R131). -/

theorem State.copyLost_nibs (s : State) (k : Task) (nib : Nat) : (s.copyLost k nib).array.nibs = s.array.nibs := by
  unfold State.copyLost
  split
  · rfl
  · unfold State.releaseThird
    split <;> rfl

/-- The nib has been fenced; no other nib changes, nor more than the health of the pair. -/
structure Fences (n : NibNo) (s u : State) : Prop where
  fenced : (u.array.nibs[n]).fenced = true
  others : ∀ m : NibNo, m ≠ n → u.array.nibs[m] = s.array.nibs[m]
  health : HealthKept s u

theorem Fences.trans {n : NibNo} {s y u : State} (h : Fences n s y) (hnibs : u.array.nibs = y.array.nibs) (hhealth : HealthKept y u) :
    Fences n s u :=
  ⟨by rw [hnibs]; exact h.fenced, fun m hm => by rw [hnibs]; exact h.others m hm, h.health.trans hhealth⟩

/-- A nib that is fenced is, whatever it was doing. -/
theorem State.fence_spec (s : State) (n : NibNo) (cause : Int) : Fences n s (s.fence n cause) := by
  obtain ⟨-, -, -, -, -, -, hother⟩ := s.stopRun_array n .free
  unfold State.fence
  extract_lets act x count y
  have hx : Fences n s x :=
    ⟨congrArg Nib.fenced (vmod_same _ n _), fun m hm => (vmod_other _ hm _).trans (hother m hm),
      .of_pair ((State.stopRun_chg s n .free).pair rfl)⟩
  clear_value act x
  have hy : Fences n s y := by
    unfold y
    split
    · exact hx.trans rfl (.of_pair rfl)
    · split
      · exact (hx.trans (u := x.raise .arrayDegraded [count]) rfl (.of_pair rfl)).trans
          (congrArg Array_.nibs ((State.degrade_chg (x.raise .arrayDegraded [count]) 0).array rfl)) (.degrade _ 0)
      · exact hx
  clear_value y
  split
  · split
    · exact hy.trans (State.copyLost_nibs ..) (.of_pair ((State.copyLost_chg ..).pair rfl))
    · exact hy
  · exact hy

/-- A failed nib of the divergence test: fenced unless it is already. -/
def State.fenceFailed (s : State) (n : NibNo) : State := if (s.array.nibs[n]).fenced then s else s.fence n 0

theorem State.fenceFailed_health (s : State) (n : NibNo) : HealthKept s (s.fenceFailed n) := by
  unfold State.fenceFailed
  split
  · exact .of_pair rfl
  · exact (s.fence_spec n 0).health

theorem State.fenceFailed_same (s : State) (n : NibNo) : ((s.fenceFailed n).array.nibs[n]).fenced = true := by
  unfold State.fenceFailed
  split
  next h => exact h
  next => exact (s.fence_spec n 0).fenced

theorem State.fenceFailed_keeps {s : State} {m : NibNo} (h : (s.array.nibs[m]).fenced = true) (n : NibNo) :
    ((s.fenceFailed n).array.nibs[m]).fenced = true := by
  obtain rfl | hm := eq_or_ne m n
  · exact s.fenceFailed_same m
  · unfold State.fenceFailed
    split
    · exact h
    · rw [(s.fence_spec n 0).others m hm]
      exact h

/-- Every nib found bad by the divergence test is fenced; the pair keeps its state. -/
theorem State.testNibs_spec (s : State) (failed : List NibNo) :
    (∀ n ∈ failed, ((s.testNibs failed).array.nibs[n]).fenced = true) ∧ HealthKept s (s.testNibs failed) := by
  refine ⟨fun n hn => ?_, foldl_keeps (I := HealthKept s) (fun y n _ hy => hy.trans (y.fenceFailed_health n)) (.of_pair rfl)⟩
  exact foldl_reaches (f := State.fenceFailed) (I := fun _ => True) (J := fun y => (y.array.nibs[n]).fenced = true)
    (fun _ _ _ _ => trivial) (fun y m _ hy => State.fenceFailed_keeps hy m) (fun y _ => y.fenceFailed_same n) hn trivial

/-! The digests of the two modules (R600, R601). -/

/-- The partner's digest is noted at its boundary, with the result of the comparison. -/
def State.digestNoted (s : State) (boundary digest : Nat) (pass : Bool) : State :=
  (s.modPair fun p =>
    { p with digests := p.digests.map fun y => if y.1 = boundary then (y.1, y.2.1, some digest) else y }).selfTest 8 pass

theorem State.digestNoted_mem {s : State} {b d : Nat} (h : s.pair.digests.find? (fun x => x.1 = b && x.2.2.isNone) = some (b, d, none))
    (digest : Nat) (pass : Bool) : (b, d, some digest) ∈ (s.digestNoted b digest pass).pair.digests :=
  List.mem_map.mpr ⟨(b, d, none), List.mem_of_find?_eq_some h, if_pos rfl⟩

theorem State.digestNoted_chg (s : State) (boundary digest : Nat) (pass : Bool) : Chg [.pair] s (s.digestNoted boundary digest pass) :=
  (State.modPair_chg ..).trans (State.selfTest_chg ..)

/-! The divergence test's result (R601). -/

/-- A module with its divergence test ended and the result told. -/
def State.diverged (s : State) (failed : List NibNo) (own partner : Bool) : State :=
  ((s.testNibs failed).modPair fun p => { p with diverge := none }).raise .divergenceResult [ofBool own, ofBool partner]

theorem State.diverged_spec (s : State) (failed : List NibNo) (own partner : Bool) :
    (∀ n ∈ failed, ((s.diverged failed own partner).array.nibs[n]).fenced = true) ∧ (s.diverged failed own partner).pair.st = s.pair.st ∧
    (s.diverged failed own partner).pair.diverge = none :=
  ⟨(s.testNibs_spec failed).1, (s.testNibs_spec failed).2.st, rfl⟩

/-- What the module's own result makes of its health. -/
def State.judged (s : State) (failed : List NibNo) (own partner : Bool) : State :=
  if own then s.diverged failed own partner else (s.diverged failed own partner).degrade 3

theorem State.judged_spec (s : State) (failed : List NibNo) (own partner : Bool) :
    (∀ n ∈ failed, ((s.judged failed own partner).array.nibs[n]).fenced = true) ∧ (s.judged failed own partner).pair.st = s.pair.st ∧
    (s.judged failed own partner).pair.diverge = none ∧ (own = false → 3 ∈ (s.judged failed own partner).pair.degraded) := by
  obtain ⟨hfenced, hst, hdiverge⟩ := s.diverged_spec failed own partner
  unfold State.judged
  split
  next h => exact ⟨hfenced, hst, hdiverge, fun hown => absurd h (by simp [hown])⟩
  next =>
    have hkept := HealthKept.degrade (s.diverged failed own partner) 3
    have harray : ((s.diverged failed own partner).degrade 3).array = _ := (State.degrade_chg ..).array rfl
    exact ⟨fun n hn => (congrArg (fun a => (a.nibs[n]).fenced) harray).trans (hfenced n hn), hkept.st.trans hst, hkept.diverge.trans hdiverge,
      fun _ => State.degrade_mem _ 3⟩

theorem exec_divergenceResult {s z : State} {t : Nat} {failed : List NibNo} {ok partner : Bool} (hz : z = s.advance t)
    (hdiverge : z.pair.diverge ≠ none) :
    exec (.divergenceResult t { failed, digestOk := ok } partner) s = .next (
      have y := z.judged failed (failed.isEmpty && ok) partner
      match y.pair.st with
      | .holder => if !(failed.isEmpty && ok) && partner then y.planYield 12 else y
      | .standby => if (failed.isEmpty && ok) && !partner then y else y.enterResync
      | _ => y) := by
  show execDivergenceResult t _ partner s = _
  unfold execDivergenceResult
  rw [← hz]
  exact congrArg Host.Outcome.next (if_neg (by simp [hdiverge]))

/-! The state transfer (R603). -/

theorem exec_resyncDone {s z : State} {t mib : Nat} (x : Transfer) (hz : z = s.advance t) (hst : z.pair.st = .resync) :
    exec (.resyncDone t 0 mib x) s = .next (((z.adoptDomains x).modPair fun p => { p with st := .standby }).raise .resyncDone
      [((z.time.clock - z.pair.resyncAt) / ticksPerMs : Nat), mib]) := by
  show execResyncDone t 0 mib x s = _
  unfold execResyncDone
  rw [← hz]
  exact congrArg Host.Outcome.next (if_neg (by simp [hst]))

/-- Settles O58: digests, the divergence test and what its result asks of each module, the transfer, and the tests of the health. -/
theorem digestsAndHealth : Obligations.DigestsAndHealth := by
  unfold Obligations.DigestsAndHealth
  refine ⟨?_, ?_, ?_, ?_, ?_, ?_, ?_, ?_, ?_, ?_, ?_, ?_⟩
  · intro s z t b d hz hfind
    have hexec : exec (.partnerDigest t b d) s = .next (z.digestNoted b d (decide (d = d))) := by
      show execPartnerDigest t b d s = _
      unfold execPartnerDigest
      rw [← hz]
      dsimp only
      rw [hfind]
      exact congrArg Host.Outcome.next (if_pos rfl)
    exact ⟨_, hexec, rfl, State.digestNoted_mem hfind d _, rfl, .of_chg (State.digestNoted_chg ..) (by decide)⟩
  · intro s z t b d e hz hfind hne hdiverge
    have hexec : exec (.partnerDigest t b e) s = .next (((z.digestNoted b e (decide (d = e))).modPair fun p =>
        { p with diverge := some { started := z.time.clock, inked := false, more := 0 } }).raise .digestMismatch
          [b, shortDigest d, shortDigest e]) := by
      show execPartnerDigest t b e s = _
      unfold execPartnerDigest
      rw [← hz]
      dsimp only
      rw [hfind]
      refine congrArg Host.Outcome.next ((if_neg hne).trans ?_)
      rw [State.selfTest, State.modPair_pair]
      dsimp only
      rw [hdiverge]
      rfl
    have hchg := Chg.of_exec (execPartnerDigest_chg t b e s) hexec
    rw [← hz] at hchg
    exact ⟨_, hexec, rfl, State.digestNoted_mem hfind e (decide (d = e)), rfl, .of_chg hchg (by decide)⟩
  · intro s z t failed ok hz hdiverge hst hbad
    have hown : (failed.isEmpty && ok) = false := by simpa [imp_iff_not_or] using hbad
    obtain ⟨hfenced, hstate, hended, hcause⟩ := z.judged_spec failed false true
    have hexec : exec (.divergenceResult t { failed, digestOk := ok } true) s = .next ((z.judged failed false true).planYield 12) := by
      rw [exec_divergenceResult hz hdiverge, hown]
      dsimp only
      rw [hstate, hst]
      rfl
    have hchg := Chg.of_exec (execDivergenceResult_chg t { failed, digestOk := ok } true s) hexec
    rw [← hz] at hchg
    refine ⟨_, hexec, hended, ?_, hcause rfl, hfenced, hstate.trans hst, .of_chg hchg (by decide)⟩
    exact congrArg (fun c : Carousel => some (YieldPlan.mk 12 (c.half + 1))) (hchg.carousel rfl)
  · intro s z t failed ok partner hz hdiverge hst
    obtain ⟨own, hown⟩ : ∃ own, own = (failed.isEmpty && ok) := ⟨_, rfl⟩
    obtain ⟨hfenced, hstate, hended, hcause⟩ := z.judged_spec failed own partner
    have hexec : exec (.divergenceResult t { failed, digestOk := ok } partner) s = .next (
        if (own && !partner) = true then z.judged failed own partner else (z.judged failed own partner).enterResync) := by
      rw [exec_divergenceResult hz hdiverge, ← hown]
      dsimp only
      rw [hstate, hst]
    have hchg := Chg.of_exec (execDivergenceResult_chg t { failed, digestOk := ok } partner s) hexec
    rw [← hz] at hchg
    have hbad (h : failed ≠ [] ∨ ok = false) : own = false := by simpa [hown, imp_iff_not_or] using h
    have hgood : failed = [] ∧ ok = true ∧ partner = false ↔ (own && !partner) = true := by simp [hown, and_assoc]
    simp only [hgood]
    split at hexec
    next hpass =>
      rw [if_pos hpass] at hchg
      exact ⟨_, hexec, hended, (hstate.trans hst).trans (if_pos hpass).symm, hfenced, fun h => hcause (hbad h), .of_chg hchg (by decide)⟩
    next hfail =>
      rw [if_neg hfail] at hchg
      obtain ⟨causes, hpair⟩ := (z.judged failed own partner).enterResync_pair
      have harray := (z.judged failed own partner).enterResync_chg.array rfl
      exact ⟨_, hexec, congrArg Pair.diverge hpair, (congrArg Pair.st hpair).trans (if_neg hfail).symm,
        fun n hn => (congrArg (fun a => (a.nibs[n]).fenced) harray).trans (hfenced n hn),
        fun h => State.enterResync_cause (hcause (hbad h)), .of_chg hchg (by decide)⟩
  · intro s z t failed ok partner hz hdiverge
    refine ⟨z, ?_, rfl⟩
    show execDivergenceResult t _ partner s = _
    unfold execDivergenceResult
    rw [← hz]
    exact congrArg Host.Outcome.next (if_pos (by simp [hdiverge]))
  · intro s z t mib x hz hst hopen
    have hexec := exec_resyncDone (mib := mib) x hz hst
    have hchg := Chg.of_exec (execResyncDone_chg t 0 mib x s) hexec
    rw [← hz] at hchg
    have hadopt : z.adoptDomains x = _ := if_pos hopen
    rw [hadopt] at hexec hchg
    exact ⟨_, hexec, rfl, rfl, rfl, rfl, rfl, rfl, rfl, rfl, rfl, rfl, rfl, rfl, rfl, rfl, rfl, rfl, .of_chg hchg (by decide)⟩
  · intro s z t n mib x hz hn
    refine ⟨z, ?_, rfl⟩
    show execResyncDone t n mib x s = _
    unfold execResyncDone
    rw [← hz]
    exact congrArg Host.Outcome.next (if_pos (by simp [hn]))
  · intro s z t l n mV near hz hst
    have hexec : exec (.agreeingDriveTest t l n mV near) s = .next (z.modPair fun p => { p with agree := some (l.val, n, z.time.clock) }) := by
      show execAgreeingDriveTest t l n mV near s = _
      unfold execAgreeingDriveTest
      rw [← hz]
      exact congrArg Host.Outcome.next (if_pos hst)
    exact ⟨_, hexec, rfl, .of_chg (State.modPair_chg ..) (by decide)⟩
  · intro s z t l n mV hz hst hservice
    have hexec : exec (.agreeingDriveTest t l n mV false) s = .next (
        if 850 < mV then z.selfTest 5 (decide (850 < mV)) else (z.selfTest 5 (decide (850 < mV))).degrade 4) := by
      show execAgreeingDriveTest t l n mV false s = _
      unfold execAgreeingDriveTest
      rw [← hz]
      exact congrArg Host.Outcome.next ((if_neg (by simp [hst])).trans (if_neg (by simp [hst, hservice])))
    have hchg := Chg.of_exec (execAgreeingDriveTest_chg t l n mV false s) hexec
    rw [← hz] at hchg
    refine ⟨_, hexec, fun h => ?_, fun h => ?_, ?_, .of_chg hchg (by decide)⟩
    · rw [if_pos h]; rfl
    · rw [if_neg (by omega)]
      exact State.degrade_mem _ 4
    · split
      · exact hst
      · exact (HealthKept.degrade ..).st.trans hst
  · intro s z t l n mV hz hst
    refine ⟨z, ?_, rfl⟩
    show execAgreeingDriveTest t l n mV true s = _
    unfold execAgreeingDriveTest
    rw [← hz]
    exact congrArg Host.Outcome.next ((if_neg hst).trans (if_pos (by simp)))
  · intro s z t n hz hst hservice
    have hexec : exec (.ringBurst t n) s = .next (
        if (decide (19 ≤ n) && decide (n ≤ 21)) = true then z.selfTest 6 (19 ≤ n && n ≤ 21) else (z.selfTest 6 (19 ≤ n && n ≤ 21)).degrade 5) := by
      show execRingBurst t n s = _
      unfold execRingBurst
      rw [← hz]
      exact congrArg Host.Outcome.next (if_neg (by simp [hst, hservice]))
    have hchg := Chg.of_exec (execRingBurst_chg t n s) hexec
    rw [← hz] at hchg
    refine ⟨_, hexec, fun hlo hhi => ?_, fun h => ?_, ?_, .of_chg hchg (by decide)⟩
    · rw [if_pos (by simp [hlo, hhi])]; rfl
    · rw [if_neg (by simp; omega)]
      exact State.degrade_mem _ 5
    · split
      · exact hst
      · exact (HealthKept.degrade ..).st.trans hst
  · intro s z t hz
    have hexec : exec (.healthReport t) s = execHealthReport t s := rfl
    unfold execHealthReport at hexec
    rw [← hz] at hexec
    exact ⟨_, hexec, _, rfl, .of_chg (State.modPair_chg ..) (by decide)⟩

end Sys2Proof.Machine
end
